-- ==== Sys2Proof/Word.lean ====
section
/-! DEFINITION. The word types and the place of a register field. -/

namespace Sys2Proof

/-- One byte. -/
abbrev Byte := BitVec 8

/-- One register of the management window: every register is 32 bits wide (00_scope, Register conventions). -/
abbrev Word := BitVec 32

namespace Machine

/-- The place of a register field: the register's offset in the window, and the field's msb and lsb. -/
structure Fld where
  /-- offset of the register in the window -/
  off : Nat
  /-- msb -/
  hi : Nat
  /-- lsb -/
  lo : Nat
  deriving DecidableEq, Repr

/-- Width of a field in bits. -/
def Fld.width (f : Fld) : Nat := f.hi - f.lo + 1

end Machine
end Sys2Proof
end

