-- ==== Sys2Proof/Codes.lean ====
section
/-! DEFINITION. The closed sets of names the spec uses: status codes (R9), roles, module states (R5), requesters (R27),
and the shapes of what arrives from outside: packets (R258, R259), transport packets (R378), frames (R235), plans (R215). -/

namespace Sys2Proof

/-- The status codes of R9. -/
inductive Status where
  | ok | fenced | unreachable | memberLost | arithCheck | memUncorrectable | align | access
  | timeout | aborted | hang | shape | length | licence | parityStale | state
  deriving DecidableEq, Repr

/-- The flags of R11. -/
structure Flags where
  /-- bit 0, TALLY_OVERFLOW -/
  tally : Bool := false
  /-- bit 1, SPECIAL -/
  special : Bool := false
  /-- bit 2, DEGRADED -/
  degraded : Bool := false
  /-- bit 3, DETOURED -/
  detoured : Bool := false
  deriving DecidableEq, Repr

/-- The answer of another module to a read that a firing makes in Resolve (R109, R126). -/
structure RemoteRead where
  /-- global address -/
  addr : Nat
  /-- status -/
  status : Status
  /-- flags of the access -/
  flags : Flags
  /-- module whose reply it is; none when no reply came -/
  module : Option Nat
  /-- value read -/
  value : Nat
  deriving DecidableEq, Repr

/-- The three roles (00_scope, Roles). -/
inductive Role where
  | operator | installer | maker
  deriving DecidableEq, Repr

/-- The module states of R5. -/
inductive ModState where
  | off | start | test | service | run | degraded | recovery | halted
  deriving DecidableEq, Repr

/-- The power phase from which R5's state is derived: OFF, START, TEST, or past start-up (log entry 10, DEDUCED). -/
inductive Phase where
  | off | start | test | up
  deriving DecidableEq, Repr

/-- The requesters of R27: the tray controller over I3C, a session, the firmware of control unit 0 (A) or 1 (B). -/
inductive Requester where
  | i3c
  | session (index : Nat)
  | firmware (unit : Nat)
  deriving DecidableEq, Repr

/-- Where a host command comes from: its session's index, the SEQ of the packet that carried it, and the host's TAG (R388). -/
structure Origin where
  /-- session index -/
  sess : Nat
  /-- SEQ of the packet: names the command inside the session -/
  seq : Nat
  /-- TAG, returned in the reply -/
  tag : Nat
  /-- the session's epoch -/
  epoch : Nat := 0
  deriving DecidableEq, Repr

/-- A fabric packet (R258, R259): the routing header field by field, bytes 16 to 31 (`cmd`), and bytes 32 to 63 of a short
packet or the data flits of a long one (`data`). -/
structure Packet where
  /-- DEST -/
  dest : Nat
  /-- SRC -/
  src : Nat
  /-- INTER -/
  inter : Nat := 0
  /-- CLASS: 0 REQ, 1 FWD, 2 RSP, 3 COL, 4 MGT -/
  cls : Nat
  /-- LEVEL: 0 N, 1 D1, 2 D2 -/
  level : Nat := 0
  /-- PHASE: false phase 1, true phase 2 -/
  phase2 : Bool := true
  /-- LONG -/
  long : Bool := false
  /-- DETOURED -/
  detoured : Bool := false
  /-- LENGTH: data flits -/
  length : Nat := 0
  /-- OPCODE (R260) -/
  opcode : Nat
  /-- GEN -/
  gen : Nat := 0
  /-- TAG: [12:0] slot, [13] die -/
  tag : Nat := 0
  /-- SEQ: use count of the slot -/
  seq : Nat := 0
  /-- PATH [0] DEGRADED -/
  degraded : Bool := false
  /-- HCRC as received; none: the correct one -/
  hcrc : Option Nat := none
  /-- bytes 16 to 31 -/
  cmd : List Byte := []
  /-- bytes 32 to 63 of a short packet, the data flits of a long one -/
  data : List Byte := []
  /-- the tail flit's CRC-32 as received; none: the correct one (R261) -/
  tailCrc : Option Nat := none
  deriving DecidableEq, Repr

/-- A datagram to the transport port as it reaches the module: its UDP payload is the header of R378, the body, and for a session
type the tag. -/
structure HostPkt where
  /-- host port it arrives by: 0 to 7, or 8 for the management port -/
  port : Nat
  /-- UDP source port -/
  srcPort : Nat := 0
  /-- UDP payload -/
  bytes : List Byte
  deriving DecidableEq, Repr

/-- A HELLO (R384): its datagram, and the fields of its body, to which the spec gives no places (log entry 28, DESIGN CHOICE); `sigOk`
says whether its SM2 signature verifies under the leaf key (log entry 6, DESIGN CHOICE). -/
structure Hello where
  /-- datagram -/
  pkt : HostPkt
  /-- bytes of its certificate chain -/
  chain : Nat := 0
  /-- 32-byte nonce as a number -/
  nonce : Nat
  /-- job ID; 0 for none -/
  job : Nat
  /-- role requested -/
  role : Role
  /-- RATE [Gb/s], 0 for none -/
  rate : Nat := 0
  /-- UDP port of the host -/
  udp : Nat := 0
  /-- source address of the datagram -/
  source : Nat
  /-- address given for network A -/
  addrA : Nat
  /-- address given for network B -/
  addrB : Nat
  /-- public key of the leaf certificate -/
  leaf : Nat
  /-- the signature verifies under `leaf` -/
  sigOk : Bool := true
  /-- the leaf certificate is signed by the maker root (R458) -/
  rootSigned : Bool := false
  deriving DecidableEq, Repr

/-- What one lane carries in a frame period (R231, R235), on the line side of FEC: the marker's 64 bits, none when it is not
found, and the lane frame's 64 slots and tail, no byte on a lane that is not active.  The counts are what the receiver met on the
way from the symbols (R233, R234). -/
structure LaneFrame where
  /-- lane number n -/
  lane : Nat
  /-- marker -/
  marker : Option Nat
  /-- corrected symbols -/
  corrected : Nat := 0
  /-- uncorrectable codewords -/
  uncorrectable : Nat := 0
  /-- stuffing violations -/
  stuff : Nat := 0
  /-- slots and tail -/
  bytes : List Byte := []
  deriving DecidableEq, Repr

/-- A port frame (R236): what the lanes of a port carry in one period. -/
structure Frame where
  /-- lanes -/
  lanes : List LaneFrame
  deriving DecidableEq, Repr

/-- A cabling plan (R215). -/
structure Plan where
  /-- RACK -/
  rack : Nat
  /-- SLOT -/
  slot : Nat
  /-- NONE mask -/
  none : Nat
  /-- ROOT -/
  root : Nat
  /-- BACKUP_ROOT -/
  backup : Nat
  deriving DecidableEq, Repr

/-- The host configuration record (R376). -/
structure HostCfg where
  /-- MAC addresses of ports 0 to 7 -/
  macs : List Nat
  /-- IPv6 addresses of networks A and B -/
  ipv6 : List Nat
  /-- IPv4 addresses of networks A and B, 0 when none -/
  ipv4 : List Nat
  /-- VLAN ID, 0 untagged -/
  vlan : Nat := 0
  /-- the transport's UDP port -/
  udp : Nat := 46280
  deriving DecidableEq, Repr

/-- A context's attributes at creation (R99) with its ring addresses and sizes (R101, R390). -/
structure CtxParams where
  /-- partition -/
  partition : Nat
  /-- weight -/
  weight : Nat
  /-- number of queues -/
  queues : Nat
  /-- first counter owned -/
  syncFirst : Nat
  /-- counters owned -/
  syncCount : Nat
  /-- first slot owned -/
  slotFirst : Nat
  /-- slots owned -/
  slotCount : Nat
  /-- job seed, 128 bits -/
  seed : Nat
  /-- (ring address, log2 of the ring size) of queues 0 to 3 -/
  rings : List (Nat × Nat)
  deriving DecidableEq, Repr

/-- Parameters of the slot commands (R390, R125). -/
structure SlotParams where
  /-- slot -/
  slot : Nat
  /-- context -/
  ctx : Nat
  /-- page tokens -/
  pageTokens : Nat := 16
  /-- pages -/
  pages : Nat := 0
  /-- tokens -/
  tokens : Nat := 0
  /-- table address -/
  table : Nat := 0
  deriving DecidableEq, Repr

/-- Parameters of GROUP_CREATE (R283, R390). -/
structure GroupParams where
  /-- group ID -/
  id : Nat
  /-- context -/
  ctx : Nat
  /-- BASE_RANK -/
  base : Nat
  /-- RANK_MASK -/
  mask : Nat
  /-- WEIGHT -/
  weight : Nat
  /-- SLOTS -/
  slots : Nat
  /-- HOME_DIE -/
  home : Nat
  /-- log2 of the queue size -/
  log2 : Nat
  /-- queue address -/
  addr : Nat
  deriving DecidableEq, Repr

/-- Parameters of FORM_RICK and JOIN (R318, R390). -/
structure RickParams where
  /-- context -/
  ctx : Nat
  /-- the three rick bits -/
  bits : List Nat
  /-- PROT_BASE -/
  protBase : Nat
  /-- PROT_COUNT -/
  protCount : Nat
  /-- LOG_BASE -/
  logBase : Nat
  /-- LOG_COUNT -/
  logCount : Nat
  deriving DecidableEq, Repr

/-- Who issues a memory request, for the access rule of R167 and the rights of R165. -/
inductive Agent where
  | firing (job : Nat)       -- a firing of a context of this job, local or remote
  | dma (job : Nat)          -- a bound DMA channel of this job
  | host (job : Nat)         -- a session bound to this job
  | hostAny (installer : Bool) -- a session reading the reset snapshot area
  | bank                     -- the bank and rebuild machinery
  | channel                  -- an unbound DMA channel
  | module                   -- the module itself (firmware)
  deriving DecidableEq, Repr

/-- What a memory request asks (R169, R175). -/
inductive MemOp where
  | read (size : Nat)
  | write (data : List Byte)
  | masked (data : List Byte) (mask : Nat)
  | record (data : List Byte)
  | atomic (op : Nat) (size : Nat) (operands : List Byte)
  deriving DecidableEq, Repr

/-- The outcome of one start step as the module's units report it (R427 to R435).  Fields a step does not use are ignored. -/
structure StepResult where
  /-- duration [ms] -/
  ms : Nat := 0
  /-- the step's own checks pass (PUF, record area, built-in tests, keys drawable) -/
  ok : Bool := true
  /-- step 3: the active bank passes -/
  activeOk : Bool := true
  /-- step 3: the staging bank passes -/
  stagingOk : Bool := false
  /-- step 4: stored licences (slot numbers) whose checks 1 to 3 pass -/
  licencesOk : List Nat := []
  /-- step 5: self-test outcomes of A and B: the number of the failing test, 0 when passed -/
  selfTestA : Nat := 0
  /-- as `selfTestA`, for B -/
  selfTestB : Nat := 0
  /-- step 5: cores whose microcode digest fails once, twice -/
  microcodeBad : List (Nat × Nat × Bool) := []
  /-- step 6: ash entries the start test finds, as 64-bit words less the POWER_CYCLE field -/
  found : List (Nat × Nat × Nat × Nat × Nat) := []
  /-- step 6: number of the failing built-in test, 0 for none -/
  builtin : Nat := 0
  /-- step 7: channels that fail full training -/
  badChannels : List Nat := []
  /-- step 7: channels that fell back to full training -/
  fullTrained : Nat := 0
  /-- step 2: the audit chain's first unlinked SEQ, if broken -/
  auditBreak : Option Nat := none
  /-- the drawn channel hash key (step 7 of a cold start) -/
  hashKey : Nat := 0
  /-- the drawn memory keys, one for each key slot (step 7 of a cold start) -/
  memKeys : List Nat := []
  /-- step 2: copies of records that fail: TYPE, copy, cause (R425, R443) -/
  badCopies : List (Nat × Nat × Nat) := []
  /-- step 2: record TYPEs with no valid copy (R424) -/
  lost : List Nat := []
  /-- a halt cause has held for 60 s (R430) -/
  haltHeld : Bool := false
  deriving DecidableEq, Repr

end Sys2Proof
end

