-- ==== Sys2Proof/Syntax.lean ====
section
/-! DEFINITION. The commands of the block: one constructor per row of spec/opcode_table.json, in the table's order.  The
table gives a row no operands; each constructor's are the data the rule it names says the command, packet, pin or report
carries (log entry 2, DESIGN CHOICE). -/

namespace Sys2Proof

/-- The commands of the block. -/
inductive Instr where
  /-- NOP (R390): Host command that does nothing and is replied to at once. -/
  | nop (o : Origin)
  /-- CONTEXT_CREATE (R100): Host command that creates a context with its queues, counter and slot ranges, or refuses it in the listed order. -/
  | contextCreate (o : Origin) (p : CtxParams)
  /-- CONTEXT_DESTROY (R100): Host command that aborts a context, handles its DMA channels and groups, and frees its entry. -/
  | contextDestroy (o : Origin) (ctx : Nat)
  /-- CONTEXT_ABORT (R103): Host command that ends the context's running firing with ABORTED, stops its queues and sets ERROR in its counters. -/
  | contextAbort (o : Origin) (ctx : Nat)
  /-- DOORBELL (R101): Host command that advances a firing queue's tail, or refuses a bad queue number or tail. -/
  | doorbell (o : Origin) (ctx queue tail : Nat)
  /-- QUEUE_RESTART (R102): Host command that restarts a stopped queue at a given entry. -/
  | queueRestart (o : Origin) (ctx queue entry : Nat)
  /-- SET_SPLIT (R96): Host command that selects a partition split in SERVICE and takes a partition reset of every kiln die. -/
  | setSplit (o : Origin) (split : Nat)
  /-- SYNC_SET (R124): Host command that sets a sync counter's value and optionally clears its ERROR bit. -/
  | syncSet (o : Origin) (counter : Nat) (clear : Bool) (value : Nat)
  /-- SYNC_WAIT (R390): Host command that waits until a counter reaches a target, its ERROR bit is set, or a timeout passes. -/
  | syncWait (o : Origin) (counter target timeoutUs : Nat)
  /-- SYNC_WAIT_TIMEOUT (R390): Expiry of a SYNC_WAIT's timeout, which replies TIMEOUT. -/
  | syncWaitTimeout (o : Origin)
  /-- SLOT_OPEN (R128): Host command that opens a sequence slot, held while a running firing has captured it. -/
  | slotOpen (o : Origin) (p : SlotParams)
  /-- SLOT_CLOSE (R128): Host command that closes a sequence slot, held while a running firing has captured it. -/
  | slotClose (o : Origin) (p : SlotParams)
  /-- SLOT_TRUNCATE (R128): Host command that truncates a sequence slot, held while a running firing has captured it. -/
  | slotTruncate (o : Origin) (p : SlotParams)
  /-- SLOT_REPOINT (R128): Host command that re-points a sequence slot's page table, held while a running firing has captured it. -/
  | slotRepoint (o : Origin) (p : SlotParams)
  /-- MEM_READ (R390): Host command that reads up to 8,192 bytes of memory and returns them in the reply. -/
  | memRead (o : Origin) (addr len : Nat)
  /-- MEM_WRITE (R390): Host command that writes memory and replies when every write is acknowledged. -/
  | memWrite (o : Origin) (addr len : Nat) (data : List Byte)
  /-- MEM_ATOMIC (R175): Host command that performs one atomic operation and returns the old value. -/
  | memAtomic (o : Origin) (addr op size : Nat) (operands : List Byte)
  /-- REGION_ASSIGN (R168): Host command that sets a FREE region to ZEROING and starts zeroing it under the context's key. -/
  | regionAssign (o : Origin) (region ctx : Nat)
  /-- ZEROING_DONE (R168): End of a region's zeroing, which sets it OWNED and replies to the assignment. -/
  | zeroingDone (region : Nat)
  /-- REGION_RELEASE (R168): Host command that sets an OWNED region FREE at once. -/
  | regionRelease (o : Origin) (region : Nat)
  /-- DMA_BIND (R190): Host command that binds a DMA channel to a context. -/
  | dmaBind (o : Origin) (ch ctx : Nat)
  /-- DMA_RELEASE (R190): Host command that unbinds a DMA channel. -/
  | dmaRelease (o : Origin) (ch : Nat)
  /-- DMA_START (R390): Host command that writes a channel image and starts it, replying when the transfer is DONE or HALTED. -/
  | dmaStart (o : Origin) (ch : Nat) (image : List Byte)
  /-- DMA_ABORT (R206): Host command that aborts a DMA channel and replies when it is HALTED. -/
  | dmaAbort (o : Origin) (ch : Nat)
  /-- GROUP_CREATE (R284): Host command that creates a collective group in CREATING, or refuses it in the listed order. -/
  | groupCreate (o : Origin) (p : GroupParams)
  /-- GROUP_DESTROY (R287): Host command that destroys a group, first ending a running collective. -/
  | groupDestroy (o : Origin) (gid : Nat)
  /-- GROUP_DOORBELL (R293): Host command that advances a group's collective queue tail. -/
  | groupDoorbell (o : Origin) (gid tail : Nat)
  /-- INSTALL_RANKS (R338): Host command that stores part of a rank table and installs it at generation 0 on the last part. -/
  | installRanks (o : Origin) (n first : Nat) (ids : List Nat)
  /-- STAGE_RANKS (R339): Host command that stores part of a staged rank table replacing generation G. -/
  | stageRanks (o : Origin) (n first : Nat) (ids : List Nat) (gen : Nat)
  /-- FORM_RICK (R320): Host command that forms a rick: parity regions, closed log run, state FORMING. -/
  | formRick (o : Origin) (p : RickParams)
  /-- DISSOLVE_RICK (R322): Host command that dissolves the rick and returns its parity regions to FREE. -/
  | dissolveRick (o : Origin)
  /-- JOIN (R342): Host command on a spare that takes the lost member's place and enters REBUILDING. -/
  | join (o : Origin) (p : RickParams)
  /-- REBUILD (R343): Host command on a peer that rebuilds its share of the lost position's units and lines onto the spare. -/
  | rebuild (o : Origin) (spare : Nat)
  /-- ROLLBACK (R340): Host command that aborts the job's work and restores the before-image log to bank T. -/
  | rollback (o : Origin) (bank : Nat)
  /-- EVENT_READ (R390): Host command that returns whole event records from a given sequence number. -/
  | eventRead (o : Origin) (first count : Nat)
  /-- READ_REGS (R390): Host command that reads a list of registers with the session's role. -/
  | readRegs (o : Origin) (offs : List Nat)
  /-- RESET_REQUEST (R372): Host command that requests a partition, chip or power-cycle reset. -/
  | resetRequest (o : Origin) (level part : Nat)
  /-- ATTEST (R452): Host command that returns a signed quote and the identity certificate chain. -/
  | attest (o : Origin) (nonce : Nat)
  /-- WRITE_REGS (R461): Management-port command that applies a list of register writes in order, stopping at the first failure. -/
  | writeRegs (o : Origin) (writes : List (Nat × Nat))
  /-- HELLO (R384): Handshake packet from a host that is checked and answered with HELLO_REPLY. -/
  | hello (h : Hello)
  /-- FINISH (R384): Handshake packet whose key confirmation sets the session OPEN. -/
  | finish (p : HostPkt) (confirmOk : Bool)
  /-- HANDSHAKE_TIMEOUT (R384): Expiry of 10 ms in HANDSHAKE, which returns the session entry to free. -/
  | handshakeTimeout (sess : Nat)
  /-- COMMAND (R392): Transport packet carrying a command, authenticated, accepted in SEQ order, acknowledged and dispatched. -/
  | command (p : HostPkt)
  /-- ACK (R392): Transport acknowledgement that retires acknowledged packets and moves the current network to its network. -/
  | ack (p : HostPkt)
  /-- CLOSE (R394): Transport packet that sets a session CLOSING, is acknowledged and answered with NOTICE CLOSED. -/
  | close (p : HostPkt)
  /-- RETRANSMIT_TIMEOUT (R392): Expiry of 8 µs without acknowledgement, which resends and counts a miss. -/
  | retransmitTimeout (sess : Nat)
  /-- DISCONNECTED_TIMEOUT (R394): Expiry of 10 s in DISCONNECTED, which closes the session and frees its entry. -/
  | disconnectedTimeout (sess : Nat)
  /-- HOST_PORT_DOWN (R393): Loss of a host port's link, which moves its sessions to the next up port of the network. -/
  | hostPortDown (port : Nat)
  /-- HOST_PORT_UP (R375): A host port's link comes up after auto-negotiation and training. -/
  | hostPortUp (port : Nat)
  /-- COMMAND_DONE (R389): End of a command in progress, which sends its one REPLY and frees a CLOSING session when it was the last. -/
  | commandDone (o : Origin)
  /-- DMA_CTRL_START (R199): Write of START to a DMA channel, which runs the checks and starts the transfer or halts the channel. -/
  | dmaCtrlStart (r : Requester) (ch value : Nat)
  /-- DMA_CTRL_ABORT (R206): Write of ABORT, which takes a BUSY channel to DRAINING. -/
  | dmaCtrlAbort (r : Requester) (ch : Nat)
  /-- DMA_CTRL_CLEAR (R200): Write of CLEAR, which takes a HALTED channel to IDLE. -/
  | dmaCtrlClear (r : Requester) (ch : Nat)
  /-- DMA_REQUEST_ISSUE (R194): Issue of a channel's next request once pacing, outstanding bytes and a request slot allow. -/
  | dmaRequestIssue (ch : Nat)
  /-- DMA_REPLY (R205): Arrival of a reply to a DMA request; a failing reply stops issue and enters DRAINING. -/
  | dmaReply (ch req : Nat)
  /-- DMA_TRANSFER_DONE (R204): Completion of a transfer when every response has returned: DONE, timer release, signal, host report. -/
  | dmaTransferDone (ch : Nat)
  /-- DMA_DRAINED (R205): End of a DRAINING channel's outstanding requests, which enters HALTED with its status. -/
  | dmaDrained (ch : Nat)
  /-- LAN_DISCOVER (R221): Installer write that repeats training and discovery on held or quarantined ports. -/
  | lanDiscover (r : Requester) (mask : Nat)
  /-- LANE_CTRL_DROP (R245): Installer write that drops a lane with cause 4. -/
  | laneCtrlDrop (r : Requester) (lane : Nat)
  /-- LANE_CTRL_RESTORE (R248): Installer write that clears a lane's drop count and retries it at once. -/
  | laneCtrlRestore (r : Requester) (lane : Nat)
  /-- LANE_PRBS_ENABLE (R254): Write of PRBS_EN that turns the lane's PRBS31 generator and checker on and clears PRBS_ERR. -/
  | lanePrbsEnable (r : Requester) (lane : Nat)
  /-- LANE_LOOPBACK (R252): Installer write of LOOPBACK on a port that is not UP, or its return to 0 which retrains the port. -/
  | laneLoopback (r : Requester) (lane mode : Nat) (peerUp : Bool)
  /-- PORT_CTRL_RETRAIN (R249): Installer write that takes a port's link down and retrains it at once. -/
  | portCtrlRetrain (r : Requester) (port : Nat)
  /-- PORT_CTRL_FORGET (R243): Installer write that discards a port's saved equalisation settings. -/
  | portCtrlForget (r : Requester) (port : Nat)
  /-- EYE_SCAN_START (R251): Write of START that begins an eye scan of one lane, or refuses it. -/
  | eyeScanStart (r : Requester) (die value : Nat)
  /-- EYE_SCAN_ABORT (R256): Write of ABORT that ends an eye scan as ABORTED. -/
  | eyeScanAbort (r : Requester) (die : Nat)
  /-- EYE_SCAN_DONE (R251): End of an eye scan's 4,096 points, which sets WIDTH and HEIGHT. -/
  | eyeScanDone (die : Nat) (errors : List (Nat × Nat))
  /-- CLEAR_HWM (R280): Write that sets every RTR high-water mark to its current value. -/
  | clearHwm (r : Requester)
  /-- MEM_SPARE_START (R182): Installer write that starts sparing of a named channel. -/
  | memSpareStart (r : Requester) (channel : Nat)
  /-- RST_CMD_PARTITION (R353): Write of RST_CMD level 4 that requests a partition reset. -/
  | rstCmdPartition (r : Requester) (part : Nat)
  /-- RST_CMD_CHIP (R353): Write of RST_CMD level 5 that requests a chip reset. -/
  | rstCmdChip (r : Requester)
  /-- RST_CMD_POWER_CYCLE (R364): Write of RST_CMD level 6 that requests a power cycle through the tray. -/
  | rstCmdPowerCycle (r : Requester)
  /-- FAULT_CONTEXT_CLEAR (R365): Write of 1 to VALID that clears both fault registers for the next capture. -/
  | faultContextClear (r : Requester)
  /-- CTL_SWAP_COMMAND (R409): Installer command SWAP that makes a switchover at once with cause 0x06. -/
  | ctlSwapCommand (r : Requester)
  /-- UNIT_RESTART (R407): Installer command RESTART that restarts a FAILED or RETIRED control unit once. -/
  | unitRestart (r : Requester) (unit : Nat)
  /-- EMBER (R366): Firmware write of a new ember count, which restarts the unit's watchdog. -/
  | ember (r : Requester) (unit count : Nat)
  /-- TRACE_EN_WRITE (R416): Installer write of TRACE_EN that starts the trace clock on SVC_0, ignored while ALERT_N is asserted. -/
  | traceEnWrite (r : Requester) (value : Bool)
  /-- BOT_ASH_ADD (R433): Installer write that adds an ash list entry with cause 8. -/
  | botAshAdd (r : Requester) (value : Nat)
  /-- WARM (R436): Installer command that requests a warm reset, or refuses it with a reason. -/
  | warm (r : Requester)
  /-- FORGET (R434): Installer command that discards the saved memory training record. -/
  | forget (r : Requester)
  /-- LICENCE_INSTALL (R439): Installer command that checks a licence in the buffer and stores it for the next cold start. -/
  | licenceInstall (r : Requester) (sigOk : Bool)
  /-- LICENCE_REMOVE (R439): Installer command that frees a licence slot for the next cold start. -/
  | licenceRemove (r : Requester) (slot : Nat)
  /-- BEGIN (R472): Installer command that checks the manifest page and starts receiving a staged image. -/
  | imageBegin (r : Requester) (sigOk : Bool)
  /-- WRITE_PAGE (R472): Installer command that copies one image page to the region-0 image buffer. -/
  | writePage (r : Requester) (page : Nat)
  /-- IMAGE_FINISH (R472): Installer command that starts writing and verifying every page into the staging bank. -/
  | imageFinish (r : Requester)
  /-- IMAGE_WRITTEN (R472): End of the staging writes and digest checks, which makes the staging bank VALID or INVALID. -/
  | imageWritten (readBackOk : Bool)
  /-- ACTIVATE (R477): Installer command that sets DUE and schedules activation at a fabric time or the next cold start. -/
  | activate (r : Requester) (force : Bool)
  /-- CANCEL (R477): Installer command that clears DUE and the schedule, or abandons an image being received. -/
  | cancel (r : Requester)
  /-- BROADCAST (R474): Installer command that starts sending the staged image over the fabric dimensions of MASK. -/
  | broadcast (r : Requester)
  /-- ENROL_ADD (R456): Command that checks an enrolment entry in the buffer and stores it in the enrolled keys record. -/
  | enrolAdd (r : Requester) (sigOk : Bool)
  /-- ENROL_REMOVE (R457): Command that frees an enrolment slot and closes the sessions opened under its key. -/
  | enrolRemove (r : Requester) (slot : Nat)
  /-- PWR_CAP_WRITE (R507): Tray controller write that renews the rack cap and may begin or extend a storm. -/
  | pwrCapWrite (r : Requester) (watts : Nat)
  /-- OP_CAP_WRITE (R509): Write of the operator cap, refused outside the installer limits. -/
  | opCapWrite (r : Requester) (watts : Nat)
  /-- LIMITS_WRITE (R509): Installer write of the operator cap limits, stored in record 0x09. -/
  | limitsWrite (r : Requester) (maxW minW : Nat)
  /-- TRAY_REPORT (R511): Write of PWR_TRAY_FLOW that completes a tray report and updates the flow cap. -/
  | trayReport (r : Requester) (flow : Nat)
  /-- PLAN_LOAD (R216): Installer load of a cabling plan, checked and applied at once or staged for the next cold start. -/
  | planLoad (r : Requester) (plan : Plan)
  /-- REGISTER_WRITE (R13): Any other register write, applied under its access type and the requester's rights. -/
  | registerWrite (r : Requester) (off value : Nat)
  /-- PACKET_INGRESS (R262): Arrival of a packet header at a port's ingress, checked and let into the central store. -/
  | packetIngress (port : Nat) (p : Packet)
  /-- PACKET_TRANSMIT (R264): Start of a packet's cut-through transmission once its output holds credits for all its flits. -/
  | packetTransmit (die port vc : Nat)
  /-- READ (R260): Fabric read request served at its target under the alignment and access rules. -/
  | read (p : Packet)
  /-- WRITE (R260): Fabric write request served at its target and answered with WRITE_ACK. -/
  | write (p : Packet)
  /-- WRITE_MASKED (R169): Fabric masked write of one 64-byte block, performed as a partial write. -/
  | writeMasked (p : Packet)
  /-- ATOMIC (R175): Fabric atomic request performed indivisibly by the serving controller. -/
  | atomic (p : Packet)
  /-- SIGNAL (R260): Fabric request that adds an increment to a sync counter after the job check. -/
  | signal (p : Packet)
  /-- COMPLETION (R159): Fabric request that writes a 32-byte completion record as one write. -/
  | completion (p : Packet)
  /-- MEMORY_REQUEST (R169): A local unit's read, write or atomic request served by a memory controller of this module. -/
  | memoryRequest (a : Agent) (addr : Nat) (m : MemOp) (corrected : List (Nat × Nat)) (lost : List Nat)
  /-- READ_DATA (R277): Reply carrying read data, delivered to its request slot or dropped as stale. -/
  | readData (p : Packet)
  /-- WRITE_ACK (R277): Reply acknowledging a write, delivered to its request slot or dropped as stale. -/
  | writeAck (p : Packet)
  /-- ATOMIC_RESULT (R277): Reply carrying an atomic operation's old value to its request slot. -/
  | atomicResult (p : Packet)
  /-- SIGNAL_ACK (R123): Reply acknowledging a remote signal, which can end a firing's Complete stage. -/
  | signalAck (p : Packet)
  /-- COMPLETION_ACK (R159): Reply acknowledging a remote completion record; a failing status loses the record. -/
  | completionAck (p : Packet)
  /-- REQUEST_TIMEOUT (R277): Expiry of RTR_REQ_TIMEOUT for a request slot, which ends the request with TIMEOUT. -/
  | requestTimeout (die slot : Nat)
  /-- LINK_CREDIT (R266): Credit packet consumed at ingress that updates the transmitter's available credit. -/
  | linkCredit (port : Nat) (counts : List Nat)
  /-- LINK_CREDIT_SEND (R266): Sending of freed-cell counts 1 µs after the first freed cell or at 512 pending cells. -/
  | linkCreditSend (port : Nat)
  /-- WINDOW_RECLAIM (R266): Return of a virtual channel's window cells after 10 µs without a packet in the store. -/
  | windowReclaim (port vc : Nat)
  /-- IDENTITY (R219): Identity packet received on a trained port, which classifies the port. -/
  | identity (port id : Nat) (valid : Bool) (dim verdict : Nat)
  /-- IDENTITY_SEND (R218): Sending of an identity packet every 10 µs until the exchange ends. -/
  | identitySend (port : Nat)
  /-- IDENTITY_TIMEOUT (R219): Expiry of 1 ms after training without an identity packet, which quarantines the port. -/
  | identityTimeout (port : Nat)
  /-- DARK_TIMEOUT (R219): Expiry of 10 s without a trained link on a port whose NONE bit is clear, which makes it DARK. -/
  | darkTimeout (port : Nat)
  /-- DARK_RETRY (R221): Retry of training on a DARK port every 1 s. -/
  | darkRetry (port : Nat)
  /-- TIME (R224): Timestamp exchange packet received, which answers a child or corrects a follower's offset. -/
  | time (port : Nat) (request : Bool) (t1 t2 t3 t4 rootSeq : Nat) (valid backup : Bool) (counter : Nat)
  /-- TIME_EXCHANGE (R224): Sending of a timestamp exchange to the parent every 1 ms. -/
  | timeExchange 
  /-- HOLDOVER_EXPIRY (R225): Expiry of 10 ms of holdover, which clears TIME_VALID. -/
  | holdoverExpiry 
  /-- ROOT_LOST (R225): Expiry of 100 ms without an advance of the root sequence, which switches to BACKUP_ROOT. -/
  | rootLost 
  /-- PORT_FRAME (R238): Receipt of a whole port frame, checked by FEC, CRC and tag and delivered or refused with NAK. -/
  | portFrame (port : Nat) (f : Frame)
  /-- FRAME_PERIOD (R236): Transmission of one port frame, EMPTY if nothing waits, at each frame period. -/
  | framePeriod (port : Nat)
  /-- REPLAY_TIMEOUT (R238): Expiry of 20 µs without ACK of the oldest kept frame, which resends from it. -/
  | replayTimeout (port : Nat)
  /-- LANE_ERROR_WINDOW (R245): End of a 1 ms window whose uncorrectable or corrected counts can drop a lane. -/
  | laneErrorWindow (lane uncorrectable corrected prbs : Nat)
  /-- LANE_RETRAIN (R248): Background retraining of a dropped lane every 10 s. -/
  | laneRetrain (lane : Nat) (pass : Bool)
  /-- SIGNAL_LOSS (R249): Loss of signal on every lane of a port at once, which loses the link. -/
  | signalLoss (port : Nat)
  /-- PLL_LOCK (R242): Lock of a port's lane PLLs, which starts link training. -/
  | pllLock (port : Nat)
  /-- LINK_TRAINED (R242): End of training and key exchange of a port, which begins the identity exchange. -/
  | linkTrained (port good ms keyFail skew : Nat) (asym : Int) (saved : Bool)
  /-- IDLE_ENTRY (R250): Entry of a transmitter into electrical idle after 2 µs with nothing to send. -/
  | idleEntry (port : Nat)
  /-- IDLE_EXIT (R250): Exit from idle with a training burst when the transmitter has something to send. -/
  | idleExit (port : Nat)
  /-- IDLE_LOCK_TIMEOUT (R250): Expiry of 1 µs after an idle exit burst, which drops every lane not locked. -/
  | idleLockTimeout (port unlocked : Nat)
  /-- HOT_WINDOW (R174): End of a 1 ms hot-channel window, which counts hot channels and reports a hot one. -/
  | hotWindow (counts : List (Nat × Nat))
  /-- SCRUB_PERIOD (R181): Patrol scrub and spare test over one scrub period, with write-back of corrected granules. -/
  | scrubPeriod (corrected : List (Nat × Nat)) (uncorrectable : List Nat) (badSpares : List Nat)
  /-- CE_HOUR (R182): End of a fixed hour, which starts sparing of channels whose corrected errors reached the limit. -/
  | ceHour 
  /-- SPARING_DONE (R183): End of a sparing copy, which serves the position from the spare and adds the channel to the ash list. -/
  | sparingDone (seam : Nat) (lost : List Nat)
  /-- FIRING_SELECT (R104): Choice of the next firing by weighted round robin when a partition's sequencer is free. -/
  | firingSelect (part : Nat)
  /-- FETCH_DONE (R106): Arrival of a firing's descriptor read, which runs the checks or stops the queue on a failed read. -/
  | fetchDone (part : Nat) (remote : Option (Status × Flags × List Byte))
  /-- RESOLVE_DONE (R126): End of Resolve, with ranks resolved and slot pages read, which tiles the firing. -/
  | resolveDone (part : Nat) (reads : List RemoteRead)
  /-- FRAME_PASS_DONE (R45): End of the AUTO frame pass, which starts the main pass. -/
  | framePassDone (part : Nat)
  /-- UNIT_DONE (R129): Completion of one tiling unit by its owner core, a progress event. -/
  | unitDone (part unit : Nat) (corrected : List (Nat × Nat × Nat))
  /-- TILE_DONE (R113): Completion of a tile when split-k parts are combined and every write response returned. -/
  | tileDone (part tile : Nat)
  /-- FIRING_COMPLETE (R131): Writing of a firing's completion record, appends and signals after every output response returned. -/
  | firingComplete (part cycles : Nat)
  /-- FIRING_HUNG (R130): Expiry of both hang bounds without progress, which ends the firing with HANG. -/
  | firingHung (part cycles : Nat)
  /-- RESIDUE_RETRY (R81): Residue mismatch at a spill, which recomputes the group or declares the column bad. -/
  | residueRetry (die core engine column : Nat) (second : Bool)
  /-- STORE_UNCORRECTABLE (R82): Double-bit store error that ends the reading firing and schedules a store check. -/
  | storeUncorrectable (die unit word : Nat)
  /-- STORE_CHECK (R369): Store check of a core at the first point with no firing in its partition and no reset on its die. -/
  | storeCheck (die core : Nat) (pass : Bool)
  /-- CORE_LOST (R88): Loss of a mapped core, which fences it and maps a replacement or makes a hole. -/
  | coreLost (die core cause : Nat)
  /-- DIE_LOST (R90): Loss of a kiln die's compute, which makes all its logical cores holes. -/
  | dieLost (die cause : Nat)
  /-- PASS_THROUGH_FAILED (R19): Failure of a kiln die's cross-flue pass-through, which cuts cross-flue bandwidth by a quarter. -/
  | passThroughFailed (die direction : Nat)
  /-- COLLECTIVE_START (R297): Satisfaction of a collective's wait, which checks it and begins its frame phase or first step. -/
  | collectiveStart (group : Nat)
  /-- READY (R286): Collective READY packet from a ring neighbour, which can make the group READY. -/
  | ready (p : Packet)
  /-- READY_RETRY (R286): Sending of READY every 1 ms to neighbours that have not answered. -/
  | readyRetry (group : Nat)
  /-- SEGMENT (R289): Arrival of a SEGMENT packet into a reduction slot. -/
  | segment (p : Packet)
  /-- SEGMENT_COMBINE (R307): Adding or copying of a segment whose packets have all arrived, with its residue check. -/
  | segmentCombine (group seg : Nat) (reverse mismatch : Bool)
  /-- SEGMENT_SEND (R307): Sending of a checked segment downstream against a credit, freeing its slot. -/
  | segmentSend (group seg : Nat) (reverse : Bool)
  /-- CREDIT (R290): Collective CREDIT packet that grants the upstream engine credits for segments. -/
  | credit (p : Packet)
  /-- STEP_DONE (R307): End of a collective step when every segment has been sent and received, starting the next. -/
  | stepDone (group : Nat)
  /-- COLLECTIVE_COMPLETE (R310): Completion of a collective on a member when every output write is acknowledged. -/
  | collectiveComplete (group cycles : Nat)
  /-- ABORT (R312): Collective ABORT packet that ends the running collective and is forwarded once. -/
  | abort (p : Packet)
  /-- HEARTBEAT (R312): Sending of HEARTBEAT to a ring neighbour after 100 µs without another packet to it. -/
  | heartbeat (group member : Nat)
  /-- MEMBER_LOST (R312): Expiry of 1 ms without a packet from a ring neighbour, which ends the collective. -/
  | memberLost (group member : Nat)
  /-- STALL_TIMEOUT (R312): Expiry of CAR_STALL_MS without progress, which ends the collective with TIMEOUT. -/
  | stallTimeout (group : Nat)
  /-- BANK_HELLO (R320): Bank HELLO packet from a rick peer, which completes formation or dissolves on mismatch. -/
  | bankHello (p : Packet)
  /-- BANK_HELLO_SEND (R321): Sending of HELLO to the seven peers every 1 ms. -/
  | bankHelloSend 
  /-- PEER_SILENT (R321): Expiry of 10 ms without HELLO from a peer, which sets its silent bit. -/
  | peerSilent (position : Nat)
  /-- FORMATION_TIMEOUT (R320): Expiry of 10 s without completing rick formation, which dissolves the rick. -/
  | formationTimeout 
  /-- QUIESCE_DONE (R329): End of a bank firing's Quiesce when every write of the job from this module is acknowledged. -/
  | quiesceDone 
  /-- ARRIVE (R330): Barrier ARRIVE packet recorded for its round, which can advance or complete a barrier. -/
  | arrive (p : Packet)
  /-- DELTA (R331): Bank DELTA packet that the holder folds into a parity line and acknowledges. -/
  | delta (p : Packet)
  /-- FOLD_DONE (R331): End of the Fold stage when every DELTA sent is acknowledged. -/
  | foldDone 
  /-- PARITY_READ (R333): Bank request that returns 4,096 bytes of a unit or parity line to a rick peer. -/
  | parityRead (p : Packet)
  /-- BANK_STALL (R334): Expiry of BNK_STALL_MS in a barrier round, which fails the bank with TIMEOUT. -/
  | bankStall 
  /-- REBUILD_DONE (R343): End of a peer's rebuild writes, or a spare's receipt of every unit and line, which makes it CURRENT. -/
  | rebuildDone 
  /-- RESET_GRANT (R353): Grant of a partition or chip reset, which closes the fence and starts the snapshot and drain. -/
  | resetGrant (level target cause : Nat)
  /-- DRAIN_END (R355): Expiry of 100 µs of drain, which ends held request slots with TIMEOUT and advances generations. -/
  | drainEnd (level target : Nat)
  /-- SNAPSHOT_DONE (R360): End of a reset snapshot, or its closing at 2 ms, with the header written last. -/
  | snapshotDone (level target : Nat) (whole : Bool) (silent : List (Nat × Nat))
  /-- RESET_ASSERTED (R353): End of the 1 ms reset assertion, which starts the post-reset check. -/
  | resetAsserted (level target : Nat)
  /-- POST_RESET_CHECK_DONE (R353): End of the post-reset test firings, which starts the microcode broadcast and map restore. -/
  | postResetCheckDone (level target : Nat) (failedCores : List (Nat × Nat)) (failedDies : List Nat)
  /-- RESET_RELEASE (R353): Release of a partition or chip reset: fence open, RESETTING clear, module leaves RECOVERY. -/
  | resetRelease (level target us : Nat)
  /-- LOWER_RESET_DONE (R361): Acknowledgement and passing test firing of an engine, core or cluster reset. -/
  | lowerResetDone (level target : Nat)
  /-- LADDER_TIMEOUT (R361): Expiry of a ladder level's bound, which takes the next level or stops the ladder. -/
  | ladderTimeout (level target : Nat) (units : List (Nat × Nat × Nat))
  /-- WATCHDOG_FIRE (R367): Expiry of 1 ms without an ember, which switches over, fails the standby or power-cycles the module. -/
  | watchdogFire (unit : Nat)
  /-- SPARE_TEST_ROTATE (R368): Expiry of the rotation interval, which starts in-service test of the next free spare. -/
  | spareTestRotate (die : Nat)
  /-- SPARE_TEST_DONE (R368): End of a spare's in-service test, which frees it or marks it lost. -/
  | spareTestDone (die failing : Nat)
  /-- LEASE_RENEW (R404): Renewal of the token lease in both cells every 1 ms. -/
  | leaseRenew 
  /-- LEASE_EXPIRY (R405): Expiry of a token cell's lease, which switches over or sets LEASE_LATE. -/
  | leaseExpiry (cell : Nat)
  /-- JOURNAL_RECORD (R403): Application of a journal record by the standby and its acknowledgement. -/
  | journalRecord (mirrorFault : Bool)
  /-- JOURNAL_TIMEOUT (R403): Expiry of 10 µs without a journal acknowledgement, which marks the standby FAILED. -/
  | journalTimeout 
  /-- FATAL_FAULT (R400): Uncorrectable memory error or unhandled trap in a control processor, which fails the unit. -/
  | fatalFault (unit : Nat)
  /-- UNIT_RESTART_TIMER (R407): Expiry of 1 s in FAILED, which reloads the unit and starts its self-test. -/
  | unitRestartTimer (unit : Nat)
  /-- SELF_TEST (R407): End of a control unit's self-test, which passes it on or fails it. -/
  | selfTest (unit failing : Nat)
  /-- STATE_COPY_DONE (R407): End of the control state copy to a restarted unit, which enters PROBATION. -/
  | stateCopyDone (unit : Nat)
  /-- PROBATION_END (R408): End of 60 clean seconds in PROBATION, which makes the unit STANDBY or returns A the token. -/
  | probationEnd (unit ms : Nat)
  /-- SWAP_DUE (R409): Expiry of the planned swap interval, which waits for a swap point. -/
  | swapDue 
  /-- SWAP_POINT (R409): A control clock with no sequencer busy and no ladder action, or a forced wait of 600 s, which makes the planned swap. -/
  | swapPoint (forced : Bool)
  /-- COLD_START (R427): Power good with TRAY_RST_N released, or a release, which begins the start sequence. -/
  | coldStart (slotId : Nat)
  /-- START_STEP_DONE (R427): End of a start step, which begins the next one or ends the start under R428. -/
  | startStepDone (r : StepResult)
  /-- TRAY_RST_ASSERT (R534): Recognised assertion of TRAY_RST_N, which shuts the module down in orderly fashion. -/
  | trayRstAssert 
  /-- POWER_LOSS (R536): Removal of the module's power without warning. -/
  | powerLoss 
  /-- REFERENCE_LOST (R531): Loss of the reference clock for 10 µs, which shuts the module down without saving. -/
  | referenceLost (ppm : Nat)
  /-- OPTIME_SAVE (R33): Saving of the operating-time counter to NVM at least once per minute. -/
  | optimeSave 
  /-- IMAGE_PAGE (R475): Broadcast page received, kept, forwarded and staged when page 0 passes. -/
  | imagePage (port : Nat) (p : Packet) (sigOk : Bool)
  /-- IMAGE_PAGE_SEND (R474): Sending or forwarding of one image page every 10 µs on each UP port of the mask. -/
  | imagePageSend (port : Nat)
  /-- IMAGE_PULL (R476): Request for missing pages, answered from the buffer or pulled from the parent. -/
  | imagePull (port : Nat) (p : Packet)
  /-- IMAGE_PULL_TIMER (R476): Sending of IMAGE_PULL 10 ms after the last page and every 10 ms after. -/
  | imagePullTimer 
  /-- BROADCAST_INCOMPLETE (R476): Expiry of 10 s without a new page, which abandons the image. -/
  | broadcastIncomplete 
  /-- ACTIVATION_TIME (R478): Arrival of fabric time T, which restarts the module or defers the activation. -/
  | activationTime 
  /-- EVENT_INTAKE (R414): Taking of one queued event per management clock, folded into a recent record or opened as a new one. -/
  | eventIntake 
  /-- MIRROR_CHECK (R490): Background comparison of one slot of both event mirrors per management clock, with repair. -/
  | mirrorCheck (slot : Nat) (badF0 badF1 : List Nat)
  /-- INPUT_SAMPLE (R500): Sampling of input voltage and current every 1 µs, which brakes, halts or shuts down. -/
  | inputSample (centivolts milliamps heldUs p100 : Nat)
  /-- BRAKE_N_FALL (R501): Recognised low on BRAKE_N, which brakes the array. -/
  | brakeNFall 
  /-- BRAKE_N_RISE (R501): Return of BRAKE_N high, which can end the brake. -/
  | brakeNRise 
  /-- HALT_CLEARED (R504): Expiry of a halt cause's clearing time, which enters RECOVERY when the last cause clears. -/
  | haltCleared (cause : Nat)
  /-- OPERATING_POINT (R498): Choice of the operating point every 1 ms and start of the supply slew. -/
  | operatingPoint (allowed : List Nat)
  /-- CAP_CONTROL (R506): Comparison of P100 with the effective cap every 10 µs, which lowers or raises duty. -/
  | capControl 
  /-- ORPHAN_CAP (R507): Expiry of 120 s without a cap write, which holds the rack cap at most 1,950 W. -/
  | orphanCap 
  /-- CAP_STORM (R508): Expiry of 10 ms with no two cap writes less than 1 ms apart, which ends a storm. -/
  | capStorm 
  /-- SENSOR_SAMPLE (R512): Reading of every temperature sensor every 1 ms, which throttles, halts, loses a die or shuts down. -/
  | sensorSample (pairs : List (Nat × Nat)) (packages : List Nat)
  /-- SENSOR_SUSPECT (R512): Expiry of 1 s of pair disagreement above 4 °C, which marks the pair SUSPECT. -/
  | sensorSuspect (pair : Nat)
  /-- TRAY_REPORT_STALE (R515): Expiry of 1 s without a tray report, which applies the 1,300 W flow cap. -/
  | trayReportStale 
  /-- FLOW_LOSS_N_FALL (R516): Recognised fall of FLOW_LOSS_N, which halts compute in hardware. -/
  | flowLossNFall 
  /-- FLOW_LOSS_N_RISE (R516): Return of FLOW_LOSS_N high, which starts the 1 s clearing time. -/
  | flowLossNRise 
  /-- FLOW_LOSS_SHUTDOWN (R516): Expiry of 30 s with FLOW_LOSS_N low, which shuts down with cause 4. -/
  | flowLossShutdown 
  /-- MONITOR_COMPARE (R445): Comparison of both security monitors every 100 ms, which can set MONITOR_MISMATCH. -/
  | monitorCompare (item : Nat)
  /-- RANDOM_FAULT (R446): Failure of a random source's health test, which marks the source failed. -/
  | randomFault (monitor test : Nat)
  /-- RNG_RETEST (R446): Retest of both failed random sources every 1 s while the start waits for keys. -/
  | rngRetest (passA passB : Bool)
  /-- RECORD_WRITE_DONE (R425): End of a configuration NVM record write and its read-back, which counts the write as done or failed. -/
  | recordWriteDone (type : Nat) (ok : Bool)
  /-- ROLLBACK_DONE (R340): End of the before-image restore of a rollback, which advances RECOVERY, sets the rick CURRENT, reopens the run and replies to ROLLBACK. -/
  | rollbackDone 
  /-- CORE_SEQUENCER_TRAP (R362): A core sequencer traps on a descriptor or operand of a context, which starts the ladder with a context abort, cause 0x02. -/
  | coreSequencerTrap (ctx die core : Nat)
  /-- CLUSTER_FAULT (R362): A cluster store or multicast bus fault, which starts the ladder with a cluster reset, cause 0x05. -/
  | clusterFault (die cluster : Nat)
  /-- SEQUENCER_NO_RESPONSE (R362): A firing sequencer gives no response for 1 ms, which requests a partition reset with cause 0x07. -/
  | sequencerNoResponse (part : Nat)
  /-- CONTEXT_ABORT_DONE (R361): Every unit that held work of an aborted context has stopped, which ends ladder level 0 and replies to CONTEXT_ABORT. -/
  | contextAbortDone (ctx : Nat)
  /-- ISOLATION_DONE (R361): The isolation of a lost unit succeeds: its cluster port and bus stop carrying its traffic, and the ladder climbs no further. -/
  | isolationDone (die cluster : Nat)
  /-- COPY_ABANDONED (R184): The seam's spare fails during a sparing copy, so the copy is abandoned, newer data is written back, SPARE_BAD is set and events 0x0404 and 0x0405 are recorded. -/
  | copyAbandoned (seam : Nat)
  /-- HEARTBEAT_ARRIVAL (R291): A collective HEARTBEAT packet arrives from a ring neighbour, is consumed, and restarts that neighbour's 1 ms silence timer. -/
  | heartbeatArrival (p : Packet)
  /-- TRAINING_BURST (R250): The receiver gets an idle-exit training burst from the other end, leaves receive idle and relocks its lanes. -/
  | trainingBurst (port : Nat)
  /-- ETHERNET_FRAME (R375): A host port receives an Ethernet frame other than a transport datagram; it answers ARP, neighbour discovery and echo, and discards and counts every other frame. -/
  | ethernetFrame (port kind uncorr : Nat)
  /-- HOST_CONFIGURATION_LOAD (R376): The installer loads the sealed host configuration record, which takes effect at the next cold start. -/
  | hostConfigurationLoad (r : Requester) (cfg : HostCfg)
  /-- SUPPLY_SLEW_DONE (R498): The kiln supply reaches the new operating point, which lifts the slew's duty ceiling to that of the new point. -/
  | supplySlewDone 
  deriving DecidableEq, Repr

end Sys2Proof
end

