-- ==== Sys2Proof/Decode.lean ====
section
/-! DEFINITION. The commands that table words spell.  spec/opcode_table.json gives no row any bits: a command of this block
is a host packet, a register write, a fabric packet, a pin or a unit's report, none of which the table encodes. -/

namespace Sys2Proof

/-- The command that `nbits` bits of value `w` spell by the table: none, since no row gives bits. -/
def decodeTableWord (nbits w : Nat) : Option Instr :=
  match nbits, w with
  | _, _ => none

end Sys2Proof
end

