-- ==== Sys2Proof/Machine/Bits.lean ====
section
/-! DEFINITION. Helpers the whole machine uses: sorted tables, little-endian bytes, integer parts, memory cells. -/

namespace Sys2Proof.Machine

/-! ### Sorted tables: keys strictly rising, one canonical form for one content -/

/-- A table from numbers to values: a list sorted by key. -/
abbrev Tbl (α : Type) := List (Nat × α)

/-- The entry of a key. -/
def tfind {α : Type} : Tbl α → Nat → Option α
  | [], _ => none
  | (a, v) :: t, k => if k = a then some v else tfind t k

/-- The entry of a key, or a default. -/
def tget {α : Type} (t : Tbl α) (d : α) (k : Nat) : α := (tfind t k).getD d

/-- Set the entry of a key. -/
def tput {α : Type} : Tbl α → Nat → α → Tbl α
  | [], k, v => [(k, v)]
  | (a, w) :: t, k, v => if k = a then (k, v) :: t else if k < a then (k, v) :: (a, w) :: t else (a, w) :: tput t k v

/-- Remove the entry of a key. -/
def tdel {α : Type} : Tbl α → Nat → Tbl α
  | [], _ => []
  | (a, w) :: t, k => if k = a then tdel t k else (a, w) :: tdel t k

/-- Set the entry of a key, listing no entry equal to the default. -/
def tset {α : Type} [DecidableEq α] (t : Tbl α) (d : α) (k : Nat) (v : α) : Tbl α :=
  if v = d then tdel t k else tput t k v

/-- Keys strictly rise. -/
def tsorted {α : Type} : Tbl α → Bool
  | [] => true
  | [_] => true
  | (a, _) :: (b, w) :: t => decide (a < b) && tsorted ((b, w) :: t)

/-! ### Ascending order -/

/-- Put an element before the first one whose key is not less. -/
def insertBy {α : Type} (key : α → Nat) (x : α) : List α → List α
  | [] => [x]
  | y :: ys => if key x ≤ key y then x :: y :: ys else y :: insertBy key x ys

/-- A list in ascending order of a key, equal keys as they stood. -/
def sortBy {α : Type} (key : α → Nat) : List α → List α
  | [] => []
  | x :: xs => insertBy key x (sortBy key xs)

/-! ### Numbers and bytes -/

/-- The little-endian number of some bytes (R136). -/
def leNat : List Byte → Nat
  | [] => 0
  | b :: bs => b.toNat + 256 * leNat bs

/-- The first `n` little-endian bytes of a number (R136). -/
def natLe : Nat → Nat → List Byte
  | 0, _ => []
  | n + 1, v => BitVec.ofNat 8 v :: natLe n (v / 256)

/-- Bytes `o` to `o + n - 1` of a list, 0 beyond its end. -/
def slice (bs : List Byte) (o n : Nat) : List Byte :=
  let x := (bs.drop o).take n
  x ++ List.replicate (n - x.length) 0

/-- The little-endian number in bytes `o` to `o + n - 1`. -/
def field (bs : List Byte) (o n : Nat) : Nat := leNat (slice bs o n)

/-- Bits [hi:lo] of a number. -/
def bits (v hi lo : Nat) : Nat := v / 2 ^ lo % 2 ^ (hi - lo + 1)

/-- Bit `i` of a number. -/
def bit (v i : Nat) : Bool := v / 2 ^ i % 2 == 1

/-- A two's complement number of `w` bits. -/
def sext (w v : Nat) : Int := if v % 2 ^ w < 2 ^ (w - 1) then (v % 2 ^ w : Nat) else (v % 2 ^ w : Nat) - (2 ^ w : Nat)

/-- The `w`-bit two's complement code of an integer. -/
def ucode (w : Nat) (v : Int) : Nat := (v % ((2 ^ w : Nat) : Int)).toNat

/-- `ceil (a / b)`. -/
def cdiv (a b : Nat) : Nat := (a + b - 1) / b

/-- Round up to a multiple of 64. -/
def pad64 (a : Nat) : Nat := cdiv a 64 * 64

/-- Number of bits set among the low `n`. -/
def popc (n v : Nat) : Nat := ((List.range n).filter (bit v)).length

/-- The lowest bit set among the low `n`. -/
def lowBit (n v : Nat) : Option Nat := (List.range n).find? (bit v)

/-- `v` with bit `i` set. -/
def setBit (v i : Nat) : Nat := if bit v i then v else v + 2 ^ i

/-- `v` with bit `i` clear. -/
def clrBit (v i : Nat) : Nat := if bit v i then v - 2 ^ i else v

/-- 1 for true. -/
def b2n (b : Bool) : Nat := if b then 1 else 0

/-- Replace element `i` of a list. -/
def lset {α : Type} : List α → Nat → α → List α
  | [], _, _ => []
  | _ :: xs, 0, v => v :: xs
  | x :: xs, n + 1, v => x :: lset xs n v

/-! ### Memory cells (log entry 4, DESIGN CHOICE): addresses strictly rising, no entry equal to what an unlisted address reads as -/

/-- A byte memory. -/
abbrev Memory := List Host.Cell

/-- Read one byte; an unlisted address reads `d`. -/
def Memory.byte (m : Memory) (a : Nat) : Byte := tget m 0 a

/-- Write one byte, keeping the canonical form. -/
def Memory.put (m : Memory) (a : Nat) (v : Byte) : Memory := tset m 0 a v

/-- Read `n` bytes from `a`. -/
def Memory.read (m : Memory) : Nat → Nat → List Byte
  | _, 0 => []
  | a, n + 1 => m.byte a :: Memory.read m (a + 1) n

/-- Write bytes from `a`. -/
def Memory.write (m : Memory) : Nat → List Byte → Memory
  | _, [] => m
  | a, b :: bs => Memory.write (m.put a b) (a + 1) bs

/-- Write the bytes that a mask selects (R169). -/
def Memory.writeMasked (m : Memory) : Nat → List Byte → Nat → Memory
  | _, [], _ => m
  | a, b :: bs, mask => Memory.writeMasked (if mask % 2 = 1 then m.put a b else m) (a + 1) bs (mask / 2)

/-- Zero `n` bytes from `a` (R168): zero bytes are the unlisted ones. -/
def Memory.zero (m : Memory) (a n : Nat) : Memory := m.filter fun c => c.1 < a || a + n ≤ c.1

/-- The canonical form: addresses strictly rising and no zero byte listed. -/
def Memory.wf (m : Memory) : Bool := tsorted m && m.all fun c => c.2 ≠ 0

end Sys2Proof.Machine
end

