-- ==== Sys2Proof/Machine/Sm.lean ====
section
/-! DEFINITION. The SM4 block cipher of GB/T 32907 (R53, R171) and the SM3 hash of GB/T 32905 (R450, R464), as functions on
numbers: a 128-bit block is a number under big-endian byte order. -/

namespace Sys2Proof.Machine

/-- Rotate a 32-bit number left. -/
def rol32 (x n : Nat) : Nat := (x * 2 ^ (n % 32) % 2 ^ 32) + x / 2 ^ (32 - n % 32)

/-- The rows of the SM4 S-box, 16 entries each, the first in the most significant byte. -/
def sm4SboxRow : Nat → Nat
  | 0 => 0xd690e9fecce13db716b614c228fb2c05
  | 1 => 0x2b679a762abe04c3aa44132649860699
  | 2 => 0x9c4250f491ef987a33540b43edcfac62
  | 3 => 0xe4b31ca9c908e89580df94fa758f3fa6
  | 4 => 0x4707a7fcf37317ba83593c19e6854fa8
  | 5 => 0x686b81b27164da8bf8eb0f4b70569d35
  | 6 => 0x1e240e5e6358d1a225227c3b01217887
  | 7 => 0xd40046579fd327524c3602e7a0c4c89e
  | 8 => 0xeabf8ad240c738b5a3f7f2cef96115a1
  | 9 => 0xe0ae5da49b341a55ad933230f58cb1e3
  | 10 => 0x1df6e22e8266ca60c02923ab0d534e6f
  | 11 => 0xd5db3745defd8e2f03ff6a726d6c5b51
  | 12 => 0x8d1baf92bbddbc7f11d95c411f105ad8
  | 13 => 0x0ac13188a5cd7bbd2d74d012b8e5b4b0
  | 14 => 0x8969974a0c96777e65b9f109c56ec684
  | _ => 0x18f07dec3adc4d2079ee5f3ed7cb3948

/-- The SM4 S-box. -/
def sm4Sbox (x : Nat) : Nat := sm4SboxRow (x / 16) / 2 ^ (8 * (15 - x % 16)) % 256

/-- The S-box on each byte of a word. -/
def sm4Tau (x : Nat) : Nat :=
  sm4Sbox (x / 2 ^ 24 % 256) * 2 ^ 24 + sm4Sbox (x / 2 ^ 16 % 256) * 2 ^ 16 + sm4Sbox (x / 256 % 256) * 256 + sm4Sbox (x % 256)

/-- Round constant CK_i. -/
def sm4Ck (i : Nat) : Nat :=
  (28 * i % 256) * 2 ^ 24 + ((28 * i + 7) % 256) * 2 ^ 16 + ((28 * i + 14) % 256) * 256 + (28 * i + 21) % 256

/-- Key schedule and rounds together: the four key words and the four data words after each round. -/
def sm4Rounds : Nat → Nat → (Nat × Nat × Nat × Nat) → (Nat × Nat × Nat × Nat) → Nat × Nat × Nat × Nat
  | 0, _, _, x => x
  | n + 1, i, (k0, k1, k2, k3), (x0, x1, x2, x3) =>
    let t := sm4Tau (k1 ^^^ k2 ^^^ k3 ^^^ sm4Ck i)
    let rk := k0 ^^^ t ^^^ rol32 t 13 ^^^ rol32 t 23
    let u := sm4Tau (x1 ^^^ x2 ^^^ x3 ^^^ rk)
    let y := x0 ^^^ u ^^^ rol32 u 2 ^^^ rol32 u 10 ^^^ rol32 u 18 ^^^ rol32 u 24
    sm4Rounds n (i + 1) (k1, k2, k3, rk) (x1, x2, x3, y)

/-- SM4 encryption of a 128-bit block under a 128-bit key. -/
def sm4 (key block : Nat) : Nat :=
  let w := fun v i => v / 2 ^ (96 - 32 * i) % 2 ^ 32
  let (x0, x1, x2, x3) := sm4Rounds 32 0
    (w key 0 ^^^ 0xa3b1bac6, w key 1 ^^^ 0x56aa3350, w key 2 ^^^ 0x677d9197, w key 3 ^^^ 0xb27022dc)
    (w block 0, w block 1, w block 2, w block 3)
  x3 * 2 ^ 96 + x2 * 2 ^ 64 + x1 * 2 ^ 32 + x0

/-- Multiply an XTS tweak by the primitive element: 128 bits in little-endian byte order (IEEE 1619-2018, R186). -/
def xtsDouble (t : Nat) : Nat := (2 * t % 2 ^ 128) ^^^ (if t < 2 ^ 127 then 0 else 0x87)

/-- A number's 16 bytes in the opposite order: SM4 takes a block big-endian, XTS counts its tweak little-endian. -/
def swap16 (x : Nat) : Nat := leNat (natLe 16 x).reverse

/-- SM4-XTS over whole blocks from a tweak (R186). -/
def xtsBlocks : Nat → Nat → Nat → List Byte → List Byte
  | 0, _, _, _ => []
  | n + 1, key, t, bs =>
    let x := sm4 key (swap16 (leNat (bs.take 16) ^^^ t))
    natLe 16 (swap16 x ^^^ t) ++ xtsBlocks n key (xtsDouble t) (bs.drop 16)

/-- The ciphertext of a data unit (R186): `key` holds the data key in its upper and the tweak key in its lower half. -/
def sm4Xts (key unit : Nat) (bs : List Byte) : List Byte :=
  xtsBlocks (bs.length / 16) (key / 2 ^ 128) (swap16 (sm4 (key % 2 ^ 128) (swap16 unit))) bs

/-- The big-endian number of some bytes. -/
def beNat (bs : List Byte) : Nat := leNat bs.reverse

/-- The `n` bytes of a number, the most significant first. -/
def natBe (n v : Nat) : List Byte := (natLe n v).reverse

/-- Product of GHASH: 128-bit blocks with coefficient 0 in the most significant bit (NIST SP 800-38D). -/
def gcmMul (x y : Nat) : Nat :=
  ((List.range 128).foldl (fun (z, v) i =>
    (if x.testBit (127 - i) then z ^^^ v else z, if v % 2 = 1 then (v / 2) ^^^ (0xE1 * 2 ^ 120) else v / 2)) (0, y)).1

/-- Bytes as 16-byte blocks, the last one filled up with zeros. -/
def blocks16 (bs : List Byte) : List Nat := (List.range ((bs.length + 15) / 16)).map fun i => beNat (slice bs (16 * i) 16)

/-- Bytes of a key stream counted from 2 under a 96-bit nonce, added to some bytes (R240). -/
def gcmStream (key nonce : Nat) (bs : List Byte) : List Byte :=
  ((List.range ((bs.length + 15) / 16)).flatMap fun i =>
    natBe 16 (sm4 key (nonce * 2 ^ 32 + (i + 2) % 2 ^ 32) ^^^ beNat (slice bs (16 * i) 16))).take bs.length

/-- The SM4-GCM tag over additional data and ciphertext. -/
def gcmTag (key nonce : Nat) (aad cipher : List Byte) : Nat :=
  let sums := (blocks16 aad ++ blocks16 cipher ++ [8 * aad.length * 2 ^ 64 + 8 * cipher.length]).foldl
    (fun y x => gcmMul (y ^^^ x) (sm4 key 0)) 0
  sm4 key (nonce * 2 ^ 32 + 1) ^^^ sums

/-- SM3 permutation P0. -/
def sm3P0 (x : Nat) : Nat := x ^^^ rol32 x 9 ^^^ rol32 x 17

/-- SM3 permutation P1. -/
def sm3P1 (x : Nat) : Nat := x ^^^ rol32 x 15 ^^^ rol32 x 23

/-- SM3 message expansion: the words so far, oldest first, extended by `n`. -/
def sm3Expand : Nat → List Nat → List Nat
  | 0, ws => ws
  | n + 1, ws =>
    let g := fun k => ws.getD (ws.length - k) 0
    sm3Expand n (ws ++ [sm3P1 (g 16 ^^^ g 9 ^^^ rol32 (g 3) 15) ^^^ rol32 (g 13) 7 ^^^ g 6])

/-- SM3 rounds from round j on, over the expanded words. -/
def sm3Rounds (ws : List Nat) : Nat → Nat → List Nat → List Nat
  | n + 1, j, [a, b, c, d, e, f, g, h] =>
    let tj := if j < 16 then 0x79cc4519 else 0x7a879d8a
    let m := 2 ^ 32
    let s1 := rol32 ((rol32 a 12 + e + rol32 tj j) % m) 7
    let s2 := s1 ^^^ rol32 a 12
    let ff := if j < 16 then a ^^^ b ^^^ c else (a &&& b) ||| (a &&& c) ||| (b &&& c)
    let gg := if j < 16 then e ^^^ f ^^^ g else (e &&& f) ||| ((m - 1 - e) &&& g)
    let t1 := (ff + d + s2 + (ws.getD j 0 ^^^ ws.getD (j + 4) 0)) % m
    let t2 := (gg + h + s1 + ws.getD j 0) % m
    sm3Rounds ws n (j + 1) [t1, a, rol32 b 9, c, sm3P0 t2, e, rol32 f 19, g]
  | _, _, v => v

/-- SM3 over whole 64-byte blocks, from a chaining value. -/
def sm3Blocks : Nat → List Byte → List Nat → List Nat
  | 0, _, v => v
  | n + 1, bs, v =>
    let be := fun (i : Nat) => ((bs.drop (4 * i)).take 4).foldl (fun acc (b : Byte) => acc * 256 + b.toNat) 0
    let ws := sm3Expand 52 ((List.range 16).map be)
    sm3Blocks n (bs.drop 64) (List.zipWith (fun x y => x ^^^ y) (sm3Rounds ws 64 0 v) v)

/-- SM3 of some bytes, as a 256-bit number. -/
def sm3 (bs : List Byte) : Nat :=
  let n := bs.length
  let padded := bs ++ [0x80] ++ List.replicate ((119 - n % 64) % 64) 0 ++ (natLe 8 (8 * n)).reverse
  (sm3Blocks (padded.length / 64) padded
    [0x7380166f, 0x4914b2b9, 0x172442d7, 0xda8a0600, 0xa96f30bc, 0x163138aa, 0xe38dee4d, 0xb0fb0e4e]).foldl
    (fun acc w => acc * 2 ^ 32 + w) 0

end Sys2Proof.Machine
end

