-- ==== Sys2Proof/Machine/Datagram.lean ====
section
/-! DEFINITION. Datagrams of the host transport, byte by byte: the header (R378), the tag and the cipher of a session type (R383). -/

namespace Sys2Proof.Machine

/-- The header of a packet the module sends (R378): ACK_VALID, its network, RETRANSMIT; a WINDOW of 64, since each packet is taken
as it arrives (log entry 28, DESIGN CHOICE). -/
def hostHead (type net : Nat) (again : Bool) (session seq ack txc length : Nat) : List Byte :=
  natLe 4 (1 + type * 2 ^ 8 + (1 + 2 * net + if again then 4 else 0) * 2 ^ 16) ++ natLe 4 session ++ natLe 4 seq ++ natLe 4 ack
    ++ natLe 8 txc ++ natLe 2 length ++ natLe 6 64

/-- The nonce of a packet by its header: TXC, then SESSION (R383). -/
def hostNonce (head : List Byte) : Nat := beNat (slice head 16 8 ++ slice head 4 4)

/-- Header, encrypted body and tag under a direction's key (R383). -/
def sealHost (key : Nat) (head body : List Byte) : List Byte :=
  let c := gcmStream key (hostNonce head) body
  head ++ c ++ natBe 16 (gcmTag key (hostNonce head) head c)

end Sys2Proof.Machine

namespace Sys2Proof.HostPkt

open Machine

/-- The 32-byte header. -/
def head (p : HostPkt) : List Byte := p.bytes.take 32

/-- FLAGS. -/
def flags (p : HostPkt) : Nat := field p.bytes 2 1

/-- ACK_VALID. -/
def ackValid (p : HostPkt) : Bool := bit p.flags 0

/-- SESSION: the session ID. -/
def session (p : HostPkt) : Nat := field p.bytes 4 4

/-- Session index. -/
def sess (p : HostPkt) : Nat := p.session % 2 ^ 12

/-- Epoch. -/
def epoch (p : HostPkt) : Nat := p.session / 2 ^ 12

/-- SEQ. -/
def seq (p : HostPkt) : Nat := field p.bytes 8 4

/-- ACK. -/
def ack (p : HostPkt) : Nat := field p.bytes 12 4

/-- TXC. -/
def txc (p : HostPkt) : Nat := field p.bytes 16 8

/-- LENGTH. -/
def length (p : HostPkt) : Nat := field p.bytes 24 2

/-- Are VERSION, TYPE and the reserved fields of the header valid (R380)? -/
def headOk (p : HostPkt) (type : Nat) : Bool :=
  field p.bytes 0 1 == 1 && field p.bytes 1 1 == type && p.flags < 8 && field p.bytes 3 1 == 0 && field p.bytes 27 5 == 0

/-- SEQ and TXC are 0 in a handshake packet (R378). -/
def handshake (p : HostPkt) : Bool := p.seq == 0 && p.txc == 0

/-- The encrypted body. -/
def cipher (p : HostPkt) : List Byte := slice p.bytes 32 p.length

/-- The body under a session's key. -/
def body (p : HostPkt) (key : Nat) : List Byte := gcmStream key (hostNonce p.head) p.cipher

/-- Does the tag verify (R381)? -/
def authentic (p : HostPkt) (key : Nat) : Bool :=
  beNat (slice p.bytes (32 + p.length) 16) == gcmTag key (hostNonce p.head) p.head p.cipher

end Sys2Proof.HostPkt
end

