-- ==== Sys2Proof/Config.lean ====
section
/-! DEFINITION. What the spec leaves open: free values without a body.  Nothing can be proved of which value one has. -/

namespace Sys2Proof.Config

/-- A value the spec leaves open, drawn afresh for each use from the counter `State.free` (log entry 8, DESIGN CHOICE): a random draw
(R172, R274, R384), an order of arrival (R47, R116), an unstated result. -/
opaque freeValue : Nat → Nat

/-- The place of a vector function's result among the FP32 values within 2 ulp of the exact one (R60): a fixed function of
the function's number and the input bits (log entry 7, DEDUCED). -/
opaque vecPlace : Nat → Nat → Nat

/-- The random value r of R52 for an element of P inside an attention firing (R115), which is no element of the output tensor that
R53 numbers: a fixed function of the job seed, the rounding stream and the element's place (log entry 37, DESIGN CHOICE). -/
opaque attnRandom : Nat → Nat → Nat → Nat

/-- What a byte of the stacked SRAM reads as when nothing has written it since the last reset of its unit (R80), by the
count of resets and the address (log entry 5, DESIGN CHOICE). -/
opaque sramByte : Nat → Nat → Byte

/-- What a byte of a before-image log run holds when the run opens to the job again (R322), by the number of the draw and the byte's
place in the run. -/
opaque logByte : Nat → Nat → Byte

/-- The SM2 or SM3 value that the device forms over data the model does not hold (signatures, session keys, quotes), by the
kind of the value and a number naming the data (log entry 6, DESIGN CHOICE). -/
opaque sealValue : Nat → Nat → Nat

/-- Word w of the SM3 hash of the public key that belongs to a private identity key (R451; log entry 6, DESIGN CHOICE). -/
opaque publicHash : Nat → Nat → Nat

/-- The PUF response of a flue die's security monitor (R421; log entry 6, DESIGN CHOICE). -/
opaque pufResponse : Nat → Nat

/-- The home flue die of a job's bank engine, modulo 2 (R348; log entry 19, DEDUCED). -/
opaque bankHome : Nat → Nat

end Sys2Proof.Config
end

