-- ==== Sys2Proof/Machine/Num.lean ====
section
/-! DEFINITION. Element formats (R34, R35), their decoding, and the rounding of an exact value to a format (R52 to R54, R56).
An exact finite value is `(-1)^neg * m * 2^e`. -/

namespace Sys2Proof.Machine

/-- The element formats of R34 that an operand slot can name (R141). -/
inductive Fmt where
  | e2m1 | e2m3 | e3m2 | e4m3 | e5m2 | int8 | bf16 | fp16 | fp32 | t128 | idx32
  deriving DecidableEq, Repr

/-- Format codes (R141). -/
def fmtOfCode : Nat → Option Fmt
  | 1 => some .e2m1 | 2 => some .e2m3 | 3 => some .e3m2 | 4 => some .e4m3 | 5 => some .e5m2 | 6 => some .int8
  | 7 => some .bf16 | 8 => some .fp16 | 9 => some .fp32 | 10 => some .t128 | 11 => some .idx32 | _ => none

/-- (mantissa bits, exponent bits, bias) of a floating-point format (R34). -/
def fmtLayout : Fmt → Nat × Nat × Nat
  | .e2m1 => (1, 2, 1) | .e2m3 => (3, 2, 1) | .e3m2 => (2, 3, 3) | .e4m3 => (3, 4, 7) | .e5m2 => (2, 5, 15)
  | .bf16 => (7, 8, 127) | .fp16 => (10, 5, 15) | .fp32 => (23, 8, 127) | _ => (0, 0, 0)

/-- Bits of an element (R141). -/
def fmtBits : Fmt → Nat
  | .e2m1 => 4 | .e2m3 => 6 | .e3m2 => 6 | .e4m3 => 8 | .e5m2 => 8 | .int8 => 8 | .bf16 => 16 | .fp16 => 16
  | .fp32 => 32 | .t128 => 128 | .idx32 => 32

/-- Packing unit: elements and bytes (R141). -/
def fmtUnit : Fmt → Nat × Nat
  | .e2m1 => (2, 1) | .e2m3 => (4, 3) | .e3m2 => (4, 3) | f => (1, fmtBits f / 8)

/-- Formats that allow block scales (R36, R141). -/
def fmtScales : Fmt → Bool
  | .e2m1 | .e2m3 | .e3m2 | .e4m3 | .e5m2 | .int8 => true
  | _ => false

/-- A decoded element: NaN, an infinity, or `(-1)^neg * m * 2^e`. -/
inductive Elem where
  | nan
  | inf (neg : Bool)
  | fin (neg : Bool) (m : Nat) (e : Int)
  deriving DecidableEq, Repr

/-- Is an element NaN or infinite? -/
def Elem.special : Elem → Bool
  | .fin _ _ _ => false
  | _ => true

/-- The element that a code names (R34). -/
def decodeElem (f : Fmt) (c : Nat) : Elem :=
  match f with
  | .int8 => let v := sext 8 c; .fin (v < 0) v.natAbs 0
  | .idx32 => .fin false c 0
  | .t128 => let v := sext 128 c; if v = -(2 ^ 127 : Int) then .nan else .fin (v < 0) v.natAbs 0
  | _ =>
    let (mb, eb, bias) := fmtLayout f
    let m := c % 2 ^ mb
    let x := c / 2 ^ mb % 2 ^ eb
    let neg := bit c (mb + eb)
    let top := 2 ^ eb - 1
    if f = .e4m3 ∧ x = top ∧ m = 7 then .nan
    else if (f = .e5m2 ∨ f = .bf16 ∨ f = .fp16 ∨ f = .fp32) ∧ x = top then (if m = 0 then .inf neg else .nan)
    else if x = 0 then .fin neg m (1 - (bias : Int) - mb)
    else .fin neg (2 ^ mb + m) ((x : Int) - bias - mb)

/-- floor (log2 m) for m > 0. -/
def flog2 (m : Nat) : Nat := Nat.log2 m

/-- `m * 2^e` truncated to an integer. -/
def shiftNat (m : Nat) (e : Int) : Nat := if 0 ≤ e then m * 2 ^ e.toNat else m / 2 ^ (-e).toNat

/-- Rounding modes (R52): SR carries its random value r. -/
inductive Round where
  | rne | rtz | sr (r : Nat)
  deriving DecidableEq, Repr

/-- `m * 2^e` rounded to an integer (R52). -/
def roundInt (mode : Round) (m : Nat) (e : Int) : Nat :=
  if 0 ≤ e then m * 2 ^ e.toNat
  else
    let k := (-e).toNat
    let i := m / 2 ^ k
    let rest := m % 2 ^ k
    match mode with
    | .rtz => i
    | .rne => if 2 * rest > 2 ^ k ∨ (2 * rest = 2 ^ k ∧ i % 2 = 1) then i + 1 else i
    | .sr r => if rest * 2 ^ 32 / 2 ^ k + r ≥ 2 ^ 32 then i + 1 else i

/-- The NaN code of a format (R56). -/
def fmtNan : Fmt → Nat
  | .fp32 => 0x7FC00000 | .bf16 => 0x7FC0 | .fp16 => 0x7E00 | .e5m2 => 0x7E | .e4m3 => 0x7F | .e2m1 => 8
  | .e2m3 => 0x20 | .e3m2 => 0x20 | .int8 => 0x80 | .t128 => 2 ^ 127 | .idx32 => 0

/-- The code of the largest finite value (R34). -/
def fmtMax : Fmt → Nat
  | .e2m1 => 7 | .e2m3 => 0x1F | .e3m2 => 0x1F | .e4m3 => 0x7E | .e5m2 => 0x7B | .int8 => 127 | .bf16 => 0x7F7F
  | .fp16 => 0x7BFF | .fp32 => 0x7F7FFFFF | .t128 => 2 ^ 127 - 1 | .idx32 => 2 ^ 32 - 1

/-- Formats with infinities (R34). -/
def fmtInf : Fmt → Bool
  | .e5m2 | .bf16 | .fp16 | .fp32 => true
  | _ => false

/-- Formats that hold −0 (R54). -/
def fmtNegZero : Fmt → Bool
  | .fp32 | .bf16 | .fp16 | .e5m2 | .e4m3 => true
  | _ => false

/-- Put the sign bit on a magnitude code; E2M1, E2M3 and E3M2 give +0 for a zero magnitude (R54). -/
def signed (f : Fmt) (neg : Bool) (c : Nat) : Nat :=
  if neg ∧ (c ≠ 0 ∨ fmtNegZero f) then c + 2 ^ (fmtBits f - 1) else c

/-- Code of an infinite value in a format (R54): infinity, or the largest finite value where there is none. -/
def encodeInf (f : Fmt) (neg : Bool) : Nat :=
  match f with
  | .int8 => if neg then 0x80 else 127
  | _ =>
    if fmtInf f then signed f neg ((2 ^ (fmtLayout f).2.1 - 1) * 2 ^ (fmtLayout f).1)
    else signed f neg (fmtMax f)

/-- Code of the exact value `(-1)^neg * m * 2^e` in a format under a rounding mode (R52, R54). -/
def encodeFin (f : Fmt) (mode : Round) (neg : Bool) (m : Nat) (e : Int) : Nat :=
  match f with
  | .int8 =>
    let i := roundInt mode m e
    if neg then ucode 8 (-(min i 128 : Nat)) else min i 127
  | .idx32 => min (roundInt mode m e) (2 ^ 32 - 1)
  | .t128 =>
    let i := min (shiftNat m e) (2 ^ 127 - 1)
    ucode 128 (if neg then -(i : Int) else i)
  | _ =>
    if m = 0 then signed f neg 0
    else
      let (mb, _, bias) := fmtLayout f
      let top : Int := (flog2 m : Int) + e
      let u : Int := max top (1 - (bias : Int)) - mb
      let i := roundInt mode m (e - u)
      let c : Nat := if i < 2 ^ mb then i else i + ((u + mb + bias - 1).toNat) * 2 ^ mb
      if c ≤ fmtMax f then signed f neg c
      else if fmtInf f ∧ mode ≠ .rtz then encodeInf f neg
      else signed f neg (fmtMax f)

/-- The elements of a packed run of bytes (R35): `n` codes. -/
def unpack (f : Fmt) (n : Nat) (bs : List Byte) : List Nat :=
  let (u, ub) := fmtUnit f
  (List.range n).map fun i => field bs (i / u * ub) ub / 2 ^ (fmtBits f * (i % u)) % 2 ^ fmtBits f

/-- The bytes of codes, whole packing units, zeros filling the last (R35). -/
def pack (f : Fmt) (cs : List Nat) : List Byte :=
  let (u, ub) := fmtUnit f
  (List.range (cdiv cs.length u)).flatMap fun j =>
    natLe ub (((List.range u).map fun i => (cs.getD (j * u + i) 0) * 2 ^ (fmtBits f * i)).foldl (· + ·) 0)

end Sys2Proof.Machine
end

