-- ==== Sys2Proof/Machine/Tally.lean ====
section
/-! DEFINITION. Tally words (R38), spills (R40 to R46), combination (R47), and conversion out of T128 (R51, R55). -/

namespace Sys2Proof.Machine

/-- A tally word: none is the NaN tally. -/
abbrev Tally := Option Int

/-- 2^127 - 1. -/
def tallyMax : Int := 2 ^ 127 - 1

/-- The 128-bit code of a tally word (R38). -/
def tallyCode : Tally → Nat
  | none => 2 ^ 127
  | some t => ucode 128 t

/-- The tally word of a 128-bit code (R38). -/
def tallyOf (c : Nat) : Tally := let v := sext 128 c; if v = -(2 ^ 127 : Int) then none else some v

/-- Saturate an exact sum: the word and whether it saturated (R46). -/
def saturate (v : Int) : Int × Bool :=
  if v > tallyMax then (tallyMax, true) else if v < -tallyMax then (-tallyMax, true) else (v, false)

/-- Tally addition (R46): a NaN tally absorbs every addition. -/
def tallyAdd (a b : Tally) : Tally × Bool :=
  match a, b with
  | some x, some y => let r := saturate (x + y); (some r.1, r.2)
  | _, _ => (none, false)

/-- `s * 2^k`, truncated toward zero when `k < 0` (R46, R47). -/
def shiftTz (s : Int) (k : Int) : Int := if 0 ≤ k then s * 2 ^ k.toNat else Int.tdiv s (2 ^ (-k).toNat)

/-- Align a contribution of frame `fi` to the common frame `fc` (R47). -/
def alignTally (t : Tally) (fi fc : Int) : Tally := t.map fun v => shiftTz v (fi - fc)

/-- Combine contributions (word, frame, OVF) in the order given: the word, the common frame, OVF (R47). -/
def combine (cs : List (Tally × Int × Bool)) : Tally × Int × Bool :=
  let fc := match cs with
    | [] => -79
    | c :: t => t.foldl (fun m x => max m x.2.1) c.2.1
  let r := cs.foldl (fun (acc : Tally × Bool) c =>
    let a := tallyAdd acc.1 (alignTally c.1 c.2.1 fc)
    (a.1, acc.2 || a.2 || c.2.2)) (some 0, false)
  (r.1, fc, r.2)

/-! ### Dot products -/

/-- A scaled element of the reduction: the element, and its block's scale exponent; none for scale code 0xFF (R36). -/
abbrev Scaled := Elem × Option Int

/-- Grid exponent and top bit of a format in exact mode. -/
def exactGrid : Fmt → Int × Int
  | .e2m1 => (-1, 2) | .e2m3 => (-3, 2) | .e3m2 => (-4, 4) | .e4m3 => (-9, 8) | _ => (0, 7)

/-- Accumulation modes (R39). -/
inductive AccMode where
  | exact | framed
  deriving DecidableEq, Repr

/-- The mode a format pair selects; none for a refused pair (R39). -/
def pairMode (a b : Fmt) : Option AccMode :=
  let narrow := fun f => f = Fmt.e2m1 ∨ f = .e2m3 ∨ f = .e3m2 ∨ f = .e4m3
  let f8 := fun f => f = Fmt.e4m3 ∨ f = .e5m2
  let f16 := fun f => f = Fmt.bf16 ∨ f = .fp16
  if (narrow a ∧ narrow b) ∨ (a = .int8 ∧ b = .int8) then some .exact
  else if (f8 a ∧ f8 b) ∨ (f16 a ∧ f16 b) then some .framed
  else none

/-- One spill: sum, weight, top exponent. -/
structure Spill where
  /-- S -/
  sum : Int
  /-- w -/
  weight : Int
  /-- t -/
  top : Int
  deriving DecidableEq, Repr

/-- Is an element NaN or infinite, or its block's scale NaN (R56)? -/
def specialElem (x : Scaled) : Bool :=
  match x with
  | (.fin _ _ _, some _) => false
  | _ => true

/-- Exact product of two elements on the grid 2^(uA + uB) (R40); special elements contribute no product (R45). -/
def exactProduct (ua ub : Int) (a b : Elem) : Int :=
  match a, b with
  | .fin na ma ea, .fin nb mb eb =>
    let q : Int := (shiftNat ma (ea - ua) * shiftNat mb (eb - ub) : Nat)
    if na = nb then q else -q
  | _, _ => 0

/-- Spills of one output element in exact mode: groups of 32 k when scaled, 256 when unscaled (R40, R41, R45). -/
def exactSpills (fa fb : Fmt) (scaled : Bool) (as bs : List Scaled) : List Spill :=
  let (ua, ha) := exactGrid fa
  let (ub, hb) := exactGrid fb
  let g := if scaled then 32 else 256
  (List.range (cdiv as.length g)).filterMap fun j =>
    let xs := (as.drop (j * g)).take g
    let ys := (bs.drop (j * g)).take g
    match xs, ys with
    | (_, some sa) :: _, (_, some sb) :: _ =>
      let s := (List.zipWith (fun a b => exactProduct ua ub a.1 b.1) xs ys).foldl (· + ·) 0
      some ⟨s, ua + ub + sa + sb, ha + hb + 1 + sa + sb⟩
    | _, _ => none

/-- Framed product data: exponent eA + eB, significand product, sign; none unless both are finite and non-zero (R42, R43). -/
def framedProduct (ma mb : Nat) (a b : Scaled) : Option (Int × Nat × Bool) :=
  match a, b with
  | (.fin na pa ea, some sa), (.fin nb pb eb, some sb) =>
    if pa = 0 ∨ pb = 0 then none else some (ea + ma + sa + (eb + mb + sb), pa * pb, na != nb)
  | _, _ => none

/-- Spills of one output element in framed mode: chunks of 64 k in two halves (R42, R43). -/
def framedSpills (fa fb : Fmt) (as bs : List Scaled) : List Spill :=
  let ma := (fmtLayout fa).1
  let mb := (fmtLayout fb).1
  (List.range (cdiv as.length 64)).flatMap fun j =>
    let ps := List.zipWith (framedProduct ma mb) ((as.drop (j * 64)).take 64) ((bs.drop (j * 64)).take 64)
    match ps.filterMap id with
    | [] => []
    | p :: rest =>
      let fc := rest.foldl (fun m x => max m x.1) p.1
      let term := fun (o : Option (Int × Nat × Bool)) =>
        match o with
        | none => (0 : Int)
        | some (e, s, neg) =>
          let q : Int := (shiftNat s (e - ma - mb - (fc - 40)) : Nat)
          if neg then -q else q
      [ps.take 32, ps.drop 32].filterMap fun h =>
        if h.isEmpty then none else some ⟨(h.map term).foldl (· + ·) 0, fc - 40, fc + 1⟩

/-- The frame of a tile from the top exponents of its contributions: AUTO of R45. -/
def autoFrame (tops : List Int) : Int :=
  match tops with
  | [] => -79
  | t :: ts => ts.foldl max t - 79

/-- Sum of the spills at frame F: the word and whether it saturated (R46).  Split-k parts are added in ascending k; only where a
partial sum saturates could another order of R47 show (log entry 37, DESIGN CHOICE). -/
def spillSum (f : Int) (ss : List Spill) : Int × Bool :=
  ss.foldl (fun acc s => let r := saturate (acc.1 + shiftTz s.sum (s.weight - f)); (r.1, acc.2 || r.2)) (0, false)

/-! ### Values on the way out -/

/-- A value to be converted: NaN, an infinity (`path` says that it arose on the FP32 path, R54), or a finite value. -/
inductive OutVal where
  | nan
  | inf (neg path : Bool)
  | fin (neg : Bool) (m : Nat) (e : Int)
  deriving DecidableEq, Repr

/-- The value T × 2^(F + z) (R51). -/
def tallyVal (t : Tally) (f z : Int) : OutVal :=
  match t with
  | none => .nan
  | some v => .fin (v < 0) v.natAbs (f + z)

/-- The value of an element. -/
def elemVal : Elem → OutVal
  | .nan => .nan
  | .inf n => .inf n false
  | .fin n m e => .fin n m e

/-- The value of an FP32 code on the FP32 path. -/
def pathVal (c : Nat) : OutVal :=
  match decodeElem .fp32 c with
  | .nan => .nan
  | .inf n => .inf n true
  | .fin n m e => .fin n m e

/-- Code and SPECIAL of a value in an output format (R51 to R57). -/
def encodeVal (f : Fmt) (mode : Round) (v : OutVal) : Nat × Bool :=
  match v with
  | .nan => (fmtNan f, true)
  | .inf neg path => if fmtInf f then (encodeInf f neg, true)
                     else if path then (encodeInf f neg, false) else (fmtNan f, true)
  | .fin neg m e =>
    let c := encodeFin f mode neg m e
    (c, fmtInf f && c % 2 ^ (fmtBits f - 1) == (2 ^ (fmtLayout f).2.1 - 1) * 2 ^ (fmtLayout f).1)

/-- FP32 by round to nearest even (R51). -/
def toFp32 (v : OutVal) : Nat := (encodeVal .fp32 .rne v).1

/-- Top exponent of an element format as an output (R55). -/
def outTop : Fmt → Int
  | .e2m1 | .e2m3 => 2
  | .e3m2 => 4
  | .e4m3 => 8
  | .e5m2 => 15
  | _ => 6

/-- The scale exponent X of a block of output values (R55, steps 1 to 3). -/
def blockExp (f : Fmt) (vs : List OutVal) : Int :=
  let tops := vs.filterMap fun v => match v with
    | .fin _ m e => if m = 0 then none else some ((flog2 m : Int) + e)
    | _ => none
  match tops with
  | [] => -127
  | t :: ts => max (-127) (min 127 (ts.foldl max t - outTop f))

/-- Divide a value by 2^X (R55, step 5). -/
def unscale (x : Int) : OutVal → OutVal
  | .fin n m e => .fin n m (e - x)
  | v => v

end Sys2Proof.Machine
end

