-- ==== Sys2Proof/Machine/Vec.lean ====
section
/-! DEFINITION. The vector unit on FP32 codes (R59), the vector functions (R60) and the epilogue steps (R155). -/

namespace Sys2Proof.Machine

/-- The NaN of every vector result (R59). -/
def nan32 : Nat := 0x7FC00000

/-- Infinity of a sign. -/
def inf32 (neg : Bool) : Nat := if neg then 0xFF800000 else 0x7F800000

/-- An FP32 code with its sign reversed. -/
def neg32 (c : Nat) : Nat := if c < 2 ^ 31 then c + 2 ^ 31 else c - 2 ^ 31

/-- One rounding to nearest even of an exact value. -/
def rne32 (neg : Bool) (m : Nat) (e : Int) : Nat := encodeFin .fp32 .rne neg m e

/-- Exact sum of two finite values as (integer, exponent). -/
def dyAdd (na : Bool) (ma : Nat) (ea : Int) (nb : Bool) (mb : Nat) (eb : Int) : Int × Int :=
  let e := min ea eb
  let x : Int := (ma * 2 ^ (ea - e).toNat : Nat)
  let y : Int := (mb * 2 ^ (eb - e).toNat : Nat)
  ((if na then -x else x) + (if nb then -y else y), e)

/-- Round an exact signed value; an exact zero takes the sign given. -/
def round32 (v : Int × Int) (zeroNeg : Bool) : Nat :=
  if v.1 = 0 then signed .fp32 zeroNeg 0 else rne32 (v.1 < 0) v.1.natAbs v.2

/-- FP32 addition (R59). -/
def add32 (a b : Nat) : Nat :=
  match decodeElem .fp32 a, decodeElem .fp32 b with
  | .nan, _ => nan32
  | _, .nan => nan32
  | .inf n, .inf k => if n = k then inf32 n else nan32
  | .inf n, _ => inf32 n
  | _, .inf k => inf32 k
  | .fin na ma ea, .fin nb mb eb => round32 (dyAdd na ma ea nb mb eb) (ma = 0 && mb = 0 && na && nb)

/-- FP32 subtraction. -/
def sub32 (a b : Nat) : Nat := add32 a (neg32 b)

/-- FP32 multiplication (R59). -/
def mul32 (a b : Nat) : Nat :=
  match decodeElem .fp32 a, decodeElem .fp32 b with
  | .nan, _ => nan32
  | _, .nan => nan32
  | .inf n, .inf k => inf32 (n != k)
  | .inf n, .fin k m _ => if m = 0 then nan32 else inf32 (n != k)
  | .fin n m _, .inf k => if m = 0 then nan32 else inf32 (n != k)
  | .fin na ma ea, .fin nb mb eb => rne32 (na != nb) (ma * mb) (ea + eb)

/-- FP32 fused multiply-add, one rounding (R59). -/
def fma32 (a b c : Nat) : Nat :=
  match decodeElem .fp32 a, decodeElem .fp32 b, decodeElem .fp32 c with
  | .fin na ma ea, .fin nb mb eb, .fin nc mc ec =>
    let np := na != nb
    round32 (dyAdd np (ma * mb) (ea + eb) nc mc ec) (decide (ma * mb = 0) && decide (mc = 0) && np && nc)
  | .fin _ _ _, .fin _ _ _, .inf n => inf32 n
  | _, _, _ => add32 (mul32 a b) c

/-- FP32 division (R59): the quotient to 60 bits with a sticky bit, then one rounding. -/
def div32 (a b : Nat) : Nat :=
  match decodeElem .fp32 a, decodeElem .fp32 b with
  | .nan, _ => nan32
  | _, .nan => nan32
  | .inf _, .inf _ => nan32
  | .inf n, .fin k _ _ => inf32 (n != k)
  | .fin n _ _, .inf k => signed .fp32 (n != k) 0
  | .fin na ma ea, .fin nb mb eb =>
    if mb = 0 then (if ma = 0 then nan32 else inf32 (na != nb))
    else
      let q := ma * 2 ^ 60 / mb
      let sticky := if ma * 2 ^ 60 % mb = 0 then 0 else 1
      rne32 (na != nb) (2 * q + sticky) (ea - eb - 61)

/-- FP32 square root (R59): the root to 40 bits or more with a sticky bit, then one rounding. -/
def sqrt32 (a : Nat) : Nat :=
  match decodeElem .fp32 a with
  | .nan => nan32
  | .inf n => if n then nan32 else inf32 false
  | .fin n m e =>
    if m = 0 then a
    else if n then nan32
    else
      let k : Nat := if (e % 2 = 0) then 80 else 81
      let r := Nat.sqrt (m * 2 ^ k)
      let sticky := if r * r = m * 2 ^ k then 0 else 1
      rne32 false (2 * r + sticky) ((e - k) / 2 - 1)

/-- Order key of a non-NaN FP32 code: −0 below +0 (R59). -/
def key32 (c : Nat) : Int := if c < 2 ^ 31 then (c : Int) else -((c - 2 ^ 31 : Nat) : Int) - 1

/-- Is the code a NaN? -/
def isNan32 (c : Nat) : Bool := decodeElem .fp32 c == .nan

/-- FP32 minimum (R59). -/
def min32 (a b : Nat) : Nat :=
  if isNan32 a then (if isNan32 b then nan32 else b) else if isNan32 b then a
  else if key32 a ≤ key32 b then a else b

/-- FP32 maximum (R59). -/
def max32 (a b : Nat) : Nat :=
  if isNan32 a then (if isNan32 b then nan32 else b) else if isNan32 b then a
  else if key32 a ≥ key32 b then a else b

/-! ### The vector functions (R60).  The result lies within 2 ulp of the exact one: `place` turns the FP32 code just below
the exact magnitude into one of the four codes around it, by the free value of log entry 7, DEDUCED. -/

/-- One of the codes within 2 ulp of a magnitude whose truncated code is `c`. -/
def place32 (fn x : Nat) (neg : Bool) (c : Nat) : Nat :=
  signed .fp32 neg (min (c + Config.vecPlace fn x % 4 - 1) 0x7F800000)

/-- FP32 code of `m * 2^e` truncated. -/
def trunc32 (m : Nat) (e : Int) : Nat := encodeFin .fp32 .rtz false m e

/-- The 128-bit fixed-point constants 2^(2^-i), i = 1 to n, by repeated square roots. -/
def rootTable : Nat → Nat → List Nat
  | 0, _ => []
  | n + 1, c => let r := Nat.sqrt (c * 2 ^ 128); r :: rootTable n r

/-- 2^(f / 2^64) for 0 ≤ f < 2^64, as a 128-bit fixed-point number. -/
def exp2Frac (f : Nat) : Nat :=
  ((rootTable 64 (2 ^ 129)).zipIdx).foldl
    (fun acc c => if bit f (63 - c.2) then acc * c.1 / 2 ^ 128 else acc) (2 ^ 128)

/-- 100 binary digits of log2 of a 128-bit fixed-point number in [1, 2). -/
def log2Digits : Nat → Nat → Nat → Nat
  | 0, _, acc => acc
  | n + 1, m, acc =>
    let q := m * m / 2 ^ 128
    if q ≥ 2 ^ 129 then log2Digits n (q / 2) (2 * acc + 1) else log2Digits n q (2 * acc)

/-- exp2 (R60). -/
def exp2f (a : Nat) : Nat :=
  match decodeElem .fp32 a with
  | .nan => nan32
  | .inf n => if n then 0 else inf32 false
  | .fin n m e =>
    if m = 0 then 0x3F800000
    else if ¬ n ∧ shiftNat m e ≥ 128 then inf32 false
    else if n ∧ (shiftNat m e > 150 ∨ (shiftNat m e = 150 ∧ shiftNat m e * 2 ^ 200 ≠ shiftNat m (e + 200))) then 0
    else if n ∧ shiftNat m e = 150 then place32 1 a false 0
    else if shiftNat m e * 2 ^ 200 = shiftNat m (e + 200) then
      rne32 false 1 (if n then -(shiftNat m e : Int) else (shiftNat m e : Int))
    else if e < -60 then place32 1 a false (if n then 0x3F7FFFFF else 0x3F800000)
    else
      let x := shiftNat m (e + 64)
      if n then place32 1 a false (trunc32 (exp2Frac (2 ^ 64 - x % 2 ^ 64)) (-129 - (x / 2 ^ 64 : Nat)))
      else place32 1 a false (trunc32 (exp2Frac (x % 2 ^ 64)) (-128 + (x / 2 ^ 64 : Nat)))

/-- log2 (R60). -/
def log2f (a : Nat) : Nat :=
  match decodeElem .fp32 a with
  | .nan => nan32
  | .inf n => if n then nan32 else inf32 false
  | .fin n m e =>
    if m = 0 then inf32 true
    else if n then nan32
    else
      let k := flog2 m
      let top : Int := k + e
      if m = 2 ^ k then rne32 (top < 0) top.natAbs 0
      else
        let v : Int := top * 2 ^ 100 + (log2Digits 100 (m * 2 ^ (128 - k)) 0 : Nat)
        place32 2 a (v < 0) (trunc32 v.natAbs (-100))

/-- rsqrt (R60). -/
def rsqrtf (a : Nat) : Nat :=
  match decodeElem .fp32 a with
  | .nan => nan32
  | .inf n => if n then nan32 else 0
  | .fin n m e =>
    if m = 0 then inf32 n
    else if n then nan32
    else
      let k := flog2 m
      let top : Int := k + e
      if m = 2 ^ k ∧ top % 2 = 0 then rne32 false 1 (-(top / 2))
      else
        let (m', e') := if e % 2 = 0 then (m, e) else (2 * m, e - 1)
        place32 3 a false (trunc32 (Nat.sqrt (2 ^ 200 / m')) (-100 - e' / 2))

/-- log2 e in 128-bit fixed point. -/
def log2e : Nat := 0x171547652b82fe1777d0ffda0d23a7d11

/-- tanh (R60): (E − 1) / (E + 1) with E = e^(2x), and x − x³/3 for small x. -/
def tanhf (a : Nat) : Nat :=
  match decodeElem .fp32 a with
  | .nan => nan32
  | .inf n => signed .fp32 n 0x3F800000
  | .fin n m e =>
    if m = 0 then a
    else if shiftNat m e ≥ 9 then signed .fp32 n 0x3F800000
    else if (flog2 m : Int) + e < -14 then
      if (flog2 m : Int) + e < -40 then place32 4 a n (if a % 2 ^ 31 = 0 then 0 else a % 2 ^ 31 - 1)
      else
        let x := shiftNat m (e + 200)
        place32 4 a n (trunc32 (x - x * x * x / 3 / 2 ^ 400) (-200))
    else
      let y := shiftNat m (e + 65) * log2e / 2 ^ 128
      let ex := exp2Frac (y % 2 ^ 64) * 2 ^ (y / 2 ^ 64)
      place32 4 a n (trunc32 ((ex - 2 ^ 128) * 2 ^ 64 / (ex + 2 ^ 128)) (-64))

/-- The elementwise functions (R153) on FP32 codes; the inputs it does not use are ignored. -/
def elementwise (fn x y z : Nat) : Nat :=
  match fn with
  | 0 => x
  | 1 => add32 x y
  | 2 => sub32 x y
  | 3 => mul32 x y
  | 4 => fma32 x y z
  | 5 => min32 x y
  | 6 => max32 x y
  | 7 => exp2f x
  | 8 => log2f x
  | 9 => rsqrtf x
  | 10 => tanhf x
  | 11 => div32 x y
  | _ => sqrt32 x

/-- One epilogue step on the running value x, with the C element c and the parameter (R155). -/
def epilogueStep (step x c param : Nat) : Nat :=
  match step with
  | 1 => add32 x c
  | 2 => add32 x c
  | 3 => mul32 x param
  | 4 => if isNan32 x then x else if x < 2 ^ 31 ∧ x ≠ 0 then x else 0
  | 5 => if isNan32 x then x else min32 (max32 x (neg32 param)) param
  | 6 =>
    let t := mul32 (mul32 x x) x
    let u := mul32 (fma32 0x3D372713 t x) 0x3F4C422A
    mul32 (mul32 0x3F000000 x) (add32 0x3F800000 (tanhf u))
  | 7 =>
    let s := mul32 0x3F000000 x
    mul32 s (add32 0x3F800000 (tanhf s))
  | _ => x

end Sys2Proof.Machine
end

