-- ==== Sys2Proof/Machine/Desc.lean ====
section
/-! DEFINITION. The firing descriptor (R136 to R157): its fields, the layout of each family's operands, and the checks of
R107 that need the descriptor alone.  Checks 4 to 6 take what they need of the module from the caller. -/

namespace Sys2Proof.Machine

/-- An operand slot (R142). -/
structure Slot where
  /-- ADDR -/
  addr : Nat := 0
  /-- AUX_ADDR -/
  aux : Nat := 0
  /-- ROW_STRIDE -/
  stride : Nat := 0
  /-- ATTR -/
  attr : Nat := 0
  /-- BATCH_STRIDE -/
  bstride : Nat := 0
  deriving DecidableEq, Repr

/-- A descriptor (R137). -/
structure Desc where
  /-- CONTROL -/
  control : Nat
  /-- EXPECTED_CYCLES -/
  expected : Nat
  /-- COMPLETION_ADDR -/
  completion : Nat
  /-- ROUND_STREAM -/
  stream : Nat
  /-- FRAME -/
  frame : Nat
  /-- EPILOGUE -/
  epilogue : Nat
  /-- SHAPE_0 to SHAPE_7 -/
  shape : List Nat
  /-- EXTRA -/
  extra : List Byte
  /-- OPERAND_0 to OPERAND_3 -/
  slots : List Slot
  /-- WAIT_0, WAIT_1 -/
  waits : List Nat
  /-- SIGNAL_0, SIGNAL_1 -/
  signals : List Nat
  deriving DecidableEq, Repr

/-- The slot in 32 bytes (R142). -/
def slotOf (bs : List Byte) : Slot :=
  ⟨field bs 0 8, field bs 8 8, field bs 16 4, field bs 20 4, field bs 24 8⟩

/-- The descriptor in 256 bytes (R137). -/
def descOf (bs : List Byte) : Desc :=
  { control := field bs 0 4, expected := field bs 4 4, completion := field bs 8 8, stream := field bs 0x10 4
    frame := field bs 0x14 4, epilogue := field bs 0x18 8
    shape := (List.range 8).map fun i => field bs (0x20 + 4 * i) 4
    extra := slice bs 0x40 32
    slots := (List.range 4).map fun i => slotOf (slice bs (0x60 + 32 * i) 32)
    waits := [field bs 0xE0 8, field bs 0xE8 8]
    signals := [field bs 0xF0 8, field bs 0xF8 8] }

/-- OPCODE. -/
def Desc.op (d : Desc) : Nat := bits d.control 7 0
/-- SUBOP. -/
def Desc.subop (d : Desc) : Nat := bits d.control 15 8
/-- FRAME_MODE is FIXED. -/
def Desc.fixed (d : Desc) : Bool := bit d.control 20
/-- TWO_PHASE. -/
def Desc.twoPhase (d : Desc) : Bool := bit d.control 21
/-- FIXED_F. -/
def Desc.fixedF (d : Desc) : Int := sext 16 d.frame
/-- Output scale exponent z. -/
def Desc.z (d : Desc) : Int := sext 8 (d.frame / 2 ^ 16)
/-- Shape field i. -/
def Desc.sh (d : Desc) (i : Nat) : Nat := d.shape.getD i 0
/-- Slot i. -/
def Desc.slot (d : Desc) (i : Nat) : Slot := d.slots.getD i {}
/-- Epilogue steps before END. -/
def Desc.steps (d : Desc) : List Nat :=
  ((List.range 4).map fun i => bits d.epilogue (8 * i + 7) (8 * i)).takeWhile (· ≠ 0)
/-- PARAM. -/
def Desc.param (d : Desc) : Nat := bits d.epilogue 63 32
/-- FORMAT code of a slot. -/
def Slot.code (o : Slot) : Nat := bits o.attr 3 0
/-- SCALED. -/
def Slot.scaled (o : Slot) : Bool := bit o.attr 4
/-- RANK_MODE. -/
def Slot.rank (o : Slot) : Bool := bit o.attr 5
/-- ORDER. -/
def Slot.order (o : Slot) : Bool := bit o.attr 6
/-- Format of a slot (IDX32 stands where the code names none). -/
def Slot.fmt (o : Slot) : Fmt := (fmtOfCode o.code).getD .idx32
/-- Is the slot used? -/
def Slot.used (o : Slot) : Bool := o.code ≠ 0
/-- A frame or scale table hangs on the slot. -/
def Slot.table (o : Slot) : Bool := o.scaled || o.fmt == .t128

/-- EXTRA field of `n` bytes at offset `o` of the descriptor. -/
def Desc.ex (d : Desc) (o n : Nat) : Nat := field d.extra (o - 0x40) n

/-- A family of opcodes (R147). -/
inductive Family where
  | gemm | conv | attention | elementwise | reduction | gather | scatter | transpose | bank | signal
  deriving DecidableEq, Repr

/-- The family of an opcode (R147). -/
def famOf : Nat → Option Family
  | 0x10 | 0x11 => some .gemm
  | 0x20 => some .conv
  | 0x30 => some .attention
  | 0x40 => some .elementwise
  | 0x41 => some .reduction
  | 0x50 => some .gather
  | 0x51 => some .scatter
  | 0x60 => some .transpose
  | 0x70 => some .bank
  | 0x80 => some .signal
  | _ => none

/-- The family of a descriptor (signal and wait stands where the opcode names none). -/
def Desc.fam (d : Desc) : Family := (famOf d.op).getD .signal

/-- Number of shape fields a family uses (R147). -/
def shapeCount (op : Nat) : Nat :=
  match op with
  | 0x10 => 3 | 0x11 => 4 | 0x20 => 8 | 0x30 => 5 | 0x40 => 2 | 0x41 => 2 | 0x50 => 3 | 0x51 => 3 | 0x60 => 3 | _ => 0

/-- Highest SUBOP of a family (R147, R153). -/
def subopMax (op : Nat) : Nat :=
  match op with
  | 0x40 => 12 | 0x41 => 3 | 0x51 => 1 | _ => 0

/-- Inputs an elementwise function uses (R153). -/
def elementInputs (fn : Nat) : Nat :=
  match fn with
  | 1 | 2 | 3 | 5 | 6 | 11 => 2 | 4 => 3 | _ => 1

/-- Convolution geometry (R149). -/
structure Geo where
  /-- stride h -/
  sh : Nat
  /-- stride w -/
  sw : Nat
  /-- padding top -/
  top : Nat
  /-- padding left -/
  left : Nat
  /-- dilation h -/
  dh : Nat
  /-- dilation w -/
  dw : Nat
  /-- output height -/
  oh : Int
  /-- output width -/
  ow : Int
  deriving DecidableEq, Repr

/-- The geometry of a convolution descriptor (R149); a stride of 0 gives dimension 0. -/
def geoOf (d : Desc) : Geo :=
  let e := fun o => d.ex o 2
  let dim := fun (x p q k dl st : Nat) =>
    if st = 0 then (0 : Int) else Int.fdiv ((x : Int) + p + q - dl * ((k : Int) - 1) - 1) st + 1
  { sh := e 0x40, sw := e 0x42, top := e 0x44, left := e 0x48, dh := e 0x4C, dw := e 0x4E
    oh := dim (d.sh 2) (e 0x44) (e 0x46) (d.sh 6) (e 0x4C) (e 0x40)
    ow := dim (d.sh 3) (e 0x48) (e 0x4A) (d.sh 7) (e 0x4E) (e 0x42) }

/-- Part an operand plays in its family. -/
inductive Part where
  | a | b | c | input | out | red | idx | page
  deriving DecidableEq, Repr

/-- How a family uses a slot (R143, R146, R147): the logical matrix, and the view of its scale and frame tables. -/
structure Use where
  /-- part -/
  part : Part
  /-- rows -/
  rows : Nat
  /-- columns -/
  cols : Nat
  /-- batch members -/
  batch : Nat := 1
  /-- a slot that may be absent -/
  optional : Bool := false
  /-- rows of the table view -/
  trows : Nat
  /-- columns of the table view -/
  tcols : Nat
  /-- members of the table view -/
  tbatch : Nat := 1
  deriving DecidableEq, Repr

/-- A use whose table view is its matrix. -/
def useOf (p : Part) (r c : Nat) (b : Nat := 1) (opt : Bool := false) : Use := ⟨p, r, c, b, opt, r, c, b⟩

/-- The use of slot i (R147, R149, R150). -/
def Desc.use (d : Desc) (i : Nat) : Option Use :=
  let s := d.sh
  let bias := d.steps.contains 2
  match d.fam with
  | .gemm =>
    let b := if d.op = 0x11 then s 3 else 1
    match i with
    | 0 => some (useOf .a (s 0) (s 2) b)
    | 1 => some (useOf .b (s 2) (s 1) b)
    | 2 => some (useOf .c (if bias then 1 else s 0) (s 1) b true)
    | _ => some (useOf .out (s 0) (s 1) b)
  | .conv =>
    let g := geoOf d
    let p := s 1 * g.oh.toNat * g.ow.toNat
    let k := s 6 * s 7 * s 4
    match i with
    | 0 => some ⟨.a, 1, s 1 * s 2 * s 3 * s 0 * s 4, 1, false, p, k, s 0⟩
    | 1 => some ⟨.b, 1, s 0 * s 5 * k, 1, false, k, s 5, s 0⟩
    | 2 => some (if bias then ⟨.c, 1, s 0 * s 5, 1, true, 1, s 5, s 0⟩ else ⟨.c, 1, p * s 0 * s 5, 1, true, p, s 5, s 0⟩)
    | _ => some ⟨.out, 1, p * s 0 * s 5, 1, false, p, s 5, s 0⟩
  | .attention =>
    match i with
    | 0 => some ⟨.a, 1, s 0 * s 3 * s 1 * s 4, 1, false, s 3, s 4, s 0 * s 1⟩
    | 3 => some ⟨.out, 1, s 0 * s 3 * s 1 * s 4, 1, false, s 3, s 4, s 0 * s 1⟩
    | _ => some (useOf .page 1 (s 4))
  | .elementwise => if i = 3 then some (useOf .out (s 0) (s 1))
                    else if i < elementInputs d.subop then some (useOf .input (s 0) (s 1)) else none
  | .reduction => if i = 0 then some (useOf .input (s 0) (s 1)) else if i = 3 then some (useOf .red (s 0) 1) else none
  | .gather =>
    match i with
    | 0 => some (useOf .input (s 1) (s 2)) | 1 => some (useOf .idx 1 (s 0)) | 3 => some (useOf .out (s 0) (s 2)) | _ => none
  | .scatter =>
    match i with
    | 0 => some (useOf .input (s 0) (s 2)) | 1 => some (useOf .idx 1 (s 0)) | 3 => some (useOf .out (s 1) (s 2)) | _ => none
  | .transpose =>
    match i with
    | 0 => some (useOf .input (s 1) (s 2) (s 0)) | 3 => some (useOf .out (s 2) (s 1) (s 0)) | _ => none
  | .bank => none
  | .signal => none

/-- A failing check of R107: its number, its status, the FAULT_SLOT of R158. -/
structure Fail where
  /-- check 1 to 6 -/
  check : Nat
  /-- status -/
  status : Status
  /-- FAULT_SLOT -/
  slot : Nat
  deriving DecidableEq, Repr

/-- The first condition that holds fails the check. -/
def firstFail (chk : Nat) (st : Status) : List (Bool × Nat) → Option Fail
  | [] => none
  | (b, slot) :: t => if b then some ⟨chk, st, slot⟩ else firstFail chk st t

/-- Element format conditions of R148 and the table rules of R142 for one slot.  A block-scaled K or V page operand is refused:
R151 places no scale table for it (log entry 37, DESIGN CHOICE). -/
def slotFaulty (d : Desc) (i : Nat) : Bool :=
  let o := d.slot i
  match d.use i with
  | none => o ≠ {}
  | some u =>
    if ¬ o.used then (o ≠ {} || ! u.optional)
    else
      (fmtOfCode o.code).isNone || o.attr / 2 ^ 7 ≠ 0 || bit o.bstride 63
      || (o.scaled && ! fmtScales o.fmt)
      || (o.bstride ≠ 0 && ! (d.op = 0x11 || d.op = 0x60 || u.part = .page))
      || (o.aux ≠ 0 && ! o.table)
      || ((o.fmt = .idx32) != (u.part = .idx))
      || (u.part = .page && (o.scaled || o.rank || o.order || o.fmt = .t128 || o.addr / 2 ^ 48 ≠ 0))
      || ((d.fam = .conv || (d.fam = .attention && u.part ≠ .page)) && (o.order || o.stride ≠ 0))

/-- Is a slot of the family's inputs of a format the family refuses (R148)? -/
def familyFaults (d : Desc) : List (Bool × Nat) :=
  let f := fun i => (d.slot i).fmt
  match d.fam with
  | .gemm | .conv =>
    [((pairMode (f 0) (f 1)).isNone, 0),
     ((d.slot 2).used && ! (f 2 = .bf16 || f 2 = .fp16 || f 2 = .fp32 || f 2 = .t128), 2)]
  | .attention =>
    let p := fmtOfCode (bits (d.ex 0x5C 4) 5 2)
    [((pairMode (f 0) (f 1)).isNone, 0), (p.isNone || (pairMode (p.getD .idx32) (f 2)).isNone, 2),
     (bits (d.ex 0x5C 4) 31 6 ≠ 0 || bits (d.ex 0x58 4) 30 23 = 0xFF, 5),
     (! bit (d.ex 0x5C 4) 1 && (d.ex 0x48 8 ≠ 0 || d.ex 0x50 8 ≠ 0), 5)]
  | .elementwise => (List.range 3).map fun i => ((d.slot i).used && f i = .t128, i)
  | .reduction => [(f 0 = .t128 || f 0 = .idx32 || (f 0 = .int8 && d.subop < 2), 0)]
  | .scatter => [(d.subop = 1 && (f 3 ≠ .t128 || ! d.fixed), 3)]
  | .transpose =>
    [(f 0 ≠ f 3 && ((f 0 = .t128 || f 0 = .idx32) || (f 3 = .t128 || f 3 = .idx32)), 3)]
  | _ => []

/-- The epilogue rules of R155, R156 and R148. -/
def epilogueFaults (d : Desc) : List (Bool × Nat) :=
  let all := (List.range 4).map fun i => bits d.epilogue (8 * i + 7) (8 * i)
  let st := d.steps
  let ct := (d.slot 2).fmt = .t128 && (d.slot 2).used
  if d.fam = .gemm ∨ d.fam = .conv then
    [(all.any (· > 7) || (all.drop st.length).any (· ≠ 0), 7),
     ((st.contains 1 || st.contains 2) != (d.slot 2).used, 2),
     (st.contains 1 && st.contains 2, 2),
     (ct && (st.contains 2 || st.head? ≠ some 1 || (st.drop 1).contains 1), 2),
     (st.contains 5 && (bits d.param 30 23 = 0xFF || (bit d.param 31 && d.param ≠ 2 ^ 31)), 7),
     (d.param ≠ 0 && ! (st.contains 3 || st.contains 5), 7),
     ((d.slot 3).fmt = .t128 && ! (st.isEmpty || (ct && st = [1])), 3)]
  else [(d.epilogue ≠ 0, 7)]

/-- Families that read OUT_SCALE (R139). -/
def usesScale (d : Desc) : Bool := d.fam = .gemm || d.fam = .conv || (d.fam = .reduction && d.subop < 2)

/-- A wait or signal entry with a set bit where none may be (R157). -/
def entryFaulty (v hi lo : Nat) : Bool := if bit v 12 then bits v hi lo ≠ 0 else v ≠ 0

/-- Check 1 of R107: codes, reserved bits, unused fields, format pairs (R138 to R157). -/
def check1 (d : Desc) : Option Fail :=
  firstFail 1 .shape
    ([((famOf d.op).isNone, 7),
      (bits d.control 31 24 ≠ 1 || bits d.control 19 16 > 2 || bits d.control 23 22 ≠ 0 || d.subop > subopMax d.op, 7),
      (bits d.frame 31 24 ≠ 0 || (! d.fixed && bits d.frame 15 0 ≠ 0) || (d.z ≠ 0 && ! usesScale d), 7),
      ((d.shape.drop (shapeCount d.op)).any (· ≠ 0), 7),
      (match d.fam with
        | .attention => false
        | .conv => (d.extra.drop 16).any (· ≠ 0)
        | _ => d.extra.any (· ≠ 0), 5),
      (d.waits.any (entryFaulty · 31 13) || d.signals.any (entryFaulty · 15 14), 6)]
    ++ (List.range 4).map (fun i => (slotFaulty d i, i)) ++ familyFaults d ++ epilogueFaults d)

/-- 2^63 - 1. -/
def spanLimit : Nat := 2 ^ 63 - 1

/-- The stored stride of an operand (R144). -/
def strideOf (o : Slot) (u : Use) : Nat :=
  let (n, nb) := fmtUnit o.fmt
  if o.stride = 0 then pad64 (cdiv (if o.order then u.rows else u.cols) n * nb) else o.stride

/-- The span of an operand and of its table (R144, R146): none when a value passes the limit or a stride is too small. -/
def spansOf (d : Desc) (i : Nat) (u : Use) : Option (Nat × Nat) :=
  let o := d.slot i
  let (n, nb) := fmtUnit o.fmt
  let fast := if o.order then u.rows else u.cols
  let slow := if o.order then u.cols else u.rows
  let rowBytes := cdiv fast n * nb
  let minStride := pad64 rowBytes
  let stride := strideOf o u
  let matrix := (slow - 1) * stride + rowBytes
  let shared := u.batch = 1 ∨ (o.bstride = 0 ∧ i ≠ 3)
  let span := if shared then matrix else (u.batch - 1) * o.bstride + matrix
  let tiles := if u.part = .red then u.rows else cdiv u.trows 32 * cdiv u.tcols 64
  let lines := if u.part = .b then u.tcols else u.trows
  let depth := if u.part = .b then u.trows else u.tcols
  let per := if o.fmt = .t128 then pad64 (4 * tiles) else lines * pad64 (cdiv depth 32)
  let members := if u.batch > 1 ∧ o.bstride = 0 then 1 else u.tbatch
  let aux := if o.table then members * per else 0
  if fast + n - 1 > spanLimit ∨ slow > spanLimit ∨ rowBytes + 63 > spanLimit ∨ stride < minStride ∨ matrix > spanLimit
      ∨ (¬ shared ∧ (matrix + 63 > spanLimit ∨ o.bstride < pad64 matrix)) ∨ span > spanLimit
      ∨ (o.table ∧ (4 * tiles + 63 > spanLimit ∨ depth + 31 > spanLimit ∨ aux > spanLimit)) then none
  else some (span, aux)

/-- Bytes from a page's start that a page operand can touch: one KV head row beyond every head stride (R151). -/
def pageRow (d : Desc) (i : Nat) : Nat := let (n, nb) := fmtUnit (d.slot i).fmt; cdiv (d.sh 4) n * nb

/-- Check 2 of R107: shape ranges and sizes (R138, R144, R147 to R149). -/
def check2 (d : Desc) : Option Fail :=
  let n := shapeCount d.op
  firstFail 2 .shape
    ([((d.shape.take n).any fun v => v = 0 || v > 2 ^ 31 - 1, 7),
      (d.fam = .conv && (let g := geoOf d; g.sh = 0 || g.sw = 0 || g.dh = 0 || g.dw = 0 || g.oh < 1 || g.ow < 1), 5),
      (d.fam = .attention && (d.sh 1 % (max 1 (d.sh 2)) ≠ 0 || d.sh 0 > 1024), 7)]
    ++ (List.range 4).map fun i =>
        (match d.use i with
          | some u => (d.slot i).used && u.part ≠ .page && (spansOf d i u).isNone
          | none => false, i))

/-- Check 3 of R107: alignment (R140, R145). -/
def check3 (d : Desc) : Option Fail :=
  firstFail 3 .align
    ((List.range 4).map (fun i =>
        let o := d.slot i
        let page := match d.use i with | some u => u.part = .page | none => false
        (o.used && ((! page && o.addr % 64 ≠ 0) || o.aux % 64 ≠ 0 || o.stride % 64 ≠ 0 || o.bstride % 64 ≠ 0
          || (page && o.addr % 64 ≠ 0)), i))
    ++ [(d.fam = .attention && (d.ex 0x40 8 % 64 ≠ 0 || d.ex 0x48 8 % 64 ≠ 0 || d.ex 0x50 8 % 64 ≠ 0), 5),
        (d.completion % 32 ≠ 0, 4)])

/-- The local ranges an operand and its table take (address, span, table address, table span); none where unused. -/
def Desc.ranges (d : Desc) (i : Nat) : Option (Nat × Nat × Nat × Nat) :=
  match d.use i with
  | some u =>
    if ¬ (d.slot i).used ∨ u.part = .page then none
    else
      let (sp, ax) := (spansOf d i u).getD (0, 0)
      some ((d.slot i).addr, sp, (d.slot i).aux, ax)
  | none => none

/-- The waits in force: (counter, target) (R157). -/
def Desc.waitList (d : Desc) : List (Nat × Nat) :=
  d.waits.filterMap fun v => if bit v 12 then some (bits v 11 0, bits v 63 32) else none

/-- The signals in force: (counter, rank mode, target, increment) (R157). -/
def Desc.signalList (d : Desc) : List (Nat × Bool × Nat × Nat) :=
  d.signals.filterMap fun v => if bit v 12 then some (bits v 11 0, bit v 13, bits v 31 16, bits v 63 32) else none

end Sys2Proof.Machine
end

