-- ==== Sys2Proof/Machine/Compute.lean ====
section
/-! DEFINITION. The tiler (R110 to R114) and what a tile writes (R40 to R62, R115, R116, R143 to R156).  Operand bytes come
from a reader `rd address length`; the descriptor's addresses are already resolved (R108).  Every definition is a function of
operands and descriptor alone (R49, R64). -/

namespace Sys2Proof.Machine

/-- Reads bytes at a global address. -/
abbrev Reader := Nat → Nat → List Byte

/-- A captured sequence slot (R126): tokens held, tokens per page, page addresses. -/
structure SeqCap where
  /-- slot number -/
  slot : Nat
  /-- Tokens at capture -/
  tokens : Nat
  /-- page tokens -/
  pageTokens : Nat
  /-- page addresses -/
  pages : List Nat
  deriving DecidableEq, Repr

/-- What a tile's computation needs beside the operands: the job seed, the captured slots, the free-value base. -/
structure Env where
  /-- job seed (R53) -/
  seed : Nat
  /-- captured slots, one per sequence -/
  caps : List SeqCap
  /-- number from which the firing's free values are drawn -/
  free : Nat
  deriving DecidableEq, Repr

/-! ### Tiling -/

/-- The matrix view of a GEMM or convolution: batch, rows, columns, depth (R114). -/
def viewOf (d : Desc) : Nat × Nat × Nat × Nat :=
  match d.fam with
  | .conv => let g := geoOf d; (d.sh 0, d.sh 1 * g.oh.toNat * g.ow.toNat, d.sh 5, d.sh 6 * d.sh 7 * d.sh 4)
  | _ => (if d.op = 0x11 then d.sh 3 else 1, d.sh 0, d.sh 1, d.sh 2)

/-- Double s while the units fit the cores and the granules (R111). -/
def splitLoop (t kg c : Nat) : Nat → Nat → Nat
  | 0, s => s
  | n + 1, s => if t * s * 2 ≤ c ∧ s * 2 ≤ kg ∧ s < 64 then splitLoop t kg c n (s * 2) else s

/-- Core tiles and k parts per tile of a matrix view on c cores (R111). -/
def tilesAndParts (b m n k c : Nat) : Nat × Nat :=
  let t := b * cdiv m 64 * cdiv n 128
  let kg := cdiv k 256
  let s := splitLoop t kg c 6 1
  (t, cdiv kg (cdiv kg s))

/-- Keys an attention firing sees of a sequence: with APPEND the new tokens count (R127, R152). -/
def keysOf (d : Desc) (cap : SeqCap) : Nat := cap.tokens + if bit (d.ex 0x5C 4) 1 then d.sh 3 else 0

/-- Units per tile, tile by tile (R111, R114, R115): the list's length is the number of tiles. -/
def unitsPerTile (d : Desc) (env : Env) (c : Nat) : List Nat :=
  match d.fam with
  | .gemm => let (b, m, n, k) := viewOf d; let (t, s) := tilesAndParts b m n k c; List.replicate t s
  | .conv => let (b, m, n, k) := viewOf d; let (t, s) := tilesAndParts b m n k c; List.replicate t s
  | .attention =>
    (List.range (d.sh 0)).flatMap fun q =>
      let keys := match env.caps[q]? with | some cap => keysOf d cap | none => 0
      List.replicate (d.sh 1 * cdiv (d.sh 3) 64) (max 1 (cdiv keys 2048))
  | .elementwise => List.replicate (cdiv (d.sh 0 * d.sh 1) 65536) 1
  | .reduction =>
    if d.sh 1 ≤ 65536 then List.replicate (cdiv (d.sh 0) (65536 / max 1 (d.sh 1))) 1
    else List.replicate (d.sh 0) (cdiv (d.sh 1) 65536)
  | .gather => List.replicate (cdiv (d.sh 0) 256) 1
  | .scatter => List.replicate (cdiv (d.sh 0) 256) 1
  | .transpose => List.replicate (d.sh 0 * cdiv (d.sh 1) 64 * cdiv (d.sh 2) 64) 1
  | .bank => []
  | .signal => []

/-- The tile a unit belongs to (R111). -/
def tileOfUnit : List Nat → Nat → Nat → Option Nat
  | [], _, _ => none
  | n :: t, u, k => if u < n then some k else tileOfUnit t (u - n) (k + 1)

/-- First unit of a tile. -/
def firstUnit (ns : List Nat) (t : Nat) : Nat := (ns.take t).foldl (· + ·) 0

/-- Owners of units 0 to n − 1 (R112): a unit whose slot is a hole goes to the live cores in turn. -/
def ownersOf (c : Nat) (hole : Nat → Bool) (live : List Nat) : Nat → Nat → Nat → List Nat
  | 0, _, _ => []
  | n + 1, u, j =>
    let slot := u % c
    if hole slot then (live.getD (j % live.length) 0) :: ownersOf c hole live n (u + 1) (j + 1)
    else slot :: ownersOf c hole live n (u + 1) j

/-! ### Operand elements -/

/-- Address of the packing unit that holds the element at (batch j, row r, column c) of an operand, and its place there
(R35, R143). -/
def placeOf (o : Slot) (u : Use) (j r c : Nat) : Nat × Nat :=
  let (n, nb) := fmtUnit o.fmt
  let fast := if o.order then r else c
  let slow := if o.order then c else r
  (o.addr + j * o.bstride + slow * strideOf o u + fast / n * nb, fast % n)

/-- Code of the element at (batch j, row r, column c) of an operand. -/
def codeAt (rd : Reader) (o : Slot) (u : Use) (j r c : Nat) : Nat :=
  let (a, i) := placeOf o u j r c
  leNat (rd a (fmtUnit o.fmt).2) / 2 ^ (fmtBits o.fmt * i) % 2 ^ fmtBits o.fmt

/-- The bytes of row r of an operand, as ranges. -/
def rowRanges (o : Slot) (u : Use) (r : Nat) : List (Nat × Nat) :=
  let (n, nb) := fmtUnit o.fmt
  if o.order then (List.range u.cols).map fun c => ((placeOf o u 0 r c).1, nb) else [((placeOf o u 0 r 0).1, cdiv u.cols n * nb)]

/-- Scale exponent of block b of a table line; none for code 0xFF (R36, R146). -/
def scaleAt (rd : Reader) (o : Slot) (u : Use) (j line b : Nat) : Option Int :=
  if o.scaled then
    let lines := if u.part = .b then u.tcols else u.trows
    let depth := if u.part = .b then u.trows else u.tcols
    let j' := if u.batch > 1 ∧ o.bstride = 0 then 0 else j
    let x := leNat (rd (o.aux + (j' * lines + line) * pad64 (cdiv depth 32) + b) 1)
    if x = 255 then none else some ((x : Int) - 127)
  else some 0

/-- Frame-table entry of a T128 operand: frame and OVF (R38, R146). -/
def frameAt (rd : Reader) (o : Slot) (u : Use) (j ta tb : Nat) : Int × Bool :=
  let tc := cdiv u.tcols 64
  let j' := if u.batch > 1 ∧ o.bstride = 0 then 0 else j
  let v := leNat (rd (o.aux + j' * pad64 (4 * (cdiv u.trows 32 * tc)) + 4 * (ta * tc + tb)) 4)
  (sext 16 v, bit v 16)

/-- The element with its block scale applied to its exponent; a NaN scale gives NaN (R36). -/
def scaledElem (rd : Reader) (o : Slot) (u : Use) (j r c : Nat) : Elem :=
  match decodeElem o.fmt (codeAt rd o u j r c), scaleAt rd o u j r (c / 32) with
  | _, none => .nan
  | .fin n m e, some s => .fin n m (e + s)
  | x, _ => x

/-- A placeholder use for an absent one. -/
def Desc.use! (d : Desc) (i : Nat) : Use := (d.use i).getD (useOf .input 1 1)

/-- The A line of output row r of matrix j (R114, R149): k elements with their block scales. -/
def lineA (d : Desc) (rd : Reader) (j r : Nat) : List Scaled :=
  let o := d.slot 0
  let u := d.use! 0
  let (_, _, _, k) := viewOf d
  (List.range k).map fun kk =>
    let s := scaleAt rd o u j r (kk / 32)
    match d.fam with
    | .conv =>
      let g := geoOf d
      let ow := g.ow.toNat
      let oh := g.oh.toNat
      let img := r / (oh * ow)
      let ky := kk / (d.sh 7 * d.sh 4)
      let kx := kk / d.sh 4 % d.sh 7
      let iy : Int := (r / ow % oh * g.sh + ky * g.dh : Nat) - (g.top : Int)
      let ix : Int := (r % ow * g.sw + kx * g.dw : Nat) - (g.left : Int)
      if 0 ≤ iy ∧ iy < d.sh 2 ∧ 0 ≤ ix ∧ ix < d.sh 3 then
        (decodeElem o.fmt (codeAt rd o u 0 0
          ((((img * d.sh 2 + iy.toNat) * d.sh 3 + ix.toNat) * d.sh 0 + j) * d.sh 4 + kk % d.sh 4)), s)
      else (.fin false 0 0, s)
    | _ => (decodeElem o.fmt (codeAt rd o u j r kk), s)

/-- The B line of output column c of matrix j (R149). -/
def lineB (d : Desc) (rd : Reader) (j c : Nat) : List Scaled :=
  let o := d.slot 1
  let u := d.use! 1
  let (_, _, _, k) := viewOf d
  (List.range k).map fun kk =>
    let s := scaleAt rd o u j c (kk / 32)
    match d.fam with
    | .conv => (decodeElem o.fmt (codeAt rd o u 0 0 ((j * d.sh 5 + c) * k + kk)), s)
    | _ => (decodeElem o.fmt (codeAt rd o u j kk c), s)

/-- The spills of a dot product under the mode of its format pair (R39 to R43). -/
def spillsOf (fa fb : Fmt) (scaled : Bool) (as bs : List Scaled) : List Spill :=
  match pairMode fa fb with
  | some .exact => exactSpills fa fb scaled as bs
  | some .framed => framedSpills fa fb as bs
  | none => []

/-- Spills of output element (j, r, c). -/
def gemmSpills (d : Desc) (as bs : List Scaled) : List Spill :=
  spillsOf (d.slot 0).fmt (d.slot 1).fmt ((d.slot 0).scaled || (d.slot 1).scaled) as bs

/-- The tile frame of frame tile (ta, tb) of matrix j (R44, R45). -/
def gemmFrame (d : Desc) (rd : Reader) (j ta tb : Nat) : Int :=
  if d.fixed then d.fixedF
  else
    let (_, m, n, _) := viewOf d
    let rows := (List.range 32).filterMap fun i => if 32 * ta + i < m then some (lineA d rd j (32 * ta + i)) else none
    let cols := (List.range 64).filterMap fun i => if 64 * tb + i < n then some (lineB d rd j (64 * tb + i)) else none
    autoFrame (rows.flatMap fun as => cols.flatMap fun bs => (gemmSpills d as bs).map (·.top))

/-- What an output element holds before encoding. -/
inductive OutCell where
  | raw (code : Nat)
  | val (v : OutVal)
  | word (t : Tally)
  deriving DecidableEq, Repr

/-- An output element with what its computation reports. -/
structure OutElem where
  /-- the element -/
  cell : OutCell
  /-- SPECIAL -/
  special : Bool := false
  /-- TALLY_OVERFLOW -/
  tally : Bool := false
  /-- frame of its tile, when T128 -/
  frame : Int := 0
  /-- OVF of its tile, by this element -/
  ovf : Bool := false
  deriving DecidableEq, Repr

/-- An output element of a GEMM or convolution (R46, R47, R51, R155, R156), its tile's frame given. -/
def gemmElem (d : Desc) (rd : Reader) (f : Int) (j r c : Nat) : OutElem :=
  let as := lineA d rd j r
  let bs := lineB d rd j c
  let sp := as.any specialElem || bs.any specialElem
  let (w0, o0) := spillSum f (gemmSpills d as bs)
  let w : Tally := if sp then none else some w0
  let cs := d.slot 2
  let bias := d.steps.contains 2
  let cIdx : Nat × Nat × Nat := match d.fam with
    | .conv => (0, 0, if bias then j * d.sh 5 + c else (r * d.sh 0 + j) * d.sh 5 + c)
    | _ => (j, if bias then 0 else r, c)
  let ce := if cs.used then decodeElem cs.fmt (codeAt rd cs (d.use! 2) cIdx.1 cIdx.2.1 cIdx.2.2) else .fin false 0 0
  let ct := cs.used && cs.fmt == .t128
  let (w, f, o, osat) : Tally × Int × Bool × Bool :=
    if ct then
      let (cf, cov) := frameAt rd cs (d.use! 2) j (r / 32) (c / 64)
      let t : Tally := match ce with | .fin n m _ => some (if n then -(m : Int) else m) | _ => none
      let x := combine [(w, f, false), (t, cf, cov)]
      (x.1, x.2.1, x.2.2, (combine [(w, f, false), (t, cf, false)]).2.2)
    else (w, f, false, false)
  let sat := o0 || osat
  let ovf := o0 || o
  let sp := sp || (ct && ce == .nan)
  if (d.slot 3).fmt = .t128 then ⟨.word w, sp, sat, f, ovf⟩
  else
    let steps := if ct then d.steps.drop 1 else d.steps
    if steps.isEmpty then ⟨.val (tallyVal w f d.z), sp, sat, f, sat⟩
    else
      let cbad := cs.used && ! ct && (match ce with | .fin _ _ _ => false | _ => true)
      let x := steps.foldl (fun x s => epilogueStep s x (toFp32 (elemVal ce)) d.param) (toFp32 (tallyVal w f d.z))
      ⟨.val (if cbad then .nan else pathVal x), sp || cbad, sat, f, sat⟩

/-- An input of the elementwise family as FP32, with whether it is special: NaN, infinite (R153, R56). -/
def elemInput (d : Desc) (rd : Reader) (i r c : Nat) : Nat × Elem :=
  let e := scaledElem rd (d.slot i) (d.use! i) 0 r c
  (toFp32 (elemVal e), e)

/-- The value T128 outputs of families without spills take at a frame: truncated toward zero, saturating (R46, R61).  An infinity
of the FP32 path, for which R54 names no T128 result, gives the NaN tally (log entry 37, DESIGN CHOICE). -/
def wordAt (v : OutVal) (f : Int) : Tally × Bool :=
  match v with
  | .fin n m e => let s := saturate (shiftTz (if n then -(m : Int) else m) (e - f)); (some s.1, s.2)
  | _ => (none, false)

/-- The frame of a T128 output to which no spill contributes: FIXED_F, or −79 under AUTO (R45; log entry 15, DESIGN CHOICE). -/
def openFrame (d : Desc) : Int := if d.fixed then d.fixedF else autoFrame []

/-- An element from a value, by the output format: words take the frame of `openFrame`. -/
def outElemOf (d : Desc) (v : OutVal) (sp : Bool) : OutElem :=
  if (d.slot 3).fmt = .t128 then
    let f := openFrame d
    let (w, s) := wordAt v f
    ⟨.word w, sp, s, f, s⟩
  else ⟨.val v, sp, false, 0, false⟩

/-- Elementwise (R153). -/
def elementwiseElem (d : Desc) (rd : Reader) (r c : Nat) : OutElem :=
  let xs := (List.range (elementInputs d.subop)).map fun i => elemInput d rd i r c
  let sp := xs.any (·.2.special)
  let g := fun i => (xs.getD i (0, .nan)).1
  let y := if sp then nan32 else elementwise d.subop (g 0) (g 1) (g 2)
  outElemOf d (pathVal y) sp

/-- Unbiased exponent of a finite non-zero element: of a subnormal 1 − bias (R42), of an integer floor(log2) (R62). -/
def unbiased (f : Fmt) (m : Nat) (e : Int) : Int :=
  if (fmtLayout f).1 = 0 then (flog2 m : Int) + e else e + (fmtLayout f).1

/-- FP32 code of 1 / n, one rounding (R61). -/
def recip32 (n : Nat) : Nat := let q := 2 ^ 80 / n; rne32 false (2 * q + if q * n = 2 ^ 80 then 0 else 1) (-81)

/-- Sum of elements as tallies (R61): the word, its frame, whether it saturated.  E of a block-scaled input takes in the block's
scale exponent, as the effective exponent of R42 does (log entry 37, DESIGN CHOICE). -/
def tallySum (ft : Fmt) (es : List Elem) : Tally × Int × Bool :=
  let tops := es.filterMap fun x => match x with
    | .fin _ m e => if m = 0 then none else some (unbiased ft m e)
    | _ => none
  let f := autoFrame tops
  let r := es.foldl (fun (acc : Tally × Bool) x =>
    let a := tallyAdd acc.1 (wordAt (elemVal x) f).1
    (a.1, acc.2 || a.2)) (some 0, false)
  (r.1, f, r.2)

/-- Order of two elements in a minimum or maximum: −0 below +0 (R62). -/
def elemLt (a b : Elem) : Bool :=
  match a, b with
  | .inf n, .inf k => n && ! k
  | .inf n, _ => n
  | _, .inf k => ! k
  | .fin na ma ea, .fin nb mb eb =>
    let d := dyAdd na ma ea (! nb) mb eb
    d.1 < 0 || (d.1 = 0 && na && ! nb)
  | _, _ => false

/-- Reduction (R61, R62) of set q.  The set's frame is that of R61 in either frame mode: FIXED_F plays no part
(log entry 37, DESIGN CHOICE). -/
def reductionElem (d : Desc) (rd : Reader) (q : Nat) : OutElem :=
  let o := d.slot 0
  let es := (List.range (d.sh 1)).map fun c => scaledElem rd o (d.use! 0) 0 q c
  let sp := es.any Elem.special
  let t128 := (d.slot 3).fmt = .t128
  if d.subop ≤ 1 then
    let (w, f, ov) := tallySum o.fmt es
    if d.subop = 0 then
      if t128 then ⟨.word w, sp, ov, f, ov⟩ else ⟨.val (tallyVal w f d.z), sp, ov, f, ov⟩
    else
      match w, decodeElem .fp32 (recip32 (d.sh 1)) with
      | some t, .fin _ m e =>
        let v := OutVal.fin (t < 0) (t.natAbs * m) (f + e + d.z)
        if t128 then
          let (w', s) := wordAt (.fin (t < 0) (t.natAbs * m) (f + e)) f
          ⟨.word w', sp, ov || s, f, ov || s⟩
        else ⟨.val v, sp, ov, f, ov⟩
      | _, _ => if t128 then ⟨.word none, true, ov, f, ov⟩ else ⟨.val .nan, true, ov, f, ov⟩
  else if es.any (· == .nan) then
    if t128 then ⟨.word none, true, false, -79, false⟩ else ⟨.val .nan, true, false, 0, false⟩
  else
    let best := match es with
      | [] => Elem.fin false 0 0
      | x :: xs => xs.foldl (fun b y => if d.subop = 2 then (if elemLt y b then y else b) else (if elemLt b y then y else b)) x
    if t128 then
      match best with
      | .fin n m e =>
        let f := if m = 0 then -79 else unbiased o.fmt m e - 79
        ⟨.word (wordAt (.fin n m e) f).1, sp, false, f, false⟩
      | _ => ⟨.word none, true, false, -79, false⟩
    else ⟨.val (elemVal best), sp, false, 0, false⟩

/-- An element moved by gather, scatter or transpose: NaN for a NaN or infinite one (R56), else the code itself between equal
unscaled formats, else its value.  A moved T128 word carries the frame of its source tile; the output tile aligns it
(log entry 15, DESIGN CHOICE). -/
def movedElem (d : Desc) (rd : Reader) (j r c : Nat) : OutElem :=
  let o := d.slot 0
  let e := scaledElem rd o (d.use! 0) j r c
  let sp := e.special
  if o.fmt = .t128 then
    let (f, ov) := frameAt rd o (d.use! 0) j (r / 32) (c / 64)
    let w := tallyOf (codeAt rd o (d.use! 0) j r c)
    if (d.slot 3).fmt = .t128 then ⟨.word w, sp, false, f, ov⟩ else ⟨.val (tallyVal w f 0), sp, false, 0, false⟩
  else if sp then outElemOf d .nan true
  else if o.fmt = (d.slot 3).fmt ∧ ¬ o.scaled ∧ ¬ (d.slot 3).scaled then
    ⟨.raw (codeAt rd o (d.use! 0) j r c), false, false, 0, false⟩
  else outElemOf d (elemVal e) false

/-- Index entry i of a gather or scatter. -/
def indexAt (d : Desc) (rd : Reader) (i : Nat) : Nat := codeAt rd (d.slot 1) (d.use! 1) 0 0 i

/-- The index entries of unit t (R114). -/
def unitEntries (d : Desc) (t : Nat) : List Nat :=
  (List.range 256).filterMap fun i => if 256 * t + i < d.sh 0 then some (256 * t + i) else none

/-- Does unit t hold an index at or above SHAPE_1 (R154)? -/
def badIndex (d : Desc) (rd : Reader) (t : Nat) : Bool :=
  (d.fam = .gather || d.fam = .scatter) && (unitEntries d t).any fun i => d.sh 1 ≤ indexAt d rd i

/-! ### Attention (R115, R126, R150 to R152) -/

/-- The row of KV head h of a token of K (i = 1) or V (i = 2) in its page (R151): address and bytes. -/
def kvRow (d : Desc) (cap : SeqCap) (i tok h : Nat) : Nat × Nat :=
  let o := d.slot i
  (cap.pages.getD (tok / cap.pageTokens) 0 + o.addr + tok % cap.pageTokens * o.stride + h * o.bstride, pageRow d i)

/-- The rows of K or V of `n` tokens from a first one, of every KV head. -/
def kvRows (d : Desc) (cap : SeqCap) (i first n : Nat) : List (Nat × Nat) :=
  (List.range n).flatMap fun t => (List.range (d.sh 2)).map fun h => kvRow d cap i (first + t) h

/-- Does the firing append (R127)? -/
def Desc.appends (d : Desc) : Bool := d.fam == .attention && bit (d.ex 0x5C 4) 1

/-- Bytes of NEW_K (i = 1) or NEW_V (i = 2) (R150). -/
def newBytes (d : Desc) (i : Nat) : Nat :=
  let (n, nb) := fmtUnit (d.slot i).fmt
  cdiv (d.sh 0 * d.sh 3 * d.sh 2 * d.sh 4) n * nb

/-- Address of the packing unit that holds element (token row, KV head, dimension) of K (i = 1) or V (i = 2): in its page
(R151), or in NEW_K or NEW_V for an appended token (R150); and the element's place in the unit. -/
def kvUnit (d : Desc) (cap : SeqCap) (q i tok h dd : Nat) : Nat × Nat :=
  let (n, nb) := fmtUnit (d.slot i).fmt
  if tok < cap.tokens then ((kvRow d cap i tok h).1 + dd / n * nb, dd % n)
  else
    let flat := ((q * d.sh 3 + (tok - cap.tokens)) * d.sh 2 + h) * d.sh 4 + dd
    ((if i = 1 then d.ex 0x48 8 else d.ex 0x50 8) + flat / n * nb, flat % n)

/-- Element of K or V. -/
def kvElem (d : Desc) (rd : Reader) (cap : SeqCap) (q i tok h dd : Nat) : Scaled :=
  let f := (d.slot i).fmt
  let (a, p) := kvUnit d cap q i tok h dd
  (decodeElem f (leNat (rd a (fmtUnit f).2) / 2 ^ (fmtBits f * p) % 2 ^ fmtBits f), some 0)

/-- Row of Q of (sequence q, head h, token t). -/
def lineQ (d : Desc) (rd : Reader) (q h t : Nat) : List Scaled :=
  let o := d.slot 0
  (List.range (d.sh 4)).map fun dd =>
    (decodeElem o.fmt (codeAt rd o (d.use! 0) 0 0 (((q * d.sh 3 + t) * d.sh 1 + h) * d.sh 4 + dd)),
     scaleAt rd o (d.use! 0) (q * d.sh 1 + h) t (dd / 32))

/-- A GEMM block of attention: words as FP32 of `rows × cols`, frame tiles of 32 × 64 (R44, R45, R51). -/
def attnGemm (d : Desc) (fa fb : Fmt) (sc : Bool) (rows cols : List (List Scaled)) : List (List (Nat × Bool)) :=
  let frame := fun ta tb =>
    if d.fixed then d.fixedF
    else autoFrame (((rows.drop (32 * ta)).take 32).flatMap fun as =>
      ((cols.drop (64 * tb)).take 64).flatMap fun bs => (spillsOf fa fb sc as bs).map (·.top))
  let frames := (List.range (cdiv rows.length 32)).map fun ta => (List.range (cdiv cols.length 64)).map fun tb => frame ta tb
  (rows.zipIdx).map fun (as, r) => (cols.zipIdx).map fun (bs, c) =>
    let f := (frames.getD (r / 32) []).getD (c / 64) 0
    let (w, o) := spillSum f (spillsOf fa fb sc as bs)
    if as.any specialElem || bs.any specialElem then (nan32, o) else (toFp32 (tallyVal (some w) f 0), o)

/-- One slice of one row: m_j, l_j and the row of p in FP32; none when every key of the slice is masked (log entry 16, DEDUCED). -/
def attnRow (scores : List Nat) (scale : Nat) (masked : Nat → Bool) : Option (Nat × Nat × List Nat) :=
  let xs := (scores.zipIdx).map fun (s, i) => if masked i then inf32 true else mul32 s scale
  if (List.range xs.length).all masked then none
  else
    let m := xs.foldl max32 (inf32 true)
    let p := xs.map fun x => exp2f (sub32 x m)
    let (w, f, _) := tallySum .fp32 (p.map (decodeElem .fp32))
    some (m, toFp32 (tallyVal w f 0), p)

/-- The rows of one query tile (R115): per query row, the FP32 outputs over the head dimension, with TALLY_OVERFLOW, and with
SPECIAL for a special element of Q, K or V read, masked positions too (R57). -/
def attnTile (d : Desc) (rd : Reader) (env : Env) (q h qt : Nat) : List (List Nat) × Bool × Bool :=
  match env.caps[q]? with
  | none => ([], false, false)
  | some cap =>
    let keys := keysOf d cap
    let hk := h / (d.sh 1 / max 1 (d.sh 2))
    let toks := (List.range 64).filterMap fun i => if 64 * qt + i < d.sh 3 then some (64 * qt + i) else none
    let causal := bit (d.ex 0x5C 4) 0
    let pos := fun t => if bit (d.ex 0x5C 4) 1 then (cap.tokens + t : Nat) - (0 : Int) else (cap.tokens : Int) - d.sh 3 + t
    let pf := (fmtOfCode (bits (d.ex 0x5C 4) 5 2)).getD .bf16
    let qs := toks.map (lineQ d rd q h)
    let dims := List.range (d.sh 4)
    let slices := (List.range (cdiv keys 2048)).map fun j =>
      let ks := (List.range 2048).filterMap fun i => if 2048 * j + i < keys then some (2048 * j + i) else none
      let kRows := ks.map fun t => dims.map fun dd => kvElem d rd cap q 1 t hk dd
      let vCols := dims.map fun dd => ks.map fun t => kvElem d rd cap q 2 t hk dd
      let s := attnGemm d (d.slot 0).fmt (d.slot 1).fmt (d.slot 0).scaled qs kRows
      let rows := (s.zip toks).map fun (sr, t) =>
        attnRow (sr.map (·.1)) (d.ex 0x58 4) fun i => causal && decide (pos t < ((2048 * j + i : Nat) : Int))
      let ps : List (List Scaled) := (rows.zipIdx).map fun (o, r) => (List.range ks.length).map fun i =>
        match o with
        | none => (.fin false 0 0, some 0)
        | some (_, _, p) =>
          let mode := match bits d.control 19 16 with
            | 0 => Round.rne
            | 1 => .rtz
            | _ =>
              let place := ((q * d.sh 1 + h) * d.sh 3 + toks.getD r 0) * keys + 2048 * j + i
              .sr (Config.attnRandom env.seed d.stream place % 2 ^ 32)
          (decodeElem pf (encodeVal pf mode (pathVal (p.getD i 0))).1, some 0)
      let o := attnGemm d pf (d.slot 2).fmt false ps vCols
      (rows, o, s.any (·.any (·.2)) || o.any (·.any (·.2)), (kRows ++ vCols).any (·.any specialElem))
    let out := (List.range toks.length).map fun r =>
      let parts := slices.filterMap fun sl =>
        match (sl.1.getD r none) with
        | none => none
        | some (m, l, _) => some (m, l, (sl.2.1.getD r []).map (·.1))
      let m := parts.foldl (fun m x => max32 m x.1) (inf32 true)
      if parts.isEmpty then dims.map fun _ => nan32
      else
        let l := parts.foldl (fun acc x => fma32 x.2.1 (exp2f (sub32 x.1 m)) acc) 0
        dims.map fun dd =>
          div32 (parts.foldl (fun acc x => fma32 (x.2.2.getD dd 0) (exp2f (sub32 x.1 m)) acc) 0) l
    (out, slices.any (·.2.2.1), qs.any (·.any specialElem) || slices.any (·.2.2.2))

/-! ### Tiles to writes -/

/-- The rectangle of tile t in the view (R110, R114): (j, rows r0 to r1 - 1, columns c0 to c1 - 1). -/
def tileRects (d : Desc) (t : Nat) : List (Nat × Nat × Nat × Nat × Nat) :=
  let block := fun m n h w =>
    let tn := cdiv n w
    let tm := cdiv m h
    let r := t % (tm * tn)
    [(t / (tm * tn), h * (r / tn), min m (h * (r / tn) + h), w * (r % tn), min n (w * (r % tn) + w))]
  match d.fam with
  | .gemm => let (_, m, n, _) := viewOf d; block m n 64 128
  | .conv => let (_, m, n, _) := viewOf d; block m n 64 128
  | .transpose => block (d.sh 2) (d.sh 1) 64 64
  | .attention => let nt := cdiv (d.sh 3) 64; [(t / nt, 64 * (t % nt), min (d.sh 3) (64 * (t % nt) + 64), 0, d.sh 4)]
  | .elementwise =>
    let c := d.sh 1
    let lo := 65536 * t
    let hi := min (d.sh 0 * c) (lo + 65536)
    (List.range (cdiv hi c - lo / c)).map fun i =>
      let r := lo / c + i
      (0, r, r + 1, (if r * c < lo then lo - r * c else 0), (if (r + 1) * c ≤ hi then c else hi - r * c))
  | .reduction =>
    let per := if d.sh 1 ≤ 65536 then 65536 / max 1 (d.sh 1) else 1
    [(0, per * t, min (d.sh 0) (per * t + per), 0, 1)]
  | .gather => [(0, 256 * t, min (d.sh 0) (256 * t + 256), 0, d.sh 2)]
  | _ => []

/-- Where a view element is stored in the output operand (R149, R150): (batch, row, column). -/
def storedAt (d : Desc) (p : Nat × Nat × Nat) : Nat × Nat × Nat :=
  match d.fam with
  | .conv => (0, 0, (p.2.1 * d.sh 0 + p.1) * d.sh 5 + p.2.2)
  | .attention =>
    (0, 0, ((p.1 / d.sh 1 * d.sh 3 + p.2.1) * d.sh 1 + p.1 % d.sh 1) * d.sh 4 + p.2.2)
  | _ => p

/-- The view element stored at a place of the output operand. -/
def viewAt (d : Desc) (p : Nat × Nat × Nat) : Nat × Nat × Nat :=
  let f := p.2.2
  match d.fam with
  | .conv => (f / d.sh 5 % d.sh 0, f / (d.sh 5 * d.sh 0), f % d.sh 5)
  | .attention =>
    let h := f / d.sh 4 % d.sh 1
    let x := f / (d.sh 4 * d.sh 1)
    (x / d.sh 3 * d.sh 1 + h, x % d.sh 3, f % d.sh 4)
  | _ => p

/-- The value of one element of the output view. -/
def viewElem (d : Desc) (rd : Reader) (env : Env) (frames : List ((Nat × Nat × Nat) × Int)) (p : Nat × Nat × Nat) : OutElem :=
  let (j, r, c) := p
  match d.fam with
  | .elementwise => elementwiseElem d rd r c
  | .reduction => reductionElem d rd r
  | .gather => movedElem d rd 0 (indexAt d rd r) c
  | .transpose => movedElem d rd j c r
  | .attention =>
    let (rows, o, sp) := attnTile d rd env (j / d.sh 1) (j % d.sh 1) (r / 64)
    let x := (rows.getD (r % 64) []).getD c 0
    let e := outElemOf d (pathVal x) (sp || isNan32 x)
    { e with tally := e.tally || o }
  | _ =>
    let f := match frames.find? (fun x => x.1 == (j, r / 32, c / 64)) with
      | some x => x.2
      | none => gemmFrame d rd j (r / 32) (c / 64)
    gemmElem d rd f j r c

/-- Rounding mode of output element L (R52, R53). -/
def roundOf (d : Desc) (env : Env) (l : Nat) : Round :=
  match bits d.control 19 16 with
  | 0 => .rne
  | 1 => .rtz
  | _ => .sr (sm4 env.seed (l * 2 ^ 64 + d.stream * 2 ^ 32) % 2 ^ 32)

/-- What a tile writes: byte runs at global addresses, additions to tally words (R116), and the flags its elements report. -/
structure TileOut where
  /-- (address, bytes) -/
  writes : List (Nat × List Byte) := []
  /-- rows appended to pages: (operand slot, address, bytes) (R127) -/
  rows : List (Nat × Nat × List Byte) := []
  /-- additions of a scatter in add mode: (address of the word, addend, address of its frame-table entry) -/
  adds : List (Nat × Tally × Nat) := []
  /-- TALLY_OVERFLOW -/
  tally : Bool := false
  /-- SPECIAL -/
  special : Bool := false
  deriving DecidableEq, Repr

/-- Rows and columns of a frame tile: each output of a reduction is one of its own (R44, R114). -/
def tileShape (u : Use) : Nat × Nat := if u.part = .red then (1, 1) else (32, 64)

/-- Address of the frame-table entry of tile (ta, tb) of member j (R146). -/
def entryAddr (o : Slot) (u : Use) (j ta tb : Nat) : Nat :=
  let (th, tw) := tileShape u
  let tc := cdiv u.tcols tw
  o.aux + j * pad64 (4 * (cdiv u.trows th * tc)) + 4 * (ta * tc + tb)

/-- A frame-table entry (R38). -/
def entryBytes (f : Int) (ovf : Bool) : List Byte := natLe 4 (ucode 16 f + if ovf then 2 ^ 16 else 0)

/-- The view elements of a frame tile. -/
def tilePoints (u : Use) (j ta tb : Nat) : List (Nat × Nat × Nat) :=
  let (th, tw) := tileShape u
  ((List.range th).filter fun r => ta * th + r < u.trows).flatMap fun r =>
    ((List.range tw).filter fun c => tb * tw + c < u.tcols).map fun c => (j, ta * th + r, tb * tw + c)

/-- The view elements of rectangles. -/
def rectPoints (rects : List (Nat × Nat × Nat × Nat × Nat)) : List (Nat × Nat × Nat) :=
  rects.flatMap fun (j, r0, r1, c0, c1) =>
    (List.range (r1 - r0)).flatMap fun r => (List.range (c1 - c0)).map fun c => (j, r0 + r, c0 + c)

/-- The frame tiles that view elements lie in. -/
def tilesOf (u : Use) (pts : List (Nat × Nat × Nat)) : List (Nat × Nat × Nat) :=
  let (th, tw) := tileShape u
  (pts.map fun p => (p.1, p.2.1 / th, p.2.2 / tw)).eraseDups

/-- Codes, packing units and scale lines of a set of view elements (R35, R55, R110, R143, R146).  The logical index L of R53 is
the place in the output as R143, R149 and R150 store it (log entry 37, DESIGN CHOICE). -/
def writesOf (d : Desc) (env : Env) (elem : Nat × Nat × Nat → OutElem) (pts : List (Nat × Nat × Nat)) : TileOut :=
  let o := d.slot 3
  let u := d.use! 3
  let (n, nb) := fmtUnit o.fmt
  let block := fun (p : Nat × Nat × Nat) =>
    (List.range 32).filterMap fun i =>
      if p.2.2 / 32 * 32 + i < u.tcols then some (elem (p.1, p.2.1, p.2.2 / 32 * 32 + i)) else none
  let exponent := fun p => if o.scaled then
      blockExp o.fmt ((block p).filterMap fun e => match e.cell with | .val v => some v | _ => none)
    else 0
  let code := fun (q : Nat × Nat × Nat) =>
    let p := viewAt d q
    let e := elem p
    let l := (q.1 * u.rows + q.2.1) * u.cols + q.2.2
    match e.cell with
    | .raw c => (c, false)
    | .word t => (tallyCode t, t.isNone)
    | .val v => encodeVal o.fmt (roundOf d env l) (unscale (exponent p) v)
  let fastMax := if o.order then u.rows else u.cols
  let units := (pts.map fun p =>
    let q := storedAt d p
    if o.order then (q.1, q.2.2, q.2.1 / n) else (q.1, q.2.1, q.2.2 / n)).eraseDups
  let elems := units.map fun (j, slow, k) =>
    (o.addr + j * o.bstride + slow * strideOf o u + k * nb,
     (List.range n).map fun i =>
       if k * n + i < fastMax then code (if o.order then (j, k * n + i, slow) else (j, slow, k * n + i)) else (0, false))
  let scales := if o.scaled then
      ((pts.map fun p => (p.1, p.2.1, p.2.2 / 32)).eraseDups).map fun (j, r, b) =>
        (o.aux + (j * u.trows + r) * pad64 (cdiv u.tcols 32) + b, natLe 1 (exponent (j, r, 32 * b) + 127).toNat)
    else []
  { writes := elems.map (fun x => (x.1, pack o.fmt (x.2.map (·.1)))) ++ scales
    tally := pts.any fun p => (elem p).tally
    special := (pts.any fun p => (elem p).special) || elems.any fun x => x.2.any (·.2) }

/-- Frame-table entries of the tiles that a set of view elements touches (R38, R44).  OVF is that of the whole tile, whichever
unit writes its words. -/
def framesOf (d : Desc) (elem : Nat × Nat × Nat → OutElem) (pts : List (Nat × Nat × Nat)) : List (Nat × List Byte) :=
  let o := d.slot 3
  let u := d.use! 3
  if o.fmt = .t128 then
    (tilesOf u pts).map fun (j, ta, tb) =>
      let es := (tilePoints u j ta tb).map elem
      (entryAddr o u j ta tb, entryBytes ((es.head?.map (·.frame)).getD 0) (es.any (·.ovf)))
  else []

/-- A moved T128 word brought to a frame: truncated toward zero when the frame is larger, saturating when it is smaller (R46). -/
def reframe (e : OutElem) (f : Int) : OutElem :=
  match e.cell with
  | .word (some t) =>
    let (w, s) := saturate (shiftTz t (e.frame - f))
    { e with cell := .word (some w), frame := f, tally := e.tally || s, ovf := e.ovf || s }
  | .word none => { e with frame := f }
  | _ => e

/-- The one frame of an output tile of moved T128 words (R44): FIXED_F, or the largest frame among them as R47 aligns words
(log entry 15, DESIGN CHOICE). -/
def aligned (d : Desc) (elem : Nat × Nat × Nat → OutElem) (p : Nat × Nat × Nat) : OutElem :=
  let e := elem p
  if (d.fam = .gather ∨ d.fam = .transpose) ∧ (d.slot 3).fmt = .t128 then
    let fs := (tilePoints (d.use! 3) p.1 (p.2.1 / 32) (p.2.2 / 64)).map fun q => (elem q).frame
    reframe e (if d.fixed then d.fixedF else fs.foldl max e.frame)
  else e

/-! ### Scatter (R116) -/

/-- The source row whose value a table row receives in overwrite mode: one of the entries that name it, which one being open
where they collide, by a free value of the whole firing (log entry 14, DESIGN CHOICE). -/
def scatterSource (d : Desc) (rd : Reader) (env : Env) (row : Nat) : Nat :=
  let cands := (List.range (d.sh 0)).filter fun i => indexAt d rd i = row
  cands.getD (Config.freeValue (env.free + row) % max 1 cands.length) 0

/-- The frame that words of a table tile take in overwrite mode: FIXED_F, or the tile's own entry, at which the words that the
firing leaves alone stay (R44; log entry 15, DESIGN CHOICE). -/
def tableFrame (d : Desc) (rd : Reader) (r c : Nat) : Int :=
  if d.fixed then d.fixedF else (frameAt rd (d.slot 3) (d.use! 3) 0 (r / 32) (c / 64)).1

/-- An element of the table that overwrite mode stores: T128 words at the frame of their table tile, any other as it is moved. -/
def scatterElem (d : Desc) (rd : Reader) (env : Env) (r c : Nat) : OutElem :=
  let o := d.slot 0
  let src := scatterSource d rd env r
  if (d.slot 3).fmt = .t128 then
    let f := tableFrame d rd r c
    if o.fmt = .t128 then reframe (movedElem d rd 0 src c) f
    else
      let e := scaledElem rd o (d.use! 0) 0 src c
      let (w, s) := if e.special then (none, false) else wordAt (elemVal e) f
      ⟨.word w, e.special, s, f, s⟩
  else movedElem d rd 0 src c

/-- What a scatter's unit writes in overwrite mode: the rows that its entries name.  Elements of other rows that share a packing
unit keep their codes; a frame-table entry keeps its OVF (R38). -/
def scatterOver (d : Desc) (rd : Reader) (env : Env) (rows : List Nat) : TileOut :=
  let o := d.slot 3
  let u := d.use! 3
  let elem := fun (p : Nat × Nat × Nat) =>
    if rows.contains p.2.1 then scatterElem d rd env p.2.1 p.2.2 else ⟨.raw (codeAt rd o u 0 p.2.1 p.2.2), false, false, 0, false⟩
  let pts := rows.flatMap fun r => (List.range (d.sh 2)).map fun c => (0, r, c)
  let w := writesOf d env elem pts
  let entries := if o.fmt = .t128 then
      (tilesOf u pts).map fun (j, ta, tb) =>
        let own := pts.filter fun p => p.2.1 / 32 = ta ∧ p.2.2 / 64 = tb
        (entryAddr o u j ta tb, entryBytes (tableFrame d rd (32 * ta) (64 * tb))
          ((frameAt rd o u 0 ta tb).2 || own.any fun p => (elem p).ovf))
    else []
  { w with writes := w.writes ++ entries }

/-- One addend of a scatter in add mode at FIXED_F (R116), and whether it saturated: a T128 word of frame Fs is a spill of weight
Fs, added exactly. -/
def scatterAddend (d : Desc) (rd : Reader) (i c : Nat) : Tally × Bool :=
  let o := d.slot 0
  let e := scaledElem rd o (d.use! 0) 0 i c
  if o.fmt = .t128 then
    let (fs, _) := frameAt rd o (d.use! 0) 0 (i / 32) (c / 64)
    ((tallyOf (codeAt rd o (d.use! 0) 0 i c)).map fun v => shiftTz v (fs - d.fixedF), false)
  else if e.special then (none, false)
  else wordAt (elemVal e) d.fixedF

/-- What a scatter's unit adds in add mode (R116, R175): an addition for every element, in entry order. -/
def scatterAdd (d : Desc) (rd : Reader) (entries : List Nat) : TileOut :=
  let o := d.slot 3
  let u := d.use! 3
  let cells := entries.flatMap fun i => (List.range (d.sh 2)).map fun c => (indexAt d rd i, c, scatterAddend d rd i c)
  { adds := cells.map fun (r, c, a) =>
      (o.addr + (if o.order then c else r) * strideOf o u + (if o.order then r else c) * 16, a.1, entryAddr o u 0 (r / 32) (c / 64))
    tally := cells.any (·.2.2.2)
    special := cells.any fun x => x.2.2.1.isNone }

/-- What a scatter's unit does (R116). -/
def scatterOut (d : Desc) (rd : Reader) (env : Env) (t : Nat) : TileOut :=
  if d.subop = 0 then scatterOver d rd env ((unitEntries d t).map (indexAt d rd)).eraseDups
  else scatterAdd d rd (unitEntries d t)

/-- The K and V rows an appending firing writes with the tile that first reaches a KV head (R127): byte runs of the new
tokens' rows in their pages, with their slot. -/
def appendWrites (d : Desc) (rd : Reader) (env : Env) (t : Nat) : List (Nat × Nat × List Byte) :=
  let nt := cdiv (d.sh 3) 64
  let j := t / nt
  let q := j / d.sh 1
  let h := j % d.sh 1
  let grp := d.sh 1 / max 1 (d.sh 2)
  match env.caps[q]? with
  | none => []
  | some cap =>
    if ¬ d.appends ∨ t % nt ≠ 0 ∨ h % grp ≠ 0 then []
    else
      [1, 2].flatMap fun i => (List.range (d.sh 3)).map fun a =>
        let f := (d.slot i).fmt
        let tok := cap.tokens + a
        (i, (kvRow d cap i tok (h / grp)).1,
         pack f ((List.range (d.sh 4)).map fun dd =>
           let (x, p) := kvUnit d cap q i tok (h / grp) dd
           leNat (rd x (fmtUnit f).2) / 2 ^ (fmtBits f * p) % 2 ^ fmtBits f))

/-- What tile t of a firing writes. -/
def tileOut (d : Desc) (rd : Reader) (env : Env) (t : Nat) : TileOut :=
  match d.fam with
  | .scatter => scatterOut d rd env t
  | .bank => {}
  | .signal => {}
  | _ =>
    let rects := tileRects d t
    let frames := (rects.flatMap fun (j, r0, r1, c0, c1) =>
      if d.fam = .gemm ∨ d.fam = .conv then
        (List.range (cdiv (r1 - r0) 32)).flatMap fun a => (List.range (cdiv (c1 - c0) 64)).map fun b =>
          ((j, r0 / 32 + a, c0 / 64 + b), gemmFrame d rd j (r0 / 32 + a) (c0 / 64 + b))
      else [])
    let elem := aligned d (viewElem d rd env frames)
    let pts := rectPoints rects
    let w := writesOf d env elem pts
    { w with writes := w.writes ++ framesOf d elem pts, rows := appendWrites d rd env t }

/-! ### What a firing reads -/

/-- The ranges a firing reads, each with its operand slot (R158): operands and tables; the pages' rows and the new rows of
attention (R150, R151); the table that a scatter changes (R38, R116, R35). -/
def readRanges (d : Desc) (env : Env) : List (Nat × Nat × Nat) :=
  let whole := fun i => match d.ranges i with
    | some (a, n, t, m) => [(i, a, n), (i, t, m)]
    | none => []
  [0, 1, 2].flatMap whole
  ++ (match d.fam with
    | .attention =>
      ([1, 2].flatMap fun i => env.caps.flatMap fun c => (kvRows d c i 0 c.tokens).map fun x => (i, x))
      ++ (if d.appends then [(5, d.ex 0x48 8, newBytes d 1), (5, d.ex 0x50 8, newBytes d 2)] else [])
    | .scatter => whole 3
    | _ => [])

/-- The ranges a unit reads: a gather's unit reads of its table only the rows that its entries name (R114, R154). -/
def unitRanges (d : Desc) (rd : Reader) (env : Env) (t : Nat) : List (Nat × Nat × Nat) :=
  match d.fam, d.ranges 0, d.ranges 1 with
  | .gather, some (_, _, x, m), some (a, n, _, _) =>
    (1, a, n) :: (0, x, m) :: ((unitEntries d t).filter fun i => indexAt d rd i < d.sh 1).flatMap fun i =>
      (rowRanges (d.slot 0) (d.use! 0) (indexAt d rd i)).map fun y => (0, y)
  | _, _, _ => readRanges d env

/-! ### What a unit leaves in its core (R70 to R72, R76, R110) -/

/-- The last sum and the tally word of every element of unit u of a GEMM or convolution: engine, row and active column of the
engine, sum, word.  Elements outside the matrix are computed on zero operands. -/
def unitWords (d : Desc) (rd : Reader) (units : List Nat) (u : Nat) : List (Nat × Nat × Nat × Int × Tally) :=
  match d.fam, tileOfUnit units u 0 with
  | .gemm, some t => go t
  | .conv, some t => go t
  | _, _ => []
where
  go (t : Nat) : List (Nat × Nat × Nat × Int × Tally) :=
    let (_, m, n, k) := viewOf d
    let s := units.getD t 1
    let g := cdiv (cdiv k 256) s
    let part := u - firstUnit units t
    let cut := fun (xs : List Scaled) => (xs.drop (256 * g * part)).take (256 * g)
    (tileRects d t).flatMap fun (j, r0, _, c0, _) =>
      (List.range 64).flatMap fun r => (List.range 128).map fun c =>
        let e := 2 * (r / 32) + c / 64
        if r0 + r < m ∧ c0 + c < n then
          let as := cut (lineA d rd j (r0 + r))
          let bs := cut (lineB d rd j (c0 + c))
          let sp := gemmSpills d as bs
          let w := (spillSum (gemmFrame d rd j ((r0 + r) / 32) ((c0 + c) / 64)) sp).1
          (e, r % 32, c % 64, ((sp.getLast?).map (·.sum)).getD 0, if as.any specialElem || bs.any specialElem then none else some w)
        else (e, r % 32, c % 64, 0, some 0)

end Sys2Proof.Machine
end

