-- ==== Sys2Proof/Machine/Regs.lean ====
section
/-! DEFINITION. The register window, transcribed from the register tables of the spec (R31, R93, R160, R187, R208,
R209, R227, R254, R255, R256, R280, R315, R347, R372, R397, R418, R442, R468, R483, R495, R520).
`Reg.<register><Field>` is a field's place: its offset in the 2 MiB window and its msb and lsb.  An indexed register takes
its indices in the order of its name.  `regTable` holds, per register, the first offset, the index ranges and strides, and
the masks of the bits whose access is RW, W1C, WO or RWS (R13); `regReset` holds the non-zero reset values. -/

namespace Sys2Proof.Machine
namespace Reg

/-- The offset of GLB_PART_ID (R31). -/
def glbPartIdOff : Nat := 0x0
/-- GLB_PART_ID.PART, [31:16], RO. -/
def glbPartIdPart : Fld := ⟨0x0, 31, 16⟩
/-- GLB_PART_ID.STEPPING, [15:8], RO. -/
def glbPartIdStepping : Fld := ⟨0x0, 15, 8⟩
/-- GLB_PART_ID.BOARD, [7:0], RO. -/
def glbPartIdBoard : Fld := ⟨0x0, 7, 0⟩
/-- The offset of GLB_ARITH_LEVEL (R31). -/
def glbArithLevelOff : Nat := 0x4
/-- GLB_ARITH_LEVEL.LEVEL, [7:0], RO. -/
def glbArithLevelLevel : Fld := ⟨0x4, 7, 0⟩
/-- The offset of GLB_MODULE_STATE (R31). -/
def glbModuleStateOff : Nat := 0x8
/-- GLB_MODULE_STATE.STATE, [3:0], RO. -/
def glbModuleStateState : Fld := ⟨0x8, 3, 0⟩
/-- The offset of GLB_MODULE_ID (R31). -/
def glbModuleIdOff : Nat := 0xc
/-- GLB_MODULE_ID.VALID, [16], RO. -/
def glbModuleIdValid : Fld := ⟨0xc, 16, 16⟩
/-- GLB_MODULE_ID.ID, [15:0], RO. -/
def glbModuleIdId : Fld := ⟨0xc, 15, 0⟩
/-- The offset of GLB_SLOT (R31). -/
def glbSlotOff : Nat := 0x10
/-- GLB_SLOT.SLOT_ID, [5:0], RO. -/
def glbSlotSlotId : Fld := ⟨0x10, 5, 0⟩
/-- The offset of GLB_LICENCES (R31). -/
def glbLicencesOff : Nat := 0x14
/-- GLB_LICENCES.TENANCY, [3], RO. -/
def glbLicencesTenancy : Fld := ⟨0x14, 3, 3⟩
/-- GLB_LICENCES.RICK, [2], RO. -/
def glbLicencesRick : Fld := ⟨0x14, 2, 2⟩
/-- GLB_LICENCES.SCALE, [1], RO. -/
def glbLicencesScale : Fld := ⟨0x14, 1, 1⟩
/-- GLB_LICENCES.BASE, [0], RO. -/
def glbLicencesBase : Fld := ⟨0x14, 0, 0⟩
/-- The offset of GLB_OPTIME_MS_LO (R31). -/
def glbOptimeMsLoOff : Nat := 0x18
/-- GLB_OPTIME_MS_LO.OPTIME, [31:0], RO. -/
def glbOptimeMsLoOptime : Fld := ⟨0x18, 31, 0⟩
/-- The offset of GLB_OPTIME_MS_HI (R31). -/
def glbOptimeMsHiOff : Nat := 0x1c
/-- GLB_OPTIME_MS_HI.OPTIME, [7:0], RO. -/
def glbOptimeMsHiOptime : Fld := ⟨0x1c, 7, 0⟩
/-- The offset of GLB_POWER_CYCLES (R31). -/
def glbPowerCyclesOff : Nat := 0x20
/-- GLB_POWER_CYCLES.COUNT, [23:0], RO. -/
def glbPowerCyclesCount : Fld := ⟨0x20, 23, 0⟩
/-- The offset of KIL_k_STATUS (R93). -/
def kilStatusOff (k : Nat) : Nat := 0x40000 + 0x10000 * k
/-- KIL_k_STATUS.GOOD_SPARES, [31:24], RO. -/
def kilStatusGoodSpares (k : Nat) : Fld := ⟨0x40000 + 0x10000 * k, 31, 24⟩
/-- KIL_k_STATUS.HOLES, [23:16], RO. -/
def kilStatusHoles (k : Nat) : Fld := ⟨0x40000 + 0x10000 * k, 23, 16⟩
/-- KIL_k_STATUS.SPARE_CLUSTER, [11:8], RO. -/
def kilStatusSpareCluster (k : Nat) : Fld := ⟨0x40000 + 0x10000 * k, 11, 8⟩
/-- KIL_k_STATUS.PARTITION, [5:4], RO. -/
def kilStatusPartition (k : Nat) : Fld := ⟨0x40000 + 0x10000 * k, 5, 4⟩
/-- KIL_k_STATUS.PT_FAIL, [3], RO. -/
def kilStatusPtFail (k : Nat) : Fld := ⟨0x40000 + 0x10000 * k, 3, 3⟩
/-- KIL_k_STATUS.LOST, [2], RO. -/
def kilStatusLost (k : Nat) : Fld := ⟨0x40000 + 0x10000 * k, 2, 2⟩
/-- KIL_k_STATUS.RESETTING, [1], RO. -/
def kilStatusResetting (k : Nat) : Fld := ⟨0x40000 + 0x10000 * k, 1, 1⟩
/-- KIL_k_STATUS.MAP_VALID, [0], RO. -/
def kilStatusMapValid (k : Nat) : Fld := ⟨0x40000 + 0x10000 * k, 0, 0⟩
/-- The offset of KIL_k_CLUSTER_MAP (R93). -/
def kilClusterMapOff (k : Nat) : Nat := 0x40004 + 0x10000 * k
/-- KIL_k_CLUSTER_MAP.CLUSTER_c (c = 0–7), [31:0], RO. -/
def kilClusterMapClusters (k : Nat) : Fld := ⟨0x40004 + 0x10000 * k, 31, 0⟩
/-- The offset of KIL_k_RESIDUE_RETRIES (R93). -/
def kilResidueRetriesOff (k : Nat) : Nat := 0x40008 + 0x10000 * k
/-- KIL_k_RESIDUE_RETRIES.COUNT, [31:0], RO. -/
def kilResidueRetriesCount (k : Nat) : Fld := ⟨0x40008 + 0x10000 * k, 31, 0⟩
/-- The offset of KIL_k_STORE_CORRECTED (R93). -/
def kilStoreCorrectedOff (k : Nat) : Nat := 0x4000c + 0x10000 * k
/-- KIL_k_STORE_CORRECTED.COUNT, [31:0], RO. -/
def kilStoreCorrectedCount (k : Nat) : Fld := ⟨0x4000c + 0x10000 * k, 31, 0⟩
/-- The offset of KIL_k_EVENTS (R93). -/
def kilEventsOff (k : Nat) : Nat := 0x40010 + 0x10000 * k
/-- KIL_k_EVENTS.PT_FAIL_SEEN, [4], W1C. -/
def kilEventsPtFailSeen (k : Nat) : Fld := ⟨0x40010 + 0x10000 * k, 4, 4⟩
/-- KIL_k_EVENTS.STORE_UNCORR, [3], W1C. -/
def kilEventsStoreUncorr (k : Nat) : Fld := ⟨0x40010 + 0x10000 * k, 3, 3⟩
/-- KIL_k_EVENTS.ENGINE_LOST, [2], W1C. -/
def kilEventsEngineLost (k : Nat) : Fld := ⟨0x40010 + 0x10000 * k, 2, 2⟩
/-- KIL_k_EVENTS.COLUMN_SPARED, [1], W1C. -/
def kilEventsColumnSpared (k : Nat) : Fld := ⟨0x40010 + 0x10000 * k, 1, 1⟩
/-- KIL_k_EVENTS.CORE_LOST, [0], W1C. -/
def kilEventsCoreLost (k : Nat) : Fld := ⟨0x40010 + 0x10000 * k, 0, 0⟩
/-- The offset of KIL_k_CORE_MAP_l (R93). -/
def kilCoreMapOff (k : Nat) (l : Nat) : Nat := 0x40400 + 0x10000 * k + 0x4 * l
/-- KIL_k_CORE_MAP_l.HOLE, [31], RO. -/
def kilCoreMapHole (k : Nat) (l : Nat) : Fld := ⟨0x40400 + 0x10000 * k + 0x4 * l, 31, 31⟩
/-- KIL_k_CORE_MAP_l.LODGER, [30], RO. -/
def kilCoreMapLodger (k : Nat) (l : Nat) : Fld := ⟨0x40400 + 0x10000 * k + 0x4 * l, 30, 30⟩
/-- KIL_k_CORE_MAP_l.PHYS, [7:0], RO. -/
def kilCoreMapPhys (k : Nat) (l : Nat) : Fld := ⟨0x40400 + 0x10000 * k + 0x4 * l, 7, 0⟩
/-- The offset of KIL_k_CORE_HEALTH_p (R93). -/
def kilCoreHealthOff (k : Nat) (p : Nat) : Nat := 0x40800 + 0x10000 * k + 0x4 * p
/-- KIL_k_CORE_HEALTH_p.LOGICAL, [15:8], RO. -/
def kilCoreHealthLogical (k : Nat) (p : Nat) : Fld := ⟨0x40800 + 0x10000 * k + 0x4 * p, 15, 8⟩
/-- KIL_k_CORE_HEALTH_p.ROLE, [2:0], RO. -/
def kilCoreHealthRole (k : Nat) (p : Nat) : Fld := ⟨0x40800 + 0x10000 * k + 0x4 * p, 2, 0⟩
/-- The offset of KIL_k_COL_MAP_p_e (R93). -/
def kilColMapOff (k : Nat) (p : Nat) (e : Nat) : Nat := 0x41000 + 0x10000 * k + 0x10 * p + 0x4 * e
/-- KIL_k_COL_MAP_p_e.ENGINE_LOST, [31], RO. -/
def kilColMapEngineLost (k : Nat) (p : Nat) (e : Nat) : Fld := ⟨0x41000 + 0x10000 * k + 0x10 * p + 0x4 * e, 31, 31⟩
/-- KIL_k_COL_MAP_p_e.BAD_COUNT, [30:24], RO. -/
def kilColMapBadCount (k : Nat) (p : Nat) (e : Nat) : Fld := ⟨0x41000 + 0x10000 * k + 0x10 * p + 0x4 * e, 30, 24⟩
/-- KIL_k_COL_MAP_p_e.SKIP1, [14:8], RO. -/
def kilColMapSkip1 (k : Nat) (p : Nat) (e : Nat) : Fld := ⟨0x41000 + 0x10000 * k + 0x10 * p + 0x4 * e, 14, 8⟩
/-- KIL_k_COL_MAP_p_e.SKIP0, [6:0], RO. -/
def kilColMapSkip0 (k : Nat) (p : Nat) (e : Nat) : Fld := ⟨0x41000 + 0x10000 * k + 0x10 * p + 0x4 * e, 6, 0⟩
/-- The offset of FSQ_SPLIT (R160). -/
def fsqSplitOff : Nat := 0x20000
/-- FSQ_SPLIT.SPLIT, [1:0], RO. -/
def fsqSplitSplit : Fld := ⟨0x20000, 1, 0⟩
/-- The offset of FSQ_PART_p_STATUS (R160). -/
def fsqPartStatusOff (p : Nat) : Nat := 0x20100 + 0x40 * p
/-- FSQ_PART_p_STATUS.GENERATION, [15:8], RO. -/
def fsqPartStatusGeneration (p : Nat) : Fld := ⟨0x20100 + 0x40 * p, 15, 8⟩
/-- FSQ_PART_p_STATUS.EMPTY, [2], RO. -/
def fsqPartStatusEmpty (p : Nat) : Fld := ⟨0x20100 + 0x40 * p, 2, 2⟩
/-- FSQ_PART_p_STATUS.HELD, [1], RO. -/
def fsqPartStatusHeld (p : Nat) : Fld := ⟨0x20100 + 0x40 * p, 1, 1⟩
/-- FSQ_PART_p_STATUS.BUSY, [0], RO. -/
def fsqPartStatusBusy (p : Nat) : Fld := ⟨0x20100 + 0x40 * p, 0, 0⟩
/-- The offset of FSQ_PART_p_RUNNING (R160). -/
def fsqPartRunningOff (p : Nat) : Nat := 0x20104 + 0x40 * p
/-- FSQ_PART_p_RUNNING.ENTRY, [31:16], RO. -/
def fsqPartRunningEntry (p : Nat) : Fld := ⟨0x20104 + 0x40 * p, 31, 16⟩
/-- FSQ_PART_p_RUNNING.VALID, [11], RO. -/
def fsqPartRunningValid (p : Nat) : Fld := ⟨0x20104 + 0x40 * p, 11, 11⟩
/-- FSQ_PART_p_RUNNING.QUEUE, [10:9], RO. -/
def fsqPartRunningQueue (p : Nat) : Fld := ⟨0x20104 + 0x40 * p, 10, 9⟩
/-- FSQ_PART_p_RUNNING.CONTEXT, [8:0], RO. -/
def fsqPartRunningContext (p : Nat) : Fld := ⟨0x20104 + 0x40 * p, 8, 0⟩
/-- The offset of FSQ_PART_p_FIRINGS_LO (R160). -/
def fsqPartFiringsLoOff (p : Nat) : Nat := 0x20108 + 0x40 * p
/-- FSQ_PART_p_FIRINGS_LO.COUNT, [31:0], RO. -/
def fsqPartFiringsLoCount (p : Nat) : Fld := ⟨0x20108 + 0x40 * p, 31, 0⟩
/-- The offset of FSQ_PART_p_FIRINGS_HI (R160). -/
def fsqPartFiringsHiOff (p : Nat) : Nat := 0x2010c + 0x40 * p
/-- FSQ_PART_p_FIRINGS_HI.COUNT, [31:0], RO. -/
def fsqPartFiringsHiCount (p : Nat) : Fld := ⟨0x2010c + 0x40 * p, 31, 0⟩
/-- The offset of FSQ_PART_p_REPLAYS (R160). -/
def fsqPartReplaysOff (p : Nat) : Nat := 0x20110 + 0x40 * p
/-- FSQ_PART_p_REPLAYS.COUNT, [31:0], RO. -/
def fsqPartReplaysCount (p : Nat) : Fld := ⟨0x20110 + 0x40 * p, 31, 0⟩
/-- The offset of FSQ_PART_p_HANGS (R160). -/
def fsqPartHangsOff (p : Nat) : Nat := 0x20114 + 0x40 * p
/-- FSQ_PART_p_HANGS.COUNT, [31:0], RO. -/
def fsqPartHangsCount (p : Nat) : Fld := ⟨0x20114 + 0x40 * p, 31, 0⟩
/-- The offset of FSQ_PART_p_REFUSED (R160). -/
def fsqPartRefusedOff (p : Nat) : Nat := 0x20118 + 0x40 * p
/-- FSQ_PART_p_REFUSED.COUNT, [31:0], RO. -/
def fsqPartRefusedCount (p : Nat) : Fld := ⟨0x20118 + 0x40 * p, 31, 0⟩
/-- The offset of FSQ_CTX_c_Q_q_STATE (R160). -/
def fsqCtxQStateOff (c : Nat) (q : Nat) : Nat := 0x21000 + 0x40 * c + 0x10 * q
/-- FSQ_CTX_c_Q_q_STATE.LAST_STATUS, [15:8], RO. -/
def fsqCtxQStateLastStatus (c : Nat) (q : Nat) : Fld := ⟨0x21000 + 0x40 * c + 0x10 * q, 15, 8⟩
/-- FSQ_CTX_c_Q_q_STATE.EXISTS, [2], RO. -/
def fsqCtxQStateExists (c : Nat) (q : Nat) : Fld := ⟨0x21000 + 0x40 * c + 0x10 * q, 2, 2⟩
/-- FSQ_CTX_c_Q_q_STATE.READY, [1], RO. -/
def fsqCtxQStateReady (c : Nat) (q : Nat) : Fld := ⟨0x21000 + 0x40 * c + 0x10 * q, 1, 1⟩
/-- FSQ_CTX_c_Q_q_STATE.STOPPED, [0], RO. -/
def fsqCtxQStateStopped (c : Nat) (q : Nat) : Fld := ⟨0x21000 + 0x40 * c + 0x10 * q, 0, 0⟩
/-- The offset of FSQ_CTX_c_Q_q_HEAD (R160). -/
def fsqCtxQHeadOff (c : Nat) (q : Nat) : Nat := 0x21004 + 0x40 * c + 0x10 * q
/-- FSQ_CTX_c_Q_q_HEAD.HEAD, [15:0], RO. -/
def fsqCtxQHeadHead (c : Nat) (q : Nat) : Fld := ⟨0x21004 + 0x40 * c + 0x10 * q, 15, 0⟩
/-- The offset of FSQ_CTX_c_Q_q_TAIL (R160). -/
def fsqCtxQTailOff (c : Nat) (q : Nat) : Nat := 0x21008 + 0x40 * c + 0x10 * q
/-- FSQ_CTX_c_Q_q_TAIL.TAIL, [15:0], RO. -/
def fsqCtxQTailTail (c : Nat) (q : Nat) : Fld := ⟨0x21008 + 0x40 * c + 0x10 * q, 15, 0⟩
/-- The offset of FSQ_CTX_c_Q_q_SIZE (R160). -/
def fsqCtxQSizeOff (c : Nat) (q : Nat) : Nat := 0x2100c + 0x40 * c + 0x10 * q
/-- FSQ_CTX_c_Q_q_SIZE.LOG2, [4:0], RO. -/
def fsqCtxQSizeLog2 (c : Nat) (q : Nat) : Fld := ⟨0x2100c + 0x40 * c + 0x10 * q, 4, 0⟩
/-- The offset of FSQ_SYNC_n_VALUE (R160). -/
def fsqSyncValueOff (n : Nat) : Nat := 0x29000 + 0x4 * n
/-- FSQ_SYNC_n_VALUE.VALUE, [31:0], RO. -/
def fsqSyncValueValue (n : Nat) : Fld := ⟨0x29000 + 0x4 * n, 31, 0⟩
/-- The offset of FSQ_SYNC_ERR_w (R160). -/
def fsqSyncErrOff (w : Nat) : Nat := 0x2d000 + 0x4 * w
/-- FSQ_SYNC_ERR_w.ERROR, [31:0], RO. -/
def fsqSyncErrError (w : Nat) : Fld := ⟨0x2d000 + 0x4 * w, 31, 0⟩
/-- The offset of MEM_STATUS (R187). -/
def memStatusOff : Nat := 0x80000
/-- MEM_STATUS.NO_SPARE, [15:8], RO. -/
def memStatusNoSpare : Fld := ⟨0x80000, 15, 8⟩
/-- MEM_STATUS.COPYING, [3], RO. -/
def memStatusCopying : Fld := ⟨0x80000, 3, 3⟩
/-- MEM_STATUS.SHORT_SEAM, [2], RO. -/
def memStatusShortSeam : Fld := ⟨0x80000, 2, 2⟩
/-- MEM_STATUS.KEYED, [1], RO. -/
def memStatusKeyed : Fld := ⟨0x80000, 1, 1⟩
/-- MEM_STATUS.TRAINED, [0], RO. -/
def memStatusTrained : Fld := ⟨0x80000, 0, 0⟩
/-- The offset of MEM_EVENTS (R187). -/
def memEventsOff : Nat := 0x80004
/-- MEM_EVENTS.HOT, [4], W1C. -/
def memEventsHot : Fld := ⟨0x80004, 4, 4⟩
/-- MEM_EVENTS.SEAM_EXHAUSTED, [3], W1C. -/
def memEventsSeamExhausted : Fld := ⟨0x80004, 3, 3⟩
/-- MEM_EVENTS.SPARED, [2], W1C. -/
def memEventsSpared : Fld := ⟨0x80004, 2, 2⟩
/-- MEM_EVENTS.UNCORRECTABLE, [1], W1C. -/
def memEventsUncorrectable : Fld := ⟨0x80004, 1, 1⟩
/-- MEM_EVENTS.CE_LIMIT, [0], W1C. -/
def memEventsCeLimit : Fld := ⟨0x80004, 0, 0⟩
/-- The offset of MEM_SCRUB_CTRL (R187). -/
def memScrubCtrlOff : Nat := 0x80008
/-- MEM_SCRUB_CTRL.PERIOD_H, [4:0], RW. -/
def memScrubCtrlPeriodH : Fld := ⟨0x80008, 4, 0⟩
/-- The offset of MEM_CE_LIMIT (R187). -/
def memCeLimitOff : Nat := 0x8000c
/-- MEM_CE_LIMIT.LIMIT, [15:0], RW. -/
def memCeLimitLimit : Fld := ⟨0x8000c, 15, 0⟩
/-- The offset of MEM_CORRECTED_LO (R187). -/
def memCorrectedLoOff : Nat := 0x80010
/-- MEM_CORRECTED_LO.COUNT, [31:0], RO. -/
def memCorrectedLoCount : Fld := ⟨0x80010, 31, 0⟩
/-- The offset of MEM_CORRECTED_HI (R187). -/
def memCorrectedHiOff : Nat := 0x80014
/-- MEM_CORRECTED_HI.COUNT, [31:0], RO. -/
def memCorrectedHiCount : Fld := ⟨0x80014, 31, 0⟩
/-- The offset of MEM_UNCORRECTABLE (R187). -/
def memUncorrectableOff : Nat := 0x80018
/-- MEM_UNCORRECTABLE.COUNT, [31:0], RO. -/
def memUncorrectableCount : Fld := ⟨0x80018, 31, 0⟩
/-- The offset of MEM_SCRUB_PASSES (R187). -/
def memScrubPassesOff : Nat := 0x8001c
/-- MEM_SCRUB_PASSES.COUNT, [31:0], RO. -/
def memScrubPassesCount : Fld := ⟨0x8001c, 31, 0⟩
/-- The offset of MEM_HOT (R187). -/
def memHotOff : Nat := 0x80020
/-- MEM_HOT.VALID, [31], RO. -/
def memHotValid : Fld := ⟨0x80020, 31, 31⟩
/-- MEM_HOT.RATIO, [23:12], RO. -/
def memHotRatio : Fld := ⟨0x80020, 23, 12⟩
/-- MEM_HOT.LOGICAL, [9:0], RO. -/
def memHotLogical : Fld := ⟨0x80020, 9, 0⟩
/-- The offset of MEM_SPARE_START (R187). -/
def memSpareStartOff : Nat := 0x80024
/-- MEM_SPARE_START.GO, [31], WO. -/
def memSpareStartGo : Fld := ⟨0x80024, 31, 31⟩
/-- MEM_SPARE_START.CHANNEL, [9:0], WO. -/
def memSpareStartChannel : Fld := ⟨0x80024, 9, 0⟩
/-- The offset of MEM_PARITY (R187). -/
def memParityOff : Nat := 0x80028
/-- MEM_PARITY.COUNT, [26:16], RO. -/
def memParityCount : Fld := ⟨0x80028, 26, 16⟩
/-- MEM_PARITY.BASE, [10:0], RO. -/
def memParityBase : Fld := ⟨0x80028, 10, 0⟩
/-- The offset of MEM_SEAM_s (R187). -/
def memSeamOff (s : Nat) : Nat := 0x80100 + 0x4 * s
/-- MEM_SEAM_s.POINTER, [31:8], RO. -/
def memSeamPointer (s : Nat) : Fld := ⟨0x80100 + 0x4 * s, 31, 8⟩
/-- MEM_SEAM_s.SHORT, [7], RO. -/
def memSeamShort (s : Nat) : Fld := ⟨0x80100 + 0x4 * s, 7, 7⟩
/-- MEM_SEAM_s.SPARE_BAD, [6], RO. -/
def memSeamSpareBad (s : Nat) : Fld := ⟨0x80100 + 0x4 * s, 6, 6⟩
/-- MEM_SEAM_s.COPYING, [5], RO. -/
def memSeamCopying (s : Nat) : Fld := ⟨0x80100 + 0x4 * s, 5, 5⟩
/-- MEM_SEAM_s.SPARED_FROM, [3:0], RO. -/
def memSeamSparedFrom (s : Nat) : Fld := ⟨0x80100 + 0x4 * s, 3, 0⟩
/-- The offset of MEM_CH_c (R187). -/
def memChOff (c : Nat) : Nat := 0x81000 + 0x4 * c
/-- MEM_CH_c.CE, [31:16], RO. -/
def memChCe (c : Nat) : Fld := ⟨0x81000 + 0x4 * c, 31, 16⟩
/-- MEM_CH_c.UE, [15:8], RO. -/
def memChUe (c : Nat) : Fld := ⟨0x81000 + 0x4 * c, 15, 8⟩
/-- MEM_CH_c.ROLE, [2:0], RO. -/
def memChRole (c : Nat) : Fld := ⟨0x81000 + 0x4 * c, 2, 0⟩
/-- The offset of MEM_REGION_r_STATE (R187). -/
def memRegionStateOff (r : Nat) : Nat := 0x84000 + 0x8 * r
/-- MEM_REGION_r_STATE.KEY_SLOT, [3:2], RO. -/
def memRegionStateKeySlot (r : Nat) : Fld := ⟨0x84000 + 0x8 * r, 3, 2⟩
/-- MEM_REGION_r_STATE.STATE, [1:0], RO. -/
def memRegionStateState (r : Nat) : Fld := ⟨0x84000 + 0x8 * r, 1, 0⟩
/-- The offset of MEM_REGION_r_JOB (R187). -/
def memRegionJobOff (r : Nat) : Nat := 0x84004 + 0x8 * r
/-- MEM_REGION_r_JOB.JOB, [31:0], RO. -/
def memRegionJobJob (r : Nat) : Fld := ⟨0x84004 + 0x8 * r, 31, 0⟩
/-- The offset of DMA_CH_n_CTRL (R208). -/
def dmaChCtrlOff (n : Nat) : Nat := 0xa0000 + 0x100 * n
/-- DMA_CH_n_CTRL.START, [31], WO. -/
def dmaChCtrlStart (n : Nat) : Fld := ⟨0xa0000 + 0x100 * n, 31, 31⟩
/-- DMA_CH_n_CTRL.ABORT, [30], WO. -/
def dmaChCtrlAbort (n : Nat) : Fld := ⟨0xa0000 + 0x100 * n, 30, 30⟩
/-- DMA_CH_n_CTRL.CLEAR, [29], WO. -/
def dmaChCtrlClear (n : Nat) : Fld := ⟨0xa0000 + 0x100 * n, 29, 29⟩
/-- DMA_CH_n_CTRL.RATE, [23:16], RW. -/
def dmaChCtrlRate (n : Nat) : Fld := ⟨0xa0000 + 0x100 * n, 23, 16⟩
/-- DMA_CH_n_CTRL.SIGNAL_EN, [13], RW. -/
def dmaChCtrlSignalEn (n : Nat) : Fld := ⟨0xa0000 + 0x100 * n, 13, 13⟩
/-- DMA_CH_n_CTRL.TWO_PHASE, [12], RW. -/
def dmaChCtrlTwoPhase (n : Nat) : Fld := ⟨0xa0000 + 0x100 * n, 12, 12⟩
/-- DMA_CH_n_CTRL.SWAP, [11:10], RW. -/
def dmaChCtrlSwap (n : Nat) : Fld := ⟨0xa0000 + 0x100 * n, 11, 10⟩
/-- DMA_CH_n_CTRL.DST_MODE, [7:6], RW. -/
def dmaChCtrlDstMode (n : Nat) : Fld := ⟨0xa0000 + 0x100 * n, 7, 6⟩
/-- DMA_CH_n_CTRL.SRC_MODE, [5:4], RW. -/
def dmaChCtrlSrcMode (n : Nat) : Fld := ⟨0xa0000 + 0x100 * n, 5, 4⟩
/-- DMA_CH_n_CTRL.OP, [1:0], RW. -/
def dmaChCtrlOp (n : Nat) : Fld := ⟨0xa0000 + 0x100 * n, 1, 0⟩
/-- The offset of DMA_CH_n_STATUS (R208). -/
def dmaChStatusOff (n : Nat) : Nat := 0xa0004 + 0x100 * n
/-- DMA_CH_n_STATUS.CHECK, [22:20], RO. -/
def dmaChStatusCheck (n : Nat) : Fld := ⟨0xa0004 + 0x100 * n, 22, 20⟩
/-- DMA_CH_n_STATUS.FLAGS, [19:16], RO. -/
def dmaChStatusFlags (n : Nat) : Fld := ⟨0xa0004 + 0x100 * n, 19, 16⟩
/-- DMA_CH_n_STATUS.STATUS, [15:8], RO. -/
def dmaChStatusStatus (n : Nat) : Fld := ⟨0xa0004 + 0x100 * n, 15, 8⟩
/-- DMA_CH_n_STATUS.MISCOMPARE, [7], RO. -/
def dmaChStatusMiscompare (n : Nat) : Fld := ⟨0xa0004 + 0x100 * n, 7, 7⟩
/-- DMA_CH_n_STATUS.STATE, [2:0], RO. -/
def dmaChStatusState (n : Nat) : Fld := ⟨0xa0004 + 0x100 * n, 2, 0⟩
/-- The offset of DMA_CH_n_SRC_LO (R208). -/
def dmaChSrcLoOff (n : Nat) : Nat := 0xa0008 + 0x100 * n
/-- DMA_CH_n_SRC_LO.SRC, [31:0], RW. -/
def dmaChSrcLoSrc (n : Nat) : Fld := ⟨0xa0008 + 0x100 * n, 31, 0⟩
/-- The offset of DMA_CH_n_SRC_HI (R208). -/
def dmaChSrcHiOff (n : Nat) : Nat := 0xa000c + 0x100 * n
/-- DMA_CH_n_SRC_HI.SRC, [31:0], RW. -/
def dmaChSrcHiSrc (n : Nat) : Fld := ⟨0xa000c + 0x100 * n, 31, 0⟩
/-- The offset of DMA_CH_n_DST_LO (R208). -/
def dmaChDstLoOff (n : Nat) : Nat := 0xa0010 + 0x100 * n
/-- DMA_CH_n_DST_LO.DST, [31:0], RW. -/
def dmaChDstLoDst (n : Nat) : Fld := ⟨0xa0010 + 0x100 * n, 31, 0⟩
/-- The offset of DMA_CH_n_DST_HI (R208). -/
def dmaChDstHiOff (n : Nat) : Nat := 0xa0014 + 0x100 * n
/-- DMA_CH_n_DST_HI.DST, [31:0], RW. -/
def dmaChDstHiDst (n : Nat) : Fld := ⟨0xa0014 + 0x100 * n, 31, 0⟩
/-- The offset of DMA_CH_n_COUNT (R208). -/
def dmaChCountOff (n : Nat) : Nat := 0xa0018 + 0x100 * n
/-- DMA_CH_n_COUNT.COUNT, [31:0], RW. -/
def dmaChCountCount (n : Nat) : Fld := ⟨0xa0018 + 0x100 * n, 31, 0⟩
/-- The offset of DMA_CH_n_OWNER (R208). -/
def dmaChOwnerOff (n : Nat) : Nat := 0xa001c + 0x100 * n
/-- DMA_CH_n_OWNER.BOUND, [31], RW. -/
def dmaChOwnerBound (n : Nat) : Fld := ⟨0xa001c + 0x100 * n, 31, 31⟩
/-- DMA_CH_n_OWNER.CONTEXT, [8:0], RW. -/
def dmaChOwnerContext (n : Nat) : Fld := ⟨0xa001c + 0x100 * n, 8, 0⟩
/-- The offset of DMA_CH_n_FILL_LO (R208). -/
def dmaChFillLoOff (n : Nat) : Nat := 0xa0020 + 0x100 * n
/-- DMA_CH_n_FILL_LO.FILL, [31:0], RW. -/
def dmaChFillLoFill (n : Nat) : Fld := ⟨0xa0020 + 0x100 * n, 31, 0⟩
/-- The offset of DMA_CH_n_FILL_HI (R208). -/
def dmaChFillHiOff (n : Nat) : Nat := 0xa0024 + 0x100 * n
/-- DMA_CH_n_FILL_HI.FILL, [31:0], RW. -/
def dmaChFillHiFill (n : Nat) : Fld := ⟨0xa0024 + 0x100 * n, 31, 0⟩
/-- The offset of DMA_CH_n_SIGNAL (R208). -/
def dmaChSignalOff (n : Nat) : Nat := 0xa0028 + 0x100 * n
/-- DMA_CH_n_SIGNAL.TARGET, [31:16], RW. -/
def dmaChSignalTarget (n : Nat) : Fld := ⟨0xa0028 + 0x100 * n, 31, 16⟩
/-- DMA_CH_n_SIGNAL.RANK_MODE, [13], RW. -/
def dmaChSignalRankMode (n : Nat) : Fld := ⟨0xa0028 + 0x100 * n, 13, 13⟩
/-- DMA_CH_n_SIGNAL.COUNTER, [11:0], RW. -/
def dmaChSignalCounter (n : Nat) : Fld := ⟨0xa0028 + 0x100 * n, 11, 0⟩
/-- The offset of DMA_CH_n_SIGNAL_INC (R208). -/
def dmaChSignalIncOff (n : Nat) : Nat := 0xa002c + 0x100 * n
/-- DMA_CH_n_SIGNAL_INC.INC, [31:0], RW. -/
def dmaChSignalIncInc (n : Nat) : Fld := ⟨0xa002c + 0x100 * n, 31, 0⟩
/-- The offset of DMA_CH_n_LOOP_k_ITER (R208). -/
def dmaChLoopIterOff (n : Nat) (i : Nat) : Nat := 0xa0030 + 0x100 * n + 0xc * i
/-- DMA_CH_n_LOOP_k_ITER.ITER, [15:0], RW. -/
def dmaChLoopIterIter (n : Nat) (i : Nat) : Fld := ⟨0xa0030 + 0x100 * n + 0xc * i, 15, 0⟩
/-- The offset of DMA_CH_n_LOOP_k_SRC_STRIDE (R208). -/
def dmaChLoopSrcStrideOff (n : Nat) (i : Nat) : Nat := 0xa0034 + 0x100 * n + 0xc * i
/-- DMA_CH_n_LOOP_k_SRC_STRIDE.STRIDE, [31:0], RW. -/
def dmaChLoopSrcStrideStride (n : Nat) (i : Nat) : Fld := ⟨0xa0034 + 0x100 * n + 0xc * i, 31, 0⟩
/-- The offset of DMA_CH_n_LOOP_k_DST_STRIDE (R208). -/
def dmaChLoopDstStrideOff (n : Nat) (i : Nat) : Nat := 0xa0038 + 0x100 * n + 0xc * i
/-- DMA_CH_n_LOOP_k_DST_STRIDE.STRIDE, [31:0], RW. -/
def dmaChLoopDstStrideStride (n : Nat) (i : Nat) : Fld := ⟨0xa0038 + 0x100 * n + 0xc * i, 31, 0⟩
/-- The offset of DMA_CH_n_PROGRESS_LO (R208). -/
def dmaChProgressLoOff (n : Nat) : Nat := 0xa0058 + 0x100 * n
/-- DMA_CH_n_PROGRESS_LO.BYTES, [31:0], RO. -/
def dmaChProgressLoBytes (n : Nat) : Fld := ⟨0xa0058 + 0x100 * n, 31, 0⟩
/-- The offset of DMA_CH_n_PROGRESS_HI (R208). -/
def dmaChProgressHiOff (n : Nat) : Nat := 0xa005c + 0x100 * n
/-- DMA_CH_n_PROGRESS_HI.BYTES, [16:0], RO. -/
def dmaChProgressHiBytes (n : Nat) : Fld := ⟨0xa005c + 0x100 * n, 16, 0⟩
/-- The offset of DMA_CH_n_FAULT_ADDR_LO (R208). -/
def dmaChFaultAddrLoOff (n : Nat) : Nat := 0xa0060 + 0x100 * n
/-- DMA_CH_n_FAULT_ADDR_LO.ADDR, [31:0], RO. -/
def dmaChFaultAddrLoAddr (n : Nat) : Fld := ⟨0xa0060 + 0x100 * n, 31, 0⟩
/-- The offset of DMA_CH_n_FAULT_ADDR_HI (R208). -/
def dmaChFaultAddrHiOff (n : Nat) : Nat := 0xa0064 + 0x100 * n
/-- DMA_CH_n_FAULT_ADDR_HI.ADDR, [31:0], RO. -/
def dmaChFaultAddrHiAddr (n : Nat) : Fld := ⟨0xa0064 + 0x100 * n, 31, 0⟩
/-- The offset of DMA_CH_n_MISMATCH_COUNT (R208). -/
def dmaChMismatchCountOff (n : Nat) : Nat := 0xa0068 + 0x100 * n
/-- DMA_CH_n_MISMATCH_COUNT.COUNT, [31:0], RO. -/
def dmaChMismatchCountCount (n : Nat) : Fld := ⟨0xa0068 + 0x100 * n, 31, 0⟩
/-- The offset of DMA_BUSY_w (R209). -/
def dmaBusyOff (w : Nat) : Nat := 0xa8000 + 0x4 * w
/-- DMA_BUSY_w.BUSY, [31:0], RO. -/
def dmaBusyBusy (w : Nat) : Fld := ⟨0xa8000 + 0x4 * w, 31, 0⟩
/-- The offset of DMA_HALTED_w (R209). -/
def dmaHaltedOff (w : Nat) : Nat := 0xa8010 + 0x4 * w
/-- DMA_HALTED_w.HALTED, [31:0], RO. -/
def dmaHaltedHalted (w : Nat) : Fld := ⟨0xa8010 + 0x4 * w, 31, 0⟩
/-- The offset of DMA_TIMERS_f (R209). -/
def dmaTimersOff (f : Nat) : Nat := 0xa8020 + 0x4 * f
/-- DMA_TIMERS_f.HOST_HELD, [15:8], RO. -/
def dmaTimersHostHeld (f : Nat) : Fld := ⟨0xa8020 + 0x4 * f, 15, 8⟩
/-- DMA_TIMERS_f.FREE, [7:0], RO. -/
def dmaTimersFree (f : Nat) : Fld := ⟨0xa8020 + 0x4 * f, 7, 0⟩
/-- The offset of LAN_DISC_STATUS (R227). -/
def lanDiscStatusOff : Nat := 0xdf000
/-- LAN_DISC_STATUS.UP_PORTS, [20:16], RO. -/
def lanDiscStatusUpPorts : Fld := ⟨0xdf000, 20, 16⟩
/-- LAN_DISC_STATUS.STAGED, [3], RO. -/
def lanDiscStatusStaged : Fld := ⟨0xdf000, 3, 3⟩
/-- LAN_DISC_STATUS.DONE, [2], RO. -/
def lanDiscStatusDone : Fld := ⟨0xdf000, 2, 2⟩
/-- LAN_DISC_STATUS.PROVISIONAL, [1], RO. -/
def lanDiscStatusProvisional : Fld := ⟨0xdf000, 1, 1⟩
/-- LAN_DISC_STATUS.PLAN_VALID, [0], RO. -/
def lanDiscStatusPlanValid : Fld := ⟨0xdf000, 0, 0⟩
/-- The offset of LAN_PLAN_ID (R227). -/
def lanPlanIdOff : Nat := 0xdf004
/-- LAN_PLAN_ID.RACK, [25:16], RO. -/
def lanPlanIdRack : Fld := ⟨0xdf004, 25, 16⟩
/-- LAN_PLAN_ID.NONE, [15:0], RO. -/
def lanPlanIdNone : Fld := ⟨0xdf004, 15, 0⟩
/-- The offset of LAN_PLAN_ROOTS (R227). -/
def lanPlanRootsOff : Nat := 0xdf008
/-- LAN_PLAN_ROOTS.BACKUP_ROOT, [31:16], RO. -/
def lanPlanRootsBackupRoot : Fld := ⟨0xdf008, 31, 16⟩
/-- LAN_PLAN_ROOTS.ROOT, [15:0], RO. -/
def lanPlanRootsRoot : Fld := ⟨0xdf008, 15, 0⟩
/-- The offset of LAN_DISCOVER (R227). -/
def lanDiscoverOff : Nat := 0xdf010
/-- LAN_DISCOVER.GO, [31], WO. -/
def lanDiscoverGo : Fld := ⟨0xdf010, 31, 31⟩
/-- LAN_DISCOVER.PORT_MASK, [15:0], WO. -/
def lanDiscoverPortMask : Fld := ⟨0xdf010, 15, 0⟩
/-- The offset of LAN_PORT_d_DISC (R227). -/
def lanPortDiscOff (d : Nat) : Nat := 0xdf100 + 0x4 * d
/-- LAN_PORT_d_DISC.SEEN_ID, [31:16], RO. -/
def lanPortDiscSeenId (d : Nat) : Fld := ⟨0xdf100 + 0x4 * d, 31, 16⟩
/-- LAN_PORT_d_DISC.SEEN_PORT, [15:12], RO. -/
def lanPortDiscSeenPort (d : Nat) : Fld := ⟨0xdf100 + 0x4 * d, 15, 12⟩
/-- LAN_PORT_d_DISC.SEEN_VALID, [11], RO. -/
def lanPortDiscSeenValid (d : Nat) : Fld := ⟨0xdf100 + 0x4 * d, 11, 11⟩
/-- LAN_PORT_d_DISC.CAUSE, [10:8], RO. -/
def lanPortDiscCause (d : Nat) : Fld := ⟨0xdf100 + 0x4 * d, 10, 8⟩
/-- LAN_PORT_d_DISC.STATE, [2:0], RO. -/
def lanPortDiscState (d : Nat) : Fld := ⟨0xdf100 + 0x4 * d, 2, 0⟩
/-- The offset of LAN_TIME_LO (R227). -/
def lanTimeLoOff : Nat := 0xdf200
/-- LAN_TIME_LO.TIME, [31:0], RO. -/
def lanTimeLoTime : Fld := ⟨0xdf200, 31, 0⟩
/-- The offset of LAN_TIME_HI (R227). -/
def lanTimeHiOff : Nat := 0xdf204
/-- LAN_TIME_HI.TIME, [31:0], RO. -/
def lanTimeHiTime : Fld := ⟨0xdf204, 31, 0⟩
/-- The offset of LAN_TIME_STATUS (R227). -/
def lanTimeStatusOff : Nat := 0xdf208
/-- LAN_TIME_STATUS.LAST_OFFSET, [31:16], RO. -/
def lanTimeStatusLastOffset : Fld := ⟨0xdf208, 31, 16⟩
/-- LAN_TIME_STATUS.PARENT_DIM, [7:4], RO. -/
def lanTimeStatusParentDim : Fld := ⟨0xdf208, 7, 4⟩
/-- LAN_TIME_STATUS.ROLE, [3:2], RO. -/
def lanTimeStatusRole : Fld := ⟨0xdf208, 3, 2⟩
/-- LAN_TIME_STATUS.BACKUP_ACTIVE, [1], RO. -/
def lanTimeStatusBackupActive : Fld := ⟨0xdf208, 1, 1⟩
/-- LAN_TIME_STATUS.VALID, [0], RO. -/
def lanTimeStatusValid : Fld := ⟨0xdf208, 0, 0⟩
/-- The offset of LAN_TIME_RATE (R227). -/
def lanTimeRateOff : Nat := 0xdf20c
/-- LAN_TIME_RATE.RATE, [31:0], RO. -/
def lanTimeRateRate : Fld := ⟨0xdf20c, 31, 0⟩
/-- The offset of LAN_LANE_n_STATUS (R254). -/
def lanLaneStatusOff (n : Nat) : Nat := 0xc0000 + 0x100 * n
/-- LAN_LANE_n_STATUS.DROPS, [31:24], RO. -/
def lanLaneStatusDrops (n : Nat) : Fld := ⟨0xc0000 + 0x100 * n, 31, 24⟩
/-- LAN_LANE_n_STATUS.POSITION, [19:16], RO. -/
def lanLaneStatusPosition (n : Nat) : Fld := ⟨0xc0000 + 0x100 * n, 19, 16⟩
/-- LAN_LANE_n_STATUS.DIM, [15:12], RO. -/
def lanLaneStatusDim (n : Nat) : Fld := ⟨0xc0000 + 0x100 * n, 15, 12⟩
/-- LAN_LANE_n_STATUS.POLARITY_INV, [5], RO. -/
def lanLaneStatusPolarityInv (n : Nat) : Fld := ⟨0xc0000 + 0x100 * n, 5, 5⟩
/-- LAN_LANE_n_STATUS.MARKER_LOCK, [4], RO. -/
def lanLaneStatusMarkerLock (n : Nat) : Fld := ⟨0xc0000 + 0x100 * n, 4, 4⟩
/-- LAN_LANE_n_STATUS.STATE, [2:0], RO. -/
def lanLaneStatusState (n : Nat) : Fld := ⟨0xc0000 + 0x100 * n, 2, 0⟩
/-- The offset of LAN_LANE_n_CTRL (R254). -/
def lanLaneCtrlOff (n : Nat) : Nat := 0xc0004 + 0x100 * n
/-- LAN_LANE_n_CTRL.DROP, [31], WO. -/
def lanLaneCtrlDrop (n : Nat) : Fld := ⟨0xc0004 + 0x100 * n, 31, 31⟩
/-- LAN_LANE_n_CTRL.RESTORE, [30], WO. -/
def lanLaneCtrlRestore (n : Nat) : Fld := ⟨0xc0004 + 0x100 * n, 30, 30⟩
/-- LAN_LANE_n_CTRL.PRBS_EN, [2], RW. -/
def lanLaneCtrlPrbsEn (n : Nat) : Fld := ⟨0xc0004 + 0x100 * n, 2, 2⟩
/-- LAN_LANE_n_CTRL.LOOPBACK, [1:0], RW. -/
def lanLaneCtrlLoopback (n : Nat) : Fld := ⟨0xc0004 + 0x100 * n, 1, 0⟩
/-- The offset of LAN_LANE_n_FEC_CORR (R254). -/
def lanLaneFecCorrOff (n : Nat) : Nat := 0xc0008 + 0x100 * n
/-- LAN_LANE_n_FEC_CORR.COUNT, [31:0], RO. -/
def lanLaneFecCorrCount (n : Nat) : Fld := ⟨0xc0008 + 0x100 * n, 31, 0⟩
/-- The offset of LAN_LANE_n_FEC_UNCORR (R254). -/
def lanLaneFecUncorrOff (n : Nat) : Nat := 0xc000c + 0x100 * n
/-- LAN_LANE_n_FEC_UNCORR.COUNT, [31:0], RO. -/
def lanLaneFecUncorrCount (n : Nat) : Fld := ⟨0xc000c + 0x100 * n, 31, 0⟩
/-- The offset of LAN_LANE_n_CRC_ERR (R254). -/
def lanLaneCrcErrOff (n : Nat) : Nat := 0xc0010 + 0x100 * n
/-- LAN_LANE_n_CRC_ERR.COUNT, [31:0], RO. -/
def lanLaneCrcErrCount (n : Nat) : Fld := ⟨0xc0010 + 0x100 * n, 31, 0⟩
/-- The offset of LAN_LANE_n_STUFF_ERR (R254). -/
def lanLaneStuffErrOff (n : Nat) : Nat := 0xc0014 + 0x100 * n
/-- LAN_LANE_n_STUFF_ERR.COUNT, [31:0], RO. -/
def lanLaneStuffErrCount (n : Nat) : Fld := ⟨0xc0014 + 0x100 * n, 31, 0⟩
/-- The offset of LAN_LANE_n_PRBS_ERR (R254). -/
def lanLanePrbsErrOff (n : Nat) : Nat := 0xc0018 + 0x100 * n
/-- LAN_LANE_n_PRBS_ERR.COUNT, [31:0], RO. -/
def lanLanePrbsErrCount (n : Nat) : Fld := ⟨0xc0018 + 0x100 * n, 31, 0⟩
/-- The offset of LAN_LANE_n_EYE (R254). -/
def lanLaneEyeOff (n : Nat) : Nat := 0xc001c + 0x100 * n
/-- LAN_LANE_n_EYE.VALID, [31], RO. -/
def lanLaneEyeValid (n : Nat) : Fld := ⟨0xc001c + 0x100 * n, 31, 31⟩
/-- LAN_LANE_n_EYE.EYE, [25:24], RO. -/
def lanLaneEyeEye (n : Nat) : Fld := ⟨0xc001c + 0x100 * n, 25, 24⟩
/-- LAN_LANE_n_EYE.WIDTH, [22:16], RO. -/
def lanLaneEyeWidth (n : Nat) : Fld := ⟨0xc001c + 0x100 * n, 22, 16⟩
/-- LAN_LANE_n_EYE.HEIGHT, [14:8], RO. -/
def lanLaneEyeHeight (n : Nat) : Fld := ⟨0xc001c + 0x100 * n, 14, 8⟩
/-- The offset of LAN_LANE_n_TRAIN (R254). -/
def lanLaneTrainOff (n : Nat) : Nat := 0xc0020 + 0x100 * n
/-- LAN_LANE_n_TRAIN.SAVED_USED, [31], RO. -/
def lanLaneTrainSavedUsed (n : Nat) : Fld := ⟨0xc0020 + 0x100 * n, 31, 31⟩
/-- LAN_LANE_n_TRAIN.TIME_MS, [15:0], RO. -/
def lanLaneTrainTimeMs (n : Nat) : Fld := ⟨0xc0020 + 0x100 * n, 15, 0⟩
/-- The offset of LAN_PORT_d_STATUS (R255). -/
def lanPortStatusOff (d : Nat) : Nat := 0xd8000 + 0x100 * d
/-- LAN_PORT_d_STATUS.ACTIVE_MASK, [27:16], RO. -/
def lanPortStatusActiveMask (d : Nat) : Fld := ⟨0xd8000 + 0x100 * d, 27, 16⟩
/-- LAN_PORT_d_STATUS.WIDTH, [11:8], RO. -/
def lanPortStatusWidth (d : Nat) : Fld := ⟨0xd8000 + 0x100 * d, 11, 8⟩
/-- LAN_PORT_d_STATUS.IDLE_RX, [5], RO. -/
def lanPortStatusIdleRx (d : Nat) : Fld := ⟨0xd8000 + 0x100 * d, 5, 5⟩
/-- LAN_PORT_d_STATUS.IDLE_TX, [4], RO. -/
def lanPortStatusIdleTx (d : Nat) : Fld := ⟨0xd8000 + 0x100 * d, 4, 4⟩
/-- LAN_PORT_d_STATUS.DEGRADED, [3], RO. -/
def lanPortStatusDegraded (d : Nat) : Fld := ⟨0xd8000 + 0x100 * d, 3, 3⟩
/-- LAN_PORT_d_STATUS.ENCRYPTED, [2], RO. -/
def lanPortStatusEncrypted (d : Nat) : Fld := ⟨0xd8000 + 0x100 * d, 2, 2⟩
/-- LAN_PORT_d_STATUS.SAVED_USED, [1], RO. -/
def lanPortStatusSavedUsed (d : Nat) : Fld := ⟨0xd8000 + 0x100 * d, 1, 1⟩
/-- LAN_PORT_d_STATUS.LINK, [0], RO. -/
def lanPortStatusLink (d : Nat) : Fld := ⟨0xd8000 + 0x100 * d, 0, 0⟩
/-- The offset of LAN_PORT_d_CTRL (R255). -/
def lanPortCtrlOff (d : Nat) : Nat := 0xd8004 + 0x100 * d
/-- LAN_PORT_d_CTRL.RETRAIN, [31], WO. -/
def lanPortCtrlRetrain (d : Nat) : Fld := ⟨0xd8004 + 0x100 * d, 31, 31⟩
/-- LAN_PORT_d_CTRL.FORGET, [30], WO. -/
def lanPortCtrlForget (d : Nat) : Fld := ⟨0xd8004 + 0x100 * d, 30, 30⟩
/-- LAN_PORT_d_CTRL.IDLE_EN, [0], RW. -/
def lanPortCtrlIdleEn (d : Nat) : Fld := ⟨0xd8004 + 0x100 * d, 0, 0⟩
/-- The offset of LAN_PORT_d_REPLAYS (R255). -/
def lanPortReplaysOff (d : Nat) : Nat := 0xd8008 + 0x100 * d
/-- LAN_PORT_d_REPLAYS.COUNT, [31:0], RO. -/
def lanPortReplaysCount (d : Nat) : Fld := ⟨0xd8008 + 0x100 * d, 31, 0⟩
/-- The offset of LAN_PORT_d_AUTH_FAIL (R255). -/
def lanPortAuthFailOff (d : Nat) : Nat := 0xd800c + 0x100 * d
/-- LAN_PORT_d_AUTH_FAIL.COUNT, [31:0], RO. -/
def lanPortAuthFailCount (d : Nat) : Fld := ⟨0xd800c + 0x100 * d, 31, 0⟩
/-- The offset of LAN_PORT_d_FRAMES_LO (R255). -/
def lanPortFramesLoOff (d : Nat) : Nat := 0xd8010 + 0x100 * d
/-- LAN_PORT_d_FRAMES_LO.COUNT, [31:0], RO. -/
def lanPortFramesLoCount (d : Nat) : Fld := ⟨0xd8010 + 0x100 * d, 31, 0⟩
/-- The offset of LAN_PORT_d_FRAMES_HI (R255). -/
def lanPortFramesHiOff (d : Nat) : Nat := 0xd8014 + 0x100 * d
/-- LAN_PORT_d_FRAMES_HI.COUNT, [31:0], RO. -/
def lanPortFramesHiCount (d : Nat) : Fld := ⟨0xd8014 + 0x100 * d, 31, 0⟩
/-- The offset of LAN_PORT_d_SKEW (R255). -/
def lanPortSkewOff (d : Nat) : Nat := 0xd8018 + 0x100 * d
/-- LAN_PORT_d_SKEW.ASYMMETRY, [31:16], RO. -/
def lanPortSkewAsymmetry (d : Nat) : Fld := ⟨0xd8018 + 0x100 * d, 31, 16⟩
/-- LAN_PORT_d_SKEW.SKEW, [15:0], RO. -/
def lanPortSkewSkew (d : Nat) : Fld := ⟨0xd8018 + 0x100 * d, 15, 0⟩
/-- The offset of LAN_PORT_d_LINK_LOSSES (R255). -/
def lanPortLinkLossesOff (d : Nat) : Nat := 0xd801c + 0x100 * d
/-- LAN_PORT_d_LINK_LOSSES.COUNT, [31:0], RO. -/
def lanPortLinkLossesCount (d : Nat) : Fld := ⟨0xd801c + 0x100 * d, 31, 0⟩
/-- The offset of LAN_EYE_f_CTRL (R256). -/
def lanEyeCtrlOff (f : Nat) : Nat := 0xc8000 + 0x8000 * f
/-- LAN_EYE_f_CTRL.START, [31], WO. -/
def lanEyeCtrlStart (f : Nat) : Fld := ⟨0xc8000 + 0x8000 * f, 31, 31⟩
/-- LAN_EYE_f_CTRL.ABORT, [30], WO. -/
def lanEyeCtrlAbort (f : Nat) : Fld := ⟨0xc8000 + 0x8000 * f, 30, 30⟩
/-- LAN_EYE_f_CTRL.LANE, [22:16], RW. -/
def lanEyeCtrlLane (f : Nat) : Fld := ⟨0xc8000 + 0x8000 * f, 22, 16⟩
/-- LAN_EYE_f_CTRL.EYE, [13:12], RW. -/
def lanEyeCtrlEye (f : Nat) : Fld := ⟨0xc8000 + 0x8000 * f, 13, 12⟩
/-- LAN_EYE_f_CTRL.DWELL, [4:0], RW. -/
def lanEyeCtrlDwell (f : Nat) : Fld := ⟨0xc8000 + 0x8000 * f, 4, 0⟩
/-- The offset of LAN_EYE_f_STATUS (R256). -/
def lanEyeStatusOff (f : Nat) : Nat := 0xc8004 + 0x8000 * f
/-- LAN_EYE_f_STATUS.POINTS, [28:16], RO. -/
def lanEyeStatusPoints (f : Nat) : Fld := ⟨0xc8004 + 0x8000 * f, 28, 16⟩
/-- LAN_EYE_f_STATUS.STATE, [2:0], RO. -/
def lanEyeStatusState (f : Nat) : Fld := ⟨0xc8004 + 0x8000 * f, 2, 0⟩
/-- The offset of LAN_EYE_f_POINT_i (R256). -/
def lanEyePointOff (f : Nat) (i : Nat) : Nat := 0xcc000 + 0x8000 * f + 0x4 * i
/-- LAN_EYE_f_POINT_i.ERRORS, [31:0], RO. -/
def lanEyePointErrors (f : Nat) (i : Nat) : Fld := ⟨0xcc000 + 0x8000 * f + 0x4 * i, 31, 0⟩
/-- The offset of RTR_CTRL (R280). -/
def rtrCtrlOff : Nat := 0xe0000
/-- RTR_CTRL.CLEAR_HWM, [31], WO. -/
def rtrCtrlClearHwm : Fld := ⟨0xe0000, 31, 31⟩
/-- The offset of RTR_REQ_TIMEOUT (R280). -/
def rtrReqTimeoutOff : Nat := 0xe0004
/-- RTR_REQ_TIMEOUT.US, [16:0], RW. -/
def rtrReqTimeoutUs : Fld := ⟨0xe0004, 16, 0⟩
/-- The offset of RTR_UNREACHABLE (R280). -/
def rtrUnreachableOff : Nat := 0xe0008
/-- RTR_UNREACHABLE.COUNT, [31:0], RO. -/
def rtrUnreachableCount : Fld := ⟨0xe0008, 31, 0⟩
/-- The offset of RTR_STALE_REPLIES (R280). -/
def rtrStaleRepliesOff : Nat := 0xe000c
/-- RTR_STALE_REPLIES.COUNT, [31:0], RO. -/
def rtrStaleRepliesCount : Fld := ⟨0xe000c, 31, 0⟩
/-- The offset of RTR_TIMEOUTS (R280). -/
def rtrTimeoutsOff : Nat := 0xe0010
/-- RTR_TIMEOUTS.COUNT, [31:0], RO. -/
def rtrTimeoutsCount : Fld := ⟨0xe0010, 31, 0⟩
/-- The offset of RTR_E2E_ERRORS (R280). -/
def rtrE2eErrorsOff : Nat := 0xe0014
/-- RTR_E2E_ERRORS.COUNT, [31:0], RO. -/
def rtrE2eErrorsCount : Fld := ⟨0xe0014, 31, 0⟩
/-- The offset of RTR_LOCAL_DEPTH (R280). -/
def rtrLocalDepthOff : Nat := 0xe0018
/-- RTR_LOCAL_DEPTH.CELLS, [21:0], RO. -/
def rtrLocalDepthCells : Fld := ⟨0xe0018, 21, 0⟩
/-- The offset of RTR_LOCAL_DEPTH_HWM (R280). -/
def rtrLocalDepthHwmOff : Nat := 0xe001c
/-- RTR_LOCAL_DEPTH_HWM.CELLS, [21:0], RO. -/
def rtrLocalDepthHwmCells : Fld := ⟨0xe001c, 21, 0⟩
/-- The offset of RTR_STORE_f_STATUS (R280). -/
def rtrStoreStatusOff (f : Nat) : Nat := 0xe0100 + 0x40 * f
/-- RTR_STORE_f_STATUS.CAPPED, [25], RO. -/
def rtrStoreStatusCapped (f : Nat) : Fld := ⟨0xe0100 + 0x40 * f, 25, 25⟩
/-- RTR_STORE_f_STATUS.THROTTLE, [24], RO. -/
def rtrStoreStatusThrottle (f : Nat) : Fld := ⟨0xe0100 + 0x40 * f, 24, 24⟩
/-- RTR_STORE_f_STATUS.USED, [22:0], RO. -/
def rtrStoreStatusUsed (f : Nat) : Fld := ⟨0xe0100 + 0x40 * f, 22, 0⟩
/-- The offset of RTR_STORE_f_HWM (R280). -/
def rtrStoreHwmOff (f : Nat) : Nat := 0xe0104 + 0x40 * f
/-- RTR_STORE_f_HWM.USED, [22:0], RO. -/
def rtrStoreHwmUsed (f : Nat) : Fld := ⟨0xe0104 + 0x40 * f, 22, 0⟩
/-- The offset of RTR_STORE_f_SLOTS (R280). -/
def rtrStoreSlotsOff (f : Nat) : Nat := 0xe0108 + 0x40 * f
/-- RTR_STORE_f_SLOTS.HWM, [29:16], RO. -/
def rtrStoreSlotsHwm (f : Nat) : Fld := ⟨0xe0108 + 0x40 * f, 29, 16⟩
/-- RTR_STORE_f_SLOTS.IN_USE, [13:0], RO. -/
def rtrStoreSlotsInUse (f : Nat) : Fld := ⟨0xe0108 + 0x40 * f, 13, 0⟩
/-- The offset of RTR_STORE_f_SHARED_FREE (R280). -/
def rtrStoreSharedFreeOff (f : Nat) : Nat := 0xe010c + 0x40 * f
/-- RTR_STORE_f_SHARED_FREE.CELLS, [22:0], RO. -/
def rtrStoreSharedFreeCells (f : Nat) : Fld := ⟨0xe010c + 0x40 * f, 22, 0⟩
/-- The offset of RTR_STORE_f_CLASS_c_USED (R280). -/
def rtrStoreClassUsedOff (f : Nat) (c : Nat) : Nat := 0xe0110 + 0x40 * f + 0x4 * c
/-- RTR_STORE_f_CLASS_c_USED.CELLS, [22:0], RO. -/
def rtrStoreClassUsedCells (f : Nat) (c : Nat) : Fld := ⟨0xe0110 + 0x40 * f + 0x4 * c, 22, 0⟩
/-- The offset of RTR_PORT_d_TX_PKTS_LO (R280). -/
def rtrPortTxPktsLoOff (d : Nat) : Nat := 0xe1000 + 0x80 * d
/-- RTR_PORT_d_TX_PKTS_LO.COUNT, [31:0], RO. -/
def rtrPortTxPktsLoCount (d : Nat) : Fld := ⟨0xe1000 + 0x80 * d, 31, 0⟩
/-- The offset of RTR_PORT_d_TX_PKTS_HI (R280). -/
def rtrPortTxPktsHiOff (d : Nat) : Nat := 0xe1004 + 0x80 * d
/-- RTR_PORT_d_TX_PKTS_HI.COUNT, [31:0], RO. -/
def rtrPortTxPktsHiCount (d : Nat) : Fld := ⟨0xe1004 + 0x80 * d, 31, 0⟩
/-- The offset of RTR_PORT_d_TX_FLITS_LO (R280). -/
def rtrPortTxFlitsLoOff (d : Nat) : Nat := 0xe1008 + 0x80 * d
/-- RTR_PORT_d_TX_FLITS_LO.COUNT, [31:0], RO. -/
def rtrPortTxFlitsLoCount (d : Nat) : Fld := ⟨0xe1008 + 0x80 * d, 31, 0⟩
/-- The offset of RTR_PORT_d_TX_FLITS_HI (R280). -/
def rtrPortTxFlitsHiOff (d : Nat) : Nat := 0xe100c + 0x80 * d
/-- RTR_PORT_d_TX_FLITS_HI.COUNT, [31:0], RO. -/
def rtrPortTxFlitsHiCount (d : Nat) : Fld := ⟨0xe100c + 0x80 * d, 31, 0⟩
/-- The offset of RTR_PORT_d_RX_PKTS_LO (R280). -/
def rtrPortRxPktsLoOff (d : Nat) : Nat := 0xe1010 + 0x80 * d
/-- RTR_PORT_d_RX_PKTS_LO.COUNT, [31:0], RO. -/
def rtrPortRxPktsLoCount (d : Nat) : Fld := ⟨0xe1010 + 0x80 * d, 31, 0⟩
/-- The offset of RTR_PORT_d_RX_PKTS_HI (R280). -/
def rtrPortRxPktsHiOff (d : Nat) : Nat := 0xe1014 + 0x80 * d
/-- RTR_PORT_d_RX_PKTS_HI.COUNT, [31:0], RO. -/
def rtrPortRxPktsHiCount (d : Nat) : Fld := ⟨0xe1014 + 0x80 * d, 31, 0⟩
/-- The offset of RTR_PORT_d_RX_FLITS_LO (R280). -/
def rtrPortRxFlitsLoOff (d : Nat) : Nat := 0xe1018 + 0x80 * d
/-- RTR_PORT_d_RX_FLITS_LO.COUNT, [31:0], RO. -/
def rtrPortRxFlitsLoCount (d : Nat) : Fld := ⟨0xe1018 + 0x80 * d, 31, 0⟩
/-- The offset of RTR_PORT_d_RX_FLITS_HI (R280). -/
def rtrPortRxFlitsHiOff (d : Nat) : Nat := 0xe101c + 0x80 * d
/-- RTR_PORT_d_RX_FLITS_HI.COUNT, [31:0], RO. -/
def rtrPortRxFlitsHiCount (d : Nat) : Fld := ⟨0xe101c + 0x80 * d, 31, 0⟩
/-- The offset of RTR_PORT_d_DEPTH (R280). -/
def rtrPortDepthOff (d : Nat) : Nat := 0xe1020 + 0x80 * d
/-- RTR_PORT_d_DEPTH.CELLS, [21:0], RO. -/
def rtrPortDepthCells (d : Nat) : Fld := ⟨0xe1020 + 0x80 * d, 21, 0⟩
/-- The offset of RTR_PORT_d_DEPTH_HWM (R280). -/
def rtrPortDepthHwmOff (d : Nat) : Nat := 0xe1024 + 0x80 * d
/-- RTR_PORT_d_DEPTH_HWM.CELLS, [21:0], RO. -/
def rtrPortDepthHwmCells (d : Nat) : Fld := ⟨0xe1024 + 0x80 * d, 21, 0⟩
/-- The offset of RTR_PORT_d_DETOURS (R280). -/
def rtrPortDetoursOff (d : Nat) : Nat := 0xe1028 + 0x80 * d
/-- RTR_PORT_d_DETOURS.COUNT, [31:0], RO. -/
def rtrPortDetoursCount (d : Nat) : Fld := ⟨0xe1028 + 0x80 * d, 31, 0⟩
/-- The offset of RTR_PORT_d_HEADER_ERR (R280). -/
def rtrPortHeaderErrOff (d : Nat) : Nat := 0xe102c + 0x80 * d
/-- RTR_PORT_d_HEADER_ERR.COUNT, [31:0], RO. -/
def rtrPortHeaderErrCount (d : Nat) : Fld := ⟨0xe102c + 0x80 * d, 31, 0⟩
/-- The offset of RTR_PORT_d_STALL_c (R280). -/
def rtrPortStallOff (d : Nat) (c : Nat) : Nat := 0xe1030 + 0x80 * d + 0x4 * c
/-- RTR_PORT_d_STALL_c.COUNT, [31:0], RO. -/
def rtrPortStallCount (d : Nat) (c : Nat) : Fld := ⟨0xe1030 + 0x80 * d + 0x4 * c, 31, 0⟩
/-- The offset of CAR_STATUS (R315). -/
def carStatusOff : Nat := 0x100000
/-- CAR_STATUS.GROUPS, [22:16], RO. -/
def carStatusGroups : Fld := ⟨0x100000, 22, 16⟩
/-- CAR_STATUS.FREE_SLOTS_F1, [15:8], RO. -/
def carStatusFreeSlotsF1 : Fld := ⟨0x100000, 15, 8⟩
/-- CAR_STATUS.FREE_SLOTS_F0, [7:0], RO. -/
def carStatusFreeSlotsF0 : Fld := ⟨0x100000, 7, 0⟩
/-- The offset of CAR_STALL_MS (R315). -/
def carStallMsOff : Nat := 0x100004
/-- CAR_STALL_MS.MS, [15:0], RW. -/
def carStallMsMs : Fld := ⟨0x100004, 15, 0⟩
/-- The offset of CAR_RESIDUE_RETRIES (R315). -/
def carResidueRetriesOff : Nat := 0x100008
/-- CAR_RESIDUE_RETRIES.COUNT, [31:0], RO. -/
def carResidueRetriesCount : Fld := ⟨0x100008, 31, 0⟩
/-- The offset of CAR_ARITH_FAILS (R315). -/
def carArithFailsOff : Nat := 0x10000c
/-- CAR_ARITH_FAILS.COUNT, [31:0], RO. -/
def carArithFailsCount : Fld := ⟨0x10000c, 31, 0⟩
/-- The offset of CAR_STALE_SEGMENTS (R315). -/
def carStaleSegmentsOff : Nat := 0x100010
/-- CAR_STALE_SEGMENTS.COUNT, [31:0], RO. -/
def carStaleSegmentsCount : Fld := ⟨0x100010, 31, 0⟩
/-- The offset of CAR_COLLECTIVES_LO (R315). -/
def carCollectivesLoOff : Nat := 0x100014
/-- CAR_COLLECTIVES_LO.COUNT, [31:0], RO. -/
def carCollectivesLoCount : Fld := ⟨0x100014, 31, 0⟩
/-- The offset of CAR_COLLECTIVES_HI (R315). -/
def carCollectivesHiOff : Nat := 0x100018
/-- CAR_COLLECTIVES_HI.COUNT, [31:0], RO. -/
def carCollectivesHiCount : Fld := ⟨0x100018, 31, 0⟩
/-- The offset of CAR_GROUP_g_STATE (R315). -/
def carGroupStateOff (g : Nat) : Nat := 0x100100 + 0x20 * g
/-- CAR_GROUP_g_STATE.WEIGHT, [31:28], RO. -/
def carGroupStateWeight (g : Nat) : Fld := ⟨0x100100 + 0x20 * g, 31, 28⟩
/-- CAR_GROUP_g_STATE.ALIGNED, [23], RO. -/
def carGroupStateAligned (g : Nat) : Fld := ⟨0x100100 + 0x20 * g, 23, 23⟩
/-- CAR_GROUP_g_STATE.HOME_DIE, [22], RO. -/
def carGroupStateHomeDie (g : Nat) : Fld := ⟨0x100100 + 0x20 * g, 22, 22⟩
/-- CAR_GROUP_g_STATE.SLOTS, [21:16], RO. -/
def carGroupStateSlots (g : Nat) : Fld := ⟨0x100100 + 0x20 * g, 21, 16⟩
/-- CAR_GROUP_g_STATE.AXES, [15:8], RO. -/
def carGroupStateAxes (g : Nat) : Fld := ⟨0x100100 + 0x20 * g, 15, 8⟩
/-- CAR_GROUP_g_STATE.STATE, [2:0], RO. -/
def carGroupStateState (g : Nat) : Fld := ⟨0x100100 + 0x20 * g, 2, 0⟩
/-- The offset of CAR_GROUP_g_ID (R315). -/
def carGroupIdOff (g : Nat) : Nat := 0x100104 + 0x20 * g
/-- CAR_GROUP_g_ID.ID, [31:0], RO. -/
def carGroupIdId (g : Nat) : Fld := ⟨0x100104 + 0x20 * g, 31, 0⟩
/-- The offset of CAR_GROUP_g_CONTEXT (R315). -/
def carGroupContextOff (g : Nat) : Nat := 0x100108 + 0x20 * g
/-- CAR_GROUP_g_CONTEXT.GENERATION, [31:24], RO. -/
def carGroupContextGeneration (g : Nat) : Fld := ⟨0x100108 + 0x20 * g, 31, 24⟩
/-- CAR_GROUP_g_CONTEXT.CONTEXT, [8:0], RO. -/
def carGroupContextContext (g : Nat) : Fld := ⟨0x100108 + 0x20 * g, 8, 0⟩
/-- The offset of CAR_GROUP_g_MEMBERS (R315). -/
def carGroupMembersOff (g : Nat) : Nat := 0x10010c + 0x20 * g
/-- CAR_GROUP_g_MEMBERS.RANK_MASK, [31:16], RO. -/
def carGroupMembersRankMask (g : Nat) : Fld := ⟨0x10010c + 0x20 * g, 31, 16⟩
/-- CAR_GROUP_g_MEMBERS.BASE_RANK, [15:0], RO. -/
def carGroupMembersBaseRank (g : Nat) : Fld := ⟨0x10010c + 0x20 * g, 15, 0⟩
/-- The offset of CAR_GROUP_g_QUEUE (R315). -/
def carGroupQueueOff (g : Nat) : Nat := 0x100110 + 0x20 * g
/-- CAR_GROUP_g_QUEUE.TAIL, [31:16], RO. -/
def carGroupQueueTail (g : Nat) : Fld := ⟨0x100110 + 0x20 * g, 31, 16⟩
/-- CAR_GROUP_g_QUEUE.HEAD, [15:0], RO. -/
def carGroupQueueHead (g : Nat) : Fld := ⟨0x100110 + 0x20 * g, 15, 0⟩
/-- The offset of CAR_GROUP_g_RUN (R315). -/
def carGroupRunOff (g : Nat) : Nat := 0x100114 + 0x20 * g
/-- CAR_GROUP_g_RUN.CSEQ, [31:16], RO. -/
def carGroupRunCseq (g : Nat) : Fld := ⟨0x100114 + 0x20 * g, 31, 16⟩
/-- CAR_GROUP_g_RUN.LAST_STATUS, [15:8], RO. -/
def carGroupRunLastStatus (g : Nat) : Fld := ⟨0x100114 + 0x20 * g, 15, 8⟩
/-- CAR_GROUP_g_RUN.STEP, [7:0], RO. -/
def carGroupRunStep (g : Nat) : Fld := ⟨0x100114 + 0x20 * g, 7, 0⟩
/-- The offset of CAR_GROUP_g_DONE (R315). -/
def carGroupDoneOff (g : Nat) : Nat := 0x100118 + 0x20 * g
/-- CAR_GROUP_g_DONE.COUNT, [31:0], RO. -/
def carGroupDoneCount (g : Nat) : Fld := ⟨0x100118 + 0x20 * g, 31, 0⟩
/-- The offset of CAR_GROUP_g_LOST (R315). -/
def carGroupLostOff (g : Nat) : Nat := 0x10011c + 0x20 * g
/-- CAR_GROUP_g_LOST.VALID, [16], RO. -/
def carGroupLostValid (g : Nat) : Fld := ⟨0x10011c + 0x20 * g, 16, 16⟩
/-- CAR_GROUP_g_LOST.ID, [15:0], RO. -/
def carGroupLostId (g : Nat) : Fld := ⟨0x10011c + 0x20 * g, 15, 0⟩
/-- The offset of BNK_STATUS (R347). -/
def bnkStatusOff : Nat := 0x120000
/-- BNK_STATUS.RECOVERY, [23:16], RO. -/
def bnkStatusRecovery : Fld := ⟨0x120000, 23, 16⟩
/-- BNK_STATUS.POSITION, [11:9], RO. -/
def bnkStatusPosition : Fld := ⟨0x120000, 11, 9⟩
/-- BNK_STATUS.FULL_NEXT, [8], RO. -/
def bnkStatusFullNext : Fld := ⟨0x120000, 8, 8⟩
/-- BNK_STATUS.STATE, [3:0], RO. -/
def bnkStatusState : Fld := ⟨0x120000, 3, 0⟩
/-- The offset of BNK_STAGE (R347). -/
def bnkStageOff : Nat := 0x120004
/-- BNK_STAGE.ROUND, [15:8], RO. -/
def bnkStageRound : Fld := ⟨0x120004, 15, 8⟩
/-- BNK_STAGE.STAGE, [2:0], RO. -/
def bnkStageStage : Fld := ⟨0x120004, 2, 0⟩
/-- The offset of BNK_JOB (R347). -/
def bnkJobOff : Nat := 0x120008
/-- BNK_JOB.JOB, [31:0], RO. -/
def bnkJobJob : Fld := ⟨0x120008, 31, 0⟩
/-- The offset of BNK_RICK (R347). -/
def bnkRickOff : Nat := 0x12000c
/-- BNK_RICK.BIT2, [11:8], RO. -/
def bnkRickBit2 : Fld := ⟨0x12000c, 11, 8⟩
/-- BNK_RICK.BIT1, [7:4], RO. -/
def bnkRickBit1 : Fld := ⟨0x12000c, 7, 4⟩
/-- BNK_RICK.BIT0, [3:0], RO. -/
def bnkRickBit0 : Fld := ⟨0x12000c, 3, 0⟩
/-- The offset of BNK_PROTECTED (R347). -/
def bnkProtectedOff : Nat := 0x120010
/-- BNK_PROTECTED.COUNT, [26:16], RO. -/
def bnkProtectedCount : Fld := ⟨0x120010, 26, 16⟩
/-- BNK_PROTECTED.BASE, [10:0], RO. -/
def bnkProtectedBase : Fld := ⟨0x120010, 10, 0⟩
/-- The offset of BNK_LOG (R347). -/
def bnkLogOff : Nat := 0x120014
/-- BNK_LOG.COUNT, [22:16], RO. -/
def bnkLogCount : Fld := ⟨0x120014, 22, 16⟩
/-- BNK_LOG.BASE, [10:0], RO. -/
def bnkLogBase : Fld := ⟨0x120014, 10, 0⟩
/-- The offset of BNK_LOG_USED (R347). -/
def bnkLogUsedOff : Nat := 0x120018
/-- BNK_LOG_USED.ENTRIES, [24:0], RO. -/
def bnkLogUsedEntries : Fld := ⟨0x120018, 24, 0⟩
/-- The offset of BNK_LOG_HWM (R347). -/
def bnkLogHwmOff : Nat := 0x12001c
/-- BNK_LOG_HWM.ENTRIES, [24:0], RO. -/
def bnkLogHwmEntries : Fld := ⟨0x12001c, 24, 0⟩
/-- The offset of BNK_BANK_SEQ (R347). -/
def bnkBankSeqOff : Nat := 0x120020
/-- BNK_BANK_SEQ.SEQ, [31:0], RO. -/
def bnkBankSeqSeq : Fld := ⟨0x120020, 31, 0⟩
/-- The offset of BNK_DIRTY (R347). -/
def bnkDirtyOff : Nat := 0x120024
/-- BNK_DIRTY.UNITS, [31:0], RO. -/
def bnkDirtyUnits : Fld := ⟨0x120024, 31, 0⟩
/-- The offset of BNK_LAST_TIME (R347). -/
def bnkLastTimeOff : Nat := 0x120028
/-- BNK_LAST_TIME.US, [31:0], RO. -/
def bnkLastTimeUs : Fld := ⟨0x120028, 31, 0⟩
/-- The offset of BNK_LAST_DELTA_LO (R347). -/
def bnkLastDeltaLoOff : Nat := 0x12002c
/-- BNK_LAST_DELTA_LO.BYTES, [31:0], RO. -/
def bnkLastDeltaLoBytes : Fld := ⟨0x12002c, 31, 0⟩
/-- The offset of BNK_LAST_DELTA_HI (R347). -/
def bnkLastDeltaHiOff : Nat := 0x120030
/-- BNK_LAST_DELTA_HI.BYTES, [31:0], RO. -/
def bnkLastDeltaHiBytes : Fld := ⟨0x120030, 31, 0⟩
/-- The offset of BNK_STALL_MS (R347). -/
def bnkStallMsOff : Nat := 0x120034
/-- BNK_STALL_MS.MS, [15:0], RW. -/
def bnkStallMsMs : Fld := ⟨0x120034, 15, 0⟩
/-- The offset of BNK_REBUILD_DONE (R347). -/
def bnkRebuildDoneOff : Nat := 0x120038
/-- BNK_REBUILD_DONE.COUNT, [31:0], RO. -/
def bnkRebuildDoneCount : Fld := ⟨0x120038, 31, 0⟩
/-- The offset of BNK_REBUILD_TOTAL (R347). -/
def bnkRebuildTotalOff : Nat := 0x12003c
/-- BNK_REBUILD_TOTAL.COUNT, [31:0], RO. -/
def bnkRebuildTotalCount : Fld := ⟨0x12003c, 31, 0⟩
/-- The offset of BNK_PEER_SILENT (R347). -/
def bnkPeerSilentOff : Nat := 0x120040
/-- BNK_PEER_SILENT.POSITIONS, [7:0], RO. -/
def bnkPeerSilentPositions : Fld := ⟨0x120040, 7, 0⟩
/-- The offset of BNK_EVENTS (R347). -/
def bnkEventsOff : Nat := 0x120044
/-- BNK_EVENTS.REBUILT, [4], W1C. -/
def bnkEventsRebuilt : Fld := ⟨0x120044, 4, 4⟩
/-- BNK_EVENTS.ROLLED_BACK, [3], W1C. -/
def bnkEventsRolledBack : Fld := ⟨0x120044, 3, 3⟩
/-- BNK_EVENTS.BANK_FAILED, [2], W1C. -/
def bnkEventsBankFailed : Fld := ⟨0x120044, 2, 2⟩
/-- BNK_EVENTS.STALE, [1], W1C. -/
def bnkEventsStale : Fld := ⟨0x120044, 1, 1⟩
/-- BNK_EVENTS.PEER_SILENT, [0], W1C. -/
def bnkEventsPeerSilent : Fld := ⟨0x120044, 0, 0⟩
/-- The offset of BNK_RANKTAB_j_JOB (R347). -/
def bnkRanktabJobOff (j : Nat) : Nat := 0x120100 + 0x8 * j
/-- BNK_RANKTAB_j_JOB.JOB, [31:0], RO. -/
def bnkRanktabJobJob (j : Nat) : Fld := ⟨0x120100 + 0x8 * j, 31, 0⟩
/-- The offset of BNK_RANKTAB_j_STATE (R347). -/
def bnkRanktabStateOff (j : Nat) : Nat := 0x120104 + 0x8 * j
/-- BNK_RANKTAB_j_STATE.GENERATION, [31:24], RO. -/
def bnkRanktabStateGeneration (j : Nat) : Fld := ⟨0x120104 + 0x8 * j, 31, 24⟩
/-- BNK_RANKTAB_j_STATE.VALID, [18], RO. -/
def bnkRanktabStateValid (j : Nat) : Fld := ⟨0x120104 + 0x8 * j, 18, 18⟩
/-- BNK_RANKTAB_j_STATE.STAGED, [17], RO. -/
def bnkRanktabStateStaged (j : Nat) : Fld := ⟨0x120104 + 0x8 * j, 17, 17⟩
/-- BNK_RANKTAB_j_STATE.SIZE, [16:0], RO. -/
def bnkRanktabStateSize (j : Nat) : Fld := ⟨0x120104 + 0x8 * j, 16, 0⟩
/-- The offset of BNK_RANK_SEL (R347). -/
def bnkRankSelOff : Nat := 0x120800
/-- BNK_RANK_SEL.STAGED, [31], RW. -/
def bnkRankSelStaged : Fld := ⟨0x120800, 31, 31⟩
/-- BNK_RANK_SEL.TABLE, [29:24], RW. -/
def bnkRankSelTable : Fld := ⟨0x120800, 29, 24⟩
/-- BNK_RANK_SEL.RANK, [15:0], RW. -/
def bnkRankSelRank : Fld := ⟨0x120800, 15, 0⟩
/-- The offset of BNK_RANK_READ (R347). -/
def bnkRankReadOff : Nat := 0x120804
/-- BNK_RANK_READ.VALID, [16], RO. -/
def bnkRankReadValid : Fld := ⟨0x120804, 16, 16⟩
/-- BNK_RANK_READ.MODULE, [15:0], RO. -/
def bnkRankReadModule : Fld := ⟨0x120804, 15, 0⟩
/-- The offset of RST_STATUS (R372). -/
def rstStatusOff : Nat := 0x1c0000
/-- RST_STATUS.CHIP_GEN, [31:24], RO. -/
def rstStatusChipGen : Fld := ⟨0x1c0000, 31, 24⟩
/-- RST_STATUS.PART_RESETTING, [11:8], RO. -/
def rstStatusPartResetting : Fld := ⟨0x1c0000, 11, 8⟩
/-- RST_STATUS.CHIP_RESETTING, [7], RO. -/
def rstStatusChipResetting : Fld := ⟨0x1c0000, 7, 7⟩
/-- RST_STATUS.NO_CONTROL_UNIT, [6], RO. -/
def rstStatusNoControlUnit : Fld := ⟨0x1c0000, 6, 6⟩
/-- RST_STATUS.STOPPED, [5], RO. -/
def rstStatusStopped : Fld := ⟨0x1c0000, 5, 5⟩
/-- RST_STATUS.LEVEL, [3:0], RO. -/
def rstStatusLevel : Fld := ⟨0x1c0000, 3, 0⟩
/-- The offset of RST_CMD (R372). -/
def rstCmdOff : Nat := 0x1c0004
/-- RST_CMD.GO, [31], WO. -/
def rstCmdGo : Fld := ⟨0x1c0004, 31, 31⟩
/-- RST_CMD.LEVEL, [7:4], WO. -/
def rstCmdLevel : Fld := ⟨0x1c0004, 7, 4⟩
/-- RST_CMD.PARTITION, [1:0], WO. -/
def rstCmdPartition : Fld := ⟨0x1c0004, 1, 0⟩
/-- The offset of RST_CTRL (R372). -/
def rstCtrlOff : Nat := 0x1c0008
/-- RST_CTRL.MAX_LEVEL, [3:0], RW. -/
def rstCtrlMaxLevel : Fld := ⟨0x1c0008, 3, 0⟩
/-- The offset of RST_FAULT_CONTEXT (R372). -/
def rstFaultContextOff : Nat := 0x1c0010
/-- RST_FAULT_CONTEXT.VALID, [31], W1C. -/
def rstFaultContextValid : Fld := ⟨0x1c0010, 31, 31⟩
/-- RST_FAULT_CONTEXT.NO_CONTEXT, [30], RO. -/
def rstFaultContextNoContext : Fld := ⟨0x1c0010, 30, 30⟩
/-- RST_FAULT_CONTEXT.LEVEL, [27:24], RO. -/
def rstFaultContextLevel : Fld := ⟨0x1c0010, 27, 24⟩
/-- RST_FAULT_CONTEXT.CAUSE, [23:16], RO. -/
def rstFaultContextCause : Fld := ⟨0x1c0010, 23, 16⟩
/-- RST_FAULT_CONTEXT.PARTITION, [12:11], RO. -/
def rstFaultContextPartition : Fld := ⟨0x1c0010, 12, 11⟩
/-- RST_FAULT_CONTEXT.QUEUE, [10:9], RO. -/
def rstFaultContextQueue : Fld := ⟨0x1c0010, 10, 9⟩
/-- RST_FAULT_CONTEXT.CONTEXT, [8:0], RO. -/
def rstFaultContextContext : Fld := ⟨0x1c0010, 8, 0⟩
/-- The offset of RST_FAULT_UNIT (R372). -/
def rstFaultUnitOff : Nat := 0x1c0014
/-- RST_FAULT_UNIT.DIE, [25:24], RO. -/
def rstFaultUnitDie : Fld := ⟨0x1c0014, 25, 24⟩
/-- RST_FAULT_UNIT.PHYS_CORE, [23:16], RO. -/
def rstFaultUnitPhysCore : Fld := ⟨0x1c0014, 23, 16⟩
/-- RST_FAULT_UNIT.ENGINE, [9:8], RO. -/
def rstFaultUnitEngine : Fld := ⟨0x1c0014, 9, 8⟩
/-- RST_FAULT_UNIT.CLUSTER, [3:0], RO. -/
def rstFaultUnitCluster : Fld := ⟨0x1c0014, 3, 0⟩
/-- The offset of RST_FAULT_COUNT (R372). -/
def rstFaultCountOff : Nat := 0x1c0018
/-- RST_FAULT_COUNT.COUNT, [31:0], RO. -/
def rstFaultCountCount : Fld := ⟨0x1c0018, 31, 0⟩
/-- The offset of RST_EMBER_u (R372). -/
def rstEmberOff (u : Nat) : Nat := 0x1c0020 + 0x4 * u
/-- RST_EMBER_u.TRIPPED, [31], RWS. -/
def rstEmberTripped (u : Nat) : Fld := ⟨0x1c0020 + 0x4 * u, 31, 31⟩
/-- RST_EMBER_u.TRIPS, [27:16], RO. -/
def rstEmberTrips (u : Nat) : Fld := ⟨0x1c0020 + 0x4 * u, 27, 16⟩
/-- RST_EMBER_u.AGE_US, [15:0], RO. -/
def rstEmberAgeUs (u : Nat) : Fld := ⟨0x1c0020 + 0x4 * u, 15, 0⟩
/-- The offset of RST_SNAP_STATUS (R372). -/
def rstSnapStatusOff : Nat := 0x1c0030
/-- RST_SNAP_STATUS.LAST, [26:24], RO. -/
def rstSnapStatusLast : Fld := ⟨0x1c0030, 26, 24⟩
/-- RST_SNAP_STATUS.BUSY, [22], RO. -/
def rstSnapStatusBusy : Fld := ⟨0x1c0030, 22, 22⟩
/-- RST_SNAP_STATUS.SKIPPED, [15:0], RO. -/
def rstSnapStatusSkipped : Fld := ⟨0x1c0030, 15, 0⟩
/-- The offset of RST_SNAP_HOLD (R372). -/
def rstSnapHoldOff : Nat := 0x1c0034
/-- RST_SNAP_HOLD.HOLD, [7:0], RW. -/
def rstSnapHoldHold : Fld := ⟨0x1c0034, 7, 0⟩
/-- The offset of RST_SNAP_SEQ (R372). -/
def rstSnapSeqOff : Nat := 0x1c0038
/-- RST_SNAP_SEQ.COUNT, [31:0], RO. -/
def rstSnapSeqCount : Fld := ⟨0x1c0038, 31, 0⟩
/-- The offset of RST_COUNT_l (R372). -/
def rstCountOff (l : Nat) : Nat := 0x1c0040 + 0x4 * l
/-- RST_COUNT_l.COUNT, [31:0], RO. -/
def rstCountCount (l : Nat) : Fld := ⟨0x1c0040 + 0x4 * l, 31, 0⟩
/-- The offset of RST_COL_DISCARDED (R372). -/
def rstColDiscardedOff : Nat := 0x1c005c
/-- RST_COL_DISCARDED.COUNT, [31:0], RO. -/
def rstColDiscardedCount : Fld := ⟨0x1c005c, 31, 0⟩
/-- The offset of RST_SPARE_TEST (R372). -/
def rstSpareTestOff : Nat := 0x1c0060
/-- RST_SPARE_TEST.ENABLE, [31], RW. -/
def rstSpareTestEnable : Fld := ⟨0x1c0060, 31, 31⟩
/-- RST_SPARE_TEST.INTERVAL_S, [15:0], RW. -/
def rstSpareTestIntervalS : Fld := ⟨0x1c0060, 15, 0⟩
/-- The offset of RST_SPARE_TEST_k (R372). -/
def rstSpareTestDieOff (k : Nat) : Nat := 0x1c0070 + 0x4 * k
/-- RST_SPARE_TEST_k.FAILS, [23:16], RO. -/
def rstSpareTestDieFails (k : Nat) : Fld := ⟨0x1c0070 + 0x4 * k, 23, 16⟩
/-- RST_SPARE_TEST_k.CURRENT, [15:8], RO. -/
def rstSpareTestDieCurrent (k : Nat) : Fld := ⟨0x1c0070 + 0x4 * k, 15, 8⟩
/-- RST_SPARE_TEST_k.ROUNDS, [7:0], RO. -/
def rstSpareTestDieRounds (k : Nat) : Fld := ⟨0x1c0070 + 0x4 * k, 7, 0⟩
/-- The offset of HST_STATUS (R397). -/
def hstStatusOff : Nat := 0x140000
/-- HST_STATUS.SESSIONS, [28:16], RO. -/
def hstStatusSessions : Fld := ⟨0x140000, 28, 16⟩
/-- HST_STATUS.CONFIGURED, [8], RO. -/
def hstStatusConfigured : Fld := ⟨0x140000, 8, 8⟩
/-- HST_STATUS.LINKS, [7:0], RO. -/
def hstStatusLinks : Fld := ⟨0x140000, 7, 0⟩
/-- The offset of HST_UDP_PORT (R397). -/
def hstUdpPortOff : Nat := 0x140004
/-- HST_UDP_PORT.PORT, [15:0], RO. -/
def hstUdpPortPort : Fld := ⟨0x140004, 15, 0⟩
/-- The offset of HST_LENGTH_DROPS (R397). -/
def hstLengthDropsOff : Nat := 0x140008
/-- HST_LENGTH_DROPS.COUNT, [31:0], RO. -/
def hstLengthDropsCount : Fld := ⟨0x140008, 31, 0⟩
/-- The offset of HST_FORMAT_DROPS (R397). -/
def hstFormatDropsOff : Nat := 0x14000c
/-- HST_FORMAT_DROPS.COUNT, [31:0], RO. -/
def hstFormatDropsCount : Fld := ⟨0x14000c, 31, 0⟩
/-- The offset of HST_STALE_DROPS (R397). -/
def hstStaleDropsOff : Nat := 0x140010
/-- HST_STALE_DROPS.COUNT, [31:0], RO. -/
def hstStaleDropsCount : Fld := ⟨0x140010, 31, 0⟩
/-- The offset of HST_AUTH_FAIL (R397). -/
def hstAuthFailOff : Nat := 0x140014
/-- HST_AUTH_FAIL.COUNT, [31:0], RO. -/
def hstAuthFailCount : Fld := ⟨0x140014, 31, 0⟩
/-- The offset of HST_RETRANSMITS (R397). -/
def hstRetransmitsOff : Nat := 0x140018
/-- HST_RETRANSMITS.COUNT, [31:0], RO. -/
def hstRetransmitsCount : Fld := ⟨0x140018, 31, 0⟩
/-- The offset of HST_FAILOVERS (R397). -/
def hstFailoversOff : Nat := 0x14001c
/-- HST_FAILOVERS.COUNT, [31:0], RO. -/
def hstFailoversCount : Fld := ⟨0x14001c, 31, 0⟩
/-- The offset of HST_EVICTIONS (R397). -/
def hstEvictionsOff : Nat := 0x140020
/-- HST_EVICTIONS.COUNT, [31:0], RO. -/
def hstEvictionsCount : Fld := ⟨0x140020, 31, 0⟩
/-- The offset of HST_NET_n_ADDR_w (R397). -/
def hstNetAddrOff (n : Nat) (w : Nat) : Nat := 0x140100 + 0x20 * n + 0x4 * w
/-- HST_NET_n_ADDR_w.ADDR, [31:0], RO. -/
def hstNetAddrAddr (n : Nat) (w : Nat) : Fld := ⟨0x140100 + 0x20 * n + 0x4 * w, 31, 0⟩
/-- The offset of HST_NET_n_IPV4 (R397). -/
def hstNetIpv4Off (n : Nat) : Nat := 0x140110 + 0x20 * n
/-- HST_NET_n_IPV4.ADDR, [31:0], RO. -/
def hstNetIpv4Addr (n : Nat) : Fld := ⟨0x140110 + 0x20 * n, 31, 0⟩
/-- The offset of HST_PORT_p_STATUS (R397). -/
def hstPortStatusOff (p : Nat) : Nat := 0x140200 + 0x40 * p
/-- HST_PORT_p_STATUS.TRAINING, [2], RO. -/
def hstPortStatusTraining (p : Nat) : Fld := ⟨0x140200 + 0x40 * p, 2, 2⟩
/-- HST_PORT_p_STATUS.FEC_LOCK, [1], RO. -/
def hstPortStatusFecLock (p : Nat) : Fld := ⟨0x140200 + 0x40 * p, 1, 1⟩
/-- HST_PORT_p_STATUS.LINK, [0], RO. -/
def hstPortStatusLink (p : Nat) : Fld := ⟨0x140200 + 0x40 * p, 0, 0⟩
/-- The offset of HST_PORT_p_RX_LO (R397). -/
def hstPortRxLoOff (p : Nat) : Nat := 0x140204 + 0x40 * p
/-- HST_PORT_p_RX_LO.COUNT, [31:0], RO. -/
def hstPortRxLoCount (p : Nat) : Fld := ⟨0x140204 + 0x40 * p, 31, 0⟩
/-- The offset of HST_PORT_p_RX_HI (R397). -/
def hstPortRxHiOff (p : Nat) : Nat := 0x140208 + 0x40 * p
/-- HST_PORT_p_RX_HI.COUNT, [31:0], RO. -/
def hstPortRxHiCount (p : Nat) : Fld := ⟨0x140208 + 0x40 * p, 31, 0⟩
/-- The offset of HST_PORT_p_TX_LO (R397). -/
def hstPortTxLoOff (p : Nat) : Nat := 0x14020c + 0x40 * p
/-- HST_PORT_p_TX_LO.COUNT, [31:0], RO. -/
def hstPortTxLoCount (p : Nat) : Fld := ⟨0x14020c + 0x40 * p, 31, 0⟩
/-- The offset of HST_PORT_p_TX_HI (R397). -/
def hstPortTxHiOff (p : Nat) : Nat := 0x140210 + 0x40 * p
/-- HST_PORT_p_TX_HI.COUNT, [31:0], RO. -/
def hstPortTxHiCount (p : Nat) : Fld := ⟨0x140210 + 0x40 * p, 31, 0⟩
/-- The offset of HST_PORT_p_FEC_UNCORR (R397). -/
def hstPortFecUncorrOff (p : Nat) : Nat := 0x140214 + 0x40 * p
/-- HST_PORT_p_FEC_UNCORR.COUNT, [31:0], RO. -/
def hstPortFecUncorrCount (p : Nat) : Fld := ⟨0x140214 + 0x40 * p, 31, 0⟩
/-- The offset of HST_PORT_p_OTHER (R397). -/
def hstPortOtherOff (p : Nat) : Nat := 0x140218 + 0x40 * p
/-- HST_PORT_p_OTHER.COUNT, [31:0], RO. -/
def hstPortOtherCount (p : Nat) : Fld := ⟨0x140218 + 0x40 * p, 31, 0⟩
/-- The offset of HST_SESSION_s_STATE (R397). -/
def hstSessionStateOff (s : Nat) : Nat := 0x141000 + 0x8 * s
/-- HST_SESSION_s_STATE.EPOCH, [31:12], RO. -/
def hstSessionStateEpoch (s : Nat) : Fld := ⟨0x141000 + 0x8 * s, 31, 12⟩
/-- HST_SESSION_s_STATE.PORT, [11:8], RO. -/
def hstSessionStatePort (s : Nat) : Fld := ⟨0x141000 + 0x8 * s, 11, 8⟩
/-- HST_SESSION_s_STATE.NET, [7], RO. -/
def hstSessionStateNet (s : Nat) : Fld := ⟨0x141000 + 0x8 * s, 7, 7⟩
/-- HST_SESSION_s_STATE.ROLE, [6:5], RO. -/
def hstSessionStateRole (s : Nat) : Fld := ⟨0x141000 + 0x8 * s, 6, 5⟩
/-- HST_SESSION_s_STATE.PACED, [4], RO. -/
def hstSessionStatePaced (s : Nat) : Fld := ⟨0x141000 + 0x8 * s, 4, 4⟩
/-- HST_SESSION_s_STATE.STATE, [2:0], RO. -/
def hstSessionStateState (s : Nat) : Fld := ⟨0x141000 + 0x8 * s, 2, 0⟩
/-- The offset of HST_SESSION_s_JOB (R397). -/
def hstSessionJobOff (s : Nat) : Nat := 0x141004 + 0x8 * s
/-- HST_SESSION_s_JOB.JOB, [31:0], RO. -/
def hstSessionJobJob (s : Nat) : Fld := ⟨0x141004 + 0x8 * s, 31, 0⟩
/-- The offset of CTL_STATUS (R418). -/
def ctlStatusOff : Nat := 0x10000
/-- CTL_STATUS.SWITCHING, [15], RO. -/
def ctlStatusSwitching : Fld := ⟨0x10000, 15, 15⟩
/-- CTL_STATUS.LEASE_LATE, [14], RO. -/
def ctlStatusLeaseLate : Fld := ⟨0x10000, 14, 14⟩
/-- CTL_STATUS.STATE_B, [11:8], RO. -/
def ctlStatusStateB : Fld := ⟨0x10000, 11, 8⟩
/-- CTL_STATUS.STATE_A, [7:4], RO. -/
def ctlStatusStateA : Fld := ⟨0x10000, 7, 4⟩
/-- CTL_STATUS.ACTIVE, [0], RO. -/
def ctlStatusActive : Fld := ⟨0x10000, 0, 0⟩
/-- The offset of CTL_UNIT_u_INFO (R418). -/
def ctlUnitInfoOff (u : Nat) : Nat := 0x10010 + 0x10 * u
/-- CTL_UNIT_u_INFO.FAILS, [31:24], RO. -/
def ctlUnitInfoFails (u : Nat) : Fld := ⟨0x10010 + 0x10 * u, 31, 24⟩
/-- CTL_UNIT_u_INFO.LAST_CAUSE, [23:16], RO. -/
def ctlUnitInfoLastCause (u : Nat) : Fld := ⟨0x10010 + 0x10 * u, 23, 16⟩
/-- CTL_UNIT_u_INFO.PROBATION_S, [15:0], RO. -/
def ctlUnitInfoProbationS (u : Nat) : Fld := ⟨0x10010 + 0x10 * u, 15, 0⟩
/-- The offset of CTL_UNIT_u_SELFTEST (R418). -/
def ctlUnitSelftestOff (u : Nat) : Nat := 0x10014 + 0x10 * u
/-- CTL_UNIT_u_SELFTEST.VALID, [31], RO. -/
def ctlUnitSelftestValid (u : Nat) : Fld := ⟨0x10014 + 0x10 * u, 31, 31⟩
/-- CTL_UNIT_u_SELFTEST.PASSED, [30], RO. -/
def ctlUnitSelftestPassed (u : Nat) : Fld := ⟨0x10014 + 0x10 * u, 30, 30⟩
/-- CTL_UNIT_u_SELFTEST.FAILING_TEST, [15:0], RO. -/
def ctlUnitSelftestFailingTest (u : Nat) : Fld := ⟨0x10014 + 0x10 * u, 15, 0⟩
/-- The offset of CTL_UNIT_u_EMBER (R418). -/
def ctlUnitEmberOff (u : Nat) : Nat := 0x10018 + 0x10 * u
/-- CTL_UNIT_u_EMBER.COUNT, [15:0], RW. -/
def ctlUnitEmberCount (u : Nat) : Fld := ⟨0x10018 + 0x10 * u, 15, 0⟩
/-- The offset of CTL_SWAP (R418). -/
def ctlSwapOff : Nat := 0x10030
/-- CTL_SWAP.ENABLE, [31], RW. -/
def ctlSwapEnable : Fld := ⟨0x10030, 31, 31⟩
/-- CTL_SWAP.INTERVAL_H, [4:0], RW. -/
def ctlSwapIntervalH : Fld := ⟨0x10030, 4, 0⟩
/-- The offset of CTL_SWAP_DUE (R418). -/
def ctlSwapDueOff : Nat := 0x10034
/-- CTL_SWAP_DUE.SECONDS, [31:0], RO. -/
def ctlSwapDueSeconds : Fld := ⟨0x10034, 31, 0⟩
/-- The offset of CTL_CMD (R418). -/
def ctlCmdOff : Nat := 0x10038
/-- CTL_CMD.GO, [31], WO. -/
def ctlCmdGo : Fld := ⟨0x10038, 31, 31⟩
/-- CTL_CMD.UNIT, [4], WO. -/
def ctlCmdUnit : Fld := ⟨0x10038, 4, 4⟩
/-- CTL_CMD.ACTION, [1:0], WO. -/
def ctlCmdAction : Fld := ⟨0x10038, 1, 0⟩
/-- The offset of CTL_LAST_SWITCH (R418). -/
def ctlLastSwitchOff : Nat := 0x10040
/-- CTL_LAST_SWITCH.CAUSE, [31:24], RO. -/
def ctlLastSwitchCause : Fld := ⟨0x10040, 31, 24⟩
/-- CTL_LAST_SWITCH.TO_UNIT, [16], RO. -/
def ctlLastSwitchToUnit : Fld := ⟨0x10040, 16, 16⟩
/-- CTL_LAST_SWITCH.DURATION_NS, [15:0], RO. -/
def ctlLastSwitchDurationNs : Fld := ⟨0x10040, 15, 0⟩
/-- The offset of CTL_SWITCHOVERS (R418). -/
def ctlSwitchoversOff : Nat := 0x10044
/-- CTL_SWITCHOVERS.COUNT, [31:0], RO. -/
def ctlSwitchoversCount : Fld := ⟨0x10044, 31, 0⟩
/-- The offset of CTL_JOURNAL (R418). -/
def ctlJournalOff : Nat := 0x10048
/-- CTL_JOURNAL.HWM, [24:16], RO. -/
def ctlJournalHwm : Fld := ⟨0x10048, 24, 16⟩
/-- CTL_JOURNAL.DEPTH, [8:0], RO. -/
def ctlJournalDepth : Fld := ⟨0x10048, 8, 0⟩
/-- The offset of CTL_GRANTS_LO (R418). -/
def ctlGrantsLoOff : Nat := 0x10050
/-- CTL_GRANTS_LO.COUNT, [31:0], RO. -/
def ctlGrantsLoCount : Fld := ⟨0x10050, 31, 0⟩
/-- The offset of CTL_GRANTS_HI (R418). -/
def ctlGrantsHiOff : Nat := 0x10054
/-- CTL_GRANTS_HI.COUNT, [31:0], RO. -/
def ctlGrantsHiCount : Fld := ⟨0x10054, 31, 0⟩
/-- The offset of CTL_SVC (R418). -/
def ctlSvcOff : Nat := 0x10060
/-- CTL_SVC.ALERT_ACTIVE, [2], RO. -/
def ctlSvcAlertActive : Fld := ⟨0x10060, 2, 2⟩
/-- CTL_SVC.TRACE_STOPPED, [1], W1C. -/
def ctlSvcTraceStopped : Fld := ⟨0x10060, 1, 1⟩
/-- CTL_SVC.TRACE_EN, [0], RW. -/
def ctlSvcTraceEn : Fld := ⟨0x10060, 0, 0⟩
/-- The offset of CTL_NVM_QUEUE (R418). -/
def ctlNvmQueueOff : Nat := 0x10064
/-- CTL_NVM_QUEUE.HWM, [31:16], RO. -/
def ctlNvmQueueHwm : Fld := ⟨0x10064, 31, 16⟩
/-- CTL_NVM_QUEUE.DEPTH, [15:0], RO. -/
def ctlNvmQueueDepth : Fld := ⟨0x10064, 15, 0⟩
/-- The offset of BOT_STATUS (R442). -/
def botStatusOff : Nat := 0x1e0000
/-- BOT_STATUS.FAIL_STATUS, [31:24], RO. -/
def botStatusFailStatus : Fld := ⟨0x1e0000, 31, 24⟩
/-- BOT_STATUS.STEP, [19:16], RO. -/
def botStatusStep : Fld := ⟨0x1e0000, 19, 16⟩
/-- BOT_STATUS.FAILED, [7], RO. -/
def botStatusFailed : Fld := ⟨0x1e0000, 7, 7⟩
/-- BOT_STATUS.RESCUE, [6], RO. -/
def botStatusRescue : Fld := ⟨0x1e0000, 6, 6⟩
/-- BOT_STATUS.FALLBACK, [5], RO. -/
def botStatusFallback : Fld := ⟨0x1e0000, 5, 5⟩
/-- BOT_STATUS.WARM, [4], RO. -/
def botStatusWarm : Fld := ⟨0x1e0000, 4, 4⟩
/-- BOT_STATUS.SAVED_MEM, [3], RO. -/
def botStatusSavedMem : Fld := ⟨0x1e0000, 3, 3⟩
/-- BOT_STATUS.ASH_REBUILT, [2], RO. -/
def botStatusAshRebuilt : Fld := ⟨0x1e0000, 2, 2⟩
/-- BOT_STATUS.IDENTITY_OK, [1], RO. -/
def botStatusIdentityOk : Fld := ⟨0x1e0000, 1, 1⟩
/-- BOT_STATUS.DONE, [0], RO. -/
def botStatusDone : Fld := ⟨0x1e0000, 0, 0⟩
/-- The offset of BOT_START_MS (R442). -/
def botStartMsOff : Nat := 0x1e0004
/-- BOT_START_MS.MS, [31:0], RO. -/
def botStartMsMs : Fld := ⟨0x1e0004, 31, 0⟩
/-- The offset of BOT_WARM_RESETS (R442). -/
def botWarmResetsOff : Nat := 0x1e0008
/-- BOT_WARM_RESETS.COUNT, [31:0], RO. -/
def botWarmResetsCount : Fld := ⟨0x1e0008, 31, 0⟩
/-- The offset of BOT_ASH_COUNT (R442). -/
def botAshCountOff : Nat := 0x1e000c
/-- BOT_ASH_COUNT.BASELINE, [28:16], RO. -/
def botAshCountBaseline : Fld := ⟨0x1e000c, 28, 16⟩
/-- BOT_ASH_COUNT.ENTRIES, [12:0], RO. -/
def botAshCountEntries : Fld := ⟨0x1e000c, 12, 0⟩
/-- The offset of BOT_ASH_SEL (R442). -/
def botAshSelOff : Nat := 0x1e0010
/-- BOT_ASH_SEL.BASELINE, [31], RW. -/
def botAshSelBaseline : Fld := ⟨0x1e0010, 31, 31⟩
/-- BOT_ASH_SEL.INDEX, [11:0], RW. -/
def botAshSelIndex : Fld := ⟨0x1e0010, 11, 0⟩
/-- The offset of BOT_ASH_READ_LO (R442). -/
def botAshReadLoOff : Nat := 0x1e0014
/-- BOT_ASH_READ_LO.ENTRY, [31:0], RO. -/
def botAshReadLoEntry : Fld := ⟨0x1e0014, 31, 0⟩
/-- The offset of BOT_ASH_READ_HI (R442). -/
def botAshReadHiOff : Nat := 0x1e0018
/-- BOT_ASH_READ_HI.ENTRY, [31:0], RO. -/
def botAshReadHiEntry : Fld := ⟨0x1e0018, 31, 0⟩
/-- The offset of BOT_ASH_ADD (R442). -/
def botAshAddOff : Nat := 0x1e001c
/-- BOT_ASH_ADD.GO, [31], WO. -/
def botAshAddGo : Fld := ⟨0x1e001c, 31, 31⟩
/-- BOT_ASH_ADD.TYPE, [26:24], WO. -/
def botAshAddType : Fld := ⟨0x1e001c, 26, 24⟩
/-- BOT_ASH_ADD.DIE, [21:20], WO. -/
def botAshAddDie : Fld := ⟨0x1e001c, 21, 20⟩
/-- BOT_ASH_ADD.UNIT, [19:10], WO. -/
def botAshAddUnit : Fld := ⟨0x1e001c, 19, 10⟩
/-- BOT_ASH_ADD.ENGINE, [9:8], WO. -/
def botAshAddEngine : Fld := ⟨0x1e001c, 9, 8⟩
/-- BOT_ASH_ADD.COLUMN, [6:0], WO. -/
def botAshAddColumn : Fld := ⟨0x1e001c, 6, 0⟩
/-- The offset of BOT_CMD (R442). -/
def botCmdOff : Nat := 0x1e0020
/-- BOT_CMD.GO, [31], WO. -/
def botCmdGo : Fld := ⟨0x1e0020, 31, 31⟩
/-- BOT_CMD.ACTION, [1:0], WO. -/
def botCmdAction : Fld := ⟨0x1e0020, 1, 0⟩
/-- The offset of BOT_CMD_RESULT (R442). -/
def botCmdResultOff : Nat := 0x1e0024
/-- BOT_CMD_RESULT.REASON, [15:8], RO. -/
def botCmdResultReason : Fld := ⟨0x1e0024, 15, 8⟩
/-- BOT_CMD_RESULT.STATUS, [7:0], RO. -/
def botCmdResultStatus : Fld := ⟨0x1e0024, 7, 0⟩
/-- The offset of BOT_STEP_s_MS (R442). -/
def botStepMsOff (s : Nat) : Nat := 0x1e0040 + 0x4 * s
/-- BOT_STEP_s_MS.MS, [31:0], RO. -/
def botStepMsMs (s : Nat) : Fld := ⟨0x1e0040 + 0x4 * s, 31, 0⟩
/-- The offset of BOT_LIC_BUF_w (R442). -/
def botLicBufOff (w : Nat) : Nat := 0x1e0100 + 0x4 * w
/-- BOT_LIC_BUF_w.WORD, [31:0], RW. -/
def botLicBufWord (w : Nat) : Fld := ⟨0x1e0100 + 0x4 * w, 31, 0⟩
/-- The offset of BOT_LIC_CMD (R442). -/
def botLicCmdOff : Nat := 0x1e0180
/-- BOT_LIC_CMD.GO, [31], WO. -/
def botLicCmdGo : Fld := ⟨0x1e0180, 31, 31⟩
/-- BOT_LIC_CMD.ACTION, [29:28], WO. -/
def botLicCmdAction : Fld := ⟨0x1e0180, 29, 28⟩
/-- BOT_LIC_CMD.SLOT, [3:0], WO. -/
def botLicCmdSlot : Fld := ⟨0x1e0180, 3, 0⟩
/-- The offset of BOT_LIC_RESULT (R442). -/
def botLicResultOff : Nat := 0x1e0184
/-- BOT_LIC_RESULT.SLOT, [15:8], RO. -/
def botLicResultSlot : Fld := ⟨0x1e0184, 15, 8⟩
/-- BOT_LIC_RESULT.STATUS, [7:0], RO. -/
def botLicResultStatus : Fld := ⟨0x1e0184, 7, 0⟩
/-- The offset of BOT_LIC_SLOT_i_STATE (R442). -/
def botLicSlotStateOff (i : Nat) : Nat := 0x1e0200 + 0x10 * i
/-- BOT_LIC_SLOT_i_STATE.VALID, [31], RO. -/
def botLicSlotStateValid (i : Nat) : Fld := ⟨0x1e0200 + 0x10 * i, 31, 31⟩
/-- BOT_LIC_SLOT_i_STATE.IN_EFFECT, [30], RO. -/
def botLicSlotStateInEffect (i : Nat) : Fld := ⟨0x1e0200 + 0x10 * i, 30, 30⟩
/-- BOT_LIC_SLOT_i_STATE.PENDING, [29], RO. -/
def botLicSlotStatePending (i : Nat) : Fld := ⟨0x1e0200 + 0x10 * i, 29, 29⟩
/-- BOT_LIC_SLOT_i_STATE.FUNCTIONS, [3:0], RO. -/
def botLicSlotStateFunctions (i : Nat) : Fld := ⟨0x1e0200 + 0x10 * i, 3, 0⟩
/-- The offset of BOT_LIC_SLOT_i_SERIAL_LO (R442). -/
def botLicSlotSerialLoOff (i : Nat) : Nat := 0x1e0204 + 0x10 * i
/-- BOT_LIC_SLOT_i_SERIAL_LO.SERIAL, [31:0], RO. -/
def botLicSlotSerialLoSerial (i : Nat) : Fld := ⟨0x1e0204 + 0x10 * i, 31, 0⟩
/-- The offset of BOT_LIC_SLOT_i_SERIAL_HI (R442). -/
def botLicSlotSerialHiOff (i : Nat) : Nat := 0x1e0208 + 0x10 * i
/-- BOT_LIC_SLOT_i_SERIAL_HI.SERIAL, [31:0], RO. -/
def botLicSlotSerialHiSerial (i : Nat) : Fld := ⟨0x1e0208 + 0x10 * i, 31, 0⟩
/-- The offset of BOT_NVM_WRITES (R442). -/
def botNvmWritesOff : Nat := 0x1e0300
/-- BOT_NVM_WRITES.COUNT, [31:0], RO. -/
def botNvmWritesCount : Fld := ⟨0x1e0300, 31, 0⟩
/-- The offset of BOT_NVM_FAILS (R442). -/
def botNvmFailsOff : Nat := 0x1e0304
/-- BOT_NVM_FAILS.COUNT, [31:0], RO. -/
def botNvmFailsCount : Fld := ⟨0x1e0304, 31, 0⟩
/-- The offset of SEC_STATUS (R468). -/
def secStatusOff : Nat := 0x160000
/-- SEC_STATUS.MONITOR_MISMATCH, [8], RO. -/
def secStatusMonitorMismatch : Fld := ⟨0x160000, 8, 8⟩
/-- SEC_STATUS.AUDIT_BROKEN, [7], RO. -/
def secStatusAuditBroken : Fld := ⟨0x160000, 7, 7⟩
/-- SEC_STATUS.NO_ENROLMENT, [6], RO. -/
def secStatusNoEnrolment : Fld := ⟨0x160000, 6, 6⟩
/-- SEC_STATUS.RNG_FAULT, [5:4], RO. -/
def secStatusRngFault : Fld := ⟨0x160000, 5, 4⟩
/-- SEC_STATUS.MEASURED, [3], RO. -/
def secStatusMeasured : Fld := ⟨0x160000, 3, 3⟩
/-- SEC_STATUS.IDENTITY_OK, [2], RO. -/
def secStatusIdentityOk : Fld := ⟨0x160000, 2, 2⟩
/-- SEC_STATUS.MONITOR_OK, [1:0], RO. -/
def secStatusMonitorOk : Fld := ⟨0x160000, 1, 0⟩
/-- The offset of SEC_FLOOR (R468). -/
def secFloorOff : Nat := 0x160004
/-- SEC_FLOOR.VERSION, [31:0], RO. -/
def secFloorVersion : Fld := ⟨0x160004, 31, 0⟩
/-- The offset of SEC_KEYS (R468). -/
def secKeysOff : Nat := 0x160008
/-- SEC_KEYS.OPERATOR, [25:16], RO. -/
def secKeysOperator : Fld := ⟨0x160008, 25, 16⟩
/-- SEC_KEYS.INSTALLER, [14:8], RO. -/
def secKeysInstaller : Fld := ⟨0x160008, 14, 8⟩
/-- SEC_KEYS.MAKER, [3:0], RO. -/
def secKeysMaker : Fld := ⟨0x160008, 3, 0⟩
/-- The offset of SEC_AUDIT_COUNT_LO (R468). -/
def secAuditCountLoOff : Nat := 0x160010
/-- SEC_AUDIT_COUNT_LO.COUNT, [31:0], RO. -/
def secAuditCountLoCount : Fld := ⟨0x160010, 31, 0⟩
/-- The offset of SEC_AUDIT_COUNT_HI (R468). -/
def secAuditCountHiOff : Nat := 0x160014
/-- SEC_AUDIT_COUNT_HI.COUNT, [31:0], RO. -/
def secAuditCountHiCount : Fld := ⟨0x160014, 31, 0⟩
/-- The offset of SEC_AUDIT_ANCHOR_LO (R468). -/
def secAuditAnchorLoOff : Nat := 0x160018
/-- SEC_AUDIT_ANCHOR_LO.SEQ, [31:0], RO. -/
def secAuditAnchorLoSeq : Fld := ⟨0x160018, 31, 0⟩
/-- The offset of SEC_AUDIT_ANCHOR_HI (R468). -/
def secAuditAnchorHiOff : Nat := 0x16001c
/-- SEC_AUDIT_ANCHOR_HI.SEQ, [31:0], RO. -/
def secAuditAnchorHiSeq : Fld := ⟨0x16001c, 31, 0⟩
/-- The offset of SEC_AUDIT_FAILS (R468). -/
def secAuditFailsOff : Nat := 0x160020
/-- SEC_AUDIT_FAILS.COUNT, [31:0], RO. -/
def secAuditFailsCount : Fld := ⟨0x160020, 31, 0⟩
/-- The offset of SEC_QUOTES (R468). -/
def secQuotesOff : Nat := 0x160024
/-- SEC_QUOTES.COUNT, [31:0], RO. -/
def secQuotesCount : Fld := ⟨0x160024, 31, 0⟩
/-- The offset of SEC_AUDIT_HEAD_w (R468). -/
def secAuditHeadOff (w : Nat) : Nat := 0x160040 + 0x4 * w
/-- SEC_AUDIT_HEAD_w.HEAD, [31:0], RO. -/
def secAuditHeadHead (w : Nat) : Fld := ⟨0x160040 + 0x4 * w, 31, 0⟩
/-- The offset of SEC_IDENTITY_HASH_w (R468). -/
def secIdentityHashOff (w : Nat) : Nat := 0x160060 + 0x4 * w
/-- SEC_IDENTITY_HASH_w.HASH, [31:0], RO. -/
def secIdentityHashHash (w : Nat) : Fld := ⟨0x160060 + 0x4 * w, 31, 0⟩
/-- The offset of SEC_MEAS_m_w (R468). -/
def secMeasOff (m : Nat) (w : Nat) : Nat := 0x160100 + 0x20 * m + 0x4 * w
/-- SEC_MEAS_m_w.VALUE, [31:0], RO. -/
def secMeasValue (m : Nat) (w : Nat) : Fld := ⟨0x160100 + 0x20 * m + 0x4 * w, 31, 0⟩
/-- The offset of SEC_AUDIT_SEL_LO (R468). -/
def secAuditSelLoOff : Nat := 0x160200
/-- SEC_AUDIT_SEL_LO.SEQ, [31:0], RW. -/
def secAuditSelLoSeq : Fld := ⟨0x160200, 31, 0⟩
/-- The offset of SEC_AUDIT_SEL_HI (R468). -/
def secAuditSelHiOff : Nat := 0x160204
/-- SEC_AUDIT_SEL_HI.SEQ, [31:0], RW. -/
def secAuditSelHiSeq : Fld := ⟨0x160204, 31, 0⟩
/-- The offset of SEC_AUDIT_WIN_w (R468). -/
def secAuditWinOff (w : Nat) : Nat := 0x160240 + 0x4 * w
/-- SEC_AUDIT_WIN_w.BYTES, [31:0], RO. -/
def secAuditWinBytes (w : Nat) : Fld := ⟨0x160240 + 0x4 * w, 31, 0⟩
/-- The offset of SEC_ENROL_BUF_w (R468). -/
def secEnrolBufOff (w : Nat) : Nat := 0x160300 + 0x4 * w
/-- SEC_ENROL_BUF_w.WORD, [31:0], RW. -/
def secEnrolBufWord (w : Nat) : Fld := ⟨0x160300 + 0x4 * w, 31, 0⟩
/-- The offset of SEC_ENROL_CMD (R468). -/
def secEnrolCmdOff : Nat := 0x160400
/-- SEC_ENROL_CMD.GO, [31], WO. -/
def secEnrolCmdGo : Fld := ⟨0x160400, 31, 31⟩
/-- SEC_ENROL_CMD.ACTION, [29:28], WO. -/
def secEnrolCmdAction : Fld := ⟨0x160400, 29, 28⟩
/-- SEC_ENROL_CMD.SLOT, [9:0], WO. -/
def secEnrolCmdSlot : Fld := ⟨0x160400, 9, 0⟩
/-- The offset of SEC_ENROL_RESULT (R468). -/
def secEnrolResultOff : Nat := 0x160404
/-- SEC_ENROL_RESULT.SLOT, [25:16], RO. -/
def secEnrolResultSlot : Fld := ⟨0x160404, 25, 16⟩
/-- SEC_ENROL_RESULT.CHECK, [10:8], RO. -/
def secEnrolResultCheck : Fld := ⟨0x160404, 10, 8⟩
/-- SEC_ENROL_RESULT.STATUS, [7:0], RO. -/
def secEnrolResultStatus : Fld := ⟨0x160404, 7, 0⟩
/-- The offset of SEC_KEY_SEL (R468). -/
def secKeySelOff : Nat := 0x160408
/-- SEC_KEY_SEL.SLOT, [9:0], RW. -/
def secKeySelSlot : Fld := ⟨0x160408, 9, 0⟩
/-- The offset of SEC_KEY_INFO (R468). -/
def secKeyInfoOff : Nat := 0x16040c
/-- SEC_KEY_INFO.VALID, [31], RO. -/
def secKeyInfoValid : Fld := ⟨0x16040c, 31, 31⟩
/-- SEC_KEY_INFO.ROLE, [25:24], RO. -/
def secKeyInfoRole : Fld := ⟨0x16040c, 25, 24⟩
/-- SEC_KEY_INFO.USE, [18:16], RO. -/
def secKeyInfoUse : Fld := ⟨0x16040c, 18, 16⟩
/-- SEC_KEY_INFO.SIGNER_SLOT, [9:0], RO. -/
def secKeyInfoSignerSlot : Fld := ⟨0x16040c, 9, 0⟩
/-- The offset of SEC_KEY_JOB (R468). -/
def secKeyJobOff : Nat := 0x160410
/-- SEC_KEY_JOB.JOB, [31:0], RO. -/
def secKeyJobJob : Fld := ⟨0x160410, 31, 0⟩
/-- The offset of SEC_KEY_SERIAL_LO (R468). -/
def secKeySerialLoOff : Nat := 0x160414
/-- SEC_KEY_SERIAL_LO.SERIAL, [31:0], RO. -/
def secKeySerialLoSerial : Fld := ⟨0x160414, 31, 0⟩
/-- The offset of SEC_KEY_SERIAL_HI (R468). -/
def secKeySerialHiOff : Nat := 0x160418
/-- SEC_KEY_SERIAL_HI.SERIAL, [31:0], RO. -/
def secKeySerialHiSerial : Fld := ⟨0x160418, 31, 0⟩
/-- The offset of BOT_IMG_STATUS (R483). -/
def botImgStatusOff : Nat := 0x1e1000
/-- BOT_IMG_STATUS.STATUS, [31:24], RO. -/
def botImgStatusStatus : Fld := ⟨0x1e1000, 31, 24⟩
/-- BOT_IMG_STATUS.CHECK, [23:20], RO. -/
def botImgStatusCheck : Fld := ⟨0x1e1000, 23, 20⟩
/-- BOT_IMG_STATUS.SOURCE, [7], RO. -/
def botImgStatusSource : Fld := ⟨0x1e1000, 7, 7⟩
/-- BOT_IMG_STATUS.FORMAT_CHANGE, [6], RO. -/
def botImgStatusFormatChange : Fld := ⟨0x1e1000, 6, 6⟩
/-- BOT_IMG_STATUS.INCOMPLETE, [5], RO. -/
def botImgStatusIncomplete : Fld := ⟨0x1e1000, 5, 5⟩
/-- BOT_IMG_STATUS.DEFERRED, [4], RO. -/
def botImgStatusDeferred : Fld := ⟨0x1e1000, 4, 4⟩
/-- BOT_IMG_STATUS.DUE, [3], RO. -/
def botImgStatusDue : Fld := ⟨0x1e1000, 3, 3⟩
/-- BOT_IMG_STATUS.STAGING, [2:0], RO. -/
def botImgStatusStaging : Fld := ⟨0x1e1000, 2, 0⟩
/-- The offset of BOT_IMG_PAGES (R483). -/
def botImgPagesOff : Nat := 0x1e1004
/-- BOT_IMG_PAGES.WRITTEN, [30:16], RO. -/
def botImgPagesWritten : Fld := ⟨0x1e1004, 30, 16⟩
/-- BOT_IMG_PAGES.RECEIVED, [14:0], RO. -/
def botImgPagesReceived : Fld := ⟨0x1e1004, 14, 0⟩
/-- The offset of BOT_IMG_CMD (R483). -/
def botImgCmdOff : Nat := 0x1e1008
/-- BOT_IMG_CMD.GO, [31], WO. -/
def botImgCmdGo : Fld := ⟨0x1e1008, 31, 31⟩
/-- BOT_IMG_CMD.ACTION, [30:28], WO. -/
def botImgCmdAction : Fld := ⟨0x1e1008, 30, 28⟩
/-- BOT_IMG_CMD.FORCE, [27], WO. -/
def botImgCmdForce : Fld := ⟨0x1e1008, 27, 27⟩
/-- BOT_IMG_CMD.PAGE, [14:0], WO. -/
def botImgCmdPage : Fld := ⟨0x1e1008, 14, 0⟩
/-- The offset of BOT_IMG_TIME_LO (R483). -/
def botImgTimeLoOff : Nat := 0x1e1010
/-- BOT_IMG_TIME_LO.TIME, [31:0], RW. -/
def botImgTimeLoTime : Fld := ⟨0x1e1010, 31, 0⟩
/-- The offset of BOT_IMG_TIME_HI (R483). -/
def botImgTimeHiOff : Nat := 0x1e1014
/-- BOT_IMG_TIME_HI.TIME, [31:0], RW. -/
def botImgTimeHiTime : Fld := ⟨0x1e1014, 31, 0⟩
/-- The offset of BOT_IMG_BCAST (R483). -/
def botImgBcastOff : Nat := 0x1e1018
/-- BOT_IMG_BCAST.MASK, [15:0], RW. -/
def botImgBcastMask : Fld := ⟨0x1e1018, 15, 0⟩
/-- The offset of BOT_ACTIVE_VERSION (R483). -/
def botActiveVersionOff : Nat := 0x1e101c
/-- BOT_ACTIVE_VERSION.VERSION, [31:0], RO. -/
def botActiveVersionVersion : Fld := ⟨0x1e101c, 31, 0⟩
/-- The offset of BOT_STAGED_VERSION (R483). -/
def botStagedVersionOff : Nat := 0x1e1020
/-- BOT_STAGED_VERSION.VERSION, [31:0], RO. -/
def botStagedVersionVersion : Fld := ⟨0x1e1020, 31, 0⟩
/-- The offset of BOT_IMG_PARENT (R483). -/
def botImgParentOff : Nat := 0x1e1024
/-- BOT_IMG_PARENT.VALID, [20], RO. -/
def botImgParentValid : Fld := ⟨0x1e1024, 20, 20⟩
/-- BOT_IMG_PARENT.PORT, [19:16], RO. -/
def botImgParentPort : Fld := ⟨0x1e1024, 19, 16⟩
/-- BOT_IMG_PARENT.ID, [15:0], RO. -/
def botImgParentId : Fld := ⟨0x1e1024, 15, 0⟩
/-- The offset of BOT_IMG_BUF_w (R483). -/
def botImgBufOff (w : Nat) : Nat := 0x1e2000 + 0x4 * w
/-- BOT_IMG_BUF_w.WORD, [31:0], RW. -/
def botImgBufWord (w : Nat) : Fld := ⟨0x1e2000 + 0x4 * w, 31, 0⟩
/-- The offset of EVR_STATUS (R495). -/
def evrStatusOff : Nat := 0x1a0000
/-- EVR_STATUS.LOST_RECORD, [2], RO. -/
def evrStatusLostRecord : Fld := ⟨0x1a0000, 2, 2⟩
/-- EVR_STATUS.WRAPPED, [1], RO. -/
def evrStatusWrapped : Fld := ⟨0x1a0000, 1, 1⟩
/-- EVR_STATUS.KEPT_FULL, [0], RO. -/
def evrStatusKeptFull : Fld := ⟨0x1a0000, 0, 0⟩
/-- The offset of EVR_COUNT_LO (R495). -/
def evrCountLoOff : Nat := 0x1a0004
/-- EVR_COUNT_LO.N, [31:0], RO. -/
def evrCountLoN : Fld := ⟨0x1a0004, 31, 0⟩
/-- The offset of EVR_COUNT_HI (R495). -/
def evrCountHiOff : Nat := 0x1a0008
/-- EVR_COUNT_HI.N, [31:0], RO. -/
def evrCountHiN : Fld := ⟨0x1a0008, 31, 0⟩
/-- The offset of EVR_HEAD (R495). -/
def evrHeadOff : Nat := 0x1a000c
/-- EVR_HEAD.INDEX, [15:0], RO. -/
def evrHeadIndex : Fld := ⟨0x1a000c, 15, 0⟩
/-- The offset of EVR_DROPPED (R495). -/
def evrDroppedOff : Nat := 0x1a0010
/-- EVR_DROPPED.COUNT, [31:0], RO. -/
def evrDroppedCount : Fld := ⟨0x1a0010, 31, 0⟩
/-- The offset of EVR_FOLDS (R495). -/
def evrFoldsOff : Nat := 0x1a0014
/-- EVR_FOLDS.COUNT, [31:0], RO. -/
def evrFoldsCount : Fld := ⟨0x1a0014, 31, 0⟩
/-- The offset of EVR_REPAIRED (R495). -/
def evrRepairedOff : Nat := 0x1a0018
/-- EVR_REPAIRED.COUNT, [31:0], RO. -/
def evrRepairedCount : Fld := ⟨0x1a0018, 31, 0⟩
/-- The offset of EVR_QUEUE_HWM (R495). -/
def evrQueueHwmOff : Nat := 0x1a001c
/-- EVR_QUEUE_HWM.F1, [25:16], RO. -/
def evrQueueHwmF1 : Fld := ⟨0x1a001c, 25, 16⟩
/-- EVR_QUEUE_HWM.F0, [9:0], RO. -/
def evrQueueHwmF0 : Fld := ⟨0x1a001c, 9, 0⟩
/-- The offset of EVR_CURSOR (R495). -/
def evrCursorOff : Nat := 0x1a0020
/-- EVR_CURSOR.INDEX, [15:0], RW. -/
def evrCursorIndex : Fld := ⟨0x1a0020, 15, 0⟩
/-- The offset of EVR_WINDOW_r_w (R495). -/
def evrWindowOff (r : Nat) (w : Nat) : Nat := 0x1a0100 + 0x20 * r + 0x4 * w
/-- EVR_WINDOW_r_w.WORD, [31:0], RO. -/
def evrWindowWord (r : Nat) (w : Nat) : Fld := ⟨0x1a0100 + 0x20 * r + 0x4 * w, 31, 0⟩
/-- The offset of PWR_STATUS (R520). -/
def pwrStatusOff : Nat := 0x180000
/-- PWR_STATUS.POINT, [31:28], RO. -/
def pwrStatusPoint : Fld := ⟨0x180000, 31, 28⟩
/-- PWR_STATUS.DUTY, [22:16], RO. -/
def pwrStatusDuty : Fld := ⟨0x180000, 22, 16⟩
/-- PWR_STATUS.HALT_TEMP, [15], RO. -/
def pwrStatusHaltTemp : Fld := ⟨0x180000, 15, 15⟩
/-- PWR_STATUS.HALT_FLOW_LOW, [14], RO. -/
def pwrStatusHaltFlowLow : Fld := ⟨0x180000, 14, 14⟩
/-- PWR_STATUS.HALT_FLOW_LOSS, [13], RO. -/
def pwrStatusHaltFlowLoss : Fld := ⟨0x180000, 13, 13⟩
/-- PWR_STATUS.HALT_VOLTAGE, [12], RO. -/
def pwrStatusHaltVoltage : Fld := ⟨0x180000, 12, 12⟩
/-- PWR_STATUS.TRAY_STALE, [5], RO. -/
def pwrStatusTrayStale : Fld := ⟨0x180000, 5, 5⟩
/-- PWR_STATUS.STORM, [4], RO. -/
def pwrStatusStorm : Fld := ⟨0x180000, 4, 4⟩
/-- PWR_STATUS.ORPHAN, [3], RO. -/
def pwrStatusOrphan : Fld := ⟨0x180000, 3, 3⟩
/-- PWR_STATUS.AT_FLOOR, [2], RO. -/
def pwrStatusAtFloor : Fld := ⟨0x180000, 2, 2⟩
/-- PWR_STATUS.CAP_UNMET, [1], RO. -/
def pwrStatusCapUnmet : Fld := ⟨0x180000, 1, 1⟩
/-- PWR_STATUS.BRAKE, [0], RO. -/
def pwrStatusBrake : Fld := ⟨0x180000, 0, 0⟩
/-- The offset of PWR_CAP_W (R520). -/
def pwrCapWOff : Nat := 0x180004
/-- PWR_CAP_W.WATTS, [15:0], RW. -/
def pwrCapWWatts : Fld := ⟨0x180004, 15, 0⟩
/-- The offset of PWR_OP_CAP_W (R520). -/
def pwrOpCapWOff : Nat := 0x180008
/-- PWR_OP_CAP_W.WATTS, [15:0], RW. -/
def pwrOpCapWWatts : Fld := ⟨0x180008, 15, 0⟩
/-- The offset of PWR_LIMITS (R520). -/
def pwrLimitsOff : Nat := 0x18000c
/-- PWR_LIMITS.OP_MAX_W, [31:16], RW. -/
def pwrLimitsOpMaxW : Fld := ⟨0x18000c, 31, 16⟩
/-- PWR_LIMITS.OP_MIN_W, [15:0], RW. -/
def pwrLimitsOpMinW : Fld := ⟨0x18000c, 15, 0⟩
/-- The offset of PWR_EFFECTIVE_CAP (R520). -/
def pwrEffectiveCapOff : Nat := 0x180010
/-- PWR_EFFECTIVE_CAP.SOURCE, [18:16], RO. -/
def pwrEffectiveCapSource : Fld := ⟨0x180010, 18, 16⟩
/-- PWR_EFFECTIVE_CAP.WATTS, [15:0], RO. -/
def pwrEffectiveCapWatts : Fld := ⟨0x180010, 15, 0⟩
/-- The offset of PWR_INPUT (R520). -/
def pwrInputOff : Nat := 0x180014
/-- PWR_INPUT.VOLTS, [31:16], RO. -/
def pwrInputVolts : Fld := ⟨0x180014, 31, 16⟩
/-- PWR_INPUT.WATTS, [15:0], RO. -/
def pwrInputWatts : Fld := ⟨0x180014, 15, 0⟩
/-- The offset of PWR_ENERGY_LO (R520). -/
def pwrEnergyLoOff : Nat := 0x180018
/-- PWR_ENERGY_LO.JOULES, [31:0], RO. -/
def pwrEnergyLoJoules : Fld := ⟨0x180018, 31, 0⟩
/-- The offset of PWR_ENERGY_HI (R520). -/
def pwrEnergyHiOff : Nat := 0x18001c
/-- PWR_ENERGY_HI.JOULES, [31:0], RO. -/
def pwrEnergyHiJoules : Fld := ⟨0x18001c, 31, 0⟩
/-- The offset of PWR_TRAY_TEMP (R520). -/
def pwrTrayTempOff : Nat := 0x180020
/-- PWR_TRAY_TEMP.OUTLET, [31:16], RW. -/
def pwrTrayTempOutlet : Fld := ⟨0x180020, 31, 16⟩
/-- PWR_TRAY_TEMP.INLET, [15:0], RW. -/
def pwrTrayTempInlet : Fld := ⟨0x180020, 15, 0⟩
/-- The offset of PWR_TRAY_FLOW (R520). -/
def pwrTrayFlowOff : Nat := 0x180024
/-- PWR_TRAY_FLOW.ML_PER_MIN, [15:0], RW. -/
def pwrTrayFlowMlPerMin : Fld := ⟨0x180024, 15, 0⟩
/-- The offset of PWR_ALERT (R520). -/
def pwrAlertOff : Nat := 0x180028
/-- PWR_ALERT.SENSOR, [5], W1C. -/
def pwrAlertSensor : Fld := ⟨0x180028, 5, 5⟩
/-- PWR_ALERT.CAP_UNMET, [4], W1C. -/
def pwrAlertCapUnmet : Fld := ⟨0x180028, 4, 4⟩
/-- PWR_ALERT.ORPHAN, [3], W1C. -/
def pwrAlertOrphan : Fld := ⟨0x180028, 3, 3⟩
/-- PWR_ALERT.HALTED, [2], W1C. -/
def pwrAlertHalted : Fld := ⟨0x180028, 2, 2⟩
/-- PWR_ALERT.SHUTDOWN_IMMINENT, [1], W1C. -/
def pwrAlertShutdownImminent : Fld := ⟨0x180028, 1, 1⟩
/-- PWR_ALERT.CYCLE_REQUEST, [0], W1C. -/
def pwrAlertCycleRequest : Fld := ⟨0x180028, 0, 0⟩
/-- The offset of PWR_LAST_SHUTDOWN (R520). -/
def pwrLastShutdownOff : Nat := 0x18002c
/-- PWR_LAST_SHUTDOWN.CAUSE, [31:28], RO. -/
def pwrLastShutdownCause : Fld := ⟨0x18002c, 31, 28⟩
/-- PWR_LAST_SHUTDOWN.SOURCE, [27:24], RO. -/
def pwrLastShutdownSource : Fld := ⟨0x18002c, 27, 24⟩
/-- PWR_LAST_SHUTDOWN.VALUE, [15:0], RO. -/
def pwrLastShutdownValue : Fld := ⟨0x18002c, 15, 0⟩
/-- The offset of PWR_BRAKES (R520). -/
def pwrBrakesOff : Nat := 0x180030
/-- PWR_BRAKES.COUNT, [31:0], RO. -/
def pwrBrakesCount : Fld := ⟨0x180030, 31, 0⟩
/-- The offset of PWR_THROTTLE_MS (R520). -/
def pwrThrottleMsOff : Nat := 0x180034
/-- PWR_THROTTLE_MS.MS, [31:0], RO. -/
def pwrThrottleMsMs : Fld := ⟨0x180034, 31, 0⟩
/-- The offset of PWR_PAIR_q (R520). -/
def pwrPairOff (q : Nat) : Nat := 0x180040 + 0x4 * q
/-- PWR_PAIR_q.SUSPECT, [31], RO. -/
def pwrPairSuspect (q : Nat) : Fld := ⟨0x180040 + 0x4 * q, 31, 31⟩
/-- PWR_PAIR_q.A_IGNORED, [30], RO. -/
def pwrPairAIgnored (q : Nat) : Fld := ⟨0x180040 + 0x4 * q, 30, 30⟩
/-- PWR_PAIR_q.B_IGNORED, [29], RO. -/
def pwrPairBIgnored (q : Nat) : Fld := ⟨0x180040 + 0x4 * q, 29, 29⟩
/-- PWR_PAIR_q.A, [28:20], RO. -/
def pwrPairA (q : Nat) : Fld := ⟨0x180040 + 0x4 * q, 28, 20⟩
/-- PWR_PAIR_q.B, [19:11], RO. -/
def pwrPairB (q : Nat) : Fld := ⟨0x180040 + 0x4 * q, 19, 11⟩
/-- PWR_PAIR_q.VALUE, [10:2], RO. -/
def pwrPairValue (q : Nat) : Fld := ⟨0x180040 + 0x4 * q, 10, 2⟩
/-- The offset of PWR_MEM_p (R520). -/
def pwrMemOff (p : Nat) : Nat := 0x180100 + 0x4 * p
/-- PWR_MEM_p.IGNORED, [31], RO. -/
def pwrMemIgnored (p : Nat) : Fld := ⟨0x180100 + 0x4 * p, 31, 31⟩
/-- PWR_MEM_p.VALUE, [8:0], RO. -/
def pwrMemValue (p : Nat) : Fld := ⟨0x180100 + 0x4 * p, 8, 0⟩
/-- The offset of PWR_KILN_k (R520). -/
def pwrKilnOff (k : Nat) : Nat := 0x180300 + 0x4 * k
/-- PWR_KILN_k.DUTY, [22:16], RO. -/
def pwrKilnDuty (k : Nat) : Fld := ⟨0x180300 + 0x4 * k, 22, 16⟩
/-- PWR_KILN_k.LOST, [4], RO. -/
def pwrKilnLost (k : Nat) : Fld := ⟨0x180300 + 0x4 * k, 4, 4⟩
/-- PWR_KILN_k.THERMAL, [3], RO. -/
def pwrKilnThermal (k : Nat) : Fld := ⟨0x180300 + 0x4 * k, 3, 3⟩
/-- PWR_KILN_k.BRAKE, [2], RO. -/
def pwrKilnBrake (k : Nat) : Fld := ⟨0x180300 + 0x4 * k, 2, 2⟩
/-- PWR_KILN_k.POINT, [1], RO. -/
def pwrKilnPoint (k : Nat) : Fld := ⟨0x180300 + 0x4 * k, 1, 1⟩
/-- PWR_KILN_k.CAP, [0], RO. -/
def pwrKilnCap (k : Nat) : Fld := ⟨0x180300 + 0x4 * k, 0, 0⟩

end Reg

/-- One row of the register map: the first offset, up to three index ranges with their strides, and the access masks. -/
structure RegRow where
  /-- the first offset -/
  base : Nat
  /-- index ranges: (count, stride), outermost first -/
  dims : List (Nat × Nat)
  /-- bits of access RW (R13) -/
  rw : Nat
  /-- bits of access W1C (R13) -/
  w1c : Nat
  /-- bits of access WO (R13) -/
  wo : Nat
  deriving DecidableEq, Repr

/-- Rows of R31. -/
def regRowsR31 : List RegRow :=
  [ ⟨0x0, [], 0x0, 0x0, 0x0⟩,
    ⟨0x4, [], 0x0, 0x0, 0x0⟩,
    ⟨0x8, [], 0x0, 0x0, 0x0⟩,
    ⟨0xc, [], 0x0, 0x0, 0x0⟩,
    ⟨0x10, [], 0x0, 0x0, 0x0⟩,
    ⟨0x14, [], 0x0, 0x0, 0x0⟩,
    ⟨0x18, [], 0x0, 0x0, 0x0⟩,
    ⟨0x1c, [], 0x0, 0x0, 0x0⟩,
    ⟨0x20, [], 0x0, 0x0, 0x0⟩ ]

/-- Rows of R93. -/
def regRowsR93 : List RegRow :=
  [ ⟨0x40000, [(4, 0x10000)], 0x0, 0x0, 0x0⟩,
    ⟨0x40004, [(4, 0x10000)], 0x0, 0x0, 0x0⟩,
    ⟨0x40008, [(4, 0x10000)], 0x0, 0x0, 0x0⟩,
    ⟨0x4000c, [(4, 0x10000)], 0x0, 0x0, 0x0⟩,
    ⟨0x40010, [(4, 0x10000)], 0x0, 0x1f, 0x0⟩,
    ⟨0x40400, [(4, 0x10000), (128, 0x4)], 0x0, 0x0, 0x0⟩,
    ⟨0x40800, [(4, 0x10000), (162, 0x4)], 0x0, 0x0, 0x0⟩,
    ⟨0x41000, [(4, 0x10000), (162, 0x10), (4, 0x4)], 0x0, 0x0, 0x0⟩ ]

/-- Rows of R160. -/
def regRowsR160 : List RegRow :=
  [ ⟨0x20000, [], 0x0, 0x0, 0x0⟩,
    ⟨0x20100, [(4, 0x40)], 0x0, 0x0, 0x0⟩,
    ⟨0x20104, [(4, 0x40)], 0x0, 0x0, 0x0⟩,
    ⟨0x20108, [(4, 0x40)], 0x0, 0x0, 0x0⟩,
    ⟨0x2010c, [(4, 0x40)], 0x0, 0x0, 0x0⟩,
    ⟨0x20110, [(4, 0x40)], 0x0, 0x0, 0x0⟩,
    ⟨0x20114, [(4, 0x40)], 0x0, 0x0, 0x0⟩,
    ⟨0x20118, [(4, 0x40)], 0x0, 0x0, 0x0⟩,
    ⟨0x21000, [(512, 0x40), (4, 0x10)], 0x0, 0x0, 0x0⟩,
    ⟨0x21004, [(512, 0x40), (4, 0x10)], 0x0, 0x0, 0x0⟩,
    ⟨0x21008, [(512, 0x40), (4, 0x10)], 0x0, 0x0, 0x0⟩,
    ⟨0x2100c, [(512, 0x40), (4, 0x10)], 0x0, 0x0, 0x0⟩,
    ⟨0x29000, [(4096, 0x4)], 0x0, 0x0, 0x0⟩,
    ⟨0x2d000, [(128, 0x4)], 0x0, 0x0, 0x0⟩ ]

/-- Rows of R187. -/
def regRowsR187 : List RegRow :=
  [ ⟨0x80000, [], 0x0, 0x0, 0x0⟩,
    ⟨0x80004, [], 0x0, 0x1f, 0x0⟩,
    ⟨0x80008, [], 0x1f, 0x0, 0x0⟩,
    ⟨0x8000c, [], 0xffff, 0x0, 0x0⟩,
    ⟨0x80010, [], 0x0, 0x0, 0x0⟩,
    ⟨0x80014, [], 0x0, 0x0, 0x0⟩,
    ⟨0x80018, [], 0x0, 0x0, 0x0⟩,
    ⟨0x8001c, [], 0x0, 0x0, 0x0⟩,
    ⟨0x80020, [], 0x0, 0x0, 0x0⟩,
    ⟨0x80024, [], 0x0, 0x0, 0x800003ff⟩,
    ⟨0x80028, [], 0x0, 0x0, 0x0⟩,
    ⟨0x80100, [(48, 0x4)], 0x0, 0x0, 0x0⟩,
    ⟨0x81000, [(768, 0x4)], 0x0, 0x0, 0x0⟩,
    ⟨0x84000, [(1341, 0x8)], 0x0, 0x0, 0x0⟩,
    ⟨0x84004, [(1341, 0x8)], 0x0, 0x0, 0x0⟩ ]

/-- Rows of R208. -/
def regRowsR208 : List RegRow :=
  [ ⟨0xa0000, [(128, 0x100)], 0xff3cf3, 0x0, 0xe0000000⟩,
    ⟨0xa0004, [(128, 0x100)], 0x0, 0x0, 0x0⟩,
    ⟨0xa0008, [(128, 0x100)], 0xffffffff, 0x0, 0x0⟩,
    ⟨0xa000c, [(128, 0x100)], 0xffffffff, 0x0, 0x0⟩,
    ⟨0xa0010, [(128, 0x100)], 0xffffffff, 0x0, 0x0⟩,
    ⟨0xa0014, [(128, 0x100)], 0xffffffff, 0x0, 0x0⟩,
    ⟨0xa0018, [(128, 0x100)], 0xffffffff, 0x0, 0x0⟩,
    ⟨0xa001c, [(128, 0x100)], 0x800001ff, 0x0, 0x0⟩,
    ⟨0xa0020, [(128, 0x100)], 0xffffffff, 0x0, 0x0⟩,
    ⟨0xa0024, [(128, 0x100)], 0xffffffff, 0x0, 0x0⟩,
    ⟨0xa0028, [(128, 0x100)], 0xffff2fff, 0x0, 0x0⟩,
    ⟨0xa002c, [(128, 0x100)], 0xffffffff, 0x0, 0x0⟩,
    ⟨0xa0030, [(128, 0x100), (3, 0xc)], 0xffff, 0x0, 0x0⟩,
    ⟨0xa0034, [(128, 0x100), (3, 0xc)], 0xffffffff, 0x0, 0x0⟩,
    ⟨0xa0038, [(128, 0x100), (3, 0xc)], 0xffffffff, 0x0, 0x0⟩,
    ⟨0xa0058, [(128, 0x100)], 0x0, 0x0, 0x0⟩,
    ⟨0xa005c, [(128, 0x100)], 0x0, 0x0, 0x0⟩,
    ⟨0xa0060, [(128, 0x100)], 0x0, 0x0, 0x0⟩,
    ⟨0xa0064, [(128, 0x100)], 0x0, 0x0, 0x0⟩,
    ⟨0xa0068, [(128, 0x100)], 0x0, 0x0, 0x0⟩ ]

/-- Rows of R209. -/
def regRowsR209 : List RegRow :=
  [ ⟨0xa8000, [(4, 0x4)], 0x0, 0x0, 0x0⟩,
    ⟨0xa8010, [(4, 0x4)], 0x0, 0x0, 0x0⟩,
    ⟨0xa8020, [(2, 0x4)], 0x0, 0x0, 0x0⟩ ]

/-- Rows of R227. -/
def regRowsR227 : List RegRow :=
  [ ⟨0xdf000, [], 0x0, 0x0, 0x0⟩,
    ⟨0xdf004, [], 0x0, 0x0, 0x0⟩,
    ⟨0xdf008, [], 0x0, 0x0, 0x0⟩,
    ⟨0xdf010, [], 0x0, 0x0, 0x8000ffff⟩,
    ⟨0xdf100, [(16, 0x4)], 0x0, 0x0, 0x0⟩,
    ⟨0xdf200, [], 0x0, 0x0, 0x0⟩,
    ⟨0xdf204, [], 0x0, 0x0, 0x0⟩,
    ⟨0xdf208, [], 0x0, 0x0, 0x0⟩,
    ⟨0xdf20c, [], 0x0, 0x0, 0x0⟩ ]

/-- Rows of R254. -/
def regRowsR254 : List RegRow :=
  [ ⟨0xc0000, [(112, 0x100)], 0x0, 0x0, 0x0⟩,
    ⟨0xc0004, [(112, 0x100)], 0x7, 0x0, 0xc0000000⟩,
    ⟨0xc0008, [(112, 0x100)], 0x0, 0x0, 0x0⟩,
    ⟨0xc000c, [(112, 0x100)], 0x0, 0x0, 0x0⟩,
    ⟨0xc0010, [(112, 0x100)], 0x0, 0x0, 0x0⟩,
    ⟨0xc0014, [(112, 0x100)], 0x0, 0x0, 0x0⟩,
    ⟨0xc0018, [(112, 0x100)], 0x0, 0x0, 0x0⟩,
    ⟨0xc001c, [(112, 0x100)], 0x0, 0x0, 0x0⟩,
    ⟨0xc0020, [(112, 0x100)], 0x0, 0x0, 0x0⟩ ]

/-- Rows of R255. -/
def regRowsR255 : List RegRow :=
  [ ⟨0xd8000, [(16, 0x100)], 0x0, 0x0, 0x0⟩,
    ⟨0xd8004, [(16, 0x100)], 0x1, 0x0, 0xc0000000⟩,
    ⟨0xd8008, [(16, 0x100)], 0x0, 0x0, 0x0⟩,
    ⟨0xd800c, [(16, 0x100)], 0x0, 0x0, 0x0⟩,
    ⟨0xd8010, [(16, 0x100)], 0x0, 0x0, 0x0⟩,
    ⟨0xd8014, [(16, 0x100)], 0x0, 0x0, 0x0⟩,
    ⟨0xd8018, [(16, 0x100)], 0x0, 0x0, 0x0⟩,
    ⟨0xd801c, [(16, 0x100)], 0x0, 0x0, 0x0⟩ ]

/-- Rows of R256. -/
def regRowsR256 : List RegRow :=
  [ ⟨0xc8000, [(2, 0x8000)], 0x7f301f, 0x0, 0xc0000000⟩,
    ⟨0xc8004, [(2, 0x8000)], 0x0, 0x0, 0x0⟩,
    ⟨0xcc000, [(2, 0x8000), (4096, 0x4)], 0x0, 0x0, 0x0⟩ ]

/-- Rows of R280. -/
def regRowsR280 : List RegRow :=
  [ ⟨0xe0000, [], 0x0, 0x0, 0x80000000⟩,
    ⟨0xe0004, [], 0x1ffff, 0x0, 0x0⟩,
    ⟨0xe0008, [], 0x0, 0x0, 0x0⟩,
    ⟨0xe000c, [], 0x0, 0x0, 0x0⟩,
    ⟨0xe0010, [], 0x0, 0x0, 0x0⟩,
    ⟨0xe0014, [], 0x0, 0x0, 0x0⟩,
    ⟨0xe0018, [], 0x0, 0x0, 0x0⟩,
    ⟨0xe001c, [], 0x0, 0x0, 0x0⟩,
    ⟨0xe0100, [(2, 0x40)], 0x0, 0x0, 0x0⟩,
    ⟨0xe0104, [(2, 0x40)], 0x0, 0x0, 0x0⟩,
    ⟨0xe0108, [(2, 0x40)], 0x0, 0x0, 0x0⟩,
    ⟨0xe010c, [(2, 0x40)], 0x0, 0x0, 0x0⟩,
    ⟨0xe0110, [(2, 0x40), (5, 0x4)], 0x0, 0x0, 0x0⟩,
    ⟨0xe1000, [(16, 0x80)], 0x0, 0x0, 0x0⟩,
    ⟨0xe1004, [(16, 0x80)], 0x0, 0x0, 0x0⟩,
    ⟨0xe1008, [(16, 0x80)], 0x0, 0x0, 0x0⟩,
    ⟨0xe100c, [(16, 0x80)], 0x0, 0x0, 0x0⟩,
    ⟨0xe1010, [(16, 0x80)], 0x0, 0x0, 0x0⟩,
    ⟨0xe1014, [(16, 0x80)], 0x0, 0x0, 0x0⟩,
    ⟨0xe1018, [(16, 0x80)], 0x0, 0x0, 0x0⟩ ]

/-- Rows of R280. -/
def regRowsR280b : List RegRow :=
  [ ⟨0xe101c, [(16, 0x80)], 0x0, 0x0, 0x0⟩,
    ⟨0xe1020, [(16, 0x80)], 0x0, 0x0, 0x0⟩,
    ⟨0xe1024, [(16, 0x80)], 0x0, 0x0, 0x0⟩,
    ⟨0xe1028, [(16, 0x80)], 0x0, 0x0, 0x0⟩,
    ⟨0xe102c, [(16, 0x80)], 0x0, 0x0, 0x0⟩,
    ⟨0xe1030, [(16, 0x80), (5, 0x4)], 0x0, 0x0, 0x0⟩ ]

/-- Rows of R315. -/
def regRowsR315 : List RegRow :=
  [ ⟨0x100000, [], 0x0, 0x0, 0x0⟩,
    ⟨0x100004, [], 0xffff, 0x0, 0x0⟩,
    ⟨0x100008, [], 0x0, 0x0, 0x0⟩,
    ⟨0x10000c, [], 0x0, 0x0, 0x0⟩,
    ⟨0x100010, [], 0x0, 0x0, 0x0⟩,
    ⟨0x100014, [], 0x0, 0x0, 0x0⟩,
    ⟨0x100018, [], 0x0, 0x0, 0x0⟩,
    ⟨0x100100, [(64, 0x20)], 0x0, 0x0, 0x0⟩,
    ⟨0x100104, [(64, 0x20)], 0x0, 0x0, 0x0⟩,
    ⟨0x100108, [(64, 0x20)], 0x0, 0x0, 0x0⟩,
    ⟨0x10010c, [(64, 0x20)], 0x0, 0x0, 0x0⟩,
    ⟨0x100110, [(64, 0x20)], 0x0, 0x0, 0x0⟩,
    ⟨0x100114, [(64, 0x20)], 0x0, 0x0, 0x0⟩,
    ⟨0x100118, [(64, 0x20)], 0x0, 0x0, 0x0⟩,
    ⟨0x10011c, [(64, 0x20)], 0x0, 0x0, 0x0⟩ ]

/-- Rows of R347. -/
def regRowsR347 : List RegRow :=
  [ ⟨0x120000, [], 0x0, 0x0, 0x0⟩,
    ⟨0x120004, [], 0x0, 0x0, 0x0⟩,
    ⟨0x120008, [], 0x0, 0x0, 0x0⟩,
    ⟨0x12000c, [], 0x0, 0x0, 0x0⟩,
    ⟨0x120010, [], 0x0, 0x0, 0x0⟩,
    ⟨0x120014, [], 0x0, 0x0, 0x0⟩,
    ⟨0x120018, [], 0x0, 0x0, 0x0⟩,
    ⟨0x12001c, [], 0x0, 0x0, 0x0⟩,
    ⟨0x120020, [], 0x0, 0x0, 0x0⟩,
    ⟨0x120024, [], 0x0, 0x0, 0x0⟩,
    ⟨0x120028, [], 0x0, 0x0, 0x0⟩,
    ⟨0x12002c, [], 0x0, 0x0, 0x0⟩,
    ⟨0x120030, [], 0x0, 0x0, 0x0⟩,
    ⟨0x120034, [], 0xffff, 0x0, 0x0⟩,
    ⟨0x120038, [], 0x0, 0x0, 0x0⟩,
    ⟨0x12003c, [], 0x0, 0x0, 0x0⟩,
    ⟨0x120040, [], 0x0, 0x0, 0x0⟩,
    ⟨0x120044, [], 0x0, 0x1f, 0x0⟩,
    ⟨0x120100, [(64, 0x8)], 0x0, 0x0, 0x0⟩,
    ⟨0x120104, [(64, 0x8)], 0x0, 0x0, 0x0⟩ ]

/-- Rows of R347. -/
def regRowsR347b : List RegRow :=
  [ ⟨0x120800, [], 0xbf00ffff, 0x0, 0x0⟩,
    ⟨0x120804, [], 0x0, 0x0, 0x0⟩ ]

/-- Rows of R372. -/
def regRowsR372 : List RegRow :=
  [ ⟨0x1c0000, [], 0x0, 0x0, 0x0⟩,
    ⟨0x1c0004, [], 0x0, 0x0, 0x800000f3⟩,
    ⟨0x1c0008, [], 0xf, 0x0, 0x0⟩,
    ⟨0x1c0010, [], 0x0, 0x80000000, 0x0⟩,
    ⟨0x1c0014, [], 0x0, 0x0, 0x0⟩,
    ⟨0x1c0018, [], 0x0, 0x0, 0x0⟩,
    ⟨0x1c0020, [(2, 0x4)], 0x0, 0x0, 0x0⟩,
    ⟨0x1c0030, [], 0x0, 0x0, 0x0⟩,
    ⟨0x1c0034, [], 0xff, 0x0, 0x0⟩,
    ⟨0x1c0038, [], 0x0, 0x0, 0x0⟩,
    ⟨0x1c0040, [(7, 0x4)], 0x0, 0x0, 0x0⟩,
    ⟨0x1c005c, [], 0x0, 0x0, 0x0⟩,
    ⟨0x1c0060, [], 0x8000ffff, 0x0, 0x0⟩,
    ⟨0x1c0070, [(4, 0x4)], 0x0, 0x0, 0x0⟩ ]

/-- Rows of R397. -/
def regRowsR397 : List RegRow :=
  [ ⟨0x140000, [], 0x0, 0x0, 0x0⟩,
    ⟨0x140004, [], 0x0, 0x0, 0x0⟩,
    ⟨0x140008, [], 0x0, 0x0, 0x0⟩,
    ⟨0x14000c, [], 0x0, 0x0, 0x0⟩,
    ⟨0x140010, [], 0x0, 0x0, 0x0⟩,
    ⟨0x140014, [], 0x0, 0x0, 0x0⟩,
    ⟨0x140018, [], 0x0, 0x0, 0x0⟩,
    ⟨0x14001c, [], 0x0, 0x0, 0x0⟩,
    ⟨0x140020, [], 0x0, 0x0, 0x0⟩,
    ⟨0x140100, [(2, 0x20), (4, 0x4)], 0x0, 0x0, 0x0⟩,
    ⟨0x140110, [(2, 0x20)], 0x0, 0x0, 0x0⟩,
    ⟨0x140200, [(8, 0x40)], 0x0, 0x0, 0x0⟩,
    ⟨0x140204, [(8, 0x40)], 0x0, 0x0, 0x0⟩,
    ⟨0x140208, [(8, 0x40)], 0x0, 0x0, 0x0⟩,
    ⟨0x14020c, [(8, 0x40)], 0x0, 0x0, 0x0⟩,
    ⟨0x140210, [(8, 0x40)], 0x0, 0x0, 0x0⟩,
    ⟨0x140214, [(8, 0x40)], 0x0, 0x0, 0x0⟩,
    ⟨0x140218, [(8, 0x40)], 0x0, 0x0, 0x0⟩,
    ⟨0x141000, [(4096, 0x8)], 0x0, 0x0, 0x0⟩,
    ⟨0x141004, [(4096, 0x8)], 0x0, 0x0, 0x0⟩ ]

/-- Rows of R418. -/
def regRowsR418 : List RegRow :=
  [ ⟨0x10000, [], 0x0, 0x0, 0x0⟩,
    ⟨0x10010, [(2, 0x10)], 0x0, 0x0, 0x0⟩,
    ⟨0x10014, [(2, 0x10)], 0x0, 0x0, 0x0⟩,
    ⟨0x10018, [(2, 0x10)], 0xffff, 0x0, 0x0⟩,
    ⟨0x10030, [], 0x8000001f, 0x0, 0x0⟩,
    ⟨0x10034, [], 0x0, 0x0, 0x0⟩,
    ⟨0x10038, [], 0x0, 0x0, 0x80000013⟩,
    ⟨0x10040, [], 0x0, 0x0, 0x0⟩,
    ⟨0x10044, [], 0x0, 0x0, 0x0⟩,
    ⟨0x10048, [], 0x0, 0x0, 0x0⟩,
    ⟨0x10050, [], 0x0, 0x0, 0x0⟩,
    ⟨0x10054, [], 0x0, 0x0, 0x0⟩,
    ⟨0x10060, [], 0x1, 0x2, 0x0⟩,
    ⟨0x10064, [], 0x0, 0x0, 0x0⟩ ]

/-- Rows of R442. -/
def regRowsR442 : List RegRow :=
  [ ⟨0x1e0000, [], 0x0, 0x0, 0x0⟩,
    ⟨0x1e0004, [], 0x0, 0x0, 0x0⟩,
    ⟨0x1e0008, [], 0x0, 0x0, 0x0⟩,
    ⟨0x1e000c, [], 0x0, 0x0, 0x0⟩,
    ⟨0x1e0010, [], 0x80000fff, 0x0, 0x0⟩,
    ⟨0x1e0014, [], 0x0, 0x0, 0x0⟩,
    ⟨0x1e0018, [], 0x0, 0x0, 0x0⟩,
    ⟨0x1e001c, [], 0x0, 0x0, 0x873fff7f⟩,
    ⟨0x1e0020, [], 0x0, 0x0, 0x80000003⟩,
    ⟨0x1e0024, [], 0x0, 0x0, 0x0⟩,
    ⟨0x1e0040, [(10, 0x4)], 0x0, 0x0, 0x0⟩,
    ⟨0x1e0100, [(32, 0x4)], 0xffffffff, 0x0, 0x0⟩,
    ⟨0x1e0180, [], 0x0, 0x0, 0xb000000f⟩,
    ⟨0x1e0184, [], 0x0, 0x0, 0x0⟩,
    ⟨0x1e0200, [(16, 0x10)], 0x0, 0x0, 0x0⟩,
    ⟨0x1e0204, [(16, 0x10)], 0x0, 0x0, 0x0⟩,
    ⟨0x1e0208, [(16, 0x10)], 0x0, 0x0, 0x0⟩,
    ⟨0x1e0300, [], 0x0, 0x0, 0x0⟩,
    ⟨0x1e0304, [], 0x0, 0x0, 0x0⟩ ]

/-- Rows of R468. -/
def regRowsR468 : List RegRow :=
  [ ⟨0x160000, [], 0x0, 0x0, 0x0⟩,
    ⟨0x160004, [], 0x0, 0x0, 0x0⟩,
    ⟨0x160008, [], 0x0, 0x0, 0x0⟩,
    ⟨0x160010, [], 0x0, 0x0, 0x0⟩,
    ⟨0x160014, [], 0x0, 0x0, 0x0⟩,
    ⟨0x160018, [], 0x0, 0x0, 0x0⟩,
    ⟨0x16001c, [], 0x0, 0x0, 0x0⟩,
    ⟨0x160020, [], 0x0, 0x0, 0x0⟩,
    ⟨0x160024, [], 0x0, 0x0, 0x0⟩,
    ⟨0x160040, [(8, 0x4)], 0x0, 0x0, 0x0⟩,
    ⟨0x160060, [(8, 0x4)], 0x0, 0x0, 0x0⟩,
    ⟨0x160100, [(8, 0x20), (8, 0x4)], 0x0, 0x0, 0x0⟩,
    ⟨0x160200, [], 0xffffffff, 0x0, 0x0⟩,
    ⟨0x160204, [], 0xffffffff, 0x0, 0x0⟩,
    ⟨0x160240, [(16, 0x4)], 0x0, 0x0, 0x0⟩,
    ⟨0x160300, [(64, 0x4)], 0xffffffff, 0x0, 0x0⟩,
    ⟨0x160400, [], 0x0, 0x0, 0xb00003ff⟩,
    ⟨0x160404, [], 0x0, 0x0, 0x0⟩,
    ⟨0x160408, [], 0x3ff, 0x0, 0x0⟩,
    ⟨0x16040c, [], 0x0, 0x0, 0x0⟩ ]

/-- Rows of R468. -/
def regRowsR468b : List RegRow :=
  [ ⟨0x160410, [], 0x0, 0x0, 0x0⟩,
    ⟨0x160414, [], 0x0, 0x0, 0x0⟩,
    ⟨0x160418, [], 0x0, 0x0, 0x0⟩ ]

/-- Rows of R483. -/
def regRowsR483 : List RegRow :=
  [ ⟨0x1e1000, [], 0x0, 0x0, 0x0⟩,
    ⟨0x1e1004, [], 0x0, 0x0, 0x0⟩,
    ⟨0x1e1008, [], 0x0, 0x0, 0xf8007fff⟩,
    ⟨0x1e1010, [], 0xffffffff, 0x0, 0x0⟩,
    ⟨0x1e1014, [], 0xffffffff, 0x0, 0x0⟩,
    ⟨0x1e1018, [], 0xffff, 0x0, 0x0⟩,
    ⟨0x1e101c, [], 0x0, 0x0, 0x0⟩,
    ⟨0x1e1020, [], 0x0, 0x0, 0x0⟩,
    ⟨0x1e1024, [], 0x0, 0x0, 0x0⟩,
    ⟨0x1e2000, [(1024, 0x4)], 0xffffffff, 0x0, 0x0⟩ ]

/-- Rows of R495. -/
def regRowsR495 : List RegRow :=
  [ ⟨0x1a0000, [], 0x0, 0x0, 0x0⟩,
    ⟨0x1a0004, [], 0x0, 0x0, 0x0⟩,
    ⟨0x1a0008, [], 0x0, 0x0, 0x0⟩,
    ⟨0x1a000c, [], 0x0, 0x0, 0x0⟩,
    ⟨0x1a0010, [], 0x0, 0x0, 0x0⟩,
    ⟨0x1a0014, [], 0x0, 0x0, 0x0⟩,
    ⟨0x1a0018, [], 0x0, 0x0, 0x0⟩,
    ⟨0x1a001c, [], 0x0, 0x0, 0x0⟩,
    ⟨0x1a0020, [], 0xffff, 0x0, 0x0⟩,
    ⟨0x1a0100, [(8, 0x20), (8, 0x4)], 0x0, 0x0, 0x0⟩ ]

/-- Rows of R520. -/
def regRowsR520 : List RegRow :=
  [ ⟨0x180000, [], 0x0, 0x0, 0x0⟩,
    ⟨0x180004, [], 0xffff, 0x0, 0x0⟩,
    ⟨0x180008, [], 0xffff, 0x0, 0x0⟩,
    ⟨0x18000c, [], 0xffffffff, 0x0, 0x0⟩,
    ⟨0x180010, [], 0x0, 0x0, 0x0⟩,
    ⟨0x180014, [], 0x0, 0x0, 0x0⟩,
    ⟨0x180018, [], 0x0, 0x0, 0x0⟩,
    ⟨0x18001c, [], 0x0, 0x0, 0x0⟩,
    ⟨0x180020, [], 0xffffffff, 0x0, 0x0⟩,
    ⟨0x180024, [], 0xffff, 0x0, 0x0⟩,
    ⟨0x180028, [], 0x0, 0x3f, 0x0⟩,
    ⟨0x18002c, [], 0x0, 0x0, 0x0⟩,
    ⟨0x180030, [], 0x0, 0x0, 0x0⟩,
    ⟨0x180034, [], 0x0, 0x0, 0x0⟩,
    ⟨0x180040, [(20, 0x4)], 0x0, 0x0, 0x0⟩,
    ⟨0x180100, [(96, 0x4)], 0x0, 0x0, 0x0⟩,
    ⟨0x180300, [(4, 0x4)], 0x0, 0x0, 0x0⟩ ]

/-- The whole register map (R26). -/
def regTable : List RegRow :=
  regRowsR31 ++ regRowsR93 ++ regRowsR160 ++ regRowsR187 ++ regRowsR208 ++ regRowsR209 ++ regRowsR227 ++ regRowsR254 ++ regRowsR255 ++ regRowsR256 ++ regRowsR280 ++ regRowsR280b ++ regRowsR315 ++ regRowsR347 ++ regRowsR347b ++ regRowsR372 ++ regRowsR397 ++ regRowsR418 ++ regRowsR442 ++ regRowsR468 ++ regRowsR468b ++ regRowsR483 ++ regRowsR495 ++ regRowsR520

/-- Reset values that are not zero, as (first offset, index ranges, value).  A field whose reset value the spec gives as
"Built", "Saved value" or "Pins" holds 0 here, but where the table adds "if none bad" or "else" (log entry 3, DESIGN CHOICE). -/
def regResetRows : List (Nat × List (Nat × Nat) × Nat) :=
  [ (0x0, [], 0xc0940101),
    (0x20, [], 0x1),
    (0x4, [], 0x3),
    (0x8, [], 0x1),
    (0x41000, [(4, 0x10000), (162, 0x10), (4, 0x4)], 0x4140),
    (0x80008, [], 0x4),
    (0x8000c, [], 0x100),
    (0x80100, [(48, 0x4)], 0xf),
    (0xa8020, [(2, 0x4)], 0x60),
    (0xd8004, [(16, 0x100)], 0x1),
    (0xc8000, [(2, 0x8000)], 0x1014),
    (0xe0004, [], 0x3e8),
    (0xe010c, [(2, 0x40)], 0x2d0620),
    (0x100000, [], 0x4040),
    (0x100004, [], 0x3e8),
    (0x12000c, [], 0x210),
    (0x120034, [], 0x64),
    (0x1c0000, [], 0xf),
    (0x1c0008, [], 0x6),
    (0x1c0014, [], 0xff000f),
    (0x1c0030, [], 0x7000000),
    (0x1c0060, [], 0x80000258),
    (0x1c0070, [(4, 0x4)], 0xff00),
    (0x140004, [], 0xb4c8),
    (0x10030, [], 0x80000006),
    (0x10034, [], 0x5460),
    (0x1e0000, [], 0x10000),
    (0x180000, [], 0x400000),
    (0x180004, [], 0x79e),
    (0x180008, [], 0xa28),
    (0x18000c, [], 0xa2802bc),
    (0x180010, [], 0x1079e),
    (0x180024, [], 0x960),
    (0x180300, [(4, 0x4)], 0x400000) ]

/-- Does an offset, less the first offset of a row, fall on one of the instances?  Found by division, outermost index first. -/
def atDims : List (Nat × Nat) → Nat → Bool
  | [], r => r == 0
  | [(n, st)], r => r % st == 0 && r / st < n
  | (n, st) :: ds, r => r / st < n && atDims ds (r % st)

/-- The row whose register lies at an offset (R15: none where no register lies there). -/
def regRow (off : Nat) : Option RegRow :=
  regTable.find? fun r => r.base ≤ off && atDims r.dims (off - r.base)

/-- POSITION and DIM of LAN_LANE_n_STATUS, which are fixed (R229, R254). -/
def laneReset (n : Nat) : Nat :=
  if n < 72 then n % 12 * 2 ^ 16 + n / 12 * 2 ^ 12 else (n - 72) % 4 * 2 ^ 16 + (6 + (n - 72) / 4) * 2 ^ 12

/-- The reset value of the register at an offset. -/
def regReset (off : Nat) : BitVec 32 :=
  if 0xc0000 ≤ off ∧ off < 0xc7000 ∧ off % 256 = 0 then BitVec.ofNat 32 (laneReset ((off - 0xc0000) / 256)) else
  match regResetRows.find? (fun r => r.1 ≤ off && atDims r.2.1 (off - r.1)) with
  | some r => BitVec.ofNat 32 r.2.2
  | none => 0

end Sys2Proof.Machine
end

