-- ==== Sys2Proof/Machine/State.lean ====
section
/-! DEFINITION. The state of the block: every register (`regs`), and what the spec gives the module beside its registers.
Plain data throughout. -/

namespace Sys2Proof.Machine

/-! ### Firings, contexts, slots -/

/-- Where a running firing stands (R106). -/
inductive Stage where
  | fetch | check | resolve | framePass | main | signals
  deriving DecidableEq, Repr

/-- The fault that ends a firing (R132, R158). -/
structure FireFault where
  /-- status -/
  status : Status
  /-- FAULT_SLOT -/
  slot : Nat := 7
  /-- FAULT_MODULE; none: this module's own ID -/
  module : Option Nat := none
  /-- failing check of R107, 0 for none -/
  check : Nat := 0
  /-- management clock of the grant (R132) -/
  granted : Nat := 0
  /-- unit of R111 that it came from, 0 for none -/
  unit : Nat := 0
  deriving DecidableEq, Repr

/-- The running firing of a partition (R106 to R133). -/
structure Run where
  /-- context -/
  ctx : Nat
  /-- queue -/
  queue : Nat
  /-- head entry -/
  entry : Nat
  /-- distinguishes this firing from every other of its partition -/
  id : Nat := 0
  /-- stage -/
  stage : Stage := .fetch
  /-- descriptor as fetched (256 bytes) -/
  bytes : List Byte := []
  /-- descriptor with its addresses resolved (R108) -/
  desc : Option Desc := none
  /-- what its computation needs: seed, captured slots (R126), free-value base -/
  env : Env := ⟨0, [], 0⟩
  /-- units per tile (R111) -/
  units : List Nat := []
  /-- owner of each unit (R112) -/
  owners : List Nat := []
  /-- units done -/
  unitsDone : List Nat := []
  /-- tiles complete -/
  tilesDone : List Nat := []
  /-- tiles in write-back with the write responses they still owe -/
  tilesOwed : List (Nat × Nat) := []
  /-- write responses still owed by runs before a replay (R131) -/
  strayOwed : Nat := 0
  /-- frame-table entries on other modules that a scatter writes once its additions are answered: (tile, address) (R116) -/
  entries : List (Nat × Nat) := []
  /-- frame-table entries in which one of its additions saturated (R116) -/
  ovf : List Nat := []
  /-- remote operand bytes read: (global address, bytes) -/
  remote : List (Nat × List Byte) := []
  /-- remote reads still owed -/
  readsOwed : Nat := 0
  /-- signals still owed an acknowledgement -/
  signalsOwed : Nat := 0
  /-- replays made (R119) -/
  replays : Nat := 0
  /-- flags so far (R132) -/
  flags : Flags := {}
  /-- the arbiter's choice has been charged to its context (R104) -/
  charged : Bool := true
  /-- first fault granted (R132) -/
  fault : Option FireFault := none
  /-- clock of the last progress event (R129) -/
  progress : Nat := 0
  deriving DecidableEq, Repr

/-- A context (R99, R101, R104). -/
structure Ctx where
  /-- attributes and rings -/
  p : CtxParams
  /-- job ID -/
  job : Nat
  /-- credit of the weighted round robin -/
  credit : Nat
  /-- last queue served -/
  lastQueue : Nat := 3
  /-- head descriptors read from rings on other modules, whose waits are not satisfied yet: (queue, entry, bytes) -/
  heads : List (Nat × Nat × List Byte) := []
  /-- it is being destroyed, and its entry is freed when its last DMA channel is HALTED: with the command to answer (R100, R191) -/
  dying : Option (Option Origin) := none
  deriving DecidableEq, Repr

/-- A sequence slot (R125). -/
structure SeqSlot where
  /-- owner context -/
  owner : Option Nat := none
  /-- page tokens -/
  pageTokens : Nat := 16
  /-- pages -/
  pages : Nat := 0
  /-- table address -/
  table : Nat := 0
  /-- tokens held -/
  tokens : Nat := 0
  deriving DecidableEq, Repr

/-- The slot commands (R128). -/
inductive SlotCmd where
  | opens | closes | truncates | repoints
  deriving DecidableEq, Repr

/-- What a core holds beside its store (R70, R73), numbered by physical places.  Staging, scale buffer and vector register file
have contents that the spec does not describe; they have changed whenever `loads` has. -/
structure CoreParts where
  /-- core sequencer: units of the running firing that it still owes (R106) -/
  units : List Nat := []
  /-- beads that differ from zero: accumulator and shadow register, 48 bits each, by 2,112 × engine + 66 × row + physical column -/
  beads : Tbl (BitVec 48 × BitVec 48) := []
  /-- tally file: T128 words by 4,096 × engine + 2,048 × half + 64 × row + active column -/
  tally : Tbl (BitVec 128) := []
  /-- the half of the tally file that each engine fills next -/
  half : List Bool := [false, false, false, false]
  /-- loads of staging, scale buffer and vector registers so far -/
  loads : Nat := 0
  deriving DecidableEq, Repr

/-- The sequencer of a partition (R98). -/
structure Sequencer where
  /-- running firing -/
  run : Option Run := none
  /-- slot commands held by R128 -/
  held : List (Origin × SlotCmd × SlotParams) := []
  /-- last context served (R104) -/
  lastCtx : Nat := 511
  deriving DecidableEq, Repr

/-! ### Fabric -/

/-- Who holds a request slot (R276). -/
inductive ReqOwner where
  | operand (part run addr slot : Nat)
  | tile (part run tile slot : Nat)
  | tadd (part run tile entry : Nat)
  | signal (part run counter : Nat)
  | record (part ctx : Nat)
  | collRecord (group : Nat)
  | dma (ch req : Nat) (write : Bool)
  | dmaSignal (ch report : Nat)
  | coll (group : Nat)
  | collSignal (group counter : Nat)
  | bank (kind arg : Nat)
  | none
  deriving DecidableEq, Repr

/-- A request slot (R276, R277). -/
structure ReqSlot where
  /-- held -/
  busy : Bool := false
  /-- holder -/
  owner : ReqOwner := .none
  /-- GEN at issue -/
  gen : Nat := 0
  /-- use count modulo 256 -/
  seq : Nat := 0
  /-- destination -/
  dest : Nat := 0
  /-- opcode -/
  opcode : Nat := 0
  deriving DecidableEq, Repr

/-- A request that waits for a free request slot (R276). -/
structure SlotWait where
  /-- holder to be -/
  owner : ReqOwner
  /-- GEN -/
  gen : Nat
  /-- destination -/
  dest : Nat
  /-- opcode -/
  op : Nat
  /-- two-phase routing -/
  twoPhase : Bool
  /-- bytes 16 to 31 -/
  cmd : List Byte
  /-- further bytes -/
  data : List Byte
  /-- long packet -/
  long : Bool
  /-- INTER drawn for a two-phase request (R274) -/
  inter : Nat := 0
  deriving DecidableEq, Repr

/-- Credits of one virtual channel of a port, as transmitter and as receiver (R266). -/
structure Credit where
  /-- transmitter: cells sent, modulo 4,096 -/
  sent : Nat := 0
  /-- transmitter: last count received -/
  counted : Nat := 0
  /-- transmitter: window cells the far store has assigned (log entry 17, DEDUCED) -/
  txWindow : Nat := 0
  /-- receiver: window cells assigned to the channel -/
  window : Nat := 0
  /-- receiver: cells freed, modulo 4,096 -/
  freed : Nat := 0
  /-- receiver: freed cells not yet reported -/
  pending : Nat := 0
  /-- receiver: freed cells withheld while a queue is capped (R267) -/
  held : Nat := 0
  deriving DecidableEq, Repr

/-- A fabric port beside its LAN registers (R218, R219, R235 to R250). -/
structure Port where
  /-- link training is in progress -/
  training : Bool := false
  /-- own verdict: 0 pending, 1 accept, 2 reject -/
  verdict : Nat := 0
  /-- an identity packet has arrived since training -/
  seen : Bool := false
  /-- the port has left OFF and EXCHANGING since the cold start -/
  left : Bool := false
  /-- keys of the two directions (R240): transmit, receive -/
  keys : Nat × Nat := (0, 0)
  /-- next SEQ to send -/
  txSeq : Nat := 0
  /-- next SEQ expected -/
  rxSeq : Nat := 0
  /-- a frame has been accepted since bring-up -/
  heard : Bool := false
  /-- transmit frame counter -/
  txc : Nat := 0
  /-- the receiver's own count of the far end's frames (R240) -/
  rxc : Nat := 0
  /-- flits handed to the port and in no frame yet -/
  out : List (List Byte) := []
  /-- kept frames, oldest first: SEQ and flits -/
  kept : List (Nat × List (List Byte)) := []
  /-- kept frames still to be resent -/
  resend : Nat := 0
  /-- flits of each packet handed to the port and not yet acknowledged -/
  flight : List Nat := []
  /-- replays of the oldest kept frame without an ACK beyond it -/
  replays : Nat := 0
  /-- NAK goes out in the next frame -/
  nak : Bool := false
  /-- a frame was refused, and the one expected has not come yet (R238) -/
  gap : Bool := false
  /-- the lane set has changed, and applies from the next period (R247) -/
  change : Bool := false
  /-- lane positions dropped that the tails still report (R247) -/
  report : List Nat := []
  /-- flits of the packet that is arriving -/
  rx : List (List Byte) := []
  /-- management clocks of the last tag failures -/
  tagFails : List Nat := []
  /-- the neighbour holds no valid time -/
  noTime : Bool := false
  deriving DecidableEq, Repr

/-- An eye scan in progress (R251). -/
structure EyeScan where
  /-- lane -/
  lane : Nat
  /-- eye -/
  eye : Nat
  /-- DWELL -/
  dwell : Nat
  /-- management clock of the start -/
  began : Nat
  deriving DecidableEq, Repr

/-- A packet in a central store (R263, R265). -/
structure Stored where
  /-- the packet -/
  pkt : Packet
  /-- ingress port; none when an endpoint injected it -/
  via : Option Nat
  /-- virtual channel it arrived on -/
  vc : Nat
  /-- flue die whose store holds it -/
  die : Nat
  /-- cells taken from the class reserve -/
  reserve : Nat
  /-- cells taken from the shared pool -/
  shared : Nat
  /-- cells taken from the virtual channel's floor -/
  floor : Nat
  deriving DecidableEq, Repr

/-! ### DMA -/

/-- An outstanding request of a channel. -/
structure DmaReq where
  /-- request number -/
  id : Nat
  /-- it is a write -/
  write : Bool
  /-- global address -/
  addr : Nat
  /-- bytes -/
  size : Nat
  /-- destination address that a read's data goes to, or is compared with -/
  dst : Nat
  /-- loop-order offset of the piece -/
  order : Nat
  /-- it follows the read of the source -/
  second : Bool := false
  /-- data to write; for COMPARE the source data, once read -/
  data : List Byte := []
  deriving DecidableEq, Repr

/-- What a DMA channel keeps beside its registers (R199 to R207). -/
structure DmaRun where
  /-- job of the bound context, none when unbound -/
  job : Option Nat := none
  /-- run index of the next request -/
  run : Nat := 0
  /-- bytes of the run already requested -/
  offset : Nat := 0
  /-- every request issued -/
  issued : Bool := false
  /-- next request number -/
  next : Nat := 0
  /-- outstanding requests -/
  out : List DmaReq := []
  /-- failure that ends the transfer: status and global address -/
  failed : Option (Status × Nat) := none
  /-- management clock of the failure or abort that ends the transfer (R206) -/
  endAt : Nat := 0
  /-- abort cause of event 0x0503 -/
  aborted : Option Nat := none
  /-- loop order and address of the first differing block -/
  firstDiff : Option (Nat × Nat) := none
  /-- target module of the signal, resolved -/
  target : Nat := 0
  /-- management clock before which pacing lets no request go (R201) -/
  due : Nat := 0
  /-- it was started while a bank of its job held requests back (R329) -/
  held : Bool := false
  /-- host command that waits for the end -/
  reply : Option Origin := none
  /-- host abort commands that wait for HALTED -/
  aborts : List Origin := []
  /-- reports that wait for the answer to a remote signal: number, command, flags, results (R204) -/
  reports : List (Nat × Origin × Flags × List Byte) := []
  deriving DecidableEq, Repr

/-! ### Collectives (R282 to R313) -/

/-- A collective descriptor (R294). -/
structure CollDesc where
  /-- CONTROL -/
  control : Nat
  /-- AXES -/
  axes : Nat
  /-- ROWS -/
  rows : Nat
  /-- COLUMNS -/
  cols : Nat
  /-- ROUND_STREAM -/
  stream : Nat
  /-- SRC -/
  src : Nat
  /-- SRC_FRAMES -/
  srcFrames : Nat
  /-- DST -/
  dst : Nat
  /-- DST_FRAMES -/
  dstFrames : Nat
  /-- COMPLETION_ADDR -/
  completion : Nat
  /-- WAIT -/
  wait : Nat
  /-- SIGNAL_0, SIGNAL_1 -/
  signals : List Nat
  /-- WORK -/
  work : Nat
  /-- every reserved byte is 0 -/
  reservedZero : Bool
  deriving DecidableEq, Repr

/-- Phases of a collective: the reduction and the gather of the frame exchange (R299), the reduction of the data, its gather. -/
inductive CollPhase where
  | frameReduce | frameGather | reduce | gather
  deriving DecidableEq, Repr

/-- A segment by its place: phase, axis, step, reverse ring, index (R292). -/
structure SegKey where
  /-- CSEQ -/
  cseq : Nat
  /-- phase -/
  phase : CollPhase
  /-- axis -/
  axis : Nat
  /-- step -/
  step : Nat
  /-- reverse ring -/
  rev : Bool
  /-- index within the part -/
  seg : Nat
  deriving DecidableEq, Repr

/-- A running collective (R293, R303 to R307). -/
structure Coll where
  /-- queue entry -/
  entry : Nat
  /-- descriptor -/
  desc : CollDesc
  /-- descriptor check (R298) -/
  check : Nat
  /-- phase -/
  phase : CollPhase
  /-- axis in progress -/
  axis : Nat
  /-- step in progress -/
  step : Nat
  /-- frame entries: this member's, then the combined ones (R299) -/
  frames : List Nat := []
  /-- segments combined and checked, not yet sent -/
  ready : List (SegKey × List Byte) := []
  /-- segments of the axis already combined: step, reverse ring, index -/
  combined : List (Nat × Bool × Nat) := []
  /-- segments of the axis already sent -/
  sent : List (Nat × Bool × Nat) := []
  /-- segments of the axis whose residue check failed once (R302) -/
  retried : List (Nat × Bool × Nat) := []
  /-- every step done -/
  finished : Bool := false
  /-- flags (R300) -/
  flags : Flags := {}
  /-- a word of a tile that this member wrote saturated: the tiles (R301) -/
  saturated : List Nat := []
  /-- cause that ended it: status, fault module, failing check -/
  fault : Option (Status × Nat × Nat) := none
  deriving DecidableEq, Repr

/-- A collective group beside its CAR registers (R283, R286, R290). -/
structure Group where
  /-- queue address -/
  addr : Nat
  /-- log2 of the queue size -/
  log2 : Nat
  /-- this member's rank -/
  rank : Nat
  /-- per spanned axis: the axis, this member's position, the ring's module IDs by position -/
  rings : List (Nat × Nat × List Nat)
  /-- ring neighbours that answered READY -/
  answered : List Nat := []
  /-- credits held: (phase, axis, reverse ring, CSEQ) and their number -/
  credits : List ((CollPhase × Nat × Bool × Nat) × Nat) := []
  /-- segments received: their bytes so far -/
  rx : List (SegKey × List Byte) := []
  /-- running collective -/
  run : Option Coll := none
  /-- ABORTs received for a collective not yet started: CSEQ, status, originating module, cause -/
  aborts : List (Nat × Status × Nat × Nat) := []
  /-- next CSEQ, not reduced -/
  next : Nat := 0
  deriving DecidableEq, Repr

/-! ### Banking (R317 to R343) -/

/-- A before-image log entry (R324, R325). -/
structure LogEntry where
  /-- bank it belongs to -/
  bank : Nat
  /-- local address of the unit or line -/
  addr : Nat
  /-- its 4,096 bytes -/
  data : List Byte
  /-- the unit could not be read -/
  bad : Bool := false
  deriving DecidableEq, Repr

/-- An ARRIVE recorded (R330, R333). -/
structure Arrive where
  /-- source module -/
  src : Nat
  /-- bank number -/
  bank : Nat
  /-- of Barrier 2 -/
  second : Bool
  /-- round -/
  round : Nat
  /-- FULL -/
  full : Bool
  /-- staged-table check -/
  check : Nat
  deriving DecidableEq, Repr

/-- What a HELLO of a rick peer said (R333). -/
structure RickHello where
  /-- BANK_SEQ -/
  seq : Nat
  /-- state -/
  state : Nat
  /-- RECOVERY -/
  recovery : Nat
  /-- arithmetic level -/
  level : Nat
  /-- PROT_COUNT -/
  prot : Nat
  deriving DecidableEq, Repr

/-- A rebuild that this peer makes (R343). -/
structure Rebuild where
  /-- command -/
  o : Origin
  /-- spare's module ID -/
  spare : Nat
  /-- lost position -/
  lost : Nat
  /-- items done -/
  next : Nat := 0
  /-- XOR so far -/
  acc : List Byte := []
  /-- reads owed -/
  owed : Nat := 0
  /-- failure -/
  failed : Option Status := none
  deriving DecidableEq, Repr

/-- The rick beside its BNK registers. -/
structure Rick where
  /-- context named at formation -/
  ctx : Nat := 0
  /-- dirty units -/
  dirty : List Nat := []
  /-- log entries, oldest first -/
  log : List LogEntry := []
  /-- contributions to parity lines in a full bank (R335) -/
  contrib : Tbl Nat := []
  /-- the protected run is closed (R329, R340, R342) -/
  closed : Bool := false
  /-- partition of the bank firing -/
  part : Option Nat := none
  /-- ARRIVEs recorded -/
  arrivals : List Arrive := []
  /-- FULL gathered in the barrier -/
  full : Bool := false
  /-- Barrier 2 of the bank under way has been entered -/
  second : Bool := false
  /-- an entry that a rollback would need was never logged (R327, R335) -/
  stale : Bool := false
  /-- the bank under way is full (R335) -/
  fullBank : Bool := false
  /-- units of the fold already sent as DELTAs -/
  folded : Nat := 0
  /-- DELTAs owed an acknowledgement -/
  owed : Nat := 0
  /-- first failing status of a fold and its module -/
  foldFail : Option (Status × Nat) := none
  /-- management clock at which Quiesce began -/
  began : Nat := 0
  /-- last HELLO by position -/
  hello : Tbl RickHello := []
  /-- positions from which a HELLO agreed at formation -/
  heard : List Nat := []
  /-- JOIN waiting for its peers' HELLOs -/
  joining : Option (Origin × RickParams) := none
  /-- ROLLBACK under way: command, T, whether bank T was committed -/
  rollback : Option (Origin × Nat × Bool) := none
  /-- rebuild made by this peer -/
  rebuild : Option Rebuild := none
  /-- units and lines this spare has received -/
  received : List Nat := []
  deriving DecidableEq, Repr

/-- A rank-table entry (R338, R339).  Job, generation, size and the two flags are its BNK_RANKTAB registers. -/
structure RankTab where
  /-- module IDs in rank order, in force -/
  ids : List Nat := []
  /-- staged table -/
  staged : List Nat := []
  /-- generation the staged table replaces -/
  base : Nat := 0
  deriving DecidableEq, Repr

/-! ### Host transport -/

/-- States of a session entry (R382, R397). -/
inductive SessState where
  | free | handshake | opened | disconnected | closing
  deriving DecidableEq, Repr

/-- A packet the module has sent and holds until it is acknowledged (R392). -/
structure Unacked where
  /-- SEQ -/
  seq : Nat
  /-- body: the reply it carries -/
  body : List Byte
  deriving DecidableEq, Repr

/-- A packet that waits for its turn on a paced session (R395). -/
structure HostSend where
  /-- TYPE -/
  type : Nat
  /-- SEQ -/
  seq : Nat
  /-- body -/
  body : List Byte
  /-- RETRANSMIT -/
  again : Bool
  deriving DecidableEq, Repr

/-- The answer to a HELLO (R384): on failure all but its status and its signature are 0. -/
structure HelloAnswer where
  /-- host nonce answered -/
  nonce : Nat
  /-- session entry; 4096 for none -/
  entry : Nat
  /-- status -/
  status : Status
  /-- session ID -/
  sess : Nat
  /-- ephemeral key of the module -/
  own : Nat
  /-- nonce of the module -/
  ownNonce : Nat
  /-- identity certificate chain -/
  chain : Nat
  /-- signature -/
  sig : Nat
  deriving DecidableEq, Repr

/-- A partial rank table (R390). -/
structure RankPart where
  /-- INSTALL or STAGE -/
  stage : Bool
  /-- n -/
  n : Nat
  /-- generation of a staged table -/
  gen : Nat
  /-- the IDs stored so far -/
  ids : List Nat
  deriving DecidableEq, Repr

/-- A session entry (R382).  Role, job, epoch, current network and port, and state are also its HST registers. -/
structure Session where
  /-- host UDP port -/
  udp : Nat := 0
  /-- host addresses on networks A and B -/
  addrs : List Nat := [0, 0]
  /-- nonce of its HELLO -/
  nonce : Nat := 0
  /-- enrolled key -/
  key : Nat := 0
  /-- RATE [Gb/s] -/
  rate : Nat := 0
  /-- last activity [ms of operating time] -/
  last : Nat := 0
  /-- next SEQ expected from the host -/
  rxSeq : Nat := 1
  /-- next SEQ to send -/
  txSeq : Nat := 1
  /-- transmit counter TXC -/
  txc : Nat := 1
  /-- TXC values accepted, the highest 64 -/
  window : List Nat := []
  /-- consecutive misses -/
  misses : Nat := 0
  /-- misses reached three on the other network -/
  failedOver : Bool := false
  /-- sent and not acknowledged, oldest first -/
  unacked : List Unacked := []
  /-- holds a rate-limiter timer of F0, of F1 -/
  timers : List Bool := [false, false]
  /-- keys, host to module and module to host (R383, R384) -/
  keys : Nat × Nat := (0, 0)
  /-- packets of a paced session that wait, oldest first (R395) -/
  queued : List HostSend := []
  /-- management clock before which a paced session sends no packet (R395) -/
  due : Nat := 0
  /-- partial rank table -/
  ranks : Option RankPart := none
  deriving DecidableEq, Repr

/-- A host command in progress (R389, R390): its opcode, and its result once it has one. -/
structure Progress where
  /-- command -/
  o : Origin
  /-- OPCODE -/
  op : Nat
  /-- status, flags, results (24 bytes), reply data -/
  result : Option (Status × Flags × List Byte × List Byte) := none
  deriving DecidableEq, Repr

/-- A waiting SYNC_WAIT (R390). -/
structure SyncWait where
  /-- command -/
  o : Origin
  /-- counter -/
  counter : Nat
  /-- target -/
  target : Nat
  deriving DecidableEq, Repr

/-- What leaves the block (log entry 13, DESIGN CHOICE). -/
inductive Wire where
  | host (sess type seq ack port : Nat) (body udp : List Byte)
  | helloReply (port : Nat) (a : HelloAnswer)
  | packet (port : Nat) (p : Packet)
  | local_ (p : Packet)
  | frame (port : Nat) (f : Frame)
  | access (r : Requester) (off value : Nat) (status : Status)
  | ethernet (port kind : Nat)
  | burst (port : Nat)
  | memory (a : Agent) (addr : Nat) (status : Status) (flags : Flags) (data : List Byte)
  deriving DecidableEq, Repr

/-! ### Events -/

/-- An event waiting for its grant (R491). -/
structure Ev where
  /-- code -/
  code : Nat
  /-- source -/
  src : Nat
  /-- parameter 0 -/
  p0 : Nat
  /-- parameter 1 -/
  p1 : Nat
  /-- parameter 2 -/
  p2 : Nat
  /-- TIME at raising: operating time and power cycles -/
  time : Nat
  /-- TIME_UNSET -/
  unset : Bool
  /-- management clock at raising -/
  clk : Nat
  deriving DecidableEq, Repr

/-- An event record (R485). -/
structure EvRec where
  /-- CODE, SOURCE and parameters, TIME and TIME_UNSET -/
  ev : Ev
  /-- SEQ -/
  seq : Nat
  /-- REPEAT -/
  rep : Nat := 0
  /-- WRITER -/
  writer : Nat := 0
  /-- GAP -/
  gap : Bool := false
  deriving DecidableEq, Repr

/-! ### Resets -/

/-- A reset domain: some partitions (bit p of the mask) or the whole chip; or a unit below partition level. -/
inductive Domain where
  | engine (die core engine : Nat)
  | core (die core : Nat)
  | cluster (die cluster : Nat)
  | parts (mask : Nat)
  | chip
  deriving DecidableEq, Repr

/-- A reset that waits for its grant (R353, R371). -/
structure ResetReq where
  /-- ladder level, 1 to 6 -/
  level : Nat
  /-- target, as the RESET_GRANT command numbers it (log entry 23, DESIGN CHOICE) -/
  target : Nat
  /-- cause of R362 -/
  cause : Nat
  /-- the fault it belongs to (R365) -/
  fault : Option Nat := none
  /-- the new split, for cause 0x0B (R96) -/
  split : Option Nat := none
  /-- host command answered when the reset begins -/
  o : Option Origin := none
  deriving DecidableEq, Repr

/-- A reset in progress (R353, R358). -/
structure Reset where
  /-- domain -/
  dom : Domain
  /-- cause of R362 -/
  cause : Nat
  /-- the fault it belongs to (R365) -/
  fault : Nat
  /-- management clock of the grant -/
  began : Nat
  /-- slot of its snapshot; none when skipped -/
  slot : Option Nat := none
  /-- snapshot's header fields from PARTITIONS on, as granted (R359) -/
  head : List Byte := []
  /-- snapshot's sections: offset within the slot, bytes -/
  image : List (Nat × List Byte) := []
  /-- snapshot closed or skipped -/
  snapDone : Bool := false
  /-- drain ended -/
  drained : Bool := false
  /-- reset asserted for its 1 ms -/
  asserted : Bool := false
  /-- post-reset check done -/
  checked : Bool := false
  /-- its bound has passed: it has failed, its domain stays fenced -/
  failed : Bool := false
  /-- generations it has advanced, or an absorbed reset had: partitions 0 to 3, 4 the chip (R371) -/
  bumped : List Nat := []
  /-- core losses that wait for the post-reset check: die, core, cause, ash cause (R371) -/
  late : List (Nat × Nat × Nat × Nat) := []
  /-- host commands answered at release -/
  replies : List Origin := []
  deriving DecidableEq, Repr

/-! ### Records (R424, R432, R438, R454) -/

/-- A stored licence (R438): its 128 bytes. -/
structure Licence where
  /-- bytes -/
  bytes : List Byte
  deriving DecidableEq, Repr

/-- An enrolled key (R454): its 256 bytes, and the slot of its signer. -/
structure KeyEntry where
  /-- bytes -/
  bytes : List Byte
  /-- slot of the signer, 0x3FF for the maker root -/
  signer : Nat
  deriving DecidableEq, Repr

/-- A firmware image (R470): pages by number, 4,096 bytes each; page 0 is the manifest. -/
structure Image where
  /-- pages -/
  pages : Tbl (List Byte) := []
  deriving DecidableEq, Repr

/-- A record write that waits for the NVM port (R415, R425), with what it stores. -/
inductive RecData where
  | ash (es : List Nat)
  | licences (t : Tbl Licence)
  | plan (p : Plan)
  | host (c : HostCfg)
  | keys (t : Tbl KeyEntry) (floor : Nat)
  | limits (maxW minW : Nat)
  | counters (optime cycles warm shutdown : Nat)
  | lanes (t : Tbl (Nat × Tbl Nat))
  | training
  deriving DecidableEq, Repr

/-- What the configuration NVM holds (R422, R424). -/
structure Nvm where
  /-- factory ash baseline -/
  baseline : List Nat := []
  /-- ash list -/
  ash : Option (List Nat) := none
  /-- licences by slot -/
  licences : Tbl Licence := []
  /-- cabling plan -/
  plan : Option Plan := none
  /-- host configuration -/
  host : Option HostCfg := none
  /-- enrolled keys by slot; none when the record has no valid copy -/
  keys : Option (Tbl KeyEntry) := none
  /-- security version floor -/
  floor : Nat := 0
  /-- installer limits: OP_MAX_W, OP_MIN_W -/
  limits : Option (Nat × Nat) := none
  /-- operating time [ms] -/
  optime : Nat := 0
  /-- power cycles -/
  cycles : Nat := 0
  /-- warm resets -/
  warm : Nat := 0
  /-- PWR_LAST_SHUTDOWN as saved -/
  shutdown : Nat := 0
  /-- saved lane settings by fabric port: lane table version, settings by lane (R243) -/
  lanes : Tbl (Nat × Tbl Nat) := []
  /-- memory training is saved -/
  training : Bool := false
  /-- the active bank's image; none when INVALID -/
  active : Option Image := none
  /-- the staging bank's image; none unless VALID -/
  staging : Option Image := none
  /-- state of the staging bank: 0 EMPTY, 3 VALID, 4 INVALID -/
  bank : Nat := 0
  /-- DUE (R477) -/
  due : Bool := false
  /-- the other valid copies of the records, at most one of a TYPE (R425) -/
  older : List RecData := []
  /-- slot of the newer copy of a record, by TYPE -/
  newer : Tbl Nat := []
  /-- SEQ of the newer copy, by TYPE (R423) -/
  seqs : Tbl Nat := []
  deriving DecidableEq, Repr

/-! ### Control units (R366, R399 to R411) -/

/-- A control unit beside its CTL and RST registers. -/
structure CtlUnit where
  /-- management clock of its last ember (R366) -/
  emberAt : Nat := 0
  /-- management clock at which it entered PROBATION (R407) -/
  probation : Nat := 0
  /-- its restart's self-test has passed: the control state is being copied to it (R407) -/
  copying : Bool := false
  /-- its self-test is that of a planned swap or a SWAP command (R409) -/
  swapped : Bool := false
  deriving DecidableEq, Repr

/-- A switchover under way (R410, R411). -/
structure Hold where
  /-- incoming unit -/
  unit : Nat
  /-- cause -/
  cause : Nat
  /-- cause of event 0x0102 for the outgoing unit -/
  failCause : Nat
  /-- duration [ns] -/
  ns : Nat
  /-- management clock at which it began -/
  since : Nat
  deriving DecidableEq, Repr

/-- The control units and the token (R404, R409, R410). -/
structure Ctl where
  /-- units A and B -/
  units : Tbl CtlUnit := []
  /-- holder named by the token cells of F0 and F1: 0 A, 1 B -/
  token : List (Option Nat) := [none, none]
  /-- management clock at which each cell's lease began -/
  leases : List Nat := [0, 0]
  /-- cause of R410 by which the active unit got the token, 0 at a start -/
  gained : Nat := 0
  /-- operating time of the last switchover [ms], or of the start -/
  switched : Nat := 0
  /-- management clock since which a planned swap waits for a swap point -/
  swapWait : Option Nat := none
  /-- switchover under way -/
  hold : Option Hold := none
  deriving DecidableEq, Repr

/-! ### Power and cooling (R497 to R521) -/

/-- The power and thermal controls beside the PWR registers. -/
structure Power where
  /-- inlet of the last complete tray report, as written (R511) -/
  inlet : Nat := 0
  /-- outlet of the last complete tray report, as written -/
  outlet : Nat := 0
  /-- operating point before the compute halt (R504) -/
  haltPoint : Nat := 0
  /-- duty that the cap controller allows (R506) -/
  capDuty : Nat := 64
  /-- thermal ceilings of the kiln dies (R513) -/
  thermal : List Nat := [64, 64, 64, 64]
  /-- brake ceilings of the kiln dies, 64 for none (R501) -/
  brake : List Nat := [64, 64, 64, 64]
  /-- the comparator brakes -/
  comparator : Bool := false
  /-- causes of the brake: bit 0 comparator, bit 1 BRAKE_N -/
  brakeCause : Nat := 0
  /-- the input has stood at or above 46.0 V for 1 ms -/
  inputGood : Bool := false
  /-- point the supply slews from (R498) -/
  slew : Option Nat := none
  /-- last value written to PWR_CAP_W, not above 2,600 (R507) -/
  rackLast : Nat := 1950
  /-- rack cap in force (R507, R508) -/
  rackCap : Nat := 1950
  /-- writes to PWR_CAP_W of the storm window: management clock and watts, oldest first (R508) -/
  writes : List (Nat × Nat) := []
  /-- F (R515) -/
  flow : Nat := 100
  /-- flow cap (R515) -/
  flowCap : Nat := 2600
  /-- consecutive reports with the inlet above 40 °C (R515) -/
  inletHigh : Nat := 0
  /-- management clock of the last report (R515) -/
  reportAt : Nat := 0
  /-- halt causes held during the halt, bit n - 1 for cause n (R521) -/
  causes : Nat := 0
  /-- management clock at which the halt began -/
  haltAt : Nat := 0
  /-- management clock up to which the module stays in RECOVERY after a halt (R504) -/
  recoverUntil : Nat := 0
  /-- sensors that reached a halt limit: pair q, or 0x100 + package (R513) -/
  haltBy : List Nat := []
  /-- sensors at their hard limit in the last sample (R513) -/
  hard : List Nat := []
  /-- management clock of the last event 0x0C12 (R500) -/
  highAt : Option Nat := none
  /-- input energy below one joule [10^-11 J] (R500) -/
  energy : Nat := 0
  /-- management clocks with DUTY below 64 (R520) -/
  throttled : Nat := 0
  /-- management clock of the last change of the duty ceilings' time base (R499) -/
  riseAt : Nat := 0
  /-- management clock up to which `throttled` counts -/
  syncAt : Nat := 0
  deriving DecidableEq, Repr

/-! ### Start and firmware update (R427, R470 to R484) -/

/-- A start in progress beside the BOT registers. -/
structure Start where
  /-- ash entries added in this start (R443) -/
  ashAdded : Nat := 0
  /-- floor to raise when the start reaches SERVICE (R481) -/
  raise_ : Option Nat := none
  /-- a warm reset waits for sparing copies and record writes (R436) -/
  warmWait : Bool := false
  /-- identity root, held in the security monitors (R421) -/
  root : Nat := 0
  /-- private identity key (R447) -/
  identity : Nat := 0
  /-- seal key (R423, R447) -/
  sealKey : Nat := 0
  /-- pairing key (R445, R447) -/
  pairKey : Nat := 0
  deriving DecidableEq, Repr

/-- Staging, broadcast and activation beside the BOT registers (R472 to R478). -/
structure Update where
  /-- image buffer in region 0: pages by 2^15 × MANIFEST_VERSION + number (log entry 36, DEDUCED) -/
  buffer : Tbl (List Byte) := []
  /-- manifest of the image being staged -/
  manifest : List Byte := []
  /-- how it is staged: 1 registers, 2 broadcast (R484) -/
  via : Nat := 1
  /-- MANIFEST_VERSION of the broadcast being received or forwarded -/
  version : Nat := 0
  /-- pages of the broadcast image, 0 while page 0 has not come -/
  pages : Nat := 0
  /-- MASK of the broadcast -/
  mask : Nat := 0
  /-- pages that wait to go out, by port: place in `buffer`, MASK, pulled -/
  out : Tbl (List (Nat × Nat × Bool)) := []
  /-- pages asked of the parent for a child: port, place in `buffer` (R476) -/
  asked : List (Nat × Nat) := []
  /-- branches of a broadcast already reported dark: port, MANIFEST_VERSION (R476) -/
  dark : List (Nat × Nat) := []
  /-- FORCE of the scheduled activation, with its T; none when none is scheduled (R477) -/
  schedule : Option (Bool × Nat) := none
  deriving DecidableEq, Repr

/-! ### Pins -/

/-- Levels at the pins (R529 to R534). -/
structure Pins where
  /-- TRAY_RST_N high -/
  trayRstN : Bool := true
  /-- BRAKE_N high -/
  brakeN : Bool := true
  /-- FLOW_LOSS_N high -/
  flowLossN : Bool := true
  /-- SLOT_ID[5:0] straps -/
  slotId : Nat := 0
  /-- reference clock good -/
  refGood : Bool := true
  deriving DecidableEq, Repr

/-- Fabric time (R223): the count at a clock, and the rate from there on. -/
structure FabTime where
  /-- counts -/
  running : Bool := false
  /-- nanoseconds at `at_` -/
  base : Nat := 0
  /-- management clock of `base` -/
  at_ : Nat := 0
  /-- rate correction in units of 2^-32 -/
  rate : Int := 0
  /-- consecutive offsets below the bound -/
  good : Nat := 0
  /-- root sequence number: as the root counts it, or the last one seen -/
  rootSeq : Nat := 0
  deriving DecidableEq, Repr

/-- Per-requester read captures, held writes (R16) and selectors (R347, R442, R468, R495). -/
structure ReqRegs where
  /-- (offset of _LO, captured upper half) -/
  captures : List (Nat × Nat) := []
  /-- (offset of _LO, held lower half) -/
  holds : List (Nat × Nat) := []
  /-- (offset of the selector, value) -/
  sels : List (Nat × Nat) := []
  deriving DecidableEq, Repr

/-- Why a step can stop with a fault.  No command of this block faults: the type has no constructor (log entry 2, DESIGN CHOICE). -/
inductive Fault where
  deriving DecidableEq, Repr

/-- Why a step can refuse a command. -/
inductive Refusal where
  /-- Raised by no meaning; a dispatch arm whose command has no meaning yet answers it (safe: nothing happens). -/
  | notModelled (mnemonic : String)
  deriving DecidableEq, Repr

/-- The state of the block. -/
structure State where
  /-- commands waiting, first in first out -/
  pending : List Instr
  /-- registers that differ from their reset value (R26; log entry 3, DESIGN CHOICE) -/
  regs : Tbl Word
  /-- power phase -/
  phase : Phase
  /-- management clock cycles counted (R23, R33) -/
  clk : Nat
  /-- pins -/
  pins : Pins
  /-- per-requester register state -/
  reqRegs : List (Requester × ReqRegs)
  /-- what the block has sent -/
  wire : List Wire
  /-- the model's own counter for free values (log entry 8, DESIGN CHOICE) -/
  free : Nat
  /-- contexts (R99) -/
  ctxs : Tbl Ctx
  /-- sequence slots (R125) -/
  slots : Tbl SeqSlot
  /-- partitions' sequencers -/
  parts : Tbl Sequencer
  /-- SYNC_WAIT commands waiting -/
  syncWaits : List SyncWait
  /-- host commands in progress -/
  inProg : List Progress
  /-- main memory (R165; log entry 4, DESIGN CHOICE) -/
  mem : Memory
  /-- SRAM window (R170; log entry 5, DESIGN CHOICE): bytes written since their unit's last reset -/
  sram : Tbl Byte
  /-- times that a store of the SRAM has become undefined, by 171 × kiln die + core, or + 162 + cluster (log entry 5, DESIGN CHOICE) -/
  sramResets : Tbl Nat
  /-- what the cores hold beside their stores, by 162 × die + physical core -/
  coreParts : Tbl CoreParts
  /-- uncorrectable granules: two or more of their 132 symbols are in error (R179, R180) -/
  badGranules : List Nat
  /-- granules with one symbol in error, and which (R179) -/
  faint : Tbl Nat
  /-- demand bursts of the window, by logical channel (R174) -/
  bursts : Tbl Nat
  /-- the six memory keys, 256 bits each (R186) -/
  memKeys : List Nat
  /-- channel hash key (R172) -/
  hashKey : Nat
  /-- region zeroing in progress with its waiting reply (R168): (region, job, origin) -/
  zeroing : List (Nat × Nat × Origin)
  /-- request slots, index 8192 × die + slot (R276) -/
  reqSlots : Tbl ReqSlot
  /-- requests that wait for a free slot (R276) -/
  slotWait : List SlotWait
  /-- central store queues: output 0 to 15, 16 for LOC (R263) -/
  queues : Tbl (List Stored)
  /-- by output: the channels (30 × die + virtual channel) that have had their turn since the round began (R269) -/
  turns : Tbl (List Nat)
  /-- packets that wait at an endpoint for room: (flue die, packet) (R265) -/
  waiting : List (Nat × Packet)
  /-- ports whose ingress discards flits until a header passes: cause of the header error, flits discarded (R262) -/
  resync : Tbl (Nat × Nat)
  /-- credits, index 30 × port + virtual channel (R266) -/
  credits : Tbl Credit
  /-- fabric ports -/
  ports : Tbl Port
  /-- eye scans in progress, by flue die (R251) -/
  eyes : Tbl EyeScan
  /-- provisional mode has adopted a neighbour's rack number (R217) -/
  rackAdopted : Bool
  /-- DMA channels -/
  dmaRun : Tbl DmaRun
  /-- channel of each flue die that took the DMA bus last (R201) -/
  dmaLast : List Nat
  /-- collective groups (R283) -/
  groups : Tbl Group
  /-- by flue die: the group that its carry engine served last, and the turns it has left in the round (R308) -/
  carTurns : List (Nat × Nat)
  /-- the rick (R317) -/
  bank : Rick
  /-- rank tables (R338) -/
  rankTabs : Tbl RankTab
  /-- sparing copies: seam to (failing channel, management clock of the start, clocks the copy takes) (R183) -/
  copies : Tbl (Nat × Nat × Nat)
  /-- corrected errors of a channel in this hour (R182) -/
  ceHour : Tbl Nat
  /-- consecutive hot windows of a channel (R174) -/
  hotRuns : Tbl Nat
  /-- sessions (R382) -/
  sessions : Tbl Session
  /-- answers to HELLOs, oldest first (R384) -/
  nonces : List HelloAnswer
  /-- event queues of F0 and F1 (R491) -/
  evq : List (List Ev)
  /-- event record slots (R487) -/
  recs : Tbl EvRec
  /-- records lost in both mirrors (R490) -/
  recBad : List Nat
  /-- by flue die: events dropped since the last EVENTS_LOST record, and the first one's code (R492) -/
  evLost : List (Nat × Nat)
  /-- resets that wait for their grant -/
  resetReqs : List ResetReq
  /-- resets in progress -/
  resets : List Reset
  /-- context aborts of the ladder not yet done: context, cause, fault (R361) -/
  ladder : List (Nat × Nat × Nat)
  /-- isolations in progress: die, cluster, fault (R361) -/
  isolating : List (Nat × Nat × Nat)
  /-- a power cycle has been asked for (R364) -/
  cycling : Bool
  /-- faults seen by the ladder so far (R365) -/
  faults : Nat
  /-- the fault that RST_FAULT_CONTEXT holds (R365) -/
  faultHeld : Option Nat
  /-- management clock of each generation's last advance: partitions 0 to 3, 4 the chip (R357) -/
  genClk : Tbl Nat
  /-- ash list, oldest first (R432) -/
  ash : List Nat
  /-- bad columns of an engine, index 4 × (162 × die + core) + engine (R84) -/
  badCols : Tbl (List Nat)
  /-- columns whose residue check failed once in their group: die, core, engine, column (R81) -/
  residue : List (Nat × Nat × Nat × Nat)
  /-- cores that owe a store check: die, core (R82, R369) -/
  storeDue : List (Nat × Nat)
  /-- cores whose last in-service test did not end: 162 × die + core (R89) -/
  spareDoubt : List Nat
  /-- last spare tested on each die (R368) -/
  spareLast : Tbl Nat
  /-- configuration NVM -/
  nvm : Nvm
  /-- record writes waiting -/
  nvmq : List RecData
  /-- fabric time -/
  time : FabTime
  /-- control units -/
  ctl : Ctl
  /-- output latches: the sequence number of the last value that each output's latch has taken (R402) -/
  latches : Tbl Nat
  /-- output sequence number of the next value (R402) -/
  outSeq : Nat
  /-- power and cooling -/
  power : Power
  /-- start in progress -/
  start : Start
  /-- firmware update -/
  update : Update
  /-- audit entries kept, oldest first, 64 bytes each (R464 to R466) -/
  audit : List (List Byte)
  /-- the next audit write fails read-back in both slots (R465) -/
  auditBad : Bool
  deriving DecidableEq, Repr

/-- The state after reset: power is good and the reset released, start step 1 (R5, R427).  The values the spec does not give
are those of log entries 3, 4, 5, 11 and 12, DESIGN CHOICE. -/
def State.reset : State :=
  { pending := [], regs := [], phase := .start, clk := 0, pins := {}, reqRegs := [], wire := [], free := 0
    ctxs := [], slots := [], parts := [], syncWaits := [], inProg := [], mem := [], sram := [], sramResets := [], coreParts := []
    badGranules := [], faint := [], bursts := [], memKeys := [], hashKey := 0, zeroing := [], reqSlots := [], slotWait := [], queues := [], turns := [], waiting := [], resync := [], credits := [], ports := [], eyes := [], rackAdopted := false, dmaRun := [], dmaLast := [63, 127], groups := [], carTurns := [(63, 0), (63, 0)], bank := {}, rankTabs := [], copies := [], ceHour := [], hotRuns := [], sessions := []
    nonces := [], evq := [[], []], recs := [], recBad := [], evLost := [(0, 0), (0, 0)], resetReqs := [], resets := [], ladder := [], isolating := [], cycling := false, faults := 0, faultHeld := none, genClk := [], ash := [], badCols := [], residue := [], storeDue := [], spareDoubt := [], spareLast := [], nvm := {}, nvmq := [], time := {}, ctl := {}, latches := [], outSeq := 0, power := {}, start := {}, update := {}, audit := [], auditBad := false }

end Sys2Proof.Machine
end

