-- ==== Sys2Proof/Machine/Ops.lean ====
section
/-! DEFINITION. Named operations over the registers, time, events and module state. -/

namespace Sys2Proof.Machine

/-! ### Registers -/

/-- The register at an offset. -/
def State.reg (s : State) (off : Nat) : Word := tget s.regs (regReset off) off

/-- Set the register at an offset. -/
def State.setReg (s : State) (off : Nat) (w : Word) : State := { s with regs := tset s.regs (regReset off) off w }

/-- The value of a field. -/
def State.fld (s : State) (f : Fld) : Nat := bits (s.reg f.off).toNat f.hi f.lo

/-- A word with a field replaced; the value is cut to the field. -/
def putField (w : Word) (f : Fld) (v : Nat) : Word :=
  BitVec.ofNat 32 (w.toNat % 2 ^ f.lo + v % 2 ^ f.width * 2 ^ f.lo + w.toNat / 2 ^ (f.hi + 1) * 2 ^ (f.hi + 1))

/-- Set a field. -/
def State.setFld (s : State) (f : Fld) (v : Nat) : State := s.setReg f.off (putField (s.reg f.off) f v)

/-- A one-bit field. -/
def State.flag (s : State) (f : Fld) : Bool := s.fld f != 0

/-- Set a one-bit field. -/
def State.setFlag (s : State) (f : Fld) (b : Bool) : State := s.setFld f (b2n b)

/-- Add to a counter, saturating at the field's maximum. -/
def State.add (s : State) (f : Fld) (n : Nat) : State := s.setFld f (min (s.fld f + n) (2 ^ f.width - 1))

/-- Count one, saturating. -/
def State.bump (s : State) (f : Fld) : State := s.add f 1

/-- Take from a counter, not below 0. -/
def State.sub (s : State) (f : Fld) (n : Nat) : State := s.setFld f (s.fld f - n)

/-- The 64-bit quantity of a _LO, _HI pair (R16). -/
def State.pair (s : State) (lo : Nat) : Nat := (s.reg lo).toNat + (s.reg (lo + 4)).toNat * 2 ^ 32

/-- Set a 64-bit quantity. -/
def State.setPair (s : State) (lo v : Nat) : State :=
  (s.setReg lo (BitVec.ofNat 32 v)).setReg (lo + 4) (BitVec.ofNat 32 (v / 2 ^ 32))

/-- Count in a pair, saturating at 2^64 - 1. -/
def State.addPair (s : State) (lo n : Nat) : State := s.setPair lo (min (s.pair lo + n) (2 ^ 64 - 1))

/-- Apply an update for each element of a list. -/
def State.each {α : Type} (s : State) (xs : List α) (f : State → α → State) : State := xs.foldl f s

/-- Apply an update when a condition holds. -/
def State.when (s : State) (b : Bool) (f : State → State) : State := if b then f s else s

/-! ### Time -/

/-- Operating time [ms] (R33): the value at the last cold start and the management clocks since, 235,000 to the millisecond. -/
def State.opTime (s : State) : Nat := (s.pair Reg.glbOptimeMsLoOff + s.clk / 235000) % 2 ^ 40

/-- Fabric time [ns] (R223): 200 / 47 ns to a management clock, at the rate correction in force. -/
def State.fabricTime (s : State) : Nat :=
  if s.time.running then
    s.time.base + ((((s.clk - s.time.at_) * 200 / 47 : Nat) : Int) * (2 ^ 32 + s.time.rate) / 2 ^ 32).toNat
  else 0

/-- The next free value (log entry 8, DESIGN CHOICE). -/
def State.fresh (s : State) : State := { s with free := s.free + 1 }

/-! ### Identity, licences, partitions -/

/-- The module ID in use (R31, R217). -/
def State.myId (s : State) : Nat := s.fld Reg.glbModuleIdId

/-- Base in effect (R2, R32). -/
def State.base (s : State) : Bool := s.flag Reg.glbLicencesBase
/-- Scale in effect. -/
def State.scale (s : State) : Bool := s.flag Reg.glbLicencesScale
/-- Rick in effect. -/
def State.rick (s : State) : Bool := s.flag Reg.glbLicencesRick
/-- Tenancy in effect. -/
def State.tenancy (s : State) : Bool := s.flag Reg.glbLicencesTenancy

/-- Provisional mode (R217). -/
def State.provisional (s : State) : Bool := ! s.flag Reg.glbModuleIdValid

/-- The kiln dies of a partition under a split code (R95, R134). -/
def splitDies : Nat → Nat → List Nat
  | 0, 0 => [0, 1, 2, 3]
  | 1, 0 => [0, 1]
  | 1, 1 => [2, 3]
  | 2, 0 => [0, 1]
  | 2, 1 => [2]
  | 2, 2 => [3]
  | 3, 0 => [0]
  | 3, 1 => [1]
  | 3, 2 => [2]
  | 3, 3 => [3]
  | _, _ => []

/-- The kiln dies of a partition. -/
def State.dies (s : State) (p : Nat) : List Nat := splitDies (s.fld Reg.fsqSplitSplit) p

/-- The partitions of the current split. -/
def State.partitions (s : State) : List Nat := (List.range 4).filter fun p => ! (s.dies p).isEmpty

/-- The partition that holds a kiln die. -/
def State.partOf (s : State) (die : Nat) : Nat := ((List.range 4).find? fun p => (s.dies p).contains die).getD 0

/-- Logical cores of a partition (R97). -/
def State.cores (s : State) (p : Nat) : Nat := 128 * (s.dies p).length

/-- Is partition logical core n of p a hole (R97)? -/
def State.hole (s : State) (p n : Nat) : Bool :=
  match (s.dies p)[n / 128]? with
  | some k => s.flag (Reg.kilCoreMapHole k (n % 128))
  | none => true

/-- The live cores of a partition, ascending (R112). -/
def State.live (s : State) (p : Nat) : List Nat := (List.range (s.cores p)).filter fun n => ! s.hole p n

/-- The sequencer of a partition. -/
def State.part (s : State) (p : Nat) : Sequencer := tget s.parts {} p

/-- Set the sequencer of a partition. -/
def State.setPart (s : State) (p : Nat) (q : Sequencer) : State := { s with parts := tset s.parts {} p q }

/-- The context of a number. -/
def State.ctx (s : State) (c : Nat) : Option Ctx := tfind s.ctxs c

/-- Set a context's entry. -/
def State.setCtx (s : State) (c : Nat) (x : Ctx) : State := { s with ctxs := tput s.ctxs c x }

/-- The context that owns a sync counter (R99). -/
def State.counterOwner (s : State) (n : Nat) : Option (Nat × Ctx) :=
  s.ctxs.find? fun c => c.2.p.syncFirst ≤ n && n < c.2.p.syncFirst + c.2.p.syncCount

/-- The active control unit: 0 A, 1 B; none while neither is ACTIVE (R404, R406). -/
def State.activeUnit (s : State) : Option Nat :=
  if s.fld Reg.ctlStatusStateA = 1 then some 0 else if s.fld Reg.ctlStatusStateB = 1 then some 1 else none

/-! ### Events (R491, R539) -/

/-- The flue die whose queue an event enters (R539). -/
def State.evDie (s : State) (code src : Nat) : Nat :=
  match code / 256 with
  | 3 => if src < 2 then 0 else 1
  | 12 => if src = 2 ∨ src = 3 ∨ src = 5 then 1 else 0
  | 1 | 2 | 13 => (s.activeUnit).getD 0
  | _ => if src = 1 then 1 else 0

/-- The queue entry of an event: its raising time, or the mark that the clock is unset (R488, R491). -/
def State.evOf (s : State) (code src p0 p1 p2 : Nat) : Ev :=
  let unset := s.phase = .start && s.fld Reg.botStatusStep < 2
  ⟨code, src, p0 % 2 ^ 32, p1 % 2 ^ 32, p2 % 2 ^ 32,
    if unset then 0 else s.opTime + s.fld Reg.glbPowerCyclesCount * 2 ^ 40, unset, s.clk⟩

/-- Drop an event that finds its die's queue full (R492). -/
def State.evDrop (s : State) (d code : Nat) : State :=
  let (n, c) := s.evLost.getD d (0, 0)
  { s.bump Reg.evrDroppedCount with evLost := lset s.evLost d (n + 1, if n = 0 then code else c) }

/-- The queue of a die. -/
def State.evQueue (s : State) (d : Nat) : List Ev := s.evq.getD d []

/-- Put an event at the end of its die's queue. -/
def State.evPut (s : State) (d : Nat) (e : Ev) : State := { s with evq := lset s.evq d (s.evQueue d ++ [e]) }

/-- The high-water mark of a die's queue. -/
def evHwmOf (d : Nat) : Fld := if d = 0 then Reg.evrQueueHwmF0 else Reg.evrQueueHwmF1

/-- Raise the high-water mark of a die's queue to a length (R495). -/
def State.evMark (s : State) (d n : Nat) : State := if s.fld (evHwmOf d) < n then s.setFld (evHwmOf d) (min n 1023) else s

/-- Raise an event (R491): it enters its die's queue, or is dropped and counted when the queue is full (R492). -/
def State.ev (s : State) (code src p0 p1 p2 : Nat) : State :=
  let d := s.evDie code src
  if (s.evQueue d).length ≥ 1024 then s.evDrop d code
  else (s.evPut d (s.evOf code src p0 p1 p2)).evMark d ((s.evQueue d).length + 1)

/-- The source field of events raised by control-unit firmware for CTL and RST (R373, R419). -/
def State.unitSrc (s : State) : Nat := (s.activeUnit).getD 0

/-! ### Alerts (R416, R518) -/

/-- ALERT_N is asserted: a bit of PWR_ALERT is 1. -/
def State.alertN (s : State) : Bool := s.reg Reg.pwrAlertOff != 0

/-- Bring SVC_0 in line with ALERT_N: the tray alert, which stops the trace clock. -/
def State.alertSync (s : State) : State :=
  let on := s.alertN
  let s := s.setFlag Reg.ctlSvcAlertActive on
  if on && s.flag Reg.ctlSvcTraceEn then
    ((s.setFlag Reg.ctlSvcTraceEn false).setFlag Reg.ctlSvcTraceStopped true).ev 0x0108 s.unitSrc 0 0 0
  else s

/-- Set a bit of PWR_ALERT. -/
def State.alert (s : State) (f : Fld) : State := (s.setFlag f true).alertSync

/-! ### The arbiter (R403, R413, R418; log entry 32, DESIGN CHOICE) -/

/-- A control unit that receives the journal: STANDBY or PROBATION. -/
def State.standby (s : State) : Option Nat :=
  if s.fld Reg.ctlStatusStateA = 2 ∨ s.fld Reg.ctlStatusStateA = 5 then some 0
  else if s.fld Reg.ctlStatusStateB = 2 ∨ s.fld Reg.ctlStatusStateB = 5 then some 1 else none

/-- The active unit's arbiter grants an input: the grant counts, and a journal record goes to the standby.  With 256 records unapplied
it waits until the standby has applied one (R403). -/
def State.arbGrant (s : State) : State :=
  if s.activeUnit.isNone then s
  else
    let s := s.addPair Reg.ctlGrantsLoOff 1
    if s.standby.isNone then s
    else
      let n := min (s.fld Reg.ctlJournalDepth + 1) 256
      let s := s.setFld Reg.ctlJournalDepth n
      if s.fld Reg.ctlJournalHwm < n then s.setFld Reg.ctlJournalHwm n else s

/-! ### Status codes (R9) and flags (R11) -/

/-- The code of a status (R9). -/
def stCode : Status → Nat
  | .ok => 0 | .fenced => 1 | .unreachable => 2 | .memberLost => 3 | .arithCheck => 4 | .memUncorrectable => 5 | .align => 6
  | .access => 7 | .timeout => 8 | .aborted => 9 | .hang => 10 | .shape => 11 | .length => 12 | .licence => 13
  | .parityStale => 14 | .state => 15

/-- The status of a code; a code the module never sends counts as a failure and stands as STATE (R10). -/
def stOf : Nat → Status
  | 0 => .ok | 1 => .fenced | 2 => .unreachable | 3 => .memberLost | 4 => .arithCheck | 5 => .memUncorrectable | 6 => .align
  | 7 => .access | 8 => .timeout | 9 => .aborted | 10 => .hang | 11 => .shape | 12 => .length | 13 => .licence
  | 14 => .parityStale | _ => .state

/-! ### Sync counters (R121) -/

/-- The value of a counter. -/
def State.sync (s : State) (n : Nat) : Nat := s.fld (Reg.fsqSyncValueValue n)

/-- The ERROR bit of a counter. -/
def State.syncErr (s : State) (n : Nat) : Bool := bit (s.fld (Reg.fsqSyncErrError (n / 32))) (n % 32)

/-- Set a counter's ERROR bit. -/
def State.setSyncErr (s : State) (n : Nat) (b : Bool) : State :=
  let f := Reg.fsqSyncErrError (n / 32)
  s.setFld f (if b then setBit (s.fld f) (n % 32) else clrBit (s.fld f) (n % 32))

/-- Is a wait satisfied: (value − target) mod 2^32 < 2^31 (R122)? -/
def waitDone (value target : Nat) : Bool := (value + 2 ^ 32 - target % 2 ^ 32) % 2 ^ 32 < 2 ^ 31

/-! ### Fences (R354) -/

/-- The chip fence is closed. -/
def State.chipFence (s : State) : Bool :=
  s.flag Reg.rstStatusChipResetting || s.flag Reg.rstStatusNoControlUnit

/-- The fence of partition p is closed: a reset of it or of the chip is in progress, a ladder stopped on it, or no control
unit runs (R353, R354, R363, R367). -/
def State.fenced (s : State) (p : Nat) : Bool := s.chipFence || bit (s.fld Reg.rstStatusPartResetting) p

/-! ### Module state (R5, R6; log entry 10, DEDUCED) -/

/-- States of a collective group in which a collective runs (R283, R315): code 3, BUSY. -/
def State.groupRunning (s : State) (c : Nat) : Bool :=
  (List.range 64).any fun g => s.fld (Reg.carGroupStateState g) = 3 && s.fld (Reg.carGroupContextContext g) = c

/-- Is a DMA channel BUSY or DRAINING (R208)? -/
def State.dmaBusy (s : State) (n : Nat) : Bool := let x := s.fld (Reg.dmaChStatusState n); x == 1 || x == 2

/-- A channel bound to a context. -/
def State.dmaBoundTo (s : State) (n c : Nat) : Bool :=
  s.flag (Reg.dmaChOwnerBound n) && s.fld (Reg.dmaChOwnerContext n) == c

/-- A queue not stopped that holds a descriptor between head and tail. -/
def State.queueLoaded (s : State) (c q : Nat) : Bool :=
  s.flag (Reg.fsqCtxQStateExists c q) && ! s.flag (Reg.fsqCtxQStateStopped c q)
    && s.fld (Reg.fsqCtxQHeadHead c q) != s.fld (Reg.fsqCtxQTailTail c q)

/-- Is a context active (R6)? -/
def State.ctxActive (s : State) (c : Nat) : Bool :=
  (match s.ctx c with
    | some x => match (s.part x.p.partition).run with
      | some r => r.ctx == c
      | none => false
    | none => false)
  || (List.range 4).any (s.queueLoaded c)
  || s.groupRunning c
  || (List.range 128).any fun n => s.dmaBoundTo n c && s.dmaBusy n

/-- A condition of DEGRADED (R5): a hole, a FAILED unit since the cold start, a port whose NONE bit is clear not UP or narrow. -/
def State.degradedNow (s : State) : Bool :=
  (List.range 4).any (fun k => s.fld (Reg.kilStatusHoles k) != 0)
  || (List.range 2).any (fun u => s.fld (Reg.ctlUnitInfoFails u) != 0)
  || (List.range 16).any fun d => ! bit (s.fld Reg.lanPlanIdNone) d
      && (s.fld (Reg.lanPortDiscState d) != 2 || s.fld (Reg.lanPortStatusWidth d) < (if d < 6 then 12 else 4))

/-- Compute is halted for a cause (R5, R504). -/
def State.haltedNow (s : State) : Bool :=
  s.flag Reg.pwrStatusHaltTemp || s.flag Reg.pwrStatusHaltFlowLow || s.flag Reg.pwrStatusHaltFlowLoss
  || s.flag Reg.pwrStatusHaltVoltage

/-- A reset above engine level, a stopped ladder, or a reconstruction is in progress (R5, R363), or a compute halt has just
ended (R504). -/
def State.recoveringNow (s : State) : Bool :=
  s.resets.any (fun r => match r.dom with | .engine _ _ _ => false | _ => true)
  || s.flag Reg.rstStatusStopped || s.flag Reg.rstStatusNoControlUnit || s.fld Reg.bnkStatusState == 8
  || decide (s.clk < s.power.recoverUntil)

/-- The state of the module (R5, R7). -/
def State.modState (s : State) : ModState :=
  match s.phase with
  | .off => .off
  | .start => .start
  | .test => .test
  | .up =>
    if s.haltedNow then .halted
    else if s.recoveringNow then .recovery
    else if (s.ctxs.any fun c => s.ctxActive c.1) then (if s.degradedNow then .degraded else .run)
    else .service

/-- The code of GLB_MODULE_STATE (R5); OFF is read by nobody. -/
def modCode : ModState → Nat
  | .off => 0 | .start => 1 | .test => 2 | .service => 3 | .run => 4 | .degraded => 5 | .recovery => 6 | .halted => 7

/-- The start has failed (R428). -/
def State.startFailed (s : State) : Bool := s.flag Reg.botStatusFailed

/-! ### The wire -/

/-- Send something out of the block (log entry 13, DESIGN CHOICE). -/
def State.send (s : State) (w : Wire) : State := { s with wire := s.wire ++ [w] }

/-- Answer a register access of a requester. -/
def State.answer (s : State) (r : Requester) (off value : Nat) (st : Status) : State := s.send (.access r off value st)

/-- Per-requester register state.  R27 names three requesters; that each session of the management port and each control
unit's firmware counts as a requester of its own is the model's choice (log entry 3, DESIGN CHOICE). -/
def State.own (s : State) (r : Requester) : ReqRegs :=
  match s.reqRegs.find? fun x => x.1 == r with
  | some x => x.2
  | none => {}

/-- Set per-requester register state. -/
def State.setOwn (s : State) (r : Requester) (x : ReqRegs) : State :=
  { s with reqRegs := (s.reqRegs.filter fun y => ! (y.1 == r)) ++ [(r, x)] }

/-! ### Control units (R404, R406, R407, R411) -/

/-- STATE field of a unit. -/
def unitFld (u : Nat) : Fld := if u = 0 then Reg.ctlStatusStateA else Reg.ctlStatusStateB

/-- State of a unit: 0 OFF, 1 ACTIVE, 2 STANDBY, 3 FAILED, 4 TESTING, 5 PROBATION, 6 RETIRED. -/
def State.unitState (s : State) (u : Nat) : Nat := s.fld (unitFld u)

/-- A unit beside its registers. -/
def State.cu (s : State) (u : Nat) : CtlUnit := tget s.ctl.units {} u

/-- Set a unit's rest. -/
def State.setCu (s : State) (u : Nat) (x : CtlUnit) : State := { s with ctl := { s.ctl with units := tset s.ctl.units {} u x } }

/-- A unit becomes FAILED, at its third entry since the power cycle RETIRED (R407).  `cause` is that of event 0x0102. -/
def State.failUnit (s : State) (u cause : Nat) : State :=
  let s := (s.bump (Reg.ctlUnitInfoFails u)).setFld (Reg.ctlUnitInfoProbationS u) 0
  let n := s.fld (Reg.ctlUnitInfoFails u)
  let s := (s.setFld (unitFld u) (if 3 ≤ n then 6 else 3)).setCu u { s.cu u with copying := false, swapped := false }
  let s := if s.standby.isNone then s.setFld Reg.ctlJournalDepth 0 else s
  let s := s.ev 0x0102 u u cause n
  if 3 ≤ n then s.ev 0x0105 u u n 0 else s

/-- Both token cells name a unit, with fresh leases (R404). -/
def State.giveToken (s : State) (u : Nat) : State :=
  { s.setFld Reg.ctlStatusActive u with ctl := { s.ctl with token := [some u, some u], leases := [s.clk, s.clk] } }

/-- SWITCHING and HELD clear. -/
def State.released (s : State) : State :=
  (s.setFlag Reg.ctlStatusSwitching false).each (List.range 4) fun t p => t.setFlag (Reg.fsqPartStatusHeld p) false

/-- A switchover ends (R411): transfer, catch-up and resume.  The outgoing unit fails with an event cause, enters its test, or
becomes STANDBY. -/
def State.endSwitch (s : State) (h : Hold) : State :=
  let u := h.unit
  let out := 1 - u
  let s := ((s.released).setFld (unitFld u) 1).giveToken u
  let s := s.setFld (Reg.ctlUnitInfoLastCause out) h.cause
  let s := { s.setCu u { s.cu u with copying := false, swapped := false } with
             ctl := { s.ctl with gained := h.cause, switched := s.opTime, swapWait := none, hold := none } }
  let s := ((s.setFld Reg.ctlLastSwitchCause h.cause).setFld Reg.ctlLastSwitchToUnit u).setFld Reg.ctlLastSwitchDurationNs h.ns
  let s := (((s.setFld (Reg.ctlUnitInfoProbationS u) 0).setFld Reg.ctlJournalDepth 0).bump Reg.ctlSwitchoversCount).setFlag
    Reg.ctlStatusLeaseLate false
  let s := s.ev 0x0101 u h.cause u h.ns
  if h.cause = 2 then s.setFld (unitFld out) 2
  else if h.cause = 1 ∨ h.cause = 6 then
    (s.setFld (unitFld out) 4).setCu out { s.cu out with copying := false, swapped := true }
  else s.failUnit out h.failCause

/-- The switchover under way ends before the next input is granted (R401, R411). -/
def State.resume (s : State) : State :=
  match s.ctl.hold with
  | some h => s.endSwitch h
  | none => s

/-! ### The control units' outputs (R401, R402) -/

/-- Is the module not OFF (R5)? -/
def State.on (s : State) : Bool := s.phase != .off

/-- Does a control unit run, third row of R367 apart? -/
def State.led (s : State) : Bool := ! s.flag Reg.rstStatusNoControlUnit

/-- Is the module not OFF, with a control unit, and no switchover under way? -/
def State.powered (s : State) : Bool := s.on && s.led && s.ctl.hold.isNone

/-- Outputs beside the registers, each known by a number above every offset (log entry 32, DESIGN CHOICE): command issue to
the sequencers of a partition, to a DMA channel, to the carry engines and to the bank engines (R402). -/
def issueOutputs (s t : State) : List Nat :=
  ((List.range 4).filter fun p => tfind s.parts p != tfind t.parts p).map (2 ^ 21 + ·)
    ++ ((List.range 128).filter fun ch => tfind s.dmaRun ch != tfind t.dmaRun ch).map (2 ^ 21 + 16 + ·)
    ++ (if s.groups = t.groups then [] else [2 ^ 21 + 256]) ++ (if s.bank = t.bank then [] else [2 ^ 21 + 257])

/-- The outputs whose value differs between two states: registers by their offset, and the command issues. -/
def drivenOutputs (s t : State) : List Nat :=
  ((t.regs.filter fun (e : Nat × Word) => s.reg e.1 != e.2).map (·.1))
    ++ ((s.regs.filter fun (e : Nat × Word) => t.reg e.1 == regReset e.1).map (·.1)) ++ issueOutputs s t

/-- Both token cells name one unit (R404). -/
def State.named (s : State) : Bool := s.ctl.token == [some 0, some 0] || s.ctl.token == [some 1, some 1]

/-- A latch takes a new value, with the next 32-bit output sequence number (R402). -/
def State.latchOne (s : State) (o : Nat) : State :=
  { s with latches := tput s.latches o s.outSeq, outSeq := (s.outSeq + 1) % 2 ^ 32 }

/-- The latches of the outputs that have changed since a state take their values, while the cells name a unit (R402). -/
def State.latch (old s : State) : State :=
  if s.named then s.each (drivenOutputs old s) State.latchOne else s

/-- A switchover whose duration has passed ends (R411). -/
def State.settle (s : State) : State :=
  match s.ctl.hold with
  | some h => if h.since + h.ns * 235 / 1000 ≤ s.clk then State.latch s (s.endSwitch h) else s
  | none => s

/-- The effect of a command: in OFF nothing takes one (R5, R8; log entry 2, DESIGN CHOICE). -/
def State.does (s : State) (f : State → State) : Host.Outcome State Fault Refusal := .next (if s.on then f s else s)

/-- The effect of an input of the arbiter (R413): as `State.does`, with the grant counted and the outputs latched.  During a
switchover it waits for its end (R29, R411).  While no control unit runs, the input waits in its queue and every latch holds (R401,
R402; log entry 32, DESIGN CHOICE). -/
def State.granted (s : State) (f : State → State) : Host.Outcome State Fault Refusal :=
  s.does fun s => if s.led then State.latch s (f s.resume.arbGrant) else s

/-- The effect of a command of RST_CMD, which stays open while no control unit runs (R363, R367). -/
def State.commanded (s : State) (f : State → State) : Host.Outcome State Fault Refusal :=
  s.does fun s => if s.led then State.latch s (f s.resume.arbGrant) else f s

end Sys2Proof.Machine
end

