-- ==== Sys2Proof/Machine/MemOps.lean ====
section
/-! DEFINITION. Main memory: the address map and its rights (R165 to R170), the channel of an address (R162, R171), the requests
of the serving controller (R169, R175, R176, R180), and what an uncorrectable error does. -/

namespace Sys2Proof.Machine

/-- Bytes of main memory (R165). -/
def memTop : Nat := 1440000000000

/-- One region, 1 GiB. -/
def regionSize : Nat := 2 ^ 30

/-- The region of a local address (R165). -/
def regionOf (a : Nat) : Nat := a / regionSize

/-- Start of the SRAM test window (R170). -/
def sramBase : Nat := 0xE00000000000

/-- Requesters of a memory request, for R165 and R167. -/
abbrev Who := Agent

/-- The bank and rebuild machinery, and an unbound DMA channel, which carries its rights (R190). -/
def banking : Who → Bool
  | .bank => true
  | .channel => true
  | _ => false

/-- The module's own machinery: that of banks, and the firmware. -/
def machinery (w : Who) : Bool := banking w || w == .module

/-- May this requester read (or write) region r (R165, R167)?  Region 0 below 256 MiB is the reset snapshot area. -/
def State.rights (s : State) (w : Who) (write : Bool) (a : Nat) : Bool :=
  let r := regionOf a
  if a < 2 ^ 28 then
    match w with
    | .hostAny _ => ! write
    | w => machinery w
  else if r = 0 ∨ 1341 ≤ r then machinery w
  else
    match s.fld (Reg.memRegionStateState r) with
    | 1 =>
      (match w with
        | .firing j => s.fld (Reg.memRegionJobJob r) == j
        | .dma j => s.fld (Reg.memRegionJobJob r) == j
        | .host j => j != 0 && s.fld (Reg.memRegionJobJob r) == j
        | w => banking w) && ! s.flag Reg.memStatusShortSeam
    | 3 => banking w && ! s.flag Reg.memStatusShortSeam
    | _ => false

/-! ### Channels -/

/-- Logical channel of a granule and its index within the channel (R171). -/
def State.hashLc (key g : Nat) : Nat × Nat :=
  let i := g / 720
  ((g % 720 + sm4 key i % 2 ^ 32 % 720) % 720, i)

/-- Physical channel of a logical channel (R162). -/
def State.physCh (s : State) (lc : Nat) : Nat :=
  let seam := lc / 15
  16 * seam + if lc % 15 = s.fld (Reg.memSeamSparedFrom seam) then 15 else lc % 15

/-- The granule of a local address (R171). -/
def granule (a : Nat) : Nat := a / 256

/-- The granules that `n` bytes from a touch. -/
def granules (a n : Nat) : List Nat :=
  if n = 0 then [] else (List.range (granule (a + n - 1) - granule a + 1)).map fun i => granule a + i

/-- Flue die of a physical channel (R20). -/
def dieOfCh (ch : Nat) : Nat := ch / 384

/-! ### Errors (R180, R181, R188) -/

/-- Granules of a channel (R171). -/
def channelGranules : Nat := 7812500

/-- The pointer of a seam's copy now: granules already copied (R183), by the clock it began and the clocks it takes
(log entry 9, DESIGN CHOICE). -/
def State.copyPointer (s : State) (seam : Nat) : Nat :=
  match tfind s.copies seam with
  | some (_, began, span) => min channelGranules ((s.clk - began) * channelGranules / max 1 span)
  | none => 0

/-- The physical channel that serves a granule now: its seam's spare below a copy's pointer (R162, R183). -/
def State.chOf (s : State) (g : Nat) : Nat :=
  let (lc, i) := State.hashLc s.hashKey g
  let ch := s.physCh lc
  match tfind s.copies (ch / 16) with
  | some (failing, _, _) => if failing = ch ∧ i < s.copyPointer (ch / 16) then 16 * (ch / 16) + 15 else ch
  | none => ch

/-- Start sparing of a channel, or say that it cannot be (R182, R188).  Cause: 1 CE limit, 2 uncorrectable, 3 command.  How long
the copy takes is open: a free value from 110 ms to 2 s (R183; log entry 9, DESIGN CHOICE). -/
def State.spare (s : State) (ch cause : Nat) : State :=
  let seam := ch / 16
  if ch % 16 = 15 then
    (if s.fld (Reg.memChRole ch) = 2 ∧ cause ≠ 3 then
      (s.setFlag Reg.memEventsSeamExhausted true).ev 0x0405 (dieOfCh ch) seam ch 1 else s)
  else if s.fld (Reg.memChRole ch) ≠ 0 ∨ (tfind s.copies seam).map (·.1) = some ch then s
  else if s.fld (Reg.memSeamSparedFrom seam) ≠ 15 ∨ s.flag (Reg.memSeamCopying seam) then
    (s.setFlag Reg.memEventsSeamExhausted true).ev 0x0405 (dieOfCh ch) seam ch 1
  else if s.flag (Reg.memSeamSpareBad seam) then
    (s.setFlag Reg.memEventsSeamExhausted true).ev 0x0405 (dieOfCh ch) seam ch 2
  else
    let span := 25850000 + Config.freeValue s.free % 444150001
    let s := { s.fresh with copies := tput s.copies seam (ch, s.clk, span) }
    let s := (s.setFlag (Reg.memSeamCopying seam) true).setFld (Reg.memSeamPointer seam) 0
    (s.setFlag Reg.memStatusCopying true).ev 0x0403 (dieOfCh ch) ch cause (16 * seam + 15)

/-- Count an uncorrectable error at a granule, by its source code (R181, R182, R188): MEM_UNCORRECTABLE, the channel's UE, the
event, and the start of sparing. -/
def State.countUe (s : State) (g source : Nat) : State :=
  let ch := s.chOf g
  let a := g * 256
  let s := ((s.bump Reg.memUncorrectableCount).bump (Reg.memChUe ch)).setFlag Reg.memEventsUncorrectable true
  (s.ev 0x0402 (dieOfCh ch) ch (bits a 39 8) (source * 2 ^ 24 + bits a 47 40)).spare ch 2

/-- Count a corrected error: granule and symbol (R181, R182, R187, R188). -/
def State.countCe (s : State) (g symbol : Nat) : State :=
  let ch := s.chOf g
  let s := (s.addPair Reg.memCorrectedLoOff 1).bump (Reg.memChCe ch)
  ({ s with ceHour := tput s.ceHour ch (tget s.ceHour 0 ch + 1) }).ev 0x0401 (dieOfCh ch) ch (g / 720) symbol

/-- Is a granule uncorrectable (R180)? -/
def State.isBad (s : State) (g : Nat) : Bool := s.badGranules.contains g

/-- The uncorrectable granules that a read of `n` bytes from a meets. -/
def State.badIn (s : State) (a n : Nat) : List Nat := (granules a n).filter s.isBad

/-- The check of a read of granules (R179 to R181): a symbol in error is corrected and counted on every read, and stays until the
granule is written or scrubbed. -/
def State.corrects (s : State) (gs : List Nat) : State :=
  s.each (s.faint.filter fun x => gs.contains x.1 && ! s.isBad x.1) fun t x => t.countCe x.1 x.2

/-- Demand bursts, four to a granule, counted by logical channel (R171, R174). -/
def State.burst (s : State) (gs : List Nat) : State :=
  { s with bursts := gs.foldl (fun t g => let lc := (State.hashLc s.hashKey g).1; tput t lc (tget t 0 lc + 4)) s.bursts }

/-- Key slot under which a granule is stored (R186): that of its region, 4 for region 0 and the tail, 5 in the parity area. -/
def State.keySlot (s : State) (g : Nat) : Nat :=
  let r := regionOf (256 * g)
  if r = 0 ∨ 1341 ≤ r then 4
  else if s.fld (Reg.memRegionStateState r) = 3 then 5
  else s.fld (Reg.memRegionStateKeySlot r)

/-- What the devices hold of a granule: its bytes under SM4-XTS (R186).  `Memory` holds plaintext, which is what every requester
reads and writes; only the encoding of a key as two halves is the model's (log entry 6, DESIGN CHOICE). -/
def State.deviceBytes (s : State) (g : Nat) : List Byte :=
  sm4Xts (s.memKeys.getD (s.keySlot g) 0) g (s.mem.read (256 * g) 256)

/-- Is the granule wholly covered by `n` bytes from a? -/
def covered (a n g : Nat) : Bool := a ≤ g * 256 && g * 256 + 256 ≤ a + n

/-! ### Form of a request (R169) -/

/-- R169's form check of a read or write: LENGTH above 4,096 bytes, else ALIGN. -/
def formOf (a n : Nat) : Status :=
  if n > 4096 then .length
  else if n = 0 ∨ n % 64 ≠ 0 ∨ a % 64 ≠ 0 ∨ a / 4096 ≠ (a + n - 1) / 4096 then .align
  else .ok

/-- Is a local address in main memory mapped? -/
def mapped (a : Nat) : Bool := a < memTop

/-- Is a local address in the SRAM window, and mapped there (R170)? Its kiln die. -/
def sramDie (a : Nat) : Option Nat :=
  if a < sramBase ∨ sramBase + 2 ^ 36 ≤ a then none
  else
    let x := a - sramBase
    let k := x / 2 ^ 34
    let y := x % 2 ^ 34
    if y < 2 ^ 33 then (if y / 2 ^ 25 < 162 ∧ y % 2 ^ 25 < 18 * 2 ^ 20 then some k else none)
    else
      let z := y - 2 ^ 33
      if z / 2 ^ 24 < 9 ∧ z % 2 ^ 24 < 12 * 2 ^ 20 then some k else none

/-- May the SRAM window be reached now, for a kiln die (R170)? -/
def State.sramOpen (s : State) (k : Nat) : Bool :=
  match s.modState with
  | .start => true
  | .test => true
  | .recovery => s.flag (Reg.kilStatusResetting k)
  | _ => false

/-- Number of the store that holds an SRAM window address: 171 × die + core, or + 162 + cluster (R170). -/
def storeIndex (a : Nat) : Nat :=
  let y := (a - sramBase) % 2 ^ 34
  171 * ((a - sramBase) / 2 ^ 34) + if y < 2 ^ 33 then y / 2 ^ 25 else 162 + (y - 2 ^ 33) / 2 ^ 24

/-- A byte of the SRAM window (log entry 5, DESIGN CHOICE). -/
def State.sramAt (s : State) (a : Nat) : Byte := tget s.sram (Config.sramByte (tget s.sramResets 0 (storeIndex a)) a) a

/-- Read bytes of the SRAM window. -/
def State.sramRead (s : State) : Nat → Nat → List Byte
  | _, 0 => []
  | a, n + 1 => s.sramAt a :: State.sramRead s (a + 1) n

/-- Write bytes of the SRAM window. -/
def sramWrite (m : Tbl Byte) : Nat → List Byte → Tbl Byte
  | _, [] => m
  | a, b :: bs => sramWrite (tput m a b) (a + 1) bs

/-! ### Serving a request (R165, R167, R169, R170, R175, R180) -/

/-- The reply of a memory request. -/
structure MemReply where
  /-- status -/
  status : Status
  /-- flags -/
  flags : Flags := {}
  /-- data read, old value -/
  data : List Byte := []
  deriving DecidableEq, Repr

/-! ### Protected memory of a rick (R320, R324, R327, R329, R342) -/

/-- A rick is formed on this module: STATE is not NONE (R347). -/
def State.rickOn (s : State) : Bool := s.fld Reg.bnkStatusState != 0

/-- The unit of the protected run that holds a local address (R323). -/
def State.unitAt (s : State) (a : Nat) : Option Nat :=
  let b := s.fld Reg.bnkProtectedBase * regionSize
  if s.rickOn && b ≤ a && a < b + s.fld Reg.bnkProtectedCount * regionSize then some ((a - b) / 4096) else none

/-- Local address of a unit (R323). -/
def State.unitAddr (s : State) (u : Nat) : Nat := s.fld Reg.bnkProtectedBase * regionSize + 4096 * u

/-- Does a local address lie in the closed log run (R320)? -/
def State.inLog (s : State) (a : Nat) : Bool :=
  let b := s.fld Reg.bnkLogBase * regionSize
  s.rickOn && b ≤ a && a < b + s.fld Reg.bnkLogCount * regionSize

/-- Do `n` bytes from local address a lie in regions the requester may reach (R107, R144, R167), none of them in the closed log
run (R320)? -/
def State.spanOk (s : State) (w : Who) (a n : Nat) : Bool :=
  n = 0 || (a + n ≤ memTop && (List.range (regionOf (a + n - 1) - regionOf a + 1)).all fun i =>
    let x := max a ((regionOf a + i) * regionSize)
    s.rights w true x && (banking w || ! s.inLog x))

/-- Entries that the log run holds: one per 4,096 bytes of it (log entry 19, DEDUCED). -/
def State.logRoom (s : State) : Nat := s.fld Reg.bnkLogCount * (regionSize / 4096)

/-- Bring the log registers in line with the log (R347). -/
def State.logSync (s : State) : State :=
  let n := s.bank.log.length
  let s := (s.setFld Reg.bnkLogUsedEntries n).setFld Reg.bnkDirtyUnits s.bank.dirty.length
  if s.fld Reg.bnkLogHwmEntries < n then s.setFld Reg.bnkLogHwmEntries n else s

/-- Source of BNK events (R348): the home flue die of the job's bank engine (log entry 19, DEDUCED). -/
def State.bankDie (s : State) : Nat := Config.bankHome (s.fld Reg.bnkJobJob) % 2

/-- Log the 4,096 bytes at a local address for the next bank, or overflow (R324, R325, R327): a rick that is formed, and neither
FAILED, rolling back nor being rebuilt, becomes STALE (log entry 19, DEDUCED). -/
def State.logCopy (s : State) (a : Nat) (inFold : Bool) : State :=
  if s.bank.log.length < s.logRoom then
    let e : LogEntry := ⟨s.fld Reg.bnkBankSeqSeq + 1, a, s.mem.read a 4096, ! (s.badIn a 4096).isEmpty⟩
    ({ s with bank := { s.bank with log := s.bank.log ++ [e] } }).logSync
  else
    let s := if [2, 3, 4].contains (s.fld Reg.bnkStatusState) then s.setFld Reg.bnkStatusState 5 else s
    let s := { s.setFlag Reg.bnkStatusFullNext true with bank := { s.bank with stale := true } }
    (s.setFlag Reg.bnkEventsStale true).ev 0x0906 s.bankDie (s.fld Reg.bnkJobJob) s.bank.log.length (b2n inFold)

/-- The first write to a clean unit logs it and marks it dirty (R324); the bank machinery's writes and those of a spare being
rebuilt are not logged (R340, R342). -/
def State.logFirst (s : State) (w : Who) (a n : Nat) : State :=
  if machinery w || s.fld Reg.bnkStatusState == 8 || n = 0 then s
  else
    match s.unitAt a with
    | none => s
    | some u =>
      if s.bank.dirty.contains u then s
      else
        let s := s.logCopy (s.unitAddr u) false
        ({ s with bank := { s.bank with dirty := s.bank.dirty ++ [u] } }).logSync

/-- Rights and mapping of a well-formed request; SRAM window requests of DMA channels of this module; the log run and the
protected run of a rick while they are closed (R165, R167, R170, R320, R329). -/
def State.reach (s : State) (w : Who) (write : Bool) (a : Nat) : Status :=
  if mapped a then
    if ¬ s.rights w write a then .access
    else if s.inLog a && ! banking w then .access
    else if (s.unitAt a).isSome && s.bank.closed && ! banking w then .state
    else .ok
  else
    match sramDie a, w with
    | some k, .dma _ => if s.sramOpen k then .ok else .state
    | some k, .channel => if s.sramOpen k then .ok else .state
    | _, _ => .access

/-- Bytes at a local address of main memory or of the SRAM window. -/
def State.bytes (s : State) (a n : Nat) : List Byte := if a < sramBase then s.mem.read a n else s.sramRead a n

/-- Read bytes with no check of rights (R179, R180), for a source of event 0x0402 (R188): status, and the bytes when it is OK. -/
def State.readAs (s : State) (source a n : Nat) : State × Status × List Byte :=
  if sramBase ≤ a then (s, .ok, s.bytes a n)
  else
    let gs := granules a n
    let bad := s.badIn a n
    let t := (s.burst gs).corrects gs
    if bad.isEmpty then (t, .ok, s.bytes a n) else (t.each bad fun u g => u.countUe g source, .memUncorrectable, [])

/-- A read of a demand request. -/
def State.readBytes (s : State) (a n : Nat) : State × Status × List Byte := s.readAs 1 a n

/-- Store bytes at a local address. -/
def State.store (s : State) (a : Nat) (bs : List Byte) : State :=
  if a < sramBase then { s with mem := s.mem.write a bs } else { s with sram := sramWrite s.sram a bs }

/-- Write bytes with no check of rights: granule by granule, a partial write of an uncorrectable granule failing and leaving
it, a whole write healing it (R180); what is written has new check symbols (R179).  The status is MEM_UNCORRECTABLE when a granule failed. -/
def State.writeBytes (s : State) (a : Nat) (bs : List Byte) : State × Status :=
  let n := bs.length
  let gs := if a < sramBase then granules a n else []
  let bad := s.badIn a n
  let failing := bad.filter fun g => ! covered a n g
  let s := (s.burst gs).corrects (gs.filter fun g => ! covered a n g)
  let s1 := { s with badGranules := s.badGranules.filter (fun g => ! (covered a n g))
                     faint := s.faint.filter fun x => ! gs.contains x.1 || failing.contains x.1 }
  let s2 :=
    if failing.isEmpty then s1.store a bs
    else s1.each (granules a n) fun t g =>
      if failing.contains g then t
      else
        let lo := max a (g * 256)
        let hi := min (a + n) (g * 256 + 256)
        t.store lo ((bs.drop (lo - a)).take (hi - lo))
  (s2.each failing fun t g => t.countUe g 1, if failing.isEmpty then .ok else .memUncorrectable)

/-- A granule is read, changed and written anew (R179, R180). -/
def State.rewrites (s : State) (g : Nat) : State :=
  let t := (s.burst [g]).corrects [g]
  if s.isBad g then t else { t with faint := t.faint.filter fun x => x.1 != g }

/-- A masked write of one block (R169): selected bytes change; a partial write under R180. -/
def State.writeMask (s : State) (a : Nat) (bs : List Byte) (mask : Nat) : State × Status :=
  let t := s.rewrites (granule a)
  if s.isBad (granule a) then (t.countUe (granule a) 1, .memUncorrectable)
  else ({ t with mem := s.mem.writeMasked a bs mask }, .ok)

/-- Sizes an atomic operation allows (R175). -/
def atomicSizes : Nat → List Nat
  | 0 | 1 | 2 => [4, 8]
  | 3 | 4 | 5 | 6 | 7 | 8 | 9 => [8]
  | 10 => [16]
  | _ => []

/-- The new value and flags of an atomic operation on an old value (R175). -/
def atomicResult (op size old : Nat) (operands : List Byte) : Nat × Flags :=
  let x := field operands 0 size
  let m := 2 ^ (8 * size)
  match op with
  | 0 => ((old + x) % m, {})
  | 1 => (x, {})
  | 2 => (if old = x then field operands size size else old, {})
  | 3 => (Nat.land old x, {})
  | 4 => (Nat.lor old x, {})
  | 5 => (Nat.xor old x, {})
  | 6 => (if sext (8 * size) old < sext (8 * size) x then x else old, {})
  | 7 => (if sext (8 * size) x < sext (8 * size) old then x else old, {})
  | 8 => (max old x, {})
  | 9 => (min old x, {})
  | _ =>
    let r := tallyAdd (tallyOf old) (tallyOf x)
    (tallyCode r.1, { tally := r.2, special := r.1.isNone })

/-- Serve a memory request at a local address (R165 to R180): form first, then mapping and rights, then the access. -/
def State.serve (s : State) (w : Who) (a : Nat) (m : MemOp) : State × MemReply :=
  match m with
  | .read n =>
    match formOf a n with
    | .ok =>
      (match s.reach w false a with
        | .ok =>
          let t := s.readBytes a n
          (t.1, ⟨t.2.1, {}, t.2.2⟩)
        | st => (s, ⟨st, {}, []⟩))
    | st => (s, ⟨st, {}, []⟩)
  | .write bs =>
    match formOf a bs.length with
    | .ok =>
      (match s.reach w true a with
        | .ok => let r := (s.logFirst w a bs.length).writeBytes a bs; (r.1, ⟨r.2, {}, []⟩)
        | st => (s, ⟨st, {}, []⟩))
    | st => (s, ⟨st, {}, []⟩)
  | .masked bs mask =>
    if a % 64 ≠ 0 ∨ bs.length ≠ 64 ∨ mask % 2 ^ 64 = 0 then (s, ⟨.align, {}, []⟩)
    else if mapped a then
      (match s.reach w true a with
        | .ok => let r := (s.logFirst w a 64).writeMask a bs mask; (r.1, ⟨r.2, {}, []⟩)
        | st => (s, ⟨st, {}, []⟩))
    else (s, ⟨.access, {}, []⟩)
  | .record bs =>
    if a % 32 ≠ 0 ∨ bs.length ≠ 32 then (s, ⟨.align, {}, []⟩)
    else if mapped a then
      (match s.reach w true a with
        | .ok => let r := (s.logFirst w a bs.length).writeBytes a bs; (r.1, ⟨r.2, {}, []⟩)
        | st => (s, ⟨st, {}, []⟩))
    else (s, ⟨.access, {}, []⟩)
  | .atomic op size operands =>
    if ¬ (atomicSizes op).contains size then (s, ⟨.shape, {}, []⟩)
    else if a % size ≠ 0 then (s, ⟨.align, {}, []⟩)
    else if mapped a then
      (match s.reach w true a with
        | .ok =>
          let s := s.logFirst w a size
          let t := s.rewrites (granule a)
          if s.isBad (granule a) then (t.countUe (granule a) 1, ⟨.memUncorrectable, {}, []⟩)
          else
            let old := leNat (s.mem.read a size)
            let (v, f) := atomicResult op size old operands
            ({ t with mem := s.mem.write a (natLe size v) }, ⟨.ok, f, natLe 32 old⟩)
        | st => (s, ⟨st, {}, []⟩))
    else (s, ⟨.access, {}, []⟩)

/-- Add a tally word to the T128 word at a local address, by the TADD of R175; the addend of a scatter is exact (R116). -/
def State.tadd (s : State) (w : Who) (a : Nat) (v : Tally) : State × Status × Flags :=
  match s.reach w true a with
  | .ok =>
    let s := s.logFirst w a 16
    let t := s.rewrites (granule a)
    if s.isBad (granule a) then (t.countUe (granule a) 1, .memUncorrectable, {})
    else
      let r := tallyAdd (tallyOf (leNat (s.mem.read a 16))) v
      ({ t with mem := s.mem.write a (natLe 16 (tallyCode r.1)) }, .ok, { tally := r.2, special := r.1.isNone })
  | st => (s, st, {})

/-- The pieces of `n` bytes from a that meet R169. -/
def pieces : Nat → Nat → Nat → List (Nat × Nat)
  | 0, _, _ => []
  | fuel + 1, a, n =>
    if n = 0 then []
    else let k := min n (4096 - a % 4096); (a, k) :: pieces fuel (a + k) (n - k)

/-- Check rights over every piece of `n` bytes from a: the first failing status. -/
def State.reachAll (s : State) (w : Who) (write : Bool) (a n : Nat) : Status :=
  match (pieces (n / 4096 + 2) a n).find? fun p => s.reach w write p.1 ≠ .ok with
  | some p => s.reach w write p.1
  | none => .ok

/-- Read `n` bytes from a by requests of R169: status, and the bytes when it is OK (R180). -/
def State.load (s : State) (w : Who) (a n : Nat) : State × Status × List Byte :=
  match s.reachAll w false a n with
  | .ok =>
    s.readBytes a n
  | st => (s, st, [])

/-- Write bytes from a by requests of R169, masked where a block is written in part (R110, R169): the first failing status. -/
def State.save (s : State) (w : Who) (a : Nat) (bs : List Byte) : State × Status :=
  (pieces (bs.length / 4096 + 2) a bs.length).foldl (fun (t, st) p =>
    match t.reach w true p.1 with
    | .ok =>
      let r := (t.logFirst w p.1 p.2).writeBytes p.1 ((bs.drop (p.1 - a)).take p.2)
      (r.1, if st = .ok then r.2 else st)
    | e => (t, if st = .ok then e else st)) (s, .ok)

end Sys2Proof.Machine
end

