-- ==== Sys2Proof/Machine/Cores.lean ====
section
/-! DEFINITION. What the cores and clusters of the kiln dies hold (R70 to R73, R78, R80, R87): beads, tally files, staging, vector
registers, the core sequencers' lists, and the stores that a firing fills (log entry 38, DESIGN CHOICE). -/

namespace Sys2Proof.Machine

/-- What a physical core holds beside its store. -/
def State.core (s : State) (k p : Nat) : CoreParts := tget s.coreParts {} (162 * k + p)

/-- Set it. -/
def State.setCore (s : State) (k p : Nat) (x : CoreParts) : State := { s with coreParts := tset s.coreParts {} (162 * k + p) x }

/-- The physical core that a logical core of a partition is mapped to, by die and number; none for a hole (R97). -/
def State.physOf (s : State) (p n : Nat) : Option (Nat × Nat) :=
  match (s.dies p)[n / 128]? with
  | some k => if s.flag (Reg.kilCoreMapHole k (n % 128)) then none else some (k, s.fld (Reg.kilCoreMapPhys k (n % 128)))
  | none => none

/-! ### Stores -/

/-- The contents of stores become undefined (R80; log entry 5, DESIGN CHOICE). -/
def State.storesLost (s : State) (is : List Nat) : State :=
  { s with sram := s.sram.filter fun x => ! is.contains (storeIndex x.1)
           sramResets := is.foldl (fun t i => tput t i (tget t 0 i + 1)) s.sramResets }

/-- A multicast (R78): a cluster store sends data over its bus into the core stores of a destination mask, its own cores and the
lodgers served through it.  Where a firing's data lies in the stores is nowhere given, so what they then hold is open. -/
def State.multicast (s : State) (k cluster : Nat) (mask : List Nat) : State :=
  s.storesLost ((171 * k + 162 + cluster) :: mask.map (171 * k + ·))

/-- The shared operands of a unit reach its core (R78, R87): over its home cluster's bus, for a lodger through the cluster where it
sits. -/
def State.feed (s : State) (p n : Nat) : State :=
  match s.physOf p n with
  | some (k, q) =>
    let home := bits (s.fld (Reg.kilClusterMapClusters k)) (4 * (n % 128 / 16) + 3) (4 * (n % 128 / 16))
    let s := if s.flag (Reg.kilCoreMapLodger k (n % 128)) then s.multicast k home [] else s
    s.multicast k (q / 18) [q]
  | none => s

/-! ### Core sequencers (R106, R112) -/

/-- Every core sequencer of a partition has its list of units. -/
def State.dealOut (s : State) (p : Nat) (owners : List Nat) (done : List Nat) : State :=
  let mine := fun n => (owners.zipIdx.filter fun x => x.1 == n && ! done.contains x.2).map (·.2)
  let put := fun (t : Tbl CoreParts) n => match s.physOf p n with
    | some (k, q) => tset t {} (162 * k + q) { tget t {} (162 * k + q) with units := mine n }
    | none => t
  { s with coreParts := (s.live p).foldl put s.coreParts }

/-! ### Beads and tally files (R70 to R72, R76) -/

/-- The physical column that serves an active column under a column map (R72). -/
def physColumn (skip0 skip1 a : Nat) : Nat :=
  let pc := if skip0 ≤ a then a + 1 else a
  if skip1 ≤ pc then pc + 1 else pc

/-- The physical column of an active column of an engine. -/
def State.column (s : State) (k p e a : Nat) : Nat :=
  physColumn (s.fld (Reg.kilColMapSkip0 k p e)) (s.fld (Reg.kilColMapSkip1 k p e)) a

/-- What a unit's beads leave in a core: the last sum of each bead in its shadow register with the accumulator cleared, the words of
its block in the half of the tally file that its engine filled, which then switches halves.  Words are given as (engine, row,
active column, last sum, tally word). -/
def State.blockDone (s : State) (k p : Nat) (words : List (Nat × Nat × Nat × Int × Tally)) (x : CoreParts) : CoreParts :=
  let engines := (words.map (·.1)).eraseDups
  { x with
    beads := words.foldl (fun t w => tput t (2112 * w.1 + 66 * w.2.1 + s.column k p w.1 w.2.2.1) (0, BitVec.ofInt 48 w.2.2.2.1)) x.beads
    tally := words.foldl (fun t w =>
      tput t (4096 * w.1 + 2048 * b2n (x.half.getD w.1 false) + 64 * w.2.1 + w.2.2.1) (BitVec.ofNat 128 (tallyCode w.2.2.2.2))) x.tally
    half := engines.foldl (fun h e => lset h e (! x.half.getD e false)) x.half }

/-- A core has run a unit (R106, R129): its list is shorter, its staging, scale buffer and vector registers were loaded, its beads
and tally file hold what a GEMM or convolution unit left. -/
def State.coreRan (s : State) (p n u : Nat) (words : List (Nat × Nat × Nat × Int × Tally)) : State :=
  match s.physOf p n with
  | some (k, q) =>
    let x := s.core k q
    (s.feed p n).setCore k q (s.blockDone k q words { x with units := x.units.erase u, loads := x.loads + 1 })
  | none => s

/-! ### Resets (R80, R349) -/

/-- An engine reset clears its beads, its half of the staging and its tally file. -/
def CoreParts.clearEngine (x : CoreParts) (e : Nat) : CoreParts :=
  { x with beads := x.beads.filter fun b => b.1 / 2112 != e, tally := x.tally.filter fun w => w.1 / 4096 != e
           half := lset x.half e false, loads := x.loads + 1 }

/-- A core reset clears all that the core holds. -/
def CoreParts.cleared (x : CoreParts) : CoreParts := { loads := x.loads + 1 }

/-- Engine, or whole cores, of a kiln die are cleared. -/
def State.clearCores (s : State) (ps : List (Nat × Nat)) (engine : Option Nat) : State :=
  { s with coreParts := ps.foldl (fun t x =>
      let i := 162 * x.1 + x.2
      tset t {} i (match engine with | some e => (tget t {} i).clearEngine e | none => (tget t {} i).cleared)) s.coreParts }

end Sys2Proof.Machine
end

