-- ==== Sys2Proof/Machine/Flags.lean ====
section
/-! DEFINITION. The flags that accompany a status (R11): their 4-bit code, and what two operations flag together. -/

namespace Sys2Proof
namespace Machine

/-- Flags as 4 bits (R11). -/
def flagsCode (f : Flags) : Nat := b2n f.tally + 2 * b2n f.special + 4 * b2n f.degraded + 8 * b2n f.detoured

/-- Flags of 4 bits. -/
def flagsOf (v : Nat) : Flags := ⟨bit v 0, bit v 1, bit v 2, bit v 3⟩

end Machine

/-- Either's flags. -/
def Flags.or (a b : Flags) : Flags :=
  ⟨a.tally || b.tally, a.special || b.special, a.degraded || b.degraded, a.detoured || b.detoured⟩

end Sys2Proof
end

