-- ==== Sys2Proof/Machine/Fabric.lean ====
section
/-! DEFINITION. Packets (R258 to R262), the central store's accounts and queues (R263 to R268), the routing function (R272 to
R274), and the request slots (R276, R277). -/

namespace Sys2Proof
namespace Machine

/-! ### CRC -/

/-- One bit of the CRC-16 of R259 (polynomial 0x1021, not reflected). -/
def crc16Step (c : Nat) (b : Bool) : Nat :=
  let top := bit c 15 != b
  let c := c * 2 % 2 ^ 16
  if top then Nat.xor c 0x1021 else c

/-- CRC-16 over bytes, initial value 0xFFFF, no final complement (R259). -/
def crc16 (bs : List Byte) : Nat :=
  bs.foldl (fun c b => (List.range 8).foldl (fun c i => crc16Step c (bit b.toNat (7 - i))) c) 0xFFFF

/-- One byte of the CRC-32 of R237 (polynomial 0x04C11DB7, reflected). -/
def crc32Byte (c : Nat) (b : Byte) : Nat :=
  (List.range 8).foldl (fun c _ => if c % 2 = 1 then Nat.xor (c / 2) 0xEDB88320 else c / 2) (Nat.xor c b.toNat)

/-- CRC-32 over bytes (R237). -/
def crc32 (bs : List Byte) : Nat := Nat.xor (bs.foldl crc32Byte 0xFFFFFFFF) 0xFFFFFFFF

/-! ### Packets -/

/-- The class an opcode belongs to (R260); none for an opcode that does not occur. -/
def opClass (op : Nat) : Option Nat :=
  if 1 ≤ op ∧ op ≤ 6 then some 0
  else if 0x40 ≤ op ∧ op ≤ 0x43 then some 1
  else if 0x81 ≤ op ∧ op ≤ 0x85 then some 2
  else if 0xC0 ≤ op ∧ op ≤ 0xDF then some 3
  else if 0xE0 ≤ op ∧ op ≤ 0xFF then some 4
  else none

/-- The opcode of the answer a packet draws (R273); none when it draws none. -/
def answerOp (op : Nat) : Option Nat :=
  match op with
  | 1 => some 0x81 | 2 => some 0x82 | 6 => some 0x82 | 3 => some 0x83 | 4 => some 0x84 | 5 => some 0x85
  | 0x42 => some 0x81 | 0x40 => some 0x82 | _ => none

end Machine

open Machine

/-- Bytes 0 to 13 of the routing header (R259). -/
def Packet.header (p : Packet) : List Byte :=
  natLe 2 p.dest ++ natLe 2 p.src ++ natLe 2 p.inter
  ++ natLe 1 (p.cls % 8 + p.level % 4 * 8 + b2n p.phase2 * 32 + b2n p.long * 64 + b2n p.detoured * 128)
  ++ natLe 1 p.length ++ natLe 1 p.opcode ++ natLe 1 p.gen ++ natLe 2 p.tag ++ natLe 1 p.seq ++ natLe 1 (b2n p.degraded)

/-- The HCRC of the header as it stands (R259). -/
def Packet.goodHcrc (p : Packet) : Nat := crc16 p.header

/-- The tail CRC of a long packet (R261): over the header flit with ROUTE, INTER, PATH and HCRC as 0, and the data flits. -/
def Packet.goodTail (p : Packet) : Nat :=
  crc32 (natLe 2 p.dest ++ natLe 2 p.src ++ natLe 2 0 ++ natLe 1 0 ++ natLe 1 p.length ++ natLe 1 p.opcode ++ natLe 1 p.gen
    ++ natLe 2 p.tag ++ natLe 1 p.seq ++ natLe 3 0 ++ slice p.cmd 0 16 ++ slice p.data 0 (32 * p.length))

/-- Does the tail of a long packet agree (R261)? -/
def Packet.tailOk (p : Packet) : Bool := ! p.long || (match p.tailCrc with | none => true | some c => c == p.goodTail)

/-- Flits, and so cells, of a packet (R258). -/
def Packet.cells (p : Packet) : Nat := if p.long then p.length + 2 else 2

/-- The header error of a packet at ingress (R262): 0 none, 1 HCRC, 2 LENGTH above 128, 3 another field. -/
def Packet.headerError (p : Packet) : Nat :=
  if (match p.hcrc with | none => false | some c => c != p.goodHcrc) then 1
  else if p.length > 128 then 2
  else if (p.length ≠ 0) != p.long ∨ p.cls > 4 ∨ p.level > 2 ∨ opClass p.opcode ≠ some p.cls then 3
  else 0

/-- JOB of a request (R260). -/
def Packet.job (p : Packet) : Nat := field p.cmd 0 4
/-- Local address of a request (R260). -/
def Packet.addr (p : Packet) : Nat := field p.cmd 4 8 % 2 ^ 48
/-- ATTR (R260). -/
def Packet.attr (p : Packet) : Nat := field p.cmd 12 4
/-- STATUS of a reply (R260). -/
def Packet.status (p : Packet) : Status := stOf (field p.cmd 0 1)
/-- Flags of a reply: byte 17, and the packet's own DETOURED and DEGRADED (R260). -/
def Packet.flags (p : Packet) : Flags :=
  let f := field p.cmd 1 1
  ⟨bit f 0, bit f 1, bit f 2 || p.degraded, bit f 3 || p.detoured⟩

/-- The rank of a packet (R269). -/
def Packet.rank (p : Packet) : Nat := 3 * b2n p.phase2 + p.level
/-- Virtual channel (R269). -/
def Packet.vc (p : Packet) : Nat := 6 * p.cls + p.rank

namespace Machine

/-- The reply to a request (R260): TAG, SEQ and GEN of the request, and the OR of its DETOURED and DEGRADED bits.  A memory reply
repeats JOB, address and ATTR but for bytes 16 and 17, where R260 puts STATUS and the flags (log entry 13, DESIGN CHOICE). -/
def replyTo (q : Packet) (me op : Nat) (st : Status) (f : Flags) (data : List Byte) : Packet :=
  { dest := q.src, src := me, cls := 2, opcode := op, gen := q.gen, tag := q.tag, seq := q.seq
    detoured := q.detoured, degraded := q.degraded
    long := op = 0x81 && st = .ok
    length := if op = 0x81 ∧ st = .ok then data.length / 32 else 0
    cmd := natLe 1 (stCode st) ++ natLe 1 (flagsCode f)
      ++ if [1, 2, 3, 5, 6].contains q.opcode then slice q.cmd 2 14 else List.replicate 14 0
    data := data }

/-! ### Ports and routing (R211, R271 to R274) -/

/-- A port in state UP (R271). -/
def State.portUp (s : State) (d : Nat) : Bool := s.fld (Reg.lanPortDiscState d) == 2

/-- Flue die of a dimension (R20). -/
def dieOfDim (d : Nat) : Nat := if d < 3 then 0 else if d < 6 then 1 else if d < 11 then 0 else 1

/-- Where the routing function sends a packet. -/
inductive Route where
  | deliver (p : Packet)
  | port (d : Nat) (p : Packet)
  | unreachable (dark : Nat) (p : Packet)
  deriving DecidableEq, Repr

/-- One pass of the routing function from its third line (R272). -/
def State.routeFrom (s : State) : Nat → Nat → Packet → Route
  | 0, _, p => .unreachable 0 p
  | fuel + 1, here, p =>
    let target := if p.phase2 then p.dest else p.inter
    match lowBit 16 (Nat.xor here target) with
    | none => .deliver p
    | some d =>
      if s.portUp d then .port d p
      else
        match (if p.level = 0 then (List.range 16).find? fun e => d < e && s.portUp e else none) with
        | some e => .port e { p with level := 1, detoured := true }
        | none =>
          if p.phase2 then .unreachable d p
          else s.routeFrom fuel here { p with phase2 := true, level := 0, inter := 0 }

/-- The routing function (R272). -/
def State.route (s : State) (p : Packet) : Route :=
  let p := if p.level = 1 then { p with level := 2 } else p
  let p := if ! p.phase2 && s.myId == p.inter then { p with phase2 := true, level := 0, inter := 0 } else p
  s.routeFrom 2 s.myId p

/-! ### The central store (R263 to R268) -/

/-- A store's queue for an output: 0 to 15 the ports, 16 LOC. -/
def State.queue (s : State) (o : Nat) : List Stored := tget s.queues [] o

/-- Set a queue. -/
def State.setQueue (s : State) (o : Nat) (q : List Stored) : State := { s with queues := tset s.queues [] o q }

/-- Class reserves (R265). -/
def reserveOf : Nat → Nat
  | 0 => 262144 | 1 => 262144 | 2 => 524288 | 3 => 131072 | _ => 32768

/-- Cells of the shared pool (R265). -/
def sharedPool : Nat := 2950688

/-- Every packet stored on a flue die. -/
def State.storedOn (s : State) (die : Nat) : List Stored :=
  (s.queues.flatMap fun q => q.2).filter fun x => x.die == die

/-- Sum of a measure over stored packets. -/
def total (f : Stored → Nat) (xs : List Stored) : Nat := (xs.map f).foldl (· + ·) 0

/-- Cells a class holds of its reserve on a die. -/
def State.reserveUsed (s : State) (die cls : Nat) : Nat :=
  total (·.reserve) ((s.storedOn die).filter fun x => x.pkt.cls == cls)

/-- Shared cells in use on a die. -/
def State.sharedUsed (s : State) (die : Nat) : Nat := total (·.shared) (s.storedOn die)

/-- Floor cells a virtual channel of a port holds. -/
def State.floorUsed (s : State) (port vc : Nat) : Nat :=
  total (·.floor) ((s.storedOn (dieOfDim port)).filter fun x => x.via == some port && x.vc == vc)

/-- The cells a packet of n cells takes from reserve, pool and floor (R265): none when it does not fit. -/
def State.account (s : State) (die cls n : Nat) (floor : Nat) : Option (Nat × Nat × Nat) :=
  let r := min n (reserveOf cls - s.reserveUsed die cls)
  let h := min (n - r) (sharedPool - s.sharedUsed die)
  if n - r - h ≤ floor then some (r, h, n - r - h) else none

/-- The cells an injected packet takes (R265): all of them from its class reserve, or all from the pool. -/
def State.accountIn (s : State) (die cls n : Nat) : Option (Nat × Nat × Nat) :=
  if n + s.reserveUsed die cls ≤ reserveOf cls then some (n, 0, 0)
  else if n + s.sharedUsed die ≤ sharedPool then some (0, n, 0)
  else none

/-- Cells of a list of stored packets outside floors. -/
def cappedCells (q : List Stored) : Nat := total (fun x => x.reserve + x.shared) q

/-- Cells outside floors that the queue of an output holds in the store of a die (R263, R267). -/
def State.outCells (s : State) (die o : Nat) : Nat := cappedCells ((s.queue o).filter fun x => x.die == die)

/-- Is an output queue of a die's store capped (R267)? -/
def State.cappedOut (s : State) (die o : Nat) : Bool := 917504 ≤ s.outCells die o

/-- Raise a high-water mark. -/
def State.mark (s : State) (f : Fld) (v : Nat) : State := if s.fld f < v then s.setFld f v else s

/-- Bring the store's registers and the events of R268 in line with the queues. -/
def State.storeSync (s : State) : State :=
  let s := s.each [0, 1] fun s f =>
    let st := s.storedOn f
    let used := total (fun x => x.reserve + x.shared + x.floor) st
    let s := ((s.setFld (Reg.rtrStoreStatusUsed f) used).mark (Reg.rtrStoreHwmUsed f) used).setFld
      (Reg.rtrStoreSharedFreeCells f) (sharedPool - total (·.shared) st)
    let s := s.each (List.range 5) fun s c => s.setFld (Reg.rtrStoreClassUsedCells f c)
      (total (fun x => x.reserve + x.shared) (st.filter fun x => x.pkt.cls == c))
    let on := s.flag (Reg.rtrStoreStatusThrottle f)
    let s := if ! on && used > 1572864 then (s.setFlag (Reg.rtrStoreStatusThrottle f) true).ev 0x0703 f 1 used 0
      else if on && used < 1310720 then (s.setFlag (Reg.rtrStoreStatusThrottle f) false).ev 0x0703 f 0 used 0 else s
    s.setFlag (Reg.rtrStoreStatusCapped f) ((List.range 17).any (s.cappedOut f))
  let s := s.each (List.range 16) fun s d =>
    let c := total (fun x => x.reserve + x.shared + x.floor) (s.queue d)
    (s.setFld (Reg.rtrPortDepthCells d) c).mark (Reg.rtrPortDepthHwmCells d) c
  let loc := total (fun x => x.reserve + x.shared + x.floor) (s.queue 16)
  (s.setFld Reg.rtrLocalDepthCells loc).mark Reg.rtrLocalDepthHwmCells loc

/-- Put a packet in the queue of an output; event 0x0704 when that caps it (R267). -/
def State.enqueue (s : State) (o die : Nat) (via : Option Nat) (vc : Nat) (p : Packet) (acc : Nat × Nat × Nat) : State :=
  let t := (s.setQueue o (s.queue o ++ [⟨p, via, vc, die, acc.1, acc.2.1, acc.2.2⟩])).storeSync
  if t.cappedOut die o && ! s.cappedOut die o then t.ev 0x0704 die o (t.outCells die o) 0 else t

/-- Credit entry of a virtual channel of a port. -/
def State.credit (s : State) (port vc : Nat) : Credit := tget s.credits {} (30 * port + vc)

/-- Set a credit entry. -/
def State.setCredit (s : State) (port vc : Nat) (c : Credit) : State :=
  { s with credits := tset s.credits {} (30 * port + vc) c }

/-- Credit the transmitter holds on a virtual channel (R266): the limit less the cells outstanding (log entry 17, DEDUCED). -/
def Credit.available (c : Credit) : Nat := 130 + c.txWindow - (c.sent + 4096 - c.counted) % 4096

/-- Window cells assigned over a port's channels. -/
def State.windowSum (s : State) (port : Nat) (f : Credit → Nat) : Nat :=
  ((List.range 30).map fun v => f (s.credit port v)).foldl (· + ·) 0

/-! ### Request slots (R276, R277) -/

/-- The slot of a die and number. -/
def State.slotAt (s : State) (die n : Nat) : ReqSlot := tget s.reqSlots {} (8192 * die + n)

/-- Set a slot. -/
def State.setSlot (s : State) (die n : Nat) (x : ReqSlot) : State :=
  { s with reqSlots := tset s.reqSlots {} (8192 * die + n) x }

/-- A slot of a die that is not held, which one being open: the first from a place on, with wrap-around (log entry 14, DESIGN CHOICE). -/
def freeIndex (t : Tbl ReqSlot) (lo start : Nat) : Option Nat :=
  ((List.range (t.length + 1)).map fun k => (start + k) % 8192).find? fun i => ! (tget t {} (lo + i)).busy

/-- A free slot of a die; which one is a free value. -/
def State.freeSlot (s : State) (die : Nat) : Option Nat := freeIndex s.reqSlots (8192 * die) (Config.freeValue s.free)

/-- Flue die whose slot a unit takes for a request: that of the port by which it first leaves (R276). -/
def State.slotDie (s : State) (w : SlotWait) : Nat :=
  match s.route { dest := w.dest, src := s.myId, cls := 0, opcode := 1, phase2 := ! w.twoPhase, inter := w.inter } with
  | .port d _ => dieOfDim d
  | _ => 0

/-- Do two module IDs differ in a far dimension (R212)? -/
def farApart (a b : Nat) : Bool := a / 64 != b / 64

/-- INTER of a two-phase packet (R274): drawn bits where the dimension may be used, own bits elsewhere. -/
def State.drawInter (s : State) : Nat :=
  let me := s.myId
  (List.range 16).foldl (fun acc d =>
    let open_ := ! bit (s.fld Reg.lanPlanIdNone) d && (d < 6 || s.scale)
    acc + b2n (if open_ then bit (Config.freeValue s.free) d else bit me d) * 2 ^ d) 0

/-- Dark ports because of which the routing function sends a packet elsewhere (R272): the one at which phase 1 ends where it stands,
and the one that a detour goes round; `p` is the packet before routing, `q` after. -/
def State.darkPorts (s : State) (p q : Packet) : List Nat :=
  let toward := fun (target : Nat) => (lowBit 16 (Nat.xor s.myId target)).toList
  (if ! p.phase2 && q.phase2 then toward p.inter else [])
    ++ (if q.level = 1 then toward (if q.phase2 then q.dest else q.inter) else [])

/-- Count a packet sent elsewhere at each port that was dark (R280). -/
def State.detour (s : State) (p q : Packet) : State := s.each (s.darkPorts p q) fun t d => t.bump (Reg.rtrPortDetoursCount d)

/-- A place in a store for an injected packet, routed as `q`, or the wait at its endpoint as it was (R265, R267). -/
def State.place (s : State) (o die : Nat) (p q : Packet) : State :=
  match s.accountIn die q.cls q.cells with
  | some acc =>
    if s.cappedOut die o then { s with waiting := s.waiting ++ [(die, p)] }
    else (s.detour p q).enqueue o die none q.vc q acc
  | none => { s with waiting := s.waiting ++ [(die, p)] }

/-- Count and record a packet discarded as unreachable (R273). -/
def State.unreachableEv (s : State) (die dark : Nat) (p : Packet) : State :=
  (s.bump Reg.rtrUnreachableCount).ev 0x0701 die (p.src * 2 ^ 16 + p.dest) (p.cls + b2n p.phase2 * 16 + dark * 256) p.opcode

/-- Route a packet and place it: in the queue of its output, in LOC, or discarded as unreachable with the answer of R273.
`via` is the port it arrived by, with its virtual channel there. -/
def State.forward (s : State) (die : Nat) (p : Packet) : State :=
  match s.route p with
  | .deliver q => s.place 16 die p q
  | .port d q => s.place d die p q
  | .unreachable dark q =>
    let s := s.unreachableEv die dark q
    match answerOp p.opcode with
    | some op =>
      let a := replyTo q s.myId op .unreachable {} []
      if q.src = s.myId then s.place 16 die a a
      else
        (match s.route a with
          | .deliver r => s.place 16 die a r
          | .port d r => s.place d die a r
          | .unreachable dk r => s.unreachableEv die dk r)
    | none => s

/-- Inject a packet of an endpoint on a die. -/
def State.inject (s : State) (die : Nat) (p : Packet) : State := s.forward die p

/-- The generation a unit of partition p's domain puts in GEN (R259, R355). -/
def State.genOf (s : State) (p : Nat) : Nat := s.fld (Reg.fsqPartStatusGeneration p)

/-- The chip generation, which DMA channels and the collective part of the carry engines put in GEN (R259, R349). -/
def State.chipGen (s : State) : Nat := s.fld Reg.rstStatusChipGen

/-- Flue die whose slot and store a request takes: the die of the DMA channel or carry engine that issues it; for a unit of a kiln
die, that of the port by which the request first leaves (R263, R276). -/
def State.ownerDie (s : State) (w : SlotWait) : Nat :=
  match w.owner with
  | .dma n _ _ => n / 64
  | .dmaSignal n _ => n / 64
  | .coll g => s.fld (Reg.carGroupStateHomeDie g)
  | .collSignal g _ => s.fld (Reg.carGroupStateHomeDie g)
  | .collRecord g => s.fld (Reg.carGroupStateHomeDie g)
  | .bank _ _ => s.bankDie
  | _ => s.slotDie w

/-- Take a free slot of its die for a request, and inject it (R273, R274, R276); none while no slot is free. -/
def State.issueNow (s : State) (w : SlotWait) : Option State :=
  let die := s.ownerDie w
  match s.freeSlot die with
  | none => none
  | some n =>
    let seq := ((s.slotAt die n).seq + 1) % 256
    let s := ((s.fresh).setSlot die n ⟨true, w.owner, w.gen, seq, w.dest, w.op⟩).add (Reg.rtrStoreSlotsInUse die) 1
    let s := s.mark (Reg.rtrStoreSlotsHwm die) (s.fld (Reg.rtrStoreSlotsInUse die))
    let p : Packet :=
      { dest := w.dest, src := s.myId, cls := (opClass w.op).getD 0, opcode := w.op, gen := w.gen, tag := n + die * 2 ^ 13
        seq := seq, phase2 := ! w.twoPhase, inter := w.inter, long := w.long, length := if w.long then w.data.length / 32 else 0, cmd := w.cmd, data := w.data }
    some (s.inject die p)

/-- Does a request already wait for a slot of the same die? -/
def State.waitsBefore (s : State) (w : SlotWait) : Bool := s.slotWait.any fun v => s.ownerDie v == s.ownerDie w

/-- May a request be issued to this destination (R273)?  Not to another rack while Scale is not in effect. -/
def State.issuable (s : State) (dest : Nat) : Bool := ! farApart dest s.myId || s.scale

/-- Issue a request to another module, or let it wait for a slot (R276); INTER of a two-phase one is drawn (R274).  The result is LICENCE, and nothing issued, under
R273. -/
def State.issue (s : State) (owner : ReqOwner) (gen dest op : Nat) (twoPhase : Bool) (cmd data : List Byte) (long : Bool) :
    State × Option Status :=
  if ¬ s.issuable dest then (s, some .licence)
  else
    let w : SlotWait := ⟨owner, gen, dest, op, twoPhase, cmd, data, long, if twoPhase then s.drawInter else 0⟩
    let s := if twoPhase then s.fresh else s
    match (if s.waitsBefore w then none else s.issueNow w) with
    | some t => (t, none)
    | none => ({ s with slotWait := s.slotWait ++ [w] }, none)

/-- Requests that wait for a slot are issued in their order while slots are free. -/
def State.retrySlots (s : State) : State :=
  ({ s with slotWait := [] }).each s.slotWait fun t w =>
    match (if t.waitsBefore w then none else t.issueNow w) with
    | some u => u
    | none => { t with slotWait := t.slotWait ++ [w] }

/-- Free a slot and count it; a waiting request takes it (R276, R277). -/
def State.endSlot (s : State) (die n : Nat) : State :=
  ((s.setSlot die n { s.slotAt die n with busy := false, owner := .none }).sub (Reg.rtrStoreSlotsInUse die) 1).retrySlots

/-- Command bytes of a memory request: JOB, local address, ATTR (R260). -/
def memCmd (job addr attr : Nat) : List Byte := natLe 4 job ++ natLe 6 addr ++ natLe 2 0 ++ natLe 4 attr

/-- Find a slot for a reply (R277): its TAG names a held slot whose GEN and SEQ match. -/
def State.matchSlot (s : State) (p : Packet) : Option (Nat × Nat × ReqSlot) :=
  let die := bits p.tag 13 13
  let n := bits p.tag 12 0
  let x := s.slotAt die n
  if n < 8192 ∧ x.busy ∧ x.gen = p.gen ∧ x.seq = p.seq then some (die, n, x) else none

/-- Drop a stale reply (R277). -/
def State.staleReply (s : State) (p : Packet) : State :=
  (s.bump Reg.rtrStaleRepliesCount).ev 0x0705 (bits p.tag 13 13) p.src p.tag (p.gen * 256 + p.seq)

/-- Packets that waited at an endpoint try again, in order. -/
def State.retryWaiting (s : State) : State :=
  ({ s with waiting := [] }).each s.waiting fun s x => s.forward x.1 x.2

end Machine
end Sys2Proof
end

