-- ==== Sys2Proof/Machine/HostOps.lean ====
section
/-! DEFINITION. Sessions and replies (R382, R387 to R394), the rights of a command (R387, R460), the audit chain (R463 to R466),
and the commands in progress (R389 to R391). -/

namespace Sys2Proof.Machine

/-! ### Session entries -/

/-- STATE code of a session entry (R397): 0 FREE, 1 HANDSHAKE, 2 OPEN, 3 DISCONNECTED, 4 CLOSING. -/
def State.sessState (s : State) (i : Nat) : Nat := s.fld (Reg.hstSessionStateState i)

/-- Role code of a session: 0 operator, 1 installer, 2 maker (R397). -/
def State.sessRole (s : State) (i : Nat) : Nat := s.fld (Reg.hstSessionStateRole i)

/-- Job of a session. -/
def State.sessJob (s : State) (i : Nat) : Nat := s.fld (Reg.hstSessionJobJob i)

/-- The rest of a session entry. -/
def State.sess (s : State) (i : Nat) : Session := tget s.sessions {} i

/-- Set the rest of a session entry. -/
def State.setSess (s : State) (i : Nat) (x : Session) : State := { s with sessions := tset s.sessions {} i x }

/-- Session ID: index and epoch (R378). -/
def State.sessId (s : State) (i : Nat) : Nat := i + s.fld (Reg.hstSessionStateEpoch i) * 2 ^ 12

/-- The source flue die of HST events for a session's current network (R398). -/
def State.sessDie (s : State) (i : Nat) : Nat := s.fld (Reg.hstSessionStateNet i)

/-- Does an origin name a session entry in use with its epoch? -/
def State.live? (s : State) (o : Origin) : Bool :=
  o.sess < 4096 && s.sessState o.sess != 0 && s.fld (Reg.hstSessionStateEpoch o.sess) == o.epoch

/-- Count a datagram sent on the current port; the management port has no HST_PORT registers. -/
def State.countTx (s : State) (port : Nat) : State := if port < 8 then s.addPair (Reg.hstPortTxLoOff port) 1 else s

/-- Put one transport packet of a session on its current port, header, body and tag; TXC advances (R383). -/
def State.sendHostNow (s : State) (i type seq : Nat) (body : List Byte) (again : Bool := false) : State :=
  let x := s.sess i
  let port := s.fld (Reg.hstSessionStatePort i)
  let ack := (x.rxSeq + 2 ^ 32 - 1) % 2 ^ 32
  let head := hostHead type (s.sessDie i) again (s.sessId i) seq ack x.txc body.length
  ((s.setSess i { x with txc := x.txc + 1 }).countTx port).send (.host i type seq ack port body (sealHost x.keys.2 head body))

/-! ### Pacing (R202, R395) -/

/-- A session gives back the rate-limiter timer of a flue die that it holds. -/
def State.freeTimer (i : Nat) (s : State) (f : Nat) : State :=
  let x := s.sess i
  if x.timers.getD f false then
    ((s.sub (Reg.dmaTimersHostHeld f) 1).add (Reg.dmaTimersFree f) 1).setSess i { x with timers := lset x.timers f false }
  else s

/-- A session takes a timer of a flue die unless it holds it, or the die's 32 host timers are all held. -/
def State.holdTimer (i f : Nat) (s : State) : State :=
  let x := s.sess i
  if x.timers.getD f false ∨ 32 ≤ s.fld (Reg.dmaTimersHostHeld f) then s
  else ((s.add (Reg.dmaTimersHostHeld f) 1).sub (Reg.dmaTimersFree f) 1).setSess i { x with timers := lset x.timers f true }

/-- Management clocks that a packet takes at a session's RATE [Gb/s]: its IPv6 packet is 96 bytes longer than its body. -/
def paceClocks (rate body : Nat) : Nat := ((body + 96) * 1880 + rate * 1000 - 1) / (rate * 1000)

/-- A paced session sends its oldest waiting packet when it holds a timer of its die and its spacing allows; with none waiting it
holds no timer. -/
def State.pump (s : State) (i : Nat) : State :=
  let die := s.sessDie i
  match (s.sess i).queued with
  | [] => s.each [0, 1] (State.freeTimer i)
  | q :: rest =>
    let s := (s.freeTimer i (1 - die)).holdTimer i die
    let x := s.sess i
    if x.timers.getD die false ∧ x.due ≤ s.clk then
      let s := (s.setSess i { x with queued := rest, due := s.clk + paceClocks x.rate q.body.length }).sendHostNow i q.type
        q.seq q.body q.again
      if rest.isEmpty then s.freeTimer i die else s
    else s

/-- Every session whose packets wait, in ascending order. -/
def State.pumpAll (s : State) : State :=
  s.each ((s.sessions.filter fun (e : Nat × Session) => ! e.2.queued.isEmpty).map (·.1)) State.pump

/-- Send one transport packet of a session: a paced session's waits its turn, once. -/
def State.sendHost (s : State) (i type seq : Nat) (body : List Byte) (again : Bool := false) : State :=
  let x := s.sess i
  if x.rate = 0 then s.sendHostNow i type seq body again
  else if type = 0x11 ∧ x.queued.any (fun (q : HostSend) => q.type == type && q.seq == seq) then s
  else (s.setSess i { x with queued := x.queued ++ [⟨type, seq, body, again⟩] }).pump i

/-- Send an ACK packet carrying the last in-order SEQ (R392). -/
def State.sendAck (s : State) (i : Nat) : State := s.sendHost i 0x12 0 []

/-! ### Commands in progress -/

/-- Commands of a session in progress (R390). -/
def State.progressOf (s : State) (i : Nat) : List Progress := s.inProg.filter fun p => p.o.sess == i

/-- A reply body (R389). -/
def replyBody (op : Nat) (st : Status) (f : Flags) (tag : Nat) (results data : List Byte) : List Byte :=
  natLe 1 op ++ natLe 1 (stCode st) ++ natLe 1 (flagsCode f) ++ natLe 1 0 ++ natLe 4 tag ++ slice results 0 24 ++ data

/-- Send the one REPLY of a command on its session (R389): kept until acknowledged; not sent while DISCONNECTED (R394). -/
def State.reply (s : State) (o : Origin) (op : Nat) (st : Status) (f : Flags) (results data : List Byte) : State :=
  if s.live? o then
    let x := s.sess o.sess
    let body := replyBody op st f o.tag results data
    let s := s.setSess o.sess { x with txSeq := (x.txSeq + 1) % 2 ^ 32, unacked := x.unacked ++ [⟨x.txSeq, body⟩] }
    if s.sessState o.sess = 3 then s else s.sendHost o.sess 0x11 x.txSeq body
  else s

/-- Give a command in progress its result; COMMAND_DONE then sends the reply. -/
def State.finish (s : State) (o : Origin) (st : Status) (f : Flags := {}) (results data : List Byte := []) : State :=
  { s with inProg := s.inProg.map fun p =>
      if p.o = o ∧ p.result.isNone then { p with result := some (st, f, results, data) } else p }

/-- Free a session entry: commands in progress run on, their replies are discarded (R391, R394). -/
def State.freeSess (s : State) (i : Nat) : State :=
  let s := s.each [0, 1] (State.freeTimer i)
  let s := ((s.setFld (Reg.hstSessionStateState i) 0).setFld (Reg.hstSessionStatePaced i) 0).setFld (Reg.hstSessionJobJob i) 0
  let s := s.sub Reg.hstStatusSessions 1
  { s with inProg := s.inProg.filter (fun p => p.o.sess != i), sessions := tdel s.sessions i
           nonces := s.nonces.filter fun (a : HelloAnswer) => a.entry != i }

/-- A CLOSING session frees its entry when every command in progress has completed (R394): event 0x0A02 with cause 1. -/
def State.closeIfDone (s : State) (i : Nat) : State :=
  if s.sessState i = 4 ∧ (s.progressOf i).isEmpty then
    (s.ev 0x0A02 (s.sessDie i) (s.sessId i) 1 0).freeSess i
  else s

/-! ### Rights (R387, R460) -/

/-- Rights of the session rules and role rules over a command, by opcode; `level` is that of RESET_REQUEST, `snap` says that a
MEM_READ lies in the reset snapshot area.  After a failed start only registers are read and written (R428). -/
def State.cmdRights (s : State) (i op level : Nat) (snap : Bool) : Status :=
  let role := s.sessRole i
  let job := s.sessJob i
  if s.startFailed ∧ op ≠ 0x61 ∧ op ≠ 0x63 then .access
  else if op = 0x00 ∨ op = 0x60 ∨ op = 0x61 ∨ op = 0x70 then .ok
  else if op = 0x20 ∧ snap then (if role = 2 then .access else .ok)
  else if op = 0x15 then (if role = 0 ∧ job = 0 then .ok else .access)
  else if op = 0x62 then (if job = 0 ∧ ((role = 0 ∧ level = 4) ∨ role = 1) then .ok else .access)
  else if op = 0x63 then .ok
  else if role = 0 ∧ job ≠ 0 then .ok
  else .access

/-- Take up a host command (R387, R390, R391): refused with LENGTH at 256 in progress, with ACCESS outside its rights, else
performed.  An origin that names no session in use changes nothing (log entry 2, DESIGN CHOICE). -/
def State.hostCmd (s : State) (o : Origin) (op : Nat) (body : State → State) (level : Nat := 4) (snap : Bool := false) : State :=
  if ¬ s.live? o then s
  else if (s.progressOf o.sess).length ≥ 256 then s.reply o op .length {} [] []
  else
    let t := { s with inProg := s.inProg ++ [⟨o, op, none⟩] }
    match s.cmdRights o.sess op level snap with
    | .ok => body t
    | st => t.finish o st

/-- The context a command names, of the session's own job (R387), and not being destroyed. -/
def State.ownCtx (s : State) (o : Origin) (c : Nat) : Option Ctx :=
  match s.ctx c with
  | some x => if x.job = s.sessJob o.sess ∧ x.dying.isNone then some x else none
  | none => none

/-! ### Audit (R463 to R466) -/

/-- Bytes of a 256-bit hash value, first byte most significant. -/
def hashBytes (h : Nat) : List Byte := (natLe 32 h).reverse

/-- The chain head as bytes (R468). -/
def State.auditHead (s : State) : List Byte := (List.range 8).flatMap fun w => natLe 4 (s.fld (Reg.secAuditHeadHead w))

/-- The chain head is the hash of an entry (R464). -/
def State.setHead (s : State) (e : List Byte) : State :=
  let h := hashBytes (sm3 e)
  s.each (List.range 8) fun s w => s.setFld (Reg.secAuditHeadHead w) (field h (4 * w) 4)

/-- Append an audit entry (R464, R466): it chains to the head; the oldest 4,096 go when the cells are full. -/
def State.auditCell (s : State) (action role st key sess : Nat) (params : List Byte) : State :=
  let seq := s.pair Reg.secAuditCountLoOff
  let e := natLe 8 seq ++ natLe 8 (s.opTime + s.fld Reg.glbPowerCyclesCount * 2 ^ 40) ++ natLe 2 action ++ natLe 1 role
    ++ natLe 1 st ++ natLe 2 key ++ natLe 2 sess ++ slice params 0 8 ++ s.auditHead
  let full := s.audit.length ≥ 262144
  let s := { s with audit := (if full then s.audit.drop 4096 else s.audit) ++ [e] }
  let s := if full then
      let s := s.setPair Reg.secAuditAnchorLoOff (s.pair Reg.secAuditAnchorLoOff + 4096)
      s.ev 0x0B07 0 (s.pair Reg.secAuditAnchorLoOff) 0 0
    else s
  (s.setHead e).setPair Reg.secAuditCountLoOff (seq + 1)

/-- Append the audit entry of a privileged action (R463, R465), with event 0x0B01. -/
def State.auditAppend (s : State) (action role st key sess : Nat) (params : List Byte) : State :=
  (s.auditCell action role st key sess params).ev 0x0B01 0 (action + role * 2 ^ 16) (s.pair Reg.secAuditCountLoOff) st

/-- Audit ROLE of a session (R464): 1 maker, 2 installer, 3 operator. -/
def State.auditRole (s : State) (i : Nat) : Nat := 3 - s.sessRole i

/-- Write the audit entry of a session's action before it takes effect (R465): when the write fails read-back in both slots the
action is refused with STATE.  `st` is the status the action returns; the result is that status, or STATE. -/
def State.auditAct (s : State) (i action : Nat) (st : Status) (params : List Byte) : State × Status :=
  if s.auditBad then
    (({ s with auditBad := false }.bump Reg.secAuditFailsCount).ev 0x0B06 0 action (stCode .state) 0, .state)
  else (s.auditAppend action (s.auditRole i) (stCode st) (s.sess i).key i params, st)

end Sys2Proof.Machine
end

