-- ==== Sys2Proof/Machine/Firing.lean ====
section
/-! DEFINITION. What the end of a firing does: completion record, appends, signals, the queue (R102, R123, R127, R131, R132,
R158, R159), and the sync counters' waiters (R390). -/

namespace Sys2Proof.Machine

/-! ### Sync counters -/

/-- SYNC_WAITs on a counter that is now satisfied or has ERROR end (R390). -/
def State.wake (s : State) (n : Nat) : State :=
  let ends := fun w : SyncWait => w.counter == n && (s.syncErr n || waitDone (s.sync n) w.target)
  ({ s with syncWaits := s.syncWaits.filter fun w => ! ends w }).each (s.syncWaits.filter ends) fun t w =>
    t.finish w.o (if s.syncErr n then .aborted else .ok) {} (natLe 4 (s.sync n)) []

/-- Set a counter's value (R121). -/
def State.setSync (s : State) (n v : Nat) : State := (s.setFld (Reg.fsqSyncValueValue n) v).wake n

/-- Set a counter's ERROR bit; its waiters end ABORTED. -/
def State.raiseErr (s : State) (n : Nat) : State := (s.setSyncErr n true).wake n

/-- A signal to a counter of this module by a requester of a job, or of the module itself (R123, R124, R135, R354). -/
def State.signal (s : State) (n inc : Nat) (job : Option Nat) : State × Status :=
  if n ≥ 4096 then (s, .access)
  else
    match job with
    | none => (s.setSync n (s.sync n + inc), .ok)
    | some j =>
      match s.counterOwner n with
      | some (_, x) =>
        if x.job ≠ j then (s, .access)
        else if s.fenced x.p.partition then (s, .fenced)
        else (s.setSync n (s.sync n + inc), .ok)
      | none => (s, .access)

/-! ### Rank tables (R338) -/

/-- The entry of a job's rank table. -/
def State.rankTab (s : State) (job : Nat) : Option (Nat × RankTab) :=
  s.rankTabs.find? fun t => s.fld (Reg.bnkRanktabJobJob t.1) == job

/-- The module ID of a rank under a job's table in force (R108, R338). -/
def State.rankId (s : State) (job r : Nat) : Option Nat :=
  match s.rankTab job with
  | some (_, t) => t.ids[r]?
  | none => none

/-- The generation of a job's table in force, 0 when there is none. -/
def State.rankGen (s : State) (job : Nat) : Nat :=
  match s.rankTab job with
  | some (j, _) => s.fld (Reg.bnkRanktabStateGeneration j)
  | none => 0

/-- The rank of a module in a table. -/
def rankOf (ids : List Nat) (m : Nat) : Option Nat := (List.range ids.length).find? fun r => ids[r]? == some m

/-! ### Sequence slots (R125, R128) -/

/-- A sequence slot. -/
def State.seqSlot (s : State) (n : Nat) : SeqSlot := tget s.slots {} n

/-- Set a sequence slot. -/
def State.setSeqSlot (s : State) (n : Nat) (x : SeqSlot) : State := { s with slots := tset s.slots {} n x }

/-- Range checks of a slot command (R125, R135): SHAPE for page tokens or a misaligned table, LENGTH for pages or tokens. -/
def slotShape (c : SlotCmd) (p : SlotParams) (cur : SeqSlot) : Status :=
  match c with
  | .opens =>
    if ¬ [16, 32, 64, 128, 256].contains p.pageTokens then .shape
    else if p.pages > 65536 then .length
    else if p.table % 64 ≠ 0 then .align
    else if p.tokens > p.pages * p.pageTokens then .length
    else .ok
  | .closes => .ok
  | .truncates => if p.tokens > cur.tokens then .length else .ok
  | .repoints =>
    if p.pages > 65536 then .length
    else if p.table % 64 ≠ 0 then .align
    else if cur.tokens > p.pages * cur.pageTokens then .length
    else .ok

/-- Apply a slot command (R128), and answer it. -/
def State.applySlot (s : State) (o : Origin) (c : SlotCmd) (p : SlotParams) : State :=
  let cur := s.seqSlot p.slot
  match slotShape c p cur with
  | .ok =>
    (match c with
      | .opens => s.setSeqSlot p.slot ⟨some p.ctx, p.pageTokens, p.pages, p.table, p.tokens⟩
      | .closes => s.setSeqSlot p.slot {}
      | .truncates => s.setSeqSlot p.slot { cur with tokens := p.tokens }
      | .repoints => s.setSeqSlot p.slot { cur with pages := p.pages, table := p.table }).finish o .ok
  | st => s.finish o st

/-! ### The end of a firing -/

/-- Stop a queue with a status (R102): event 0x0207. -/
def State.stopQueue (s : State) (p c q : Nat) (st : Status) : State :=
  ((s.setFlag (Reg.fsqCtxQStateStopped c q) true).setFld (Reg.fsqCtxQStateLastStatus c q) (stCode st)).ev 0x0207 p c q (stCode st)

/-- The queue and entry parameter of R134. -/
def Run.qe (r : Run) : Nat := r.queue * 2 ^ 24 + r.entry

/-- Does fault f, granted in the same control clock as g, take its place (R132)?  Commands between two clock commands fall in one
control clock (log entry 14, DESIGN CHOICE). -/
def FireFault.beats (f g : FireFault) : Bool :=
  f.granted == g.granted && (stCode f.status < stCode g.status || (stCode f.status == stCode g.status && f.unit < g.unit))

/-- The run with a fault granted: the first one stays, and of one control clock the lowest status code, then unit (R132). -/
def Run.withFault (r : Run) (f : FireFault) : Run :=
  match r.fault with
  | none => { r with fault := some f }
  | some g => if f.beats g then { r with fault := some f } else r

/-- The module a firing's record names as FAULT_MODULE. -/
def State.faultModule (s : State) (f : Option FireFault) : Nat :=
  match f with
  | some f => f.module.getD s.myId
  | none => s.myId

/-- The 32 bytes of a completion record (R158). -/
def recordBytes (st : Status) (fl : Flags) (replays gen check entry queue part ctx cycles slot mod time : Nat) : List Byte :=
  natLe 4 (stCode st + flagsCode fl * 2 ^ 8 + replays % 8 * 2 ^ 12 + 2 ^ 15 + gen % 256 * 2 ^ 16 + check % 256 * 2 ^ 24)
  ++ natLe 4 (entry % 2 ^ 16 + queue % 4 * 2 ^ 16 + part % 4 * 2 ^ 18 + ctx % 512 * 2 ^ 20)
  ++ natLe 6 (min cycles (2 ^ 48 - 1)) ++ natLe 2 (slot % 8) ++ natLe 4 (mod % 2 ^ 16) ++ natLe 4 0 ++ natLe 8 time

/-- The record of a partition's run. -/
def State.runRecord (s : State) (p : Nat) (r : Run) (st : Status) (cycles : Nat) : List Byte :=
  let f := r.fault
  recordBytes st r.flags r.replays (s.genOf p) ((f.map (·.check)).getD 0) r.entry r.queue p r.ctx cycles
    ((f.map (·.slot)).getD 7) (s.faultModule f) (s.fabricTime % 2 ^ 64)

/-- Count a record written (R160). -/
def State.countRecord (s : State) (p : Nat) : State := s.addPair (Reg.fsqPartFiringsLoOff p) 1

/-- Write the completion record (R131, R140, R159): one 32-byte write here, one COMPLETION packet to another module. -/
def State.writeRecord (s : State) (p job : Nat) (r : Run) (d : Desc) (st : Status) (cycles : Nat) : State :=
  if d.completion = 0 then s
  else
    let rec_ := s.runRecord p r st cycles
    let mod := d.completion / 2 ^ 48
    let loc := d.completion % 2 ^ 48
    if mod = s.myId then
      let t := s.serve (.firing job) loc (.record rec_)
      if t.2.status = .ok then t.1.countRecord p else t.1.ev 0x0209 p r.ctx mod (stCode t.2.status)
    else
      let t := s.issue (.record p r.ctx) (s.genOf p) mod 5 d.twoPhase (memCmd job loc 0) rec_ false
      match t.2 with
      | none => t.1
      | some e => t.1.ev 0x0209 p r.ctx mod (stCode e)

/-- The appends of R127 advance Tokens of the captured slots. -/
def State.appendTokens (s : State) (r : Run) (d : Desc) : State :=
  if d.fam = .attention && bit (d.ex 0x5C 4) 1 then
    s.each r.env.caps fun t cap =>
      let x := t.seqSlot cap.slot
      t.setSeqSlot cap.slot { x with tokens := cap.tokens + d.sh 3 }
  else s

/-- The target module of a signal: rank mode resolves by the job's table (R108, R157). -/
def State.signalTarget (s : State) (job : Nat) (rank : Bool) (target : Nat) : Option Nat :=
  if rank then s.rankId job target else some target

/-- Free the sequencer of a partition: RUNNING and BUSY clear, held slot commands are applied (R128). -/
def State.freeSeq (s : State) (p : Nat) : State :=
  let q := s.part p
  let s := s.setPart p { q with run := none, held := [] }
  let s := (s.setFlag (Reg.fsqPartStatusBusy p) false).setReg (Reg.fsqPartRunningOff p) 0
  s.each q.held fun t h => t.applySlot h.1 h.2.1 h.2.2

/-- The firing's entry is done with: the head moves on, and a status other than OK stops the queue (R102). -/
def State.leave (s : State) (p : Nat) (r : Run) (st : Status) : State :=
  let f := Reg.fsqCtxQHeadHead r.ctx r.queue
  let s := s.setFld f ((s.fld f + 1) % 2 ^ s.fld (Reg.fsqCtxQSizeLog2 r.ctx r.queue))
  let s := if st = .ok then s else s.stopQueue p r.ctx r.queue st
  s.freeSeq p

/-- ERROR in every counter of this module that the signals of a failed firing name (R123); those of other modules are beyond
any packet of R260 (log entry 18, DESIGN CHOICE). -/
def State.signalErrors (s : State) (job : Nat) (sigs : List (Nat × Bool × Nat × Nat)) : State :=
  s.each sigs fun t x => if t.signalTarget job x.2.1 x.2.2.1 = some t.myId then t.raiseErr x.1 else t

/-- The local signals of a firing, in descriptor order (R123). -/
def State.signalsHere (s : State) (p job ctx : Nat) (sigs : List (Nat × Bool × Nat × Nat)) : State :=
  s.each sigs fun t x =>
    if t.signalTarget job x.2.1 x.2.2.1 = some t.myId then
      let u := t.signal x.1 x.2.2.2 (some job)
      if u.2 = .ok then u.1 else u.1.ev 0x0208 p ctx t.myId (stCode u.2)
    else t

/-- The remote signals of a firing, in descriptor order; the result counts those that await an acknowledgement. -/
def State.signalsAway (s : State) (p id job ctx : Nat) (two : Bool) (sigs : List (Nat × Bool × Nat × Nat)) : State × Nat :=
  sigs.foldl (fun (t, n) x =>
    match t.signalTarget job x.2.1 x.2.2.1 with
    | some m =>
      if m = t.myId then (t, n)
      else
        let u := t.issue (.signal p id x.1) (t.genOf p) m 4 two
          (natLe 4 job ++ natLe 2 x.1 ++ natLe 2 0 ++ natLe 4 x.2.2.2 ++ natLe 4 0) [] false
        (match u.2 with
          | none => (u.1, n + 1)
          | some e => (u.1.ev 0x0208 p ctx m (stCode e), n))
    | none => (t, n)) (s, 0)

/-- End the running firing of a partition whose descriptor passed Fetch (R131, R132): record, appends, signals; the sequencer
is free once every remote signal is acknowledged. -/
def State.endFiring (s : State) (p : Nat) (r : Run) (st : Status) (cycles : Nat) : State :=
  let d := r.desc.getD (descOf r.bytes)
  let job := match s.ctx r.ctx with | some x => x.job | none => 0
  let s := s.writeRecord p job r d st cycles
  if st = .ok then
    let s := (s.appendTokens r d).signalsHere p job r.ctx d.signalList
    let t := s.signalsAway p r.id job r.ctx d.twoPhase d.signalList
    if t.2 = 0 then t.1.leave p r .ok
    else t.1.setPart p { t.1.part p with run := some { r with stage := .signals, signalsOwed := t.2 } }
  else (s.signalErrors job d.signalList).leave p r st

/-- End the running firing at once with a status (R103, R130): a firing in Fetch has no descriptor, and writes no record; one
that makes its signals has completed; one that a fault has ended already keeps that fault (R132, R133).  The cycle count at that
moment is not stated: a free value (log entry 20, DESIGN CHOICE). -/
def State.cutFiring (s : State) (p : Nat) (st : Status) : State :=
  match (s.part p).run with
  | none => s
  | some r =>
    match r.stage with
    | .signals => s
    | .fetch => (s.stopQueue p r.ctx r.queue st).freeSeq p
    | _ =>
      let f := r.fault.getD { status := st }
      (s.fresh).endFiring p { r with fault := some f } f.status (Config.freeValue s.free % 2 ^ 48)

/-- A remote signal of a firing has been answered (R123). -/
def State.signalAnswered (s : State) (p id target : Nat) (st : Status) : State :=
  match (s.part p).run with
  | some r =>
    if r.stage = .signals ∧ r.id = id then
      let s := if st = .ok then s else s.ev 0x0208 p r.ctx target (stCode st)
      if r.signalsOwed ≤ 1 then s.leave p r .ok
      else s.setPart p { s.part p with run := some { r with signalsOwed := r.signalsOwed - 1 } }
    else s
  | none => s

/-- A fault ends the running firing (R132); the firing then ends at FIRING_COMPLETE. -/
def State.faultFiring (s : State) (p : Nat) (f : FireFault) : State :=
  match (s.part p).run with
  | some r => s.setPart p { s.part p with run := some (r.withFault { f with granted := s.clk }) }
  | none => s

/-- OR flags into the running firing's (R132). -/
def State.runFlags (s : State) (p : Nat) (f : Flags) : State :=
  match (s.part p).run with
  | some r => s.setPart p { s.part p with run := some { r with flags := r.flags.or f } }
  | none => s

end Sys2Proof.Machine
end

