-- ==== Sys2Proof/Machine/CarryOps.lean ====
section
/-! DEFINITION. The carry engines' shared operations: groups (R282 to R287), packets (R292), geometry (R289, R296, R303 to
R306), contributions (R299 to R301), and the end of a collective (R310, R312). -/

namespace Sys2Proof.Machine

/-! ### Ranks and rings (R213, R282) -/

/-- The coordinate of a rank on an axis: bits 2a + 1 and 2a (R213). -/
def coord (rank a : Nat) : Nat := bits rank (2 * a + 1) (2 * a)

/-- The axes a rank mask spans (R282). -/
def axesOf (mask : Nat) : List Nat := (List.range 8).filter fun a => coord mask a ≠ 0

/-- Members of a ring on an axis of a mask: four, or two (R282). -/
def ringSize (mask a : Nat) : Nat := if coord mask a = 3 then 4 else 2

/-- The position of a coordinate pair on a ring of four (R213): the cyclic Gray order 00, 01, 11, 10; on a ring of two the set
bit's value. -/
def ringPos (mask a rank : Nat) : Nat :=
  let c := coord rank a
  match coord mask a with
  | 3 => (match c with | 0 => 0 | 1 => 1 | 3 => 2 | _ => 3)
  | 2 => c / 2
  | _ => c % 2

/-- The rank at a position of this rank's ring on an axis. -/
def ringRank (mask a rank pos : Nat) : Nat :=
  let c := match coord mask a with
    | 3 => (match pos with | 0 => 0 | 1 => 1 | 2 => 3 | _ => 2)
    | 2 => pos * 2 + coord rank a % 2
    | _ => coord rank a / 2 * 2 + pos
  rank - coord rank a * 4 ^ a + c * 4 ^ a

/-- Every rank of a group (R282). -/
def groupRanks (base mask : Nat) : List Nat :=
  (List.range 16).foldl (fun rs b => if bit mask b then rs ++ rs.map (· + 2 ^ b) else rs) [base - Nat.land base mask]

/-! ### Groups -/

/-- A group's entry. -/
def State.group (s : State) (g : Nat) : Option Group := tfind s.groups g

/-- Set a group's entry. -/
def State.setGroup (s : State) (g : Nat) (x : Group) : State := { s with groups := tput s.groups g x }

/-- The home die of a group. -/
def State.groupDie (s : State) (g : Nat) : Nat := s.fld (Reg.carGroupStateHomeDie g)

/-- The context of a group, its job and its seed. -/
def State.groupCtx (s : State) (g : Nat) : Nat := s.fld (Reg.carGroupContextContext g)

/-- The job of a group's context. -/
def State.groupJob (s : State) (g : Nat) : Nat := match s.ctx (s.groupCtx g) with | some x => x.job | none => 0

/-- The partition of a group's context. -/
def State.groupPart (s : State) (g : Nat) : Nat := match s.ctx (s.groupCtx g) with | some x => x.p.partition | none => 0

/-- Ring neighbours of a group on some axes, each once. -/
def Group.neighbours (x : Group) (axes : List Nat) : List Nat :=
  ((x.rings.filter fun r => axes.contains r.1).flatMap fun (_, p, ids) =>
    let n := ids.length
    [ids.getD ((p + 1) % n) 0, ids.getD ((p + n - 1) % n) 0]).eraseDups

/-- This member's position and the ring's IDs on an axis. -/
def Group.ring (x : Group) (a : Nat) : Nat × List Nat :=
  match x.rings.find? fun r => r.1 == a with
  | some (_, p, ids) => (p, ids)
  | none => (0, [0])

/-- The group an ID names, reached from a module that is a ring neighbour of it (R292). -/
def State.groupOf (s : State) (id src : Nat) : Option (Nat × Group) :=
  s.groups.find? fun g => s.fld (Reg.carGroupIdId g.1) == id && s.fld (Reg.carGroupStateState g.1) != 0
    && (g.2.neighbours (g.2.rings.map (·.1))).contains src

/-! ### Packets (R292) -/

/-- Step byte of R292. -/
def stepByte (ph : CollPhase) (a t : Nat) (rev : Bool) : Nat :=
  a % 8 + t % 4 * 8 + b2n rev * 32 + (match ph with | .reduce | .gather => 64 | _ => 0)
    + (match ph with | .frameGather | .gather => 128 | _ => 0)

/-- Phase of a step byte. -/
def phaseOf (b : Nat) : CollPhase :=
  match bit b 6, bit b 7 with
  | false, false => .frameReduce
  | false, true => .frameGather
  | true, false => .reduce
  | true, true => .gather

/-- Bytes 16 to 31 of a collective packet. -/
def collCmd (gid cseq step : Nat) (f : Flags) (seg check : Nat) : List Byte :=
  natLe 4 gid ++ natLe 2 cseq ++ natLe 1 step ++ natLe 1 (flagsCode f) ++ natLe 4 seg ++ natLe 2 check ++ natLe 2 0

/-- Send a short collective packet to a neighbour. -/
def State.sendColl (s : State) (g dest op cseq step : Nat) (f : Flags) (seg check : Nat) (data : List Byte) : State :=
  s.inject (s.groupDie g)
    { dest := dest, src := s.myId, cls := 3, opcode := op, gen := s.chipGen
      cmd := collCmd (s.fld (Reg.carGroupIdId g)) cseq step f seg check, data := data }

/-- Grant credits for a phase, axis and direction to the upstream neighbour there (R290). -/
def State.grant (s : State) (g : Nat) (x : Group) (c : Coll) (rev : Bool) (n : Nat) : State :=
  let (p, ids) := x.ring c.axis
  let r := ids.length
  let up := ids.getD (if rev then (p + 1) % r else (p + r - 1) % r) 0
  s.sendColl g up 0xC1 (x.next % 2 ^ 16) (stepByte c.phase c.axis 0 rev) c.flags 0 c.check (natLe 2 n)

/-! ### Descriptors (R294, R295) -/

/-- A collective descriptor of 128 bytes. -/
def collDescOf (bs : List Byte) : CollDesc :=
  { control := field bs 0 4, axes := field bs 4 4, rows := field bs 8 4, cols := field bs 0xC 4, stream := field bs 0x10 4
    src := field bs 0x18 8, srcFrames := field bs 0x20 8, dst := field bs 0x28 8, dstFrames := field bs 0x30 8
    completion := field bs 0x38 8, wait := field bs 0x40 8, signals := [field bs 0x48 8, field bs 0x50 8], work := field bs 0x58 8
    reservedZero := field bs 0x14 4 = 0 ∧ field bs 0x60 32 = 0 }

/-- OP. -/
def CollDesc.op (d : CollDesc) : Nat := bits d.control 7 0
/-- REDUCE is SUM: the sum of a reduction. -/
def CollDesc.sum (d : CollDesc) : Bool := (d.op = 1 || d.op = 3) && bits d.control 11 8 = 0
/-- IN_FORMAT code. -/
def CollDesc.inCode (d : CollDesc) : Nat := bits d.control 15 12
/-- OUT_FORMAT code. -/
def CollDesc.outCode (d : CollDesc) : Nat := bits d.control 19 16
/-- Input format. -/
def CollDesc.inFmt (d : CollDesc) : Fmt := (fmtOfCode d.inCode).getD .fp32
/-- Output format. -/
def CollDesc.outFmt (d : CollDesc) : Fmt := (fmtOfCode d.outCode).getD .fp32
/-- AXIS_MASK. -/
def CollDesc.mask (d : CollDesc) : Nat := bits d.axes 7 0
/-- Axes, ascending. -/
def CollDesc.axisList (d : CollDesc) : List Nat := (List.range 8).filter (bit d.mask)
/-- ROOT. -/
def CollDesc.root (d : CollDesc) : Nat := bits d.axes 23 8
/-- Elements E. -/
def CollDesc.elems (d : CollDesc) : Nat := d.rows * d.cols
/-- Bytes of an input element. -/
def CollDesc.inBytes (d : CollDesc) : Nat := fmtBits d.inFmt / 8
/-- Bytes of an output element. -/
def CollDesc.outBytes (d : CollDesc) : Nat := fmtBits d.outFmt / 8
/-- Frame tiles (R44, R296). -/
def CollDesc.tiles (d : CollDesc) : Nat := cdiv d.rows 32 * cdiv d.cols 64
/-- Frame tile of element i. -/
def CollDesc.tile (d : CollDesc) (i : Nat) : Nat := i / d.cols / 32 * cdiv d.cols 64 + i % d.cols / 64

/-- Signals in force, in the form of `Desc.signalList`. -/
def CollDesc.signalList (d : CollDesc) : List (Nat × Bool × Nat × Nat) :=
  (d.signals.filter (bit · 12)).map fun v => (bits v 11 0, bit v 13, bits v 31 16, bits v 63 32)

/-! ### Geometry (R289, R296) -/

/-- The units that a phase counts: frame tiles or elements. -/
def CollDesc.count (d : CollDesc) (ph : CollPhase) : Nat :=
  match ph with
  | .frameReduce | .frameGather => d.tiles
  | _ => d.elems

/-- Bytes of a unit of a phase (R289). -/
def CollDesc.unitBytes (d : CollDesc) (ph : CollPhase) : Nat :=
  match ph with
  | .frameReduce | .frameGather => 4
  | .reduce => if d.sum then 16 else d.inBytes
  | .gather => d.outBytes

/-- Units from the first to one past the last of the range whose leading index digits are given: `sizes` the ring sizes of
every axis, `ds` the digits of the leading axes (R296). -/
def rangeOf (n : Nat) (sizes ds : List Nat) : Nat × Nat :=
  let p := sizes.foldl (· * ·) 1
  let q := (ds.zip sizes).foldl (fun acc x => acc * x.2 + x.1) 0
  let r := (sizes.drop ds.length).foldl (· * ·) 1
  (q * r * n / p, (q + 1) * r * n / p)

/-- Ring sizes of the descriptor's axes. -/
def Group.sizes (x : Group) (d : CollDesc) : List Nat := d.axisList.map fun a => (x.ring a).2.length

/-- This member's positions on the axes before axis a. -/
def Group.before (x : Group) (d : CollDesc) (a : Nat) : List Nat := (d.axisList.filter (· < a)).map fun b => (x.ring b).1

/-- The units of part j at axis a (R303, R304); for BROADCAST the whole buffer (R306). -/
def Group.part (x : Group) (d : CollDesc) (ph : CollPhase) (a j : Nat) : Nat × Nat :=
  if d.op = 4 then (0, d.elems) else rangeOf (d.count ph) (x.sizes d) (x.before d a ++ [j])

/-- Units of a segment: 256 KiB. -/
def segUnits (ub : Nat) : Nat := 262144 / max 1 ub

/-- Segments of a range. -/
def segCount (r : Nat × Nat) (ub : Nat) : Nat := cdiv (r.2 - r.1) (segUnits ub)

/-- The units of a segment of a range. -/
def segRange (r : Nat × Nat) (ub seg : Nat) : Nat × Nat :=
  (min r.2 (r.1 + seg * segUnits ub), min r.2 (r.1 + (seg + 1) * segUnits ub))

/-- The part that a step sends, or receives last, on a ring of r (R303, R304). -/
def partAt (ph : CollPhase) (r p t : Nat) (rev : Bool) : Nat :=
  match ph with
  | .frameReduce | .reduce => if rev then (p + t + 1) % r else (p + 2 * r - t - 1) % r
  | _ => if rev then (p + t) % r else (p + 2 * r - t) % r

/-- The step of broadcasting on a ring: distance from the holder (R306). -/
def Group.distance (x : Group) (mask root a : Nat) : Nat :=
  let (p, ids) := x.ring a
  (p + ids.length - ringPos mask a root) % ids.length

/-! ### Contributions (R299 to R301) -/

/-- The signed frame and OVF of a frame entry (R38). -/
def entryOf (v : Nat) : Int × Bool := (sext 16 v, bit v 16)

/-- Combine two frame entries (R299): the signed maximum and the OR. -/
def maxEntry (a b : Nat) : Nat :=
  ucode 16 (max (entryOf a).1 (entryOf b).1) + b2n ((entryOf a).2 || (entryOf b).2) * 2 ^ 16

/-- The common frame of an entry after the exchange (R299). -/
def commonFrame (v : Nat) : Int := if (entryOf v).1 = -32768 then -79 else (entryOf v).1

/-- Unbiased exponent of a finite non-zero element. -/
def topOf (f : Fmt) (c : Nat) : Option Int :=
  match decodeElem f c with
  | .fin _ m e => if m = 0 then none else some (unbiased f m e)
  | _ => none

/-- The elements of a frame tile, by index. -/
def CollDesc.tileElems (d : CollDesc) (k : Nat) : List Nat :=
  let tc := cdiv d.cols 64
  (List.range 32).flatMap fun i => (List.range 64).filterMap fun j =>
    let r := k / tc * 32 + i
    let c := k % tc * 64 + j
    if r < d.rows ∧ c < d.cols then some (r * d.cols + c) else none

/-- This member's frame entry of a tile (R299), from the bytes of SRC and SRC_FRAMES. -/
def CollDesc.ownEntry (d : CollDesc) (src frames : List Byte) (k : Nat) : Nat :=
  if d.inFmt = .t128 then field frames (4 * k) 4 % 2 ^ 17
  else
    match (d.tileElems k).filterMap fun i => topOf d.inFmt (field src (i * d.inBytes) d.inBytes) with
    | [] => 2 ^ 15
    | e :: es => ucode 16 (es.foldl max e - 79)

/-- The tally word of an element's code at the common frame, and whether it saturated (R300); `f` is its frame entry. -/
def CollDesc.wordOf (d : CollDesc) (c f : Nat) (fc : Int) : Tally × Bool :=
  if d.inFmt = .t128 then (alignTally (tallyOf c) (sext 16 f) fc, false) else wordAt (elemVal (decodeElem d.inFmt c)) fc

/-- Rounding mode of element L of a collective (R301). -/
def CollDesc.round (d : CollDesc) (seed l : Nat) : Round :=
  match bits d.control 23 20 with
  | 0 => .rne
  | 1 => .rtz
  | _ => .sr (sm4 seed (l * 2 ^ 64 + d.stream * 2 ^ 32) % 2 ^ 32)

/-! ### The end of a collective (R297, R310, R312) -/

/-- The record of a collective (R310). -/
def State.collRecord (s : State) (g : Nat) (c : Coll) (st : Status) (cycles : Nat) : List Byte :=
  let p := s.groupPart g
  recordBytes st c.flags 0 (s.genOf p) ((c.fault.map (·.2.2)).getD 0) c.entry 0 p (s.groupCtx g) cycles 7
    ((c.fault.map (·.2.1)).getD s.myId) (s.fabricTime % 2 ^ 64)

/-- Count a collective's record (R315). -/
def State.countColl (s : State) : State := s.addPair Reg.carCollectivesLoOff 1

/-- Write the record of a collective (R140, R159, R310). -/
def State.writeCollRecord (s : State) (g : Nat) (c : Coll) (st : Status) (cycles : Nat) : State :=
  let job := s.groupJob g
  let d := c.desc
  if d.completion = 0 then s
  else
    let rec_ := s.collRecord g c st cycles
    let mod := d.completion / 2 ^ 48
    let loc := d.completion % 2 ^ 48
    if mod = s.myId then
      let t := s.serve (.firing job) loc (.record rec_)
      if t.2.status = .ok then t.1.countColl
      else t.1.ev 0x0209 (s.groupPart g) (s.groupCtx g) mod (stCode t.2.status)
    else
      let t := s.issue (.collRecord g) s.chipGen mod 5 false (memCmd job loc 0) rec_ false
      match t.2 with
      | none => t.1
      | some e => t.1.ev 0x0209 (s.groupPart g) (s.groupCtx g) mod (stCode e)

/-- The signals of a collective (R123, R310). -/
def State.collSignals (s : State) (g : Nat) (sigs : List (Nat × Bool × Nat × Nat)) : State :=
  let job := s.groupJob g
  let p := s.groupPart g
  let c := s.groupCtx g
  let s := s.signalsHere p job c sigs
  s.each sigs fun t x =>
    match t.signalTarget job x.2.1 x.2.2.1 with
    | some m =>
      if m = t.myId then t
      else
        let u := t.issue (.collSignal g x.1) t.chipGen m 4 false
          (natLe 4 job ++ natLe 2 x.1 ++ natLe 2 0 ++ natLe 4 x.2.2.2 ++ natLe 4 0) [] false
        (match u.2 with
          | none => u.1
          | some e => u.1.ev 0x0208 p c m (stCode e))
    | none => t

/-- Leave the running collective: CSEQ, head and LAST_STATUS move on, its slots and credits are withdrawn (R293, R313). -/
def State.leaveColl (s : State) (g : Nat) (x : Group) (st : Status) : State :=
  let s := s.setGroup g { x with run := none, next := x.next + 1
                                 rx := x.rx.filter fun r => r.1.cseq != x.next % 2 ^ 16
                                 credits := x.credits.filter fun r => r.1.2.2.2 != x.next % 2 ^ 16
                                 aborts := x.aborts.filter fun a => a.1 != x.next % 2 ^ 16 }
  let f := Reg.carGroupQueueHead g
  let s := (s.setFld f ((s.fld f + 1) % 2 ^ x.log2)).setFld (Reg.carGroupRunLastStatus g) (stCode st)
  s.setFld (Reg.carGroupStateState g) (if st = .ok then 2 else 4)

/-- Causes 1 to 4 of R312 raise MEMBER_LOST. -/
def lossCause (cause : Nat) : Bool := 1 ≤ cause && cause ≤ 4

/-- End the running collective with a status other than OK (R312): ABORT to every ring neighbour of its axes, record, ERROR in
the counters its signals name, events, BROKEN.  `origin` is the module whose ABORT or packet set the status, else this one, `lost`
the ring neighbour that cause 4 finds lost, `cycles` the record's count. -/
def State.failColl (s : State) (g : Nat) (st sent : Status) (cause origin check cycles : Nat) (lost : Nat := origin) : State :=
  match s.group g with
  | none => s
  | some x =>
    match x.run with
    | none => s
    | some c =>
      let cseq := x.next % 2 ^ 16
      let s := s.each (x.neighbours c.desc.axisList) fun t m =>
        t.sendColl g m 0xC2 cseq (stepByte c.phase c.axis c.step false) c.flags 0 c.check
          (natLe 1 (stCode sent) ++ natLe 1 0 ++ natLe 2 origin ++ natLe 1 cause)
      let c := { c with fault := some (st, origin, check) }
      let s := (s.writeCollRecord g c st cycles).signalErrors (s.groupJob g) c.desc.signalList
      let s := if st = .arithCheck then s.bump Reg.carArithFailsCount else s
      let s := s.ev 0x0803 (s.groupDie g) g (stCode st * 2 ^ 16 + cseq) origin
      let s := if lossCause cause then s.ev 0x0804 (s.groupDie g) g lost cause else s
      let s := (s.setFlag (Reg.carGroupLostValid g) true).setFld (Reg.carGroupLostId g) lost
      s.leaveColl g x st

/-- End a running collective at once, its cycle count being a free value (log entry 20, DESIGN CHOICE). -/
def State.cutColl (s : State) (g : Nat) (st sent : Status) (cause origin check : Nat) (lost : Nat := origin) : State :=
  (s.fresh).failColl g st sent cause origin check (Config.freeValue s.free % 2 ^ 48) lost

/-- Destroy a group (R287): a running collective ends first (cause 3 of R312, or 1 for a chip reset); its slots return. -/
def State.destroyGroup (s : State) (g cause : Nat) : State :=
  let s := s.cutColl g .aborted .memberLost (if cause = 3 then 1 else 3) s.myId 0
  let die := s.groupDie g
  let f := if die = 0 then Reg.carStatusFreeSlotsF0 else Reg.carStatusFreeSlotsF1
  let s := (s.add f (s.fld (Reg.carGroupStateSlots g))).sub Reg.carStatusGroups 1
  let s := s.ev 0x0802 die g (s.fld (Reg.carGroupIdId g)) cause
  let s := s.each (List.range 8) fun t i => t.setReg (Reg.carGroupStateOff g + 4 * i) 0
  { s with groups := tdel s.groups g }

/-- Groups of a context. -/
def State.groupsOf (s : State) (c : Nat) : List Nat := (s.groups.map (·.1)).filter fun g => s.groupCtx g == c

end Sys2Proof.Machine
end

