-- ==== Sys2Proof/Machine/BankOps.lean ====
section
/-! DEFINITION. The bank engine's shared operations: rank-table entries (R338), regions (R166), parity layout (R323),
barriers (R330), fold (R331, R335), commit (R332, R339), failure (R334) and dissolution (R322). -/

namespace Sys2Proof.Machine

/-! ### Regions (R166, R188) -/

/-- Change a region's state, owner and key slot: event 0x0409. -/
def State.setRegion (s : State) (r st job key : Nat) : State :=
  let s := ((s.setFld (Reg.memRegionStateState r) st).setFld (Reg.memRegionJobJob r) job).setFld (Reg.memRegionStateKeySlot r) key
  s.ev 0x0409 (dieOfCh (s.chOf (granule (r * regionSize)))) r st job

/-- The parity area's first region and count for a protected run of n regions (R318). -/
def parityBase (n : Nat) : Nat := 1341 - n / 7

/-- Take the parity area (R320). -/
def State.takeParity (s : State) (n : Nat) : State :=
  let s := s.each (List.range (n / 7)) fun t i => t.setRegion (parityBase n + i) 3 0 0
  (s.setFld Reg.memParityCount (n / 7)).setFld Reg.memParityBase (parityBase n)

/-- Return the parity area to FREE (R322). -/
def State.dropParity (s : State) : State :=
  let b := s.fld Reg.memParityBase
  let s := s.each (List.range (s.fld Reg.memParityCount)) fun t i => t.setRegion (b + i) 0 0 0
  (s.setFld Reg.memParityCount 0).setFld Reg.memParityBase 0

/-! ### Rank-table entries (R338) -/

/-- Free an entry. -/
def State.freeRankTab (s : State) (j : Nat) : State :=
  let s := (s.setReg (Reg.bnkRanktabJobOff j) 0).setReg (Reg.bnkRanktabStateOff j) 0
  { s with rankTabs := tdel s.rankTabs j }

/-- Does the module hold a context of a job? -/
def State.hasContext (s : State) (job : Nat) : Bool := s.ctxs.any fun c => c.2.job == job

/-- Free a job's entry when neither a context nor a rick of it remains (R338). -/
def State.releaseRanks (s : State) (job : Nat) : State :=
  if s.hasContext job ∨ (s.rickOn ∧ s.fld Reg.bnkJobJob = job) then s
  else match s.rankTab job with
    | some (j, _) => s.freeRankTab j
    | none => s

/-- The table in use: the staged one when one is staged (R330). -/
def State.tableInUse (s : State) (job : Nat) : List Nat :=
  match s.rankTab job with
  | some (_, t) => if t.staged.isEmpty then t.ids else t.staged
  | none => []

/-- The staged-table check (R333). -/
def State.stagedCheck (s : State) (job : Nat) : Nat :=
  match s.rankTab job with
  | some (_, t) => if t.staged.isEmpty then 0 else crc16 (t.staged.flatMap (natLe 2))
  | none => 0

/-! ### Ricks (R317, R323) -/

/-- The three rick bits. -/
def State.rickBits (s : State) : List Nat := [s.fld Reg.bnkRickBit0, s.fld Reg.bnkRickBit1, s.fld Reg.bnkRickBit2]

/-- Position of a rank in its rick, by its sorted rick bits (R317). -/
def rickPos (bits_ : List Nat) (r : Nat) : Nat :=
  b2n (bit r (bits_.getD 0 0)) + 2 * b2n (bit r (bits_.getD 1 0)) + 4 * b2n (bit r (bits_.getD 2 0))

/-- The rank at a position of the rick of rank r. -/
def rickRank (bits_ : List Nat) (r pos : Nat) : Nat :=
  bits_.zipIdx.foldl (fun acc x => if bit pos x.2 then setBit acc x.1 else clrBit acc x.1) r

/-- Module IDs of the rick by position under a table; `here` is a member. -/
def rickIds (bits_ : List Nat) (table : List Nat) (here : Nat) : List Nat :=
  match rankOf table here with
  | some r => (List.range 8).filterMap fun p => table[rickRank bits_ r p]?
  | none => []

/-- The rick's job. -/
def State.rickJob (s : State) : Nat := s.fld Reg.bnkJobJob

/-- Module IDs of the rick by position, under the table in use. -/
def State.peers (s : State) : List Nat := rickIds s.rickBits (s.tableInUse s.rickJob) s.myId

/-- Is a module a rick peer under the table in force or the staged table (R333)? -/
def State.isPeer (s : State) (m : Nat) : Bool :=
  s.rickOn && m != s.myId &&
  match s.rankTab s.rickJob with
  | some (_, t) => (rickIds s.rickBits t.ids s.myId).contains m || (rickIds s.rickBits t.staged s.myId).contains m
  | none => false

/-- Units of a protected run (R323). -/
def State.unitCount (s : State) : Nat := s.fld Reg.bnkProtectedCount * 262144

/-- Position of the holder of unit u of position m (R323). -/
def holder (m u : Nat) : Nat := (m + 1 + u % 7) % 8

/-- Local address of a parity line (R323). -/
def State.lineAddr (s : State) (line : Nat) : Nat := parityBase (s.fld Reg.bnkProtectedCount) * regionSize + 4096 * line

/-- Exclusive or of two byte strings. -/
def xorBytes (a b : List Byte) : List Byte := List.zipWith (fun x y => x ^^^ y) a b

/-! ### Barriers (R330) -/

/-- Rounds for n ranks. -/
def barrierRounds (n : Nat) : Nat := if n ≤ 1 then 0 else Nat.log2 (n - 1) + 1

/-- An ARRIVE packet's bytes 16 to 31 (R333). -/
def arriveCmd (job bank : Nat) (second full abort : Bool) (round recovery status check : Nat) : List Byte :=
  natLe 4 job ++ natLe 4 bank ++ natLe 1 (b2n second + 2 * b2n full + 4 * b2n abort) ++ natLe 1 round ++ natLe 1 recovery
  ++ natLe 1 status ++ natLe 2 check ++ natLe 2 0

/-- Inject a FWD packet of the bank engine that draws no answer. -/
def State.sendBank (s : State) (dest op : Nat) (cmd : List Byte) : State :=
  s.inject s.bankDie { dest := dest, src := s.myId, cls := 1, opcode := op, cmd := cmd }

/-- The bank being made: BANK_SEQ + 1 (R328). -/
def State.bankNumber (s : State) : Nat := (s.fld Reg.bnkBankSeqSeq + 1) % 2 ^ 32

/-- Is this member in Barrier 2, or in the Fold before it? -/
def State.inSecond (s : State) : Bool := s.fld Reg.bnkStageStage ≥ 3

/-- Send ARRIVE of the round in progress to its partner (R330). -/
def State.sendArrive (s : State) : State :=
  let job := s.rickJob
  let t := s.tableInUse job
  match rankOf t s.myId with
  | some r =>
    let i := s.fld Reg.bnkStageRound
    s.sendBank (t.getD ((r + 2 ^ i) % t.length) 0) 0x41
      (arriveCmd job s.bankNumber s.inSecond s.bank.full false i (s.fld Reg.bnkStatusRecovery) 0 (s.stagedCheck job))
  | none => s

/-- Send ABORT to this member's partner of every round of the barrier it is in (R334). -/
def State.sendBankAborts (s : State) (st : Status) : State :=
  let job := s.rickJob
  let t := s.tableInUse job
  match rankOf t s.myId with
  | some r =>
    s.each (List.range (barrierRounds t.length)) fun u i =>
      u.sendBank (t.getD ((r + 2 ^ i) % t.length) 0) 0x41
        (arriveCmd job u.bankNumber u.inSecond false true i (u.fld Reg.bnkStatusRecovery) (stCode st) (u.stagedCheck job))
  | none => s

/-- The bank firing makes progress (R129, R336): at the end of a stage or a barrier round, and at every 1,024 DELTA answers. -/
def State.bankProgress (s : State) : State :=
  match s.bank.part with
  | some p =>
    (match (s.part p).run with
      | some r => s.setPart p { s.part p with run := some { r with progress := s.clk } }
      | none => s)
  | none => s

/-- End a bank under way with a status (R334): ABORT out, state FAILED, events; the firing ends with the status. -/
def State.failBank (s : State) (st sent : Status) (origin : Nat) : State :=
  if s.fld Reg.bnkStageStage = 0 then s
  else
    let s := s.sendBankAborts sent
    let n := s.bankNumber
    let s := ((s.setReg Reg.bnkStageOff 0).setFld Reg.bnkStatusState 6).setFlag Reg.bnkEventsBankFailed true
    let s := s.ev 0x0904 s.bankDie n (stCode st) origin
    let s := match s.bank.part with
      | some p => s.faultFiring p { status := st, module := some origin }
      | none => s
    { s with bank := { s.bank with part := none, arrivals := [], owed := 0, foldFail := none } }

/-- Apply a job's staged table at a commit (R339): event 0x090A. -/
def State.applyStaged (s : State) (job : Nat) : State :=
  match s.rankTab job with
  | some (j, t) =>
    if t.staged.isEmpty then s
    else
      let f := Reg.bnkRanktabStateGeneration j
      let old := t.base
      let s := { s with rankTabs := tput s.rankTabs j ⟨t.staged, [], 0⟩ }
      let s := ((s.setFld f ((old + 1) % 256)).setFlag (Reg.bnkRanktabStateStaged j) false).setFlag (Reg.bnkRanktabStateValid j) true
      s.ev 0x090A s.bankDie job old ((old + 1) % 256)
  | none => s

/-- End the quiesce of the bank's partition: its firing owes no reads any more (R328). -/
def State.releaseQuiet (s : State) : State :=
  match s.bank.part with
  | some p =>
    (match (s.part p).run with
      | some r => { s.setPart p { s.part p with run := some { r with readsOwed := 0 } } with bank := { s.bank with part := none } }
      | none => { s with bank := { s.bank with part := none } })
  | none => s

/-- Commit the bank under way (R326, R328, R332): log entries freed, table applied, BANK_SEQ + 1, CURRENT, run reopened. -/
def State.commitBank (s : State) : State :=
  let job := s.rickJob
  let n := s.bankNumber
  let us := (s.clk - s.bank.began) / 235
  let sent := s.bank.folded
  let full := s.bank.fullBank
  let s := { s with bank := { s.bank with log := s.bank.log.filter fun e => e.bank != n
                                          dirty := [], contrib := [], closed := false, arrivals := [], second := false
                                          stale := false, fullBank := false, folded := 0 } }
  let s := (s.logSync).setFld Reg.bnkLogHwmEntries s.bank.log.length
  let s := s.applyStaged job
  let s := ((s.setFld Reg.bnkBankSeqSeq n).setFld Reg.bnkStatusState 3).setFlag Reg.bnkStatusFullNext false
  let s := ((s.setFld Reg.bnkLastTimeUs us).setPair Reg.bnkLastDeltaLoOff (sent * 4096)).setReg Reg.bnkStageOff 0
  (s.ev 0x0903 s.bankDie n (sent % 2 ^ 31 + b2n full * 2 ^ 31) us).releaseQuiet

/-! ### Fold (R331, R335) -/

/-- Units to fold in this bank. -/
def State.foldTotal (s : State) : Nat := if s.bank.fullBank then s.unitCount else s.bank.dirty.length

/-- The k-th unit to fold: dirty units in ascending order, or every unit. -/
def State.foldUnit (s : State) (k : Nat) : Nat :=
  if s.bank.fullBank then k else (sortBy id s.bank.dirty).getD k 0

/-- The before-image of a unit in this bank. -/
def State.before (s : State) (a : Nat) : List Byte :=
  match s.bank.log.find? fun e => e.addr == a && e.bank == s.bankNumber with
  | some e => e.data
  | none => List.replicate 4096 0

/-- Send the DELTA of a unit to the holder of its parity (R331). -/
def State.sendUnit (s : State) (u : Nat) (full : Bool) (delta : List Byte) : State :=
  let dest := s.peers.getD (holder (s.fld Reg.bnkStatusPosition) u) 0
  let s := { s with bank := { s.bank with folded := s.bank.folded + 1, owed := s.bank.owed + 1 } }
  let t := s.issue (.bank 0 u) 0 dest 0x40 false (memCmd s.rickJob (s.lineAddr (u / 7)) (b2n full)) delta true
  match t.2 with
  | none => t.1
  | some e => { t.1 with bank := { t.1.bank with owed := t.1.bank.owed - 1, foldFail := some (e, dest) } }

/-- Send the DELTA of a unit that has been read, or end the fold on the read's failure (R331). -/
def sendRead (u : Nat) (full : Bool) (r : State × Status × List Byte) : State :=
  let s := r.1
  if r.2.1 ≠ .ok then { s with bank := { s.bank with foldFail := some (r.2.1, s.myId) } }
  else s.sendUnit u full (if full then r.2.2 else xorBytes r.2.2 (s.before (s.unitAddr u)))

/-- Send the DELTA of the next unit, if one is left and none is owed (R331): the reply's arrival sends the one after. -/
def State.sendDelta (s : State) : State :=
  if s.fld Reg.bnkStageStage ≠ 3 ∨ s.bank.foldFail.isSome ∨ s.bank.folded ≥ s.foldTotal then s
  else
    let u := s.foldUnit s.bank.folded
    sendRead u s.bank.fullBank (s.readAs 4 (s.unitAddr u) 4096)

/-- Barrier 1 has ended: the run closes and the fold begins (R329, R331, R335). -/
def State.beginFold (s : State) : State :=
  let full := s.bank.full
  let s := (s.setFld Reg.bnkStageStage 3).setFld Reg.bnkStageRound 0
  let s := if full then s.setFld Reg.bnkStatusState 5 else s
  ({ s with bank := { s.bank with closed := true, fullBank := full, folded := 0, stale := s.bank.stale || full } }).bankProgress.sendDelta

/-- Run the barrier on as far as the ARRIVEs recorded reach (R330); `fuel` bounds its rounds. -/
def State.advance : Nat → State → State
  | 0, s => s
  | fuel + 1, s =>
    let stage := s.fld Reg.bnkStageStage
    if stage ≠ 2 ∧ stage ≠ 4 then s
    else
      let job := s.rickJob
      let t := s.tableInUse job
      let i := s.fld Reg.bnkStageRound
      if barrierRounds t.length ≤ i then (if stage = 2 then s.beginFold else s.commitBank)
      else
        let r := (rankOf t s.myId).getD 0
        let from_ := t.getD ((r + t.length - 2 ^ i % t.length) % t.length) 0
        match s.bank.arrivals.find? fun a => a.second == (stage == 4) && a.round == i && a.src == from_ with
        | none => s
        | some a =>
          if a.check ≠ s.stagedCheck job then s.failBank .shape .shape s.myId
          else
            let s := { s with bank := { s.bank with full := s.bank.full || a.full, arrivals := s.bank.arrivals.erase a } }
            let s := (s.setFld Reg.bnkStageRound (i + 1)).bankProgress
            let s := if i + 1 < barrierRounds t.length then s.sendArrive else s
            State.advance fuel s

/-- Enter a barrier (R330): stage 2 or 4, round 0. -/
def State.enterBarrier (s : State) (second : Bool) : State :=
  let s := (s.setFld Reg.bnkStageStage (if second then 4 else 2)).setFld Reg.bnkStageRound 0
  let s := { s with bank := { s.bank with second := second, full := s.flag Reg.bnkStatusFullNext } }
  let s := s.bankProgress
  let s := if barrierRounds (s.tableInUse s.rickJob).length = 0 then s else s.sendArrive
  State.advance 20 s

/-- Is a bank of the job under way here, so that its firings, collectives and DMA requests are held (R329)? -/
def State.bankHolds (s : State) (job : Nat) : Bool := s.fld Reg.bnkStageStage != 0 && s.rickJob == job

/-! ### Dissolution (R322) -/

/-- The log run opens to the job with undefined contents (R322): free values. -/
def State.blurLog (s : State) : State :=
  let n := s.fld Reg.bnkLogCount * regionSize
  { s with mem := s.mem.write (s.fld Reg.bnkLogBase * regionSize) ((List.range n).map (Config.logByte s.free)), free := s.free + 1 }

/-- A rebuild that this peer makes ends with a status (R343): event 0x0909. -/
def State.endRebuild (s : State) (b : Rebuild) (st : Status) : State :=
  let s := { s with bank := { s.bank with rebuild := none } }
  ((s.setFlag Reg.bnkEventsRebuilt true).ev 0x0909 s.bankDie b.spare (stCode st) (s.fld Reg.bnkRebuildDoneCount)).finish b.o st

/-- Dissolve the rick (R322): a bank or rebuild in progress ends ABORTED first; event 0x0902. -/
def State.dissolve (s : State) (cause : Nat) : State :=
  if ¬ s.rickOn then s
  else
    let job := s.rickJob
    let pos := s.fld Reg.bnkStatusPosition
    let die := s.bankDie
    let s := s.failBank .aborted .memberLost s.myId
    let s := match s.bank.rebuild with | some b => s.endRebuild b .aborted | none => s
    let s := match s.bank.rollback with | some b => s.finish b.1 .aborted | none => s
    let s := match s.bank.joining with | some b => s.finish b.1 .aborted | none => s
    let s := s.dropParity.blurLog
    let s := s.each [Reg.bnkStatusOff, Reg.bnkStageOff, Reg.bnkJobOff, Reg.bnkLogHwmOff, Reg.bnkProtectedOff, Reg.bnkLogOff, Reg.bnkLogUsedOff,
        Reg.bnkDirtyOff, Reg.bnkRebuildDoneOff, Reg.bnkRebuildTotalOff, Reg.bnkPeerSilentOff] fun t o => t.setReg o 0
    let s := { s with bank := {} }
    (s.ev 0x0902 die job cause pos).releaseRanks job

end Sys2Proof.Machine
end

