-- ==== Sys2Proof/Machine/Access.lean ====
section
/-! DEFINITION. Who may write a register, and how a write from outside is carried out, audited and answered (R27, R460, R462,
R463, R465). -/

namespace Sys2Proof.Machine

/-! ### Requesters (R27) -/

/-- A session in use on the management port, with a role code (R397, R461). -/
def State.mgmtRole (s : State) (r : Requester) : Option Nat :=
  match r with
  | .session i => if i < 4096 ∧ s.sessState i = 2 ∧ s.fld (Reg.hstSessionStatePort i) = 8 then some (s.sessRole i) else none
  | _ => none

/-- The requester is the firmware of the active control unit. -/
def State.isFw (s : State) (r : Requester) : Bool :=
  match r with | .firmware u => s.activeUnit == some u | _ => false

/-- The requester is an operator session on the management port. -/
def State.isOp (s : State) (r : Requester) : Bool := s.mgmtRole r == some 0

/-- The requester is an installer session on the management port. -/
def State.isInst (s : State) (r : Requester) : Bool := s.mgmtRole r == some 1

/-- The requester is a maker session on the management port. -/
def State.isMaker (s : State) (r : Requester) : Bool := s.mgmtRole r == some 2

/-- The requester is the tray controller over I3C. -/
def isI3c (r : Requester) : Bool := r == .i3c

/-- The requester may write a register whose block names no writer: operator, installer, firmware (R27, R460; log entry 26, DEDUCED). -/
def State.anyWriter (s : State) (r : Requester) : Bool := s.isOp r || s.isInst r || s.isFw r

/-- The session that a requester is. -/
def sessOf (r : Requester) : Option Nat := match r with | .session i => some i | _ => none

/-! ### Writes -/

/-- How a write is audited (R463, R464). -/
inductive Audit where
  /-- never: buffers and pages that a later command covers, requesters that are not audited -/
  | no
  /-- an installer's or maker's register write -/
  | write
  /-- as `write`, and an operator's too: PWR registers -/
  | power
  /-- an enrolment action with its ACTION code and SERIAL -/
  | enrol (action serial : Nat)
  deriving DecidableEq, Repr

/-- May a requester write while a failed start allows only the staging bank's registers to sessions (R428)? -/
def State.mayWrite (s : State) (r : Requester) (off : Nat) : Bool :=
  match r with
  | .i3c => ! s.startFailed
  | .session _ => ! s.startFailed || decide (0x1E1000 ≤ off)
  | .firmware _ => true

/-- Carry out a write of a requester: `act` gives its effect and its status.  The audit entry stands before the effect; an entry
that cannot be written refuses the action with STATE (R465). -/
def State.carry (s : State) (r : Requester) (off value : Nat) (a : Audit) (act : State → State × Status) : State × Status :=
  if ¬ s.mayWrite r off then (s, .access) else
  let audited := match a, sessOf r, s.mgmtRole r with
    | .no, _, _ => none
    | .power, some i, some _ => some i
    | _, some i, some role => if role = 0 then none else some i
    | _, _, _ => none
  match audited with
  | none => act s
  | some i =>
    let st := (act s).2
    let (code, params) := match a with
      | .enrol c serial => (c, natLe 8 serial)
      | _ => (1, natLe 4 off ++ natLe 4 value)
    let t := s.auditAct i code st params
    if t.2 = st then ((act t.1).1, st) else (t.1, t.2)

/-- Refuse unless a requester may write (R27). -/
def gate (ok : Bool) (act : State → State × Status) (s : State) : State × Status :=
  if ok then act s else (s, .access)

/-- A write from outside: carried out, and answered. -/
def State.access (s : State) (r : Requester) (off value : Nat) (a : Audit) (act : State → State × Status) : State :=
  let t := s.carry r off value a act
  t.1.answer r off value t.2

/-- A privileged host command (R463, R465): its entry stands before its effect; `st` is the status of its checks, `act` the
effect when they pass. -/
def State.privileged (s : State) (o : Origin) (op : Nat) (st : Status) (params : List Byte) (act : State → State) : State :=
  let t := s.auditAct o.sess (0x100 + op) st params
  if t.2 = .ok then act t.1 else t.1.finish o t.2

end Sys2Proof.Machine
end

