-- ==== Sys2Proof/Machine/DmaOps.lean ====
section
/-! DEFINITION. The DMA engine's shared operations: the transfer's requests (R192 to R197), the checks of a start (R199), and the
end of a transfer (R202, R204 to R206). -/

namespace Sys2Proof.Machine

/-- Flue die of a channel (R20, R189). -/
def dmaDie (n : Nat) : Nat := n / 64

/-- Data class (R189). -/
def dmaData (n : Nat) : Bool := n < 96

/-- What a channel keeps beside its registers. -/
def State.dma (s : State) (n : Nat) : DmaRun := tget s.dmaRun {} n

/-- Set it. -/
def State.setDma (s : State) (n : Nat) (x : DmaRun) : State := { s with dmaRun := tset s.dmaRun {} n x }

/-- STATE codes (R208). -/
def dmaIdle : Nat := 0
/-- BUSY. -/
def dmaBusyCode : Nat := 1
/-- DRAINING. -/
def dmaDraining : Nat := 2
/-- DONE. -/
def dmaDone : Nat := 3
/-- HALTED. -/
def dmaHalted : Nat := 4

/-- STATE of a channel. -/
def State.dmaState (s : State) (n : Nat) : Nat := s.fld (Reg.dmaChStatusState n)

/-- Iteration counts n1 to n3; 1 on a control channel. -/
def State.dmaIters (s : State) (n : Nat) : List Nat :=
  if dmaData n then (List.range 3).map fun k => s.fld (Reg.dmaChLoopIterIter n k) + 1 else [1, 1, 1]

/-- Source strides. -/
def State.dmaSrcStrides (s : State) (n : Nat) : List Int :=
  if dmaData n then (List.range 3).map fun k => sext 32 (s.fld (Reg.dmaChLoopSrcStrideStride n k)) else [0, 0, 0]

/-- Destination strides. -/
def State.dmaDstStrides (s : State) (n : Nat) : List Int :=
  if dmaData n then (List.range 3).map fun k => sext 32 (s.fld (Reg.dmaChLoopDstStrideStride n k)) else [0, 0, 0]

/-- OP: 0 COPY, 1 FILL, 2 COMPARE, 3 CHECK_FILL (R196). -/
def State.dmaOp (s : State) (n : Nat) : Nat := s.fld (Reg.dmaChCtrlOp n)

/-- OP reads a source. -/
def dmaReadsSource (op : Nat) : Bool := op == 0 || op == 2

/-- The address of a run's start, less its module ID: base plus the loops' steps (R192). -/
def runStart (base : Nat) (iters : List Nat) (strides : List Int) (run : Nat) : Nat :=
  let n1 := iters.getD 0 1
  let n2 := iters.getD 1 1
  let x : Int := (base % 2 ^ 48 : Nat) + ((run % n1 : Nat) : Int) * strides.getD 0 0
    + ((run / n1 % n2 : Nat) : Int) * strides.getD 1 0 + ((run / (n1 * n2) : Nat) : Int) * strides.getD 2 0
  x.toNat

/-- The next request of a channel: source and destination global addresses, bytes, loop-order number (R192 to R194). -/
def State.dmaPiece (s : State) (n : Nat) (x : DmaRun) : Nat × Nat × Nat × Nat :=
  let src := s.pair (Reg.dmaChSrcLoOff n)
  let dst := s.pair (Reg.dmaChDstLoOff n)
  let count := s.fld (Reg.dmaChCountCount n)
  let fixS := ! dmaData n && s.fld (Reg.dmaChCtrlSrcMode n) == 1
  let fixD := ! dmaData n && s.fld (Reg.dmaChCtrlDstMode n) == 1
  let a := runStart src (s.dmaIters n) (s.dmaSrcStrides n) x.run + if fixS then 0 else x.offset
  let d := runStart dst (s.dmaIters n) (s.dmaDstStrides n) x.run + if fixD then 0 else x.offset
  let size :=
    if fixS || fixD then 64
    else
      let k := min (count - x.offset) (4096 - d % 4096)
      if dmaReadsSource (s.dmaOp n) then min k (4096 - a % 4096) else k
  (src / 2 ^ 48 * 2 ^ 48 + a, dst / 2 ^ 48 * 2 ^ 48 + d, size, x.run * count + x.offset)

/-- Bytes swapped by the SWAP field (R195): the byte at place i comes from the place it names. -/
def swapBytes (code : Nat) (bs : List Byte) : List Byte :=
  (List.range bs.length).map fun i =>
    bs.getD (match code with
      | 0 => i
      | 1 => i / 2 * 2 + (1 - i % 2)
      | 2 => i / 4 * 4 + (3 - i % 4)
      | _ => i / 4 * 4 + (i % 4 + 2) % 4) 0

/-- The FILL pattern over n bytes (R196). -/
def State.fillBytes (s : State) (n size : Nat) : List Byte :=
  let v := natLe 8 (s.pair (Reg.dmaChFillLoOff n))
  (List.range size).map fun i => v.getD (i % 8) 0

/-- The requester that a channel's memory requests speak for (R190). -/
def DmaRun.who (x : DmaRun) : Agent := match x.job with | some j => .dma j | none => .channel

/-- The 64-byte blocks of two strings that differ, by their offset (R197). -/
def diffBlocks (a b : List Byte) : List Nat :=
  (List.range (a.length / 64)).filterMap fun i => if slice a (64 * i) 64 = slice b (64 * i) 64 then none else some (64 * i)

/-! ### Timers (R202) -/

/-- Take a rate-limiter timer of a die. -/
def State.takeTimer (s : State) (die : Nat) : State := s.sub (Reg.dmaTimersFree die) 1

/-- Return a timer. -/
def State.giveTimer (s : State) (die : Nat) : State := s.setFld (Reg.dmaTimersFree die) (min 96 (s.fld (Reg.dmaTimersFree die) + 1))

/-! ### Checks (R199) -/

/-- Does an address range with loops stay in 0 to 2^48 − 1 (R199)? -/
def rangeFits (base count : Nat) (iters : List Nat) (strides : List Int) : Bool :=
  let es := (iters.zip strides).map fun x => ((x.1 : Int) - 1) * x.2
  let lo : Int := (base % 2 ^ 48 : Nat) + (es.filter (· < 0)).foldl (· + ·) 0
  let hi : Int := (base % 2 ^ 48 : Nat) + (count : Int) - 1 + (es.filter (0 ≤ ·)).foldl (· + ·) 0
  0 ≤ lo && hi ≤ 2 ^ 48 - 1

/-- Reserved bits of CTRL (R208): [28:24], [15:14], [9:8], [3:2]. -/
def ctrlReserved : Nat := 0x1F00C30C

/-- The target module of a channel's signal, for a job: none when a rank lies outside the table. -/
def State.dmaTarget (s : State) (n : Nat) (job : Option Nat) : Option Nat :=
  if s.flag (Reg.dmaChSignalRankMode n) then (match job with | some j => s.rankId j (s.fld (Reg.dmaChSignalTarget n)) | none => none)
  else some (s.fld (Reg.dmaChSignalTarget n))

/-- The first failing check of a START with its status (R199); `value` is the CTRL word written. -/
def State.dmaCheck (s : State) (n value : Nat) (job : Option Nat) : Option (Nat × Status) :=
  let op := s.dmaOp n
  let src := s.pair (Reg.dmaChSrcLoOff n)
  let dst := s.pair (Reg.dmaChDstLoOff n)
  let count := s.fld (Reg.dmaChCountCount n)
  let iters := s.dmaIters n
  let ss := s.dmaSrcStrides n
  let ds := s.dmaDstStrides n
  let sm := s.fld (Reg.dmaChCtrlSrcMode n)
  let dm := s.fld (Reg.dmaChCtrlDstMode n)
  let counter := s.fld (Reg.dmaChSignalCounter n)
  if (if dmaData n then sm ≠ 0 ∨ dm ≠ 0 else sm > 1 ∨ dm > 1)
      ∨ (¬ dmaReadsSource op ∧ (src ≠ 0 ∨ s.fld (Reg.dmaChCtrlSwap n) ≠ 0)) ∨ Nat.land value ctrlReserved ≠ 0 then some (1, .shape)
  else if count = 0 ∨ iters.foldl (· * ·) count > 2 ^ 48 then some (2, .length)
  else if src % 64 ≠ 0 ∨ dst % 64 ≠ 0 ∨ count % 64 ≠ 0 ∨ (ss ++ ds).any (· % 64 ≠ 0) then some (3, .align)
  else if ¬ rangeFits dst (if dm = 1 then 64 else count) iters ds
      ∨ (dmaReadsSource op ∧ ¬ rangeFits src (if sm = 1 then 64 else count) iters ss) then some (4, .access)
  else if op ≠ 0 ∧ s.modState ≠ .start ∧ s.modState ≠ .test ∧ s.modState ≠ .recovery then some (5, .state)
  else if s.flag (Reg.dmaChCtrlSignalEn n) then
    match s.dmaTarget n job with
    | none => some (6, .access)
    | some m =>
      (match job with
        | none => if m = s.myId then none else some (6, .access)
        | some j =>
          if m = s.myId then
            (match s.counterOwner counter with
              | some (_, c) => if c.job = j then none else some (6, .access)
              | none => some (6, .access))
          else none)
  else none

/-! ### End of a transfer -/

/-- Status, flags and results of a DMA_START's reply (R390, log entry 22, DEDUCED): status, flags, PROGRESS, MISMATCH_COUNT. -/
def State.dmaResults (s : State) (n : Nat) : Status × Flags × List Byte :=
  let st := stOf (s.fld (Reg.dmaChStatusStatus n))
  let fl := flagsOf (s.fld (Reg.dmaChStatusFlags n))
  (st, fl, natLe 4 (stCode st) ++ natLe 4 (flagsCode fl) ++ natLe 8 (s.pair (Reg.dmaChProgressLoOff n))
    ++ natLe 4 (s.fld (Reg.dmaChMismatchCountCount n)))

/-- The replies of a DMA_START and of waiting DMA_ABORTs. -/
def State.dmaReport (s : State) (n : Nat) : State :=
  let x := s.dma n
  let (st, fl, res) := s.dmaResults n
  let s := s.setDma n { x with reply := none, aborts := [] }
  let s := match x.reply with
    | some o => s.finish o st fl res []
    | none => s
  s.each x.aborts fun t o => t.finish o .ok

/-- The remote signal of a transfer has been answered: its report goes out (R204). -/
def State.dmaReported (s : State) (n k : Nat) : State :=
  let x := s.dma n
  let s := s.setDma n { x with reports := x.reports.filter fun r => r.1 != k }
  s.each (x.reports.filter fun r => r.1 == k) fun t r => t.finish r.2.1 .ok r.2.2.1 r.2.2.2 []

/-- A transfer has ended: its timer returns. -/
def State.dmaRelease (s : State) (n : Nat) : State :=
  if s.fld (Reg.dmaChCtrlRate n) ≠ 0 then s.giveTimer (dmaDie n) else s

/-- Requests of a channel that still wait for a request slot were never issued: they go (R205, R206, R276). -/
def State.dmaUnsent (s : State) (n : Nat) : State :=
  let mine := fun (w : SlotWait) => match w.owner with | .dma m k _ => if m = n then some k else none | _ => none
  let ids := s.slotWait.filterMap mine
  let x := s.dma n
  { s.setDma n { x with out := x.out.filter fun q => ! ids.contains q.id } with
    slotWait := s.slotWait.filter fun w => (mine w).isNone }

/-- An abort takes a BUSY channel to DRAINING; of an abort and failing replies in one control clock the lowest status code is kept
(R206). -/
def State.dmaAbort (s : State) (n cause : Nat) : State :=
  let x := s.dma n
  if s.dmaState n = dmaBusyCode then
    ((s.setFld (Reg.dmaChStatusState n) dmaDraining).setDma n { x with aborted := some cause, endAt := s.clk }).dmaUnsent n
  else if s.dmaState n = dmaDraining then
    match x.failed with
    | some (st, _) => if x.endAt = s.clk ∧ stCode .aborted < stCode st then s.setDma n { x with failed := none, aborted := some cause } else s
    | none => s
  else s

/-- Start a channel: checks, then BUSY or HALTED (R199, R202, R208).  `value` is the CTRL word. -/
def State.dmaBegin (s : State) (n value : Nat) : State :=
  let job := if s.flag (Reg.dmaChOwnerBound n) then (s.ctx (s.fld (Reg.dmaChOwnerContext n))).map (·.job) else none
  match s.dmaCheck n value job with
  | some (k, st) =>
    let s := ((s.setFld (Reg.dmaChStatusState n) dmaHalted).setFld (Reg.dmaChStatusStatus n) (stCode st)).setFld
      (Reg.dmaChStatusCheck n) k
    (s.ev 0x0501 (dmaDie n) n (stCode st) k).dmaReport n
  | none =>
    let s := ((s.setPair (Reg.dmaChProgressLoOff n) 0).setPair (Reg.dmaChFaultAddrLoOff n) 0).setReg (Reg.dmaChMismatchCountOff n) 0
    let s := ((s.setFlag (Reg.dmaChStatusMiscompare n) false).setFld (Reg.dmaChStatusCheck n) 0).setFld (Reg.dmaChStatusFlags n) 0
    let s := s.setFld (Reg.dmaChStatusState n) dmaBusyCode
    let x := s.dma n
    let s := s.setDma n { x with job := job, run := 0, offset := 0, issued := false, out := [], failed := none
                                 aborted := none, firstDiff := none, target := (s.dmaTarget n job).getD 0
                                 held := match job with | some j => s.bankHolds j | none => false }
    if s.fld (Reg.dmaChCtrlRate n) ≠ 0 then s.takeTimer (dmaDie n) else s

/-- Enter HALTED once nothing is outstanding (R205, R206): status, events, ERROR in the signal's counter after a failure. -/
def State.dmaHalt (s : State) (n : Nat) : State :=
  let x := s.dma n
  let s := (s.setFld (Reg.dmaChStatusState n) dmaHalted).dmaRelease n
  let s := match x.failed, x.aborted with
    | some (st, a), _ =>
      let s := (s.setFld (Reg.dmaChStatusStatus n) (stCode st)).setPair (Reg.dmaChFaultAddrLoOff n) a
      let s := s.ev 0x0502 (dmaDie n) n (stCode st) (a / 2 ^ 48)
      if s.flag (Reg.dmaChCtrlSignalEn n) && x.target == s.myId then s.raiseErr (s.fld (Reg.dmaChSignalCounter n)) else s
    | none, some c =>
      (s.setFld (Reg.dmaChStatusStatus n) (stCode .aborted)).ev 0x0503 (dmaDie n) n c (s.pair (Reg.dmaChProgressLoOff n))
    | none, none => s
  s.dmaReport n

/-- Finish a transfer (R204): DONE, timer, events, signal, host report.  The report of a remote signal waits for its answer. -/
def State.dmaFinish (s : State) (n : Nat) : State :=
  let x := s.dma n
  let s := ((s.setFld (Reg.dmaChStatusState n) dmaDone).setFld (Reg.dmaChStatusStatus n) 0).dmaRelease n
  let mm := s.fld (Reg.dmaChMismatchCountCount n)
  let s := if mm ≠ 0 then s.ev 0x0504 (dmaDie n) n mm (bits (s.pair (Reg.dmaChFaultAddrLoOff n)) 37 6) else s
  if s.flag (Reg.dmaChCtrlSignalEn n) then
    let c := s.fld (Reg.dmaChSignalCounter n)
    let inc := s.fld (Reg.dmaChSignalIncInc n)
    if x.target = s.myId then
      let t := s.signal c inc x.job
      (if t.2 = .ok then t.1 else t.1.ev 0x0505 (dmaDie n) n s.myId (stCode t.2)).dmaReport n
    else
      let (_, fl, res) := s.dmaResults n
      let s := s.setDma n { x with next := x.next + 1, reply := none
                                   reports := x.reports ++ (x.reply.toList).map fun o => (x.next, o, fl, res) }
      let t := s.issue (.dmaSignal n x.next) s.chipGen x.target 4 (s.flag (Reg.dmaChCtrlTwoPhase n))
        (natLe 4 (x.job.getD 0) ++ natLe 2 c ++ natLe 2 0 ++ natLe 4 inc ++ natLe 4 0) [] false
      match t.2 with
      | none => t.1
      | some e => (t.1.ev 0x0505 (dmaDie n) n x.target (stCode e)).dmaReported n x.next
  else s.dmaReport n

/-- A channel's outstanding bytes (R203). -/
def DmaRun.outBytes (x : DmaRun) : Nat := (x.out.map (·.size)).foldl (· + ·) 0

/-- A request of a channel has failed: it leaves the outstanding ones and the channel drains; the first failure stays, and of
several in one control clock, aborts among them, the lowest status code (R205, R206). -/
def State.dmaFail (s : State) (n : Nat) (q : DmaReq) (st : Status) : State :=
  let x := { s.dma n with out := (s.dma n).out.filter (·.id != q.id) }
  let first := x.failed.isNone && x.aborted.isNone
  let held := match x.failed with | some (e, _) => e | none => .aborted
  let x := if first || (x.endAt == s.clk && decide (stCode st < stCode held)) then { x with failed := some (st, q.addr), endAt := s.clk } else x
  let s := s.setDma n x
  if s.dmaState n = dmaBusyCode then (s.setFld (Reg.dmaChStatusState n) dmaDraining).dmaUnsent n else s

/-- Send a request of a channel: it joins the outstanding ones; one to another module takes a request slot (R203, R273). -/
def State.dmaSend (s : State) (n : Nat) (q : DmaReq) : State :=
  let x := s.dma n
  let q := { q with id := x.next }
  let s := s.setDma n { x with next := x.next + 1, out := x.out ++ [q] }
  if q.addr / 2 ^ 48 = s.myId then s
  else
    let t := s.issue (.dma n q.id q.write) s.chipGen (q.addr / 2 ^ 48) (if q.write then 2 else 1) (s.flag (Reg.dmaChCtrlTwoPhase n))
      (memCmd (x.job.getD 0) (q.addr % 2 ^ 48) (q.size / 64)) (if q.write then q.data else []) q.write
    match t.2 with
    | none => t.1
    | some e => t.1.dmaFail n q e

/-- Blocks that differ count, and the first in loop order gives FAULT_ADDR (R197). -/
def State.dmaCompare (s : State) (n : Nat) (q : DmaReq) (want got : List Byte) : State :=
  match diffBlocks want got with
  | [] => s
  | d :: ds =>
    let s := (s.add (Reg.dmaChMismatchCountCount n) (ds.length + 1)).setFlag (Reg.dmaChStatusMiscompare n) true
    let fixD := ! dmaData n && s.fld (Reg.dmaChCtrlDstMode n) == 1
    let a := q.addr + if fixD then 0 else d
    let better := match (s.dma n).firstDiff with | none => true | some (k, _) => q.order + d < k
    if better then (s.setDma n { s.dma n with firstDiff := some (q.order + d, a) }).setPair (Reg.dmaChFaultAddrLoOff n) a else s

/-- Take a reply to an outstanding request of a channel (R195, R197, R204, R205): a read of the source is followed by the write
or the read of the destination, unless the channel drains. -/
def State.dmaTake (s : State) (n : Nat) (q : DmaReq) (st : Status) (fl : Flags) (data : List Byte) : State :=
  let s := s.setFld (Reg.dmaChStatusFlags n) (Nat.lor (s.fld (Reg.dmaChStatusFlags n)) (flagsCode ⟨false, false, fl.degraded, fl.detoured⟩))
  if st ≠ .ok then s.dmaFail n q st
  else
    let x := s.dma n
    let s := s.setDma n { x with out := x.out.filter (·.id != q.id) }
    if q.write then s.setPair (Reg.dmaChProgressLoOff n) (s.pair (Reg.dmaChProgressLoOff n) + q.size)
    else
      let op := s.dmaOp n
      if op = 3 then s.dmaCompare n q (s.fillBytes n q.size) data
      else if q.second then s.dmaCompare n q q.data data
      else if s.dmaState n = dmaBusyCode then
        s.dmaSend n { q with write := op = 0, second := true, addr := q.dst, data := swapBytes (s.fld (Reg.dmaChCtrlSwap n)) data }
      else s

end Sys2Proof.Machine
end

