-- ==== Sys2Proof/Machine/ContextOps.lean ====
section
/-! DEFINITION. Context abort and destruction (R100, R103, R191, R287, R334, R338), and a replay or end of a running firing
after a loss (R117 to R119). -/

namespace Sys2Proof.Machine

/-- Counters a context owns (R99). -/
def Ctx.counters (x : Ctx) : List Nat := (List.range x.p.syncCount).map (x.p.syncFirst + ·)

/-- Slots a context owns (R99). -/
def Ctx.slots (x : Ctx) : List Nat := (List.range x.p.slotCount).map (x.p.slotFirst + ·)

/-- DMA channels bound to a context (R190). -/
def State.channelsOf (s : State) (c : Nat) : List Nat := (List.range 128).filter fun n => s.dmaBoundTo n c

/-- Stop a queue that exists, with LAST_STATUS left as it stands (R103). -/
def State.haltQueues (s : State) (c : Nat) : State :=
  s.each (List.range 4) fun t q =>
    if t.flag (Reg.fsqCtxQStateExists c q) then t.setFlag (Reg.fsqCtxQStateStopped c q) true else t

/-- A context abort (R103): its running firing ends ABORTED, its queues stop, ERROR sets in its counters; its collectives end
(R312), its bank ends (R334) and its DMA channels are aborted (R191).  `cause` is that of event 0x0204, `dmaCause` that of
event 0x0503, `collCause` that of R312. -/
def State.contextAbort (s : State) (c cause dmaCause : Nat) (collCause : Nat := 3) : State :=
  match (s.ctx c).filter (·.dying.isNone) with
  | none => s
  | some x =>
    let p := x.p.partition
    let entry := match (s.part p).run with
      | some r => if r.ctx = c then r.entry else 2 ^ 32 - 1
      | none => 2 ^ 32 - 1
    let mine := match (s.part p).run with | some r => r.ctx == c | none => false
    let s := if mine && s.bank.part == some p then s.failBank .aborted .memberLost s.myId else s
    let s := if mine then s.cutFiring p .aborted else s
    let s := (s.haltQueues c).each x.counters fun t n => t.raiseErr n
    let s := s.each (s.groupsOf c) fun t g => t.cutColl g .aborted .memberLost collCause t.myId 0
    let s := s.each (s.channelsOf c) fun t n => t.dmaAbort n dmaCause
    s.ev 0x0204 p c cause entry

/-- Unbind a channel (R190, R191). -/
def State.unbind (s : State) (n : Nat) : State := s.setReg (Reg.dmaChOwnerOff n) 0

/-- Return a context's sequence slots to no owner (R125). -/
def State.dropSlots (s : State) (c : Nat) : State := { s with slots := s.slots.filter fun t => t.2.owner != some c }

/-- Free a context's entry: its rick is dissolved with the last context of the job (R322), its rank table released (R338), the
command that destroyed it answered (R100). -/
def State.freeCtx (s : State) (c : Nat) : State :=
  match s.ctx c with
  | none => s
  | some x =>
    let s := (s.each (List.range 4) fun t q =>
      (((t.setReg (Reg.fsqCtxQStateOff c q) 0).setReg (Reg.fsqCtxQHeadOff c q) 0).setReg (Reg.fsqCtxQTailOff c q) 0).setReg
        (Reg.fsqCtxQSizeOff c q) 0).dropSlots c
    let s := { s with ctxs := tdel s.ctxs c }
    let s := if ! s.hasContext x.job && s.rickOn && s.rickJob == x.job then s.dissolve 2 else s
    let s := s.releaseRanks x.job
    match x.dying with
    | some (some o) => s.finish o .ok
    | _ => s

/-- Destroy a context (R100): abort, groups destroyed (R287); its channels are unbound and its entry is freed once none of them has
requests outstanding (R191, R206).  `o` is the command to answer then. -/
def State.destroyContext (s : State) (c cause : Nat) (o : Option Origin) : State :=
  match (s.ctx c).filter (·.dying.isNone) with
  | none => s
  | some _ =>
    let s := s.contextAbort c cause 4
    let s := s.each ((s.channelsOf c).filter fun n => ! s.dmaBusy n) State.unbind
    let s := s.each (s.groupsOf c) fun t g => t.destroyGroup g 2
    match s.ctx c with
    | none => s
    | some x =>
      let s := s.setCtx c { x with dying := some o }
      if (s.channelsOf c).isEmpty then s.freeCtx c else s

/-- A channel has entered HALTED: that of a context being destroyed is unbound, and with the last one the entry is freed. -/
def State.reap (s : State) (n : Nat) : State :=
  let c := s.fld (Reg.dmaChOwnerContext n)
  if s.flag (Reg.dmaChOwnerBound n) && (match s.ctx c with | some x => x.dying.isSome | none => false) then
    let s := s.unbind n
    if (s.channelsOf c).isEmpty then s.freeCtx c else s
  else s

/-! ### Loss and replay -/

/-- Do two address ranges meet? -/
def meets (a n b m : Nat) : Bool := 0 < n && 0 < m && a < b + m && b < a + n

/-- The ranges that a firing writes: output and table, and the rows that an attention firing appends (R127). -/
def writeRanges (d : Desc) (env : Env) : List (Nat × Nat) :=
  (match d.ranges 3 with
    | some (a, n, t, m) => [(a, n), (t, m)]
    | none => [])
  ++ if d.appends then [1, 2].flatMap fun i => env.caps.flatMap fun c => kvRows d c i c.tokens (d.sh 3) else []

/-- Is a firing not replayable (R118): does an output range overlap an input range, the rows read of K and V among them?  A
scatter in add mode reads the words that it changes. -/
def inPlace (d : Desc) (env : Env) : Bool :=
  (d.fam == .scatter && d.subop == 1)
  || (writeRanges d env).any fun w => (readRanges d env).any fun r => ! (d.fam == .scatter && r.1 == 3) && meets w.1 w.2 r.2.1 r.2.2

/-- Holes of a partition. -/
def State.holes (s : State) (p : Nat) : Nat := s.cores p - (s.live p).length

/-- Owners of a firing's units under the hole set now (R112). -/
def State.dealt (s : State) (p : Nat) (units : List Nat) : List Nat :=
  ownersOf (s.cores p) (s.hole p) (s.live p) (units.foldl (· + ·) 0) 0 0

/-- A loss strikes a partition (R117 to R119, R112): its firing, when it is in its frame pass or main pass, is dealt again and
reruns its incomplete tiles, or ends ABORTED.  DEGRADED sets in every case. -/
def State.replay (s : State) (p : Nat) : State :=
  match (s.part p).run with
  | none => s
  | some r =>
    if (r.stage ≠ .framePass ∧ r.stage ≠ .main) ∨ r.fault.isSome then s
    else if (s.live p).isEmpty then
      let s := (s.runFlags p { degraded := true }).faultFiring p { status := .aborted }
      (if s.bank.part = some p then s.failBank .aborted .memberLost s.myId else s).ev 0x0205 p (s.holes p) 0 0
    else if r.units.isEmpty then s
    else
      let r := { r with flags := { r.flags with degraded := true } }
      let s := s.setPart p { s.part p with run := some r }
      let d := r.desc.getD (descOf r.bytes)
      if r.replays ≥ 4 ∨ (inPlace d r.env ∧ r.stage = .main ∧ ¬ (r.tilesOwed.isEmpty ∧ r.strayOwed = 0)) then
        s.faultFiring p { status := .aborted }
      else
        let keep := r.unitsDone.filter fun u => match tileOfUnit r.units u 0 with
          | some t => r.tilesDone.contains t
          | none => false
        let owners := s.dealt p r.units
        let r := { r with replays := r.replays + 1, owners := owners, unitsDone := keep, tilesOwed := [], entries := []
                          strayOwed := r.strayOwed + (r.tilesOwed.map (·.2)).foldl (· + ·) 0 }
        let s := (s.setPart p { s.part p with run := some r }).dealOut p owners keep
        (s.bump (Reg.fsqPartReplaysCount p)).ev 0x0201 p r.ctx r.qe r.replays

end Sys2Proof.Machine
end

