-- ==== Sys2Proof/Machine/LossOps.lean ====
section
/-! DEFINITION. Record writes (R415, R425), the ash list (R83, R432), the loss of columns, engines, cores and kiln dies (R84 to
R90). -/

namespace Sys2Proof.Machine

/-! ### Record writes -/

/-- TYPE of a record (R424). -/
def RecData.type : RecData → Nat
  | .ash _ => 4 | .licences _ => 5 | .plan _ => 6 | .host _ => 7 | .keys _ _ => 8 | .limits _ _ => 9
  | .counters _ _ _ _ => 10 | .lanes _ => 11 | .training => 12

/-- The newer valid copy of a record. -/
def Nvm.read (n : Nvm) : Nat → Option RecData
  | 4 => n.ash.map .ash
  | 5 => some (.licences n.licences)
  | 6 => n.plan.map .plan
  | 7 => n.host.map .host
  | 8 => n.keys.map fun t => .keys t n.floor
  | 9 => n.limits.map fun l => .limits l.1 l.2
  | 10 => some (.counters n.optime n.cycles n.warm n.shutdown)
  | 11 => some (.lanes n.lanes)
  | 12 => if n.training then some .training else none
  | _ => none

/-- Put a record in force. -/
def Nvm.use (n : Nvm) : RecData → Nvm
  | .ash es => { n with ash := some es }
  | .licences t => { n with licences := t }
  | .plan p => { n with plan := some p }
  | .host c => { n with host := some c }
  | .keys t f => { n with keys := some t, floor := max n.floor f }
  | .limits a b => { n with limits := some (a, b) }
  | .counters o c w d => { n with optime := o, cycles := c, warm := w, shutdown := d }
  | .lanes ps => { n with lanes := ps }
  | .training => { n with training := true }

/-- The other copy of a record is valid no more. -/
def Nvm.dropOlder (n : Nvm) (type : Nat) : Nvm := { n with older := n.older.filter fun d => d.type != type }

/-- What a record write stores (R425): it goes to the slot that does not hold the newer valid copy, with SEQ one above. -/
def Nvm.put (n : Nvm) (d : RecData) : Nvm :=
  let t := d.type
  { (n.dropOlder t).use d with older := (n.dropOlder t).older ++ (n.read t).toList, newer := tset n.newer 0 t (1 - tget n.newer 0 t)
                               seqs := tset n.seqs 0 t ((tget n.seqs 0 t + 1) % 2 ^ 32) }

/-- Forget a record that has no valid copy (R424). -/
def Nvm.lose (n : Nvm) (type : Nat) : Nvm :=
  let n := n.dropOlder type
  match type with
  | 4 => { n with ash := none }
  | 5 => { n with licences := [] }
  | 6 => { n with plan := none }
  | 7 => { n with host := none }
  | 8 => { n with keys := none, floor := 0 }
  | 9 => { n with limits := none }
  | 10 => { n with optime := 0, cycles := 0, warm := 0, shutdown := 0 }
  | 11 => { n with lanes := [] }
  | 12 => { n with training := false }
  | _ => n

/-- A copy of a record fails its checks at a start (R425): the other copy is used, the record is absent without one. -/
def Nvm.failCopy (n : Nvm) (type copy : Nat) : Nvm :=
  if tget n.newer 0 type ≠ copy then n.dropOlder type
  else
    let m := { n.lose type with newer := tset n.newer 0 type (1 - copy) }
    match n.older.find? fun d => d.type == type with
    | some d => { m.use d with seqs := tset n.seqs 0 type (tget n.seqs 0 type - 1) }
    | none => m

/-- Bring CTL_NVM_QUEUE in line with the queue (R418). -/
def State.nvmSync (s : State) : State :=
  let n := s.nvmq.length
  let s := s.setFld Reg.ctlNvmQueueDepth (min n 65535)
  if s.fld Reg.ctlNvmQueueHwm < n then s.setFld Reg.ctlNvmQueueHwm (min n 65535) else s

/-- Queue a record write. -/
def State.nvmPut (s : State) (d : RecData) : State := ({ s with nvmq := s.nvmq ++ [d] }).nvmSync

/-- Page 0 of an image. -/
def manifestOf (i : Option Image) : List Byte := match i with | some x => tget x.pages [] 0 | none => []

/-! ### Measurement registers (R450) -/

/-- A measurement register as bytes. -/
def State.measured (s : State) (m : Nat) : List Byte := (List.range 8).flatMap fun w => natLe 4 (s.fld (Reg.secMeasValue m w))

/-- Extend a measurement register with a digest. -/
def State.extend (s : State) (m : Nat) (d : List Byte) : State :=
  let h := hashBytes (sm3 (s.measured m ++ slice d 0 32))
  s.each (List.range 8) fun t w => t.setFld (Reg.secMeasValue m w) (field h (4 * w) 4)

/-- A digest of a record's or part's body whose bytes the model does not hold: a free value. -/
def State.openDigest (s : State) : List Byte := natLe 32 (Config.freeValue s.free)

/-- A record takes effect while the module runs: M7 (R450). -/
def State.extendM7 (s : State) : State := (s.extend 7 s.openDigest).fresh

/-! ### The ash list (R432) -/

/-- Fields of an entry: TYPE, DIE, UNIT, ENGINE, COLUMN. -/
def ashKey (e : Nat) : Nat × Nat × Nat × Nat × Nat := (bits e 63 56, bits e 51 48, bits e 23 14, bits e 13 12, bits e 6 0)

/-- An entry. -/
def ashEntry (type cause die cycle unit engine column : Nat) : Nat :=
  type * 2 ^ 56 + cause * 2 ^ 52 + die * 2 ^ 48 + cycle % 2 ^ 24 * 2 ^ 24 + unit * 2 ^ 14 + engine * 2 ^ 12 + column

/-- Does entry a name the unit of entry b, or a coarser one that contains it? -/
def ashCovers (a b : Nat) : Bool :=
  let (ta, da, ua, ea, ca) := ashKey a
  let (tb, db, ub, eb, cb) := ashKey b
  if ta = tb then da = db && ua = ub && ea = eb && ca = cb
  else match ta with
    | 4 => tb < 4 && da = db
    | 3 => tb < 3 && da = db && ua = ub
    | 2 => tb = 1 && da = db && ua = ub && ea = eb
    | _ => false

/-- The entry one step coarser: a column's engine, an engine's core (R432). -/
def ashCoarser (e : Nat) : Nat :=
  match bits e 63 56 with
  | 1 => e + 2 ^ 56 - bits e 6 0
  | _ => e + 2 ^ 56 - bits e 13 12 * 2 ^ 12

/-- The list with an entry added, and the entry as it stands there; none when the list is unchanged.  `fuel` bounds the steps
to a coarser entry. -/
def ashInsert (list : List Nat) : Nat → Nat → Option (List Nat × Nat)
  | 0, _ => none
  | fuel + 1, e =>
    if list.any fun x => ashCovers x e then none
    else
      let kept := list.filter fun x => ! ashCovers e x
      if kept.length < 4096 then some (kept ++ [e], e)
      else if bits e 63 56 < 3 then ashInsert list fuel (ashCoarser e)
      else
        let drop1 := match kept.find? fun x => bits x 63 56 == 1 with
          | some x => some x
          | none => kept.find? fun x => bits x 63 56 == 2
        some ((match drop1 with | some x => kept.erase x | none => kept) ++ [e], e)

/-- Add a unit to the ash list, with event 0x0E04 and a write of record 0x04 (R83, R432). -/
def State.ashAdd (s : State) (type cause die unit engine column : Nat) : State :=
  match ashInsert s.ash 3 (ashEntry type cause die (s.fld Reg.glbPowerCyclesCount) unit engine column) with
  | none => s
  | some (list, e) =>
    let s := ({ s with ash := list }).setFld Reg.botAshCountEntries list.length
    (s.nvmPut (.ash list)).ev 0x0E04 s.unitSrc (e / 2 ^ 32) (e % 2 ^ 32) (bits e 55 52)

/-! ### Cores (R86, R88, R89) -/

/-- ROLE of a physical core (R93): 0 mapped, 1 free spare, 2 spare under test, 3 lost before, 4 lost during operation. -/
def State.role (s : State) (k p : Nat) : Nat := s.fld (Reg.kilCoreHealthRole k p)

/-- GOOD_SPARES: good cores neither mapped nor lost (R93). -/
def State.spareSync (s : State) (k : Nat) : State :=
  s.setFld (Reg.kilStatusGoodSpares k) ((List.range 162).filter fun p => s.role k p == 1 || s.role k p == 2).length

/-- Mesh hops between two physical clusters of the 3 × 3 mesh (R86). -/
def hops (a b : Nat) : Nat :=
  (a / 3 - b / 3) + (b / 3 - a / 3) + (a % 3 - b % 3) + (b % 3 - a % 3)

/-- The least element of a list by a measure. -/
def least (f : Nat → Nat) : List Nat → Option Nat
  | [] => none
  | x :: xs => match least f xs with
    | none => some x
    | some y => if f x ≤ f y then some x else some y

/-- Order of preference of a core for a home cluster (R86): hops, the spare cluster, cluster number, core number. -/
def nearKey (spare home p : Nat) : Nat :=
  hops (p / 18) home * 100000 + (if p / 18 = spare then 0 else 10000) + p / 18 * 500 + p

/-- nearest_free(h) of R86 over the cores that `free` allows. -/
def nearestFree (spare home : Nat) (free : Nat → Bool) : Option Nat :=
  least (nearKey spare home) ((List.range 162).filter fun p => free p && p / 18 != home)

/-- Map a logical core of a die to a physical core (R88). -/
def State.mapCore (s : State) (k l p home : Nat) : State :=
  let s := ((s.setFlag (Reg.kilCoreMapHole k l) false).setFlag (Reg.kilCoreMapLodger k l) (p / 18 ≠ home)).setFld
    (Reg.kilCoreMapPhys k l) p
  (s.setFld (Reg.kilCoreHealthRole k p) 0).setFld (Reg.kilCoreHealthLogical k p) l

/-- Make a logical core a hole (R88). -/
def State.makeHole (s : State) (k l : Nat) : State :=
  let s := ((s.setFlag (Reg.kilCoreMapHole k l) true).setFlag (Reg.kilCoreMapLodger k l) false).setFld (Reg.kilCoreMapPhys k l) 255
  s.setFld (Reg.kilStatusHoles k) ((List.range 128).filter fun i => s.flag (Reg.kilCoreMapHole k i)).length

/-- The replacement of a lost core of home cluster h (R88, R89): a free spare of the core's own cluster, else the nearest free
one, else the spare under test when its last test ended well; the second part says that the spare under test is marked lost. -/
def State.replacement (s : State) (k p home : Nat) : Option Nat × Option Nat :=
  let free := fun q => s.role k q == 1
  match ((List.range 18).map (18 * (p / 18) + ·)).find? free with
  | some q => (some q, none)
  | none =>
    match nearestFree (s.fld (Reg.kilStatusSpareCluster k)) home free with
    | some q => (some q, none)
    | none =>
      match (List.range 162).find? fun q => s.role k q == 2 with
      | some q => if s.spareDoubt.contains (162 * k + q) then (none, some q) else (some q, none)
      | none => (none, none)

/-! ### Domains -/

/-- The domain that a level and a target number name (log entry 23, DESIGN CHOICE): an engine by 4 × (162 × die + core) + engine, a core by
162 × die + core, a cluster by 9 × die + cluster, a partition by its number and 4 for every kiln die. -/
def domOf (level target : Nat) : Domain :=
  match level with
  | 1 => .engine (target / 4 / 162) (target / 4 % 162) (target % 4)
  | 2 => .core (target / 162) (target % 162)
  | 3 => .cluster (target / 9) (target % 9)
  | 4 => .parts (if target < 4 then 2 ^ target else 15)
  | _ => .chip

/-- Level of a domain (R349). -/
def Domain.level : Domain → Nat
  | .engine _ _ _ => 1
  | .core _ _ => 2
  | .cluster _ _ => 3
  | .parts _ => 4
  | .chip => 5

/-- Bit p: partition p lies in the domain. -/
def State.domMask (s : State) (d : Domain) : Nat :=
  match d with
  | .engine k _ _ => 2 ^ s.partOf k
  | .core k _ => 2 ^ s.partOf k
  | .cluster k _ => 2 ^ s.partOf k
  | .parts m => m
  | .chip => (s.partitions.map (2 ^ ·)).foldl (· + ·) 0

/-- Partitions of a domain of level 4 or 5. -/
def Domain.partList : Domain → List Nat
  | .parts m => (List.range 4).filter (bit m)
  | .chip => [0, 1, 2, 3]
  | _ => []

/-- Kiln dies of a domain. -/
def State.domDies (s : State) (d : Domain) : List Nat :=
  match d with
  | .engine k _ _ => [k]
  | .core k _ => [k]
  | .cluster k _ => [k]
  | .parts m => (List.range 4).filter fun k => bit m (s.partOf k)
  | .chip => [0, 1, 2, 3]

/-- A reset of any level is in progress on a kiln die. -/
def State.dieInReset (s : State) (k : Nat) : Bool := s.resets.any fun r => (s.domDies r.dom).contains k

/-- Physical cores of a domain, by die. -/
def State.domCores (s : State) (d : Domain) : List (Nat × Nat) :=
  match d with
  | .engine k p _ => [(k, p)]
  | .core k p => [(k, p)]
  | .cluster k c => (List.range 18).map fun i => (k, 18 * c + i)
  | d => (s.domDies d).flatMap fun k => (List.range 162).map fun p => (k, p)

/-- Does domain a hold domain b (R371)? -/
def State.domHolds (s : State) (a b : Domain) : Bool :=
  match a, b with
  | .chip, _ => true
  | .parts m, .parts n => (List.range 4).all fun p => ! bit n p || bit m p
  | .parts _, .chip => false
  | .parts m, b => (List.range 4).all fun p => ! bit (s.domMask b) p || bit m p
  | .cluster k c, .cluster l e => k == l && c == e
  | .cluster k c, .core l p => k == l && c == p / 18
  | .cluster k c, .engine l p _ => k == l && c == p / 18
  | .core k p, .core l q => k == l && p == q
  | .core k p, .engine l q _ => k == l && p == q
  | .engine k p e, .engine l q f => k == l && p == q && e == f
  | _, _ => false

/-- Parameter 2 of event 0x0D01 (R373): the partition mask, or core and die. -/
def State.domParam (s : State) (d : Domain) : Nat :=
  match d with
  | .engine k p _ => p * 256 + k * 65536
  | .core k p => p * 256 + k * 65536
  | .cluster k c => 18 * c * 256 + k * 65536
  | d => s.domMask d

/-! ### RST_STATUS (R372) -/

/-- Bring RST_STATUS and KIL_k_STATUS.RESETTING in line with what is in progress. -/
def State.rstSync (s : State) : State :=
  let levels := s.resets.map (·.dom.level) ++ (if s.ladder.isEmpty then [] else [0]) ++ (if s.cycling then [6] else [])
  let top := if levels.isEmpty then 15 else levels.foldl max 0
  let mask := (List.range 4).foldl (fun acc p => acc + b2n (s.resets.any fun r => match r.dom with
    | .parts m => bit m p
    | _ => false) * 2 ^ p) 0
  let s := (s.setFld Reg.rstStatusPartResetting mask).setFlag Reg.rstStatusChipResetting (s.resets.any (·.dom == .chip))
  let s := (s.setFld Reg.rstStatusLevel top).setFlag Reg.rstStatusStopped
    (s.flag Reg.rstStatusStopped && (s.flag Reg.rstStatusNoControlUnit || s.resets.any (·.failed)))
  s.each (List.range 4) fun t k =>
    t.setFlag (Reg.kilStatusResetting k) (t.resets.any fun r => 4 ≤ r.dom.level && (t.domDies r.dom).contains k)

/-! ### Loss of a core (R88) -/

/-- A reset of the whole die in progress whose post-reset check is still to come (R371). -/
def Reset.coversDie (r : Reset) (dies : Nat → List Nat) (k : Nat) : Bool :=
  match r.dom with
  | .chip => true
  | .parts m => (List.range 4).any fun p => bit m p && (dies p).contains k
  | _ => false

/-- Loss of a physical core (R88): cause of event 0x0301 and cause of its ash entry, 0 when its engine's entry stands for it
(log entry 24, DESIGN CHOICE).  During a reset of its die it joins the ash list at once (R83) and is handled at the post-reset check
(R371). -/
def State.loseCore (s : State) (k p cause ashCause : Nat) : State :=
  if s.flag (Reg.kilStatusLost k) ∨ s.role k p ≥ 3 then s
  else if s.resets.any fun r => r.coversDie s.dies k && ! r.checked then
    let s := if ashCause = 0 then s else s.ashAdd 3 ashCause k p 0 0
    { s with resets := s.resets.map fun r =>
        if r.coversDie s.dies k && ! r.checked then { r with late := r.late ++ [(k, p, cause, 0)] } else r }
  else
    let l := s.fld (Reg.kilCoreHealthLogical k p)
    let mapped := s.role k p == 0
    let s := if s.role k p = 2 then s.setFld (Reg.rstSpareTestDieCurrent k) 255 else s
    let s := (s.setFld (Reg.kilCoreHealthRole k p) 4).setFld (Reg.kilCoreHealthLogical k p) 255
    let s := s.ev 0x0301 k p (if mapped then l else 255) cause
    let s := if ashCause = 0 then s else s.ashAdd 3 ashCause k p 0 0
    if ¬ mapped then s.spareSync k
    else
      let home := bits (s.fld (Reg.kilClusterMapClusters k)) (4 * (l / 16) + 3) (4 * (l / 16))
      let s := s.setFlag (Reg.kilEventsCoreLost k) true
      let (q, bad) := s.replacement k p home
      let s := match bad with
        | some b => ((s.setFld (Reg.kilCoreHealthRole k b) 4).setFld (Reg.rstSpareTestDieCurrent k) 255).ashAdd 3 5 k b 0 0
        | none => s
      let s := match q with
        | some q =>
          let s := if s.role k q = 2 then s.setFld (Reg.rstSpareTestDieCurrent k) 255 else s
          (s.mapCore k l q home).ev 0x0302 k l p (q + b2n (q / 18 ≠ home) * 2 ^ 31)
        | none => (s.makeHole k l).ev 0x0303 k l p 0
      (s.spareSync k).replay (s.partOf k)

/-! ### Columns and engines (R84, R85) -/

/-- Index of an engine. -/
def engIndex (k p e : Nat) : Nat := 4 * (162 * k + p) + e

/-- SKIP0 and SKIP1 for the bad columns of an engine (R84). -/
def skips (bad : List Nat) : Nat × Nat :=
  let good := (List.range 66).reverse.filter fun c => ! bad.contains c
  let two := sortBy id ((bad ++ good).take 2)
  (two.getD 0 0, two.getD 1 0)

/-- An engine is lost, and its core with it (R85, R88). -/
def State.loseEngine (s : State) (k p e count : Nat) : State :=
  let s := ((s.setFlag (Reg.kilColMapEngineLost k p e) true).setFlag (Reg.kilEventsEngineLost k) true).ev 0x0306 k p e count
  (s.ashAdd 2 9 k p e 0).loseCore k p 3 0

/-- A reset is asked for (R353). -/
def State.askReset (s : State) (q : ResetReq) : State := { s with resetReqs := s.resetReqs ++ [q] }

/-- The column map of an engine is rewritten during its reset (R72, R84, R85, R349): event 0x0305 where it changes. -/
def State.remap (s : State) (k p e : Nat) : State :=
  let bad := tget s.badCols [] (engIndex k p e)
  let (a, b) := skips bad
  if bad.length > 2 ∨ (s.fld (Reg.kilColMapSkip0 k p e) = a ∧ s.fld (Reg.kilColMapSkip1 k p e) = b) then s
  else
    let s := (s.setFld (Reg.kilColMapSkip0 k p e) a).setFld (Reg.kilColMapSkip1 k p e) b
    (s.setFlag (Reg.kilEventsColumnSpared k) true).ev 0x0305 k p e (b * 256 + a)

/-- A column is declared bad in operation (R84, R85): an active one has its engine reset, which rewrites the map. -/
def State.badColumn (s : State) (k p e c : Nat) : State :=
  let old := tget s.badCols [] (engIndex k p e)
  if old.contains c then s
  else
    let bad := old ++ [c]
    let s := { s with badCols := tset s.badCols [] (engIndex k p e) bad }
    let s := (s.setFld (Reg.kilColMapBadCount k p e) bad.length).ashAdd 1 3 k p e c
    if bad.length > 2 then s.loseEngine k p e bad.length
    else if s.fld (Reg.kilColMapSkip0 k p e) = c ∨ s.fld (Reg.kilColMapSkip1 k p e) = c then s
    else
      let s := s.askReset { level := 1, target := engIndex k p e, cause := 4 }
      if s.role k p = 0 then s.replay (s.partOf k) else s

/-! ### Kiln dies (R90) -/

/-- A loss of the whole die overrides the engine, core and cluster resets of it, waiting or in progress (R90). -/
def State.dropLower (s : State) (k : Nat) : State :=
  let mine := fun (d : Domain) => d.level ≤ 3 && (s.domDies d).contains k
  let reqs := s.resetReqs.filter fun q => 4 ≤ q.level || ! mine (domOf q.level q.target)
  let resets := s.resets.filter fun r => ! mine r.dom
  let s := { s with resetReqs := reqs, resets := resets.map fun (r : Reset) => { r with late := r.late.filter fun x => x.1 != k } }
  (s.setFlag Reg.rstSnapStatusBusy (s.resets.any fun x => x.slot.isSome && ! x.snapDone)).rstSync

/-- A kiln die's compute is lost (R90): every logical core a hole, LOST, event 0x030A.  Cause 1 mesh router, 2 bridge port,
3 over-temperature, 4 reset failed; the ash list takes all but cause 3 (R432, R514).  The cores that were not lost before, spares
among them, show ROLE lost during operation, and none is a good spare (log entry 24, DESIGN CHOICE). -/
def State.loseDie (s : State) (k cause : Nat) : State :=
  if s.flag (Reg.kilStatusLost k) then s
  else
    let mapped := 128 - s.fld (Reg.kilStatusHoles k)
    let s := s.each (List.range 128) fun t l => t.makeHole k l
    let s := s.each (List.range 162) fun t p =>
      if t.role k p = 3 then t else (t.setFld (Reg.kilCoreHealthRole k p) 4).setFld (Reg.kilCoreHealthLogical k p) 255
    let s := ((s.setFlag (Reg.kilStatusLost k) true).spareSync k).setFld (Reg.rstSpareTestDieCurrent k) 255
    let s := { s.dropLower k with storeDue := s.storeDue.filter (fun x => x.1 != k), residue := s.residue.filter fun x => x.1 != k }
    let s := s.ev 0x030A k mapped cause 0
    let s := if cause = 3 then s else s.ashAdd 4 (if cause = 4 then 11 else 12) k 0 0 0
    s.replay (s.partOf k)

/-- A core that the module could still lose: on a die whose compute is not lost, not lost itself. -/
def State.coreAlive (s : State) (k p : Nat) : Bool :=
  k < 4 && p < 162 && ! s.flag (Reg.kilStatusLost k) && decide (s.role k p < 3)

/-- A store unit that can be read: a physical core of a die that is not lost, or 0x100 + a cluster. -/
def State.storeAlive (s : State) (k unit : Nat) : Bool :=
  k < 4 && ! s.flag (Reg.kilStatusLost k) && (if unit < 256 then s.coreAlive k unit else unit < 265)

/-- Single-bit errors of a partition's stores, corrected as they were read (R82, R93, R94): die, unit of the store, word. -/
def State.storesCorrected (s : State) (p : Nat) (cs : List (Nat × Nat × Nat)) : State :=
  s.each (cs.filter fun x => s.storeAlive x.1 x.2.1 && s.partOf x.1 == p) fun t x =>
    (t.bump (Reg.kilStoreCorrectedCount x.1)).ev 0x0307 x.1 x.2.1 x.2.2 0

end Sys2Proof.Machine
end

