-- ==== Sys2Proof/Machine/ReplyOps.lean ====
section
/-! DEFINITION. What the end of a request slot does to its holder (R109, R113, R123, R159, R204, R277, R312, R331, R343). -/

namespace Sys2Proof.Machine

/-! ### Rebuild (R343) -/

/-- This peer's share of a rebuild of position x: data units first, then parity lines; item i as (is a unit, its number). -/
def State.rebuildItem (s : State) (x i : Nat) : Bool × Nat :=
  let p := s.fld Reg.bnkStatusPosition
  let lines := s.unitCount / 7
  if i < lines then (true, 7 * i + (p + 16 - x - 1) % 8)
  else (false, 7 * (i - lines) + (if p < x then p else p - 1))

/-- Items of this peer's share. -/
def State.rebuildTotal (s : State) (x : Nat) : Nat :=
  let p := s.fld Reg.bnkStatusPosition
  let lines := s.unitCount / 7
  lines + (lines + 6 - (if p < x then p else p - 1)) / 7

/-- Unit of member m in the stripe whose line stands at holder h (R323). -/
def stripeUnit (line h m : Nat) : Nat := 7 * line + (h + 16 - m - 1) % 8

/-- A request of a rebuild cannot be sent or has failed: the first status stays (R343). -/
def State.rebuildFail (s : State) (e : Status) : State :=
  match s.bank.rebuild with
  | some c =>
    let f := match c.failed with | some x => some x | none => some e
    { s with bank := { s.bank with rebuild := some { c with owed := c.owed - 1, failed := f } } }
  | none => s

/-- Begin the next item of a rebuild: this peer's own part, and PARITY_READs of the six other members. -/
def State.rebuildNext (s : State) : State :=
  match s.bank.rebuild with
  | none => s
  | some b =>
    if b.failed.isSome ∨ b.next ≥ s.rebuildTotal b.lost then s
    else
      let p := s.fld Reg.bnkStatusPosition
      let (unit, n) := s.rebuildItem b.lost b.next
      let line := if unit then n / 7 else n
      let own := if unit then s.lineAddr line else s.unitAddr (stripeUnit line b.lost p)
      let (s, st, data) := s.readAs 4 own 4096
      if st ≠ .ok then { s with bank := { s.bank with rebuild := some { b with failed := some st } } }
      else
        let others := (List.range 8).filter fun m => m != p && m != b.lost
        let s := { s with bank := { s.bank with rebuild := some { b with acc := data, owed := 6 } } }
        s.each others fun t m =>
          let a := t.unitAddr (stripeUnit line (if unit then p else b.lost) m)
          let u := t.issue (.bank 1 m) 0 (t.peers.getD m 0) 0x42 false (natLe 4 t.rickJob ++ natLe 8 a ++ natLe 4 0) [] false
          match u.2 with
          | none => u.1
          | some e => u.1.rebuildFail e

/-- Write a finished item to the spare (R343). -/
def State.rebuildWrite (s : State) (b : Rebuild) : State :=
  let (unit, n) := s.rebuildItem b.lost b.next
  let a := if unit then s.unitAddr n else s.lineAddr n
  let s := { s with bank := { s.bank with rebuild := some { b with owed := 1 } } }
  let u := s.issue (.bank 2 0) 0 b.spare 2 false (memCmd s.rickJob a 64) b.acc true
  match u.2 with
  | none => u.1
  | some e => { u.1 with bank := { u.1.bank with rebuild := some { b with owed := 0, failed := some e } } }

/-- A request of the bank engine is answered: kind 0 a DELTA, 1 a PARITY_READ of a rebuild, 2 a rebuild write. -/
def State.bankAnswered (s : State) (kind src : Nat) (st : Status) (data : List Byte) : State :=
  match kind with
  | 0 =>
    let f := if st = Status.ok ∨ s.bank.foldFail.isSome then s.bank.foldFail else some (st, src)
    let s := if s.bank.folded % 1024 = 0 then s.bankProgress else s
    ({ s with bank := { s.bank with owed := s.bank.owed - 1, foldFail := f } }).sendDelta
  | _ =>
    match s.bank.rebuild with
    | none => s
    | some b =>
      let b := { b with owed := b.owed - 1, failed := if st = .ok ∨ b.failed.isSome then b.failed else some st }
      if kind = 1 then
        let b := if st = .ok then { b with acc := xorBytes b.acc data } else b
        let s := { s with bank := { s.bank with rebuild := some b } }
        if b.owed = 0 ∧ b.failed.isNone then s.rebuildWrite b else s
      else if b.failed.isNone then
        let s := { s with bank := { s.bank with rebuild := some { b with next := b.next + 1 } } }
        (s.setFld Reg.bnkRebuildDoneCount (b.next + 1)).rebuildNext
      else { s with bank := { s.bank with rebuild := some b } }

/-! ### Firings -/

/-- The status and flags of a fabric access reach a firing (R109): `ours` are the flags that count; a status other than OK is a
fault, of the replying module, none when no reply came. -/
def State.accessDone (s : State) (p slot : Nat) (by_ : Option Nat) (st : Status) (ours : Flags) : State :=
  let s := s.runFlags p ours
  if st = .ok then s else s.faultFiring p { status := st, slot := slot, module := by_ }

/-- A remote read of a firing is answered (R109). -/
def State.operandAnswered (s : State) (p id addr slot : Nat) (by_ : Option Nat) (st : Status) (fl : Flags) (data : List Byte) : State :=
  match (s.part p).run with
  | some r =>
    if r.id = id ∧ 0 < r.readsOwed then
      let r := { r with readsOwed := r.readsOwed - 1, remote := if st = .ok then r.remote ++ [(addr, data)] else r.remote }
      (s.setPart p { s.part p with run := some r }).accessDone p slot by_ st ⟨false, false, fl.degraded, fl.detoured⟩
    else s
  | none => s

/-- Distinguishes the runs of a firing that is replayed (R119): writes of an earlier run answer no tile of this one; the operands
that other modules send serve every run. -/
def Run.pass (r : Run) : Nat := r.id * 8 + r.replays

/-- A write response that a tile owed has come: with its last one the tile is complete (R113), and that is progress (R129). -/
def Run.answered (r : Run) (tile clk : Nat) : Run :=
  match tfind r.tilesOwed tile with
  | none => r
  | some n =>
    if 1 < n then { r with tilesOwed := tput r.tilesOwed tile (n - 1) }
    else { r with tilesOwed := tdel r.tilesOwed tile, tilesDone := r.tilesDone ++ [tile], progress := clk }

/-- Write a tile's bytes to this module's memory. -/
def State.writeHere (s : State) (p job slot a : Nat) (bs : List Byte) : State :=
  let t := s.save (.firing job) (a % 2 ^ 48) bs
  if t.2 = .ok then t.1 else t.1.faultFiring p { status := t.2, slot := slot }

/-- The requests that write bytes to another module (R110, R169): (opcode, address, ATTR, data), masked where a block is written
in part. -/
def writePieces : Nat → Nat → List Byte → List (Nat × Nat × Nat × List Byte)
  | 0, _, _ => []
  | fuel + 1, a, bs =>
    if bs.isEmpty then []
    else if a % 64 = 0 ∧ 64 ≤ bs.length then
      let n := min (bs.length / 64 * 64) (4096 - a % 4096)
      (2, a, n / 64, bs.take n) :: writePieces fuel (a + n) (bs.drop n)
    else
      let o := a % 64
      let n := min bs.length (64 - o)
      let block := List.replicate o 0 ++ bs.take n ++ List.replicate (64 - o - n) 0
      (6, a - o, 1, block ++ natLe 8 ((2 ^ n - 1) * 2 ^ o) ++ List.replicate 24 0) :: writePieces fuel (a + n) (bs.drop n)

/-- A byte of an operand read from another module. -/
def remoteByte (rs : List (Nat × List Byte)) (a : Nat) : Byte :=
  match rs.find? fun r => r.1 ≤ a && a < r.1 + r.2.length with
  | some r => r.2.getD (a - r.1) 0
  | none => 0

/-- Patch bytes read from another module with bytes since written there. -/
def patchRemote (rs : List (Nat × List Byte)) (a : Nat) (bs : List Byte) : List (Nat × List Byte) :=
  rs.map fun r => (r.1, (r.2.zipIdx).map fun x => if a ≤ r.1 + x.2 ∧ r.1 + x.2 < a + bs.length then bs.getD (r.1 + x.2 - a) 0 else x.1)

/-- Requests of a tile to another module, as (opcode, address, ATTR, data): the tile owes their answers. -/
def State.sendTile (s : State) (p tile job dest : Nat) (owner : Run → ReqOwner) (ps : List (Nat × Nat × Nat × List Byte)) : State :=
  match (s.part p).run with
  | none => s
  | some r =>
    let two := match r.desc with | some d => d.twoPhase | none => false
    let s := s.setPart p { s.part p with run := some { r with tilesOwed := tput r.tilesOwed tile (tget r.tilesOwed 0 tile + ps.length) } }
    s.each ps fun t x =>
      let u := t.issue (owner r) (t.genOf p) dest x.1 two (memCmd job x.2.1 x.2.2.1) x.2.2.2 true
      match u.2, (u.1.part p).run with
      | some e, some q => (u.1.setPart p { u.1.part p with run := some (q.answered tile u.1.clk) }).accessDone p 3 none e {}
      | _, _ => u.1

/-- Write a tile's bytes to another module. -/
def State.writeAway (s : State) (p tile job slot a : Nat) (bs : List Byte) : State :=
  match (s.part p).run with
  | none => s
  | some r =>
    (s.setPart p { s.part p with run := some { r with remote := patchRemote r.remote a bs } }).sendTile p tile job (a / 2 ^ 48)
      (fun r => .tile p r.pass tile slot) (writePieces (bs.length / 64 + 3) (a % 2 ^ 48) bs)

/-- Write bytes of a tile where they belong. -/
def State.writeOut (s : State) (p tile job slot a : Nat) (bs : List Byte) : State :=
  if a / 2 ^ 48 = s.myId then s.writeHere p job slot a bs else s.writeAway p tile job slot a bs

/-- The frame-table entries of a tile whose additions have all been made are written (R116): FIXED_F, with the stored OVF or that
of a saturation. -/
def State.writeEntries (s : State) (p tile : Nat) : State :=
  match (s.part p).run with
  | none => s
  | some r =>
    let d := r.desc.getD (descOf r.bytes)
    let job := match s.ctx r.ctx with | some x => x.job | none => 0
    let mine := r.entries.filter fun e => e.1 == tile
    let s := s.setPart p { s.part p with run := some { r with entries := r.entries.filter fun e => e.1 != tile } }
    s.each mine fun t e =>
      let old := leNat (if e.2 / 2 ^ 48 = t.myId then t.bytes (e.2 % 2 ^ 48) 4 else (List.range 4).map fun i => remoteByte r.remote (e.2 + i))
      t.writeOut p tile job 3 e.2 (entryBytes d.fixedF (bit old 16 || r.ovf.contains e.2))

/-- A tile owes one response less; before its last one, the frame-table entries of its additions are written. -/
def State.releaseTile (s : State) (p tile : Nat) : State :=
  let ready := match (s.part p).run with
    | some r => tget r.tilesOwed 0 tile ≤ 1 && r.entries.any (·.1 == tile)
    | none => false
  let s := if ready then s.writeEntries p tile else s
  match (s.part p).run with
  | some r => s.setPart p { s.part p with run := some (r.answered tile s.clk) }
  | none => s

/-- A remote write of a tile is answered (R109, R113); one of a run before a replay is no longer owed by its tile (R131). -/
def State.tileAnswered (s : State) (p id tile slot : Nat) (by_ : Option Nat) (st : Status) (fl : Flags) : State :=
  match (s.part p).run with
  | some r =>
    if r.id = id / 8 then
      (if r.pass = id then s.releaseTile p tile
        else s.setPart p { s.part p with run := some { r with strayOwed := r.strayOwed - 1 } }).accessDone p slot by_ st fl
    else s
  | none => s

/-- A remote addition of a scatter is answered (R116, R175). -/
def State.addAnswered (s : State) (p id tile entry : Nat) (by_ : Option Nat) (st : Status) (fl : Flags) : State :=
  (match (s.part p).run with
    | some r =>
      if r.id = id / 8 ∧ fl.tally then s.setPart p { s.part p with run := some { r with ovf := entry :: r.ovf } } else s
    | none => s).tileAnswered p id tile 3 by_ st fl

/-! ### Any holder -/

/-- The request of a slot has ended with a status (R277): what its holder does.  `src` is the module that was asked, `by_` the
one that replied, none when no reply came. -/
def State.answered (s : State) (w : ReqOwner) (src : Nat) (by_ : Option Nat) (st : Status) (fl : Flags) (data : List Byte) : State :=
  match w with
  | .operand p id a i => s.operandAnswered p id a i by_ st fl data
  | .tile p id t i => s.tileAnswered p id t i by_ st fl
  | .tadd p id t e => s.addAnswered p id t e by_ st fl
  | .signal p id _ => s.signalAnswered p id src st
  | .record p c => if st = .ok then s.countRecord p else s.ev 0x0209 p c src (stCode st)
  | .collRecord g => if st = .ok then s.countColl else s.ev 0x0209 (s.groupPart g) (s.groupCtx g) src (stCode st)
  | .dma n id _ =>
    (match (s.dma n).out.find? fun q => q.id == id with
      | some q => s.dmaTake n q st fl data
      | none => s)
  | .dmaSignal n k => (if st = .ok then s else s.ev 0x0505 (dmaDie n) n src (stCode st)).dmaReported n k
  | .coll _ => s
  | .collSignal g _ => if st = .ok then s else s.ev 0x0208 (s.groupPart g) (s.groupCtx g) src (stCode st)
  | .bank k _ => s.bankAnswered k src st data
  | .none => s

/-- End a held slot with a status and tell its holder (R276, R277). -/
def State.closeSlot (s : State) (die n : Nat) (by_ : Option Nat) (st : Status) (fl : Flags) (data : List Byte) : State :=
  let x := s.slotAt die n
  if x.busy then (s.endSlot die n).answered x.owner x.dest by_ st fl data else s

/-- Take a reply packet (R277): delivered to its slot's holder, or dropped as stale. -/
def State.takeReply (s : State) (p : Packet) : State :=
  match s.matchSlot p with
  | some (die, n, _) => s.closeSlot die n (some p.src) p.status p.flags p.data
  | none => s.staleReply p

end Sys2Proof.Machine
end

