-- ==== Sys2Proof/Machine/Contexts.lean ====
section
/-! DEFINITION. The context, queue, sync-counter and slot commands (R99 to R103, R121 to R128, R387, R390). -/

namespace Sys2Proof.Machine

/-- One of some numbers, which one being open: chosen by a free value (log entry 14, DESIGN CHOICE). -/
def pick (xs : List Nat) (v : Nat) : Nat := xs.getD (v % xs.length) 0

/-- NOP. -/
def execNop (o : Origin) (s : State) : Host.Outcome State Fault Refusal :=
  s.granted fun s => s.hostCmd o 0x00 fun s => s.finish o .ok

/-! ### Contexts -/

/-- Do two ranges of numbers overlap? -/
def overlaps (a n b m : Nat) : Bool := 0 < n && 0 < m && a < b + m && b < a + n

/-- Free context entries. -/
def State.freeCtxs (s : State) : List Nat := (List.range 512).filter fun c => (s.ctx c).isNone

/-- The status of a context creation (R100, R135). -/
def State.createStatus (s : State) (p : CtxParams) : Status :=
  if ¬ s.base then .licence
  else if s.provisional ∨ s.flag Reg.memStatusShortSeam then .state
  else if p.weight = 0 ∨ 15 < p.weight ∨ p.queues = 0 ∨ 4 < p.queues
      ∨ ((p.rings.take p.queues).any fun r => r.2 < 4 || 16 < r.2) ∨ p.rings.length < p.queues ∨ 3 < p.partition then .shape
  else if s.freeCtxs.isEmpty then .length
  else if (s.dies p.partition).isEmpty then .state
  else if s.fenced p.partition then .fenced
  else if 4096 < p.syncFirst + p.syncCount ∨ 1024 < p.slotFirst + p.slotCount
      ∨ (s.ctxs.any fun c => overlaps p.syncFirst p.syncCount c.2.p.syncFirst c.2.p.syncCount
          || overlaps p.slotFirst p.slotCount c.2.p.slotFirst c.2.p.slotCount) then .access
  else .ok

/-- Make a context's entry and its queues (R99, R101, R104). -/
def State.makeCtx (s : State) (c : Nat) (p : CtxParams) (job : Nat) : State :=
  (s.setCtx c { p := p, job := job, credit := p.weight }).each (List.range p.queues) fun t q =>
    (((t.setReg (Reg.fsqCtxQStateOff c q) 0).setFlag (Reg.fsqCtxQStateExists c q) true).setFld (Reg.fsqCtxQSizeLog2 c q)
      (p.rings.getD q (0, 4)).2)

/-- CONTEXT_CREATE (R99, R100): which free entry it takes is a free value. -/
def State.doContextCreate (o : Origin) (p : CtxParams) (s : State) : State :=
  match s.createStatus p with
  | .ok =>
    let c := pick s.freeCtxs (Config.freeValue s.free)
    (s.fresh.makeCtx c p (s.sessJob o.sess)).finish o .ok {} (natLe 2 c)
  | st => s.finish o st

/-- CONTEXT_CREATE. -/
def execContextCreate (o : Origin) (p : CtxParams) (s : State) : Host.Outcome State Fault Refusal :=
  s.granted fun s => s.hostCmd o 0x10 (State.doContextCreate o p)

/-- A command on a context of the session's job: ACCESS otherwise (R387). -/
def State.withCtx (s : State) (o : Origin) (c : Nat) (f : Ctx → State) : State :=
  match s.ownCtx o c with
  | some x => f x
  | none => s.finish o .access

/-- CONTEXT_DESTROY (R100). -/
def execContextDestroy (o : Origin) (c : Nat) (s : State) : Host.Outcome State Fault Refusal :=
  s.granted fun s => s.hostCmd o 0x11 fun s => s.withCtx o c fun _ => s.destroyContext c 4 (some o)

/-- CONTEXT_ABORT (R103). -/
def execContextAbort (o : Origin) (c : Nat) (s : State) : Host.Outcome State Fault Refusal :=
  s.granted fun s => s.hostCmd o 0x12 fun s => s.withCtx o c fun _ => (s.contextAbort c 1 2).finish o .ok

/-! ### Queues -/

/-- Entries of a queue's ring. -/
def State.ringSize (s : State) (c q : Nat) : Nat := 2 ^ s.fld (Reg.fsqCtxQSizeLog2 c q)

/-- Would a doorbell move the tail past the head (R101)?  Positions count forward from the head. -/
def passesHead (size head tail new : Nat) : Bool := (new + size - head) % size < (tail + size - head) % size

/-- DOORBELL (R101, R354). -/
def State.doDoorbell (o : Origin) (c q tail : Nat) (s : State) : State :=
  s.withCtx o c fun x =>
    let n := s.ringSize c q
    if s.fenced x.p.partition then s.finish o .fenced
    else if x.p.queues ≤ q ∨ n ≤ tail then s.finish o .shape
    else if passesHead n (s.fld (Reg.fsqCtxQHeadHead c q)) (s.fld (Reg.fsqCtxQTailTail c q)) tail then s.finish o .length
    else (s.setFld (Reg.fsqCtxQTailTail c q) tail).finish o .ok

/-- DOORBELL. -/
def execDoorbell (o : Origin) (c q tail : Nat) (s : State) : Host.Outcome State Fault Refusal :=
  s.granted fun s => s.hostCmd o 0x13 (State.doDoorbell o c q tail)

/-- QUEUE_RESTART (R102, R354). -/
def State.doRestart (o : Origin) (c q entry : Nat) (s : State) : State :=
  s.withCtx o c fun x =>
    if s.fenced x.p.partition then s.finish o .fenced
    else if x.p.queues ≤ q ∨ s.ringSize c q ≤ entry then s.finish o .shape
    else if ¬ s.flag (Reg.fsqCtxQStateStopped c q) then s.finish o .state
    else
      (((s.setCtx c { x with heads := x.heads.filter fun h => h.1 != q }).setFld (Reg.fsqCtxQHeadHead c q) entry).setFlag
        (Reg.fsqCtxQStateStopped c q) false).finish o .ok

/-- QUEUE_RESTART. -/
def execQueueRestart (o : Origin) (c q entry : Nat) (s : State) : Host.Outcome State Fault Refusal :=
  s.granted fun s => s.hostCmd o 0x14 (State.doRestart o c q entry)

/-! ### Sync counters -/

/-- A command on a counter that a context of the session's job owns: ACCESS otherwise (R135, R387; log entry 27, DEDUCED). -/
def State.withCounter (s : State) (o : Origin) (n : Nat) (f : State) : State :=
  match (if n < 4096 then s.counterOwner n else none) with
  | some (_, x) => if x.job = s.sessJob o.sess then f else s.finish o .access
  | none => s.finish o .access

/-- SYNC_SET (R124). -/
def State.doSyncSet (o : Origin) (n : Nat) (clear : Bool) (v : Nat) (s : State) : State :=
  s.withCounter o n (((if clear then s.setSyncErr n false else s).setSync n v).finish o .ok)

/-- SYNC_SET. -/
def execSyncSet (o : Origin) (n : Nat) (clear : Bool) (v : Nat) (s : State) : Host.Outcome State Fault Refusal :=
  s.granted fun s => s.hostCmd o 0x16 (State.doSyncSet o n clear v)

/-- SYNC_WAIT (R122, R390). -/
def State.doSyncWait (o : Origin) (n target us : Nat) (s : State) : State :=
  if us = 0 ∨ 10 ^ 8 < us then s.finish o .length
  else s.withCounter o n
    (if s.syncErr n then s.finish o .aborted {} (natLe 4 (s.sync n))
      else if waitDone (s.sync n) target then s.finish o .ok {} (natLe 4 (s.sync n))
      else { s with syncWaits := s.syncWaits ++ [⟨o, n, target⟩] })

/-- SYNC_WAIT. -/
def execSyncWait (o : Origin) (n target us : Nat) (s : State) : Host.Outcome State Fault Refusal :=
  s.granted fun s => s.hostCmd o 0x17 (State.doSyncWait o n target us)

/-- SYNC_WAIT_TIMEOUT (R390): a wait that still stands ends TIMEOUT with the counter's value. -/
def execSyncWaitTimeout (o : Origin) (s : State) : Host.Outcome State Fault Refusal :=
  s.does fun s =>
    match s.syncWaits.find? (·.o == o) with
    | some w => ({ s with syncWaits := s.syncWaits.filter (·.o != o) }).finish o .timeout {} (natLe 4 (s.sync w.counter))
    | none => s

/-! ### Sequence slots -/

/-- The context a slot command acts for: the one it names on opening, the slot's owner otherwise (R125). -/
def State.slotCtx (s : State) (c : SlotCmd) (p : SlotParams) : Option Nat :=
  match c with | .opens => some p.ctx | _ => (s.seqSlot p.slot).owner

/-- Has the running firing of a partition captured a slot (R128)? -/
def State.captured (s : State) (p slot : Nat) : Bool :=
  match (s.part p).run with | some r => r.env.caps.any (·.slot == slot) | none => false

/-- A slot command (R125, R128, R135, R354, R387): held while the running firing has the slot captured. -/
def State.doSlot (o : Origin) (c : SlotCmd) (p : SlotParams) (s : State) : State :=
  match (if p.slot < 1024 then s.slotCtx c p else none) with
  | none => s.finish o .access
  | some n => s.withCtx o n fun x =>
    if ¬ x.slots.contains p.slot then s.finish o .access
    else if s.fenced x.p.partition then s.finish o .fenced
    else if s.captured x.p.partition p.slot then
      let q := s.part x.p.partition
      s.setPart x.p.partition { q with held := q.held ++ [(o, c, p)] }
    else s.applySlot o c p

/-- SLOT_OPEN. -/
def execSlotOpen (o : Origin) (p : SlotParams) (s : State) : Host.Outcome State Fault Refusal :=
  s.granted fun s => s.hostCmd o 0x18 (State.doSlot o .opens p)

/-- SLOT_CLOSE. -/
def execSlotClose (o : Origin) (p : SlotParams) (s : State) : Host.Outcome State Fault Refusal :=
  s.granted fun s => s.hostCmd o 0x19 (State.doSlot o .closes p)

/-- SLOT_TRUNCATE. -/
def execSlotTruncate (o : Origin) (p : SlotParams) (s : State) : Host.Outcome State Fault Refusal :=
  s.granted fun s => s.hostCmd o 0x1A (State.doSlot o .truncates p)

/-- SLOT_REPOINT. -/
def execSlotRepoint (o : Origin) (p : SlotParams) (s : State) : Host.Outcome State Fault Refusal :=
  s.granted fun s => s.hostCmd o 0x1B (State.doSlot o .repoints p)

end Sys2Proof.Machine
end

