-- ==== Sys2Proof/Machine/Banking.lean ====
section
/-! DEFINITION. The banking commands and events: rank tables (R338, R339), formation and dissolution (R318 to R322), the bank's
stages (R328 to R335), rollback (R340), join and rebuild (R341 to R343). -/

namespace Sys2Proof.Machine

/-! ### Rank tables (R338, R339, R390) -/

/-- Rank-table entries in no use. -/
def State.freeRankTabs (s : State) : List Nat := (List.range 64).filter fun j => (tfind s.rankTabs j).isNone

/-- Drop the partial table of a session, and refuse (R390). -/
def State.refusePart (s : State) (o : Origin) (st : Status) : State :=
  (s.setSess o.sess { s.sess o.sess with ranks := none }).finish o st

/-- The checks of the first or any part of a table: INSTALL (R338) or STAGE (R339). -/
def State.tableStatus (s : State) (stage : Bool) (job n gen : Nat) : Status :=
  if s.fld Reg.bnkStatusState = 6 ∧ s.rickJob = job then .state
  else if (s.rankTab job).isNone ∧ s.freeRankTabs.isEmpty then .length
  else if ¬ stage then (if s.hasContext job then .state else .ok)
  else match s.rankTab job with
    | some (j, _) =>
      if ¬ s.flag (Reg.bnkRanktabStateValid j) then .ok
      else if s.fld (Reg.bnkRanktabStateSize j) ≠ n then .shape
      else if s.fld (Reg.bnkRanktabStateGeneration j) ≠ gen then .state
      else .ok
    | none => .ok

/-- Store a complete table: which free entry a new job takes is a free value. -/
def State.putTable (s : State) (stage : Bool) (job n gen : Nat) (ids : List Nat) : State :=
  let (j, s) := match s.rankTab job with
    | some (j, _) => (j, s)
    | none => (pick s.freeRankTabs (Config.freeValue s.free), s.fresh)
  let old := tget s.rankTabs {} j
  let s := (s.setFld (Reg.bnkRanktabJobJob j) job).setFld (Reg.bnkRanktabStateSize j) n
  if stage then ({ s with rankTabs := tput s.rankTabs j { old with staged := ids, base := gen } }).setFlag (Reg.bnkRanktabStateStaged j) true
  else
    (({ s with rankTabs := tput s.rankTabs j { old with ids := ids } }).setFld (Reg.bnkRanktabStateGeneration j) 0).setFlag
      (Reg.bnkRanktabStateValid j) true

/-- Store a part of a table; the last part installs or stages it (R390). -/
def State.doRanks (o : Origin) (stage : Bool) (n first : Nat) (ids : List Nat) (gen : Nat) (s : State) : State :=
  let job := s.sessJob o.sess
  let have_ := match (s.sess o.sess).ranks with
    | some r => if r.stage = stage ∧ r.n = n ∧ r.gen = gen then some r.ids else none
    | none => if first = 0 then some [] else none
  if n = 0 ∨ 65536 < n then s.refusePart o .shape
  else if ids.isEmpty ∨ 4096 < ids.length then s.refusePart o .length
  else match have_ with
    | none => s.refusePart o .shape
    | some old =>
      if old.length ≠ first ∨ n < first + ids.length then s.refusePart o .shape
      else match s.tableStatus stage job n gen with
        | .ok =>
          let all := old ++ ids
          if all.length = n then
            ((s.setSess o.sess { s.sess o.sess with ranks := none }).putTable stage job n gen all).finish o .ok
          else (s.setSess o.sess { s.sess o.sess with ranks := some ⟨stage, n, gen, all⟩ }).finish o .ok
        | st => s.refusePart o st

/-- INSTALL_RANKS. -/
def execInstallRanks (o : Origin) (n first : Nat) (ids : List Nat) (s : State) : Host.Outcome State Fault Refusal :=
  s.granted fun s => s.hostCmd o 0x50 (State.doRanks o false n first ids 0)

/-- STAGE_RANKS. -/
def execStageRanks (o : Origin) (n first : Nat) (ids : List Nat) (gen : Nat) (s : State) : Host.Outcome State Fault Refusal :=
  s.granted fun s => s.hostCmd o 0x51 (State.doRanks o true n first ids (gen % 256))

/-! ### Formation (R318 to R320, R342) -/

/-- Regions of a run. -/
def runOf (base count : Nat) : List Nat := (List.range count).map (base + ·)

/-- The ranges of R318. -/
def rickRanges (p : RickParams) : Bool :=
  p.ctx < 512 && p.bits.length == 3 && p.bits.all (· < 16) && p.bits.eraseDups.length == 3
  && 1 ≤ p.protBase && p.protBase ≤ 1340 && 1 ≤ p.logBase && p.logBase ≤ 1340
  && p.protCount % 7 == 0 && 7 ≤ p.protCount && p.protCount ≤ 1169 && 1 ≤ p.logCount && p.logCount ≤ 64

/-- The rick bits of a command, ascending. -/
def sortedBits (p : RickParams) : List Nat := (List.range 16).filter p.bits.contains

/-- Is a run wholly OWNED by a job? -/
def State.owns (s : State) (job base count : Nat) : Bool :=
  (runOf base count).all fun r =>
    r < 1341 && s.fld (Reg.memRegionStateState r) == 1 && s.fld (Reg.memRegionJobJob r) == job

/-- Checks 3 to 5 of R319 under a table. -/
def State.rickStatus (s : State) (o : Origin) (p : RickParams) (table : List Nat) : Status :=
  let job := s.sessJob o.sess
  if ¬ rickRanges p ∨ ((rankOf table s.myId).isSome && (rickIds (sortedBits p) table s.myId).length != 8) then .shape
  else if ¬ s.owns job p.protBase p.protCount ∨ ¬ s.owns job p.logBase p.logCount
      ∨ overlaps p.protBase p.protCount p.logBase p.logCount ∨ (rankOf table s.myId).isNone ∨ (s.ownCtx o p.ctx).isNone then .access
  else if (runOf (parityBase p.protCount) (p.protCount / 7)).any fun r => s.fld (Reg.memRegionStateState r) ≠ 0 then .length
  else .ok

/-- Fill a rick's registers and take its parity area (R320, R347): `state` and the peers' counts. -/
def State.makeRick (s : State) (job : Nat) (p : RickParams) (table : List Nat) (state seq recovery : Nat) : State :=
  let s := s.takeParity p.protCount
  let b := (sortedBits p)
  let s := ((s.setFld Reg.bnkRickBit0 (b.getD 0 0)).setFld Reg.bnkRickBit1 (b.getD 1 0)).setFld Reg.bnkRickBit2 (b.getD 2 0)
  let s := ((s.setFld Reg.bnkProtectedBase p.protBase).setFld Reg.bnkProtectedCount p.protCount).setFld Reg.bnkLogBase p.logBase
  let s := ((s.setFld Reg.bnkLogCount p.logCount).setFld Reg.bnkJobJob job).setFld Reg.bnkBankSeqSeq seq
  let s := ((s.setReg Reg.bnkStatusOff 0).setFld Reg.bnkStatusRecovery recovery).setFld Reg.bnkStatusState state
  let s := s.setFld Reg.bnkStatusPosition (rickPos b ((rankOf table s.myId).getD 0))
  { s with bank := { ctx := p.ctx } }

/-- A HELLO's bytes 16 to 31 (R333). -/
def State.helloCmd (s : State) : List Byte :=
  natLe 4 s.rickJob ++ natLe 4 (s.fld Reg.bnkBankSeqSeq) ++ natLe 1 (s.fld Reg.bnkStatusState)
  ++ natLe 1 (s.fld Reg.bnkStatusPosition) ++ natLe 1 (s.fld Reg.bnkStatusRecovery) ++ natLe 1 (s.fld Reg.glbArithLevelLevel)
  ++ natLe 2 (s.fld Reg.bnkProtectedCount) ++ natLe 1 (s.fld Reg.bnkRickBit0 + 16 * s.fld Reg.bnkRickBit1)
  ++ natLe 1 (s.fld Reg.bnkRickBit2)

/-- Send HELLO to the seven peers (R320, R321). -/
def State.helloAll (s : State) : State :=
  if s.rickOn then s.each (s.peers.filter (· != s.myId)) fun t m => t.sendBank m 0x43 t.helloCmd else s

/-- FORM_RICK (R319, R320). -/
def State.doForm (o : Origin) (p : RickParams) (s : State) : State :=
  let job := s.sessJob o.sess
  let table := match s.rankTab job with | some (_, t) => t.ids | none => []
  if ¬ s.rick then s.finish o .licence
  else if s.rickOn then s.finish o .state
  else match s.rickStatus o p table with
    | .ok => ((s.makeRick job p table 1 0 0).helloAll).finish o .ok
    | st => s.finish o st

/-- FORM_RICK. -/
def execFormRick (o : Origin) (p : RickParams) (s : State) : Host.Outcome State Fault Refusal :=
  s.granted fun s => s.hostCmd o 0x52 (State.doForm o p)

/-- A command on the rick of the session's job: STATE without a rick, ACCESS for another job (log entry 19, DEDUCED). -/
def State.withRick (s : State) (o : Origin) (f : State) : State :=
  if ¬ s.rickOn then s.finish o .state
  else if s.rickJob ≠ s.sessJob o.sess then s.finish o .access
  else f

/-- DISSOLVE_RICK (R322). -/
def execDissolveRick (o : Origin) (s : State) : Host.Outcome State Fault Refusal :=
  s.granted fun s => s.hostCmd o 0x53 fun s => s.withRick o ((s.dissolve 1).finish o .ok)

/-- JOIN (R342): checks 1 and 2 of R319 at once, then the peers' HELLOs, then checks 3 to 5.  The table is the staged one, or
else that in force (R341). -/
def State.doJoin (o : Origin) (p : RickParams) (s : State) : State :=
  let table := s.tableInUse (s.sessJob o.sess)
  if ¬ s.rick then s.finish o .licence
  else if s.rickOn ∨ s.bank.joining.isSome then s.finish o .state
  else if ¬ rickRanges p ∨ (rickIds (sortedBits p) table s.myId).length ≠ 8 then s.finish o (match s.rickStatus o p table with | .ok => .shape | st => st)
  else { s with bank := { joining := some (o, p) } }

/-- JOIN. -/
def execJoin (o : Origin) (p : RickParams) (s : State) : Host.Outcome State Fault Refusal :=
  s.granted fun s => s.hostCmd o 0x54 (State.doJoin o p)

/-- The seven peers have been heard: checks 3 to 5, then REBUILDING (R342, R347). -/
def State.joined (s : State) (o : Origin) (p : RickParams) : State :=
  let job := s.sessJob o.sess
  let table := s.tableInUse job
  let t := { s with bank := {} }
  match s.rickStatus o p table with
  | .ok =>
    let h := (s.bank.hello.head?.map (·.2)).getD ⟨0, 0, 0, 0, 0⟩
    let t := t.makeRick job p table 8 h.seq h.recovery
    let t := { t with bank := { t.bank with closed := true, hello := s.bank.hello } }
    ((t.setFld Reg.bnkRebuildDoneCount 0).setFld Reg.bnkRebuildTotalCount (t.unitCount + t.unitCount / 7)).finish o .ok
  | st => t.finish o st

/-- A HELLO reaches a module that waits to join (R342): one that is not CURRENT or differs from another ends the command. -/
def State.joinHello (s : State) (o : Origin) (p : RickParams) (src : Nat) (h : RickHello) : State :=
  let ids := rickIds (sortedBits p) (s.tableInUse (s.sessJob o.sess)) s.myId
  if src = s.myId then s
  else match rankOf ids src with
    | none => s
    | some pos =>
      if h.state ≠ 3 ∨ s.bank.hello.any fun x => x.2 ≠ h then ({ s with bank := {} }).finish o .state
      else
        let s := { s with bank := { s.bank with hello := tput s.bank.hello pos h } }
        if s.bank.hello.length = 7 then s.joined o p else s

/-- A HELLO reaches a member (R320, R321). -/
def State.rickHello (s : State) (src job rb : Nat) (h : RickHello) : State :=
  match (if s.isPeer src then rankOf s.peers src else none) with
  | none => s
  | some pos =>
    let agrees := job = s.rickJob && rb = s.fld Reg.bnkRickBit0 + 16 * s.fld Reg.bnkRickBit1 + 256 * s.fld Reg.bnkRickBit2
      && h.prot = s.fld Reg.bnkProtectedCount && h.level = s.fld Reg.glbArithLevelLevel
    if s.fld Reg.bnkStatusState = 1 ∧ ¬ agrees then s.dissolve 3
    else
      let f := Reg.bnkPeerSilentPositions
      let heard := if s.bank.heard.contains pos then s.bank.heard else s.bank.heard ++ [pos]
      let s := (s.setFld f (clrBit (s.fld f) pos))
      let s := { s with bank := { s.bank with hello := tput s.bank.hello pos h, heard := heard } }
      if s.fld Reg.bnkStatusState = 1 ∧ heard.length = 7 then
        ((s.setFld Reg.bnkStatusState 2).setFlag Reg.bnkStatusFullNext true).ev 0x0901 s.bankDie s.rickJob
          (s.fld Reg.bnkStatusPosition) (s.fld Reg.bnkProtectedCount)
      else s

/-- Take a HELLO (R320, R321, R333, R342). -/
def State.takeHello (s : State) (p : Packet) : State :=
  let job := field p.cmd 0 4
  let h : RickHello := ⟨field p.cmd 4 4, field p.cmd 8 1, field p.cmd 10 1, field p.cmd 11 1, field p.cmd 12 2⟩
  match s.bank.joining with
  | some (o, q) => if s.sessJob o.sess = job then s.joinHello o q p.src h else s
  | none => if s.rickOn then s.rickHello p.src job (field p.cmd 14 2) h else s

/-- BANK_HELLO_SEND (R320, R321). -/
def execBankHelloSend (s : State) : Host.Outcome State Fault Refusal := s.does State.helloAll

/-- PEER_SILENT (R321). -/
def State.silentPeer (pos : Nat) (s : State) : State :=
  let f := Reg.bnkPeerSilentPositions
  if s.rickOn ∧ pos < 8 ∧ pos ≠ s.fld Reg.bnkStatusPosition then
    ((s.setFld f (setBit (s.fld f) pos)).setFlag Reg.bnkEventsPeerSilent true).ev 0x0905 s.bankDie pos (s.peers.getD pos 0) 0
  else s

/-- PEER_SILENT. -/
def execPeerSilent (position : Nat) (s : State) : Host.Outcome State Fault Refusal := s.does (State.silentPeer position)

/-- FORMATION_TIMEOUT (R320, R342). -/
def State.formationTimeout (s : State) : State :=
  match s.bank.joining with
  | some (o, _) => ({ s with bank := {} }).finish o .state
  | none => if s.fld Reg.bnkStatusState = 1 then s.dissolve 4 else s

/-- FORMATION_TIMEOUT. -/
def execFormationTimeout (s : State) : Host.Outcome State Fault Refusal := s.does State.formationTimeout

/-! ### The bank (R328 to R335) -/

/-- May a bank firing of a job begin (R328)?  The rick is the job's, UNBANKED, CURRENT or STALE, and no bank is under way. -/
def State.mayBank (s : State) (job : Nat) : Bool :=
  s.rickOn && s.rickJob == job && s.fld Reg.bnkStageStage == 0 && [2, 3, 5].contains (s.fld Reg.bnkStatusState)

/-- A bank firing begins (R328): Quiesce. -/
def State.beginBank (s : State) (p : Nat) : State :=
  let s := (s.setFld Reg.bnkStatusState 4).setFld Reg.bnkStageStage 1
  { s with bank := { s.bank with part := some p, began := s.clk, second := false, full := false } }

/-- Does a request slot's holder issue writes of a job? -/
def State.writesFor (s : State) (job : Nat) : ReqOwner → Bool
  | .record _ c => (match s.ctx c with | some x => x.job == job | none => false)
  | .collRecord g => s.groupJob g == job
  | .coll g => s.groupJob g == job
  | _ => false

/-- Has every write of the job from this module been acknowledged (R328, R329)? -/
def State.quiet (s : State) (job : Nat) : Bool :=
  ((List.range 4).all fun p => some p == s.bank.part || match (s.part p).run with
    | some r => (match s.ctx r.ctx with | some x => x.job != job | none => true)
    | none => true)
  && (s.groups.all fun g => g.2.run.isNone || s.groupJob g.1 != job)
  && ((List.range 128).all fun n => ! s.dmaBusy n || (s.dma n).job != some job || (s.dma n).held)
  && (s.reqSlots.all fun x => ! x.2.busy || ! s.writesFor job x.2.owner) && s.slotWait.all fun w => ! s.writesFor job w.owner

/-- QUIESCE_DONE (R328, R329). -/
def execQuiesceDone (s : State) : Host.Outcome State Fault Refusal :=
  s.does fun s => if s.fld Reg.bnkStageStage = 1 ∧ s.quiet s.rickJob then s.enterBarrier false else s

/-- Drop an ARRIVE that is not for the bank being made (R333). -/
def State.staleBank (s : State) (p : Packet) : State := s.ev 0x090B s.bankDie p.src p.opcode (field p.cmd 0 4)

/-- An ABORT reaches this member (R334): the bank ends with the status it carries, or a rick whose own bank has not begun goes to
FAILED; the first is forwarded once. -/
def State.abortArrives (s : State) (st : Status) (origin : Nat) : State :=
  if s.fld Reg.bnkStageStage ≠ 0 then s.failBank st st origin
  else if [2, 3, 5].contains (s.fld Reg.bnkStatusState) then
    let s := s.sendBankAborts st
    let s := (s.setFld Reg.bnkStatusState 6).setFlag Reg.bnkEventsBankFailed true
    s.ev 0x0904 s.bankDie s.bankNumber (stCode st) origin
  else s

/-- Take an ARRIVE (R330, R333, R334). -/
def State.takeArrive (s : State) (p : Packet) : State :=
  let fl := field p.cmd 8 1
  if ¬ s.rickOn ∨ field p.cmd 0 4 ≠ s.rickJob ∨ field p.cmd 4 4 ≠ s.bankNumber
      ∨ field p.cmd 10 1 ≠ s.fld Reg.bnkStatusRecovery then s.staleBank p
  else if bit fl 2 then s.abortArrives (stOf (field p.cmd 11 1)) p.src
  else
    let a : Arrive := ⟨p.src, s.bankNumber, bit fl 0, field p.cmd 9 1, bit fl 1, field p.cmd 12 2⟩
    State.advance 20 { s with bank := { s.bank with arrivals := s.bank.arrivals ++ [a] } }

/-- A local address is a parity line of this member (R323). -/
def State.isLine (s : State) (a : Nat) : Bool :=
  a % 4096 == 0 && s.lineAddr 0 ≤ a && a < s.lineAddr (s.unitCount / 7)

/-- Fold a delta into a parity line (R325, R331, R335). -/
def State.fold (s : State) (a : Nat) (full : Bool) (delta : List Byte) : State × Status :=
  let line := (a - s.lineAddr 0) / 4096
  let n := tget s.bank.contrib 0 line
  let s := if full then { s with bank := { s.bank with contrib := tput s.bank.contrib line (n + 1) } } else s
  if full && n = 0 then ((s.writeBytes a delta).1, .ok)
  else
    let (s, st, old) := s.readAs 4 a 4096
    if st ≠ .ok then (s, st)
    else
      let s := if full ∨ s.bank.log.any fun e => e.addr == a && e.bank == s.bankNumber then s else s.logCopy a true
      ((s.writeBytes a (xorBytes old delta)).1, .ok)

/-- Answer a bank request. -/
def State.bankReply (s : State) (p : Packet) (op : Nat) (st : Status) (data : List Byte) : State :=
  s.inject s.bankDie (replyTo p s.myId op st {} data)

/-- Take a DELTA (R331, R333). -/
def State.takeDelta (s : State) (p : Packet) : State :=
  let a := p.addr
  if ¬ s.isPeer p.src ∨ p.job ≠ s.rickJob ∨ ¬ s.isLine a then s.bankReply p 0x82 .access []
  else
    let t := s.fold a (bit (field p.cmd 12 1) 0) (slice p.data 0 4096)
    t.1.bankReply p 0x82 t.2 []

/-- Take a PARITY_READ (R333); the run and the parity area of a spare being rebuilt are closed to it (R342). -/
def State.takeParityRead (s : State) (p : Packet) : State :=
  let a := p.addr
  if s.isPeer p.src ∧ s.fld Reg.bnkStatusState = 8 then s.bankReply p 0x81 .state [] else
  if ¬ s.isPeer p.src ∨ p.job ≠ s.rickJob ∨ ¬ (s.isLine a ∨ (a % 4096 = 0 ∧ (s.unitAt a).isSome)) then s.bankReply p 0x81 .access []
  else
    let t := s.readAs 4 a 4096
    t.1.bankReply p 0x81 t.2.1 t.2.2

/-- Take a FWD packet of the bank engine (R333). -/
def State.takeBank (s : State) (p : Packet) : State :=
  match p.opcode with
  | 0x40 => s.takeDelta p
  | 0x41 => s.takeArrive p
  | 0x42 => s.takeParityRead p
  | 0x43 => s.takeHello p
  | _ => s

/-- A bank packet of one opcode arrives (log entry 2, DESIGN CHOICE). -/
def State.bankArrives (s : State) (op : Nat) (p : Packet) : State :=
  if p.opcode = op ∧ p.cls = 1 ∧ p.dest = s.myId ∧ p.tailOk then s.takeBank p else s

/-- BANK_HELLO. -/
def execBankHello (p : Packet) (s : State) : Host.Outcome State Fault Refusal := s.does fun s => s.bankArrives 0x43 p

/-- ARRIVE. -/
def execArrive (p : Packet) (s : State) : Host.Outcome State Fault Refusal := s.does fun s => s.bankArrives 0x41 p

/-- DELTA. -/
def execDelta (p : Packet) (s : State) : Host.Outcome State Fault Refusal := s.does fun s => s.bankArrives 0x40 p

/-- PARITY_READ. -/
def execParityRead (p : Packet) (s : State) : Host.Outcome State Fault Refusal := s.does fun s => s.bankArrives 0x42 p

/-- FOLD_DONE (R331, R334). -/
def State.foldEnds (s : State) : State :=
  if s.fld Reg.bnkStageStage ≠ 3 ∨ s.bank.owed ≠ 0 then s
  else match s.bank.foldFail with
    | some (st, m) => s.failBank st st m
    | none => if s.bank.folded = s.foldTotal then s.enterBarrier true else s

/-- FOLD_DONE. -/
def execFoldDone (s : State) : Host.Outcome State Fault Refusal := s.does State.foldEnds

/-- BANK_STALL (R334). -/
def execBankStall (s : State) : Host.Outcome State Fault Refusal :=
  s.does fun s =>
    if s.fld Reg.bnkStageStage = 2 ∨ s.fld Reg.bnkStageStage = 4 then s.failBank .timeout .timeout s.myId else s

/-! ### Rollback (R326, R340, R346) -/

/-- ROLLBACK up to the restore (R340, steps 1 to 4). -/
def State.beginRollback (s : State) (o : Origin) (t : Nat) : State :=
  let job := s.rickJob
  let s := s.each ((s.ctxs.filter fun c => c.2.job == job).map (·.1)) fun u c => u.contextAbort c 1 2
  let s := s.failBank .aborted .memberLost s.myId
  let commits := s.bankNumber = t && s.bank.second
  let s := if commits then s.commitBank else s
  if s.fld Reg.bnkBankSeqSeq ≠ t then s.finish o .state
  else
    let s := s.setFld Reg.bnkStatusState 7
    { s with bank := { s.bank with closed := true, rollback := some (o, t, commits) } }

/-- ROLLBACK. -/
def execRollback (o : Origin) (bank : Nat) (s : State) : Host.Outcome State Fault Refusal :=
  s.granted fun s => s.hostCmd o 0x56 fun s => s.withRick o
    (if [1, 7, 8].contains (s.fld Reg.bnkStatusState) then s.finish o .state else s.beginRollback o (bank % 2 ^ 32))

/-- Put a before-image back (R326). -/
def State.restore (s : State) (e : LogEntry) : State := (s.writeBytes e.addr e.data).1

/-- The restore of a rollback ends (R326, R340, R346): event 0x0907. -/
def State.endRollback (s : State) : State :=
  match s.bank.rollback with
  | none => s
  | some (o, t, commits) =>
    let back := (s.bank.log.filter fun e => t < e.bank).reverse
    let st : Status := if s.bank.stale then .parityStale else if back.any (·.bad) then .memUncorrectable else .ok
    let good := back.filter fun e => ! e.bad
    let s := { s with bank := { s.bank with closed := false, rollback := none, arrivals := [], second := false } }
    let s := s.each good State.restore
    let s := { s with bank := { s.bank with log := s.bank.log.filter fun e => e.bank ≤ t, dirty := [], contrib := [] } }
    let s := s.logSync
    let s :=
      if st = .ok then (s.setFld Reg.bnkStatusRecovery ((s.fld Reg.bnkStatusRecovery + 1) % 256)).setFld Reg.bnkStatusState 3
      else (s.setFld Reg.bnkStatusState 5).setFlag Reg.bnkStatusFullNext true
    ((s.setFlag Reg.bnkEventsRolledBack true).ev 0x0907 s.bankDie t good.length (stCode st + b2n commits * 2 ^ 31)).finish o st

/-- ROLLBACK_DONE. -/
def execRollbackDone (s : State) : Host.Outcome State Fault Refusal := s.does State.endRollback

/-! ### Rebuild (R342, R343) -/

/-- REBUILD (R343). -/
def State.doRebuild (o : Origin) (spare : Nat) (s : State) : State :=
  s.withRick o
    (if s.fld Reg.bnkStatusState = 6 then s.finish o .state
    else if s.fld Reg.bnkStatusState ≠ 3 then s.finish o .parityStale
    else match (if spare = s.myId then none else rankOf s.peers spare) with
      | none => s.finish o .state
      | some x =>
        if (tfind s.bank.hello x).map (·.state) ≠ some 8 ∨ s.bank.rebuild.isSome then s.finish o .state
        else
          let n := s.rebuildTotal x
          let s := (s.setFld Reg.bnkRebuildDoneCount 0).setFld Reg.bnkRebuildTotalCount n
          let s := s.ev 0x0908 s.bankDie spare x n
          ({ s with bank := { s.bank with rebuild := some { o := o, spare := spare, lost := x } } }).rebuildNext)

/-- REBUILD. -/
def execRebuild (o : Origin) (spare : Nat) (s : State) : Host.Outcome State Fault Refusal :=
  s.granted fun s => s.hostCmd o 0x55 (State.doRebuild o spare)

/-- A write of a rebuild reaches the spare (R342, R343). -/
def State.isRebuildWrite (s : State) (src a n : Nat) : Bool :=
  s.fld Reg.bnkStatusState == 8 && s.isPeer src && a % 4096 == 0 && n == 4096 && (s.isLine a || (s.unitAt a).isSome)

/-- Count a unit or line received once. -/
def State.countReceived (s : State) (a : Nat) : State :=
  if s.bank.received.contains (a / 4096) then s
  else ({ s with bank := { s.bank with received := s.bank.received ++ [a / 4096] } }).setFld Reg.bnkRebuildDoneCount
    (s.bank.received.length + 1)

/-- The end of a rebuild: this peer's writes, or the spare's receipt (R343). -/
def State.rebuildEnds (s : State) : State :=
  if s.fld Reg.bnkStatusState = 8 then
    if s.bank.received.length = s.fld Reg.bnkRebuildTotalCount then
      let s := { (s.setFld Reg.bnkStatusState 3) with bank := { s.bank with closed := false, received := [] } }
      (s.setFlag Reg.bnkEventsRebuilt true).ev 0x0909 s.bankDie s.myId 0 (s.fld Reg.bnkRebuildDoneCount)
    else s
  else match s.bank.rebuild with
    | none => s
    | some b =>
      if b.owed = 0 ∧ (b.failed.isSome ∨ s.rebuildTotal b.lost ≤ b.next) then
        s.endRebuild b (b.failed.getD .ok)
      else s

/-- REBUILD_DONE. -/
def execRebuildDone (s : State) : Host.Outcome State Fault Refusal := s.does State.rebuildEnds

end Sys2Proof.Machine
end

