-- ==== Sys2Proof/Machine/CollOps.lean ====
section
/-! DEFINITION. The steps of a collective (R289, R290, R295 to R307): checks, segments, contributions, results. -/

namespace Sys2Proof.Machine

/-! ### The order of phases and axes (R303 to R306) -/

/-- Phases and axes of a collective in their order. -/
def CollDesc.plan (d : CollDesc) : List (CollPhase × Nat) :=
  let up := d.axisList
  let down := up.reverse
  let frames := if d.sum then up.map (CollPhase.frameReduce, ·) ++ down.map (CollPhase.frameGather, ·) else []
  match d.op with
  | 1 => frames ++ up.map (CollPhase.reduce, ·)
  | 2 => down.map (CollPhase.gather, ·)
  | 3 => frames ++ up.map (CollPhase.reduce, ·) ++ down.map (CollPhase.gather, ·)
  | _ => up.map (CollPhase.gather, ·)

/-- What follows a phase and axis. -/
def CollDesc.after (d : CollDesc) (ph : CollPhase) (a : Nat) : Option (CollPhase × Nat) :=
  (d.plan.dropWhile fun x => ! (x.1 == ph && x.2 == a)).drop 1 |>.head?

/-- RANK_MASK of a group. -/
def State.rankMask (s : State) (g : Nat) : Nat := s.fld (Reg.carGroupMembersRankMask g)

/-! ### Segments of a step -/

/-- Steps of an axis: ring size less one; half the ring for BROADCAST. -/
def Group.steps (x : Group) (d : CollDesc) (a : Nat) : Nat :=
  let r := (x.ring a).2.length
  if d.op = 4 then r / 2 else r - 1

/-- Does BROADCAST run on this member at axis a: does it agree with ROOT on every later axis (R306)? -/
def Group.takesPart (x : Group) (d : CollDesc) (mask a : Nat) : Bool :=
  (d.axisList.filter (a < ·)).all fun b => x.distance mask d.root b == 0

/-- The units that this member sends at step u in a direction; none when it sends nothing there. -/
def Group.sends (x : Group) (d : CollDesc) (mask : Nat) (ph : CollPhase) (a u : Nat) (rev : Bool) : Option (Nat × Nat) :=
  let (p, ids) := x.ring a
  let r := ids.length
  if x.steps d a ≤ u then none
  else if d.op = 4 then
    let k := x.distance mask d.root a
    if x.takesPart d mask a && ((k = 0 && u = 0 && (! rev || r = 4)) || (k = 1 && u = 1 && ! rev)) then some (0, d.elems) else none
  else some (x.part d ph a (partAt ph r p u rev))

/-- The units that this member receives at step u in a direction. -/
def Group.takes (x : Group) (d : CollDesc) (mask : Nat) (ph : CollPhase) (a u : Nat) (rev : Bool) : Option (Nat × Nat) :=
  let (p, ids) := x.ring a
  let r := ids.length
  if x.steps d a ≤ u then none
  else if d.op = 4 then
    let k := x.distance mask d.root a
    if x.takesPart d mask a && ((k = 1 && u = 0 && ! rev) || (k = 2 && u = 1 && ! rev) || (k = 3 && u = 0 && rev)) then
      some (0, d.elems) else none
  else some (x.part d ph a (partAt ph r p (u + 1) rev))

/-- Segment indices of a range in a direction: even forward, odd reverse; every one for BROADCAST (R289, R306). -/
def segsOf (d : CollDesc) (ph : CollPhase) (rev : Bool) : Option (Nat × Nat) → List Nat
  | none => []
  | some r => (List.range (segCount r (d.unitBytes ph))).filter fun i => d.op == 4 || (i % 2 == 1) == rev

/-- The range that a segment combined at step u covers: its own at step 0, else what arrived at the step before. -/
def Group.combines (x : Group) (d : CollDesc) (mask : Nat) (ph : CollPhase) (a u : Nat) (rev : Bool) : Option (Nat × Nat) :=
  if u = 0 then x.sends d mask ph a 0 rev else x.takes d mask ph a (u - 1) rev

/-- Bytes received of a segment. -/
def Group.got (x : Group) (k : SegKey) : List Byte := ((x.rx.find? fun r => r.1 == k).map (·.2)).getD []

/-- Bytes that a segment of a range holds. -/
def segBytes (d : CollDesc) (ph : CollPhase) (r : Nat × Nat) (seg : Nat) : Nat :=
  let q := segRange r (d.unitBytes ph) seg
  (q.2 - q.1) * d.unitBytes ph

/-- The key of a segment of the running collective. -/
def Group.key (x : Group) (c : Coll) (u : Nat) (rev : Bool) (seg : Nat) : SegKey :=
  ⟨x.next % 2 ^ 16, c.phase, c.axis, u, rev, seg⟩

/-- Has a segment of step u been received: whole in its slot, or combined since? -/
def Group.received (x : Group) (c : Coll) (mask u : Nat) (rev : Bool) (seg : Nat) : Bool :=
  c.combined.contains (u + 1, rev, seg) ||
  match x.takes c.desc mask c.phase c.axis u rev with
  | some r => segBytes c.desc c.phase r seg ≤ (x.got (x.key c u rev seg)).length
  | none => false

/-- Everything that a step sends has been sent, everything it receives received; after the last step everything combined. -/
def Group.stepOver (x : Group) (c : Coll) (mask : Nat) : Bool :=
  let d := c.desc
  let u := c.step
  [false, true].all fun rev =>
    ((segsOf d c.phase rev (x.sends d mask c.phase c.axis u rev)).all fun i => c.sent.contains (u, rev, i))
    && ((segsOf d c.phase rev (x.takes d mask c.phase c.axis u rev)).all fun i => x.received c mask u rev i)
    && (u + 1 < x.steps d c.axis || (List.range (u + 2)).all fun v =>
      (segsOf d c.phase rev (x.combines d mask c.phase c.axis v rev)).all fun i => c.combined.contains (v, rev, i))

/-! ### Contributions -/

/-- Units of a byte string. -/
def unitsOf (ub n : Nat) (bs : List Byte) : List Nat := (List.range n).map fun i => field bs (i * ub) ub

/-- Bytes of units. -/
def unitsLe (ub : Nat) (us : List Nat) : List Byte := us.flatMap (natLe ub)

/-- Start of the range after the first axis (R296). -/
def Group.workLo (x : Group) (d : CollDesc) : Nat :=
  match d.axisList with
  | a :: _ => (rangeOf d.elems (x.sizes d) [(x.ring a).1]).1
  | [] => 0

/-- Flags that some tally words bring (R300). -/
def wordFlags (ws : List (Tally × Bool)) : Flags := { tally := ws.any (·.2), special := ws.any (·.1.isNone) }

/-- Flags of elements that a collective copies as they are: SPECIAL for a NaN, an infinity or a NaN tally (R57). -/
def CollDesc.copyFlags (d : CollDesc) (codes : List Nat) : Flags := { special := codes.any fun v => (decodeElem d.outFmt v).special }

/-- This member's own units lo to hi − 1 of a phase and axis (R299, R300, R303, R304): status, codes, flags. -/
def State.ownUnits (s : State) (g : Nat) (x : Group) (c : Coll) (lo hi : Nat) : State × Status × List Nat × Flags :=
  let d := c.desc
  let n := hi - lo
  let who := Agent.firing (s.groupJob g)
  match c.phase with
  | .frameReduce => (s, .ok, (c.frames.drop lo).take n, {})
  | .frameGather => (s, .ok, (c.frames.drop lo).take n, {})
  | .gather =>
    let t := s.load who (d.dst % 2 ^ 48 + lo * d.outBytes) (n * d.outBytes)
    (t.1, t.2.1, unitsOf d.outBytes n t.2.2, {})
  | .reduce =>
    if d.axisList.head? = some c.axis then
      let t := s.load who (d.src % 2 ^ 48 + lo * d.inBytes) (n * d.inBytes)
      let codes := unitsOf d.inBytes n t.2.2
      if d.sum then
        let f := if d.inFmt = .t128 then t.1.load who (d.srcFrames % 2 ^ 48) (4 * d.tiles) else (t.1, .ok, [])
        let ws := codes.zipIdx.map fun e =>
          let k := d.tile (lo + e.2)
          d.wordOf e.1 (field f.2.2 (4 * k) 4) (commonFrame (c.frames.getD k 0))
        (f.1, if t.2.1 = .ok then f.2.1 else t.2.1, ws.map fun w => tallyCode w.1, wordFlags ws)
      else (t.1, t.2.1, codes, {})
    else
      let ub := d.unitBytes .reduce
      let t := s.load who (d.work % 2 ^ 48 + (lo - x.workLo d) * ub) (n * ub)
      (t.1, t.2.1, unitsOf ub n t.2.2, {})

/-- Combine one received unit with one's own (R299, R300, R301): its code and flags. -/
def CollDesc.join (d : CollDesc) (ph : CollPhase) (got own : Nat) : Nat × Flags :=
  match ph with
  | .frameReduce => (maxEntry got own, {})
  | .frameGather => (got, {})
  | .gather => (got, {})
  | .reduce =>
    if d.sum then
      let r := tallyAdd (tallyOf got) (tallyOf own)
      (tallyCode r.1, { tally := r.2, special := r.1.isNone })
    else (Nat.xor got own, {})

/-- OUT_SCALE (R294). -/
def CollDesc.z (d : CollDesc) : Int := sext 8 (bits d.axes 31 24)

/-- The output element of a reduced unit: code and SPECIAL (R301). -/
def CollDesc.outCodeOf (d : CollDesc) (seed i unit : Nat) (fc : Int) : Nat × Bool :=
  if ¬ d.sum ∨ d.outFmt = .t128 then (unit, false)
  else encodeVal d.outFmt (d.round seed i) (tallyVal (tallyOf unit) fc d.z)

/-- The first element of this member's part q, the base of REDUCE_SCATTER's packed output (R296). -/
def Group.partLo (x : Group) (d : CollDesc) : Nat := (rangeOf d.elems (x.sizes d) (d.axisList.map fun a => (x.ring a).1)).1

/-- Tiles of written words that hold a saturated value (R301). -/
def satTiles (d : CollDesc) (lo : Nat) (codes : List Nat) : List Nat :=
  if d.sum && d.outFmt = .t128 then
    codes.zipIdx.filterMap fun e => match tallyOf e.1 with
      | some v => if v = tallyMax ∨ v = -tallyMax then some (d.tile (lo + e.2)) else none
      | none => none
  else []

/-- Store the units lo on that this member keeps: frames, WORK, or DST (R299, R301, R303, R304). -/
def State.keepUnits (s : State) (g : Nat) (x : Group) (c : Coll) (lo : Nat) (us : List Nat) : State × Status × Coll :=
  let d := c.desc
  let who := Agent.firing (s.groupJob g)
  match c.phase with
  | .frameReduce => (s, .ok, { c with frames := c.frames.take lo ++ us ++ c.frames.drop (lo + us.length) })
  | .frameGather => (s, .ok, { c with frames := c.frames.take lo ++ us ++ c.frames.drop (lo + us.length) })
  | .gather =>
    let t := s.save who (d.dst % 2 ^ 48 + lo * d.outBytes) (unitsLe d.outBytes us)
    (t.1, t.2, { c with saturated := c.saturated ++ satTiles d lo us, flags := c.flags.or (d.copyFlags us) })
  | .reduce =>
    if d.axisList.getLast? = some c.axis then
      let seed := match s.ctx (s.groupCtx g) with | some y => y.p.seed | none => 0
      let out := us.zipIdx.map fun e =>
        d.outCodeOf seed (lo + e.2) e.1 (commonFrame (c.frames.getD (d.tile (lo + e.2)) 0))
      let base := if d.op = 1 then x.partLo d else 0
      let t := s.save who (d.dst % 2 ^ 48 + (lo - base) * d.outBytes) (unitsLe d.outBytes (out.map (·.1)))
      (t.1, t.2, { c with saturated := c.saturated ++ satTiles d lo (out.map (·.1))
                          flags := { c.flags with special := c.flags.special || out.any (·.2) } })
    else
      let ub := d.unitBytes .reduce
      let t := s.save who (d.work % 2 ^ 48 + (lo - x.workLo d) * ub) (unitsLe ub us)
      (t.1, t.2, c)

/-! ### Beginning (R293, R295 to R299) -/

/-- Set the running collective of a group, with its STEP register (R315). -/
def State.putColl (s : State) (g : Nat) (x : Group) (c : Coll) : State :=
  (s.setGroup g { x with run := some c }).setFld (Reg.carGroupRunStep g) (stepByte c.phase c.axis c.step false)

/-- Begin an axis: step 0, and credits for this member's slots to each upstream neighbour it receives from (R290). -/
def State.beginAxis (s : State) (g : Nat) (x : Group) (c : Coll) (ph : CollPhase) (a : Nat) : State :=
  let c := { c with phase := ph, axis := a, step := 0, ready := [], combined := [], sent := [], retried := [] }
  let s := s.putColl g x c
  let mask := s.rankMask g
  s.each [false, true] fun t rev =>
    if (List.range (x.steps c.desc a)).any fun u => ! (segsOf c.desc ph rev (x.takes c.desc mask ph a u rev)).isEmpty then
      t.grant g x c rev (t.fld (Reg.carGroupStateSlots g) / 2)
    else t

/-- Status of check 1 of R297. -/
def CollDesc.codesOk (d : CollDesc) (axes : Nat) : Bool :=
  let f := fun v => v = Fmt.bf16 || v = .fp16 || v = .fp32 || v = .t128
  let red := bits d.control 11 8
  let plain := d.inCode = d.outCode && bits d.control 23 20 = 0 && bits d.axes 31 24 = 0
  let inR := fun lo hi => lo ≤ d.inCode && d.inCode ≤ hi
  bits d.control 31 24 = 1 && d.reservedZero && bits d.control 23 20 ≤ 2
  && (match d.op with
    | 1 => (red = 0 && f d.inFmt && f d.outFmt && inR 7 10 && 7 ≤ d.outCode && d.outCode ≤ 10) || (red = 1 && plain && inR 4 11)
    | 2 => red = 0 && plain && inR 4 11 && d.inCode ≠ 10
    | 3 => (red = 0 && f d.inFmt && f d.outFmt && inR 7 10 && 7 ≤ d.outCode && d.outCode ≤ 10) || (red = 1 && plain && inR 4 11)
    | 4 => red = 0 && plain && inR 4 11
    | _ => false)
  && (d.op = 4 || d.root = 0) && d.mask ≠ 0 && Nat.land d.mask axes = d.mask
  && 1 ≤ d.rows && d.rows ≤ 2 ^ 31 - 1 && 1 ≤ d.cols && d.cols ≤ 2 ^ 31 - 1
  && (d.inCode = 10 || d.srcFrames = 0) && (d.outCode = 10 || d.dstFrames = 0)
  && ! entryFaulty d.wait 31 13 && ! d.signals.any (entryFaulty · 15 14)
  && (d.op = 1 || d.op = 3 || d.work = 0)

/-- The buffers of a collective on this member: (address, bytes) (R296). -/
def Group.buffers (x : Group) (d : CollDesc) (mask : Nat) : List (Nat × Nat) :=
  let part := rangeOf d.elems (x.sizes d) (d.axisList.map fun a => (x.ring a).1)
  let q := part.2 - part.1
  let first := match d.axisList with
    | a :: _ => let r := rangeOf d.elems (x.sizes d) [(x.ring a).1]; r.2 - r.1
    | [] => 0
  let isRoot := d.axisList.all fun a => x.distance mask d.root a == 0
  let src := if d.op = 2 then q * d.inBytes else if d.op = 4 ∧ ¬ isRoot then 0 else d.elems * d.inBytes
  let dst := (if d.op = 1 then q else d.elems) * d.outBytes
  let work := if (d.op = 1 ∨ d.op = 3) ∧ 1 < d.axisList.length then first * d.unitBytes .reduce else 0
  [(d.src, src), (d.dst, dst), (d.work, work)]
  ++ (if d.sum && d.inCode = 10 then [(d.srcFrames, 4 * d.tiles)] else [])
  ++ (if d.sum && d.outCode = 10 then [(d.dstFrames, 4 * d.tiles)] else [])

/-- The checks of R297: the first failing one with its status. -/
def State.collCheck (s : State) (g : Nat) (x : Group) (d : CollDesc) : Option (Nat × Status) :=
  let job := s.groupJob g
  let c := s.groupCtx g
  let here := fun (a n : Nat) => n = 0 || (a / 2 ^ 48 = s.myId && s.spanOk (.firing job) (a % 2 ^ 48) n)
  if ¬ d.codesOk (s.fld (Reg.carGroupStateAxes g)) then some (1, .shape)
  else if d.src % 64 ≠ 0 ∨ d.srcFrames % 64 ≠ 0 ∨ d.dst % 64 ≠ 0 ∨ d.dstFrames % 64 ≠ 0 ∨ d.work % 64 ≠ 0 ∨ d.completion % 32 ≠ 0 then
    some (2, .align)
  else if s.fld (Reg.carGroupStateState g) = 4 ∨ s.fld (Reg.carGroupContextGeneration g) ≠ s.rankGen job then some (3, .state)
  else if ¬ ((x.buffers d (s.rankMask g)).all fun b => here b.1 b.2)
      ∨ (d.completion ≠ 0 ∧ d.completion / 2 ^ 48 = s.myId ∧ ¬ s.spanOk (.firing job) (d.completion % 2 ^ 48) 32)
      ∨ (bit d.wait 12 ∧ (s.counterOwner (bits d.wait 11 0)).map (·.1) ≠ some c)
      ∨ (d.signalList.any fun v => match s.signalTarget job v.2.1 v.2.2.1 with
          | none => true
          | some m => m = s.myId && (match s.counterOwner v.1 with | some (_, y) => y.job ≠ job | none => true)) then
    some (4, .access)
  else none

/-- A collective without any field, for a descriptor that cannot be read (log entry 21, DEDUCED). -/
def blankColl (entry : Nat) : Coll :=
  { entry := entry, desc := collDescOf (List.replicate 128 0), check := 0, phase := .reduce, axis := 0, step := 0 }

/-- Read the descriptor at a group's head: the collective it makes, or the read's status. -/
def State.readColl (s : State) (g : Nat) (x : Group) : State × Status × Coll :=
  let entry := s.fld (Reg.carGroupQueueHead g)
  let t := s.load (.firing (s.groupJob g)) (x.addr % 2 ^ 48 + 128 * entry) 128
  if t.2.1 = .ok then
    let d := collDescOf t.2.2
    let first := d.plan.head?.getD (.reduce, 0)
    (t.1, .ok, { entry := entry, desc := d, check := crc16 (slice t.2.2 0 0x18), phase := first.1, axis := first.2, step := 0 })
  else (t.1, t.2.1, blankColl entry)

/-- Make a collective the running one: BUSY, CSEQ (R293, R315). -/
def State.busyColl (s : State) (g : Nat) (x : Group) (c : Coll) : State :=
  ((s.setFld (Reg.carGroupStateState g) 3).setFld (Reg.carGroupRunCseq g) (x.next % 2 ^ 16)).putColl g x c

/-- What a checked collective begins with: frame entries of a SUM (R299); the own part in DST for ALL_GATHER and at ROOT of a
BROADCAST (R296, R306). -/
def State.primeColl (s : State) (g : Nat) (x : Group) (c : Coll) : State × Status × Coll :=
  let d := c.desc
  let who := Agent.firing (s.groupJob g)
  if d.sum then
    let t := s.load who (d.src % 2 ^ 48) (d.elems * d.inBytes)
    let f := if d.inFmt = .t128 then t.1.load who (d.srcFrames % 2 ^ 48) (4 * d.tiles) else (t.1, .ok, [])
    (f.1, if t.2.1 = .ok then f.2.1 else t.2.1, { c with frames := (List.range d.tiles).map (d.ownEntry t.2.2 f.2.2) })
  else
    let (off, n) := match d.op with
      | 2 => let r := rangeOf d.elems (x.sizes d) (d.axisList.map fun a => (x.ring a).1); (r.1, r.2 - r.1)
      | 4 => (0, if d.axisList.all fun a => x.distance (s.rankMask g) d.root a == 0 then d.elems else 0)
      | _ => (0, 0)
    if n = 0 then (s, .ok, c)
    else
      let t := s.load who (d.src % 2 ^ 48) (n * d.inBytes)
      if t.2.1 = .ok then
        let u := t.1.save who (d.dst % 2 ^ 48 + off * d.outBytes) t.2.2
        (u.1, u.2, { c with flags := c.flags.or (d.copyFlags (unitsOf d.inBytes n t.2.2)) })
      else (t.1, t.2.1, c)

/-- The WAIT of a collective: none while it is not satisfied; true when the counter's ERROR is set (R122, R297). -/
def State.collWait (s : State) (g : Nat) (d : CollDesc) : Option Bool :=
  let n := bits d.wait 11 0
  if bit d.wait 12 && (s.counterOwner n).map (·.1) == some (s.groupCtx g) then
    if s.syncErr n then some true
    else if waitDone (s.sync n) (bits d.wait 63 32) then some false else none
  else some false

/-- Start the collective at a group's head (R293, R297). -/
def State.startColl (s : State) (g : Nat) (x : Group) : State :=
  let (s, st, c) := s.readColl g x
  if st ≠ .ok then (s.busyColl g x c).cutColl g st st 6 s.myId 0
  else
    match s.collWait g c.desc with
    | none => s
    | some err =>
      let check := s.collCheck g x c.desc
      let t := s.busyColl g x c
      match x.aborts.find? fun a => a.1 == x.next % 2 ^ 16 with
      | some (_, a, m, _) => t.cutColl g a a 7 m 0
      | none =>
        if err then t.cutColl g .aborted .aborted 6 s.myId 0
        else match check with
          | some (k, e) => t.cutColl g e e 6 s.myId k
          | none =>
            let (u, st, c) := t.primeColl g x c
            if st ≠ .ok then u.cutColl g st st 6 u.myId 0 else u.beginAxis g x c c.phase c.axis

/-! ### Combining, sending, stepping (R300 to R307) -/

/-- The step at which a segment index is to be combined next. -/
def Group.nextStep (x : Group) (c : Coll) (mask : Nat) (rev : Bool) (seg : Nat) : Option Nat :=
  (List.range (x.steps c.desc c.axis + 1)).find? fun u =>
    (segsOf c.desc c.phase rev (x.combines c.desc mask c.phase c.axis u rev)).contains seg && ! c.combined.contains (u, rev, seg)

/-- Return the slot of a received segment, and a credit upstream (R290). -/
def State.freeSlotOf (s : State) (g : Nat) (x : Group) (c : Coll) (u : Nat) (rev : Bool) (seg : Nat) : State :=
  if u = 0 then s.putColl g x c
  else
    let k := x.key c (u - 1) rev seg
    let s := s.putColl g { x with rx := x.rx.filter fun r => ! (r.1 == k) } c
    s.grant g x c rev 1

/-- Combine a segment at step u over units lo to hi − 1 (R300 to R304). -/
def State.combineAt (s : State) (g : Nat) (x : Group) (c : Coll) (u : Nat) (rev : Bool) (seg lo hi : Nat) : State :=
  let d := c.desc
  let ub := d.unitBytes c.phase
  let copies := c.phase = .gather ∨ c.phase = .frameGather
  let (s, st, own, fl) := if u = 0 ∨ ¬ copies then s.ownUnits g x c lo hi else (s, .ok, [], {})
  if st ≠ .ok then s.cutColl g st st 6 s.myId 0
  else
    let got := unitsOf ub (hi - lo) (x.got (x.key c (u - 1) rev seg))
    let mixed := if u = 0 then own.map fun v => (v, ({} : Flags))
      else if copies then got.map fun v => (v, ({} : Flags))
      else List.zipWith (d.join c.phase) got own
    let us := mixed.map (·.1)
    let c := { c with flags := (mixed.map (·.2)).foldl Flags.or (c.flags.or fl), combined := c.combined ++ [(u, rev, seg)] }
    let onward := (segsOf d c.phase rev (x.sends d (s.rankMask g) c.phase c.axis u rev)).contains seg
    let c := if onward then { c with ready := c.ready ++ [(x.key c u rev seg, unitsLe ub us)] } else c
    if u = 0 ∨ (¬ copies ∧ onward) then s.putColl g x c
    else
      let (s, st, c) := s.keepUnits g x c lo us
      if st ≠ .ok then s.cutColl g st st 6 s.myId 0
      else if onward then s.putColl g x c else s.freeSlotOf g x c u rev seg

/-- SEGMENT packets of a segment: 4 KiB each, the last padded to whole flits (R289, R292). -/
def segmentPackets (bs : List Byte) : List (List Byte) :=
  (List.range (cdiv bs.length 4096)).map fun i =>
    let x := (bs.drop (4096 * i)).take 4096
    slice x 0 (cdiv x.length 32 * 32)

/-- Send a combined segment against a credit (R290, R303, R307). -/
def State.sendSegment (s : State) (g : Nat) (x : Group) (c : Coll) (k : SegKey) (bs : List Byte) : State :=
  let (p, ids) := x.ring c.axis
  let r := ids.length
  let dest := ids.getD (if k.rev then (p + r - 1) % r else (p + 1) % r) 0
  let ck := (c.phase, c.axis, k.rev, k.cseq)
  let x := { x with credits := x.credits.map fun y => if y.1 = ck then (y.1, y.2 - 1) else y }
  let c := { c with ready := c.ready.filter fun y => ! (y.1 == k), sent := c.sent ++ [(k.step, k.rev, k.seg)] }
  let s := s.each (segmentPackets bs) fun t data =>
    t.inject (t.groupDie g)
      { dest := dest, src := t.myId, cls := 3, opcode := 0xC0, gen := t.chipGen, long := true, length := data.length / 32
        cmd := collCmd (t.fld (Reg.carGroupIdId g)) k.cseq (stepByte c.phase c.axis k.step k.rev) c.flags k.seg c.check, data := data }
  s.freeSlotOf g x c k.step k.rev k.seg

/-- DST_FRAMES of a T128 output (R301). -/
def Coll.framesOut (c : Coll) : List Byte :=
  (List.range c.desc.tiles).flatMap fun k =>
    let v := c.frames.getD k 0
    natLe 4 (ucode 16 (commonFrame v) + b2n ((entryOf v).2 || c.saturated.contains k) * 2 ^ 16)

/-- The last step is over: frames of a T128 output are written, and the collective waits for COLLECTIVE_COMPLETE. -/
def State.closeSteps (s : State) (g : Nat) (x : Group) (c : Coll) : State :=
  let d := c.desc
  if d.sum && d.outCode = 10 then
    let t := s.save (.firing (s.groupJob g)) (d.dstFrames % 2 ^ 48) c.framesOut
    if t.2 = .ok then t.1.putColl g x { c with finished := true } else t.1.cutColl g t.2 t.2 6 s.myId 0
  else s.putColl g x { c with finished := true }

end Sys2Proof.Machine
end

