-- ==== Sys2Proof/Machine/Collectives.lean ====
section
/-! DEFINITION. The group commands and the collective packets and events (R282 to R316, R354). -/

namespace Sys2Proof.Machine

/-! ### Group commands (R283 to R287, R293) -/

/-- The rings of a rank in a group: axis, position, module IDs by position (R282, R283). -/
def ringsOf (mask rank : Nat) (ids : List Nat) : List (Nat × Nat × List Nat) :=
  (axesOf mask).map fun a =>
    (a, ringPos mask a rank, (List.range (ringSize mask a)).map fun i => ids.getD (ringRank mask a rank i) 0)

/-- Is every ring step of this member aligned (R285)? -/
def ringsAligned (me mask rank : Nat) (ids : List Nat) : Bool :=
  (axesOf mask).all fun a =>
    let n := ringSize mask a
    let p := ringPos mask a rank
    [(p + 1) % n, (p + n - 1) % n].all fun q =>
      let r := ringRank mask a rank q
      Nat.xor me (ids.getD r 0) == Nat.xor rank r

/-- Free group entries. -/
def State.freeGroups (s : State) : List Nat := (List.range 64).filter fun g => s.fld (Reg.carGroupStateState g) == 0

/-- Free slots of a home die (R288). -/
def freeSlotsFld (die : Nat) : Fld := if die = 0 then Reg.carStatusFreeSlotsF0 else Reg.carStatusFreeSlotsF1

/-- The module IDs of the rank table in force of a job. -/
def State.rankIds (s : State) (job : Nat) : List Nat := match s.rankTab job with | some (_, t) => t.ids | none => []

/-- Status of a group creation (R284, R354; log entry 21, DEDUCED). -/
def State.groupStatus (s : State) (o : Origin) (p : GroupParams) : Status :=
  let ids := s.rankIds (s.sessJob o.sess)
  let member := match rankOf ids s.myId with | some r => (groupRanks p.base p.mask).contains r | none => false
  let fence := match s.ownCtx o p.ctx with | some x => s.fenced x.p.partition | none => s.chipFence
  if fence then .fenced
  else if s.freeGroups.isEmpty ∨ s.fld (freeSlotsFld (p.home % 2)) < p.slots then .length
  else if p.weight = 0 ∨ 15 < p.weight ∨ p.slots < 2 ∨ 32 < p.slots ∨ p.slots % 2 = 1 ∨ p.log2 < 4 ∨ 12 < p.log2 ∨ 1 < p.home
      ∨ p.mask % 2 ^ 16 = 0 then .shape
  else if p.addr % 64 ≠ 0 then .align
  else if (s.ownCtx o p.ctx).isNone
      ∨ ¬ member
      ∨ ((groupRanks p.base p.mask).any fun r => ids.length ≤ r)
      ∨ (s.groups.any fun g => s.fld (Reg.carGroupIdId g.1) == p.id) then .access
  else if ¬ s.scale ∧ ((groupRanks p.base p.mask).any fun r => farApart (ids.getD r 0) s.myId) then .licence
  else .ok

/-- Make a group's entry (R283, R285, R286, R315, R316). -/
def State.makeGroup (s : State) (g job : Nat) (p : GroupParams) : State :=
  let ids := s.rankIds job
  let rank := (rankOf ids s.myId).getD 0
  let aligned := ringsAligned s.myId p.mask rank ids
  let s := s.setGroup g { addr := p.addr, log2 := p.log2, rank := rank, rings := ringsOf p.mask rank ids }
  let s := ((((s.setReg (Reg.carGroupStateOff g) 0).setFld (Reg.carGroupStateWeight g) p.weight).setFlag
    (Reg.carGroupStateAligned g) aligned).setFld (Reg.carGroupStateHomeDie g) p.home).setFld (Reg.carGroupStateSlots g) p.slots
  let s := ((s.setFld (Reg.carGroupStateAxes g) ((axesOf p.mask).foldl (fun acc a => acc + 2 ^ a) 0)).setFld
    (Reg.carGroupStateState g) 1).setFld (Reg.carGroupIdId g) p.id
  let s := (s.setFld (Reg.carGroupContextGeneration g) (s.rankGen job)).setFld (Reg.carGroupContextContext g) p.ctx
  let s := (s.setFld (Reg.carGroupMembersRankMask g) p.mask).setFld (Reg.carGroupMembersBaseRank g) p.base
  let s := (s.sub (freeSlotsFld p.home) p.slots).add Reg.carStatusGroups 1
  s.ev 0x0801 p.home g p.id (2 ^ popc 16 p.mask + b2n aligned * 2 ^ 31)

/-- GROUP_CREATE: which free entry it takes is a free value. -/
def State.doGroupCreate (o : Origin) (p : GroupParams) (s : State) : State :=
  match s.groupStatus o p with
  | .ok =>
    let g := pick s.freeGroups (Config.freeValue s.free)
    (s.fresh.makeGroup g (s.sessJob o.sess) p).finish o .ok
  | st => s.finish o st

/-- GROUP_CREATE. -/
def execGroupCreate (o : Origin) (p : GroupParams) (s : State) : Host.Outcome State Fault Refusal :=
  s.granted fun s => s.hostCmd o 0x40 (State.doGroupCreate o p)

/-- The group of an ID that belongs to the session's job (R387). -/
def State.ownGroup (s : State) (o : Origin) (gid : Nat) : Option (Nat × Group) :=
  s.groups.find? fun g => s.fld (Reg.carGroupIdId g.1) == gid && s.groupJob g.1 == s.sessJob o.sess

/-- GROUP_DESTROY (R287, R354). -/
def State.doGroupDestroy (o : Origin) (gid : Nat) (s : State) : State :=
  match s.ownGroup o gid with
  | none => s.finish o .access
  | some (g, _) => if s.chipFence then s.finish o .fenced else (s.destroyGroup g 1).finish o .ok

/-- GROUP_DESTROY. -/
def execGroupDestroy (o : Origin) (gid : Nat) (s : State) : Host.Outcome State Fault Refusal :=
  s.granted fun s => s.hostCmd o 0x41 (State.doGroupDestroy o gid)

/-- GROUP_DOORBELL (R101, R293, R354). -/
def State.doGroupDoorbell (o : Origin) (gid tail : Nat) (s : State) : State :=
  match s.ownGroup o gid with
  | none => s.finish o .access
  | some (g, x) =>
    if s.chipFence then s.finish o .fenced
    else if 2 ^ x.log2 ≤ tail then s.finish o .shape
    else if passesHead (2 ^ x.log2) (s.fld (Reg.carGroupQueueHead g)) (s.fld (Reg.carGroupQueueTail g)) tail then s.finish o .length
    else (s.setFld (Reg.carGroupQueueTail g) tail).finish o .ok

/-- GROUP_DOORBELL. -/
def execGroupDoorbell (o : Origin) (gid tail : Nat) (s : State) : Host.Outcome State Fault Refusal :=
  s.granted fun s => s.hostCmd o 0x42 (State.doGroupDoorbell o gid tail)

/-! ### Engine events -/

/-- Does a group's queue hold a collective? -/
def State.collQueued (s : State) (g : Nat) : Bool := s.fld (Reg.carGroupQueueHead g) != s.fld (Reg.carGroupQueueTail g)

/-- COLLECTIVE_START (R293, R297, R329): of a group neither CREATING nor BUSY, outside a bank of its job and outside HALTED. -/
def State.collStart (g : Nat) (s : State) : State :=
  match s.group g with
  | some x =>
    let st := s.fld (Reg.carGroupStateState g)
    if (st = 2 ∨ st = 4) ∧ x.run.isNone ∧ s.collQueued g ∧ ¬ s.bankHolds (s.groupJob g) ∧ ¬ s.haltedNow then s.startColl g x else s
  | none => s

/-- COLLECTIVE_START. -/
def execCollectiveStart (g : Nat) (s : State) : Host.Outcome State Fault Refusal := s.does (State.collStart g)

/-- Do something with the running collective of a group. -/
def State.onColl (s : State) (g : Nat) (f : Group → Coll → State) : State :=
  match s.group g with
  | some x => (match x.run with | some c => f x c | none => s)
  | none => s

/-- SEGMENT_COMBINE (R300 to R304, R307): `mismatch` says that the residue check of R302 fails. -/
def State.combine (g seg : Nat) (rev mismatch : Bool) (s : State) : State :=
  s.onColl g fun x c =>
    let mask := s.rankMask g
    match x.nextStep c mask rev seg with
    | none => s
    | some u =>
      match x.combines c.desc mask c.phase c.axis u rev with
      | none => s
      | some r =>
        if u ≠ 0 ∧ (x.got (x.key c (u - 1) rev seg)).length < segBytes c.desc c.phase r seg then s
        else if mismatch then
          if c.retried.contains (u, rev, seg) then
            (s.ev 0x0806 (s.groupDie g) g (x.next % 2 ^ 16) seg).cutColl g .arithCheck .arithCheck 6 s.myId 0
          else
            let s := s.putColl g x { c with retried := c.retried ++ [(u, rev, seg)] }
            (s.bump Reg.carResidueRetriesCount).ev 0x0805 (s.groupDie g) g (x.next % 2 ^ 16) seg
        else
          let q := segRange r (c.desc.unitBytes c.phase) seg
          s.combineAt g x c u rev seg q.1 q.2

/-- SEGMENT_COMBINE. -/
def execSegmentCombine (g seg : Nat) (rev mismatch : Bool) (s : State) : Host.Outcome State Fault Refusal :=
  s.does (State.combine g seg rev mismatch)

/-- Does a ready segment of a collective hold a downstream credit (R307)? -/
def Group.credited (x : Group) (c : Coll) (k : SegKey) : Bool :=
  x.credits.any fun y => y.1 == (c.phase, c.axis, k.rev, k.cseq) && decide (0 < y.2)

/-- Groups of a die with a segment that is ready and credited, in ascending index. -/
def State.readyGroups (s : State) (die : Nat) : List Nat :=
  (List.range 64).filter fun g => s.groupDie g == die && (match s.group g with
    | some x => (match x.run with | some c => c.ready.any fun y => x.credited c y.1 | none => false)
    | none => false)

/-- The group whose turn it is at a carry engine, with the turns it then has left (R308): the last one served while it has turns
left and a segment to send, else the next in ascending index, with WEIGHT turns. -/
def State.carryTurn (s : State) (die : Nat) : Option (Nat × Nat) :=
  let (last, left) := s.carTurns.getD die (63, 0)
  let ready := s.readyGroups die
  if 0 < left ∧ ready.contains last then some (last, left)
  else match (ready.find? (last < ·)).or ready.head? with
    | some g => some (g, s.fld (Reg.carGroupStateWeight g))
    | none => none

/-- SEGMENT_SEND (R290, R307, R308): of the group whose turn it is, the first ready segment of this index and direction, against a
credit. -/
def State.segSend (g seg : Nat) (rev : Bool) (s : State) : State :=
  s.onColl g fun x c =>
    match c.ready.find? fun y => y.1.seg == seg && y.1.rev == rev, s.carryTurn (s.groupDie g) with
    | some (k, bs), some (due, left) =>
      if due = g ∧ x.credited c k then
        ({ s with carTurns := lset s.carTurns (s.groupDie g) (g, left - 1) }).sendSegment g x c k bs
      else s
    | _, _ => s

/-- SEGMENT_SEND. -/
def execSegmentSend (g seg : Nat) (rev : Bool) (s : State) : Host.Outcome State Fault Refusal := s.does (State.segSend g seg rev)

/-- STEP_DONE (R303 to R307): the next step, axis or phase. -/
def State.stepDone (g : Nat) (s : State) : State :=
  s.onColl g fun x c =>
    if c.finished ∨ ¬ x.stepOver c (s.rankMask g) then s
    else if c.step + 1 < x.steps c.desc c.axis then s.putColl g x { c with step := c.step + 1 }
    else
      match c.desc.after c.phase c.axis with
      | some (ph, a) => s.beginAxis g x c ph a
      | none => s.closeSteps g x c

/-- STEP_DONE. -/
def execStepDone (g : Nat) (s : State) : Host.Outcome State Fault Refusal := s.does (State.stepDone g)

/-- COLLECTIVE_COMPLETE (R310): record, then signals; `cycles` is the record's count. -/
def State.collDone (g cycles : Nat) (s : State) : State :=
  s.onColl g fun x c =>
    if c.finished then
      let s := (s.writeCollRecord g c .ok cycles).bump (Reg.carGroupDoneCount g)
      (s.collSignals g c.desc.signalList).leaveColl g x .ok
    else s

/-- COLLECTIVE_COMPLETE. -/
def execCollectiveComplete (g cycles : Nat) (s : State) : Host.Outcome State Fault Refusal := s.granted (State.collDone g cycles)

/-- READY_RETRY (R286): READY to each ring neighbour that has not answered. -/
def State.readyRetry (g : Nat) (s : State) : State :=
  match s.group g with
  | some x =>
    if s.fld (Reg.carGroupStateState g) = 1 then
      s.each ((x.neighbours (x.rings.map (·.1))).filter fun m => ! x.answered.contains m) fun t m =>
        t.sendColl g m 0xC4 0 0 {} 0 0 [0]
    else s
  | none => s

/-- READY_RETRY. -/
def execReadyRetry (g : Nat) (s : State) : Host.Outcome State Fault Refusal := s.does (State.readyRetry g)

/-- HEARTBEAT (R312): 100 µs have passed without another packet to a ring neighbour. -/
def State.heartbeat (g m : Nat) (s : State) : State :=
  s.onColl g fun x c =>
    if (x.neighbours (x.rings.map (·.1))).contains m then
      s.sendColl g m 0xC3 (x.next % 2 ^ 16) (stepByte c.phase c.axis c.step false) c.flags 0 c.check []
    else s

/-- HEARTBEAT. -/
def execHeartbeat (g m : Nat) (s : State) : Host.Outcome State Fault Refusal := s.does (State.heartbeat g m)

/-- MEMBER_LOST (R312): cause 4. -/
def execMemberLost (g m : Nat) (s : State) : Host.Outcome State Fault Refusal :=
  s.does fun s => s.onColl g fun x _ =>
    if (x.neighbours (x.rings.map (·.1))).contains m then s.cutColl g .memberLost .memberLost 4 s.myId 0 m else s

/-- STALL_TIMEOUT (R286, R312): cause 5, also of a collective that waits for a CREATING group. -/
def State.stall (g : Nat) (s : State) : State :=
  match s.group g with
  | none => s
  | some x =>
    let s := if x.run.isNone ∧ s.fld (Reg.carGroupStateState g) = 1 ∧ s.collQueued g then
        let t := s.readColl g x; t.1.busyColl g x t.2.2
      else s
    s.onColl g fun y c =>
      (s.ev 0x0808 (s.groupDie g) g (y.next % 2 ^ 16) (stepByte c.phase c.axis c.step false)).cutColl g .timeout .timeout 5 s.myId 0

/-- STALL_TIMEOUT. -/
def execStallTimeout (g : Nat) (s : State) : Host.Outcome State Fault Refusal := s.does (State.stall g)

/-! ### Packets (R290 to R292, R298, R312, R313, R354) -/

/-- Drop a stale collective packet (R313). -/
def State.staleColl (s : State) (p : Packet) : State :=
  let g := match s.groups.find? fun g => s.fld (Reg.carGroupIdId g.1) == field p.cmd 0 4 with | some x => s.groupDie x.1 | none => 0
  (s.bump Reg.carStaleSegmentsCount).ev 0x0807 g p.src (field p.cmd 0 4) (field p.cmd 4 2)

/-- READY from a ring neighbour (R286). -/
def State.takeReady (s : State) (g : Nat) (x : Group) (p : Packet) : State :=
  if field p.data 0 1 = 1 then
    let x := { x with answered := if x.answered.contains p.src then x.answered else x.answered ++ [p.src] }
    let s := s.setGroup g x
    if s.fld (Reg.carGroupStateState g) = 1 ∧ (x.neighbours (x.rings.map (·.1))).all x.answered.contains then
      s.setFld (Reg.carGroupStateState g) 2
    else s
  else s.sendColl g p.src 0xC4 0 0 {} 0 0 [1]

/-- CREDIT (R290): credits for segments of a phase, axis and direction. -/
def takeCredit (x : Group) (p : Packet) : Group :=
  let b := field p.cmd 6 1
  let k := (phaseOf b, bits b 2 0, bit b 5, field p.cmd 4 2)
  let n := field p.data 0 2
  if x.credits.any fun y => y.1 == k then
    { x with credits := x.credits.map fun y => if y.1 = k then (y.1, y.2 + n) else y }
  else { x with credits := x.credits ++ [(k, n)] }

/-- SEGMENT (R289, R298): its units join the segment in its slot; one that no slot waits for is stale. -/
def State.takeSegment (s : State) (g : Nat) (x : Group) (c : Coll) (p : Packet) : State :=
  let b := field p.cmd 6 1
  let k : SegKey := ⟨field p.cmd 4 2, phaseOf b, bits b 2 0, bits b 4 3, bit b 5, field p.cmd 8 4⟩
  let have_ := x.got k
  match (if k.phase = c.phase ∧ k.axis = c.axis then x.takes c.desc (s.rankMask g) k.phase k.axis k.step k.rev else none) with
  | none => s.staleColl p
  | some r =>
    let want := segBytes c.desc c.phase r k.seg
    if ¬ (segsOf c.desc c.phase k.rev (some r)).contains k.seg ∨ want ≤ have_.length
        ∨ c.combined.contains (k.step + 1, k.rev, k.seg) then s.staleColl p
    else
      let new := (have_ ++ slice p.data 0 (32 * p.length)).take want
      s.putColl g { x with rx := (x.rx.filter fun y => ! (y.1 == k)) ++ [(k, new)] } c

/-- The flags that a packet of the running collective brings: those gathered so far, and its own (R300). -/
def Coll.hear (c : Coll) (p : Packet) : Coll :=
  { c with flags := (c.flags.or (flagsOf (field p.cmd 7 1))).or { degraded := p.degraded, detoured := p.detoured } }

/-- ABORT (R312): it ends the running collective, or waits for one not yet started. -/
def State.takeAbort (s : State) (g : Nat) (x : Group) (p : Packet) : State :=
  let st := stOf (field p.data 0 1)
  let origin := field p.data 2 2
  let cseq := field p.cmd 4 2
  if x.run.isSome ∧ cseq = x.next % 2 ^ 16 then s.cutColl g st st 7 origin 0
  else if x.aborts.any fun a => a.1 == cseq then s
  else s.setGroup g { x with aborts := x.aborts ++ [(cseq, st, origin, field p.data 4 1)] }

/-- A COL packet reaches the carry engine: discarded in a chip reset (R354), stale (R313), mismatched (R298), or taken. -/
def State.takeColl (s : State) (p : Packet) : State :=
  if s.flag Reg.rstStatusChipResetting then s.bump Reg.rstColDiscardedCount
  else
    match s.groupOf (field p.cmd 0 4) p.src with
    | none => s.staleColl p
    | some (g, x) =>
      if p.opcode = 0xC4 then s.takeReady g x p
      else
        let cseq := field p.cmd 4 2
        if (cseq + 2 ^ 16 - x.next % 2 ^ 16) % 2 ^ 16 ≥ 2 ^ 15 then s.staleColl p
        else
          match (if cseq = x.next % 2 ^ 16 then x.run else none) with
          | some c =>
            if field p.cmd 12 2 ≠ c.check then
              (s.ev 0x0809 (s.groupDie g) g cseq p.src).cutColl g .shape .shape 6 p.src 0
            else
              let c := c.hear p
              let x := { x with run := some c }
              match p.opcode with
              | 0xC0 => s.takeSegment g x c p
              | 0xC1 => s.setGroup g (takeCredit x p)
              | 0xC2 => (s.setGroup g x).takeAbort g x p
              | _ => s.setGroup g x
          | none =>
            match p.opcode with
            | 0xC0 => s.staleColl p
            | 0xC1 => s.setGroup g (takeCredit x p)
            | 0xC2 => s.takeAbort g x p
            | _ => s

/-- A collective packet of one opcode arrives (log entry 2, DESIGN CHOICE). -/
def State.collArrives (s : State) (op : Nat) (p : Packet) : State :=
  if p.opcode = op ∧ p.cls = 3 ∧ p.dest = s.myId ∧ p.tailOk then s.takeColl p else s

/-- READY. -/
def execReady (p : Packet) (s : State) : Host.Outcome State Fault Refusal := s.does fun s => s.collArrives 0xC4 p

/-- SEGMENT. -/
def execSegment (p : Packet) (s : State) : Host.Outcome State Fault Refusal := s.does fun s => s.collArrives 0xC0 p

/-- CREDIT. -/
def execCredit (p : Packet) (s : State) : Host.Outcome State Fault Refusal := s.does fun s => s.collArrives 0xC1 p

/-- ABORT. -/
def execAbort (p : Packet) (s : State) : Host.Outcome State Fault Refusal := s.granted fun s => s.collArrives 0xC2 p

/-- HEARTBEAT_ARRIVAL. -/
def execHeartbeatArrival (p : Packet) (s : State) : Host.Outcome State Fault Refusal := s.does fun s => s.collArrives 0xC3 p

end Sys2Proof.Machine
end

