-- ==== Sys2Proof/Machine/Operands.lean ====
section
/-! DEFINITION. The operands of host commands: what a COMMAND body spells (R388, R390, R461). -/

namespace Sys2Proof.Machine

/-- DATA_LENGTH. -/
def dataLength (b : List Byte) : Nat := field b 2 2

/-- TAG. -/
def tagOf (b : List Byte) : Nat := field b 4 4

/-- The data of a body. -/
def bodyData (b : List Byte) : List Byte := slice b 32 (dataLength b)

/-- A context's parameters: the seed, whose bytes are the SM4 key's in order (R53), then four rings of 16 bytes. -/
def ctxOperands (p d : List Byte) : CtxParams :=
  { partition := field p 0 1, weight := field p 1 1, queues := field p 2 1, syncFirst := field p 4 2, syncCount := field p 6 2
    slotFirst := field p 8 2, slotCount := field p 10 2, seed := leNat (slice d 0 16).reverse
    rings := (List.range 4).map fun q => (field d (16 + 16 * q) 8, field d (24 + 16 * q) 1) }

/-- A slot command's parameters. -/
def slotOperands (p : List Byte) : SlotParams :=
  { slot := field p 0 2, ctx := field p 2 2, pageTokens := field p 4 2, pages := field p 8 4, tokens := field p 12 4, table := field p 16 8 }

/-- GROUP_CREATE's parameters. -/
def groupOperands (p : List Byte) : GroupParams :=
  { id := field p 0 4, ctx := field p 4 2, base := field p 6 2, mask := field p 8 2, weight := field p 10 1, slots := field p 11 1
    home := field p 12 1, log2 := field p 13 1, addr := field p 16 8 }

/-- FORM_RICK's and JOIN's parameters. -/
def rickOperands (p : List Byte) : RickParams :=
  { ctx := field p 0 2, bits := [field p 2 1, field p 3 1, field p 4 1], protBase := field p 6 2, protCount := field p 8 2
    logBase := field p 10 2, logCount := field p 12 2 }

/-- Numbers of n bytes, one after another. -/
def numbers (d : List Byte) (n count : Nat) : List Nat := (List.range count).map fun i => field d (n * i) n

/-- Require data of a command: else LENGTH (R388). -/
def needData (n : Nat) (d : List Byte) (i : Instr) : Except Status Instr := if n ≤ d.length then .ok i else .error .length

/-- The command that a body spells: an opcode not listed is refused with SHAPE, one whose count exceeds its data with LENGTH.
`p` is PARAMS, `d` the data.  Each parameter lies at its natural alignment, in the order listed (R388). -/
def hostOperands (o : Origin) (op : Nat) (p d : List Byte) : Except Status Instr :=
  let ctx := field p 0 2
  match op with
  | 0x00 => .ok (.nop o)
  | 0x10 => if d.length = 80 then .ok (.contextCreate o (ctxOperands p d)) else .error .length
  | 0x11 => .ok (.contextDestroy o ctx)
  | 0x12 => .ok (.contextAbort o ctx)
  | 0x13 => .ok (.doorbell o ctx (field p 2 1) (field p 4 4))
  | 0x14 => .ok (.queueRestart o ctx (field p 2 1) (field p 4 4))
  | 0x15 => .ok (.setSplit o (field p 0 1))
  | 0x16 => .ok (.syncSet o ctx (field p 2 1 != 0) (field p 4 4))
  | 0x17 => .ok (.syncWait o ctx (field p 4 4) (field p 8 4))
  | 0x18 => .ok (.slotOpen o (slotOperands p))
  | 0x19 => .ok (.slotClose o (slotOperands p))
  | 0x1A => .ok (.slotTruncate o (slotOperands p))
  | 0x1B => .ok (.slotRepoint o (slotOperands p))
  | 0x20 => .ok (.memRead o (field p 0 8) (field p 8 4))
  | 0x21 => .ok (.memWrite o (field p 0 8) (field p 8 4) d)
  | 0x22 => needData 32 d (.memAtomic o (field p 0 8) (field p 8 1) (field p 9 1) (slice d 0 32))
  | 0x23 => .ok (.regionAssign o ctx (field p 2 2))
  | 0x24 => .ok (.regionRelease o ctx)
  | 0x30 => .ok (.dmaBind o (field p 0 1) (field p 2 2))
  | 0x31 => .ok (.dmaRelease o (field p 0 1))
  | 0x32 => .ok (.dmaStart o (field p 0 1) d)
  | 0x33 => .ok (.dmaAbort o (field p 0 1))
  | 0x40 => .ok (.groupCreate o (groupOperands p))
  | 0x41 => .ok (.groupDestroy o (field p 0 4))
  | 0x42 => .ok (.groupDoorbell o (field p 0 4) (field p 4 4))
  | 0x50 => needData (2 * field p 8 2) d (.installRanks o (field p 0 4) (field p 4 4) (numbers d 2 (field p 8 2)))
  | 0x51 => needData (2 * field p 8 2) d (.stageRanks o (field p 0 4) (field p 4 4) (numbers d 2 (field p 8 2)) (field p 10 1))
  | 0x52 => .ok (.formRick o (rickOperands p))
  | 0x53 => .ok (.dissolveRick o)
  | 0x54 => .ok (.join o (rickOperands p))
  | 0x55 => .ok (.rebuild o ctx)
  | 0x56 => .ok (.rollback o (field p 0 4))
  | 0x60 => .ok (.eventRead o (field p 0 4) (field p 4 2))
  | 0x61 => needData (4 * ctx) d (.readRegs o (numbers d 4 ctx))
  | 0x62 => .ok (.resetRequest o (field p 0 1) (field p 1 1))
  | 0x63 => needData (8 * ctx) d (.writeRegs o ((List.range ctx).map fun i => (field d (8 * i) 4, field d (8 * i + 4) 4)))
  | 0x70 => needData 32 d (.attest o (field d 0 32))
  | _ => .error .shape

/-- The command of a whole body; a LENGTH other than 32 + DATA_LENGTH is refused with LENGTH (R388). -/
def hostInstr (o : Origin) (b : List Byte) : Except Status Instr :=
  if b.length ≠ 32 + dataLength b then .error .length else hostOperands o (field b 0 1) (slice b 8 24) (bodyData b)

end Sys2Proof.Machine
end

