-- ==== Sys2Proof/Machine/Dma.lean ====
section
/-! DEFINITION. The DMA commands and events (R189 to R210, R329, R354, R390). -/

namespace Sys2Proof.Machine

/-! ### Host commands -/

/-- The context that holds a channel, of the session's job (R190, R387). -/
def State.ownChannel (s : State) (o : Origin) (n : Nat) : Bool :=
  s.flag (Reg.dmaChOwnerBound n) && (s.ownCtx o (s.fld (Reg.dmaChOwnerContext n))).isSome

/-- DMA_BIND (R190, R354). -/
def State.doBind (o : Origin) (n c : Nat) (s : State) : State :=
  if 127 < n then s.finish o .shape
  else s.withCtx o c fun x =>
    if s.fenced x.p.partition then s.finish o .fenced
    else if s.flag (Reg.dmaChOwnerBound n) then
      let old := s.fld (Reg.dmaChOwnerContext n)
      if old = c then s.finish o .ok
      else s.finish o (if (s.ownCtx o old).isSome then .state else .access)
    else if s.dmaBusy n then s.finish o .state
    else ((s.setFlag (Reg.dmaChOwnerBound n) true).setFld (Reg.dmaChOwnerContext n) c).finish o .ok

/-- DMA_BIND. -/
def execDmaBind (o : Origin) (ch ctx : Nat) (s : State) : Host.Outcome State Fault Refusal :=
  s.granted fun s => s.hostCmd o 0x30 (State.doBind o ch ctx)

/-- DMA_RELEASE (R190). -/
def State.doUnbind (o : Origin) (n : Nat) (s : State) : State :=
  if 127 < n then s.finish o .shape
  else if ¬ s.ownChannel o n then s.finish o .access
  else if s.dmaBusy n then s.finish o .state
  else (s.unbind n).finish o .ok

/-- DMA_RELEASE. -/
def execDmaRelease (o : Origin) (ch : Nat) (s : State) : Host.Outcome State Fault Refusal :=
  s.granted fun s => s.hostCmd o 0x31 (State.doUnbind o ch)

/-- RW bits of CTRL (R208). -/
def ctrlRW : Nat := 0x00FF3CF3

/-- The RW offsets of a channel below 0x60, in offset order, with their RW bits (R208, R390). -/
def imageFields (n : Nat) : List (Nat × Nat) :=
  [(0x00, ctrlRW), (0x08, 0xFFFFFFFF), (0x0C, 0xFFFFFFFF), (0x10, 0xFFFFFFFF), (0x14, 0xFFFFFFFF), (0x18, 0xFFFFFFFF)
  , (0x20, 0xFFFFFFFF), (0x24, 0xFFFFFFFF), (0x28, 0xFFFF2FFF), (0x2C, 0xFFFFFFFF)]
  ++ if dmaData n then (List.range 3).flatMap fun k =>
      [(0x30 + 12 * k, 0xFFFF), (0x34 + 12 * k, 0xFFFFFFFF), (0x38 + 12 * k, 0xFFFFFFFF)] else []

/-- Write the RW bits of a register of a channel. -/
def State.writeRW (s : State) (off mask v : Nat) : State := s.setReg off (BitVec.ofNat 32 (Nat.land v mask))

/-- DMA_START (R199, R200, R354, R390): the image's RW fields in offset order, then START. -/
def State.doDmaStart (o : Origin) (n : Nat) (image : List Byte) (s : State) : State :=
  let ctrl := field image 0 4
  if 127 < n then s.finish o .shape
  else if image.length ≠ 96 then s.finish o .length
  else if ¬ s.ownChannel o n then s.finish o .access
  else if s.chipFence then s.finish o .fenced
  else if ¬ bit ctrl 31 ∨ bit ctrl 30 ∨ bit ctrl 29 then s.finish o .shape
  else if s.dmaBusy n ∨ s.dmaState n = dmaHalted then s.finish o .state
  else
    let s := s.each (imageFields n) fun t x => t.writeRW (Reg.dmaChCtrlOff n + x.1) x.2 (field image x.1 4)
    (s.setDma n { s.dma n with reply := some o }).dmaBegin n ctrl

/-- DMA_START. -/
def execDmaStart (o : Origin) (ch : Nat) (image : List Byte) (s : State) : Host.Outcome State Fault Refusal :=
  s.granted fun s => s.hostCmd o 0x32 (State.doDmaStart o ch image)

/-- DMA_ABORT (R206, R390): answered when the channel is HALTED; one that is neither BUSY nor DRAINING has nothing to abort. -/
def State.doDmaAbort (o : Origin) (n : Nat) (s : State) : State :=
  if 127 < n then s.finish o .shape
  else if ¬ s.ownChannel o n then s.finish o .access
  else if s.dmaBusy n then
    let s := s.dmaAbort n 1
    s.setDma n { s.dma n with aborts := (s.dma n).aborts ++ [o] }
  else s.finish o .ok

/-- DMA_ABORT. -/
def execDmaAbort (o : Origin) (ch : Nat) (s : State) : Host.Outcome State Fault Refusal :=
  s.granted fun s => s.hostCmd o 0x33 (State.doDmaAbort o ch)

/-! ### Writes of CTRL (R191, R199, R200, R206, R208) -/

/-- Who may write a channel's registers (R190, R191). -/
def State.dmaWriter (s : State) (r : Requester) (n : Nat) : Bool :=
  s.isFw r || (s.isOp r && s.flag (Reg.dmaChOwnerBound n))

/-- A write of CTRL. -/
def State.doCtrl (n value : Nat) (s : State) : State × Status :=
  let rw := s.writeRW (Reg.dmaChCtrlOff n) ctrlRW value
  let start := bit value 31 && ! bit value 30
  if start && s.chipFence then (s, .fenced)
  else if s.dmaBusy n then
    if bit value 30 then (s.dmaAbort n 1, .ok) else (s, .state)
  else if s.dmaState n = dmaHalted then
    if start then (s, .state)
    else if bit value 29 then (rw.setFld (Reg.dmaChStatusState n) dmaIdle, .ok)
    else (rw, .ok)
  else if start then (rw.dmaBegin n value, .ok)
  else (rw, .ok)

/-- The CTRL word that sets one bit and leaves the RW fields as they stand. -/
def State.ctrlWith (s : State) (n b : Nat) : Nat := Nat.land (s.reg (Reg.dmaChCtrlOff n)).toNat ctrlRW + 2 ^ b

/-- A write of CTRL from outside. -/
def State.ctrlWrite (s : State) (r : Requester) (n value : Nat) : State :=
  s.access r (Reg.dmaChCtrlOff n) value .write (gate (s.dmaWriter r n) (State.doCtrl n value))

/-- DMA_CTRL_START: `value` is the CTRL word; START is set and ABORT clear. -/
def execDmaCtrlStart (r : Requester) (ch value : Nat) (s : State) : Host.Outcome State Fault Refusal :=
  s.granted fun s => s.ctrlWrite r (ch % 128) (value % 2 ^ 30 + 2 ^ 31)

/-- DMA_CTRL_ABORT. -/
def execDmaCtrlAbort (r : Requester) (ch : Nat) (s : State) : Host.Outcome State Fault Refusal :=
  s.granted fun s => s.ctrlWrite r (ch % 128) (s.ctrlWith (ch % 128) 30)

/-- DMA_CTRL_CLEAR. -/
def execDmaCtrlClear (r : Requester) (ch : Nat) (s : State) : Host.Outcome State Fault Refusal :=
  s.granted fun s => s.ctrlWrite r (ch % 128) (s.ctrlWith (ch % 128) 29)

/-! ### The engine -/

/-- May a channel issue its next request now (R201, R203, R329)? -/
def State.dmaMayIssue (s : State) (n : Nat) : Bool :=
  let x := s.dma n
  n < 128 && s.dmaState n = dmaBusyCode && ! x.issued && x.due ≤ s.clk
    && x.outBytes + (s.dmaPiece n x).2.2.1 ≤ 65536
    && (match x.job with | some j => ! (x.held && s.bankHolds j) | none => true)

/-- Advance a channel past a request of `size` bytes (R192, R193, R201). -/
def State.dmaAdvance (s : State) (n size : Nat) : State :=
  let x := s.dma n
  let done := s.fld (Reg.dmaChCountCount n) ≤ x.offset + size
  let total := (s.dmaIters n).foldl (· * ·) 1
  let rate := s.fld (Reg.dmaChCtrlRate n)
  s.setDma n { x with run := if done then x.run + 1 else x.run, offset := if done then 0 else x.offset + size
                      issued := done && total ≤ x.run + 1, held := false
                      due := if rate = 0 then 0 else s.clk + cdiv (cdiv size (2 * rate)) 8 }

/-- The channel of a flue die that takes the DMA bus next: the first with a request ready after the last one served (R201). -/
def State.dmaNext (s : State) (die : Nat) : Option Nat :=
  ((List.range 64).map fun k => 64 * die + (s.dmaLast.getD die 0 + 1 + k) % 64).find? s.dmaMayIssue

/-- DMA_REQUEST_ISSUE (R192 to R196, R201). -/
def State.dmaIssue (n : Nat) (s : State) : State :=
  if s.dmaNext (dmaDie n) = some n then
    let s := { s with dmaLast := lset s.dmaLast (dmaDie n) n }
    let (src, dst, size, order) := s.dmaPiece n (s.dma n)
    let op := s.dmaOp n
    let q : DmaReq :=
      { id := 0, write := op = 1, addr := if dmaReadsSource op then src else dst, size := size, dst := dst, order := order
        data := if op = 1 then s.fillBytes n size else [] }
    (s.dmaAdvance n size).dmaSend n q
  else s

/-- DMA_REQUEST_ISSUE. -/
def execDmaRequestIssue (ch : Nat) (s : State) : Host.Outcome State Fault Refusal := s.does (State.dmaIssue ch)

/-- DMA_REPLY: a request to this module's own memory is served and answered; one to another module is answered by its reply
packet (READ_DATA, WRITE_ACK). -/
def State.dmaLocal (n id : Nat) (s : State) : State :=
  match (s.dma n).out.find? fun q => q.id == id && q.addr / 2 ^ 48 == s.myId with
  | some q =>
    let t := s.serve (s.dma n).who (q.addr % 2 ^ 48) (if q.write then .write q.data else .read q.size)
    t.1.dmaTake n q t.2.status t.2.flags t.2.data
  | none => s

/-- DMA_REPLY. -/
def execDmaReply (ch req : Nat) (s : State) : Host.Outcome State Fault Refusal := s.does (State.dmaLocal ch req)

/-- DMA_TRANSFER_DONE (R204): every request issued, every response returned. -/
def State.dmaDoneNow (n : Nat) (s : State) : State :=
  let x := s.dma n
  if s.dmaState n = dmaBusyCode ∧ x.issued ∧ x.out.isEmpty then s.dmaFinish n else s

/-- DMA_TRANSFER_DONE. -/
def execDmaTransferDone (ch : Nat) (s : State) : Host.Outcome State Fault Refusal := s.granted (State.dmaDoneNow ch)

/-- DMA_DRAINED (R205, R206). -/
def State.dmaDrainedNow (n : Nat) (s : State) : State :=
  if s.dmaState n = dmaDraining ∧ (s.dma n).out.isEmpty then (s.dmaHalt n).reap n else s

/-- DMA_DRAINED. -/
def execDmaDrained (ch : Nat) (s : State) : Host.Outcome State Fault Refusal := s.does (State.dmaDrainedNow ch)

end Sys2Proof.Machine
end

