-- ==== Sys2Proof/Machine/ResetOps.lean ====
section
/-! DEFINITION. Resets and the ladder (R349 to R365): grant, snapshot, drain, release, escalation. -/

namespace Sys2Proof.Machine

/-! ### Fault capture (R365) -/

/-- RST_FAULT_UNIT's word for a domain: die, core, engine, cluster. -/
def unitWord : Option Domain → Nat
  | some (.engine k p e) => k * 2 ^ 24 + p * 2 ^ 16 + e * 2 ^ 8 + p / 18
  | some (.core k p) => k * 2 ^ 24 + p * 2 ^ 16 + p / 18
  | some (.cluster k c) => k * 2 ^ 24 + 0xFF * 2 ^ 16 + c
  | _ => 0xFF000F

/-- Take a ladder action of a fault: the number of the fault, a new one when `fault` is none; the registers load at the first
action while VALID is 0, LEVEL follows that fault, and other faults count. -/
def State.capture (s : State) (fault : Option Nat) (level cause part : Nat) (ctx : Option (Nat × Nat)) (unit : Option Domain) :
    State × Nat :=
  let (s, f) := match fault with
    | some f => (s, f)
    | none => ({ s with faults := s.faults + 1 }, s.faults)
  if s.flag Reg.rstFaultContextValid then
    if s.faultHeld = some f then
      let s := if s.fld Reg.rstFaultContextLevel < level then s.setFld Reg.rstFaultContextLevel level else s
      (if (s.reg Reg.rstFaultUnitOff).toNat = 0xFF000F then s.setReg Reg.rstFaultUnitOff (BitVec.ofNat 32 (unitWord unit)) else s, f)
    else (if fault.isNone then s.bump Reg.rstFaultCountCount else s, f)
  else
    let w := 2 ^ 31 + b2n ctx.isNone * 2 ^ 30 + level % 16 * 2 ^ 24 + cause % 256 * 2 ^ 16 + part % 4 * 2 ^ 11
      + (match ctx with | some (c, q) => q % 4 * 2 ^ 9 + c % 512 | none => 0)
    let s := (s.setReg Reg.rstFaultContextOff (BitVec.ofNat 32 w)).setReg Reg.rstFaultUnitOff (BitVec.ofNat 32 (unitWord unit))
    ({ s with faultHeld := some f }, f)

/-- Begin the ladder at level 0 for a context (R361, R362): a context abort, done when CONTEXT_ABORT_DONE comes. -/
def State.ladderAbort (s : State) (c part queue cause : Nat) : State :=
  let (s, f) := s.capture none 0 cause part (some (c, queue)) none
  let s := (s.bump (Reg.rstCountCount 0)).contextAbort c 2 2
  ({ s with ladder := s.ladder ++ [(c, cause, f)] }).rstSync

/-! ### Snapshots (R358 to R360) -/

/-- Sizes of a snapshot's sections for a domain. -/
def State.snapSizes (s : State) (d : Domain) : List Nat :=
  let chip := if d.level = 5 then 0x4000 else 0
  [0x8000, 0x400, 0x8000, 0x8000, 0x4000 * (s.domCores d).length, chip, chip]

/-- Offsets of the sections: one after the other behind the header, 0 for an absent one. -/
def snapOffsets : Nat → List Nat → List Nat
  | _, [] => []
  | o, n :: ns => (if n = 0 then 0 else o) :: snapOffsets (o + n) ns

/-- Words of a register range. -/
def State.regBytes (s : State) (off n : Nat) : List Byte := (List.range n).flatMap fun i => natLe 4 (s.reg (off + 4 * i)).toNat

/-- Free bytes: byte k is the free value k places on. -/
def freeBytes (base n : Nat) : List Byte := (List.range n).map fun k => BitVec.ofNat 8 (Config.freeValue (base + k))

/-- A section's bytes as granted (log entry 25, DEDUCED): queues, running firings and counters as their registers and descriptors stand,
DMA registers; sequence slots, engine states and groups, whose bits the spec does not lay out, as free values. -/
def State.section (s : State) (i off size : Nat) : List Byte :=
  match i with
  | 0 => (List.range 512).flatMap fun c => (List.range 4).flatMap fun q => s.regBytes (Reg.fsqCtxQStateOff c q) 4
  | 1 => (List.range 4).flatMap fun p => match (s.part p).run with
    | some r => slice r.bytes 0 256
    | none => List.replicate 256 0
  | 2 => (List.range 4096).flatMap fun n => natLe 4 (s.sync n) ++ natLe 4 (b2n (s.syncErr n))
  | 5 => (List.range 128).flatMap fun n => s.regBytes (Reg.dmaChCtrlOff n) 32
  | _ => freeBytes (s.free + off) size

/-- The slot of the next snapshot (R358): the next after LAST that is not held. -/
def State.snapSlot (s : State) : Option Nat :=
  ((List.range 8).map fun i => (s.fld Reg.rstSnapStatusLast + 1 + i) % 8).find? fun i => ! bit (s.fld Reg.rstSnapHoldHold) i

/-- Header bytes with SEQ and FLAGS 0 (R359). -/
def State.snapHead (s : State) (d : Domain) (cause : Nat) : List Byte :=
  let sizes := s.snapSizes d
  natLe 4 0 ++ natLe 1 d.level ++ natLe 1 cause ++ natLe 1 (s.domMask d) ++ natLe 1 0
  ++ natLe 4 (s.reg Reg.rstFaultContextOff).toNat ++ natLe 4 (s.reg Reg.rstFaultUnitOff).toNat
  ++ ((List.range 4).flatMap fun p => natLe 1 (s.genOf p)) ++ natLe 1 s.chipGen ++ natLe 3 0
  ++ natLe 8 s.fabricTime ++ natLe 8 (s.opTime + s.fld Reg.glbPowerCyclesCount * 2 ^ 40) ++ List.replicate 24 0
  ++ ((snapOffsets 0x1000 sizes).zip sizes).flatMap fun x => natLe 4 x.1 ++ natLe 4 x.2

/-- Begin the snapshot of a reset (R358): its slot and contents, or none when every slot is held. -/
def State.snapBegin (s : State) (r : Reset) : State × Reset :=
  match s.snapSlot with
  | none =>
    let s := s.setFlag Reg.rstSnapStatusBusy (s.resets.any fun (x : Reset) => x.slot.isSome && ! x.snapDone)
    ((s.bump Reg.rstSnapStatusSkipped).ev 0x0D07 s.unitSrc r.dom.level r.cause 0, { r with snapDone := true })
  | some i =>
    let sizes := s.snapSizes r.dom
    let image := (List.range 7).filterMap fun n =>
      if sizes.getD n 0 = 0 then none else
        let off := (snapOffsets 0x1000 sizes).getD n 0
        some (off, s.section n off (sizes.getD n 0))
    let r := { r with slot := some i, head := s.snapHead r.dom r.cause, image := image }
    let s := { s with free := s.free + 2 ^ 25 }
    ((s.setFld Reg.rstSnapStatusLast i).setFlag Reg.rstSnapStatusBusy true, r)

/-! ### Grant (R351, R353, R371) -/

/-- The reset in progress of a level and target. -/
def State.resetOf (s : State) (level target : Nat) : Option Reset := s.resets.find? fun r => r.dom == domOf level target

/-- Replace the reset of a domain. -/
def State.putReset (s : State) (r : Reset) : State :=
  { s with resets := s.resets.map fun x => if x.dom == r.dom then r else x }

/-- Remove the reset of a domain. -/
def State.dropReset (s : State) (d : Domain) : State := { s with resets := s.resets.filter fun x => ! (x.dom == d) }

/-- Is a slot's holder a unit of the domain (R352, R355)? -/
def ownedBy (d : Domain) : ReqOwner → Bool
  | .operand p _ _ _ => d.partList.contains p
  | .tile p _ _ _ => d.partList.contains p
  | .tadd p _ _ _ => d.partList.contains p
  | .signal p _ _ => d.partList.contains p
  | .record p _ => d.partList.contains p
  | .collRecord _ => d == .chip
  | .dma _ _ _ => d == .chip
  | .dmaSignal _ _ => d == .chip
  | .coll _ => d == .chip
  | .collSignal _ _ => d == .chip
  | .bank _ _ => false
  | .none => false

/-- Does a packet that waits at its endpoint come from a unit of the domain (R353)? -/
def State.waitsFrom (s : State) (d : Domain) (p : Packet) : Bool :=
  p.src = s.myId &&
  if p.cls = 0 then
    let x := s.slotAt (bits p.tag 13 13) (bits p.tag 12 0)
    x.busy && x.seq = p.seq && ownedBy d x.owner
  else p.cls = 3 && d == .chip

/-- The fence closes on a domain: its packets and requests that still wait are discarded (R353). -/
def State.discardWaiting (s : State) (d : Domain) : State :=
  ({ s with waiting := s.waiting.filter fun x => ! s.waitsFrom d x.2
            slotWait := s.slotWait.filter fun (w : SlotWait) => ! ownedBy d w.owner }).each
    (s.slotWait.filter fun (w : SlotWait) => ownedBy d w.owner) fun t (w : SlotWait) => match w.owner with
      | .dmaSignal n k => t.dmaReported n k
      | _ => t

/-- End every DMA transfer at a chip reset (R207): ABORTED, event 0x0503 with cause 3. -/
def State.dmaChipReset (s : State) : State :=
  s.each (List.range 128) fun t n =>
    if t.dmaBusy n then
      (((t.dmaUnsent n).setDma n { (t.dmaUnsent n).dma n with aborted := some 3, failed := none }).dmaHalt n).reap n
    else t

/-- Contexts bound to the partitions of a domain. -/
def State.ctxsIn (s : State) (ps : List Nat) : List Nat := (s.ctxs.filter fun c => ps.contains c.2.p.partition).map (·.1)

/-- Change the split (R96, R100): every context is destroyed, the dies take their partitions, event 0x0206. -/
def State.applySplit (s : State) (n : Nat) : State :=
  let old := s.fld Reg.fsqSplitSplit
  let s := s.each (s.ctxs.map (·.1)) fun t c => t.destroyContext c 3 none
  let s := s.setFld Reg.fsqSplitSplit n
  let s := s.each (List.range 4) fun t k => t.setFld (Reg.kilStatusPartition k) (t.partOf k)
  s.ev 0x0206 0 old n 0

/-- What a reset of a partition or of the chip ends: contexts, groups and what waits; a split change takes effect (R96, R349). -/
def State.resetEnds (s : State) (q : ResetReq) (d : Domain) : State :=
  let s := s.when (d == .chip) State.dmaChipReset
  let s := s.when q.split.isNone fun t => t.each (t.ctxsIn d.partList) fun t c => t.contextAbort c 2 2 1
  let s := s.when (d == .chip) fun t => t.each (t.groups.map (·.1)) fun t g => t.destroyGroup g 3
  (match q.split with | some n => s.applySplit n | none => s).discardWaiting d

/-- An engine reset skips the engine's bad columns from now on (R72, R85). -/
def State.resetMap (s : State) (d : Domain) : State :=
  match d with
  | .engine k p e => s.remap k p e
  | _ => s

/-- Begin a reset of level 1 to 5: counts, capture, snapshot, then what it aborts (R351, R353, R358). -/
def State.beginReset (s : State) (q : ResetReq) (d : Domain) : State :=
  let absorbed := s.resets.filter fun r => s.domHolds d r.dom
  let s := { s with resets := s.resets.filter fun r => ! s.domHolds d r.dom }
  let part := (lowBit 4 (s.domMask d)).getD 0
  let (s, f) := s.capture q.fault d.level q.cause part none (some d)
  let s := (s.bump (Reg.rstCountCount d.level)).ev 0x0D01 s.unitSrc d.level q.cause (s.domParam d)
  let r : Reset := { dom := d, cause := q.cause, fault := f, began := s.clk
                     bumped := (absorbed.filter (! ·.failed)).flatMap (·.bumped)
                     late := absorbed.flatMap (·.late), replies := absorbed.flatMap (·.replies) }
  let r := if q.split.isSome then { r with replies := r.replies ++ q.o.toList } else r
  let (s, r) := s.snapBegin r
  let s := { s with resets := s.resets ++ [r] }
  let s := s.resetMap d
  (if d.level < 4 then s else s.resetEnds q d).rstSync

/-- Take level 6 (R364): ALERT_N, the power-cycle request, event 0x0D0B. -/
def State.powerCycle (s : State) (q : ResetReq) : State :=
  let (s, _) := s.capture q.fault 6 q.cause 0 none none
  let s := ({ s.bump (Reg.rstCountCount 6) with cycling := true }).alert Reg.pwrAlertCycleRequest
  (s.ev 0x0D0B s.unitSrc q.cause 0 0).rstSync

/-- Grant a reset (R353, R362, R371): held while HALTED; absorbed by one that holds its domain; else begun. -/
def State.grantReset (s : State) (q : ResetReq) : State :=
  if q.level ≤ 5 ∧ s.haltedNow then s
  else
    let s := { s with resetReqs := s.resetReqs.erase q }
    let s := if q.level = 6 then s.powerCycle q
      else
        let d := domOf q.level q.target
        match s.resets.find? fun r => ! r.failed && s.domHolds r.dom d with
        | none => s.beginReset q d
        | some r =>
          (match q.split with
            | some n => (s.putReset { r with replies := r.replies ++ q.o.toList }).applySplit n
            | none => match d with | .engine k p e => s.remap k p e | _ => s)
    match q.o with
    | some o => if q.split.isSome && s.resets.any (fun r => r.replies.contains o) then s else s.finish o .ok
    | none => s

/-! ### Drain (R355, R357) -/

/-- Generations of a domain: partitions, and 4 for the chip (R349). -/
def Domain.gens : Domain → List Nat
  | .parts m => if m = 15 then [0, 1, 2, 3] else (List.range 4).filter (bit m)
  | .chip => [0, 1, 2, 3, 4]
  | _ => []

/-- Field of a generation. -/
def genFld (g : Nat) : Fld := if g < 4 then Reg.fsqPartStatusGeneration g else Reg.rstStatusChipGen

/-- Advance a generation (R349). -/
def State.advanceGen (s : State) (g : Nat) : State :=
  { s.setFld (genFld g) ((s.fld (genFld g) + 1) % 256) with genClk := tput s.genClk g s.clk }

/-- Clear the DMA block at the end of a chip reset's drain (R207): every register but the timer pool, which sessions share. -/
def State.clearDma (s : State) : State :=
  let s := { s with regs := s.regs.filter fun x => x.1 < 0xA0000 || 0xA8000 ≤ x.1, dmaRun := [], dmaLast := [63, 127] }
  s.each [0, 1] fun t f => t.setFld (Reg.dmaTimersFree f) (96 - t.fld (Reg.dmaTimersHostHeld f))

/-- Clear the per-requester captures and held writes of pairs in a range (R16). -/
def State.clearPairs (s : State) (lo hi : Nat) : State :=
  { s with reqRegs := s.reqRegs.map fun x =>
      (x.1, { x.2 with captures := x.2.captures.filter (fun c => c.1 < lo || hi ≤ c.1)
                       holds := x.2.holds.filter fun c => c.1 < lo || hi ≤ c.1 }) }

/-- End the drain of a reset (R355, R357): the domain's slots end TIMEOUT, its generations advance. -/
def State.endDrain (s : State) (r : Reset) : State :=
  let owned := (s.reqSlots.filter fun x => x.2.busy && ownedBy r.dom x.2.owner).map (·.1)
  let s := s.each owned fun t i => t.closeSlot (i / 8192) (i % 8192) none .timeout {} []
  let s := if r.dom = .chip then
      (((s.clearDma.clearPairs 0xA0000 0xC0000).clearPairs 0x100000 0x120000).clearPairs 0x20000 0x80000).setReg Reg.carStallMsOff (regReset Reg.carStallMsOff)
    else s.each r.dom.partList fun t p => t.clearPairs (Reg.fsqPartFiringsLoOff p) (Reg.fsqPartFiringsLoOff p + 8)
  let gens := r.dom.gens.filter fun g => ! r.bumped.contains g
  let s := s.each gens State.advanceGen
  let s := if owned.isEmpty then s else
    s.ev 0x0D08 s.unitSrc (if r.dom = .chip then 16 else s.domMask r.dom) owned.length 0
  s.putReset { r with drained := true, bumped := r.bumped ++ gens }

/-! ### Assertion (R80, R349) -/

/-- The stores that a reset of a domain leaves undefined (R80, R349): a core's, a cluster's with its cores', or all of its dies';
an engine has none. -/
def State.storesOf (s : State) (d : Domain) : List Nat :=
  match d with
  | .engine _ _ _ => []
  | .core k p => [171 * k + p]
  | .cluster k c => (171 * k + 162 + c) :: (List.range 18).map fun i => 171 * k + 18 * c + i
  | d => (s.domDies d).flatMap fun k => (List.range 171).map (171 * k + ·)

/-- What a reset clears (R80, R349): stores, what the cores hold beside them, and its partitions' sequencers. -/
def State.wipe (s : State) (d : Domain) : State :=
  let s := (s.storesLost (s.storesOf d)).clearCores (s.domCores d) (match d with | .engine _ _ e => some e | _ => none)
  s.each d.partList fun t p => (t.freeSeq p).setPart p { (t.freeSeq p).part p with lastCtx := 511 }

/-! ### Escalation (R361 to R363) -/

/-- The next level is needed (R363): asked for, or the ladder stops with the domain fenced. -/
def State.climb (s : State) (level target cause : Nat) (fault : Option Nat) (mask : Nat) : State :=
  if level > s.fld Reg.rstCtrlMaxLevel then
    (s.setFlag Reg.rstStatusStopped true).ev 0x0D04 s.unitSrc level (s.fld Reg.rstCtrlMaxLevel) mask
  else s.askReset { level := level, target := target, cause := cause, fault := fault }

/-- The smallest unit that holds every unit still busy (R361): level and target.  Units are (die, core, engine). -/
def busyUnit (partition : Nat) : List (Nat × Nat × Nat) → Nat × Nat
  | [] => (4, partition)
  | (k, p, e) :: us =>
    if us.all fun u => u == (k, p, e) then (1, engIndex k p e)
    else if us.all fun u => u.1 == k && u.2.1 == p then (2, 162 * k + p)
    else if us.all fun u => u.1 == k && u.2.1 / 18 == p / 18 then (3, 9 * k + p / 18)
    else (4, partition)

/-- A reset of level 1 to 3 has failed (R361): the unit is lost, and its isolation begins. -/
def State.unitFailed (s : State) (r : Reset) : State :=
  let s := (s.ev 0x0D03 s.unitSrc r.dom.level r.cause 15).dropReset r.dom
  let iso := fun (t : State) (k c : Nat) => { t with isolating := t.isolating ++ [(k, c, r.fault)] }
  (match r.dom with
    | .engine k p e => iso (s.loseEngine k p e (s.fld (Reg.kilColMapBadCount k p e))) k (p / 18)
    | .core k p => iso (s.loseCore k p 5 10) k (p / 18)
    | .cluster k c => iso (s.each (List.range 18) fun t i => t.loseCore k (18 * c + i) 5 10) k c
    | _ => s).rstSync

/-- A reset of level 4 or 5 has failed: its domain stays fenced, the next level is taken. -/
def State.resetFailed (s : State) (r : Reset) : State :=
  let s := (s.putReset { r with failed := true }).ev 0x0D03 s.unitSrc r.dom.level r.cause (r.dom.level + 1)
  (s.climb (r.dom.level + 1) 0 6 (some r.fault) (s.domMask r.dom)).rstSync

end Sys2Proof.Machine
end

