-- ==== Sys2Proof/Machine/Firings.lean ====
section
/-! DEFINITION. The life of a firing: the arbiter's choice (R104), Fetch, Check, Resolve and Tile (R106 to R114), units and tiles
(R110, R113, R129), completion and hangs (R129 to R133). -/

namespace Sys2Proof.Machine

/-! ### The arbiter's choice (R104) -/

/-- Global address of the descriptor at a queue's head. -/
def State.headAddr (s : State) (c q : Nat) (x : Ctx) : Nat := (x.p.rings.getD q (0, 4)).1 + 256 * s.fld (Reg.fsqCtxQHeadHead c q)

/-- Is a global address on this module? -/
def State.isLocal (s : State) (a : Nat) : Bool := a / 2 ^ 48 == s.myId

/-- Are a descriptor's waits over for a context (R122)?  All are satisfied, where a counter the context does not own counts as
satisfied; or a counter waited on has ERROR, which ends the firing. -/
def State.waitsOver (s : State) (x : Ctx) (d : Desc) : Bool :=
  d.waitList.any (fun w => x.counters.contains w.1 && s.syncErr w.1)
  || d.waitList.all fun w => ! x.counters.contains w.1 || waitDone (s.sync w.1) w.2

/-- A waited counter of the context has ERROR. -/
def State.waitError (s : State) (x : Ctx) (d : Desc) : Bool :=
  d.waitList.any fun w => x.counters.contains w.1 && s.syncErr w.1

/-- Can a descriptor on this module be read by a context's firings (R106)? -/
def State.headReads (s : State) (x : Ctx) (a : Nat) : Bool :=
  s.reach (.firing x.job) false (a % 2 ^ 48) == .ok && (s.badIn (a % 2 ^ 48) 256).isEmpty

/-- The head descriptor of a queue, where it is known: read on this module; one on another module once it has been fetched and
its waits were not satisfied (log entry 30, DEDUCED). -/
def State.headBytes (s : State) (c q : Nat) (x : Ctx) : Option (List Byte) :=
  let a := s.headAddr c q x
  if s.isLocal a then some (s.bytes (a % 2 ^ 48) 256)
  else (x.heads.find? fun h => h.1 == q && h.2.1 == s.fld (Reg.fsqCtxQHeadHead c q)).map (·.2.2)

/-- Is a queue ready, as far as the module knows (R101, R122, R329)?  `unknown` stands for a head descriptor on another module not
yet fetched.  A descriptor on this module that cannot be read is found out at Fetch. -/
def State.queueOpen (s : State) (unknown : Bool) (c q : Nat) : Bool :=
  match s.ctx c with
  | none => false
  | some x =>
    s.queueLoaded c q && ! s.bankHolds x.job
    && (let a := s.headAddr c q x
        (s.isLocal a && ! s.headReads x a)
        || match s.headBytes c q x with
          | some bs => s.waitsOver x (descOf bs)
          | none => unknown)

/-- Is a queue ready? -/
def State.queueReady (s : State) (c q : Nat) : Bool := s.queueOpen false c q

/-- The next ready queue of a context after the last served; one whose head is still to be fetched counts. -/
def State.nextQueue (s : State) (c : Nat) (x : Ctx) : Option Nat :=
  ([1, 2, 3, 4].map fun k => (x.lastQueue + k) % 4).find? (s.queueOpen true c)

/-- Contexts of a partition with a ready queue, in the order of R104. -/
def State.readyCtxs (s : State) (unknown : Bool) (p : Nat) : List Nat :=
  let cs := ((s.ctxs.filter fun c => c.2.p.partition == p).map (·.1)).filter fun c => (List.range 4).any (s.queueOpen unknown c)
  cs.filter (fun c => (s.part p).lastCtx < c) ++ cs.filter fun c => c ≤ (s.part p).lastCtx

/-- Refill the credits of a partition's contexts. -/
def State.refill (s : State) (p : Nat) : State :=
  { s with ctxs := s.ctxs.map fun c => if c.2.p.partition = p then (c.1, { c.2 with credit := c.2.p.weight }) else c }

/-- Charge the arbiter's choice (R104): the context's credit, and the places of the two round robins.  A choice that was open
until its descriptor came refills the credits first when the context's is spent. -/
def State.charge (s : State) (p c q : Nat) : State :=
  let spent := match s.ctx c with | some x => x.credit == 0 | none => false
  let s := if spent then s.refill p else s
  match s.ctx c with
  | some x =>
    (s.setCtx c { x with credit := x.credit - 1, lastQueue := q, heads := x.heads.filter fun h => h.1 != q }).setPart p
      { s.part p with lastCtx := c }
  | none => s

/-- Start the head firing of a queue: Fetch (R104, R106).  One whose head descriptor is still unknown is charged when that has come
and its waits are over. -/
def State.startFiring (s : State) (p c q : Nat) (x : Ctx) : State :=
  let e := s.fld (Reg.fsqCtxQHeadHead c q)
  let known := s.isLocal (s.headAddr c q x) || (s.headBytes c q x).isSome
  let r : Run := { ctx := c, queue := q, entry := e, id := s.free, progress := s.clk, charged := known }
  let s := if known then s.charge p c q else s
  let s := (s.fresh).setPart p { s.part p with run := some r }
  let s := ((s.setFlag (Reg.fsqPartStatusBusy p) true).setFlag (Reg.fsqPartRunningValid p) true).setFld (Reg.fsqPartRunningEntry p) e
  (s.setFld (Reg.fsqPartRunningQueue p) q).setFld (Reg.fsqPartRunningContext p) c

/-- A store check holds a partition's next firing (R369). -/
def State.checkHolds (s : State) (p : Nat) : Bool := s.storeDue.any fun x => s.partOf x.1 == p && ! s.dieInReset x.1

/-- FIRING_SELECT. -/
def State.selectFiring (p : Nat) (s : State) : State :=
  if 4 ≤ p ∨ s.phase ≠ .up ∨ (s.part p).run.isSome ∨ s.fenced p ∨ s.haltedNow ∨ s.flag (Reg.fsqPartStatusHeld p) ∨ s.checkHolds p then s
  else
    let served := fun t : State => (t.readyCtxs true p).find? fun c => match t.ctx c with | some x => 0 < x.credit | none => false
    let (s, c) := match served s with
      | some c => (s, some c)
      | none =>
        if (s.readyCtxs false p).isEmpty then (s, (s.readyCtxs true p).head?) else (s.refill p, served (s.refill p))
    match c with
    | none => s
    | some c => match s.ctx c with
      | none => s
      | some x => match s.nextQueue c x with
        | some q => s.startFiring p c q x
        | none => s

/-- FIRING_SELECT. -/
def execFiringSelect (part : Nat) (s : State) : Host.Outcome State Fault Refusal := s.does (State.selectFiring part)

/-! ### Check (R107) -/

/-- The module a descriptor's operand address names: by rank mode, through the table in force (R108). -/
def State.operandModule (s : State) (job : Nat) (o : Slot) (a : Nat) : Option Nat :=
  if o.rank then s.rankId job (a / 2 ^ 48) else some (a / 2 ^ 48)

/-- Check 4 of R107: LICENCE. -/
def State.check4 (s : State) (job : Nat) (d : Desc) : Option Fail :=
  let far := fun (m : Option Nat) => ! s.scale && (match m with | some m => farApart m s.myId | none => false)
  firstFail 4 .licence
    ((List.range 4).map (fun i =>
        let o := d.slot i
        let page := match d.use i with | some u => u.part == .page | none => true
        (o.used && ! page && (far (s.operandModule job o o.addr) || (o.table && far (s.operandModule job o o.aux))), i))
    ++ [(d.fam = .attention && (far (some (d.ex 0x40 8 / 2 ^ 48))
          || (bit (d.ex 0x5C 4) 1 && (far (some (d.ex 0x48 8 / 2 ^ 48)) || far (some (d.ex 0x50 8 / 2 ^ 48))))), 5),
        (d.fam = .bank && ! s.rick, 7)])

/-- Do `n` bytes from a global address lie where a job may reach, on this module, and below local address 2^48 on another
(R144)? -/
def State.spanHere (s : State) (job : Nat) (m : Option Nat) (a n : Nat) : Bool :=
  if m = some s.myId then s.spanOk (.firing job) (a % 2 ^ 48) n else a % 2 ^ 48 + n ≤ 2 ^ 48

/-- The slots an attention firing names, when SLOT_LIST lies on this module (R150). -/
def State.slotList (s : State) (d : Desc) : List Nat :=
  (List.range (d.sh 0)).map fun q => leNat (s.bytes (d.ex 0x40 8 % 2 ^ 48 + 2 * q) 2)

/-- May a context's firing signal a counter of this module (R124)? -/
def State.maySignal (s : State) (job n : Nat) : Bool :=
  match s.counterOwner n with | some (_, x) => x.job == job | none => false

/-- Does a context not own a slot that an attention firing names (R107, R125)? -/
def State.slotForeign (s : State) (x : Ctx) (n : Nat) : Bool := ! x.slots.contains n || (s.seqSlot n).owner.isNone

/-- Check 5 of R107: ACCESS.  A SLOT_LIST on another module is judged when its answer has come (R150). -/
def State.check5 (s : State) (x : Ctx) (d : Desc) : Option Fail :=
  let job := x.job
  let list := d.ex 0x40 8
  let app := bit (d.ex 0x5C 4) 1
  let attn := d.fam = .attention
  firstFail 5 .access
    ((List.range 4).map (fun i =>
        let o := d.slot i
        (match d.ranges i with
          | some (a, n, t, m) => ! s.spanHere job (s.operandModule job o a) a n || ! s.spanHere job (s.operandModule job o t) t m
          | none => false, i))
    ++ [(attn && (! s.spanHere job (some (list / 2 ^ 48)) list (pad64 (2 * d.sh 0))
          || (app && (! s.spanHere job (some (d.ex 0x48 8 / 2 ^ 48)) (d.ex 0x48 8) (newBytes d 1)
            || ! s.spanHere job (some (d.ex 0x50 8 / 2 ^ 48)) (d.ex 0x50 8) (newBytes d 2)))), 5),
        (d.waitList.any (fun w => ! x.counters.contains w.1)
          || d.signalList.any (fun g => s.signalTarget job g.2.1 g.2.2.1 == some s.myId && ! s.maySignal job g.1), 6),
        (attn && s.isLocal list && (s.slotList d).any (s.slotForeign x), 5),
        (d.completion ≠ 0 && s.isLocal d.completion && ! s.spanOk (.firing job) (d.completion % 2 ^ 48) 32, 4)])

/-- Does an append overflow its slot (R127)? -/
def SeqSlot.overflows (z : SeqSlot) (d : Desc) : Bool :=
  d.appends && z.pages * z.pageTokens < z.tokens + d.sh 3

/-- Check 6 of R107: LENGTH. -/
def State.check6 (s : State) (d : Desc) : Option Fail :=
  firstFail 6 .length
    [(d.fam = .attention && s.isLocal (d.ex 0x40 8) && (s.slotList d).any fun n => (s.seqSlot n).overflows d, 5)]

/-- The first failing check (R107), and after them the state a bank needs (R328). -/
def State.firingCheck (s : State) (x : Ctx) (d : Desc) : Option Fail :=
  (((((check1 d).or (check2 d)).or (check3 d)).or (s.check4 x.job d)).or (s.check5 x d)).or (s.check6 d)

/-- End a firing by a failed check or at Resolve with a fault; its cycle count is open (log entry 20, DESIGN CHOICE). -/
def State.refuseFiring (s : State) (p : Nat) (r : Run) (f : FireFault) : State :=
  (s.fresh).endFiring p { r with fault := some f } f.status (Config.freeValue s.free % 2 ^ 48)

/-- A check has refused a firing (R107): counted, event 0x0203. -/
def State.failCheck (s : State) (p : Nat) (r : Run) (f : Fail) : State :=
  ((s.bump (Reg.fsqPartRefusedCount p)).ev 0x0203 p r.ctx r.qe (stCode f.status)).refuseFiring p r
    { status := f.status, slot := f.slot, check := f.check }

/-- The descriptor of a firing could not be read (R106): no record, the queue stops at the entry. -/
def State.fetchFailed (s : State) (p : Nat) (r : Run) (st : Status) : State :=
  let s := (s.bump (Reg.fsqPartRefusedCount p)).ev 0x0203 p r.ctx r.qe (stCode st)
  (s.stopQueue p r.ctx r.queue st).freeSeq p

/-- A descriptor of another module whose waits are not over is kept: the queue is not ready until they are (R104, R122). -/
def State.keepHead (s : State) (r : Run) (x : Ctx) (bs : List Byte) : State :=
  s.setCtx r.ctx { x with heads := x.heads.filter (fun h => h.1 != r.queue) ++ [(r.queue, r.entry, bs)] }

/-- The descriptor has arrived: waits and checks (R106, R107, R122). -/
def State.checkFiring (s : State) (p : Nat) (r : Run) (x : Ctx) (bs : List Byte) : State :=
  let d := descOf bs
  if ¬ s.waitsOver x d then (if s.isLocal (s.headAddr r.ctx r.queue x) then s else s.keepHead r x bs).freeSeq p
  else
    let s := if r.charged then s else s.charge p r.ctx r.queue
    let r := { r with bytes := bs, desc := some d, stage := .check, charged := true }
    let s := s.setPart p { s.part p with run := some r }
    if s.waitError x d then s.refuseFiring p r { status := .aborted, slot := 6 }
    else match s.firingCheck x d with
      | some f => s.failCheck p r f
      | none =>
        if d.fam = .bank ∧ ¬ s.mayBank x.job then s.refuseFiring p r { status := .state }
        else s.setPart p { s.part p with run := some { r with stage := .resolve } }

/-- FETCH_DONE: `remote` is the answer when the ring lies on another module: status, flags, bytes. -/
def State.fetchDone (p : Nat) (remote : Option (Status × Flags × List Byte)) (s : State) : State :=
  match (s.part p).run with
  | none => s
  | some r =>
    match s.ctx r.ctx with
    | none => s
    | some x =>
      if r.stage ≠ .fetch then s
      else
        let a := s.headAddr r.ctx r.queue x
        if s.isLocal a then
          let t := s.load (.firing x.job) (a % 2 ^ 48) 256
          match t.2.1 with
          | .ok => t.1.checkFiring p r x t.2.2
          | st => t.1.fetchFailed p r st
        else match remote with
          | some (.ok, f, bs) =>
            s.checkFiring p { r with flags := r.flags.or ⟨false, false, f.degraded, f.detoured⟩ } x (slice bs 0 256)
          | some (st, _, _) => (if r.charged then s else s.charge p r.ctx r.queue).fetchFailed p r st
          | none => s

/-- FETCH_DONE. -/
def execFetchDone (part : Nat) (remote : Option (Status × Flags × List Byte)) (s : State) : Host.Outcome State Fault Refusal :=
  s.does (State.fetchDone part remote)

/-! ### Resolve and Tile (R108, R111, R112, R126) -/

/-- Resolve the rank-mode addresses of a slot: none for a rank outside the table (R108). -/
def State.resolveSlot (s : State) (job : Nat) (o : Slot) : Option Slot :=
  if ¬ o.used ∨ ¬ o.rank then some o
  else match s.rankId job (o.addr / 2 ^ 48), (if o.table then s.rankId job (o.aux / 2 ^ 48) else some 0) with
    | some m, some k =>
      some { o with addr := m * 2 ^ 48 + o.addr % 2 ^ 48, aux := if o.table then k * 2 ^ 48 + o.aux % 2 ^ 48 else o.aux }
    | _, _ => none

/-- Resolve the targets of the signals: none for a rank outside the table (R108, R157). -/
def State.resolveSignals (s : State) (job : Nat) (sigs : List Nat) : Option (List Nat) :=
  sigs.mapM fun v =>
    if bit v 12 && bit v 13 then (s.rankId job (bits v 31 16)).map fun m => v - 2 ^ 13 - bits v 31 16 * 2 ^ 16 + m * 2 ^ 16
    else some v

/-- How the reads of Resolve went so far: status, with the module that replied, and flags (R109). -/
structure ReadEnd where
  /-- first failing status -/
  status : Status := .ok
  /-- module that replied it -/
  module : Option Nat := none
  /-- DEGRADED and DETOURED -/
  flags : Flags := {}
  deriving DecidableEq, Repr

/-- Read a little-endian number of n bytes in Resolve: from this module's memory, or from the answers of other modules.  None:
the answer has not arrived. -/
def State.resolveRead (s : State) (job : Nat) (reads : List RemoteRead) (a n : Nat) : Option (State × ReadEnd × Nat) :=
  if s.isLocal a then
    let t := s.load (.firing job) (a % 2 ^ 48) n
    some (t.1, { status := t.2.1 }, leNat t.2.2)
  else (reads.find? fun r => r.addr == a).map fun r =>
    (s, ⟨r.status, r.module, ⟨false, false, r.flags.degraded, r.flags.detoured⟩⟩, r.value)

/-- Read several numbers; the first failing status ends the reading. -/
def State.resolveReads (s : State) (job : Nat) (reads : List RemoteRead) (n : Nat) : List Nat → Option (State × ReadEnd × List Nat)
  | [] => some (s, {}, [])
  | a :: as => match s.resolveRead job reads a n with
    | none => none
    | some (t, e, v) =>
      if e.status ≠ .ok then some (t, e, [])
      else match State.resolveReads t job reads n as with
        | some (u, f, vs) => some (u, { f with flags := e.flags.or f.flags }, v :: vs)
        | none => none

/-- Capture one slot (R126): its page entries for every token the firing reads or appends. -/
def State.captureSlot (s : State) (x : Ctx) (d : Desc) (reads : List RemoteRead) (n : Nat) : Option (State × ReadEnd × SeqCap) :=
  let z := s.seqSlot n
  let toks := z.tokens + if d.appends then d.sh 3 else 0
  match s.resolveReads x.job reads 8 ((List.range (cdiv toks z.pageTokens)).map fun i => z.table + 8 * i) with
  | none => none
  | some (t, e, pages) =>
    let e := if e.status = .ok ∧ pages.any (· % 64 ≠ 0) then { e with status := .align, module := none } else e
    some (t, e, ⟨n, z.tokens, z.pageTokens, pages⟩)

/-- Capture every slot of an attention firing. -/
def State.captureAll (s : State) (x : Ctx) (d : Desc) (reads : List RemoteRead) : List Nat → Option (State × ReadEnd × List SeqCap)
  | [] => some (s, {}, [])
  | n :: ns => match s.captureSlot x d reads n with
    | none => none
    | some (t, e, c) =>
      if e.status ≠ .ok then some (t, e, [])
      else match State.captureAll t x d reads ns with
        | some (u, f, cs) => some (u, { f with flags := e.flags.or f.flags }, c :: cs)
        | none => none

/-- Pieces of a remote range that meet R169: (global address, bytes), whole blocks. -/
def remotePieces (a n : Nat) : List (Nat × Nat) :=
  let lo := a / 64 * 64
  pieces (n / 4096 + 3) lo (cdiv (a + n) 64 * 64 - lo)

/-- Issue the reads of the operands on other modules (R109). -/
def State.readAway (s : State) (p job : Nat) (r : Run) (d : Desc) : State :=
  let ps := ((readRanges d r.env).filter fun x => 0 < x.2.2 && ! s.isLocal x.2.1).flatMap fun x =>
    (remotePieces x.2.1 x.2.2).map fun y => (x.1, y)
  let s := s.setPart p { s.part p with run := some { r with readsOwed := r.readsOwed + ps.length } }
  s.each ps fun t (i, a, n) =>
    let u := t.issue (.operand p r.id a i) (t.genOf p) (a / 2 ^ 48) 1 d.twoPhase (memCmd job (a % 2 ^ 48) (n / 64)) [] false
    match u.2 with
    | none => u.1
    | some e => u.1.operandAnswered p r.id a i none e {} []

/-- Families with a frame pass: AUTO frames of GEMM and convolution (R45), the frames of SUM and MEAN (R61). -/
def Desc.framed (d : Desc) : Bool :=
  (! d.fixed && (d.fam == .gemm || d.fam == .conv)) || (d.fam == .reduction && d.subop < 2)

/-- Tile (R111, R112, R129) and go on to the frame pass, the main pass or the bank.  A partition with no compute ends every firing
here; units dealt around holes set DEGRADED (R11, R112). -/
def State.tileFiring (s : State) (p : Nat) (r : Run) (x : Ctx) (d : Desc) : State :=
  let s := s.setPart p { s.part p with run := some r }
  if (s.live p).isEmpty then (s.ev 0x0205 p (s.holes p) 0 0).refuseFiring p r { status := .aborted }
  else match d.fam with
  | .signal => s.setPart p { s.part p with run := some { r with stage := .main, progress := s.clk } }
  | .bank => (s.setPart p { s.part p with run := some { r with stage := .main, readsOwed := 1, progress := s.clk } }).beginBank p
  | _ =>
    let units := unitsPerTile d r.env (s.cores p)
    let owners := s.dealt p units
    let r := { r with units := units, owners := owners, stage := if d.framed then .framePass else .main, progress := s.clk
                      flags := { r.flags with degraded := r.flags.degraded || s.holes p != 0 } }
    (s.dealOut p owners []).readAway p x.job r d

/-- A read of Resolve has failed (R109, R126, R151): of SLOT_LIST or of a page table. -/
def State.resolveFailed (s : State) (p : Nat) (r : Run) (e : ReadEnd) : State :=
  s.refuseFiring p { r with flags := r.flags.or e.flags } { status := e.status, slot := 5, module := e.module }

/-- Resolve an attention firing (R126, R150): its slot list passes checks 5 and 6, its slots are captured. -/
def State.resolveSlots (s : State) (p : Nat) (r : Run) (x : Ctx) (d : Desc) (reads : List RemoteRead) : State :=
  match s.resolveReads x.job reads 2 ((List.range (d.sh 0)).map fun q => d.ex 0x40 8 + 2 * q) with
  | none => s
  | some (t, e, ns) =>
    if e.status ≠ .ok then t.resolveFailed p r e
    else if ns.any (t.slotForeign x) then t.failCheck p r ⟨5, .access, 5⟩
    else if ns.any fun n => (t.seqSlot n).overflows d then t.failCheck p r ⟨6, .length, 5⟩
    else match t.captureAll x d reads ns with
      | none => s
      | some (u, f, caps) =>
        if f.status ≠ .ok then u.resolveFailed p { r with flags := r.flags.or e.flags } f
        else u.tileFiring p { r with env := { r.env with caps := caps }, flags := (r.flags.or e.flags).or f.flags } x d

/-- RESOLVE_DONE: `reads` are the answers of other modules to the reads of slot numbers and page entries. -/
def State.resolveDone (p : Nat) (reads : List RemoteRead) (s : State) : State :=
  match (s.part p).run with
  | none => s
  | some r =>
    match s.ctx r.ctx with
    | none => s
    | some x =>
      if r.stage ≠ .resolve then s
      else
        let d := r.desc.getD (descOf r.bytes)
        let slots := d.slots.map (s.resolveSlot x.job)
        match (List.range 4).find? (fun i => (slots.getD i (some {})).isNone), s.resolveSignals x.job d.signals with
        | some i, _ => s.refuseFiring p r { status := .access, slot := i }
        | none, none => s.refuseFiring p r { status := .access, slot := 6 }
        | none, some sigs =>
          let d := { d with slots := slots.map fun o => o.getD {}, signals := sigs }
          let r := { r with desc := some d, env := { seed := x.p.seed, caps := [], free := s.free } }
          if d.fam = .attention then s.fresh.resolveSlots p r x d reads else s.fresh.tileFiring p r x d

/-- RESOLVE_DONE. -/
def execResolveDone (part : Nat) (reads : List RemoteRead) (s : State) : Host.Outcome State Fault Refusal :=
  s.does (State.resolveDone part reads)

/-- FRAME_PASS_DONE (R45, R129): every operand on another module has been read. -/
def State.framePassDone (p : Nat) (s : State) : State :=
  match (s.part p).run with
  | some r =>
    if r.stage = .framePass ∧ r.readsOwed = 0 ∧ r.fault.isNone then
      s.setPart p { s.part p with run := some { r with stage := .main, progress := s.clk } }
    else s
  | none => s

/-- FRAME_PASS_DONE. -/
def execFramePassDone (part : Nat) (s : State) : Host.Outcome State Fault Refusal := s.does (State.framePassDone part)

/-! ### Units and tiles (R110, R113, R129, R154, R180) -/

/-- What a firing reads at a global address. -/
def State.reader (s : State) (r : Run) : Reader := fun a n =>
  if s.isLocal a then s.bytes (a % 2 ^ 48) n else (List.range n).map fun i => remoteByte r.remote (a + i)

/-- The first range of this module that a job may not read, or that holds an uncorrectable granule: status, operand slot, granules
(R165, R167, R168, R180). -/
def State.operandFault (s : State) (job : Nat) (rs : List (Nat × Nat × Nat)) : Option (Status × Nat × List Nat) :=
  rs.findSome? fun x =>
    if x.2.2 = 0 || ! s.isLocal x.2.1 then none
    else if ! s.spanOk (.firing job) (x.2.1 % 2 ^ 48) x.2.2 then some (.access, x.1, [])
    else match s.badIn (x.2.1 % 2 ^ 48) x.2.2 with
      | [] => none
      | gs => some (.memUncorrectable, x.1, gs)

/-- The granules of this module in some ranges. -/
def State.operandGranules (s : State) (rs : List (Nat × Nat × Nat)) : List Nat :=
  rs.flatMap fun x => if s.isLocal x.2.1 then granules (x.2.1 % 2 ^ 48) x.2.2 else []

/-- May a unit run to its end now?  Its core is in no engine, core or cluster reset (R352), its core's earlier units are done (R112),
and the compute is not halted (R503). -/
def State.mayRunUnit (s : State) (p u : Nat) (r : Run) : Bool :=
  let n := r.owners.getD u 0
  let fenced := match s.physOf p n with
    | some c => s.resets.any fun (x : Reset) => decide (x.dom.level ≤ 3) && (s.domCores x.dom).contains c
    | none => false
  ! s.haltedNow && ! fenced && (List.range u).all fun v => r.owners.getD v 0 != n || r.unitsDone.contains v

/-- UNIT_DONE: a unit that meets an operand it may not or cannot read, or a bad index, ends the firing instead.  `corrected` are
the single-bit errors of core and cluster stores that its reads met (R82). -/
def State.unitDone (p u : Nat) (corrected : List (Nat × Nat × Nat)) (s : State) : State :=
  match (s.part p).run with
  | none => s
  | some r =>
    let d := r.desc.getD (descOf r.bytes)
    let job := match s.ctx r.ctx with | some x => x.job | none => 0
    match tileOfUnit r.units u 0 with
    | none => s
    | some t =>
      if r.stage ≠ .main ∨ r.fault.isSome ∨ 0 < r.readsOwed ∨ r.unitsDone.contains u ∨ ¬ s.mayRunUnit p u r then s
      else
        let s := s.storesCorrected p corrected
        match s.operandFault job (unitRanges d (s.reader r) r.env t) with
        | some (st, slot, gs) => (s.each gs fun v g => v.countUe g 1).faultFiring p { status := st, slot := slot, unit := u }
        | none =>
          if badIndex d (s.reader r) t then s.faultFiring p { status := .access, slot := 1, unit := u }
          else
            let s := s.corrects (s.operandGranules (unitRanges d (s.reader r) r.env t))
            (s.setPart p { s.part p with run := some { r with unitsDone := r.unitsDone ++ [u], progress := s.clk } }).coreRan p
              (r.owners.getD u 0) u (unitWords d (s.reader r) r.units u)

/-- UNIT_DONE. -/
def execUnitDone (part unit : Nat) (corrected : List (Nat × Nat × Nat)) (s : State) : Host.Outcome State Fault Refusal :=
  s.does (State.unitDone part unit corrected)

/-- The additions of a tile in add mode (R116, R175): to words of this module at once, to others by ATOMIC requests. -/
def State.addTile (s : State) (p tile job : Nat) (adds : List (Nat × Tally × Nat)) : State :=
  let s := s.each adds fun t x =>
    if ! t.isLocal x.1 then t
    else
      let u := t.tadd (.firing job) (x.1 % 2 ^ 48) x.2.1
      match (u.1.part p).run with
      | some r =>
        (u.1.setPart p { u.1.part p with run := some { r with ovf := if u.2.2.tally then x.2.2 :: r.ovf else r.ovf } }).accessDone p 3
          none u.2.1 u.2.2
      | none => u.1
  s.each (adds.filter fun x => ! s.isLocal x.1) fun t x =>
    let v := match x.2.1 with | some v => some (saturate v).1 | none => none
    t.sendTile p tile job (x.1 / 2 ^ 48) (fun r => .tadd p r.pass tile x.2.2)
      [(3, x.1 % 2 ^ 48, 10 + 4 * 2 ^ 4, natLe 16 (tallyCode v) ++ List.replicate 16 0)]

/-- TILE_DONE: every unit of the tile is done; its bytes are written back, and its flags are ORed into the firing's.  The tile
is in write-back until its last response (R113). -/
def State.tileDone (p tile : Nat) (s : State) : State :=
  match (s.part p).run with
  | none => s
  | some r =>
    let n := r.units.getD tile 0
    let first := firstUnit r.units tile
    if r.stage ≠ .main ∨ r.fault.isSome ∨ r.units.length ≤ tile ∨ r.tilesDone.contains tile ∨ (tfind r.tilesOwed tile).isSome
        ∨ ((List.range n).any fun i => ! r.unitsDone.contains (first + i)) then s
    else
      let d := r.desc.getD (descOf r.bytes)
      let job := match s.ctx r.ctx with | some x => x.job | none => 0
      match s.operandFault job (readRanges d r.env) with
      | some (st, slot, gs) => (s.each gs fun v g => v.countUe g 1).faultFiring p { status := st, slot := slot, unit := first }
      | none =>
        let out := tileOut d (s.reader r) r.env tile
        let s := s.corrects (s.operandGranules (readRanges d r.env))
        let r := { r with flags := { r.flags with tally := r.flags.tally || out.tally, special := r.flags.special || out.special }
                          tilesOwed := tput r.tilesOwed tile 1
                          entries := r.entries ++ ((out.adds.map (·.2.2)).eraseDups).map fun a => (tile, a) }
        let s := s.setPart p { s.part p with run := some r }
        let s := s.each out.writes fun t w => t.writeOut p tile job 3 w.1 w.2
        let s := s.each out.rows fun t w => t.writeOut p tile job w.1 w.2.1 w.2.2
        (s.addTile p tile job out.adds).releaseTile p tile

/-- TILE_DONE. -/
def execTileDone (part tile : Nat) (s : State) : Host.Outcome State Fault Refusal := s.does (State.tileDone part tile)

/-! ### The end (R129 to R133) -/

/-- Is the main pass over: every tile complete, nothing owed (R106, R113, R131)? -/
def Run.over (r : Run) : Bool :=
  r.stage == .main && r.readsOwed == 0 && r.tilesOwed.isEmpty && r.strayOwed == 0 && (List.range r.units.length).all r.tilesDone.contains

/-- FIRING_COMPLETE: the main pass is over, or a fault has ended the firing; in both cases every write response has come (R131). -/
def State.firingComplete (p cycles : Nat) (s : State) : State :=
  match (s.part p).run with
  | none => s
  | some r =>
    match r.fault with
    | some f =>
      if r.stage = .signals ∨ r.stage = .fetch ∨ ¬ r.tilesOwed.isEmpty ∨ 0 < r.strayOwed then s else s.endFiring p r f.status cycles
    | none => if r.over then s.endFiring p r .ok cycles else s

/-- FIRING_COMPLETE. -/
def execFiringComplete (part cycles : Nat) (s : State) : Host.Outcome State Fault Refusal := s.granted (State.firingComplete part cycles)

/-- FIRING_HUNG: a firing in its frame pass or main pass, not one that waits in a barrier (R336); the ladder follows (R361). -/
def State.firingHung (p cycles : Nat) (s : State) : State :=
  match (s.part p).run with
  | none => s
  | some r =>
    let waits := s.bank.part = some p ∧ (s.fld Reg.bnkStageStage = 2 ∨ s.fld Reg.bnkStageStage = 4)
    if (r.stage ≠ .framePass ∧ r.stage ≠ .main) ∨ s.haltedNow ∨ waits then s
    else
      let d := r.desc.getD (descOf r.bytes)
      let s := if s.bank.part = some p then s.failBank .hang .memberLost s.myId else s
      let f := r.fault.getD { status := .hang }
      let s := (s.bump (Reg.fsqPartHangsCount p)).ev 0x0202 p r.ctx r.qe d.expected
      let s := s.endFiring p { r with fault := some f } f.status cycles
      s.ladderAbort r.ctx p r.queue 1

/-- FIRING_HUNG. -/
def execFiringHung (part cycles : Nat) (s : State) : Host.Outcome State Fault Refusal := s.granted (State.firingHung part cycles)

end Sys2Proof.Machine
end

