-- ==== Sys2Proof/Machine/Line.lean ====
section
/-! DEFINITION. The line code of a lane (R230 to R234): PAM4 levels, the alignment marker, scrambling, stuffing, the RS(136,128)
code; and the lane frame's bytes (R235, R237, R240).  Bits of a word go most significant first (log entry 13, DESIGN CHOICE). -/

namespace Sys2Proof
namespace Machine

/-! ### Levels (R230) -/

/-- The level of a bit pair, its first bit first. -/
def pamLevel : Bool → Bool → Nat
  | false, false => 0
  | false, true => 1
  | true, true => 2
  | true, false => 3

/-- The bit pair of a level. -/
def pamBits : Nat → List Bool
  | 0 => [false, false]
  | 1 => [false, true]
  | 2 => [true, true]
  | _ => [true, false]

/-- The complement of a level. -/
def pamComplement (l : Nat) : Nat := 3 - l

/-- Levels of a bit stream. -/
def toLevels : List Bool → List Nat
  | a :: b :: bs => pamLevel a b :: toLevels bs
  | _ => []

/-- The `n` low bits of a number, most significant first. -/
def bitsOf (n v : Nat) : List Bool := (List.range n).map fun i => v.testBit (n - 1 - i)

/-- The number of some bits, most significant first. -/
def ofBits (bs : List Bool) : Nat := bs.foldl (fun a b => 2 * a + b2n b) 0

/-! ### The marker (R231) -/

/-- Pattern of the marker. -/
def markerPattern : Nat := 0x9AC35E1B27

/-- The marker of a lane: pattern, position, dimension and the low bits of the transmit frame counter. -/
def markerOf (dim pos txc : Nat) : Nat := markerPattern + pos % 16 * 2 ^ 40 + dim % 16 * 2 ^ 44 + txc % 2 ^ 16 * 2 ^ 48

/-! ### Scrambling (R232) -/

/-- Seed of the scrambler by the transmitting lane's number. -/
def scrambleSeed (n : Nat) : Nat := (0x3C5A1E2D + 0x01010101 * n) % 2 ^ 31

/-- XOR bits with the scrambler's output from a state; scrambling again restores them.  The output is the bit shifted in
(log entry 13, DESIGN CHOICE). -/
def scramble : Nat → List Bool → List Bool
  | _, [] => []
  | st, b :: bs =>
    let o := st.testBit 30 != st.testBit 27
    (b != o) :: scramble ((2 * st + b2n o) % 2 ^ 31) bs

/-! ### Stuffing (R233) -/

/-- Insert the complement after 31 equal symbols; the level and the run that stand before the symbols count. -/
def stuffed : Nat → Nat → List Nat → List Nat
  | _, _, [] => []
  | last, run, x :: xs =>
    if x = last ∧ run + 1 = 31 then x :: pamComplement x :: stuffed (pamComplement x) 1 xs
    else x :: stuffed x (if x = last then run + 1 else 1) xs

/-- Delete the symbol after 31 equal ones; a symbol that follows one which is not the complement is marked. -/
def unstuffed : Nat → Nat → Bool → List Nat → List (Nat × Bool)
  | _, _, _, [] => []
  | last, run, mark, x :: xs =>
    if run = 31 then unstuffed x 1 (x != pamComplement last) xs
    else (x, mark) :: unstuffed x (if x = last then run + 1 else 1) false xs

/-- Level and run with which a stream of symbols ends. -/
def runAfter (xs : List Nat) : Nat × Nat := xs.foldl (fun s x => (x, if x = s.1 then s.2 + 1 else 1)) (4, 0)

/-! ### RS(136,128) over GF(2^10) (R234) -/

/-- Product in the field of x^10 + x^3 + 1. -/
def gfMul (a b : Nat) : Nat :=
  ((List.range 10).foldl (fun (r, x) i =>
    (if b.testBit i then r ^^^ x else r, if 2 * x < 1024 then 2 * x else (2 * x) ^^^ 0x409)) (0, a)).1

/-- The power k of the primitive element. -/
def gfExp (k : Nat) : Nat := (List.range k).foldl (fun x _ => gfMul x 2) 1

/-- The inverse: the power 1022. -/
def gfInv (a : Nat) : Nat := ((List.range 9).foldl (fun (r, x) _ => (gfMul r (gfMul x x), gfMul x x)) (1, a)).1

/-- Multiply a polynomial, highest coefficient first, by x minus a root. -/
def timesRoot (p : List Nat) (root : Nat) : List Nat := List.zipWith (fun a b => a ^^^ b) (p ++ [0]) (0 :: p.map (gfMul root))

/-- The generator polynomial, highest coefficient first. -/
def rsGenerator : List Nat := (List.range 8).foldl (fun p i => timesRoot p (gfExp i)) [1]

/-- The 8 check symbols of 128 data symbols. -/
def rsChecks (xs : List Nat) : List Nat :=
  xs.foldl (fun r x => List.zipWith (fun a b => a ^^^ b) (r.drop 1 ++ [0]) ((rsGenerator.drop 1).map (gfMul (x ^^^ r.headD 0))))
    (List.replicate 8 0)

/-- Syndrome j of a received word. -/
def rsSyndrome (xs : List Nat) (j : Nat) : Nat := xs.foldl (fun a x => gfMul a (gfExp j) ^^^ x) 0

/-- Solve linear equations, rows of coefficients with the value last, by elimination from column k on; none without one
solution. -/
def gfSolve : Nat → Nat → List (List Nat) → List (List Nat) → Option (List Nat)
  | 0, k, done, rest => if rest.all fun r => r.getD k 0 == 0 then some (done.map fun r => r.getD k 0) else none
  | n + 1, k, done, rest =>
    match rest.find? fun r => r.getD k 0 != 0 with
    | none => none
    | some r0 =>
      let p := r0.map (gfMul (gfInv (r0.getD k 0)))
      let less := fun (r : List Nat) => List.zipWith (fun a b => a ^^^ gfMul (r.getD k 0) b) r p
      gfSolve n (k + 1) (done.map less ++ [p]) ((rest.erase r0).map less)

/-- Error values at known places: place i of a word stands for the power 135 - i. -/
def rsValues (syn : List Nat) (places : List Nat) : Option (List Nat) :=
  gfSolve places.length 0 [] ((List.range 8).map fun j => (places.map fun i => gfExp ((135 - i) * j)) ++ [syn.getD j 0])

/-- Places of e errors by their locator polynomial. -/
def rsPlaces (syn : List Nat) (e : Nat) : Option (List Nat) :=
  match gfSolve e 0 [] ((List.range (8 - e)).map fun j => (List.range e).map (fun i => syn.getD (e + j - 1 - i) 0) ++ [syn.getD (e + j) 0]) with
  | none => none
  | some l =>
    let ps := (List.range 136).filter fun i =>
      let x := gfInv (gfExp (135 - i))
      (l.zipIdx.foldl (fun a c => a ^^^ gfMul c.1 ((List.range (c.2 + 1)).foldl (fun y _ => gfMul y x) 1)) 1) == 0
    if ps.length = e then some ps else none

/-- Correct a received word: up to 8 erased symbols, else up to 4 in error.  The word and the symbols corrected; none when it is
uncorrectable. -/
def rsDecode (xs : List Nat) (erased : List Nat) : Option (List Nat × Nat) :=
  let syn := (List.range 8).map (rsSyndrome xs)
  let fix := fun (ps : List Nat) => (rsValues syn ps).map fun vs =>
    (xs.zipIdx.map (fun x => x.1 ^^^ ((ps.zip vs).find? (·.1 == x.2)).elim 0 (·.2)), ps.length)
  if 8 < erased.length then none
  else if erased ≠ [] then fix erased
  else (List.range 5).findSome? fun e => (rsPlaces syn e).bind fix

/-! ### From bytes to symbols and back (R231, R234) -/

/-- Bits of bytes, each most significant bit first. -/
def byteBits (bs : List Byte) : List Bool := bs.flatMap fun b => bitsOf 8 b.toNat

/-- The first `count` pieces of `n` bits. -/
def pieceBits (n count : Nat) (bs : List Bool) : List Nat := (List.range count).map fun i => ofBits ((bs.drop (n * i)).take n)

/-- The bits of the 13 codewords of a lane frame. -/
def codeBits (bytes : List Byte) : List Bool :=
  (List.range 13).flatMap fun i =>
    let xs := pieceBits 10 128 (byteBits (slice bytes (160 * i) 160))
    (xs ++ rsChecks xs).flatMap (bitsOf 10)

end Machine

open Machine

/-- The 9,216 symbols that lane n sends in a period: marker, codewords of an active lane, pad (R231, R246). -/
def LaneFrame.symbols (f : LaneFrame) : List Nat :=
  let head := toLevels (bitsOf 64 (f.marker.getD 0))
  let code := if f.bytes = [] then [] else codeBits f.bytes
  let r := runAfter head
  head ++ (stuffed r.1 r.2 (toLevels (scramble (scrambleSeed f.lane) (code ++ List.replicate (18368 - code.length) false)))).take 9184

namespace Machine

/-- What a receiver makes of the symbols of a period on lane n, by the number m of the lane that sent them (R231 to R234): a
codeword that holds a marked symbol is erased whole, and so uncorrectable. -/
def readLane (n m : Nat) (active : Bool) (symbols : List Nat) : LaneFrame :=
  let head := symbols.take 32
  let word := ofBits (head.flatMap pamBits)
  let r := runAfter head
  let body := (unstuffed r.1 r.2 false (symbols.drop 32)).take 8840
  let bits := scramble (scrambleSeed m) (body.flatMap fun x => pamBits x.1)
  let code := (List.range 13).map fun i =>
    let xs := pieceBits 10 136 ((bits.drop (1360 * i)).take 1360)
    (xs, rsDecode xs (if ((body.drop (680 * i)).take 680).any (·.2) then List.range 136 else []))
  let bytes := code.flatMap fun c => pieceBits 8 160 (((c.2.elim c.1 (·.1)).take 128).flatMap (bitsOf 10))
  { lane := n, marker := if word % 2 ^ 40 = markerPattern then some word else none
    corrected := if active then (code.map fun c => c.2.elim 0 (·.2)).foldl (· + ·) 0 else 0
    uncorrectable := if active then (code.filter fun c => c.2.isNone).length else 0
    stuff := (body.filter (·.2)).length
    bytes := if active then bytes.map (BitVec.ofNat 8) else [] }

/-! ### Lane frames (R235, R237, R240) -/

/-- The nonce of a lane frame: transmit frame counter, port dimension, lane position, 16 zero bits. -/
def laneNonce (txc dim pos : Nat) : Nat := beNat (natLe 8 txc ++ natLe 1 dim ++ natLe 1 pos ++ natLe 2 0)

/-- A lane frame from tail bytes 0 to 11 and its slots: slots encrypted, then the tail with its tag and CRC. -/
def sealLane (key txc dim pos n : Nat) (aad slots : List Byte) : LaneFrame :=
  let c := gcmStream key (laneNonce txc dim pos) slots
  let b := c ++ aad ++ natBe 16 (gcmTag key (laneNonce txc dim pos) aad c)
  { lane := n, marker := some (markerOf dim pos txc), bytes := b ++ natLe 4 (crc32 b) }

end Machine

/-- A field of the tail. -/
def LaneFrame.tail (f : LaneFrame) (o n : Nat) : Nat := field f.bytes (2048 + o) n

/-- Is the marker where it is expected? -/
def LaneFrame.marked (f : LaneFrame) : Bool := f.marker.elim false fun m => m % 2 ^ 40 == markerPattern

/-- Lane position that the marker gives (R244). -/
def LaneFrame.position (f : LaneFrame) : Nat := bits (f.marker.getD 0) 43 40

/-- Port dimension that the marker gives. -/
def LaneFrame.dim (f : LaneFrame) : Nat := bits (f.marker.getD 0) 47 44

/-- Does the CRC of a lane frame agree (R237)? -/
def LaneFrame.crcOk (f : LaneFrame) : Bool := f.bytes.length == 2080 && f.tail 28 4 == crc32 (f.bytes.take 2076)

/-- Does the tag verify at the receiver's own count, which marker and TXC agree with (R240)? -/
def LaneFrame.tagOk (f : LaneFrame) (key count : Nat) : Bool :=
  f.tail 8 4 == count % 2 ^ 32 && bits (f.marker.getD 0) 63 48 == count % 2 ^ 16
    && beNat (slice f.bytes 2060 16)
      == gcmTag key (laneNonce count f.dim f.position) (slice f.bytes 2048 12) (f.bytes.take 2048)

/-- Does a lane frame pass marker, FEC, CRC and tag (R238)? -/
def LaneFrame.passes (f : LaneFrame) (key count : Nat) : Bool :=
  f.marked && f.uncorrectable == 0 && f.crcOk && f.tagOk key count

/-- The flits in the slots of a lane frame. -/
def LaneFrame.slots (f : LaneFrame) (key count : Nat) : List (List Byte) :=
  let b := gcmStream key (laneNonce count f.dim f.position) (f.bytes.take 2048)
  (List.range 64).map fun i => slice b (32 * i) 32

namespace Machine

/-- The flits of a port frame: flit j in slot j / W of the lane of rank j mod W, the leading F of them (R236). -/
def frameFlits (lanes : List LaneFrame) (key count : Nat) : List (List Byte) :=
  let ls := (sortBy LaneFrame.position lanes).map fun f => (f.slots key count)
  let n := (lanes.map fun f => f.tail 6 1).foldl (· + ·) 0
  (List.range n).map fun j => (ls.getD (j % ls.length) []).getD (j / ls.length) (List.replicate 32 0)

end Machine

/-! ### Flits of a packet (R258, R261) -/

/-- The flits of a packet: header flit and payload, or header, data and tail flits. -/
def Packet.flits (p : Packet) : List (List Byte) :=
  let head := p.header ++ natLe 2 (p.hcrc.getD p.goodHcrc) ++ slice p.cmd 0 16
  if p.long then
    head :: (List.range p.length).map (fun i => slice p.data (32 * i) 32) ++ [natLe 4 (p.tailCrc.getD p.goodTail) ++ List.replicate 28 0]
  else [head, slice p.data 0 32]

namespace Machine

/-- The packet that a header flit and the flits after it spell. -/
def packetOf (head : List Byte) (rest : List (List Byte)) : Packet :=
  let route := field head 6 1
  let n := field head 7 1
  { dest := field head 0 2, src := field head 2 2, inter := field head 4 2, cls := bits route 2 0, level := bits route 4 3
    phase2 := bit route 5, long := bit route 6, detoured := bit route 7, length := n, opcode := field head 8 1
    gen := field head 9 1, tag := field head 10 2, seq := field head 12 1, degraded := bit (field head 13 1) 0
    hcrc := some (field head 14 2), cmd := slice head 16 16
    data := if bit route 6 then (rest.take n).flatten else slice rest.flatten 0 32
    tailCrc := if bit route 6 then some (field (rest.getD n []) 0 4) else none }

end Machine
end Sys2Proof
end

