-- ==== Sys2Proof/Machine/Packets.lean ====
section
/-! DEFINITION. Packets at a port and at their endpoints: requests served (R169, R175, R123, R159, R260, R261), replies (R277),
admission, routing and transmission (R262 to R275), link credits (R266). -/

namespace Sys2Proof.Machine

/-! ### Requests served (R260, R261) -/

/-- The flue die whose controller serves a local address. -/
def State.dieOfAddr (s : State) (a : Nat) : Nat := if mapped a then dieOfCh (s.chOf (granule a)) else 0

/-- Discard a long packet whose tail CRC fails (R261): the source of the event is the die of the memory controller that a request
is for, of the slot that a reply is for, else F0 (log entry 13, DESIGN CHOICE). -/
def State.e2eError (s : State) (p : Packet) : State :=
  let die := match p.cls with | 0 => s.dieOfAddr p.addr | 2 => bits p.tag 13 13 | _ => 0
  (s.bump Reg.rtrE2eErrorsCount).ev 0x0708 die p.src p.opcode p.tag

/-- The memory operation that a request asks for; none when its size field disagrees with its LENGTH (R260, R262). -/
def opOf (p : Packet) : Option MemOp :=
  let size := p.attr % 128 * 64
  match p.opcode with
  | 1 => some (.read size)
  | 2 => if p.length * 32 = size then some (.write (slice p.data 0 size)) else none
  | 3 => some (.atomic (p.attr % 16) (bits p.attr 7 4 * 4) (slice p.data 0 32))
  | 5 => some (.record (slice p.data 0 32))
  | 6 => if p.length = 3 ∧ p.attr % 128 = 1 then some (.masked (slice p.data 0 64) (field p.data 64 8)) else none
  | _ => none

/-- Serve a memory request and answer it. -/
def State.serveMem (s : State) (p : Packet) : State :=
  let die := s.dieOfAddr p.addr
  let op := (answerOp p.opcode).getD 0
  match opOf p with
  | none => s.inject die (replyTo p s.myId op .length {} [])
  | some m =>
    if p.opcode = 2 && s.isRebuildWrite p.src p.addr p.data.length then
      let t := s.serve .bank p.addr m
      let u := if t.2.status = .ok then t.1.countReceived p.addr else t.1
      u.inject die (replyTo p u.myId op t.2.status t.2.flags [])
    else
      let t := s.serve (.firing p.job) p.addr m
      t.1.inject die (replyTo p t.1.myId op t.2.status t.2.flags t.2.data)

/-- Serve a SIGNAL (R123, R124, R260). -/
def State.serveSignal (s : State) (p : Packet) : State :=
  let t := s.signal (field p.cmd 4 2 % 4096) (field p.cmd 8 4) (some p.job)
  t.1.inject 0 (replyTo p t.1.myId 0x84 t.2 {} [])

/-- Serve a REQ packet at its target. -/
def State.serveReq (s : State) (p : Packet) : State :=
  if ¬ p.tailOk then s.e2eError p
  else if p.opcode = 4 then s.serveSignal p
  else s.serveMem p

/-- A REQ packet of one opcode reaches its target (log entry 2, DESIGN CHOICE). -/
def State.reqArrives (s : State) (op : Nat) (p : Packet) : State :=
  if p.opcode = op ∧ p.cls = 0 ∧ p.dest = s.myId then s.serveReq p else s

/-- READ. -/
def execRead (p : Packet) (s : State) : Host.Outcome State Fault Refusal := s.does fun s => s.reqArrives 1 p

/-- WRITE. -/
def execWrite (p : Packet) (s : State) : Host.Outcome State Fault Refusal := s.does fun s => s.reqArrives 2 p

/-- ATOMIC. -/
def execAtomic (p : Packet) (s : State) : Host.Outcome State Fault Refusal := s.does fun s => s.reqArrives 3 p

/-- SIGNAL. -/
def execSignal (p : Packet) (s : State) : Host.Outcome State Fault Refusal := s.does fun s => s.reqArrives 4 p

/-- COMPLETION. -/
def execCompletion (p : Packet) (s : State) : Host.Outcome State Fault Refusal := s.does fun s => s.reqArrives 5 p

/-- WRITE_MASKED. -/
def execWriteMasked (p : Packet) (s : State) : Host.Outcome State Fault Refusal := s.does fun s => s.reqArrives 6 p

/-! ### Replies (R277) -/

/-- Take an RSP packet at its endpoint. -/
def State.serveReply (s : State) (p : Packet) : State := if p.tailOk then s.takeReply p else s.e2eError p

/-- An RSP packet of one opcode arrives (log entry 2, DESIGN CHOICE). -/
def State.replyArrives (s : State) (op : Nat) (p : Packet) : State :=
  if p.opcode = op ∧ p.cls = 2 ∧ p.dest = s.myId then s.serveReply p else s

/-- READ_DATA. -/
def execReadData (p : Packet) (s : State) : Host.Outcome State Fault Refusal := s.does fun s => s.replyArrives 0x81 p

/-- WRITE_ACK. -/
def execWriteAck (p : Packet) (s : State) : Host.Outcome State Fault Refusal := s.does fun s => s.replyArrives 0x82 p

/-- ATOMIC_RESULT. -/
def execAtomicResult (p : Packet) (s : State) : Host.Outcome State Fault Refusal := s.does fun s => s.replyArrives 0x83 p

/-- SIGNAL_ACK. -/
def execSignalAck (p : Packet) (s : State) : Host.Outcome State Fault Refusal := s.granted fun s => s.replyArrives 0x84 p

/-- COMPLETION_ACK. -/
def execCompletionAck (p : Packet) (s : State) : Host.Outcome State Fault Refusal := s.does fun s => s.replyArrives 0x85 p

/-- REQUEST_TIMEOUT (R277). -/
def State.slotTimeout (die n : Nat) (s : State) : State :=
  let x := s.slotAt die n
  if die < 2 ∧ n < 8192 ∧ x.busy then
    (((s.bump Reg.rtrTimeoutsCount).ev 0x0706 die x.dest (n + die * 2 ^ 13) x.opcode).closeSlot die n none .timeout {} [])
  else s

/-- REQUEST_TIMEOUT. -/
def execRequestTimeout (die slot : Nat) (s : State) : Host.Outcome State Fault Refusal := s.does (State.slotTimeout die slot)

/-- A packet is delivered to an endpoint of this module (R263, R270). -/
def State.deliver (s : State) (p : Packet) : State :=
  match p.cls with
  | 0 => s.serveReq p
  | 1 => if p.tailOk then s.takeBank p else s.e2eError p
  | 2 => s.serveReply p
  | 3 => if p.tailOk then s.takeColl p else s.e2eError p
  | _ => s.ev 0x0709 0 p.src p.opcode 0

/-! ### Leaving the store (R264 to R267) -/

/-- Does virtual channel vc of a port have a packet in a capped output queue (R267)? -/
def State.withheld (s : State) (port vc : Nat) : Bool :=
  (List.range 17).any fun o => s.cappedOut (dieOfDim port) o && (s.queue o).any fun x => x.via == some port && x.vc == vc

/-- The cells of a stored packet are freed, and counted for its channel's credits; of a channel with a packet in a capped queue
window credits are withheld (R266, R267). -/
def State.freeCells (s : State) (x : Stored) : State :=
  match x.via with
  | none => s
  | some port =>
    let c := s.credit port x.vc
    let n := x.pkt.cells
    let k := if s.withheld port x.vc then min n (c.window - c.held) else 0
    s.setCredit port x.vc { c with freed := (c.freed + (n - k)) % 4096, pending := c.pending + (n - k), held := c.held + k }

/-- Take a stored packet out of a queue. -/
def State.unqueue (s : State) (o : Nat) (x : Stored) : State :=
  (((s.setQueue o ((s.queue o).erase x)).freeCells x).storeSync).retryWaiting

/-- The first packet of a virtual channel in a queue, in the store of a die. -/
def State.headOf (s : State) (die o vc : Nat) : Option Stored := (s.queue o).find? fun x => x.die == die && x.pkt.vc == vc

/-- Window cells that the far store assigns for n cells on v (R266; log entry 17, DEDUCED). -/
def windowGain (used total n : Nat) : Nat := min n (min (3840 - used) (16384 - total))

/-- A fabric port's state beside its registers. -/
def State.port (s : State) (d : Nat) : Port := tget s.ports {} d

/-- Set it. -/
def State.setPort (s : State) (d : Nat) (x : Port) : State := { s with ports := tset s.ports {} d x }

/-- Put a packet on a port: its flits go to the replay buffer, and it leaves the block. -/
def State.putOnPort (s : State) (d : Nat) (p : Packet) : State :=
  let x := s.port d
  (s.setPort d { x with flight := x.flight ++ [p.cells], out := x.out ++ p.flits }).send (.packet d p)

/-- Transmit a stored packet on a port (R264, R266): counted, marked DEGRADED on a degraded link (R259). -/
def State.transmitOn (s : State) (d : Nat) (x : Stored) : State :=
  let v := x.pkt.vc
  let c := s.credit d v
  let n := x.pkt.cells
  if c.available < n then s.bump (Reg.rtrPortStallCount d x.pkt.cls)
  else
    let gain := windowGain c.txWindow (s.windowSum d (·.txWindow)) n
    let s := s.setCredit d v { c with sent := (c.sent + n) % 4096, txWindow := c.txWindow + gain }
    let s := (s.addPair (Reg.rtrPortTxPktsLoOff d) 1).addPair (Reg.rtrPortTxFlitsLoOff d) n
    (s.putOnPort d { x.pkt with degraded := x.pkt.degraded || s.flag (Reg.lanPortStatusDegraded d), hcrc := none }).unqueue d x

/-- The channels of an output that are ready, as 30 × die + virtual channel: the port holds credit for all of the packet at their
head; LOC takes any (R269). -/
def State.readyAt (s : State) (o : Nat) : List Nat :=
  (List.range 60).filter fun k => match s.headOf (k / 30) o (k % 30) with
    | some x => o == 16 || x.pkt.cells ≤ (s.credit o (k % 30)).available
    | none => false

/-- Is a channel's turn over, with another ready channel still to have its own (R269)?  MGT channels go before all others. -/
def State.outOfTurn (s : State) (o k : Nat) : Bool :=
  let ready := s.readyAt o
  if 24 ≤ k % 30 then false
  else ready.any (fun j => 24 ≤ j % 30) || ((tget s.turns [] o).contains k && ready.any fun j => ! (tget s.turns [] o).contains j)

/-- A channel has had its turn; with every ready channel served, a new round begins. -/
def State.takeTurn (s : State) (o k : Nat) : State :=
  let done := tget s.turns [] o
  { s with turns := tset s.turns [] o (if done.contains k then [k] else done ++ [k]) }

/-- PACKET_TRANSMIT: to a port (0 to 15), or to an endpoint (16).  Which ready channel goes first in a round is open (log entry
14, DESIGN CHOICE). -/
def State.transmit (die o vc : Nat) (s : State) : State :=
  match s.headOf die o vc with
  | none => s
  | some x =>
    let k := 30 * die + vc
    if (s.readyAt o).contains k && s.outOfTurn o k then s else
    let s := if (s.readyAt o).contains k && vc < 24 then s.takeTurn o k else s
    if o < 16 then (if s.portUp o then s.transmitOn o x else s)
    else if o = 16 then (s.unqueue 16 x).deliver x.pkt
    else s

/-- PACKET_TRANSMIT. -/
def execPacketTransmit (die port vc : Nat) (s : State) : Host.Outcome State Fault Refusal := s.does (State.transmit die port vc)

/-! ### Link credits (R266) -/

/-- The bytes of the credit counts: 12 bits each, channel 0 lowest. -/
def creditBytes (counts : List Nat) : List Byte :=
  natLe 48 (counts.zipIdx.foldl (fun a x => a + x.1 % 4096 * 2 ^ (12 * x.2)) 0)

/-- The credit counts of a LINK_CREDIT packet. -/
def creditCounts (p : Packet) : List Nat :=
  let v := leNat (slice p.cmd 0 16 ++ slice p.data 0 32)
  (List.range 30).map fun i => bits v (12 * i + 11) (12 * i)

/-- LINK_CREDIT: the last counts received; a channel with nothing outstanding has no window cell (log entry 17, DEDUCED). -/
def State.takeCredits (port : Nat) (counts : List Nat) (s : State) : State :=
  if port < 16 ∧ counts.length = 30 ∧ s.flag (Reg.lanPortStatusLink port) then
    s.each (List.range 30) fun t v =>
      let c := t.credit port v
      let n := counts.getD v 0 % 4096
      t.setCredit port v { c with counted := n, txWindow := if n = c.sent then 0 else c.txWindow }
  else s

/-- LINK_CREDIT. -/
def execLinkCredit (port : Nat) (counts : List Nat) (s : State) : Host.Outcome State Fault Refusal :=
  s.does (State.takeCredits port counts)

/-- LINK_CREDIT_SEND: cells withheld by a capped queue that is capped no longer join the count (R267). -/
def State.sendCredits (port : Nat) (s : State) : State :=
  let s := s.each (List.range 30) fun t v =>
    let c := t.credit port v
    if 0 < c.held ∧ ¬ t.withheld port v then
      t.setCredit port v { c with freed := (c.freed + c.held) % 4096, pending := c.pending + c.held, held := 0 } else t
  if port < 16 ∧ s.portUp port ∧ ((List.range 30).any fun v => 0 < (s.credit port v).pending) then
    let bs := creditBytes ((List.range 30).map fun v => (s.credit port v).freed)
    let s := s.each (List.range 30) fun t v => t.setCredit port v { t.credit port v with pending := 0 }
    s.putOnPort port { dest := Nat.xor s.myId (2 ^ port), src := s.myId, cls := 4, opcode := 0xE2, cmd := bs.take 16, data := bs.drop 16 }
  else s

/-- LINK_CREDIT_SEND. -/
def execLinkCreditSend (port : Nat) (s : State) : Host.Outcome State Fault Refusal := s.does (State.sendCredits port)

/-- WINDOW_RECLAIM: a channel that holds no packet in the store returns its window cells. -/
def execWindowReclaim (port vc : Nat) (s : State) : Host.Outcome State Fault Refusal :=
  s.does fun s =>
    if port < 16 ∧ vc < 30 ∧ ¬ (s.queues.any fun q => q.2.any fun x => x.via == some port && x.vc == vc) then
      s.setCredit port vc { s.credit port vc with window := 0 }
    else s

/-! ### Ingress (R262, R265, R272, R273) -/

/-- Return the credits of flits discarded at ingress. -/
def State.returnCells (s : State) (port vc n : Nat) : State :=
  let c := s.credit port vc
  s.setCredit port vc { c with freed := (c.freed + n) % 4096, pending := c.pending + n }

/-- Store an arriving packet in the queue of an output. -/
def State.enterTo (s : State) (port o vc : Nat) (p : Packet) : State :=
  let die := dieOfDim port
  match s.account die p.cls p.cells (130 - s.floorUsed port vc) with
  | some acc => s.enqueue o die (some port) vc p acc
  | none => if p.cls = 4 then (s.returnCells port vc p.cells).ev 0x0709 die p.src p.opcode 0 else s

/-- Take a packet of port `port` where its routing says: to this module, to a port, or discarded as unreachable. -/
def State.enterAs (s : State) (port : Nat) (p : Packet) : Route → State
  | .deliver q => s.enterTo port 16 p.vc q
  | .port d q => (s.detour p q).enterTo port d p.vc q
  | .unreachable _ _ => (s.returnCells port p.vc p.cells).forward (dieOfDim port) p

/-- Count an admitted packet. -/
def State.countAdmitted (s : State) (port : Nat) (p : Packet) : State :=
  (s.addPair (Reg.rtrPortRxPktsLoOff port) 1).addPair (Reg.rtrPortRxFlitsLoOff port) p.cells

/-- Admit a packet with a good header on an UP port: window cells (R266), counts, routing. -/
def State.enter (s : State) (port : Nat) (p : Packet) : State :=
  let n := p.cells
  let v := p.vc
  let c := s.credit port v
  let s := s.setCredit port v { c with window := c.window + windowGain c.window (s.windowSum port (·.window)) n }
  (s.countAdmitted port p).enterAs port p (s.route p)

/-- `n` flits are discarded for a header error (R262): the first header that fails is counted, and every flit up to one that
passes belongs to that error. -/
def State.headerError (s : State) (port cause n : Nat) (p : Packet) : State :=
  let s := s.returnCells port (p.vc % 30) n
  match tfind s.resync port with
  | some (c, k) => { s with resync := tput s.resync port (c, k + n) }
  | none => ({ s with resync := tput s.resync port (cause, n) }).bump (Reg.rtrPortHeaderErrCount port)

/-- A header has passed, or the link is gone: event 0x0702 with the flits discarded since the header error (R262, R281). -/
def State.headerFound (s : State) (port : Nat) : State :=
  match tfind s.resync port with
  | some (c, k) => ({ s with resync := tdel s.resync port }).ev 0x0702 (dieOfDim port) port c k
  | none => s

/-- MGT packets whose effect their own commands tell: identity, time, image pages and pulls (log entry 2, DESIGN CHOICE). -/
def ownRow (op : Nat) : Bool := [0xE0, 0xE1, 0xE4, 0xE5].contains op

/-- PACKET_INGRESS: the header check, the port's state (R219), LINK_CREDIT consumed at ingress, admission. -/
def State.ingress (port : Nat) (p : Packet) (s : State) : State :=
  if 16 ≤ port ∨ ¬ s.flag (Reg.lanPortStatusLink port) then s
  else match p.headerError with
    | 0 =>
      let s := s.headerFound port
      if p.opcode = 0xE2 then (if s.portUp port then State.takeCredits port (creditCounts p) s else s)
      else if p.opcode = 0xE0 then s
      else if ¬ s.portUp port then s.returnCells port p.vc p.cells
      else if ownRow p.opcode then (s.countAdmitted port p).returnCells port p.vc p.cells
      else s.enter port p
    | c => s.headerError port c p.cells p

/-- PACKET_INGRESS. -/
def execPacketIngress (port : Nat) (p : Packet) (s : State) : Host.Outcome State Fault Refusal := s.does (State.ingress port p)

/-! ### High-water marks (R280) -/

/-- Set every high-water mark to its current value. -/
def State.clearHwms (s : State) : State :=
  let s := s.each [0, 1] fun t f =>
    (t.setFld (Reg.rtrStoreHwmUsed f) (t.fld (Reg.rtrStoreStatusUsed f))).setFld (Reg.rtrStoreSlotsHwm f)
      (t.fld (Reg.rtrStoreSlotsInUse f))
  let s := s.each (List.range 16) fun t d => t.setFld (Reg.rtrPortDepthHwmCells d) (t.fld (Reg.rtrPortDepthCells d))
  s.setFld Reg.rtrLocalDepthHwmCells (s.fld Reg.rtrLocalDepthCells)

/-- A write of RTR_CTRL. -/
def State.doRtrCtrl (value : Nat) (s : State) : State × Status := (if bit value 31 then s.clearHwms else s, .ok)

/-- CLEAR_HWM. -/
def execClearHwm (r : Requester) (s : State) : Host.Outcome State Fault Refusal :=
  s.granted fun s => s.access r Reg.rtrCtrlOff (2 ^ 31) .write (gate (s.isInst r) (State.doRtrCtrl (2 ^ 31)))

end Sys2Proof.Machine
end

