-- ==== Sys2Proof/Machine/Ports.lean ====
section
/-! DEFINITION. The lane layer of a port: lane sets and width (R229, R245 to R248), fabric time's parent (R224, R225), port states
(R219, R221), link loss (R249, R275), frames and replay (R235 to R238), idle (R250), loopbacks and eye scans (R251, R252). -/

namespace Sys2Proof.Machine

/-! ### Lanes (R229, R246) -/

/-- First lane of a port. -/
def firstLane (d : Nat) : Nat := if d < 6 then 12 * d else 72 + 4 * (d - 6)

/-- Lanes of a port. -/
def laneCount (d : Nat) : Nat := if d < 6 then 12 else 4

/-- Lanes of a port, ascending. -/
def lanesOf (d : Nat) : List Nat := (List.range (laneCount d)).map (firstLane d + ·)

/-- Port of a lane. -/
def portOfLane (n : Nat) : Nat := if n < 72 then n / 12 else 6 + (n - 72) / 4

/-- The width for a number of good lanes; 0 when none exists. -/
def widthFor (d good : Nat) : Nat :=
  if d < 6 then (if 12 ≤ good then 12 else if 8 ≤ good then 8 else if 4 ≤ good then 4 else 0)
  else (if 4 ≤ good then 4 else if 2 ≤ good then 2 else 0)

/-- STATE of a lane (R254). -/
def State.laneState (s : State) (n : Nat) : Nat := s.fld (Reg.lanLaneStatusState n)

/-- ACTIVE, STANDBY or IDLE. -/
def State.laneGood (s : State) (n : Nat) : Bool := [2, 3, 6].contains (s.laneState n)

/-- Good lanes of a port, ascending. -/
def State.goodLanes (s : State) (d : Nat) : List Nat := (lanesOf d).filter s.laneGood

/-- Set the lane set of a port by its good lanes (R246, R247): active lanes, width, DEGRADED, event 0x060B. -/
def State.setWidth (s : State) (d : Nat) : State :=
  let good := s.goodLanes d
  let w := widthFor d good.length
  let old := s.fld (Reg.lanPortStatusWidth d)
  let idle := s.flag (Reg.lanPortStatusIdleRx d)
  let s := s.each good.zipIdx fun t x => t.setFld (Reg.lanLaneStatusState x.1) (if idle then 6 else if x.2 < w then 2 else 3)
  let mask := (good.take w).foldl (fun m n => setBit m (n - firstLane d)) 0
  let s := ((s.setFld (Reg.lanPortStatusActiveMask d) mask).setFld (Reg.lanPortStatusWidth d) w).setFlag
    (Reg.lanPortStatusDegraded d) (decide (w < laneCount d))
  if old = w ∨ old = 0 then s else s.ev 0x060B (dieOfDim d) d old w

/-- The eye scan that runs on a lane (R251, R256). -/
def State.scanOn (s : State) (n : Nat) : Option Nat := (s.eyes.find? fun x => x.2.lane == n).map (·.1)

/-- Points that a scan has completed (R251, R256): 2^DWELL symbols of 112 GBd each, in management clocks of 235 MHz. -/
def EyeScan.points (x : EyeScan) (clk : Nat) : Nat := min 4096 ((clk - x.began) * 112000 / (235 * 2 ^ x.dwell))

/-- End an eye scan as ABORTED, with the points it completed and their disagreements, which nothing has reported: a free value each,
at most the symbols of a point (R251; log entry 31, DEDUCED).  Event 0x060F. -/
def State.abortScan (s : State) (f : Nat) : State :=
  match tfind s.eyes f with
  | none => s
  | some x =>
    let n := x.points s.clk
    let v := Config.freeValue s.free
    let s := ({ s with eyes := tdel s.eyes f, free := s.free + 1 }).setFld (Reg.lanEyeStatusPoints f) n
    let s := s.each (List.range n) fun t i =>
      t.setFld (Reg.lanEyePointErrors f i) (v / (2 ^ x.dwell + 1) ^ i % (2 ^ x.dwell + 1))
    (s.setFld (Reg.lanEyeStatusState f) 3).ev 0x060F f x.lane x.eye (2 ^ 32 - 1)

/-- End the eye scan of a lane that is dropped or falls idle. -/
def State.endScan (s : State) (n : Nat) : State := match s.scanOn n with | some f => s.abortScan f | none => s

/-- Take a lane out (R245, R248): DROPPED, or RETIRED at the third drop. -/
def State.takeOut (s : State) (n : Nat) : State :=
  let k := min 255 (s.fld (Reg.lanLaneStatusDrops n) + 1)
  (((s.endScan n).setFld (Reg.lanLaneStatusDrops n) k).setFld (Reg.lanLaneStatusState n) (if 3 ≤ k then 7 else 4)).setFlag
    (Reg.lanLaneStatusMarkerLock n) false

/-! ### Fabric time's parent (R224, R225) -/

/-- The active time root. -/
def State.timeRoot (s : State) : Nat :=
  if s.flag Reg.lanTimeStatusBackupActive then s.fld Reg.lanPlanRootsBackupRoot else s.fld Reg.lanPlanRootsRoot

/-- The parent's port: the lowest UP dimension one bit nearer the root. -/
def State.parentDim (s : State) : Option Nat :=
  (List.range 16).find? fun d => bit (Nat.xor s.myId s.timeRoot) d && s.portUp d

/-- Follow a parent. -/
def State.followTime (s : State) (d : Nat) : State :=
  let s := (s.setFld Reg.lanTimeStatusRole 2).setFld Reg.lanTimeStatusParentDim d
  { s with time := { s.time with good := 0 } }

/-- Enter holdover (R225). -/
def State.holdover (s : State) : State :=
  ((s.setFld Reg.lanTimeStatusRole 3).setFld Reg.lanTimeStatusParentDim 0).ev 0x0608 0 1 s.timeRoot 0

/-- Ports have changed state: the parent is chosen again (R224, R225). -/
def State.retime (s : State) : State :=
  let role := s.fld Reg.lanTimeStatusRole
  if s.myId = s.timeRoot then
    (if role = 2 ∧ ¬ s.portUp (s.fld Reg.lanTimeStatusParentDim) then
      (s.setFld Reg.lanTimeStatusRole 0).setFld Reg.lanTimeStatusParentDim 0 else s)
  else match role, s.parentDim with
    | 2, some d => if s.fld Reg.lanTimeStatusParentDim = d then s else s.followTime d
    | 2, none => s.holdover
    | 3, some d => (s.followTime d).ev 0x0608 (dieOfDim d) 3 s.timeRoot 0
    | _, _ => s

/-! ### Port states (R219, R227) -/

/-- STATE of a port: 0 OFF, 1 EXCHANGING, 2 UP, 3 DARK, 4 QUARANTINED, 5 HELD_SWAP, 6 HELD_LICENCE, 7 UNUSED. -/
def State.portState (s : State) (d : Nat) : Nat := s.fld (Reg.lanPortDiscState d)

/-- Set a port's state and cause, and what LAN_DISC_STATUS shows of it. -/
def State.setPortState (s : State) (d st cause : Nat) : State :=
  let s := (s.setFld (Reg.lanPortDiscState d) st).setFld (Reg.lanPortDiscCause d) cause
  let s := if st < 2 then s else s.setPort d { s.port d with left := true }
  let s := s.setFld Reg.lanDiscStatusUpPorts ((List.range 16).filter s.portUp).length
  s.setFlag Reg.lanDiscStatusDone ((List.range 16).all fun e => (s.port e).left)

/-- Quarantine a port (R219): event 0x0603. -/
def State.quarantine (s : State) (d cause : Nat) : State :=
  let id := if s.flag (Reg.lanPortDiscSeenValid d) ∨ (s.port d).seen then s.fld (Reg.lanPortDiscSeenId d) else 2 ^ 32 - 1
  let s := s.setPort d { s.port d with verdict := 2 }
  (s.setPortState d 4 cause).ev 0x0603 (dieOfDim d) d cause id

/-- Start link training (R221, R242): lanes that are not RETIRED and in no loopback train. -/
def State.startTraining (s : State) (d : Nat) : State :=
  let s := s.each (lanesOf d) fun t n => if t.laneState n = 7 ∨ t.laneState n = 5 then t else t.setFld (Reg.lanLaneStatusState n) 1
  s.setPort d { s.port d with training := true }

/-- May the links of a port be trained (R212, R217, R219, R440): once the module ID stands, with Base in effect, a far port with
Scale in effect too and not in provisional mode? -/
def State.linkAllowed (s : State) (d : Nat) : Bool :=
  let step := s.fld Reg.botStatusStep
  s.base && (step == 0 || decide (8 ≤ step)) && (d < 6 || (s.scale && ! s.provisional))

/-- May a port train now (R221): it is OFF, DARK or UNUSED. -/
def State.mayTrain (s : State) (d : Nat) : Bool := s.linkAllowed d && [0, 3, 7].contains (s.portState d)

/-! ### Link loss (R249, R275) -/

/-- Route a stored packet again, from the store that holds it (R275). -/
def State.reroute (s : State) (x : Stored) : State :=
  match s.route x.pkt with
  | .deliver q => s.enqueue 16 x.die x.via x.vc q (x.reserve, x.shared, x.floor)
  | .port d q => (s.detour x.pkt q).enqueue d x.die x.via x.vc q (x.reserve, x.shared, x.floor)
  | .unreachable _ _ => (s.freeCells x).forward x.die x.pkt

/-- A port leaves UP: its waiting packets are routed again, those handed to it are lost (R275): event 0x0707. -/
def State.leaveUp (s : State) (d : Nat) : State :=
  let q := s.queue d
  let lost := (s.port d).flight.length
  let s := (s.setQueue d []).each q State.reroute
  ((s.storeSync).ev 0x0707 (dieOfDim d) d lost q.length).retryWaiting

/-- Forget the credits of a port whose link has gone; packets it brought no longer owe it any. -/
def State.dropCredits (s : State) (d : Nat) : State :=
  { s with credits := s.credits.filter fun c => c.1 / 30 != d
           queues := s.queues.map fun q => (q.1, q.2.map fun x => if x.via = some d then { x with via := none } else x) }

/-- The lanes of a port go dark, and its link registers with them. -/
def State.unlink (s : State) (d : Nat) : State :=
  let s := s.each (s.goodLanes d) fun t n => ((t.endScan n).setFld (Reg.lanLaneStatusState n) 0).setFlag (Reg.lanLaneStatusMarkerLock n) false
  s.setReg (Reg.lanPortStatusOff d) 0

/-- The link of a port is lost (R249), or its key exchange is cut off (R253): events 0x060C and 0x0602; a held or quarantined port
keeps its state, any other is DARK (R221). -/
def State.linkLost (s : State) (d cause : Nat) : State :=
  let st := s.portState d
  if ¬ s.flag (Reg.lanPortStatusLink d) ∧ st ≠ 1 ∧ ¬ ((s.port d).training ∧ (st = 0 ∨ st = 3)) then s
  else
    let x := s.port d
    let s := (s.bump (Reg.lanPortLinkLossesCount d)).ev 0x060C (dieOfDim d) d cause x.replays
    let s := (((s.unlink d).headerFound d).when (st < 4) fun t => t.setPortState d 3 0).ev 0x0602 (dieOfDim d) d 2 0
    let s := if st = 2 then s.leaveUp d else s
    ((s.setPort d { left := (s.port d).left }).dropCredits d).retime

/-- The good lanes of a port have changed (R247, R249): the new set applies from the next period, or the link is lost. -/
def State.laneChange (s : State) (d : Nat) : State :=
  if ¬ s.flag (Reg.lanPortStatusLink d) then s
  else if widthFor d (s.goodLanes d).length = 0 then s.linkLost d 1
  else s.setPort d { s.port d with change := true }

/-- May a lane be dropped, by its cause (R245, R253)?  The installer's DROP takes any lane that is not out already. -/
def State.mayDrop (s : State) (n cause : Nat) : Bool := s.laneGood n || (cause == 4 && ! [4, 7].contains (s.laneState n))

/-- Drop lanes of a port with their causes (R245 to R247), and report them to the other end. -/
def State.dropLanes (s : State) (d : Nat) (ls : List (Nat × Nat)) : State :=
  let ls := ls.filter fun x => s.mayDrop x.1 x.2
  if ls.isEmpty then s
  else
    let s := s.each ls fun t x => (t.takeOut x.1).ev 0x0609 (dieOfDim d) d x.1 x.2
    (s.setPort d { s.port d with report := (s.port d).report ++ ls.map fun x => x.1 - firstLane d }).laneChange d

/-! ### Writes of LAN_LANE_n_CTRL and LAN_PORT_d_CTRL (R245, R248, R249, R252, R254, R255) -/

/-- A lane's loopback ends (R248, R252): a RETIRED lane stays so, and the port retrains; a QUARANTINED or HELD_SWAP port does so
in its state. -/
def State.leaveLoopback (s : State) (d n : Nat) : State :=
  let s := s.setFld (Reg.lanLaneStatusState n) (if 3 ≤ s.fld (Reg.lanLaneStatusDrops n) then 7 else 0)
  if s.linkAllowed d ∧ s.portState d ≠ 6 then
    let s := ((s.unlink d).setPort d { left := (s.port d).left }).dropCredits d
    (if s.portState d = 1 then s.setPortState d 0 0 else s).startTraining d
  else s

/-- A write of LAN_LANE_n_CTRL; `peerUp` says that the neighbour's port is UP. -/
def State.doLaneCtrl (n value : Nat) (peerUp : Bool) (s : State) : State × Status :=
  let d := portOfLane n
  let old := s.fld (Reg.lanLaneCtrlLoopback n)
  let new := bits value 1 0
  if new ≠ old ∧ (s.portUp d ∨ (new = 3 ∧ peerUp)) then (s, .state)
  else
    let s := if bit value 2 ∧ ¬ s.flag (Reg.lanLaneCtrlPrbsEn n) then s.setReg (Reg.lanLanePrbsErrOff n) 0 else s
    let s := (s.setFlag (Reg.lanLaneCtrlPrbsEn n) (bit value 2)).setFld (Reg.lanLaneCtrlLoopback n) new
    let s := if new = old then s else if new = 0 then s.leaveLoopback d n else s.setFld (Reg.lanLaneStatusState n) 5
    let s := if bit value 31 then s.dropLanes d [(n, 4)] else s
    let s := if bit value 30 then
        let s := s.setFld (Reg.lanLaneStatusDrops n) 0
        if s.laneState n = 4 ∨ s.laneState n = 7 then s.setFld (Reg.lanLaneStatusState n) 1 else s
      else s
    (s, .ok)

/-- The word of LAN_LANE_n_CTRL with its RW fields as they stand. -/
def State.laneWord (s : State) (n : Nat) : Nat := (s.reg (Reg.lanLaneCtrlOff n)).toNat % 8

/-- A lane-control write from outside. -/
def State.laneWrite (s : State) (r : Requester) (n value : Nat) (peerUp : Bool) : State :=
  if n < 112 then s.access r (Reg.lanLaneCtrlOff n) value .write (gate (s.isInst r) (State.doLaneCtrl n value peerUp)) else s

/-- LANE_CTRL_DROP. -/
def execLaneCtrlDrop (r : Requester) (lane : Nat) (s : State) : Host.Outcome State Fault Refusal :=
  s.granted fun s => s.laneWrite r lane (s.laneWord lane + 2 ^ 31) false

/-- LANE_CTRL_RESTORE. -/
def execLaneCtrlRestore (r : Requester) (lane : Nat) (s : State) : Host.Outcome State Fault Refusal :=
  s.granted fun s => s.laneWrite r lane (s.laneWord lane + 2 ^ 30) false

/-- LANE_PRBS_ENABLE. -/
def execLanePrbsEnable (r : Requester) (lane : Nat) (s : State) : Host.Outcome State Fault Refusal :=
  s.granted fun s => s.laneWrite r lane (setBit (s.laneWord lane) 2) false

/-- LANE_LOOPBACK. -/
def execLaneLoopback (r : Requester) (lane mode : Nat) (peerUp : Bool) (s : State) : Host.Outcome State Fault Refusal :=
  s.granted fun s => s.laneWrite r lane (s.laneWord lane / 4 * 4 + mode % 4) peerUp

/-- The lane settings as the last record write waiting for the NVM leaves them (R243, R425). -/
def State.laneSettings (s : State) : Tbl (Nat × Tbl Nat) :=
  s.nvmq.foldl (fun t d => match d with | .lanes u => u | _ => t) s.nvm.lanes

/-- Version of the lane tables in use: that of the running image's manifest (R243, R470). -/
def State.laneTables (s : State) : Nat :=
  field (manifestOf (if s.flag Reg.botStatusFallback then s.nvm.staging else s.nvm.active)) 0x12 2

/-- Has a port saved settings that may be used (R243)? -/
def State.settingsFit (s : State) (d : Nat) : Bool := (tfind s.laneSettings d).elim false fun x => x.1 == s.laneTables

/-- A write of LAN_PORT_d_CTRL. -/
def State.doPortCtrl (d value : Nat) (s : State) : State × Status :=
  let s := s.setFlag (Reg.lanPortCtrlIdleEn d) (bit value 0)
  let s := if bit value 30 then
      (if (tfind s.laneSettings d).isSome then s.nvmPut (.lanes (tdel s.laneSettings d)) else s)
    else s
  let s := if bit value 31 then
      let t := s.linkLost d 4
      if t.mayTrain d then t.startTraining d else t
    else s
  (s, .ok)

/-- A port-control write from outside. -/
def State.portWrite (s : State) (r : Requester) (d value : Nat) : State :=
  if d < 16 then s.access r (Reg.lanPortCtrlOff d) value .write (gate (s.isInst r) (State.doPortCtrl d value)) else s

/-- PORT_CTRL_RETRAIN. -/
def execPortCtrlRetrain (r : Requester) (port : Nat) (s : State) : Host.Outcome State Fault Refusal :=
  s.granted fun s => s.portWrite r port (s.fld (Reg.lanPortCtrlIdleEn port) + 2 ^ 31)

/-- PORT_CTRL_FORGET. -/
def execPortCtrlForget (r : Requester) (port : Nat) (s : State) : Host.Outcome State Fault Refusal :=
  s.granted fun s => s.portWrite r port (s.fld (Reg.lanPortCtrlIdleEn port) + 2 ^ 30)

/-! ### Lane errors and restoration (R245, R248, R249) -/

/-- LANE_ERROR_WINDOW: with the errors that the PRBS checker met in it (R254). -/
def execLaneErrorWindow (lane uncorrectable corrected prbs : Nat) (s : State) : Host.Outcome State Fault Refusal :=
  s.does fun s =>
    let s := if s.flag (Reg.lanLaneCtrlPrbsEn lane) then s.add (Reg.lanLanePrbsErrCount lane) prbs else s
    if 112 ≤ lane then s
    else if 4 < uncorrectable then s.dropLanes (portOfLane lane) [(lane, 2)]
    else if 4096 < corrected then s.dropLanes (portOfLane lane) [(lane, 3)]
    else s

/-- LANE_RETRAIN: a DROPPED lane, or one that RESTORE retries, becomes STANDBY or is dropped again. -/
def State.laneRetrained (n : Nat) (pass : Bool) (s : State) : State :=
  let d := portOfLane n
  if n < 112 ∧ s.flag (Reg.lanPortStatusLink d) ∧ (s.laneState n = 4 ∨ s.laneState n = 1) then
    if pass then
      (((s.setFld (Reg.lanLaneStatusState n) 3).setFlag (Reg.lanLaneStatusMarkerLock n) true).ev 0x060A (dieOfDim d) d n 0).laneChange d
    else (s.takeOut n).ev 0x0609 (dieOfDim d) d n 5
  else s

/-- LANE_RETRAIN. -/
def execLaneRetrain (lane : Nat) (pass : Bool) (s : State) : Host.Outcome State Fault Refusal := s.does (State.laneRetrained lane pass)

/-- SIGNAL_LOSS (R249). -/
def execSignalLoss (port : Nat) (s : State) : Host.Outcome State Fault Refusal :=
  s.does fun s => if port < 16 then s.linkLost port 5 else s

/-! ### Frames and replay (R235 to R239) -/

/-- Take acknowledged flits off the packets in flight. -/
def landed : Nat → List Nat → List Nat
  | _, [] => []
  | n, f :: fs => if f ≤ n then landed (n - f) fs else (f - n) :: fs

/-- An ACK covers a kept frame. -/
def ackCovers (ack seq : Nat) : Bool := (ack + 65536 - seq % 65536) % 65536 < 32768

/-- Take an ACK (R238). -/
def State.takeAck (s : State) (d ack : Nat) : State :=
  let x := s.port d
  let done := x.kept.filter fun k => ackCovers ack k.1
  if done.isEmpty then s
  else
    let left := x.kept.filter fun k => ! ackCovers ack k.1
    s.setPort d { x with kept := left, resend := min x.resend left.length, replays := 0
                         flight := landed ((done.map (·.2.length)).foldl (· + ·) 0) x.flight }

/-- Kept frames in pieces of at most `n` flits, numbered on from a SEQ: a frame that no longer fits the width is sent as several
(log entry 31, DEDUCED). -/
def refit (n seq : Nat) (kept : List (Nat × List (List Byte))) : List (Nat × List (List Byte)) :=
  (kept.flatMap fun k => (List.range ((k.2.length + n - 1) / n)).map fun i => (k.2.drop (n * i)).take n).zipIdx.map fun x =>
    ((seq + x.2) % 65536, x.1)

/-- Go back to the oldest kept frame (R238); the link is lost once that frame has been replayed eight times (R249). -/
def State.goBack (s : State) (d : Nat) : State :=
  let x := s.port d
  match x.kept with
  | [] => s
  | (seq, _) :: _ =>
    if 8 ≤ x.replays then s.linkLost d 2
    else
      let n := 64 * s.fld (Reg.lanPortStatusWidth d)
      let wide := x.kept.any fun k => n < k.2.length
      let kept := if wide ∧ 0 < n then refit n seq x.kept else x.kept
      (s.setPort d { x with kept := kept, resend := kept.length
                            txSeq := if wide ∧ 0 < n then (seq + kept.length) % 65536 else x.txSeq }).bump (Reg.lanPortReplaysCount d)

/-- REPLAY_TIMEOUT. -/
def execReplayTimeout (port : Nat) (s : State) : Host.Outcome State Fault Refusal :=
  s.does fun s => if port < 16 ∧ s.flag (Reg.lanPortStatusLink port) then s.goBack port else s

/-- Active lanes of a port, ascending. -/
def State.activeLanes (s : State) (d : Nat) : List Nat :=
  (lanesOf d).filter fun n => bit (s.fld (Reg.lanPortStatusActiveMask d)) (n - firstLane d)

/-- What a lane of rank r of W sends of a port frame (R235, R236, R240): the tail's first 12 bytes and the slots under the port's
key. -/
def Port.laneFrame (x : Port) (d n r w seq flagBits : Nat) (flits : List (List Byte)) : LaneFrame :=
  let pos := n - firstLane d
  let slots := (List.range 64).flatMap fun i => slice (flits.getD (i * w + r) []) 0 32
  let aad := natLe 2 seq ++ natLe 2 ((x.rxSeq + 65535) % 65536) ++ natLe 1 flagBits ++ natLe 1 (pos + 16 * (x.report.headD 15))
    ++ natLe 1 ((flits.length + w - 1 - r) / w) ++ natLe 1 w ++ natLe 4 (x.txc % 2 ^ 32)
  sealLane x.keys.1 x.txc d pos n aad slots

/-- FLAGS of a tail (R235). -/
def Port.tailFlags (x : Port) (empty idle replay : Bool) : Nat :=
  b2n x.heard + 2 * b2n x.nak + 4 * b2n empty + 8 * b2n idle + 16 * b2n replay

/-- The port frame of a period (R236, R246): the active lanes carry it, the STANDBY lanes markers and pad. -/
def State.portFrame (s : State) (d seq : Nat) (empty idle replay : Bool) (flits : List (List Byte)) : Frame :=
  let x := s.port d
  let act := s.activeLanes d
  let rest := (s.goodLanes d).filter fun n => ! act.contains n
  ⟨(act.zipIdx.map fun l => x.laneFrame d l.1 l.2 act.length seq (x.tailFlags empty idle replay) flits)
    ++ rest.map fun n => { lane := n, marker := some (markerOf d (n - firstLane d) x.txc) }⟩

/-- A port after a period: its frame counter is one up, NAK is sent, the next dropped lane is reported. -/
def Port.sent (x : Port) : Port := { x with txc := x.txc + 1, nak := false, report := x.report.drop 1 ++ x.report.take 1 }

/-- FRAME_PERIOD: a lane set that has changed applies; then a kept frame again, a new frame, or an EMPTY one. -/
def State.framePeriod (d : Nat) (s : State) : State :=
  if 16 ≤ d ∨ ¬ s.flag (Reg.lanPortStatusLink d) then s
  else
    let s := if (s.port d).change then (s.setPort d { s.port d with change := false }).setWidth d else s
    if s.flag (Reg.lanPortStatusIdleTx d) then s
    else
      let x := s.port d
      if 0 < x.resend then
        let k := x.kept.getD (x.kept.length - x.resend) (0, [])
        let again := if x.resend = x.kept.length then x.replays + 1 else x.replays
        ((s.setPort d { x.sent with resend := x.resend - 1, replays := again }).addPair (Reg.lanPortFramesLoOff d) 1).send
          (.frame d (s.portFrame d k.1 false false true k.2))
      else if x.out ≠ [] ∧ x.kept.length < 64 then
        let flits := x.out.take (64 * s.fld (Reg.lanPortStatusWidth d))
        ((s.setPort d { x.sent with kept := x.kept ++ [(x.txSeq, flits)], txSeq := (x.txSeq + 1) % 65536
                                    out := x.out.drop flits.length }).addPair (Reg.lanPortFramesLoOff d) 1).send
          (.frame d (s.portFrame d x.txSeq false false false flits))
      else (s.setPort d x.sent).send (.frame d (s.portFrame d x.txSeq true false false []))

/-- FRAME_PERIOD. -/
def execFramePeriod (port : Nat) (s : State) : Host.Outcome State Fault Refusal := s.does (State.framePeriod port)

/-- Count what a lane brings (R241, R254): of the active lanes CRC and tag. -/
def State.countLane (s : State) (d : Nat) (f : LaneFrame) : State :=
  let s := (s.add (Reg.lanLaneFecCorrCount f.lane) f.corrected).add (Reg.lanLaneFecUncorrCount f.lane) f.uncorrectable
  let s := s.add (Reg.lanLaneStuffErrCount f.lane) f.stuff
  let x := s.port d
  if f.bytes = [] then s
  else if ¬ f.crcOk then s.bump (Reg.lanLaneCrcErrCount f.lane)
  else if ¬ f.tagOk x.keys.2 x.rxc then
    (s.setPort d { x with tagFails := x.tagFails ++ [s.clk] }).bump (Reg.lanPortAuthFailCount d)
  else s

/-- Clocks of the tag failures of the last second. -/
def State.recentTags (s : State) (d : Nat) : List Nat := (s.port d).tagFails.filter fun c => s.clk < c + 235000000

/-- A flit of an arriving packet (R258, R262): a header that fails, and what follows it up to one that passes, is discarded. -/
def State.takeFlit (d : Nat) (s : State) (f : List Byte) : State :=
  let x := s.port d
  match x.rx with
  | [] =>
    let p := packetOf f []
    (match p.headerError with
      | 0 => (s.setPort d { x with rx := [f] }).headerFound d
      | c => s.headerError d c 1 p)
  | h :: fs =>
    if fs.length + 2 < (packetOf h []).cells then s.setPort d { x with rx := x.rx ++ [f] }
    else (s.setPort d { x with rx := [] }).ingress d (packetOf h (fs ++ [f]))

/-- The far end names a bad lane: it is taken out, and the new set applies from the next period (R247). -/
def State.frameLane (d position : Nat) (s : State) : State :=
  if position < laneCount d ∧ s.laneGood (firstLane d + position) then (s.takeOut (firstLane d + position)).laneChange d else s

/-- What the tail of an accepted frame says (R238, R247, R250): acknowledgement, request for replay, a lane that is out, idle to
come. -/
def State.frameTail (d : Nat) (f : LaneFrame) (s : State) : State :=
  let fl := f.tail 4 1
  let s := if bit fl 0 then s.takeAck d (f.tail 2 2) else s
  let s := if bit fl 1 then s.goBack d else s
  let s := s.frameLane d (f.tail 5 1 / 16)
  if bit fl 3 then
    (s.setFlag (Reg.lanPortStatusIdleRx d) true).each (s.goodLanes d) fun t n => (t.endScan n).setFld (Reg.lanLaneStatusState n) 6
  else s

/-- Did the far end send this frame by the lane set that this end uses (R247)? -/
def State.sameSet (s : State) (d : Nat) (ls : List LaneFrame) : Bool :=
  ! (s.port d).change && (ls.map (·.lane)).all ((s.activeLanes d).contains) && ls.length == (s.activeLanes d).length

/-- Take a whole frame that is next in order: its tail, then its flits (R238); otherwise ask for it once, and discard what comes
until it does (log entry 31, DEDUCED). -/
def State.acceptFrame (d : Nat) (ls : List LaneFrame) (whole : Bool) (s : State) : State :=
  let x := s.port d
  match ls with
  | f :: _ =>
    if whole ∧ f.tail 0 2 = x.rxSeq then
      let empty := bit (f.tail 4 1) 2
      let flits := frameFlits ls x.keys.2 x.rxc
      let s := s.setPort d { x with gap := false, heard := x.heard || ! empty, report := if s.sameSet d ls then [] else x.report
                                    rxSeq := if empty then x.rxSeq else (x.rxSeq + 1) % 65536 }
      (if empty then s else s.each flits (State.takeFlit d)).frameTail d f
    else if x.gap then s else s.setPort d { x with nak := true, gap := true }
  | [] => if x.gap then s else s.setPort d { x with nak := true, gap := true }

/-- A port frame has arrived (R236, R238, R245, R247, R249, R250). -/
def State.takeFrame (d : Nat) (f : Frame) (s : State) : State :=
  if 16 ≤ d ∨ ¬ s.flag (Reg.lanPortStatusLink d) ∨ s.flag (Reg.lanPortStatusIdleRx d) then s
  else
    let lanes := f.lanes.filter fun l => portOfLane l.lane == d && l.lane < 112
    let ls := lanes.filter fun l => l.bytes != []
    let x := s.port d
    let whole := ls.all fun l => l.passes x.keys.2 x.rxc && l.tail 7 1 == ls.length
    let s := s.each lanes fun t l => t.countLane d l
    let s := State.acceptFrame d ls whole s
    let s := s.setPort d { s.port d with tagFails := s.recentTags d, rxc := (s.port d).rxc + 1 }
    let s := s.dropLanes d ((lanes.filter fun l => ! l.marked).map fun l => (l.lane, 1))
    if 8 ≤ (s.port d).tagFails.length then s.linkLost d 3 else s

/-- PORT_FRAME. -/
def execPortFrame (port : Nat) (f : Frame) (s : State) : Host.Outcome State Fault Refusal := s.does (State.takeFrame port f)

/-! ### Electrical idle (R250) -/

/-- Does a loopback or an eye scan run on a port? -/
def State.busyLanes (s : State) (d : Nat) : Bool := (lanesOf d).any fun n => s.laneState n == 5 || (s.scanOn n).isSome

/-- IDLE_ENTRY: idle announced in the last frame. -/
def State.idleEntry (d : Nat) (s : State) : State :=
  let x := s.port d
  if d < 16 ∧ s.portUp d ∧ s.flag (Reg.lanPortCtrlIdleEn d) ∧ ¬ s.flag (Reg.lanPortStatusIdleTx d) ∧ x.flight.isEmpty ∧ x.kept.isEmpty
      ∧ (s.queue d).isEmpty ∧ ¬ x.change ∧ ¬ s.busyLanes d then
    ((s.setPort d x.sent).setFlag (Reg.lanPortStatusIdleTx d) true).send (.frame d (s.portFrame d x.txSeq true true false []))
  else s

/-- IDLE_ENTRY. -/
def execIdleEntry (port : Nat) (s : State) : Host.Outcome State Fault Refusal := s.does (State.idleEntry port)

/-- IDLE_EXIT: a training burst on every lane. -/
def execIdleExit (port : Nat) (s : State) : Host.Outcome State Fault Refusal :=
  s.does fun s =>
    if port < 16 ∧ s.flag (Reg.lanPortStatusIdleTx port) then (s.setFlag (Reg.lanPortStatusIdleTx port) false).send (.burst port) else s

/-- TRAINING_BURST: receive idle ends, the lanes relock. -/
def execTrainingBurst (port : Nat) (s : State) : Host.Outcome State Fault Refusal :=
  s.does fun s =>
    if port < 16 ∧ s.flag (Reg.lanPortStatusIdleRx port) then (s.setFlag (Reg.lanPortStatusIdleRx port) false).setWidth port else s

/-- IDLE_LOCK_TIMEOUT: lanes not locked are dropped. -/
def execIdleLockTimeout (port unlocked : Nat) (s : State) : Host.Outcome State Fault Refusal :=
  s.does fun s =>
    if port < 16 then
      s.dropLanes port (((lanesOf port).filter fun n => bit unlocked (n - firstLane port)).map fun n => (n, 6))
    else s

/-! ### Eye scans (R251, R256) -/

/-- Flue die of a lane. -/
def dieOfLane (n : Nat) : Nat := dieOfDim (portOfLane n)

/-- A write of LAN_EYE_f_CTRL. -/
def State.doEyeCtrl (f value : Nat) (s : State) : State × Status :=
  let n := bits value 22 16
  let dwell := bits value 4 0
  let running := s.fld (Reg.lanEyeStatusState f) == 1
  let s := ((s.setFld (Reg.lanEyeCtrlLane f) n).setFld (Reg.lanEyeCtrlEye f) (bits value 13 12)).setFld (Reg.lanEyeCtrlDwell f) dwell
  if bit value 30 then (s.abortScan f, .ok)
  else if ¬ bit value 31 then (s, .ok)
  else if running then (s, .state)
  else if 112 ≤ n ∨ dieOfLane n ≠ f ∨ dwell < 10 ∨ 30 < dwell ∨ ¬ (s.laneState n = 2 ∨ s.laneState n = 3) then
    (s.setFld (Reg.lanEyeStatusState f) 4, .state)
  else
    let s := { s with eyes := tput s.eyes f ⟨n, bits value 13 12, dwell, s.clk⟩ }
    ((s.setFld (Reg.lanEyeStatusState f) 1).setFld (Reg.lanEyeStatusPoints f) 0, .ok)

/-- An eye-scan write from outside. -/
def State.eyeWrite (s : State) (r : Requester) (f value : Nat) : State :=
  if f < 2 then s.access r (Reg.lanEyeCtrlOff f) value .write (gate (s.isInst r) (State.doEyeCtrl f value)) else s

/-- EYE_SCAN_START: `value` is the CTRL word; START is set. -/
def execEyeScanStart (r : Requester) (die value : Nat) (s : State) : Host.Outcome State Fault Refusal :=
  s.granted fun s => s.eyeWrite r die (value % 2 ^ 30 + 2 ^ 31)

/-- EYE_SCAN_ABORT. -/
def execEyeScanAbort (r : Requester) (die : Nat) (s : State) : Host.Outcome State Fault Refusal :=
  s.granted fun s => s.eyeWrite r die ((s.reg (Reg.lanEyeCtrlOff die)).toNat % 2 ^ 30 + 2 ^ 30)

/-- Is a point open (R251)? -/
def openPoint (dwell errors : Nat) : Bool := decide (errors * 2 ^ 20 ≤ 2 ^ dwell)

/-- Length of the run of open points that contains index 32; 0 when it is closed. -/
def openRun (f : Nat → Bool) : Nat :=
  if f 32 then
    let up := ((List.range 32).map (32 + ·)).takeWhile f
    let down := ((List.range 32).map (31 - ·)).takeWhile f
    up.length + down.length
  else 0

/-- Clear the registers from one offset to another. -/
def State.clearRange (s : State) (lo hi : Nat) : State := { s with regs := s.regs.filter fun x => x.1 < lo || hi ≤ x.1 }

/-- EYE_SCAN_DONE: `errors` lists the points with disagreements. -/
def State.scanDone (f : Nat) (errors : List (Nat × Nat)) (s : State) : State :=
  match tfind s.eyes f with
  | none => s
  | some ⟨n, eye, dwell, _⟩ =>
    let s := { s with eyes := tdel s.eyes f }
    let err := fun i => match errors.find? fun e => e.1 == i with | some e => min e.2 (2 ^ 32 - 1) | none => 0
    let w := openRun fun x => openPoint dwell (err (32 * 64 + x))
    let h := openRun fun y => openPoint dwell (err (64 * y + 32))
    let s := s.clearRange (Reg.lanEyePointOff f 0) (Reg.lanEyePointOff f 0 + 16384)
    let s := s.each (errors.filter fun e => e.1 < 4096) fun t e => t.setFld (Reg.lanEyePointErrors f e.1) (err e.1)
    let s := (s.setFld (Reg.lanEyeStatusState f) 2).setFld (Reg.lanEyeStatusPoints f) 4096
    let s := ((s.setFlag (Reg.lanLaneEyeValid n) true).setFld (Reg.lanLaneEyeEye n) eye).setFld (Reg.lanLaneEyeWidth n) w
    (s.setFld (Reg.lanLaneEyeHeight n) h).ev 0x060F f n eye (w * 256 + h)

/-- EYE_SCAN_DONE. -/
def execEyeScanDone (die : Nat) (errors : List (Nat × Nat)) (s : State) : Host.Outcome State Fault Refusal :=
  s.does (State.scanDone die errors)

end Sys2Proof.Machine
end

