-- ==== Sys2Proof/Machine/PowerOps.lean ====
section
/-! DEFINITION. Power and cooling (R497 to R521; log entry 33, DESIGN CHOICE): duty, brakes, halts, caps, shutdown. -/

namespace Sys2Proof.Machine

/-- Change the power controls. -/
def State.setPower (s : State) (f : Power → Power) : State := { s with power := f s.power }

/-! ### Duty (R497 to R499) -/

/-- Duty ceiling of an operating point (R498). -/
def pointDuty (n : Nat) : Nat := 64 - 8 * n

/-- Ceiling of the operating point: during a slew the lower of the two points' (R498). -/
def State.pointCeiling (s : State) : Nat :=
  match s.power.slew with
  | some m => min (pointDuty m) (pointDuty (s.fld Reg.pwrStatusPoint))
  | none => pointDuty (s.fld Reg.pwrStatusPoint)

/-- Thermal and brake ceilings of a die. -/
def Power.thermalOf (p : Power) (k : Nat) : Nat := p.thermal.getD k 64
def Power.brakeOf (p : Power) (k : Nat) : Nat := p.brake.getD k 64

/-- The ceiling that governs a kiln die, before the limit on rises (R497); 0 in a compute halt (R503). -/
def State.ceiling (s : State) (k : Nat) : Nat :=
  if s.haltedNow then 0
  else min (min s.pointCeiling s.power.capDuty) (min (s.power.thermalOf k) (s.power.brakeOf k))

/-- Duty steps that R499 allows since the time base of the ceilings: 4 per ms. -/
def State.riseSteps (s : State) : Nat := (s.clk - s.power.riseAt) / 58750

/-- Bring a die's PWR_KILN register to its duty and to what governs it. -/
def State.setKiln (s : State) (k d : Nat) : State :=
  let c := s.ceiling k
  let low := fun x => x == c && decide (x < 64)
  let s := s.setFld (Reg.pwrKilnDuty k) d
  (((s.setFlag (Reg.pwrKilnThermal k) (low (s.power.thermalOf k))).setFlag (Reg.pwrKilnBrake k) (low (s.power.brakeOf k))).setFlag
    (Reg.pwrKilnPoint k) (low s.pointCeiling)).setFlag (Reg.pwrKilnCap k) (low s.power.capDuty)

/-- Count the time with DUTY below 64 (R520). -/
def State.countThrottle (s : State) : State :=
  let n := if s.fld Reg.pwrStatusDuty < 64 then s.power.throttled + (s.clk - s.power.syncAt) else s.power.throttled
  (s.setPower fun p => { p with throttled := n, syncAt := s.clk }).setFld Reg.pwrThrottleMsMs (min (n / 235000) (2 ^ 32 - 1))

/-- Bring the duty of every die in line with its ceilings: a fall at once, a rise under R499. -/
def State.dutySync (s : State) : State :=
  let s := s.countThrottle
  let n := s.riseSteps
  let next := fun k => let cur := s.fld (Reg.pwrKilnDuty k); let c := s.ceiling k; if c ≤ cur then c else min c (cur + n)
  let rising := (List.range 4).any fun k => s.fld (Reg.pwrKilnDuty k) < s.ceiling k
  let ds := (List.range 4).map next
  let s := s.setPower fun p => { p with riseAt := if rising then p.riseAt + n * 58750 else s.clk }
  let s := s.each (List.range 4) fun t k => t.setKiln k (ds.getD k 0)
  s.setFld Reg.pwrStatusDuty (ds.foldl min 64)

/-! ### Caps (R505 to R510) -/

/-- The cap writes of the last 10 ms (R508). -/
def stormWindow (now : Nat) (ws : List (Nat × Nat)) : List (Nat × Nat) := ws.filter fun x => now < x.1 + 2350000

/-- The rack cap: during a storm the lowest value written in the last 10 ms (R508). -/
def State.rackNow (s : State) : Nat :=
  if s.flag Reg.pwrStatusStorm then
    match (stormWindow s.clk s.power.writes).map (·.2) with
    | w :: ws => ws.foldl min w
    | [] => s.power.rackLast
  else s.power.rackCap

/-- The lowest cap in force and its source code, before the floor (R505). -/
def State.lowestCap (s : State) : Nat × Nat :=
  let cs := [(s.rackNow, 1), (s.fld Reg.pwrOpCapWWatts, 2), (s.power.flowCap, 3)]
    ++ (if s.flag Reg.pwrStatusOrphan then [(min s.power.rackLast 1950, 4)] else []) ++ [(2600, 5)]
  cs.foldl (fun a b => if b.1 < a.1 then b else a) (s.rackNow, 1)

/-- Is any context active (R6)? -/
def State.anyActive (s : State) : Bool := s.ctxs.any fun c => s.ctxActive c.1

/-- Bring the effective cap in line with its sources (R505, R510): events 0x0C05 and 0x0C07. -/
def State.capSync (s : State) : State :=
  let (w, src) := s.lowestCap
  let atFloor := w < 700 && s.anyActive
  let old := s.fld Reg.pwrEffectiveCapWatts
  let (v, vs) := if atFloor then (700, 6) else (w, src)
  let was := s.flag Reg.pwrStatusAtFloor
  let s := ((s.setFld Reg.pwrEffectiveCapWatts v).setFld Reg.pwrEffectiveCapSource vs).setFlag Reg.pwrStatusAtFloor atFloor
  let s := if old = v then s else s.ev 0x0C05 7 v vs old
  if atFloor && ! was then s.ev 0x0C07 7 w src 700 else s

/-- Put limits in force (R509): the operator cap moves to the nearer limit. -/
def State.setLimits (s : State) (maxW minW : Nat) : State :=
  let s := (s.setFld Reg.pwrLimitsOpMaxW maxW).setFld Reg.pwrLimitsOpMinW minW
  (s.setFld Reg.pwrOpCapWWatts (min maxW (max minW (s.fld Reg.pwrOpCapWWatts)))).capSync

/-! ### Operating point (R498) -/

/-- Take the kiln dies to a point: the supply slews, event 0x0C10. -/
def State.setPoint (s : State) (n : Nat) : State :=
  let old := s.fld Reg.pwrStatusPoint
  if old = n then s
  else
    let s := (s.setFld Reg.pwrStatusPoint n).setPower fun p => { p with slew := some (max old (p.slew.getD old)) }
    s.ev 0x0C10 7 old n (s.fld Reg.pwrEffectiveCapWatts)

/-! ### Brake (R501) -/

/-- A brake cause: bit 0 the comparator, bit 1 BRAKE_N.  The first halves every ceiling in force; others only join. -/
def State.brakeBy (s : State) (cause : Nat) : State :=
  let s := s.setPower fun p => { p with brakeCause := Nat.lor p.brakeCause cause }
  if s.flag Reg.pwrStatusBrake then s
  else
    let half := (List.range 4).map fun k => max 4 (s.fld (Reg.pwrKilnDuty k) / 2)
    let s := ((s.setFlag Reg.pwrStatusBrake true).setPower fun p => { p with brake := half }).bump Reg.pwrBrakesCount
    (s.ev 0x0C01 7 1 s.power.brakeCause (s.fld Reg.pwrInputVolts)).dutySync

/-- The brake ends when the input has stood at or above 46.0 V for 1 ms and BRAKE_N is high. -/
def State.brakeOver (s : State) : State :=
  if s.flag Reg.pwrStatusBrake ∧ s.power.inputGood ∧ s.pins.brakeN then
    let cause := s.power.brakeCause
    let s := (s.setFlag Reg.pwrStatusBrake false).setPower fun p =>
      { p with brake := [64, 64, 64, 64], comparator := false, brakeCause := 0 }
    (s.ev 0x0C01 7 0 cause (s.fld Reg.pwrInputVolts)).dutySync
  else s

/-! ### Compute halt (R503, R504) -/

/-- Halt flag of a cause (R521): 1 undervoltage, 2 FLOW_LOSS_N, 3 flow below 30 %, 4 temperature. -/
def haltFld : Nat → Fld
  | 1 => Reg.pwrStatusHaltVoltage
  | 2 => Reg.pwrStatusHaltFlowLoss
  | 3 => Reg.pwrStatusHaltFlowLow
  | _ => Reg.pwrStatusHaltTemp

/-- A compute halt for a cause: the first begins the halt, others join it (R503, R519).  `src`, `v` and `who` are the source
and parameters 1 and 2 of event 0x0C02. -/
def State.halt (s : State) (cause src v who : Nat) : State :=
  if s.flag (haltFld cause) then s
  else
    let was := s.haltedNow
    let s := (s.setFlag (haltFld cause) true).setPower fun p =>
      { p with causes := if was then setBit p.causes (cause - 1) else 2 ^ (cause - 1), haltAt := if was then p.haltAt else s.clk
               haltPoint := if was then p.haltPoint else s.fld Reg.pwrStatusPoint }
    if was then s
    else
      let s := (s.setPoint 5).dutySync
      let s := (s.ev 0x0C02 src cause v who).alert Reg.pwrAlertHalted
      let s := s.each (s.groups.map (·.1)) fun t g => t.cutColl g .state .memberLost 2 t.myId 0
      if s.fld Reg.bnkStageStage = 0 then s else s.failBank .state .memberLost s.myId

/-- The halt ends (R504): event 0x0C03, and RECOVERY for at most 1 ms, its length a free value; the dies go back to their operating
point, and frozen firings go on at duty 4, their hang timers having paused (R129). -/
def State.haltOver (s : State) : State :=
  let d := s.clk - s.power.haltAt
  let s := { s with parts := s.parts.map fun (x : Nat × Sequencer) =>
    (x.1, match x.2.run with | some r => { x.2 with run := some { r with progress := r.progress + d } } | none => x.2) }
  let till := s.clk + 1 + Config.freeValue s.free % 235000
  let s := (s.fresh.ev 0x0C03 7 s.power.causes (d / 235000) 0).setPower fun p =>
    { p with causes := 0, haltBy := [], riseAt := s.clk, recoverUntil := till }
  let s := s.setPoint s.power.haltPoint
  let s := s.each (List.range 4) fun t k => t.setKiln k (min 4 (t.ceiling k))
  s.setFld Reg.pwrStatusDuty (((List.range 4).map fun k => s.fld (Reg.pwrKilnDuty k)).foldl min 64)

/-! ### Shutdown (R502) and OFF (R8) -/

/-- A due image may be under way into the active bank: step 3 is in progress (R479). -/
def State.copyingImage (s : State) : Bool := s.phase == .start && s.fld Reg.botStatusStep == 3 && s.nvm.due

/-- What the NVM holds when power goes: an active bank that the copy of R479 has begun to write is INVALID; whether it has is open
(log entry 36, DEDUCED). -/
def State.nvmLeft (s : State) : Nvm :=
  if s.copyingImage ∧ Config.freeValue s.free % 2 = 1 then { s.nvm with active := none } else s.nvm

/-- The state without power: what the NVM, the pins and the outside hold stays (log entry 12, DESIGN CHOICE). -/
def State.gone (s : State) : State :=
  { State.reset with
    phase := .off, pending := s.pending, wire := s.wire, free := s.free + 1, pins := s.pins, nvm := s.nvmLeft, audit := s.audit
    auditBad := s.auditBad
    sramResets := (State.storesLost s (List.range 684)).sramResets }

/-- Save the counters record with a shutdown word (R33, R502, R534). -/
def State.saveCounters (s : State) (shutdown : Nat) : State :=
  { s with nvm := s.nvm.put (.counters s.opTime (s.fld Reg.glbPowerCyclesCount) (s.fld Reg.botWarmResetsCount) shutdown) }

/-- A shutdown (R502): event 0x0C04, SHUTDOWN_IMMINENT; causes 3 and 4 save the counters with the cause; then OFF. -/
def State.shutdown (s : State) (cause src v : Nat) : State :=
  let s := (s.ev 0x0C04 src cause v 0).alert Reg.pwrAlertShutdownImminent
  let s := if cause = 3 ∨ cause = 4 then s.saveCounters (cause * 2 ^ 28 + src * 2 ^ 24 + v % 2 ^ 16) else s
  s.gone

end Sys2Proof.Machine
end

