-- ==== Sys2Proof/Machine/Sessions.lean ====
section
/-! DEFINITION. The host transport: handshake (R384 to R386, R459), acknowledgement and failover (R392 to R394), host ports
(R375, R393), and the end of a host command (R389). -/

namespace Sys2Proof.Machine

/-! ### Ports and networks (R374, R393) -/

/-- Network of a port: 0 A, 1 B; the management port counts as A. -/
def netOf (port : Nat) : Nat := if port < 8 then port / 4 else 0

/-- Is a host port's link up? -/
def State.hostUp (s : State) (port : Nat) : Bool := port == 8 || (port < 8 && s.flag (Reg.hstPortStatusLink port))

/-- The port of a network that serves session i: its own, or the next one up, in ascending order with wrap-around (R393). -/
def State.portFor (s : State) (net i : Nat) : Nat :=
  match ((List.range 4).map fun k => 4 * net + (i + k) % 4).find? s.hostUp with
  | some p => p
  | none => 4 * net + i % 4

/-- Count a datagram received on a port. -/
def State.countRx (s : State) (port : Nat) : State := if port < 8 then s.addPair (Reg.hstPortRxLoOff port) 1 else s

/-- Discard a datagram (R380, R381): its counter and event 0x0A05 with the cause. -/
def State.dropHost (s : State) (p : HostPkt) (cause : Nat) : State :=
  let f := match cause with
    | 1 => Reg.hstLengthDropsCount
    | 2 => Reg.hstFormatDropsCount
    | 3 => Reg.hstStaleDropsCount
    | _ => Reg.hstAuthFailCount
  (s.bump f).ev 0x0A05 (netOf p.port) p.srcPort cause p.length

/-! ### Handshake (R384 to R386, R459) -/

/-- Role code of HST_SESSION (R397). -/
def roleCode : Role → Nat
  | .operator => 0 | .installer => 1 | .maker => 2

/-- The identity hash of this module as a number of its bytes (R451). -/
def State.identity (s : State) : List Byte := (List.range 8).flatMap fun w => natLe 4 (s.fld (Reg.secIdentityHashHash w))

/-- The public key of an enrolled key's entry, as a number (R454). -/
def KeyEntry.key (e : KeyEntry) : Nat := leNat ((slice e.bytes 0x10 64).reverse)

/-- The body of record 0x08 with the writes that wait applied; none when it has no valid copy (R456, R458). -/
def State.keysNow (s : State) : Option (Tbl KeyEntry) :=
  s.nvmq.foldl (fun t d => match d with | .keys u _ => some u | _ => t) s.nvm.keys

/-- The enrolled keys. -/
def State.keyTable (s : State) : Tbl KeyEntry := s.keysNow.getD []

/-- May an entry's key serve this module (R454, R456)? -/
def State.forMe (s : State) (e : KeyEntry) : Bool := field e.bytes 0x50 32 = 0 || slice e.bytes 0x50 32 = s.identity

/-- The slot of the enrolled key that a HELLO is signed with (R458, R459); 0x3FF for the maker root's own leaf. -/
def State.helloKey (s : State) (h : Hello) : Option Nat :=
  if ¬ h.sigOk ∨ (h.role ≠ .operator ∧ h.job ≠ 0) then none
  else if s.keysNow.isNone then (if h.role = .maker ∧ h.rootSigned then some 0x3FF else none)
  else (s.keyTable.find? fun e => e.2.key == h.leaf && field e.2.bytes 0 1 == 3 - roleCode h.role && s.forMe e.2
      && (field e.2.bytes 4 4 == 0 || field e.2.bytes 4 4 == h.job)).map (·.1)

/-- Does a HELLO's source address agree with the address given for its network (R384)? -/
def addrOk (h : Hello) : Bool :=
  if h.pkt.port = 8 then h.source == h.addrA || h.source == h.addrB
  else h.source == (if netOf h.pkt.port = 0 then h.addrA else h.addrB)

/-- Is the module in a state that takes this HELLO (R385, R445, R446)? -/
def State.helloState (s : State) (h : Hello) : Bool :=
  ! s.flag Reg.secStatusMonitorMismatch && s.fld Reg.secStatusRngFault != 3
  && (match s.phase with
    | .up => true
    | .off => false
    | _ => h.pkt.port == 8 && h.role != .operator && 2 < s.fld Reg.botStatusStep)

/-- Free session entries. -/
def State.freeSessions (s : State) : List Nat := (List.range 4096).filter fun i => s.sessState i == 0

/-- The session to evict (R386). -/
def State.victim (s : State) : Option Nat :=
  match least (fun i => (s.sess i).last) ((List.range 4096).filter fun i => s.sessState i == 3) with
  | some i => some i
  | none => least (fun i => (s.sess i).last) ((List.range 4096).filter fun i =>
      s.sessState i == 2 && (s.sess i).last + 1000 ≤ s.opTime && (s.progressOf i).isEmpty && (s.sess i).unacked.isEmpty)

/-- Evict a session (R386): NOTICE EVICTED, event 0x0A03. -/
def State.evict (s : State) (i : Nat) : State :=
  let s := s.sendHostNow i 0x13 0 (natLe 8 1)
  let s := (s.bump Reg.hstEvictionsCount).ev 0x0A03 (s.sessDie i) (s.sessId i) (s.sessJob i) (s.opTime - (s.sess i).last)
  s.freeSess i

/-- Send a HELLO_REPLY. -/
def State.sendAnswer (s : State) (port : Nat) (a : HelloAnswer) : State := (s.countTx port).send (.helloReply port a)

/-- An answer that fails. -/
def State.failedAnswer (s : State) (nonce : Nat) (st : Status) : HelloAnswer :=
  ⟨nonce, 4096, st, 0, 0, 0, 0, Config.freeValue s.free % 2 ^ 512⟩

/-- Refuse a session in HANDSHAKE with ACCESS (R467). -/
def State.refuseHandshake (s : State) (i : Nat) : State :=
  (s.fresh).sendAnswer (s.fld (Reg.hstSessionStatePort i)) (s.failedAnswer (s.sess i).nonce .access)

/-- Answer a HELLO and keep the answer for its repetition (R384); on failure only status and signature follow. -/
def State.helloReply (s : State) (h : Hello) (st : Status) (i : Nat) : State :=
  let v := fun k bits => Config.freeValue (s.free + k) % 2 ^ bits
  let a : HelloAnswer := if st = .ok
    then ⟨h.nonce, i, st, s.sessId i, v 0 512, v 1 256, Config.sealValue 1 0, v 2 512⟩
    else s.failedAnswer h.nonce st
  let s := { s with free := s.free + 3 }
  { (s.sendAnswer h.pkt.port a) with nonces := s.nonces ++ [a] }

/-- Refuse a HELLO: event 0x0A07. -/
def State.refuseHello (s : State) (h : Hello) (st : Status) : State :=
  (s.ev 0x0A07 (netOf h.pkt.port) (stCode st) h.job (h.source % 2 ^ 32)).helloReply h st 4096

/-- Take a session entry in HANDSHAKE (R382): the epoch moves on by one. -/
def State.openEntry (s : State) (i key : Nat) (h : Hello) : State :=
  let port := if h.pkt.port = 8 then 8 else s.portFor (netOf h.pkt.port) i
  let epoch := (s.fld (Reg.hstSessionStateEpoch i) + 1) % 2 ^ 20
  let s := (s.setFld (Reg.hstSessionStateEpoch i) epoch).setFld (Reg.hstSessionStatePort i) port
  let s := (s.setFld (Reg.hstSessionStateNet i) (netOf h.pkt.port)).setFld (Reg.hstSessionStateRole i) (roleCode h.role)
  let s := (s.setFlag (Reg.hstSessionStatePaced i) (h.rate != 0)).setFld (Reg.hstSessionStateState i) 1
  let s := (s.setFld (Reg.hstSessionJobJob i) h.job).add Reg.hstStatusSessions 1
  let v := Config.freeValue s.free
  (s.fresh).setSess i { udp := h.udp, addrs := [h.addrA, h.addrB], nonce := h.nonce, key := key, rate := h.rate, last := s.opTime
                        keys := (v / 2 ^ 128 % 2 ^ 128, v % 2 ^ 128) }

/-- Sessions in HANDSHAKE. -/
def State.handshakes (s : State) : Nat := ((List.range 4096).filter fun i => s.sessState i == 1).length

/-- Take a new HELLO (R384 to R386). -/
def State.newHello (s : State) (h : Hello) : State :=
  if ¬ s.helloState h then s.refuseHello h .state
  else match (if addrOk h then s.helloKey h else none) with
    | none => s.refuseHello h .access
    | some key =>
      let s := if s.freeSessions.isEmpty then (match s.victim with | some i => s.evict i | none => s) else s
      if s.freeSessions.isEmpty then s.refuseHello h .length
      else
        let i := pick s.freeSessions (Config.freeValue s.free)
        ((s.fresh).openEntry i key h).helloReply h .ok i

/-- HELLO. -/
def State.doHello (h : Hello) (s : State) : State :=
  if ¬ s.hostUp h.pkt.port then s
  else
    let s := s.countRx h.pkt.port
    if h.pkt.bytes.length ≠ 32 + h.pkt.length ∨ 4096 < h.chain then s.dropHost h.pkt 1
    else if ¬ h.pkt.headOk 0x01 ∨ ¬ h.pkt.handshake ∨ h.pkt.session ≠ 0 ∨ 400 < h.rate then s.dropHost h.pkt 2
    else match s.nonces.find? fun (a : HelloAnswer) => a.nonce == h.nonce with
      | some a => s.sendAnswer h.pkt.port a
      | none => if 64 ≤ s.handshakes then s.dropHost h.pkt 2 else s.newHello h

/-- HELLO. -/
def execHello (h : Hello) (s : State) : Host.Outcome State Fault Refusal := s.does (State.doHello h)

/-- FINISH (R384): a session OPEN, or a refused handshake. -/
def State.doFinish (p : HostPkt) (ok : Bool) (s : State) : State :=
  let i := p.sess
  if ¬ s.hostUp p.port then s
  else
    let s := s.countRx p.port
    if p.bytes.length ≠ 32 + p.length then s.dropHost p 1
    else if ¬ p.headOk 0x03 ∨ ¬ p.handshake then s.dropHost p 2
    else if s.sessState i = 0 ∨ s.fld (Reg.hstSessionStateEpoch i) ≠ p.epoch then s.dropHost p 3
    else if s.sessState i ≠ 1 then s
    else if ok then
      (s.setFld (Reg.hstSessionStateState i) 2).ev 0x0A01 (s.sessDie i) (s.sessId i) (s.sessJob i) (s.sessRole i)
    else
      (s.ev 0x0A07 (s.sessDie i) (stCode .access) (s.sessJob i) ((s.sess i).addrs.getD (s.sessDie i) 0 % 2 ^ 32)).freeSess i

/-- FINISH. -/
def execFinish (p : HostPkt) (confirmOk : Bool) (s : State) : Host.Outcome State Fault Refusal :=
  s.does (State.doFinish p confirmOk)

/-- HANDSHAKE_TIMEOUT (R384). -/
def execHandshakeTimeout (sess : Nat) (s : State) : Host.Outcome State Fault Refusal :=
  s.does fun s => if sess < 4096 ∧ s.sessState sess = 1 then s.freeSess sess else s

/-! ### Receiving (R380 to R383, R392) -/

/-- Is a TXC in the replay window or below it (R383)? -/
def replayed (window : List Nat) (txc : Nat) : Bool :=
  window.contains txc || (window.length == 64 && window.all (txc < ·))

/-- The replay window with one more accepted value: the 64 highest. -/
def slide (window : List Nat) (txc : Nat) : List Nat :=
  let w := window ++ [txc]
  if w.length ≤ 64 then w else match least id w with | some m => w.erase m | none => w

/-- The cause for which a datagram of a session type is discarded (R380, R381, R383); 0 for none. -/
def State.hostCause (s : State) (p : HostPkt) (type limit : Nat) : Nat :=
  if p.bytes.length ≠ 48 + p.length ∨ limit < p.length then 1
  else if ¬ p.headOk type then 2
  else if s.sessState p.sess < 2 ∨ s.fld (Reg.hstSessionStateEpoch p.sess) ≠ p.epoch then 3
  else if ¬ p.authentic (s.sess p.sess).keys.1 ∨ replayed (s.sess p.sess).window p.txc then 4
  else 0

/-- Move a session to a network (R392, R393). -/
def State.toNet (s : State) (i net : Nat) : State :=
  ((s.setFld (Reg.hstSessionStateNet i) net).setFld (Reg.hstSessionStatePort i) (s.portFor net i)).pump i

/-- The current network follows a valid packet (R392, R394): a DISCONNECTED session reopens. -/
def State.follow (s : State) (i port : Nat) : State :=
  let s := if s.sessState i = 3 then s.setFld (Reg.hstSessionStateState i) 2 else s
  if port = 8 ∨ s.fld (Reg.hstSessionStatePort i) = 8 ∨ s.fld (Reg.hstSessionStateNet i) = netOf port then s
  else
    let x := s.sess i
    let s := (s.bump Reg.hstFailoversCount).ev 0x0A04 (netOf port) (s.sessId i) (netOf port) x.misses
    (s.toNet i (netOf port)).setSess i { x with misses := 0, failedOver := false }

/-- Retire the packets that an ACK covers (R392). -/
def State.retire (s : State) (i ack : Nat) : State :=
  let x := s.sess i
  let left := x.unacked.filter fun u => ! waitDone ack u.seq
  if left.length = x.unacked.length then s
  else s.setSess i { x with unacked := left, misses := 0, failedOver := false }

/-- Take a datagram of a session type (R380 to R383, R392): discarded, or valid; then `f` acts on it. -/
def State.receive (s : State) (p : HostPkt) (type limit : Nat) (f : State → State) : State :=
  if ¬ s.hostUp p.port then s
  else
    let s := s.countRx p.port
    match s.hostCause p type limit with
    | 0 =>
      let x := s.sess p.sess
      let s := s.setSess p.sess { x with window := slide x.window p.txc, last := s.opTime }
      let s := s.follow p.sess p.port
      f (if p.ackValid then s.retire p.sess p.ack else s)
    | c => s.dropHost p c

/-- Accept a packet that carries SEQ, in order (R392): acknowledged, then acted on; any other is answered by an ACK. -/
def State.inOrder (s : State) (p : HostPkt) (f : State → State) : State :=
  let x := s.sess p.sess
  if p.seq = x.rxSeq then f ((s.setSess p.sess { x with rxSeq := (x.rxSeq + 1) % 2 ^ 32 }).sendAck p.sess)
  else s.sendAck p.sess

/-- ACK. -/
def execAck (p : HostPkt) (s : State) : Host.Outcome State Fault Refusal := s.does fun s => s.receive p 0x12 0 id

/-- CLOSE (R394): CLOSING, NOTICE CLOSED. -/
def State.doClose (s : State) (i : Nat) : State :=
  ((s.setFld (Reg.hstSessionStateState i) 4).sendHostNow i 0x13 0 (natLe 8 2)).closeIfDone i

/-- CLOSE. -/
def execClose (p : HostPkt) (s : State) : Host.Outcome State Fault Refusal :=
  s.does fun s => s.receive p 0x14 0 fun s => s.inOrder p fun s => s.doClose p.sess

/-! ### Retransmission and failover (R392, R394) -/

/-- Resend every unacknowledged packet. -/
def State.resend (s : State) (i : Nat) : State :=
  s.each (s.sess i).unacked fun t u => (t.bump Reg.hstRetransmitsCount).sendHost i 0x11 u.seq u.body true

/-- A miss (R392, R394). -/
def State.miss (i : Nat) (s : State) : State :=
  let x := s.sess i
  if 4096 ≤ i ∨ x.unacked.isEmpty ∨ (s.sessState i ≠ 2 ∧ s.sessState i ≠ 4) then s
  else if x.misses < 2 then (s.setSess i { x with misses := x.misses + 1 }).resend i
  else if x.failedOver ∨ s.fld (Reg.hstSessionStatePort i) = 8 then
    if s.sessState i = 2 then
      (((s.setSess i { x with misses := 0, failedOver := false, queued := [] }).pump i).setFld (Reg.hstSessionStateState i) 3).ev 0x0A06 (s.sessDie i)
        (s.sessId i) (s.sessJob i) 0
    else s
  else
    let net := 1 - s.sessDie i
    let s := ((s.bump Reg.hstFailoversCount).ev 0x0A04 net (s.sessId i) net 3).toNet i net
    (s.setSess i { x with misses := 0, failedOver := true }).resend i

/-- RETRANSMIT_TIMEOUT. -/
def execRetransmitTimeout (sess : Nat) (s : State) : Host.Outcome State Fault Refusal := s.does (State.miss sess)

/-- DISCONNECTED_TIMEOUT (R394). -/
def execDisconnectedTimeout (sess : Nat) (s : State) : Host.Outcome State Fault Refusal :=
  s.does fun s =>
    if sess < 4096 ∧ s.sessState sess = 3 then
      (s.ev 0x0A02 (s.sessDie sess) (s.sessId sess) 2 (s.progressOf sess).length).freeSess sess
    else s

/-! ### Host ports (R375, R393) -/

/-- Set a host port's link. -/
def State.setLink (s : State) (port : Nat) (up : Bool) : State :=
  let f := Reg.hstStatusLinks
  let s := s.setFld f (if up then setBit (s.fld f) port else clrBit (s.fld f) port)
  ((s.setFlag (Reg.hstPortStatusLink port) up).setFlag (Reg.hstPortStatusFecLock port) up).setFlag (Reg.hstPortStatusTraining port) (! up)

/-- Sessions whose current port is down move to a port of their network that is up (R393). -/
def State.movePorts (s : State) : State :=
  s.each (s.sessions.map (·.1)) fun t i =>
    let port := t.fld (Reg.hstSessionStatePort i)
    if t.sessState i = 0 ∨ t.hostUp port then t
    else t.setFld (Reg.hstSessionStatePort i) (t.portFor (netOf port) i)

/-- HOST_PORT_DOWN: event 0x0A08. -/
def execHostPortDown (port : Nat) (s : State) : Host.Outcome State Fault Refusal :=
  s.does fun s =>
    if port < 8 ∧ s.hostUp port then ((s.setLink port false).ev 0x0A08 (netOf port) port 0 0).movePorts else s

/-- HOST_PORT_UP (R375, R376): without a valid host configuration record the ports stay down; event 0x0A09. -/
def execHostPortUp (port : Nat) (s : State) : Host.Outcome State Fault Refusal :=
  s.does fun s =>
    if port < 8 ∧ ¬ s.hostUp port ∧ s.flag Reg.hstStatusConfigured then
      ((s.setLink port true).ev 0x0A09 (netOf port) port 0 0).movePorts
    else s

/-- Kinds of Ethernet frame that the module answers (R375): 0 ARP, 1 ICMP echo, 2 neighbour discovery, 3 ICMPv6 echo; 4 stands for
PAUSE and PFC, 5 for every other frame. -/
def State.answersFrame (s : State) (port kind : Nat) : Bool :=
  if kind < 2 then s.fld (Reg.hstNetIpv4Addr (netOf port)) != 0 else kind < 4

/-- ETHERNET_FRAME (R375, R377): `uncorr` codewords before it were uncorrectable; PAUSE and PFC are discarded without a count. -/
def execEthernetFrame (port kind uncorr : Nat) (s : State) : Host.Outcome State Fault Refusal :=
  s.does fun s =>
    if 8 ≤ port ∨ ¬ s.hostUp port then s
    else
      let s := s.add (Reg.hstPortFecUncorrCount port) uncorr
      if s.answersFrame port kind then s.send (.ethernet port kind)
      else if kind = 4 then s
      else s.bump (Reg.hstPortOtherCount port)

/-! ### The end of a command (R389, R394) -/

/-- The reply of a command that has its result. -/
def State.commandDone (o : Origin) (s : State) : State :=
  match s.inProg.find? fun p => p.o = o ∧ p.result.isSome with
  | some ⟨_, op, some (st, fl, results, data)⟩ =>
    (({ s with inProg := s.inProg.filter fun p => ! (p.o == o && p.result.isSome) }).reply o op st fl results data).closeIfDone o.sess
  | _ => s

end Sys2Proof.Machine
end

