-- ==== Sys2Proof/Machine/Security.lean ====
section
/-! DEFINITION. Enrolment (R453 to R459), attestation (R450 to R452), the security monitors (R445, R446). -/

namespace Sys2Proof.Machine

/-! ### Device keys (R421, R447, R448) -/

/-- KDF(label, bits) of R447 for up to 256 bits: one block of the SM3-based KDF over the identity root and the ASCII label. -/
def deviceKey (root : Nat) (label : String) (bits : Nat) : Nat :=
  sm3 (natBe 32 root ++ label.toList.map (fun (c : Char) => BitVec.ofNat 8 c.toNat) ++ natBe 4 1) / 2 ^ (256 - bits)

/-- Order n of the SM2 curve. -/
def sm2Order : Nat := 0xFFFFFFFEFFFFFFFFFFFFFFFFFFFFFFFF7203DF6B21C6052B53BBF40939D54123

/-- The identity root from the two PUF responses, and the keys that it gives (R421, R447). -/
def State.deriveKeys (s : State) : State :=
  let root := sm3 (natBe 32 (Config.pufResponse 0) ++ natBe 32 (Config.pufResponse 1))
  { s with start := { s.start with root := root, identity := 1 + deviceKey root "CX94-IDENTITY" 256 % (sm2Order - 2)
                                   sealKey := deviceKey root "CX94-SEAL" 128, pairKey := deviceKey root "CX94-PAIR" 128 } }

/-- The identity certificate chain of record 0x02, at most 4,096 bytes; they are open (log entry 6, DESIGN CHOICE). -/
def idChain : List Byte := natLe (Config.sealValue 1 1 % 4097) (Config.sealValue 1 0)

/-! ### Enrolled keys (R453 to R457) -/

/-- Bring SEC_KEYS in line with the enrolled keys. -/
def State.keySync (s : State) : State :=
  let n := fun (lo hi : Nat) => (s.keyTable.filter fun e => lo ≤ e.1 && e.1 < hi).length
  ((s.setFld Reg.secKeysMaker (n 0 8)).setFld Reg.secKeysInstaller (n 8 72)).setFld Reg.secKeysOperator (n 72 840)

/-- Put a table of keys in force and write record 0x08 (R456). -/
def State.putKeys (s : State) (t : Tbl KeyEntry) : State :=
  ((s.nvmPut (.keys t s.nvm.floor)).keySync.setFlag Reg.secStatusNoEnrolment false).extendM7

/-- The entry in SEC_ENROL_BUF. -/
def State.enrolBuf (s : State) : List Byte := (List.range 64).flatMap fun w => natLe 4 (s.fld (Reg.secEnrolBufWord w))

/-- Check 1 of R456: fields in range, unused and reserved bytes 0, KEY_ID and SERIAL not 0. -/
def entryShape (b : List Byte) : Bool :=
  let role := field b 0 1
  1 ≤ role && role ≤ 3 && (if role = 1 then field b 1 1 < 8 else field b 1 1 == 0) && field b 2 2 == 0
    && (role == 3 || field b 4 4 == 0) && field b 8 8 != 0 && field b 0x70 8 != 0 && (slice b 0x80 64).all (· == 0)

/-- Slot of the enrolled key that may sign an entry of a role (R455); 0x3FF for the maker root. -/
def State.signerSlot (s : State) (role signer : Nat) : Option Nat :=
  let named := fun (want : Nat) (use : Bool) => (s.keyTable.find? fun e =>
    field e.2.bytes 8 8 == signer && field e.2.bytes 0 1 == want && (! use || bit (field e.2.bytes 1 1) 2)).map (·.1)
  match role with
  | 1 => if signer = 0 then some 0x3FF else none
  | 2 => named 1 true
  | _ => named 2 false

/-- Slots of a role (R453). -/
def slotsOf : Nat → List Nat
  | 1 => List.range 8
  | 2 => (List.range 64).map (8 + ·)
  | _ => (List.range 768).map (72 + ·)

/-- Write SEC_ENROL_RESULT; SLOT stays where no slot was written or freed. -/
def State.enrolResult (s : State) (slot : Option Nat) (check : Nat) (st : Status) : State :=
  let s := match slot with | some i => s.setFld Reg.secEnrolResultSlot i | none => s
  (s.setFld Reg.secEnrolResultCheck check).setFld Reg.secEnrolResultStatus (stCode st)

/-- Refuse an entry: event 0x0B04. -/
def State.refuseEntry (s : State) (check : Nat) (st : Status) (serial : Nat) : State × Status :=
  ((s.enrolResult none check st).ev 0x0B04 0 check (stCode st) serial, st)

/-- Is the module still in its start (R441, R467)? -/
def State.starting (s : State) : Bool := s.phase != .up

/-- ADD by a session of a role code (1 installer, 2 maker): the six checks of R456; `sigOk` is the verdict on the signature. -/
def State.doEnrolAdd (role : Nat) (sigOk : Bool) (s : State) : State × Status :=
  let b := s.enrolBuf
  let serial := field b 0x70 8
  let kind := field b 0 1
  if s.starting then (s.enrolResult none 0 .state, .state)
  else if ¬ entryShape b then s.refuseEntry 1 .shape serial
  else if (kind = 3 ∧ role ≠ 1) ∨ (kind ≠ 3 ∧ role ≠ 2) then s.refuseEntry 2 .access serial
  else
    match s.signerSlot kind (field b 0x78 8), sigOk with
    | some signer, true =>
      if ¬ s.forMe ⟨b, signer⟩ then s.refuseEntry 4 .access serial
      else if s.keyTable.any fun e => field e.2.bytes 0x70 8 == serial then (s.enrolResult none 0 .ok, .ok)
      else
        let free := (slotsOf kind).filter fun i => (tfind s.keyTable i).isNone
        if free.isEmpty then s.refuseEntry 6 .length serial
        else
          let i := pick free (Config.freeValue s.free)
          let s := (s.fresh.putKeys (tput s.keyTable i ⟨b, signer⟩)).ev 0x0B02 0 i kind serial
          (s.enrolResult (some i) 0 .ok, .ok)
    | _, _ => s.refuseEntry 3 .access serial

/-- Role code of the session that a requester is. -/
def State.roleOf (s : State) (r : Requester) : Nat := (s.mgmtRole r).getD 0

/-- ENROL_ADD. -/
def execEnrolAdd (r : Requester) (sigOk : Bool) (s : State) : Host.Outcome State Fault Refusal :=
  s.granted fun s => s.access r Reg.secEnrolCmdOff 0x90000000 (.enrol 0x201 (field s.enrolBuf 0x70 8))
    (gate (s.isInst r || s.isMaker r) (State.doEnrolAdd (s.roleOf r) sigOk))

/-- Close every session opened under a removed key (R457): NOTICE CLOSED, replies discarded; one in HANDSHAKE is refused
with ACCESS (R467). -/
def State.closeKey (s : State) (slot : Nat) : State × Nat :=
  let mine := (List.range 4096).filter fun i => s.sessState i != 0 && (s.sess i).key == slot
  (s.each mine fun t i =>
    if t.sessState i = 1 then
      (t.refuseHandshake i).freeSess i
    else (t.sendHostNow i 0x13 0 (natLe 8 2)).freeSess i, (mine.filter fun i => s.sessState i != 1).length)

/-- REMOVE by a session of a role code (R457). -/
def State.doEnrolRemove (role slot : Nat) (s : State) : State × Status :=
  if s.starting then (s.enrolResult none 0 .state, .state)
  else if 840 ≤ slot then (s.enrolResult none 0 .shape, .shape)
  else if (slot < 72 ∧ role ≠ 2) ∨ (72 ≤ slot ∧ role ≠ 1) then (s.enrolResult none 0 .access, .access)
  else
    match tfind s.keyTable slot with
    | none => (s.enrolResult (some slot) 0 .ok, .ok)
    | some e =>
      let (t, n) := (s.putKeys (tdel s.keyTable slot)).closeKey slot
      ((t.ev 0x0B03 0 slot n (field e.bytes 0x70 8)).enrolResult (some slot) 0 .ok, .ok)

/-- SERIAL of the entry in a slot. -/
def State.serialOf (s : State) (slot : Nat) : Nat :=
  match tfind s.keyTable slot with | some e => field e.bytes 0x70 8 | none => 0

/-- ENROL_REMOVE. -/
def execEnrolRemove (r : Requester) (slot : Nat) (s : State) : Host.Outcome State Fault Refusal :=
  s.granted fun s => s.access r Reg.secEnrolCmdOff (0xA0000000 + slot % 1024) (.enrol 0x202 (s.serialOf (slot % 1024)))
    (gate (s.isInst r || s.isMaker r) (State.doEnrolRemove (s.roleOf r) (slot % 1024)))

/-! ### Quotes (R451, R452) -/

/-- Manifest of the bank in use (R429, R451). -/
def State.manifest (s : State) : List Byte :=
  let image := if s.flag Reg.botStatusFallback then s.nvm.staging else s.nvm.active
  match image with | some i => tget i.pages [] 0 | none => []

/-- Bytes 0x000 to 0x18F of a quote. -/
def State.quoteBody (s : State) (nonce : Nat) : List Byte :=
  let flags := b2n (s.flag Reg.botStatusFallback) + 2 * b2n (! s.provisional) + 4 * b2n (s.flag Reg.lanTimeStatusValid)
    + 8 * b2n (s.flag Reg.secStatusAuditBroken)
  natLe 4 0x51544F51 ++ natLe 2 1 ++ natLe 2 s.myId ++ natLe 4 (s.reg Reg.glbPartIdOff).toNat
    ++ natLe 1 (s.fld Reg.glbArithLevelLevel) ++ natLe 1 (modCode s.modState) ++ natLe 1 (s.reg Reg.glbLicencesOff).toNat
    ++ natLe 1 flags ++ natLe 8 (s.opTime + s.fld Reg.glbPowerCyclesCount * 2 ^ 40)
    ++ natLe 8 (if s.flag Reg.lanTimeStatusValid then s.fabricTime else 0) ++ natLe 4 (field s.manifest 8 4)
    ++ natLe 4 (field s.manifest 0xC 4) ++ natLe 8 (s.pair Reg.secAuditCountLoOff) ++ natLe 32 nonce ++ s.auditHead
    ++ ((List.range 8).flatMap s.measured) ++ s.identity

/-- ATTEST: the quote, its signature open (log entry 6, DESIGN CHOICE), and the certificate chain of record 0x02. -/
def State.doAttest (o : Origin) (nonce : Nat) (s : State) : State :=
  if s.flag Reg.secStatusMonitorMismatch then s.finish o .state
  else
    let q := s.quoteBody nonce ++ natLe 64 (Config.freeValue s.free)
    let s := ((s.fresh).bump Reg.secQuotesCount).ev 0x0B0A 0 o.sess (nonce % 2 ^ 32) 0
    s.finish o .ok {} [] (q ++ idChain)

/-- ATTEST. -/
def execAttest (o : Origin) (nonce : Nat) (s : State) : Host.Outcome State Fault Refusal :=
  s.granted fun s => s.hostCmd o 0x70 (State.doAttest o nonce)

/-! ### Monitors and random sources (R445, R446) -/

/-- MONITOR_COMPARE: `item` is what differs, 0 for nothing: 1 measurements, 2 audit head, 3 key set. -/
def execMonitorCompare (item : Nat) (s : State) : Host.Outcome State Fault Refusal :=
  s.does fun s =>
    if 1 ≤ item ∧ item ≤ 3 then (s.setFlag Reg.secStatusMonitorMismatch true).ev 0x0B09 0 item 0 0 else s

/-- RANDOM_FAULT: the source of a monitor fails a test: 1 repetition count, 2 adaptive proportion. -/
def State.randomFault (m test : Nat) (s : State) : State :=
  let f := s.fld Reg.secStatusRngFault
  if 2 ≤ m ∨ test = 0 ∨ 2 < test ∨ bit f m then s
  else (s.setFld Reg.secStatusRngFault (setBit f m)).ev 0x0B05 m m test 0

/-- RANDOM_FAULT. -/
def execRandomFault (monitor test : Nat) (s : State) : Host.Outcome State Fault Refusal := s.does (State.randomFault monitor test)

/-- RNG_RETEST: both sources have failed at step 7 of the start; one that passes serves again (log entry 35, DEDUCED). -/
def State.retest (passA passB : Bool) (s : State) : State :=
  if s.phase = .test ∧ s.fld Reg.botStatusStep = 7 ∧ s.fld Reg.secStatusRngFault = 3 then
    s.setFld Reg.secStatusRngFault (b2n (! passA) + 2 * b2n (! passB))
  else s

/-- RNG_RETEST. -/
def execRngRetest (passA passB : Bool) (s : State) : Host.Outcome State Fault Refusal := s.does (State.retest passA passB)

end Sys2Proof.Machine
end

