-- ==== Sys2Proof/Machine/Units.lean ====
section
/-! DEFINITION. Control units (R366, R367, R399 to R419; log entry 32, DESIGN CHOICE): embers, the token and its leases, the journal,
switchovers, failed units and their return, planned swaps, the trace clock. -/

namespace Sys2Proof.Machine

/-! ### Unit states (R406) -/

/-- Time since a unit's last ember [µs], saturating (R372). -/
def State.emberAge (s : State) (u : Nat) : Nat := min ((s.clk - (s.cu u).emberAt) / 235) 65535

/-- A unit's ember runs: its watchdog's 1 ms has not passed (R366). -/
def State.emberRuns (s : State) (u : Nat) : Bool := s.clk - (s.cu u).emberAt < 235000

/-- A unit that can take the token: STANDBY or PROBATION with a running ember (R367, R405, R417). -/
def State.canTake (s : State) (u : Nat) : Bool := (s.unitState u == 2 || s.unitState u == 5) && s.emberRuns u

/-! ### Switchover (R410, R411) -/

/-- A switchover begins for a cause (R410, R411): both token cells name neither unit, the sequencers are held, and until it ends every
latch holds.  A cause that arises while one is under way joins it, the lowest code counting (R410, R417).  Its duration is
open, at most 40 µs.  `failCause` is that of event 0x0102 for the outgoing unit. -/
def State.switchover (s : State) (u cause failCause : Nat) : State :=
  match s.ctl.hold with
  | some h => { s with ctl := { s.ctl with hold := some (if cause < h.cause then { h with cause := cause, failCause := failCause } else h) } }
  | none =>
    let ns := Config.freeValue s.free % 40001
    let s := (s.fresh.setFlag Reg.ctlStatusSwitching true).each (List.range 4) fun t p => t.setFlag (Reg.fsqPartStatusHeld p) true
    { s with ctl := { s.ctl with token := [none, none], hold := some ⟨u, cause, failCause, ns, s.clk⟩ } }

/-- A switchover ends without one (R412): the cells name the outgoing unit again, and no switchover is counted (log entry 32, DESIGN
CHOICE). -/
def State.returnToken (s : State) (u : Nat) : State :=
  let s := (s.released).giveToken u
  { s with ctl := { s.ctl with hold := none } }

/-- No control unit runs (R367, third row): every partition is fenced, and the ladder takes level 6 with cause 0x0C. -/
def State.noUnit (s : State) : State :=
  let s := (s.released).setFlag Reg.rstStatusNoControlUnit true
  let s := { s with ctl := { s.ctl with hold := none } }
  let mask := (s.partitions.map (2 ^ ·)).foldl (· + ·) 0
  if 6 ≤ s.fld Reg.rstCtrlMaxLevel then s.powerCycle { level := 6, target := 0, cause := 0x0C }
  else (s.climb 6 0 0x0C none mask).rstSync

/-! ### Embers and watchdogs (R366, R367) -/

/-- EMBER: only the named unit's firmware writes; a write that repeats the count is no ember. -/
def State.doEmber (u count : Nat) (s : State) : State × Status :=
  if s.fld (Reg.ctlUnitEmberCount u) = count % 2 ^ 16 then (s, .ok)
  else ((s.setFld (Reg.ctlUnitEmberCount u) count).setCu u { s.cu u with emberAt := s.clk }, .ok)

/-- EMBER. -/
def execEmber (r : Requester) (unit count : Nat) (s : State) : Host.Outcome State Fault Refusal :=
  s.granted fun s =>
    if unit < 2 then s.access r (Reg.ctlUnitEmberOff unit) (count % 2 ^ 16) .no (gate (r == .firmware unit) (State.doEmber unit count))
    else s

/-- A watchdog fires on the active unit or its standby: TRIPPED, event 0x0D05, and the row of R367.  When it is the incoming unit's,
during a switchover, the cells return to the outgoing unit if its ember runs (R412). -/
def State.watchdog (u : Nat) (s : State) : State :=
  let st := s.unitState u
  if 2 ≤ u ∨ s.flag Reg.rstStatusNoControlUnit ∨ ¬ (st = 1 ∨ st = 2 ∨ st = 5) then s
  else
    let back := match s.ctl.hold with
      | some h => h.unit == u && ! ([3, 5].contains h.cause || ! s.emberRuns (1 - u))
      | none => false
    let lost := match s.ctl.hold with
      | some h => h.unit == u && ! back
      | none => false
    let row := if lost then 3 else if st ≠ 1 then 2 else if s.canTake (1 - u) then 1 else 3
    let age := s.emberAge u
    let s := (s.setFlag (Reg.rstEmberTripped u) true).bump (Reg.rstEmberTrips u)
    let s := s.ev 0x0D05 s.unitSrc u age row
    match row with
    | 1 => s.switchover (1 - u) 3 1
    | 2 => if back then (s.returnToken (1 - u)).failUnit u 2 else s.failUnit u 2
    | _ => s.noUnit

/-- WATCHDOG_FIRE. -/
def execWatchdogFire (unit : Nat) (s : State) : Host.Outcome State Fault Refusal := s.does (State.watchdog unit)

/-! ### Leases (R404, R405) -/

/-- LEASE_RENEW: the active unit renews the lease in both cells; LEASE_LATE clears. -/
def State.leaseRenewed (s : State) : State :=
  if s.activeUnit.isNone then s
  else { s.setFlag Reg.ctlStatusLeaseLate false with ctl := { s.ctl with leases := [s.clk, s.clk] } }

/-- LEASE_RENEW. -/
def execLeaseRenew (s : State) : Host.Outcome State Fault Refusal := s.granted State.leaseRenewed

/-- LEASE_EXPIRY of a cell. -/
def State.leaseExpired (cell : Nat) (s : State) : State :=
  match s.activeUnit with
  | some u =>
    if 2 ≤ cell then s
    else if s.canTake (1 - u) then s.switchover (1 - u) 4 1
    else (s.setFlag Reg.ctlStatusLeaseLate true).ev 0x0106 u u (s.unitState (1 - u)) 0
  | none => s

/-- LEASE_EXPIRY; one that meets a switchover under way joins it (R417). -/
def execLeaseExpiry (cell : Nat) (s : State) : Host.Outcome State Fault Refusal :=
  if s.ctl.hold.isSome then s.does (State.leaseExpired cell) else s.granted (State.leaseExpired cell)

/-! ### The journal (R403) -/

/-- JOURNAL_RECORD: the standby applies and acknowledges a record; its check of the copy finds a mirror fault (R410, 0x07). -/
def State.journalApplied (mirrorFault : Bool) (s : State) : State :=
  match s.standby with
  | some u =>
    let s := s.sub Reg.ctlJournalDepth 1
    if mirrorFault ∧ s.activeUnit.isSome ∧ s.canTake u then s.switchover u 7 1 else s
  | none => s

/-- JOURNAL_RECORD. -/
def execJournalRecord (mirrorFault : Bool) (s : State) : Host.Outcome State Fault Refusal := s.does (State.journalApplied mirrorFault)

/-- JOURNAL_TIMEOUT: the standby did not acknowledge within 10 µs. -/
def execJournalTimeout (s : State) : Host.Outcome State Fault Refusal :=
  s.does fun s => match s.standby with
    | some u => s.failUnit u 5
    | none => s

/-! ### Failed units and their return (R400, R407, R408) -/

/-- FATAL_FAULT of a unit. -/
def State.fatal (u : Nat) (s : State) : State :=
  if 2 ≤ u then s
  else match s.unitState u with
    | 1 =>
      if s.canTake (1 - u) then s.switchover (1 - u) 5 4
      else
        let s := (s.ev 0x0D05 u u (s.emberAge u) 3).failUnit u 4
        { s with ctl := { s.ctl with token := [none, none] } }.noUnit
    | 2 => s.failUnit u 4
    | 4 => s.failUnit u 4
    | 5 => s.failUnit u 4
    | _ => s

/-- FATAL_FAULT; one that meets a switchover under way joins it (R410). -/
def execFatalFault (unit : Nat) (s : State) : Host.Outcome State Fault Refusal :=
  if s.ctl.hold.isSome then s.does (State.fatal unit) else s.granted (State.fatal unit)

/-- The active unit restarts a unit (R407): reloaded, TESTING. -/
def State.restartUnit (s : State) (u : Nat) : State :=
  (s.setFld (unitFld u) 4).setCu u { s.cu u with copying := false, swapped := false, emberAt := s.clk }

/-- UNIT_RESTART_TIMER. -/
def execUnitRestartTimer (unit : Nat) (s : State) : Host.Outcome State Fault Refusal :=
  s.granted fun s => if unit < 2 ∧ s.unitState unit = 3 ∧ s.activeUnit.isSome then s.restartUnit unit else s

/-- The result of a unit's self-test (R418). -/
def State.testResult (s : State) (u failing : Nat) : State :=
  ((s.setFlag (Reg.ctlUnitSelftestValid u) true).setFlag (Reg.ctlUnitSelftestPassed u) (failing == 0)).setFld
    (Reg.ctlUnitSelftestFailingTest u) failing

/-- SELF_TEST: a unit in TESTING passes on (to STANDBY after a swap, to the state copy after a restart) or fails. -/
def State.selfTested (u failing : Nat) (s : State) : State :=
  if 2 ≤ u ∨ s.unitState u ≠ 4 ∨ (s.cu u).copying then s
  else
    let s := (s.testResult u failing).ev 0x0103 u u (b2n (failing == 0)) (min failing 65535)
    if failing ≠ 0 then s.failUnit u 3
    else if (s.cu u).swapped then (s.setFld (unitFld u) 2).setCu u { s.cu u with swapped := false }
    else s.setCu u { s.cu u with copying := true }

/-- SELF_TEST. -/
def execSelfTest (unit failing : Nat) (s : State) : Host.Outcome State Fault Refusal := s.granted (State.selfTested unit failing)

/-- STATE_COPY_DONE. -/
def State.copied (u : Nat) (s : State) : State :=
  if u < 2 ∧ s.unitState u = 4 ∧ (s.cu u).copying then
    (s.setFld (unitFld u) 5).setCu u { s.cu u with copying := false, probation := s.clk }
  else s

/-- STATE_COPY_DONE. -/
def execStateCopyDone (unit : Nat) (s : State) : Host.Outcome State Fault Refusal := s.does (State.copied unit)

/-- PROBATION_END: `ms` is the time since the unit's failure.  A takes the token back when B got it by a failure (R408). -/
def State.probationOver (u ms : Nat) (s : State) : State :=
  if 2 ≤ u ∨ s.unitState u ≠ 5 then s
  else if u = 0 ∧ s.activeUnit = some 1 ∧ [3, 4, 5, 7].contains s.ctl.gained then s.switchover 0 2 1
  else ((s.setFld (unitFld u) 2).setFld (Reg.ctlUnitInfoProbationS u) 60).ev 0x0104 u u ms 0

/-- PROBATION_END. -/
def execProbationEnd (unit ms : Nat) (s : State) : Host.Outcome State Fault Refusal := s.granted (State.probationOver unit ms)

/-! ### Planned swaps (R409) -/

/-- One unit ACTIVE and the other STANDBY: the standby. -/
def State.swapPair (s : State) : Option Nat :=
  match s.activeUnit with
  | some u => if s.unitState (1 - u) = 2 then some (1 - u) else none
  | none => none

/-- SWAP_DUE. -/
def execSwapDue (s : State) : Host.Outcome State Fault Refusal :=
  s.granted fun s =>
    if s.flag Reg.ctlSwapEnable ∧ s.swapPair.isSome ∧ s.ctl.swapWait.isNone then
      { s with ctl := { s.ctl with swapWait := some s.clk } }
    else s

/-- A reset ladder action is in progress. -/
def State.ladderActive (s : State) : Bool :=
  ! s.resets.isEmpty || ! s.ladder.isEmpty || ! s.isolating.isEmpty || s.cycling

/-- A swap point: no sequencer BUSY and no ladder action, or the Commit stage of a bank firing. -/
def State.swapPoint (s : State) : Bool :=
  ! s.ladderActive && (((List.range 4).all fun p => ! s.flag (Reg.fsqPartStatusBusy p)) || s.fld Reg.bnkStageStage == 5)

/-- SWAP_POINT: the planned swap is made, at a swap point or, forced, in a control clock with no ladder action. -/
def State.plannedSwap (forced : Bool) (s : State) : State :=
  match s.ctl.swapWait, s.swapPair with
  | some t, some u =>
    if ¬ s.flag Reg.ctlSwapEnable then s
    else if forced then
      (if s.ladderActive then s else (s.ev 0x0107 s.unitSrc (max 600 ((s.clk - t) / 235000000)) 0 0).switchover u 1 1)
    else if s.swapPoint then s.switchover u 1 1
    else s
  | _, _ => s

/-- SWAP_POINT. -/
def execSwapPoint (forced : Bool) (s : State) : Host.Outcome State Fault Refusal := s.granted (State.plannedSwap forced)

/-- SWAP through CTL_CMD: at once, with cause 0x06, or 0x01 while a planned swap waits (R409, R417). -/
def State.doSwap (s : State) : State × Status :=
  match s.swapPair with
  | some u => (s.switchover u (if s.ctl.swapWait.isSome then 1 else 6) 1, .ok)
  | none => (s, .state)

/-- CTL_SWAP_COMMAND. -/
def execCtlSwapCommand (r : Requester) (s : State) : Host.Outcome State Fault Refusal :=
  s.granted fun s => s.access r Reg.ctlCmdOff (2 ^ 31 + 1) .write (gate (s.isInst r) State.doSwap)

/-- RESTART through CTL_CMD: a FAILED or RETIRED unit (R407, R418). -/
def State.doUnitRestart (u : Nat) (s : State) : State × Status :=
  if s.unitState u = 3 ∨ s.unitState u = 6 then (s.restartUnit u, .ok) else (s, .state)

/-- UNIT_RESTART. -/
def execUnitRestart (r : Requester) (unit : Nat) (s : State) : Host.Outcome State Fault Refusal :=
  s.granted fun s => s.access r Reg.ctlCmdOff (2 ^ 31 + unit % 2 * 16 + 2) .write (gate (s.isInst r) (State.doUnitRestart (unit % 2)))

/-! ### The trace clock (R416) -/

/-- A write of TRACE_EN; ignored while ALERT_N is asserted. -/
def State.doTrace (on : Bool) (s : State) : State × Status := (if s.alertN then s else s.setFlag Reg.ctlSvcTraceEn on, .ok)

/-- TRACE_EN_WRITE. -/
def execTraceEnWrite (r : Requester) (value : Bool) (s : State) : Host.Outcome State Fault Refusal :=
  s.granted fun s => s.access r Reg.ctlSvcOff (b2n value) .write (gate (s.isInst r) (State.doTrace value))

end Sys2Proof.Machine
end

