-- ==== Sys2Proof/Machine/StartOps.lean ====
section
/-! DEFINITION. The start and the warm reset (R420 to R443, R163, R164, R216, R217, R450, R466, R479 to R481; log entry 34, DESIGN CHOICE):
power-up, the nine steps, the maps. -/

namespace Sys2Proof.Machine

/-! ### Power-up (R31, R33, R427, R437) -/

/-- The counters of record 0x0A (R33): the operating time, this power cycle, the warm resets, the last shutdown. -/
def State.savedCounts (s : State) : State :=
  let n := s.nvm
  let t := (s.setPair Reg.glbOptimeMsLoOff n.optime).setFld Reg.glbPowerCyclesCount (min (n.cycles + 1) 0xFFFFFF)
  let t := (t.setFld Reg.botWarmResetsCount n.warm).setReg Reg.pwrLastShutdownOff (BitVec.ofNat 32 n.shutdown)
  { t with nvm := { n with shutdown := 0 } }

/-- BRAKE_N or FLOW_LOSS_N low at a start: R501 and R516 apply from START on (R537). -/
def State.lowPins (s : State) : State :=
  let s := s.when (! s.pins.brakeN) fun t => t.brakeBy 2
  s.when (! s.pins.flowLossN) fun t => t.halt 2 7 t.power.flow 0xFFFF

/-- The state at the beginning of a start: every register at its reset value, the saved counters, the sampled slot. -/
def State.powerUp (s : State) (slot : Nat) : State :=
  let t := { s.gone with phase := .start, pins := { s.pins with trayRstN := true, refGood := true, slotId := slot % 64 } }
  (t.setFld Reg.glbSlotSlotId slot).savedCounts.lowPins

/-- Registers that a warm reset keeps (R437): seam maps, channel roles, the parity area, region states and owners. -/
def keptAtWarm (off : Nat) : Bool :=
  off == Reg.memParityOff || (0x80100 ≤ off && off < 0x801C0) || (0x81000 ≤ off && off < 0x81C00)
    || (0x84000 ≤ off && off < 0x84000 + 8 * 1341)

/-- The kept registers of a table put into another. -/
def keepRegs (old new : Tbl Word) : Tbl Word :=
  old.foldl (fun m x => if keptAtWarm x.1 then tset m (regReset x.1) x.1 x.2 else m) new

/-- The warm reset itself (R436, R437). -/
def State.warmReset (s : State) : State :=
  let owned := ((List.range 1341).filter fun r => s.fld (Reg.memRegionStateState r) == 1).length
  let s := s.saveCounters 0
  let s := { s with nvm := { s.nvm with warm := min (s.nvm.warm + 1) (2 ^ 32 - 1) } }.ev 0x0E09 s.unitSrc owned 0 0
  let t := s.powerUp s.pins.slotId
  let t := { t with mem := s.mem, badGranules := s.badGranules, hashKey := s.hashKey, memKeys := s.memKeys, faint := s.faint, zeroing := s.zeroing
                    regs := keepRegs s.regs t.regs }
  let t := t.each ((List.range 768).filter fun c => s.fld (Reg.memChCe c) != 0 || s.fld (Reg.memChUe c) != 0) fun u c =>
    (u.setFld (Reg.memChCe c) 0).setFld (Reg.memChUe c) 0
  (t.setFlag Reg.botStatusWarm true).setFlag Reg.memStatusKeyed true

/-- A warm reset that was asked for runs once no sparing copy is in progress and the NVM write queue is empty (R436). -/
def State.tryWarm (s : State) : State :=
  if s.start.warmWait ∧ s.copies.isEmpty ∧ s.nvmq.isEmpty then s.warmReset else s

/-! ### Failure (R428) -/

/-- A step fails: the start ends. -/
def State.stepFail (s : State) (step st p2 : Nat) : State :=
  ((s.setFlag Reg.botStatusFailed true).setFld Reg.botStatusFailStatus st).ev 0x0E02 s.unitSrc step st p2

/-- A step fails and the spec names no status: a free value. -/
def State.stepFailOpen (s : State) (step p2 : Nat) : State := (s.fresh).stepFail step (Config.freeValue s.free % 256) p2

/-- Change the configuration NVM. -/
def State.setNvm (s : State) (f : Nvm → Nvm) : State := { s with nvm := f s.nvm }

/-- Add an ash entry in the start, counted for event 0x0E01. -/
def State.ashStart (s : State) (type cause die unit engine column : Nat) : State :=
  let t := s.ashAdd type cause die unit engine column
  if t.ash = s.ash then t else { t with start := { t.start with ashAdded := t.start.ashAdded + 1 } }

/-! ### Step 2: identity and records (R421, R424, R425, R458, R466) -/

/-- The registers of a licence slot (R442). -/
def State.licSlot (s : State) (i : Nat) (l : Option Licence) : State :=
  let b := match l with | some x => x.bytes | none => []
  let s := (s.setFlag (Reg.botLicSlotStateValid i) l.isSome).setFld (Reg.botLicSlotStateFunctions i) (field b 6 2)
  (s.setFld (Reg.botLicSlotSerialLoSerial i) (field b 8 4)).setFld (Reg.botLicSlotSerialHiSerial i) (field b 12 4)

/-- The audit registers from the kept entries, and a break of the chain (R466).  `broken` is the first unlinked SEQ. -/
def State.auditStart (s : State) (broken : Option Nat) : State :=
  let s := match s.audit.head?, s.audit.getLast? with
    | some a, some z => ((s.setPair Reg.secAuditAnchorLoOff (field a 0 8)).setPair Reg.secAuditCountLoOff (field z 0 8 + 1)).setHead z
    | _, _ => s
  match broken with
  | none => s
  | some seq =>
    let s := (s.setFlag Reg.secStatusAuditBroken true).ev 0x0B08 0 seq 0 0
    let s := match (s.audit.takeWhile fun e => field e 0 8 < seq).getLast? with | some e => s.setHead e | none => s
    let v := Config.freeValue s.free
    (s.fresh).auditCell 0x0203 v (v / 2 ^ 8) (v / 2 ^ 16) (v / 2 ^ 32) (natLe 8 (v / 2 ^ 48))

/-- Step 2. -/
def State.step2 (r : StepResult) (s : State) : State × Bool :=
  if ¬ r.ok then (s.stepFailOpen 2 0, false)
  else
    let s := r.badCopies.foldl (fun t c => t.ev 0x0E07 0 c.1 c.2.1 c.2.2) s
    match r.lost.find? fun t => t == 2 || t == 3 with
    | some t => (s.stepFailOpen 2 t, false)
    | none =>
      let s := s.setNvm fun n => r.lost.foldl Nvm.lose (r.badCopies.foldl (fun (n : Nvm) c => n.failCopy c.1 c.2.1) n)
      let s := if r.lost.contains 10 ∨ r.badCopies.any (·.1 == 10) then s.savedCounts else s
      let s := (s.setFlag Reg.botStatusIdentityOk true).setFlag Reg.secStatusIdentityOk true
      let s := s.deriveKeys
      let s := s.each (List.range 8) fun t w => t.setFld (Reg.secIdentityHashHash w) (Config.publicHash s.start.identity w)
      let s := { s with ash := s.nvm.ash.getD s.nvm.baseline }
      let s := (s.setFlag Reg.botStatusAshRebuilt s.nvm.ash.isNone).setFld Reg.botAshCountBaseline s.nvm.baseline.length
      let s := s.setFld Reg.botAshCountEntries s.ash.length
      let s := s.each (List.range 16) fun t i => t.licSlot i (tfind s.nvm.licences i)
      let s := (s.keySync.setFld Reg.secFloorVersion s.nvm.floor).setFlag Reg.secStatusNoEnrolment s.nvm.keys.isNone
      let s := if s.nvm.keys.isNone then s.ev 0x0B0B 0 0 0 0 else s
      let (hi, lo) := s.nvm.limits.getD (2600, 700)
      ((s.setLimits hi lo).auditStart r.auditBreak, true)

/-! ### Step 3: images (R429, R450, R479, R480) -/

/-- An image passes step 3: its own checks, and its security version at or above the floor (R429). -/
def State.imagePasses (s : State) (i : Option Image) (ok : Bool) : Bool :=
  ok && (i.isNone || s.nvm.floor ≤ field (manifestOf i) 0xC 4)

/-- The copy of a due staging image into the active bank (R479, R480). -/
def State.copyImage (r : StepResult) (s : State) : State :=
  let old := manifestOf s.nvm.active
  let new := manifestOf s.nvm.staging
  if s.imagePasses s.nvm.staging r.stagingOk then
    let s := s.setNvm fun n => { n with active := n.staging, due := false }
    let s := s.ev 0x0E24 s.unitSrc (field new 8 4) (field old 8 4) r.ms
    let s := if bit (field new 0x16 1) 0 then { s with start := { s.start with raise_ := some (field new 0xC 4) } } else s
    if field new 0x10 2 = field old 0x10 2 then s
    else
      let s := (s.setNvm fun n => [6, 7, 9, 11, 12].foldl Nvm.lose n).setLimits 2600 700
      s.ev 0x0E25 s.unitSrc (field old 0x10 2) (field new 0x10 2) 0
  else
    let v := Config.freeValue s.free
    (s.fresh.setNvm fun n => { n with due := false }).ev 0x0E21 s.unitSrc (field new 8 4) (v % 256) (v / 256)

/-- Extend M0 to M5 for the image in use (R450); digests of parts are those its manifest states. -/
def State.measureImage (s : State) (m : List Byte) : State :=
  let s := s.extend 1 (hashBytes (sm3 m))
  s.each [(0, 0), (2, 1), (3, 2), (4, 3), (5, 4)] fun t x => t.extend x.1 (slice m (0x40 + 64 * x.2 + 32) 32)

/-- The update registers from the bank directory. -/
def State.bankRegs (s : State) : State :=
  let s := (s.setFld Reg.botImgStatusStaging s.nvm.bank).setFlag Reg.botImgStatusDue s.nvm.due
  let s := s.setFld Reg.botActiveVersionVersion (field (manifestOf s.nvm.active) 8 4)
  s.setFld Reg.botStagedVersionVersion (if s.nvm.bank = 3 then field (manifestOf s.nvm.staging) 8 4 else 0)

/-- The image in use: measured; its arithmetic level is reported (R63).  In FALLBACK, where the staging image runs without
having been activated, that is the staging manifest's level (log entry 34, DESIGN CHOICE). -/
def State.runImage (s : State) (i : Option Image) : State :=
  let m := manifestOf i
  let s := if i.isSome then (s.measureImage m).setFld Reg.glbArithLevelLevel (field m 0x14 1)
    else (s.each (List.range 6) fun t j => (t.extend j t.openDigest).fresh)
  s.bankRegs

/-- Step 3. -/
def State.step3 (r : StepResult) (s : State) : State × Bool :=
  let s := if s.nvm.due then s.copyImage r else s
  if s.imagePasses s.nvm.active r.activeOk then (s.runImage s.nvm.active, true)
  else
    let v := Config.freeValue s.free % 256
    let s := s.fresh
    if s.nvm.bank = 3 ∧ s.imagePasses s.nvm.staging r.stagingOk then
      let s := (s.setFlag Reg.botStatusFallback true).ev 0x0E03 s.unitSrc 1 v (field (manifestOf s.nvm.staging) 8 4)
      (s.runImage s.nvm.staging, true)
    else
      let s := (s.bankRegs.setFlag Reg.botStatusRescue true).ev 0x0E03 s.unitSrc 0xFF v 0
      (s.stepFail 3 (stCode .access) 0, false)

/-! ### Step 4: licences (R32, R440) -/

/-- Check 1 of R439. -/
def licenceShape (b : List Byte) : Bool :=
  field b 0 4 == 0x4C494345 && field b 4 2 == 1 && field b 6 2 < 16 && field b 0x38 8 == 0 && field b 8 8 != 0

/-- ISSUER names a maker key that may sign licences (R455). -/
def State.licenceIssuer (s : State) (b : List Byte) : Bool :=
  s.keyTable.any fun e => field e.2.bytes 0 1 == 1 && bit (field e.2.bytes 1 1) 1 && field e.2.bytes 8 8 == field b 0x30 8

/-- Checks 1 to 3 of R439 on a stored licence (R440); `sigOk` is the verdict on its signature. -/
def State.licenceGood (s : State) (l : Licence) (sigOk : Bool) : Bool :=
  licenceShape l.bytes && sigOk && s.licenceIssuer l.bytes && slice l.bytes 0x10 32 == s.identity

/-- FUNCTIONS of a stored licence. -/
def Licence.functions (l : Licence) : Nat := field l.bytes 6 2

/-- Step 4: GLB_LICENCES, the licence slots, M6; the module enters TEST.  It runs in a warm reset too (R440), where R3 and R32
speak of a cold start: a licence stored or removed while a warm reset waits takes effect with it (log entry 34, DESIGN CHOICE). -/
def State.step4 (r : StepResult) (s : State) : State × Bool :=
  let good := s.nvm.licences.filter fun x => s.licenceGood x.2 (r.licencesOk.contains x.1)
  let f := fun n => good.any fun x => bit x.2.functions n
  let s := (((s.setFlag Reg.glbLicencesBase (f 0)).setFlag Reg.glbLicencesScale (f 0 && f 1)).setFlag Reg.glbLicencesRick
    (f 0 && f 2)).setFlag Reg.glbLicencesTenancy (f 0 && f 3)
  let s := s.each (List.range 16) fun t i =>
    (t.setFlag (Reg.botLicSlotStateInEffect i) (good.any (·.1 == i))).setFlag (Reg.botLicSlotStatePending i) false
  let present := [! s.nvm.licences.isEmpty, s.nvm.plan.isSome, s.nvm.host.isSome, s.nvm.keys.isSome, s.nvm.limits.isSome]
  let s := s.each present fun t b => if b then (t.extend 6 t.openDigest).fresh else t.extend 6 (List.replicate 32 0)
  ({ s.setFlag Reg.secStatusMeasured true with phase := .test }, true)

/-! ### Step 5: control units and microcode (R406, R435) -/

/-- Step 5. -/
def State.step5 (r : StepResult) (s : State) : State × Bool :=
  let s := (s.testResult 0 r.selfTestA).testResult 1 r.selfTestB
  let s := if r.selfTestA = 0 then s else s.failUnit 0 3
  let s := if r.selfTestB = 0 then s else s.failUnit 1 3
  if r.selfTestA ≠ 0 ∧ r.selfTestB ≠ 0 then (s.stepFailOpen 5 (min r.selfTestA 0xFFFFFFFF), false)
  else
    let u := if r.selfTestA = 0 then 0 else 1
    let s := if r.selfTestA = 0 then s.setFld Reg.ctlStatusStateA 1 else s
    let s := if r.selfTestB = 0 then s.setFld Reg.ctlStatusStateB (if u = 1 then 1 else 2) else s
    let ctl : Ctl := { token := [some u, some u], leases := [s.clk, s.clk], switched := s.opTime
                       units := [(0, { emberAt := s.clk }), (1, { emberAt := s.clk })] }
    let s := { s.setFld Reg.ctlStatusActive u with ctl := ctl }
    let s := r.microcodeBad.foldl (fun t x =>
      let t := t.ev 0x0E0A t.unitSrc x.1 x.2.1 (if x.2.2 then 2 else 1)
      if x.2.2 then t.ashStart 3 2 x.1 x.2.1 0 0 else t) s
    (s, true)

/-! ### Step 6: the start test and the maps (R83 to R86, R431) -/

/-- Bad columns of an engine that a list of ash entries names. -/
def ashColumns (ash : List Nat) (k p e : Nat) : List Nat :=
  (ash.filter fun x => let (t, d, u, g, _) := ashKey x; t == 1 && d == k && u == p && g == e).map fun x => bits x 6 0

/-- Is an engine in the ash list (R86)? -/
def ashEngine (ash : List Nat) (k p e : Nat) : Bool :=
  ash.any fun x => let (t, d, u, g, _) := ashKey x; t == 2 && d == k && u == p && g == e

/-- Is a core, or its die, in the ash list? -/
def ashCore (ash : List Nat) (k p : Nat) : Bool :=
  ash.any fun x => let (t, d, u, _, _) := ashKey x; d == k && ((t == 3 && u == p) || t == 4)

/-- A good core (R86): neither it nor any of its engines is in the ash list. -/
def goodCore (ash : List Nat) (k p : Nat) : Bool := ! ashCore ash k p && ! (List.range 4).any (ashEngine ash k p)

/-- Spare cluster (R86): the fewest good cores, among equals the highest number. -/
def spareOf (good : Nat → Bool) : Nat :=
  let n := fun c => ((List.range 18).filter fun i => good (18 * c + i)).length
  (List.range 9).foldl (fun b c => if n c ≤ n b then c else b) 0

/-- Pass 1 of R86: a logical core's own core of its home cluster. -/
def ownCore (good : Nat → Bool) (home l : Nat) : Option Nat :=
  (((List.range 18).map (18 * home + ·)).filter good)[l % 16]?

/-- The core map of a die (R86): per logical core its physical core, if any, in two passes. -/
def coreMap (good : Nat → Bool) : List (Option Nat) :=
  let spare := spareOf good
  let homes := (List.range 9).filter (· != spare)
  let first := (List.range 128).map fun l => ownCore good (homes.getD (l / 16) 0) l
  (List.range 128).foldl (fun m l =>
    if (m.getD l none).isSome then m
    else lset m l (nearestFree spare (homes.getD (l / 16) 0) fun q => good q && ! m.contains (some q))) first

/-- Column maps of a die's engines from the ash list (R84).  An engine that the list holds only as an engine shows no bad column
and the reset map (log entry 24, DESIGN CHOICE). -/
def State.columnMaps (s : State) (k : Nat) : State :=
  s.each ((List.range 162).flatMap fun p => (List.range 4).map fun e => (p, e)) fun t x =>
    let bad := ashColumns t.ash k x.1 x.2
    let (a, b) := skips bad
    let t := { t with badCols := if bad.isEmpty then t.badCols else tset t.badCols [] (engIndex k x.1 x.2) bad }
    ((t.setFld (Reg.kilColMapBadCount k x.1 x.2) bad.length).setFld (Reg.kilColMapSkip0 k x.1 x.2) a).setFld
      (Reg.kilColMapSkip1 k x.1 x.2) b

/-- ENGINE_LOST of a die's engines (R93). -/
def State.engineFlags (s : State) (k : Nat) : State :=
  s.each ((List.range 162).flatMap fun p => (List.range 4).map fun e => (p, e)) fun t x =>
    t.setFlag (Reg.kilColMapEngineLost k x.1 x.2) (ashEngine t.ash k x.1 x.2)

/-- Kiln dies that this start has found lost (R90): event 0x030A.  Which cause a cold start gives is open: mesh router or bridge
port, by a free value; a post-reset check that failed gives 4 (log entry 24, DESIGN CHOICE). -/
def State.diesFound (s : State) (before : List Nat) : State :=
  let held := fun (ash : List Nat) k => ash.any fun x => bits x 63 56 == 4 && bits x 51 48 == k
  s.each ((List.range 4).filter fun k => held s.ash k && ! held before k) fun t k =>
    (t.fresh).ev 0x030A k 0 (if t.flag Reg.botStatusWarm then 4 else 1 + Config.freeValue t.free % 2) 0

/-- Cluster map, core map and health of a die (R86, R93). -/
def State.dieMaps (s : State) (k : Nat) : State :=
  let good := goodCore s.ash k
  let spare := spareOf good
  let homes := (List.range 9).filter (· != spare)
  let map := coreMap good
  let s := (s.setFld (Reg.kilStatusSpareCluster k) spare).setFld (Reg.kilClusterMapClusters k)
    (homes.zipIdx.foldl (fun a x => a + x.1 * 16 ^ x.2) 0)
  let s := s.each (List.range 162) fun t p =>
    (t.setFld (Reg.kilCoreHealthRole k p) (if good p then 1 else 3)).setFld (Reg.kilCoreHealthLogical k p) 255
  let s := s.each (List.range 128) fun t l =>
    match map.getD l none with
    | some p => t.mapCore k l p (homes.getD (l / 16) 0)
    | none => t.makeHole k l
  let holes := ((List.range 128).filter fun l => (map.getD l none).isNone).length
  let s := (s.setFld (Reg.kilStatusHoles k) holes).setFlag (Reg.kilStatusLost k) (s.ash.any fun x => bits x 63 56 == 4 && bits x 51 48 == k)
  ((s.setFlag (Reg.kilStatusMapValid k) true).setFld (Reg.kilStatusPartition k) (s.partOf k)).spareSync k

/-- Engines with more than two bad columns join the ash list (R84). -/
def State.lostEngines (s : State) (cause : Nat) : State :=
  s.each ((s.ash.filter fun x => bits x 63 56 == 1).map fun x => (bits x 51 48, bits x 23 14, bits x 13 12)).eraseDups fun t x =>
    if (ashColumns t.ash x.1 x.2.1 x.2.2).length > 2 then t.ashStart 2 cause x.1 x.2.1 x.2.2 0 else t

/-- Step 6: what the start test found, or at a warm reset the post-reset check (R353, R431). -/
def State.step6 (r : StepResult) (s : State) : State × Bool :=
  if r.builtin ≠ 0 ∨ ¬ r.ok then (s.stepFailOpen 6 r.builtin, false)
  else
    let cause := if s.flag Reg.botStatusWarm then 11 else 2
    let old := s.ash
    let s := r.found.foldl (fun t x => t.ashStart x.1 cause x.2.1 x.2.2.1 x.2.2.2.1 x.2.2.2.2) s
    let t := (s.each (List.range 4) State.columnMaps).lostEngines 9
    ((t.each (List.range 4) fun t k => (t.engineFlags k).dieMaps k).diesFound old, true)

/-! ### Step 7: keys, module ID, memory, links (R163, R217, R376, R434, R446) -/

/-- Set a seam's map from its bad channels, as offsets (R163). -/
def State.seamMap (s : State) (m : Nat) (bad : List Nat) : State :=
  let spareBad := bad.contains 15
  let low := (List.range 15).find? bad.contains
  let short := decide (2 ≤ bad.length)
  let s := (((s.setFld (Reg.memSeamSparedFrom m) (low.getD 15)).setFlag (Reg.memSeamSpareBad m) spareBad).setFlag (Reg.memSeamShort m) short).setFlag
    (Reg.memSeamCopying m) false
  let s := s.each (List.range 15) fun t f => t.setFld (Reg.memChRole (16 * m + f)) (if bad.contains f then 3 else 0)
  let s := s.setFld (Reg.memChRole (16 * m + 15)) (if spareBad then 4 else if low.isSome then 2 else 1)
  if short then
    (s.setFlag Reg.memStatusShortSeam true).ev 0x0406 (dieOfCh (16 * m)) m (bad.foldl (fun a f => a + 2 ^ f) 0) 0
  else s

/-- Memory training at a cold start (R163, R164, R434). -/
def State.trainMemory (r : StepResult) (s : State) : State :=
  let saved := s.nvm.training
  let bad := (r.badChannels.filter (· < 768)).eraseDups
  let s := if 0 < r.fullTrained ∧ saved then s.ev 0x0E08 s.unitSrc r.fullTrained bad.length 0 else s
  let s := s.each bad fun t c => t.ashStart 5 6 0 c 0 0
  let all := (s.ash.filter fun x => bits x 63 56 == 5).map fun x => bits x 23 14
  let s := s.each (List.range 48) fun t m => t.seamMap m ((List.range 16).filter fun f => all.contains (16 * m + f))
  let n := ((List.range 48).filter fun m => s.fld (Reg.memSeamSparedFrom m) != 15 || s.flag (Reg.memSeamSpareBad m)).length
  let s := (s.setFld Reg.memStatusNoSpare n).setFlag Reg.botStatusSavedMem saved
  if ! saved || 0 < r.fullTrained then s.nvmPut .training else s

/-- NO_SPARE and SHORT_SEAM from the kept seam maps at a warm reset. -/
def State.keepSeams (s : State) : State :=
  let n := ((List.range 48).filter fun m => s.fld (Reg.memSeamSparedFrom m) != 15 || s.flag (Reg.memSeamSpareBad m)).length
  (s.setFld Reg.memStatusNoSpare n).setFlag Reg.memStatusShortSeam ((List.range 48).any fun m => s.flag (Reg.memSeamShort m))

/-- The LAN registers of a plan in force (R215). -/
def State.planRegs (s : State) (p : Plan) : State :=
  let s := (s.setFld Reg.lanPlanIdRack p.rack).setFld Reg.lanPlanIdNone p.none
  (s.setFld Reg.lanPlanRootsBackupRoot p.backup).setFld Reg.lanPlanRootsRoot p.root

/-- Module ID of a plan (R217). -/
def planId (p : Plan) : Nat := 64 * p.rack + p.slot

/-- The module ID at a start (R216, R217): the plan's, or the provisional one. -/
def State.setId (s : State) : State :=
  let slot := s.fld Reg.glbSlotSlotId
  let prov := fun (t : State) => ((t.setFld Reg.glbModuleIdId slot).setFlag Reg.glbModuleIdValid false).setFlag Reg.lanDiscStatusProvisional true
  match s.nvm.plan with
  | some p =>
    if p.slot = slot then
      ((((s.planRegs p).setFld Reg.glbModuleIdId (planId p)).setFlag Reg.glbModuleIdValid true).setFlag Reg.lanDiscStatusPlanValid true)
    else prov (s.ev 0x0605 0 3 p.slot slot)
  | none => prov s

/-- The state of a fabric port as discovery begins (R217, R219, R440): HELD_LICENCE, UNUSED or OFF; OFF without Base. -/
def State.portStart (s : State) (d : Nat) : State :=
  let none_ := bit (s.fld Reg.lanPlanIdNone) d
  if ¬ s.base then s
  else if 6 ≤ d ∧ ¬ none_ ∧ ¬ s.scale then (s.setPortState d 6 0).ev 0x0606 (dieOfDim d) d 0 0
  else if none_ || (s.provisional && 6 ≤ d) then s.setPortState d 7 0
  else s

/-- The host configuration in force (R376); the links of the host ports begin to train (R427). -/
def State.hostStart (s : State) : State :=
  match s.nvm.host with
  | none => s.ev 0x0A0A 0 0 0 0
  | some c =>
    let s := (s.setFlag Reg.hstStatusConfigured true).setFld Reg.hstUdpPortPort c.udp
    let s := s.each (List.range 2) fun t n => t.setFld (Reg.hstNetIpv4Addr n) (c.ipv4.getD n 0)
    let s := s.each (List.range 8) fun t p => t.setFlag (Reg.hstPortStatusTraining p) true
    s.each ((List.range 2).flatMap fun n => (List.range 4).map fun w => (n, w)) fun t x =>
      t.setFld (Reg.hstNetAddrAddr x.1 x.2) (c.ipv6.getD x.1 0 / 2 ^ (32 * x.2))

/-- Step 7: held while both random sources have failed at a cold start (R446). -/
def State.step7 (r : StepResult) (s : State) : State :=
  let cold := ! s.flag Reg.botStatusWarm
  let s := if cold then { s.setFlag Reg.memStatusKeyed true with
    hashKey := r.hashKey % 2 ^ 128, memKeys := (List.range 6).map fun i => r.memKeys.getD i 0 % 2 ^ 256 } else s
  let s := if cold then s.trainMemory r else s.keepSeams
  let s := (s.setFlag Reg.memStatusTrained true).setId
  (s.each (List.range 16) State.portStart).hostStart

/-! ### Step 9: SERVICE (R427, R443, R481) -/

/-- The floor of an activated image is raised (R481). -/
def State.raiseFloor (s : State) : State :=
  match s.start.raise_ with
  | some f =>
    if f ≤ s.nvm.floor then s
    else
      let s := ((s.setFld Reg.secFloorVersion f).ev 0x0E28 s.unitSrc s.nvm.floor f 0).nvmPut (.keys s.keyTable f)
      { s with start := { s.start with raise_ := none } }
  | none => s

/-- The start is complete. -/
def State.startDone (s : State) : State :=
  let ms := ((List.range 9).map fun i => s.fld (Reg.botStepMsMs (i + 1))).foldl (· + ·) 0
  let s := ((s.setFlag Reg.botStatusDone true).setFld Reg.botStatusStep 0).setFld Reg.botStartMsMs (min ms (2 ^ 32 - 1))
  let s := { s with phase := .up }
  (s.ev 0x0E01 s.unitSrc (if s.flag Reg.botStatusWarm then 2 else 1) ms s.start.ashAdded).raiseFloor

end Sys2Proof.Machine
end

