-- ==== Sys2Proof/Machine/Memories.lean ====
section
/-! DEFINITION. The memory commands and events (R162 to R188, R390). -/

namespace Sys2Proof.Machine

/-! ### Host memory commands (R165, R167, R169, R175, R390) -/

/-- The local address that a command's address names: module ID 0 or this module's (log entry 27, DEDUCED). -/
def State.hostAddr (s : State) (a : Nat) : Option Nat :=
  if a / 2 ^ 48 = 0 ∨ a / 2 ^ 48 = s.myId then some (a % 2 ^ 48) else none

/-- Does a span lie in the reset snapshot area (R165)? -/
def inSnapArea (a n : Nat) : Bool := a + n ≤ 2 ^ 28

/-- Form of a host memory span (R169, R390). -/
def spanForm (a n : Nat) : Status := if 8192 < n then .length else if n = 0 ∨ n % 64 ≠ 0 ∨ a % 64 ≠ 0 then .align else .ok

/-- Who a session's memory requests speak for (R167). -/
def State.hostWho (s : State) (o : Origin) : Agent := .host (s.sessJob o.sess)

/-- MEM_READ. -/
def State.doMemRead (o : Origin) (addr n : Nat) (s : State) : State :=
  match s.hostAddr addr with
  | none => s.finish o .access
  | some a =>
    match spanForm a n with
    | .ok =>
      let who := if inSnapArea a n then Agent.hostAny (s.sessRole o.sess == 1) else s.hostWho o
      let t := s.load who a n
      t.1.finish o t.2.1 {} [] t.2.2
    | st => s.finish o st

/-- MEM_READ. -/
def execMemRead (o : Origin) (addr n : Nat) (s : State) : Host.Outcome State Fault Refusal :=
  s.granted fun s => s.hostCmd o 0x20 (State.doMemRead o addr n) 4
    (match s.hostAddr addr with | some a => inSnapArea a n | none => false)

/-- MEM_WRITE. -/
def State.doMemWrite (o : Origin) (addr n : Nat) (data : List Byte) (s : State) : State :=
  if n ≠ data.length then s.finish o .length
  else
    match s.hostAddr addr with
    | none => s.finish o .access
    | some a =>
      match spanForm a n with
      | .ok => let t := s.save (s.hostWho o) a data; t.1.finish o t.2
      | st => s.finish o st

/-- MEM_WRITE. -/
def execMemWrite (o : Origin) (addr n : Nat) (data : List Byte) (s : State) : Host.Outcome State Fault Refusal :=
  s.granted fun s => s.hostCmd o 0x21 (State.doMemWrite o addr n data)

/-- MEM_ATOMIC. -/
def State.doMemAtomic (o : Origin) (addr op size : Nat) (operands : List Byte) (s : State) : State :=
  if operands.length ≠ 32 then s.finish o .length
  else
    match s.hostAddr addr with
    | none => s.finish o .access
    | some a => let t := s.serve (s.hostWho o) a (.atomic op size operands); t.1.finish o t.2.status t.2.flags [] t.2.data

/-- MEM_ATOMIC. -/
def execMemAtomic (o : Origin) (addr op size : Nat) (operands : List Byte) (s : State) : Host.Outcome State Fault Refusal :=
  s.granted fun s => s.hostCmd o 0x22 (State.doMemAtomic o addr op size operands)

/-! ### Regions (R168) -/

/-- REGION_ASSIGN. -/
def State.doAssign (o : Origin) (r c : Nat) (s : State) : State :=
  if s.flag Reg.memStatusShortSeam then s.finish o .state
  else s.withCtx o c fun x =>
    if r = 0 ∨ 1340 < r then s.finish o .length
    else if s.fld (Reg.memRegionStateState r) ≠ 0 then s.finish o .access
    else
      let s := s.setRegion r 2 0 x.p.partition
      { s with zeroing := s.zeroing ++ [(r, x.job, o)] }

/-- REGION_ASSIGN. -/
def execRegionAssign (o : Origin) (r c : Nat) (s : State) : Host.Outcome State Fault Refusal :=
  s.granted fun s => s.hostCmd o 0x23 (State.doAssign o r c)

/-- The region is zero (R168): OWNED, and the assignment is answered. -/
def State.zeroed (r : Nat) (s : State) : State :=
  match s.zeroing.find? (·.1 == r) with
  | none => s
  | some (_, job, o) =>
    let lo := r * regionSize
    let s := { s with mem := s.mem.zero lo regionSize, zeroing := s.zeroing.filter (·.1 != r)
                      badGranules := s.badGranules.filter (fun g => ! covered lo regionSize g)
                      faint := s.faint.filter fun x => ! covered lo regionSize x.1 }
    (s.setRegion r 1 job (s.fld (Reg.memRegionStateKeySlot r))).finish o .ok

/-- ZEROING_DONE. -/
def execZeroingDone (r : Nat) (s : State) : Host.Outcome State Fault Refusal := s.does (State.zeroed r)

/-- REGION_RELEASE. -/
def State.doRelease (o : Origin) (r : Nat) (s : State) : State :=
  if r = 0 ∨ 1340 < r then s.finish o .length
  else if s.fld (Reg.memRegionStateState r) ≠ 1 ∨ s.fld (Reg.memRegionJobJob r) ≠ s.sessJob o.sess then s.finish o .access
  else (s.setRegion r 0 0 0).finish o .ok

/-- REGION_RELEASE. -/
def execRegionRelease (o : Origin) (r : Nat) (s : State) : Host.Outcome State Fault Refusal :=
  s.granted fun s => s.hostCmd o 0x24 (State.doRelease o r)

/-! ### Requests of local units (R169, R179 to R182) -/

/-- Granules that a request touches. -/
def opGranules (a : Nat) : MemOp → List Nat
  | .read n => granules a n
  | .write d => granules a d.length
  | .masked d _ => granules a d.length
  | .record d => granules a d.length
  | .atomic _ n _ => granules a n

/-- Symbols of the stored granules have gone bad: one of a granule, given with it, or more (R179; log entry 5, DESIGN CHOICE). -/
def State.weaken (s : State) (one : List (Nat × Nat)) (more : List Nat) : State :=
  let ok := fun g => mapped (256 * g + 255)
  { s with faint := (one.filter fun x => ok x.1 && ! s.isBad x.1).foldl (fun t x => tput t x.1 (x.2 % 132)) s.faint
           badGranules := s.badGranules ++ (more.eraseDups.filter fun g => ok g && ! s.isBad g) }

/-- MEMORY_REQUEST: `corrected` and `lost` are the granules touched whose symbols have gone bad. -/
def State.localRequest (w : Agent) (a : Nat) (m : MemOp) (corrected : List (Nat × Nat)) (lost : List Nat) (s : State) : State :=
  let mine := (opGranules a m).contains
  let t := (s.weaken (corrected.filter fun x => mine x.1) (lost.filter mine)).serve w a m
  t.1.send (.memory w a t.2.status t.2.flags t.2.data)

/-- MEMORY_REQUEST. -/
def execMemoryRequest (w : Agent) (a : Nat) (m : MemOp) (corrected : List (Nat × Nat)) (lost : List Nat) (s : State) :
    Host.Outcome State Fault Refusal :=
  s.does (State.localRequest w a m corrected lost)

/-! ### Hot channels (R174) -/

/-- HOT_WINDOW: the demand bursts counted, and with them those of units whose requests are no commands of this model, by logical
channel (log entry 2, DESIGN CHOICE). -/
def State.hotWindow (counts : List (Nat × Nat)) (s : State) : State :=
  let active := (List.range 720).filter fun lc => ! s.flag (Reg.memSeamCopying (lc / 15))
  let n := active.length
  let count := fun lc => ((counts.find? (·.1 == lc)).map (·.2)).getD 0 + tget s.bursts 0 lc
  let sum := (active.map count).foldl (· + ·) 0
  let hot := active.filter fun lc => count lc * n > 4 * sum && sum ≥ 2048 * n
  let s := { s with hotRuns := hot.map (fun lc => (lc, tget s.hotRuns 0 lc + 1)), bursts := [] }
  s.each (hot.filter fun lc => tget s.hotRuns 0 lc ≥ 100) fun t lc =>
    let ratio := count lc * 16 * n / sum
    let t := ((t.setFlag Reg.memEventsHot true).setFlag Reg.memHotValid true).setFld Reg.memHotLogical lc
    (t.setFld Reg.memHotRatio (min ratio 4095)).ev 0x0407 (dieOfCh (t.physCh lc)) lc ratio (tget s.hotRuns 0 lc)

/-- HOT_WINDOW. -/
def execHotWindow (counts : List (Nat × Nat)) (s : State) : Host.Outcome State Fault Refusal :=
  s.does fun s => if s.flag Reg.memStatusTrained then s.hotWindow counts else s

/-! ### Scrub and sparing (R181 to R184) -/

/-- Bring NO_SPARE and COPYING in line with the seams (R187). -/
def State.seamSync (s : State) : State :=
  let none_ := (List.range 48).filter fun m => s.fld (Reg.memSeamSparedFrom m) != 15 || s.flag (Reg.memSeamSpareBad m)
  (s.setFld Reg.memStatusNoSpare none_.length).setFlag Reg.memStatusCopying ((List.range 48).any fun m => s.flag (Reg.memSeamCopying m))

/-- A spare channel is bad (R181, R184). -/
def State.spareFails (s : State) (seam cause : Nat) : State :=
  let ch := 16 * seam + 15
  ((s.setFlag (Reg.memSeamSpareBad seam) true).setFld (Reg.memChRole ch) 4).ev 0x0405 (dieOfCh ch) seam ch cause

/-- SCRUB_PERIOD: every granule is read once, those gone bad since listed; a granule with one symbol in error is counted and
written back, one beyond correction counted and left; seams whose unused spare fails. -/
def State.scrub (corrected : List (Nat × Nat)) (bad spares : List Nat) (s : State) : State :=
  let s := s.weaken corrected bad
  let cs := s.faint.filter fun x => ! s.isBad x.1
  let bs := s.badGranules
  let s := { s.each cs fun t x => t.countCe x.1 x.2 with faint := [] }
  let s := s.each bs fun t g => t.countUe g 2
  let s := s.each (spares.filter fun m => m < 48 && s.fld (Reg.memChRole (16 * m + 15)) == 1) fun t m =>
    if t.flag (Reg.memSeamCopying m) then t else t.spareFails m 2
  let s := s.seamSync.bump Reg.memScrubPassesCount
  s.ev 0x0408 0 (s.fld Reg.memScrubPassesCount) cs.length bs.length

/-- SCRUB_PERIOD. -/
def execScrubPeriod (corrected : List (Nat × Nat)) (bad spares : List Nat) (s : State) : Host.Outcome State Fault Refusal :=
  s.granted fun s => if s.flag Reg.memStatusTrained then s.scrub corrected bad spares else s

/-- CE_HOUR (R182): channels whose corrected errors of the hour reached the limit, ascending. -/
def State.endHour (s : State) : State :=
  let limit := s.fld Reg.memCeLimitLimit
  let due := (s.ceHour.filter fun x => limit ≠ 0 && limit ≤ x.2).map (·.1)
  let s := { s with ceHour := [] }
  (s.each due fun t ch => (t.setFlag Reg.memEventsCeLimit true).spare ch 1).seamSync

/-- CE_HOUR. -/
def execCeHour (s : State) : Host.Outcome State Fault Refusal := s.does State.endHour

/-- MEM_SPARE_START with GO set (R182). -/
def State.doSpareStart (ch : Nat) (s : State) : State × Status := ((if ch < 768 then s.spare ch 3 else s).seamSync, .ok)

/-- MEM_SPARE_START. -/
def execMemSpareStart (r : Requester) (ch : Nat) (s : State) : Host.Outcome State Fault Refusal :=
  s.granted fun s => s.access r Reg.memSpareStartOff (2 ^ 31 + ch % 1024) .write (gate (s.isInst r) (State.doSpareStart (ch % 1024)))

/-- SPARING_DONE (R183): the copy has read every granule of the channel, corrected those with one symbol in error, and found
those beyond correction, which stay so on the spare; `lost` have gone bad since. -/
def State.sparingDone (seam : Nat) (lost : List Nat) (s : State) : State :=
  match tfind s.copies seam with
  | none => s
  | some (ch, _, _) =>
    let mine := fun g => s.physCh (State.hashLc s.hashKey g).1 == ch
    let s := s.weaken [] (lost.filter mine)
    let s := s.each (s.faint.filter fun x => mine x.1) fun t x => t.countCe x.1 x.2
    let s := { s with faint := s.faint.filter fun x => ! mine x.1 }
    let gone := s.badGranules.filter mine
    let s := s.each gone fun t g => t.countUe g 3
    let s := (((s.setFld (Reg.memSeamSparedFrom seam) (ch % 16)).setFlag (Reg.memSeamCopying seam) false).setFld
      (Reg.memSeamPointer seam) 0).setFlag Reg.memEventsSpared true
    let s := (s.setFld (Reg.memChRole ch) 3).setFld (Reg.memChRole (16 * seam + 15)) 2
    let s := ({ s with copies := tdel s.copies seam }).seamSync
    (s.ev 0x0404 (dieOfCh ch) ch (16 * seam + 15) gone.length).ashAdd 5 7 0 ch 0 0

/-- SPARING_DONE. -/
def execSparingDone (seam : Nat) (lost : List Nat) (s : State) : Host.Outcome State Fault Refusal :=
  s.does fun s => (State.sparingDone seam lost s).tryWarm

/-- COPY_ABANDONED (R184). -/
def State.copyAbandoned (seam : Nat) (s : State) : State :=
  match tfind s.copies seam with
  | none => s
  | some (ch, _, _) =>
    let s := ({ s with copies := tdel s.copies seam }).setFlag (Reg.memSeamCopying seam) false
    let s := (s.setFld (Reg.memSeamPointer seam) 0).ev 0x0404 (dieOfCh ch) ch (16 * seam + 15) (2 ^ 32 - 1)
    ((s.setFlag Reg.memEventsSeamExhausted true).spareFails seam 3).seamSync

/-- COPY_ABANDONED. -/
def execCopyAbandoned (seam : Nat) (s : State) : Host.Outcome State Fault Refusal := s.does fun s => (State.copyAbandoned seam s).tryWarm

end Sys2Proof.Machine
end

