-- ==== Sys2Proof/Machine/PowerCmds.lean ====
section
/-! DEFINITION. The power and cooling commands (R497 to R521). -/

namespace Sys2Proof.Machine

/-! ### Alerts (R518) -/

/-- Bits of PWR_ALERT whose cause holds. -/
def State.alertCauses (s : State) : List Fld :=
  (if s.haltedNow then [Reg.pwrAlertHalted] else []) ++ (if s.flag Reg.pwrStatusOrphan then [Reg.pwrAlertOrphan] else [])
    ++ (if s.flag Reg.pwrStatusCapUnmet then [Reg.pwrAlertCapUnmet] else [])
    ++ (if s.cycling then [Reg.pwrAlertCycleRequest] else [])

/-- A bit that was cleared while its cause still holds sets again at a sample. -/
def State.realert (s : State) (fs : List Fld) : State := s.each fs fun t f => if t.flag f then t else t.alert f

/-! ### The 50 V input (R500, R501) -/

/-- INPUT_SAMPLE: input in 10 mV and mA, the mean power P100 in W; `held` is how long, in µs, the input has stood beyond every
limit that this sample is beyond (log entry 33, DESIGN CHOICE). -/
def State.inputSample (cv ma held p100 : Nat) (s : State) : State :=
  let e := s.power.energy + cv * ma
  let s := (s.addPair Reg.pwrEnergyLoOff (e / 10 ^ 11)).setPower fun p => { p with energy := e % 10 ^ 11, inputGood := 4600 ≤ cv && 1000 ≤ held }
  let s := (s.setFld Reg.pwrInputVolts (min cv 65535)).setFld Reg.pwrInputWatts (min p100 65535)
  if 5800 < cv ∧ 10 ≤ held then s.shutdown 2 7 cv
  else if cv < 4000 ∧ 5 ≤ held then s.shutdown 1 7 cv
  else
    let due := match s.power.highAt with | some t => decide (t + 60 * 235000000 ≤ s.clk) | none => true
    let s := if 5600 ≤ cv ∧ cv ≤ 5800 ∧ 1000 ≤ held ∧ due = true then
        (s.ev 0x0C12 7 cv 0 0).setPower fun p => { p with highAt := some s.clk }
      else s
    let s := if cv < 4500 then (s.setPower fun p => { p with comparator := true }).brakeBy 1 else s
    let s := if cv < 4200 ∧ 10 ≤ held then s.halt 1 7 cv 0xFFFF else s
    let s := s.brakeOver.dutySync
    s.realert s.alertCauses

/-- INPUT_SAMPLE. -/
def execInputSample (centivolts milliamps heldUs p100 : Nat) (s : State) : Host.Outcome State Fault Refusal :=
  s.does (State.inputSample centivolts milliamps heldUs p100)

/-- BRAKE_N_FALL. -/
def execBrakeNFall (s : State) : Host.Outcome State Fault Refusal :=
  .next (let s := { s with pins := { s.pins with brakeN := false } }; if s.on then s.brakeBy 2 else s)

/-- BRAKE_N_RISE. -/
def execBrakeNRise (s : State) : Host.Outcome State Fault Refusal :=
  .next (let s := { s with pins := { s.pins with brakeN := true } }; if s.on then s.brakeOver else s)

/-! ### Halts (R504, R513, R515, R516) -/

/-- Value of a sensor: pair q, or 0x100 + package [0.5 °C]. -/
def State.sensorValue (s : State) (x : Nat) : Nat :=
  if x < 256 then s.fld (Reg.pwrPairValue x) else s.fld (Reg.pwrMemValue (x - 256))

/-- The condition under which a halt cause clears, its time apart. -/
def State.mayClear (s : State) : Nat → Bool
  | 1 => 4600 ≤ s.fld Reg.pwrInputVolts
  | 2 => s.pins.flowLossN && 40 ≤ s.power.flow
  | 3 => 40 ≤ s.power.flow
  | _ => s.power.haltBy.all fun x => s.sensorValue x ≤ (if x < 256 then 200 else 190)

/-- HALT_CLEARED: the cause's clearing time has passed; the last cause ends the halt. -/
def State.haltCleared (cause : Nat) (s : State) : State :=
  if cause = 0 ∨ 4 < cause ∨ ¬ s.flag (haltFld cause) ∨ ¬ s.mayClear cause then s
  else
    let s := s.setFlag (haltFld cause) false
    if s.haltedNow then s else s.haltOver

/-- HALT_CLEARED. -/
def execHaltCleared (cause : Nat) (s : State) : Host.Outcome State Fault Refusal := s.granted (State.haltCleared cause)

/-- FLOW_LOSS_N_FALL (R516): a compute halt with cause FLOW_LOSS_N. -/
def execFlowLossNFall (s : State) : Host.Outcome State Fault Refusal :=
  .next (let s := { s with pins := { s.pins with flowLossN := false } }
         if s.on then s.halt 2 7 s.power.flow 0xFFFF else s)

/-- FLOW_LOSS_N_RISE. -/
def execFlowLossNRise (s : State) : Host.Outcome State Fault Refusal := .next { s with pins := { s.pins with flowLossN := true } }

/-- FLOW_LOSS_SHUTDOWN: FLOW_LOSS_N has stayed low for 30 s. -/
def execFlowLossShutdown (s : State) : Host.Outcome State Fault Refusal :=
  s.does fun s => if s.pins.flowLossN then s else s.shutdown 4 7 30

/-! ### Duty and caps (R498, R505 to R510) -/

/-- OPERATING_POINT: `allowed` is the duty that each point allows within the effective cap, as CP7 finds it. -/
def State.choosePoint (allowed : List Nat) (s : State) : State :=
  if s.haltedNow then s
  else
    let duty := fun n => min (pointDuty n) (allowed.getD n 0)
    let best := (List.range 6).foldl (fun b n => if duty b < duty n then n else b) 0
    (s.setPoint best).dutySync

/-- OPERATING_POINT. -/
def execOperatingPoint (allowed : List Nat) (s : State) : Host.Outcome State Fault Refusal := s.granted (State.choosePoint allowed)

/-- SUPPLY_SLEW_DONE. -/
def execSupplySlewDone (s : State) : Host.Outcome State Fault Refusal :=
  s.does fun s => (s.setPower fun p => { p with slew := none }).dutySync

/-- CAP_CONTROL (R506, R510): above the cap the duty falls, by how much is open; more than 2 % below it rises under R499. -/
def State.capControl (s : State) : State :=
  let s := s.capSync
  let p := s.fld Reg.pwrInputWatts
  let cap := s.fld Reg.pwrEffectiveCapWatts
  let low := s.fld Reg.pwrStatusDuty
  if s.haltedNow then s
  else if cap < p then
    if 4 < low then
      let d := 4 + Config.freeValue s.free % (low - 4)
      ((s.fresh).setPower fun p => { p with capDuty := d }).dutySync
    else if s.fld Reg.pwrStatusPoint = 5 then
      let was := s.flag Reg.pwrStatusCapUnmet
      let s := (s.setPower fun p => { p with capDuty := 4 }).setFlag Reg.pwrStatusCapUnmet true
      (if was then s else (s.ev 0x0C08 7 cap p 0).alert Reg.pwrAlertCapUnmet).dutySync
    else (s.setPower fun p => { p with capDuty := 4 }).dutySync
  else
    let s := s.setFlag Reg.pwrStatusCapUnmet false
    if p * 100 < cap * 98 then (s.setPower fun p => { p with capDuty := min 64 (low + s.riseSteps) }).dutySync else s.dutySync

/-- CAP_CONTROL. -/
def execCapControl (s : State) : Host.Outcome State Fault Refusal := s.does State.capControl

/-- A write of PWR_CAP_W (R507, R508): renews the rack cap, ends ORPHAN; a second write within 1 ms begins a storm. -/
def State.doCapWrite (watts : Nat) (s : State) : State × Status :=
  let w := min (watts % 65536) 2600
  let close := match s.power.writes.getLast? with | some x => decide (s.clk < x.1 + 235000) | none => false
  let ws := stormWindow s.clk s.power.writes ++ [(s.clk, w)]
  let lowest := (ws.map (·.2)).foldl min w
  let was := s.flag Reg.pwrStatusStorm
  let s := ((s.setFld Reg.pwrCapWWatts w).setFlag Reg.pwrStatusOrphan false).setFlag Reg.pwrStatusStorm (was || close)
  let s := if close && ! was then s.ev 0x0C06 7 1 lowest ws.length else s
  let s := s.setPower fun p => { p with writes := ws, rackLast := w, rackCap := if was || close then lowest else w }
  (s.capSync, .ok)

/-- PWR_CAP_WRITE. -/
def execPwrCapWrite (r : Requester) (watts : Nat) (s : State) : Host.Outcome State Fault Refusal :=
  s.granted fun s => s.access r Reg.pwrCapWOff watts .power (gate (isI3c r) (State.doCapWrite watts))

/-- CAP_STORM: the storm ends; the rack cap is the last value written. -/
def State.stormOver (s : State) : State :=
  if s.flag Reg.pwrStatusStorm then
    let ws := stormWindow s.clk s.power.writes
    let s := (s.setFlag Reg.pwrStatusStorm false).ev 0x0C06 7 0 ((ws.map (·.2)).foldl min s.power.rackLast) ws.length
    (s.setPower fun p => { p with writes := ws, rackCap := p.rackLast }).capSync
  else s

/-- CAP_STORM. -/
def execCapStorm (s : State) : Host.Outcome State Fault Refusal := s.granted State.stormOver

/-- ORPHAN_CAP. -/
def State.orphaned (s : State) : State :=
  if s.flag Reg.pwrStatusOrphan then s
  else
    let last := s.power.rackCap
    let s := ((s.setFlag Reg.pwrStatusOrphan true).setPower fun p => { p with rackCap := min last 1950 }).ev 0x0C09 7 last (min last 1950) 0
    (s.alert Reg.pwrAlertOrphan).capSync

/-- ORPHAN_CAP. -/
def execOrphanCap (s : State) : Host.Outcome State Fault Refusal := s.granted State.orphaned

/-- A write of PWR_OP_CAP_W (R509): outside the limits ACCESS. -/
def State.doOpCap (watts : Nat) (s : State) : State × Status :=
  let w := watts % 65536
  if w < s.fld Reg.pwrLimitsOpMinW ∨ s.fld Reg.pwrLimitsOpMaxW < w then (s, .access)
  else ((s.setFld Reg.pwrOpCapWWatts w).capSync, .ok)

/-- OP_CAP_WRITE. -/
def execOpCapWrite (r : Requester) (watts : Nat) (s : State) : Host.Outcome State Fault Refusal :=
  s.granted fun s => s.access r Reg.pwrOpCapWOff watts .power (gate (s.isOp r || s.isInst r) (State.doOpCap watts))

/-- A write of PWR_LIMITS (R509). -/
def State.doLimits (maxW minW : Nat) (s : State) : State × Status :=
  if minW < 700 ∨ maxW < minW ∨ 2600 < maxW then (s, .shape)
  else (((s.nvmPut (.limits maxW minW)).setLimits maxW minW).extendM7, .ok)

/-- LIMITS_WRITE. -/
def execLimitsWrite (r : Requester) (maxW minW : Nat) (s : State) : Host.Outcome State Fault Refusal :=
  s.granted fun s => s.access r Reg.pwrLimitsOff (maxW % 65536 * 65536 + minW % 65536) .power
    (gate (s.isInst r) (State.doLimits (maxW % 65536) (minW % 65536)))

/-! ### Sensors (R511 to R514); values in units of 1/2,000 °C -/

/-- Inlet and outlet of the last complete report [1/16 °C]. -/
def State.inlet (s : State) : Int := sext 16 s.power.inlet
def State.outlet (s : State) : Int := sext 16 s.power.outlet

/-- Is a reading [0.5 °C] implausible (R512)? -/
def State.implausible (s : State) (x : Nat) : Bool := ((x : Int) * 8 < s.inlet - 32) || decide (300 < x)

/-- The model estimate for a thermal resistance in units of 0.0005 K/W (R512). -/
def State.estimate (s : State) (r : Nat) : Nat := (s.outlet * 125 + (s.fld Reg.pwrInputWatts * r : Nat) + 20000).toNat

/-- A value as a VALUE field [0.5 °C]; how a half step is rounded is open. -/
def State.halfDegrees (s : State) (v : Nat) : Nat := min 511 (v / 1000 + if v % 1000 = 0 then 0 else Config.freeValue s.free % 2)

/-- Source of an event about a sensor (R521). -/
def sensorSrc (x : Nat) : Nat := if x < 16 then x / 4 else if x < 18 then 4 else if x < 20 then 5 else 6

/-- Take a pair's readings (R512): flags, events, and its value. -/
def State.takePair (s : State) (q a b : Nat) : State × Nat :=
  let ia := s.implausible a
  let ib := s.implausible b
  let wasA := s.flag (Reg.pwrPairAIgnored q)
  let wasB := s.flag (Reg.pwrPairBIgnored q)
  let s := if ia && ! wasA then (s.ev 0x0C0B (sensorSrc q) q 0 a).alert Reg.pwrAlertSensor else s
  let s := if ib && ! wasB then (s.ev 0x0C0B (sensorSrc q) q 1 b).alert Reg.pwrAlertSensor else s
  let v :=
    if ia && ib then s.estimate (if q < 16 then 24 else 20)
    else if ia then b * 1000
    else if ib then a * 1000
    else if s.flag (Reg.pwrPairSuspect q) then max a b * 1000
    else (a + b) * 500
  let h := s.halfDegrees v
  let s := if ia && ib && ! (wasA && wasB) then s.ev 0x0C0C (sensorSrc q) q h 0 else s
  let s := ((s.setFlag (Reg.pwrPairAIgnored q) ia).setFlag (Reg.pwrPairBIgnored q) ib).setFld (Reg.pwrPairA q) (min a 511)
  (((s.setFld (Reg.pwrPairB q) (min b 511)).setFld (Reg.pwrPairValue q) h).fresh, v)

/-- Take a package's reading. -/
def State.takePackage (s : State) (p x : Nat) : State × Nat :=
  let ig := s.implausible x
  let was := s.flag (Reg.pwrMemIgnored p)
  let v := if ig then s.estimate 12 else x * 1000
  let h := s.halfDegrees v
  let s := if ig && ! was then
      ((s.ev 0x0C0B 6 (256 + p) 0 x).alert Reg.pwrAlertSensor).ev 0x0C0C 6 (256 + p) h 0
    else s
  (((s.setFlag (Reg.pwrMemIgnored p) ig).setFld (Reg.pwrMemValue p) h).fresh, v)

/-- Ceiling that a pair's value gives (R513). -/
def thermalCeiling (v : Nat) : Nat := if v < 190000 then 64 else max 4 (64 - 4 * ((v + 1999) / 2000 - 95))

/-- Put the thermal ceilings in force; event 0x0C0D when a die's first falls below 64 and when it returns. -/
def State.setThermal (s : State) (pairs : List (Nat × Nat)) : State :=
  s.each (List.range 4) fun t k =>
    let mine := pairs.filter fun x => x.1 / 4 == k || 16 ≤ x.1
    let (q, c) := mine.foldl (fun b x => if thermalCeiling x.2 < b.2 then (x.1, thermalCeiling x.2) else b) (20, 64)
    let was := t.power.thermalOf k
    let t := t.setPower fun p => { p with thermal := lset p.thermal k c }
    if was = 64 ∧ c < 64 then t.ev 0x0C0D k 1 q c
    else if was < 64 ∧ c = 64 then (t.ev 0x0C0D k 0 (Config.freeValue t.free % 20) 64).fresh
    else t

/-- A sensor is ignored or a pair is SUSPECT (R518, R520). -/
def State.sensorCause (s : State) : Bool :=
  ((List.range 20).any fun q => s.flag (Reg.pwrPairAIgnored q) || s.flag (Reg.pwrPairBIgnored q) || s.flag (Reg.pwrPairSuspect q))
    || (List.range 96).any fun p => s.flag (Reg.pwrMemIgnored p)

/-- SENSOR_SAMPLE: readings of the 20 pairs and the 96 packages [0.5 °C]. -/
def State.sensorSample (pairs : List (Nat × Nat)) (packages : List Nat) (s : State) : State :=
  let (s, ps) := ((List.range 20).zip pairs).foldl (fun (t, vs) x =>
    let u := t.takePair x.1 x.2.1 x.2.2; (u.1, vs ++ [(x.1, u.2)])) (s, ([] : List (Nat × Nat)))
  let (s, ms) := ((List.range 96).zip packages).foldl (fun (t, vs) x =>
    let u := t.takePackage x.1 x.2; (u.1, vs ++ [(256 + x.1, u.2)])) (s, ([] : List (Nat × Nat)))
  let hard := (ps.filter fun x => 220000 ≤ x.2) ++ ms.filter fun x => 210000 ≤ x.2
  let twice := hard.find? fun x => s.power.hard.contains x.1
  let s := s.setPower fun p => { p with hard := hard.map (·.1) }
  match twice with
  | some x => s.shutdown 3 (sensorSrc x.1) (s.sensorValue x.1)
  | none =>
    let live := ps.filter fun x => ! (x.1 < 16 && s.flag (Reg.pwrKilnLost (x.1 / 4)))
    let hot : List (Nat × Nat) := live.filter fun x => 214000 ≤ x.2
    let hotMem : List (Nat × Nat) := ms.filter fun x => 200000 ≤ x.2
    let one := match hot with
      | x :: _ => x.1 < 16 && hotMem.isEmpty && hot.all (fun y => y.1 / 4 == x.1 / 4)
          && ps.all fun (y : Nat × Nat) => y.1 / 4 == x.1 / 4 || decide (y.2 < 200000)
      | [] => false
    let s := match hot ++ hotMem with
      | [] => s
      | x :: xs =>
        if one then (s.loseDie (x.1 / 4) 3).setFlag (Reg.pwrKilnLost (x.1 / 4)) true
        else
          let s := s.setPower fun p => { p with haltBy := (p.haltBy ++ (x :: xs).map Prod.fst).eraseDups }
          s.halt 4 (sensorSrc x.1) (s.sensorValue x.1) x.1
    let s := (s.setThermal ps).dutySync
    s.realert (if s.sensorCause then [Reg.pwrAlertSensor] else [])

/-- SENSOR_SAMPLE. -/
def execSensorSample (pairs : List (Nat × Nat)) (packages : List Nat) (s : State) : Host.Outcome State Fault Refusal :=
  s.does (State.sensorSample pairs packages)

/-- SENSOR_SUSPECT: the plausible readings of a pair have differed by more than 4 °C for more than 1 s. -/
def State.suspect (q : Nat) (s : State) : State :=
  let a := s.fld (Reg.pwrPairA q)
  let b := s.fld (Reg.pwrPairB q)
  if 20 ≤ q ∨ s.flag (Reg.pwrPairSuspect q) ∨ s.flag (Reg.pwrPairAIgnored q) ∨ s.flag (Reg.pwrPairBIgnored q)
      ∨ (a - b) + (b - a) ≤ 8 then s
  else ((s.setFlag (Reg.pwrPairSuspect q) true).ev 0x0C0A (sensorSrc q) q a b).alert Reg.pwrAlertSensor

/-- SENSOR_SUSPECT. -/
def execSensorSuspect (pair : Nat) (s : State) : Host.Outcome State Fault Refusal := s.does (State.suspect pair)

/-! ### Coolant (R515) -/

/-- Flow cap of a flow in percent; the cap below 30 % is not stated and stays. -/
def flowCapOf (f old : Nat) : Nat := if 90 ≤ f then 2600 else if 60 ≤ f then 2600 * (f + 30) / 120 else if 30 ≤ f then 1300 else old

/-- Put a flow cap in force; event 0x0C0E at a change, from a report with less than 90 %. -/
def State.setFlowCap (s : State) (cap : Nat) (told : Bool) : State :=
  if s.power.flowCap = cap then s
  else
    let s := s.setPower fun p => { p with flowCap := cap }
    (if told then s.ev 0x0C0E 7 s.power.flow cap 0 else s).capSync

/-- A write of PWR_TRAY_FLOW completes a report. -/
def State.doReport (flow : Nat) (s : State) : State × Status :=
  let f := flow % 65536 * 100 / 2400
  let s := s.setPower fun p => { p with inlet := s.fld Reg.pwrTrayTempInlet, outlet := s.fld Reg.pwrTrayTempOutlet }
  let high := if 640 < s.inlet then s.power.inletHigh + 1 else 0
  let stale := s.flag Reg.pwrStatusTrayStale
  let ms := (s.clk - s.power.reportAt) / 235000
  let s := (s.setFld Reg.pwrTrayFlowMlPerMin flow).setPower fun p => { p with flow := f, inletHigh := high, reportAt := s.clk }
  let s := if stale then (s.setFlag Reg.pwrStatusTrayStale false).ev 0x0C0F 7 0 ms 0 else s
  let s := if high = 10 then s.ev 0x0C11 7 (s.fld Reg.pwrTrayTempInlet) 0 0 else s
  let s := s.setFlowCap (flowCapOf f s.power.flowCap) (f < 90)
  (if f < 30 then s.halt 3 7 f 0xFFFF else s, .ok)

/-- TRAY_REPORT. -/
def execTrayReport (r : Requester) (flow : Nat) (s : State) : Host.Outcome State Fault Refusal :=
  s.granted fun s => s.access r Reg.pwrTrayFlowOff flow .power (gate (isI3c r) (State.doReport flow))

/-- TRAY_REPORT_STALE. -/
def State.reportStale (s : State) : State :=
  if s.flag Reg.pwrStatusTrayStale then s
  else
    let s := (s.setFlag Reg.pwrStatusTrayStale true).ev 0x0C0F 7 1 ((s.clk - s.power.reportAt) / 235000) 0
    s.setFlowCap 1300 false

/-- TRAY_REPORT_STALE. -/
def execTrayReportStale (s : State) : Host.Outcome State Fault Refusal := s.granted State.reportStale

end Sys2Proof.Machine
end

