-- ==== Sys2Proof/Machine/Recorder.lean ====
section
/-! DEFINITION. The event recorder (R414, R485 to R496, R539). -/

namespace Sys2Proof.Machine

/-! ### Records (R485, R487) -/

/-- Slot of record n. -/
def recSlot (n : Nat) : Nat := if n ≤ 4096 then n - 1 else 4096 + (n - 4097) % 61440

/-- Bytes of a record in a slot. -/
def EvRec.bytes (r : EvRec) (slot : Nat) : List Byte :=
  let flags := b2n (decide (slot < 4096)) + 2 * b2n (decide (65535 ≤ r.rep)) + 4 * (r.writer % 2) + 8 * b2n r.ev.unset + 16 * b2n r.gap
  natLe 2 r.ev.code ++ natLe 2 r.ev.src ++ natLe 4 r.seq ++ natLe 2 r.rep ++ natLe 2 flags ++ natLe 8 r.ev.time
    ++ natLe 4 r.ev.p0 ++ natLe 4 r.ev.p1 ++ natLe 4 r.ev.p2

/-- The 32 bytes that a slot reads: 0 when empty, 0xFF when lost in both mirrors (R486, R490). -/
def State.slotBytes (s : State) (slot : Nat) : List Byte :=
  if s.recBad.contains slot then List.replicate 32 0xFF
  else match tfind s.recs slot with
    | some r => r.bytes slot
    | none => List.replicate 32 0

/-! ### Intake (R414, R487 to R492) -/

/-- Codes that fold on PARAM_0 alone (R489). -/
def foldsOnP0 (code : Nat) : Bool :=
  [0x0106, 0x0307, 0x0401, 0x0407, 0x0702, 0x0705, 0x0709, 0x0807, 0x0905, 0x090B, 0x0A05, 0x0B0A, 0x0D09, 0x0E07].contains code

/-- Does an event fold into a record (R489)? -/
def EvRec.takes (r : EvRec) (e : Ev) : Bool :=
  r.ev.code == e.code && r.ev.src == e.src && r.ev.p0 == e.p0
    && (foldsOnP0 e.code || (r.ev.p1 == e.p1 && r.ev.p2 == e.p2)) && decide (r.rep < 65535)

/-- Fold an event into a record. -/
def EvRec.fold (r : EvRec) (e : Ev) : EvRec :=
  { r with rep := r.rep + 1, ev := if foldsOnP0 e.code then { r.ev with p1 := e.p1, p2 := e.p2 } else r.ev }

/-- Open a record for an event (R487, R488); the first record beyond an area raises the recorder's own event (R496). -/
def State.openRec (s : State) (e : Ev) (gap : Bool) : State :=
  let n := s.pair Reg.evrCountLoOff + 1
  let slot := recSlot n
  let r : EvRec := { ev := e, seq := n, writer := s.unitSrc, gap := gap }
  let s := { s with recs := tput s.recs slot r, recBad := s.recBad.filter (· != slot) }
  let s := (s.setPair Reg.evrCountLoOff n).setFld Reg.evrHeadIndex (recSlot (n + 1))
  let s := if n = 4096 then (s.setFlag Reg.evrStatusKeptFull true).ev 0x0F03 0 4096 0 0 else s
  if n = 4096 + 61440 + 1 then (s.setFlag Reg.evrStatusWrapped true).ev 0x0F04 0 0 0 0 else s

/-- The newest record, of the 16 most recently opened, that an event folds into: its slot. -/
def State.foldSlot (s : State) (e : Ev) : Option Nat :=
  let n := s.pair Reg.evrCountLoOff
  ((List.range (min 16 n)).map fun i => recSlot (n - i)).find? fun slot =>
    match tfind s.recs slot with
    | some r => r.takes e
    | none => false

/-- Fold an event into the record of a slot. -/
def State.foldInto (s : State) (slot : Nat) (e : Ev) : State :=
  match tfind s.recs slot with
  | some r => { s.bump Reg.evrFoldsCount with recs := tput s.recs slot (r.fold e) }
  | none => s

/-- Set what a die's queue has dropped since the last EVENTS_LOST record: how many, and the first one's code (R492). -/
def State.setLost (s : State) (die : Nat) (lost : Nat × Nat) : State := { s with evLost := lset s.evLost die lost }

/-- Open the EVENTS_LOST record of a die's queue (R492), and begin its count of drops again. -/
def State.lostRec (s : State) (die : Nat) : State :=
  let lost := s.evLost.getD die (0, 0)
  (s.setLost die (0, 0)).openRec
    { s.evOf 0x0F02 die 0 0 0 with p0 := lost.1, p1 := lost.2 } false

/-- The dies whose queues have dropped events and have room again (R492). -/
def State.lostDies (s : State) : List Nat :=
  [0, 1].filter fun d => decide (0 < (s.evLost.getD d (0, 0)).1) && decide ((s.evQueue d).length < 1024)

/-- Open the record of an event that did not fold; after drops of a queue that has room again it sets GAP, and an EVENTS_LOST
record for each such queue follows (R492). -/
def State.openNew (s : State) (e : Ev) : State := (s.openRec e (! s.lostDies.isEmpty)).each s.lostDies State.lostRec

/-- Take an event that has left its die's queue: folded, or opened. -/
def State.takeEvent (s : State) (e : Ev) : State := (s.foldSlot e).elim (s.openNew e) fun slot => s.foldInto slot e

/-- EVENT_INTAKE: the waiting event raised in the earliest management clock, F0's queue first among equals (R414). -/
def State.intake (s : State) : State :=
  let pop := fun (d : Nat) (e : Ev) (q : List Ev) => ({ s with evq := lset s.evq d q }).takeEvent e
  match s.evq.getD 0 [], s.evq.getD 1 [] with
  | a :: as, b :: bs => if a.clk ≤ b.clk then pop 0 a as else pop 1 b bs
  | a :: as, [] => pop 0 a as
  | [], b :: bs => pop 1 b bs
  | [], [] => s

/-- EVENT_INTAKE. -/
def execEventIntake (s : State) : Host.Outcome State Fault Refusal := s.does State.intake

/-! ### Mirrors (R490) -/

/-- MIRROR_CHECK of a slot: words that fail SECDED in the F0 and in the F1 mirror. -/
def State.mirrorCheck (slot : Nat) (badF0 badF1 : List Nat) (s : State) : State :=
  if 65536 ≤ slot then s
  else
    let a := (badF0.filter (· < 8)).eraseDups
    let b := (badF1.filter (· < 8)).eraseDups
    if a.any b.contains then
      if s.recBad.contains slot then s
      else ({ s with recBad := s.recBad ++ [slot] }.setFlag Reg.evrStatusLostRecord true).ev 0x0F05 0 slot 0 0
    else
      let s := s.each a fun t w => (t.bump Reg.evrRepairedCount).ev 0x0F01 0 slot w 0
      s.each b fun t w => (t.bump Reg.evrRepairedCount).ev 0x0F01 1 slot w 0

/-- MIRROR_CHECK. -/
def execMirrorCheck (slot : Nat) (badF0 badF1 : List Nat) (s : State) : Host.Outcome State Fault Refusal :=
  s.does (State.mirrorCheck slot badF0 badF1)

/-! ### EVENT_READ (R390, R488) -/

/-- Records present whose sequence numbers are at least `first`, ascending, up to `count`. -/
def State.recordsFrom (s : State) (first count : Nat) : List Byte :=
  let at_ := s.recs.filter fun x => (x.2.seq % 2 ^ 32 + 2 ^ 32 - first % 2 ^ 32) % 2 ^ 32 < 2 ^ 31
  let order := sortBy Prod.fst (at_.map fun x => (x.2.seq, x.1))
  (order.take count).flatMap fun x => s.slotBytes x.2

/-- EVENT_READ. -/
def State.doEventRead (o : Origin) (first count : Nat) (s : State) : State :=
  if count = 0 ∨ 256 < count then s.finish o .length else s.finish o .ok {} [] (s.recordsFrom first count)

/-- EVENT_READ. -/
def execEventRead (o : Origin) (first count : Nat) (s : State) : Host.Outcome State Fault Refusal :=
  s.granted fun s => s.hostCmd o 0x60 (State.doEventRead o first count)

end Sys2Proof.Machine
end

