-- ==== Sys2Proof/Machine/Resets.lean ====
section
/-! DEFINITION. The reset commands (R96, R349 to R373): requests, grant, steps, ladder, in-service test. -/

namespace Sys2Proof.Machine

/-! ### Requests -/

/-- Status of a reset by command (R372). -/
def State.cmdReset (s : State) (level part : Nat) : Status :=
  if level < 4 ∨ 6 < level then .shape else if level = 4 ∧ (s.dies part).isEmpty then .state else .ok

/-- A write of RST_CMD with GO set (R362, R372). -/
def State.doRstCmd (level part : Nat) (s : State) : State × Status :=
  match s.cmdReset level part with
  | .ok => (s.askReset { level := level, target := if level = 4 then part else 0, cause := 0x0A }, .ok)
  | st => (s, st)

/-- Who may write a level of RST_CMD (R372). -/
def State.mayReset (s : State) (r : Requester) (level : Nat) : Bool :=
  s.isInst r || (s.isOp r && level != 5 && level != 6)

/-- The word of a RST_CMD write. -/
def rstWord (level part : Nat) : Nat := 2 ^ 31 + level * 16 + part % 4

/-- RST_CMD_PARTITION. -/
def execRstCmdPartition (r : Requester) (part : Nat) (s : State) : Host.Outcome State Fault Refusal :=
  s.commanded fun s => s.access r Reg.rstCmdOff (rstWord 4 part) .write (gate (s.mayReset r 4) (State.doRstCmd 4 (part % 4)))

/-- RST_CMD_CHIP. -/
def execRstCmdChip (r : Requester) (s : State) : Host.Outcome State Fault Refusal :=
  s.commanded fun s => s.access r Reg.rstCmdOff (rstWord 5 0) .write (gate (s.mayReset r 5) (State.doRstCmd 5 0))

/-- RST_CMD_POWER_CYCLE. -/
def execRstCmdPowerCycle (r : Requester) (s : State) : Host.Outcome State Fault Refusal :=
  s.commanded fun s => s.access r Reg.rstCmdOff (rstWord 6 0) .write (gate (s.mayReset r 6) (State.doRstCmd 6 0))

/-- RESET_REQUEST (R372, R390, R463): answered when the reset begins. -/
def State.doResetRequest (o : Origin) (level part : Nat) (s : State) : State :=
  s.privileged o 0x62 (s.cmdReset level part) (natLe 1 level ++ natLe 1 part) fun s =>
    s.askReset { level := level, target := if level = 4 then part else 0, cause := 0x0A, o := some o }

/-- RESET_REQUEST. -/
def execResetRequest (o : Origin) (level part : Nat) (s : State) : Host.Outcome State Fault Refusal :=
  s.granted fun s => s.hostCmd o 0x62 (State.doResetRequest o level part) level

/-- SET_SPLIT (R96, R463): SHAPE first, then SERVICE state, then Tenancy. -/
def State.doSetSplit (o : Origin) (n : Nat) (s : State) : State :=
  let st := if 3 < n then Status.shape else if s.modState ≠ .service then .state
    else if n ≠ 0 ∧ ¬ s.tenancy then .licence else .ok
  s.privileged o 0x15 st (natLe 1 n) fun s =>
    s.askReset { level := 4, target := 4, cause := 0x0B, split := some n, o := some o }

/-- SET_SPLIT. -/
def execSetSplit (o : Origin) (n : Nat) (s : State) : Host.Outcome State Fault Refusal :=
  s.granted fun s => s.hostCmd o 0x15 (State.doSetSplit o n)

/-- Writing 1 to RST_FAULT_CONTEXT.VALID clears both fault registers (R365, R372). -/
def State.doFaultClear (s : State) : State × Status :=
  ({ (s.setReg Reg.rstFaultContextOff 0).setReg Reg.rstFaultUnitOff (regReset Reg.rstFaultUnitOff) with faultHeld := none }, .ok)

/-- FAULT_CONTEXT_CLEAR. -/
def execFaultContextClear (r : Requester) (s : State) : Host.Outcome State Fault Refusal :=
  s.granted fun s => s.access r Reg.rstFaultContextOff (2 ^ 31) .write (gate (s.anyWriter r) State.doFaultClear)

/-! ### Grant -/

/-- RESET_GRANT (R353, R362): the first waiting request of this level, target and cause; a control-state fault of the carry or
DMA engines (causes 8 and 9) is its own request. -/
def State.resetGrant (level target cause : Nat) (s : State) : State :=
  match s.resetReqs.find? fun q => q.level == level && q.target == target && q.cause == cause with
  | some q => s.grantReset q
  | none => if level = 5 ∧ target = 0 ∧ (cause = 8 ∨ cause = 9) then
      (s.askReset { level := 5, target := 0, cause := cause }).grantReset { level := 5, target := 0, cause := cause } else s

/-- RESET_GRANT. -/
def execResetGrant (level target cause : Nat) (s : State) : Host.Outcome State Fault Refusal :=
  s.granted (State.resetGrant level target cause)

/-! ### Steps (R353 to R360) -/

/-- Do something with the reset of a level and target when a condition on it holds. -/
def State.onReset (s : State) (level target : Nat) (ok : Reset → Bool) (f : State → Reset → State) : State :=
  match s.resetOf level target with
  | some r => if ok r then f s r else s
  | none => s

/-- The clocks of R357 have passed since a generation last advanced. -/
def State.genReady (s : State) (g : Nat) : Bool :=
  match tfind s.genClk g with | some c => c + 235000 ≤ s.clk | none => true

/-- DRAIN_END. -/
def execDrainEnd (level target : Nat) (s : State) : Host.Outcome State Fault Refusal :=
  s.does fun s => s.onReset level target
    (fun r => 4 ≤ r.dom.level && ! r.drained && ! r.failed && r.dom.gens.all fun g => r.bumped.contains g || s.genReady g)
    State.endDrain

/-- Section 4 with the entries of the cores that did not answer filled with 0xFF (R360). -/
def patchSilent (cores silent : List (Nat × Nat)) (bs : List Byte) : List Byte :=
  cores.zipIdx.flatMap fun x => if silent.contains x.1 then List.replicate 0x4000 0xFF else slice bs (0x4000 * x.2) 0x4000

/-- Write a snapshot and close it (R358 to R360): sections, then the header; event 0x0D06. -/
def State.closeSnapshot (s : State) (r : Reset) (whole : Bool) (silent : List (Nat × Nat)) : State :=
  match r.slot with
  | none => s
  | some i =>
    let base := 0x2000000 * i
    let seq := min (s.fld Reg.rstSnapSeqCount + 1) (2 ^ 32 - 1)
    let flags := b2n whole + 2 * b2n (! silent.isEmpty)
    let four := (snapOffsets 0x1000 (s.snapSizes r.dom)).getD 4 0
    let s := s.each r.image fun t x =>
      let bs := if ¬ whole then freeBytes t.free x.2.length
        else if x.1 = four then patchSilent (t.domCores r.dom) silent x.2 else x.2
      ({ t with free := t.free + 2 ^ 25 }.writeBytes (base + x.1) bs).1
    let head := natLe 4 seq ++ (r.head.drop 4).take 3 ++ natLe 1 flags ++ r.head.drop 8
    let s := (s.writeBytes base (slice head 0 4096)).1
    let s := (s.setFld Reg.rstSnapSeqCount seq).putReset { r with snapDone := true }
    let s := s.setFlag Reg.rstSnapStatusBusy (s.resets.any fun x => x.slot.isSome && ! x.snapDone)
    s.ev 0x0D06 s.unitSrc i seq flags

/-- SNAPSHOT_DONE. -/
def execSnapshotDone (level target : Nat) (whole : Bool) (silent : List (Nat × Nat)) (s : State) :
    Host.Outcome State Fault Refusal :=
  s.does fun s => s.onReset level target (fun r => ! r.snapDone) fun s r => s.closeSnapshot r whole silent

/-- Snapshot and drain are done: reset is asserted for 1 ms (R80, R353). -/
def execResetAsserted (level target : Nat) (s : State) : Host.Outcome State Fault Refusal :=
  s.does fun s => s.onReset level target (fun r => r.snapDone && r.drained && ! r.asserted && ! r.failed)
    fun s r => (s.wipe r.dom).putReset { r with asserted := true }

/-- The post-reset check (R353, R369, R371): dies and then cores that fail it, and the losses that waited for it, in ascending
order of die and core (R90).  A core that fails it is lost with cause 5 of event 0x0301 (log entry 24, DESIGN CHOICE). -/
def State.postCheck (s : State) (r : Reset) (cores : List (Nat × Nat)) (dies : List Nat) : State :=
  let all := s.domCores r.dom
  let s := s.putReset { r with checked := true, late := [] }
  let s := { s with storeDue := s.storeDue.filter fun x => ! all.contains x }
  let s := s.each (dies.filter (s.domDies r.dom).contains) fun t k => t.loseDie k 4
  let lost := r.late ++ (cores.filter all.contains).map fun x => (x.1, x.2, 5, 11)
  s.each (sortBy (fun a => 162 * a.1 + a.2.1) lost) fun t x => t.loseCore x.1 x.2.1 x.2.2.1 x.2.2.2

/-- POST_RESET_CHECK_DONE. -/
def execPostResetCheckDone (level target : Nat) (cores : List (Nat × Nat)) (dies : List Nat) (s : State) :
    Host.Outcome State Fault Refusal :=
  s.does fun s => s.onReset level target (fun r => r.asserted && ! r.checked && ! r.failed)
    fun s r => s.postCheck r cores dies

/-- The generation an event 0x0D02 names. -/
def State.newGen (s : State) (d : Domain) : Nat :=
  if d = .chip then s.chipGen else s.genOf ((lowBit 4 (s.domMask d)).getD 0)

/-- RESET_RELEASE (R353): the fence opens; event 0x0D02; commands that waited are answered. -/
def State.release (s : State) (r : Reset) (us : Nat) : State :=
  let s := (s.dropReset r.dom).rstSync
  (s.ev 0x0D02 s.unitSrc r.dom.level us (s.newGen r.dom)).each r.replies fun t o => t.finish o .ok

/-- RESET_RELEASE. -/
def execResetRelease (level target us : Nat) (s : State) : Host.Outcome State Fault Refusal :=
  s.does fun s => s.onReset level target (fun r => r.checked && ! r.failed) fun s r => s.release r us

/-- LOWER_RESET_DONE (R349, R361): the unit acknowledges its reset and passes its test firing. -/
def execLowerResetDone (level target : Nat) (s : State) : Host.Outcome State Fault Refusal :=
  s.does fun s => s.onReset level target (fun r => r.dom.level ≤ 3 && r.snapDone)
    fun s r => (s.wipe r.dom).release r ((s.clk - r.began) / 235)

/-! ### The ladder (R361 to R363) -/

/-- CONTEXT_ABORT_DONE: every unit that held work of the context has stopped. -/
def execContextAbortDone (ctx : Nat) (s : State) : Host.Outcome State Fault Refusal :=
  s.does fun s => ({ s with ladder := s.ladder.filter (·.1 != ctx) }).rstSync

/-- ISOLATION_DONE: the lost unit's traffic has stopped. -/
def execIsolationDone (die cluster : Nat) (s : State) : Host.Outcome State Fault Refusal :=
  s.does fun s => { s with isolating := s.isolating.filter fun x => ! (x.1 == die && x.2.1 == cluster) }

/-- LADDER_TIMEOUT: a level's bound has passed with its done condition unmet; level 15 is the isolation of a lost unit. -/
def State.ladderBound (level target : Nat) (units : List (Nat × Nat × Nat)) (s : State) : State :=
  match level with
  | 0 =>
    (match s.ladder.find? (·.1 == target) with
      | some (c, cause, f) =>
        let p := match s.ctx c with | some x => x.p.partition | none => 0
        let (l, t) := busyUnit p units
        let s := { s with ladder := s.ladder.erase (c, cause, f) }
        ((s.ev 0x0D03 s.unitSrc 0 cause l).climb l t 3 (some f) (2 ^ p)).rstSync
      | none => s)
  | 15 =>
    (match s.isolating.find? fun x => 9 * x.1 + x.2.1 == target with
      | some (k, c, f) =>
        let p := s.partOf k
        ({ s with isolating := s.isolating.erase (k, c, f) }).climb 4 p 7 (some f) (2 ^ p)
      | none => s)
  | _ => s.onReset level target (fun r => ! r.failed) fun s r => if r.dom.level ≤ 3 then s.unitFailed r else s.resetFailed r

/-- LADDER_TIMEOUT. -/
def execLadderTimeout (level target : Nat) (units : List (Nat × Nat × Nat)) (s : State) : Host.Outcome State Fault Refusal :=
  s.granted (State.ladderBound level target units)

/-- CORE_SEQUENCER_TRAP (R362): cause 2, level 0 for the context. -/
def execCoreSequencerTrap (ctx die core : Nat) (s : State) : Host.Outcome State Fault Refusal :=
  s.granted fun s =>
    match s.ctx ctx with
    | some x =>
      if die < 4 ∧ core < 162 ∧ s.partOf die = x.p.partition ∧ s.phase = .up then
        let q := match (s.part x.p.partition).run with | some r => if r.ctx = ctx then r.queue else 0 | none => 0
        s.ladderAbort ctx x.p.partition q 2
      else s
    | none => s

/-- CLUSTER_FAULT (R352, R362): cause 5, level 3; the firing that runs on the cluster's cores is replayed (R117). -/
def execClusterFault (die cluster : Nat) (s : State) : Host.Outcome State Fault Refusal :=
  s.granted fun s => if die < 4 ∧ cluster < 9 ∧ ¬ s.flag (Reg.kilStatusLost die) ∧ s.phase = .up then
    let t := s.askReset { level := 3, target := 9 * die + cluster, cause := 5 }
    if (List.range 18).any fun i => t.role die (18 * cluster + i) == 0 then t.replay (t.partOf die) else t
    else s

/-- SEQUENCER_NO_RESPONSE (R362): cause 7, level 4. -/
def execSequencerNoResponse (part : Nat) (s : State) : Host.Outcome State Fault Refusal :=
  s.granted fun s => if ¬ (s.dies part).isEmpty ∧ s.phase = .up then s.askReset { level := 4, target := part, cause := 7 } else s

/-! ### In-service test (R89, R368) -/

/-- The free spare that follows the last one tested, in ascending order with wrap-around. -/
def State.nextSpare (s : State) (k : Nat) : Option Nat :=
  let free := (List.range 162).filter fun p => s.role k p == 1
  match tfind s.spareLast k with
  | some l => (match free.find? (l < ·) with | some p => some p | none => free.head?)
  | none => free.head?

/-- SPARE_TEST_ROTATE: the spare under test returns to free, the next one takes its place. -/
def State.rotate (k : Nat) (s : State) : State :=
  if ¬ s.flag Reg.rstSpareTestEnable ∨ 4 ≤ k ∨ s.flag (Reg.kilStatusLost k) ∨ s.phase ≠ .up then s
  else
    let c := s.fld (Reg.rstSpareTestDieCurrent k)
    let s := if c = 255 then s else
      { s.setFld (Reg.kilCoreHealthRole k c) 1 with spareDoubt := s.spareDoubt ++ [162 * k + c] }
    let s := s.setFld (Reg.rstSpareTestDieCurrent k) 255
    match s.nextSpare k with
    | none => s
    | some p =>
      let wrapped := match tfind s.spareLast k with | some l => decide (p ≤ l) | none => false
      let s := if wrapped then s.bump (Reg.rstSpareTestDieRounds k) else s
      { (s.setFld (Reg.kilCoreHealthRole k p) 2).setFld (Reg.rstSpareTestDieCurrent k) p with
        spareLast := tput s.spareLast k p }

/-- SPARE_TEST_ROTATE. -/
def execSpareTestRotate (die : Nat) (s : State) : Host.Outcome State Fault Refusal := s.granted (State.rotate die)

/-- SPARE_TEST_DONE: `failing` is the failing test firing, 0 when the core passes. -/
def State.spareTested (k failing : Nat) (s : State) : State :=
  let c := s.fld (Reg.rstSpareTestDieCurrent k)
  if 4 ≤ k ∨ c = 255 ∨ s.flag (Reg.kilStatusResetting k) then s
  else if failing = 0 then
    let s := (s.setFld (Reg.kilCoreHealthRole k c) 1).setFld (Reg.rstSpareTestDieCurrent k) 255
    ({ s with spareDoubt := s.spareDoubt.filter (· != 162 * k + c) }).ev 0x0D09 s.unitSrc k c 0
  else
    let s := (s.loseCore k c 4 5).bump (Reg.rstSpareTestDieFails k)
    s.ev 0x0D0A s.unitSrc k c failing

/-- SPARE_TEST_DONE. -/
def execSpareTestDone (die failing : Nat) (s : State) : Host.Outcome State Fault Refusal := s.does (State.spareTested die failing)

end Sys2Proof.Machine
end

