-- ==== Sys2Proof/Machine/Discovery.lean ====
section
/-! DEFINITION. Training, the identity exchange and discovery (R217 to R222, R242, R243), and fabric time (R223 to R226). -/

namespace Sys2Proof.Machine

/-! ### Training (R221, R242 to R244) -/

/-- PLL_LOCK. -/
def execPllLock (port : Nat) (s : State) : Host.Outcome State Fault Refusal :=
  s.does fun s =>
    if port < 16 ∧ ¬ s.flag (Reg.lanPortStatusLink port) ∧ s.mayTrain port then s.startTraining port else s

/-- DARK_RETRY (R221). -/
def execDarkRetry (port : Nat) (s : State) : Host.Outcome State Fault Refusal :=
  s.does fun s => if port < 16 ∧ s.portState port = 3 ∧ s.mayTrain port then s.startTraining port else s

/-- DARK_TIMEOUT (R219, line 3). -/
def execDarkTimeout (port : Nat) (s : State) : Host.Outcome State Fault Refusal :=
  s.does fun s =>
    if port < 16 ∧ s.portState port = 0 ∧ s.linkAllowed port ∧ ¬ bit (s.fld Reg.lanPlanIdNone) port then
      (s.setPortState port 3 0).ev 0x0602 (dieOfDim port) port 1 0
    else s

/-- The link has trained (R240, R242 to R244): lane set, training registers, keys, free values; the identity exchange begins
(R218), an extra neighbour is quarantined (R219, line 4), and a held or quarantined port keeps its state (R252).  `saved` says
that the training from saved settings converged; there is none without settings of the lane tables in use (R243). -/
def State.trained (d good ms keyFail skew : Nat) (asym : Int) (saved : Bool) (s : State) : State :=
  if 16 ≤ d ∨ ¬ (s.port d).training then s
  else
    let saved := saved && s.settingsFit d
    let held := s.portState d = 4 ∨ s.portState d = 5
    let lanes := (lanesOf d).filter fun n => ! [4, 5, 7].contains (s.laneState n)
    let ok := lanes.filter fun n => bit good (n - firstLane d)
    let bad := lanes.filter fun n => ! bit good (n - firstLane d)
    let s := s.each ok fun t n =>
      ((((t.setFld (Reg.lanLaneStatusState n) 3).setFlag (Reg.lanLaneStatusMarkerLock n) true).setFld (Reg.lanLaneStatusPolarityInv n)
        (Config.freeValue s.free / 2 ^ (n - firstLane d))).setFlag (Reg.lanLaneTrainSavedUsed n) saved).setFld
        (Reg.lanLaneTrainTimeMs n) (min ms 65535)
    let s := (s.fresh).each bad fun t n => (t.takeOut n).ev 0x0609 (dieOfDim d) d n 5
    let s := s.setPort d { left := (s.port d).left }
    let w := widthFor d ok.length
    if w = 0 then s
    else
      let s := (s.dropCredits d).setReg (Reg.lanPortStatusOff d) 0
      let s := s.setFlag (Reg.lanPortStatusSavedUsed d) saved
      let s := (s.setFld (Reg.lanPortSkewAsymmetry d) (ucode 16 asym)).setFld (Reg.lanPortSkewSkew d) (min skew 65535)
      let s := s.ev 0x060E (dieOfDim d) d w (min ms (2 ^ 31 - 1) + b2n saved * 2 ^ 31)
      let refused := s.flag Reg.secStatusMonitorMismatch || s.fld Reg.secStatusRngFault == 3
      let keyed := keyFail = 0 && ! refused
      let s := if keyed then
          let t := (((s.setWidth d).setFlag (Reg.lanPortStatusLink d) true).setFlag (Reg.lanPortStatusEncrypted d) true).fresh.fresh
          t.setPort d { t.port d with keys := (Config.freeValue s.free % 2 ^ 128, Config.freeValue (s.free + 1) % 2 ^ 128) }
        else s.ev 0x060D (dieOfDim d) d (if refused then 3 else keyFail) 0
      if held then s
      else
      let s := (s.setReg (Reg.lanPortDiscOff d) 0).setPortState d 1 0
      if bit (s.fld Reg.lanPlanIdNone) d then s.quarantine d 1 else s

/-- LINK_TRAINED. -/
def execLinkTrained (port good ms keyFail skew : Nat) (asym : Int) (saved : Bool) (s : State) : Host.Outcome State Fault Refusal :=
  s.does (State.trained port good ms keyFail skew asym saved)

/-! ### The identity exchange (R218 to R220) -/

/-- Send an identity packet (R218): module ID, VALID, port dimension and verdict, in bytes 16 to 20 (log entry 13, DESIGN CHOICE).  A
port that is not UP carries nothing else, so it goes to the port at once, against no credit. -/
def State.sendIdentity (s : State) (d : Nat) : State :=
  s.putOnPort d { dest := Nat.xor s.myId (2 ^ d), src := s.myId, cls := 4, opcode := 0xE0
                  cmd := natLe 2 s.myId ++ natLe 1 (b2n (! s.provisional)) ++ natLe 1 d ++ natLe 1 (s.port d).verdict ++ List.replicate 11 0 }

/-- IDENTITY_SEND: on a trained port until the exchange ends. -/
def execIdentitySend (port : Nat) (s : State) : Host.Outcome State Fault Refusal :=
  s.does fun s =>
    if port < 16 ∧ s.flag (Reg.lanPortStatusLink port) ∧ ([1, 4, 5].contains (s.portState port)) then s.sendIdentity port else s

/-- IDENTITY_TIMEOUT (R219, line 5). -/
def execIdentityTimeout (port : Nat) (s : State) : Host.Outcome State Fault Refusal :=
  s.does fun s => if port < 16 ∧ s.portState port = 1 ∧ ¬ (s.port port).seen then s.quarantine port 2 else s

/-- Adopt a neighbour's rack number in provisional mode (R217). -/
def State.adoptRack (s : State) (d : Nat) : State :=
  if s.provisional ∧ ¬ s.rackAdopted ∧ d < 6 ∧ s.flag (Reg.lanPortDiscSeenValid d) then
    { (s.setFld Reg.glbModuleIdId (s.fld (Reg.lanPortDiscSeenId d) / 64 * 64 + s.myId % 64)) with rackAdopted := true }
  else s

/-- Save the active lanes' settings, free values, with the version of the lane tables (R243); those that stand and fit stay. -/
def State.saveLanes (s : State) (d : Nat) : State :=
  if s.settingsFit d then s
  else
    let v := Config.freeValue s.free
    s.fresh.nvmPut (.lanes (tput s.laneSettings d (s.laneTables, (s.activeLanes d).map fun n => (n, v / 2 ^ (16 * (n - firstLane d)) % 2 ^ 16))))

/-- A port comes UP (R219, R222, R243): event 0x0601, settings saved, fabric time's parent chosen again. -/
def State.comeUp (s : State) (d : Nat) : State :=
  let s := (s.setPortState d 2 0).ev 0x0601 (dieOfDim d) d (s.fld (Reg.lanPortDiscSeenId d)) 0
  let s := s.adoptRack d
  ((s.saveLanes d).retime).retryWaiting

/-- A port is classified HELD_SWAP (R219, R220): event 0x0604 names the pairing. -/
def State.heldSwap (s : State) (d partner id dim : Nat) : State :=
  let s := s.setPort d { s.port d with verdict := 2 }
  (s.setPortState d 5 0).ev 0x0604 (dieOfDim d) (partner * 256 + d) id dim

/-- Classify a port by the identity packet it received (R219, lines 5 to 8). -/
def State.classify (s : State) (d id : Nat) (valid : Bool) (dim verdict : Nat) : State :=
  let own := s.myId
  let prov := s.provisional || ! valid
  let same := fun a b : Nat => if prov then a % 64 == b % 64 else a == b
  let expected := Nat.xor own (2 ^ d)
  let other := (List.range (if prov then 6 else 16)).find? fun e => e != d && same id (Nat.xor own (2 ^ e))
  if s.provisional && s.rackAdopted && valid && id / 64 != own / 64 then s.quarantine d 2
  else if same id expected && dim == d then
    let s := if (s.port d).verdict = 1 then s else (s.setPort d { s.port d with verdict := 1 }).sendIdentity d
    if verdict = 2 then s.quarantine d 4
    else if verdict = 1 then s.comeUp d
    else s
  else if other.isSome || same id expected then s.heldSwap d (other.getD 0xFF) id dim
  else s.quarantine d 3

/-- IDENTITY. -/
def State.identity_ (d id : Nat) (valid : Bool) (dim verdict : Nat) (s : State) : State :=
  if 16 ≤ d ∨ ¬ s.flag (Reg.lanPortStatusLink d) ∨ s.portState d ≠ 1 then s
  else
    let s := ((s.setFld (Reg.lanPortDiscSeenId d) id).setFld (Reg.lanPortDiscSeenPort d) dim).setFlag (Reg.lanPortDiscSeenValid d) valid
    (s.setPort d { s.port d with seen := true }).classify d (id % 65536) valid (dim % 16) verdict

/-- IDENTITY. -/
def execIdentity (port id : Nat) (valid : Bool) (dim verdict : Nat) (s : State) : Host.Outcome State Fault Refusal :=
  s.does (State.identity_ port id valid dim verdict)

/-- Repeat training and discovery on a port (R221), if its links may be trained. -/
def State.rediscover (s : State) (d : Nat) : State :=
  let s := (((s.unlink d).headerFound d).setReg (Reg.lanPortDiscOff d) 0).setPort d { left := (s.port d).left }
  let s := (s.dropCredits d).setPortState d 0 0
  if s.linkAllowed d then s.startTraining d else s

/-- A write of LAN_DISCOVER (R221, R227): held and quarantined ports; an UP port stays. -/
def State.doDiscover (value : Nat) (s : State) : State × Status :=
  if bit value 31 then
    (s.each ((List.range 16).filter (bit value)) fun t d =>
      if t.portState d = 4 ∨ t.portState d = 5 then t.rediscover d else t, .ok)
  else (s, .ok)

/-- LAN_DISCOVER. -/
def execLanDiscover (r : Requester) (mask : Nat) (s : State) : Host.Outcome State Fault Refusal :=
  s.granted fun s =>
    let v := 2 ^ 31 + mask % 65536
    s.access r Reg.lanDiscoverOff v .write (gate (s.isInst r) (State.doDiscover v))

/-! ### Fabric time (R223 to R226) -/

/-- Rebase the counter at a rate correction. -/
def State.setRate (s : State) (rate : Int) : State :=
  ({ s with time := { s.time with base := s.fabricTime, at_ := s.clk, rate := rate } }).setFld Reg.lanTimeRateRate (ucode 32 rate)

/-- The rate correction after an offset: it moves towards the parent's counter, within 200 ppm (R223); by how much is open
(log entry 29, DESIGN CHOICE). -/
def slewRate (rate offset : Int) (v : Nat) : Int :=
  let r := if 0 < offset then rate + (v % 1717987 : Nat) else if offset < 0 then rate - (v % 1717987 : Nat) else rate
  max (-858993) (min 858993 r)

/-- The offset of an exchange in 1/16 ns (R224): ((t2 - t1) - (t4 - t3)) / 2, less the port's asymmetry; `v` rounds the half. -/
def offsetOf (t1 t2 t3 t4 asym : Int) (v : Nat) : Int := (((t2 - t1) - (t4 - t3)) + (v % 2 : Nat)) / 2 - asym

/-- Start the counter. -/
def State.startTime (s : State) (base : Nat) : State :=
  { s with time := { s.time with running := true, base := base, at_ := s.clk, rate := 0 } }

/-- TIME_VALID and event 0x0607 (R224). -/
def State.lockTime (s : State) (port : Nat) : State :=
  (s.setFlag Reg.lanTimeStatusValid true).ev 0x0607 (if port < 16 then dieOfDim port else 0) port s.timeRoot
    (if port < 16 then s.fld Reg.lanTimeStatusLastOffset else 0)

/-- The root is the reference from now on. -/
def State.becomeRoot (s : State) : State := (s.setFld Reg.lanTimeStatusRole 1).setFld Reg.lanTimeStatusParentDim 0

/-- A timestamp of the own counter in 1/16 ns; the sixteenths are open. -/
def State.stamp (s : State) : Nat := 16 * s.fabricTime + Config.freeValue s.free % 16

/-- Send a packet of the timestamp exchange on a port (R224, R225): t1 of a child's request, with t2, t3, the counter, the root
sequence number and its root in a parent's answer.  The places of the fields are the model's (log entry 13, DESIGN CHOICE). -/
def State.sendTime (s : State) (d : Nat) (answer : Option (Nat × Nat)) : State :=
  let (t1, t2) := answer.getD (s.stamp, 0)
  let valid := s.flag Reg.lanTimeStatusValid
  let p : Packet :=
    { dest := Nat.xor s.myId (2 ^ d), src := s.myId, cls := 4, opcode := 0xE1
      cmd := natLe 1 (b2n answer.isSome + 2 * b2n valid) ++ natLe 1 0 ++ natLe 2 s.timeRoot ++ natLe 4 s.time.rootSeq ++ natLe 8 t1
      data := natLe 8 t2 ++ natLe 8 s.stamp ++ natLe 8 s.fabricTime ++ natLe 8 0 }
  s.fresh.place d (dieOfDim d) p p

/-- TIME_EXCHANGE (R224, R225). -/
def State.timeExchange (s : State) : State :=
  if ¬ s.flag Reg.lanDiscStatusPlanValid then s
  else if s.myId = s.timeRoot then
    match s.fld Reg.lanTimeStatusRole with
    | 1 => { s with time := { s.time with rootSeq := s.time.rootSeq + 1 } }
    | 2 => s.sendTime (s.fld Reg.lanTimeStatusParentDim) none
    | _ =>
      let ask := (List.range 16).filter fun d => s.portUp d && ! (s.port d).noTime
      if ask.isEmpty then ((if s.time.running then s else s.startTime 0).becomeRoot).lockTime 0xFF
      else s.each ask fun t d => t.sendTime d none
  else
    match s.fld Reg.lanTimeStatusRole, s.parentDim with
    | 0, some d => (s.followTime d).sendTime d none
    | 2, _ => s.sendTime (s.fld Reg.lanTimeStatusParentDim) none
    | _, _ => s.retime

/-- TIME_EXCHANGE. -/
def execTimeExchange (s : State) : Host.Outcome State Fault Refusal := s.does State.timeExchange

/-- A parent's answer sets the counter the first time and slews it from then on (R223). -/
def State.slew (s : State) (offset : Int) (v counter : Nat) : State :=
  if s.time.running then s.fresh.setRate (slewRate s.time.rate offset v) else s.fresh.startTime counter

/-- An offset found: shown in LAST_OFFSET, whose value is open where it does not fit; eight below 0.5 ns in a row are counted; a
counter 20 ns off or more is valid no longer (R223, R224; log entry 29, DESIGN CHOICE). -/
def State.noteOffset (s : State) (offset : Int) (v : Nat) : State :=
  let s := s.setFld Reg.lanTimeStatusLastOffset (if -32768 ≤ offset ∧ offset < 32768 then ucode 16 offset else v % 65536)
  let good := if -8 < offset ∧ offset < 8 then s.time.good + 1 else 0
  let s := { s with time := { s.time with good := good } }
  if offset ≤ -320 ∨ 320 ≤ offset then s.setFlag Reg.lanTimeStatusValid false else s

/-- A parent's answer: the counter is set or slewed, and eight offsets below 0.5 ns lock it (R223, R224). -/
def State.takeTime (s : State) (d : Nat) (t1 t2 t3 t4 counter : Nat) : State :=
  let v := Config.freeValue s.free
  let asym := (s.fld (Reg.lanPortSkewAsymmetry d) : Int)
  let offset := offsetOf t1 t2 t3 t4 (if asym < 32768 then asym else asym - 65536) v
  let s := (s.slew offset v counter).noteOffset offset v
  if 8 ≤ s.time.good ∧ ¬ s.flag Reg.lanTimeStatusValid then
    let s := s.lockTime d
    if s.myId = s.timeRoot then s.becomeRoot else s
  else s

/-- The root or its place in the tree has changed: the parent is chosen anew (R224, R225). -/
def State.newRoot (s : State) : State :=
  let role := s.fld Reg.lanTimeStatusRole
  let s := { s with time := { s.time with good := 0 } }
  if s.myId = s.timeRoot then
    (if s.flag Reg.lanTimeStatusValid then s.becomeRoot else (s.setFld Reg.lanTimeStatusRole 0).setFld Reg.lanTimeStatusParentDim 0)
  else match s.parentDim with
    | some d => let t := s.followTime d; if role = 3 then t.ev 0x0608 (dieOfDim d) 3 s.timeRoot 0 else t
    | none => if role = 1 ∨ role = 2 then s.holdover else s

/-- TIME: a child is answered; a parent's answer corrects the offset.  A parent that follows ROOT again ends the time of BACKUP_ROOT,
whose cold start it learnt of (R225; log entry 29, DESIGN CHOICE). -/
def State.timePacket (d : Nat) (request : Bool) (t1 t2 t3 t4 rootSeq : Nat) (valid backup : Bool) (counter : Nat) (s : State) : State :=
  if 16 ≤ d ∨ ¬ s.portUp d then s
  else if request then s.sendTime d (some (t1, t2))
  else
    let role := s.fld Reg.lanTimeStatusRole
    if s.myId = s.timeRoot ∧ role = 0 then
      (if valid then (s.followTime d).takeTime d t1 t2 t3 t4 counter else s.setPort d { s.port d with noTime := true })
    else if role = 2 ∧ s.fld Reg.lanTimeStatusParentDim = d then
      if s.flag Reg.lanTimeStatusBackupActive && ! backup then (s.setFlag Reg.lanTimeStatusBackupActive false).newRoot
      else
        let s := { s with time := { s.time with rootSeq := rootSeq } }
        if valid then s.takeTime d t1 t2 t3 t4 counter else s
    else s

/-- TIME. -/
def execTime (port : Nat) (request : Bool) (t1 t2 t3 t4 rootSeq : Nat) (valid backup : Bool) (counter : Nat) (s : State) :
    Host.Outcome State Fault Refusal :=
  s.does (State.timePacket port request t1 t2 t3 t4 rootSeq valid backup counter)

/-- HOLDOVER_EXPIRY (R225). -/
def execHoldoverExpiry (s : State) : Host.Outcome State Fault Refusal :=
  s.does fun s =>
    if s.fld Reg.lanTimeStatusRole = 3 then
      { (s.setFlag Reg.lanTimeStatusValid false) with time := { s.time with good := 0 } }
    else s

/-- ROOT_LOST (R225): BACKUP_ROOT becomes the root; the backup goes on from its own counter. -/
def State.rootLost (s : State) : State :=
  if ¬ s.flag Reg.lanDiscStatusPlanValid ∨ s.flag Reg.lanTimeStatusBackupActive ∨ s.myId = s.timeRoot then s
  else
    let s := s.setFlag Reg.lanTimeStatusBackupActive true
    let s := s.ev 0x0608 0 2 s.timeRoot 0
    if s.myId = s.timeRoot then
      let t := (if s.time.running then s else s.startTime 0).becomeRoot
      if s.fld Reg.lanTimeStatusRole = 3 then t.ev 0x0608 0 3 s.timeRoot 0 else t
    else s.newRoot

/-- ROOT_LOST. -/
def execRootLost (s : State) : Host.Outcome State Fault Refusal := s.does State.rootLost

end Sys2Proof.Machine
end

