-- ==== Sys2Proof/Machine/Start.lean ====
section
/-! DEFINITION. The start, configuration and licence commands (R215, R216, R376, R420 to R443, R531 to R534). -/

namespace Sys2Proof.Machine

/-! ### Power and pins (R427, R531 to R536) -/

/-- COLD_START: power good with TRAY_RST_N released, from OFF; SLOT_ID is sampled. -/
def execColdStart (slotId : Nat) (s : State) : Host.Outcome State Fault Refusal :=
  .next (if s.phase = .off ∧ ¬ s.pins.trayRstN then s.powerUp slotId else s)

/-- TRAY_RST_ASSERT (R534): the counters are saved, the module is OFF. -/
def execTrayRstAssert (s : State) : Host.Outcome State Fault Refusal :=
  .next (let low := fun (t : State) => { t with pins := { t.pins with trayRstN := false } }
         if s.on then low (s.saveCounters 0).gone else low s)

/-- POWER_LOSS (R536): nothing is saved; TRAY_RST_N reads low without standby power. -/
def execPowerLoss (s : State) : Host.Outcome State Fault Refusal :=
  .next (let t := s.gone; { t with pins := { t.pins with trayRstN := false } })

/-- REFERENCE_LOST (R531): shutdown with cause 5, nothing saved. -/
def execReferenceLost (ppm : Nat) (s : State) : Host.Outcome State Fault Refusal :=
  s.does fun s => if s.pins.trayRstN then ({ s with pins := { s.pins with refGood := false } }).shutdown 5 7 ppm else s

/-! ### The start (R427, R428) -/

/-- A step has passed: its duration, and the next step or SERVICE. -/
def State.stepPassed (s : State) (n ms : Nat) : State :=
  let s := s.setFld (Reg.botStepMsMs n) (min ms (2 ^ 32 - 1))
  if n = 9 then s.startDone else s.setFld Reg.botStatusStep (n + 1)

/-- START_STEP_DONE: the start test pauses while a halt cause holds, and one that holds for 60 s ends the start (R430). -/
def State.startStep (r : StepResult) (s : State) : State :=
  let n := s.fld Reg.botStatusStep
  if (s.phase ≠ .start ∧ s.phase ≠ .test) ∨ s.flag Reg.botStatusFailed then s
  else if r.haltHeld ∧ s.haltedNow then s.stepFail n (stCode .state) 0
  else if n = 6 ∧ s.haltedNow ∧ ¬ s.flag Reg.botStatusWarm then s
  else
    let pass := fun (x : State × Bool) => if x.2 then x.1.stepPassed n r.ms else x.1.setFld (Reg.botStepMsMs n) (min r.ms (2 ^ 32 - 1))
    match n with
    | 1 => if r.ok then (s.setFld Reg.secStatusMonitorOk 3).stepPassed 1 r.ms else s.stepFailOpen 1 0
    | 2 => pass (s.step2 r)
    | 3 => pass (s.step3 r)
    | 4 => pass (s.step4 r)
    | 5 => pass (s.step5 r)
    | 6 => pass (s.step6 r)
    | 7 => if ¬ s.flag Reg.botStatusWarm ∧ s.fld Reg.secStatusRngFault = 3 then s else (s.step7 r).stepPassed 7 r.ms
    | 8 => s.stepPassed 8 r.ms
    | 9 => s.stepPassed 9 r.ms
    | _ => s

/-- START_STEP_DONE. -/
def execStartStepDone (r : StepResult) (s : State) : Host.Outcome State Fault Refusal := s.does (State.startStep r)

/-! ### Record writes (R33, R425) -/

/-- OPTIME_SAVE: record 0x0A joins the NVM write queue. -/
def execOptimeSave (s : State) : Host.Outcome State Fault Refusal :=
  s.does fun s => s.nvmPut (.counters s.opTime (s.fld Reg.glbPowerCyclesCount) (s.fld Reg.botWarmResetsCount) 0)

/-- RECORD_WRITE_DONE: the oldest waiting write of a TYPE ends; one of TYPE 0x0D that fails refuses the next audited action
(log entry 6, DESIGN CHOICE). -/
def State.recordDone (type : Nat) (ok : Bool) (s : State) : State :=
  if type = 13 then (if ok then s else { s with auditBad := true })
  else
    match s.nvmq.find? fun d => d.type == type with
    | none => s
    | some d =>
      let s := ({ s with nvmq := s.nvmq.erase d }).nvmSync
      if ok then (s.setNvm fun n => n.put d).bump Reg.botNvmWritesCount
      else
        let s := { s with nvm := s.nvm.dropOlder type }
        (s.bump Reg.botNvmFailsCount).ev 0x0E07 0 type (1 - tget s.nvm.newer 0 type) 4

/-- RECORD_WRITE_DONE. -/
def execRecordWriteDone (type : Nat) (ok : Bool) (s : State) : Host.Outcome State Fault Refusal :=
  s.does fun s => (State.recordDone type ok s).tryWarm

/-! ### Loads of records (R215, R216, R376, R463) -/

/-- A record load by a session: refused unless an installer's; its audit entry's ACTION and parameters are open. -/
def State.recordLoad (s : State) (r : Requester) (off : Nat) (act : State → State × Status) : State :=
  let u := if s.isInst r then act s else (s, .access)
  match sessOf r, s.mgmtRole r with
  | some i, some 1 =>
    let v := Config.freeValue s.free
    let t := s.fresh.auditAct i (v % 2 ^ 16) u.2 (natLe 8 (v / 2 ^ 16))
    if t.2 = u.2 then (act t.1).1.answer r off 0 u.2 else t.1.answer r off 0 t.2
  | _, _ => s.answer r off 0 u.2

/-- Discovery again under a new plan, of a port that is not UP (R216, R219, R221): HELD_LICENCE stays or is entered, any other
port trains again, as UNUSED where the plan names no neighbour. -/
def State.replanPort (s : State) (d : Nat) : State :=
  let none_ := bit (s.fld Reg.lanPlanIdNone) d
  if ¬ s.base ∨ s.portState d = 6 then s
  else if 6 ≤ d ∧ ¬ none_ ∧ ¬ s.scale then
    (((s.unlink d).setPort d { left := (s.port d).left }).setPortState d 6 0).ev 0x0606 (dieOfDim d) d 0 0
  else (s.rediscover d).when none_ fun t => t.setPortState d 7 0

/-- Discovery and fabric time again under a new plan (R216, R224). -/
def State.replan (s : State) : State :=
  (s.each ((List.range 16).filter fun d => s.portState d != 2) State.replanPort).newRoot

/-- Load a cabling plan (R216): malformed SHAPE, before SERVICE or with another slot STATE; the same module ID at once, else
staged. -/
def State.doPlan (p : Plan) (s : State) : State × Status :=
  if s.starting then (s, .state)
  else if p.root = p.backup ∨ 1024 ≤ p.rack ∨ 64 ≤ p.slot ∨ 65536 ≤ p.none ∨ 65536 ≤ p.root ∨ 65536 ≤ p.backup then
    (s.ev 0x0605 0 1 p.slot (s.fld Reg.glbSlotSlotId), .shape)
  else if p.slot ≠ s.fld Reg.glbSlotSlotId then (s.ev 0x0605 0 2 p.slot (s.fld Reg.glbSlotSlotId), .state)
  else
    let s := s.nvmPut (.plan p)
    if ¬ s.provisional ∧ planId p = s.myId then
      (((((s.planRegs p).extendM7).setFlag Reg.lanDiscStatusStaged false)).replan, .ok)
    else (s.setFlag Reg.lanDiscStatusStaged true, .ok)

/-- PLAN_LOAD. -/
def execPlanLoad (r : Requester) (plan : Plan) (s : State) : Host.Outcome State Fault Refusal :=
  s.granted fun s => s.recordLoad r Reg.lanPlanIdOff (State.doPlan plan)

/-- HOST_CONFIGURATION_LOAD: stored; in force at the next cold start. -/
def State.doHostCfg (c : HostCfg) (s : State) : State × Status := (s.nvmPut (.host c), .ok)

/-- HOST_CONFIGURATION_LOAD. -/
def execHostConfigurationLoad (r : Requester) (cfg : HostCfg) (s : State) : Host.Outcome State Fault Refusal :=
  s.granted fun s => s.recordLoad r Reg.hstStatusOff (State.doHostCfg cfg)

/-! ### BOT commands (R433, R434, R436, R442) -/

/-- Put a result into BOT_CMD_RESULT. -/
def State.botResult (s : State) (reason : Nat) (st : Status) : State :=
  (s.setFld Reg.botCmdResultReason reason).setFld Reg.botCmdResultStatus (stCode st)

/-- An ash entry that an installer may add: its fields in range; fields its type does not use are 0 (R432). -/
def ashWord (v : Nat) : Option (Nat × Nat × Nat × Nat × Nat) :=
  let (t, d, u, e, c) := (bits v 26 24, bits v 21 20, bits v 19 10, bits v 9 8, bits v 6 0)
  match t with
  | 1 => if u < 162 ∧ c < 66 then some (1, d, u, e, c) else none
  | 2 => if u < 162 then some (2, d, u, e, 0) else none
  | 3 => if u < 162 then some (3, d, u, 0, 0) else none
  | 4 => some (4, d, 0, 0, 0)
  | 5 => if u < 768 then some (5, 0, u, 0, 0) else none
  | _ => none

/-- A write of BOT_ASH_ADD: with GO the entry is added with cause 8, for the next cold start. -/
def State.doAshAdd (v : Nat) (s : State) : State × Status :=
  if bit v 31 then
    match ashWord v with
    | some (t, d, u, e, c) => ((s.ashAdd t 8 d u e c).botResult 0 .ok, .ok)
    | none => (s.botResult 0 .shape, .shape)
  else (s, .ok)

/-- BOT_ASH_ADD. -/
def execBotAshAdd (r : Requester) (value : Nat) (s : State) : Host.Outcome State Fault Refusal :=
  s.granted fun s =>
    let v := value % 2 ^ 31 + 2 ^ 31
    s.access r Reg.botAshAddOff v .write (gate (s.isInst r) (State.doAshAdd v))

/-- Reason to refuse WARM (R436), 0 for none. -/
def State.warmReason (s : State) : Nat :=
  if s.modState = .start ∨ s.modState = .test ∨ s.modState = .recovery then 1
  else if (List.range 16).any (fun i => s.flag (Reg.botLicSlotStatePending i)) ∨ s.flag Reg.lanDiscStatusStaged ∨ s.nvm.due then 2
  else if s.flag Reg.memStatusShortSeam then 3 else 0

/-- WARM through BOT_CMD: refused with a reason, else it waits for copies and record writes. -/
def State.doWarm (s : State) : State × Status :=
  match s.warmReason with
  | 0 => ({ (s.botResult 0 .ok) with start := { s.start with warmWait := true } }, .ok)
  | n => (s.botResult n .state, .state)

/-- WARM. -/
def execWarm (r : Requester) (s : State) : Host.Outcome State Fault Refusal :=
  s.granted fun s => (s.access r Reg.botCmdOff (2 ^ 31 + 1) .write (gate (s.isInst r) State.doWarm)).tryWarm

/-- FORGET through BOT_CMD: record 0x0C is discarded. -/
def State.doForget (s : State) : State × Status :=
  (({ s with nvmq := s.nvmq.filter fun d => d.type != 12 }.nvmSync.setNvm fun n => n.lose 12).botResult 0 .ok, .ok)

/-- FORGET. -/
def execForget (r : Requester) (s : State) : Host.Outcome State Fault Refusal :=
  s.granted fun s => s.access r Reg.botCmdOff (2 ^ 31 + 2) .write (gate (s.isInst r) State.doForget)

/-! ### Licences (R438, R439) -/

/-- The licences stored, with the writes that wait applied. -/
def State.licences (s : State) : Tbl Licence :=
  s.nvmq.foldl (fun t d => match d with | .licences u => u | _ => t) s.nvm.licences

/-- The licence in BOT_LIC_BUF. -/
def State.licBuf (s : State) : List Byte := (List.range 32).flatMap fun w => natLe 4 (s.fld (Reg.botLicBufWord w))

/-- Put a result into BOT_LIC_RESULT; SLOT stays where none was written or removed. -/
def State.licResult (s : State) (slot : Option Nat) (st : Status) : State :=
  let s := match slot with | some i => s.setFld Reg.botLicResultSlot i | none => s
  s.setFld Reg.botLicResultStatus (stCode st)

/-- Refuse a licence: event 0x0E05. -/
def State.refuseLicence (s : State) (check : Nat) (st : Status) (serial : Nat) : State × Status :=
  ((s.licResult none st).ev 0x0E05 s.unitSrc check (stCode st) serial, st)

/-- INSTALL: the five checks of R439; `sigOk` is the verdict on the signature. -/
def State.doLicInstall (sigOk : Bool) (s : State) : State × Status :=
  let b := s.licBuf
  let serial := field b 8 8
  if s.starting then (s.licResult none .state, .state)
  else if ¬ licenceShape b then s.refuseLicence 1 .shape serial
  else if ¬ (sigOk && s.licenceIssuer b) then s.refuseLicence 2 .access serial
  else if slice b 0x10 32 ≠ s.identity then s.refuseLicence 3 .access serial
  else if s.licences.any fun e => field e.2.bytes 8 8 == serial then (s.licResult none .ok, .ok)
  else
    let free := (List.range 16).filter fun i => (tfind s.licences i).isNone
    if free.isEmpty then s.refuseLicence 5 .length serial
    else
      let i := pick free (Config.freeValue s.free)
      let s := (s.fresh.nvmPut (.licences (tput s.licences i ⟨b⟩))).licSlot i (some ⟨b⟩)
      (((s.setFlag (Reg.botLicSlotStatePending i) true).ev 0x0E06 s.unitSrc i 1 serial).licResult (some i) .ok, .ok)

/-- LICENCE_INSTALL. -/
def execLicenceInstall (r : Requester) (sigOk : Bool) (s : State) : Host.Outcome State Fault Refusal :=
  s.granted fun s => s.access r Reg.botLicCmdOff 0x90000000 .write (gate (s.isInst r) (State.doLicInstall sigOk))

/-- REMOVE: frees the slot in record 0x05, from the next cold start. -/
def State.doLicRemove (i : Nat) (s : State) : State × Status :=
  if s.starting then (s.licResult none .state, .state)
  else match tfind s.licences i with
    | none => (s.licResult (some i) .ok, .ok)
    | some l =>
      let s := (s.nvmPut (.licences (tdel s.licences i))).licSlot i none
      (((s.setFlag (Reg.botLicSlotStatePending i) true).ev 0x0E06 s.unitSrc i 2 (field l.bytes 8 8)).licResult (some i) .ok, .ok)

/-- LICENCE_REMOVE. -/
def execLicenceRemove (r : Requester) (slot : Nat) (s : State) : Host.Outcome State Fault Refusal :=
  s.granted fun s => s.access r Reg.botLicCmdOff (0xA0000000 + slot % 16) .write (gate (s.isInst r) (State.doLicRemove (slot % 16)))

end Sys2Proof.Machine
end

