-- ==== Sys2Proof/Machine/Update.lean ====
section
/-! DEFINITION. Firmware images: staging by registers, broadcast, activation (R470 to R484; log entry 36, DEDUCED). -/

namespace Sys2Proof.Machine

/-! ### Manifests (R470, R471) -/

/-- A fixed page count fits R470. -/
def imagePages (m : List Byte) : Nat := field m 0x18 4

/-- MANIFEST_VERSION. -/
def imageVersion (m : List Byte) : Nat := field m 8 4

/-- First page, length and digest of part entry i. -/
def partEntry (m : List Byte) (i : Nat) : Nat × Nat × List Byte :=
  let o := 0x40 + 64 * i
  (field m (o + 4) 4, field m (o + 8) 4, slice m (o + 32) 32)

/-- The page after a part. -/
def partEnd (m : List Byte) (i : Nat) : Nat := (partEntry m i).1 + ((partEntry m i).2.1 + 4095) / 4096

/-- The part entries follow R471: types 1 to 5 ascending, part 0 at page 1, each later part at the page after the one before,
lengths non-zero, the last part ends in the last page. -/
def partsGood (m : List Byte) : Bool :=
  (List.range 5).all (fun i =>
    field m (0x40 + 64 * i) 1 == i + 1 && (partEntry m i).2.1 != 0
      && (partEntry m i).1 == (if i = 0 then 1 else partEnd m (i - 1)))
  && partEnd m 4 == imagePages m

/-- Bytes that no field names are 0. -/
def manifestReserved (m : List Byte) : Bool :=
  field m 0x17 1 == 0 && field m 0x16 1 < 2 && field m 0x1C 4 == 0 && field m 0x28 24 == 0 && field m 0x180 0xE40 == 0
  && (List.range 5).all fun i => field m (0x41 + 64 * i) 3 == 0 && field m (0x50 + 64 * i) 16 == 0

/-- Check 1 of R472. -/
def State.manifestShape (s : State) (m : List Byte) : Bool :=
  field m 0 4 == 0x544E464D && field m 4 2 == 1 && field m 6 2 == s.fld Reg.glbPartIdPart && imageVersion m != 0
  && field m 0x15 1 == 5 && decide (6 ≤ imagePages m ∧ imagePages m ≤ 24576) && partsGood m && manifestReserved m

/-- SIGNER names a maker key that may sign firmware (R455). -/
def State.imageSigner (s : State) (m : List Byte) : Bool :=
  s.keyTable.any fun e => field e.2.bytes 0 1 == 1 && bit (field e.2.bytes 1 1) 0 && field e.2.bytes 8 8 == field m 0x20 8

/-- The first failing check of R472 and its status; `sigOk` is the verdict on the signature. -/
def State.imageCheck (s : State) (m : List Byte) (sigOk : Bool) : Option (Nat × Status) :=
  let staging := s.fld Reg.botImgStatusStaging
  if ¬ s.manifestShape m then some (1, .shape)
  else if ¬ (sigOk && s.imageSigner m) then some (2, .access)
  else if field m 0xC 4 < s.fld Reg.secFloorVersion then some (3, .access)
  else if s.nvm.due ∨ staging = 1 ∨ staging = 2 ∨ s.flag Reg.botImgStatusSource then some (4, .state)
  else none

/-! ### Staging (R472, R473) -/

/-- The place of a page in the image buffer. -/
def pageKey (version page : Nat) : Nat := version * 2 ^ 15 + page

/-- A page that the module holds: from its image buffer, or from a VALID staging bank. -/
def State.pageHeld (s : State) (key : Nat) : Option (List Byte) :=
  match tfind s.update.buffer key with
  | some b => some b
  | none => match s.nvm.staging with
    | some i => if imageVersion (manifestOf i) = key / 2 ^ 15 then tfind i.pages (key % 2 ^ 15) else none
    | none => none

/-- Pages 0 to n - 1 of a version that the buffer holds. -/
def State.pagesIn (s : State) (version n : Nat) : List Nat :=
  (List.range n).filter fun k => (tfind s.update.buffer (pageKey version k)).isSome

/-- Change the update state. -/
def State.setUpdate (s : State) (f : Update → Update) : State := { s with update := f s.update }

/-- Put a page into the image buffer; of the image being staged, RECEIVED counts it. -/
def State.keepPage (s : State) (version page : Nat) (b : List Byte) : State :=
  let s := s.setUpdate fun u => { u with buffer := tput u.buffer (pageKey version page) b }
  if s.fld Reg.botImgStatusStaging = 1 ∧ imageVersion s.update.manifest = version then
    s.setFld Reg.botImgPagesReceived (s.pagesIn version (imagePages s.update.manifest)).length
  else s

/-- Enter RECEIVING: the bank directory holds INVALID from here on. -/
def State.beginStaging (s : State) (m : List Byte) (via : Nat) : State :=
  let s := s.setNvm fun n => { n with staging := none, bank := 4 }
  let s := s.setUpdate fun u => { u with manifest := m, via := via }
  let s := ((s.setFld Reg.botImgStatusStaging 1).setFlag Reg.botImgStatusIncomplete false).setFld Reg.botStagedVersionVersion 0
  let s := s.setFlag Reg.botImgStatusFormatChange (field m 0x10 2 != field (manifestOf s.nvm.active) 0x10 2)
  (s.setReg Reg.botImgPagesOff 0).keepPage (imageVersion m) 0 m

/-- The staging bank becomes INVALID; event 0x0E21 when a reason is given. -/
def State.stagingInvalid (s : State) : State :=
  (s.setFld Reg.botImgStatusStaging 4).setNvm fun n => { n with staging := none, bank := 4 }

/-- The page in BOT_IMG_BUF. -/
def State.imgBuf (s : State) : List Byte := (List.range 1024).flatMap fun w => natLe 4 (s.fld (Reg.botImgBufWord w))

/-- The outcome of a BOT_IMG_CMD command. -/
def State.imgResult (s : State) (st : Status) (check : Nat) : State × Status :=
  ((s.setFld Reg.botImgStatusStatus (stCode st)).setFld Reg.botImgStatusCheck check, st)

/-- BEGIN: page 0 is in the buffer. -/
def State.doBegin (sigOk : Bool) (s : State) : State × Status :=
  let m := s.imgBuf
  match s.imageCheck m sigOk with
  | some (n, st) => s.imgResult st n
  | none =>
    let v := imageVersion m
    let s := s.setUpdate fun u => { u with buffer := u.buffer.filter fun x => x.1 / 2 ^ 15 != v }
    (s.beginStaging m 1).imgResult .ok 0

/-- WRITE_PAGE. -/
def State.doWritePage (page : Nat) (s : State) : State × Status :=
  let m := s.update.manifest
  if s.fld Reg.botImgStatusStaging ≠ 1 then s.imgResult .state 0
  else if page = 0 ∨ imagePages m ≤ page then s.imgResult .shape 0
  else (s.keepPage (imageVersion m) page s.imgBuf).imgResult .ok 0

/-- FINISH: the pages are written and read back; IMAGE_WRITTEN tells the end. -/
def State.doImgFinish (s : State) : State × Status :=
  if s.fld Reg.botImgStatusStaging ≠ 1 then s.imgResult .state 0 else (s.setFld Reg.botImgStatusStaging 2).imgResult .ok 0

/-- Cancel: during RECEIVING or WRITING the image is abandoned, else DUE and the schedule are cleared (R477). -/
def State.doCancel (s : State) : State × Status :=
  if s.fld Reg.botImgStatusStaging = 1 ∨ s.fld Reg.botImgStatusStaging = 2 then s.stagingInvalid.imgResult .ok 0
  else
    let s := (s.setNvm fun n => { n with due := false }).setFlag Reg.botImgStatusDue false
    (s.setUpdate fun u => { u with schedule := none }).imgResult .ok 0

/-- BEGIN. -/
def execImageBegin (r : Requester) (sigOk : Bool) (s : State) : Host.Outcome State Fault Refusal :=
  s.granted fun s => s.access r Reg.botImgCmdOff 0x90000000 .write (gate (s.isInst r) (State.doBegin sigOk))

/-- WRITE_PAGE. -/
def execWritePage (r : Requester) (page : Nat) (s : State) : Host.Outcome State Fault Refusal :=
  s.granted fun s =>
    s.access r Reg.botImgCmdOff (0xA0000000 + page % 2 ^ 15) .no (gate (s.isInst r) (State.doWritePage (page % 2 ^ 15)))

/-- IMAGE_FINISH. -/
def execImageFinish (r : Requester) (s : State) : Host.Outcome State Fault Refusal :=
  s.granted fun s => s.access r Reg.botImgCmdOff 0xB0000000 .write (gate (s.isInst r) State.doImgFinish)

/-- CANCEL. -/
def execCancel (r : Requester) (s : State) : Host.Outcome State Fault Refusal :=
  s.granted fun s => s.access r Reg.botImgCmdOff 0xD0000000 .write (gate (s.isInst r) State.doCancel)

/-- The bytes of a part, from the pages of an image. -/
def partBytes (pages : Tbl (List Byte)) (m : List Byte) (i : Nat) : List Byte :=
  let (first, len, _) := partEntry m i
  ((List.range ((len + 4095) / 4096)).flatMap fun k => slice (tget pages [] (first + k)) 0 4096).take len

/-- Every part's SM3 is the one its entry holds. -/
def digestsMatch (pages : Tbl (List Byte)) (m : List Byte) : Bool :=
  (List.range 5).all fun i => hashBytes (sm3 (partBytes pages m i)) == (partEntry m i).2.2

/-- IMAGE_WRITTEN: every page received and every digest right make the bank VALID. -/
def State.imageWrittenBody (readBackOk : Bool) (s : State) : State :=
  let m := s.update.manifest
  let (v, n) := (imageVersion m, imagePages m)
  if s.fld Reg.botImgStatusStaging ≠ 2 then s
  else
    let have_ := s.pagesIn v n
    let pages := have_.foldl (fun (t : Tbl (List Byte)) k => tput t k (tget s.update.buffer [] (pageKey v k))) []
    let s := s.setFld Reg.botImgPagesWritten have_.length
    let bad := fun (t : State) check => (t.fresh.stagingInvalid).ev 0x0E21 t.unitSrc v (Config.freeValue t.free % 256) check
    if have_.length < n then bad s 6
    else if ¬ (readBackOk && digestsMatch pages m) then bad s 5
    else
      let s := s.setNvm fun d => { d with staging := some ⟨pages⟩, bank := 3 }
      ((s.setFld Reg.botImgStatusStaging 3).setFld Reg.botStagedVersionVersion v).ev 0x0E20 s.unitSrc v n s.update.via

/-- IMAGE_WRITTEN. -/
def execImageWritten (readBackOk : Bool) (s : State) : Host.Outcome State Fault Refusal :=
  s.does (State.imageWrittenBody readBackOk)

/-! ### Broadcast (R474 to R476) -/

/-- A branch of a broadcast is dark: event 0x0E27, once for each port and version. -/
def State.darkBranch (s : State) (d version : Nat) : State :=
  if s.update.dark.contains (d, version) then s
  else (s.setUpdate fun u => { u with dark := u.dark ++ [(d, version)] }).ev 0x0E27 s.unitSrc d version 0

/-- Queue a page for a port. -/
def State.queuePage (s : State) (d key mask : Nat) (pulled : Bool) : State :=
  s.setUpdate fun u => { u with out := tset u.out [] d (tget u.out [] d ++ [(key, mask, pulled)]) }

/-- SOURCE stands while a page of the own broadcast waits. -/
def State.sourceSync (s : State) : State :=
  if s.flag Reg.botImgStatusSource && s.update.out.all fun x => x.2.all fun y => y.2.2 then s.setFlag Reg.botImgStatusSource false
  else s

/-- BROADCAST: every page of the VALID staging image to every UP port of MASK. -/
def State.doBroadcast (s : State) : State × Status :=
  match s.fld Reg.botImgStatusStaging, s.nvm.staging with
  | 3, some i =>
    let m := manifestOf i
    let v := imageVersion m
    let mask := s.fld Reg.botImgBcastMask
    let s := s.setUpdate fun u => { u with dark := u.dark.filter fun x => x.2 != v }
    let s := s.each ((List.range 16).filter (bit mask)) fun t d =>
      if t.portUp d then t.each (List.range (imagePages m)) fun t k => t.queuePage d (pageKey v k) mask false
      else t.darkBranch d v
    ((s.setFlag Reg.botImgStatusSource true).sourceSync).imgResult .ok 0
  | _, _ => s.imgResult .state 0

/-- BROADCAST. -/
def execBroadcast (r : Requester) (s : State) : Host.Outcome State Fault Refusal :=
  s.granted fun s => s.access r Reg.botImgCmdOff 0xE0000000 .write (gate (s.isInst r) State.doBroadcast)

/-- An IMAGE_PAGE packet. -/
def pagePacket (src d key mask : Nat) (pulled : Bool) (b : List Byte) : Packet :=
  { dest := Nat.xor src (2 ^ d), src := src, cls := 4, long := true, length := 128, opcode := 0xE4
    cmd := natLe 4 (key / 2 ^ 15) ++ natLe 4 (key % 2 ^ 15) ++ natLe 2 mask ++ [if pulled then 1 else 0] ++ List.replicate 5 0
    data := slice b 0 4096 }

/-- IMAGE_PAGE_SEND: the next page of a port goes out; a port no longer UP loses what waits for it. -/
def State.sendPage (d : Nat) (s : State) : State :=
  match tget s.update.out [] d with
  | [] => s
  | (key, mask, pulled) :: rest =>
    if s.portUp d then
      let s := s.setUpdate fun u => { u with out := tset u.out [] d rest }
      let s := match s.pageHeld key with
        | some b => let p := pagePacket s.myId d key mask pulled b; s.place d (dieOfDim d) p p
        | none => s
      s.sourceSync
    else ((s.setUpdate fun u => { u with out := tset u.out [] d [] }).darkBranch d (key / 2 ^ 15)).sourceSync

/-- IMAGE_PAGE_SEND. -/
def execImagePageSend (port : Nat) (s : State) : Host.Outcome State Fault Refusal :=
  s.does fun s => if port < 16 then s.sendPage port else s

/-- A target holds every page of the broadcast it stages: FINISH by itself (R475). -/
def State.autoFinish (s : State) : State :=
  let m := s.update.manifest
  if s.fld Reg.botImgStatusStaging = 1 ∧ s.update.via = 2 ∧ (s.pagesIn (imageVersion m) (imagePages m)).length = imagePages m then
    s.setFld Reg.botImgStatusStaging 2
  else s

/-- Page 0 of a broadcast: staged when it passes R472 and its version differs from that of a VALID staging image. -/
def State.pageZero (s : State) (m : List Byte) (sigOk : Bool) : State :=
  let v := imageVersion m
  if (s.fld Reg.botImgStatusStaging = 1 ∨ s.fld Reg.botImgStatusStaging = 2) ∧ imageVersion s.update.manifest = v then s
  else
    let s := if s.fld Reg.botImgStatusStaging = 1 ∧ s.update.via = 2 then s
      else s.setUpdate fun u => { u with version := v, pages := min (imagePages m) 24576 }
    match s.imageCheck m sigOk with
    | some (n, st) => s.ev 0x0E21 s.unitSrc v (stCode st) n
    | none =>
      if s.fld Reg.botImgStatusStaging = 3 ∧ s.fld Reg.botStagedVersionVersion = v then s else s.beginStaging m 2

/-- Forward a page on each UP port of MASK above dimension d. -/
def State.forwardPage (s : State) (d key mask : Nat) : State :=
  s.each ((List.range 16).filter fun e => d < e && bit mask e) fun t e =>
    if t.portUp e then t.queuePage e key mask false else t.darkBranch e (key / 2 ^ 15)

/-- Give a page to the children that asked for it. -/
def State.answerAsked (s : State) (key mask : Nat) : State :=
  let t := s.each (s.update.asked.filter fun x => x.2 == key) fun t x => t.queuePage x.1 key mask true
  t.setUpdate fun u => { u with asked := u.asked.filter fun x => x.2 != key }

/-- IMAGE_PAGE received. -/
def State.takePage (d : Nat) (p : Packet) (sigOk : Bool) (s : State) : State :=
  let (v, n, mask) := (field p.cmd 0 4, field p.cmd 4 4, field p.cmd 8 2)
  let pulled := bit (field p.cmd 10 1) 0
  let key := pageKey v n
  let b := slice p.data 0 4096
  if ¬ p.tailOk then s.e2eError p
  else if p.opcode ≠ 0xE4 ∨ p.cls ≠ 4 ∨ ¬ p.long ∨ p.length ≠ 128 ∨ 24576 ≤ n ∨ ¬ s.portUp d then s
  else
    let s := ((s.setFlag Reg.botImgParentValid true).setFld Reg.botImgParentPort d).setFld Reg.botImgParentId p.src
    let s := s.setUpdate fun u => { u with mask := mask }
    let s := s.keepPage v n b
    let s := if pulled then s else s.forwardPage d key mask
    let s := s.answerAsked key mask
    (if n = 0 ∧ imageVersion b = v then s.pageZero b sigOk else s).autoFinish

/-- IMAGE_PAGE. -/
def execImagePage (port : Nat) (p : Packet) (sigOk : Bool) (s : State) : Host.Outcome State Fault Refusal :=
  s.does fun s => if port < 16 then s.takePage port p sigOk else s

/-- Runs of consecutive numbers of an ascending list: first and count. -/
def runsOf : List Nat → List (Nat × Nat)
  | [] => []
  | x :: xs => match runsOf xs with
    | (f, n) :: rs => if f = x + 1 then (x, n + 1) :: rs else (x, 1) :: (f, n) :: rs
    | [] => [(x, 1)]

/-- Send IMAGE_PULL to the parent. -/
def State.pull (s : State) (version first count : Nat) : State :=
  let d := s.fld Reg.botImgParentPort
  if s.flag Reg.botImgParentValid && s.portUp d then
    let p : Packet := { dest := Nat.xor s.myId (2 ^ d), src := s.myId, cls := 4, opcode := 0xE5
                        cmd := natLe 4 version ++ natLe 4 first ++ natLe 4 count ++ List.replicate 4 0 }
    s.place d (dieOfDim d) p p
  else s

/-- IMAGE_PULL received: held pages are answered, the others pulled in turn. -/
def State.takePull (d : Nat) (p : Packet) (s : State) : State :=
  let (v, first, count) := (field p.cmd 0 4, field p.cmd 4 4, field p.cmd 8 4)
  if p.opcode ≠ 0xE5 ∨ p.cls ≠ 4 ∨ ¬ s.portUp d then s
  else
    let ps := (List.range 24576).filter fun k => first ≤ k && k < first + count
    let (held, lacking) := ps.partition fun k => (s.pageHeld (pageKey v k)).isSome
    let s := s.each held fun t k => t.queuePage d (pageKey v k) t.update.mask true
    let s := s.each lacking fun t k => t.setUpdate fun u => { u with asked := u.asked ++ [(d, pageKey v k)] }
    s.each (runsOf lacking) fun t x => t.pull v x.1 x.2

/-- IMAGE_PULL. -/
def execImagePull (port : Nat) (p : Packet) (s : State) : Host.Outcome State Fault Refusal :=
  s.does fun s => if port < 16 then s.takePull port p else s

/-- Pages of the broadcast being received that are missing; none while page 0 has not come. -/
def State.pagesMissing (s : State) : List Nat :=
  let u := s.update
  if (tfind u.buffer (pageKey u.version 0)).isNone then []
  else (List.range u.pages).filter fun k => (tfind u.buffer (pageKey u.version k)).isNone

/-- IMAGE_PULL_TIMER: the first run of missing pages is asked of the parent. -/
def execImagePullTimer (s : State) : Host.Outcome State Fault Refusal :=
  s.does fun s => match runsOf s.pagesMissing with
    | (first, count) :: _ => s.pull s.update.version first count
    | [] => s

/-- BROADCAST_INCOMPLETE: the image is abandoned. -/
def State.giveUpImage (s : State) : State :=
  let missing := s.pagesMissing.length
  if missing = 0 then s
  else
    let v := s.update.version
    let s := (s.setFlag Reg.botImgStatusIncomplete true).ev 0x0E26 s.unitSrc v missing (s.fld Reg.botImgParentId)
    let s := if s.fld Reg.botImgStatusStaging = 1 ∧ s.update.via = 2 then s.stagingInvalid else s
    s.setUpdate fun u => { u with pages := 0 }

/-- BROADCAST_INCOMPLETE. -/
def execBroadcastIncomplete (s : State) : Host.Outcome State Fault Refusal := s.does State.giveUpImage

/-! ### Activation (R477, R478) -/

/-- ACTIVATE. -/
def State.doActivate (force : Bool) (s : State) : State × Status :=
  let t := s.pair Reg.botImgTimeLoOff
  if s.fld Reg.botImgStatusStaging ≠ 3 then s.imgResult .state 0
  else if t ≠ 0 ∧ ¬ s.flag Reg.lanTimeStatusValid then s.imgResult .state 0
  else
    let s := (s.setNvm fun n => { n with due := true }).setFlag Reg.botImgStatusDue true
    let s := (s.setFlag Reg.botImgStatusDeferred false).ev 0x0E22 s.unitSrc (s.fld Reg.botStagedVersionVersion) (t % 2 ^ 32) (t / 2 ^ 32)
    (s.setUpdate fun u => { u with schedule := if t = 0 then none else some (force, t) }).imgResult .ok 0

/-- ACTIVATE. -/
def execActivate (r : Requester) (force : Bool) (s : State) : Host.Outcome State Fault Refusal :=
  s.granted fun s =>
    s.access r Reg.botImgCmdOff (0xC0000000 + b2n force * 2 ^ 27) .write (gate (s.isInst r) (State.doActivate force))

/-- May the module restart for its image (R478)? -/
def State.mayRestart (s : State) (force : Bool) : Bool :=
  [ModState.service, .run, .degraded].contains s.modState && (force || s.ctxs.isEmpty)

/-- T has come: a cold start, or the activation is deferred to the next one. -/
def State.activationDue (s : State) : State :=
  match s.update.schedule with
  | none => s
  | some (force, t) =>
    if ¬ s.time.running ∨ s.fabricTime < t then s
    else if s.mayRestart force then (s.saveCounters 0).powerUp s.pins.slotId
    else
      let s := (s.setFlag Reg.botImgStatusDeferred true).setUpdate fun u => { u with schedule := none }
      s.ev 0x0E23 s.unitSrc (s.fld Reg.botStagedVersionVersion) (modCode s.modState) 0

/-- ACTIVATION_TIME. -/
def execActivationTime (s : State) : Host.Outcome State Fault Refusal := s.granted State.activationDue

/-- A write of BOT_IMG_CMD: with GO its ACTION is performed. -/
def State.doImgCmd (v : Nat) (sigOk : Bool) (s : State) : State × Status :=
  if ¬ bit v 31 then (s, .ok)
  else match bits v 30 28 with
    | 1 => s.doBegin sigOk
    | 2 => s.doWritePage (bits v 14 0)
    | 3 => s.doImgFinish
    | 4 => s.doActivate (bit v 27)
    | 5 => s.doCancel
    | 6 => s.doBroadcast
    | _ => s.imgResult .shape 0

end Sys2Proof.Machine
end

