-- ==== Sys2Proof/Machine/RegAccess.lean ====
section
/-! DEFINITION. The register window: what a read returns and what a write does, by offset (R13 to R16, R26 to R30, R93, R187,
R208, R227, R254 to R256, R280, R315, R347, R372, R418, R442, R460, R468, R483, R495, R520). -/

namespace Sys2Proof.Machine

/-! ### The map (R15, R16, R26) -/

/-- The _LO registers of 64-bit pairs, with their index ranges (R16). -/
def pairRows : List (Nat × List (Nat × Nat)) :=
  [ (0x18, []), (0x20108, [(4, 0x40)]), (0x80010, []), (0xa0008, [(128, 0x100)]), (0xa0010, [(128, 0x100)])
  , (0xa0020, [(128, 0x100)]), (0xa0058, [(128, 0x100)]), (0xa0060, [(128, 0x100)]), (0xdf200, []), (0xd8010, [(16, 0x100)])
  , (0xe1000, [(16, 0x80)]), (0xe1008, [(16, 0x80)]), (0xe1010, [(16, 0x80)]), (0xe1018, [(16, 0x80)]), (0x100014, [])
  , (0x12002c, []), (0x140204, [(8, 0x40)]), (0x14020c, [(8, 0x40)]), (0x10050, []), (0x1e0014, [])
  , (0x1e0204, [(16, 0x10)]), (0x160010, []), (0x160018, []), (0x160200, []), (0x160414, []), (0x1e1010, [])
  , (0x1a0004, []), (0x180018, []) ]

/-- Is a register the _LO half of a pair? -/
def isLo (off : Nat) : Bool := pairRows.any fun r => decide (r.1 ≤ off) && atDims r.2 (off - r.1)

/-- Is a register the _HI half of a pair? -/
def isHi (off : Nat) : Bool := decide (4 ≤ off) && isLo (off - 4)

/-- The channel and the offset within it of a DMA channel register (R208). -/
def dmaReg (off : Nat) : Option (Nat × Nat) :=
  if 0xA0000 ≤ off ∧ off < 0xA8000 then some ((off - 0xA0000) / 256, (off - 0xA0000) % 256) else none

/-- Does a register lie at an offset (R15)?  Control channels have no loop registers (R208); the steps of BOT_STEP_s_MS are
1 to 9 (R442). -/
def regHere (off : Nat) : Bool :=
  (regRow off).isSome && off != 0x1E0040
  && (match dmaReg off with
    | some (n, o) => ! (96 ≤ n && 0x30 ≤ o && o < 0x54)
    | none => true)

/-- An offset of the GLB or the PWR block: all that I3C reaches (R27). -/
def i3cReach (off : Nat) : Bool := decide (off < 0x10000) || (decide (0x180000 ≤ off) && decide (off < 0x1A0000))

/-! ### Reads -/

/-- A selector of a requester; 0 before its first write (R347, R442, R468, R495). -/
def State.sel (s : State) (r : Requester) (off : Nat) : Nat :=
  match (s.own r).sels.find? fun x => x.1 == off with
  | some x => x.2
  | none => 0

/-- Set a selector. -/
def State.setSel (s : State) (r : Requester) (off v : Nat) : State :=
  let x := s.own r
  s.setOwn r { x with sels := (x.sels.filter fun y => y.1 != off) ++ [(off, v)] }

/-- The ash entry that a requester selects (R442). -/
def State.ashSelected (s : State) (r : Requester) : Nat :=
  let v := s.sel r Reg.botAshSelOff
  (if bit v 31 then s.nvm.baseline else s.ash).getD (v % 4096) 0

/-- The 64-bit quantity of a pair, as it stands now. -/
def State.livePair (s : State) (r : Requester) (lo : Nat) : Nat :=
  if lo = Reg.glbOptimeMsLoOff then s.opTime
  else if lo = Reg.lanTimeLoOff then s.fabricTime
  else if lo = Reg.botAshReadLoOff then s.ashSelected r
  else if lo = Reg.secAuditSelLoOff then s.sel r lo
  else if lo = Reg.secKeySerialLoOff then s.serialOf (s.sel r Reg.secKeySelOff)
  else s.pair lo

/-- READY of a queue and EMPTY of a partition's sequencer (R160). -/
def State.liveFsq (s : State) (off : Nat) : Nat :=
  let w := (s.reg off).toNat
  if 0x20100 ≤ off ∧ off < 0x20200 ∧ off % 64 = 0 then
    let p := (off - 0x20100) / 64
    (putField (s.reg off) (Reg.fsqPartStatusEmpty p) (b2n (! (s.dies p).isEmpty && (s.live p).isEmpty))).toNat
  else if 0x21000 ≤ off ∧ off < 0x29000 ∧ off % 16 = 0 then
    let (c, q) := ((off - 0x21000) / 64, (off - 0x21000) / 16 % 4)
    (putField (s.reg off) (Reg.fsqCtxQStateReady c q) (b2n (s.queueReady c q))).toNat
  else w

/-- DMA_BUSY_w and DMA_HALTED_w (R209). -/
def State.dmaSummary (s : State) (off : Nat) : Nat :=
  let w := (off - 0xA8000) / 4 % 4
  let on := fun n => if off < 0xA8010 then s.dmaBusy n else s.dmaState n == dmaHalted
  ((List.range 32).filter fun i => on (32 * w + i)).foldl (fun a i => a + 2 ^ i) 0

/-- CTL_SWAP_DUE: operating seconds to the next planned swap (R409). -/
def State.swapSeconds (s : State) : Nat :=
  if s.activeUnit.isNone then (s.reg Reg.ctlSwapDueOff).toNat
  else (s.ctl.switched + s.fld Reg.ctlSwapIntervalH * 3600000 - s.opTime + 999) / 1000

/-- CTL_UNIT_u_INFO with the clean seconds of a unit in PROBATION (R407). -/
def State.unitInfo (s : State) (u : Nat) : Nat :=
  let w := s.reg (Reg.ctlUnitInfoOff u)
  if s.unitState u = 5 then (putField w (Reg.ctlUnitInfoProbationS u) (min ((s.clk - (s.cu u).probation) / 235000000) 60)).toNat
  else w.toNat

/-- The key entry in a requester's selected slot (R468). -/
def State.keyInfo (s : State) (r : Requester) : Nat :=
  match tfind s.keyTable (s.sel r Reg.secKeySelOff) with
  | some e => 2 ^ 31 + field e.bytes 0 1 % 4 * 2 ^ 24 + field e.bytes 1 1 % 8 * 2 ^ 16 + e.signer % 1024
  | none => 0

/-- The rank entry that a requester selects (R347). -/
def State.rankRead (s : State) (r : Requester) : Nat :=
  let v := s.sel r Reg.bnkRankSelOff
  let t := tget s.rankTabs {} (bits v 29 24)
  match (if bit v 31 then t.staged else t.ids)[v % 65536]? with
  | some id => 2 ^ 16 + id % 65536
  | none => 0

/-- Word w of the audit entry that a requester selects; 0 when it is not kept (R468). -/
def State.auditWord (s : State) (r : Requester) (w : Nat) : Nat :=
  match s.audit.find? fun e => field e 0 8 == s.sel r Reg.secAuditSelLoOff with
  | some e => field e (4 * w) 4
  | none => 0

/-- Selectors held per requester. -/
def isSel (off : Nat) : Bool :=
  off == Reg.bnkRankSelOff || off == Reg.botAshSelOff || off == Reg.secKeySelOff || off == Reg.evrCursorOff

/-- A 32-bit register that is no half of a pair, as it stands now. -/
def State.liveWord (s : State) (r : Requester) (off : Nat) : Nat :=
  if off = Reg.glbModuleStateOff then modCode s.modState
  else if 0x20000 ≤ off ∧ off < 0x29000 then s.liveFsq off
  else if 0xA8000 ≤ off ∧ off < 0xA8020 then s.dmaSummary off
  else if isSel off then s.sel r off
  else if off = Reg.lanEyeStatusOff 0 ∨ off = Reg.lanEyeStatusOff 1 then
    let f := (off - Reg.lanEyeStatusOff 0) / 0x8000
    (match tfind s.eyes f with
      | some x => (putField (s.reg off) (Reg.lanEyeStatusPoints f) (x.points s.clk)).toNat
      | none => (s.reg off).toNat)
  else if Reg.memSeamOff 0 ≤ off ∧ off < Reg.memSeamOff 48 then
    let m := (off - Reg.memSeamOff 0) / 4
    (putField (s.reg off) (Reg.memSeamPointer m) (s.copyPointer m / 2 ^ 15)).toNat
  else if off = Reg.bnkRankReadOff then s.rankRead r
  else if off = Reg.secKeyInfoOff then s.keyInfo r
  else if off = Reg.secKeyJobOff then
    (match tfind s.keyTable (s.sel r Reg.secKeySelOff) with | some e => field e.bytes 4 4 | none => 0)
  else if Reg.secAuditWinOff 0 ≤ off ∧ off < Reg.secAuditWinOff 16 then s.auditWord r ((off - Reg.secAuditWinOff 0) / 4)
  else if Reg.evrWindowOff 0 0 ≤ off ∧ off < Reg.evrWindowOff 8 0 then
    let i := (off - Reg.evrWindowOff 0 0) / 32
    field (s.slotBytes ((s.sel r Reg.evrCursorOff + i) % 65536)) ((off - Reg.evrWindowOff 0 0) % 32) 4
  else if off = Reg.rstEmberOff 0 ∨ off = Reg.rstEmberOff 1 then
    let u := (off - Reg.rstEmberOff 0) / 4
    (putField (s.reg off) (Reg.rstEmberAgeUs u) (s.emberAge u)).toNat
  else if off = Reg.ctlUnitInfoOff 0 ∨ off = Reg.ctlUnitInfoOff 1 then s.unitInfo ((off - Reg.ctlUnitInfoOff 0) / 16)
  else if off = Reg.ctlSwapDueOff then s.swapSeconds
  else if 0x180000 ≤ off ∧ off < 0x1A0000 then (s.dutySync.reg off).toNat
  else (s.reg off).toNat

/-- May a requester read an offset (R15, R27, R460)?  After a failed start only sessions read, BOT and GLB (R428). -/
def State.mayRead (s : State) (r : Requester) (off : Nat) : Bool :=
  regHere off && (match r with
    | .i3c => i3cReach off && ! s.startFailed
    | .session i => decide (i < 4096) && s.sessState i != 0 && (! s.startFailed || decide (off < 0x10000 ∨ 0x1E0000 ≤ off))
    | .firmware u => s.activeUnit == some u)

/-- A read: its value and status; a read of _LO captures the pair (R16). -/
def State.readReg (s : State) (r : Requester) (off : Nat) : State × Nat × Status :=
  if ¬ s.mayRead r off then (s, 0, .access)
  else if isLo off then
    let v := s.livePair r off
    let x := s.own r
    (s.setOwn r { x with captures := (x.captures.filter fun c => c.1 != off) ++ [(off, v / 2 ^ 32 % 2 ^ 32)] }, v % 2 ^ 32, .ok)
  else if isHi off then
    match (s.own r).captures.find? fun c => c.1 == off - 4 with
    | some c => (s, c.2, .ok)
    | none => (s, s.livePair r (off - 4) / 2 ^ 32 % 2 ^ 32, .ok)
  else (s, s.liveWord r off % 2 ^ 32, .ok)

/-! ### Writes -/

/-- Replace the bits of a mask in a register. -/
def State.putBits (s : State) (off mask v : Nat) : State :=
  let m := BitVec.ofNat 32 mask
  s.setReg off ((s.reg off &&& ~~~m) ||| (BitVec.ofNat 32 v &&& m))

/-- Clear the W1C bits that are written as 1 (R13). -/
def State.writeClear (s : State) (off mask v : Nat) : State :=
  let m := BitVec.ofNat 32 mask
  s.setReg off (s.reg off &&& ~~~(BitVec.ofNat 32 v &&& m))

/-- RW bits of the register at an offset (R13). -/
def rwBits (off : Nat) : Nat := match regRow off with | some r => r.rw | none => 0

/-- A write of a plain RW register. -/
def State.doRw (off v : Nat) (s : State) : State × Status := (s.putBits off (rwBits off) v, .ok)

/-- A write of a pair's half (R16): _LO is held, _HI completes it; a _HI without a held value updates its own bits alone. -/
def State.doHalf (r : Requester) (off v : Nat) (s : State) : State × Status :=
  let x := s.own r
  if isLo off then (s.setOwn r { x with holds := (x.holds.filter fun h => h.1 != off) ++ [(off, v)] }, .ok)
  else
    match x.holds.find? fun h => h.1 == off - 4 with
    | some h =>
      let s := s.setOwn r { x with holds := x.holds.filter fun h => h.1 != off - 4 }
      if off = Reg.secAuditSelHiOff then (s.setSel r (off - 4) (h.2 + v * 2 ^ 32), .ok)
      else ((s.putBits (off - 4) (rwBits (off - 4)) h.2).putBits off (rwBits off) v, .ok)
    | none =>
      if off = Reg.secAuditSelHiOff then (s.setSel r (off - 4) (s.sel r (off - 4) % 2 ^ 32 + v * 2 ^ 32), .ok)
      else (s.putBits off (rwBits off) v, .ok)

/-- A write of a field with a range: other values are ignored. -/
def State.doRange (f : Fld) (lo hi v : Nat) (s : State) : State × Status :=
  let x := bits v f.hi f.lo
  (if lo ≤ x ∧ x ≤ hi then s.setFld f x else s, .ok)

/-- A write of W1C bits. -/
def State.doW1c (off mask v : Nat) (s : State) : State × Status := (s.writeClear off mask v, .ok)

/-- A write that changes nothing: RO registers, reserved fields (R13, R14). -/
def State.doNothing (s : State) : State × Status := (s, .ok)

/-- A write of a DMA channel register (R190, R191, R200, R208). -/
def State.doDmaReg (r : Requester) (n o off v : Nat) (s : State) : State × Status :=
  if o = 0 then s.doCtrl n v
  else if s.dmaBusy n then (s, .state)
  else if rwBits off = 0 then (s, .ok)
  else if o = 0x1C then (if s.isFw r then s.doRw off v else (s, .access))
  else if isLo off || isHi off then s.doHalf r off v
  else s.doRw off v

/-- A write of RST_CMD. -/
def State.doRstWord (v : Nat) (s : State) : State × Status :=
  if bit v 31 then s.doRstCmd (bits v 7 4) (bits v 1 0) else (s, .ok)

/-- A write of RST_SPARE_TEST or CTL_SWAP: an interval out of its range is ignored (R372, R418). -/
def State.doInterval (enable interval : Fld) (lo hi v : Nat) (s : State) : State × Status :=
  (s.setFlag enable (bit v 31)).doRange interval lo hi v

/-- A write of CTL_CMD (R418). -/
def State.doCtlCmd (v : Nat) (s : State) : State × Status :=
  if ¬ bit v 31 then (s, .ok)
  else match bits v 1 0 with
    | 1 => s.doSwap
    | 2 => s.doUnitRestart (bits v 4 4)
    | _ => (s, .shape)

/-- A write of CTL_SVC (R416). -/
def State.doSvc (v : Nat) (s : State) : State × Status := (s.writeClear Reg.ctlSvcOff 2 v).doTrace (bit v 0)

/-- A write of BOT_CMD (R442). -/
def State.doBotCmd (v : Nat) (s : State) : State × Status :=
  if ¬ bit v 31 then (s, .ok)
  else match bits v 1 0 with
    | 1 => s.doWarm
    | 2 => s.doForget
    | _ => (s.botResult 0 .shape, .shape)

/-- A write of BOT_LIC_CMD (R442). -/
def State.doLicCmd (v : Nat) (sigOk : Bool) (s : State) : State × Status :=
  if ¬ bit v 31 then (s, .ok)
  else match bits v 29 28 with
    | 1 => s.doLicInstall sigOk
    | 2 => s.doLicRemove (bits v 3 0)
    | _ => (s.licResult none .shape, .shape)

/-- A write of SEC_ENROL_CMD (R468). -/
def State.doEnrolCmd (role v : Nat) (sigOk : Bool) (s : State) : State × Status :=
  if ¬ bit v 31 then (s, .ok)
  else match bits v 29 28 with
    | 1 => s.doEnrolAdd role sigOk
    | 2 => s.doEnrolRemove role (bits v 9 0)
    | _ => (s.enrolResult none 0 .shape, .shape)

/-- How a write of SEC_ENROL_CMD is audited (R464). -/
def State.enrolAudit (s : State) (v : Nat) : Audit :=
  if bit v 31 ∧ bits v 29 28 = 1 then .enrol 0x201 (field s.enrolBuf 0x70 8)
  else if bit v 31 ∧ bits v 29 28 = 2 then .enrol 0x202 (s.serialOf (bits v 9 0))
  else .write

/-- A write of BOT_ASH_SEL: only the maker sets BASELINE, and the maker sets nothing else (R442, R460). -/
def State.doAshSel (r : Requester) (v : Nat) (s : State) : State × Status :=
  let old := s.sel r Reg.botAshSelOff
  if s.isMaker r then (s.setSel r Reg.botAshSelOff (old % 2 ^ 31 + bits v 31 31 * 2 ^ 31), .ok)
  else (s.setSel r Reg.botAshSelOff (old / 2 ^ 31 * 2 ^ 31 + v % 4096), .ok)

/-- A write of a selector held per requester. -/
def State.doSel (r : Requester) (off v : Nat) (s : State) : State × Status :=
  (s.setSel r off (Nat.land v (rwBits off)), .ok)

/-- A write of PWR_ALERT (R518). -/
def State.doAlert (v : Nat) (s : State) : State × Status := ((s.writeClear Reg.pwrAlertOff 0x3F v).alertSync, .ok)

/-- A write of RST_EMBER_u: TRIPPED is RWS (R13). -/
def State.doTripped (u v : Nat) (s : State) : State × Status := (s.setFlag (Reg.rstEmberTripped u) (bit v 31), .ok)

/-- A verdict that a write through WRITE_REGS or REGISTER_WRITE has no operand for: a free value (log entry 6, DESIGN CHOICE). -/
def State.verdict (s : State) : Bool := Config.freeValue s.free % 2 == 1

/-- A write of the GLB, CTL, FSQ, KIL or MEM block: who may make it, how it is audited, what it does. -/
def State.writeLow (s : State) (r : Requester) (off v : Nat) : Audit × Bool × (State → State × Status) :=
  let inst := s.isInst r
  if off < 0x10000 then (.write, s.anyWriter r || isI3c r, State.doNothing)
  else if off = Reg.ctlUnitEmberOff 0 then (.no, r == .firmware 0, State.doEmber 0 (v % 2 ^ 16))
  else if off = Reg.ctlUnitEmberOff 1 then (.no, r == .firmware 1, State.doEmber 1 (v % 2 ^ 16))
  else if off = Reg.ctlSwapOff then (.write, inst, State.doInterval Reg.ctlSwapEnable Reg.ctlSwapIntervalH 1 24 v)
  else if off = Reg.ctlCmdOff then (.write, inst, State.doCtlCmd v)
  else if off = Reg.ctlSvcOff then (.write, inst, State.doSvc v)
  else if 0x40000 ≤ off ∧ off < 0x80000 then
    let k := (off - 0x40000) / 0x10000
    (.write, s.anyWriter r, fun s =>
      if s.flag (Reg.kilStatusResetting k) then (s, .state)
      else if off = Reg.kilEventsOff k then s.doW1c off 0x1F v else (s, .ok))
  else if off = Reg.memEventsOff then (.write, s.isOp r || inst, State.doW1c off 0x1F v)
  else if off = Reg.memScrubCtrlOff then (.write, inst, State.doRange Reg.memScrubCtrlPeriodH 1 24 v)
  else if off = Reg.memCeLimitOff then (.write, inst, State.doRw off v)
  else if off = Reg.memSpareStartOff then
    (.write, inst, if bit v 31 then State.doSpareStart (bits v 9 0) else State.doNothing)
  else (.write, s.anyWriter r, State.doNothing)

/-- A write of the DMA, LAN, RTR, CAR, BNK or HST block. -/
def State.writeMid (s : State) (r : Requester) (off v : Nat) : Audit × Bool × (State → State × Status) :=
  let inst := s.isInst r
  match dmaReg off with
  | some (n, o) => (.write, s.dmaWriter r n, State.doDmaReg r n o off v)
  | none =>
    if 0xC0000 ≤ off ∧ off < 0xC7000 ∧ off % 256 = 4 then
      (.write, inst, fun t => (t.fresh).doLaneCtrl ((off - 0xC0000) / 256) v s.verdict)
    else if 0xD8000 ≤ off ∧ off < 0xD9000 ∧ off % 256 = 4 then (.write, inst, State.doPortCtrl ((off - 0xD8000) / 256) v)
    else if off = Reg.lanEyeCtrlOff 0 then (.write, inst, State.doEyeCtrl 0 v)
    else if off = Reg.lanEyeCtrlOff 1 then (.write, inst, State.doEyeCtrl 1 v)
    else if off = Reg.lanDiscoverOff then (.write, inst, State.doDiscover v)
    else if 0xC0000 ≤ off ∧ off < 0xD9000 then (.write, inst, State.doNothing)
    else if off = Reg.rtrCtrlOff then (.write, inst, State.doRtrCtrl v)
    else if off = Reg.rtrReqTimeoutOff then (.write, inst, State.doRange Reg.rtrReqTimeoutUs 100 100000 v)
    else if 0xE0000 ≤ off ∧ off < 0x100000 then (.write, inst, State.doNothing)
    else if off = Reg.carStallMsOff then (.write, inst, State.doRange Reg.carStallMsMs 1 60000 v)
    else if off = Reg.bnkStallMsOff then (.write, inst, State.doRange Reg.bnkStallMsMs 10 60000 v)
    else if off = Reg.bnkEventsOff then (.write, s.anyWriter r, State.doW1c off 0x1F v)
    else if off = Reg.bnkRankSelOff then (.write, s.isOp r || inst, State.doSel r off v)
    else (.write, s.anyWriter r, State.doNothing)

/-- A write of the SEC, PWR, EVR, RST or BOT block. -/
def State.writeHigh (s : State) (r : Requester) (off v : Nat) : Audit × Bool × (State → State × Status) :=
  let inst := s.isInst r
  let opInst := s.isOp r || inst
  if off = Reg.secAuditSelLoOff ∨ off = Reg.secAuditSelHiOff then (.write, s.anyWriter r, State.doHalf r off v)
  else if off = Reg.secKeySelOff then (.write, s.anyWriter r, State.doSel r off v)
  else if Reg.secEnrolBufOff 0 ≤ off ∧ off < Reg.secEnrolBufOff 64 then (.no, inst || s.isMaker r, State.doRw off v)
  else if off = Reg.secEnrolCmdOff then
    (s.enrolAudit v, inst || s.isMaker r, fun t => (t.fresh).doEnrolCmd (s.roleOf r) v s.verdict)
  else if off = Reg.pwrCapWOff then (.power, isI3c r, State.doCapWrite v)
  else if off = Reg.pwrOpCapWOff then (.power, opInst, State.doOpCap v)
  else if off = Reg.pwrLimitsOff then (.power, inst, State.doLimits (v / 65536) (v % 65536))
  else if off = Reg.pwrTrayTempOff then (.power, isI3c r, State.doRw off v)
  else if off = Reg.pwrTrayFlowOff then (.power, isI3c r, State.doReport v)
  else if off = Reg.pwrAlertOff then (.power, isI3c r || inst, State.doAlert v)
  else if 0x180000 ≤ off ∧ off < 0x1A0000 then (.power, false, State.doNothing)
  else if off = Reg.evrCursorOff then (.write, opInst, State.doSel r off v)
  else if off = Reg.rstCmdOff then (.write, s.mayReset r (bits v 7 4), State.doRstWord v)
  else if off = Reg.rstCtrlOff then (.write, inst, State.doRange Reg.rstCtrlMaxLevel 4 6 v)
  else if off = Reg.rstFaultContextOff then
    (.write, s.anyWriter r, if bit v 31 then State.doFaultClear else State.doNothing)
  else if off = Reg.rstEmberOff 0 then (.write, s.anyWriter r, State.doTripped 0 v)
  else if off = Reg.rstEmberOff 1 then (.write, s.anyWriter r, State.doTripped 1 v)
  else if off = Reg.rstSnapHoldOff then (.write, opInst, State.doRw off v)
  else if off = Reg.rstSpareTestOff then
    (.write, inst, State.doInterval Reg.rstSpareTestEnable Reg.rstSpareTestIntervalS 60 65535 v)
  else if off = Reg.botAshSelOff then (.write, opInst || s.isMaker r, State.doAshSel r v)
  else if off = Reg.botAshAddOff then (.write, inst, State.doAshAdd v)
  else if off = Reg.botCmdOff then (.write, inst, State.doBotCmd v)
  else if Reg.botLicBufOff 0 ≤ off ∧ off < Reg.botLicBufOff 32 then (.no, inst, State.doRw off v)
  else if off = Reg.botLicCmdOff then (.write, inst, fun t => (t.fresh).doLicCmd v s.verdict)
  else if off = Reg.botImgCmdOff then
    (if bits v 30 28 = 2 then .no else .write, inst, fun t => (t.fresh).doImgCmd v s.verdict)
  else if off = Reg.botImgTimeLoOff ∨ off = Reg.botImgTimeHiOff then (.write, inst, State.doHalf r off v)
  else if off = Reg.botImgBcastOff then (.write, inst, State.doRw off v)
  else if Reg.botImgBufOff 0 ≤ off ∧ off < Reg.botImgBufOff 1024 then (.no, inst, State.doRw off v)
  else (.write, s.anyWriter r, State.doNothing)

/-- A write of one register by a requester, with its audit entry (R13, R15, R27, R465). -/
def State.writeReg (s : State) (r : Requester) (off value : Nat) : State × Status :=
  let v := value % 2 ^ 32
  if ¬ regHere off ∨ (isI3c r ∧ ¬ i3cReach off) then (s, .access)
  else
    let (a, ok, act) := if off < 0xA0000 then s.writeLow r off v
      else if off < 0x160000 then s.writeMid r off v else s.writeHigh r off v
    s.carry r off v a (gate ok act)

/-- REGISTER_WRITE. -/
def execRegisterWrite (r : Requester) (off value : Nat) (s : State) : Host.Outcome State Fault Refusal :=
  let write := fun (s : State) =>
    let t := s.writeReg r off value
    (t.1.answer r off value t.2).tryWarm
  if off = Reg.rstCmdOff then s.commanded write else s.granted write

/-! ### READ_REGS and WRITE_REGS (R390, R460, R461) -/

/-- Read a list of registers: the values, and the first status other than OK. -/
def State.readAll (s : State) (r : Requester) : List Nat → State × List Nat × Status
  | [] => (s, [], .ok)
  | off :: offs =>
    let t := s.readReg r off
    let u := t.1.readAll r offs
    (u.1, t.2.1 :: u.2.1, if t.2.2 = .ok then u.2.2 else t.2.2)

/-- READ_REGS. -/
def State.doReadRegs (o : Origin) (offs : List Nat) (s : State) : State :=
  if offs.isEmpty ∨ 2048 < offs.length then s.finish o .length
  else
    let t := s.readAll (.session o.sess) offs
    t.1.finish o t.2.2 {} [] (t.2.1.flatMap (natLe 4))

/-- READ_REGS. -/
def execReadRegs (o : Origin) (offs : List Nat) (s : State) : Host.Outcome State Fault Refusal :=
  s.granted fun s => s.hostCmd o 0x61 (State.doReadRegs o offs)

/-- Apply writes in order up to the first that fails: how many were applied, and its status. -/
def State.writeAll (s : State) (r : Requester) : List (Nat × Nat) → State × Nat × Status
  | [] => (s, 0, .ok)
  | w :: ws =>
    let t := s.writeReg r w.1 w.2
    if t.2 = .ok then
      let u := t.1.writeAll r ws
      (u.1, u.2.1 + 1, u.2.2)
    else (t.1, 0, t.2)

/-- WRITE_REGS: on the management port only. -/
def State.doWriteRegs (o : Origin) (writes : List (Nat × Nat)) (s : State) : State :=
  if s.fld (Reg.hstSessionStatePort o.sess) ≠ 8 then s.finish o .shape
  else if writes.isEmpty ∨ 1024 < writes.length then s.finish o .length
  else
    let t := s.writeAll (.session o.sess) writes
    t.1.finish o t.2.2 {} (natLe 2 t.2.1)

/-- WRITE_REGS. -/
def execWriteRegs (o : Origin) (writes : List (Nat × Nat)) (s : State) : Host.Outcome State Fault Refusal :=
  s.granted fun s => s.hostCmd o 0x63 (State.doWriteRegs o writes)

end Sys2Proof.Machine
end

