-- ==== Sys2Proof/Machine/Commands.lean ====
section
/-! DEFINITION. COMMAND: a transport packet taken in SEQ order, acknowledged, and its command performed (R388 to R392);
COMMAND_DONE: the one reply of a command (R389). -/

namespace Sys2Proof.Machine

/-- The next state of an outcome; a command that stops leaves the state. -/
def nextOr (s : State) : Host.Outcome State Fault Refusal → State
  | .next t => t
  | _ => s

/-- Perform a host command (R390). -/
def State.perform (s : State) (i : Instr) : State :=
  match i with
  | .nop o => nextOr s (execNop o s)
  | .contextCreate o p => nextOr s (execContextCreate o p s)
  | .contextDestroy o c => nextOr s (execContextDestroy o c s)
  | .contextAbort o c => nextOr s (execContextAbort o c s)
  | .doorbell o c q t => nextOr s (execDoorbell o c q t s)
  | .queueRestart o c q e => nextOr s (execQueueRestart o c q e s)
  | .setSplit o n => nextOr s (execSetSplit o n s)
  | .syncSet o n c v => nextOr s (execSyncSet o n c v s)
  | .syncWait o n t us => nextOr s (execSyncWait o n t us s)
  | .slotOpen o p => nextOr s (execSlotOpen o p s)
  | .slotClose o p => nextOr s (execSlotClose o p s)
  | .slotTruncate o p => nextOr s (execSlotTruncate o p s)
  | .slotRepoint o p => nextOr s (execSlotRepoint o p s)
  | .memRead o a n => nextOr s (execMemRead o a n s)
  | .memWrite o a n d => nextOr s (execMemWrite o a n d s)
  | .memAtomic o a op n d => nextOr s (execMemAtomic o a op n d s)
  | .regionAssign o r c => nextOr s (execRegionAssign o r c s)
  | .regionRelease o r => nextOr s (execRegionRelease o r s)
  | .dmaBind o n c => nextOr s (execDmaBind o n c s)
  | .dmaRelease o n => nextOr s (execDmaRelease o n s)
  | .dmaStart o n b => nextOr s (execDmaStart o n b s)
  | .dmaAbort o n => nextOr s (execDmaAbort o n s)
  | .groupCreate o p => nextOr s (execGroupCreate o p s)
  | .groupDestroy o g => nextOr s (execGroupDestroy o g s)
  | .groupDoorbell o g t => nextOr s (execGroupDoorbell o g t s)
  | .installRanks o n f ids => nextOr s (execInstallRanks o n f ids s)
  | .stageRanks o n f ids g => nextOr s (execStageRanks o n f ids g s)
  | .formRick o p => nextOr s (execFormRick o p s)
  | .dissolveRick o => nextOr s (execDissolveRick o s)
  | .join o p => nextOr s (execJoin o p s)
  | .rebuild o n => nextOr s (execRebuild o n s)
  | .rollback o t => nextOr s (execRollback o t s)
  | .eventRead o f n => nextOr s (execEventRead o f n s)
  | .readRegs o offs => nextOr s (execReadRegs o offs s)
  | .resetRequest o l p => nextOr s (execResetRequest o l p s)
  | .writeRegs o ws => nextOr s (execWriteRegs o ws s)
  | .attest o n => nextOr s (execAttest o n s)
  | _ => s

/-- Take a COMMAND body in its turn: refused at once, or performed.  A CLOSING session's commands are not performed (R394). -/
def State.takeCommand (s : State) (p : HostPkt) : State :=
  if s.sessState p.sess = 4 then s
  else
    let body := p.body (s.sess p.sess).keys.1
    let o : Origin := ⟨p.sess, p.seq, tagOf body, p.epoch⟩
    match hostInstr o body with
    | .error st => s.reply o (field body 0 1) st {} [] []
    | .ok i => s.perform i

/-- COMMAND. -/
def execCommand (p : HostPkt) (s : State) : Host.Outcome State Fault Refusal :=
  s.does fun s => s.receive p 0x10 8224 fun s => s.inOrder p fun s => s.takeCommand p

/-- COMMAND_DONE; a warm reset asked for by WRITE_REGS follows its reply (R436). -/
def execCommandDone (o : Origin) (s : State) : Host.Outcome State Fault Refusal := s.does fun s => (s.commandDone o).tryWarm

end Sys2Proof.Machine
end

