-- ==== Sys2Proof/Machine/Losses.lean ====
section
/-! DEFINITION. Losses of compute units found while the module runs (R19, R81 to R90, R369; log entry 24, DESIGN CHOICE). -/

namespace Sys2Proof.Machine

/-- A residue mismatch at a spill (R81): the first recomputes the group, the second in the same group declares the column
bad. -/
def State.residueMismatch (k p e c : Nat) (second : Bool) (s : State) : State :=
  if ¬ s.coreAlive k p ∨ 4 ≤ e ∨ 66 ≤ c then s
  else if second then
    if s.residue.contains (k, p, e, c) then
      ({ s with residue := s.residue.filter fun x => ! (x == (k, p, e, c)) }).badColumn k p e c
    else s
  else
    let s := { s with residue := s.residue.filter (fun x => ! (x == (k, p, e, c))) ++ [(k, p, e, c)] }
    (s.bump (Reg.kilResidueRetriesCount k)).ev 0x0304 k p e c

/-- RESIDUE_RETRY. -/
def execResidueRetry (die core engine column : Nat) (second : Bool) (s : State) : Host.Outcome State Fault Refusal :=
  s.granted (State.residueMismatch die core engine column second)

/-- A double-bit store error (R82): event 0x0308, the firing that read it ends MEM_UNCORRECTABLE, a core owes a store check.
`unit` is a physical core, or 0x100 + cluster. -/
def State.storeError (k unit word : Nat) (s : State) : State :=
  let core := unit < 256
  if ¬ s.storeAlive k unit then s
  else
    let s := (s.setFlag (Reg.kilEventsStoreUncorr k) true).ev 0x0308 k unit word 0
    let s := match (s.part (s.partOf k)).run with
      | some r => if r.stage = .framePass ∨ r.stage = .main then s.faultFiring (s.partOf k) { status := .memUncorrectable } else s
      | none => s
    if core && ! s.storeDue.contains (k, unit) then { s with storeDue := s.storeDue ++ [(k, unit)] } else s

/-- STORE_UNCORRECTABLE. -/
def execStoreUncorrectable (die unit word : Nat) (s : State) : Host.Outcome State Fault Refusal :=
  s.granted (State.storeError die unit word)

/-- The store check of a core may run (R369): its partition has no firing between Fetch and Complete, no reset is in progress on
its die. -/
def State.mayCheckStore (s : State) (k p : Nat) : Bool :=
  s.storeDue.contains (k, p) && (s.part (s.partOf k)).run.isNone && ! s.dieInReset k

/-- STORE_CHECK: a core that passes stays mapped, one that fails is lost (R82, R369). -/
def State.storeChecked (k p : Nat) (pass : Bool) (s : State) : State :=
  if s.mayCheckStore k p then
    let s := { s with storeDue := s.storeDue.filter fun x => ! (x == (k, p)) }
    if pass then s else s.loseCore k p 2 4
  else s

/-- STORE_CHECK. -/
def execStoreCheck (die core : Nat) (pass : Bool) (s : State) : Host.Outcome State Fault Refusal :=
  s.does (State.storeChecked die core pass)

/-- CAUSE of the ash entry of a core, by the cause of event 0x0301 (R94, R432).  A core reported lost with its engine, without
the engine's number, is entered itself (log entry 24, DESIGN CHOICE). -/
def ashCauseOf : Nat → Nat
  | 1 => 3 | 2 => 4 | 3 => 9 | 4 => 5 | 5 => 10 | _ => 0

/-- CORE_LOST (R88). -/
def execCoreLost (die core cause : Nat) (s : State) : Host.Outcome State Fault Refusal :=
  s.granted fun s => if s.coreAlive die core ∧ 1 ≤ cause ∧ cause ≤ 5 then s.loseCore die core cause (ashCauseOf cause) else s

/-- DIE_LOST (R90). -/
def execDieLost (die cause : Nat) (s : State) : Host.Outcome State Fault Refusal :=
  s.granted fun s => if die < 4 ∧ 1 ≤ cause ∧ cause ≤ 4 then s.loseDie die cause else s

/-- PASS_THROUGH_FAILED (R19): direction 0 F0 to F1, 1 F1 to F0, 2 both. -/
def execPassThroughFailed (die direction : Nat) (s : State) : Host.Outcome State Fault Refusal :=
  s.granted fun s =>
    if die < 4 ∧ direction ≤ 2 then
      ((s.setFlag (Reg.kilStatusPtFail die) true).setFlag (Reg.kilEventsPtFailSeen die) true).ev 0x0309 die direction 0 0
    else s

end Sys2Proof.Machine
end

