-- ==== Sys2Proof/Machine/Dispatch.lean ====
section
/-! DEFINITION. Dispatch: one arm per command, each the direct call of its meaning. -/

namespace Sys2Proof.Machine

/-- The effect of a command on everything but the queue of waiting commands. -/
def exec (i : Instr) (s : State) : Host.Outcome State Fault Refusal :=
  match i with
  | .nop o => Sys2Proof.Machine.execNop o s
  | .contextCreate o p => Sys2Proof.Machine.execContextCreate o p s
  | .contextDestroy o ctx => Sys2Proof.Machine.execContextDestroy o ctx s
  | .contextAbort o ctx => Sys2Proof.Machine.execContextAbort o ctx s
  | .doorbell o ctx queue tail => Sys2Proof.Machine.execDoorbell o ctx queue tail s
  | .queueRestart o ctx queue entry => Sys2Proof.Machine.execQueueRestart o ctx queue entry s
  | .setSplit o split => Sys2Proof.Machine.execSetSplit o split s
  | .syncSet o counter clear value => Sys2Proof.Machine.execSyncSet o counter clear value s
  | .syncWait o counter target timeoutUs => Sys2Proof.Machine.execSyncWait o counter target timeoutUs s
  | .syncWaitTimeout o => Sys2Proof.Machine.execSyncWaitTimeout o s
  | .slotOpen o p => Sys2Proof.Machine.execSlotOpen o p s
  | .slotClose o p => Sys2Proof.Machine.execSlotClose o p s
  | .slotTruncate o p => Sys2Proof.Machine.execSlotTruncate o p s
  | .slotRepoint o p => Sys2Proof.Machine.execSlotRepoint o p s
  | .memRead o addr len => Sys2Proof.Machine.execMemRead o addr len s
  | .memWrite o addr len data => Sys2Proof.Machine.execMemWrite o addr len data s
  | .memAtomic o addr op size operands => Sys2Proof.Machine.execMemAtomic o addr op size operands s
  | .regionAssign o region ctx => Sys2Proof.Machine.execRegionAssign o region ctx s
  | .zeroingDone region => Sys2Proof.Machine.execZeroingDone region s
  | .regionRelease o region => Sys2Proof.Machine.execRegionRelease o region s
  | .dmaBind o ch ctx => Sys2Proof.Machine.execDmaBind o ch ctx s
  | .dmaRelease o ch => Sys2Proof.Machine.execDmaRelease o ch s
  | .dmaStart o ch image => Sys2Proof.Machine.execDmaStart o ch image s
  | .dmaAbort o ch => Sys2Proof.Machine.execDmaAbort o ch s
  | .groupCreate o p => Sys2Proof.Machine.execGroupCreate o p s
  | .groupDestroy o gid => Sys2Proof.Machine.execGroupDestroy o gid s
  | .groupDoorbell o gid tail => Sys2Proof.Machine.execGroupDoorbell o gid tail s
  | .installRanks o n first ids => Sys2Proof.Machine.execInstallRanks o n first ids s
  | .stageRanks o n first ids gen => Sys2Proof.Machine.execStageRanks o n first ids gen s
  | .formRick o p => Sys2Proof.Machine.execFormRick o p s
  | .dissolveRick o => Sys2Proof.Machine.execDissolveRick o s
  | .join o p => Sys2Proof.Machine.execJoin o p s
  | .rebuild o spare => Sys2Proof.Machine.execRebuild o spare s
  | .rollback o bank => Sys2Proof.Machine.execRollback o bank s
  | .eventRead o first count => Sys2Proof.Machine.execEventRead o first count s
  | .readRegs o offs => Sys2Proof.Machine.execReadRegs o offs s
  | .resetRequest o level part => Sys2Proof.Machine.execResetRequest o level part s
  | .attest o nonce => Sys2Proof.Machine.execAttest o nonce s
  | .writeRegs o writes => Sys2Proof.Machine.execWriteRegs o writes s
  | .hello h => Sys2Proof.Machine.execHello h s
  | .finish p confirmOk => Sys2Proof.Machine.execFinish p confirmOk s
  | .handshakeTimeout sess => Sys2Proof.Machine.execHandshakeTimeout sess s
  | .command p => Sys2Proof.Machine.execCommand p s
  | .ack p => Sys2Proof.Machine.execAck p s
  | .close p => Sys2Proof.Machine.execClose p s
  | .retransmitTimeout sess => Sys2Proof.Machine.execRetransmitTimeout sess s
  | .disconnectedTimeout sess => Sys2Proof.Machine.execDisconnectedTimeout sess s
  | .hostPortDown port => Sys2Proof.Machine.execHostPortDown port s
  | .hostPortUp port => Sys2Proof.Machine.execHostPortUp port s
  | .commandDone o => Sys2Proof.Machine.execCommandDone o s
  | .dmaCtrlStart r ch value => Sys2Proof.Machine.execDmaCtrlStart r ch value s
  | .dmaCtrlAbort r ch => Sys2Proof.Machine.execDmaCtrlAbort r ch s
  | .dmaCtrlClear r ch => Sys2Proof.Machine.execDmaCtrlClear r ch s
  | .dmaRequestIssue ch => Sys2Proof.Machine.execDmaRequestIssue ch s
  | .dmaReply ch req => Sys2Proof.Machine.execDmaReply ch req s
  | .dmaTransferDone ch => Sys2Proof.Machine.execDmaTransferDone ch s
  | .dmaDrained ch => Sys2Proof.Machine.execDmaDrained ch s
  | .lanDiscover r mask => Sys2Proof.Machine.execLanDiscover r mask s
  | .laneCtrlDrop r lane => Sys2Proof.Machine.execLaneCtrlDrop r lane s
  | .laneCtrlRestore r lane => Sys2Proof.Machine.execLaneCtrlRestore r lane s
  | .lanePrbsEnable r lane => Sys2Proof.Machine.execLanePrbsEnable r lane s
  | .laneLoopback r lane mode peerUp => Sys2Proof.Machine.execLaneLoopback r lane mode peerUp s
  | .portCtrlRetrain r port => Sys2Proof.Machine.execPortCtrlRetrain r port s
  | .portCtrlForget r port => Sys2Proof.Machine.execPortCtrlForget r port s
  | .eyeScanStart r die value => Sys2Proof.Machine.execEyeScanStart r die value s
  | .eyeScanAbort r die => Sys2Proof.Machine.execEyeScanAbort r die s
  | .eyeScanDone die errors => Sys2Proof.Machine.execEyeScanDone die errors s
  | .clearHwm r => Sys2Proof.Machine.execClearHwm r s
  | .memSpareStart r channel => Sys2Proof.Machine.execMemSpareStart r channel s
  | .rstCmdPartition r part => Sys2Proof.Machine.execRstCmdPartition r part s
  | .rstCmdChip r => Sys2Proof.Machine.execRstCmdChip r s
  | .rstCmdPowerCycle r => Sys2Proof.Machine.execRstCmdPowerCycle r s
  | .faultContextClear r => Sys2Proof.Machine.execFaultContextClear r s
  | .ctlSwapCommand r => Sys2Proof.Machine.execCtlSwapCommand r s
  | .unitRestart r unit => Sys2Proof.Machine.execUnitRestart r unit s
  | .ember r unit count => Sys2Proof.Machine.execEmber r unit count s
  | .traceEnWrite r value => Sys2Proof.Machine.execTraceEnWrite r value s
  | .botAshAdd r value => Sys2Proof.Machine.execBotAshAdd r value s
  | .warm r => Sys2Proof.Machine.execWarm r s
  | .forget r => Sys2Proof.Machine.execForget r s
  | .licenceInstall r sigOk => Sys2Proof.Machine.execLicenceInstall r sigOk s
  | .licenceRemove r slot => Sys2Proof.Machine.execLicenceRemove r slot s
  | .imageBegin r sigOk => Sys2Proof.Machine.execImageBegin r sigOk s
  | .writePage r page => Sys2Proof.Machine.execWritePage r page s
  | .imageFinish r => Sys2Proof.Machine.execImageFinish r s
  | .imageWritten readBackOk => Sys2Proof.Machine.execImageWritten readBackOk s
  | .activate r force => Sys2Proof.Machine.execActivate r force s
  | .cancel r => Sys2Proof.Machine.execCancel r s
  | .broadcast r => Sys2Proof.Machine.execBroadcast r s
  | .enrolAdd r sigOk => Sys2Proof.Machine.execEnrolAdd r sigOk s
  | .enrolRemove r slot => Sys2Proof.Machine.execEnrolRemove r slot s
  | .pwrCapWrite r watts => Sys2Proof.Machine.execPwrCapWrite r watts s
  | .opCapWrite r watts => Sys2Proof.Machine.execOpCapWrite r watts s
  | .limitsWrite r maxW minW => Sys2Proof.Machine.execLimitsWrite r maxW minW s
  | .trayReport r flow => Sys2Proof.Machine.execTrayReport r flow s
  | .planLoad r plan => Sys2Proof.Machine.execPlanLoad r plan s
  | .registerWrite r off value => Sys2Proof.Machine.execRegisterWrite r off value s
  | .packetIngress port p => Sys2Proof.Machine.execPacketIngress port p s
  | .packetTransmit die port vc => Sys2Proof.Machine.execPacketTransmit die port vc s
  | .read p => Sys2Proof.Machine.execRead p s
  | .write p => Sys2Proof.Machine.execWrite p s
  | .writeMasked p => Sys2Proof.Machine.execWriteMasked p s
  | .atomic p => Sys2Proof.Machine.execAtomic p s
  | .signal p => Sys2Proof.Machine.execSignal p s
  | .completion p => Sys2Proof.Machine.execCompletion p s
  | .memoryRequest a addr m corrected lost => Sys2Proof.Machine.execMemoryRequest a addr m corrected lost s
  | .readData p => Sys2Proof.Machine.execReadData p s
  | .writeAck p => Sys2Proof.Machine.execWriteAck p s
  | .atomicResult p => Sys2Proof.Machine.execAtomicResult p s
  | .signalAck p => Sys2Proof.Machine.execSignalAck p s
  | .completionAck p => Sys2Proof.Machine.execCompletionAck p s
  | .requestTimeout die slot => Sys2Proof.Machine.execRequestTimeout die slot s
  | .linkCredit port counts => Sys2Proof.Machine.execLinkCredit port counts s
  | .linkCreditSend port => Sys2Proof.Machine.execLinkCreditSend port s
  | .windowReclaim port vc => Sys2Proof.Machine.execWindowReclaim port vc s
  | .identity port id valid dim verdict => Sys2Proof.Machine.execIdentity port id valid dim verdict s
  | .identitySend port => Sys2Proof.Machine.execIdentitySend port s
  | .identityTimeout port => Sys2Proof.Machine.execIdentityTimeout port s
  | .darkTimeout port => Sys2Proof.Machine.execDarkTimeout port s
  | .darkRetry port => Sys2Proof.Machine.execDarkRetry port s
  | .time port request t1 t2 t3 t4 rootSeq valid backup counter => Sys2Proof.Machine.execTime port request t1 t2 t3 t4 rootSeq valid backup counter s
  | .timeExchange => Sys2Proof.Machine.execTimeExchange s
  | .holdoverExpiry => Sys2Proof.Machine.execHoldoverExpiry s
  | .rootLost => Sys2Proof.Machine.execRootLost s
  | .portFrame port f => Sys2Proof.Machine.execPortFrame port f s
  | .framePeriod port => Sys2Proof.Machine.execFramePeriod port s
  | .replayTimeout port => Sys2Proof.Machine.execReplayTimeout port s
  | .laneErrorWindow lane uncorrectable corrected prbs => Sys2Proof.Machine.execLaneErrorWindow lane uncorrectable corrected prbs s
  | .laneRetrain lane pass => Sys2Proof.Machine.execLaneRetrain lane pass s
  | .signalLoss port => Sys2Proof.Machine.execSignalLoss port s
  | .pllLock port => Sys2Proof.Machine.execPllLock port s
  | .linkTrained port good ms keyFail skew asym saved => Sys2Proof.Machine.execLinkTrained port good ms keyFail skew asym saved s
  | .idleEntry port => Sys2Proof.Machine.execIdleEntry port s
  | .idleExit port => Sys2Proof.Machine.execIdleExit port s
  | .idleLockTimeout port unlocked => Sys2Proof.Machine.execIdleLockTimeout port unlocked s
  | .hotWindow counts => Sys2Proof.Machine.execHotWindow counts s
  | .scrubPeriod corrected uncorrectable badSpares => Sys2Proof.Machine.execScrubPeriod corrected uncorrectable badSpares s
  | .ceHour => Sys2Proof.Machine.execCeHour s
  | .sparingDone seam lost => Sys2Proof.Machine.execSparingDone seam lost s
  | .firingSelect part => Sys2Proof.Machine.execFiringSelect part s
  | .fetchDone part remote => Sys2Proof.Machine.execFetchDone part remote s
  | .resolveDone part reads => Sys2Proof.Machine.execResolveDone part reads s
  | .framePassDone part => Sys2Proof.Machine.execFramePassDone part s
  | .unitDone part unit corrected => Sys2Proof.Machine.execUnitDone part unit corrected s
  | .tileDone part tile => Sys2Proof.Machine.execTileDone part tile s
  | .firingComplete part cycles => Sys2Proof.Machine.execFiringComplete part cycles s
  | .firingHung part cycles => Sys2Proof.Machine.execFiringHung part cycles s
  | .residueRetry die core engine column second => Sys2Proof.Machine.execResidueRetry die core engine column second s
  | .storeUncorrectable die unit word => Sys2Proof.Machine.execStoreUncorrectable die unit word s
  | .storeCheck die core pass => Sys2Proof.Machine.execStoreCheck die core pass s
  | .coreLost die core cause => Sys2Proof.Machine.execCoreLost die core cause s
  | .dieLost die cause => Sys2Proof.Machine.execDieLost die cause s
  | .passThroughFailed die direction => Sys2Proof.Machine.execPassThroughFailed die direction s
  | .collectiveStart group => Sys2Proof.Machine.execCollectiveStart group s
  | .ready p => Sys2Proof.Machine.execReady p s
  | .readyRetry group => Sys2Proof.Machine.execReadyRetry group s
  | .segment p => Sys2Proof.Machine.execSegment p s
  | .segmentCombine group seg reverse mismatch => Sys2Proof.Machine.execSegmentCombine group seg reverse mismatch s
  | .segmentSend group seg reverse => Sys2Proof.Machine.execSegmentSend group seg reverse s
  | .credit p => Sys2Proof.Machine.execCredit p s
  | .stepDone group => Sys2Proof.Machine.execStepDone group s
  | .collectiveComplete group cycles => Sys2Proof.Machine.execCollectiveComplete group cycles s
  | .abort p => Sys2Proof.Machine.execAbort p s
  | .heartbeat group member => Sys2Proof.Machine.execHeartbeat group member s
  | .memberLost group member => Sys2Proof.Machine.execMemberLost group member s
  | .stallTimeout group => Sys2Proof.Machine.execStallTimeout group s
  | .bankHello p => Sys2Proof.Machine.execBankHello p s
  | .bankHelloSend => Sys2Proof.Machine.execBankHelloSend s
  | .peerSilent position => Sys2Proof.Machine.execPeerSilent position s
  | .formationTimeout => Sys2Proof.Machine.execFormationTimeout s
  | .quiesceDone => Sys2Proof.Machine.execQuiesceDone s
  | .arrive p => Sys2Proof.Machine.execArrive p s
  | .delta p => Sys2Proof.Machine.execDelta p s
  | .foldDone => Sys2Proof.Machine.execFoldDone s
  | .parityRead p => Sys2Proof.Machine.execParityRead p s
  | .bankStall => Sys2Proof.Machine.execBankStall s
  | .rebuildDone => Sys2Proof.Machine.execRebuildDone s
  | .resetGrant level target cause => Sys2Proof.Machine.execResetGrant level target cause s
  | .drainEnd level target => Sys2Proof.Machine.execDrainEnd level target s
  | .snapshotDone level target whole silent => Sys2Proof.Machine.execSnapshotDone level target whole silent s
  | .resetAsserted level target => Sys2Proof.Machine.execResetAsserted level target s
  | .postResetCheckDone level target failedCores failedDies => Sys2Proof.Machine.execPostResetCheckDone level target failedCores failedDies s
  | .resetRelease level target us => Sys2Proof.Machine.execResetRelease level target us s
  | .lowerResetDone level target => Sys2Proof.Machine.execLowerResetDone level target s
  | .ladderTimeout level target units => Sys2Proof.Machine.execLadderTimeout level target units s
  | .watchdogFire unit => Sys2Proof.Machine.execWatchdogFire unit s
  | .spareTestRotate die => Sys2Proof.Machine.execSpareTestRotate die s
  | .spareTestDone die failing => Sys2Proof.Machine.execSpareTestDone die failing s
  | .leaseRenew => Sys2Proof.Machine.execLeaseRenew s
  | .leaseExpiry cell => Sys2Proof.Machine.execLeaseExpiry cell s
  | .journalRecord mirrorFault => Sys2Proof.Machine.execJournalRecord mirrorFault s
  | .journalTimeout => Sys2Proof.Machine.execJournalTimeout s
  | .fatalFault unit => Sys2Proof.Machine.execFatalFault unit s
  | .unitRestartTimer unit => Sys2Proof.Machine.execUnitRestartTimer unit s
  | .selfTest unit failing => Sys2Proof.Machine.execSelfTest unit failing s
  | .stateCopyDone unit => Sys2Proof.Machine.execStateCopyDone unit s
  | .probationEnd unit ms => Sys2Proof.Machine.execProbationEnd unit ms s
  | .swapDue => Sys2Proof.Machine.execSwapDue s
  | .swapPoint forced => Sys2Proof.Machine.execSwapPoint forced s
  | .coldStart slotId => Sys2Proof.Machine.execColdStart slotId s
  | .startStepDone r => Sys2Proof.Machine.execStartStepDone r s
  | .trayRstAssert => Sys2Proof.Machine.execTrayRstAssert s
  | .powerLoss => Sys2Proof.Machine.execPowerLoss s
  | .referenceLost ppm => Sys2Proof.Machine.execReferenceLost ppm s
  | .optimeSave => Sys2Proof.Machine.execOptimeSave s
  | .imagePage port p sigOk => Sys2Proof.Machine.execImagePage port p sigOk s
  | .imagePageSend port => Sys2Proof.Machine.execImagePageSend port s
  | .imagePull port p => Sys2Proof.Machine.execImagePull port p s
  | .imagePullTimer => Sys2Proof.Machine.execImagePullTimer s
  | .broadcastIncomplete => Sys2Proof.Machine.execBroadcastIncomplete s
  | .activationTime => Sys2Proof.Machine.execActivationTime s
  | .eventIntake => Sys2Proof.Machine.execEventIntake s
  | .mirrorCheck slot badF0 badF1 => Sys2Proof.Machine.execMirrorCheck slot badF0 badF1 s
  | .inputSample centivolts milliamps heldUs p100 => Sys2Proof.Machine.execInputSample centivolts milliamps heldUs p100 s
  | .brakeNFall => Sys2Proof.Machine.execBrakeNFall s
  | .brakeNRise => Sys2Proof.Machine.execBrakeNRise s
  | .haltCleared cause => Sys2Proof.Machine.execHaltCleared cause s
  | .operatingPoint allowed => Sys2Proof.Machine.execOperatingPoint allowed s
  | .capControl => Sys2Proof.Machine.execCapControl s
  | .orphanCap => Sys2Proof.Machine.execOrphanCap s
  | .capStorm => Sys2Proof.Machine.execCapStorm s
  | .sensorSample pairs packages => Sys2Proof.Machine.execSensorSample pairs packages s
  | .sensorSuspect pair => Sys2Proof.Machine.execSensorSuspect pair s
  | .trayReportStale => Sys2Proof.Machine.execTrayReportStale s
  | .flowLossNFall => Sys2Proof.Machine.execFlowLossNFall s
  | .flowLossNRise => Sys2Proof.Machine.execFlowLossNRise s
  | .flowLossShutdown => Sys2Proof.Machine.execFlowLossShutdown s
  | .monitorCompare item => Sys2Proof.Machine.execMonitorCompare item s
  | .randomFault monitor test => Sys2Proof.Machine.execRandomFault monitor test s
  | .rngRetest passA passB => Sys2Proof.Machine.execRngRetest passA passB s
  | .recordWriteDone type ok => Sys2Proof.Machine.execRecordWriteDone type ok s
  | .rollbackDone => Sys2Proof.Machine.execRollbackDone s
  | .coreSequencerTrap ctx die core => Sys2Proof.Machine.execCoreSequencerTrap ctx die core s
  | .clusterFault die cluster => Sys2Proof.Machine.execClusterFault die cluster s
  | .sequencerNoResponse part => Sys2Proof.Machine.execSequencerNoResponse part s
  | .contextAbortDone ctx => Sys2Proof.Machine.execContextAbortDone ctx s
  | .isolationDone die cluster => Sys2Proof.Machine.execIsolationDone die cluster s
  | .copyAbandoned seam => Sys2Proof.Machine.execCopyAbandoned seam s
  | .heartbeatArrival p => Sys2Proof.Machine.execHeartbeatArrival p s
  | .trainingBurst port => Sys2Proof.Machine.execTrainingBurst port s
  | .ethernetFrame port kind uncorr => Sys2Proof.Machine.execEthernetFrame port kind uncorr s
  | .hostConfigurationLoad r cfg => Sys2Proof.Machine.execHostConfigurationLoad r cfg s
  | .supplySlewDone => Sys2Proof.Machine.execSupplySlewDone s

end Sys2Proof.Machine
end

