-- ==== Sys2Proof/Machine/Step.lean ====
section
/-! DEFINITION. The step: the command at the front of the queue, or one management clock (R23) on an empty queue. -/

namespace Sys2Proof.Machine

/-- One management clock with no command waiting (log entry 1, DESIGN CHOICE): the clock counts while the module has power (R23, R33),
a paced session whose spacing has passed sends (R395), and a switchover whose duration has passed ends (R411). -/
def tick (s : State) : State := if s.phase = .off then s else (State.pumpAll { s with clk := s.clk + 1 }).settle

/-- One step (log entry 1, DESIGN CHOICE): the front command of the queue on the state with the queue's rest, or a tick. -/
def step (s : State) : Host.Outcome State Fault Refusal :=
  match s.pending with
  | [] => .next (tick s)
  | c :: rest => exec c { s with pending := rest }

/-- A state with the command a word spells at the front of its queue; the table gives no row any bits, so no word spells a
command. -/
def State.withFetchWord (s : State) (nbits w : Nat) : State :=
  match decodeTableWord nbits w with
  | some c => { s with pending := c :: s.pending }
  | none => s

end Sys2Proof.Machine
end

