-- ==== Sys2Proof/Safety.lean ====
section
/-! DEFINITION. What every state of a run satisfies, whatever commands come: the terms in which the statements about all
commands speak. -/

namespace Sys2Proof.Machine

/-- Memory is in its canonical form: addresses strictly rising, no byte listed that an unlisted address reads as. -/
def State.MemCanon (s : State) : Prop := Memory.wf s.mem = true

/-- The register table is in its canonical form: offsets strictly rising, no register listed at its reset value (R26). -/
def State.RegsCanon (s : State) : Prop := tsorted s.regs = true ∧ ∀ x ∈ s.regs, x.2 ≠ regReset x.1

/-- There is one event queue for each flue die, and neither holds more than its 1,024 entries (R491). -/
def State.QueuesBounded (s : State) : Prop := s.evq.length = 2 ∧ ∀ q ∈ s.evq, q.length ≤ 1024

/-- The audit record holds no more entries than its 262,144 cells, of 64 bytes each (R464, R466). -/
def State.AuditBounded (s : State) : Prop := s.audit.length ≤ 262144 ∧ ∀ e ∈ s.audit, e.length = 64

/-- The invariant of the block. -/
def State.Inv (s : State) : Prop := s.MemCanon ∧ s.RegsCanon ∧ s.QueuesBounded ∧ s.AuditBounded

/-! ### What a command changes -/

/-- `t` differs from `s` in no register but those at the listed offsets. -/
def RegsBut (s t : State) (offs : List Nat) : Prop := ∀ off, off ∉ offs → t.reg off = s.reg off

/-- Registers that raising an event may change (R492, R495). -/
def evRegs : List Nat := [Reg.evrDroppedCount.off, Reg.evrQueueHwmF0.off]

/-- Registers that a grant of the arbiter changes (R403, R413). -/
def grantRegs : List Nat := [Reg.ctlGrantsLoOff, Reg.ctlGrantsLoOff + 4, Reg.ctlJournalDepth.off]

/-- Registers that an audit entry changes, with its events (R464, R466, R468). -/
def auditRegs : List Nat :=
  evRegs ++ (List.range 8).map Reg.secAuditHeadOff
    ++ [Reg.secAuditCountLoOff, Reg.secAuditCountHiOff, Reg.secAuditAnchorLoOff, Reg.secAuditAnchorHiOff]

/-- A packet without what routing sets in it: level, phase, INTER and DETOURED (R268 to R272). -/
def unrouted (p : Packet) : Packet := { p with level := 0, phase2 := false, inter := 0, detoured := false }

/-- A packet stands in the queue of an output, 0 to 15 a port and 16 LOC, or waits at an endpoint for room, not yet routed (R263,
R265). -/
def State.holds (s : State) (o : Nat) (p : Packet) : Prop :=
  (∃ x ∈ s.queue o, x.pkt = p) ∨ ∃ x ∈ s.waiting, unrouted x.2 = unrouted p

/-- An event with these fields waits in a die's queue (R491). -/
def State.hasEvent (s : State) (code src p0 p1 p2 : Nat) : Prop :=
  ∃ q ∈ s.evq, ∃ e ∈ q, e.code = code ∧ e.src = src ∧ e.p0 = p0 % 2 ^ 32 ∧ e.p1 = p1 % 2 ^ 32 ∧ e.p2 = p2 % 2 ^ 32

/-- No symbol of the granules that `n` bytes from a touch is in error (R179, R180). -/
def State.sound (s : State) (a n : Nat) : Bool :=
  (s.badIn a n).isEmpty && s.faint.all fun (x : Nat × Nat) => ! (granules a n).contains x.1

/-- Both event queues have room for `n` more events (R491). -/
def State.room (s : State) (n : Nat) : Bool := s.evq.length == 2 && s.evq.all fun q => decide (q.length + n ≤ 1024)

/-- A requester is an installer's session after a start that has not failed, its audit entry can be written, and there is room for that
entry's events and `n` more (R428, R460, R465). -/
def State.installs (s : State) (r : Requester) (n : Nat) : Bool := s.isInst r && ! s.startFailed && ! s.auditBad && s.room (n + 2)

/-! ### Control units (R407, R410) -/

/-- From `s` to `t` the unit `u` has failed with a cause: FAILED, or RETIRED at its third failure, counted, event 0x0102 (R407). -/
def unitFailedTo (s t : State) (u cause : Nat) : Prop :=
  t.unitState u = (if 2 ≤ s.fld (Reg.ctlUnitInfoFails u) then 6 else 3)
    ∧ t.fld (Reg.ctlUnitInfoFails u) = min (s.fld (Reg.ctlUnitInfoFails u) + 1) 255
    ∧ t.hasEvent 0x0102 u u cause (min (s.fld (Reg.ctlUnitInfoFails u) + 1) 255)

/-- From `s` to `t` the unit `u` has become ACTIVE for a cause of R410, with the token in both cells, counted, event 0x0101. -/
def switchedTo (s t : State) (u cause : Nat) : Prop :=
  t.unitState u = 1 ∧ t.fld Reg.ctlStatusActive = u ∧ t.ctl.token = [some u, some u]
    ∧ t.fld Reg.ctlSwitchoversCount = min (s.fld Reg.ctlSwitchoversCount + 1) (2 ^ 32 - 1)
    ∧ t.fld Reg.ctlLastSwitchCause = cause ∧ ∃ ns, ns ≤ 40000 ∧ t.hasEvent 0x0101 u cause u ns

/-- From `s` to `t` a switchover to the unit `u` has begun for a cause: the cells name neither unit, the sequencers are held (R410,
R411). -/
def switchBegins (s t : State) (u cause failCause : Nat) : Prop :=
  (∃ ns, ns ≤ 40000 ∧ t.ctl.hold = some ⟨u, cause, failCause, ns, s.clk⟩) ∧ t.ctl.token = [none, none]
    ∧ t.flag Reg.ctlStatusSwitching = true ∧ ∀ p, p < 4 → t.flag (Reg.fsqPartStatusHeld p) = true

/-- The commands that store nothing in memory: those that neither carry a request to it, nor end or start a firing, a collective,
a bank or a rebuild that does, nor zero a region, nor take the power away. -/
def storesNothing (c : Instr) : Bool :=
  match c with
  | .abort .. | .activationTime .. | .arrive .. | .atomic .. | .atomicResult .. | .bankHello .. | .coldStart ..
  | .collectiveComplete .. | .collectiveStart .. | .command .. | .commandDone .. | .completion .. | .completionAck ..
  | .contextAbort .. | .contextDestroy .. | .copyAbandoned .. | .coreSequencerTrap .. | .credit .. | .delta ..
  | .dissolveRick .. | .dmaDrained .. | .dmaReply .. | .drainEnd .. | .fetchDone .. | .firingComplete ..
  | .firingHung .. | .flowLossNFall .. | .flowLossShutdown .. | .formationTimeout .. | .groupDestroy ..
  | .heartbeatArrival .. | .inputSample .. | .memAtomic .. | .memWrite .. | .memberLost .. | .memoryRequest ..
  | .packetTransmit .. | .parityRead .. | .powerLoss .. | .read .. | .readData .. | .ready .. | .recordWriteDone ..
  | .referenceLost .. | .registerWrite .. | .requestTimeout .. | .resetGrant .. | .resolveDone .. | .rollback ..
  | .rollbackDone .. | .segment .. | .segmentCombine .. | .sensorSample .. | .signal .. | .signalAck ..
  | .snapshotDone .. | .sparingDone .. | .stallTimeout .. | .stepDone .. | .tileDone .. | .trayReport ..
  | .trayRstAssert .. | .warm .. | .write .. | .writeAck .. | .writeMasked .. | .writeRegs .. | .zeroingDone .. => false
  | _ => true

/-- The commands that are no business of an unpowered module (R5, R8): all but the pins and the cold start. -/
def needsPower (c : Instr) : Bool :=
  match c with
  | .coldStart .. | .trayRstAssert .. | .powerLoss .. | .brakeNFall .. | .brakeNRise .. | .flowLossNFall ..
  | .flowLossNRise .. => false
  | _ => true

/-! ### Host commands (R387, R390) -/

/-- The module takes up a session's command: the session is in use, has fewer than 256 commands in progress, and has the
right to it (R387, R390, R460). -/
def State.takes (s : State) (o : Origin) (op : Nat) (level : Nat := 4) (snap : Bool := false) : Bool :=
  s.live? o && decide ((s.progressOf o.sess).length < 256) && s.cmdRights o.sess op level snap == .ok

/-- The state with a command in progress and not yet answered. -/
def State.begun (s : State) (o : Origin) (op : Nat) : State := { s with inProg := s.inProg ++ [⟨o, op, none⟩] }

/-- A command in progress has its result: status, flags, results and data. -/
def State.result (s : State) (o : Origin) (op : Nat) (st : Status) (f : Flags) (results data : List Byte) : Prop :=
  (⟨o, op, some (st, f, results, data)⟩ : Progress) ∈ s.inProg

end Sys2Proof.Machine
end

