-- ==== Sys2Proof/Certificates/Slice0/Obligations.lean ====
section
/-! DEFINITION. The statements for the provers.  Each says what one or more commands do, in the terms of Safety.lean; the docstring
names the rules of spec/, and where a clause rests on a choice of the model it says so. -/

open Sys2Proof Sys2Proof.Machine


/-! ### The block as a whole -/

/-- A step with a command waiting is the command's effect on the state with the queue's rest. -/
def Obligations.StepRunsTheFrontCommand : Prop :=
  ∀ (c : Instr) (s : State) (rest : List Instr), s.pending = c :: rest → step s = exec c { s with pending := rest }

/-- With no command waiting, one management clock passes while the module has power, and nothing else changes while no session's
packets wait and no switchover is under way; a switchover under way ends with the tick its duration reaches (the model's choice, log
entries 1 and 32, DESIGN CHOICE; R23, R411).  A module without power takes no command but those of its pins and the cold start:
nothing changes (R8; log entry 2, DESIGN CHOICE).  A grant of the arbiter, while a unit is active: the grant count is one more, and
nothing changes but it and the journal's marks (R403, R413; which commands the arbiter grants is log entry 32, DESIGN CHOICE).  A
granted command waits for the end of a switchover under way; with no control unit running it waits and nothing changes, and a command
of RST_CMD is still performed (R363, R367, R401, R411). -/
def Obligations.IdleAndUnpoweredSteps : Prop :=
  (∀ s : State, s.pending = [] →
    (s.on = false → step s = .next s)
    ∧ ∀ u : State, u = { s with clk := s.clk + 1 } → s.on = true → (∀ e ∈ s.sessions, e.2.queued = []) →
      (s.ctl.hold = none → step s = .next u)
      ∧ ∀ h : Hold, s.ctl.hold = some h →
        step s = .next (if h.since + h.ns * 235 / 1000 ≤ u.clk then State.latch u (u.endSwitch h) else u))
  ∧ (∀ (c : Instr) (s : State), s.on = false → needsPower c = true → exec c s = .next s)
  ∧ (∀ s : State, s.activeUnit ≠ none →
    s.arbGrant.pair Reg.ctlGrantsLoOff = min (s.pair Reg.ctlGrantsLoOff + 1) (2 ^ 64 - 1)
      ∧ RegsBut s s.arbGrant grantRegs ∧ s.arbGrant = { s with regs := s.arbGrant.regs })
  ∧ ∀ (f : State → State) (s : State), s.on = true →
    (s.led = false → s.granted f = .next s ∧ s.commanded f = .next (f s))
    ∧ (s.led = true → ∀ h : Hold, s.ctl.hold = some h → s.granted f = .next (State.latch s (f (s.endSwitch h).arbGrant)))

/-- After reset every register reads its reset value, the start is at its beginning, no context, session, reset, event or record
exists, and no command waits.  The reset values that the spec does not give are the model's (log entry 3, DESIGN CHOICE). -/
def Obligations.ResetState : Prop :=
  (∀ off, State.reset.reg off = regReset off) ∧ State.reset.phase = .start ∧ State.reset.pending = []
    ∧ State.reset.ctxs = [] ∧ State.reset.sessions = [] ∧ State.reset.resets = [] ∧ State.reset.evq = [[], []]
    ∧ State.reset.recs = [] ∧ State.reset.mem = [] ∧ State.reset.wire = []

/-- The state after reset satisfies the invariant. -/
def Obligations.InvariantAtReset : Prop := State.reset.Inv

/-- Every step keeps the invariant: memory and the register table stay in their canonical forms, no event queue holds more than 1,024
entries (R491), and the audit record no more than 262,144 of 64 bytes (R464, R466). -/
def Obligations.InvariantKeptByEveryStep : Prop := ∀ s t : State, s.Inv → step s = .next t → t.Inv

/-- A step takes exactly the front command off the queue; no command adds to the queue or takes from it. -/
def Obligations.QueueLosesItsFrontAlone : Prop :=
  ∀ (c : Instr) (s : State) (rest : List Instr), s.Inv → s.pending = c :: rest → ∃ t, step s = .next t ∧ t.pending = rest

/-- A command that stores nothing leaves every byte of memory as it was. -/
def Obligations.MemoryKeptByCommandsThatStoreNothing : Prop :=
  ∀ (c : Instr) (s : State), s.Inv → storesNothing c = true →
    ∃ t, exec c s = .next t ∧ ∀ a, Memory.byte t.mem a = Memory.byte s.mem a

/-- Each die's queue holds 1,024 entries: an event raised while its die's queue has room waits at its end, and one that finds it full
leaves the queues alone; raising an event changes no register but the queue's marks, and nothing but registers and queues.  The entry
carries the raising time, which is the TIME of the record of that event, and the management clock of its raising (R491, R539). -/
def Obligations.EventWaitsInItsQueue : Prop :=
  ∀ (s : State) (code src p0 p1 p2 die : Nat) (e : Ev) (u : State), s.evq.length = 2 → die = s.evDie code src →
    e = s.evOf code src p0 p1 p2 → u = s.ev code src p0 p1 p2 →
    ((s.evQueue die).length < 1024 →
      u.evQueue die = s.evQueue die ++ [e] ∧ u.evQueue (1 - die) = s.evQueue (1 - die) ∧ u.evLost = s.evLost
        ∧ RegsBut s u [Reg.evrQueueHwmF0.off] ∧ u = { s with regs := u.regs, evq := u.evq })
    ∧ (1024 ≤ (s.evQueue die).length → u.evq = s.evq)
    ∧ e.code = code ∧ e.src = src ∧ e.p0 = p0 % 2 ^ 32 ∧ e.p1 = p1 % 2 ^ 32 ∧ e.p2 = p2 % 2 ^ 32 ∧ e.clk = s.clk
    ∧ ((s.phase ≠ .start ∨ 2 ≤ s.fld Reg.botStatusStep) →
      e.unset = false ∧ e.time = s.opTime + s.fld Reg.glbPowerCyclesCount * 2 ^ 40)
    ∧ ∀ (slot : Nat) (r : EvRec), r.ev = e → field (r.bytes slot) 12 8 = e.time % 2 ^ 64

/-- An event that finds its queue full is dropped and counted in EVR_DROPPED, and the code of the first dropped is kept.  The next
record opened after the queue has room sets GAP, and an EVENTS_LOST record with the number dropped in PARAM_0 and that code in PARAM_1
follows it (R492). -/
def Obligations.DroppedEventsAreReported : Prop :=
  (∀ (s : State) (code src p0 p1 p2 : Nat), s.evLost.length = 2 → 1024 ≤ (s.evQueue (s.evDie code src)).length →
    (s.ev code src p0 p1 p2).evq = s.evq
      ∧ (s.ev code src p0 p1 p2).fld Reg.evrDroppedCount = min (s.fld Reg.evrDroppedCount + 1) (2 ^ 32 - 1)
      ∧ (s.ev code src p0 p1 p2).evLost.getD (s.evDie code src) (0, 0)
          = ((s.evLost.getD (s.evDie code src) (0, 0)).1 + 1,
             if (s.evLost.getD (s.evDie code src) (0, 0)).1 = 0 then code else (s.evLost.getD (s.evDie code src) (0, 0)).2))
  ∧ ∀ (s : State) (e : Ev) (die d number first n : Nat), s.powered = true → s.evq.length = 2 → die < 2 → d < 2 →
    s.evQueue die = [e] → s.evQueue (1 - die) = [] → s.evLost.getD d (0, 0) = (number, first) → 0 < number →
    (s.evLost.getD (1 - d) (0, 0)).1 = 0 → s.evLost.length = 2 → s.foldSlot e = none → n = s.pair Reg.evrCountLoOff + 1 →
    n + 1 < 2 ^ 64 →
    ∃ t a b, exec .eventIntake s = .next t ∧ tfind t.recs (recSlot n) = some a ∧ a.gap = true ∧ a.ev = e
      ∧ tfind t.recs (recSlot (n + 1)) = some b ∧ b.ev.code = 0x0F02 ∧ b.ev.p0 = number ∧ b.ev.p1 = first
      ∧ t.evLost.getD d (0, 0) = (0, 0)

/-- The recorder counts the records it opens; record n goes to slot n - 1 of the kept area or to its place in the circulating area,
with SEQ n modulo 2^32, and no other slot changes.  No later record takes the slot of a record of the kept area; one of the
circulating area is overwritten by the record 61,440 later and by none before (R487). -/
def Obligations.RecordsKeepTheirSlots : Prop :=
  (∀ (s : State) (e : Ev) (gap : Bool) (n slot : Nat), n = s.pair Reg.evrCountLoOff + 1 → n < 2 ^ 64 →
    slot = (if n ≤ 4096 then n - 1 else 4096 + (n - 4097) % 61440) →
    (s.openRec e gap).pair Reg.evrCountLoOff = n ∧ slot < 65536
      ∧ (∃ r, tfind (s.openRec e gap).recs slot = some r ∧ r.ev = e ∧ field (r.bytes slot) 4 4 = n % 2 ^ 32)
      ∧ ∀ k, k ≠ slot → tfind (s.openRec e gap).recs k = tfind s.recs k)
  ∧ ∀ m n, 1 ≤ m → m < n → (recSlot m = recSlot n ↔ 4096 < m ∧ (n - m) % 61440 = 0)


/-! ### Host commands: contexts, queues, counters, slots (R99 to R128, R390).  `s.arbGrant` is the state with the arbiter's grant
counted, on which a granted command acts. -/

/-- NOP is answered OK and changes nothing else (R390); COMMAND_DONE takes an answered command of a session that is not DISCONNECTED
out of those in progress and sends its REPLY on the port of the session, one that is not paced, as one datagram of header, sealed body
and tag (R383, R389, R390).  A command of a session that has 256 in progress is refused with LENGTH; one outside the session's rights
with ACCESS. -/
def Obligations.HostCommandsAnsweredOrRefused : Prop :=
  ((∀ (o : Origin) (s : State), s.powered = true → s.arbGrant.takes o 0x00 = true →
    ∃ t, exec (.nop o) s = .next t ∧ t.result o 0x00 .ok {} [] []
      ∧ RegsBut s t grantRegs ∧ t = { s with regs := t.regs, inProg := t.inProg, latches := t.latches, outSeq := t.outSeq })
  ∧ ∀ (o : Origin) (s : State) (op : Nat) (st : Status) (f : Flags) (r d : List Byte),
    s.powered = true → s.live? o = true → s.sessState o.sess = 2 → s.start.warmWait = false →
    (s.inProg.find? fun p => decide (p.o = o) && p.result.isSome) = some ⟨o, op, some (st, f, r, d)⟩ → (s.sess o.sess).rate = 0 →
    ∃ t, exec (.commandDone o) s = .next t ∧ t.inProg = s.inProg.filter (fun p => ! (p.o == o && p.result.isSome))
      ∧ ∃ ack body : _, ack = ((s.sess o.sess).rxSeq + 2 ^ 32 - 1) % 2 ^ 32
      ∧ body = replyBody op st f o.tag r d
      ∧ .host o.sess 0x11 (s.sess o.sess).txSeq ack (s.fld (Reg.hstSessionStatePort o.sess)) body
          (sealHost (s.sess o.sess).keys.2 (hostHead 0x11 (s.sessDie o.sess) false (s.sessId o.sess) (s.sess o.sess).txSeq ack
            (s.sess o.sess).txc body.length) body) ∈ t.wire)
  ∧ ((∀ (o : Origin) (op : Nat) (body : State → State) (s : State), s.live? o = true → 256 ≤ (s.progressOf o.sess).length →
    s.hostCmd o op body = s.reply o op .length {} [] [])
  ∧ ∀ (o : Origin) (op : Nat) (body : State → State) (s : State), s.live? o = true → (s.progressOf o.sess).length < 256 →
    s.cmdRights o.sess op 4 false = .access → (s.hostCmd o op body).result o op .access {} [] [])

/-- CONTEXT_CREATE on a licensed module that is no provisional one and has its memory, with a weight of 1 to 15, 1 to 4 queues of
rings of 2^4 to 2^16 entries, an entry free, a partition that has dies and whose fence is open, and counters and slots that no context
has: a free entry becomes the context of the session's job, with the queues asked for, empty, and its number is answered (R99, R100,
R135).  CONTEXT_ABORT of a context that runs no firing, no collective and no transfer stops its queues, sets ERROR in its counters and
records event 0x0204 (R103); CONTEXT_DESTROY of such a context also frees its entry and its slots (R100).  Of any context of the
session's job an abort stops the queues, sets ERROR in the counters and leaves no channel BUSY, whatever it runs (R103, R191); a
context whose channels have no transfer is destroyed at once (R100).  CONTEXT_ABORT and CONTEXT_DESTROY of a context that is not one
of the session's job answer ACCESS (R387). -/
def Obligations.ContextCommands : Prop :=
  (∀ (o : Origin) (p : CtxParams) (s g : State), s.powered = true → g = s.arbGrant → g.takes o 0x10 = true → g.base = true →
    g.provisional = false → g.flag Reg.memStatusShortSeam = false → 1 ≤ p.weight → p.weight ≤ 15 → 1 ≤ p.queues → p.queues ≤ 4 →
    p.queues ≤ p.rings.length → (∀ r ∈ p.rings.take p.queues, 4 ≤ r.2 ∧ r.2 ≤ 16) → p.partition ≤ 3 →
    (∃ c, c < 512 ∧ s.ctx c = none) → g.dies p.partition ≠ [] → g.fenced p.partition = false →
    p.syncFirst + p.syncCount ≤ 4096 → p.slotFirst + p.slotCount ≤ 1024 →
    (∀ e ∈ s.ctxs, overlaps p.syncFirst p.syncCount e.2.p.syncFirst e.2.p.syncCount = false
      ∧ overlaps p.slotFirst p.slotCount e.2.p.slotFirst e.2.p.slotCount = false) →
    ∃ t c, exec (.contextCreate o p) s = .next t ∧ c < 512 ∧ s.ctx c = none
      ∧ t.ctx c = some { p := p, job := g.sessJob o.sess, credit := p.weight }
      ∧ (∀ d, d ≠ c → t.ctx d = s.ctx d)
      ∧ (∀ q, q < p.queues → t.flag (Reg.fsqCtxQStateExists c q) = true ∧ t.flag (Reg.fsqCtxQStateStopped c q) = false
          ∧ t.fld (Reg.fsqCtxQSizeLog2 c q) = (p.rings.getD q (0, 4)).2)
      ∧ t.result o 0x10 .ok {} (natLe 2 c) []
      ∧ (∀ off, off ∉ grantRegs → (∀ q, q < 4 → off ≠ Reg.fsqCtxQStateOff c q ∧ off ≠ Reg.fsqCtxQSizeOff c q) →
          t.reg off = s.reg off)
      ∧ t = { s with regs := t.regs, ctxs := t.ctxs, inProg := t.inProg, free := t.free, latches := t.latches, outSeq := t.outSeq })
  ∧ (∀ (o : Origin) (c : Nat) (x : Ctx) (s g : State), s.powered = true → g = s.arbGrant → g.ownCtx o c = some x → c < 512 →
    x.p.syncFirst + x.p.syncCount ≤ 4096 → (g.part x.p.partition).run = none → g.groupsOf c = [] → g.channelsOf c = [] →
    (∀ w ∈ s.syncWaits, w.o ≠ o) → g.room 1 = true →
    (g.takes o 0x12 = true →
      ∃ t, exec (.contextAbort o c) s = .next t ∧ t.hasEvent 0x0204 x.p.partition c 1 (2 ^ 32 - 1)
        ∧ (∀ q, q < 4 → g.flag (Reg.fsqCtxQStateExists c q) = true → t.flag (Reg.fsqCtxQStateStopped c q) = true)
        ∧ (∀ n ∈ x.counters, t.syncErr n = true)
        ∧ t.ctxs = s.ctxs ∧ t.result o 0x12 .ok {} [] [] ∧ t.mem = s.mem
        ∧ RegsBut s t (grantRegs ++ evRegs ++ (List.range 4).map (Reg.fsqCtxQStateOff c)
            ++ x.counters.map fun n => (Reg.fsqSyncErrError (n / 32)).off))
    ∧ (g.takes o 0x11 = true → g.rickOn = false →
      ∃ t, exec (.contextDestroy o c) s = .next t ∧ t.ctx c = none ∧ (∀ d, d ≠ c → t.ctx d = s.ctx d)
        ∧ (∀ n z, (n, z) ∈ t.slots → z.owner ≠ some c) ∧ (∀ q, q < 4 → t.reg (Reg.fsqCtxQStateOff c q) = 0)
        ∧ (∀ n ∈ x.counters, t.syncErr n = true)
        ∧ t.hasEvent 0x0204 x.p.partition c 4 (2 ^ 32 - 1) ∧ t.result o 0x11 .ok {} [] [] ∧ t.mem = s.mem))
  ∧ (∀ (o : Origin) (c : Nat) (x : Ctx) (s g : State), s.powered = true → g = s.arbGrant → g.ownCtx o c = some x → c < 512 →
    x.p.syncFirst + x.p.syncCount ≤ 4096 → (∀ w ∈ s.syncWaits, w.o ≠ o) → (∀ h ∈ (g.part x.p.partition).held, h.1 ≠ o) →
    (g.takes o 0x12 = true →
      ∃ t, exec (.contextAbort o c) s = .next t ∧ t.result o 0x12 .ok {} [] []
        ∧ (∀ q, q < 4 → g.flag (Reg.fsqCtxQStateExists c q) = true → t.flag (Reg.fsqCtxQStateStopped c q) = true)
        ∧ (∀ n ∈ x.counters, t.syncErr n = true) ∧ (∀ n ∈ g.channelsOf c, t.dmaState n ≠ dmaBusyCode))
    ∧ (g.takes o 0x11 = true → (∀ n ∈ g.channelsOf c, g.dmaBusy n = false) → g.rickOn = false →
      ∃ t, exec (.contextDestroy o c) s = .next t ∧ t.ctx c = none ∧ t.result o 0x11 .ok {} [] []
        ∧ (∀ n z, (n, z) ∈ t.slots → z.owner ≠ some c)))
  ∧ ∀ (o : Origin) (c : Nat) (s : State), s.powered = true → s.arbGrant.ownCtx o c = none →
    (s.arbGrant.takes o 0x12 = true → ∃ t, exec (.contextAbort o c) s = .next t ∧ t.result o 0x12 .access {} [] []
      ∧ RegsBut s t grantRegs ∧ t = { s with regs := t.regs, inProg := t.inProg, latches := t.latches, outSeq := t.outSeq })
    ∧ (s.arbGrant.takes o 0x11 = true → ∃ t, exec (.contextDestroy o c) s = .next t ∧ t.result o 0x11 .access {} [] []
      ∧ RegsBut s t grantRegs ∧ t = { s with regs := t.regs, inProg := t.inProg, latches := t.latches, outSeq := t.outSeq })

/-- DOORBELL within the ring and not past the head sets the queue's tail (R101); QUEUE_RESTART of a stopped queue sets its head and
clears STOPPED (R102).  Neither changes anything else.  The slot commands within their ranges, on a slot of the session's context that
no running firing has captured: OPEN gives the slot its owner, page size, pages, table and tokens; CLOSE returns it to no owner;
TRUNCATE sets its tokens; REPOINT its table and pages (R125, R128). -/
def Obligations.QueueAndSlotCommands : Prop :=
  (∀ (o : Origin) (c q n : Nat) (x : Ctx) (s : State), s.powered = true → s.arbGrant.ownCtx o c = some x → c < 512 →
    s.arbGrant.fenced x.p.partition = false → q < x.p.queues → q < 4 → n < s.arbGrant.ringSize c q → n < 2 ^ 16 →
    (s.arbGrant.takes o 0x13 = true →
      passesHead (s.arbGrant.ringSize c q) (s.arbGrant.fld (Reg.fsqCtxQHeadHead c q)) (s.arbGrant.fld (Reg.fsqCtxQTailTail c q)) n
        = false →
      ∃ t, exec (.doorbell o c q n) s = .next t ∧ t.fld (Reg.fsqCtxQTailTail c q) = n ∧ t.result o 0x13 .ok {} [] []
        ∧ RegsBut s t (grantRegs ++ [Reg.fsqCtxQTailOff c q])
        ∧ t = { s with regs := t.regs, inProg := t.inProg, latches := t.latches, outSeq := t.outSeq })
    ∧ (s.arbGrant.takes o 0x14 = true → s.arbGrant.flag (Reg.fsqCtxQStateStopped c q) = true →
      ∃ t, exec (.queueRestart o c q n) s = .next t ∧ t.fld (Reg.fsqCtxQHeadHead c q) = n
        ∧ t.flag (Reg.fsqCtxQStateStopped c q) = false ∧ t.result o 0x14 .ok {} [] []
        ∧ RegsBut s t (grantRegs ++ [Reg.fsqCtxQHeadOff c q, Reg.fsqCtxQStateOff c q])
        ∧ t = { s with regs := t.regs, inProg := t.inProg, latches := t.latches, outSeq := t.outSeq }))
  ∧ (∀ (o : Origin) (p : SlotParams) (c : Nat) (x : Ctx) (s : State), s.powered = true → s.arbGrant.ownCtx o c = some x →
    p.slot < 1024 → x.slots.contains p.slot = true → s.arbGrant.fenced x.p.partition = false →
    s.arbGrant.captured x.p.partition p.slot = false →
    (s.arbGrant.takes o 0x18 = true → p.ctx = c → slotShape .opens p (s.seqSlot p.slot) = .ok →
      ∃ t, exec (.slotOpen o p) s = .next t ∧ t.seqSlot p.slot = ⟨some c, p.pageTokens, p.pages, p.table, p.tokens⟩
        ∧ (∀ n, n ≠ p.slot → t.seqSlot n = s.seqSlot n) ∧ t.result o 0x18 .ok {} [] []
        ∧ t = { s.arbGrant with slots := t.slots, inProg := t.inProg, latches := t.latches, outSeq := t.outSeq })
    ∧ ((s.seqSlot p.slot).owner = some c →
      (s.arbGrant.takes o 0x19 = true →
        ∃ t, exec (.slotClose o p) s = .next t ∧ (t.seqSlot p.slot).owner = none ∧ (∀ n, n ≠ p.slot → t.seqSlot n = s.seqSlot n)
          ∧ t.result o 0x19 .ok {} [] []
          ∧ t = { s.arbGrant with slots := t.slots, inProg := t.inProg, latches := t.latches, outSeq := t.outSeq })
      ∧ (s.arbGrant.takes o 0x1A = true → p.tokens ≤ (s.seqSlot p.slot).tokens →
        ∃ t, exec (.slotTruncate o p) s = .next t ∧ t.seqSlot p.slot = { s.seqSlot p.slot with tokens := p.tokens }
          ∧ (∀ n, n ≠ p.slot → t.seqSlot n = s.seqSlot n) ∧ t.result o 0x1A .ok {} [] []
          ∧ t = { s.arbGrant with slots := t.slots, inProg := t.inProg, latches := t.latches, outSeq := t.outSeq })
      ∧ (s.arbGrant.takes o 0x1B = true → slotShape .repoints p (s.seqSlot p.slot) = .ok →
        ∃ t, exec (.slotRepoint o p) s = .next t
          ∧ t.seqSlot p.slot = { s.seqSlot p.slot with pages := p.pages, table := p.table }
          ∧ (∀ n, n ≠ p.slot → t.seqSlot n = s.seqSlot n) ∧ t.result o 0x1B .ok {} [] []
          ∧ t = { s.arbGrant with slots := t.slots, inProg := t.inProg, latches := t.latches, outSeq := t.outSeq })))

/-- SYNC_SET gives a counter its value and, asked to, clears its ERROR bit (R124); SYNC_WAIT on a counter with neither ERROR nor the
target reached waits, and on one that has reached it answers the value (R122, R390); SYNC_WAIT_TIMEOUT ends a standing wait with
TIMEOUT (R390). -/
def Obligations.SyncCommands : Prop :=
  (∀ (o : Origin) (n v : Nat) (s : State) (e : Nat × Ctx), s.powered = true → s.arbGrant.takes o 0x16 = true → n < 4096 →
    s.arbGrant.counterOwner n = some e → e.2.job = s.arbGrant.sessJob o.sess → (∀ w ∈ s.syncWaits, w.o ≠ o) →
    ∃ t, exec (.syncSet o n true v) s = .next t ∧ t.sync n = v % 2 ^ 32 ∧ t.syncErr n = false ∧ t.result o 0x16 .ok {} [] []
      ∧ (∀ w ∈ t.syncWaits, w.counter = n → waitDone (v % 2 ^ 32) w.target = false)
      ∧ RegsBut s t (grantRegs ++ [(Reg.fsqSyncValueValue n).off, (Reg.fsqSyncErrError (n / 32)).off])
      ∧ t = { s with regs := t.regs, inProg := t.inProg, syncWaits := t.syncWaits, latches := t.latches, outSeq := t.outSeq })
  ∧ (∀ (o : Origin) (n target us : Nat) (s : State) (e : Nat × Ctx), s.powered = true → s.arbGrant.takes o 0x17 = true →
    n < 4096 → 0 < us → us ≤ 10 ^ 8 → s.arbGrant.counterOwner n = some e → e.2.job = s.arbGrant.sessJob o.sess →
    s.arbGrant.syncErr n = false →
    (waitDone (s.arbGrant.sync n) target = true →
      ∃ t, exec (.syncWait o n target us) s = .next t ∧ t.result o 0x17 .ok {} (natLe 4 (s.arbGrant.sync n)) []
        ∧ t.syncWaits = s.syncWaits)
    ∧ (waitDone (s.arbGrant.sync n) target = false →
      ∃ t, exec (.syncWait o n target us) s = .next t ∧ t.syncWaits = s.syncWaits ++ [⟨o, n, target⟩]
        ∧ t.inProg = s.inProg ++ [⟨o, 0x17, none⟩]))
  ∧ ∀ (o : Origin) (n target : Nat) (s : State), s.powered = true → s.syncWaits.find? (·.o == o) = some ⟨o, n, target⟩ →
    (⟨o, 0x17, none⟩ : Progress) ∈ s.inProg →
    ∃ t, exec (.syncWaitTimeout o) s = .next t ∧ t.syncWaits = s.syncWaits.filter (·.o != o)
      ∧ t.result o 0x17 .timeout {} (natLe 4 (s.sync n)) []
      ∧ t = { s with syncWaits := t.syncWaits, inProg := t.inProg }


/-! ### Memory (R162 to R188, R390) -/

/-- MEM_WRITE of whole blocks, at most 8,192 bytes, over addresses that the session may write, outside a rick and with no
uncorrectable granule: every byte written reads as the data, every other byte as before, and the answer is OK (R167, R169, R390).
MEM_READ of addresses that the session may read, with no uncorrectable granule, answers the bytes that stand there and changes nothing
in memory (R167, R169, R390). -/
def Obligations.HostMemoryCommands : Prop :=
  (∀ (o : Origin) (addr a : Nat) (data : List Byte) (s : State), s.powered = true → s.arbGrant.takes o 0x21 = true →
    s.arbGrant.hostAddr addr = some a → spanForm a data.length = .ok → s.arbGrant.rickOn = false →
    s.badIn a data.length = [] →
    (∀ b, a ≤ b → b < a + data.length → s.arbGrant.reach (s.arbGrant.hostWho o) true b = .ok) →
    ∃ t, exec (.memWrite o addr data.length data) s = .next t ∧ t.result o 0x21 .ok {} [] []
      ∧ (∀ i, i < data.length → Memory.byte t.mem (a + i) = data.getD i 0)
      ∧ (∀ b, b < a ∨ a + data.length ≤ b → Memory.byte t.mem b = Memory.byte s.mem b)
      ∧ (s.sound a data.length = true →
          t = { s.arbGrant with mem := t.mem, inProg := t.inProg, badGranules := t.badGranules, faint := t.faint,
                                bursts := t.bursts, latches := t.latches, outSeq := t.outSeq }))
  ∧ (∀ (o : Origin) (addr a n : Nat) (s : State), s.powered = true → s.arbGrant.takes o 0x20 = true →
    s.arbGrant.hostAddr addr = some a → inSnapArea a n = false → spanForm a n = .ok → s.badIn a n = [] →
    s.arbGrant.reachAll (s.arbGrant.hostWho o) false a n = .ok → a < sramBase →
    ∃ t, exec (.memRead o addr n) s = .next t ∧ t.result o 0x20 .ok {} [] (s.mem.read a n) ∧ t.mem = s.mem
      ∧ (s.sound a n = true →
          t = { s.arbGrant with inProg := t.inProg, bursts := t.bursts, latches := t.latches, outSeq := t.outSeq }))

/-- An atomic operation of R175, of an allowed size at an aligned address that its requester may write, answers the old value and
stores the new one; every other byte stays (R175): MEM_ATOMIC of a session, and MEMORY_REQUEST of a unit. -/
def Obligations.AtomicOperations : Prop :=
  (∀ (o : Origin) (addr a op size : Nat) (operands : List Byte) (s : State), s.powered = true →
    s.arbGrant.takes o 0x22 = true → operands.length = 32 → s.arbGrant.hostAddr addr = some a →
    (atomicSizes op).contains size = true → a % size = 0 → a < memTop → s.arbGrant.reach (s.arbGrant.hostWho o) true a = .ok →
    s.arbGrant.rickOn = false → s.isBad (granule a) = false →
    ∃ t, exec (.memAtomic o addr op size operands) s = .next t
      ∧ t.result o 0x22 .ok (atomicResult op size (leNat (s.mem.read a size)) operands).2 []
          (natLe 32 (leNat (s.mem.read a size)))
      ∧ t.mem.read a size = natLe size (atomicResult op size (leNat (s.mem.read a size)) operands).1
      ∧ ∀ b, b < a ∨ a + size ≤ b → Memory.byte t.mem b = Memory.byte s.mem b)
  ∧ ∀ (w : Agent) (a op size : Nat) (operands : List Byte) (s : State), s.powered = true →
    (atomicSizes op).contains size = true → a % size = 0 → a < memTop → s.reach w true a = .ok → s.rickOn = false →
    s.isBad (granule a) = false →
    ∃ t, exec (.memoryRequest w a (.atomic op size operands) [] []) s = .next t
      ∧ .memory w a .ok (atomicResult op size (leNat (s.mem.read a size)) operands).2 (natLe 32 (leNat (s.mem.read a size)))
          ∈ t.wire
      ∧ t.mem.read a size = natLe size (atomicResult op size (leNat (s.mem.read a size)) operands).1
      ∧ ∀ b, b < a ∨ a + size ≤ b → Memory.byte t.mem b = Memory.byte s.mem b

/-- MEMORY_REQUEST: a well-formed write by a unit that may make it stores its bytes and no others, and a read answers the bytes there
(R165, R169); a request above 4,096 bytes is answered LENGTH, one that is not whole aligned blocks within a 4,096-byte page ALIGN, and
neither changes memory (R169). -/
def Obligations.MemoryRequests : Prop :=
  (∀ (w : Agent) (a : Nat) (data : List Byte) (s : State), s.powered = true → formOf a data.length = .ok → a < memTop →
    s.reach w true a = .ok → s.rickOn = false → s.badIn a data.length = [] →
    ∃ t, exec (.memoryRequest w a (.write data) [] []) s = .next t ∧ .memory w a .ok {} [] ∈ t.wire
      ∧ (∀ i, i < data.length → Memory.byte t.mem (a + i) = data.getD i 0)
      ∧ (∀ b, b < a ∨ a + data.length ≤ b → Memory.byte t.mem b = Memory.byte s.mem b)
      ∧ (s.sound a data.length = true →
          t = { s with mem := t.mem, wire := t.wire, badGranules := t.badGranules, faint := t.faint, bursts := t.bursts }))
  ∧ (∀ (w : Agent) (a n : Nat) (s : State), s.powered = true → formOf a n = .ok → a < memTop → s.reach w false a = .ok →
    s.badIn a n = [] →
    ∃ t, exec (.memoryRequest w a (.read n) [] []) s = .next t ∧ .memory w a .ok {} (s.mem.read a n) ∈ t.wire ∧ t.mem = s.mem
      ∧ (s.sound a n = true → t = { s with wire := t.wire, bursts := t.bursts }))
  ∧ ∀ (w : Agent) (a : Nat) (data : List Byte) (s : State), s.powered = true → formOf a data.length ≠ .ok →
    exec (.memoryRequest w a (.write data) [] []) s = .next (s.send (.memory w a (formOf a data.length) {} []))

/-- What a write of bytes leaves to be read: the bytes written at their addresses, every other byte as it was.  A masked write changes
exactly the bytes its mask selects (R169). -/
def Obligations.WritesAreRead : Prop :=
  (∀ (m : Memory) (a : Nat) (bs : List Byte),
    (∀ i, i < bs.length → Memory.byte (Memory.write m a bs) (a + i) = bs.getD i 0)
      ∧ (∀ b, b < a ∨ a + bs.length ≤ b → Memory.byte (Memory.write m a bs) b = Memory.byte m b)
      ∧ Memory.read (Memory.write m a bs) a bs.length = bs)
  ∧ (∀ (m : Memory) (a mask : Nat) (bs : List Byte) (b : Nat),
    Memory.byte (Memory.writeMasked m a bs mask) b
      = if a ≤ b ∧ b < a + bs.length ∧ bit mask (b - a) = true then bs.getD (b - a) 0 else Memory.byte m b)

/-- REGION_ASSIGN of a free region starts its zeroing; when the zeroing is done every byte of it reads 0, it is OWNED by the context's
job and the assignment is answered; REGION_RELEASE of an own region frees it (R168). -/
def Obligations.RegionCommands : Prop :=
  (∀ (o : Origin) (r c : Nat) (x : Ctx) (s : State), s.powered = true → s.arbGrant.takes o 0x23 = true →
    s.arbGrant.ownCtx o c = some x → 0 < r → r ≤ 1340 → s.arbGrant.flag Reg.memStatusShortSeam = false →
    s.arbGrant.fld (Reg.memRegionStateState r) = 0 →
    ∃ t, exec (.regionAssign o r c) s = .next t ∧ t.fld (Reg.memRegionStateState r) = 2 ∧ t.zeroing = s.zeroing ++ [(r, x.job, o)]
      ∧ t.mem = s.mem ∧ RegsBut s t (grantRegs ++ evRegs ++ [(Reg.memRegionStateState r).off, (Reg.memRegionJobJob r).off]))
  ∧ (∀ (o : Origin) (r job : Nat) (s : State), s.powered = true → s.zeroing.find? (·.1 == r) = some (r, job, o) → r ≤ 1340 → job < 2 ^ 32 →
    (⟨o, 0x23, none⟩ : Progress) ∈ s.inProg →
    ∃ t, exec (.zeroingDone r) s = .next t ∧ t.fld (Reg.memRegionStateState r) = 1 ∧ t.fld (Reg.memRegionJobJob r) = job
      ∧ t.zeroing = s.zeroing.filter (·.1 != r) ∧ t.result o 0x23 .ok {} [] []
      ∧ (∀ a, r * regionSize ≤ a → a < (r + 1) * regionSize → Memory.byte t.mem a = 0)
      ∧ ∀ a, a < r * regionSize ∨ (r + 1) * regionSize ≤ a → Memory.byte t.mem a = Memory.byte s.mem a)
  ∧ ∀ (o : Origin) (r : Nat) (s : State), s.powered = true → s.arbGrant.takes o 0x24 = true → 0 < r → r ≤ 1340 →
    s.arbGrant.fld (Reg.memRegionStateState r) = 1 → s.arbGrant.fld (Reg.memRegionJobJob r) = s.arbGrant.sessJob o.sess →
    ∃ t, exec (.regionRelease o r) s = .next t ∧ t.fld (Reg.memRegionStateState r) = 0 ∧ t.fld (Reg.memRegionJobJob r) = 0
      ∧ t.result o 0x24 .ok {} [] [] ∧ t.mem = s.mem
      ∧ RegsBut s t (grantRegs ++ evRegs ++ [(Reg.memRegionStateState r).off, (Reg.memRegionJobJob r).off])

/-- The controllers' periodic work: after a hot window the runs of the channels above four times the mean, the mean being 2,048 bursts
or more, are one longer, and every other is cleared (R174); a scrub pass is counted and recorded, corrects and counts a granule with
one symbol in error, and counts one beyond correction and leaves it so (R179, R181, R186); the hour ends with every count back at 0
(R182).  Sparing (R182, R183, R184): MEM_SPARE_START by the installer on an active channel of a seam with its spare unused starts a
copy of 110 ms to 2 s; at its end the spare serves in the channel's place; an abandoned copy leaves the spare bad. -/
def Obligations.MemoryMaintenance : Prop :=
  (∀ s : State, s.powered = true →
    (∀ counts : List (Nat × Nat), s.flag Reg.memStatusTrained = true →
      (∀ lc, lc < 720 → ((counts.find? (·.1 == lc)).map (·.2)).getD 0 + tget s.bursts 0 lc < 2048) →
      ∃ t, exec (.hotWindow counts) s = .next t ∧ t = { s with hotRuns := [], bursts := [] })
    ∧ (∀ (counts : List (Nat × Nat)) (active : List Nat) (count : Nat → Nat) (sum : Nat), s.flag Reg.memStatusTrained = true →
      active = (List.range 720).filter (fun lc => ! s.flag (Reg.memSeamCopying (lc / 15))) →
      (∀ lc, count lc = ((counts.find? (·.1 == lc)).map (·.2)).getD 0 + tget s.bursts 0 lc) →
      sum = (active.map count).foldl (· + ·) 0 →
      ∃ t, exec (.hotWindow counts) s = .next t ∧ t.bursts = [] ∧ t.mem = s.mem
        ∧ t.hotRuns = (active.filter fun lc => decide (4 * sum < count lc * active.length) && decide (2048 * active.length ≤ sum)).map
            fun lc => (lc, tget s.hotRuns 0 lc + 1))
    ∧ (∀ (corrected : List (Nat × Nat)) (bad spares : List Nat), s.arbGrant.flag Reg.memStatusTrained = true →
      ∃ t, exec (.scrubPeriod corrected bad spares) s = .next t ∧ t.faint = [] ∧ t.mem = s.mem
        ∧ t.fld Reg.memScrubPassesCount = min (s.fld Reg.memScrubPassesCount + 1) (2 ^ 32 - 1))
    ∧ (∃ t, exec .ceHour s = .next t ∧ t.ceHour = [] ∧ t.mem = s.mem)
    ∧ (s.arbGrant.flag Reg.memStatusTrained = true → s.badGranules = [] →
      (s.faint = [] → s.arbGrant.room 1 = true →
        ∃ t, exec (.scrubPeriod [] [] []) s = .next t
          ∧ t.fld Reg.memScrubPassesCount = min (s.fld Reg.memScrubPassesCount + 1) (2 ^ 32 - 1)
          ∧ t.hasEvent 0x0408 0 (t.fld Reg.memScrubPassesCount) 0 0 ∧ t.mem = s.mem ∧ t.badGranules = [])
      ∧ ∀ g y, s.faint = [(g, y)] → s.arbGrant.room 2 = true →
        ∃ t, exec (.scrubPeriod [] [] []) s = .next t ∧ t.faint = []
          ∧ t.pair Reg.memCorrectedLoOff = min (s.pair Reg.memCorrectedLoOff + 1) (2 ^ 64 - 1)
          ∧ t.hasEvent 0x0401 (dieOfCh (s.chOf g)) (s.chOf g) (g / 720) y ∧ t.mem = s.mem)
    ∧ (∀ g, s.arbGrant.flag Reg.memStatusTrained = true → s.badGranules = [g] → s.faint = [] → s.arbGrant.room 3 = true →
      ∃ t, exec (.scrubPeriod [] [] []) s = .next t ∧ t.badGranules = [g]
        ∧ t.fld Reg.memUncorrectableCount = min (s.fld Reg.memUncorrectableCount + 1) (2 ^ 32 - 1)
        ∧ t.hasEvent 0x0402 (dieOfCh (s.chOf g)) (s.chOf g) (bits (g * 256) 39 8) (2 * 2 ^ 24 + bits (g * 256) 47 40)
        ∧ t.mem = s.mem)
    ∧ ((∀ x ∈ s.ceHour, s.fld Reg.memCeLimitLimit = 0 ∨ x.2 < s.fld Reg.memCeLimitLimit) →
      ∃ t, exec .ceHour s = .next t ∧ t.ceHour = [] ∧ RegsBut s t [Reg.memStatusOff] ∧ t.mem = s.mem))
  ∧ ((∀ (r : Requester) (ch : Nat) (s : State), s.powered = true → s.arbGrant.installs r 1 = true →
    ch < 768 → ch % 16 ≠ 15 → s.arbGrant.fld (Reg.memChRole ch) = 0 → s.copies = [] →
    s.arbGrant.fld (Reg.memSeamSparedFrom (ch / 16)) = 15 → s.arbGrant.flag (Reg.memSeamCopying (ch / 16)) = false →
    s.arbGrant.flag (Reg.memSeamSpareBad (ch / 16)) = false →
    ∃ t, exec (.memSpareStart r ch) s = .next t ∧ .access r Reg.memSpareStartOff (2 ^ 31 + ch) .ok ∈ t.wire ∧ t.mem = s.mem
      ∧ (∃ span, 25850000 ≤ span ∧ span ≤ 470000000 ∧ t.copies = [(ch / 16, ch, s.clk, span)])
      ∧ t.flag (Reg.memSeamCopying (ch / 16)) = true
      ∧ t.hasEvent 0x0403 (dieOfCh ch) ch 3 (16 * (ch / 16) + 15))
  ∧ (∀ (seam ch : Nat) (p : Nat × Nat) (s : State), s.powered = true → seam < 48 → ch / 16 = seam → ch % 16 < 15 →
    s.copies = [(seam, ch, p)] →
    s.badGranules = [] → s.faint = [] → s.start.warmWait = false → s.room 2 = true →
    ∃ t, exec (.sparingDone seam []) s = .next t ∧ t.copies = [] ∧ t.fld (Reg.memSeamSparedFrom seam) = ch % 16
      ∧ t.flag (Reg.memSeamCopying seam) = false ∧ t.fld (Reg.memChRole ch) = 3 ∧ t.fld (Reg.memChRole (16 * seam + 15)) = 2
      ∧ t.hasEvent 0x0404 (dieOfCh ch) ch (16 * seam + 15) 0 ∧ t.mem = s.mem)
  ∧ ∀ (seam ch : Nat) (p : Nat × Nat) (s : State), s.powered = true → seam < 48 → ch / 16 = seam → ch % 16 < 15 →
    s.copies = [(seam, ch, p)] →
    s.start.warmWait = false → s.room 2 = true →
    ∃ t, exec (.copyAbandoned seam) s = .next t ∧ t.copies = [] ∧ t.flag (Reg.memSeamCopying seam) = false
      ∧ t.flag (Reg.memSeamSpareBad seam) = true ∧ t.fld (Reg.memChRole (16 * seam + 15)) = 4
      ∧ t.flag Reg.memEventsSeamExhausted = true ∧ t.hasEvent 0x0404 (dieOfCh ch) ch (16 * seam + 15) (2 ^ 32 - 1)
      ∧ t.hasEvent 0x0405 (dieOfCh ch) seam (16 * seam + 15) 3 ∧ t.mem = s.mem)


/-! ### DMA (R189 to R210, R390) -/

/-- DMA_BIND of a free channel that is not BUSY gives it to the context; DMA_RELEASE of an own channel that is not BUSY or DRAINING
makes it unbound (R190).  Nothing else changes.  A write of CTRL by one that may write the channel (R191, R206, R208): START of an
IDLE or DONE channel whose checks pass makes it BUSY; ABORT of a BUSY one makes it DRAINING; CLEAR of a HALTED one makes it IDLE.
DMA_ABORT of an own BUSY channel makes it DRAINING too, and is answered later. -/
def Obligations.DmaBindingAndControl : Prop :=
  (∀ (o : Origin) (n : Nat) (s g : State), s.powered = true → g = s.arbGrant → n < 128 → g.dmaBusy n = false →
    (∀ (c : Nat) (x : Ctx), g.takes o 0x30 = true → c < 512 → g.ownCtx o c = some x → g.fenced x.p.partition = false →
      g.flag (Reg.dmaChOwnerBound n) = false →
      ∃ t, exec (.dmaBind o n c) s = .next t ∧ t.flag (Reg.dmaChOwnerBound n) = true
        ∧ t.fld (Reg.dmaChOwnerContext n) = c ∧ t.result o 0x30 .ok {} [] []
        ∧ RegsBut s t (grantRegs ++ [Reg.dmaChOwnerOff n])
        ∧ t = { s with regs := t.regs, inProg := t.inProg, latches := t.latches, outSeq := t.outSeq })
    ∧ (g.takes o 0x31 = true → g.ownChannel o n = true →
      ∃ t, exec (.dmaRelease o n) s = .next t ∧ t.flag (Reg.dmaChOwnerBound n) = false ∧ t.result o 0x31 .ok {} [] []
        ∧ RegsBut s t (grantRegs ++ [Reg.dmaChOwnerOff n])
        ∧ t = { s with regs := t.regs, inProg := t.inProg, latches := t.latches, outSeq := t.outSeq }))
  ∧ (∀ (n : Nat) (s g : State), s.powered = true → g = s.arbGrant → n < 128 →
    (∀ (r : Requester) (v : Nat) (job : Option Nat), g.dmaWriter r n = true → s.startFailed = false → v < 2 ^ 30 → g.chipFence = false →
      g.dmaState n = 0 ∨ g.dmaState n = 3 →
      job = (if g.flag (Reg.dmaChOwnerBound n) then (g.ctx (g.fld (Reg.dmaChOwnerContext n))).map (·.job) else none) →
      (g.writeRW (Reg.dmaChCtrlOff n) ctrlRW (v + 2 ^ 31)).dmaCheck n (v + 2 ^ 31) job = none →
      ∃ t, exec (.dmaCtrlStart r n v) s = .next t ∧ .access r (Reg.dmaChCtrlOff n) (v + 2 ^ 31) .ok ∈ t.wire
        ∧ t.dmaState n = 1 ∧ t.pair (Reg.dmaChProgressLoOff n) = 0 ∧ (t.dma n).job = job ∧ (t.dma n).out = []
        ∧ t = { s with regs := t.regs, wire := t.wire, dmaRun := t.dmaRun, latches := t.latches, outSeq := t.outSeq })
    ∧ (∀ r : Requester, g.dmaWriter r n = true → s.startFailed = false → g.dmaState n = 1 →
      ∃ t, exec (.dmaCtrlAbort r n) s = .next t ∧ t.dmaState n = 2 ∧ (t.dma n).aborted = some 1
        ∧ (s.slotWait = [] → (t.dma n).out = (s.dma n).out ∧ t.slotWait = []) ∧ RegsBut s t (grantRegs ++ [Reg.dmaChStatusOff n])
        ∧ t = { s with regs := t.regs, wire := t.wire, dmaRun := t.dmaRun, slotWait := t.slotWait, latches := t.latches,
                       outSeq := t.outSeq })
    ∧ (∀ r : Requester, g.dmaWriter r n = true → s.startFailed = false → g.dmaState n = 4 →
      ∃ t, exec (.dmaCtrlClear r n) s = .next t ∧ t.dmaState n = 0
        ∧ RegsBut s t (grantRegs ++ [Reg.dmaChCtrlOff n, Reg.dmaChStatusOff n])
        ∧ t = { s with regs := t.regs, wire := t.wire, latches := t.latches, outSeq := t.outSeq })
    ∧ ∀ o : Origin, g.takes o 0x33 = true → g.ownChannel o n = true → g.dmaState n = 1 →
      ∃ t, exec (.dmaAbort o n) s = .next t ∧ t.dmaState n = 2 ∧ (t.dma n).aborted = some 1 ∧ o ∈ (t.dma n).aborts
        ∧ RegsBut s t (grantRegs ++ [Reg.dmaChStatusOff n])
        ∧ t = { s with regs := t.regs, inProg := s.inProg ++ [⟨o, 0x33, none⟩], dmaRun := t.dmaRun, slotWait := t.slotWait
                       latches := t.latches, outSeq := t.outSeq })

/-- DMA_START of an own channel that is IDLE or DONE writes the RW fields of its image and, when the checks pass, makes the channel
BUSY with nothing moved; it is answered at the transfer's end (R199, R208, R390).  A failing check makes it HALTED with the check's
status and number, and records event 0x0501. -/
def Obligations.DmaStartChecksAndStarts : Prop :=
  ∀ (o : Origin) (n : Nat) (image : List Byte) (s g w : State), s.powered = true → g = s.arbGrant → n < 128 →
    g.takes o 0x32 = true → image.length = 96 → g.ownChannel o n = true → g.chipFence = false →
    bit (field image 0 4) 31 = true → bit (field image 0 4) 30 = false → bit (field image 0 4) 29 = false →
    g.dmaState n = 0 ∨ g.dmaState n = 3 →
    w = (g.begun o 0x32).each (imageFields n) (fun t x => t.writeRW (Reg.dmaChCtrlOff n + x.1) x.2 (field image x.1 4)) →
    (w.dmaCheck n (field image 0 4) ((g.ctx (g.fld (Reg.dmaChOwnerContext n))).map (·.job)) = none →
      ∃ t, exec (.dmaStart o n image) s = .next t ∧ t.dmaState n = 1 ∧ t.pair (Reg.dmaChProgressLoOff n) = 0
        ∧ t.fld (Reg.dmaChMismatchCountCount n) = 0 ∧ (t.dma n).reply = some o ∧ (t.dma n).run = 0 ∧ (t.dma n).out = []
        ∧ (∀ x ∈ imageFields n, (t.reg (Reg.dmaChCtrlOff n + x.1)).toNat = Nat.land (field image x.1 4) x.2)
        ∧ t.inProg = s.inProg ++ [⟨o, 0x32, none⟩]
        ∧ (∀ off, off ∉ grantRegs → off ≠ Reg.dmaTimersOff (n / 64) →
            (off < Reg.dmaChCtrlOff n ∨ Reg.dmaChCtrlOff n + 0x100 ≤ off) → t.reg off = s.reg off)
        ∧ t = { s with regs := t.regs, inProg := t.inProg, dmaRun := t.dmaRun, latches := t.latches, outSeq := t.outSeq })
    ∧ ∀ (k : Nat) (st : Status), g.room 1 = true →
      w.dmaCheck n (field image 0 4) ((g.ctx (g.fld (Reg.dmaChOwnerContext n))).map (·.job)) = some (k, st) →
      (g.dma n).aborts = [] →
      ∃ t, exec (.dmaStart o n image) s = .next t ∧ t.dmaState n = 4 ∧ t.fld (Reg.dmaChStatusStatus n) = stCode st
        ∧ t.fld (Reg.dmaChStatusCheck n) = k ∧ t.hasEvent 0x0501 (n / 64) n (stCode st) k
        ∧ (∃ f r, t.result o 0x32 st f r []) ∧ t.mem = s.mem

/-- A BUSY channel's requests (R192, R193, R201, R203, R204): the next piece of the loops of the channel whose turn it is on its die
leaves as one request of at most 4,096 bytes; a write to this module's own memory that may be made stores its data and counts in
PROGRESS.  The end of a transfer: one with every request issued and answered and no signal becomes DONE with status OK, and its
DMA_START is answered with PROGRESS and MISMATCH_COUNT (R204, R390); a drained aborted one becomes HALTED with status ABORTED and
records event 0x0503 (R206); a drained failed one becomes HALTED with the failure's status and address, event 0x0502 (R205). -/
def Obligations.DmaRequestsAndEnds : Prop :=
  ((∀ (n src dst size order : Nat) (s : State), s.powered = true → s.dmaNext (n / 64) = some n →
    s.dmaPiece n (s.dma n) = (src, dst, size, order) →
    (if dmaReadsSource (s.dmaOp n) then src else dst) / 2 ^ 48 = s.myId →
    ∃ t q, exec (.dmaRequestIssue n) s = .next t ∧ (t.dma n).out = (s.dma n).out ++ [q] ∧ q.id = (s.dma n).next
      ∧ q.size = size ∧ q.addr = (if dmaReadsSource (s.dmaOp n) then src else dst) ∧ q.dst = dst
      ∧ q.write = (s.dmaOp n == 1) ∧ (t.dma n).next = (s.dma n).next + 1
      ∧ t = { s with dmaRun := t.dmaRun, dmaLast := lset s.dmaLast (n / 64) n })
  ∧ ∀ (n : Nat) (q : DmaReq) (s : State), s.powered = true → n < 128 → (s.dma n).out = [q] → q.write = true →
    q.addr / 2 ^ 48 = s.myId → q.data.length = q.size → formOf (q.addr % 2 ^ 48) q.size = .ok → q.addr % 2 ^ 48 < memTop →
    s.reach (s.dma n).who true (q.addr % 2 ^ 48) = .ok → s.rickOn = false → s.sound (q.addr % 2 ^ 48) q.size = true →
    s.pair (Reg.dmaChProgressLoOff n) + q.size < 2 ^ 64 →
    ∃ t, exec (.dmaReply n q.id) s = .next t ∧ (t.dma n).out = []
      ∧ t.pair (Reg.dmaChProgressLoOff n) = s.pair (Reg.dmaChProgressLoOff n) + q.size
      ∧ (∀ i, i < q.size → Memory.byte t.mem (q.addr % 2 ^ 48 + i) = q.data.getD i 0)
      ∧ (∀ b, b < q.addr % 2 ^ 48 ∨ q.addr % 2 ^ 48 + q.size ≤ b → Memory.byte t.mem b = Memory.byte s.mem b)
      ∧ RegsBut s t [Reg.dmaChStatusOff n, Reg.dmaChProgressLoOff n, Reg.dmaChProgressLoOff n + 4])
  ∧ (∀ (n : Nat) (o : Origin) (s : State), s.powered = true → n < 128 → (s.dma n).out = [] → (s.dma n).reply = some o →
    (s.dma n).aborts = [] → (⟨o, 0x32, none⟩ : Progress) ∈ s.inProg →
    (s.dmaState n = 1 → (s.dma n).issued = true → s.flag (Reg.dmaChCtrlSignalEn n) = false →
      s.fld (Reg.dmaChMismatchCountCount n) = 0 →
      ∃ t, exec (.dmaTransferDone n) s = .next t ∧ t.dmaState n = 3 ∧ t.fld (Reg.dmaChStatusStatus n) = 0
        ∧ t.result o 0x32 .ok (flagsOf (s.fld (Reg.dmaChStatusFlags n)))
            (natLe 4 0 ++ natLe 4 (flagsCode (flagsOf (s.fld (Reg.dmaChStatusFlags n)))) ++
              natLe 8 (s.pair (Reg.dmaChProgressLoOff n)) ++ natLe 4 0) []
        ∧ t.fld (Reg.dmaTimersFree (n / 64)) = (if s.fld (Reg.dmaChCtrlRate n) ≠ 0
            then min 96 (s.fld (Reg.dmaTimersFree (n / 64)) + 1) else s.fld (Reg.dmaTimersFree (n / 64)))
        ∧ t.pair (Reg.dmaChProgressLoOff n) = s.pair (Reg.dmaChProgressLoOff n) ∧ t.mem = s.mem ∧ t.evq = s.evq
        ∧ RegsBut s t (grantRegs ++ [Reg.dmaChStatusOff n, Reg.dmaTimersOff (n / 64)]))
    ∧ (s.dmaState n = 2 → s.room 1 = true → ((s.ctx (s.fld (Reg.dmaChOwnerContext n))).all fun x => x.dying.isNone) = true →
      (∀ c, (s.dma n).failed = none → (s.dma n).aborted = some c →
        ∃ t, exec (.dmaDrained n) s = .next t ∧ t.dmaState n = 4 ∧ t.fld (Reg.dmaChStatusStatus n) = stCode .aborted
          ∧ t.hasEvent 0x0503 (n / 64) n c (s.pair (Reg.dmaChProgressLoOff n)) ∧ (∃ f r, t.result o 0x32 .aborted f r [])
          ∧ t.mem = s.mem ∧ RegsBut s t (evRegs ++ [Reg.dmaChStatusOff n, Reg.dmaTimersOff (n / 64)]))
      ∧ ∀ st a, (s.dma n).failed = some (st, a) → s.flag (Reg.dmaChCtrlSignalEn n) = false → a < 2 ^ 64 →
        ∃ t, exec (.dmaDrained n) s = .next t ∧ t.dmaState n = 4 ∧ t.fld (Reg.dmaChStatusStatus n) = stCode st
          ∧ t.pair (Reg.dmaChFaultAddrLoOff n) = a ∧ t.hasEvent 0x0502 (n / 64) n (stCode st) (a / 2 ^ 48)
          ∧ (∃ f r, t.result o 0x32 st f r []) ∧ t.mem = s.mem))


/-! ### Collectives (R282 to R316, R390) -/

/-- GROUP_CREATE that no check refuses makes a free entry a CREATING group of the context with its slots reserved and event 0x0801;
GROUP_DESTROY of an own group without a running collective frees the entry and its slots, event 0x0802; GROUP_DOORBELL within the ring
sets the tail (R283, R286, R287, R293).  READY (R286): the last answer a CREATING group waits for makes it READY; READY_RETRY asks a
neighbour that has not answered again.  CREDIT adds to the credits held (R290). -/
def Obligations.GroupsReadyAndCredits : Prop :=
  (∀ (o : Origin) (s g : State), s.powered = true → g = s.arbGrant →
    (∀ p : GroupParams, g.takes o 0x40 = true → g.groupStatus o p = .ok → p.id < 2 ^ 32 → p.ctx < 512 → g.room 1 = true →
      ∃ t n x, exec (.groupCreate o p) s = .next t ∧ n < 64 ∧ s.fld (Reg.carGroupStateState n) = 0 ∧ t.group n = some x
        ∧ x.addr = p.addr ∧ x.log2 = p.log2 ∧ x.run = none ∧ (∀ m, m ≠ n → t.group m = s.group m)
        ∧ t.fld (Reg.carGroupStateState n) = 1 ∧ t.fld (Reg.carGroupIdId n) = p.id ∧ t.fld (Reg.carGroupContextContext n) = p.ctx
        ∧ t.fld (freeSlotsFld p.home) = s.fld (freeSlotsFld p.home) - p.slots
        ∧ (∃ a : Bool, t.hasEvent 0x0801 p.home n p.id (2 ^ popc 16 p.mask + b2n a * 2 ^ 31)) ∧ t.result o 0x40 .ok {} [] []
        ∧ t = { s with regs := t.regs, groups := t.groups, inProg := t.inProg, evq := t.evq, free := t.free, latches := t.latches
                       outSeq := t.outSeq })
    ∧ (∀ (gid n : Nat) (x : Group), g.takes o 0x41 = true → g.ownGroup o gid = some (n, x) → n < 64 → g.group n = some x →
      x.run = none → g.chipFence = false → g.room 1 = true →
      ∃ t, exec (.groupDestroy o gid) s = .next t ∧ t.group n = none ∧ (∀ m, m ≠ n → t.group m = s.group m)
        ∧ t.fld (Reg.carGroupStateState n) = 0 ∧ t.hasEvent 0x0802 (g.groupDie n) n gid 1 ∧ t.result o 0x41 .ok {} [] []
        ∧ t.mem = s.mem)
    ∧ ∀ (gid n tail : Nat) (x : Group), g.takes o 0x42 = true → g.ownGroup o gid = some (n, x) → n < 64 → g.chipFence = false →
      tail < 2 ^ x.log2 → x.log2 ≤ 12 →
      passesHead (2 ^ x.log2) (g.fld (Reg.carGroupQueueHead n)) (g.fld (Reg.carGroupQueueTail n)) tail = false →
      ∃ t, exec (.groupDoorbell o gid tail) s = .next t ∧ t.fld (Reg.carGroupQueueTail n) = tail ∧ t.result o 0x42 .ok {} [] []
        ∧ RegsBut s t (grantRegs ++ [Reg.carGroupQueueOff n])
        ∧ t = { s with regs := t.regs, inProg := t.inProg, latches := t.latches, outSeq := t.outSeq })
  ∧ ((∀ (p : Packet) (n : Nat) (x : Group) (s : State), s.powered = true → p.cls = 3 → p.dest = s.myId → p.tailOk = true →
    s.flag Reg.rstStatusChipResetting = false → s.groupOf (field p.cmd 0 4) p.src = some (n, x) → n < 64 →
    (p.opcode = 0xC4 → field p.data 0 1 = 1 → s.fld (Reg.carGroupStateState n) = 1 →
      (∀ m ∈ x.neighbours (x.rings.map (·.1)), m ∈ x.answered ∨ m = p.src) →
      ∃ t y, exec (.ready p) s = .next t ∧ t.fld (Reg.carGroupStateState n) = 2 ∧ t.group n = some y ∧ p.src ∈ y.answered
        ∧ (∀ m, m ≠ n → t.group m = s.group m) ∧ RegsBut s t [Reg.carGroupStateOff n]
        ∧ t = { s with regs := t.regs, groups := t.groups })
    ∧ (p.opcode = 0xC1 → (field p.cmd 4 2 + 2 ^ 16 - x.next % 2 ^ 16) % 2 ^ 16 < 2 ^ 15 →
      (∀ c, x.run = some c → field p.cmd 12 2 = c.check) →
      (∀ y ∈ x.credits, y.1 ≠ (phaseOf (field p.cmd 6 1), bits (field p.cmd 6 1) 2 0, bit (field p.cmd 6 1) 5, field p.cmd 4 2)) →
      ∃ t y, exec (.credit p) s = .next t ∧ t.group n = some y ∧ y = { x with credits := y.credits }
        ∧ y.credits = x.credits ++ [((phaseOf (field p.cmd 6 1), bits (field p.cmd 6 1) 2 0, bit (field p.cmd 6 1) 5,
            field p.cmd 4 2), field p.data 0 2)]
        ∧ (∀ m, m ≠ n → t.group m = s.group m) ∧ t = { s with groups := t.groups }))
  ∧ ∀ (n m d : Nat) (x : Group) (q : Packet) (s : State), s.powered = true → s.group n = some x →
    s.fld (Reg.carGroupStateState n) = 1 →
    ((x.neighbours (x.rings.map (·.1))).filter fun m => ! x.answered.contains m) = [m] →
    s.route { dest := m, src := s.myId, cls := 3, opcode := 0xC4, gen := s.chipGen
              cmd := collCmd (s.fld (Reg.carGroupIdId n)) 0 0 {} 0 0, data := [0] } = .port d q →
    ∃ t, exec (.readyRetry n) s = .next t ∧ t.holds d q ∧ q.dest = m ∧ q.opcode = 0xC4 ∧ t.groups = s.groups ∧ t.mem = s.mem)

/-- COLLECTIVE_START of a READY group whose descriptor is read, whose WAIT is satisfied and whose checks pass makes it BUSY at the
first phase and axis of the order, step 0 (R293, R297, R303).  STEP_DONE, when all that the step sends is sent and all that it
receives has come, goes to the next step, after an axis's last to the next axis or phase, or after the last of all ends the steps.
COLLECTIVE_COMPLETE then writes the record where one is asked for, counts, and makes the group READY with its head advanced and
LAST_STATUS OK (R310, R315). -/
def Obligations.CollectiveStartsStepsAndCompletes : Prop :=
  ∀ (n : Nat) (x : Group) (s : State), s.powered = true → n < 64 → s.group n = some x → x.log2 ≤ 12 →
    (∀ (s1 : State) (c : Coll), x.run = none → s.fld (Reg.carGroupStateState n) = 2 → s.collQueued n = true →
      s.bankHolds (s.groupJob n) = false → s.haltedNow = false → s.readColl n x = (s1, .ok, c) →
      s1.collWait n c.desc = some false → s1.collCheck n x c.desc = none → (x.aborts.all fun a => a.1 != x.next % 2 ^ 16) = true →
      ((s1.busyColl n x c).primeColl n x c).2.1 = .ok →
      ∃ t y d, exec (.collectiveStart n) s = .next t ∧ t.group n = some y ∧ y.run = some d
        ∧ d.entry = s.fld (Reg.carGroupQueueHead n) ∧ d.phase = c.phase ∧ d.axis = c.axis ∧ d.step = 0 ∧ d.combined = []
        ∧ t.fld (Reg.carGroupStateState n) = 3 ∧ t.fld (Reg.carGroupRunCseq n) = x.next % 2 ^ 16)
    ∧ (∀ c : Coll, x.run = some c → c.finished = false → x.stepOver c (s.rankMask n) = true →
      (c.step + 1 < x.steps c.desc c.axis →
        ∃ t, exec (.stepDone n) s = .next t ∧ t.group n = some { x with run := some { c with step := c.step + 1 } }
          ∧ t.fld (Reg.carGroupRunStep n) = stepByte c.phase c.axis (c.step + 1) false % 256
          ∧ RegsBut s t [Reg.carGroupRunOff n] ∧ t = { s with regs := t.regs, groups := t.groups })
      ∧ (∀ ph a, x.steps c.desc c.axis ≤ c.step + 1 → c.desc.after c.phase c.axis = some (ph, a) →
        ∃ t y d, exec (.stepDone n) s = .next t ∧ t.group n = some y ∧ y.run = some d ∧ d.phase = ph ∧ d.axis = a ∧ d.step = 0
          ∧ d.combined = [] ∧ t.fld (Reg.carGroupRunStep n) = stepByte ph a 0 false % 256 ∧ t.mem = s.mem)
      ∧ (x.steps c.desc c.axis ≤ c.step + 1 → c.desc.after c.phase c.axis = none → (c.desc.sum && c.desc.outCode == 10) = false →
        ∃ t, exec (.stepDone n) s = .next t ∧ t.group n = some { x with run := some { c with finished := true } }
          ∧ RegsBut s t [Reg.carGroupRunOff n] ∧ t = { s with regs := t.regs, groups := t.groups }))
    ∧ ∀ (c : Coll) (cycles : Nat) (g : State), g = s.arbGrant → x.run = some c → c.finished = true →
      (c.desc.completion = 0 →
        ∃ t y, exec (.collectiveComplete n cycles) s = .next t ∧ t.group n = some y ∧ y.run = none ∧ y.next = x.next + 1
          ∧ t.fld (Reg.carGroupStateState n) = 2 ∧ t.fld (Reg.carGroupRunLastStatus n) = 0
          ∧ t.fld (Reg.carGroupQueueHead n) = (s.fld (Reg.carGroupQueueHead n) + 1) % 2 ^ x.log2
          ∧ t.fld (Reg.carGroupDoneCount n) = min (s.fld (Reg.carGroupDoneCount n) + 1) (2 ^ 32 - 1) ∧ t.mem = s.mem)
      ∧ (∀ a, c.desc.completion ≠ 0 → c.desc.completion / 2 ^ 48 = s.myId → a = c.desc.completion % 2 ^ 48 → a % 32 = 0 →
        a < memTop → g.reach (.firing (g.groupJob n)) true a = .ok → s.rickOn = false → s.badIn a 32 = [] →
        ∃ t, exec (.collectiveComplete n cycles) s = .next t ∧ t.mem.read a 32 = g.collRecord n c .ok cycles
          ∧ (∀ b, b < a ∨ a + 32 ≤ b → Memory.byte t.mem b = Memory.byte s.mem b)
          ∧ t.fld (Reg.carGroupStateState n) = 2)

/-- SEGMENT (R289, R298): a piece of a segment that a slot waits for joins those that have come before it.  SEGMENT_COMBINE at the
first step, or of a reduction that goes on, combines what has come with this member's own units and holds the result ready (R300 to
R304); a first residue mismatch is retried and counted (R302).  SEGMENT_SEND of the group whose turn it is on its die sends a ready
segment against one credit (R290, R307, R308).  The end of a running collective other than by its steps (R312): an ABORT for it, a
lost member and a stall each leave the group BROKEN with the status in LAST_STATUS and the module in LOST.  HEARTBEAT sends one to a
ring neighbour; its arrival, with the right check, changes nothing. -/
def Obligations.SegmentsAndEnds : Prop :=
  (∀ (n : Nat) (x : Group) (c : Coll) (s : State), s.powered = true → n < 64 → s.group n = some x → x.run = some c →
    (∀ (p : Packet) (k : SegKey) (r : Nat × Nat), p.opcode = 0xC0 → p.cls = 3 → p.dest = s.myId → p.tailOk = true →
      s.flag Reg.rstStatusChipResetting = false → s.groupOf (field p.cmd 0 4) p.src = some (n, x) →
      field p.cmd 4 2 = x.next % 2 ^ 16 → field p.cmd 12 2 = c.check →
      k = ⟨field p.cmd 4 2, phaseOf (field p.cmd 6 1), bits (field p.cmd 6 1) 2 0, bits (field p.cmd 6 1) 4 3,
        bit (field p.cmd 6 1) 5, field p.cmd 8 4⟩ → k.phase = c.phase → k.axis = c.axis →
      x.takes c.desc (s.rankMask n) c.phase c.axis k.step k.rev = some r → k.seg ∈ segsOf c.desc c.phase k.rev (some r) →
      (x.got k).length < segBytes c.desc c.phase r k.seg → c.combined.contains (k.step + 1, k.rev, k.seg) = false →
      ∃ t y d, exec (.segment p) s = .next t ∧ t.group n = some y ∧ y.run = some d ∧ d = { c with flags := d.flags }
        ∧ y.got k = (x.got k ++ slice p.data 0 (32 * p.length)).take (segBytes c.desc c.phase r k.seg)
        ∧ (∀ j, j ≠ k → y.got j = x.got j) ∧ RegsBut s t [Reg.carGroupRunOff n]
        ∧ t = { s with regs := t.regs, groups := t.groups })
    ∧ (∀ (seg u : Nat) (rev : Bool) (r q : Nat × Nat), x.nextStep c (s.rankMask n) rev seg = some u →
      x.combines c.desc (s.rankMask n) c.phase c.axis u rev = some r → q = segRange r (c.desc.unitBytes c.phase) seg →
      u = 0 ∨ segBytes c.desc c.phase r seg ≤ (x.got (x.key c (u - 1) rev seg)).length →
      (∀ (s1 : State) (own : List Nat) (fl : Flags), u = 0 ∨ c.phase = .reduce ∨ c.phase = .frameReduce →
        s.ownUnits n x c q.1 q.2 = (s1, .ok, own, fl) →
        seg ∈ segsOf c.desc c.phase rev (x.sends c.desc (s1.rankMask n) c.phase c.axis u rev) →
        ∃ t y d, exec (.segmentCombine n seg rev false) s = .next t ∧ t.group n = some y ∧ y.run = some d
          ∧ d.combined = c.combined ++ [(u, rev, seg)]
          ∧ d.ready = c.ready ++ [(x.key c u rev seg, unitsLe (c.desc.unitBytes c.phase) (if u = 0 then own
              else (List.zipWith (c.desc.join c.phase) (unitsOf (c.desc.unitBytes c.phase) (q.2 - q.1)
                (x.got (x.key c (u - 1) rev seg))) own).map (·.1)))] ∧ t.mem = s.mem)
      ∧ (c.retried.contains (u, rev, seg) = false → s.room 1 = true →
        ∃ t y d, exec (.segmentCombine n seg rev true) s = .next t ∧ t.group n = some y ∧ y.run = some d
          ∧ d = { c with retried := c.retried ++ [(u, rev, seg)] }
          ∧ t.fld Reg.carResidueRetriesCount = min (s.fld Reg.carResidueRetriesCount + 1) (2 ^ 32 - 1)
          ∧ t.hasEvent 0x0805 (s.groupDie n) n (x.next % 2 ^ 16) seg ∧ t.mem = s.mem))
    ∧ ∀ (seg left : Nat) (rev : Bool) (k : SegKey) (bs : List Byte), s.carryTurn (s.groupDie n) = some (n, left) →
      (c.ready.find? fun y => y.1.seg == seg && y.1.rev == rev)
        = some (k, bs) → (x.credits.any fun y => y.1 == (c.phase, c.axis, rev, k.cseq) && decide (0 < y.2)) = true →
      ∃ t y d, exec (.segmentSend n seg rev) s = .next t ∧ t.group n = some y ∧ y.run = some d
        ∧ d.sent = c.sent ++ [(k.step, k.rev, k.seg)] ∧ (∀ z ∈ d.ready, z.1 ≠ k)
        ∧ y.credits = x.credits.map (fun y => if y.1 = (c.phase, c.axis, rev, k.cseq) then (y.1, y.2 - 1) else y) ∧ t.mem = s.mem)
  ∧ (∀ (n : Nat) (x : Group) (c : Coll) (s : State), s.powered = true → n < 64 → s.group n = some x → x.run = some c →
    x.log2 ≤ 12 → s.myId < 2 ^ 16 →
    (∀ p : Packet, p.cls = 3 → p.dest = s.myId → p.tailOk = true → s.arbGrant.flag Reg.rstStatusChipResetting = false →
      s.arbGrant.groupOf (field p.cmd 0 4) p.src = some (n, x) → field p.cmd 12 2 = c.check → field p.cmd 4 2 = x.next % 2 ^ 16 →
      (p.opcode = 0xC2 → stOf (field p.data 0 1) ≠ .ok →
        ∃ t y, exec (.abort p) s = .next t ∧ t.group n = some y ∧ y.run = none ∧ y.next = x.next + 1
          ∧ t.fld (Reg.carGroupStateState n) = 4 ∧ t.fld (Reg.carGroupRunLastStatus n) = stCode (stOf (field p.data 0 1))
          ∧ t.flag (Reg.carGroupLostValid n) = true ∧ t.fld (Reg.carGroupLostId n) = field p.data 2 2
          ∧ (c.desc.completion = 0 → t.mem = s.mem))
      ∧ (p.opcode = 0xC3 → s.flag Reg.rstStatusChipResetting = false → s.groupOf (field p.cmd 0 4) p.src = some (n, x) →
        exec (.heartbeatArrival p) s = .next s))
    ∧ (∀ m, m < 2 ^ 16 → m ∈ x.neighbours (x.rings.map (·.1)) →
      (∃ t y, exec (.memberLost n m) s = .next t ∧ t.group n = some y ∧ y.run = none ∧ t.fld (Reg.carGroupStateState n) = 4
        ∧ t.fld (Reg.carGroupRunLastStatus n) = stCode .memberLost ∧ t.fld (Reg.carGroupLostId n) = m
        ∧ (c.desc.completion = 0 → t.mem = s.mem))
      ∧ ∀ d q, s.route { dest := m, src := s.myId, cls := 3, opcode := 0xC3, gen := s.chipGen
                         cmd := collCmd (s.fld (Reg.carGroupIdId n)) (x.next % 2 ^ 16) (stepByte c.phase c.axis c.step false)
                           c.flags 0 c.check, data := [] } = .port d q →
        ∃ t, exec (.heartbeat n m) s = .next t ∧ t.holds d q ∧ q.dest = m ∧ q.opcode = 0xC3 ∧ t.groups = s.groups ∧ t.mem = s.mem)
    ∧ ∃ t y, exec (.stallTimeout n) s = .next t ∧ t.group n = some y ∧ y.run = none ∧ t.fld (Reg.carGroupStateState n) = 4
        ∧ t.fld (Reg.carGroupRunLastStatus n) = stCode .timeout ∧ t.fld (Reg.carGroupLostId n) = s.myId
        ∧ (c.desc.completion = 0 → t.mem = s.mem))


/-! ### Ricks and banks (R317 to R348, R390) -/

/-- INSTALL_RANKS in one part puts the table in force, VALID, at generation 0 (R338); STAGE_RANKS in one part stages it beside the
table in force (R339).  FORM_RICK that no check refuses makes the rick FORMING at BANK_SEQ 0 with its parity area taken (R319, R320);
DISSOLVE_RICK, with no bank under way, frees the parity area and leaves no rick, event 0x0902 (R322); the bytes of the log's regions
are then undefined (R322; log entry 5, DESIGN CHOICE), every other byte stays. -/
def Obligations.RanksAndRicks : Prop :=
  ∀ (o : Origin) (s g : State), s.powered = true → g = s.arbGrant →
    (∀ (n : Nat) (ids : List Nat), ids.length = n → 0 < n → n ≤ 4096 → (g.sess o.sess).ranks = none →
      (g.takes o 0x50 = true → g.tableStatus false (g.sessJob o.sess) n 0 = .ok →
        ∃ t j x, exec (.installRanks o n 0 ids) s = .next t ∧ tfind t.rankTabs j = some x ∧ x.ids = ids
          ∧ t.fld (Reg.bnkRanktabJobJob j) = s.sessJob o.sess ∧ t.flag (Reg.bnkRanktabStateValid j) = true
          ∧ t.fld (Reg.bnkRanktabStateGeneration j) = 0 ∧ t.fld (Reg.bnkRanktabStateSize j) = n
          ∧ t.result o 0x50 .ok {} [] [] ∧ t.mem = s.mem)
      ∧ ∀ gen, gen < 256 → g.takes o 0x51 = true → g.tableStatus true (g.sessJob o.sess) n gen = .ok →
        ∃ t j x, exec (.stageRanks o n 0 ids gen) s = .next t ∧ tfind t.rankTabs j = some x ∧ x.staged = ids ∧ x.base = gen
          ∧ x.ids = (tget s.rankTabs {} j).ids ∧ t.flag (Reg.bnkRanktabStateStaged j) = true ∧ t.result o 0x51 .ok {} [] []
          ∧ t.mem = s.mem)
    ∧ (∀ (p : RickParams) (ids : List Nat), g.takes o 0x52 = true → g.rick = true → g.rickOn = false →
      ids = (match g.rankTab (g.sessJob o.sess) with | some (_, t) => t.ids | none => []) → g.rickStatus o p ids = .ok →
      ∃ t, exec (.formRick o p) s = .next t ∧ t.fld Reg.bnkStatusState = 1 ∧ t.rickJob = s.sessJob o.sess
        ∧ t.fld Reg.bnkBankSeqSeq = 0 ∧ t.fld Reg.bnkProtectedBase = p.protBase ∧ t.fld Reg.bnkProtectedCount = p.protCount
        ∧ t.bank = { ctx := p.ctx } ∧ (∀ i, i < p.protCount / 7 → t.fld (Reg.memRegionStateState (parityBase p.protCount + i)) = 3)
        ∧ t.result o 0x52 .ok {} [] [] ∧ t.mem = s.mem)
    ∧ (g.takes o 0x53 = true → g.rickOn = true → g.rickJob = g.sessJob o.sess → g.fld Reg.bnkStageStage = 0 →
      g.bank.rebuild = none → g.bank.rollback = none → g.bank.joining = none →
      g.fld Reg.memParityBase + g.fld Reg.memParityCount ≤ 1341 → g.room (g.fld Reg.memParityCount + 1) = true →
      ∃ t, exec (.dissolveRick o) s = .next t ∧ t.rickOn = false ∧ t.bank = {} ∧ t.fld Reg.memParityCount = 0
        ∧ (∀ i, i < g.fld Reg.memParityCount → t.fld (Reg.memRegionStateState (g.fld Reg.memParityBase + i)) = 0)
        ∧ t.hasEvent 0x0902 g.bankDie (g.sessJob o.sess) 1 (g.fld Reg.bnkStatusPosition) ∧ t.result o 0x53 .ok {} [] []
        ∧ ∀ a, a < s.fld Reg.bnkLogBase * regionSize ∨ (s.fld Reg.bnkLogBase + s.fld Reg.bnkLogCount) * regionSize ≤ a →
          Memory.byte t.mem a = Memory.byte s.mem a)

/-- Formation (R320, R321): a HELLO goes to each of the seven peers; one that comes is recorded and clears its peer's bit in
PEER_SILENT; the seventh that agrees makes the rick UNBANKED, its next bank full, event 0x0901; a silent peer is marked in
PEER_SILENT, event 0x0905; a formation that takes too long dissolves, and a JOIN that waits ends with STATE (R342). -/
def Obligations.FormationEvents : Prop :=
  ∀ s : State, s.powered = true →
    (s.rickOn = true → ∀ m d q, m ∈ s.peers → m ≠ s.myId →
      s.route { dest := m, src := s.myId, cls := 1, opcode := 0x43, cmd := s.helloCmd } = .port d q →
      ∃ t, exec .bankHelloSend s = .next t ∧ t.holds d q ∧ q.dest = m ∧ t.bank = s.bank ∧ t.mem = s.mem)
    ∧ (∀ (p : Packet) (pos : Nat), p.opcode = 0x43 → p.cls = 1 → p.dest = s.myId → p.tailOk = true → s.bank.joining = none →
      s.isPeer p.src = true → rankOf s.peers p.src = some pos → s.fld Reg.bnkStatusState = 1 → field p.cmd 0 4 = s.rickJob →
      field p.cmd 14 2 = s.fld Reg.bnkRickBit0 + 16 * s.fld Reg.bnkRickBit1 + 256 * s.fld Reg.bnkRickBit2 →
      field p.cmd 12 2 = s.fld Reg.bnkProtectedCount → field p.cmd 11 1 = s.fld Reg.glbArithLevelLevel →
      s.bank.heard.contains pos = false → s.bank.heard.length = 6 → s.room 1 = true →
      ∃ t, exec (.bankHello p) s = .next t ∧ t.fld Reg.bnkStatusState = 2 ∧ t.flag Reg.bnkStatusFullNext = true
        ∧ t.hasEvent 0x0901 s.bankDie s.rickJob (s.fld Reg.bnkStatusPosition) (s.fld Reg.bnkProtectedCount)
        ∧ RegsBut s t (evRegs ++ [Reg.bnkStatusOff, Reg.bnkPeerSilentOff])
        ∧ t = { s with regs := t.regs, bank := t.bank, evq := t.evq })
    ∧ (∀ (p : Packet) (pos : Nat) (heard : List Nat), p.opcode = 0x43 → p.cls = 1 → p.dest = s.myId → p.tailOk = true →
      s.bank.joining = none → s.isPeer p.src = true → rankOf s.peers p.src = some pos →
      heard = (if s.bank.heard.contains pos then s.bank.heard else s.bank.heard ++ [pos]) →
      s.fld Reg.bnkStatusState ≠ 1 ∨ heard.length ≠ 7 ∧ field p.cmd 0 4 = s.rickJob ∧ field p.cmd 12 2 = s.fld Reg.bnkProtectedCount
        ∧ field p.cmd 14 2 = s.fld Reg.bnkRickBit0 + 16 * s.fld Reg.bnkRickBit1 + 256 * s.fld Reg.bnkRickBit2
        ∧ field p.cmd 11 1 = s.fld Reg.glbArithLevelLevel →
      ∃ t, exec (.bankHello p) s = .next t ∧ bit (t.fld Reg.bnkPeerSilentPositions) pos = false ∧ t.bank.heard = heard
        ∧ tfind t.bank.hello pos = some ⟨field p.cmd 4 4, field p.cmd 8 1, field p.cmd 10 1, field p.cmd 11 1, field p.cmd 12 2⟩
        ∧ RegsBut s t [Reg.bnkPeerSilentOff] ∧ t = { s with regs := t.regs, bank := t.bank })
    ∧ (∀ pos, s.rickOn = true → pos < 8 → pos ≠ s.fld Reg.bnkStatusPosition → s.room 1 = true →
      ∃ t, exec (.peerSilent pos) s = .next t ∧ bit (t.fld Reg.bnkPeerSilentPositions) pos = true
        ∧ t.flag Reg.bnkEventsPeerSilent = true ∧ t.hasEvent 0x0905 s.bankDie pos (s.peers.getD pos 0) 0
        ∧ RegsBut s t (evRegs ++ [Reg.bnkPeerSilentOff, Reg.bnkEventsOff]) ∧ t = { s with regs := t.regs, evq := t.evq })
    ∧ (s.bank.joining = none → s.bank.rebuild = none → s.bank.rollback = none → s.fld Reg.bnkStatusState = 1 →
      s.fld Reg.bnkStageStage = 0 →
      ∃ t, exec .formationTimeout s = .next t ∧ t.rickOn = false ∧ t.bank = {}
        ∧ ∀ a, a < s.fld Reg.bnkLogBase * regionSize ∨ (s.fld Reg.bnkLogBase + s.fld Reg.bnkLogCount) * regionSize ≤ a →
            Memory.byte t.mem a = Memory.byte s.mem a)
    ∧ ∀ (o : Origin) (p : RickParams), s.bank.joining = some (o, p) → (⟨o, 0x54, none⟩ : Progress) ∈ s.inProg →
      ∃ t, exec .formationTimeout s = .next t ∧ t.bank = {} ∧ t.result o 0x54 .state {} [] []

/-- The stages of a bank (R328 to R334).  Quiesced, it enters Barrier 1 at round 0; an ARRIVE of the round from its partner takes it
to the next round; the last one of Barrier 1 closes the run and begins the fold, and that of Barrier 2 commits: BANK_SEQ is one more,
the state CURRENT, the entries of the bank freed, event 0x0903.  The fold ends in Barrier 2.  A stall leaves it FAILED. -/
def Obligations.BankStages : Prop :=
  ∀ (s : State) (ids : List Nat) (i : Nat), s.powered = true → ids = s.tableInUse s.rickJob → i = s.fld Reg.bnkStageRound →
    (s.fld Reg.bnkStageStage = 1 → s.quiet s.rickJob = true → s.bank.arrivals = [] → 0 < barrierRounds ids.length →
      ∃ t, exec .quiesceDone s = .next t ∧ t.fld Reg.bnkStageStage = 2 ∧ t.fld Reg.bnkStageRound = 0
        ∧ t.bank = { s.bank with second := false, full := s.flag Reg.bnkStatusFullNext } ∧ t.mem = s.mem)
    ∧ (∀ (p : Packet) (stage : Nat), stage = s.fld Reg.bnkStageStage → stage = 2 ∨ stage = 4 → p.opcode = 0x41 → p.cls = 1 →
      p.dest = s.myId → p.tailOk = true → s.rickOn = true → field p.cmd 0 4 = s.rickJob → field p.cmd 4 4 = s.bankNumber →
      field p.cmd 10 1 = s.fld Reg.bnkStatusRecovery → bit (field p.cmd 8 1) 2 = false →
      bit (field p.cmd 8 1) 0 = (stage == 4) → field p.cmd 9 1 = i → field p.cmd 12 2 = s.stagedCheck s.rickJob →
      p.src = ids.getD (((rankOf ids s.myId).getD 0 + ids.length - 2 ^ i % ids.length) % ids.length) 0 →
      s.bank.arrivals = [] →
      (i + 1 < barrierRounds ids.length →
        ∃ t, exec (.arrive p) s = .next t ∧ t.fld Reg.bnkStageStage = stage ∧ t.fld Reg.bnkStageRound = (i + 1) % 256
          ∧ t.bank = { s.bank with full := s.bank.full || bit (field p.cmd 8 1) 1 } ∧ t.mem = s.mem)
      ∧ (i + 1 = barrierRounds ids.length → i < 255 → stage = 2 →
        ∃ t, exec (.arrive p) s = .next t ∧ t.fld Reg.bnkStageStage = 3 ∧ t.fld Reg.bnkStageRound = 0 ∧ t.bank.closed = true
          ∧ t.bank.fullBank = (s.bank.full || bit (field p.cmd 8 1) 1) ∧ t.mem = s.mem)
      ∧ (i + 1 = barrierRounds ids.length → i < 255 → stage = 4 → (∀ j x, s.rankTab s.rickJob = some (j, x) → x.staged = []) →
        s.room 1 = true →
        ∃ t, exec (.arrive p) s = .next t ∧ t.fld Reg.bnkBankSeqSeq = s.bankNumber ∧ t.fld Reg.bnkStatusState = 3
          ∧ t.fld Reg.bnkStageStage = 0 ∧ t.bank.dirty = [] ∧ t.bank.closed = false ∧ t.bank.stale = false
          ∧ t.bank.log = s.bank.log.filter (fun e => e.bank != s.bankNumber)
          ∧ t.hasEvent 0x0903 s.bankDie s.bankNumber (s.bank.folded % 2 ^ 31 + b2n s.bank.fullBank * 2 ^ 31)
              ((s.clk - s.bank.began) / 235)
          ∧ t.mem = s.mem))
    ∧ (s.fld Reg.bnkStageStage = 3 → s.bank.owed = 0 → s.bank.foldFail = none → s.bank.folded = s.foldTotal →
      s.bank.arrivals = [] → 0 < barrierRounds ids.length →
      ∃ t, exec .foldDone s = .next t ∧ t.fld Reg.bnkStageStage = 4 ∧ t.fld Reg.bnkStageRound = 0 ∧ t.bank.second = true
        ∧ t.mem = s.mem)
    ∧ (s.fld Reg.bnkStageStage = 2 ∨ s.fld Reg.bnkStageStage = 4 →
      ∃ t, exec .bankStall s = .next t ∧ t.fld Reg.bnkStageStage = 0 ∧ t.fld Reg.bnkStatusState = 6
        ∧ t.flag Reg.bnkEventsBankFailed = true ∧ t.bank.arrivals = [] ∧ t.mem = s.mem)

/-- The parity lines (R331, R333): a DELTA of a peer is combined into its line by exclusive or, and answered; a PARITY_READ of a peer
answers the 4,096 bytes.  ROLLBACK to the bank last committed, of a rick with no bank under way, closes the run; when it is done the
before-images are back in memory, the rick is CURRENT, RECOVERY one more, event 0x0907 (R326, R340).  JOIN that its first checks let
pass waits for the peers (R342); REBUILD of a position whose spare is REBUILDING begins, event 0x0908 (R343); a spare that has
received every unit and line is CURRENT, event 0x0909. -/
def Obligations.ParityRollbackAndRebuild : Prop :=
  (∀ (p q : Packet) (d : Nat) (s : State), s.powered = true → p.cls = 1 → p.dest = s.myId → p.tailOk = true →
    s.isPeer p.src = true → p.job = s.rickJob → s.isLine p.addr = true → s.badIn p.addr 4096 = [] → p.addr < memTop →
    (p.opcode = 0x40 → bit (field p.cmd 12 1) 0 = false →
      (s.bank.log.any fun e => e.addr == p.addr && e.bank == s.bankNumber) = true →
      ∃ t, exec (.delta p) s = .next t
        ∧ (∀ j, j < 4096 → Memory.byte t.mem (p.addr + j) = Memory.byte s.mem (p.addr + j) ^^^ (slice p.data 0 4096).getD j 0)
        ∧ (∀ b, b < p.addr ∨ p.addr + 4096 ≤ b → Memory.byte t.mem b = Memory.byte s.mem b) ∧ t.bank = s.bank)
    ∧ (p.opcode = 0x42 → s.fld Reg.bnkStatusState ≠ 8 → s.route (replyTo p s.myId 0x81 .ok {} (s.mem.read p.addr 4096)) = .port d q →
      ∃ t, exec (.parityRead p) s = .next t ∧ t.holds d q ∧ q.data = s.mem.read p.addr 4096 ∧ q.dest = p.src
        ∧ q.opcode = 0x81 ∧ t.bank = s.bank ∧ t.mem = s.mem))
  ∧ ((∀ (o : Origin) (n : Nat) (s g : State), s.powered = true → g = s.arbGrant → g.takes o 0x56 = true →
    g.rickOn = true → g.rickJob = g.sessJob o.sess → [1, 7, 8].contains (g.fld Reg.bnkStatusState) = false →
    g.fld Reg.bnkStageStage = 0 → n < 2 ^ 32 → g.fld Reg.bnkBankSeqSeq = n → g.bank.second = false →
    ∃ t, exec (.rollback o n) s = .next t ∧ t.fld Reg.bnkStatusState = 7 ∧ t.bank.closed = true
      ∧ t.bank.rollback = some (o, n, false)
      ∧ ((∀ p, p < 4 → (g.part p).run = none) → g.groups = [] → t.mem = s.mem))
  ∧ (∀ (o : Origin) (n : Nat) (s : State), s.powered = true → s.bank.rollback = some (o, n, false) →
    (∀ e ∈ s.bank.log, n < e.bank → e.bad = false) → s.bank.stale = false → (⟨o, 0x56, none⟩ : Progress) ∈ s.inProg →
    s.room 1 = true →
    ∃ t, exec .rollbackDone s = .next t ∧ t.fld Reg.bnkStatusState = 3
      ∧ t.fld Reg.bnkStatusRecovery = (s.fld Reg.bnkStatusRecovery + 1) % 256
      ∧ t.bank.log = s.bank.log.filter (fun (e : LogEntry) => decide (e.bank ≤ n)) ∧ t.bank.closed = false ∧ t.bank.rollback = none
      ∧ t.hasEvent 0x0907 s.bankDie n (s.bank.log.filter fun (e : LogEntry) => decide (n < e.bank)).length 0
      ∧ t.result o 0x56 .ok {} [] [])
  ∧ ∀ (o : Origin) (n : Nat) (e : LogEntry) (s : State), s.powered = true → s.bank.rollback = some (o, n, false) →
    s.bank.log = [e] → n < e.bank → e.bad = false → s.bank.stale = false → s.badIn e.addr e.data.length = [] →
    e.addr + e.data.length ≤ sramBase → 0 < e.data.length → (⟨o, 0x56, none⟩ : Progress) ∈ s.inProg → s.room 1 = true →
    ∃ t, exec .rollbackDone s = .next t ∧ t.fld Reg.bnkStatusState = 3
      ∧ t.fld Reg.bnkStatusRecovery = (s.fld Reg.bnkStatusRecovery + 1) % 256 ∧ t.bank.log = [] ∧ t.bank.closed = false
      ∧ t.bank.rollback = none ∧ (∀ i, i < e.data.length → Memory.byte t.mem (e.addr + i) = e.data.getD i 0)
      ∧ (∀ b, b < e.addr ∨ e.addr + e.data.length ≤ b → Memory.byte t.mem b = Memory.byte s.mem b)
      ∧ t.hasEvent 0x0907 s.bankDie n 1 0 ∧ t.result o 0x56 .ok {} [] [])
  ∧ (∀ (o : Origin) (s g : State), s.powered = true → g = s.arbGrant →
    (∀ p : RickParams, g.takes o 0x54 = true → g.rick = true → g.rickOn = false → g.bank.joining = none → rickRanges p = true →
      (rickIds (sortedBits p) (g.tableInUse (g.sessJob o.sess)) g.myId).length = 8 →
      ∃ t, exec (.join o p) s = .next t ∧ t.bank = { joining := some (o, p) } ∧ RegsBut s t grantRegs
        ∧ t = { s with regs := t.regs, bank := t.bank, inProg := s.inProg ++ [⟨o, 0x54, none⟩], latches := t.latches, outSeq := t.outSeq })
    ∧ (∀ (spare x : Nat) (h : RickHello), g.takes o 0x55 = true → g.rickOn = true → g.rickJob = g.sessJob o.sess →
      g.fld Reg.bnkStatusState = 3 → spare ≠ g.myId → rankOf g.peers spare = some x → tfind g.bank.hello x = some h → h.state = 8 →
      g.bank.rebuild = none → g.room 1 = true →
      ∃ t b, exec (.rebuild o spare) s = .next t ∧ t.bank.rebuild = some b ∧ b.o = o ∧ b.spare = spare ∧ b.lost = x ∧ b.next = 0
        ∧ t.fld Reg.bnkRebuildTotalCount = g.rebuildTotal x % 2 ^ 32 ∧ t.fld Reg.bnkRebuildDoneCount = 0
        ∧ t.hasEvent 0x0908 g.bankDie spare x (g.rebuildTotal x) ∧ t.mem = s.mem)
    ∧ (s.fld Reg.bnkStatusState = 8 → s.bank.received.length = s.fld Reg.bnkRebuildTotalCount → s.room 1 = true →
      ∃ t, exec .rebuildDone s = .next t ∧ t.fld Reg.bnkStatusState = 3 ∧ t.bank.closed = false
        ∧ t.flag Reg.bnkEventsRebuilt = true ∧ t.hasEvent 0x0909 s.bankDie s.myId 0 (s.fld Reg.bnkRebuildDoneCount)
        ∧ RegsBut s t (evRegs ++ [Reg.bnkStatusOff, Reg.bnkEventsOff])
        ∧ t = { s with regs := t.regs, bank := t.bank, evq := t.evq }))


/-! ### Registers, the recorder, attestation, sessions (R27, R374 to R397, R450 to R469, R485 to R496) -/

/-- READ_REGS of one register answers its value, or ACCESS with 0 where the session may not read (R27, R390).  WRITE_REGS on the
management port applies writes in order up to the first that fails and answers how many were applied (R390, R461).  EVENT_READ answers
the records from a sequence number on (R488).  ATTEST answers a quote of the module's state, counts it, and records event 0x0B0A
(R451, R452).  Writes from outside (R13, R27, R463 to R465).  A requester that is no session on the management port is answered ACCESS
at MEM_EVENTS and changes nothing.  An operator clears the bits of MEM_EVENTS that it writes as 1, and nothing else.  A write of an
installer stands in the audit record before its effect: one more entry, chained to the head, with event 0x0B01; when the entry cannot
be written the action is refused with STATE. -/
def Obligations.HostReadsAndRegisterWrites : Prop :=
  (∀ (o : Origin) (s g : State), s.powered = true → g = s.arbGrant →
    (∀ off, g.takes o 0x61 = true → isLo off = false → isHi off = false →
      ((g.begun o 0x61).mayRead (.session o.sess) off = true →
        ∃ t, exec (.readRegs o [off]) s = .next t
          ∧ t.result o 0x61 .ok {} [] (natLe 4 ((g.begun o 0x61).liveWord (.session o.sess) off % 2 ^ 32))
          ∧ t = { g with inProg := t.inProg, latches := t.latches, outSeq := t.outSeq })
      ∧ ((g.begun o 0x61).mayRead (.session o.sess) off = false →
        ∃ t, exec (.readRegs o [off]) s = .next t ∧ t.result o 0x61 .access {} [] (natLe 4 0)
          ∧ t = { g with inProg := t.inProg, latches := t.latches, outSeq := t.outSeq }))
    ∧ (∀ (a v b w : Nat) (u1 u2 : State) (st : Status), g.takes o 0x63 = true → g.fld (Reg.hstSessionStatePort o.sess) = 8 →
      (g.begun o 0x63).writeReg (.session o.sess) a v = (u1, .ok) → u1.writeReg (.session o.sess) b w = (u2, st) →
      (⟨o, 0x63, none⟩ : Progress) ∈ u2.inProg →
      ∃ t, exec (.writeRegs o [(a, v), (b, w)]) s = .next t ∧ t.result o 0x63 st {} (natLe 2 (if st = .ok then 2 else 1)) []
        ∧ t = { u2 with inProg := t.inProg, latches := t.latches, outSeq := t.outSeq })
    ∧ (∀ first n, g.takes o 0x60 = true → 0 < n → n ≤ 256 →
      ∃ t, exec (.eventRead o first n) s = .next t ∧ t.result o 0x60 .ok {} [] (g.recordsFrom first n)
        ∧ t = { g with inProg := t.inProg, latches := t.latches, outSeq := t.outSeq })
    ∧ ∀ nonce, g.takes o 0x70 = true → g.flag Reg.secStatusMonitorMismatch = false → g.room 1 = true →
      ∃ t rest, exec (.attest o nonce) s = .next t ∧ t.result o 0x70 .ok {} [] ((g.begun o 0x70).quoteBody nonce ++ rest)
        ∧ 64 ≤ rest.length ∧ t.fld Reg.secQuotesCount = min (s.fld Reg.secQuotesCount + 1) (2 ^ 32 - 1)
        ∧ t.hasEvent 0x0B0A 0 o.sess nonce 0
        ∧ t = { s with regs := t.regs, inProg := t.inProg, evq := t.evq, free := t.free, latches := t.latches, outSeq := t.outSeq })
  ∧ (∀ (r : Requester) (v : Nat) (s g : State), s.powered = true → g = s.arbGrant → s.start.warmWait = false → v < 2 ^ 32 →
    s.startFailed = false →
    (g.mgmtRole r = none →
      ∃ t, exec (.registerWrite r Reg.memEventsOff v) s = .next t ∧ .access r Reg.memEventsOff v .access ∈ t.wire
        ∧ t = { g with wire := t.wire, latches := t.latches, outSeq := t.outSeq })
    ∧ (g.isOp r = true →
      ∃ t, exec (.registerWrite r Reg.memEventsOff v) s = .next t ∧ .access r Reg.memEventsOff v .ok ∈ t.wire
        ∧ t.reg Reg.memEventsOff = s.reg Reg.memEventsOff &&& ~~~ (BitVec.ofNat 32 v &&& 0x1F#32)
        ∧ RegsBut s t (grantRegs ++ [Reg.memEventsOff])
        ∧ t = { s with regs := t.regs, wire := t.wire, latches := t.latches, outSeq := t.outSeq })
    ∧ (g.isInst r = true → 1 ≤ v % 32 → v % 32 ≤ 24 → s.audit.length < 262144 →
      (s.auditBad = false → s.room 1 = true →
        ∃ t e, exec (.registerWrite r Reg.memScrubCtrlOff v) s = .next t ∧ .access r Reg.memScrubCtrlOff v .ok ∈ t.wire
          ∧ t.fld Reg.memScrubCtrlPeriodH = v % 32 ∧ t.audit = s.audit ++ [e] ∧ slice e 32 32 = g.auditHead
          ∧ field e 16 2 = 1 ∧ field e 18 1 = 2 ∧ field e 0 8 = g.pair Reg.secAuditCountLoOff
          ∧ (∃ q ∈ t.evq, ∃ x ∈ q, x.code = 0x0B01)
          ∧ RegsBut s t (grantRegs ++ auditRegs ++ [Reg.memScrubCtrlOff]) ∧ t.mem = s.mem)
      ∧ (s.auditBad = true → s.room 1 = true →
        ∃ t, exec (.registerWrite r Reg.memScrubCtrlOff v) s = .next t ∧ .access r Reg.memScrubCtrlOff v .state ∈ t.wire
          ∧ t.fld Reg.memScrubCtrlPeriodH = s.fld Reg.memScrubCtrlPeriodH ∧ t.audit = s.audit
          ∧ t.fld Reg.secAuditFailsCount = min (s.fld Reg.secAuditFailsCount + 1) (2 ^ 32 - 1) ∧ t.hasEvent 0x0B06 0 1 15 0)))

/-- Sessions open and end (R382, R384, R394).  A HELLO with a good header that nothing refuses takes a free entry, its epoch one more,
in HANDSHAKE; one with a nonce already answered is answered as before; FINISH opens the entry, event 0x0A01; a handshake, or a
disconnection, that lasts too long frees it.  Event 0x0A02 tells of the latter. -/
def Obligations.SessionsOpenAndEnd : Prop :=
  ∀ s : State, s.powered = true →
    (∀ h : Hello, s.hostUp h.pkt.port = true → h.pkt.bytes.length = 32 + h.pkt.length → h.chain ≤ 4096 → h.pkt.headOk 0x01 = true →
      h.pkt.handshake = true → h.pkt.session = 0 → h.rate ≤ 400 →
      (∀ key : Nat, (s.nonces.all fun a => a.nonce != h.nonce) = true → (s.countRx h.pkt.port).handshakes < 64 →
        (s.countRx h.pkt.port).helloState h = true → addrOk h = true → (s.countRx h.pkt.port).helloKey h = some key →
        (s.countRx h.pkt.port).freeSessions ≠ [] → h.job < 2 ^ 32 →
        ∃ t i a, exec (.hello h) s = .next t ∧ i < 4096 ∧ s.sessState i = 0 ∧ t.sessState i = 1 ∧ t.sessRole i = roleCode h.role
          ∧ t.sessJob i = h.job ∧ t.fld (Reg.hstSessionStateEpoch i) = (s.fld (Reg.hstSessionStateEpoch i) + 1) % 2 ^ 20
          ∧ (t.sess i).key = key ∧ (t.sess i).rxSeq = 1 ∧ .helloReply h.pkt.port a ∈ t.wire ∧ a ∈ t.nonces ∧ a.nonce = h.nonce
          ∧ a.entry = i ∧ a.status = .ok ∧ a.sess = t.sessId i ∧ (∀ j, j ≠ i → t.sess j = s.sess j) ∧ t.mem = s.mem)
      ∧ ∀ a, s.nonces.find? (fun a => a.nonce == h.nonce) = some a →
        ∃ t, exec (.hello h) s = .next t ∧ .helloReply h.pkt.port a ∈ t.wire ∧ t = { s with regs := t.regs, wire := t.wire })
    ∧ (∀ (p : HostPkt) (i : Nat), i = p.sess → s.hostUp p.port = true → p.bytes.length = 32 + p.length → p.headOk 0x03 = true →
      p.handshake = true → p.epoch = s.fld (Reg.hstSessionStateEpoch i) → s.sessState i = 1 → s.room 1 = true →
      ∃ t, exec (.finish p true) s = .next t ∧ t.sessState i = 2
        ∧ t.hasEvent 0x0A01 (s.sessDie i) (s.sessId i) (s.sessJob i) (s.sessRole i)
        ∧ RegsBut s t (evRegs ++ [Reg.hstSessionStateOff i, Reg.hstPortRxLoOff p.port, Reg.hstPortRxLoOff p.port + 4])
        ∧ t = { s with regs := t.regs, evq := t.evq })
    ∧ ∀ i, i < 4096 →
      (s.sessState i = 1 →
        ∃ t, exec (.handshakeTimeout i) s = .next t ∧ t.sessState i = 0 ∧ t.sess i = {} ∧ (∀ p ∈ t.inProg, p.o.sess ≠ i)
          ∧ (∀ j, j ≠ i → t.sess j = s.sess j) ∧ t.mem = s.mem)
      ∧ (s.sessState i = 3 → s.room 1 = true →
        ∃ t, exec (.disconnectedTimeout i) s = .next t ∧ t.sessState i = 0 ∧ t.sess i = {} ∧ (∀ p ∈ t.inProg, p.o.sess ≠ i)
          ∧ t.hasEvent 0x0A02 (s.sessDie i) (s.sessId i) 2 (s.progressOf i).length ∧ (∀ j, j ≠ i → t.sess j = s.sess j)
          ∧ t.mem = s.mem)

/-- Valid packets of an OPEN session that is not paced, on its network (R381, R383, R389, R392, R394): a COMMAND in SEQ order is
acknowledged and performed (here NOP), one out of order only acknowledged; an ACK retires what it covers; a CLOSE with nothing in
progress ends the session; a packet whose tag does not verify or whose TXC was seen is discarded, counted, and told of in event
0x0A05. A miss resends what is unacknowledged; the third moves the session to the other network, event 0x0A04 (R392).  A host port
that goes down or up is told of in events 0x0A08 and 0x0A09 (R375).  An Ethernet frame of a kind that the module answers is answered,
PAUSE and PFC are discarded, any other is counted (R375, R377).  What the module sends on a session is the header, the body under the
session's key and the tag (R378, R383; the header's WINDOW is the model's choice, log entry 28, DESIGN CHOICE). -/
def Obligations.TransportAndHostPorts : Prop :=
  (∀ (p : HostPkt) (x : Session) (s u : State), s.powered = true → s.hostUp p.port = true → u = s.countRx p.port →
    x = s.sess p.sess → s.sessState p.sess = 2 → x.rate = 0 →
    (s.fld (Reg.hstSessionStateNet p.sess) = netOf p.port ∨ p.port = 8 ∨ s.fld (Reg.hstSessionStatePort p.sess) = 8) →
    (∀ o : Origin, u.hostCause p 0x10 8224 = 0 → p.ackValid = false →
      (p.seq = x.rxSeq → o = ⟨p.sess, p.seq, tagOf (p.body x.keys.1), p.epoch⟩ → hostInstr o (p.body x.keys.1) = .ok (.nop o) →
        (s.progressOf p.sess).length < 256 → s.startFailed = false →
        ∃ t a c d, exec (.command p) s = .next t ∧ t.result o 0 .ok {} [] [] ∧ (t.sess p.sess).rxSeq = (x.rxSeq + 1) % 2 ^ 32
          ∧ (t.sess p.sess).window = slide x.window p.txc ∧ .host p.sess 0x12 0 a c [] d ∈ t.wire ∧ t.mem = s.mem)
      ∧ (p.seq ≠ x.rxSeq →
        ∃ t a c d, exec (.command p) s = .next t ∧ t.inProg = s.inProg ∧ (t.sess p.sess).rxSeq = x.rxSeq
          ∧ .host p.sess 0x12 0 a c [] d ∈ t.wire ∧ t.mem = s.mem))
    ∧ (u.hostCause p 0x12 0 = 0 → p.ackValid = true →
      ∃ t, exec (.ack p) s = .next t ∧ (t.sess p.sess).unacked = x.unacked.filter (fun y => ! waitDone p.ack y.seq)
        ∧ (∀ j, j ≠ p.sess → t.sess j = s.sess j) ∧ t.wire = s.wire ∧ t.inProg = s.inProg ∧ t.mem = s.mem)
    ∧ (u.hostCause p 0x14 0 = 0 → p.ackValid = false → p.seq = x.rxSeq → s.progressOf p.sess = [] → s.room 1 = true →
      ∃ t a c d, exec (.close p) s = .next t ∧ t.sessState p.sess = 0 ∧ .host p.sess 0x13 0 a c (natLe 8 2) d ∈ t.wire
        ∧ t.hasEvent 0x0A02 (s.sessDie p.sess) (s.sessId p.sess) 1 0 ∧ t.mem = s.mem)
    ∧ (u.hostCause p 0x12 0 = 4 → s.room 1 = true →
      ∃ t, exec (.ack p) s = .next t ∧ t.fld Reg.hstAuthFailCount = min (s.fld Reg.hstAuthFailCount + 1) (2 ^ 32 - 1)
        ∧ t.hasEvent 0x0A05 (netOf p.port) p.srcPort 4 p.length ∧ t.sessions = s.sessions ∧ t.inProg = s.inProg))
  ∧ (∀ s : State, s.powered = true →
    (∀ (i : Nat) (y : Unacked), i < 4096 → s.sessState i = 2 → (s.sess i).unacked = [y] → (s.sess i).rate = 0 →
      ((s.sess i).misses < 2 →
        ∃ t a c d, exec (.retransmitTimeout i) s = .next t ∧ (t.sess i).misses = (s.sess i).misses + 1
          ∧ .host i 0x11 y.seq a c y.body d ∈ t.wire
          ∧ t.fld Reg.hstRetransmitsCount = min (s.fld Reg.hstRetransmitsCount + 1) (2 ^ 32 - 1))
      ∧ ((s.sess i).misses = 2 → (s.sess i).failedOver = false → (s.sess i).queued = [] → s.fld (Reg.hstSessionStatePort i) ≠ 8 →
        s.room 1 = true →
        ∃ t a c d, exec (.retransmitTimeout i) s = .next t ∧ t.sessDie i = 1 - s.sessDie i ∧ (t.sess i).failedOver = true
          ∧ .host i 0x11 y.seq a c y.body d ∈ t.wire ∧ t.hasEvent 0x0A04 (1 - s.sessDie i) (s.sessId i) (1 - s.sessDie i) 3))
    ∧ (∀ port, port < 8 → s.room 1 = true →
      (s.hostUp port = true →
        ∃ t, exec (.hostPortDown port) s = .next t ∧ t.hostUp port = false ∧ t.hasEvent 0x0A08 (netOf port) port 0 0)
      ∧ (s.hostUp port = false → s.flag Reg.hstStatusConfigured = true →
        ∃ t, exec (.hostPortUp port) s = .next t ∧ t.hostUp port = true ∧ t.hasEvent 0x0A09 (netOf port) port 0 0))
    ∧ (∀ port kind n, port < 8 → s.hostUp port = true →
      ∃ t, exec (.ethernetFrame port kind n) s = .next t
        ∧ t.fld (Reg.hstPortFecUncorrCount port) = min (s.fld (Reg.hstPortFecUncorrCount port) + n) (2 ^ 32 - 1)
        ∧ (s.answersFrame port kind = true →
          RegsBut s t [Reg.hstPortFecUncorrOff port] ∧ t = { s with regs := t.regs, wire := s.wire ++ [.ethernet port kind] })
        ∧ (s.answersFrame port kind = false → kind = 4 →
          RegsBut s t [Reg.hstPortFecUncorrOff port] ∧ t = { s with regs := t.regs })
        ∧ (s.answersFrame port kind = false → kind ≠ 4 →
          t.fld (Reg.hstPortOtherCount port) = min (s.fld (Reg.hstPortOtherCount port) + 1) (2 ^ 32 - 1)
            ∧ RegsBut s t [Reg.hstPortFecUncorrOff port, Reg.hstPortOtherOff port] ∧ t = { s with regs := t.regs })))
  ∧ ∀ (s : State) (i type seq : Nat) (body : List Byte) (again : Bool), ∃ head, head.length = 32 ∧ field head 1 1 = type % 256
    ∧ field head 4 4 = s.sessId i % 2 ^ 32 ∧ field head 8 4 = seq % 2 ^ 32 ∧ field head 16 8 = (s.sess i).txc % 2 ^ 64
    ∧ field head 24 2 = body.length % 2 ^ 16 ∧ ((s.sendHostNow i type seq body again).sess i).txc = (s.sess i).txc + 1
    ∧ ∃ a, .host i type seq a (s.fld (Reg.hstSessionStatePort i)) body (sealHost (s.sess i).keys.2 head body)
        ∈ (s.sendHostNow i type seq body again).wire


/-! ### Ports and lanes (R217 to R256, R280) -/

/-- Lane control by an installer (R245, R248, R252, R254).  DROP takes a lane that is not out already, of a port that keeps a width,
out, RETIRED at the third drop, event 0x0609 with cause 4, reported to the other end; RESTORE clears the drops and trains the lane;
PRBS_EN clears the error count; a loopback on a port that is not UP puts the lane in LOOPBACK.  Port control by an installer.
LAN_DISCOVER trains a quarantined or held port again from OFF (R221); RETRAIN takes an UP port's link down (R249); FORGET discards the
port's saved lane settings (R243); CLEAR_HWM of RTR_CTRL sets the marks to the current values (R280).  Eye scans (R251, R256): START
by an installer on an active or standby lane of the flue die begins one; ABORT ends it with the points completed, each of at most the
symbols of a point in error, event 0x060F; its end leaves the errors of every point, and the width and height of the open runs through
the centre, in the lane's register. -/
def Obligations.LaneAndPortControls : Prop :=
  (∀ (r : Requester) (n : Nat) (s g : State), s.powered = true → g = s.arbGrant → n < 112 →
    (g.installs r 3 = true → g.laneState n ≠ 4 → g.laneState n ≠ 7 →
      widthFor (portOfLane n) ((g.goodLanes (portOfLane n)).filter (· ≠ n)).length ≠ 0 →
      ∃ t k, exec (.laneCtrlDrop r n) s = .next t ∧ k = min 255 (s.fld (Reg.lanLaneStatusDrops n) + 1)
        ∧ t.fld (Reg.lanLaneStatusDrops n) = k ∧ t.laneState n = (if 3 ≤ k then 7 else 4)
        ∧ t.hasEvent 0x0609 (dieOfDim (portOfLane n)) (portOfLane n) n 4 ∧ t.mem = s.mem
        ∧ (n - firstLane (portOfLane n)) ∈ (t.port (portOfLane n)).report
        ∧ (g.flag (Reg.lanPortStatusLink (portOfLane n)) = true → (t.port (portOfLane n)).change = true))
    ∧ (g.installs r 0 = true → g.laneState n = 4 ∨ g.laneState n = 7 →
      ∃ t, exec (.laneCtrlRestore r n) s = .next t ∧ t.fld (Reg.lanLaneStatusDrops n) = 0 ∧ t.laneState n = 1
        ∧ RegsBut s t (grantRegs ++ auditRegs ++ [Reg.lanLaneStatusOff n, Reg.lanLaneCtrlOff n])
        ∧ t = { s with regs := t.regs, evq := t.evq, audit := t.audit, wire := t.wire, latches := t.latches, outSeq := t.outSeq })
    ∧ (g.installs r 0 = true → g.flag (Reg.lanLaneCtrlPrbsEn n) = false →
      ∃ t, exec (.lanePrbsEnable r n) s = .next t ∧ t.flag (Reg.lanLaneCtrlPrbsEn n) = true
        ∧ t.fld (Reg.lanLanePrbsErrCount n) = 0
        ∧ RegsBut s t (grantRegs ++ auditRegs ++ [Reg.lanLaneCtrlOff n, Reg.lanLanePrbsErrOff n])
        ∧ t = { s with regs := t.regs, evq := t.evq, audit := t.audit, wire := t.wire, latches := t.latches, outSeq := t.outSeq })
    ∧ ∀ mode, g.installs r 0 = true → 0 < mode → mode < 4 → mode ≠ g.fld (Reg.lanLaneCtrlLoopback n) →
      g.portUp (portOfLane n) = false →
      ∃ t, exec (.laneLoopback r n mode false) s = .next t ∧ t.fld (Reg.lanLaneCtrlLoopback n) = mode ∧ t.laneState n = 5
        ∧ t = { s with regs := t.regs, evq := t.evq, audit := t.audit, wire := t.wire, latches := t.latches, outSeq := t.outSeq })
  ∧ (∀ (r : Requester) (d : Nat) (s g : State), s.powered = true → g = s.arbGrant → d < 16 →
    (∀ mask, g.installs r 0 = true → bit mask d = true → mask < 2 ^ 16 → g.portState d = 4 ∨ g.portState d = 5 →
      ∃ t, exec (.lanDiscover r mask) s = .next t ∧ t.portState d = 0 ∧ (t.port d).training = s.linkAllowed d
        ∧ (∀ e, e < 16 → bit mask e = false → t.portState e = s.portState e) ∧ t.mem = s.mem)
    ∧ (g.installs r 0 = true → g.portState d = 2 → g.flag (Reg.lanPortStatusLink d) = true →
      ∃ t, exec (.portCtrlRetrain r d) s = .next t ∧ t.portState d = 3 ∧ t.flag (Reg.lanPortStatusLink d) = false
        ∧ t.fld (Reg.lanPortLinkLossesCount d) = min (s.fld (Reg.lanPortLinkLossesCount d) + 1) (2 ^ 32 - 1) ∧ t.mem = s.mem)
    ∧ (g.installs r 0 = true → (tfind s.laneSettings d).isSome = true →
      ∃ t, exec (.portCtrlForget r d) s = .next t ∧ t.nvmq = s.nvmq ++ [.lanes (tdel s.laneSettings d)]
        ∧ tfind t.laneSettings d = none ∧ (∀ e, e ≠ d → tfind t.laneSettings e = tfind s.laneSettings e)
        ∧ t.portState d = s.portState d ∧ t.mem = s.mem)
    ∧ (g.installs r 0 = true →
      ∃ t, exec (.clearHwm r) s = .next t ∧ t.fld (Reg.rtrPortDepthHwmCells d) = s.fld (Reg.rtrPortDepthCells d)
        ∧ t.fld Reg.rtrLocalDepthHwmCells = s.fld Reg.rtrLocalDepthCells
        ∧ t.fld (Reg.rtrStoreHwmUsed (dieOfDim d)) = s.fld (Reg.rtrStoreStatusUsed (dieOfDim d))
        ∧ t = { s with regs := t.regs, evq := t.evq, audit := t.audit, wire := t.wire, latches := t.latches, outSeq := t.outSeq }))
  ∧ (∀ (f : Nat) (s g : State), s.powered = true → g = s.arbGrant → f < 2 →
    (∀ (r : Requester) (v : Nat), g.installs r 0 = true → v < 2 ^ 30 → g.fld (Reg.lanEyeStatusState f) ≠ 1 → bits v 22 16 < 112 →
      dieOfLane (bits v 22 16) = f → 10 ≤ bits v 4 0 → bits v 4 0 ≤ 30 →
      g.laneState (bits v 22 16) = 2 ∨ g.laneState (bits v 22 16) = 3 →
      ∃ t, exec (.eyeScanStart r f v) s = .next t ∧ t.fld (Reg.lanEyeStatusState f) = 1
        ∧ t.fld (Reg.lanEyeCtrlLane f) = bits v 22 16 ∧ t.fld (Reg.lanEyeCtrlEye f) = bits v 13 12
        ∧ t.fld (Reg.lanEyeCtrlDwell f) = bits v 4 0 ∧ t.fld (Reg.lanEyeStatusPoints f) = 0
        ∧ tfind t.eyes f = some ⟨bits v 22 16, bits v 13 12, bits v 4 0, s.clk⟩
        ∧ RegsBut s t (grantRegs ++ auditRegs ++ [Reg.lanEyeCtrlOff f, Reg.lanEyeStatusOff f])
        ∧ t = { s with eyes := t.eyes, regs := t.regs, evq := t.evq, audit := t.audit, wire := t.wire, latches := t.latches
                       outSeq := t.outSeq })
    ∧ (∀ (r : Requester) (x : EyeScan), g.installs r 1 = true → tfind s.eyes f = some x →
      ∃ t, exec (.eyeScanAbort r f) s = .next t ∧ t.fld (Reg.lanEyeStatusState f) = 3
        ∧ t.fld (Reg.lanEyeStatusPoints f) = min 4096 ((s.clk - x.began) * 112000 / (235 * 2 ^ x.dwell))
        ∧ t.hasEvent 0x060F f x.lane x.eye (2 ^ 32 - 1) ∧ t.eyes = tdel s.eyes f
        ∧ t.fld (Reg.lanEyeCtrlLane f) = s.fld (Reg.lanEyeCtrlLane f) ∧ t.fld (Reg.lanEyeCtrlEye f) = s.fld (Reg.lanEyeCtrlEye f)
        ∧ t.fld (Reg.lanEyeCtrlDwell f) = s.fld (Reg.lanEyeCtrlDwell f)
        ∧ (∀ i, i < t.fld (Reg.lanEyeStatusPoints f) → t.fld (Reg.lanEyePointErrors f i) ≤ 2 ^ x.dwell)
        ∧ RegsBut s t (grantRegs ++ auditRegs ++ [Reg.lanEyeCtrlOff f, Reg.lanEyeStatusOff f]
          ++ (List.range (t.fld (Reg.lanEyeStatusPoints f))).map (Reg.lanEyePointOff f))
        ∧ t = { s with eyes := t.eyes, free := t.free, regs := t.regs, evq := t.evq, audit := t.audit, wire := t.wire
                       latches := t.latches, outSeq := t.outSeq })
    ∧ ∀ (errors : List (Nat × Nat)) (err : Nat → Nat) (n w h : Nat) (x : EyeScan), tfind s.eyes f = some x → n < 112 →
      s.room 1 = true →
      err = (fun i => match errors.find? fun e => e.1 == i with | some e => min e.2 (2 ^ 32 - 1) | none => 0) →
      n = x.lane → w = openRun (fun i => openPoint x.dwell (err (32 * 64 + i))) →
      h = openRun (fun i => openPoint x.dwell (err (64 * i + 32))) →
      ∃ t, exec (.eyeScanDone f errors) s = .next t ∧ t.fld (Reg.lanEyeStatusState f) = 2
        ∧ t.fld (Reg.lanEyeStatusPoints f) = 4096 ∧ (∀ i, i < 4096 → t.fld (Reg.lanEyePointErrors f i) = err i)
        ∧ t.fld (Reg.lanLaneEyeWidth n) = w ∧ t.fld (Reg.lanLaneEyeHeight n) = h ∧ t.flag (Reg.lanLaneEyeValid n) = true
        ∧ t.fld (Reg.lanLaneEyeEye n) = x.eye % 4 ∧ t.hasEvent 0x060F f n x.eye (w * 256 + h) ∧ t.mem = s.mem)

/-- Training (R219, R221, R242 to R244).  PLL lock, and a retry of a DARK port, train it where its licence stands; every lane good and
keyed brings the link up at its full width and begins the exchange of identities, event 0x060E; a port that does not train is DARK,
event 0x0602.  Lane errors and link loss (R245 to R249).  More than 4 uncorrectable or 4,096 corrected codewords in a window, or no
lock after idle, take a good lane out of a link that keeps a width; a window below those limits changes nothing but the errors of a
running PRBS check; a lane that retrains serves again, event 0x060A; a changed lane set applies from the next period, at the width its
good lanes allow, event 0x060B; loss of signal makes an UP port DARK without its link. -/
def Obligations.LinksTrainAndFail : Prop :=
  (∀ (d : Nat) (s : State), s.powered = true → d < 16 →
    (s.mayTrain d = true →
      (s.flag (Reg.lanPortStatusLink d) = false →
        ∃ t, exec (.pllLock d) s = .next t ∧ (t.port d).training = true
          ∧ (∀ n ∈ lanesOf d, t.laneState n = (if s.laneState n = 7 ∨ s.laneState n = 5 then s.laneState n else 1))
          ∧ t = { s with regs := t.regs, ports := t.ports })
      ∧ (s.portState d = 3 →
        ∃ t, exec (.darkRetry d) s = .next t ∧ (t.port d).training = true
          ∧ (∀ n ∈ lanesOf d, t.laneState n = (if s.laneState n = 7 ∨ s.laneState n = 5 then s.laneState n else 1))
          ∧ t = { s with regs := t.regs, ports := t.ports }))
    ∧ (∀ (good ms skew : Nat) (asym : Int) (saved : Bool), (s.port d).training = true →
      (∀ n ∈ lanesOf d, s.laneState n ≠ 4 ∧ s.laneState n ≠ 5 ∧ s.laneState n ≠ 7 ∧ bit good (n - firstLane d) = true) →
      s.flag Reg.secStatusMonitorMismatch = false → s.fld Reg.secStatusRngFault ≠ 3 → bit (s.fld Reg.lanPlanIdNone) d = false →
      s.portState d ≠ 4 → s.portState d ≠ 5 → s.room 1 = true →
      ∃ t, exec (.linkTrained d good ms 0 skew asym saved) s = .next t ∧ t.portState d = 1
        ∧ t.flag (Reg.lanPortStatusLink d) = true ∧ t.flag (Reg.lanPortStatusEncrypted d) = true
        ∧ t.fld (Reg.lanPortStatusWidth d) = laneCount d ∧ (∀ n ∈ lanesOf d, t.laneState n = 2) ∧ (t.port d).training = false
        ∧ t.flag (Reg.lanPortStatusSavedUsed d) = (saved && s.settingsFit d)
        ∧ t.hasEvent 0x060E (dieOfDim d) d (laneCount d) (min ms (2 ^ 31 - 1) + b2n (saved && s.settingsFit d) * 2 ^ 31)
        ∧ t.mem = s.mem)
    ∧ (s.portState d = 0 → s.linkAllowed d = true → bit (s.fld Reg.lanPlanIdNone) d = false → s.room 1 = true →
      ∃ t, exec (.darkTimeout d) s = .next t ∧ t.portState d = 3 ∧ t.hasEvent 0x0602 (dieOfDim d) d 1 0
        ∧ (∀ e, e < 16 → e ≠ d → t.portState e = s.portState e) ∧ t.mem = s.mem)
    ∧ (s.flag (Reg.lanPortStatusLink d) = true → (s.port d).change = true → s.room 1 = true →
      ∃ u w, exec (.framePeriod d) s = exec (.framePeriod d) u ∧ (u.port d).change = false
        ∧ w = widthFor d (s.goodLanes d).length ∧ u.fld (Reg.lanPortStatusWidth d) = w
        ∧ (u.flag (Reg.lanPortStatusDegraded d) = true ↔ w < laneCount d)
        ∧ (w ≠ s.fld (Reg.lanPortStatusWidth d) → s.fld (Reg.lanPortStatusWidth d) ≠ 0 →
          u.hasEvent 0x060B (dieOfDim d) d (s.fld (Reg.lanPortStatusWidth d)) w)))
  ∧ (∀ (n d u v e k : Nat) (s : State), s.powered = true → n < 112 → d = portOfLane n →
    k = min 255 (s.fld (Reg.lanLaneStatusDrops n) + 1) →
    (s.laneGood n = true → widthFor d ((s.goodLanes d).length - 1) ≠ 0 → s.room 3 = true →
      (∀ cause, (4 < u ∧ cause = 2) ∨ (u ≤ 4 ∧ 4096 < v ∧ cause = 3) →
        ∃ t, exec (.laneErrorWindow n u v e) s = .next t ∧ t.fld (Reg.lanLaneStatusDrops n) = k
          ∧ t.laneState n = (if 3 ≤ k then 7 else 4) ∧ t.hasEvent 0x0609 (dieOfDim d) d n cause
          ∧ (s.flag (Reg.lanPortStatusLink d) = true → (t.port d).change = true) ∧ t.mem = s.mem)
      ∧ ∃ t, exec (.idleLockTimeout d (2 ^ (n - firstLane d))) s = .next t ∧ t.fld (Reg.lanLaneStatusDrops n) = k
        ∧ t.laneState n = (if 3 ≤ k then 7 else 4) ∧ t.hasEvent 0x0609 (dieOfDim d) d n 6
        ∧ (s.flag (Reg.lanPortStatusLink d) = true → (t.port d).change = true) ∧ t.mem = s.mem)
    ∧ (u ≤ 4 → v ≤ 4096 →
      (s.flag (Reg.lanLaneCtrlPrbsEn n) = false → exec (.laneErrorWindow n u v e) s = .next s)
      ∧ (s.flag (Reg.lanLaneCtrlPrbsEn n) = true →
        ∃ t, exec (.laneErrorWindow n u v e) s = .next t
          ∧ t.fld (Reg.lanLanePrbsErrCount n) = min (s.fld (Reg.lanLanePrbsErrCount n) + e) (2 ^ 32 - 1)
          ∧ RegsBut s t [Reg.lanLanePrbsErrOff n] ∧ t = { s with regs := t.regs })))
  ∧ (∀ (n d : Nat) (s : State), s.powered = true → n < 112 → d = portOfLane n → s.flag (Reg.lanPortStatusLink d) = true →
    s.laneState n = 4 ∨ s.laneState n = 1 → s.room 2 = true →
    (widthFor d ((s.goodLanes d).length + 1) ≠ 0 →
      ∃ t, exec (.laneRetrain n true) s = .next t ∧ t.laneState n = 3 ∧ t.flag (Reg.lanLaneStatusMarkerLock n) = true
        ∧ (t.port d).change = true ∧ t.hasEvent 0x060A (dieOfDim d) d n 0 ∧ t.mem = s.mem)
    ∧ ∃ t, exec (.laneRetrain n false) s = .next t
      ∧ t.fld (Reg.lanLaneStatusDrops n) = min 255 (s.fld (Reg.lanLaneStatusDrops n) + 1)
      ∧ t.hasEvent 0x0609 (dieOfDim d) d n 5 ∧ t.mem = s.mem)
  ∧ ∀ (d : Nat) (s : State), s.powered = true → d < 16 → s.portState d = 2 → s.flag (Reg.lanPortStatusLink d) = true →
    ∃ t, exec (.signalLoss d) s = .next t ∧ t.portState d = 3 ∧ t.flag (Reg.lanPortStatusLink d) = false
      ∧ t.fld (Reg.lanPortLinkLossesCount d) = min (s.fld (Reg.lanPortLinkLossesCount d) + 1) (2 ^ 32 - 1) ∧ t.mem = s.mem

/-- Frames and replay (R235 to R240).  With nothing to send a port sends an EMPTY frame; with flits waiting a new one, kept; after a
timeout the kept ones again.  What a lane sends passes at a receiver of the same key and count, which finds the SEQ, the width and the
flits.  A whole frame that is next in order moves the expected SEQ on; one out of order asks for a replay, once; an ACK retires the
frames it covers.  Electrical idle (R250): an UP port with IDLE_EN and nothing to send announces idle; it leaves idle with a training
burst; a burst received ends receive idle, and the good lanes serve again at their width. -/
def Obligations.FramesAndIdle : Prop :=
  (∀ (d : Nat) (x : Port) (s : State), s.powered = true → d < 16 → s.flag (Reg.lanPortStatusLink d) = true → x = s.port d →
    (s.flag (Reg.lanPortStatusIdleTx d) = false → x.change = false →
      (x.resend = 0 → x.out = [] ∨ 64 ≤ x.kept.length →
        ∃ t, exec (.framePeriod d) s = .next t ∧ t.wire = s.wire ++ [.frame d (s.portFrame d x.txSeq true false false [])]
          ∧ t.port d = { x with txc := x.txc + 1, nak := false, report := x.report.drop 1 ++ x.report.take 1 }
          ∧ t = { s with ports := t.ports, wire := t.wire })
      ∧ (∀ flits, x.resend = 0 → x.out ≠ [] → x.kept.length < 64 → flits = x.out.take (64 * s.fld (Reg.lanPortStatusWidth d)) →
        ∃ t, exec (.framePeriod d) s = .next t ∧ t.wire = s.wire ++ [.frame d (s.portFrame d x.txSeq false false false flits)]
          ∧ t.port d = { x with txc := x.txc + 1, nak := false, report := x.report.drop 1 ++ x.report.take 1
                                kept := x.kept ++ [(x.txSeq, flits)], txSeq := (x.txSeq + 1) % 65536, out := x.out.drop flits.length }
          ∧ t = { s with regs := t.regs, ports := t.ports, wire := t.wire })
      ∧ (∀ seq flits, 0 < x.resend → x.resend ≤ x.kept.length → x.kept[x.kept.length - x.resend]? = some (seq, flits) →
        ∃ t, exec (.framePeriod d) s = .next t ∧ t.wire = s.wire ++ [.frame d (s.portFrame d seq false false true flits)]
          ∧ t.port d = { x with txc := x.txc + 1, nak := false, report := x.report.drop 1 ++ x.report.take 1, resend := x.resend - 1
                                replays := if x.resend = x.kept.length then x.replays + 1 else x.replays }
          ∧ t = { s with regs := t.regs, ports := t.ports, wire := t.wire }))
    ∧ (x.kept ≠ [] → x.replays < 8 → (∀ k ∈ x.kept, k.2.length ≤ 64 * s.fld (Reg.lanPortStatusWidth d)) →
      ∃ t, exec (.replayTimeout d) s = .next t ∧ t.port d = { x with resend := x.kept.length }
        ∧ t.fld (Reg.lanPortReplaysCount d) = min (s.fld (Reg.lanPortReplaysCount d) + 1) (2 ^ 32 - 1)
        ∧ RegsBut s t [Reg.lanPortReplaysOff d] ∧ t = { s with regs := t.regs, ports := t.ports })
    ∧ (x.kept ≠ [] → 8 ≤ x.replays → s.portState d < 4 →
      ∃ t, exec (.replayTimeout d) s = .next t ∧ t.portState d = 3 ∧ t.flag (Reg.lanPortStatusLink d) = false ∧ t.mem = s.mem)
    ∧ ∀ (f : Frame) (l : LaneFrame) (ls rest : List LaneFrame),
      (∀ y ∈ f.lanes, y.lane < 112 ∧ portOfLane y.lane = d ∧ y.marked = true) → ls = f.lanes.filter (fun y => y.bytes != []) →
      ls = l :: rest → (∀ y ∈ ls, y.passes x.keys.2 x.rxc = true ∧ y.tail 7 1 = ls.length) → bit (l.tail 4 1) 1 = false →
      bit (l.tail 4 1) 3 = false → laneCount d ≤ l.tail 5 1 / 16 → x.tagFails = [] → s.flag (Reg.lanPortStatusIdleRx d) = false →
      (l.tail 0 2 = x.rxSeq → bit (l.tail 4 1) 2 = true → bit (l.tail 4 1) 0 = false →
        ∃ t, exec (.portFrame d f) s = .next t
          ∧ t.port d = { x with rxc := x.rxc + 1, gap := false, report := if s.sameSet d ls then [] else x.report }
          ∧ t = { s with regs := t.regs, ports := t.ports })
      ∧ (l.tail 0 2 = x.rxSeq → bit (l.tail 4 1) 2 = false →
        ∃ t, exec (.portFrame d f) s = .next t ∧ (t.port d).rxSeq = (x.rxSeq + 1) % 65536 ∧ (t.port d).rxc = x.rxc + 1
          ∧ (t.port d).heard = true ∧ (t.port d).gap = false ∧ (t.port d).nak = x.nak
          ∧ (t.port d).kept = (if bit (l.tail 4 1) 0 then x.kept.filter (fun k => ! ackCovers (l.tail 2 2) k.1) else x.kept)
          ∧ t.mem = s.mem ∧ t.wire = s.wire)
      ∧ (l.tail 0 2 ≠ x.rxSeq →
        ∃ t, exec (.portFrame d f) s = .next t
          ∧ t.port d = { x with rxc := x.rxc + 1, gap := true, nak := if x.gap then x.nak else true }
          ∧ t = { s with regs := t.regs, ports := t.ports }))
  ∧ (∀ (x : Port) (d n r w seq fl : Nat) (flits : List (List Byte)), d < 16 → n - firstLane d < 16 →
    ∃ f, f = x.laneFrame d n r w seq fl flits ∧ f.passes x.keys.1 x.txc = true ∧ f.tail 0 2 = seq % 65536
      ∧ f.tail 2 2 = (x.rxSeq + 65535) % 65536 ∧ f.tail 4 1 = fl % 256 ∧ f.tail 6 1 = (flits.length + w - 1 - r) / w % 256
      ∧ f.tail 7 1 = w % 256 ∧ f.tail 8 4 = x.txc % 2 ^ 32 ∧ f.position = n - firstLane d ∧ f.dim = d
      ∧ ∀ i, i < 64 → (f.slots x.keys.1 x.txc)[i]? = some (slice (flits.getD (i * w + r) []) 0 32))
  ∧ (∀ (d : Nat) (s : State), s.powered = true → d < 16 →
    (s.portUp d = true → s.flag (Reg.lanPortCtrlIdleEn d) = true → s.flag (Reg.lanPortStatusIdleTx d) = false →
      (s.port d).flight = [] → (s.port d).kept = [] → (s.port d).change = false → s.queue d = [] → s.busyLanes d = false →
      ∃ t, exec (.idleEntry d) s = .next t ∧ t.flag (Reg.lanPortStatusIdleTx d) = true
        ∧ t.wire = s.wire ++ [.frame d (s.portFrame d (s.port d).txSeq true true false [])] ∧ RegsBut s t [Reg.lanPortStatusOff d]
        ∧ t = { s with regs := t.regs, ports := t.ports, wire := t.wire })
    ∧ (s.flag (Reg.lanPortStatusIdleTx d) = true →
      ∃ t, exec (.idleExit d) s = .next t ∧ t.flag (Reg.lanPortStatusIdleTx d) = false ∧ t.wire = s.wire ++ [.burst d]
        ∧ RegsBut s t [Reg.lanPortStatusOff d] ∧ t = { s with regs := t.regs, wire := t.wire })
    ∧ (s.flag (Reg.lanPortStatusIdleRx d) = true →
      ∃ t, exec (.trainingBurst d) s = .next t ∧ t.flag (Reg.lanPortStatusIdleRx d) = false
        ∧ t.fld (Reg.lanPortStatusWidth d) = widthFor d (s.goodLanes d).length
        ∧ (∀ n ∈ s.goodLanes d, t.laneState n = 2 ∨ t.laneState n = 3) ∧ t = { s with regs := t.regs, evq := t.evq, evLost := t.evLost }))

/-- The identity exchange (R218, R219, R222): a trained port sends this module's identity; the right neighbour with the right
dimension, accepted by both, comes UP, event 0x0601; one that rejects, and a wrong one, are QUARANTINED, event 0x0603; so is silence.
Fabric time (R223 to R225).  A module that follows asks its parent; a child is answered; the first answer sets the counter, and the
eighth offset in a row below half a nanosecond makes time valid, event 0x0607; holdover that lasts too long ends validity; when the
root is lost the backup becomes the root, event 0x0608. -/
def Obligations.IdentityAndTime : Prop :=
  (∀ (d : Nat) (s : State), s.powered = true → d < 16 → s.flag (Reg.lanPortStatusLink d) = true → s.portState d = 1 →
    (∃ t p, exec (.identitySend d) s = .next t ∧ t.wire = s.wire ++ [.packet d p] ∧ p.opcode = 0xE0 ∧ p.src = s.myId
      ∧ p.dest = Nat.xor s.myId (2 ^ d) ∧ field p.cmd 0 2 = s.myId % 2 ^ 16 ∧ field p.cmd 2 1 = b2n (! s.provisional)
      ∧ field p.cmd 3 1 = d ∧ field p.cmd 4 1 = (s.port d).verdict % 256 ∧ t = { s with ports := t.ports, wire := t.wire })
    ∧ ((s.port d).seen = false → s.room 1 = true →
      ∃ t, exec (.identityTimeout d) s = .next t ∧ t.portState d = 4 ∧ t.fld (Reg.lanPortDiscCause d) = 2
        ∧ (∃ v, t.hasEvent 0x0603 (dieOfDim d) d 2 v) ∧ t.mem = s.mem)
    ∧ ∀ id, s.provisional = false → id < 65536 → s.room 1 = true →
      (id = Nat.xor s.myId (2 ^ d) →
        (∃ t, exec (.identity d id true d 1) s = .next t ∧ t.portState d = 2 ∧ t.fld (Reg.lanPortDiscSeenId d) = id
          ∧ t.hasEvent 0x0601 (dieOfDim d) d id 0 ∧ t.mem = s.mem)
        ∧ ∃ t, exec (.identity d id true d 2) s = .next t ∧ t.portState d = 4 ∧ t.fld (Reg.lanPortDiscCause d) = 4
          ∧ t.hasEvent 0x0603 (dieOfDim d) d 4 id ∧ t.mem = s.mem)
      ∧ ∀ dim verdict, (∀ e, e < 16 → id ≠ Nat.xor s.myId (2 ^ e)) →
        ∃ t, exec (.identity d id true dim verdict) s = .next t ∧ t.portState d = 4 ∧ t.fld (Reg.lanPortDiscCause d) = 3
          ∧ t.hasEvent 0x0603 (dieOfDim d) d 3 id ∧ t.mem = s.mem)
  ∧ (∀ s : State, s.powered = true →
    (∀ d, s.flag Reg.lanDiscStatusPlanValid = true → s.myId ≠ s.timeRoot → s.fld Reg.lanTimeStatusRole = 2 →
      d = s.fld Reg.lanTimeStatusParentDim →
      ∃ t p, exec .timeExchange s = .next t ∧ t.holds d p ∧ p.opcode = 0xE1 ∧ p.dest = Nat.xor s.myId (2 ^ d)
        ∧ t.mem = s.mem ∧ t.time = s.time ∧ t.wire = s.wire)
    ∧ (s.flag Reg.lanDiscStatusPlanValid = true → s.myId = s.timeRoot →
      (s.fld Reg.lanTimeStatusRole = 1 →
        exec .timeExchange s = .next { s with time := { s.time with rootSeq := s.time.rootSeq + 1 } })
      ∧ (s.fld Reg.lanTimeStatusRole = 0 → (∀ d, d < 16 → s.portUp d = false ∨ (s.port d).noTime = true) → s.room 1 = true →
        ∃ t, exec .timeExchange s = .next t ∧ t.fld Reg.lanTimeStatusRole = 1 ∧ t.flag Reg.lanTimeStatusValid = true
          ∧ t.time.running = true ∧ t.hasEvent 0x0607 0 0xFF s.timeRoot 0 ∧ t.mem = s.mem))
    ∧ (∀ (d t1 t2 t3 t4 counter rootSeq : Nat) (asym : Int) (valid backup : Bool), d < 16 → s.portUp d = true →
      asym = (if s.fld (Reg.lanPortSkewAsymmetry d) < 32768 then (s.fld (Reg.lanPortSkewAsymmetry d) : Int)
        else (s.fld (Reg.lanPortSkewAsymmetry d) : Int) - 65536) →
      (∃ t p, exec (.time d true t1 t2 t3 t4 rootSeq valid backup counter) s = .next t ∧ t.holds d p ∧ p.opcode = 0xE1
        ∧ field p.cmd 2 2 = s.timeRoot % 2 ^ 16 ∧ field p.cmd 4 4 = s.time.rootSeq % 2 ^ 32 ∧ field p.cmd 8 8 = t1 % 2 ^ 64
        ∧ field p.data 0 8 = t2 % 2 ^ 64 ∧ field p.data 16 8 = s.fabricTime % 2 ^ 64 ∧ t.mem = s.mem ∧ t.time = s.time)
      ∧ (s.fld Reg.lanTimeStatusRole = 2 → s.fld Reg.lanTimeStatusParentDim = d →
        s.flag Reg.lanTimeStatusBackupActive = false ∨ backup = true →
        (s.time.running = false → s.time.good < 7 →
          ∃ t v o, exec (.time d false t1 t2 t3 t4 rootSeq true backup counter) s = .next t ∧ o = offsetOf t1 t2 t3 t4 asym v
            ∧ t.time = { running := true, base := counter, at_ := s.clk, rate := 0
                         good := if -8 < o ∧ o < 8 then s.time.good + 1 else 0, rootSeq := rootSeq }
            ∧ (-32768 ≤ o → o < 32768 → t.fld Reg.lanTimeStatusLastOffset = ucode 16 o)
            ∧ RegsBut s t [Reg.lanTimeStatusOff] ∧ t = { s with regs := t.regs, time := t.time, free := t.free })
        ∧ (s.time.running = true → s.time.good = 7 →
          (∀ v, -8 < offsetOf t1 t2 t3 t4 asym v ∧ offsetOf t1 t2 t3 t4 asym v < 8) →
          s.flag Reg.lanTimeStatusValid = false → s.room 1 = true →
          ∃ t, exec (.time d false t1 t2 t3 t4 rootSeq true backup counter) s = .next t ∧ t.flag Reg.lanTimeStatusValid = true
            ∧ t.hasEvent 0x0607 (dieOfDim d) d s.timeRoot (t.fld Reg.lanTimeStatusLastOffset) ∧ t.time.good = 8 ∧ t.mem = s.mem)))
    ∧ (s.fld Reg.lanTimeStatusRole = 3 →
      ∃ t, exec .holdoverExpiry s = .next t ∧ t.flag Reg.lanTimeStatusValid = false ∧ t.time = { s.time with good := 0 }
        ∧ RegsBut s t [Reg.lanTimeStatusOff] ∧ t = { s with regs := t.regs, time := t.time })
    ∧ (s.flag Reg.lanDiscStatusPlanValid = true → s.flag Reg.lanTimeStatusBackupActive = false → s.myId ≠ s.timeRoot →
      s.room 1 = true →
      ∃ t, exec .rootLost s = .next t ∧ t.flag Reg.lanTimeStatusBackupActive = true
        ∧ t.timeRoot = s.fld Reg.lanPlanRootsBackupRoot ∧ t.hasEvent 0x0608 0 2 (s.fld Reg.lanPlanRootsBackupRoot) 0
        ∧ t.mem = s.mem))


/-! ### Packets (R257 to R281) -/

/-- Packets enter and leave (R262 to R266, R272).  A good packet that routing sends by a port, and that fits, joins that port's queue
and is counted; a header error is counted, and with the next good header event 0x0702 tells of it and of the flits discarded; the
front packet, when its channel's turn has come, of a virtual channel leaves by an UP port when the credit suffices; credits are taken
in, sent out, and reclaimed. -/
def Obligations.PacketsEnterAndLeave : Prop :=
  ∀ (port : Nat) (s : State), s.powered = true → port < 16 →
    (∀ (p q : Packet) (o a b c : Nat), s.flag (Reg.lanPortStatusLink port) = true → s.portUp port = true → p.headerError = 0 →
      ownRow p.opcode = false → p.opcode ≠ 0xE2 → s.route p = .port o q →
      s.account (dieOfDim port) q.cls q.cells (130 - s.floorUsed port p.vc) = some (a, b, c) →
      s.pair (Reg.rtrPortRxPktsLoOff port) < 2 ^ 64 - 1 →
      ∃ t, exec (.packetIngress port p) s = .next t ∧ t.queue o = s.queue o ++ [⟨q, some port, p.vc, dieOfDim port, a, b, c⟩]
        ∧ (∀ e, e ≠ o → t.queue e = s.queue e)
        ∧ t.pair (Reg.rtrPortRxPktsLoOff port) = s.pair (Reg.rtrPortRxPktsLoOff port) + 1 ∧ t.mem = s.mem ∧ t.wire = s.wire)
    ∧ (∀ p : Packet, s.flag (Reg.lanPortStatusLink port) = true → p.headerError ≠ 0 →
      (tfind s.resync port = none →
        ∃ t, exec (.packetIngress port p) s = .next t
          ∧ t.fld (Reg.rtrPortHeaderErrCount port) = min (s.fld (Reg.rtrPortHeaderErrCount port) + 1) (2 ^ 32 - 1)
          ∧ tfind t.resync port = some (p.headerError, p.cells)
          ∧ t = { s with regs := t.regs, credits := t.credits, resync := t.resync })
      ∧ ∀ c n, tfind s.resync port = some (c, n) →
        ∃ t, exec (.packetIngress port p) s = .next t ∧ tfind t.resync port = some (c, n + p.cells)
          ∧ t = { s with credits := t.credits, resync := t.resync })
    ∧ (∀ (p : Packet) (c n : Nat), s.flag (Reg.lanPortStatusLink port) = true → p.headerError = 0 →
      tfind s.resync port = some (c, n) → s.room 1 = true →
      ∃ t, exec (.packetIngress port p) s = .next t ∧ tfind t.resync port = none
        ∧ t.hasEvent 0x0702 (dieOfDim port) port c n)
    ∧ (∀ (die vc : Nat) (x : Stored), s.headOf die port vc = some x → s.portUp port = true → s.waiting = [] →
      x.pkt.cells ≤ (s.credit port x.pkt.vc).available → s.outOfTurn port (30 * die + vc) = false →
      ∃ t q, exec (.packetTransmit die port vc) s = .next t ∧ t.wire = s.wire ++ [.packet port q]
        ∧ q = { x.pkt with degraded := x.pkt.degraded || s.flag (Reg.lanPortStatusDegraded port), hcrc := none }
        ∧ t.queue port = (s.queue port).erase x ∧ (∀ e, e ≠ port → t.queue e = s.queue e)
        ∧ (t.port port).flight = (s.port port).flight ++ [x.pkt.cells] ∧ (t.port port).out = (s.port port).out ++ q.flits
        ∧ t.mem = s.mem)
    ∧ (∀ counts : List Nat, counts.length = 30 → s.flag (Reg.lanPortStatusLink port) = true →
      ∃ t, exec (.linkCredit port counts) s = .next t
        ∧ (∀ v, v < 30 → (t.credit port v).counted = counts.getD v 0 % 4096 ∧ (t.credit port v).sent = (s.credit port v).sent)
        ∧ t = { s with credits := t.credits })
    ∧ (s.portUp port = true → (∀ v, v < 30 → (s.credit port v).held = 0) → (∃ v, v < 30 ∧ 0 < (s.credit port v).pending) →
      ∃ t q, exec (.linkCreditSend port) s = .next t ∧ t.wire = s.wire ++ [.packet port q] ∧ q.opcode = 0xE2
        ∧ q.cmd ++ q.data = creditBytes ((List.range 30).map fun v => (s.credit port v).freed)
        ∧ (∀ v, v < 30 → (t.credit port v).pending = 0 ∧ (t.credit port v).freed = (s.credit port v).freed)
        ∧ t = { s with credits := t.credits, ports := t.ports, wire := t.wire })
    ∧ ∀ vc, vc < 30 → (s.queues.any fun q => q.2.any fun x => x.via == some port && x.vc == vc) = false →
      ∃ t, exec (.windowReclaim port vc) s = .next t ∧ t.credit port vc = { s.credit port vc with window := 0 }
        ∧ t = { s with credits := t.credits }

/-- Requests of other modules served in this module's memory, where the requester's job may reach it (R169, R175, R260, R261): READ
answers the bytes, WRITE, WRITE_MASKED, ATOMIC and COMPLETION store theirs and no others, SIGNAL adds to its counter.  Each is
answered by the reply of its kind, with TAG, GEN and SEQ of the request. -/
def Obligations.RequestsAreServed : Prop :=
  ∀ (p q : Packet) (d : Nat) (s : State), s.powered = true → p.cls = 0 → p.dest = s.myId → p.tailOk = true → s.rickOn = false →
    (∀ n, p.opcode = 1 → opOf p = some (.read n) → formOf p.addr n = .ok → p.addr < memTop →
      s.reach (.firing p.job) false p.addr = .ok → s.sound p.addr n = true →
      s.route (replyTo p s.myId 0x81 .ok {} (s.mem.read p.addr n)) = .port d q →
      ∃ t, exec (.read p) s = .next t ∧ t.holds d q ∧ q.opcode = 0x81 ∧ q.dest = p.src ∧ q.tag = p.tag ∧ q.gen = p.gen ∧ q.seq = p.seq
        ∧ slice q.cmd 2 14 = slice p.cmd 2 14 ∧ q.data = s.mem.read p.addr n ∧ t.mem = s.mem)
    ∧ (s.reach (.firing p.job) true p.addr = .ok → p.addr < memTop →
      (∀ data, p.opcode = 2 → opOf p = some (.write data) → formOf p.addr data.length = .ok → s.sound p.addr data.length = true →
        s.route (replyTo p s.myId 0x82 .ok {} []) = .port d q →
        ∃ t, exec (.write p) s = .next t ∧ t.holds d q ∧ q.opcode = 0x82 ∧ q.dest = p.src
          ∧ (∀ i, i < data.length → Memory.byte t.mem (p.addr + i) = data.getD i 0)
          ∧ (∀ b, b < p.addr ∨ p.addr + data.length ≤ b → Memory.byte t.mem b = Memory.byte s.mem b))
      ∧ (∀ data mask, p.opcode = 6 → opOf p = some (.masked data mask) → p.addr % 64 = 0 → mask ≠ 0 →
        s.sound p.addr 64 = true → s.route (replyTo p s.myId 0x82 .ok {} []) = .port d q →
        ∃ t, exec (.writeMasked p) s = .next t ∧ t.holds d q ∧ t.mem = Memory.writeMasked s.mem p.addr data mask)
      ∧ (∀ op size operands, p.opcode = 3 → opOf p = some (.atomic op size operands) → (atomicSizes op).contains size = true →
        p.addr % size = 0 → s.sound p.addr size = true →
        s.route (replyTo p s.myId 0x83 .ok (atomicResult op size (leNat (s.mem.read p.addr size)) operands).2
          (natLe 32 (leNat (s.mem.read p.addr size)))) = .port d q →
        ∃ t, exec (.atomic p) s = .next t ∧ t.holds d q ∧ q.data = natLe 32 (leNat (s.mem.read p.addr size))
          ∧ t.mem = Memory.write s.mem p.addr
              (natLe size (atomicResult op size (leNat (s.mem.read p.addr size)) operands).1))
      ∧ (p.opcode = 5 → p.addr % 32 = 0 → s.sound p.addr 32 = true → s.route (replyTo p s.myId 0x85 .ok {} []) = .port d q →
        ∃ t, exec (.completion p) s = .next t ∧ t.holds d q ∧ t.mem = Memory.write s.mem p.addr (slice p.data 0 32)))
    ∧ ∀ (n inc : Nat) (e : Nat × Ctx), p.opcode = 4 → n = field p.cmd 4 2 % 4096 → inc = field p.cmd 8 4 →
      s.counterOwner n = some e → e.2.job = p.job → s.fenced e.2.p.partition = false →
      s.route (replyTo p s.myId 0x84 .ok {} []) = .port d q →
      ∃ t, exec (.signal p) s = .next t ∧ t.holds d q ∧ q.opcode = 0x84 ∧ t.sync n = (s.sync n + inc) % 2 ^ 32 ∧ t.mem = s.mem

/-- Replies (R109, R113, R116, R123, R159, R277).  A reply whose TAG names a held slot with its GEN and SEQ frees the slot and tells
its holder: an operand's bytes, a tile written, an addition made, a signal delivered, a record stored; its flags join the firing's.  A
stale one is dropped and counted, event 0x0705; a slot that waits too long ends with TIMEOUT, event 0x0706. -/
def Obligations.RepliesEndRequests : Prop :=
  (∀ (p : Packet) (die n : Nat) (x : ReqSlot) (s g : State), s.powered = true → g = s.arbGrant → p.cls = 2 → p.dest = s.myId →
    p.tailOk = true → s.matchSlot p = some (die, n, x) → s.slotWait = [] → p.status = .ok →
    (∀ part id a slot r, p.opcode = 0x81 → x.owner = .operand part id a slot → (s.part part).run = some r → r.id = id → 0 < r.readsOwed →
      ∃ t y, exec (.readData p) s = .next t ∧ (t.slotAt die n).busy = false ∧ (t.part part).run = some y
        ∧ y.readsOwed = r.readsOwed - 1 ∧ y.remote = r.remote ++ [(a, p.data)] ∧ y.fault = r.fault
        ∧ y.flags = r.flags.or ⟨false, false, p.flags.degraded, p.flags.detoured⟩ ∧ t.mem = s.mem)
    ∧ (∀ part id k slot r, p.opcode = 0x82 → x.owner = .tile part id k slot → (s.part part).run = some r → r.pass = id →
      r.replays < 8 → tfind r.tilesOwed k = some 1 → (∀ e ∈ r.entries, e.1 ≠ k) →
      ∃ t y, exec (.writeAck p) s = .next t ∧ (t.slotAt die n).busy = false ∧ (t.part part).run = some y
        ∧ y.tilesDone = r.tilesDone ++ [k] ∧ tfind y.tilesOwed k = none ∧ y.progress = s.clk ∧ y.fault = r.fault
        ∧ y.flags = r.flags.or p.flags ∧ t.mem = s.mem)
    ∧ (∀ part id k e r, p.opcode = 0x83 → x.owner = .tadd part id k e → (s.part part).run = some r → r.pass = id →
      r.replays < 8 → tfind r.tilesOwed k = some 1 → (∀ e ∈ r.entries, e.1 ≠ k) →
      ∃ t y, exec (.atomicResult p) s = .next t ∧ (t.slotAt die n).busy = false ∧ (t.part part).run = some y
        ∧ y.tilesDone = r.tilesDone ++ [k] ∧ y.ovf = (if p.flags.tally then e :: r.ovf else r.ovf)
        ∧ y.flags = r.flags.or p.flags ∧ t.mem = s.mem)
    ∧ (p.opcode = 0x83 → x.owner = .none →
      ∃ t, exec (.atomicResult p) s = .next t ∧ (t.slotAt die n).busy = false ∧ RegsBut s t [(Reg.rtrStoreSlotsInUse die).off]
        ∧ t = { s with regs := t.regs, reqSlots := t.reqSlots })
    ∧ (∀ part id k r, p.opcode = 0x84 → g.matchSlot p = some (die, n, x) → x.owner = .signal part id k →
      (s.part part).run = some r → r.stage = .signals → r.id = id → 1 < r.signalsOwed →
      ∃ t y, exec (.signalAck p) s = .next t ∧ (t.slotAt die n).busy = false ∧ (t.part part).run = some y
        ∧ y.signalsOwed = r.signalsOwed - 1 ∧ t.mem = s.mem)
    ∧ ∀ part c, p.opcode = 0x85 → x.owner = .record part c → part < 4 → s.pair (Reg.fsqPartFiringsLoOff part) < 2 ^ 64 - 1 →
      ∃ t, exec (.completionAck p) s = .next t ∧ (t.slotAt die n).busy = false
        ∧ t.pair (Reg.fsqPartFiringsLoOff part) = s.pair (Reg.fsqPartFiringsLoOff part) + 1 ∧ t.mem = s.mem)
  ∧ (∀ (p : Packet) (s : State), s.powered = true → p.cls = 2 → p.opcode = 0x81 → p.dest = s.myId → p.tailOk = true →
    s.matchSlot p = none → s.room 1 = true →
    ∃ t, exec (.readData p) s = .next t ∧ t.fld Reg.rtrStaleRepliesCount = min (s.fld Reg.rtrStaleRepliesCount + 1) (2 ^ 32 - 1)
      ∧ t.hasEvent 0x0705 (bits p.tag 13 13) p.src p.tag (p.gen * 256 + p.seq) ∧ t.reqSlots = s.reqSlots)
  ∧ ∀ (die n : Nat) (s : State), s.powered = true → die < 2 → n < 8192 → (s.slotAt die n).busy = true →
    (s.slotAt die n).owner = .none → s.slotWait = [] → s.room 1 = true →
    ∃ t, exec (.requestTimeout die n) s = .next t ∧ (t.slotAt die n).busy = false
      ∧ t.fld Reg.rtrTimeoutsCount = min (s.fld Reg.rtrTimeoutsCount + 1) (2 ^ 32 - 1)
      ∧ t.hasEvent 0x0706 die (s.slotAt die n).dest (n + die * 2 ^ 13) (s.slotAt die n).opcode ∧ t.mem = s.mem


/-! ### Firings (R102 to R133, R154 to R159) -/

/-- FIRING_SELECT of an idle partition starts the head entry of the next ready queue of the first context with credit, which is
charged for it at once where its descriptor is known (R104; for one on another module log entry 30, DEDUCED); FETCH_DONE of a readable
descriptor that waits on nothing and passes the checks goes on to Resolve, and one that fails a check is refused: counted, event
0x0203, its queue stopped with the check's status (R102, R106, R107); RESOLVE_DONE without rank addresses or sequence slots, with
every operand here, deals the units to the live cores (R111, R112). -/
def Obligations.FiringsStart : Prop :=
  (∀ (p c q : Nat) (rest : List Nat) (x : Ctx) (s : State), s.phase = .up → p < 4 → (s.part p).run = none → s.fenced p = false →
    s.haltedNow = false → s.flag (Reg.fsqPartStatusHeld p) = false → s.checkHolds p = false → s.readyCtxs true p = c :: rest →
    s.ctx c = some x → 0 < x.credit → s.nextQueue c x = some q →
    (s.isLocal (s.headAddr c q x) = true →
      ∃ t r, exec (.firingSelect p) s = .next t ∧ (t.part p).run = some r ∧ r.ctx = c ∧ r.queue = q ∧ r.stage = .fetch
        ∧ r.entry = s.fld (Reg.fsqCtxQHeadHead c q) ∧ r.fault = none ∧ t.flag (Reg.fsqPartStatusBusy p) = true
        ∧ t.ctx c = some { x with credit := x.credit - 1, lastQueue := q, heads := x.heads.filter fun h => h.1 != q }
        ∧ (t.part p).lastCtx = c ∧ (∀ d, d ≠ c → t.ctx d = s.ctx d)
        ∧ RegsBut s t [Reg.fsqPartStatusOff p, Reg.fsqPartRunningOff p]
        ∧ t = { s with regs := t.regs, ctxs := t.ctxs, parts := t.parts, free := t.free })
    ∧ (s.isLocal (s.headAddr c q x) = false → s.headBytes c q x = none →
      ∃ t r, exec (.firingSelect p) s = .next t ∧ (t.part p).run = some r ∧ r.ctx = c ∧ r.queue = q ∧ r.stage = .fetch
        ∧ r.charged = false ∧ RegsBut s t [Reg.fsqPartStatusOff p, Reg.fsqPartRunningOff p]
        ∧ t = { s with regs := t.regs, parts := t.parts, free := t.free }))
  ∧ (∀ (p a : Nat) (r : Run) (x : Ctx) (d : Desc) (s : State), s.powered = true → (s.part p).run = some r → r.stage = .fetch →
    r.charged = true → s.ctx r.ctx = some x → a = s.headAddr r.ctx r.queue x → s.isLocal a = true →
    s.reachAll (.firing x.job) false (a % 2 ^ 48) 256 = .ok → a % 2 ^ 48 < memTop → s.sound (a % 2 ^ 48) 256 = true →
    d = descOf (s.bytes (a % 2 ^ 48) 256) → s.waitsOver x d = true → s.waitError x d = false →
    (s.firingCheck x d = none → d.fam ≠ .bank →
      ∃ t, exec (.fetchDone p none) s = .next t
        ∧ (t.part p).run = some { r with bytes := s.bytes (a % 2 ^ 48) 256, desc := some d, stage := .resolve }
        ∧ t = { s with parts := t.parts, bursts := t.bursts })
    ∧ ∀ f, s.firingCheck x d = some f → f.status ≠ .ok → d.completion = 0 → d.signalList = [] → (s.part p).held = [] → p < 4 →
      r.ctx < 512 → r.queue < 4 → s.room 2 = true →
      ∃ t, exec (.fetchDone p none) s = .next t ∧ (t.part p).run = none
        ∧ t.fld (Reg.fsqPartRefusedCount p) = min (s.fld (Reg.fsqPartRefusedCount p) + 1) (2 ^ 32 - 1)
        ∧ t.hasEvent 0x0203 p r.ctx r.qe (stCode f.status)
        ∧ t.flag (Reg.fsqCtxQStateStopped r.ctx r.queue) = true
        ∧ t.fld (Reg.fsqCtxQStateLastStatus r.ctx r.queue) = stCode f.status ∧ t.mem = s.mem)
  ∧ ∀ (p : Nat) (r : Run) (x : Ctx) (d : Desc) (e : Env) (s : State), s.powered = true → (s.part p).run = some r →
    r.stage = .resolve → s.ctx r.ctx = some x → r.desc = some d → (∀ o ∈ d.slots, o.rank = false) →
    (∀ v ∈ d.signals, bit v 13 = false) → d.fam ≠ .attention → d.fam ≠ .signal → d.fam ≠ .bank → e = ⟨x.p.seed, [], s.free⟩ →
    s.live p ≠ [] → (∀ y ∈ readRanges d e, 0 < y.2.2 → s.isLocal y.2.1 = true) →
    ∃ t, exec (.resolveDone p []) s = .next t
      ∧ (t.part p).run = some { r with env := e, units := unitsPerTile d e (s.cores p)
                                       owners := s.dealt p (unitsPerTile d e (s.cores p))
                                       stage := if d.framed then .framePass else .main, progress := s.clk
                                       flags := { r.flags with degraded := r.flags.degraded || s.holes p != 0 } }
      ∧ t = { s with parts := t.parts, coreParts := t.coreParts, free := t.free }

/-- FRAME_PASS_DONE starts the main pass (R45).  UNIT_DONE of a unit of a tile is noted; a bad index ends the firing ACCESS, an
operand that it may not read ACCESS, an uncorrectable one MEM_UNCORRECTABLE (R154, R165, R180).  TILE_DONE of a tile whose units are
done stores the bytes that the firing's computation gives the tile, and no others (R110, R113). -/
def Obligations.FiringsRun : Prop :=
  ∀ (p : Nat) (r : Run) (s : State), s.powered = true → (s.part p).run = some r → r.fault = none →
    (r.stage = .framePass → r.readsOwed = 0 →
      ∃ t, exec (.framePassDone p) s = .next t ∧ (t.part p).run = some { r with stage := .main, progress := s.clk }
        ∧ t = { s with parts := t.parts })
    ∧ (∀ (u tile : Nat) (x : Ctx) (d : Desc) (rs : List (Nat × Nat × Nat)), r.stage = .main → r.readsOwed = 0 →
      s.ctx r.ctx = some x → r.desc = some d → tileOfUnit r.units u 0 = some tile → r.unitsDone.contains u = false →
      s.mayRunUnit p u r = true → rs = unitRanges d (s.reader r) r.env tile →
      (s.operandFault x.job rs = none → badIndex d (s.reader r) tile = false →
        (∀ y ∈ s.faint, (s.operandGranules rs).contains y.1 = false) →
        ∃ t, exec (.unitDone p u []) s = .next t ∧ (t.part p).run = some { r with unitsDone := r.unitsDone ++ [u], progress := s.clk }
          ∧ t = { s with parts := t.parts, coreParts := t.coreParts, sram := t.sram, sramResets := t.sramResets })
      ∧ (s.operandFault x.job rs = none → badIndex d (s.reader r) tile = true →
        ∃ t, exec (.unitDone p u []) s = .next t
          ∧ (t.part p).run = some { r with fault := some { status := .access, slot := 1, unit := u, granted := s.clk } }
          ∧ t = { s with parts := t.parts })
      ∧ ∀ st slot gs, s.operandFault x.job rs = some (st, slot, gs) →
        ∃ t, exec (.unitDone p u []) s = .next t
          ∧ (t.part p).run = some { r with fault := some { status := st, slot := slot, unit := u, granted := s.clk } })
    ∧ ∀ (tile z a : Nat) (bs : List Byte) (x : Ctx) (d : Desc) (out : TileOut), r.stage = .main → tile < r.units.length →
      r.tilesDone.contains tile = false → tfind r.tilesOwed tile = none → (∀ e ∈ r.entries, e.1 ≠ tile) →
      (∀ i, i < r.units.getD tile 0 → r.unitsDone.contains (firstUnit r.units tile + i) = true) →
      s.ctx r.ctx = some x → r.desc = some d → s.operandFault x.job (readRanges d r.env) = none →
      (∀ y ∈ s.faint, (s.operandGranules (readRanges d r.env)).contains y.1 = false) →
      out = tileOut d (s.reader r) r.env tile → out.writes = [(z, bs)] → out.rows = [] → out.adds = [] →
      s.isLocal z = true → a = z % 2 ^ 48 → a + bs.length ≤ memTop → s.rickOn = false → s.sound a bs.length = true →
      (∀ b, a ≤ b → b < a + bs.length → s.reach (.firing x.job) true b = .ok) →
      ∃ t, exec (.tileDone p tile) s = .next t
        ∧ (∀ i, i < bs.length → Memory.byte t.mem (a + i) = bs.getD i 0)
        ∧ (∀ b, b < a ∨ a + bs.length ≤ b → Memory.byte t.mem b = Memory.byte s.mem b)
        ∧ (t.part p).run = some { r with
            tilesDone := r.tilesDone ++ [tile], progress := s.clk
            flags := { r.flags with tally := r.flags.tally || out.tally, special := r.flags.special || out.special } }
        ∧ t = { s with parts := t.parts, mem := t.mem, badGranules := t.badGranules, faint := t.faint, bursts := t.bursts }

/-- FIRING_COMPLETE of a firing whose tiles are complete frees the partition and moves the queue's head on; it writes the completion
record where one is asked for, adds its signals, and stops the queue where a fault ended the firing (R102, R123, R131, R132, R158).
FIRING_HUNG ends the firing HANG, counts it, and begins the ladder for its context (R130, R361). -/
def Obligations.FiringsEnd : Prop :=
  ∀ (p cycles : Nat) (r : Run) (x : Ctx) (d : Desc) (s g : State), s.powered = true → g = s.arbGrant → p < 4 →
    (s.part p).run = some r → s.ctx r.ctx = some x → r.ctx < 512 → r.queue < 4 → r.desc = some d → d.fam ≠ .attention →
    (s.part p).held = [] →
    (r.fault = none → r.over = true → d.signalList = [] →
      (d.completion = 0 → s.fld (Reg.fsqCtxQSizeLog2 r.ctx r.queue) ≤ 16 →
        ∃ t, exec (.firingComplete p cycles) s = .next t ∧ (t.part p).run = none ∧ t.flag (Reg.fsqPartStatusBusy p) = false
          ∧ t.reg (Reg.fsqPartRunningOff p) = 0
          ∧ t.fld (Reg.fsqCtxQHeadHead r.ctx r.queue)
              = (s.fld (Reg.fsqCtxQHeadHead r.ctx r.queue) + 1) % 2 ^ s.fld (Reg.fsqCtxQSizeLog2 r.ctx r.queue)
          ∧ RegsBut s t (grantRegs ++ [Reg.fsqPartStatusOff p, Reg.fsqPartRunningOff p, Reg.fsqCtxQHeadOff r.ctx r.queue])
          ∧ t = { s with regs := t.regs, parts := t.parts, latches := t.latches, outSeq := t.outSeq })
      ∧ ∀ loc, d.completion = s.myId * 2 ^ 48 + loc → d.completion ≠ 0 → loc % 32 = 0 → loc < memTop →
        g.reach (.firing x.job) true loc = .ok → s.rickOn = false → s.sound loc 32 = true →
        ∃ t, exec (.firingComplete p cycles) s = .next t ∧ (t.part p).run = none
          ∧ t.mem.read loc 32 = g.runRecord p r .ok cycles
          ∧ (∀ b, b < loc ∨ loc + 32 ≤ b → Memory.byte t.mem b = Memory.byte s.mem b)
          ∧ t.pair (Reg.fsqPartFiringsLoOff p) = min (s.pair (Reg.fsqPartFiringsLoOff p) + 1) (2 ^ 64 - 1))
    ∧ (∀ (n inc : Nat) (e : Nat × Ctx), r.fault = none → r.over = true → d.completion = 0 →
      d.signalList = [(n, false, s.myId, inc)] → n < 4096 → g.counterOwner n = some e → e.2.job = x.job →
      g.fenced e.2.p.partition = false →
      ∃ t, exec (.firingComplete p cycles) s = .next t ∧ (t.part p).run = none ∧ t.sync n = (s.sync n + inc) % 2 ^ 32
        ∧ t.mem = s.mem)
    ∧ (∀ f, r.fault = some f → f.status ≠ .ok → r.stage = .main → r.tilesOwed = [] → r.strayOwed = 0 → d.completion = 0 →
      d.signalList = [] → s.room 1 = true →
      ∃ t, exec (.firingComplete p cycles) s = .next t ∧ (t.part p).run = none
        ∧ t.flag (Reg.fsqCtxQStateStopped r.ctx r.queue) = true
        ∧ t.fld (Reg.fsqCtxQStateLastStatus r.ctx r.queue) = stCode f.status
        ∧ t.hasEvent 0x0207 p r.ctx r.queue (stCode f.status) ∧ t.mem = s.mem)
    ∧ (r.stage = .main → s.haltedNow = false → s.bank.part ≠ some p → d.completion = 0 → d.signalList = [] → x.p.partition = p →
      x.p.syncCount = 0 → s.room 1 = true → s.groups = [] → g.channelsOf r.ctx = [] →
      ∃ t, exec (.firingHung p cycles) s = .next t ∧ (t.part p).run = none ∧ t.hasEvent 0x0202 p r.ctx r.qe d.expected
        ∧ t.fld (Reg.fsqPartHangsCount p) = min (s.fld (Reg.fsqPartHangsCount p) + 1) (2 ^ 32 - 1)
        ∧ (∃ f, (r.ctx, 1, f) ∈ t.ladder) ∧ t.mem = s.mem)


/-! ### Losses of compute units (R19, R81 to R90, R362, R369) -/

/-- A residue mismatch on a live core: the first is counted, recorded and recomputed (R81); a second in the same group declares the
column bad: it enters the engine's bad columns and, when it is active, the engine's reset is asked for, which rewrites the column map,
event 0x0305 (R72, R81, R84, R85).  A store error owes its core a check and ends the running firing MEM_UNCORRECTABLE (R82). CORE_LOST
of a mapped core puts the replacement of R88 in its place, or leaves a hole where there is none; DIE_LOST makes every logical core of
the die a hole (R90); PASS_THROUGH_FAILED sets its marks (R19); CLUSTER_FAULT and SEQUENCER_NO_RESPONSE ask for their resets,
CORE_SEQUENCER_TRAP begins the ladder for the context (R361, R362). -/
def Obligations.LossesOfComputeUnits : Prop :=
  (∀ (k p : Nat) (s g : State), s.powered = true → g = s.arbGrant → s.coreAlive k p = true →
    (∀ e c, e < 4 → c < 66 → s.room 1 = true →
      ∃ t, exec (.residueRetry k p e c false) s = .next t ∧ (k, p, e, c) ∈ t.residue
        ∧ t.fld (Reg.kilResidueRetriesCount k) = min (s.fld (Reg.kilResidueRetriesCount k) + 1) (2 ^ 32 - 1)
        ∧ t.hasEvent 0x0304 k p e c ∧ RegsBut s t (grantRegs ++ evRegs ++ [Reg.kilResidueRetriesOff k])
        ∧ t = { s with regs := t.regs, residue := t.residue, evq := t.evq, latches := t.latches, outSeq := t.outSeq })
    ∧ (∀ e c, e < 4 → c < 66 → s.residue.contains (k, p, e, c) = true →
      ∀ bad, bad = tget s.badCols [] (engIndex k p e) ++ [c] → bad.length ≤ 2 → (∀ x ∈ bad, x < 66) →
      (tget s.badCols [] (engIndex k p e)).contains c = false →
      s.fld (Reg.kilColMapSkip0 k p e) ≠ c → s.fld (Reg.kilColMapSkip1 k p e) ≠ c →
      ∃ t, exec (.residueRetry k p e c true) s = .next t ∧ tget t.badCols [] (engIndex k p e) = bad
        ∧ t.fld (Reg.kilColMapBadCount k p e) = bad.length
        ∧ t.fld (Reg.kilColMapSkip0 k p e) = s.fld (Reg.kilColMapSkip0 k p e)
        ∧ t.fld (Reg.kilColMapSkip1 k p e) = s.fld (Reg.kilColMapSkip1 k p e)
        ∧ t.resetReqs = s.resetReqs ++ [{ level := 1, target := engIndex k p e, cause := 4 }] ∧ t.mem = s.mem)
    ∧ (∀ word r, (s.part (s.partOf k)).run = some r → r.stage = .main → r.fault = none → s.room 1 = true →
      ∃ t, exec (.storeUncorrectable k p word) s = .next t ∧ t.flag (Reg.kilEventsStoreUncorr k) = true
        ∧ t.hasEvent 0x0308 k p word 0 ∧ (k, p) ∈ t.storeDue
        ∧ (t.part (s.partOf k)).run = some { r with fault := some { status := .memUncorrectable, granted := s.clk } }
        ∧ RegsBut s t (grantRegs ++ evRegs ++ [Reg.kilEventsOff k])
        ∧ t = { s with regs := t.regs, parts := t.parts, storeDue := t.storeDue, evq := t.evq, latches := t.latches, outSeq := t.outSeq })
    ∧ (s.mayCheckStore k p = true →
      ∃ t, exec (.storeCheck k p true) s = .next t ∧ (k, p) ∉ t.storeDue ∧ t = { s with storeDue := t.storeDue }))
  ∧ ((∀ (k p c l home : Nat) (s : State), s.powered = true → s.coreAlive k p = true → 1 ≤ c → c ≤ 5 → s.role k p = 0 →
    s.resets = [] → l = s.fld (Reg.kilCoreHealthLogical k p) → l < 128 →
    home = bits (s.fld (Reg.kilClusterMapClusters k)) (4 * (l / 16) + 3) (4 * (l / 16)) → s.room 3 = true →
    (∀ q, s.replacement k p home = (some q, none) → s.role k q = 1 → q < 162 →
      ∃ t, exec (.coreLost k p c) s = .next t ∧ t.role k p = 4 ∧ t.role k q = 0 ∧ t.fld (Reg.kilCoreMapPhys k l) = q
        ∧ t.flag (Reg.kilCoreMapHole k l) = false ∧ t.fld (Reg.kilCoreHealthLogical k q) = l
        ∧ t.hasEvent 0x0301 k p l c ∧ t.hasEvent 0x0302 k l p (q + b2n (q / 18 ≠ home) * 2 ^ 31) ∧ t.mem = s.mem)
    ∧ (s.replacement k p home = (none, none) →
      ∃ t, exec (.coreLost k p c) s = .next t ∧ t.role k p = 4 ∧ t.flag (Reg.kilCoreMapHole k l) = true
        ∧ t.hasEvent 0x0301 k p l c ∧ t.hasEvent 0x0303 k l p 0 ∧ t.mem = s.mem))
  ∧ ∀ (k : Nat) (s : State), s.powered = true → k < 4 →
    (∀ c, 1 ≤ c → c ≤ 4 → s.flag (Reg.kilStatusLost k) = false → s.room 1 = true →
      ∃ t, exec (.dieLost k c) s = .next t ∧ t.flag (Reg.kilStatusLost k) = true
        ∧ (∀ l, l < 128 → t.flag (Reg.kilCoreMapHole k l) = true)
        ∧ t.hasEvent 0x030A k (128 - s.fld (Reg.kilStatusHoles k)) c 0 ∧ t.mem = s.mem)
    ∧ (∀ d, d ≤ 2 → s.room 1 = true →
      ∃ t, exec (.passThroughFailed k d) s = .next t ∧ t.flag (Reg.kilStatusPtFail k) = true
        ∧ t.flag (Reg.kilEventsPtFailSeen k) = true ∧ t.hasEvent 0x0309 k d 0 0
        ∧ RegsBut s t (grantRegs ++ evRegs ++ [Reg.kilStatusOff k, Reg.kilEventsOff k])
        ∧ t = { s with regs := t.regs, evq := t.evq, latches := t.latches, outSeq := t.outSeq })
    ∧ (∀ p e a b, p < 162 → e < 4 → (tget s.badCols [] (engIndex k p e)).length ≤ 2 → (a, b) = skips (tget s.badCols [] (engIndex k p e)) →
      s.fld (Reg.kilColMapSkip0 k p e) ≠ a ∨ s.fld (Reg.kilColMapSkip1 k p e) ≠ b → s.haltedNow = false → s.resets = [] →
      s.resetReqs = [{ level := 1, target := engIndex k p e, cause := 4 }] → s.room 3 = true →
      ∃ t, exec (.resetGrant 1 (engIndex k p e) 4) s = .next t ∧ t.fld (Reg.kilColMapSkip0 k p e) = a
        ∧ t.fld (Reg.kilColMapSkip1 k p e) = b ∧ t.flag (Reg.kilEventsColumnSpared k) = true
        ∧ t.hasEvent 0x0305 k p e (b * 256 + a) ∧ t.mem = s.mem)
    ∧ (∀ c, c < 9 → s.flag (Reg.kilStatusLost k) = false → s.phase = .up → (s.part (s.partOf k)).run = none →
      ∃ t, exec (.clusterFault k c) s = .next t
        ∧ t = { s.arbGrant with resetReqs := s.resetReqs ++ [{ level := 3, target := 9 * k + c, cause := 5 }], latches := t.latches
                                outSeq := t.outSeq })
    ∧ (s.dies k ≠ [] → s.phase = .up →
      ∃ t, exec (.sequencerNoResponse k) s = .next t
        ∧ t = { s.arbGrant with resetReqs := s.resetReqs ++ [{ level := 4, target := k, cause := 7 }], latches := t.latches
                                outSeq := t.outSeq })
    ∧ ∀ c p x, s.ctx c = some x → x.dying = none → c < 512 → p < 162 → s.partOf k = x.p.partition → s.phase = .up →
      (s.part x.p.partition).run = none → s.groups = [] → s.arbGrant.channelsOf c = [] → x.p.syncCount = 0 → s.room 1 = true →
      ∃ t, exec (.coreSequencerTrap c k p) s = .next t ∧ (∃ f, (c, 2, f) ∈ t.ladder)
        ∧ t.fld (Reg.rstCountCount 0) = min (s.fld (Reg.rstCountCount 0) + 1) (2 ^ 32 - 1)
        ∧ t.hasEvent 0x0204 x.p.partition c 2 (2 ^ 32 - 1) ∧ t.mem = s.mem)

/-- A firing is replayed at most 4 times: a loss that strikes it in its frame pass or main pass never makes its replays more than 4, a
loss in its fifth run ends it ABORTED, and before that, with a live core left, a loss in the frame pass restarts the frame pass and
counts as a replay (R119), as one in the main pass does, unless the firing is in place with a tile in write-back (R117, R118). -/
def Obligations.FiringIsReplayedAtMostFourTimes : Prop :=
  ∀ (p : Nat) (r : Run) (s : State), (s.part p).run = some r → (r.stage = .framePass ∨ r.stage = .main) →
    (∃ u, ((s.replay p).part p).run = some u ∧ (r.replays ≤ 4 → u.replays ≤ 4))
    ∧ (r.units ≠ [] → r.fault = none → 4 ≤ r.replays →
      ∃ u, ((s.replay p).part p).run = some u ∧ u.fault = some { status := .aborted, granted := s.clk }
        ∧ u.replays = r.replays)
    ∧ (r.units ≠ [] → r.fault = none → r.replays < 4 → s.live p ≠ [] →
      inPlace (r.desc.getD (descOf r.bytes)) r.env = false ∨ r.stage = .framePass ∨ (r.tilesOwed = [] ∧ r.strayOwed = 0) →
      ∃ u, ((s.replay p).part p).run = some u ∧ u.replays = r.replays + 1 ∧ u.stage = r.stage ∧ u.fault = none
        ∧ u.owners = s.dealt p r.units ∧ u.tilesDone = r.tilesDone ∧ u.flags.degraded = true
        ∧ (r.stage = .framePass → r.tilesDone = [] → u.unitsDone = []))


/-! ### The event recorder (R414, R485 to R496) -/

/-- EVENT_INTAKE takes the earliest event off its queue: into a new record with the next sequence number, or folded into a recent one
that it repeats (R414, R487, R489). MIRROR_CHECK repairs a word that fails in one mirror; a record that fails in both is lost (R490).
-/
def Obligations.RecorderTakesEvents : Prop :=
  (∀ (e : Ev) (q0 q1 : List Ev) (n : Nat) (s : State), s.powered = true → s.evq = [e :: q0, q1] →
    (∀ b ∈ q1.head?, e.clk ≤ b.clk) → n = s.pair Reg.evrCountLoOff + 1 → n + 1 < 2 ^ 64 → n ≠ 4096 → n ≠ 65537 →
    (s.foldSlot e = none → s.evLost = [(0, 0), (0, 0)] →
      ∃ t, exec .eventIntake s = .next t ∧ t.evq = [q0, q1] ∧ t.pair Reg.evrCountLoOff = n
        ∧ tfind t.recs (recSlot n) = some { ev := e, seq := n, writer := s.unitSrc, gap := false }
        ∧ (∀ m, m ≠ recSlot n → tfind t.recs m = tfind s.recs m) ∧ t.fld Reg.evrHeadIndex = recSlot (n + 1)
        ∧ RegsBut s t [Reg.evrCountLoOff, Reg.evrCountHiOff, Reg.evrHeadIndex.off]
        ∧ t = { s with regs := t.regs, evq := t.evq, recs := t.recs, recBad := t.recBad })
    ∧ ∀ slot r, s.foldSlot e = some slot → tfind s.recs slot = some r →
      ∃ t, exec .eventIntake s = .next t ∧ t.evq = [q0, q1] ∧ tfind t.recs slot = some (r.fold e)
        ∧ (∀ m, m ≠ slot → tfind t.recs m = tfind s.recs m)
        ∧ t.fld Reg.evrFoldsCount = min (s.fld Reg.evrFoldsCount + 1) (2 ^ 32 - 1) ∧ RegsBut s t [Reg.evrFoldsCount.off]
        ∧ t = { s with regs := t.regs, evq := t.evq, recs := t.recs })
  ∧ ∀ (slot w : Nat) (s : State), s.powered = true → slot < 65536 → w < 8 → s.room 1 = true →
    (∃ t, exec (.mirrorCheck slot [w] []) s = .next t
      ∧ t.fld Reg.evrRepairedCount = min (s.fld Reg.evrRepairedCount + 1) (2 ^ 32 - 1) ∧ t.hasEvent 0x0F01 0 slot w 0
      ∧ RegsBut s t (evRegs ++ [Reg.evrRepairedOff]) ∧ t = { s with regs := t.regs, evq := t.evq })
    ∧ (s.recBad.contains slot = false →
      ∃ t, exec (.mirrorCheck slot [w] [w]) s = .next t ∧ t.recBad = s.recBad ++ [slot]
        ∧ t.flag Reg.evrStatusLostRecord = true ∧ t.hasEvent 0x0F05 0 slot 0 0 ∧ t.slotBytes slot = List.replicate 32 0xFF
        ∧ RegsBut s t (evRegs ++ [Reg.evrStatusLostRecord.off]) ∧ t = { s with regs := t.regs, evq := t.evq, recBad := t.recBad })


/-! ### Resets (R96, R349 to R373) -/

/-- A reset is asked for by a session that may: SET_SPLIT in the SERVICE state (R96), RESET_REQUEST (R372, R390), RST_CMD_PARTITION,
RST_CMD_CHIP and RST_CMD_POWER_CYCLE (R372).  The request then waits for its grant with cause 0x0A, or 0x0B for the split; the audit
entry stands before it (R463, R465).  FAULT_CONTEXT_CLEAR clears the fault registers (R365). -/
def Obligations.ResetsAreAskedFor : Prop :=
  (∀ (o : Origin) (s g : State), s.powered = true → g = s.arbGrant → s.auditBad = false → s.room 2 = true →
    (∀ n, n ≤ 3 → g.takes o 0x15 = true → g.modState = .service → (n = 0 ∨ g.tenancy = true) →
      ∃ t, exec (.setSplit o n) s = .next t ∧ (⟨o, 0x15, none⟩ : Progress) ∈ t.inProg
        ∧ t.resetReqs = s.resetReqs ++ [{ level := 4, target := 4, cause := 0x0B, split := some n, o := some o }]
        ∧ RegsBut s t (grantRegs ++ auditRegs)
        ∧ t = { s with regs := t.regs, inProg := t.inProg, resetReqs := t.resetReqs, audit := t.audit, evq := t.evq
                       latches := t.latches, outSeq := t.outSeq })
    ∧ ∀ level part, 4 ≤ level → level ≤ 6 → (level = 4 → s.dies part ≠ []) → g.takes o 0x62 level = true →
      ∃ t, exec (.resetRequest o level part) s = .next t ∧ (⟨o, 0x62, none⟩ : Progress) ∈ t.inProg
        ∧ t.resetReqs = s.resetReqs ++ [{ level := level, target := if level = 4 then part else 0, cause := 0x0A, o := some o }]
        ∧ RegsBut s t (grantRegs ++ auditRegs)
        ∧ t = { s with regs := t.regs, inProg := t.inProg, resetReqs := t.resetReqs, audit := t.audit, evq := t.evq
                       latches := t.latches, outSeq := t.outSeq })
  ∧ ∀ (r : Requester) (s g : State), s.powered = true → g = s.arbGrant → g.installs r 0 = true →
    (∀ part, part < 4 → s.dies part ≠ [] →
      ∃ t, exec (.rstCmdPartition r part) s = .next t ∧ .access r Reg.rstCmdOff (rstWord 4 part) .ok ∈ t.wire
        ∧ t.resetReqs = s.resetReqs ++ [{ level := 4, target := part, cause := 0x0A }] ∧ RegsBut s t (grantRegs ++ auditRegs)
        ∧ t = { s with regs := t.regs, resetReqs := t.resetReqs, audit := t.audit, evq := t.evq, wire := t.wire, latches := t.latches
                       outSeq := t.outSeq })
    ∧ (∃ t, exec (.rstCmdChip r) s = .next t ∧ .access r Reg.rstCmdOff (rstWord 5 0) .ok ∈ t.wire
        ∧ t.resetReqs = s.resetReqs ++ [{ level := 5, target := 0, cause := 0x0A }] ∧ RegsBut s t (grantRegs ++ auditRegs)
        ∧ t = { s with regs := t.regs, resetReqs := t.resetReqs, audit := t.audit, evq := t.evq, wire := t.wire, latches := t.latches
                       outSeq := t.outSeq })
    ∧ (∃ t, exec (.rstCmdPowerCycle r) s = .next t ∧ .access r Reg.rstCmdOff (rstWord 6 0) .ok ∈ t.wire
        ∧ t.resetReqs = s.resetReqs ++ [{ level := 6, target := 0, cause := 0x0A }] ∧ RegsBut s t (grantRegs ++ auditRegs)
        ∧ t = { s with regs := t.regs, resetReqs := t.resetReqs, audit := t.audit, evq := t.evq, wire := t.wire, latches := t.latches
                       outSeq := t.outSeq })
    ∧ ∃ t, exec (.faultContextClear r) s = .next t ∧ .access r Reg.rstFaultContextOff (2 ^ 31) .ok ∈ t.wire
        ∧ t.reg Reg.rstFaultContextOff = 0 ∧ t.reg Reg.rstFaultUnitOff = regReset Reg.rstFaultUnitOff
        ∧ RegsBut s t (grantRegs ++ auditRegs ++ [Reg.rstFaultContextOff, Reg.rstFaultUnitOff])
        ∧ t = { s with regs := t.regs, faultHeld := none, audit := t.audit, evq := t.evq, wire := t.wire, latches := t.latches
                       outSeq := t.outSeq }

/-- RESET_GRANT of a waiting request begins the reset of its domain: event 0x0D01, its level counted, and the fence of a partition or
of the chip closed; level 6 asserts the alert for a power cycle (R351, R353, R364).  DRAIN_END advances the domain's generations
(R349, R355); SNAPSHOT_DONE closes the snapshot in its slot, event 0x0D06 (R358, R359). -/
def Obligations.ResetsBegin : Prop :=
  (∀ (q : ResetReq) (s : State), s.powered = true → s.resetReqs = [q] → q.split = none → q.o = none →
    (1 ≤ q.level → q.level ≤ 5 → s.haltedNow = false → s.resets = [] → s.room 1 = true →
      ∃ t r, exec (.resetGrant q.level q.target q.cause) s = .next t ∧ t.resetReqs = [] ∧ t.resets = [r]
        ∧ r.dom = domOf q.level q.target ∧ r.cause = q.cause ∧ r.began = s.clk ∧ r.drained = false ∧ r.asserted = false
        ∧ t.hasEvent 0x0D01 s.unitSrc q.level q.cause (s.domParam r.dom)
        ∧ t.fld (Reg.rstCountCount q.level) = min (s.fld (Reg.rstCountCount q.level) + 1) (2 ^ 32 - 1)
        ∧ (q.level = 4 → q.target < 4 → t.fenced q.target = true) ∧ (q.level = 5 → t.chipFence = true)
        ∧ (s.ctxs = [] → s.groups = [] → (∀ n, n < 128 → s.dmaBusy n = false) → t.mem = s.mem))
    ∧ (q.level = 6 → s.room 2 = true →
      ∃ t, exec (.resetGrant 6 q.target q.cause) s = .next t ∧ t.resetReqs = [] ∧ t.cycling = true
        ∧ t.flag Reg.pwrAlertCycleRequest = true ∧ t.hasEvent 0x0D0B s.unitSrc q.cause 0 0
        ∧ t.fld (Reg.rstCountCount 6) = min (s.fld (Reg.rstCountCount 6) + 1) (2 ^ 32 - 1) ∧ t.mem = s.mem))
  ∧ ∀ (r : Reset) (level target : Nat) (s : State), s.powered = true → s.resets = [r] → r.dom = domOf level target →
    r.failed = false →
    (4 ≤ r.dom.level → r.drained = false → r.bumped = [] → (∀ g ∈ r.dom.gens, s.genReady g = true) →
      (∀ x ∈ s.reqSlots, x.2.busy = true → ownedBy r.dom x.2.owner = false) →
      ∃ t, exec (.drainEnd level target) s = .next t ∧ t.resets = [{ r with drained := true, bumped := r.dom.gens }]
        ∧ (∀ g ∈ r.dom.gens, t.fld (genFld g) = (s.fld (genFld g) + 1) % 256)
        ∧ (r.dom ≠ .chip → RegsBut s t (r.dom.gens.map fun g => (genFld g).off)) ∧ (r.dom = .chip → t.dmaRun = [])
        ∧ t.mem = s.mem)
    ∧ ∀ i, r.snapDone = false → r.slot = some i → i < 8 → s.badGranules = [] → s.room 1 = true →
      ∃ t, exec (.snapshotDone level target true []) s = .next t ∧ t.resets = [{ r with snapDone := true }]
        ∧ t.fld Reg.rstSnapSeqCount = min (s.fld Reg.rstSnapSeqCount + 1) (2 ^ 32 - 1)
        ∧ t.hasEvent 0x0D06 s.unitSrc i (t.fld Reg.rstSnapSeqCount) 1 ∧ t.flag Reg.rstSnapStatusBusy = false
        ∧ t.mem.read (0x2000000 * i) 4 = natLe 4 (t.fld Reg.rstSnapSeqCount)

/-- The rest of a reset (R353, R369 to R371): once snapshot and drain are done the domain's stores are wiped and its sequencers clear;
the check passes; RESET_RELEASE opens the fence, records event 0x0D02 and answers the command that asked; LOWER_RESET_DONE ends an
engine's, core's or cluster's reset.  The ladder (R361 to R363): a context abort that does not end in time goes on to the smallest
unit still busy; a reset of level 4 that fails stays fenced and the chip's reset is asked for; an abort or an isolation that ends
leaves the ladder. -/
def Obligations.ResetsEndAndLadderClimbs : Prop :=
  (∀ (r : Reset) (level target : Nat) (s : State), s.powered = true → s.resets = [r] → r.dom = domOf level target →
    r.failed = false →
    (r.snapDone = true → r.drained = true → r.asserted = false →
      ∃ t, exec (.resetAsserted level target) s = .next t ∧ t.resets = [{ r with asserted := true }]
        ∧ (∀ x ∈ t.sram, (s.storesOf r.dom).contains (storeIndex x.1) = false)
        ∧ (2 ≤ r.dom.level → ∀ y ∈ s.domCores r.dom,
            (t.core y.1 y.2).beads = [] ∧ (t.core y.1 y.2).tally = [] ∧ (t.core y.1 y.2).units = [])
        ∧ (∀ p ∈ r.dom.partList, (t.part p).run = none ∧ (t.part p).lastCtx = 511) ∧ t.mem = s.mem)
    ∧ (r.asserted = true → r.checked = false → r.late = [] →
      ∃ t, exec (.postResetCheckDone level target [] []) s = .next t
        ∧ t = { s with resets := [{ r with checked := true, late := [] }]
                       storeDue := s.storeDue.filter fun x => ! (s.domCores r.dom).contains x })
    ∧ (∀ us o op, r.checked = true → r.replies = [o] → (⟨o, op, none⟩ : Progress) ∈ s.inProg →
      s.room 1 = true →
      ∃ t, exec (.resetRelease level target us) s = .next t ∧ t.resets = []
        ∧ t.fld Reg.rstStatusPartResetting = 0 ∧ t.flag Reg.rstStatusChipResetting = false
        ∧ t.hasEvent 0x0D02 s.unitSrc r.dom.level us (s.newGen r.dom) ∧ t.result o op .ok {} [] []
        ∧ RegsBut s t (evRegs ++ [Reg.rstStatusOff] ++ (List.range 4).map Reg.kilStatusOff)
        ∧ t = { s with regs := t.regs, resets := [], evq := t.evq, inProg := t.inProg })
    ∧ (r.dom.level ≤ 3 → r.snapDone = true → r.replies = [] → s.room 1 = true →
      ∃ t, exec (.lowerResetDone level target) s = .next t ∧ t.resets = []
        ∧ (∀ x ∈ t.sram, (s.storesOf r.dom).contains (storeIndex x.1) = false)
        ∧ (2 ≤ r.dom.level → ∀ y ∈ s.domCores r.dom, (t.core y.1 y.2).beads = [] ∧ (t.core y.1 y.2).tally = [])
        ∧ (∀ k p e, r.dom = .engine k p e → t.sram = s.sram ∧ ∀ b ∈ (t.core k p).beads, b.1 / 2112 ≠ e)
        ∧ t.hasEvent 0x0D02 s.unitSrc r.dom.level ((s.clk - r.began) / 235) (s.newGen r.dom) ∧ t.mem = s.mem))
  ∧ ((∀ (c cause f k p e : Nat) (x : Ctx) (s : State), s.powered = true → s.ladder = [(c, cause, f)] → s.ctx c = some x →
    1 ≤ s.fld Reg.rstCtrlMaxLevel → s.room 1 = true →
    ∃ t, exec (.ladderTimeout 0 c [(k, p, e)]) s = .next t ∧ t.ladder = []
      ∧ t.resetReqs = s.resetReqs ++ [{ level := 1, target := engIndex k p e, cause := 3, fault := some f }]
      ∧ t.hasEvent 0x0D03 s.unitSrc 0 cause 1 ∧ t.mem = s.mem)
  ∧ (∀ (r : Reset) (p : Nat) (s : State), s.powered = true → s.resets = [r] → p < 4 → r.dom = domOf 4 p → r.failed = false →
    5 ≤ s.fld Reg.rstCtrlMaxLevel → s.room 1 = true →
    ∃ t, exec (.ladderTimeout 4 p []) s = .next t ∧ t.resets = [{ r with failed := true }] ∧ t.fenced p = true
      ∧ t.resetReqs = s.resetReqs ++ [{ level := 5, target := 0, cause := 6, fault := some r.fault }]
      ∧ t.hasEvent 0x0D03 s.unitSrc 4 r.cause 5 ∧ t.mem = s.mem)
  ∧ ∀ (s : State), s.powered = true →
    (∀ c, ∃ t, exec (.contextAbortDone c) s = .next t ∧ (∀ x ∈ t.ladder, x.1 ≠ c)
      ∧ (∀ x ∈ s.ladder, x.1 ≠ c → x ∈ t.ladder)
      ∧ RegsBut s t ([Reg.rstStatusOff] ++ (List.range 4).map Reg.kilStatusOff) ∧ t = { s with regs := t.regs, ladder := t.ladder })
    ∧ ∀ k c, ∃ t, exec (.isolationDone k c) s = .next t ∧ (∀ x ∈ t.isolating, ¬ (x.1 = k ∧ x.2.1 = c))
      ∧ (∀ x ∈ s.isolating, ¬ (x.1 = k ∧ x.2.1 = c) → x ∈ t.isolating) ∧ t = { s with isolating := t.isolating })


/-! ### Control units (R366, R367, R399 to R419) -/

/-- The embers, the leases and the failures of control units: EMBER restarts a unit's watchdog (R366); a watchdog, an expired lease, a
mirror fault or a fatal fault of the ACTIVE unit gives the token to a standby that can take it, and the unit fails; a standby that
fails, by its watchdog, its journal or a fatal fault, is FAILED (R367, R404, R405, R407, R410).  A watchdog of the last unit closes
every fence (R367).  A switchover holds the cells and the sequencers until it ends; a cause that arises meanwhile joins it, the lowest
code counting (R410, R411, R417); with its end the incoming unit is ACTIVE, the outgoing one fails, enters its self-test or becomes
STANDBY by the cause (R407, R409 to R411). -/
def Obligations.ControlUnitsFail : Prop :=
  (∀ (h : Hold) (s : State), s.on = true → s.ctl.hold = some h → h.unit < 2 → h.ns ≤ 40000 → s.room 3 = true →
    (s.pending = [] → (∀ e ∈ s.sessions, e.2.queued = []) → h.since + h.ns * 235 / 1000 ≤ s.clk + 1 →
      ∃ t, step s = .next t ∧ switchedTo s t h.unit h.cause ∧ t.ctl.hold = none ∧ t.flag Reg.ctlStatusSwitching = false
        ∧ (∀ p, p < 4 → t.flag (Reg.fsqPartStatusHeld p) = false) ∧ (h.cause = 2 → t.unitState (1 - h.unit) = 2)
        ∧ (h.cause = 1 ∨ h.cause = 6 → t.unitState (1 - h.unit) = 4)
        ∧ (h.cause ∉ [1, 2, 6] → unitFailedTo s t (1 - h.unit) h.failCause) ∧ t.mem = s.mem)
    ∧ ∀ u cell, s.activeUnit = some u → cell < 2 → s.canTake (1 - u) = true →
      exec (.leaseExpiry cell) s = .next { s with ctl := { s.ctl with
        hold := some (if 4 < h.cause then { h with cause := 4, failCause := 1 } else h) } })
  ∧ ∀ (u : Nat) (s g : State), s.powered = true → u < 2 → g = s.arbGrant → s.room 4 = true →
    (∀ count, s.fld (Reg.ctlUnitEmberCount u) ≠ count % 2 ^ 16 →
      ∃ t, exec (.ember (.firmware u) u count) s = .next t ∧ t.fld (Reg.ctlUnitEmberCount u) = count % 2 ^ 16
        ∧ (t.cu u).emberAt = s.clk ∧ .access (.firmware u) (Reg.ctlUnitEmberOff u) (count % 2 ^ 16) .ok ∈ t.wire
        ∧ RegsBut s t (grantRegs ++ [Reg.ctlUnitEmberOff u])
        ∧ t = { s with regs := t.regs, ctl := t.ctl, wire := t.wire, latches := t.latches, outSeq := t.outSeq })
    ∧ (s.unitState u = 1 → s.activeUnit = some u → s.canTake (1 - u) = true →
      (s.flag Reg.rstStatusNoControlUnit = false →
        ∃ t, exec (.watchdogFire u) s = .next t ∧ switchBegins s t (1 - u) 3 1
          ∧ t.flag (Reg.rstEmberTripped u) = true ∧ t.hasEvent 0x0D05 u u (s.emberAge u) 1 ∧ t.mem = s.mem)
      ∧ (∀ cell, cell < 2 →
        ∃ t, exec (.leaseExpiry cell) s = .next t ∧ switchBegins s t (1 - u) 4 1 ∧ t.mem = s.mem)
      ∧ (s.standby = some (1 - u) →
        ∃ t, exec (.journalRecord true) s = .next t ∧ switchBegins s t (1 - u) 7 1 ∧ t.mem = s.mem)
      ∧ ∃ t, exec (.fatalFault u) s = .next t ∧ switchBegins s t (1 - u) 5 4 ∧ t.mem = s.mem)
    ∧ (s.unitState u = 1 → s.activeUnit = some u → s.canTake (1 - u) = false →
      (s.flag Reg.rstStatusNoControlUnit = false →
        ∃ t, exec (.watchdogFire u) s = .next t ∧ t.flag Reg.rstStatusNoControlUnit = true ∧ (∀ p, t.fenced p = true)
          ∧ t.hasEvent 0x0D05 u u (s.emberAge u) 3 ∧ t.mem = s.mem)
      ∧ (∃ t, exec (.fatalFault u) s = .next t ∧ t.flag Reg.rstStatusNoControlUnit = true ∧ unitFailedTo s t u 4
          ∧ t.hasEvent 0x0D05 u u (s.emberAge u) 3 ∧ t.mem = s.mem)
      ∧ ∀ cell, cell < 2 →
        ∃ t, exec (.leaseExpiry cell) s = .next t ∧ t.flag Reg.ctlStatusLeaseLate = true
          ∧ t.hasEvent 0x0106 u u (s.unitState (1 - u)) 0 ∧ RegsBut s t (grantRegs ++ evRegs ++ [Reg.ctlStatusOff])
          ∧ t = { s with regs := t.regs, evq := t.evq, latches := t.latches, outSeq := t.outSeq })
    ∧ (s.activeUnit = some u →
      ∃ t, exec .leaseRenew s = .next t ∧ t.flag Reg.ctlStatusLeaseLate = false ∧ t.ctl.leases = [s.clk, s.clk]
        ∧ RegsBut s t (grantRegs ++ [Reg.ctlStatusOff])
        ∧ t = { s with regs := t.regs, ctl := t.ctl, latches := t.latches, outSeq := t.outSeq })
    ∧ (s.unitState u = 2 → s.standby = some u →
      (s.flag Reg.rstStatusNoControlUnit = false →
        ∃ t, exec (.watchdogFire u) s = .next t ∧ unitFailedTo s t u 2 ∧ t.hasEvent 0x0D05 s.unitSrc u (s.emberAge u) 2)
      ∧ (∃ t, exec (.journalRecord false) s = .next t ∧ t.fld Reg.ctlJournalDepth = s.fld Reg.ctlJournalDepth - 1
        ∧ RegsBut s t [Reg.ctlJournalOff] ∧ t = { s with regs := t.regs })
      ∧ (∃ t, exec .journalTimeout s = .next t ∧ unitFailedTo s t u 5)
      ∧ ∃ t, exec (.fatalFault u) s = .next t ∧ unitFailedTo s t u 4)

/-- The return of a failed unit: a restart makes it TESTING, its self-test passes it to the state copy or fails it, the copy ends in
PROBATION, and its end in STANDBY with event 0x0104, or for A, where B got the token by a failure, in a switchover back (R400, R407,
R408, R418).  Planned swaps: SWAP_DUE sets one waiting, SWAP_POINT makes it, CTL_SWAP_COMMAND swaps at once (R409, R410); how a
switchover ends `ControlUnitsFail` says.  TRACE_EN_WRITE sets the trace clock (R416).  The in-service test takes the next spare of a
die, which returns to the free ones when it passes and is lost when it fails (R89, R368). -/
def Obligations.UnitsReturnAndSwap : Prop :=
  ((∀ (u : Nat) (s g : State), s.powered = true → u < 2 → g = s.arbGrant → s.room 3 = true →
    (∀ r, s.unitState u = 3 → g.installs r 0 = true →
      ∃ t, exec (.unitRestart r u) s = .next t ∧ t.unitState u = 4 ∧ .access r Reg.ctlCmdOff (2 ^ 31 + u * 16 + 2) .ok ∈ t.wire
        ∧ RegsBut s t (grantRegs ++ auditRegs ++ [Reg.ctlStatusOff]) ∧ t.mem = s.mem)
    ∧ (s.unitState u = 3 → s.activeUnit.isSome = true →
      ∃ t, exec (.unitRestartTimer u) s = .next t ∧ t.unitState u = 4 ∧ (t.cu u).copying = false
        ∧ RegsBut s t (grantRegs ++ [Reg.ctlStatusOff])
        ∧ t = { s with regs := t.regs, ctl := t.ctl, latches := t.latches, outSeq := t.outSeq })
    ∧ (s.unitState u = 4 → (s.cu u).copying = false →
      (∃ t, exec (.selfTest u 0) s = .next t ∧ t.hasEvent 0x0103 u u 1 0 ∧ t.flag (Reg.ctlUnitSelftestPassed u) = true
        ∧ ((s.cu u).swapped = true → t.unitState u = 2)
        ∧ ((s.cu u).swapped = false → t.unitState u = 4 ∧ (t.cu u).copying = true)
        ∧ RegsBut s t (grantRegs ++ evRegs ++ [Reg.ctlStatusOff, Reg.ctlUnitSelftestOff u]))
      ∧ ∀ n, 0 < n → n < 65536 →
        ∃ t, exec (.selfTest u n) s = .next t ∧ t.hasEvent 0x0103 u u 0 n ∧ t.flag (Reg.ctlUnitSelftestPassed u) = false
          ∧ t.fld (Reg.ctlUnitSelftestFailingTest u) = n ∧ unitFailedTo s t u 3)
    ∧ (s.unitState u = 4 → (s.cu u).copying = true →
      ∃ t, exec (.stateCopyDone u) s = .next t ∧ t.unitState u = 5 ∧ (t.cu u).probation = s.clk
        ∧ RegsBut s t [Reg.ctlStatusOff] ∧ t = { s with regs := t.regs, ctl := t.ctl })
    ∧ ∀ ms, s.unitState u = 5 →
      ((u = 1 ∨ [3, 4, 5, 7].contains s.ctl.gained = false) →
        ∃ t, exec (.probationEnd u ms) s = .next t ∧ t.unitState u = 2 ∧ t.fld (Reg.ctlUnitInfoProbationS u) = 60
          ∧ t.hasEvent 0x0104 u u ms 0
          ∧ RegsBut s t (grantRegs ++ evRegs ++ [Reg.ctlStatusOff, Reg.ctlUnitInfoOff u])
          ∧ t = { s with regs := t.regs, evq := t.evq, latches := t.latches, outSeq := t.outSeq })
      ∧ (u = 0 → s.activeUnit = some 1 → [3, 4, 5, 7].contains s.ctl.gained = true →
        ∃ t, exec (.probationEnd u ms) s = .next t ∧ switchBegins s t 0 2 1 ∧ t.mem = s.mem)))
  ∧ ((∀ (u : Nat) (s g : State), s.powered = true → g = s.arbGrant → s.swapPair = some u → s.room 3 = true →
    (s.flag Reg.ctlSwapEnable = true → s.ctl.swapWait = none →
      ∃ t, exec .swapDue s = .next t
        ∧ t = { g with ctl := { s.ctl with swapWait := some s.clk }, latches := t.latches, outSeq := t.outSeq })
    ∧ (∀ clk0, s.flag Reg.ctlSwapEnable = true → s.ctl.swapWait = some clk0 →
      (s.swapPoint = true → ∃ t, exec (.swapPoint false) s = .next t ∧ switchBegins s t u 1 1 ∧ t.mem = s.mem)
      ∧ (s.ladderActive = false →
        ∃ t, exec (.swapPoint true) s = .next t ∧ switchBegins s t u 1 1
          ∧ t.hasEvent 0x0107 s.unitSrc (max 600 ((s.clk - clk0) / 235000000)) 0 0 ∧ t.mem = s.mem))
    ∧ ∀ r, g.installs r 1 = true →
      ∃ t, exec (.ctlSwapCommand r) s = .next t ∧ .access r Reg.ctlCmdOff (2 ^ 31 + 1) .ok ∈ t.wire
        ∧ switchBegins s t u (if s.ctl.swapWait.isSome then 1 else 6) 1 ∧ t.mem = s.mem)
  ∧ (∀ (r : Requester) (v : Bool) (s : State), s.powered = true → s.arbGrant.installs r 0 = true → s.alertN = false →
    ∃ t, exec (.traceEnWrite r v) s = .next t ∧ t.flag Reg.ctlSvcTraceEn = v ∧ .access r Reg.ctlSvcOff (b2n v) .ok ∈ t.wire
      ∧ RegsBut s t (grantRegs ++ auditRegs ++ [Reg.ctlSvcOff]) ∧ t.mem = s.mem)
  ∧ ∀ (k : Nat) (s : State), s.powered = true → k < 4 → s.flag (Reg.kilStatusLost k) = false →
    (∀ p, s.flag Reg.rstSpareTestEnable = true → s.phase = .up → s.fld (Reg.rstSpareTestDieCurrent k) = 255 →
      s.nextSpare k = some p → p < 162 →
      ∃ t, exec (.spareTestRotate k) s = .next t ∧ t.role k p = 2 ∧ t.fld (Reg.rstSpareTestDieCurrent k) = p
        ∧ RegsBut s t (grantRegs ++ [Reg.rstSpareTestDieOff k, Reg.kilCoreHealthOff k p])
        ∧ t = { s with regs := t.regs, spareLast := t.spareLast, latches := t.latches, outSeq := t.outSeq })
    ∧ ∀ c, c = s.fld (Reg.rstSpareTestDieCurrent k) → c < 162 → s.flag (Reg.kilStatusResetting k) = false → s.room 3 = true →
      (∃ t, exec (.spareTestDone k 0) s = .next t ∧ t.role k c = 1 ∧ t.fld (Reg.rstSpareTestDieCurrent k) = 255
        ∧ t.hasEvent 0x0D09 s.unitSrc k c 0
        ∧ RegsBut s t (evRegs ++ [Reg.rstSpareTestDieOff k, Reg.kilCoreHealthOff k c])
        ∧ t = { s with regs := t.regs, spareDoubt := t.spareDoubt, evq := t.evq })
      ∧ ∀ n, 0 < n → s.role k c = 2 → s.resets = [] →
        ∃ t, exec (.spareTestDone k n) s = .next t ∧ t.role k c = 4 ∧ t.fld (Reg.rstSpareTestDieCurrent k) = 255
          ∧ t.fld (Reg.rstSpareTestDieFails k) = min (s.fld (Reg.rstSpareTestDieFails k) + 1) 255
          ∧ t.hasEvent 0x0D0A s.unitSrc k c n ∧ t.mem = s.mem)


/-! ### Power, start, records (R8, R31, R33, R420 to R443, R502, R531 to R536) -/

/-- COLD_START begins a start from the saved counters with memory and contexts empty, braked or halted while a pin is low (R31, R33,
R427, R537); TRAY_RST_ASSERT saves the counters and ends in OFF (R534), POWER_LOSS saves nothing (R536), nor does the loss of the
reference (R531).  OPTIME_SAVE queues the counters (R33); RECORD_WRITE_DONE ends the oldest write of its type, stored or failed with
event 0x0E07 (R425).  That a failed audit write refuses the next audited action is log entry 6, DESIGN CHOICE. -/
def Obligations.PowerAndRecords : Prop :=
  (∀ (slot : Nat) (s : State), s.phase = .off → s.pins.trayRstN = false → slot < 64 →
    ∃ t, exec (.coldStart slot) s = .next t ∧ t.phase = .start ∧ t.fld Reg.glbSlotSlotId = slot
      ∧ t.fld Reg.glbPowerCyclesCount = min (s.nvm.cycles + 1) (2 ^ 24 - 1)
      ∧ (s.nvm.optime < 2 ^ 40 → t.pair Reg.glbOptimeMsLoOff = s.nvm.optime) ∧ t.mem = [] ∧ t.ctxs = [] ∧ t.sessions = []
      ∧ t.nvm = { s.nvm with shutdown := 0 } ∧ t.pending = s.pending ∧ t.flag Reg.pwrStatusBrake = ! s.pins.brakeN
      ∧ t.flag Reg.pwrStatusHaltFlowLoss = ! s.pins.flowLossN)
  ∧ (∀ s : State, s.powered = true →
    (∃ t, exec .trayRstAssert s = .next t ∧ t.phase = .off ∧ t.pins.trayRstN = false ∧ t.nvm.optime = s.opTime
      ∧ t.nvm.cycles = s.fld Reg.glbPowerCyclesCount ∧ t.nvm.ash = s.nvm.ash ∧ t.audit = s.audit ∧ t.regs = [] ∧ t.mem = [])
    ∧ (∃ t, exec .powerLoss s = .next t ∧ t.phase = .off ∧ (s.copyingImage = false → t.nvm = s.nvm) ∧ t.audit = s.audit
      ∧ t.regs = [] ∧ t.mem = [])
    ∧ (s.pins.trayRstN = true →
      ∀ ppm, ∃ t, exec (.referenceLost ppm) s = .next t ∧ t.phase = .off ∧ (s.copyingImage = false → t.nvm = s.nvm) ∧ t.regs = []
        ∧ t.mem = [])
    ∧ (∃ t, exec .optimeSave s = .next t
      ∧ t.nvmq = s.nvmq ++ [.counters s.opTime (s.fld Reg.glbPowerCyclesCount) (s.fld Reg.botWarmResetsCount) 0]
      ∧ RegsBut s t [Reg.ctlNvmQueueOff] ∧ t = { s with regs := t.regs, nvmq := t.nvmq })
    ∧ (s.start.warmWait = false →
      exec (.recordWriteDone 13 true) s = .next s ∧ exec (.recordWriteDone 13 false) s = .next { s with auditBad := true })
    ∧ ∀ ty d, ty ≠ 13 → s.nvmq.find? (fun e => e.type == ty) = some d → s.start.warmWait = false →
      (∃ t, exec (.recordWriteDone ty true) s = .next t ∧ t.nvmq = s.nvmq.erase d ∧ t.nvm = s.nvm.put d
        ∧ t.fld Reg.botNvmWritesCount = min (s.fld Reg.botNvmWritesCount + 1) (2 ^ 32 - 1)
        ∧ RegsBut s t [Reg.ctlNvmQueueOff, Reg.botNvmWritesOff]
        ∧ t = { s with regs := t.regs, nvmq := t.nvmq, nvm := t.nvm })
      ∧ (s.room 1 = true →
        ∃ t, exec (.recordWriteDone ty false) s = .next t ∧ t.nvmq = s.nvmq.erase d ∧ t.nvm = s.nvm.dropOlder ty
          ∧ t.hasEvent 0x0E07 0 ty (1 - tget s.nvm.newer 0 ty) 4
          ∧ t.fld Reg.botNvmFailsCount = min (s.fld Reg.botNvmFailsCount + 1) (2 ^ 32 - 1)
          ∧ RegsBut s t (evRegs ++ [Reg.ctlNvmQueueOff, Reg.botNvmFailsOff])
          ∧ t = { s with regs := t.regs, nvmq := t.nvmq, nvm := t.nvm, evq := t.evq }))

/-- START_STEP_DONE: step 1 passes on to step 2 or ends the start with event 0x0E02 (R428); step 4 puts the licences whose checks pass
in force and enters TEST (R32, R439, R440); step 8 passes on to step 9, which ends the start: the module is up, event 0x0E01 (R427). A
halt cause that holds for 60 s ends the start, and the start test pauses while one holds (R430). -/
def Obligations.StartSteps : Prop :=
  ∀ (r : StepResult) (n : Nat) (s : State), s.powered = true → n = s.fld Reg.botStatusStep → s.phase ≠ .up →
    s.flag Reg.botStatusFailed = false → r.ms < 2 ^ 32 → s.room 1 = true →
    (r.haltHeld = true → s.haltedNow = true →
      ∃ t, exec (.startStepDone r) s = .next t ∧ t.flag Reg.botStatusFailed = true
        ∧ t.fld Reg.botStatusFailStatus = stCode .state ∧ t.hasEvent 0x0E02 s.unitSrc n (stCode .state) 0
        ∧ RegsBut s t (evRegs ++ [Reg.botStatusOff]) ∧ t = { s with regs := t.regs, evq := t.evq })
    ∧ (n = 6 → r.haltHeld = false → s.haltedNow = true → s.flag Reg.botStatusWarm = false → exec (.startStepDone r) s = .next s)
    ∧ ((r.haltHeld && s.haltedNow) = false →
      (n = 1 → r.ok = true →
        ∃ t, exec (.startStepDone r) s = .next t ∧ t.fld Reg.botStatusStep = 2 ∧ t.fld Reg.secStatusMonitorOk = 3
          ∧ t.fld (Reg.botStepMsMs 1) = r.ms ∧ RegsBut s t [Reg.botStatusOff, Reg.secStatusOff, Reg.botStepMsOff 1]
          ∧ t = { s with regs := t.regs })
      ∧ (n = 1 → r.ok = false →
        ∃ t st, exec (.startStepDone r) s = .next t ∧ t.flag Reg.botStatusFailed = true ∧ t.fld Reg.botStatusFailStatus = st
          ∧ t.hasEvent 0x0E02 s.unitSrc 1 st 0 ∧ RegsBut s t (evRegs ++ [Reg.botStatusOff])
          ∧ t = { s with regs := t.regs, evq := t.evq, free := t.free })
      ∧ (n = 4 →
        ∃ t, exec (.startStepDone r) s = .next t ∧ t.phase = .test ∧ t.fld Reg.botStatusStep = 5
          ∧ (∀ good, good = (fun (x : Nat × Licence) f => s.licenceGood x.2 (r.licencesOk.contains x.1) && bit x.2.functions f) →
            (t.base = true ↔ ∃ x ∈ s.nvm.licences, good x 0 = true)
            ∧ (t.scale = true ↔ t.base = true ∧ ∃ x ∈ s.nvm.licences, good x 1 = true)
            ∧ (t.rick = true ↔ t.base = true ∧ ∃ x ∈ s.nvm.licences, good x 2 = true)
            ∧ (t.tenancy = true ↔ t.base = true ∧ ∃ x ∈ s.nvm.licences, good x 3 = true))
          ∧ t.mem = s.mem)
      ∧ (n = 8 →
        ∃ t, exec (.startStepDone r) s = .next t ∧ t.fld Reg.botStatusStep = 9 ∧ t.fld (Reg.botStepMsMs 8) = r.ms
          ∧ RegsBut s t [Reg.botStatusOff, Reg.botStepMsOff 8] ∧ t = { s with regs := t.regs })
      ∧ (n = 9 →
        ∃ t ms, exec (.startStepDone r) s = .next t ∧ t.phase = .up ∧ t.fld Reg.botStatusStep = 0
          ∧ t.flag Reg.botStatusDone = true ∧ t.fld (Reg.botStepMsMs 9) = r.ms ∧ t.fld Reg.botStartMsMs = min ms (2 ^ 32 - 1)
          ∧ t.hasEvent 0x0E01 s.unitSrc (if s.flag Reg.botStatusWarm then 2 else 1) ms s.start.ashAdded ∧ t.mem = s.mem))

/-- The installer's commands on records: a cabling plan for this slot is in force at once where it gives the same module ID, else
staged (R216), a host configuration stored for the next cold start (R376), an ash entry added with event 0x0E04 (R432), saved training
discarded (R434); WARM waits for copies and record writes, or is refused with its reason, and with nothing to wait for resets the
module, which keeps its memory (R436, R437). -/
def Obligations.InstallerCommands : Prop :=
  ∀ (r : Requester) (s g : State), s.powered = true → g = s.arbGrant → g.installs r 1 = true →
    (∀ p : Plan, s.phase = .up → p.root ≠ p.backup → p.rack < 1024 → p.slot < 64 → p.none < 65536 → p.root < 65536 →
      p.backup < 65536 → p.slot = s.fld Reg.glbSlotSlotId →
      (s.provisional = true ∨ planId p ≠ s.myId →
        ∃ t, exec (.planLoad r p) s = .next t ∧ t.nvmq = s.nvmq ++ [.plan p] ∧ t.flag Reg.lanDiscStatusStaged = true
          ∧ .access r Reg.lanPlanIdOff 0 .ok ∈ t.wire
          ∧ RegsBut s t (grantRegs ++ auditRegs ++ [Reg.ctlNvmQueueOff, Reg.lanDiscStatusOff]) ∧ t.mem = s.mem)
      ∧ (s.provisional = false → planId p = s.myId →
        ∃ t, exec (.planLoad r p) s = .next t ∧ t.nvmq = s.nvmq ++ [.plan p] ∧ t.flag Reg.lanDiscStatusStaged = false
          ∧ t.fld Reg.lanPlanIdNone = p.none ∧ t.fld Reg.lanPlanIdRack = p.rack ∧ t.fld Reg.lanPlanRootsRoot = p.root
          ∧ t.fld Reg.lanPlanRootsBackupRoot = p.backup ∧ .access r Reg.lanPlanIdOff 0 .ok ∈ t.wire ∧ t.mem = s.mem))
    ∧ (∀ c : HostCfg,
      ∃ t, exec (.hostConfigurationLoad r c) s = .next t ∧ t.nvmq = s.nvmq ++ [.host c]
        ∧ .access r Reg.hstStatusOff 0 .ok ∈ t.wire ∧ RegsBut s t (grantRegs ++ auditRegs ++ [Reg.ctlNvmQueueOff])
        ∧ t.mem = s.mem)
    ∧ (∀ v ty d u e c list en, bit v 31 = true → v < 2 ^ 32 → ashWord v = some (ty, d, u, e, c) →
      ashInsert s.ash 3 (ashEntry ty 8 d (s.fld Reg.glbPowerCyclesCount) u e c) = some (list, en) → list.length ≤ 4096 →
      ∃ t, exec (.botAshAdd r v) s = .next t ∧ t.ash = list ∧ t.nvmq = s.nvmq ++ [.ash list]
        ∧ t.fld Reg.botAshCountEntries = list.length ∧ t.fld Reg.botCmdResultStatus = 0
        ∧ t.hasEvent 0x0E04 s.unitSrc (en / 2 ^ 32) (en % 2 ^ 32) (bits en 55 52) ∧ .access r Reg.botAshAddOff v .ok ∈ t.wire
        ∧ RegsBut s t (grantRegs ++ auditRegs ++ [Reg.botAshCountOff, Reg.ctlNvmQueueOff, Reg.botCmdResultOff]) ∧ t.mem = s.mem)
    ∧ (∃ t, exec (.forget r) s = .next t ∧ t.nvm = s.nvm.lose 12 ∧ t.nvm.training = false ∧ t.fld Reg.botCmdResultStatus = 0
        ∧ (∀ d ∈ t.nvmq, d ≠ .training) ∧ .access r Reg.botCmdOff (2 ^ 31 + 2) .ok ∈ t.wire ∧ t.mem = s.mem)
    ∧ (g.warmReason = 0 →
      (s.copies ≠ [] ∨ s.nvmq ≠ [] →
        ∃ t, exec (.warm r) s = .next t ∧ t.start.warmWait = true ∧ t.fld Reg.botCmdResultStatus = 0
          ∧ .access r Reg.botCmdOff (2 ^ 31 + 1) .ok ∈ t.wire ∧ t.mem = s.mem)
      ∧ (s.Inv → s.copies = [] → s.nvmq = [] →
        ∃ t, exec (.warm r) s = .next t ∧ t.phase = .start ∧ t.flag Reg.botStatusWarm = true ∧ t.mem = s.mem ∧ t.ctxs = []
          ∧ t.fld Reg.glbPowerCyclesCount = min (s.fld Reg.glbPowerCyclesCount + 1) (2 ^ 24 - 1)
          ∧ (∀ n, n < 1341 → t.fld (Reg.memRegionStateState n) = s.fld (Reg.memRegionStateState n))))
    ∧ (g.warmReason ≠ 0 → s.start.warmWait = false →
      ∃ t, exec (.warm r) s = .next t ∧ t.start.warmWait = false ∧ t.fld Reg.botCmdResultReason = g.warmReason
        ∧ t.fld Reg.botCmdResultStatus = stCode .state ∧ .access r Reg.botCmdOff (2 ^ 31 + 1) .state ∈ t.wire ∧ t.mem = s.mem)


/-! ### Licences, enrolment, monitors (R438 to R442, R445, R446, R453 to R457) -/

/-- LICENCE_INSTALL of a licence that passes the five checks stores it in a free slot, pending, event 0x0E06; LICENCE_REMOVE frees a
slot (R439).  ENROL_ADD of an entry that passes the six checks enrols its key in a free slot of its role, event 0x0B02; ENROL_REMOVE
frees the slot of a key and closes the sessions opened under it, event 0x0B03 (R456, R457). A difference between the monitors sets
MONITOR_MISMATCH, event 0x0B09 (R445); a random source that fails a test sets its bit, event 0x0B05, and a retest at step 7 gives each
bit its outcome (R446; the retest's bits are log entry 35, DEDUCED). -/
def Obligations.KeysLicencesAndMonitors : Prop :=
  ((∀ (r : Requester) (s g : State), s.powered = true → g = s.arbGrant → g.installs r 1 = true → s.phase = .up →
    (∀ b serial, b = s.licBuf → serial = field b 8 8 → licenceShape b = true → s.licenceIssuer b = true →
      slice b 0x10 32 = s.identity → (∀ x ∈ s.licences, field x.2.bytes 8 8 ≠ serial) →
      (∃ i, i < 16 ∧ tfind s.licences i = none) →
      ∃ t i, exec (.licenceInstall r true) s = .next t ∧ i < 16 ∧ tfind s.licences i = none
        ∧ t.nvmq = s.nvmq ++ [.licences (tput s.licences i ⟨b⟩)] ∧ t.flag (Reg.botLicSlotStatePending i) = true
        ∧ t.flag (Reg.botLicSlotStateValid i) = true ∧ t.fld (Reg.botLicSlotStateFunctions i) = field b 6 2
        ∧ t.fld Reg.botLicResultSlot = i ∧ t.fld Reg.botLicResultStatus = 0 ∧ t.hasEvent 0x0E06 s.unitSrc i 1 serial
        ∧ .access r Reg.botLicCmdOff 0x90000000 .ok ∈ t.wire ∧ t.mem = s.mem)
    ∧ ∀ i l, i < 16 → tfind s.licences i = some l →
      ∃ t, exec (.licenceRemove r i) s = .next t ∧ t.nvmq = s.nvmq ++ [.licences (tdel s.licences i)]
        ∧ t.flag (Reg.botLicSlotStatePending i) = true ∧ t.flag (Reg.botLicSlotStateValid i) = false
        ∧ t.fld Reg.botLicResultStatus = 0 ∧ t.hasEvent 0x0E06 s.unitSrc i 2 (field l.bytes 8 8)
        ∧ .access r Reg.botLicCmdOff (0xA0000000 + i) .ok ∈ t.wire ∧ t.mem = s.mem)
  ∧ ∀ (r : Requester) (role : Nat) (s g : State), s.powered = true → g = s.arbGrant → g.mgmtRole r = some role →
    s.auditBad = false → s.room 3 = true → s.phase = .up → s.startFailed = false →
    (∀ b kind serial signer, b = s.enrolBuf → kind = field b 0 1 → serial = field b 0x70 8 → entryShape b = true →
      (kind = 3 ∧ role = 1 ∨ kind ≠ 3 ∧ role = 2) → s.signerSlot kind (field b 0x78 8) = some signer → s.forMe ⟨b, signer⟩ = true →
      (∀ x ∈ s.keyTable, field x.2.bytes 0x70 8 ≠ serial) → (∃ i ∈ slotsOf kind, tfind s.keyTable i = none) →
      ∃ t i, exec (.enrolAdd r true) s = .next t ∧ i ∈ slotsOf kind ∧ tfind s.keyTable i = none
        ∧ t.nvmq = s.nvmq ++ [.keys (tput s.keyTable i ⟨b, signer⟩) s.nvm.floor]
        ∧ tfind t.keyTable i = some ⟨b, signer⟩ ∧ (∀ j, j ≠ i → tfind t.keyTable j = tfind s.keyTable j)
        ∧ t.fld Reg.secEnrolResultSlot = i ∧ t.fld Reg.secEnrolResultStatus = 0 ∧ t.hasEvent 0x0B02 0 i kind serial
        ∧ .access r Reg.secEnrolCmdOff 0x90000000 .ok ∈ t.wire ∧ t.mem = s.mem)
    ∧ ∀ slot e, slot < 840 → (slot < 72 ∧ role = 2 ∨ 72 ≤ slot ∧ role = 1) → tfind s.keyTable slot = some e →
      ∃ t, exec (.enrolRemove r slot) s = .next t ∧ tfind t.keyTable slot = none
        ∧ (∀ j, j ≠ slot → tfind t.keyTable j = tfind s.keyTable j) ∧ t.fld Reg.secEnrolResultStatus = 0
        ∧ (∀ i, i < 4096 → (s.sess i).key = slot → s.sessState i ≠ 0 → t.sessState i = 0)
        ∧ (∀ n, (∀ i, i < 4096 → s.sessState i = 1 → (s.sess i).key ≠ slot) →
            n = ((List.range 4096).filter fun i => s.sessState i != 0 && (s.sess i).key == slot).length →
            t.hasEvent 0x0B03 0 slot n (field e.bytes 0x70 8))
        ∧ .access r Reg.secEnrolCmdOff (0xA0000000 + slot) .ok ∈ t.wire ∧ t.mem = s.mem)
  ∧ (∀ (s : State), s.powered = true → s.room 1 = true →
    (∀ item, 1 ≤ item → item ≤ 3 →
      ∃ t, exec (.monitorCompare item) s = .next t ∧ t.flag Reg.secStatusMonitorMismatch = true ∧ t.hasEvent 0x0B09 0 item 0 0
        ∧ RegsBut s t (evRegs ++ [Reg.secStatusOff]) ∧ t = { s with regs := t.regs, evq := t.evq })
    ∧ (∀ m test, m < 2 → 1 ≤ test → test ≤ 2 → bit (s.fld Reg.secStatusRngFault) m = false →
      ∃ t, exec (.randomFault m test) s = .next t ∧ bit (t.fld Reg.secStatusRngFault) m = true ∧ t.hasEvent 0x0B05 m m test 0
        ∧ RegsBut s t (evRegs ++ [Reg.secStatusOff]) ∧ t = { s with regs := t.regs, evq := t.evq })
    ∧ ∀ a b, s.phase = .test → s.fld Reg.botStatusStep = 7 → s.fld Reg.secStatusRngFault = 3 →
      ∃ t, exec (.rngRetest a b) s = .next t ∧ bit (t.fld Reg.secStatusRngFault) 0 = ! a
        ∧ bit (t.fld Reg.secStatusRngFault) 1 = (! b) ∧ RegsBut s t [Reg.secStatusOff] ∧ t = { s with regs := t.regs })


/-! ### Firmware images (R470 to R484) -/

/-- The installer's image commands: BEGIN of a manifest that passes R472 starts staging, and one that fails a check is refused with
the check's number; WRITE_PAGE keeps a page; IMAGE_FINISH starts the writing, IMAGE_WRITTEN ends it VALID, or INVALID with a page
missing; CANCEL abandons it; ACTIVATE sets DUE, and at the activation time the module starts again or defers (R472, R473, R477, R478).
-/
def Obligations.ImagesAreStaged : Prop :=
  (∀ (r : Requester) (s g : State), s.powered = true → g = s.arbGrant → g.installs r 1 = true →
    (∀ m sig, m = s.imgBuf →
      (s.imageCheck m sig = none →
        ∃ t, exec (.imageBegin r sig) s = .next t ∧ t.fld Reg.botImgStatusStaging = 1 ∧ t.update.manifest = m ∧ t.update.via = 1
          ∧ tfind t.update.buffer (pageKey (imageVersion m) 0) = some m ∧ t.fld Reg.botImgPagesReceived = 1
          ∧ t.nvm.staging = none ∧ t.nvm.bank = 4 ∧ t.fld Reg.botImgStatusStatus = 0
          ∧ .access r Reg.botImgCmdOff 0x90000000 .ok ∈ t.wire ∧ t.mem = s.mem)
      ∧ ∀ n st, s.imageCheck m sig = some (n, st) →
        ∃ t, exec (.imageBegin r sig) s = .next t ∧ t.fld Reg.botImgStatusStaging = s.fld Reg.botImgStatusStaging
          ∧ t.fld Reg.botImgStatusStatus = stCode st ∧ t.fld Reg.botImgStatusCheck = n ∧ t.update = s.update ∧ t.nvm = s.nvm
          ∧ .access r Reg.botImgCmdOff 0x90000000 st ∈ t.wire
          ∧ RegsBut s t (grantRegs ++ auditRegs ++ [Reg.botImgStatusOff]) ∧ t.mem = s.mem)
    ∧ (s.fld Reg.botImgStatusStaging = 1 →
      (∀ page, 0 < page → page < imagePages s.update.manifest → page < 2 ^ 15 →
        ∃ t, exec (.writePage r page) s = .next t
          ∧ tfind t.update.buffer (pageKey (imageVersion s.update.manifest) page) = some s.imgBuf
          ∧ (∀ k, k ≠ pageKey (imageVersion s.update.manifest) page → tfind t.update.buffer k = tfind s.update.buffer k)
          ∧ t.fld Reg.botImgStatusStatus = 0 ∧ .access r Reg.botImgCmdOff (0xA0000000 + page) .ok ∈ t.wire
          ∧ RegsBut s t (grantRegs ++ [Reg.botImgPagesOff, Reg.botImgStatusOff]) ∧ t.mem = s.mem)
      ∧ (∃ t, exec (.imageFinish r) s = .next t ∧ t.fld Reg.botImgStatusStaging = 2 ∧ t.fld Reg.botImgStatusStatus = 0
        ∧ .access r Reg.botImgCmdOff 0xB0000000 .ok ∈ t.wire ∧ RegsBut s t (grantRegs ++ auditRegs ++ [Reg.botImgStatusOff])
        ∧ t.mem = s.mem)
      ∧ ∃ t, exec (.cancel r) s = .next t ∧ t.fld Reg.botImgStatusStaging = 4 ∧ t.nvm.staging = none ∧ t.nvm.bank = 4
        ∧ .access r Reg.botImgCmdOff 0xD0000000 .ok ∈ t.wire ∧ t.mem = s.mem)
    ∧ (s.fld Reg.botImgStatusStaging = 3 →
      (∃ t, exec (.cancel r) s = .next t ∧ t.fld Reg.botImgStatusStaging = 3 ∧ t.nvm = { s.nvm with due := false }
        ∧ t.flag Reg.botImgStatusDue = false ∧ t.update.schedule = none)
      ∧ ∀ force tm, tm = s.pair Reg.botImgTimeLoOff → (tm = 0 ∨ s.flag Reg.lanTimeStatusValid = true) →
        ∃ t, exec (.activate r force) s = .next t ∧ t.nvm = { s.nvm with due := true } ∧ t.flag Reg.botImgStatusDue = true
          ∧ t.update.schedule = (if tm = 0 then none else some (force, tm))
          ∧ t.hasEvent 0x0E22 s.unitSrc (s.fld Reg.botStagedVersionVersion) (tm % 2 ^ 32) (tm / 2 ^ 32)
          ∧ .access r Reg.botImgCmdOff (0xC0000000 + b2n force * 2 ^ 27) .ok ∈ t.wire ∧ t.mem = s.mem))
  ∧ (∀ (m : List Byte) (v n : Nat) (pages : Tbl (List Byte)) (s : State), s.powered = true → s.fld Reg.botImgStatusStaging = 2 →
    m = s.update.manifest → v = imageVersion m → n = imagePages m → s.room 1 = true →
    pages = (s.pagesIn v n).foldl (fun (t : Tbl (List Byte)) k => tput t k (tget s.update.buffer [] (pageKey v k))) [] →
    ((s.pagesIn v n).length = n → digestsMatch pages m = true →
      ∃ t, exec (.imageWritten true) s = .next t ∧ t.fld Reg.botImgStatusStaging = 3 ∧ t.fld Reg.botStagedVersionVersion = v
        ∧ t.nvm = { s.nvm with staging := some ⟨pages⟩, bank := 3 } ∧ t.hasEvent 0x0E20 s.unitSrc v n s.update.via
        ∧ t.mem = s.mem)
    ∧ ((s.pagesIn v n).length = n → ∀ b, (b && digestsMatch pages m) = false →
      ∃ t st, exec (.imageWritten b) s = .next t ∧ t.fld Reg.botImgStatusStaging = 4 ∧ t.nvm.staging = none
        ∧ t.hasEvent 0x0E21 s.unitSrc v st 5 ∧ t.mem = s.mem)
    ∧ ((s.pagesIn v n).length < n → ∀ b,
      ∃ t st, exec (.imageWritten b) s = .next t ∧ t.fld Reg.botImgStatusStaging = 4 ∧ t.nvm.staging = none
        ∧ t.hasEvent 0x0E21 s.unitSrc v st 6 ∧ t.mem = s.mem))
  ∧ ∀ (force : Bool) (tm : Nat) (s : State), s.powered = true → s.update.schedule = some (force, tm) → s.time.running = true →
    tm ≤ s.fabricTime → s.room 1 = true →
    (s.mayRestart force = true →
      ∃ t, exec .activationTime s = .next t ∧ t.phase = .start ∧ t.nvm.due = s.nvm.due ∧ t.nvm.optime = s.opTime ∧ t.mem = [])
    ∧ (s.mayRestart force = false →
      ∃ t, exec .activationTime s = .next t ∧ t.flag Reg.botImgStatusDeferred = true ∧ t.update.schedule = none
        ∧ t.hasEvent 0x0E23 s.unitSrc (s.fld Reg.botStagedVersionVersion) (modCode s.modState) 0 ∧ t.mem = s.mem)

/-- Broadcasts (R474 to R476): BROADCAST queues every page of the VALID image for each UP port of its mask; IMAGE_PAGE_SEND sends the
next one; a page received is kept, its sender is the parent, it goes on to the UP ports of its mask above its own unless it was
pulled, and a page 0 that passes R472 starts staging; IMAGE_PULL of held pages queues them for the port that asked, and pages that are
not held are asked of the parent in turn; missing pages are pulled from the parent, and a broadcast that stays incomplete is given up,
event 0x0E26. -/
def Obligations.ImagesAreBroadcast : Prop :=
  (∀ (r : Requester) (i : Image) (v : Nat) (s : State), s.powered = true → s.arbGrant.installs r 16 = true →
    s.fld Reg.botImgStatusStaging = 3 → s.nvm.staging = some i → v = imageVersion (manifestOf i) →
    (∃ d, d < 16 ∧ bit (s.fld Reg.botImgBcastMask) d = true ∧ s.portUp d = true) → 0 < imagePages (manifestOf i) →
    ∃ t, exec (.broadcast r) s = .next t ∧ t.flag Reg.botImgStatusSource = true ∧ t.fld Reg.botImgStatusStatus = 0
      ∧ (∀ d, d < 16 → bit (s.fld Reg.botImgBcastMask) d = true → s.portUp d = true →
        tget t.update.out [] d = tget s.update.out [] d
          ++ (List.range (imagePages (manifestOf i))).map fun k => (pageKey v k, s.fld Reg.botImgBcastMask, false))
      ∧ (∀ d, d < 16 → bit (s.fld Reg.botImgBcastMask) d = true → s.portUp d = false → t.hasEvent 0x0E27 s.unitSrc d v 0)
      ∧ .access r Reg.botImgCmdOff 0xE0000000 .ok ∈ t.wire ∧ t.mem = s.mem)
  ∧ ∀ (d : Nat) (s : State), s.powered = true → d < 16 → s.portUp d = true →
    (∀ key mask pulled rest b, tget s.update.out [] d = (key, mask, pulled) :: rest → s.pageHeld key = some b →
      ∃ t, exec (.imagePageSend d) s = .next t ∧ tget t.update.out [] d = rest
        ∧ t.holds d (pagePacket s.myId d key mask pulled b) ∧ t.mem = s.mem)
    ∧ (∀ (p : Packet) (v n : Nat) (b : List Byte) (sig : Bool), p.tailOk = true → p.opcode = 0xE4 → p.cls = 4 → p.long = true →
      p.length = 128 → v = field p.cmd 0 4 → n = field p.cmd 4 4 → n < 24576 → b = slice p.data 0 4096 →
      s.update.asked = [] → p.src < 2 ^ 16 →
      (n ≠ 0 → s.fld Reg.botImgStatusStaging ≠ 1 → bit (field p.cmd 10 1) 0 = false →
        ∃ t, exec (.imagePage d p sig) s = .next t ∧ tfind t.update.buffer (pageKey v n) = some b
          ∧ (∀ e, d < e → e < 16 → bit (field p.cmd 8 2) e = true → s.portUp e = true →
            tget t.update.out [] e = tget s.update.out [] e ++ [(pageKey v n, field p.cmd 8 2, false)])
          ∧ (∀ e, e ≤ d ∨ bit (field p.cmd 8 2) e = false → tget t.update.out [] e = tget s.update.out [] e)
          ∧ RegsBut s t (evRegs ++ [Reg.botImgParentOff]) ∧ t.mem = s.mem)
      ∧ (n ≠ 0 → s.fld Reg.botImgStatusStaging ≠ 1 → bit (field p.cmd 10 1) 0 = true →
        ∃ t, exec (.imagePage d p sig) s = .next t ∧ tfind t.update.buffer (pageKey v n) = some b
          ∧ (∀ k, k ≠ pageKey v n → tfind t.update.buffer k = tfind s.update.buffer k)
          ∧ t.flag Reg.botImgParentValid = true ∧ t.fld Reg.botImgParentPort = d ∧ t.fld Reg.botImgParentId = p.src
          ∧ RegsBut s t [Reg.botImgParentOff] ∧ t = { s with regs := t.regs, update := t.update })
      ∧ (n = 0 → imageVersion b = v → (s.fld Reg.botImgStatusStaging = 3 → s.fld Reg.botStagedVersionVersion ≠ v) →
        s.imageCheck b sig = none →
        ∃ t, exec (.imagePage d p sig) s = .next t ∧ t.update.manifest = b ∧ t.update.via = 2
          ∧ (t.fld Reg.botImgStatusStaging = 1 ∨ t.fld Reg.botImgStatusStaging = 2)
          ∧ tfind t.update.buffer (pageKey v 0) = some b ∧ t.mem = s.mem))
    ∧ (∀ (p : Packet) (v first count : Nat), p.opcode = 0xE5 → p.cls = 4 → v = field p.cmd 0 4 → first = field p.cmd 4 4 →
      count = field p.cmd 8 4 → first + count ≤ 24576 →
      ((∀ k, first ≤ k → k < first + count → (s.pageHeld (pageKey v k)).isSome = true) →
        ∃ t, exec (.imagePull d p) s = .next t
          ∧ tget t.update.out [] d = tget s.update.out [] d
            ++ (List.range count).map (fun j => (pageKey v (first + j), s.update.mask, true))
          ∧ (∀ e, e ≠ d → tget t.update.out [] e = tget s.update.out [] e) ∧ t = { s with update := t.update })
      ∧ (∀ e, (∀ k, first ≤ k → k < first + count → s.pageHeld (pageKey v k) = none) → 0 < count →
        s.flag Reg.botImgParentValid = true → e = s.fld Reg.botImgParentPort → s.portUp e = true →
        ∃ t q, exec (.imagePull d p) s = .next t ∧ t.holds e q ∧ q.opcode = 0xE5
          ∧ q.cmd = natLe 4 v ++ natLe 4 first ++ natLe 4 count ++ List.replicate 4 0
          ∧ t.update.asked = s.update.asked ++ (List.range count).map (fun j => (d, pageKey v (first + j))) ∧ t.mem = s.mem))
    ∧ (∀ first count rest, s.flag Reg.botImgParentValid = true → s.fld Reg.botImgParentPort = d →
      runsOf s.pagesMissing = (first, count) :: rest →
      ∃ t p, exec .imagePullTimer s = .next t ∧ t.holds d p ∧ p.opcode = 0xE5 ∧ p.dest = Nat.xor s.myId (2 ^ d)
        ∧ p.cmd = natLe 4 s.update.version ++ natLe 4 first ++ natLe 4 count ++ List.replicate 4 0
        ∧ t.update = s.update ∧ t.mem = s.mem)
    ∧ (s.pagesMissing ≠ [] → s.room 1 = true →
      ∃ t, exec .broadcastIncomplete s = .next t ∧ t.flag Reg.botImgStatusIncomplete = true
        ∧ t.hasEvent 0x0E26 s.unitSrc s.update.version s.pagesMissing.length (s.fld Reg.botImgParentId) ∧ t.update.pages = 0
        ∧ (s.fld Reg.botImgStatusStaging = 1 → s.update.via = 2 → t.fld Reg.botImgStatusStaging = 4 ∧ t.nvm.staging = none)
        ∧ RegsBut s t (evRegs ++ [Reg.botImgStatusOff]) ∧ t.mem = s.mem)


/-! ### Power and cooling (R497 to R521) -/

/-- The input, the brake and the halts: INPUT_SAMPLE takes volts, watts and energy; below 45 V the comparator brakes, below 42 V for
10 µs compute halts, below 40 V or above 58 V the module shuts down (R500, R501, R503; the operands' form is log entry 33, DESIGN
CHOICE).  BRAKE_N low brakes, halving every die's duty, and high again ends the brake (R501); FLOW_LOSS_N low halts compute, and for
30 s shuts the module down (R503, R516); a cause clears once its condition has passed, and the last one ends the halt: the dies go
back to their point, and the module is in RECOVERY for up to 1 ms (R7, R504; how long is log entry 33, DESIGN CHOICE). -/
def Obligations.BrakesAndHalts : Prop :=
  ∀ s : State, s.powered = true →
    (∀ cv ma held p,
      (4600 ≤ cv → cv < 5600 → s.flag Reg.pwrStatusBrake = false →
        ∃ t, exec (.inputSample cv ma held p) s = .next t ∧ t.fld Reg.pwrInputVolts = cv ∧ t.fld Reg.pwrInputWatts = min p 65535
          ∧ t.pair Reg.pwrEnergyLoOff = min (s.pair Reg.pwrEnergyLoOff + (s.power.energy + cv * ma) / 10 ^ 11) (2 ^ 64 - 1)
          ∧ t.power.energy = (s.power.energy + cv * ma) % 10 ^ 11
          ∧ RegsBut s t (evRegs ++ [Reg.pwrEnergyLoOff, Reg.pwrEnergyHiOff, Reg.pwrInputOff, Reg.pwrThrottleMsOff, Reg.pwrStatusOff,
            Reg.pwrAlertOff, Reg.ctlSvcOff] ++ (List.range 4).map Reg.pwrKilnOff)
          ∧ t = { s with regs := t.regs, power := t.power, evq := t.evq, evLost := t.evLost })
      ∧ (4200 ≤ cv → cv < 4500 → s.flag Reg.pwrStatusBrake = false → s.room 1 = true →
        ∃ t, exec (.inputSample cv ma held p) s = .next t ∧ t.flag Reg.pwrStatusBrake = true ∧ t.power.comparator = true
          ∧ t.fld Reg.pwrBrakesCount = min (s.fld Reg.pwrBrakesCount + 1) (2 ^ 32 - 1)
          ∧ t.hasEvent 0x0C01 7 1 (Nat.lor s.power.brakeCause 1) cv
          ∧ (∀ k, k < 4 → t.fld (Reg.pwrKilnDuty k) ≤ max 4 (s.fld (Reg.pwrKilnDuty k) / 2)) ∧ t.mem = s.mem)
      ∧ (4000 ≤ cv → cv < 4200 → 10 ≤ held →
        ∃ t, exec (.inputSample cv ma held p) s = .next t ∧ t.flag Reg.pwrStatusHaltVoltage = true
          ∧ t.flag Reg.pwrStatusBrake = true ∧ ∀ k, k < 4 → t.fld (Reg.pwrKilnDuty k) = 0)
      ∧ (cv < 4000 ∧ 5 ≤ held ∨ 5800 < cv ∧ 10 ≤ held →
        ∃ t, exec (.inputSample cv ma held p) s = .next t ∧ t.phase = .off ∧ (s.copyingImage = false → t.nvm = s.nvm)
          ∧ t.regs = [] ∧ t.mem = []))
    ∧ (s.flag Reg.pwrStatusBrake = false → s.room 1 = true →
      ∃ t, exec .brakeNFall s = .next t ∧ t.flag Reg.pwrStatusBrake = true ∧ t.pins.brakeN = false
        ∧ t.fld Reg.pwrBrakesCount = min (s.fld Reg.pwrBrakesCount + 1) (2 ^ 32 - 1)
        ∧ t.hasEvent 0x0C01 7 1 (Nat.lor s.power.brakeCause 2) (s.fld Reg.pwrInputVolts)
        ∧ (∀ k, k < 4 → t.fld (Reg.pwrKilnDuty k) ≤ max 4 (s.fld (Reg.pwrKilnDuty k) / 2)) ∧ t.mem = s.mem)
    ∧ (s.flag Reg.pwrStatusBrake = true → s.power.inputGood = true → s.room 1 = true →
      ∃ t, exec .brakeNRise s = .next t ∧ t.flag Reg.pwrStatusBrake = false ∧ t.pins.brakeN = true
        ∧ t.hasEvent 0x0C01 7 0 s.power.brakeCause (s.fld Reg.pwrInputVolts) ∧ t.power.brake = [64, 64, 64, 64] ∧ t.mem = s.mem)
    ∧ ((s.flag Reg.pwrStatusBrake = false ∨ s.power.inputGood = false) →
      exec .brakeNRise s = .next { s with pins := { s.pins with brakeN := true } })
    ∧ (s.haltedNow = false → s.groups = [] → s.fld Reg.bnkStageStage = 0 → s.room 2 = true →
      ∃ t, exec .flowLossNFall s = .next t ∧ t.flag Reg.pwrStatusHaltFlowLoss = true ∧ t.modState ≠ .run
        ∧ t.pins.flowLossN = false ∧ t.hasEvent 0x0C02 7 2 s.power.flow 0xFFFF ∧ t.flag Reg.pwrAlertHalted = true
        ∧ t.fld Reg.pwrStatusPoint = 5 ∧ t.power.haltPoint = s.fld Reg.pwrStatusPoint
        ∧ (∀ k, k < 4 → t.fld (Reg.pwrKilnDuty k) = 0) ∧ t.mem = s.mem)
    ∧ (∃ t, exec .flowLossNFall s = .next t ∧ t.flag Reg.pwrStatusHaltFlowLoss = true ∧ t.pins.flowLossN = false)
    ∧ (∃ t, exec .flowLossNRise s = .next t ∧ t = { s with pins := { s.pins with flowLossN := true } })
    ∧ (s.pins.flowLossN = false →
      ∃ t, exec .flowLossShutdown s = .next t ∧ t.phase = .off ∧ t.nvm.shutdown = 4 * 2 ^ 28 + 7 * 2 ^ 24 + 30
        ∧ t.nvm.optime = s.opTime ∧ t.mem = [])
    ∧ ∀ c, 1 ≤ c → c ≤ 4 → s.flag (haltFld c) = true → s.mayClear c = true →
      (∃ t, exec (.haltCleared c) s = .next t ∧ t.flag (haltFld c) = false
        ∧ (∀ d, 1 ≤ d → d ≤ 4 → d ≠ c → t.flag (haltFld d) = s.flag (haltFld d)) ∧ t.mem = s.mem)
      ∧ ((∀ d, 1 ≤ d → d ≤ 4 → d ≠ c → s.flag (haltFld d) = false) → s.room 1 = true → s.power.haltPoint ≤ 5 →
        ∃ t, exec (.haltCleared c) s = .next t ∧ t.haltedNow = false
          ∧ t.hasEvent 0x0C03 7 s.power.causes ((s.clk - s.power.haltAt) / 235000) 0
          ∧ t.fld Reg.pwrStatusPoint = s.power.haltPoint ∧ (s.phase = .up → t.modState = .recovery)
          ∧ t.power.recoverUntil ≤ s.clk + 235000 ∧ (∀ k, k < 4 → t.fld (Reg.pwrKilnDuty k) ≤ 4) ∧ t.mem = s.mem)

/-- The caps (R505 to R510): a cap written by the tray controller, capped at 2,600 W, is in force at once, no lower than the floor;
one written within 1 ms of the last begins a storm, in which the lowest value of the last 10 ms is in force; a cap written by a
session within the limits is in force at once, outside them refused with ACCESS; the limits are stored, and refused with SHAPE out of
order; a cap that is not renewed makes the module an orphan; a storm ends; a tray report sets the flow and its cap, and halts compute
below 30 %; one that goes stale lowers the flow cap (R507, R508, R509, R515). -/
def Obligations.PowerCaps : Prop :=
  ∀ s g : State, s.powered = true → g = s.arbGrant → s.auditBad = false → s.startFailed = false →
    (∀ w x ws close, w < 65536 → x = min w 2600 → ws = stormWindow s.clk s.power.writes ++ [(s.clk, x)] →
      (close = true ↔ ∃ y, s.power.writes.getLast? = some y ∧ s.clk < y.1 + 235000) →
      ∃ t, exec (.pwrCapWrite .i3c w) s = .next t ∧ t.fld Reg.pwrCapWWatts = x ∧ t.power.rackLast = x ∧ t.power.writes = ws
        ∧ t.flag Reg.pwrStatusOrphan = false ∧ t.flag Reg.pwrStatusStorm = (s.flag Reg.pwrStatusStorm || close)
        ∧ t.power.rackCap = (if s.flag Reg.pwrStatusStorm || close then (ws.map (·.2)).foldl min x else x)
        ∧ (s.room 1 = true → s.flag Reg.pwrStatusStorm = false → close = true →
            t.hasEvent 0x0C06 7 1 ((ws.map (·.2)).foldl min x) ws.length)
        ∧ t.fld Reg.pwrEffectiveCapWatts ≤ max t.power.rackCap 700 ∧ .access .i3c Reg.pwrCapWOff w .ok ∈ t.wire
        ∧ RegsBut s t (grantRegs ++ evRegs ++ [Reg.pwrCapWOff, Reg.pwrStatusOff, Reg.pwrEffectiveCapOff]) ∧ t.mem = s.mem)
    ∧ (∀ r w, (g.isOp r = true ∨ g.isInst r = true) → w < 2 ^ 16 →
      (s.fld Reg.pwrLimitsOpMinW ≤ w → w ≤ s.fld Reg.pwrLimitsOpMaxW →
        ∃ t, exec (.opCapWrite r w) s = .next t ∧ t.fld Reg.pwrOpCapWWatts = w ∧ t.fld Reg.pwrEffectiveCapWatts ≤ max w 700
          ∧ .access r Reg.pwrOpCapWOff w .ok ∈ t.wire
          ∧ RegsBut s t (grantRegs ++ auditRegs ++ [Reg.pwrOpCapWOff, Reg.pwrStatusOff, Reg.pwrEffectiveCapOff]) ∧ t.mem = s.mem)
      ∧ (w < s.fld Reg.pwrLimitsOpMinW ∨ s.fld Reg.pwrLimitsOpMaxW < w →
        ∃ t, exec (.opCapWrite r w) s = .next t ∧ .access r Reg.pwrOpCapWOff w .access ∈ t.wire
          ∧ RegsBut s t (grantRegs ++ auditRegs) ∧ t.mem = s.mem))
    ∧ (∀ r hi lo, g.isInst r = true → hi < 65536 → lo < 65536 →
      (700 ≤ lo → lo ≤ hi → hi ≤ 2600 →
        ∃ t, exec (.limitsWrite r hi lo) s = .next t ∧ t.fld Reg.pwrLimitsOpMaxW = hi ∧ t.fld Reg.pwrLimitsOpMinW = lo
          ∧ t.fld Reg.pwrOpCapWWatts = min hi (max lo (s.fld Reg.pwrOpCapWWatts)) ∧ t.nvmq = s.nvmq ++ [.limits hi lo]
          ∧ .access r Reg.pwrLimitsOff (hi * 65536 + lo) .ok ∈ t.wire ∧ t.mem = s.mem)
      ∧ (lo < 700 ∨ hi < lo ∨ 2600 < hi →
        ∃ t, exec (.limitsWrite r hi lo) s = .next t ∧ .access r Reg.pwrLimitsOff (hi * 65536 + lo) .shape ∈ t.wire
          ∧ RegsBut s t (grantRegs ++ auditRegs) ∧ t.nvmq = s.nvmq ∧ t.mem = s.mem))
    ∧ (s.flag Reg.pwrStatusOrphan = false → s.room 1 = true →
      ∃ t, exec .orphanCap s = .next t ∧ t.flag Reg.pwrStatusOrphan = true ∧ t.flag Reg.pwrAlertOrphan = true
        ∧ t.power.rackCap = min s.power.rackCap 1950 ∧ t.hasEvent 0x0C09 7 s.power.rackCap (min s.power.rackCap 1950) 0
        ∧ t.fld Reg.pwrEffectiveCapWatts ≤ 1950 ∧ t.mem = s.mem)
    ∧ (s.flag Reg.pwrStatusStorm = true → s.room 1 = true →
      ∃ t lowest n, exec .capStorm s = .next t ∧ t.flag Reg.pwrStatusStorm = false ∧ t.power.rackCap = s.power.rackLast
        ∧ lowest ≤ s.power.rackLast ∧ t.hasEvent 0x0C06 7 0 lowest n ∧ t.mem = s.mem)
    ∧ (∀ flow f, flow < 65536 → f = flow * 100 / 2400 →
      ∃ t, exec (.trayReport .i3c flow) s = .next t ∧ t.fld Reg.pwrTrayFlowMlPerMin = flow ∧ t.power.flow = f
        ∧ t.power.inlet = s.fld Reg.pwrTrayTempInlet ∧ t.power.outlet = s.fld Reg.pwrTrayTempOutlet
        ∧ t.power.reportAt = s.clk ∧ t.power.flowCap = flowCapOf f s.power.flowCap ∧ t.flag Reg.pwrStatusTrayStale = false
        ∧ (s.flag Reg.pwrStatusTrayStale = true → s.room 1 = true →
            t.hasEvent 0x0C0F 7 0 ((s.clk - s.power.reportAt) / 235000) 0)
        ∧ .access .i3c Reg.pwrTrayFlowOff flow .ok ∈ t.wire
        ∧ (f < 30 → t.flag Reg.pwrStatusHaltFlowLow = true) ∧ (30 ≤ f → t.mem = s.mem))
    ∧ (s.flag Reg.pwrStatusTrayStale = false → s.room 1 = true →
      ∃ t, exec .trayReportStale s = .next t ∧ t.flag Reg.pwrStatusTrayStale = true ∧ t.power.flowCap = 1300
        ∧ t.hasEvent 0x0C0F 7 1 ((s.clk - s.power.reportAt) / 235000) 0 ∧ t.mem = s.mem)

/-- The operating point, the cap controller and the sensors: OPERATING_POINT takes the point that allows the highest duty (R498);
CAP_CONTROL above the cap lowers the duty to one of 4 or more that is lower than before, which one being open (R506; log entry 33,
DESIGN CHOICE), at its floor and the lowest point says that the cap is unmet, and below the cap raises it under R499 (R506, R510); a
pair's value is the mean of its plausible readings, a package's its reading (R512; how a half step is rounded is log entry 33, DESIGN
CHOICE); a die whose pair alone reaches 107 °C is lost, and a pair at 110 °C in two samples shuts the module down (R513, R514);
readings that differ by more than 4 °C are suspect (R512). -/
def Obligations.DutyAndSensors : Prop :=
  ∀ s : State, s.powered = true →
    (∀ allowed, s.haltedNow = false →
      ∃ t, exec (.operatingPoint allowed) s = .next t ∧ t.fld Reg.pwrStatusPoint < 6
        ∧ (∀ n, n < 6 → min (pointDuty n) (allowed.getD n 0)
            ≤ min (pointDuty (t.fld Reg.pwrStatusPoint)) (allowed.getD (t.fld Reg.pwrStatusPoint) 0)) ∧ t.mem = s.mem)
    ∧ (∃ t, exec .supplySlewDone s = .next t ∧ t.power.slew = none
        ∧ RegsBut s t ([Reg.pwrThrottleMsOff, Reg.pwrStatusOff] ++ (List.range 4).map Reg.pwrKilnOff)
        ∧ t = { s with regs := t.regs, power := t.power })
    ∧ (∀ cap p, s.haltedNow = false → cap = s.capSync.fld Reg.pwrEffectiveCapWatts → p = s.fld Reg.pwrInputWatts →
      (cap < p → 4 < s.fld Reg.pwrStatusDuty →
        ∃ t, exec .capControl s = .next t ∧ 4 ≤ t.power.capDuty ∧ t.power.capDuty < s.fld Reg.pwrStatusDuty ∧ t.mem = s.mem)
      ∧ (cap < p → s.fld Reg.pwrStatusDuty ≤ 4 → s.fld Reg.pwrStatusPoint = 5 → s.flag Reg.pwrStatusCapUnmet = false →
        s.room 3 = true →
        ∃ t, exec .capControl s = .next t ∧ t.flag Reg.pwrStatusCapUnmet = true ∧ t.power.capDuty = 4
          ∧ t.hasEvent 0x0C08 7 cap p 0 ∧ t.flag Reg.pwrAlertCapUnmet = true ∧ t.mem = s.mem)
      ∧ (p ≤ cap →
        ∃ t, exec .capControl s = .next t ∧ t.flag Reg.pwrStatusCapUnmet = false
          ∧ t.power.capDuty
            = (if p * 100 < cap * 98 then min 64 (s.fld Reg.pwrStatusDuty + s.riseSteps) else s.power.capDuty) ∧ t.mem = s.mem))
    ∧ (∀ (pairs : List (Nat × Nat)) (packages : List Nat), pairs.length = 20 → packages.length = 96 →
      (∀ x ∈ pairs, s.implausible x.1 = false ∧ s.implausible x.2 = false ∧ x.1 + x.2 < 380) →
      (∀ x ∈ packages, s.implausible x = false ∧ x < 200) → (∀ q, q < 20 → s.flag (Reg.pwrPairSuspect q) = false) →
      ∃ t, exec (.sensorSample pairs packages) s = .next t
        ∧ (∀ q a b, pairs[q]? = some (a, b) → t.fld (Reg.pwrPairA q) = a ∧ t.fld (Reg.pwrPairB q) = b
          ∧ (2 * t.fld (Reg.pwrPairValue q) = a + b ∨ 2 * t.fld (Reg.pwrPairValue q) = a + b + 1)
          ∧ t.flag (Reg.pwrPairAIgnored q) = false ∧ t.flag (Reg.pwrPairBIgnored q) = false)
        ∧ (∀ (m : Nat) (x : Nat), packages[m]? = some x → t.fld (Reg.pwrMemValue m) = x ∧ t.flag (Reg.pwrMemIgnored m) = false)
        ∧ t.power.hard = [] ∧ t.mem = s.mem)
    ∧ (∀ a b, s.implausible a = false → s.implausible b = false → s.flag (Reg.pwrPairSuspect 0) = false → (a + b) % 2 = 0 →
      (a + b < 380 →
        ∃ t, exec (.sensorSample [(a, b)] []) s = .next t ∧ t.fld (Reg.pwrPairA 0) = a ∧ t.fld (Reg.pwrPairB 0) = b
          ∧ t.fld (Reg.pwrPairValue 0) = (a + b) / 2 ∧ t.flag (Reg.pwrPairAIgnored 0) = false
          ∧ t.flag (Reg.pwrPairBIgnored 0) = false ∧ t.power.hard = [] ∧ t.mem = s.mem)
      ∧ (428 ≤ a + b → a + b < 440 → s.flag (Reg.pwrKilnLost 0) = false → s.flag (Reg.kilStatusLost 0) = false →
        s.room 1 = true →
        ∃ t, exec (.sensorSample [(a, b)] []) s = .next t ∧ t.flag (Reg.pwrKilnLost 0) = true
          ∧ t.flag (Reg.kilStatusLost 0) = true ∧ t.hasEvent 0x030A 0 (128 - s.fld (Reg.kilStatusHoles 0)) 3 0
          ∧ t.mem = s.mem)
      ∧ (440 ≤ a + b → s.power.hard = [0] →
        ∃ t, exec (.sensorSample [(a, b)] []) s = .next t ∧ t.phase = .off ∧ t.nvm.shutdown = 3 * 2 ^ 28 + (a + b) / 2
          ∧ t.nvm.optime = s.opTime ∧ t.mem = []))
    ∧ ∀ q a b, q < 20 → a = s.fld (Reg.pwrPairA q) → b = s.fld (Reg.pwrPairB q) → s.flag (Reg.pwrPairSuspect q) = false →
      s.flag (Reg.pwrPairAIgnored q) = false → s.flag (Reg.pwrPairBIgnored q) = false → 8 < (a - b) + (b - a) → s.room 1 = true →
      ∃ t, exec (.sensorSuspect q) s = .next t ∧ t.flag (Reg.pwrPairSuspect q) = true ∧ t.hasEvent 0x0C0A (sensorSrc q) q a b
        ∧ t.flag Reg.pwrAlertSensor = true ∧ t.mem = s.mem
end

