-- ==== Sys2Proof/Laws/Tables.lean ====
section
/-! SUPPORT. Laws of sorted tables and of memory cells: what a read gives after a write, and that every memory operation keeps
the canonical form. -/

namespace Sys2Proof.Machine

theorem tfind_tput {α : Type} (t : Tbl α) (k j : Nat) (v : α) :
    tfind (tput t k v) j = if j = k then some v else tfind t j := by
  induction t with
  | nil => simp only [tput, tfind]
  | cons x t ih =>
    obtain ⟨a, w⟩ := x
    simp only [tput]
    split_ifs with h1 h2 h3 h3 <;> simp_all [tfind]

theorem tfind_tdel {α : Type} (t : Tbl α) (k j : Nat) : tfind (tdel t k) j = if j = k then none else tfind t j := by
  induction t with
  | nil => simp [tdel, tfind]
  | cons x t ih =>
    obtain ⟨a, w⟩ := x
    simp only [tdel]
    split_ifs <;> simp_all [tfind]

/-- A table read after a write: the value written at its key, the old one elsewhere. -/
theorem tget_tset {α : Type} [DecidableEq α] (t : Tbl α) (d : α) (k j : Nat) (v : α) :
    tget (tset t d k v) d j = if j = k then v else tget t d j := by
  unfold tget tset
  split_ifs with h1 h2 h2 <;> simp [tfind_tdel, tfind_tput, h1, h2]

theorem tget_tput {α : Type} (t : Tbl α) (d : α) (k j : Nat) (v : α) :
    tget (tput t k v) d j = if j = k then v else tget t d j := by
  unfold tget
  split_ifs with h <;> simp [tfind_tput, h]

/-- Every key of a table is above a bound. -/
def tabove {α : Type} (b : Nat) (t : Tbl α) : Prop := ∀ c ∈ t, b < c.1

theorem tsorted_cons {α : Type} (a : Nat) (v : α) (t : Tbl α) :
    tsorted ((a, v) :: t) = true ↔ tabove a t ∧ tsorted t = true := by
  induction t generalizing a v with
  | nil => simp [tsorted, tabove]
  | cons x t ih =>
    obtain ⟨b, w⟩ := x
    simp only [tsorted, Bool.and_eq_true, decide_eq_true_eq, ih, tabove, List.mem_cons]
    constructor
    · rintro ⟨h, h1, h2⟩
      refine ⟨?_, h1, h2⟩
      rintro c (rfl | hc)
      · exact h
      · exact lt_trans h (h1 c hc)
    · rintro ⟨h, h1, h2⟩
      exact ⟨h (b, w) (.inl rfl), h1, h2⟩

theorem tput_mem {α : Type} {t : Tbl α} {k : Nat} {v : α} {c : Nat × α} (h : c ∈ tput t k v) : c = (k, v) ∨ c ∈ t := by
  induction t with
  | nil => simpa [tput] using h
  | cons x t ih =>
    obtain ⟨a, w⟩ := x
    simp only [tput] at h
    split_ifs at h <;> simp_all
    · tauto
    · rcases h with h | h
      · exact .inr (.inl h)
      · rcases ih h with h | h
        · exact .inl h
        · exact .inr (.inr h)

theorem tput_sorted {α : Type} (t : Tbl α) (k : Nat) (v : α) (h : tsorted t = true) : tsorted (tput t k v) = true := by
  induction t with
  | nil => rfl
  | cons x t ih =>
    obtain ⟨a, w⟩ := x
    obtain ⟨h1, h2⟩ := (tsorted_cons a w t).1 h
    simp only [tput]
    split_ifs with e l
    · subst e; exact (tsorted_cons _ _ _).2 ⟨h1, h2⟩
    · refine (tsorted_cons _ _ _).2 ⟨?_, h⟩
      intro c hc
      rcases List.mem_cons.1 hc with rfl | hc
      · exact l
      · exact lt_trans l (h1 c hc)
    · refine (tsorted_cons _ _ _).2 ⟨?_, ih h2⟩
      intro c hc
      rcases tput_mem hc with rfl | hc
      · show a < k; omega
      · exact h1 c hc

theorem tdel_sub {α : Type} {t : Tbl α} {k : Nat} {c : Nat × α} (h : c ∈ tdel t k) : c ∈ t := by
  induction t with
  | nil => exact h
  | cons x t ih =>
    obtain ⟨a, w⟩ := x
    simp only [tdel] at h
    split_ifs at h <;> simp_all
    rcases h with h | h
    · exact .inl h
    · exact .inr (ih h)

theorem tdel_sorted {α : Type} (t : Tbl α) (k : Nat) (h : tsorted t = true) : tsorted (tdel t k) = true := by
  induction t with
  | nil => rfl
  | cons x t ih =>
    obtain ⟨a, w⟩ := x
    obtain ⟨h1, h2⟩ := (tsorted_cons a w t).1 h
    simp only [tdel]
    split_ifs
    · exact ih h2
    · exact (tsorted_cons _ _ _).2 ⟨fun c hc => h1 c (tdel_sub hc), ih h2⟩

theorem filter_sorted {α : Type} (t : Tbl α) (p : Nat × α → Bool) (h : tsorted t = true) : tsorted (t.filter p) = true := by
  induction t with
  | nil => rfl
  | cons x t ih =>
    obtain ⟨a, w⟩ := x
    obtain ⟨h1, h2⟩ := (tsorted_cons a w t).1 h
    rw [List.filter_cons]
    split_ifs
    · exact (tsorted_cons _ _ _).2 ⟨fun c hc => h1 c (List.mem_filter.1 hc).1, ih h2⟩
    · exact ih h2

/-! ### Memory -/

theorem Memory.wf_iff (m : Memory) : Memory.wf m = true ↔ tsorted m = true ∧ ∀ c ∈ m, c.2 ≠ 0 := by
  simp [Memory.wf]

theorem Memory.put_wf (m : Memory) (a : Nat) (v : Byte) (h : Memory.wf m = true) : Memory.wf (Memory.put m a v) = true := by
  obtain ⟨h1, h2⟩ := (Memory.wf_iff m).1 h
  unfold Memory.put tset
  split_ifs with e
  · exact (Memory.wf_iff _).2 ⟨tdel_sorted m a h1, fun c hc => h2 c (tdel_sub hc)⟩
  · refine (Memory.wf_iff _).2 ⟨tput_sorted m a v h1, fun c hc => ?_⟩
    rcases tput_mem hc with rfl | hc
    · exact e
    · exact h2 c hc

theorem Memory.write_wf (m : Memory) (a : Nat) (bs : List Byte) (h : Memory.wf m = true) :
    Memory.wf (Memory.write m a bs) = true := by
  induction bs generalizing m a with
  | nil => exact h
  | cons b bs ih => exact ih _ _ (Memory.put_wf m a b h)

theorem Memory.writeMasked_wf (m : Memory) (a : Nat) (bs : List Byte) (k : Nat) (h : Memory.wf m = true) :
    Memory.wf (Memory.writeMasked m a bs k) = true := by
  induction bs generalizing m a k with
  | nil => exact h
  | cons b bs ih =>
    refine ih _ _ _ ?_
    split_ifs
    · exact Memory.put_wf m a b h
    · exact h

theorem Memory.zero_wf (m : Memory) (a n : Nat) (h : Memory.wf m = true) : Memory.wf (Memory.zero m a n) = true := by
  obtain ⟨h1, h2⟩ := (Memory.wf_iff m).1 h
  exact (Memory.wf_iff _).2 ⟨filter_sorted m _ h1, fun c hc => h2 c (List.mem_filter.1 hc).1⟩

/-- A byte read after one byte is written. -/
theorem Memory.byte_put (m : Memory) (a b : Nat) (v : Byte) :
    Memory.byte (Memory.put m a v) b = if b = a then v else Memory.byte m b :=
  tget_tset m 0 a b v

/-- A byte outside the bytes written reads as before. -/
theorem Memory.byte_write_ne (m : Memory) (a b : Nat) (bs : List Byte) (h : b < a ∨ a + bs.length ≤ b) :
    Memory.byte (Memory.write m a bs) b = Memory.byte m b := by
  induction bs generalizing m a with
  | nil => rfl
  | cons x bs ih =>
    simp only [List.length_cons] at h
    rw [Memory.write, ih _ _ (by omega), Memory.byte_put, if_neg (by omega)]

end Sys2Proof.Machine
end

