-- ==== Sys2Proof/Laws/Good.lean ====
section
/-! SUPPORT. `Good q P s`: the invariant of Safety.lean holds in `s` with `P` in place of the canonical form of its memory, and
the queue of waiting commands is `q`.  One lemma for each shared operation says that it keeps this, for every `P` where the
operation stores nothing in memory and for `Canon` where it does; none of them unfolds another operation. -/

namespace Sys2Proof.Machine

/-- The canonical form of a memory. -/
def Canon (m : Memory) : Prop := Memory.wf m = true

/-- What `Good` says of the parts of a state. -/
def GoodParts (q : List Instr) (P : Memory → Prop) (mem : Memory) (pending : List Instr) (regs : Tbl Word) (evq : List (List Ev))
    (audit : List (List Byte)) : Prop :=
  (P mem ∧ (tsorted regs = true ∧ ∀ x ∈ regs, x.2 ≠ regReset x.1)
    ∧ (evq.length = 2 ∧ ∀ q ∈ evq, q.length ≤ 1024) ∧ (audit.length ≤ 262144 ∧ ∀ e ∈ audit, e.length = 64))
    ∧ pending = q

/-- The invariant holds, with `P` of the memory, and the queue of waiting commands is `q`. -/
@[irreducible] def Good (q : List Instr) (P : Memory → Prop) (s : State) : Prop := GoodParts q P s.mem s.pending s.regs s.evq s.audit

/-- An outcome is a next state that is good. -/
def GoodO (q : List Instr) (P : Memory → Prop) (o : Host.Outcome State Fault Refusal) : Prop := ∃ t, o = .next t ∧ Good q P t

variable {q : List Instr} {P : Memory → Prop} {s : State}

theorem good_iff : Good q Canon s ↔ s.Inv ∧ s.pending = q := by
  unfold Good GoodParts Canon State.Inv State.MemCanon State.RegsCanon State.QueuesBounded State.AuditBounded; rfl

theorem good_parts (h : Good q P s) : GoodParts q P s.mem s.pending s.regs s.evq s.audit := by unfold Good at h; exact h

/-- A record of a state is good when its parts are: a record update leaves the parts it does not name. -/
theorem good_mk {q : List Instr} {P : Memory → Prop} {pending : List Instr} {regs : Tbl Word} {phase : Phase} {clk :
    Nat} {pins : Pins} {reqRegs : List (Requester × ReqRegs)} {wire : List Wire} {free : Nat} {ctxs : Tbl Ctx} {slots
    : Tbl SeqSlot} {parts : Tbl Sequencer} {syncWaits : List SyncWait} {inProg : List Progress} {mem : Memory} {sram :
    Tbl Byte} {sramResets : Tbl Nat} {coreParts : Tbl CoreParts} {badGranules : List Nat} {faint : Tbl Nat} {bursts :
    Tbl Nat} {memKeys : List Nat} {hashKey : Nat} {zeroing : List (Nat × Nat × Origin)} {reqSlots : Tbl ReqSlot}
    {slotWait : List SlotWait} {queues : Tbl (List Stored)} {turns : Tbl (List Nat)} {waiting : List (Nat × Packet)}
    {resync : Tbl (Nat × Nat)} {credits : Tbl Credit} {ports : Tbl Port} {eyes : Tbl EyeScan} {rackAdopted : Bool}
    {dmaRun : Tbl DmaRun} {dmaLast : List Nat} {groups : Tbl Group} {carTurns : List (Nat × Nat)} {bank : Rick}
    {rankTabs : Tbl RankTab} {copies : Tbl (Nat × Nat × Nat)} {ceHour : Tbl Nat} {hotRuns : Tbl Nat} {sessions : Tbl
    Session} {nonces : List HelloAnswer} {evq : List (List Ev)} {recs : Tbl EvRec} {recBad : List Nat} {evLost : List
    (Nat × Nat)} {resetReqs : List ResetReq} {resets : List Reset} {ladder : List (Nat × Nat × Nat)} {isolating : List
    (Nat × Nat × Nat)} {cycling : Bool} {faults : Nat} {faultHeld : Option Nat} {genClk : Tbl Nat} {ash : List Nat}
    {badCols : Tbl (List Nat)} {residue : List (Nat × Nat × Nat × Nat)} {storeDue : List (Nat × Nat)} {spareDoubt :
    List Nat} {spareLast : Tbl Nat} {nvm : Nvm} {nvmq : List RecData} {time : FabTime} {ctl : Ctl} {latches : Tbl Nat}
    {outSeq : Nat} {power : Power} {start : Start} {update : Update} {audit : List (List Byte)} {auditBad : Bool}
    (h : GoodParts q P mem pending regs evq audit) :
        Good q P (State.mk pending regs phase clk pins reqRegs wire free ctxs slots parts syncWaits inProg mem sram
    sramResets coreParts badGranules faint bursts memKeys hashKey zeroing reqSlots slotWait queues turns waiting
    resync credits ports eyes rackAdopted dmaRun dmaLast groups carTurns bank rankTabs copies ceHour hotRuns sessions
    nonces evq recs recBad evLost resetReqs resets ladder isolating cycling faults faultHeld genClk ash badCols
    residue storeDue spareDoubt spareLast nvm nvmq time ctl latches outSeq power start update audit auditBad) := by
    unfold Good; exact h

theorem goodO_next (h : Good q P s) : GoodO q P (.next s) := ⟨s, rfl, h⟩

theorem good_ite {c : Prop} [Decidable c] {a b : State} (ha : c → Good q P a) (hb : ¬ c → Good q P b) :
    Good q P (if c then a else b) := by
  split_ifs with h
  · exact ha h
  · exact hb h

/-- What a register write would do keeps the invariant. -/
def GoodAct (q : List Instr) (P : Memory → Prop) (x : Audit × Bool × (State → State × Status)) : Prop := ∀ t, Good q P t → Good q P (x.2.2 t).1

theorem good_act (a : Audit) (b : Bool) (f : State → State × Status) (h : ∀ t, Good q P t → Good q P (f t).1) : GoodAct q P (a, b, f) := h

theorem good_act_ite {c : Prop} [Decidable c] {x y : Audit × Bool × (State → State × Status)} (hx : GoodAct q P x) (hy : GoodAct q P y) :
    GoodAct q P (if c then x else y) := by
  split_ifs
  · exact hx
  · exact hy

/-! ### Iteration -/

theorem good_fold {α : Type} (l : List α) (f : State → α → State) (hf : ∀ t, Good q P t → ∀ x, Good q P (f t x)) (h : Good q P s) :
    Good q P (l.foldl f s) := by
  induction l generalizing s with
  | nil => exact h
  | cons x l ih => exact ih (hf _ h _)

theorem good_fold_fst {α β : Type} (l : List α) (f : State × β → α → State × β)
    (hf : ∀ t y, Good q P t → ∀ x, Good q P (f (t, y) x).1) (p : State × β) (h : Good q P p.1) : Good q P (l.foldl f p).1 := by
  induction l generalizing p with
  | nil => exact h
  | cons x l ih => exact ih _ (hf p.1 p.2 h x)

theorem good_State_each {α : Type} (s : State) (xs : List α) (f : State → α → State)
    (hf : ∀ t, Good q P t → ∀ x, Good q P (f t x)) (h : Good q P s) : Good q P (State.each s xs f) :=
  good_fold xs f hf h

/-! ### The operations that change memory, registers, event queues and the audit record -/

theorem tset_canon (t : Tbl Word) (k : Nat) (v : Word) (h : tsorted t = true ∧ ∀ x ∈ t, x.2 ≠ regReset x.1) :
    tsorted (tset t (regReset k) k v) = true ∧ ∀ x ∈ tset t (regReset k) k v, x.2 ≠ regReset x.1 := by
  unfold tset
  split_ifs with e
  · exact ⟨tdel_sorted t k h.1, fun c hc => h.2 c (tdel_sub hc)⟩
  · refine ⟨tput_sorted t k v h.1, fun c hc => ?_⟩
    rcases tput_mem hc with rfl | hc
    · exact e
    · exact h.2 c hc

theorem good_State_setReg (s : State) (off : Nat) (w : Word) (h : Good q P s) : Good q P (s.setReg off w) := by
  have g := good_parts h
  unfold State.setReg
  exact good_mk ⟨⟨g.1.1, tset_canon _ _ _ g.1.2.1, g.1.2.2⟩, g.2⟩

theorem lset_length {α : Type} (l : List α) (i : Nat) (v : α) : (lset l i v).length = l.length := by
  induction l generalizing i with
  | nil => rfl
  | cons x l ih => cases i <;> simp [lset, ih]

theorem lset_mem {α : Type} {l : List α} {i : Nat} {v x : α} (h : x ∈ lset l i v) : x = v ∨ x ∈ l := by
  induction l generalizing i with
  | nil => simp [lset] at h
  | cons y l ih =>
    cases i with
    | zero =>
      simp only [lset, List.mem_cons] at h
      rcases h with h | h
      · exact .inl h
      · exact .inr (List.mem_cons_of_mem _ h)
    | succ i =>
      simp only [lset, List.mem_cons] at h
      rcases h with h | h
      · exact .inr (h ▸ List.mem_cons_self)
      · exact (ih h).imp id (List.mem_cons_of_mem _)

/-- Setting a queue of at most 1,024 entries. -/
theorem good_setEvq (s : State) (d : Nat) (es : List Ev) (he : es.length ≤ 1024) (h : Good q P s) :
    Good q P { s with evq := lset s.evq d es } := by
  have g := good_parts h
  refine good_mk ⟨⟨g.1.1, g.1.2.1, ⟨by rw [lset_length]; exact g.1.2.2.1.1, fun x hx => ?_⟩, g.1.2.2.2⟩, g.2⟩
  rcases lset_mem hx with rfl | hx
  · exact he
  · exact g.1.2.2.1.2 x hx

theorem good_store (s : State) (a : Nat) (bs : List Byte) (h : Good q Canon s) : Good q Canon { s with mem := Memory.write s.mem a bs } := by
  have g := good_parts h
  exact good_mk ⟨⟨Memory.write_wf _ _ _ g.1.1, g.1.2⟩, g.2⟩

theorem good_State_store (s : State) (a : Nat) (bs : List Byte) (h : Good q Canon s) : Good q Canon (s.store a bs) := by
  unfold State.store
  split
  · exact good_store s a bs h
  · exact good_mk (good_parts h)

end Sys2Proof.Machine
end

