-- ==== Sys2Proof/Laws/GoodOps1.lean ====
section
/-! SUPPORT. `Good` is kept by each shared operation and each meaning, part 1 of 6, callees before their callers. -/

namespace Sys2Proof.Machine

variable {q : List Instr} {P : Memory → Prop}

theorem good_State_setFld (s : State) (f : Fld) (v : Nat)  (h : Good q P s) : Good q P (State.setFld s f v)
    := by
  unfold State.setFld; try dsimp only
  repeat' (first | with_reducible assumption | intro _ | with_reducible apply good_State_setReg)

theorem good_State_mark (s : State) (f : Fld) (v : Nat)  (h : Good q P s) : Good q P (State.mark s f v) :=
    by
  unfold State.mark; try dsimp only
  repeat' (first | with_reducible assumption | intro _ | with_reducible apply good_State_setFld | split)

theorem good_State_add (s : State) (f : Fld) (n : Nat)  (h : Good q P s) : Good q P (State.add s f n) := by
  unfold State.add; try dsimp only
  repeat' (first | with_reducible assumption | intro _ | with_reducible apply good_State_setFld)

theorem good_State_bump (s : State) (f : Fld)  (h : Good q P s) : Good q P (State.bump s f) := by
  unfold State.bump; try dsimp only
  repeat' (first | with_reducible assumption | intro _ | with_reducible apply good_State_add)

theorem good_State_evDrop (s : State) (d : Nat) (code : Nat)  (h : Good q P s) : Good q P (State.evDrop s d code) := by
  unfold State.evDrop; try dsimp only
  repeat' (first | with_reducible assumption | intro _ | with_reducible apply good_State_bump | split
                 | fail_if_no_progress (with_reducible apply good_mk; with_reducible apply good_parts))

theorem good_State_evMark (s : State) (d : Nat) (n : Nat)  (h : Good q P s) : Good q P (State.evMark s d n) := by
  unfold State.evMark; try dsimp only
  repeat' (first | with_reducible assumption | intro _ | with_reducible apply good_State_setFld | split)

theorem good_State_evPut (s : State) (d : Nat) (e : Ev) (hl : (s.evQueue d).length < 1024) (h : Good q P s) :
    Good q P (s.evPut d e) := by
  unfold State.evPut
  exact good_setEvq _ _ _ (by simp only [List.length_append, List.length_singleton]; omega) h

theorem good_State_ev (s : State) (code src p0 p1 p2 : Nat) (h : Good q P s) : Good q P (s.ev code src p0 p1 p2) := by
  unfold State.ev
  dsimp only
  split
  · exact good_State_evDrop _ _ _ h
  · exact good_State_evMark _ _ _ (good_State_evPut _ _ _ (by omega) h)

theorem good_State_setFlag (s : State) (f : Fld) (b : Bool)  (h : Good q P s) : Good q P (State.setFlag s
    f b) := by
  unfold State.setFlag; try dsimp only
  repeat' (first | with_reducible assumption | intro _ | with_reducible apply good_State_setFld)

theorem good_State_storeSync (s : State)  (h : Good q P s) : Good q P (State.storeSync s) := by
  unfold State.storeSync; try dsimp only
  repeat' (first | with_reducible assumption | intro _ | with_reducible apply good_State_each
                 | with_reducible apply good_State_setFld | with_reducible apply good_State_mark
                 | with_reducible apply good_State_ev | with_reducible apply good_State_setFlag | split)

theorem good_State_setQueue (s : State) (o : Nat) (q_2 : List Stored)  (h : Good q P s) : Good q P
    (State.setQueue s o q_2) := by
  unfold State.setQueue; try dsimp only
  repeat' (first | with_reducible assumption | intro _ | split
                 | fail_if_no_progress (with_reducible apply good_mk; with_reducible apply good_parts))

theorem good_State_enqueue (s : State) (o : Nat) (die : Nat) (via : Option Nat) (vc : Nat) (p : Packet) (acc : Nat × Nat × Nat)
    (h : Good q P s) : Good q P (State.enqueue s o die via vc p acc) := by
  unfold State.enqueue; try dsimp only
  repeat' (first | with_reducible assumption | intro _ | with_reducible apply good_State_storeSync
                 | with_reducible apply good_State_setQueue | with_reducible apply good_State_ev | split)

theorem good_State_detour (s : State) (p : Packet) (q_2 : Packet)  (h : Good q P s) : Good q P
    (State.detour s p q_2) := by
  unfold State.detour; try dsimp only
  repeat' (first | with_reducible assumption | intro _ | with_reducible apply good_State_each
                 | with_reducible apply good_State_bump)

theorem good_State_place (s : State) (o : Nat) (die : Nat) (p : Packet) (q_4 : Packet)  (h : Good q P s) :
    Good q P (State.place s o die p q_4) := by
  unfold State.place; try dsimp only
  repeat' (first | with_reducible assumption | intro _ | with_reducible apply good_State_enqueue
                 | with_reducible apply good_State_detour | split
                 | fail_if_no_progress (with_reducible apply good_mk; with_reducible apply good_parts))

theorem good_State_unreachableEv (s : State) (die : Nat) (dark : Nat) (p : Packet)  (h : Good q P s) : Good q P
    (State.unreachableEv s die dark p) := by
  unfold State.unreachableEv; try dsimp only
  repeat' (first | with_reducible assumption | intro _ | with_reducible apply good_State_ev
                 | with_reducible apply good_State_bump)

theorem good_State_forward (s : State) (die : Nat) (p : Packet)  (h : Good q P s) : Good q P (State.forward s die p)
    := by
  unfold State.forward; try dsimp only
  repeat' (first | with_reducible assumption | intro _ | with_reducible apply good_State_place
                 | with_reducible apply good_State_unreachableEv | split)

theorem good_State_inject (s : State) (die : Nat) (p : Packet)  (h : Good q P s) : Good q P (State.inject s die p)
    := by
  unfold State.inject; try dsimp only
  repeat' (first | with_reducible assumption | intro _ | with_reducible apply good_State_forward)

theorem good_State_sendBank (s : State) (dest : Nat) (op : Nat) (cmd : List Byte)  (h : Good q P s) : Good q P
    (State.sendBank s dest op cmd) := by
  unfold State.sendBank; try dsimp only
  repeat' (first | with_reducible assumption | intro _ | with_reducible apply good_State_inject)

theorem good_State_sendBankAborts (s : State) (st : Status)  (h : Good q P s) : Good q P (State.sendBankAborts s
    st) := by
  unfold State.sendBankAborts; try dsimp only
  repeat' (first | with_reducible assumption | intro _ | with_reducible apply good_State_each
                 | with_reducible apply good_State_sendBank | split)

theorem good_State_setPart (s : State) (p : Nat) (q_2 : Sequencer)  (h : Good q P s) : Good q P
    (State.setPart s p q_2) := by
  unfold State.setPart; try dsimp only
  repeat' (first | with_reducible assumption | intro _ | split
                 | fail_if_no_progress (with_reducible apply good_mk; with_reducible apply good_parts))

theorem good_State_faultFiring (s : State) (p : Nat) (f : FireFault)  (h : Good q P s) : Good q P
    (State.faultFiring s p f) := by
  unfold State.faultFiring; try dsimp only
  repeat' (first | with_reducible assumption | intro _ | with_reducible apply good_State_setPart | split)

theorem good_State_failBank (s : State) (st : Status) (sent : Status) (origin : Nat)  (h : Good q P s) :
    Good q P (State.failBank s st sent origin) := by
  unfold State.failBank; try dsimp only
  repeat' (first | with_reducible assumption | intro _ | with_reducible apply good_State_sendBankAborts
                 | with_reducible apply good_State_setFlag | with_reducible apply good_State_setFld
                 | with_reducible apply good_State_setReg | with_reducible apply good_State_ev
                 | with_reducible apply good_State_faultFiring | split
                 | fail_if_no_progress (with_reducible apply good_mk; with_reducible apply good_parts))

theorem good_State_abortArrives (s : State) (st : Status) (origin : Nat)  (h : Good q P s) : Good q P
    (State.abortArrives s st origin) := by
  unfold State.abortArrives; try dsimp only
  repeat' (first | with_reducible assumption | intro _ | with_reducible apply good_State_failBank
                 | with_reducible apply good_State_sendBankAborts | with_reducible apply good_State_setFlag
                 | with_reducible apply good_State_setFld | with_reducible apply good_State_ev | split)

theorem good_State_abortScan (s : State) (f : Nat)  (h : Good q P s) : Good q P (State.abortScan s f) := by
  unfold State.abortScan; try dsimp only
  repeat' (first | with_reducible assumption | intro _ | with_reducible apply good_State_setFld
                 | with_reducible apply good_State_ev | with_reducible apply good_State_each | split
                 | fail_if_no_progress (with_reducible apply good_mk; with_reducible apply good_parts))

theorem good_State_setPort (s : State) (d : Nat) (x_2 : Port)  (h : Good q P s) : Good q P (State.setPort s
    d x_2) := by
  unfold State.setPort; try dsimp only
  repeat' (first | with_reducible assumption | intro _ | split
                 | fail_if_no_progress (with_reducible apply good_mk; with_reducible apply good_parts))

theorem good_State_takeAck (s : State) (d : Nat) (ack : Nat)  (h : Good q P s) : Good q P (State.takeAck s d ack) := by
  unfold State.takeAck; try dsimp only
  repeat' (first | with_reducible assumption | intro _ | with_reducible apply good_State_setPort
                 | with_reducible apply good_fold | with_reducible apply good_fold_fst | split)

theorem good_State_when (s : State) (b : Bool) (f : State → State) (hf : ∀ y0, Good q P
    y0 → Good q P (f y0)) (h : Good q P s) : Good q P (State.when s b f) := by
  unfold State.when; try dsimp only
  repeat' (first | with_reducible assumption | intro _ | apply hf | split)

theorem good_State_headerFound (s : State) (port : Nat)  (h : Good q P s) : Good q P (State.headerFound s port) := by
  unfold State.headerFound; try dsimp only
  repeat' (first | with_reducible assumption | intro _ | with_reducible apply good_State_ev | split
                 | fail_if_no_progress (with_reducible apply good_mk; with_reducible apply good_parts))

theorem good_State_endScan (s : State) (n : Nat)  (h : Good q P s) : Good q P (State.endScan s n) := by
  unfold State.endScan; try dsimp only
  repeat' (first | with_reducible assumption | intro _ | with_reducible apply good_State_abortScan | split)

theorem good_State_unlink (s : State) (d : Nat)  (h : Good q P s) : Good q P (State.unlink s d) := by
  unfold State.unlink; try dsimp only
  repeat' (first | with_reducible assumption | intro _ | with_reducible apply good_State_each
                 | with_reducible apply good_State_setFlag | with_reducible apply good_State_setFld
                 | with_reducible apply good_State_endScan | with_reducible apply good_State_setReg)

theorem good_State_setPortState (s : State) (d : Nat) (st : Nat) (cause : Nat)  (h : Good q P s) : Good q P (State.setPortState s
    d st cause) := by
  unfold State.setPortState; try dsimp only
  repeat' (first | with_reducible assumption | intro _ | with_reducible apply good_State_setFld
                 | with_reducible apply good_State_setPort | with_reducible apply good_State_setFlag | split)

theorem good_State_setCredit (s : State) (port : Nat) (vc : Nat) (c : Credit)  (h : Good q P s) : Good q P
    (State.setCredit s port vc c) := by
  unfold State.setCredit; try dsimp only
  repeat' (first | with_reducible assumption | intro _ | split
                 | fail_if_no_progress (with_reducible apply good_mk; with_reducible apply good_parts))

theorem good_State_freeCells (s : State) (x_1 : Stored)  (h : Good q P s) : Good q P (State.freeCells s
    x_1) := by
  unfold State.freeCells; try dsimp only
  repeat' (first | with_reducible assumption | intro _ | with_reducible apply good_State_setCredit | split)

theorem good_State_reroute (s : State) (x_1 : Stored)  (h : Good q P s) : Good q P (State.reroute s x_1)
    := by
  unfold State.reroute; try dsimp only
  repeat' (first | with_reducible assumption | intro _ | with_reducible apply good_State_enqueue
                 | with_reducible apply good_State_detour | with_reducible apply good_State_forward
                 | with_reducible apply good_State_freeCells | split)

theorem good_State_retryWaiting (s : State)  (h : Good q P s) : Good q P (State.retryWaiting s) := by
  unfold State.retryWaiting; try dsimp only
  repeat' (first | with_reducible assumption | intro _ | with_reducible apply good_State_each
                 | with_reducible apply good_State_forward | split
                 | fail_if_no_progress (with_reducible apply good_mk; with_reducible apply good_parts))

theorem good_State_leaveUp (s : State) (d : Nat)  (h : Good q P s) : Good q P (State.leaveUp s d) := by
  unfold State.leaveUp; try dsimp only
  repeat' (first | with_reducible assumption | intro _ | with_reducible apply good_State_each
                 | with_reducible apply good_State_setQueue | with_reducible apply good_State_reroute
                 | with_reducible apply good_State_retryWaiting | with_reducible apply good_State_ev
                 | with_reducible apply good_State_storeSync)

theorem good_State_followTime (s : State) (d : Nat)  (h : Good q P s) : Good q P (State.followTime s d) := by
  unfold State.followTime; try dsimp only
  repeat' (first | with_reducible assumption | intro _ | with_reducible apply good_State_setFld | split
                 | fail_if_no_progress (with_reducible apply good_mk; with_reducible apply good_parts))

theorem good_State_holdover (s : State)  (h : Good q P s) : Good q P (State.holdover s) := by
  unfold State.holdover; try dsimp only
  repeat' (first | with_reducible assumption | intro _ | with_reducible apply good_State_ev
                 | with_reducible apply good_State_setFld)

theorem good_State_retime (s : State)  (h : Good q P s) : Good q P (State.retime s) := by
  unfold State.retime; try dsimp only
  repeat' (first | with_reducible assumption | intro _ | with_reducible apply good_State_setFld
                 | with_reducible apply good_State_followTime | with_reducible apply good_State_holdover
                 | with_reducible apply good_State_ev | split)

theorem good_State_dropCredits (s : State) (d : Nat)  (h : Good q P s) : Good q P (State.dropCredits s d) := by
  unfold State.dropCredits; try dsimp only
  repeat' (first | with_reducible assumption | intro _ | split
                 | fail_if_no_progress (with_reducible apply good_mk; with_reducible apply good_parts))

theorem good_State_linkLost (s : State) (d : Nat) (cause : Nat)  (h : Good q P s) : Good q P (State.linkLost s d cause) := by
  unfold State.linkLost; try dsimp only
  repeat' (first | with_reducible assumption | intro _ | with_reducible apply good_State_ev
                 | with_reducible apply good_State_bump | with_reducible apply good_State_when
                 | with_reducible apply good_State_headerFound | with_reducible apply good_State_unlink
                 | with_reducible apply good_State_setPortState | with_reducible apply good_State_leaveUp
                 | with_reducible apply good_State_retime | with_reducible apply good_State_dropCredits
                 | with_reducible apply good_State_setPort | split)

theorem good_State_goBack (s : State) (d : Nat)  (h : Good q P s) : Good q P (State.goBack s d) := by
  unfold State.goBack; try dsimp only
  repeat' (first | with_reducible assumption | intro _ | with_reducible apply good_State_linkLost
                 | with_reducible apply good_State_bump | with_reducible apply good_State_setPort | split)

theorem good_State_laneChange (s : State) (d : Nat)  (h : Good q P s) : Good q P (State.laneChange s d) := by
  unfold State.laneChange; try dsimp only
  repeat' (first | with_reducible assumption | intro _ | with_reducible apply good_State_linkLost
                 | with_reducible apply good_State_setPort | split)

theorem good_State_takeOut (s : State) (n : Nat)  (h : Good q P s) : Good q P (State.takeOut s n) := by
  unfold State.takeOut; try dsimp only
  repeat' (first | with_reducible assumption | intro _ | with_reducible apply good_State_setFlag
                 | with_reducible apply good_State_setFld | with_reducible apply good_State_endScan)

theorem good_State_frameLane (d : Nat) (position : Nat) (s : State)  (h : Good q P s) : Good q P (State.frameLane d position s)
    := by
  unfold State.frameLane; try dsimp only
  repeat' (first | with_reducible assumption | intro _ | with_reducible apply good_State_laneChange
                 | with_reducible apply good_State_takeOut | split)

theorem good_State_frameTail (d : Nat) (f : LaneFrame) (s : State)  (h : Good q P s) : Good q P (State.frameTail d f
    s) := by
  unfold State.frameTail; try dsimp only
  repeat' (first | with_reducible assumption | intro _ | with_reducible apply good_State_takeAck
                 | with_reducible apply good_State_goBack | with_reducible apply good_State_frameLane
                 | with_reducible apply good_State_each | with_reducible apply good_State_setFlag
                 | with_reducible apply good_State_setFld | with_reducible apply good_State_endScan | split)

theorem good_State_returnCells (s : State) (port : Nat) (vc : Nat) (n : Nat)  (h : Good q P s) : Good q P (State.returnCells s
    port vc n) := by
  unfold State.returnCells; try dsimp only
  repeat' (first | with_reducible assumption | intro _ | with_reducible apply good_State_setCredit)

theorem good_State_headerError (s : State) (port : Nat) (cause : Nat) (n : Nat) (p : Packet)  (h : Good q P s) : Good q
    P (State.headerError s port cause n p) := by
  unfold State.headerError; try dsimp only
  repeat' (first | with_reducible assumption | intro _ | with_reducible apply good_State_returnCells
                 | with_reducible apply good_State_bump | split
                 | fail_if_no_progress (with_reducible apply good_mk; with_reducible apply good_parts))

theorem good_State_takeCredits (port : Nat) (counts : List Nat) (s : State)  (h : Good q P s) : Good q P (State.takeCredits port
    counts s) := by
  unfold State.takeCredits; try dsimp only
  repeat' (first | with_reducible assumption | intro _ | with_reducible apply good_State_each
                 | with_reducible apply good_State_setCredit | split)

theorem good_State_setPair (s : State) (lo : Nat) (v : Nat)  (h : Good q P s) : Good q P (State.setPair s lo v) := by
  unfold State.setPair; try dsimp only
  repeat' (first | with_reducible assumption | intro _ | with_reducible apply good_State_setReg)

theorem good_State_addPair (s : State) (lo : Nat) (n : Nat)  (h : Good q P s) : Good q P (State.addPair s lo n) := by
  unfold State.addPair; try dsimp only
  repeat' (first | with_reducible assumption | intro _ | with_reducible apply good_State_setPair)

theorem good_State_countAdmitted (s : State) (port : Nat) (p : Packet)  (h : Good q P s) : Good q P
    (State.countAdmitted s port p) := by
  unfold State.countAdmitted; try dsimp only
  repeat' (first | with_reducible assumption | intro _ | with_reducible apply good_State_addPair)

theorem good_State_enterTo (s : State) (port : Nat) (o : Nat) (vc : Nat) (p : Packet)  (h : Good q P s) : Good q P
    (State.enterTo s port o vc p) := by
  unfold State.enterTo; try dsimp only
  repeat' (first | with_reducible assumption | intro _ | with_reducible apply good_State_enqueue
                 | with_reducible apply good_State_ev | with_reducible apply good_State_returnCells | split)

theorem good_State_enterAs (s : State) (port : Nat) (p : Packet) (a : Route)  (h : Good q P s) :
    Good q P (State.enterAs s port p a) := by
  unfold State.enterAs; try dsimp only
  repeat' (first | with_reducible assumption | intro _ | with_reducible apply good_State_enterTo
                 | with_reducible apply good_State_detour | with_reducible apply good_State_forward
                 | with_reducible apply good_State_returnCells | split)

theorem good_State_enter (s : State) (port : Nat) (p : Packet)  (h : Good q P s) : Good q P (State.enter s port p)
    := by
  unfold State.enter; try dsimp only
  repeat' (first | with_reducible assumption | intro _ | with_reducible apply good_State_setCredit
                 | with_reducible apply good_State_enterAs | with_reducible apply good_State_countAdmitted)

theorem good_State_ingress (port : Nat) (p : Packet) (s : State)  (h : Good q P s) : Good q P (State.ingress port p
    s) := by
  unfold State.ingress; try dsimp only
  repeat' (first | with_reducible assumption | intro _ | with_reducible apply good_State_headerFound
                 | with_reducible apply good_State_takeCredits | with_reducible apply good_State_returnCells
                 | with_reducible apply good_State_countAdmitted | with_reducible apply good_State_enter
                 | with_reducible apply good_State_headerError | split)

theorem good_State_takeFlit (d : Nat) (s : State) (f : List Byte)  (h : Good q P s) : Good q P (State.takeFlit d s
    f) := by
  unfold State.takeFlit; try dsimp only
  repeat' (first | with_reducible assumption | intro _ | with_reducible apply good_State_headerFound
                 | with_reducible apply good_State_setPort | with_reducible apply good_State_headerError
                 | with_reducible apply good_State_ingress | split)

theorem good_State_acceptFrame (d : Nat) (ls : List LaneFrame) (whole : Bool) (s : State)  (h : Good q P s) : Good q
    P (State.acceptFrame d ls whole s) := by
  unfold State.acceptFrame; try dsimp only
  repeat' (first | with_reducible assumption | intro _ | with_reducible apply good_State_setPort
                 | with_reducible apply good_State_frameTail | with_reducible apply good_State_each
                 | with_reducible apply good_State_takeFlit | split)

theorem good_State_setHead (s : State) (e : List Byte)  (h : Good q P s) : Good q P (State.setHead s e) := by
  unfold State.setHead; try dsimp only
  repeat' (first | with_reducible assumption | intro _ | with_reducible apply good_State_each
                 | with_reducible apply good_State_setFld)

theorem good_State_auditCell (s : State) (action role st key sess : Nat) (params : List Byte) (h : Good q P s) :
    Good q P (s.auditCell action role st key sess params) := by
  have put : ∀ e : List Byte, e.length = 64 →
      Good q P { s with audit := (if s.audit.length ≥ 262144 then s.audit.drop 4096 else s.audit) ++ [e] } := by
    intro e he
    have g := good_parts h
    refine good_mk ⟨⟨g.1.1, g.1.2.1, g.1.2.2.1, ?_, fun x hx => ?_⟩, g.2⟩
    · have := g.1.2.2.2.1
      split_ifs <;> simp only [List.length_append, List.length_drop, List.length_singleton] <;> omega
    · rcases List.mem_append.1 hx with hx | hx
      · split_ifs at hx
        · exact g.1.2.2.2.2 x (List.mem_of_mem_drop hx)
        · exact g.1.2.2.2.2 x hx
      · rw [List.mem_singleton.1 hx, he]
  have hl : ∀ n v, (natLe n v).length = n := by
    intro n
    induction n with
    | zero => intro v; rfl
    | succ n ih => intro v; simp [natLe, ih]
  have hs : (slice params 0 8).length = 8 := by simp [slice]
  have hh : s.auditHead.length = 32 := by
    have : ∀ l : List Nat, (l.flatMap fun w => natLe 4 (s.fld (Reg.secAuditHeadHead w))).length = 4 * l.length := by
      intro l
      induction l with
      | nil => rfl
      | cons x l ih => simp only [List.flatMap_cons, List.length_append, hl, ih, List.length_cons]; omega
    rw [State.auditHead, this, List.length_range]
  unfold State.auditCell
  extract_lets seq e full s1 s2 s3
  have he : e.length = 64 := by simp only [e, List.length_append, hl, hs, hh]
  refine good_State_setPair _ _ _ (good_State_setHead _ _ ?_)
  have h1 : Good q P s1 := by simpa only [s1, full, decide_eq_true_eq] using put e he
  exact good_ite (fun _ => good_State_ev _ _ _ _ _ _ (good_State_setPair _ _ _ h1)) fun _ => h1

theorem good_State_auditAppend (s : State) (action : Nat) (role : Nat) (st : Nat) (key : Nat) (sess : Nat) (params : List
    Byte)  (h : Good q P s) : Good q P (State.auditAppend s action role st key sess params) := by
  unfold State.auditAppend; try dsimp only
  repeat' (first | with_reducible assumption | intro _ | with_reducible apply good_State_ev
                 | with_reducible apply good_State_auditCell)

theorem good_State_auditAct (s : State) (i : Nat) (action : Nat) (st : Status) (params : List Byte)  (h :
    Good q P s) : Good q P (State.auditAct s i action st params).1 := by
  unfold State.auditAct; try dsimp only
  repeat' (first | with_reducible assumption | intro _ | with_reducible apply good_State_ev
                 | with_reducible apply good_State_bump | with_reducible apply good_State_auditAppend | split
                 | fail_if_no_progress (with_reducible apply good_mk; with_reducible apply good_parts))

theorem good_State_carry (s : State) (r : Requester) (off : Nat) (value : Nat) (a : Audit) (act :
    State → State × Status) (hact : ∀ y0, Good q P y0 → Good q P (act y0).1)
    (h : Good q P s) : Good q P (State.carry s r off value a act).1 := by
  unfold State.carry; try dsimp only
  repeat' (first | with_reducible assumption | intro _ | apply hact | with_reducible apply good_State_auditAct | split)

theorem good_State_send (s : State) (w : Wire)  (h : Good q P s) : Good q P (State.send s w) := by
  unfold State.send; try dsimp only
  repeat' (first | with_reducible assumption | intro _ | split
                 | fail_if_no_progress (with_reducible apply good_mk; with_reducible apply good_parts))

theorem good_State_answer (s : State) (r : Requester) (off : Nat) (value : Nat) (st : Status)  (h : Good q P
    s) : Good q P (State.answer s r off value st) := by
  unfold State.answer; try dsimp only
  repeat' (first | with_reducible assumption | intro _ | with_reducible apply good_State_send)

theorem good_State_access (s : State) (r : Requester) (off : Nat) (value : Nat) (a : Audit) (act :
    State → State × Status) (hact : ∀ y0, Good q P y0 → Good q P (act y0).1)
    (h : Good q P s) : Good q P (State.access s r off value a act) := by
  unfold State.access; try dsimp only
  repeat' (first | with_reducible assumption | intro _ | apply hact | with_reducible apply good_State_carry
                 | with_reducible apply good_State_answer)

theorem good_State_runFlags (s : State) (p : Nat) (f : Flags)  (h : Good q P s) : Good q P (State.runFlags s p f) :=
    by
  unfold State.runFlags; try dsimp only
  repeat' (first | with_reducible assumption | intro _ | with_reducible apply good_State_setPart | split)

theorem good_State_accessDone (s : State) (p : Nat) (slot : Nat) (by_ : Option Nat) (st : Status) (ours :
    Flags)  (h : Good q P s) : Good q P (State.accessDone s p slot by_ st ours) := by
  unfold State.accessDone; try dsimp only
  repeat' (first | with_reducible assumption | intro _ | with_reducible apply good_State_runFlags
                 | with_reducible apply good_State_faultFiring | split)

theorem good_State_storesLost (s : State) (is : List Nat)  (h : Good q P s) : Good q P (State.storesLost s is) := by
  unfold State.storesLost; try dsimp only
  repeat' (first | with_reducible assumption | intro _ | with_reducible apply good_fold
                 | with_reducible apply good_fold_fst | split
                 | fail_if_no_progress (with_reducible apply good_mk; with_reducible apply good_parts))

theorem good_State_gone (s : State) (h : Good q Canon s) : Good q Canon s.gone := by
  have g := good_parts h
  unfold State.gone
  exact good_mk ⟨⟨rfl, ⟨rfl, fun x hx => by cases hx⟩, ⟨rfl, by decide⟩, g.1.2.2.2⟩, g.2⟩

theorem good_State_setPower (s : State) (f : Power → Power)  (h : Good q P s) : Good q P
    (State.setPower s f) := by
  unfold State.setPower; try dsimp only
  repeat' (first | with_reducible assumption | intro _ | split
                 | fail_if_no_progress (with_reducible apply good_mk; with_reducible apply good_parts))

theorem good_State_countThrottle (s : State)  (h : Good q P s) : Good q P (State.countThrottle s) := by
  unfold State.countThrottle; try dsimp only
  repeat' (first | with_reducible assumption | intro _ | with_reducible apply good_State_setFld
                 | with_reducible apply good_State_setPower)

theorem good_State_setKiln (s : State) (k : Nat) (d : Nat)  (h : Good q P s) : Good q P (State.setKiln s k d) := by
  unfold State.setKiln; try dsimp only
  repeat' (first | with_reducible assumption | intro _ | with_reducible apply good_State_setFld
                 | with_reducible apply good_State_setFlag)

theorem good_State_dutySync (s : State)  (h : Good q P s) : Good q P (State.dutySync s) := by
  unfold State.dutySync; try dsimp only
  repeat' (first | with_reducible assumption | intro _ | with_reducible apply good_State_countThrottle
                 | with_reducible apply good_State_setPower | with_reducible apply good_State_each
                 | with_reducible apply good_State_setKiln | with_reducible apply good_State_setFld)

theorem good_State_brakeBy (s : State) (cause : Nat)  (h : Good q P s) : Good q P (State.brakeBy s cause) := by
  unfold State.brakeBy; try dsimp only
  repeat' (first | with_reducible assumption | intro _ | with_reducible apply good_State_setPower
                 | with_reducible apply good_State_bump | with_reducible apply good_State_setFlag
                 | with_reducible apply good_State_dutySync | with_reducible apply good_State_ev | split)

theorem good_State_setPoint (s : State) (n : Nat)  (h : Good q P s) : Good q P (State.setPoint s n) := by
  unfold State.setPoint; try dsimp only
  repeat' (first | with_reducible assumption | intro _ | with_reducible apply good_State_setPower
                 | with_reducible apply good_State_setFld | with_reducible apply good_State_ev | split)

theorem good_State_alertSync (s : State)  (h : Good q P s) : Good q P (State.alertSync s) := by
  unfold State.alertSync; try dsimp only
  repeat' (first | with_reducible assumption | intro _ | with_reducible apply good_State_setFlag
                 | with_reducible apply good_State_ev | split)

theorem good_State_alert (s : State) (f : Fld)  (h : Good q P s) : Good q P (State.alert s f) := by
  unfold State.alert; try dsimp only
  repeat' (first | with_reducible assumption | intro _ | with_reducible apply good_State_alertSync
                 | with_reducible apply good_State_setFlag)

theorem good_State_sendColl (s : State) (g : Nat) (dest : Nat) (op : Nat) (cseq : Nat) (step : Nat) (f : Flags) (seg : Nat)
    (check : Nat) (data : List Byte)  (h : Good q P s) : Good q P (State.sendColl s g dest op cseq step f seg check
    data) := by
  unfold State.sendColl; try dsimp only
  repeat' (first | with_reducible assumption | intro _ | with_reducible apply good_State_inject)

theorem good_State_finish (s : State) (o : Origin) (st : Status) (f : optParam Flags { })
    (results : optParam (List Byte) []) (data : optParam (List Byte) [])  (h : Good q P s) : Good q P
    (State.finish s o st f results data) := by
  unfold State.finish; try dsimp only
  repeat' (first | with_reducible assumption | intro _ | split
                 | fail_if_no_progress (with_reducible apply good_mk; with_reducible apply good_parts))

theorem good_State_wake (s : State) (n : Nat)  (h : Good q P s) : Good q P (State.wake s n) := by
  unfold State.wake; try dsimp only
  repeat' (first | with_reducible assumption | intro _ | with_reducible apply good_State_each
                 | with_reducible apply good_State_finish | split
                 | fail_if_no_progress (with_reducible apply good_mk; with_reducible apply good_parts))

theorem good_State_setSyncErr (s : State) (n : Nat) (b : Bool)  (h : Good q P s) : Good q P (State.setSyncErr s n b) := by
  unfold State.setSyncErr; try dsimp only
  repeat' (first | with_reducible assumption | intro _ | with_reducible apply good_State_setFld)

theorem good_State_raiseErr (s : State) (n : Nat)  (h : Good q P s) : Good q P (State.raiseErr s n) := by
  unfold State.raiseErr; try dsimp only
  repeat' (first | with_reducible assumption | intro _ | with_reducible apply good_State_wake
                 | with_reducible apply good_State_setSyncErr)

theorem good_State_signalErrors (s : State) (job : Nat) (sigs : List (Nat × Bool × Nat × Nat))  (h : Good q P s) : Good q P
    (State.signalErrors s job sigs) := by
  unfold State.signalErrors; try dsimp only
  repeat' (first | with_reducible assumption | intro _ | with_reducible apply good_State_each
                 | with_reducible apply good_State_raiseErr | split)

theorem good_State_countCe (s : State) (g : Nat) (symbol : Nat)  (h : Good q P s) : Good q P (State.countCe s g symbol) := by
  unfold State.countCe; try dsimp only
  repeat' (first | with_reducible assumption | intro _ | with_reducible apply good_State_bump
                 | with_reducible apply good_State_addPair | with_reducible apply good_State_ev | split
                 | fail_if_no_progress (with_reducible apply good_mk; with_reducible apply good_parts))

theorem good_State_corrects (s : State) (gs : List Nat)  (h : Good q P s) : Good q P (State.corrects s gs) := by
  unfold State.corrects; try dsimp only
  repeat' (first | with_reducible assumption | intro _ | with_reducible apply good_State_each
                 | with_reducible apply good_State_countCe)

theorem good_State_burst (s : State) (gs : List Nat)  (h : Good q P s) : Good q P (State.burst s gs) := by
  unfold State.burst; try dsimp only
  repeat' (first | with_reducible assumption | intro _ | with_reducible apply good_fold
                 | with_reducible apply good_fold_fst | split
                 | fail_if_no_progress (with_reducible apply good_mk; with_reducible apply good_parts))

theorem good_State_fresh (s : State)  (h : Good q P s) : Good q P (State.fresh s) := by
  unfold State.fresh; try dsimp only
  repeat' (first | with_reducible assumption | intro _ | split
                 | fail_if_no_progress (with_reducible apply good_mk; with_reducible apply good_parts))

theorem good_State_spare (s : State) (ch : Nat) (cause : Nat)  (h : Good q P s) : Good q P (State.spare s ch cause) := by
  unfold State.spare; try dsimp only
  repeat' (first | with_reducible assumption | intro _ | with_reducible apply good_State_ev
                 | with_reducible apply good_State_setFlag | with_reducible apply good_State_fresh
                 | with_reducible apply good_State_setFld | split
                 | fail_if_no_progress (with_reducible apply good_mk; with_reducible apply good_parts))

theorem good_State_countUe (s : State) (g : Nat) (source : Nat)  (h : Good q P s) : Good q P (State.countUe s g source) := by
  unfold State.countUe; try dsimp only
  repeat' (first | with_reducible assumption | intro _ | with_reducible apply good_State_setFlag
                 | with_reducible apply good_State_bump | with_reducible apply good_State_spare
                 | with_reducible apply good_State_ev)

theorem good_State_readAs (s : State) (source : Nat) (a : Nat) (n : Nat)  (h : Good q P s) : Good q P (State.readAs s source a
    n).1 := by
  unfold State.readAs; try dsimp only
  repeat' (first | with_reducible assumption | intro _ | with_reducible apply good_State_corrects
                 | with_reducible apply good_State_burst | with_reducible apply good_State_each
                 | with_reducible apply good_State_countUe | split)

theorem good_State_readBytes (s : State) (a : Nat) (n : Nat)  (h : Good q P s) : Good q P (State.readBytes s a n).1 := by
  unfold State.readBytes; try dsimp only
  repeat' (first | with_reducible assumption | intro _ | with_reducible apply good_State_readAs)

theorem good_State_writeBytes (s : State) (a : Nat) (bs : List Byte)  (h : Good q Canon s) : Good q Canon
    (State.writeBytes s a bs).1 := by
  unfold State.writeBytes; try dsimp only
  repeat' (first | with_reducible assumption | intro _ | with_reducible apply good_State_corrects
                 | with_reducible apply good_State_burst | with_reducible apply good_State_store
                 | with_reducible apply good_State_each | with_reducible apply good_State_countUe | split
                 | fail_if_no_progress (with_reducible apply good_mk; with_reducible apply good_parts))

theorem good_State_logSync (s : State)  (h : Good q P s) : Good q P (State.logSync s) := by
  unfold State.logSync; try dsimp only
  repeat' (first | with_reducible assumption | intro _ | with_reducible apply good_State_setFld | split)

theorem good_State_logCopy (s : State) (a : Nat) (inFold : Bool)  (h : Good q P s) : Good q P (State.logCopy s a inFold) := by
  unfold State.logCopy; try dsimp only
  repeat' (first | with_reducible assumption | intro _ | with_reducible apply good_State_logSync
                 | with_reducible apply good_State_setFld | with_reducible apply good_State_setFlag
                 | with_reducible apply good_State_ev | split
                 | fail_if_no_progress (with_reducible apply good_mk; with_reducible apply good_parts))

theorem good_State_logFirst (s : State) (w : Who) (a : Nat) (n : Nat)  (h : Good q P s) : Good q P
    (State.logFirst s w a n) := by
  unfold State.logFirst; try dsimp only
  repeat' (first | with_reducible assumption | intro _ | with_reducible apply good_State_logCopy
                 | with_reducible apply good_State_logSync | split
                 | fail_if_no_progress (with_reducible apply good_mk; with_reducible apply good_parts))

theorem good_State_rewrites (s : State) (g : Nat)  (h : Good q P s) : Good q P (State.rewrites s g) := by
  unfold State.rewrites; try dsimp only
  repeat' (first | with_reducible assumption | intro _ | with_reducible apply good_State_corrects
                 | with_reducible apply good_State_burst | split
                 | fail_if_no_progress (with_reducible apply good_mk; with_reducible apply good_parts))

theorem good_State_writeMask (s : State) (a : Nat) (bs : List Byte) (mask : Nat) (h : Good q Canon s) :
    Good q Canon (s.writeMask a bs mask).1 := by
  have ht := good_State_rewrites s (granule a) h
  unfold State.writeMask
  dsimp only
  split
  · exact good_State_countUe _ _ _ ht
  · have g := good_parts ht
    exact good_mk ⟨⟨Memory.writeMasked_wf _ _ _ _ (good_parts h).1.1, g.1.2⟩, g.2⟩

theorem good_rewritten (s : State) (g a : Nat) (bs : List Byte) (h : Good q Canon s) :
    Good q Canon { s.rewrites g with mem := Memory.write s.mem a bs } := by
  have t := good_parts (good_State_rewrites s g h)
  exact good_mk ⟨⟨Memory.write_wf _ _ _ (good_parts h).1.1, t.1.2⟩, t.2⟩

theorem good_State_serve (s : State) (w : Who) (a : Nat) (m : MemOp) (h : Good q Canon s) : Good q Canon (s.serve w a m).1 := by
  unfold State.serve
  dsimp only
  repeat' (first | with_reducible assumption | with_reducible apply good_State_logFirst
                 | with_reducible apply good_State_each | with_reducible apply good_State_countUe
                 | with_reducible apply good_State_writeBytes | with_reducible apply good_State_readBytes
                 | with_reducible apply good_State_rewrites | with_reducible apply good_State_writeMask
                 | with_reducible apply good_rewritten | intro _ | split)

theorem good_State_countColl (s : State)  (h : Good q P s) : Good q P (State.countColl s) := by
  unfold State.countColl; try dsimp only
  repeat' (first | with_reducible assumption | intro _ | with_reducible apply good_State_addPair)

theorem good_State_setSlot (s : State) (die : Nat) (n : Nat) (x_3 : ReqSlot)  (h : Good q P s) : Good q P
    (State.setSlot s die n x_3) := by
  unfold State.setSlot; try dsimp only
  repeat' (first | with_reducible assumption | intro _ | split
                 | fail_if_no_progress (with_reducible apply good_mk; with_reducible apply good_parts))

theorem good_State_issueNow (s : State) (w : SlotWait) (h : Good q P s) (t : State) (e : s.issueNow w = some t) : Good q P t := by
  unfold State.issueNow at e
  dsimp only at e
  split at e
  · cases e
  · cases e
    exact good_State_inject _ _ _ (good_State_mark _ _ _ (good_State_add _ _ _ (good_State_setSlot _ _ _ _ (good_State_fresh _ h))))

/-- A request that may have to wait is issued, or it is not. -/

theorem good_State_issueUnless (s : State) (c : Bool) (w : SlotWait) (h : Good q P s) (t : State)
    (e : (if c = true then none else s.issueNow w) = some t) : Good q P t := by
  cases c with
  | false => exact good_State_issueNow s w h t (by simpa using e)
  | true => simp at e

theorem good_State_issue (s : State) (owner : ReqOwner) (gen dest op : Nat) (twoPhase : Bool) (cmd data : List Byte) (long : Bool)
    (h : Good q P s) : Good q P (s.issue owner gen dest op twoPhase cmd data long).1 := by
  have hf : Good q P (if twoPhase then s.fresh else s) := good_ite (fun _ => good_State_fresh _ h) fun _ => h
  unfold State.issue
  dsimp only
  split
  · exact h
  · split
    · rename_i t e
      exact good_State_issueUnless _ _ _ hf _ e
    · exact good_mk (good_parts hf)

theorem good_State_writeCollRecord (s : State) (g : Nat) (c : Coll) (st : Status) (cycles : Nat)  (h
    : Good q Canon s) : Good q Canon (State.writeCollRecord s g c st cycles) := by
  unfold State.writeCollRecord; try dsimp only
  repeat' (first | with_reducible assumption | intro _ | with_reducible apply good_State_serve
                 | with_reducible apply good_State_countColl | with_reducible apply good_State_ev
                 | with_reducible apply good_State_issue | split)

theorem good_State_setGroup (s : State) (g : Nat) (x_2 : Group)  (h : Good q P s) : Good q P (State.setGroup
    s g x_2) := by
  unfold State.setGroup; try dsimp only
  repeat' (first | with_reducible assumption | intro _ | split
                 | fail_if_no_progress (with_reducible apply good_mk; with_reducible apply good_parts))

theorem good_State_leaveColl (s : State) (g : Nat) (x_2 : Group) (st : Status)  (h : Good q P s) :
    Good q P (State.leaveColl s g x_2 st) := by
  unfold State.leaveColl; try dsimp only
  repeat' (first | with_reducible assumption | intro _ | with_reducible apply good_State_setGroup
                 | with_reducible apply good_State_setFld)

theorem good_State_failColl (s : State) (g : Nat) (st : Status) (sent : Status) (cause : Nat) (origin : Nat)
    (check : Nat) (cycles : Nat) (lost : Nat)  (h : Good q Canon s) : Good q Canon (State.failColl s g st sent cause origin check
    cycles lost) := by
  unfold State.failColl; try dsimp only
  repeat' (first | with_reducible assumption | intro _ | with_reducible apply good_State_each
                 | with_reducible apply good_State_sendColl | with_reducible apply good_State_signalErrors
                 | with_reducible apply good_State_writeCollRecord | with_reducible apply good_State_bump
                 | with_reducible apply good_State_ev | with_reducible apply good_State_setFld
                 | with_reducible apply good_State_setFlag | with_reducible apply good_State_leaveColl | split)

theorem good_State_cutColl (s : State) (g : Nat) (st : Status) (sent : Status) (cause : Nat) (origin : Nat)
    (check : Nat) (lost : Nat)  (h : Good q Canon s) : Good q Canon (State.cutColl s g st sent cause origin check lost) := by
  unfold State.cutColl; try dsimp only
  repeat' (first | with_reducible assumption | intro _ | with_reducible apply good_State_failColl
                 | with_reducible apply good_State_fresh)

theorem good_State_halt (s : State) (cause : Nat) (src : Nat) (v : Nat) (who : Nat)  (h : Good q Canon s) : Good q Canon (State.halt
    s cause src v who) := by
  unfold State.halt; try dsimp only
  repeat' (first | with_reducible assumption | intro _ | with_reducible apply good_State_setPower
                 | with_reducible apply good_State_setFlag | with_reducible apply good_State_dutySync
                 | with_reducible apply good_State_setPoint | with_reducible apply good_State_alert
                 | with_reducible apply good_State_ev | with_reducible apply good_State_each
                 | with_reducible apply good_State_cutColl | with_reducible apply good_State_failBank | split)

theorem good_State_lowPins (s : State) (h : Good q Canon s) : Good q Canon s.lowPins := by
  unfold State.lowPins
  exact good_State_when _ _ _ (fun t ht => good_State_halt _ _ _ _ _ ht) (good_State_when _ _ _ (fun t ht => good_State_brakeBy _ _ ht) h)

theorem good_State_savedCounts (s : State)  (h : Good q P s) : Good q P (State.savedCounts s) := by
  unfold State.savedCounts; try dsimp only
  repeat' (first | with_reducible assumption | intro _ | with_reducible apply good_State_setFld
                 | with_reducible apply good_State_setPair | with_reducible apply good_State_setReg | split
                 | fail_if_no_progress (with_reducible apply good_mk; with_reducible apply good_parts))

theorem good_State_powerUp (s : State) (slot : Nat)  (h : Good q Canon s) : Good q Canon (State.powerUp s slot) := by
  unfold State.powerUp; try dsimp only
  repeat' (first | with_reducible assumption | intro _ | with_reducible apply good_State_gone
                 | with_reducible apply good_State_lowPins | with_reducible apply good_State_savedCounts
                 | with_reducible apply good_State_setFld | split
                 | fail_if_no_progress (with_reducible apply good_mk; with_reducible apply good_parts))

theorem good_State_saveCounters (s : State) (shutdown : Nat)  (h : Good q P s) : Good q P (State.saveCounters s shutdown) :=
    by
  unfold State.saveCounters; try dsimp only
  repeat' (first | with_reducible assumption | intro _ | split
                 | fail_if_no_progress (with_reducible apply good_mk; with_reducible apply good_parts))

theorem good_State_setUpdate (s : State) (f : Update → Update)  (h : Good q P s) : Good
    q P (State.setUpdate s f) := by
  unfold State.setUpdate; try dsimp only
  repeat' (first | with_reducible assumption | intro _ | split
                 | fail_if_no_progress (with_reducible apply good_mk; with_reducible apply good_parts))

theorem good_State_activationDue (s : State)  (h : Good q Canon s) : Good q Canon (State.activationDue s) := by
  unfold State.activationDue; try dsimp only
  repeat' (first | with_reducible assumption | intro _ | with_reducible apply good_State_powerUp
                 | with_reducible apply good_State_saveCounters | with_reducible apply good_State_setUpdate
                 | with_reducible apply good_State_setFlag | with_reducible apply good_State_ev | split)

theorem good_State_save (s : State) (w : Who) (a : Nat) (bs : List Byte) (h : Good q Canon s) : Good q Canon (s.save w a bs).1 := by
  unfold State.save
  refine good_fold_fst _ _ ?_ _ h
  intro t y ht p
  dsimp only
  split
  · exact good_State_writeBytes _ _ _ (good_State_logFirst _ _ _ _ ht)
  · exact ht

theorem good_State_writeHere (s : State) (p : Nat) (job : Nat) (slot : Nat) (a : Nat) (bs : List Byte)  (h : Good q Canon
    s) : Good q Canon (State.writeHere s p job slot a bs) := by
  unfold State.writeHere; try dsimp only
  repeat' (first | with_reducible assumption | intro _ | with_reducible apply good_State_save
                 | with_reducible apply good_State_faultFiring | split)

theorem good_State_sendTile (s : State) (p : Nat) (tile : Nat) (job : Nat) (dest : Nat) (owner : Run →
    ReqOwner) (ps : List (Nat × Nat × Nat × List Byte))  (h : Good q P s) : Good q P (State.sendTile s
    p tile job dest owner ps) := by
  unfold State.sendTile; try dsimp only
  repeat' (first | with_reducible assumption | intro _ | with_reducible apply good_State_setPart
                 | with_reducible apply good_State_each | with_reducible apply good_State_issue
                 | with_reducible apply good_State_accessDone | split)

theorem good_State_writeAway (s : State) (p : Nat) (tile : Nat) (job : Nat) (slot : Nat) (a : Nat) (bs : List Byte)  (h :
    Good q P s) : Good q P (State.writeAway s p tile job slot a bs) := by
  unfold State.writeAway; try dsimp only
  repeat' (first | with_reducible assumption | intro _ | with_reducible apply good_State_sendTile
                 | with_reducible apply good_State_setPart | split)

theorem good_State_writeOut (s : State) (p : Nat) (tile : Nat) (job : Nat) (slot : Nat) (a : Nat) (bs : List Byte)  (h :
    Good q Canon s) : Good q Canon (State.writeOut s p tile job slot a bs) := by
  unfold State.writeOut; try dsimp only
  repeat' (first | with_reducible assumption | intro _ | with_reducible apply good_State_writeHere
                 | with_reducible apply good_State_writeAway | split)

theorem good_State_writeEntries (s : State) (p : Nat) (tile : Nat)  (h : Good q Canon s) : Good q Canon (State.writeEntries s p
    tile) := by
  unfold State.writeEntries; try dsimp only
  repeat' (first | with_reducible assumption | intro _ | with_reducible apply good_State_setPart
                 | with_reducible apply good_State_each | with_reducible apply good_State_writeOut | split)

theorem good_State_releaseTile (s : State) (p : Nat) (tile : Nat)  (h : Good q Canon s) : Good q Canon (State.releaseTile s p
    tile) := by
  unfold State.releaseTile; try dsimp only
  repeat' (first | with_reducible assumption | intro _ | with_reducible apply good_State_writeEntries
                 | with_reducible apply good_State_setPart | split)

theorem good_State_tileAnswered (s : State) (p : Nat) (id : Nat) (tile : Nat) (slot : Nat) (by_ : Option Nat) (st : Status)
    (fl : Flags)  (h : Good q Canon s) : Good q Canon (State.tileAnswered s p id tile slot by_ st fl) := by
  unfold State.tileAnswered; try dsimp only
  repeat' (first | with_reducible assumption | intro _ | with_reducible apply good_State_accessDone
                 | with_reducible apply good_State_releaseTile | with_reducible apply good_State_setPart | split)

theorem good_State_addAnswered (s : State) (p : Nat) (id : Nat) (tile : Nat) (entry : Nat) (by_ : Option Nat) (st : Status)
    (fl : Flags)  (h : Good q Canon s) : Good q Canon (State.addAnswered s p id tile entry by_ st fl) := by
  unfold State.addAnswered; try dsimp only
  repeat' (first | with_reducible assumption | intro _ | with_reducible apply good_State_tileAnswered
                 | with_reducible apply good_State_setPart | split)

theorem good_State_tadd (s : State) (w : Who) (a : Nat) (v : Tally) (h : Good q Canon s) : Good q Canon (s.tadd w a v).1 := by
  have hl := good_State_logFirst s w a 16 h
  unfold State.tadd
  dsimp only
  split
  · split
    · exact good_State_countUe _ _ _ (good_State_rewrites _ _ hl)
    · exact good_rewritten _ _ _ _ hl
  · exact h

theorem good_State_addTile (s : State) (p : Nat) (tile : Nat) (job : Nat) (adds : List (Nat × Tally × Nat))  (h :
    Good q Canon s) : Good q Canon (State.addTile s p tile job adds) := by
  unfold State.addTile; try dsimp only
  repeat' (first | with_reducible assumption | intro _ | with_reducible apply good_State_each
                 | with_reducible apply good_State_tadd | with_reducible apply good_State_accessDone
                 | with_reducible apply good_State_setPart | with_reducible apply good_State_sendTile | split)

theorem good_State_adoptRack (s : State) (d : Nat)  (h : Good q P s) : Good q P (State.adoptRack s d) := by
  unfold State.adoptRack; try dsimp only
  repeat' (first | with_reducible assumption | intro _ | with_reducible apply good_State_setFld | split
                 | fail_if_no_progress (with_reducible apply good_mk; with_reducible apply good_parts))

theorem good_State_sendUnit (s : State) (u : Nat) (full : Bool) (delta : List Byte)  (h : Good q P s) : Good q P
    (State.sendUnit s u full delta) := by
  unfold State.sendUnit; try dsimp only
  repeat' (first | with_reducible assumption | intro _ | with_reducible apply good_State_issue | split
                 | fail_if_no_progress (with_reducible apply good_mk; with_reducible apply good_parts))

theorem good_sendRead (u : Nat) (full : Bool) (r : State × Status × List Byte) (h : Good q P r.1) : Good q P (sendRead u full r) := by
  unfold sendRead
  dsimp only
  split
  · exact good_mk (good_parts h)
  · exact good_State_sendUnit _ _ _ _ h

theorem good_State_sendDelta (s : State) (h : Good q P s) : Good q P s.sendDelta := by
  unfold State.sendDelta
  split
  · exact h
  · exact good_sendRead _ _ _ (good_State_readAs _ _ _ _ h)

theorem good_State_bankProgress (s : State)  (h : Good q P s) : Good q P (State.bankProgress s) := by
  unfold State.bankProgress; try dsimp only
  repeat' (first | with_reducible assumption | intro _ | with_reducible apply good_State_setPart | split)

theorem good_State_beginFold (s : State)  (h : Good q P s) : Good q P (State.beginFold s) := by
  unfold State.beginFold; try dsimp only
  repeat' (first | with_reducible assumption | intro _ | with_reducible apply good_State_setFld
                 | with_reducible apply good_State_sendDelta | with_reducible apply good_State_bankProgress | split
                 | fail_if_no_progress (with_reducible apply good_mk; with_reducible apply good_parts))

theorem good_State_applyStaged (s : State) (job : Nat)  (h : Good q P s) : Good q P (State.applyStaged s job) := by
  unfold State.applyStaged; try dsimp only
  repeat' (first | with_reducible assumption | intro _ | with_reducible apply good_State_setFlag
                 | with_reducible apply good_State_setFld | with_reducible apply good_State_ev | split
                 | fail_if_no_progress (with_reducible apply good_mk; with_reducible apply good_parts))

theorem good_State_releaseQuiet (s : State)  (h : Good q P s) : Good q P (State.releaseQuiet s) := by
  unfold State.releaseQuiet; try dsimp only
  repeat' (first | with_reducible assumption | intro _ | with_reducible apply good_State_setPart | split
                 | fail_if_no_progress (with_reducible apply good_mk; with_reducible apply good_parts))

theorem good_State_commitBank (s : State)  (h : Good q P s) : Good q P (State.commitBank s) := by
  unfold State.commitBank; try dsimp only
  repeat' (first | with_reducible assumption | intro _ | with_reducible apply good_State_setFld
                 | with_reducible apply good_State_logSync | with_reducible apply good_State_applyStaged
                 | with_reducible apply good_State_setFlag | with_reducible apply good_State_setReg
                 | with_reducible apply good_State_setPair | with_reducible apply good_State_releaseQuiet
                 | with_reducible apply good_State_ev | split
                 | fail_if_no_progress (with_reducible apply good_mk; with_reducible apply good_parts))

theorem good_State_sendArrive (s : State)  (h : Good q P s) : Good q P (State.sendArrive s) := by
  unfold State.sendArrive; try dsimp only
  repeat' (first | with_reducible assumption | intro _ | with_reducible apply good_State_sendBank | split)

theorem good_State_advance (n : Nat) (s : State) (h : Good q P s) : Good q P (State.advance n s) := by
  induction n generalizing s with
  | zero => exact h
  | succ n ih =>
    unfold State.advance
    dsimp only
    repeat' (first | with_reducible assumption | with_reducible apply ih | with_reducible apply good_State_beginFold
                   | with_reducible apply good_State_commitBank | with_reducible apply good_State_failBank
                   | with_reducible apply good_State_sendArrive | with_reducible apply good_State_bankProgress
                   | with_reducible apply good_State_setFld | split
                   | fail_if_no_progress (with_reducible apply good_mk; with_reducible apply good_parts))

theorem good_State_advanceGen (s : State) (g : Nat)  (h : Good q P s) : Good q P (State.advanceGen s g) := by
  unfold State.advanceGen; try dsimp only
  repeat' (first | with_reducible assumption | intro _ | with_reducible apply good_State_setFld | split
                 | fail_if_no_progress (with_reducible apply good_mk; with_reducible apply good_parts))

theorem good_State_queuePage (s : State) (d : Nat) (key : Nat) (mask : Nat) (pulled : Bool)  (h : Good q P s) : Good q P
    (State.queuePage s d key mask pulled) := by
  unfold State.queuePage; try dsimp only
  repeat' (first | with_reducible assumption | intro _ | with_reducible apply good_State_setUpdate)

theorem good_State_answerAsked (s : State) (key : Nat) (mask : Nat)  (h : Good q P s) : Good q P (State.answerAsked s key mask)
    := by
  unfold State.answerAsked; try dsimp only
  repeat' (first | with_reducible assumption | intro _ | with_reducible apply good_State_each
                 | with_reducible apply good_State_queuePage | with_reducible apply good_State_setUpdate)

theorem good_State_operandAnswered (s : State) (p : Nat) (id : Nat) (addr : Nat) (slot : Nat) (by_ : Option Nat) (st :
    Status) (fl : Flags) (data : List Byte)  (h : Good q P s) : Good q P
    (State.operandAnswered s p id addr slot by_ st fl data) := by
  unfold State.operandAnswered; try dsimp only
  repeat' (first | with_reducible assumption | intro _ | with_reducible apply good_State_accessDone
                 | with_reducible apply good_State_setPart | split)

theorem good_State_stopQueue (s : State) (p : Nat) (c : Nat) (q_3 : Nat) (st : Status)  (h : Good q P s) : Good q P
    (State.stopQueue s p c q_3 st) := by
  unfold State.stopQueue; try dsimp only
  repeat' (first | with_reducible assumption | intro _ | with_reducible apply good_State_ev
                 | with_reducible apply good_State_setFld | with_reducible apply good_State_setFlag)

theorem good_State_setSeqSlot (s : State) (n : Nat) (x_2 : SeqSlot)  (h : Good q P s) : Good q P
    (State.setSeqSlot s n x_2) := by
  unfold State.setSeqSlot; try dsimp only
  repeat' (first | with_reducible assumption | intro _ | split
                 | fail_if_no_progress (with_reducible apply good_mk; with_reducible apply good_parts))

theorem good_State_applySlot (s : State) (o : Origin) (c : SlotCmd) (p : SlotParams)
    (h : Good q P s) : Good q P (State.applySlot s o c p) := by
  unfold State.applySlot; try dsimp only
  repeat' (first | with_reducible assumption | intro _ | with_reducible apply good_State_finish
                 | with_reducible apply good_State_setSeqSlot | split)

theorem good_State_freeSeq (s : State) (p : Nat)  (h : Good q P s) : Good q P (State.freeSeq s p) := by
  unfold State.freeSeq; try dsimp only
  repeat' (first | with_reducible assumption | intro _ | with_reducible apply good_State_setPart
                 | with_reducible apply good_State_setReg | with_reducible apply good_State_setFlag
                 | with_reducible apply good_State_each | with_reducible apply good_State_applySlot)

theorem good_State_leave (s : State) (p : Nat) (r : Run) (st : Status)  (h : Good q P s) : Good q
    P (State.leave s p r st) := by
  unfold State.leave; try dsimp only
  repeat' (first | with_reducible assumption | intro _ | with_reducible apply good_State_setFld
                 | with_reducible apply good_State_stopQueue | with_reducible apply good_State_freeSeq | split)

theorem good_State_signalAnswered (s : State) (p : Nat) (id : Nat) (target : Nat) (st : Status)  (h : Good q P s) : Good
    q P (State.signalAnswered s p id target st) := by
  unfold State.signalAnswered; try dsimp only
  repeat' (first | with_reducible assumption | intro _ | with_reducible apply good_State_ev
                 | with_reducible apply good_State_leave | with_reducible apply good_State_setPart | split)

theorem good_State_countRecord (s : State) (p : Nat)  (h : Good q P s) : Good q P (State.countRecord s p) := by
  unfold State.countRecord; try dsimp only
  repeat' (first | with_reducible assumption | intro _ | with_reducible apply good_State_addPair)

theorem good_State_setDma (s : State) (n : Nat) (x_2 : DmaRun)  (h : Good q P s) : Good q P (State.setDma s
    n x_2) := by
  unfold State.setDma; try dsimp only
  repeat' (first | with_reducible assumption | intro _ | split
                 | fail_if_no_progress (with_reducible apply good_mk; with_reducible apply good_parts))

theorem good_State_dmaUnsent (s : State) (n : Nat)  (h : Good q P s) : Good q P (State.dmaUnsent s n) := by
  unfold State.dmaUnsent; try dsimp only
  repeat' (first | with_reducible assumption | intro _ | with_reducible apply good_State_setDma | split
                 | fail_if_no_progress (with_reducible apply good_mk; with_reducible apply good_parts))

end Sys2Proof.Machine
end

