-- ==== Sys2Proof/Laws/GoodOps2.lean ====
section
/-! SUPPORT. `Good` is kept by each shared operation and each meaning, part 2 of 6, callees before their callers. -/

namespace Sys2Proof.Machine

variable {q : List Instr} {P : Memory → Prop}

theorem good_State_dmaFail (s : State) (n : Nat) (q_2 : DmaReq) (st : Status)  (h : Good q P s) :
    Good q P (State.dmaFail s n q_2 st) := by
  unfold State.dmaFail; try dsimp only
  repeat' (first | with_reducible assumption | intro _ | with_reducible apply good_State_setDma
                 | with_reducible apply good_State_dmaUnsent | with_reducible apply good_State_setFld | split)

theorem good_State_dmaCompare (s : State) (n : Nat) (q_2 : DmaReq) (want : List Byte) (got : List
    Byte)  (h : Good q P s) : Good q P (State.dmaCompare s n q_2 want got) := by
  unfold State.dmaCompare; try dsimp only
  repeat' (first | with_reducible assumption | intro _ | with_reducible apply good_State_setFlag
                 | with_reducible apply good_State_add | with_reducible apply good_State_setPair
                 | with_reducible apply good_State_setDma | split)

theorem good_State_dmaSend (s : State) (n : Nat) (q_2 : DmaReq)  (h : Good q P s) : Good q P (State.dmaSend
    s n q_2) := by
  unfold State.dmaSend; try dsimp only
  repeat' (first | with_reducible assumption | intro _ | with_reducible apply good_State_setDma
                 | with_reducible apply good_State_issue | with_reducible apply good_State_dmaFail | split)

theorem good_State_dmaTake (s : State) (n : Nat) (q_2 : DmaReq) (st : Status) (fl :
    Flags) (data : List Byte)  (h : Good q P s) : Good q P (State.dmaTake s n q_2 st fl data) := by
  unfold State.dmaTake; try dsimp only
  repeat' (first | with_reducible assumption | intro _ | with_reducible apply good_State_setFld
                 | with_reducible apply good_State_dmaFail | with_reducible apply good_State_setDma
                 | with_reducible apply good_State_setPair | with_reducible apply good_State_dmaCompare
                 | with_reducible apply good_State_dmaSend | split)

theorem good_State_dmaReported (s : State) (n : Nat) (k : Nat)  (h : Good q P s) : Good q P (State.dmaReported s n k) := by
  unfold State.dmaReported; try dsimp only
  repeat' (first | with_reducible assumption | intro _ | with_reducible apply good_State_setDma
                 | with_reducible apply good_State_each | with_reducible apply good_State_finish)

theorem good_State_rebuildWrite (s : State) (b : Rebuild)  (h : Good q P s) : Good q P (State.rebuildWrite
    s b) := by
  unfold State.rebuildWrite; try dsimp only
  repeat' (first | with_reducible assumption | intro _ | with_reducible apply good_State_issue | split
                 | fail_if_no_progress (with_reducible apply good_mk; with_reducible apply good_parts))

theorem good_State_rebuildFail (s : State) (e : Status)  (h : Good q P s) : Good q P (State.rebuildFail s e) := by
  unfold State.rebuildFail; try dsimp only
  repeat' (first | with_reducible assumption | intro _ | split
                 | fail_if_no_progress (with_reducible apply good_mk; with_reducible apply good_parts))

theorem good_State_rebuildNext (s : State)  (h : Good q P s) : Good q P (State.rebuildNext s) := by
  unfold State.rebuildNext; try dsimp only
  repeat' (first | with_reducible assumption | intro _ | with_reducible apply good_State_readAs
                 | with_reducible apply good_State_each | with_reducible apply good_State_issue
                 | with_reducible apply good_State_rebuildFail | split
                 | fail_if_no_progress (with_reducible apply good_mk; with_reducible apply good_parts))

theorem good_State_bankAnswered (s : State) (kind : Nat) (src : Nat) (st : Status) (data : List Byte)  (h :
    Good q P s) : Good q P (State.bankAnswered s kind src st data) := by
  unfold State.bankAnswered; try dsimp only
  repeat' (first | with_reducible assumption | intro _ | with_reducible apply good_State_bankProgress
                 | with_reducible apply good_State_sendDelta | with_reducible apply good_State_rebuildWrite
                 | with_reducible apply good_State_rebuildNext | with_reducible apply good_State_setFld | split
                 | fail_if_no_progress (with_reducible apply good_mk; with_reducible apply good_parts))

theorem good_State_answered (s : State) (w : ReqOwner) (src : Nat) (by_ : Option Nat) (st : Status)
    (fl : Flags) (data : List Byte)  (h : Good q Canon s) : Good q Canon (State.answered s w src by_ st
    fl data) := by
  unfold State.answered; try dsimp only
  repeat' (first | with_reducible assumption | intro _ | with_reducible apply good_State_operandAnswered
                 | with_reducible apply good_State_tileAnswered | with_reducible apply good_State_addAnswered
                 | with_reducible apply good_State_signalAnswered | with_reducible apply good_State_countRecord
                 | with_reducible apply good_State_ev | with_reducible apply good_State_countColl
                 | with_reducible apply good_State_dmaTake | with_reducible apply good_State_dmaReported
                 | with_reducible apply good_State_bankAnswered | split)

theorem good_State_appendTokens (s : State) (r : Run) (d : Desc)  (h : Good q P s) :
    Good q P (State.appendTokens s r d) := by
  unfold State.appendTokens; try dsimp only
  repeat' (first | with_reducible assumption | intro _ | with_reducible apply good_State_each
                 | with_reducible apply good_State_setSeqSlot | split)

theorem good_State_writeRecord (s : State) (p : Nat) (job : Nat) (r : Run) (d : Desc) (st :
    Status) (cycles : Nat)  (h : Good q Canon s) : Good q Canon (State.writeRecord s p job r d st cycles) := by
  unfold State.writeRecord; try dsimp only
  repeat' (first | with_reducible assumption | intro _ | with_reducible apply good_State_serve
                 | with_reducible apply good_State_countRecord | with_reducible apply good_State_ev
                 | with_reducible apply good_State_issue | split)

theorem good_State_setSync (s : State) (n : Nat) (v : Nat)  (h : Good q P s) : Good q P (State.setSync s n v) := by
  unfold State.setSync; try dsimp only
  repeat' (first | with_reducible assumption | intro _ | with_reducible apply good_State_wake
                 | with_reducible apply good_State_setFld)

theorem good_State_signal (s : State) (n : Nat) (inc : Nat) (job : Option Nat)  (h : Good q P s) : Good q P (State.signal s n inc
    job).1 := by
  unfold State.signal; try dsimp only
  repeat' (first | with_reducible assumption | intro _ | with_reducible apply good_State_setSync | split)

theorem good_State_signalsHere (s : State) (p : Nat) (job : Nat) (ctx : Nat) (sigs : List (Nat × Bool × Nat × Nat))  (h : Good q P s) :
    Good q P (State.signalsHere s p job ctx sigs) := by
  unfold State.signalsHere; try dsimp only
  repeat' (first | with_reducible assumption | intro _ | with_reducible apply good_State_each
                 | with_reducible apply good_State_signal | with_reducible apply good_State_ev | split)

theorem good_State_signalsAway (s : State) (p id job ctx : Nat) (two : Bool) (sigs : List (Nat × Bool × Nat × Nat)) (h : Good q P s) :
    Good q P (s.signalsAway p id job ctx two sigs).1 := by
  unfold State.signalsAway
  refine good_fold_fst _ _ ?_ _ h
  intro t y ht x
  dsimp only
  split
  · split
    · exact ht
    · split
      · exact good_State_issue _ _ _ _ _ _ _ _ _ ht
      · exact good_State_ev _ _ _ _ _ _ (good_State_issue _ _ _ _ _ _ _ _ _ ht)
  · exact ht

theorem good_State_endFiring (s : State) (p : Nat) (r : Run) (st : Status) (cycles : Nat)  (h : Good
    q Canon s) : Good q Canon (State.endFiring s p r st cycles) := by
  unfold State.endFiring; try dsimp only
  repeat' (first | with_reducible assumption | intro _ | with_reducible apply good_State_writeRecord
                 | with_reducible apply good_State_signalsHere | with_reducible apply good_State_appendTokens
                 | with_reducible apply good_State_signalsAway | with_reducible apply good_State_leave
                 | with_reducible apply good_State_setPart | with_reducible apply good_State_signalErrors | split)

theorem good_State_cutFiring (s : State) (p : Nat) (st : Status)  (h : Good q Canon s) : Good q Canon
    (State.cutFiring s p st) := by
  unfold State.cutFiring; try dsimp only
  repeat' (first | with_reducible assumption | intro _ | with_reducible apply good_State_freeSeq
                 | with_reducible apply good_State_stopQueue | with_reducible apply good_State_endFiring
                 | with_reducible apply good_State_fresh | split)

theorem good_State_haltQueues (s : State) (c : Nat)  (h : Good q P s) : Good q P (State.haltQueues s c) := by
  unfold State.haltQueues; try dsimp only
  repeat' (first | with_reducible assumption | intro _ | with_reducible apply good_State_each
                 | with_reducible apply good_State_setFlag | split)

theorem good_State_dmaAbort (s : State) (n : Nat) (cause : Nat)  (h : Good q P s) : Good q P (State.dmaAbort s n cause) := by
  unfold State.dmaAbort; try dsimp only
  repeat' (first | with_reducible assumption | intro _ | with_reducible apply good_State_dmaUnsent
                 | with_reducible apply good_State_setDma | with_reducible apply good_State_setFld | split)

theorem good_State_contextAbort (s : State) (c : Nat) (cause : Nat) (dmaCause : Nat) (collCause : Nat)  (h : Good q Canon s) : Good
    q Canon (State.contextAbort s c cause dmaCause collCause) := by
  unfold State.contextAbort; try dsimp only
  repeat' (first | with_reducible assumption | intro _ | with_reducible apply good_State_failBank
                 | with_reducible apply good_State_cutFiring | with_reducible apply good_State_each
                 | with_reducible apply good_State_haltQueues | with_reducible apply good_State_raiseErr
                 | with_reducible apply good_State_cutColl | with_reducible apply good_State_dmaAbort
                 | with_reducible apply good_State_ev | split)

theorem good_State_unbind (s : State) (n : Nat)  (h : Good q P s) : Good q P (State.unbind s n) := by
  unfold State.unbind; try dsimp only
  repeat' (first | with_reducible assumption | intro _ | with_reducible apply good_State_setReg)

theorem good_State_sub (s : State) (f : Fld) (n : Nat)  (h : Good q P s) : Good q P (State.sub s f n) := by
  unfold State.sub; try dsimp only
  repeat' (first | with_reducible assumption | intro _ | with_reducible apply good_State_setFld)

theorem good_State_destroyGroup (s : State) (g : Nat) (cause : Nat)  (h : Good q Canon s) : Good q Canon (State.destroyGroup s g
    cause) := by
  unfold State.destroyGroup; try dsimp only
  repeat' (first | with_reducible assumption | intro _ | with_reducible apply good_State_cutColl
                 | with_reducible apply good_State_sub | with_reducible apply good_State_add
                 | with_reducible apply good_State_ev | with_reducible apply good_State_each
                 | with_reducible apply good_State_setReg | split
                 | fail_if_no_progress (with_reducible apply good_mk; with_reducible apply good_parts))

theorem good_State_setCtx (s : State) (c : Nat) (x_2 : Ctx)  (h : Good q P s) : Good q P (State.setCtx s c
    x_2) := by
  unfold State.setCtx; try dsimp only
  repeat' (first | with_reducible assumption | intro _ | split
                 | fail_if_no_progress (with_reducible apply good_mk; with_reducible apply good_parts))

theorem good_State_dropSlots (s : State) (c : Nat)  (h : Good q P s) : Good q P (State.dropSlots s c) := by
  unfold State.dropSlots; try dsimp only
  repeat' (first | with_reducible assumption | intro _ | split
                 | fail_if_no_progress (with_reducible apply good_mk; with_reducible apply good_parts))

theorem good_State_endRebuild (s : State) (b : Rebuild) (st : Status)  (h : Good q P s) : Good q
    P (State.endRebuild s b st) := by
  unfold State.endRebuild; try dsimp only
  repeat' (first | with_reducible assumption | intro _ | with_reducible apply good_State_finish
                 | with_reducible apply good_State_ev | with_reducible apply good_State_setFlag | split
                 | fail_if_no_progress (with_reducible apply good_mk; with_reducible apply good_parts))

theorem good_State_blurLog (s : State) (h : Good q Canon s) : Good q Canon s.blurLog := by
  have g := good_parts h
  unfold State.blurLog
  exact good_mk ⟨⟨Memory.write_wf _ _ _ g.1.1, g.1.2⟩, g.2⟩

theorem good_State_setRegion (s : State) (r : Nat) (st : Nat) (job : Nat) (key : Nat)  (h : Good q P s) : Good q P (State.setRegion
    s r st job key) := by
  unfold State.setRegion; try dsimp only
  repeat' (first | with_reducible assumption | intro _ | with_reducible apply good_State_setFld
                 | with_reducible apply good_State_ev)

theorem good_State_dropParity (s : State)  (h : Good q P s) : Good q P (State.dropParity s) := by
  unfold State.dropParity; try dsimp only
  repeat' (first | with_reducible assumption | intro _ | with_reducible apply good_State_each
                 | with_reducible apply good_State_setRegion | with_reducible apply good_State_setFld)

theorem good_State_freeRankTab (s : State) (j : Nat)  (h : Good q P s) : Good q P (State.freeRankTab s j) := by
  unfold State.freeRankTab; try dsimp only
  repeat' (first | with_reducible assumption | intro _ | with_reducible apply good_State_setReg | split
                 | fail_if_no_progress (with_reducible apply good_mk; with_reducible apply good_parts))

theorem good_State_releaseRanks (s : State) (job : Nat)  (h : Good q P s) : Good q P (State.releaseRanks s job) := by
  unfold State.releaseRanks; try dsimp only
  repeat' (first | with_reducible assumption | intro _ | with_reducible apply good_State_freeRankTab | split)

theorem good_State_dissolve (s : State) (cause : Nat)  (h : Good q Canon s) : Good q Canon (State.dissolve s cause) := by
  unfold State.dissolve; try dsimp only
  repeat' (first | with_reducible assumption | intro _ | with_reducible apply good_State_failBank
                 | with_reducible apply good_State_endRebuild | with_reducible apply good_State_finish
                 | with_reducible apply good_State_blurLog | with_reducible apply good_State_dropParity
                 | with_reducible apply good_State_each | with_reducible apply good_State_setReg
                 | with_reducible apply good_State_releaseRanks | with_reducible apply good_State_ev | split
                 | fail_if_no_progress (with_reducible apply good_mk; with_reducible apply good_parts))

theorem good_State_freeCtx (s : State) (c : Nat)  (h : Good q Canon s) : Good q Canon (State.freeCtx s c) := by
  unfold State.freeCtx; try dsimp only
  repeat' (first | with_reducible assumption | intro _ | with_reducible apply good_State_dropSlots
                 | with_reducible apply good_State_each | with_reducible apply good_State_setReg
                 | with_reducible apply good_State_dissolve | with_reducible apply good_State_releaseRanks
                 | with_reducible apply good_State_finish | split
                 | fail_if_no_progress (with_reducible apply good_mk; with_reducible apply good_parts))

theorem good_State_destroyContext (s : State) (c : Nat) (cause : Nat) (o : Option Origin)  (h : Good q Canon s) : Good
    q Canon (State.destroyContext s c cause o) := by
  unfold State.destroyContext; try dsimp only
  repeat' (first | with_reducible assumption | intro _ | with_reducible apply good_State_contextAbort
                 | with_reducible apply good_State_each | with_reducible apply good_State_unbind
                 | with_reducible apply good_State_destroyGroup | with_reducible apply good_State_setCtx
                 | with_reducible apply good_State_freeCtx | split)

theorem good_State_applySplit (s : State) (n : Nat)  (h : Good q Canon s) : Good q Canon (State.applySplit s n) := by
  unfold State.applySplit; try dsimp only
  repeat' (first | with_reducible assumption | intro _ | with_reducible apply good_State_each
                 | with_reducible apply good_State_destroyContext | with_reducible apply good_State_setFld
                 | with_reducible apply good_State_ev)

theorem good_State_arbGrant (s : State)  (h : Good q P s) : Good q P (State.arbGrant s) := by
  unfold State.arbGrant; try dsimp only
  repeat' (first | with_reducible assumption | intro _ | with_reducible apply good_State_addPair
                 | with_reducible apply good_State_setFld | split)

theorem good_State_nvmSync (s : State)  (h : Good q P s) : Good q P (State.nvmSync s) := by
  unfold State.nvmSync; try dsimp only
  repeat' (first | with_reducible assumption | intro _ | with_reducible apply good_State_setFld | split)

theorem good_State_nvmPut (s : State) (d : RecData)  (h : Good q P s) : Good q P (State.nvmPut s d) := by
  unfold State.nvmPut; try dsimp only
  repeat' (first | with_reducible assumption | intro _ | with_reducible apply good_State_nvmSync | split
                 | fail_if_no_progress (with_reducible apply good_mk; with_reducible apply good_parts))

theorem good_State_ashAdd (s : State) (type : Nat) (cause : Nat) (die : Nat) (unit : Nat) (engine : Nat) (column : Nat)  (h : Good q P
    s) : Good q P (State.ashAdd s type cause die unit engine column) := by
  unfold State.ashAdd; try dsimp only
  repeat' (first | with_reducible assumption | intro _ | with_reducible apply good_State_setFld
                 | with_reducible apply good_State_ev | with_reducible apply good_State_nvmPut | split
                 | fail_if_no_progress (with_reducible apply good_mk; with_reducible apply good_parts))

theorem good_State_ashStart (s : State) (type : Nat) (cause : Nat) (die : Nat) (unit : Nat) (engine : Nat) (column : Nat)  (h : Good q P
    s) : Good q P (State.ashStart s type cause die unit engine column) := by
  unfold State.ashStart; try dsimp only
  repeat' (first | with_reducible assumption | intro _ | with_reducible apply good_State_ashAdd | split
                 | fail_if_no_progress (with_reducible apply good_mk; with_reducible apply good_parts))

theorem good_State_askReset (s : State) (q_1 : ResetReq)  (h : Good q P s) : Good q P (State.askReset s
    q_1) := by
  unfold State.askReset; try dsimp only
  repeat' (first | with_reducible assumption | intro _ | split
                 | fail_if_no_progress (with_reducible apply good_mk; with_reducible apply good_parts))

theorem good_State_auditStart (s : State) (broken : Option Nat)  (h : Good q P s) : Good q P (State.auditStart s broken) := by
  unfold State.auditStart; try dsimp only
  repeat' (first | with_reducible assumption | intro _ | with_reducible apply good_State_setHead
                 | with_reducible apply good_State_setPair | with_reducible apply good_State_ev
                 | with_reducible apply good_State_setFlag | with_reducible apply good_State_auditCell
                 | with_reducible apply good_State_fresh | split)

theorem good_State_autoFinish (s : State)  (h : Good q P s) : Good q P (State.autoFinish s) := by
  unfold State.autoFinish; try dsimp only
  repeat' (first | with_reducible assumption | intro _ | with_reducible apply good_State_setFld | split)

theorem good_State_spareSync (s : State) (k : Nat)  (h : Good q P s) : Good q P (State.spareSync s k) := by
  unfold State.spareSync; try dsimp only
  repeat' (first | with_reducible assumption | intro _ | with_reducible apply good_State_setFld)

theorem good_State_mapCore (s : State) (k : Nat) (l : Nat) (p : Nat) (home : Nat)  (h : Good q P s) : Good q P (State.mapCore s k l
    p home) := by
  unfold State.mapCore; try dsimp only
  repeat' (first | with_reducible assumption | intro _ | with_reducible apply good_State_setFld
                 | with_reducible apply good_State_setFlag)

theorem good_State_makeHole (s : State) (k : Nat) (l : Nat)  (h : Good q P s) : Good q P (State.makeHole s k l) := by
  unfold State.makeHole; try dsimp only
  repeat' (first | with_reducible assumption | intro _ | with_reducible apply good_State_setFld
                 | with_reducible apply good_State_setFlag)

theorem good_State_dealOut (s : State) (p : Nat) (owners : List Nat) (done : List Nat)  (h : Good q P s) : Good q P (State.dealOut
    s p owners done) := by
  unfold State.dealOut; try dsimp only
  repeat' (first | with_reducible assumption | intro _ | with_reducible apply good_fold
                 | with_reducible apply good_fold_fst | split
                 | fail_if_no_progress (with_reducible apply good_mk; with_reducible apply good_parts))

theorem good_State_replay (s : State) (p : Nat)  (h : Good q P s) : Good q P (State.replay s p) := by
  unfold State.replay; try dsimp only
  repeat' (first | with_reducible assumption | intro _ | with_reducible apply good_State_faultFiring
                 | with_reducible apply good_State_runFlags | with_reducible apply good_State_ev
                 | with_reducible apply good_State_failBank | with_reducible apply good_State_setPart
                 | with_reducible apply good_State_dealOut | with_reducible apply good_State_bump
                 | with_reducible apply good_fold | with_reducible apply good_fold_fst | split)

theorem good_State_loseCore (s : State) (k : Nat) (p : Nat) (cause : Nat) (ashCause : Nat)  (h : Good q P s) : Good q P
    (State.loseCore s k p cause ashCause) := by
  unfold State.loseCore; try dsimp only
  repeat' (first | with_reducible assumption | intro _ | with_reducible apply good_State_ashAdd
                 | with_reducible apply good_State_setFld | with_reducible apply good_State_ev
                 | with_reducible apply good_State_spareSync | with_reducible apply good_State_setFlag
                 | with_reducible apply good_State_mapCore | with_reducible apply good_State_makeHole
                 | with_reducible apply good_State_replay | split
                 | fail_if_no_progress (with_reducible apply good_mk; with_reducible apply good_parts))

theorem good_State_loseEngine (s : State) (k : Nat) (p : Nat) (e : Nat) (count : Nat)  (h : Good q P s) : Good q P (State.loseEngine
    s k p e count) := by
  unfold State.loseEngine; try dsimp only
  repeat' (first | with_reducible assumption | intro _ | with_reducible apply good_State_ev
                 | with_reducible apply good_State_setFlag | with_reducible apply good_State_loseCore
                 | with_reducible apply good_State_ashAdd)

theorem good_State_badColumn (s : State) (k : Nat) (p : Nat) (e : Nat) (c : Nat)  (h : Good q P s) : Good q P (State.badColumn s k p
    e c) := by
  unfold State.badColumn; try dsimp only
  repeat' (first | with_reducible assumption | intro _ | with_reducible apply good_State_ashAdd
                 | with_reducible apply good_State_setFld | with_reducible apply good_State_loseEngine
                 | with_reducible apply good_State_askReset | with_reducible apply good_State_replay | split
                 | fail_if_no_progress (with_reducible apply good_mk; with_reducible apply good_parts))

theorem good_State_bankReply (s : State) (p : Packet) (op : Nat) (st : Status) (data : List
    Byte)  (h : Good q P s) : Good q P (State.bankReply s p op st data) := by
  unfold State.bankReply; try dsimp only
  repeat' (first | with_reducible assumption | intro _ | with_reducible apply good_State_inject)

theorem good_State_fold (s : State) (a : Nat) (full : Bool) (delta : List Byte)  (h : Good q Canon s) : Good q Canon
    (State.fold s a full delta).1 := by
  unfold State.fold; try dsimp only
  repeat' (first | with_reducible assumption | intro _ | with_reducible apply good_State_writeBytes
                 | with_reducible apply good_State_readAs | with_reducible apply good_State_logCopy | split
                 | fail_if_no_progress (with_reducible apply good_mk; with_reducible apply good_parts))

theorem good_State_takeDelta (s : State) (p : Packet)  (h : Good q Canon s) : Good q Canon (State.takeDelta s p)
    := by
  unfold State.takeDelta; try dsimp only
  repeat' (first | with_reducible assumption | intro _ | with_reducible apply good_State_bankReply
                 | with_reducible apply good_State_fold | split)

theorem good_State_staleBank (s : State) (p : Packet)  (h : Good q P s) : Good q P (State.staleBank s p) := by
  unfold State.staleBank; try dsimp only
  repeat' (first | with_reducible assumption | intro _ | with_reducible apply good_State_ev)

theorem good_State_takeArrive (s : State) (p : Packet)  (h : Good q P s) : Good q P (State.takeArrive s p) := by
  unfold State.takeArrive; try dsimp only
  repeat' (first | with_reducible assumption | intro _ | with_reducible apply good_State_staleBank
                 | with_reducible apply good_State_abortArrives | with_reducible apply good_State_advance | split
                 | fail_if_no_progress (with_reducible apply good_mk; with_reducible apply good_parts))

theorem good_State_takeParityRead (s : State) (p : Packet)  (h : Good q P s) : Good q P (State.takeParityRead s p)
    := by
  unfold State.takeParityRead; try dsimp only
  repeat' (first | with_reducible assumption | intro _ | with_reducible apply good_State_bankReply
                 | with_reducible apply good_State_readAs | split)

theorem good_State_takeParity (s : State) (n : Nat)  (h : Good q P s) : Good q P (State.takeParity s n) := by
  unfold State.takeParity; try dsimp only
  repeat' (first | with_reducible assumption | intro _ | with_reducible apply good_State_each
                 | with_reducible apply good_State_setRegion | with_reducible apply good_State_setFld)

theorem good_State_makeRick (s : State) (job : Nat) (p : RickParams) (table : List Nat) (state : Nat) (seq : Nat)
    (recovery : Nat)  (h : Good q P s) : Good q P (State.makeRick s job p table state seq recovery) := by
  unfold State.makeRick; try dsimp only
  repeat' (first | with_reducible assumption | intro _ | with_reducible apply good_State_takeParity
                 | with_reducible apply good_State_setFld | with_reducible apply good_State_setReg | split
                 | fail_if_no_progress (with_reducible apply good_mk; with_reducible apply good_parts))

theorem good_State_joined (s : State) (o : Origin) (p : RickParams)  (h : Good q P s) : Good q P
    (State.joined s o p) := by
  unfold State.joined; try dsimp only
  repeat' (first | with_reducible assumption | intro _ | with_reducible apply good_State_makeRick
                 | with_reducible apply good_State_finish | with_reducible apply good_State_setFld | split
                 | fail_if_no_progress (with_reducible apply good_mk; with_reducible apply good_parts))

theorem good_State_joinHello (s : State) (o : Origin) (p : RickParams) (src : Nat) (h_4 :
    RickHello)  (h : Good q P s) : Good q P (State.joinHello s o p src h_4) := by
  unfold State.joinHello; try dsimp only
  repeat' (first | with_reducible assumption | intro _ | with_reducible apply good_State_finish
                 | with_reducible apply good_State_joined | split
                 | fail_if_no_progress (with_reducible apply good_mk; with_reducible apply good_parts))

theorem good_State_rickHello (s : State) (src : Nat) (job : Nat) (rb : Nat) (h_4 : RickHello)  (h : Good q Canon
    s) : Good q Canon (State.rickHello s src job rb h_4) := by
  unfold State.rickHello; try dsimp only
  repeat' (first | with_reducible assumption | intro _ | with_reducible apply good_State_dissolve
                 | with_reducible apply good_State_setFld | with_reducible apply good_State_ev
                 | with_reducible apply good_State_setFlag | split
                 | fail_if_no_progress (with_reducible apply good_mk; with_reducible apply good_parts))

theorem good_State_takeHello (s : State) (p : Packet)  (h : Good q Canon s) : Good q Canon (State.takeHello s p)
    := by
  unfold State.takeHello; try dsimp only
  repeat' (first | with_reducible assumption | intro _ | with_reducible apply good_State_joinHello
                 | with_reducible apply good_State_rickHello | split)

theorem good_State_takeBank (s : State) (p : Packet)  (h : Good q Canon s) : Good q Canon (State.takeBank s p) :=
    by
  unfold State.takeBank; try dsimp only
  repeat' (first | with_reducible assumption | intro _ | with_reducible apply good_State_takeDelta
                 | with_reducible apply good_State_takeArrive | with_reducible apply good_State_takeParityRead
                 | with_reducible apply good_State_takeHello | split)

theorem good_State_bankArrives (s : State) (op : Nat) (p : Packet)  (h : Good q Canon s) : Good q Canon
    (State.bankArrives s op p) := by
  unfold State.bankArrives; try dsimp only
  repeat' (first | with_reducible assumption | intro _ | with_reducible apply good_State_takeBank | split)

theorem good_State_bankRegs (s : State)  (h : Good q P s) : Good q P (State.bankRegs s) := by
  unfold State.bankRegs; try dsimp only
  repeat' (first | with_reducible assumption | intro _ | with_reducible apply good_State_setFlag
                 | with_reducible apply good_State_setFld)

theorem good_State_becomeRoot (s : State)  (h : Good q P s) : Good q P (State.becomeRoot s) := by
  unfold State.becomeRoot; try dsimp only
  repeat' (first | with_reducible assumption | intro _ | with_reducible apply good_State_setFld)

theorem good_State_putColl (s : State) (g : Nat) (x_2 : Group) (c : Coll)  (h : Good q P
    s) : Good q P (State.putColl s g x_2 c) := by
  unfold State.putColl; try dsimp only
  repeat' (first | with_reducible assumption | intro _ | with_reducible apply good_State_setFld
                 | with_reducible apply good_State_setGroup)

theorem good_State_grant (s : State) (g : Nat) (x_2 : Group) (c : Coll) (rev : Bool) (n :
    Nat)  (h : Good q P s) : Good q P (State.grant s g x_2 c rev n) := by
  unfold State.grant; try dsimp only
  repeat' (first | with_reducible assumption | intro _ | with_reducible apply good_State_sendColl)

theorem good_State_beginAxis (s : State) (g : Nat) (x_2 : Group) (c : Coll) (ph :
    CollPhase) (a : Nat)  (h : Good q P s) : Good q P (State.beginAxis s g x_2 c ph a) := by
  unfold State.beginAxis; try dsimp only
  repeat' (first | with_reducible assumption | intro _ | with_reducible apply good_State_putColl
                 | with_reducible apply good_State_each | with_reducible apply good_State_grant | split)

theorem good_State_beginBank (s : State) (p : Nat)  (h : Good q P s) : Good q P (State.beginBank s p) := by
  unfold State.beginBank; try dsimp only
  repeat' (first | with_reducible assumption | intro _ | with_reducible apply good_State_setFld | split
                 | fail_if_no_progress (with_reducible apply good_mk; with_reducible apply good_parts))

theorem good_State_capture (s : State) (fault : Option Nat) (level : Nat) (cause : Nat) (part : Nat) (ctx : Option (Nat × Nat)) (unit :
    Option Domain)  (h : Good q P s) : Good q P (State.capture s fault level cause part ctx unit).1 := by
  unfold State.capture; try dsimp only
  repeat' (first | with_reducible assumption | intro _ | with_reducible apply good_State_setFld
                 | with_reducible apply good_State_setReg | with_reducible apply good_State_bump | split
                 | fail_if_no_progress (with_reducible apply good_mk; with_reducible apply good_parts))

theorem good_State_snapBegin (s : State) (r : Reset)  (h : Good q P s) : Good q P (State.snapBegin s r).1
    := by
  unfold State.snapBegin; try dsimp only
  repeat' (first | with_reducible assumption | intro _ | with_reducible apply good_State_setFlag
                 | with_reducible apply good_State_ev | with_reducible apply good_State_bump
                 | with_reducible apply good_State_setFld | split
                 | fail_if_no_progress (with_reducible apply good_mk; with_reducible apply good_parts))

theorem good_State_remap (s : State) (k : Nat) (p : Nat) (e : Nat)  (h : Good q P s) : Good q P (State.remap s k p e) := by
  unfold State.remap; try dsimp only
  repeat' (first | with_reducible assumption | intro _ | with_reducible apply good_State_setFld
                 | with_reducible apply good_State_ev | with_reducible apply good_State_setFlag | split)

theorem good_State_resetMap (s : State) (d : Domain)  (h : Good q P s) : Good q P (State.resetMap s d) :=
    by
  unfold State.resetMap; try dsimp only
  repeat' (first | with_reducible assumption | intro _ | with_reducible apply good_State_remap | split)

theorem good_State_rstSync (s : State)  (h : Good q P s) : Good q P (State.rstSync s) := by
  unfold State.rstSync; try dsimp only
  repeat' (first | with_reducible assumption | intro _ | with_reducible apply good_State_setFlag
                 | with_reducible apply good_State_setFld | with_reducible apply good_State_each)

theorem good_State_reap (s : State) (n : Nat)  (h : Good q Canon s) : Good q Canon (State.reap s n) := by
  unfold State.reap; try dsimp only
  repeat' (first | with_reducible assumption | intro _ | with_reducible apply good_State_unbind
                 | with_reducible apply good_State_freeCtx | split)

theorem good_State_giveTimer (s : State) (die : Nat)  (h : Good q P s) : Good q P (State.giveTimer s die) := by
  unfold State.giveTimer; try dsimp only
  repeat' (first | with_reducible assumption | intro _ | with_reducible apply good_State_setFld)

theorem good_State_dmaRelease (s : State) (n : Nat)  (h : Good q P s) : Good q P (State.dmaRelease s n) := by
  unfold State.dmaRelease; try dsimp only
  repeat' (first | with_reducible assumption | intro _ | with_reducible apply good_State_giveTimer | split)

theorem good_State_dmaReport (s : State) (n : Nat)  (h : Good q P s) : Good q P (State.dmaReport s n) := by
  unfold State.dmaReport; try dsimp only
  repeat' (first | with_reducible assumption | intro _ | with_reducible apply good_State_setDma
                 | with_reducible apply good_State_finish | with_reducible apply good_State_each | split)

theorem good_State_dmaHalt (s : State) (n : Nat)  (h : Good q P s) : Good q P (State.dmaHalt s n) := by
  unfold State.dmaHalt; try dsimp only
  repeat' (first | with_reducible assumption | intro _ | with_reducible apply good_State_dmaRelease
                 | with_reducible apply good_State_setFld | with_reducible apply good_State_setPair
                 | with_reducible apply good_State_ev | with_reducible apply good_State_raiseErr
                 | with_reducible apply good_State_dmaReport | split)

theorem good_State_dmaChipReset (s : State)  (h : Good q Canon s) : Good q Canon (State.dmaChipReset s) := by
  unfold State.dmaChipReset; try dsimp only
  repeat' (first | with_reducible assumption | intro _ | with_reducible apply good_State_each
                 | with_reducible apply good_State_reap | with_reducible apply good_State_dmaHalt
                 | with_reducible apply good_State_setDma | with_reducible apply good_State_dmaUnsent | split)

theorem good_State_discardWaiting (s : State) (d : Domain)  (h : Good q P s) : Good q P
    (State.discardWaiting s d) := by
  unfold State.discardWaiting; try dsimp only
  repeat' (first | with_reducible assumption | intro _ | with_reducible apply good_State_each
                 | with_reducible apply good_State_dmaReported | split
                 | fail_if_no_progress (with_reducible apply good_mk; with_reducible apply good_parts))

theorem good_State_resetEnds (s : State) (q_1 : ResetReq) (d : Domain)  (h : Good q
    Canon s) : Good q Canon (State.resetEnds s q_1 d) := by
  unfold State.resetEnds; try dsimp only
  repeat' (first | with_reducible assumption | intro _ | with_reducible apply good_State_when
                 | with_reducible apply good_State_dmaChipReset | with_reducible apply good_State_each
                 | with_reducible apply good_State_contextAbort | with_reducible apply good_State_destroyGroup
                 | with_reducible apply good_State_discardWaiting | with_reducible apply good_State_applySplit | split)

theorem good_State_beginReset (s : State) (q_1 : ResetReq) (d : Domain)  (h : Good q
    Canon s) : Good q Canon (State.beginReset s q_1 d) := by
  unfold State.beginReset; try dsimp only
  repeat' (first | with_reducible assumption | intro _ | with_reducible apply good_State_capture
                 | with_reducible apply good_State_ev | with_reducible apply good_State_bump
                 | with_reducible apply good_State_snapBegin | with_reducible apply good_State_resetMap
                 | with_reducible apply good_State_rstSync | with_reducible apply good_State_resetEnds | split
                 | fail_if_no_progress (with_reducible apply good_mk; with_reducible apply good_parts))

theorem good_State_beginRollback (s : State) (o : Origin) (t : Nat)  (h : Good q Canon s) : Good q Canon
    (State.beginRollback s o t) := by
  unfold State.beginRollback; try dsimp only
  repeat' (first | with_reducible assumption | intro _ | with_reducible apply good_State_each
                 | with_reducible apply good_State_contextAbort | with_reducible apply good_State_failBank
                 | with_reducible apply good_State_commitBank | with_reducible apply good_State_finish
                 | with_reducible apply good_State_setFld | split
                 | fail_if_no_progress (with_reducible apply good_mk; with_reducible apply good_parts))

theorem good_State_setNvm (s : State) (f : Nvm → Nvm)  (h : Good q P s) : Good q P
    (State.setNvm s f) := by
  unfold State.setNvm; try dsimp only
  repeat' (first | with_reducible assumption | intro _ | split
                 | fail_if_no_progress (with_reducible apply good_mk; with_reducible apply good_parts))

theorem good_State_keepPage (s : State) (version : Nat) (page : Nat) (b : List Byte)  (h : Good q P s) : Good q P
    (State.keepPage s version page b) := by
  unfold State.keepPage; try dsimp only
  repeat' (first | with_reducible assumption | intro _ | with_reducible apply good_State_setUpdate
                 | with_reducible apply good_State_setFld | split)

theorem good_State_beginStaging (s : State) (m : List Byte) (via : Nat)  (h : Good q P s) : Good q P
    (State.beginStaging s m via) := by
  unfold State.beginStaging; try dsimp only
  repeat' (first | with_reducible assumption | intro _ | with_reducible apply good_State_setNvm
                 | with_reducible apply good_State_setUpdate | with_reducible apply good_State_setFld
                 | with_reducible apply good_State_setFlag | with_reducible apply good_State_keepPage
                 | with_reducible apply good_State_setReg)

theorem good_State_botResult (s : State) (reason : Nat) (st : Status)  (h : Good q P s) : Good q P (State.botResult
    s reason st) := by
  unfold State.botResult; try dsimp only
  repeat' (first | with_reducible assumption | intro _ | with_reducible apply good_State_setFld)

theorem good_State_brakeOver (s : State)  (h : Good q P s) : Good q P (State.brakeOver s) := by
  unfold State.brakeOver; try dsimp only
  repeat' (first | with_reducible assumption | intro _ | with_reducible apply good_State_setPower
                 | with_reducible apply good_State_setFlag | with_reducible apply good_State_dutySync
                 | with_reducible apply good_State_ev | split)

theorem good_State_busyColl (s : State) (g : Nat) (x_2 : Group) (c : Coll)  (h : Good q P
    s) : Good q P (State.busyColl s g x_2 c) := by
  unfold State.busyColl; try dsimp only
  repeat' (first | with_reducible assumption | intro _ | with_reducible apply good_State_putColl
                 | with_reducible apply good_State_setFld)

theorem good_State_capSync (s : State)  (h : Good q P s) : Good q P (State.capSync s) := by
  unfold State.capSync; try dsimp only
  repeat' (first | with_reducible assumption | intro _ | with_reducible apply good_State_setFlag
                 | with_reducible apply good_State_setFld | with_reducible apply good_State_ev | split)

theorem good_State_capControl (s : State)  (h : Good q P s) : Good q P (State.capControl s) := by
  unfold State.capControl; try dsimp only
  repeat' (first | with_reducible assumption | intro _ | with_reducible apply good_State_capSync
                 | with_reducible apply good_State_dutySync | with_reducible apply good_State_setPower
                 | with_reducible apply good_State_fresh | with_reducible apply good_State_setFlag
                 | with_reducible apply good_State_alert | with_reducible apply good_State_ev | split)

theorem good_State_refill (s : State) (p : Nat)  (h : Good q P s) : Good q P (State.refill s p) := by
  unfold State.refill; try dsimp only
  repeat' (first | with_reducible assumption | intro _ | split
                 | fail_if_no_progress (with_reducible apply good_mk; with_reducible apply good_parts))

theorem good_State_charge (s : State) (p : Nat) (c : Nat) (q_3 : Nat)  (h : Good q P s) : Good q P (State.charge s p c q_3) := by
  unfold State.charge; try dsimp only
  repeat' (first | with_reducible assumption | intro _ | with_reducible apply good_State_refill
                 | with_reducible apply good_State_setPart | with_reducible apply good_State_setCtx | split)

theorem good_State_keepHead (s : State) (r : Run) (x_2 : Ctx) (bs : List Byte)
    (h : Good q P s) : Good q P (State.keepHead s r x_2 bs) := by
  unfold State.keepHead; try dsimp only
  repeat' (first | with_reducible assumption | intro _ | with_reducible apply good_State_setCtx)

theorem good_State_refuseFiring (s : State) (p : Nat) (r : Run) (f : FireFault)  (h : Good
    q Canon s) : Good q Canon (State.refuseFiring s p r f) := by
  unfold State.refuseFiring; try dsimp only
  repeat' (first | with_reducible assumption | intro _ | with_reducible apply good_State_endFiring
                 | with_reducible apply good_State_fresh)

theorem good_State_failCheck (s : State) (p : Nat) (r : Run) (f : Fail)  (h : Good q Canon
    s) : Good q Canon (State.failCheck s p r f) := by
  unfold State.failCheck; try dsimp only
  repeat' (first | with_reducible assumption | intro _ | with_reducible apply good_State_refuseFiring
                 | with_reducible apply good_State_ev | with_reducible apply good_State_bump)

theorem good_State_checkFiring (s : State) (p : Nat) (r : Run) (x_3 : Ctx) (bs : List
    Byte)  (h : Good q Canon s) : Good q Canon (State.checkFiring s p r x_3 bs) := by
  unfold State.checkFiring; try dsimp only
  repeat' (first | with_reducible assumption | intro _ | with_reducible apply good_State_freeSeq
                 | with_reducible apply good_State_keepHead | with_reducible apply good_State_charge
                 | with_reducible apply good_State_setPart | with_reducible apply good_State_refuseFiring
                 | with_reducible apply good_State_failCheck | split)

theorem good_State_choosePoint (allowed : List Nat) (s : State)  (h : Good q P s) : Good q P (State.choosePoint allowed s) :=
    by
  unfold State.choosePoint; try dsimp only
  repeat' (first | with_reducible assumption | intro _ | with_reducible apply good_State_dutySync
                 | with_reducible apply good_State_setPoint | with_reducible apply good_fold
                 | with_reducible apply good_fold_fst | split)

theorem good_State_quarantine (s : State) (d : Nat) (cause : Nat)  (h : Good q P s) : Good q P (State.quarantine s d cause) :=
    by
  unfold State.quarantine; try dsimp only
  repeat' (first | with_reducible assumption | intro _ | with_reducible apply good_State_setPort
                 | with_reducible apply good_State_ev | with_reducible apply good_State_setPortState)

theorem good_State_putOnPort (s : State) (d : Nat) (p : Packet)  (h : Good q P s) : Good q P (State.putOnPort s d p)
    := by
  unfold State.putOnPort; try dsimp only
  repeat' (first | with_reducible assumption | intro _ | with_reducible apply good_State_send
                 | with_reducible apply good_State_setPort)

theorem good_State_sendIdentity (s : State) (d : Nat)  (h : Good q P s) : Good q P (State.sendIdentity s d) := by
  unfold State.sendIdentity; try dsimp only
  repeat' (first | with_reducible assumption | intro _ | with_reducible apply good_State_putOnPort)

theorem good_State_saveLanes (s : State) (d : Nat)  (h : Good q P s) : Good q P (State.saveLanes s d) := by
  unfold State.saveLanes; try dsimp only
  repeat' (first | with_reducible assumption | intro _ | with_reducible apply good_State_nvmPut
                 | with_reducible apply good_State_fresh | split)

theorem good_State_comeUp (s : State) (d : Nat)  (h : Good q P s) : Good q P (State.comeUp s d) := by
  unfold State.comeUp; try dsimp only
  repeat' (first | with_reducible assumption | intro _ | with_reducible apply good_State_ev
                 | with_reducible apply good_State_setPortState | with_reducible apply good_State_adoptRack
                 | with_reducible apply good_State_retryWaiting | with_reducible apply good_State_retime
                 | with_reducible apply good_State_saveLanes)

theorem good_State_heldSwap (s : State) (d : Nat) (partner : Nat) (id : Nat) (dim : Nat)  (h : Good q P s) : Good q P
    (State.heldSwap s d partner id dim) := by
  unfold State.heldSwap; try dsimp only
  repeat' (first | with_reducible assumption | intro _ | with_reducible apply good_State_setPort
                 | with_reducible apply good_State_ev | with_reducible apply good_State_setPortState)

theorem good_State_classify (s : State) (d : Nat) (id : Nat) (valid : Bool) (dim : Nat) (verdict : Nat)  (h : Good q P s) : Good q P
    (State.classify s d id valid dim verdict) := by
  unfold State.classify; try dsimp only
  repeat' (first | with_reducible assumption | intro _ | with_reducible apply good_State_quarantine
                 | with_reducible apply good_State_sendIdentity | with_reducible apply good_State_setPort
                 | with_reducible apply good_State_comeUp | with_reducible apply good_State_heldSwap | split)

theorem good_State_clearCores (s : State) (ps : List (Nat × Nat)) (engine : Option Nat)  (h : Good q P s) : Good q P
    (State.clearCores s ps engine) := by
  unfold State.clearCores; try dsimp only
  repeat' (first | with_reducible assumption | intro _ | with_reducible apply good_fold
                 | with_reducible apply good_fold_fst | split
                 | fail_if_no_progress (with_reducible apply good_mk; with_reducible apply good_parts))

theorem filterRegs_canon (t : Tbl Word) (p : Nat × Word → Bool) (h : tsorted t = true ∧ ∀ x ∈ t, x.2 ≠ regReset x.1) :
    tsorted (t.filter p) = true ∧ ∀ x ∈ t.filter p, x.2 ≠ regReset x.1 :=
  ⟨filter_sorted _ _ h.1, fun x hx => h.2 x (List.mem_filter.1 hx).1⟩

theorem good_State_clearDma (s : State) (h : Good q P s) : Good q P s.clearDma := by
  have g := good_parts h
  unfold State.clearDma
  refine good_State_each _ _ _ (fun t ht f => good_State_setFld _ _ _ ht) ?_
  exact good_mk ⟨⟨g.1.1, filterRegs_canon _ _ g.1.2.1, g.1.2.2⟩, g.2⟩

theorem good_State_clearHwms (s : State)  (h : Good q P s) : Good q P (State.clearHwms s) := by
  unfold State.clearHwms; try dsimp only
  repeat' (first | with_reducible assumption | intro _ | with_reducible apply good_State_each
                 | with_reducible apply good_State_setFld)

theorem good_State_clearPairs (s : State) (lo : Nat) (hi : Nat)  (h : Good q P s) : Good q P (State.clearPairs s lo hi) := by
  unfold State.clearPairs; try dsimp only
  repeat' (first | with_reducible assumption | intro _ | split
                 | fail_if_no_progress (with_reducible apply good_mk; with_reducible apply good_parts))

theorem good_State_clearRange (s : State) (lo hi : Nat) (h : Good q P s) : Good q P (s.clearRange lo hi) := by
  have g := good_parts h
  unfold State.clearRange
  exact good_mk ⟨⟨g.1.1, filterRegs_canon _ _ g.1.2.1, g.1.2.2⟩, g.2⟩

theorem good_State_climb (s : State) (level : Nat) (target : Nat) (cause : Nat) (fault : Option Nat) (mask : Nat)  (h : Good q P s) :
    Good q P (State.climb s level target cause fault mask) := by
  unfold State.climb; try dsimp only
  repeat' (first | with_reducible assumption | intro _ | with_reducible apply good_State_ev
                 | with_reducible apply good_State_setFlag | with_reducible apply good_State_askReset | split)

theorem good_State_setSess (s : State) (i : Nat) (x_2 : Session)  (h : Good q P s) : Good q P (State.setSess
    s i x_2) := by
  unfold State.setSess; try dsimp only
  repeat' (first | with_reducible assumption | intro _ | split
                 | fail_if_no_progress (with_reducible apply good_mk; with_reducible apply good_parts))

theorem good_State_freeTimer (i : Nat) (s : State) (f : Nat)  (h : Good q P s) : Good q P (State.freeTimer i s f) := by
  unfold State.freeTimer; try dsimp only
  repeat' (first | with_reducible assumption | intro _ | with_reducible apply good_State_setSess
                 | with_reducible apply good_State_add | with_reducible apply good_State_sub | split)

theorem good_State_freeSess (s : State) (i : Nat)  (h : Good q P s) : Good q P (State.freeSess s i) := by
  unfold State.freeSess; try dsimp only
  repeat' (first | with_reducible assumption | intro _ | with_reducible apply good_State_each
                 | with_reducible apply good_State_freeTimer | with_reducible apply good_State_setFld
                 | with_reducible apply good_State_sub | split
                 | fail_if_no_progress (with_reducible apply good_mk; with_reducible apply good_parts))

theorem good_State_closeIfDone (s : State) (i : Nat)  (h : Good q P s) : Good q P (State.closeIfDone s i) := by
  unfold State.closeIfDone; try dsimp only
  repeat' (first | with_reducible assumption | intro _ | with_reducible apply good_State_freeSess
                 | with_reducible apply good_State_ev | split)

theorem good_State_countTx (s : State) (port : Nat)  (h : Good q P s) : Good q P (State.countTx s port) := by
  unfold State.countTx; try dsimp only
  repeat' (first | with_reducible assumption | intro _ | with_reducible apply good_State_addPair | split)

theorem good_State_sendAnswer (s : State) (port : Nat) (a : HelloAnswer)  (h : Good q P s) : Good q P
    (State.sendAnswer s port a) := by
  unfold State.sendAnswer; try dsimp only
  repeat' (first | with_reducible assumption | intro _ | with_reducible apply good_State_send
                 | with_reducible apply good_State_countTx)

theorem good_State_refuseHandshake (s : State) (i : Nat)  (h : Good q P s) : Good q P (State.refuseHandshake s i) := by
  unfold State.refuseHandshake; try dsimp only
  repeat' (first | with_reducible assumption | intro _ | with_reducible apply good_State_sendAnswer
                 | with_reducible apply good_State_fresh)

theorem good_State_sendHostNow (s : State) (i : Nat) (type : Nat) (seq : Nat) (body : List Byte) (again : Bool)  (h :
    Good q P s) : Good q P (State.sendHostNow s i type seq body again) := by
  unfold State.sendHostNow; try dsimp only
  repeat' (first | with_reducible assumption | intro _ | with_reducible apply good_State_send
                 | with_reducible apply good_State_countTx | with_reducible apply good_State_setSess)

theorem good_State_closeKey (s : State) (slot : Nat)  (h : Good q P s) : Good q P (State.closeKey s slot).1 := by
  unfold State.closeKey; try dsimp only
  repeat' (first | with_reducible assumption | intro _ | with_reducible apply good_State_each
                 | with_reducible apply good_State_freeSess | with_reducible apply good_State_refuseHandshake
                 | with_reducible apply good_State_sendHostNow | split)

theorem good_State_retrySlots (s : State) (h : Good q P s) : Good q P s.retrySlots := by
  unfold State.retrySlots
  refine good_State_each _ _ _ ?_ (good_mk (good_parts h))
  intro t ht w
  split
  · rename_i u e
    split at e
    · cases e
    · exact good_State_issueNow _ _ ht _ e
  · exact good_mk (good_parts ht)

theorem good_State_endSlot (s : State) (die : Nat) (n : Nat)  (h : Good q P s) : Good q P (State.endSlot s die n) := by
  unfold State.endSlot; try dsimp only
  repeat' (first | with_reducible assumption | intro _ | with_reducible apply good_State_retrySlots
                 | with_reducible apply good_State_sub | with_reducible apply good_State_setSlot)

theorem good_State_closeSlot (s : State) (die : Nat) (n : Nat) (by_ : Option Nat) (st : Status) (fl : Flags)
    (data : List Byte)  (h : Good q Canon s) : Good q Canon (State.closeSlot s die n by_ st fl data) := by
  unfold State.closeSlot; try dsimp only
  repeat' (first | with_reducible assumption | intro _ | with_reducible apply good_State_answered
                 | with_reducible apply good_State_endSlot | split)

theorem good_State_putReset (s : State) (r : Reset)  (h : Good q P s) : Good q P (State.putReset s r) :=
    by
  unfold State.putReset; try dsimp only
  repeat' (first | with_reducible assumption | intro _ | split
                 | fail_if_no_progress (with_reducible apply good_mk; with_reducible apply good_parts))

theorem good_State_closeSnapshot (s : State) (r : Reset) (whole : Bool) (silent : List (Nat × Nat))  (h : Good
    q Canon s) : Good q Canon (State.closeSnapshot s r whole silent) := by
  unfold State.closeSnapshot; try dsimp only
  repeat' (first | with_reducible assumption | intro _ | with_reducible apply good_State_each
                 | with_reducible apply good_State_writeBytes | with_reducible apply good_State_putReset
                 | with_reducible apply good_State_setFld | with_reducible apply good_State_setFlag
                 | with_reducible apply good_State_ev | split
                 | fail_if_no_progress (with_reducible apply good_mk; with_reducible apply good_parts))

theorem good_State_closeSteps (s : State) (g : Nat) (x_2 : Group) (c : Coll)  (h : Good q
    Canon s) : Good q Canon (State.closeSteps s g x_2 c) := by
  unfold State.closeSteps; try dsimp only
  repeat' (first | with_reducible assumption | intro _ | with_reducible apply good_State_save
                 | with_reducible apply good_State_putColl | with_reducible apply good_State_cutColl | split)

theorem good_State_staleColl (s : State) (p : Packet)  (h : Good q P s) : Good q P (State.staleColl s p) := by
  unfold State.staleColl; try dsimp only
  repeat' (first | with_reducible assumption | intro _ | with_reducible apply good_State_ev
                 | with_reducible apply good_State_bump)

theorem good_State_takeReady (s : State) (g : Nat) (x_2 : Group) (p : Packet)  (h : Good q P s) :
    Good q P (State.takeReady s g x_2 p) := by
  unfold State.takeReady; try dsimp only
  repeat' (first | with_reducible assumption | intro _ | with_reducible apply good_State_setGroup
                 | with_reducible apply good_State_setFld | with_reducible apply good_State_sendColl | split)

theorem good_State_takeSegment (s : State) (g : Nat) (x_2 : Group) (c : Coll) (p :
    Packet)  (h : Good q P s) : Good q P (State.takeSegment s g x_2 c p) := by
  unfold State.takeSegment; try dsimp only
  repeat' (first | with_reducible assumption | intro _ | with_reducible apply good_State_staleColl
                 | with_reducible apply good_State_putColl | split)

theorem good_State_takeAbort (s : State) (g : Nat) (x_2 : Group) (p : Packet)  (h : Good q Canon
    s) : Good q Canon (State.takeAbort s g x_2 p) := by
  unfold State.takeAbort; try dsimp only
  repeat' (first | with_reducible assumption | intro _ | with_reducible apply good_State_cutColl
                 | with_reducible apply good_State_setGroup | split)

theorem good_State_takeColl (s : State) (p : Packet)  (h : Good q Canon s) : Good q Canon (State.takeColl s p) :=
    by
  unfold State.takeColl; try dsimp only
  repeat' (first | with_reducible assumption | intro _ | with_reducible apply good_State_bump
                 | with_reducible apply good_State_staleColl | with_reducible apply good_State_takeReady
                 | with_reducible apply good_State_cutColl | with_reducible apply good_State_ev
                 | with_reducible apply good_State_takeSegment | with_reducible apply good_State_setGroup
                 | with_reducible apply good_State_takeAbort | split)

theorem good_State_collArrives (s : State) (op : Nat) (p : Packet)  (h : Good q Canon s) : Good q Canon
    (State.collArrives s op p) := by
  unfold State.collArrives; try dsimp only
  repeat' (first | with_reducible assumption | intro _ | with_reducible apply good_State_takeColl | split)

theorem good_State_onColl (s : State) (g : Nat) (f : Group → Coll →
    State) (hf : ∀ y0 y1, Good q P (f y0 y1)) (h : Good q P s) : Good q P (State.onColl s g f) := by
  unfold State.onColl; try dsimp only
  repeat' (first | with_reducible assumption | intro _ | apply hf | split)

theorem good_State_collSignals (s : State) (g : Nat) (sigs : List (Nat × Bool × Nat × Nat))  (h : Good q P s) : Good q P
    (State.collSignals s g sigs) := by
  unfold State.collSignals; try dsimp only
  repeat' (first | with_reducible assumption | intro _ | with_reducible apply good_State_signalsHere
                 | with_reducible apply good_State_each | with_reducible apply good_State_issue
                 | with_reducible apply good_State_ev | split)

theorem good_State_collDone (g : Nat) (cycles : Nat) (s : State)  (h : Good q Canon s) : Good q Canon (State.collDone g cycles
    s) := by
  unfold State.collDone; try dsimp only
  repeat' (first | with_reducible assumption | intro _ | with_reducible apply good_State_onColl
                 | with_reducible apply good_State_bump | with_reducible apply good_State_writeCollRecord
                 | with_reducible apply good_State_leaveColl | with_reducible apply good_State_collSignals | split)

theorem good_State_load (s : State) (w : Who) (a : Nat) (n : Nat)  (h : Good q P s) : Good q P (State.load s w
    a n).1 := by
  unfold State.load; try dsimp only
  repeat' (first | with_reducible assumption | intro _ | with_reducible apply good_State_readBytes | split)

theorem good_State_readColl (s : State) (g : Nat) (x_2 : Group)  (h : Good q P s) : Good q P (State.readColl
    s g x_2).1 := by
  unfold State.readColl; try dsimp only
  repeat' (first | with_reducible assumption | intro _ | with_reducible apply good_State_load | split)

theorem good_State_primeColl (s : State) (g : Nat) (x_2 : Group) (c : Coll)  (h : Good q
    Canon s) : Good q Canon (State.primeColl s g x_2 c).1 := by
  unfold State.primeColl; try dsimp only
  repeat' (first | with_reducible assumption | intro _ | with_reducible apply good_State_load
                 | with_reducible apply good_State_save | split)

theorem good_State_startColl (s : State) (g : Nat) (x_2 : Group)  (h : Good q Canon s) : Good q Canon
    (State.startColl s g x_2) := by
  unfold State.startColl; try dsimp only
  repeat' (first | with_reducible assumption | intro _ | with_reducible apply good_State_readColl
                 | with_reducible apply good_State_cutColl | with_reducible apply good_State_busyColl
                 | with_reducible apply good_State_primeColl | with_reducible apply good_State_beginAxis | split)

theorem good_State_collStart (g : Nat) (s : State)  (h : Good q Canon s) : Good q Canon (State.collStart g s) := by
  unfold State.collStart; try dsimp only
  repeat' (first | with_reducible assumption | intro _ | with_reducible apply good_State_startColl | split)

theorem good_State_columnMaps (s : State) (k : Nat)  (h : Good q P s) : Good q P (State.columnMaps s k) := by
  unfold State.columnMaps; try dsimp only
  repeat' (first | with_reducible assumption | intro _ | with_reducible apply good_State_each
                 | with_reducible apply good_State_setFld | split
                 | fail_if_no_progress (with_reducible apply good_mk; with_reducible apply good_parts))

theorem good_State_ownUnits (s : State) (g : Nat) (x_2 : Group) (c : Coll) (lo : Nat) (hi :
    Nat)  (h : Good q P s) : Good q P (State.ownUnits s g x_2 c lo hi).1 := by
  unfold State.ownUnits; try dsimp only
  repeat' (first | with_reducible assumption | intro _ | with_reducible apply good_State_load | split)

theorem good_State_keepUnits (s : State) (g : Nat) (x_2 : Group) (c : Coll) (lo : Nat) (us :
    List Nat)  (h : Good q Canon s) : Good q Canon (State.keepUnits s g x_2 c lo us).1 := by
  unfold State.keepUnits; try dsimp only
  repeat' (first | with_reducible assumption | intro _ | with_reducible apply good_State_save | split)

theorem good_State_freeSlotOf (s : State) (g : Nat) (x_2 : Group) (c : Coll) (u : Nat) (rev
    : Bool) (seg : Nat)  (h : Good q P s) : Good q P (State.freeSlotOf s g x_2 c u rev seg) := by
  unfold State.freeSlotOf; try dsimp only
  repeat' (first | with_reducible assumption | intro _ | with_reducible apply good_State_putColl
                 | with_reducible apply good_State_grant | split)

end Sys2Proof.Machine
end

