-- ==== Sys2Proof/Laws/GoodOps3.lean ====
section
/-! SUPPORT. `Good` is kept by each shared operation and each meaning, part 3 of 6, callees before their callers. -/

namespace Sys2Proof.Machine

variable {q : List Instr} {P : Memory → Prop}

theorem good_State_combineAt (s : State) (g : Nat) (x_2 : Group) (c : Coll) (u : Nat) (rev :
    Bool) (seg : Nat) (lo : Nat) (hi : Nat)  (h : Good q Canon s) : Good q Canon (State.combineAt s g x_2 c u rev seg lo hi) := by
  unfold State.combineAt; try dsimp only
  repeat' (first | with_reducible assumption | intro _ | with_reducible apply good_State_ownUnits
                 | with_reducible apply good_State_cutColl | with_reducible apply good_State_putColl
                 | with_reducible apply good_State_keepUnits | with_reducible apply good_State_freeSlotOf
                 | with_reducible apply good_fold | with_reducible apply good_fold_fst | split)

theorem good_State_combine (g : Nat) (seg : Nat) (rev : Bool) (mismatch : Bool) (s : State)  (h : Good q Canon s) : Good q Canon
    (State.combine g seg rev mismatch s) := by
  unfold State.combine; try dsimp only
  repeat' (first | with_reducible assumption | intro _ | with_reducible apply good_State_onColl
                 | with_reducible apply good_State_cutColl | with_reducible apply good_State_ev
                 | with_reducible apply good_State_putColl | with_reducible apply good_State_bump
                 | with_reducible apply good_State_combineAt | split)

theorem good_State_holdTimer (i : Nat) (f : Nat) (s : State)  (h : Good q P s) : Good q P (State.holdTimer i f s) := by
  unfold State.holdTimer; try dsimp only
  repeat' (first | with_reducible assumption | intro _ | with_reducible apply good_State_setSess
                 | with_reducible apply good_State_sub | with_reducible apply good_State_add | split)

theorem good_State_pump (s : State) (i : Nat)  (h : Good q P s) : Good q P (State.pump s i) := by
  unfold State.pump; try dsimp only
  repeat' (first | with_reducible assumption | intro _ | with_reducible apply good_State_each
                 | with_reducible apply good_State_freeTimer | with_reducible apply good_State_holdTimer
                 | with_reducible apply good_State_sendHostNow | with_reducible apply good_State_setSess | split)

theorem good_State_sendHost (s : State) (i : Nat) (type : Nat) (seq : Nat) (body : List Byte) (again : Bool)  (h : Good
    q P s) : Good q P (State.sendHost s i type seq body again) := by
  unfold State.sendHost; try dsimp only
  repeat' (first | with_reducible assumption | intro _ | with_reducible apply good_State_sendHostNow
                 | with_reducible apply good_State_pump | with_reducible apply good_State_setSess | split)

theorem good_State_reply (s : State) (o : Origin) (op : Nat) (st : Status) (f : Flags) (results
    : List Byte) (data : List Byte)  (h : Good q P s) : Good q P (State.reply s o op st f results data)
    := by
  unfold State.reply; try dsimp only
  repeat' (first | with_reducible assumption | intro _ | with_reducible apply good_State_setSess
                 | with_reducible apply good_State_sendHost | split)

theorem good_State_commandDone (o : Origin) (s : State)  (h : Good q P s) : Good q P (State.commandDone o s) := by
  unfold State.commandDone; try dsimp only
  repeat' (first | with_reducible assumption | intro _ | with_reducible apply good_State_closeIfDone
                 | with_reducible apply good_State_reply | split
                 | fail_if_no_progress (with_reducible apply good_mk; with_reducible apply good_parts))

theorem good_State_does (s : State) (f : State → State) (hf : ∀ y0, Good q P y0 → Good q
    P (f y0)) (h : Good q P s) : GoodO q P (State.does s f) := by
  unfold State.does; try dsimp only
  repeat' (first | with_reducible assumption | intro _ | apply hf | with_reducible apply goodO_next | split)

theorem good_State_latchOne (s : State) (o : Nat)  (h : Good q P s) : Good q P (State.latchOne s o) := by
  unfold State.latchOne; try dsimp only
  repeat' (first | with_reducible assumption | intro _ | split
                 | fail_if_no_progress (with_reducible apply good_mk; with_reducible apply good_parts))

theorem good_State_latch (old s : State) (h : Good q P s) : Good q P (State.latch old s) := by
  unfold State.latch
  split
  · exact good_State_each _ _ _ (fun t ht x => good_State_latchOne _ _ ht) h
  · exact h

theorem good_State_giveToken (s : State) (u : Nat)  (h : Good q P s) : Good q P (State.giveToken s u) := by
  unfold State.giveToken; try dsimp only
  repeat' (first | with_reducible assumption | intro _ | with_reducible apply good_State_setFld | split
                 | fail_if_no_progress (with_reducible apply good_mk; with_reducible apply good_parts))

theorem good_State_released (s : State)  (h : Good q P s) : Good q P (State.released s) := by
  unfold State.released; try dsimp only
  repeat' (first | with_reducible assumption | intro _ | with_reducible apply good_State_each
                 | with_reducible apply good_State_setFlag)

theorem good_State_setCu (s : State) (u : Nat) (x_2 : CtlUnit)  (h : Good q P s) : Good q P (State.setCu s u
    x_2) := by
  unfold State.setCu; try dsimp only
  repeat' (first | with_reducible assumption | intro _ | split
                 | fail_if_no_progress (with_reducible apply good_mk; with_reducible apply good_parts))

theorem good_State_failUnit (s : State) (u : Nat) (cause : Nat)  (h : Good q P s) : Good q P (State.failUnit s u cause) := by
  unfold State.failUnit; try dsimp only
  repeat' (first | with_reducible assumption | intro _ | with_reducible apply good_State_setFld
                 | with_reducible apply good_State_bump | with_reducible apply good_State_setCu
                 | with_reducible apply good_State_ev | split)

theorem good_State_endSwitch (s : State) (h_1 : Hold)  (h : Good q P s) : Good q P (State.endSwitch s h_1)
    := by
  unfold State.endSwitch; try dsimp only
  repeat' (first | with_reducible assumption | intro _ | with_reducible apply good_State_giveToken
                 | with_reducible apply good_State_setFld | with_reducible apply good_State_released
                 | with_reducible apply good_State_setCu | with_reducible apply good_State_setFlag
                 | with_reducible apply good_State_bump | with_reducible apply good_State_ev
                 | with_reducible apply good_State_failUnit | split
                 | fail_if_no_progress (with_reducible apply good_mk; with_reducible apply good_parts))

theorem good_State_resume (s : State)  (h : Good q P s) : Good q P (State.resume s) := by
  unfold State.resume; try dsimp only
  repeat' (first | with_reducible assumption | intro _ | with_reducible apply good_State_endSwitch | split)

theorem good_State_commanded (s : State) (f : State → State) (hf : ∀ y0, Good q P y0 →
    Good q P (f y0)) (h : Good q P s) : GoodO q P (State.commanded s f) := by
  unfold State.commanded; try dsimp only
  repeat' (first | with_reducible assumption | intro _ | apply hf | with_reducible apply good_State_does
                 | with_reducible apply good_State_latch | with_reducible apply good_State_arbGrant
                 | with_reducible apply good_State_resume | with_reducible apply goodO_next | split)

theorem good_State_copied (u : Nat) (s : State)  (h : Good q P s) : Good q P (State.copied u s) := by
  unfold State.copied; try dsimp only
  repeat' (first | with_reducible assumption | intro _ | with_reducible apply good_State_setCu
                 | with_reducible apply good_State_setFld | split)

theorem good_State_seamSync (s : State)  (h : Good q P s) : Good q P (State.seamSync s) := by
  unfold State.seamSync; try dsimp only
  repeat' (first | with_reducible assumption | intro _ | with_reducible apply good_State_setFlag
                 | with_reducible apply good_State_setFld)

theorem good_State_spareFails (s : State) (seam : Nat) (cause : Nat)  (h : Good q P s) : Good q P (State.spareFails s seam
    cause) := by
  unfold State.spareFails; try dsimp only
  repeat' (first | with_reducible assumption | intro _ | with_reducible apply good_State_ev
                 | with_reducible apply good_State_setFld | with_reducible apply good_State_setFlag)

theorem good_State_copyAbandoned (seam : Nat) (s : State)  (h : Good q P s) : Good q P (State.copyAbandoned seam s) := by
  unfold State.copyAbandoned; try dsimp only
  repeat' (first | with_reducible assumption | intro _ | with_reducible apply good_State_setFlag
                 | with_reducible apply good_State_ev | with_reducible apply good_State_setFld
                 | with_reducible apply good_State_seamSync | with_reducible apply good_State_spareFails | split
                 | fail_if_no_progress (with_reducible apply good_mk; with_reducible apply good_parts))

theorem good_State_setLimits (s : State) (maxW : Nat) (minW : Nat)  (h : Good q P s) : Good q P (State.setLimits s maxW minW) :=
    by
  unfold State.setLimits; try dsimp only
  repeat' (first | with_reducible assumption | intro _ | with_reducible apply good_State_setFld
                 | with_reducible apply good_State_capSync)

theorem good_State_copyImage (r : StepResult) (s : State)  (h : Good q P s) : Good q P (State.copyImage r s) := by
  unfold State.copyImage; try dsimp only
  repeat' (first | with_reducible assumption | intro _ | with_reducible apply good_State_setNvm
                 | with_reducible apply good_State_ev | with_reducible apply good_State_setLimits
                 | with_reducible apply good_State_fresh | with_reducible apply good_fold
                 | with_reducible apply good_fold_fst | split
                 | fail_if_no_progress (with_reducible apply good_mk; with_reducible apply good_parts))

theorem good_State_setCore (s : State) (k : Nat) (p : Nat) (x_3 : CoreParts)  (h : Good q P s) : Good q P
    (State.setCore s k p x_3) := by
  unfold State.setCore; try dsimp only
  repeat' (first | with_reducible assumption | intro _ | split
                 | fail_if_no_progress (with_reducible apply good_mk; with_reducible apply good_parts))

theorem good_State_multicast (s : State) (k : Nat) (cluster : Nat) (mask : List Nat)  (h : Good q P s) : Good q P (State.multicast
    s k cluster mask) := by
  unfold State.multicast; try dsimp only
  repeat' (first | with_reducible assumption | intro _ | with_reducible apply good_State_storesLost)

theorem good_State_feed (s : State) (p : Nat) (n : Nat)  (h : Good q P s) : Good q P (State.feed s p n) := by
  unfold State.feed; try dsimp only
  repeat' (first | with_reducible assumption | intro _ | with_reducible apply good_State_multicast | split)

theorem good_State_coreRan (s : State) (p : Nat) (n : Nat) (u : Nat) (words : List (Nat × Nat × Nat × ℤ × Tally))  (h
    : Good q P s) : Good q P (State.coreRan s p n u words) := by
  unfold State.coreRan; try dsimp only
  repeat' (first | with_reducible assumption | intro _ | with_reducible apply good_State_setCore
                 | with_reducible apply good_State_feed | split)

theorem good_State_countLane (s : State) (d : Nat) (f : LaneFrame)  (h : Good q P s) : Good q P (State.countLane s d
    f) := by
  unfold State.countLane; try dsimp only
  repeat' (first | with_reducible assumption | intro _ | with_reducible apply good_State_add
                 | with_reducible apply good_State_bump | with_reducible apply good_State_setPort | split)

theorem good_State_countReceived (s : State) (a : Nat)  (h : Good q P s) : Good q P (State.countReceived s a) := by
  unfold State.countReceived; try dsimp only
  repeat' (first | with_reducible assumption | intro _ | with_reducible apply good_State_setFld | split
                 | fail_if_no_progress (with_reducible apply good_mk; with_reducible apply good_parts))

theorem good_State_countRx (s : State) (port : Nat)  (h : Good q P s) : Good q P (State.countRx s port) := by
  unfold State.countRx; try dsimp only
  repeat' (first | with_reducible assumption | intro _ | with_reducible apply good_State_addPair | split)

theorem good_gate (ok : Bool) (act : State → State × Status) (s : State) (hact
    : ∀ y0, Good q P y0 → Good q P (act y0).1) (h : Good q P s) : Good q P (gate ok act s).1 := by
  unfold gate; try dsimp only
  repeat' (first | with_reducible assumption | intro _ | apply hact | split)

theorem good_State_writeRW (s : State) (off : Nat) (mask : Nat) (v : Nat)  (h : Good q P s) : Good q P (State.writeRW s off mask
    v) := by
  unfold State.writeRW; try dsimp only
  repeat' (first | with_reducible assumption | intro _ | with_reducible apply good_State_setReg)

theorem good_State_takeTimer (s : State) (die : Nat)  (h : Good q P s) : Good q P (State.takeTimer s die) := by
  unfold State.takeTimer; try dsimp only
  repeat' (first | with_reducible assumption | intro _ | with_reducible apply good_State_sub)

theorem good_State_dmaBegin (s : State) (n : Nat) (value : Nat)  (h : Good q P s) : Good q P (State.dmaBegin s n value) := by
  unfold State.dmaBegin; try dsimp only
  repeat' (first | with_reducible assumption | intro _ | with_reducible apply good_State_setFld
                 | with_reducible apply good_State_dmaReport | with_reducible apply good_State_ev
                 | with_reducible apply good_State_setReg | with_reducible apply good_State_setPair
                 | with_reducible apply good_State_setFlag | with_reducible apply good_State_setDma
                 | with_reducible apply good_State_takeTimer | split)

theorem good_State_doCtrl (n : Nat) (value : Nat) (s : State)  (h : Good q P s) : Good q P (State.doCtrl n value s).1 := by
  unfold State.doCtrl; try dsimp only
  repeat' (first | with_reducible assumption | intro _ | with_reducible apply good_State_writeRW
                 | with_reducible apply good_State_dmaAbort | with_reducible apply good_State_setFld
                 | with_reducible apply good_State_dmaBegin | split)

theorem good_State_ctrlWrite (s : State) (r : Requester) (n : Nat) (value : Nat)  (h : Good q P s) : Good q P
    (State.ctrlWrite s r n value) := by
  unfold State.ctrlWrite; try dsimp only
  repeat' (first | with_reducible assumption | intro _ | with_reducible apply good_State_access
                 | with_reducible apply good_gate | with_reducible apply good_State_doCtrl)

theorem good_State_darkBranch (s : State) (d : Nat) (version : Nat)  (h : Good q P s) : Good q P (State.darkBranch s d version)
    := by
  unfold State.darkBranch; try dsimp only
  repeat' (first | with_reducible assumption | intro _ | with_reducible apply good_State_ev
                 | with_reducible apply good_State_setUpdate | split)

theorem good_State_e2eError (s : State) (p : Packet)  (h : Good q P s) : Good q P (State.e2eError s p) := by
  unfold State.e2eError; try dsimp only
  repeat' (first | with_reducible assumption | intro _ | with_reducible apply good_State_ev
                 | with_reducible apply good_State_bump)

theorem good_State_serveSignal (s : State) (p : Packet)  (h : Good q P s) : Good q P (State.serveSignal s p) := by
  unfold State.serveSignal; try dsimp only
  repeat' (first | with_reducible assumption | intro _ | with_reducible apply good_State_signal
                 | with_reducible apply good_State_inject)

theorem good_State_serveMem (s : State) (p : Packet)  (h : Good q Canon s) : Good q Canon (State.serveMem s p) :=
    by
  unfold State.serveMem; try dsimp only
  repeat' (first | with_reducible assumption | intro _ | with_reducible apply good_State_inject
                 | with_reducible apply good_State_serve | with_reducible apply good_State_countReceived | split)

theorem good_State_serveReq (s : State) (p : Packet)  (h : Good q Canon s) : Good q Canon (State.serveReq s p) :=
    by
  unfold State.serveReq; try dsimp only
  repeat' (first | with_reducible assumption | intro _ | with_reducible apply good_State_e2eError
                 | with_reducible apply good_State_serveSignal | with_reducible apply good_State_serveMem | split)

theorem good_State_staleReply (s : State) (p : Packet)  (h : Good q P s) : Good q P (State.staleReply s p) := by
  unfold State.staleReply; try dsimp only
  repeat' (first | with_reducible assumption | intro _ | with_reducible apply good_State_ev
                 | with_reducible apply good_State_bump)

theorem good_State_takeReply (s : State) (p : Packet)  (h : Good q Canon s) : Good q Canon (State.takeReply s p)
    := by
  unfold State.takeReply; try dsimp only
  repeat' (first | with_reducible assumption | intro _ | with_reducible apply good_State_closeSlot
                 | with_reducible apply good_State_staleReply | split)

theorem good_State_serveReply (s : State) (p : Packet)  (h : Good q Canon s) : Good q Canon (State.serveReply s p)
    := by
  unfold State.serveReply; try dsimp only
  repeat' (first | with_reducible assumption | intro _ | with_reducible apply good_State_takeReply
                 | with_reducible apply good_State_e2eError | split)

theorem good_State_deliver (s : State) (p : Packet)  (h : Good q Canon s) : Good q Canon (State.deliver s p) := by
  unfold State.deliver; try dsimp only
  repeat' (first | with_reducible assumption | intro _ | with_reducible apply good_State_serveReq
                 | with_reducible apply good_State_takeBank | with_reducible apply good_State_e2eError
                 | with_reducible apply good_State_serveReply | with_reducible apply good_State_takeColl
                 | with_reducible apply good_State_ev | split)

theorem good_State_deriveKeys (s : State)  (h : Good q P s) : Good q P (State.deriveKeys s) := by
  unfold State.deriveKeys; try dsimp only
  repeat' (first | with_reducible assumption | intro _ | split
                 | fail_if_no_progress (with_reducible apply good_mk; with_reducible apply good_parts))

theorem good_State_dieMaps (s : State) (k : Nat)  (h : Good q P s) : Good q P (State.dieMaps s k) := by
  unfold State.dieMaps; try dsimp only
  repeat' (first | with_reducible assumption | intro _ | with_reducible apply good_State_setFld
                 | with_reducible apply good_State_each | with_reducible apply good_State_mapCore
                 | with_reducible apply good_State_makeHole | with_reducible apply good_State_setFlag
                 | with_reducible apply good_State_spareSync | with_reducible apply good_fold
                 | with_reducible apply good_fold_fst | split)

theorem good_State_diesFound (s : State) (before : List Nat)  (h : Good q P s) : Good q P (State.diesFound s before) := by
  unfold State.diesFound; try dsimp only
  repeat' (first | with_reducible assumption | intro _ | with_reducible apply good_State_each
                 | with_reducible apply good_State_ev | with_reducible apply good_State_fresh)

theorem good_State_dmaAdvance (s : State) (n : Nat) (size : Nat)  (h : Good q P s) : Good q P (State.dmaAdvance s n size) := by
  unfold State.dmaAdvance; try dsimp only
  repeat' (first | with_reducible assumption | intro _ | with_reducible apply good_State_setDma)

theorem good_State_dmaFinish (s : State) (n : Nat)  (h : Good q P s) : Good q P (State.dmaFinish s n) := by
  unfold State.dmaFinish; try dsimp only
  repeat' (first | with_reducible assumption | intro _ | with_reducible apply good_State_dmaRelease
                 | with_reducible apply good_State_setFld | with_reducible apply good_State_ev
                 | with_reducible apply good_State_signal | with_reducible apply good_State_dmaReport
                 | with_reducible apply good_State_setDma | with_reducible apply good_State_issue
                 | with_reducible apply good_State_dmaReported | split)

theorem good_State_dmaDoneNow (n : Nat) (s : State)  (h : Good q P s) : Good q P (State.dmaDoneNow n s) := by
  unfold State.dmaDoneNow; try dsimp only
  repeat' (first | with_reducible assumption | intro _ | with_reducible apply good_State_dmaFinish | split)

theorem good_State_dmaDrainedNow (n : Nat) (s : State)  (h : Good q Canon s) : Good q Canon (State.dmaDrainedNow n s) := by
  unfold State.dmaDrainedNow; try dsimp only
  repeat' (first | with_reducible assumption | intro _ | with_reducible apply good_State_reap
                 | with_reducible apply good_State_dmaHalt | split)

theorem good_State_dmaIssue (n : Nat) (s : State)  (h : Good q P s) : Good q P (State.dmaIssue n s) := by
  unfold State.dmaIssue; try dsimp only
  repeat' (first | with_reducible assumption | intro _ | with_reducible apply good_State_dmaSend
                 | with_reducible apply good_State_dmaAdvance | split
                 | fail_if_no_progress (with_reducible apply good_mk; with_reducible apply good_parts))

theorem good_State_dmaLocal (n : Nat) (id : Nat) (s : State)  (h : Good q Canon s) : Good q Canon (State.dmaLocal n id s) := by
  unfold State.dmaLocal; try dsimp only
  repeat' (first | with_reducible assumption | intro _ | with_reducible apply good_State_serve
                 | with_reducible apply good_State_dmaTake | split)

theorem good_State_imgResult (s : State) (st : Status) (check : Nat)  (h : Good q P s) : Good q P (State.imgResult s
    st check).1 := by
  unfold State.imgResult; try dsimp only
  repeat' (first | with_reducible assumption | intro _ | with_reducible apply good_State_setFld)

theorem good_State_doActivate (force : Bool) (s : State)  (h : Good q P s) : Good q P (State.doActivate force s).1 := by
  unfold State.doActivate; try dsimp only
  repeat' (first | with_reducible assumption | intro _ | with_reducible apply good_State_imgResult
                 | with_reducible apply good_State_setFlag | with_reducible apply good_State_setNvm
                 | with_reducible apply good_State_ev | with_reducible apply good_State_setUpdate | split)

theorem good_State_writeClear (s : State) (off : Nat) (mask : Nat) (v : Nat)  (h : Good q P s) : Good q P (State.writeClear s off
    mask v) := by
  unfold State.writeClear; try dsimp only
  repeat' (first | with_reducible assumption | intro _ | with_reducible apply good_State_setReg)

theorem good_State_doAlert (v : Nat) (s : State)  (h : Good q P s) : Good q P (State.doAlert v s).1 := by
  unfold State.doAlert; try dsimp only
  repeat' (first | with_reducible assumption | intro _ | with_reducible apply good_State_alertSync
                 | with_reducible apply good_State_writeClear)

theorem good_State_doAshAdd (v : Nat) (s : State)  (h : Good q P s) : Good q P (State.doAshAdd v s).1 := by
  unfold State.doAshAdd; try dsimp only
  repeat' (first | with_reducible assumption | intro _ | with_reducible apply good_State_botResult
                 | with_reducible apply good_State_ashAdd | split)

theorem good_State_setOwn (s : State) (r : Requester) (x_2 : ReqRegs)  (h : Good q P s) : Good q
    P (State.setOwn s r x_2) := by
  unfold State.setOwn; try dsimp only
  repeat' (first | with_reducible assumption | intro _ | split
                 | fail_if_no_progress (with_reducible apply good_mk; with_reducible apply good_parts))

theorem good_State_setSel (s : State) (r : Requester) (off : Nat) (v : Nat)  (h : Good q P s) : Good q P (State.setSel
    s r off v) := by
  unfold State.setSel; try dsimp only
  repeat' (first | with_reducible assumption | intro _ | with_reducible apply good_State_setOwn)

theorem good_State_doAshSel (r : Requester) (v : Nat) (s : State)  (h : Good q P s) : Good q P (State.doAshSel r v
    s).1 := by
  unfold State.doAshSel; try dsimp only
  repeat' (first | with_reducible assumption | intro _ | with_reducible apply good_State_setSel | split)

theorem good_State_withCtx (s : State) (o : Origin) (c : Nat) (f : Ctx → State)
    (hf : ∀ y0, Good q P (f y0)) (h : Good q P s) : Good q P (State.withCtx s o c f) := by
  unfold State.withCtx; try dsimp only
  repeat' (first | with_reducible assumption | intro _ | apply hf | with_reducible apply good_State_finish | split)

theorem good_State_doAssign (o : Origin) (r : Nat) (c : Nat) (s : State)  (h : Good q P s) : Good q P (State.doAssign
    o r c s) := by
  unfold State.doAssign; try dsimp only
  repeat' (first | with_reducible assumption | intro _ | with_reducible apply good_State_finish
                 | with_reducible apply good_State_withCtx | with_reducible apply good_State_setRegion | split
                 | fail_if_no_progress (with_reducible apply good_mk; with_reducible apply good_parts))

theorem good_State_doAttest (o : Origin) (nonce : Nat) (s : State)  (h : Good q P s) : Good q P (State.doAttest o
    nonce s) := by
  unfold State.doAttest; try dsimp only
  repeat' (first | with_reducible assumption | intro _ | with_reducible apply good_State_finish
                 | with_reducible apply good_State_ev | with_reducible apply good_State_bump
                 | with_reducible apply good_State_fresh | split)

theorem good_State_doBegin (sigOk : Bool) (s : State)  (h : Good q P s) : Good q P (State.doBegin sigOk s).1 := by
  unfold State.doBegin; try dsimp only
  repeat' (first | with_reducible assumption | intro _ | with_reducible apply good_State_imgResult
                 | with_reducible apply good_State_setUpdate | with_reducible apply good_State_beginStaging | split)

theorem good_State_doBind (o : Origin) (n : Nat) (c : Nat) (s : State)  (h : Good q P s) : Good q P (State.doBind o n
    c s) := by
  unfold State.doBind; try dsimp only
  repeat' (first | with_reducible assumption | intro _ | with_reducible apply good_State_finish
                 | with_reducible apply good_State_withCtx | with_reducible apply good_State_setFld
                 | with_reducible apply good_State_setFlag | split)

theorem good_State_doWarm (s : State)  (h : Good q P s) : Good q P (State.doWarm s).1 := by
  unfold State.doWarm; try dsimp only
  repeat' (first | with_reducible assumption | intro _ | with_reducible apply good_State_botResult | split
                 | fail_if_no_progress (with_reducible apply good_mk; with_reducible apply good_parts))

theorem good_State_doForget (s : State)  (h : Good q P s) : Good q P (State.doForget s).1 := by
  unfold State.doForget; try dsimp only
  repeat' (first | with_reducible assumption | intro _ | with_reducible apply good_State_botResult
                 | with_reducible apply good_State_setNvm | with_reducible apply good_State_nvmSync | split
                 | fail_if_no_progress (with_reducible apply good_mk; with_reducible apply good_parts))

theorem good_State_doBotCmd (v : Nat) (s : State)  (h : Good q P s) : Good q P (State.doBotCmd v s).1 := by
  unfold State.doBotCmd; try dsimp only
  repeat' (first | with_reducible assumption | intro _ | with_reducible apply good_State_doWarm
                 | with_reducible apply good_State_doForget | with_reducible apply good_State_botResult | split)

theorem good_State_sourceSync (s : State)  (h : Good q P s) : Good q P (State.sourceSync s) := by
  unfold State.sourceSync; try dsimp only
  repeat' (first | with_reducible assumption | intro _ | with_reducible apply good_State_setFlag | split)

theorem good_State_doBroadcast (s : State)  (h : Good q P s) : Good q P (State.doBroadcast s).1 := by
  unfold State.doBroadcast; try dsimp only
  repeat' (first | with_reducible assumption | intro _ | with_reducible apply good_State_setUpdate
                 | with_reducible apply good_State_each | with_reducible apply good_State_queuePage
                 | with_reducible apply good_State_darkBranch | with_reducible apply good_State_imgResult
                 | with_reducible apply good_State_sourceSync | with_reducible apply good_State_setFlag | split)

theorem good_State_stagingInvalid (s : State)  (h : Good q P s) : Good q P (State.stagingInvalid s) := by
  unfold State.stagingInvalid; try dsimp only
  repeat' (first | with_reducible assumption | intro _ | with_reducible apply good_State_setNvm
                 | with_reducible apply good_State_setFld)

theorem good_State_doCancel (s : State)  (h : Good q P s) : Good q P (State.doCancel s).1 := by
  unfold State.doCancel; try dsimp only
  repeat' (first | with_reducible assumption | intro _ | with_reducible apply good_State_imgResult
                 | with_reducible apply good_State_stagingInvalid | with_reducible apply good_State_setFlag
                 | with_reducible apply good_State_setNvm | with_reducible apply good_State_setUpdate | split)

theorem good_State_doCapWrite (watts : Nat) (s : State)  (h : Good q P s) : Good q P (State.doCapWrite watts s).1 := by
  unfold State.doCapWrite; try dsimp only
  repeat' (first | with_reducible assumption | intro _ | with_reducible apply good_State_setFlag
                 | with_reducible apply good_State_setFld | with_reducible apply good_State_ev
                 | with_reducible apply good_State_setPower | with_reducible apply good_State_capSync
                 | with_reducible apply good_fold | with_reducible apply good_fold_fst | split)

theorem good_State_doClose (s : State) (i : Nat)  (h : Good q P s) : Good q P (State.doClose s i) := by
  unfold State.doClose; try dsimp only
  repeat' (first | with_reducible assumption | intro _ | with_reducible apply good_State_closeIfDone
                 | with_reducible apply good_State_sendHostNow | with_reducible apply good_State_setFld)

theorem good_State_makeCtx (s : State) (c : Nat) (p : CtxParams) (job : Nat)  (h : Good q P s) : Good q P
    (State.makeCtx s c p job) := by
  unfold State.makeCtx; try dsimp only
  repeat' (first | with_reducible assumption | intro _ | with_reducible apply good_State_each
                 | with_reducible apply good_State_setCtx | with_reducible apply good_State_setFld
                 | with_reducible apply good_State_setFlag | with_reducible apply good_State_setReg)

theorem good_State_doContextCreate (o : Origin) (p : CtxParams) (s : State)  (h : Good q P s) : Good q P
    (State.doContextCreate o p s) := by
  unfold State.doContextCreate; try dsimp only
  repeat' (first | with_reducible assumption | intro _ | with_reducible apply good_State_finish
                 | with_reducible apply good_State_makeCtx | with_reducible apply good_State_fresh | split)

theorem good_State_switchover (s : State) (u : Nat) (cause : Nat) (failCause : Nat)  (h : Good q P s) : Good q P (State.switchover
    s u cause failCause) := by
  unfold State.switchover; try dsimp only
  repeat' (first | with_reducible assumption | intro _ | with_reducible apply good_State_each
                 | with_reducible apply good_State_setFlag | with_reducible apply good_State_fresh | split
                 | fail_if_no_progress (with_reducible apply good_mk; with_reducible apply good_parts))

theorem good_State_doSwap (s : State)  (h : Good q P s) : Good q P (State.doSwap s).1 := by
  unfold State.doSwap; try dsimp only
  repeat' (first | with_reducible assumption | intro _ | with_reducible apply good_State_switchover | split)

theorem good_State_restartUnit (s : State) (u : Nat)  (h : Good q P s) : Good q P (State.restartUnit s u) := by
  unfold State.restartUnit; try dsimp only
  repeat' (first | with_reducible assumption | intro _ | with_reducible apply good_State_setCu
                 | with_reducible apply good_State_setFld)

theorem good_State_doUnitRestart (u : Nat) (s : State)  (h : Good q P s) : Good q P (State.doUnitRestart u s).1 := by
  unfold State.doUnitRestart; try dsimp only
  repeat' (first | with_reducible assumption | intro _ | with_reducible apply good_State_restartUnit | split)

theorem good_State_doCtlCmd (v : Nat) (s : State)  (h : Good q P s) : Good q P (State.doCtlCmd v s).1 := by
  unfold State.doCtlCmd; try dsimp only
  repeat' (first | with_reducible assumption | intro _ | with_reducible apply good_State_doSwap
                 | with_reducible apply good_State_doUnitRestart | split)

theorem good_State_startTraining (s : State) (d : Nat)  (h : Good q P s) : Good q P (State.startTraining s d) := by
  unfold State.startTraining; try dsimp only
  repeat' (first | with_reducible assumption | intro _ | with_reducible apply good_State_each
                 | with_reducible apply good_State_setFld | with_reducible apply good_State_setPort | split)

theorem good_State_rediscover (s : State) (d : Nat)  (h : Good q P s) : Good q P (State.rediscover s d) := by
  unfold State.rediscover; try dsimp only
  repeat' (first | with_reducible assumption | intro _ | with_reducible apply good_State_setPort
                 | with_reducible apply good_State_setReg | with_reducible apply good_State_headerFound
                 | with_reducible apply good_State_unlink | with_reducible apply good_State_setPortState
                 | with_reducible apply good_State_dropCredits | with_reducible apply good_State_startTraining | split)

theorem good_State_doDiscover (value : Nat) (s : State)  (h : Good q P s) : Good q P (State.doDiscover value s).1 := by
  unfold State.doDiscover; try dsimp only
  repeat' (first | with_reducible assumption | intro _ | with_reducible apply good_State_each
                 | with_reducible apply good_State_rediscover | split)

theorem good_State_doDmaAbort (o : Origin) (n : Nat) (s : State)  (h : Good q P s) : Good q P (State.doDmaAbort o n
    s) := by
  unfold State.doDmaAbort; try dsimp only
  repeat' (first | with_reducible assumption | intro _ | with_reducible apply good_State_finish
                 | with_reducible apply good_State_dmaAbort | with_reducible apply good_State_setDma | split)

theorem good_State_putBits (s : State) (off : Nat) (mask : Nat) (v : Nat)  (h : Good q P s) : Good q P (State.putBits s off mask
    v) := by
  unfold State.putBits; try dsimp only
  repeat' (first | with_reducible assumption | intro _ | with_reducible apply good_State_setReg)

theorem good_State_doRw (off : Nat) (v : Nat) (s : State)  (h : Good q P s) : Good q P (State.doRw off v s).1 := by
  unfold State.doRw; try dsimp only
  repeat' (first | with_reducible assumption | intro _ | with_reducible apply good_State_putBits)

theorem good_State_doHalf (r : Requester) (off : Nat) (v : Nat) (s : State)  (h : Good q P s) : Good q P (State.doHalf
    r off v s).1 := by
  unfold State.doHalf; try dsimp only
  repeat' (first | with_reducible assumption | intro _ | with_reducible apply good_State_setOwn
                 | with_reducible apply good_State_setSel | with_reducible apply good_State_putBits | split)

theorem good_State_doDmaReg (r : Requester) (n : Nat) (o : Nat) (off : Nat) (v : Nat) (s : State)  (h : Good q P s) : Good
    q P (State.doDmaReg r n o off v s).1 := by
  unfold State.doDmaReg; try dsimp only
  repeat' (first | with_reducible assumption | intro _ | with_reducible apply good_State_doCtrl
                 | with_reducible apply good_State_doRw | with_reducible apply good_State_doHalf | split)

theorem good_State_doDmaStart (o : Origin) (n : Nat) (image : List Byte) (s : State)  (h : Good q P s) :
    Good q P (State.doDmaStart o n image s) := by
  unfold State.doDmaStart; try dsimp only
  repeat' (first | with_reducible assumption | intro _ | with_reducible apply good_State_finish
                 | with_reducible apply good_State_each | with_reducible apply good_State_writeRW
                 | with_reducible apply good_State_dmaBegin | with_reducible apply good_State_setDma | split)

theorem good_State_doDoorbell (o : Origin) (c : Nat) (q_2 : Nat) (tail : Nat) (s : State)  (h : Good q P s) : Good q P
    (State.doDoorbell o c q_2 tail s) := by
  unfold State.doDoorbell; try dsimp only
  repeat' (first | with_reducible assumption | intro _ | with_reducible apply good_State_withCtx
                 | with_reducible apply good_State_finish | with_reducible apply good_State_setFld | split)

theorem good_State_doEmber (u : Nat) (count : Nat) (s : State)  (h : Good q P s) : Good q P (State.doEmber u count s).1 := by
  unfold State.doEmber; try dsimp only
  repeat' (first | with_reducible assumption | intro _ | with_reducible apply good_State_setCu
                 | with_reducible apply good_State_setFld | split)

theorem good_State_enrolResult (s : State) (slot : Option Nat) (check : Nat) (st : Status)  (h : Good q P s) : Good q
    P (State.enrolResult s slot check st) := by
  unfold State.enrolResult; try dsimp only
  repeat' (first | with_reducible assumption | intro _ | with_reducible apply good_State_setFld | split)

theorem good_State_refuseEntry (s : State) (check : Nat) (st : Status) (serial : Nat)  (h : Good q P s) : Good q P
    (State.refuseEntry s check st serial).1 := by
  unfold State.refuseEntry; try dsimp only
  repeat' (first | with_reducible assumption | intro _ | with_reducible apply good_State_ev
                 | with_reducible apply good_State_enrolResult)

theorem good_State_extend (s : State) (m : Nat) (d : List Byte)  (h : Good q P s) : Good q P (State.extend s m d) :=
    by
  unfold State.extend; try dsimp only
  repeat' (first | with_reducible assumption | intro _ | with_reducible apply good_State_each
                 | with_reducible apply good_State_setFld)

theorem good_State_extendM7 (s : State)  (h : Good q P s) : Good q P (State.extendM7 s) := by
  unfold State.extendM7; try dsimp only
  repeat' (first | with_reducible assumption | intro _ | with_reducible apply good_State_fresh
                 | with_reducible apply good_State_extend)

theorem good_State_keySync (s : State)  (h : Good q P s) : Good q P (State.keySync s) := by
  unfold State.keySync; try dsimp only
  repeat' (first | with_reducible assumption | intro _ | with_reducible apply good_State_setFld)

theorem good_State_putKeys (s : State) (t : Tbl KeyEntry)  (h : Good q P s) : Good q P
    (State.putKeys s t) := by
  unfold State.putKeys; try dsimp only
  repeat' (first | with_reducible assumption | intro _ | with_reducible apply good_State_extendM7
                 | with_reducible apply good_State_setFlag | with_reducible apply good_State_keySync
                 | with_reducible apply good_State_nvmPut)

theorem good_State_doEnrolAdd (role : Nat) (sigOk : Bool) (s : State)  (h : Good q P s) : Good q P (State.doEnrolAdd role
    sigOk s).1 := by
  unfold State.doEnrolAdd; try dsimp only
  repeat' (first | with_reducible assumption | intro _ | with_reducible apply good_State_enrolResult
                 | with_reducible apply good_State_refuseEntry | with_reducible apply good_State_ev
                 | with_reducible apply good_State_putKeys | with_reducible apply good_State_fresh | split)

theorem good_State_doEnrolRemove (role : Nat) (slot : Nat) (s : State)  (h : Good q P s) : Good q P (State.doEnrolRemove role
    slot s).1 := by
  unfold State.doEnrolRemove; try dsimp only
  repeat' (first | with_reducible assumption | intro _ | with_reducible apply good_State_enrolResult
                 | with_reducible apply good_State_closeKey | with_reducible apply good_State_putKeys
                 | with_reducible apply good_State_ev | split)

theorem good_State_doEnrolCmd (role : Nat) (v : Nat) (sigOk : Bool) (s : State)  (h : Good q P s) : Good q P (State.doEnrolCmd
    role v sigOk s).1 := by
  unfold State.doEnrolCmd; try dsimp only
  repeat' (first | with_reducible assumption | intro _ | with_reducible apply good_State_doEnrolAdd
                 | with_reducible apply good_State_doEnrolRemove | with_reducible apply good_State_enrolResult | split)

theorem good_State_doEventRead (o : Origin) (first : Nat) (count : Nat) (s : State)  (h : Good q P s) : Good q P
    (State.doEventRead o first count s) := by
  unfold State.doEventRead; try dsimp only
  repeat' (first | with_reducible assumption | intro _ | with_reducible apply good_State_finish | split)

theorem good_State_doEyeCtrl (f : Nat) (value : Nat) (s : State)  (h : Good q P s) : Good q P (State.doEyeCtrl f value s).1 :=
    by
  unfold State.doEyeCtrl; try dsimp only
  repeat' (first | with_reducible assumption | intro _ | with_reducible apply good_State_setFld
                 | with_reducible apply good_State_abortScan | split
                 | fail_if_no_progress (with_reducible apply good_mk; with_reducible apply good_parts))

theorem good_State_doFaultClear (s : State)  (h : Good q P s) : Good q P (State.doFaultClear s).1 := by
  unfold State.doFaultClear; try dsimp only
  repeat' (first | with_reducible assumption | intro _ | with_reducible apply good_State_setReg | split
                 | fail_if_no_progress (with_reducible apply good_mk; with_reducible apply good_parts))

theorem good_State_dropHost (s : State) (p : HostPkt) (cause : Nat)  (h : Good q P s) : Good q P (State.dropHost s p
    cause) := by
  unfold State.dropHost; try dsimp only
  repeat' (first | with_reducible assumption | intro _ | with_reducible apply good_State_ev
                 | with_reducible apply good_State_bump)

theorem good_State_doFinish (p : HostPkt) (ok : Bool) (s : State)  (h : Good q P s) : Good q P (State.doFinish p
    ok s) := by
  unfold State.doFinish; try dsimp only
  repeat' (first | with_reducible assumption | intro _ | with_reducible apply good_State_countRx
                 | with_reducible apply good_State_dropHost | with_reducible apply good_State_ev
                 | with_reducible apply good_State_setFld | with_reducible apply good_State_freeSess | split)

theorem good_State_helloAll (s : State)  (h : Good q P s) : Good q P (State.helloAll s) := by
  unfold State.helloAll; try dsimp only
  repeat' (first | with_reducible assumption | intro _ | with_reducible apply good_State_each
                 | with_reducible apply good_State_sendBank | split)

theorem good_State_doForm (o : Origin) (p : RickParams) (s : State)  (h : Good q P s) : Good q P
    (State.doForm o p s) := by
  unfold State.doForm; try dsimp only
  repeat' (first | with_reducible assumption | intro _ | with_reducible apply good_State_finish
                 | with_reducible apply good_State_helloAll | with_reducible apply good_State_makeRick | split)

theorem good_State_makeGroup (s : State) (g : Nat) (job : Nat) (p : GroupParams)  (h : Good q P s) : Good q P
    (State.makeGroup s g job p) := by
  unfold State.makeGroup; try dsimp only
  repeat' (first | with_reducible assumption | intro _ | with_reducible apply good_State_setGroup
                 | with_reducible apply good_State_setFld | with_reducible apply good_State_setFlag
                 | with_reducible apply good_State_setReg | with_reducible apply good_State_add
                 | with_reducible apply good_State_sub | with_reducible apply good_State_ev)

theorem good_State_doGroupCreate (o : Origin) (p : GroupParams) (s : State)  (h : Good q P s) : Good q P
    (State.doGroupCreate o p s) := by
  unfold State.doGroupCreate; try dsimp only
  repeat' (first | with_reducible assumption | intro _ | with_reducible apply good_State_finish
                 | with_reducible apply good_State_makeGroup | with_reducible apply good_State_fresh | split)

theorem good_State_doGroupDestroy (o : Origin) (gid : Nat) (s : State)  (h : Good q Canon s) : Good q Canon
    (State.doGroupDestroy o gid s) := by
  unfold State.doGroupDestroy; try dsimp only
  repeat' (first | with_reducible assumption | intro _ | with_reducible apply good_State_finish
                 | with_reducible apply good_State_destroyGroup | split)

theorem good_State_doGroupDoorbell (o : Origin) (gid : Nat) (tail : Nat) (s : State)  (h : Good q P s) : Good q P
    (State.doGroupDoorbell o gid tail s) := by
  unfold State.doGroupDoorbell; try dsimp only
  repeat' (first | with_reducible assumption | intro _ | with_reducible apply good_State_finish
                 | with_reducible apply good_State_setFld | split)

theorem good_State_helloReply (s : State) (h_1 : Hello) (st : Status) (i : Nat)  (h : Good q P s) : Good q
    P (State.helloReply s h_1 st i) := by
  unfold State.helloReply; try dsimp only
  repeat' (first | with_reducible assumption | intro _ | with_reducible apply good_State_sendAnswer | split
                 | fail_if_no_progress (with_reducible apply good_mk; with_reducible apply good_parts))

theorem good_State_refuseHello (s : State) (h_1 : Hello) (st : Status)  (h : Good q P s) : Good q P
    (State.refuseHello s h_1 st) := by
  unfold State.refuseHello; try dsimp only
  repeat' (first | with_reducible assumption | intro _ | with_reducible apply good_State_helloReply
                 | with_reducible apply good_State_ev)

theorem good_State_evict (s : State) (i : Nat)  (h : Good q P s) : Good q P (State.evict s i) := by
  unfold State.evict; try dsimp only
  repeat' (first | with_reducible assumption | intro _ | with_reducible apply good_State_sendHostNow
                 | with_reducible apply good_State_ev | with_reducible apply good_State_bump
                 | with_reducible apply good_State_freeSess)

theorem good_State_openEntry (s : State) (i : Nat) (key : Nat) (h_3 : Hello)  (h : Good q P s) : Good q P
    (State.openEntry s i key h_3) := by
  unfold State.openEntry; try dsimp only
  repeat' (first | with_reducible assumption | intro _ | with_reducible apply good_State_setFld
                 | with_reducible apply good_State_setFlag | with_reducible apply good_State_add
                 | with_reducible apply good_State_setSess | with_reducible apply good_State_fresh)

theorem good_State_newHello (s : State) (h_1 : Hello)  (h : Good q P s) : Good q P (State.newHello s h_1) := by
  unfold State.newHello; try dsimp only
  repeat' (first | with_reducible assumption | intro _ | with_reducible apply good_State_refuseHello
                 | with_reducible apply good_State_evict | with_reducible apply good_State_helloReply
                 | with_reducible apply good_State_openEntry | with_reducible apply good_State_fresh | split)

theorem good_State_doHello (h_0 : Hello) (s : State)  (h : Good q P s) : Good q P (State.doHello h_0 s) := by
  unfold State.doHello; try dsimp only
  repeat' (first | with_reducible assumption | intro _ | with_reducible apply good_State_countRx
                 | with_reducible apply good_State_dropHost | with_reducible apply good_State_sendAnswer
                 | with_reducible apply good_State_newHello | split)

theorem good_State_doHostCfg (c : HostCfg) (s : State)  (h : Good q P s) : Good q P (State.doHostCfg c s).1 := by
  unfold State.doHostCfg; try dsimp only
  repeat' (first | with_reducible assumption | intro _ | with_reducible apply good_State_nvmPut)

theorem good_State_doWritePage (page : Nat) (s : State)  (h : Good q P s) : Good q P (State.doWritePage page s).1 := by
  unfold State.doWritePage; try dsimp only
  repeat' (first | with_reducible assumption | intro _ | with_reducible apply good_State_imgResult
                 | with_reducible apply good_State_keepPage | split)

theorem good_State_doImgFinish (s : State)  (h : Good q P s) : Good q P (State.doImgFinish s).1 := by
  unfold State.doImgFinish; try dsimp only
  repeat' (first | with_reducible assumption | intro _ | with_reducible apply good_State_imgResult
                 | with_reducible apply good_State_setFld | split)

theorem good_State_doImgCmd (v : Nat) (sigOk : Bool) (s : State)  (h : Good q P s) : Good q P (State.doImgCmd v sigOk s).1 :=
    by
  unfold State.doImgCmd; try dsimp only
  repeat' (first | with_reducible assumption | intro _ | with_reducible apply good_State_doBegin
                 | with_reducible apply good_State_doWritePage | with_reducible apply good_State_doImgFinish
                 | with_reducible apply good_State_doActivate | with_reducible apply good_State_doCancel
                 | with_reducible apply good_State_doBroadcast | with_reducible apply good_State_imgResult | split)

theorem good_State_doRange (f : Fld) (lo : Nat) (hi : Nat) (v : Nat) (s : State)  (h : Good q P s) : Good q P
    (State.doRange f lo hi v s).1 := by
  unfold State.doRange; try dsimp only
  repeat' (first | with_reducible assumption | intro _ | with_reducible apply good_State_setFld | split)

theorem good_State_doInterval (enable : Fld) (interval : Fld) (lo : Nat) (hi : Nat) (v : Nat)
    (s : State)  (h : Good q P s) : Good q P (State.doInterval enable interval lo hi v s).1 := by
  unfold State.doInterval; try dsimp only
  repeat' (first | with_reducible assumption | intro _ | with_reducible apply good_State_doRange
                 | with_reducible apply good_State_setFlag)

theorem good_State_doJoin (o : Origin) (p : RickParams) (s : State)  (h : Good q P s) : Good q P
    (State.doJoin o p s) := by
  unfold State.doJoin; try dsimp only
  repeat' (first | with_reducible assumption | intro _ | with_reducible apply good_State_finish | split
                 | fail_if_no_progress (with_reducible apply good_mk; with_reducible apply good_parts))

theorem good_State_leaveLoopback (s : State) (d : Nat) (n : Nat)  (h : Good q P s) : Good q P (State.leaveLoopback s d n) := by
  unfold State.leaveLoopback; try dsimp only
  repeat' (first | with_reducible assumption | intro _ | with_reducible apply good_State_setFld
                 | with_reducible apply good_State_dropCredits | with_reducible apply good_State_setPort
                 | with_reducible apply good_State_unlink | with_reducible apply good_State_startTraining
                 | with_reducible apply good_State_setPortState | split)

theorem good_State_dropLanes (s : State) (d : Nat) (ls : List (Nat × Nat))  (h : Good q P s) : Good q P (State.dropLanes s d ls)
    := by
  unfold State.dropLanes; try dsimp only
  repeat' (first | with_reducible assumption | intro _ | with_reducible apply good_State_each
                 | with_reducible apply good_State_ev | with_reducible apply good_State_takeOut
                 | with_reducible apply good_State_laneChange | with_reducible apply good_State_setPort | split)

theorem good_State_doLaneCtrl (n : Nat) (value : Nat) (peerUp : Bool) (s : State)  (h : Good q P s) : Good q P (State.doLaneCtrl
    n value peerUp s).1 := by
  unfold State.doLaneCtrl; try dsimp only
  repeat' (first | with_reducible assumption | intro _ | with_reducible apply good_State_setReg
                 | with_reducible apply good_State_setFld | with_reducible apply good_State_setFlag
                 | with_reducible apply good_State_leaveLoopback | with_reducible apply good_State_dropLanes | split)

theorem good_State_licResult (s : State) (slot : Option Nat) (st : Status)  (h : Good q P s) : Good q P
    (State.licResult s slot st) := by
  unfold State.licResult; try dsimp only
  repeat' (first | with_reducible assumption | intro _ | with_reducible apply good_State_setFld | split)

theorem good_State_refuseLicence (s : State) (check : Nat) (st : Status) (serial : Nat)  (h : Good q P s) : Good q P
    (State.refuseLicence s check st serial).1 := by
  unfold State.refuseLicence; try dsimp only
  repeat' (first | with_reducible assumption | intro _ | with_reducible apply good_State_ev
                 | with_reducible apply good_State_licResult)

theorem good_State_licSlot (s : State) (i : Nat) (l : Option Licence)  (h : Good q P s) : Good q P
    (State.licSlot s i l) := by
  unfold State.licSlot; try dsimp only
  repeat' (first | with_reducible assumption | intro _ | with_reducible apply good_State_setFld
                 | with_reducible apply good_State_setFlag)

theorem good_State_doLicInstall (sigOk : Bool) (s : State)  (h : Good q P s) : Good q P (State.doLicInstall sigOk s).1 := by
  unfold State.doLicInstall; try dsimp only
  repeat' (first | with_reducible assumption | intro _ | with_reducible apply good_State_licResult
                 | with_reducible apply good_State_refuseLicence | with_reducible apply good_State_licSlot
                 | with_reducible apply good_State_nvmPut | with_reducible apply good_State_fresh
                 | with_reducible apply good_State_ev | with_reducible apply good_State_setFlag | split)

theorem good_State_doLicRemove (i : Nat) (s : State)  (h : Good q P s) : Good q P (State.doLicRemove i s).1 := by
  unfold State.doLicRemove; try dsimp only
  repeat' (first | with_reducible assumption | intro _ | with_reducible apply good_State_licResult
                 | with_reducible apply good_State_licSlot | with_reducible apply good_State_nvmPut
                 | with_reducible apply good_State_ev | with_reducible apply good_State_setFlag | split)

theorem good_State_doLicCmd (v : Nat) (sigOk : Bool) (s : State)  (h : Good q P s) : Good q P (State.doLicCmd v sigOk s).1 :=
    by
  unfold State.doLicCmd; try dsimp only
  repeat' (first | with_reducible assumption | intro _ | with_reducible apply good_State_doLicInstall
                 | with_reducible apply good_State_doLicRemove | with_reducible apply good_State_licResult | split)

theorem good_State_doLimits (maxW : Nat) (minW : Nat) (s : State)  (h : Good q P s) : Good q P (State.doLimits maxW minW s).1 :=
    by
  unfold State.doLimits; try dsimp only
  repeat' (first | with_reducible assumption | intro _ | with_reducible apply good_State_extendM7
                 | with_reducible apply good_State_setLimits | with_reducible apply good_State_nvmPut | split)

theorem good_State_doMemAtomic (o : Origin) (addr : Nat) (op : Nat) (size : Nat) (operands : List Byte) (s :
    State)  (h : Good q Canon s) : Good q Canon (State.doMemAtomic o addr op size operands s) := by
  unfold State.doMemAtomic; try dsimp only
  repeat' (first | with_reducible assumption | intro _ | with_reducible apply good_State_finish
                 | with_reducible apply good_State_serve | split)

theorem good_State_doMemRead (o : Origin) (addr : Nat) (n : Nat) (s : State)  (h : Good q P s) : Good q P
    (State.doMemRead o addr n s) := by
  unfold State.doMemRead; try dsimp only
  repeat' (first | with_reducible assumption | intro _ | with_reducible apply good_State_finish
                 | with_reducible apply good_State_load | split)

theorem good_State_doMemWrite (o : Origin) (addr : Nat) (n : Nat) (data : List Byte) (s : State)  (h : Good
    q Canon s) : Good q Canon (State.doMemWrite o addr n data s) := by
  unfold State.doMemWrite; try dsimp only
  repeat' (first | with_reducible assumption | intro _ | with_reducible apply good_State_finish
                 | with_reducible apply good_State_save | split)

theorem good_State_doNothing (s : State)  (h : Good q P s) : Good q P (State.doNothing s).1 := by
  unfold State.doNothing; try dsimp only
  repeat' (first | with_reducible assumption)

theorem good_State_doOpCap (watts : Nat) (s : State)  (h : Good q P s) : Good q P (State.doOpCap watts s).1 := by
  unfold State.doOpCap; try dsimp only
  repeat' (first | with_reducible assumption | intro _ | with_reducible apply good_State_capSync
                 | with_reducible apply good_State_setFld | split)

theorem good_State_newRoot (s : State)  (h : Good q P s) : Good q P (State.newRoot s) := by
  unfold State.newRoot; try dsimp only
  repeat' (first | with_reducible assumption | intro _ | with_reducible apply good_State_becomeRoot
                 | with_reducible apply good_State_setFld | with_reducible apply good_State_followTime
                 | with_reducible apply good_State_ev | with_reducible apply good_State_holdover | split
                 | fail_if_no_progress (with_reducible apply good_mk; with_reducible apply good_parts))

theorem good_State_replanPort (s : State) (d : Nat)  (h : Good q P s) : Good q P (State.replanPort s d) := by
  unfold State.replanPort; try dsimp only
  repeat' (first | with_reducible assumption | intro _ | with_reducible apply good_State_ev
                 | with_reducible apply good_State_setPortState | with_reducible apply good_State_setPort
                 | with_reducible apply good_State_unlink | with_reducible apply good_State_when
                 | with_reducible apply good_State_rediscover | split)

theorem good_State_replan (s : State)  (h : Good q P s) : Good q P (State.replan s) := by
  unfold State.replan; try dsimp only
  repeat' (first | with_reducible assumption | intro _ | with_reducible apply good_State_newRoot
                 | with_reducible apply good_State_each | with_reducible apply good_State_replanPort)

theorem good_State_planRegs (s : State) (p : Plan)  (h : Good q P s) : Good q P (State.planRegs s p) := by
  unfold State.planRegs; try dsimp only
  repeat' (first | with_reducible assumption | intro _ | with_reducible apply good_State_setFld)

theorem good_State_doPlan (p : Plan) (s : State)  (h : Good q P s) : Good q P (State.doPlan p s).1 := by
  unfold State.doPlan; try dsimp only
  repeat' (first | with_reducible assumption | intro _ | with_reducible apply good_State_ev
                 | with_reducible apply good_State_nvmPut | with_reducible apply good_State_replan
                 | with_reducible apply good_State_setFlag | with_reducible apply good_State_extendM7
                 | with_reducible apply good_State_planRegs | split)

theorem good_State_doPortCtrl (d : Nat) (value : Nat) (s : State)  (h : Good q P s) : Good q P (State.doPortCtrl d value s).1 :=
    by
  unfold State.doPortCtrl; try dsimp only
  repeat' (first | with_reducible assumption | intro _ | with_reducible apply good_State_setFlag
                 | with_reducible apply good_State_nvmPut | with_reducible apply good_State_linkLost
                 | with_reducible apply good_State_startTraining | split)

end Sys2Proof.Machine
end

