-- ==== Sys2Proof/Laws/GoodOps4.lean ====
section
/-! SUPPORT. `Good` is kept by each shared operation and each meaning, part 4 of 6, callees before their callers. -/

namespace Sys2Proof.Machine

variable {q : List Instr} {P : Memory → Prop}

theorem good_State_refusePart (s : State) (o : Origin) (st : Status)  (h : Good q P s) : Good q P
    (State.refusePart s o st) := by
  unfold State.refusePart; try dsimp only
  repeat' (first | with_reducible assumption | intro _ | with_reducible apply good_State_finish
                 | with_reducible apply good_State_setSess)

theorem good_State_putTable (s : State) (stage : Bool) (job : Nat) (n : Nat) (gen : Nat) (ids : List Nat)  (h : Good q P s) : Good q
    P (State.putTable s stage job n gen ids) := by
  unfold State.putTable; try dsimp only
  repeat' (first | with_reducible assumption | intro _ | with_reducible apply good_State_fresh
                 | with_reducible apply good_State_setFld | with_reducible apply good_State_setFlag | split
                 | fail_if_no_progress (with_reducible apply good_mk; with_reducible apply good_parts))

theorem good_State_doRanks (o : Origin) (stage : Bool) (n : Nat) (first : Nat) (ids : List Nat) (gen : Nat) (s : State)
    (h : Good q P s) : Good q P (State.doRanks o stage n first ids gen s) := by
  unfold State.doRanks; try dsimp only
  repeat' (first | with_reducible assumption | intro _ | with_reducible apply good_State_refusePart
                 | with_reducible apply good_State_finish | with_reducible apply good_State_putTable
                 | with_reducible apply good_State_setSess | split)

theorem good_State_readReg (s : State) (r : Requester) (off : Nat)  (h : Good q P s) : Good q P (State.readReg s r
    off).1 := by
  unfold State.readReg; try dsimp only
  repeat' (first | with_reducible assumption | intro _ | with_reducible apply good_State_setOwn | split)

theorem good_State_readAll (s : State) (r : Requester) (offs : List Nat) (h : Good q P s) : Good q P (s.readAll r offs).1 := by
  induction offs generalizing s with
  | nil => exact h
  | cons off offs ih => exact ih _ (good_State_readReg _ _ _ h)

theorem good_State_doReadRegs (o : Origin) (offs : List Nat) (s : State)  (h : Good q P s) : Good q P
    (State.doReadRegs o offs s) := by
  unfold State.doReadRegs; try dsimp only
  repeat' (first | with_reducible assumption | intro _ | with_reducible apply good_State_finish
                 | with_reducible apply good_State_readAll | split)

theorem good_State_withRick (s : State) (o : Origin) (f : State) (hf : Good q P f) (h : Good q P s) : Good q P (s.withRick o f) := by
  unfold State.withRick
  repeat' (first | with_reducible assumption | with_reducible apply good_State_finish | split)

theorem good_State_doRebuild (o : Origin) (spare : Nat) (s : State)  (h : Good q P s) : Good q P (State.doRebuild o
    spare s) := by
  unfold State.doRebuild; try dsimp only
  repeat' (first | with_reducible assumption | intro _ | with_reducible apply good_State_withRick
                 | with_reducible apply good_State_finish | with_reducible apply good_State_setFld
                 | with_reducible apply good_State_ev | with_reducible apply good_State_rebuildNext
                 | with_reducible apply good_State_withRick | split
                 | fail_if_no_progress (with_reducible apply good_mk; with_reducible apply good_parts))

theorem good_State_doRelease (o : Origin) (r : Nat) (s : State)  (h : Good q P s) : Good q P (State.doRelease o r s)
    := by
  unfold State.doRelease; try dsimp only
  repeat' (first | with_reducible assumption | intro _ | with_reducible apply good_State_finish
                 | with_reducible apply good_State_setRegion | split)

theorem good_State_setFlowCap (s : State) (cap : Nat) (told : Bool)  (h : Good q P s) : Good q P (State.setFlowCap s cap told)
    := by
  unfold State.setFlowCap; try dsimp only
  repeat' (first | with_reducible assumption | intro _ | with_reducible apply good_State_setPower
                 | with_reducible apply good_State_capSync | with_reducible apply good_State_ev | split)

theorem good_State_doReport (flow : Nat) (s : State)  (h : Good q Canon s) : Good q Canon (State.doReport flow s).1 := by
  unfold State.doReport; try dsimp only
  repeat' (first | with_reducible assumption | intro _ | with_reducible apply good_State_setPower
                 | with_reducible apply good_State_setFld | with_reducible apply good_State_ev
                 | with_reducible apply good_State_setFlag | with_reducible apply good_State_setFlowCap
                 | with_reducible apply good_State_halt | split)

theorem good_State_privileged (s : State) (o : Origin) (op : Nat) (st : Status) (params : List
    Byte) (act : State → State) (hact : ∀ y0, Good q P y0 → Good q P (act y0))
    (h : Good q P s) : Good q P (State.privileged s o op st params act) := by
  unfold State.privileged; try dsimp only
  repeat' (first | with_reducible assumption | intro _ | apply hact | with_reducible apply good_State_auditAct
                 | with_reducible apply good_State_finish | split)

theorem good_State_doResetRequest (o : Origin) (level : Nat) (part : Nat) (s : State)  (h : Good q P s) : Good q P
    (State.doResetRequest o level part s) := by
  unfold State.doResetRequest; try dsimp only
  repeat' (first | with_reducible assumption | intro _ | with_reducible apply good_State_privileged
                 | with_reducible apply good_State_askReset)

theorem good_State_doRestart (o : Origin) (c : Nat) (q_2 : Nat) (entry : Nat) (s : State)  (h : Good q P s) : Good q P
    (State.doRestart o c q_2 entry s) := by
  unfold State.doRestart; try dsimp only
  repeat' (first | with_reducible assumption | intro _ | with_reducible apply good_State_withCtx
                 | with_reducible apply good_State_finish | with_reducible apply good_State_setFlag
                 | with_reducible apply good_State_setFld | with_reducible apply good_State_setCtx | split)

theorem good_State_doRstCmd (level : Nat) (part : Nat) (s : State)  (h : Good q P s) : Good q P (State.doRstCmd level part s).1
    := by
  unfold State.doRstCmd; try dsimp only
  repeat' (first | with_reducible assumption | intro _ | with_reducible apply good_State_askReset | split)

theorem good_State_doRstWord (v : Nat) (s : State)  (h : Good q P s) : Good q P (State.doRstWord v s).1 := by
  unfold State.doRstWord; try dsimp only
  repeat' (first | with_reducible assumption | intro _ | with_reducible apply good_State_doRstCmd | split)

theorem good_State_doRtrCtrl (value : Nat) (s : State)  (h : Good q P s) : Good q P (State.doRtrCtrl value s).1 := by
  unfold State.doRtrCtrl; try dsimp only
  repeat' (first | with_reducible assumption | intro _ | with_reducible apply good_State_clearHwms | split)

theorem good_State_doSel (r : Requester) (off : Nat) (v : Nat) (s : State)  (h : Good q P s) : Good q P (State.doSel r
    off v s).1 := by
  unfold State.doSel; try dsimp only
  repeat' (first | with_reducible assumption | intro _ | with_reducible apply good_State_setSel)

theorem good_State_doSetSplit (o : Origin) (n : Nat) (s : State)  (h : Good q P s) : Good q P (State.doSetSplit o n
    s) := by
  unfold State.doSetSplit; try dsimp only
  repeat' (first | with_reducible assumption | intro _ | with_reducible apply good_State_privileged
                 | with_reducible apply good_State_askReset)

theorem good_State_doSlot (o : Origin) (c : SlotCmd) (p : SlotParams) (s : State)  (h
    : Good q P s) : Good q P (State.doSlot o c p s) := by
  unfold State.doSlot; try dsimp only
  repeat' (first | with_reducible assumption | intro _ | with_reducible apply good_State_finish
                 | with_reducible apply good_State_withCtx | with_reducible apply good_State_setPart
                 | with_reducible apply good_State_applySlot | split)

theorem good_State_doSpareStart (ch : Nat) (s : State)  (h : Good q P s) : Good q P (State.doSpareStart ch s).1 := by
  unfold State.doSpareStart; try dsimp only
  repeat' (first | with_reducible assumption | intro _ | with_reducible apply good_State_seamSync
                 | with_reducible apply good_State_spare | split)

theorem good_State_doTrace (on : Bool) (s : State)  (h : Good q P s) : Good q P (State.doTrace on s).1 := by
  unfold State.doTrace; try dsimp only
  repeat' (first | with_reducible assumption | intro _ | with_reducible apply good_State_setFlag | split)

theorem good_State_doSvc (v : Nat) (s : State)  (h : Good q P s) : Good q P (State.doSvc v s).1 := by
  unfold State.doSvc; try dsimp only
  repeat' (first | with_reducible assumption | intro _ | with_reducible apply good_State_doTrace
                 | with_reducible apply good_State_writeClear)

theorem good_State_withCounter (s : State) (o : Origin) (n : Nat) (f : State) (hf : Good q P f) (h : Good q P s) :
    Good q P (s.withCounter o n f) := by
  unfold State.withCounter
  repeat' (first | with_reducible assumption | with_reducible apply good_State_finish | split)

theorem good_State_doSyncSet (o : Origin) (n : Nat) (clear : Bool) (v : Nat) (s : State)  (h : Good q P s) : Good q P
    (State.doSyncSet o n clear v s) := by
  unfold State.doSyncSet; try dsimp only
  repeat' (first | with_reducible assumption | intro _ | with_reducible apply good_State_withCounter
                 | with_reducible apply good_State_finish | with_reducible apply good_State_setSync
                 | with_reducible apply good_State_setSyncErr | with_reducible apply good_State_withCounter | split)

theorem good_State_doSyncWait (o : Origin) (n : Nat) (target : Nat) (us : Nat) (s : State)  (h : Good q P s) : Good q P
    (State.doSyncWait o n target us s) := by
  unfold State.doSyncWait; try dsimp only
  repeat' (first | with_reducible assumption | intro _ | with_reducible apply good_State_finish
                 | with_reducible apply good_State_withCounter | with_reducible apply good_State_withCounter | split
                 | fail_if_no_progress (with_reducible apply good_mk; with_reducible apply good_parts))

theorem good_State_doTripped (u : Nat) (v : Nat) (s : State)  (h : Good q P s) : Good q P (State.doTripped u v s).1 := by
  unfold State.doTripped; try dsimp only
  repeat' (first | with_reducible assumption | intro _ | with_reducible apply good_State_setFlag)

theorem good_State_doUnbind (o : Origin) (n : Nat) (s : State)  (h : Good q P s) : Good q P (State.doUnbind o n s)
    := by
  unfold State.doUnbind; try dsimp only
  repeat' (first | with_reducible assumption | intro _ | with_reducible apply good_State_finish
                 | with_reducible apply good_State_unbind | split)

theorem good_State_doW1c (off : Nat) (mask : Nat) (v : Nat) (s : State)  (h : Good q P s) : Good q P (State.doW1c off mask v s).1
    := by
  unfold State.doW1c; try dsimp only
  repeat' (first | with_reducible assumption | intro _ | with_reducible apply good_State_writeClear)

theorem good_State_writeLow (s : State) (r : Requester) (off v : Nat) : GoodAct q P (s.writeLow r off v) := by
  unfold State.writeLow
  dsimp only [-Nat.reducePow]
  repeat' (first | with_reducible apply good_act_ite | split | (with_reducible refine good_act _ _ _ fun t h => ?_))
  all_goals have hf := good_State_fresh _ h
  repeat' (first | with_reducible assumption | with_reducible exact good_State_doNothing _ h
                 | with_reducible exact good_State_doEmber _ _ _ h
                 | with_reducible exact good_State_doInterval _ _ _ _ _ _ h
                 | with_reducible exact good_State_doCtlCmd _ _ h | with_reducible exact good_State_doSvc _ _ h
                 | with_reducible exact good_State_doW1c _ _ _ _ h | with_reducible exact good_State_doRange _ _ _ _ _ h
                 | with_reducible exact good_State_doRw _ _ _ h | with_reducible exact good_State_doSpareStart _ _ h)

theorem good_State_writeMid (s : State) (r : Requester) (off v : Nat) : GoodAct q P (s.writeMid r off v) := by
  unfold State.writeMid
  dsimp only [-Nat.reducePow]
  repeat' (first | with_reducible apply good_act_ite | split | (with_reducible refine good_act _ _ _ fun t h => ?_))
  all_goals have hf := good_State_fresh _ h
  repeat' (first | with_reducible assumption | with_reducible exact good_State_doNothing _ h
                 | with_reducible exact good_State_doDmaReg _ _ _ _ _ _ h
                 | with_reducible exact good_State_doLaneCtrl _ _ _ _ hf
                 | with_reducible exact good_State_doPortCtrl _ _ _ h | with_reducible exact good_State_doEyeCtrl _ _ _ h
                 | with_reducible exact good_State_doDiscover _ _ h | with_reducible exact good_State_doRtrCtrl _ _ h
                 | with_reducible exact good_State_doW1c _ _ _ _ h | with_reducible exact good_State_doRange _ _ _ _ _ h
                 | with_reducible exact good_State_doSel _ _ _ _ h)

theorem good_State_writeHigh (s : State) (r : Requester) (off v : Nat) : GoodAct q Canon (s.writeHigh r off v) := by
  unfold State.writeHigh
  dsimp only [-Nat.reducePow]
  repeat' (first | with_reducible apply good_act_ite | split | (with_reducible refine good_act _ _ _ fun t h => ?_))
  all_goals have hf := good_State_fresh _ h
  repeat' (first | with_reducible assumption | with_reducible exact good_State_doNothing _ h
                 | with_reducible exact good_State_doHalf _ _ _ _ h | with_reducible exact good_State_doSel _ _ _ _ h
                 | with_reducible exact good_State_doRw _ _ _ h | with_reducible exact good_State_doEnrolCmd _ _ _ _ hf
                 | with_reducible exact good_State_doCapWrite _ _ h | with_reducible exact good_State_doOpCap _ _ h
                 | with_reducible exact good_State_doLimits _ _ _ h | with_reducible exact good_State_doAlert _ _ h
                 | with_reducible exact good_State_doAshAdd _ _ h | with_reducible exact good_State_doAshSel _ _ _ h
                 | with_reducible exact good_State_doFaultClear _ h | with_reducible exact good_State_doReport _ _ h
                 | with_reducible exact good_State_doRstWord _ _ h | with_reducible exact good_State_doBotCmd _ _ h
                 | with_reducible exact good_State_doLicCmd _ _ _ hf | with_reducible exact good_State_doImgCmd _ _ _ hf
                 | with_reducible exact good_State_doTripped _ _ _ h | with_reducible exact good_State_doRange _ _ _ _ _ h
                 | with_reducible exact good_State_doInterval _ _ _ _ _ _ h)

theorem good_State_writeReg (s : State) (r : Requester) (off value : Nat) (h : Good q Canon s) : Good q Canon (s.writeReg r off value).1 := by
  unfold State.writeReg
  split
  · exact h
  · have g : GoodAct q Canon (if off < 0xA0000 then s.writeLow r off (value % 2 ^ 32)
        else if off < 0x160000 then s.writeMid r off (value % 2 ^ 32) else s.writeHigh r off (value % 2 ^ 32)) := by
      split
      · exact good_State_writeLow _ _ _ _
      · split
        · exact good_State_writeMid _ _ _ _
        · exact good_State_writeHigh _ _ _ _
    exact good_State_carry _ _ _ _ _ _ (fun t ht => good_gate _ _ _ (fun u hu => g u hu) ht) h

theorem good_State_writeAll (s : State) (r : Requester) (ws : List (Nat × Nat)) (h : Good q Canon s) : Good q Canon (s.writeAll r ws).1 := by
  induction ws generalizing s with
  | nil => exact h
  | cons w ws ih =>
    unfold State.writeAll
    dsimp only
    split
    · exact ih _ (good_State_writeReg _ _ _ _ h)
    · exact good_State_writeReg _ _ _ _ h

theorem good_State_doWriteRegs (o : Origin) (writes : List (Nat × Nat)) (s : State)  (h : Good q Canon s) : Good q
    Canon (State.doWriteRegs o writes s) := by
  unfold State.doWriteRegs; try dsimp only
  repeat' (first | with_reducible assumption | intro _ | with_reducible apply good_State_finish
                 | with_reducible apply good_State_writeAll | split)

theorem good_State_dropLower (s : State) (k : Nat)  (h : Good q P s) : Good q P (State.dropLower s k) := by
  unfold State.dropLower; try dsimp only
  repeat' (first | with_reducible assumption | intro _ | with_reducible apply good_State_rstSync
                 | with_reducible apply good_State_setFlag | split
                 | fail_if_no_progress (with_reducible apply good_mk; with_reducible apply good_parts))

theorem good_State_dropReset (s : State) (d : Domain)  (h : Good q P s) : Good q P (State.dropReset s d)
    := by
  unfold State.dropReset; try dsimp only
  repeat' (first | with_reducible assumption | intro _ | split
                 | fail_if_no_progress (with_reducible apply good_mk; with_reducible apply good_parts))

theorem good_State_endDrain (s : State) (r : Reset)  (h : Good q Canon s) : Good q Canon (State.endDrain s
    r) := by
  unfold State.endDrain; try dsimp only
  repeat' (first | with_reducible assumption | intro _ | with_reducible apply good_State_each
                 | with_reducible apply good_State_closeSlot | with_reducible apply good_State_setReg
                 | with_reducible apply good_State_clearPairs | with_reducible apply good_State_clearDma
                 | with_reducible apply good_State_advanceGen | with_reducible apply good_State_ev
                 | with_reducible apply good_State_putReset | split)

theorem good_State_endHour (s : State)  (h : Good q P s) : Good q P (State.endHour s) := by
  unfold State.endHour; try dsimp only
  repeat' (first | with_reducible assumption | intro _ | with_reducible apply good_State_seamSync
                 | with_reducible apply good_State_each | with_reducible apply good_State_spare
                 | with_reducible apply good_State_setFlag | split
                 | fail_if_no_progress (with_reducible apply good_mk; with_reducible apply good_parts))

theorem good_State_restore (s : State) (e : LogEntry)  (h : Good q Canon s) : Good q Canon (State.restore
    s e) := by
  unfold State.restore; try dsimp only
  repeat' (first | with_reducible assumption | intro _ | with_reducible apply good_State_writeBytes)

theorem good_State_endRollback (s : State)  (h : Good q Canon s) : Good q Canon (State.endRollback s) := by
  unfold State.endRollback; try dsimp only
  repeat' (first | with_reducible assumption | intro _ | with_reducible apply good_State_each
                 | with_reducible apply good_State_restore | with_reducible apply good_State_logSync
                 | with_reducible apply good_State_setFld | with_reducible apply good_State_setFlag
                 | with_reducible apply good_State_finish | with_reducible apply good_State_ev | split
                 | fail_if_no_progress (with_reducible apply good_mk; with_reducible apply good_parts))

theorem good_State_engineFlags (s : State) (k : Nat)  (h : Good q P s) : Good q P (State.engineFlags s k) := by
  unfold State.engineFlags; try dsimp only
  repeat' (first | with_reducible assumption | intro _ | with_reducible apply good_State_each
                 | with_reducible apply good_State_setFlag)

theorem good_State_enterBarrier (s : State) (second : Bool)  (h : Good q P s) : Good q P (State.enterBarrier s second) := by
  unfold State.enterBarrier; try dsimp only
  repeat' (first | with_reducible assumption | intro _ | with_reducible apply good_State_setFld
                 | with_reducible apply good_State_bankProgress | with_reducible apply good_State_sendArrive
                 | with_reducible apply good_State_advance | split
                 | fail_if_no_progress (with_reducible apply good_mk; with_reducible apply good_parts))

theorem good_State_eyeWrite (s : State) (r : Requester) (f : Nat) (value : Nat)  (h : Good q P s) : Good q P
    (State.eyeWrite s r f value) := by
  unfold State.eyeWrite; try dsimp only
  repeat' (first | with_reducible assumption | intro _ | with_reducible apply good_State_access
                 | with_reducible apply good_gate | with_reducible apply good_State_doEyeCtrl | split)

theorem good_State_powerCycle (s : State) (q_1 : ResetReq)  (h : Good q P s) : Good q P (State.powerCycle
    s q_1) := by
  unfold State.powerCycle; try dsimp only
  repeat' (first | with_reducible assumption | intro _ | with_reducible apply good_State_capture
                 | with_reducible apply good_State_alert | with_reducible apply good_State_bump
                 | with_reducible apply good_State_rstSync | with_reducible apply good_State_ev | split
                 | fail_if_no_progress (with_reducible apply good_mk; with_reducible apply good_parts))

theorem good_State_noUnit (s : State)  (h : Good q P s) : Good q P (State.noUnit s) := by
  unfold State.noUnit; try dsimp only
  repeat' (first | with_reducible assumption | intro _ | with_reducible apply good_State_setFlag
                 | with_reducible apply good_State_released | with_reducible apply good_State_powerCycle
                 | with_reducible apply good_State_rstSync | with_reducible apply good_State_climb
                 | with_reducible apply good_fold | with_reducible apply good_fold_fst | split
                 | fail_if_no_progress (with_reducible apply good_mk; with_reducible apply good_parts))

theorem good_State_fatal (u : Nat) (s : State)  (h : Good q P s) : Good q P (State.fatal u s) := by
  unfold State.fatal; try dsimp only
  repeat' (first | with_reducible assumption | intro _ | with_reducible apply good_State_switchover
                 | with_reducible apply good_State_failUnit | with_reducible apply good_State_ev
                 | with_reducible apply good_State_noUnit | split
                 | fail_if_no_progress (with_reducible apply good_mk; with_reducible apply good_parts))

theorem good_State_fetchFailed (s : State) (p : Nat) (r : Run) (st : Status)  (h : Good q P s) :
    Good q P (State.fetchFailed s p r st) := by
  unfold State.fetchFailed; try dsimp only
  repeat' (first | with_reducible assumption | intro _ | with_reducible apply good_State_ev
                 | with_reducible apply good_State_bump | with_reducible apply good_State_freeSeq
                 | with_reducible apply good_State_stopQueue)

theorem good_State_fetchDone (p : Nat) (remote : Option (Status × Flags × List Byte)) (s :
    State)  (h : Good q Canon s) : Good q Canon (State.fetchDone p remote s) := by
  unfold State.fetchDone; try dsimp only
  repeat' (first | with_reducible assumption | intro _ | with_reducible apply good_State_load
                 | with_reducible apply good_State_checkFiring | with_reducible apply good_State_fetchFailed
                 | with_reducible apply good_State_charge | split)

theorem good_State_firingComplete (p : Nat) (cycles : Nat) (s : State)  (h : Good q Canon s) : Good q Canon
    (State.firingComplete p cycles s) := by
  unfold State.firingComplete; try dsimp only
  repeat' (first | with_reducible assumption | intro _ | with_reducible apply good_State_endFiring | split)

theorem good_State_ladderAbort (s : State) (c : Nat) (part : Nat) (queue : Nat) (cause : Nat)  (h : Good q Canon s) : Good q Canon
    (State.ladderAbort s c part queue cause) := by
  unfold State.ladderAbort; try dsimp only
  repeat' (first | with_reducible assumption | intro _ | with_reducible apply good_State_capture
                 | with_reducible apply good_State_contextAbort | with_reducible apply good_State_bump
                 | with_reducible apply good_State_rstSync | split
                 | fail_if_no_progress (with_reducible apply good_mk; with_reducible apply good_parts))

theorem good_State_firingHung (p : Nat) (cycles : Nat) (s : State)  (h : Good q Canon s) : Good q Canon (State.firingHung p
    cycles s) := by
  unfold State.firingHung; try dsimp only
  repeat' (first | with_reducible assumption | intro _ | with_reducible apply good_State_failBank
                 | with_reducible apply good_State_ev | with_reducible apply good_State_bump
                 | with_reducible apply good_State_endFiring | with_reducible apply good_State_ladderAbort | split)

theorem good_State_foldEnds (s : State)  (h : Good q P s) : Good q P (State.foldEnds s) := by
  unfold State.foldEnds; try dsimp only
  repeat' (first | with_reducible assumption | intro _ | with_reducible apply good_State_failBank
                 | with_reducible apply good_State_enterBarrier | split)

theorem good_State_foldInto (s : State) (slot : Nat) (e : Ev)  (h : Good q P s) : Good q P (State.foldInto s
    slot e) := by
  unfold State.foldInto; try dsimp only
  repeat' (first | with_reducible assumption | intro _ | with_reducible apply good_State_bump | split
                 | fail_if_no_progress (with_reducible apply good_mk; with_reducible apply good_parts))

theorem good_State_toNet (s : State) (i : Nat) (net : Nat)  (h : Good q P s) : Good q P (State.toNet s i net) := by
  unfold State.toNet; try dsimp only
  repeat' (first | with_reducible assumption | intro _ | with_reducible apply good_State_pump
                 | with_reducible apply good_State_setFld)

theorem good_State_follow (s : State) (i : Nat) (port : Nat)  (h : Good q P s) : Good q P (State.follow s i port) := by
  unfold State.follow; try dsimp only
  repeat' (first | with_reducible assumption | intro _ | with_reducible apply good_State_setFld
                 | with_reducible apply good_State_ev | with_reducible apply good_State_bump
                 | with_reducible apply good_State_setSess | with_reducible apply good_State_toNet | split)

theorem good_State_formationTimeout (s : State)  (h : Good q Canon s) : Good q Canon (State.formationTimeout s) := by
  unfold State.formationTimeout; try dsimp only
  repeat' (first | with_reducible assumption | intro _ | with_reducible apply good_State_finish
                 | with_reducible apply good_State_dissolve | split
                 | fail_if_no_progress (with_reducible apply good_mk; with_reducible apply good_parts))

theorem good_State_forwardPage (s : State) (d : Nat) (key : Nat) (mask : Nat)  (h : Good q P s) : Good q P (State.forwardPage s d
    key mask) := by
  unfold State.forwardPage; try dsimp only
  repeat' (first | with_reducible assumption | intro _ | with_reducible apply good_State_each
                 | with_reducible apply good_State_queuePage | with_reducible apply good_State_darkBranch | split)

theorem good_State_framePassDone (p : Nat) (s : State)  (h : Good q P s) : Good q P (State.framePassDone p s) := by
  unfold State.framePassDone; try dsimp only
  repeat' (first | with_reducible assumption | intro _ | with_reducible apply good_State_setPart | split)

theorem good_State_setWidth (s : State) (d : Nat)  (h : Good q P s) : Good q P (State.setWidth s d) := by
  unfold State.setWidth; try dsimp only
  repeat' (first | with_reducible assumption | intro _ | with_reducible apply good_State_each
                 | with_reducible apply good_State_setFld | with_reducible apply good_State_setFlag
                 | with_reducible apply good_State_ev | with_reducible apply good_fold
                 | with_reducible apply good_fold_fst | split)

theorem good_State_framePeriod (d : Nat) (s : State)  (h : Good q P s) : Good q P (State.framePeriod d s) := by
  unfold State.framePeriod; try dsimp only
  repeat' (first | with_reducible assumption | intro _ | with_reducible apply good_State_setWidth
                 | with_reducible apply good_State_setPort | with_reducible apply good_State_send
                 | with_reducible apply good_State_addPair | split)

theorem good_State_giveUpImage (s : State)  (h : Good q P s) : Good q P (State.giveUpImage s) := by
  unfold State.giveUpImage; try dsimp only
  repeat' (first | with_reducible assumption | intro _ | with_reducible apply good_State_ev
                 | with_reducible apply good_State_setFlag | with_reducible apply good_State_stagingInvalid
                 | with_reducible apply good_State_setUpdate | split)

theorem good_State_grantReset (s : State) (q_1 : ResetReq)  (h : Good q Canon s) : Good q Canon
    (State.grantReset s q_1) := by
  unfold State.grantReset; try dsimp only
  repeat' (first | with_reducible assumption | intro _ | with_reducible apply good_State_powerCycle
                 | with_reducible apply good_State_beginReset | with_reducible apply good_State_applySplit
                 | with_reducible apply good_State_putReset | with_reducible apply good_State_remap
                 | with_reducible apply good_State_finish | split
                 | fail_if_no_progress (with_reducible apply good_mk; with_reducible apply good_parts))

theorem good_State_granted (s : State) (f : State → State) (hf : ∀ y0, Good q P y0 →
    Good q P (f y0)) (h : Good q P s) : GoodO q P (State.granted s f) := by
  unfold State.granted; try dsimp only
  repeat' (first | with_reducible assumption | intro _ | apply hf | with_reducible apply good_State_does
                 | with_reducible apply good_State_latch | with_reducible apply good_State_arbGrant
                 | with_reducible apply good_State_resume | with_reducible apply goodO_next | split)

theorem good_State_haltOver (s : State)  (h : Good q P s) : Good q P (State.haltOver s) := by
  unfold State.haltOver; try dsimp only
  repeat' (first | with_reducible assumption | intro _ | with_reducible apply good_State_setPower
                 | with_reducible apply good_State_ev | with_reducible apply good_State_fresh
                 | with_reducible apply good_State_setPoint | with_reducible apply good_State_each
                 | with_reducible apply good_State_setKiln | with_reducible apply good_State_setFld
                 | with_reducible apply good_fold | with_reducible apply good_fold_fst | split
                 | fail_if_no_progress (with_reducible apply good_mk; with_reducible apply good_parts))

theorem good_State_haltCleared (cause : Nat) (s : State)  (h : Good q P s) : Good q P (State.haltCleared cause s) := by
  unfold State.haltCleared; try dsimp only
  repeat' (first | with_reducible assumption | intro _ | with_reducible apply good_State_setFlag
                 | with_reducible apply good_State_haltOver | split)

theorem good_State_heartbeat (g : Nat) (m : Nat) (s : State)  (h : Good q P s) : Good q P (State.heartbeat g m s) := by
  unfold State.heartbeat; try dsimp only
  repeat' (first | with_reducible assumption | intro _ | with_reducible apply good_State_onColl
                 | with_reducible apply good_State_sendColl | split)

theorem good_State_hostCmd (s : State) (o : Origin) (op : Nat) (body : State →
    State) (level : Nat) (snap : Bool) (hbody : ∀ y0, Good q P y0 → Good q P (body y0)) (h : Good q P s) :
    Good q P (State.hostCmd s o op body level snap) := by
  unfold State.hostCmd; try dsimp only
  repeat' (first | with_reducible assumption | intro _ | apply hbody | with_reducible apply good_State_reply
                 | with_reducible apply good_State_finish | split
                 | fail_if_no_progress (with_reducible apply good_mk; with_reducible apply good_parts))

theorem good_State_hostStart (s : State)  (h : Good q P s) : Good q P (State.hostStart s) := by
  unfold State.hostStart; try dsimp only
  repeat' (first | with_reducible assumption | intro _ | with_reducible apply good_State_ev
                 | with_reducible apply good_State_setFld | with_reducible apply good_State_setFlag
                 | with_reducible apply good_State_each | split)

theorem good_State_hotWindow (counts : List (Nat × Nat)) (s : State)  (h : Good q P s) : Good q P (State.hotWindow counts s) :=
    by
  unfold State.hotWindow; try dsimp only
  repeat' (first | with_reducible assumption | intro _ | with_reducible apply good_State_each
                 | with_reducible apply good_State_setFld | with_reducible apply good_State_setFlag
                 | with_reducible apply good_State_ev | with_reducible apply good_fold
                 | with_reducible apply good_fold_fst | split
                 | fail_if_no_progress (with_reducible apply good_mk; with_reducible apply good_parts))

theorem good_State_identity_ (d : Nat) (id : Nat) (valid : Bool) (dim : Nat) (verdict : Nat) (s : State)  (h : Good q P s) : Good q
    P (State.identity_ d id valid dim verdict s) := by
  unfold State.identity_; try dsimp only
  repeat' (first | with_reducible assumption | intro _ | with_reducible apply good_State_setFlag
                 | with_reducible apply good_State_setFld | with_reducible apply good_State_classify
                 | with_reducible apply good_State_setPort | split)

theorem good_State_idleEntry (d : Nat) (s : State)  (h : Good q P s) : Good q P (State.idleEntry d s) := by
  unfold State.idleEntry; try dsimp only
  repeat' (first | with_reducible assumption | intro _ | with_reducible apply good_State_send
                 | with_reducible apply good_State_setFlag | with_reducible apply good_State_setPort | split)

theorem good_State_imageWrittenBody (readBackOk : Bool) (s : State)  (h : Good q P s) : Good q P (State.imageWrittenBody
    readBackOk s) := by
  unfold State.imageWrittenBody; try dsimp only
  repeat' (first | with_reducible assumption | intro _ | with_reducible apply good_State_setFld
                 | with_reducible apply good_State_ev | with_reducible apply good_State_stagingInvalid
                 | with_reducible apply good_State_fresh | with_reducible apply good_State_setNvm
                 | with_reducible apply good_fold | with_reducible apply good_fold_fst | split)

theorem good_State_sendAck (s : State) (i : Nat)  (h : Good q P s) : Good q P (State.sendAck s i) := by
  unfold State.sendAck; try dsimp only
  repeat' (first | with_reducible assumption | intro _ | with_reducible apply good_State_sendHost)

theorem good_State_inOrder (s : State) (p : HostPkt) (f : State → State) (hf :
    ∀ y0, Good q P y0 → Good q P (f y0)) (h : Good q P s) : Good q P (State.inOrder s p f) := by
  unfold State.inOrder; try dsimp only
  repeat' (first | with_reducible assumption | intro _ | apply hf | with_reducible apply good_State_sendAck
                 | with_reducible apply good_State_setSess | split)

theorem good_State_shutdown (s : State) (cause : Nat) (src : Nat) (v : Nat)  (h : Good q Canon s) : Good q Canon (State.shutdown s
    cause src v) := by
  unfold State.shutdown; try dsimp only
  repeat' (first | with_reducible assumption | intro _ | with_reducible apply good_State_alert
                 | with_reducible apply good_State_ev | with_reducible apply good_State_saveCounters
                 | with_reducible apply good_State_gone | split)

theorem good_State_realert (s : State) (fs : List Fld)  (h : Good q P s) : Good q P (State.realert s fs)
    := by
  unfold State.realert; try dsimp only
  repeat' (first | with_reducible assumption | intro _ | with_reducible apply good_State_each
                 | with_reducible apply good_State_alert | split)

theorem good_State_inputSample (cv : Nat) (ma : Nat) (held : Nat) (p100 : Nat) (s : State)  (h : Good q Canon s) : Good q Canon
    (State.inputSample cv ma held p100 s) := by
  unfold State.inputSample; try dsimp only
  repeat' (first | with_reducible assumption | intro _ | with_reducible apply good_State_setPower
                 | with_reducible apply good_State_addPair | with_reducible apply good_State_setFld
                 | with_reducible apply good_State_shutdown | with_reducible apply good_State_ev
                 | with_reducible apply good_State_brakeBy | with_reducible apply good_State_halt
                 | with_reducible apply good_State_dutySync | with_reducible apply good_State_brakeOver
                 | with_reducible apply good_State_realert | split)

theorem good_State_openRec (s : State) (e : Ev) (gap : Bool)  (h : Good q P s) : Good q P (State.openRec s
    e gap) := by
  unfold State.openRec; try dsimp only
  repeat' (first | with_reducible assumption | intro _ | with_reducible apply good_State_setFld
                 | with_reducible apply good_State_setPair | with_reducible apply good_State_ev
                 | with_reducible apply good_State_setFlag | split
                 | fail_if_no_progress (with_reducible apply good_mk; with_reducible apply good_parts))

theorem good_State_setLost (s : State) (die : Nat) (lost : Nat × Nat)  (h : Good q P s) : Good q P (State.setLost s die lost) :=
    by
  unfold State.setLost; try dsimp only
  repeat' (first | with_reducible assumption | intro _ | split
                 | fail_if_no_progress (with_reducible apply good_mk; with_reducible apply good_parts))

theorem good_State_lostRec (s : State) (die : Nat)  (h : Good q P s) : Good q P (State.lostRec s die) := by
  unfold State.lostRec; try dsimp only
  repeat' (first | with_reducible assumption | intro _ | with_reducible apply good_State_openRec
                 | with_reducible apply good_State_setLost)

theorem good_State_openNew (s : State) (e : Ev)  (h : Good q P s) : Good q P (State.openNew s e) := by
  unfold State.openNew; try dsimp only
  repeat' (first | with_reducible assumption | intro _ | with_reducible apply good_State_each
                 | with_reducible apply good_State_openRec | with_reducible apply good_State_lostRec)

theorem good_State_takeEvent (s : State) (e : Ev) (h : Good q P s) : Good q P (s.takeEvent e) := by
  unfold State.takeEvent
  cases s.foldSlot e with
  | none => exact good_State_openNew _ _ h
  | some slot => exact good_State_foldInto _ _ _ h

theorem good_State_intake (s : State) (h : Good q P s) : Good q P s.intake := by
  have hb : ∀ d, (s.evq.getD d []).length ≤ 1024 := by
    intro d
    have g := (good_parts h).1.2.2.1
    rw [List.getD_eq_getElem?_getD]
    cases e : s.evq[d]? with
                 | none => simp
                 | some x => exact g.2 x (List.mem_of_getElem? e)
  unfold State.intake
  dsimp only
  have h0 := hb 0
  have h1 := hb 1
  split
  · rename_i e0 e1
    rw [e0, List.length_cons] at h0
    rw [e1, List.length_cons] at h1
    split
    · exact good_State_takeEvent _ _ (good_setEvq _ _ _ (by omega) h)
    · exact good_State_takeEvent _ _ (good_setEvq _ _ _ (by omega) h)
  · rename_i e0 e1
    rw [e0, List.length_cons] at h0
    exact good_State_takeEvent _ _ (good_setEvq _ _ _ (by omega) h)
  · rename_i e0 e1
    rw [e1, List.length_cons] at h1
    exact good_State_takeEvent _ _ (good_setEvq _ _ _ (by omega) h)
  · exact h

theorem good_State_journalApplied (mirrorFault : Bool) (s : State)  (h : Good q P s) : Good q P (State.journalApplied
    mirrorFault s) := by
  unfold State.journalApplied; try dsimp only
  repeat' (first | with_reducible assumption | intro _ | with_reducible apply good_State_sub
                 | with_reducible apply good_State_switchover | split)

theorem good_State_keepSeams (s : State)  (h : Good q P s) : Good q P (State.keepSeams s) := by
  unfold State.keepSeams; try dsimp only
  repeat' (first | with_reducible assumption | intro _ | with_reducible apply good_State_setFlag
                 | with_reducible apply good_State_setFld)

theorem good_State_onReset (s : State) (level : Nat) (target : Nat) (ok : Reset → Bool) (f :
    State → Reset → State) (hf : ∀ y0 y1, Good q P y0 → Good q P (f y0
    y1)) (h : Good q P s) : Good q P (State.onReset s level target ok f) := by
  unfold State.onReset; try dsimp only
  repeat' (first | with_reducible assumption | intro _ | apply hf | split)

theorem good_State_unitFailed (s : State) (r : Reset)  (h : Good q P s) : Good q P (State.unitFailed s r)
    := by
  unfold State.unitFailed; try dsimp only
  repeat' (first | with_reducible assumption | intro _ | with_reducible apply good_State_dropReset
                 | with_reducible apply good_State_ev | with_reducible apply good_State_rstSync
                 | with_reducible apply good_State_loseEngine | with_reducible apply good_State_loseCore
                 | with_reducible apply good_State_each | split
                 | fail_if_no_progress (with_reducible apply good_mk; with_reducible apply good_parts))

theorem good_State_resetFailed (s : State) (r : Reset)  (h : Good q P s) : Good q P (State.resetFailed s
    r) := by
  unfold State.resetFailed; try dsimp only
  repeat' (first | with_reducible assumption | intro _ | with_reducible apply good_State_ev
                 | with_reducible apply good_State_putReset | with_reducible apply good_State_rstSync
                 | with_reducible apply good_State_climb)

theorem good_State_ladderBound (level : Nat) (target : Nat) (units : List (Nat × Nat × Nat)) (s : State)  (h : Good q P s) : Good q P
    (State.ladderBound level target units s) := by
  unfold State.ladderBound; try dsimp only
  repeat' (first | with_reducible assumption | intro _ | with_reducible apply good_State_rstSync
                 | with_reducible apply good_State_climb | with_reducible apply good_State_ev
                 | with_reducible apply good_State_onReset | with_reducible apply good_State_unitFailed
                 | with_reducible apply good_State_resetFailed | split
                 | fail_if_no_progress (with_reducible apply good_mk; with_reducible apply good_parts))

theorem good_State_laneRetrained (n : Nat) (pass : Bool) (s : State)  (h : Good q P s) : Good q P (State.laneRetrained n pass
    s) := by
  unfold State.laneRetrained; try dsimp only
  repeat' (first | with_reducible assumption | intro _ | with_reducible apply good_State_laneChange
                 | with_reducible apply good_State_ev | with_reducible apply good_State_setFlag
                 | with_reducible apply good_State_setFld | with_reducible apply good_State_takeOut | split)

theorem good_State_laneWrite (s : State) (r : Requester) (n : Nat) (value : Nat) (peerUp : Bool)  (h : Good q P s) :
    Good q P (State.laneWrite s r n value peerUp) := by
  unfold State.laneWrite; try dsimp only
  repeat' (first | with_reducible assumption | intro _ | with_reducible apply good_State_access
                 | with_reducible apply good_gate | with_reducible apply good_State_doLaneCtrl | split)

theorem good_State_leaseExpired (cell : Nat) (s : State)  (h : Good q P s) : Good q P (State.leaseExpired cell s) := by
  unfold State.leaseExpired; try dsimp only
  repeat' (first | with_reducible assumption | intro _ | with_reducible apply good_State_switchover
                 | with_reducible apply good_State_ev | with_reducible apply good_State_setFlag | split)

theorem good_State_leaseRenewed (s : State)  (h : Good q P s) : Good q P (State.leaseRenewed s) := by
  unfold State.leaseRenewed; try dsimp only
  repeat' (first | with_reducible assumption | intro _ | with_reducible apply good_State_setFlag | split
                 | fail_if_no_progress (with_reducible apply good_mk; with_reducible apply good_parts))

theorem good_State_weaken (s : State) (one : List (Nat × Nat)) (more : List Nat)  (h : Good q P s) : Good q P (State.weaken s one
    more) := by
  unfold State.weaken; try dsimp only
  repeat' (first | with_reducible assumption | intro _ | with_reducible apply good_fold
                 | with_reducible apply good_fold_fst | split
                 | fail_if_no_progress (with_reducible apply good_mk; with_reducible apply good_parts))

theorem good_State_localRequest (w : Agent) (a : Nat) (m : MemOp) (corrected : List (Nat × Nat)) (lost : List
    Nat) (s : State)  (h : Good q Canon s) : Good q Canon (State.localRequest w a m corrected lost s) := by
  unfold State.localRequest; try dsimp only
  repeat' (first | with_reducible assumption | intro _ | with_reducible apply good_State_serve
                 | with_reducible apply good_State_weaken | with_reducible apply good_State_send)

theorem good_State_lockTime (s : State) (port : Nat)  (h : Good q P s) : Good q P (State.lockTime s port) := by
  unfold State.lockTime; try dsimp only
  repeat' (first | with_reducible assumption | intro _ | with_reducible apply good_State_ev
                 | with_reducible apply good_State_setFlag)

theorem good_State_loseDie (s : State) (k : Nat) (cause : Nat)  (h : Good q P s) : Good q P (State.loseDie s k cause) := by
  unfold State.loseDie; try dsimp only
  repeat' (first | with_reducible assumption | intro _ | with_reducible apply good_State_each
                 | with_reducible apply good_State_makeHole | with_reducible apply good_State_setFld
                 | with_reducible apply good_State_spareSync | with_reducible apply good_State_setFlag
                 | with_reducible apply good_State_dropLower | with_reducible apply good_State_ev
                 | with_reducible apply good_State_ashAdd | with_reducible apply good_State_replay | split
                 | fail_if_no_progress (with_reducible apply good_mk; with_reducible apply good_parts))

theorem good_State_lostEngines (s : State) (cause : Nat)  (h : Good q P s) : Good q P (State.lostEngines s cause) := by
  unfold State.lostEngines; try dsimp only
  repeat' (first | with_reducible assumption | intro _ | with_reducible apply good_State_each
                 | with_reducible apply good_State_ashStart | split)

theorem good_State_measureImage (s : State) (m : List Byte)  (h : Good q P s) : Good q P (State.measureImage s m)
    := by
  unfold State.measureImage; try dsimp only
  repeat' (first | with_reducible assumption | intro _ | with_reducible apply good_State_extend
                 | with_reducible apply good_State_each)

theorem good_State_mirrorCheck (slot : Nat) (badF0 : List Nat) (badF1 : List Nat) (s : State)  (h : Good q P s) : Good q P
    (State.mirrorCheck slot badF0 badF1 s) := by
  unfold State.mirrorCheck; try dsimp only
  repeat' (first | with_reducible assumption | intro _ | with_reducible apply good_State_ev
                 | with_reducible apply good_State_setFlag | with_reducible apply good_State_each
                 | with_reducible apply good_State_bump | split
                 | fail_if_no_progress (with_reducible apply good_mk; with_reducible apply good_parts))

theorem good_State_resend (s : State) (i : Nat)  (h : Good q P s) : Good q P (State.resend s i) := by
  unfold State.resend; try dsimp only
  repeat' (first | with_reducible assumption | intro _ | with_reducible apply good_State_each
                 | with_reducible apply good_State_sendHost | with_reducible apply good_State_bump)

theorem good_State_miss (i : Nat) (s : State)  (h : Good q P s) : Good q P (State.miss i s) := by
  unfold State.miss; try dsimp only
  repeat' (first | with_reducible assumption | intro _ | with_reducible apply good_State_resend
                 | with_reducible apply good_State_setSess | with_reducible apply good_State_ev
                 | with_reducible apply good_State_setFld | with_reducible apply good_State_pump
                 | with_reducible apply good_State_toNet | with_reducible apply good_State_bump | split)

theorem good_State_movePorts (s : State)  (h : Good q P s) : Good q P (State.movePorts s) := by
  unfold State.movePorts; try dsimp only
  repeat' (first | with_reducible assumption | intro _ | with_reducible apply good_State_each
                 | with_reducible apply good_State_setFld | split)

theorem good_State_noteOffset (s : State) (offset : ℤ) (v : Nat)  (h : Good q P s) : Good q P (State.noteOffset s offset v) :=
    by
  unfold State.noteOffset; try dsimp only
  repeat' (first | with_reducible assumption | intro _ | with_reducible apply good_State_setFld
                 | with_reducible apply good_State_setFlag | split
                 | fail_if_no_progress (with_reducible apply good_mk; with_reducible apply good_parts))

theorem good_State_orphaned (s : State)  (h : Good q P s) : Good q P (State.orphaned s) := by
  unfold State.orphaned; try dsimp only
  repeat' (first | with_reducible assumption | intro _ | with_reducible apply good_State_ev
                 | with_reducible apply good_State_setPower | with_reducible apply good_State_setFlag
                 | with_reducible apply good_State_capSync | with_reducible apply good_State_alert | split)

theorem good_State_pageZero (s : State) (m : List Byte) (sigOk : Bool)  (h : Good q P s) : Good q P
    (State.pageZero s m sigOk) := by
  unfold State.pageZero; try dsimp only
  repeat' (first | with_reducible assumption | intro _ | with_reducible apply good_State_setUpdate
                 | with_reducible apply good_State_ev | with_reducible apply good_State_beginStaging | split)

theorem good_nextOr (s : State) (o : Host.Outcome State Fault Refusal) (ho : GoodO q P o) (h : Good q P s) : Good q P (nextOr s o) := by
  obtain ⟨t, rfl, ht⟩ := ho
  exact ht

theorem good_execNop (o : Origin) (s : State)  (h : Good q P s) : GoodO q P (execNop o s) := by
  unfold execNop; try dsimp only
  repeat' (first | with_reducible assumption | intro _ | with_reducible apply good_State_granted
                 | with_reducible apply good_State_hostCmd | with_reducible apply good_State_finish)

theorem good_execContextCreate (o : Origin) (p : CtxParams) (s : State)  (h : Good q P s) : GoodO q P
    (execContextCreate o p s) := by
  unfold execContextCreate; try dsimp only
  repeat' (first | with_reducible assumption | intro _ | with_reducible apply good_State_granted
                 | with_reducible apply good_State_hostCmd | with_reducible apply good_State_doContextCreate)

theorem good_execContextDestroy (o : Origin) (c : Nat) (s : State)  (h : Good q Canon s) : GoodO q Canon
    (execContextDestroy o c s) := by
  unfold execContextDestroy; try dsimp only
  repeat' (first | with_reducible assumption | intro _ | with_reducible apply good_State_granted
                 | with_reducible apply good_State_hostCmd | with_reducible apply good_State_withCtx
                 | with_reducible apply good_State_destroyContext)

theorem good_execContextAbort (o : Origin) (c : Nat) (s : State)  (h : Good q Canon s) : GoodO q Canon
    (execContextAbort o c s) := by
  unfold execContextAbort; try dsimp only
  repeat' (first | with_reducible assumption | intro _ | with_reducible apply good_State_granted
                 | with_reducible apply good_State_hostCmd | with_reducible apply good_State_withCtx
                 | with_reducible apply good_State_finish | with_reducible apply good_State_contextAbort)

theorem good_execDoorbell (o : Origin) (c : Nat) (q_2 : Nat) (tail : Nat) (s : State)  (h : Good q P s) : GoodO q P
    (execDoorbell o c q_2 tail s) := by
  unfold execDoorbell; try dsimp only
  repeat' (first | with_reducible assumption | intro _ | with_reducible apply good_State_granted
                 | with_reducible apply good_State_hostCmd | with_reducible apply good_State_doDoorbell)

theorem good_execQueueRestart (o : Origin) (c : Nat) (q_2 : Nat) (entry : Nat) (s : State)  (h : Good q P s) : GoodO q P
    (execQueueRestart o c q_2 entry s) := by
  unfold execQueueRestart; try dsimp only
  repeat' (first | with_reducible assumption | intro _ | with_reducible apply good_State_granted
                 | with_reducible apply good_State_hostCmd | with_reducible apply good_State_doRestart)

theorem good_execSetSplit (o : Origin) (n : Nat) (s : State)  (h : Good q P s) : GoodO q P (execSetSplit o n s) :=
    by
  unfold execSetSplit; try dsimp only
  repeat' (first | with_reducible assumption | intro _ | with_reducible apply good_State_granted
                 | with_reducible apply good_State_hostCmd | with_reducible apply good_State_doSetSplit)

theorem good_execSyncSet (o : Origin) (n : Nat) (clear : Bool) (v : Nat) (s : State)  (h : Good q P s) : GoodO q P
    (execSyncSet o n clear v s) := by
  unfold execSyncSet; try dsimp only
  repeat' (first | with_reducible assumption | intro _ | with_reducible apply good_State_granted
                 | with_reducible apply good_State_hostCmd | with_reducible apply good_State_doSyncSet)

theorem good_execSyncWait (o : Origin) (n : Nat) (target : Nat) (us : Nat) (s : State)  (h : Good q P s) : GoodO q P
    (execSyncWait o n target us s) := by
  unfold execSyncWait; try dsimp only
  repeat' (first | with_reducible assumption | intro _ | with_reducible apply good_State_granted
                 | with_reducible apply good_State_hostCmd | with_reducible apply good_State_doSyncWait)

theorem good_execSlotOpen (o : Origin) (p : SlotParams) (s : State)  (h : Good q P s) : GoodO q P
    (execSlotOpen o p s) := by
  unfold execSlotOpen; try dsimp only
  repeat' (first | with_reducible assumption | intro _ | with_reducible apply good_State_granted
                 | with_reducible apply good_State_hostCmd | with_reducible apply good_State_doSlot)

theorem good_execSlotClose (o : Origin) (p : SlotParams) (s : State)  (h : Good q P s) : GoodO q P
    (execSlotClose o p s) := by
  unfold execSlotClose; try dsimp only
  repeat' (first | with_reducible assumption | intro _ | with_reducible apply good_State_granted
                 | with_reducible apply good_State_hostCmd | with_reducible apply good_State_doSlot)

theorem good_execSlotTruncate (o : Origin) (p : SlotParams) (s : State)  (h : Good q P s) : GoodO q P
    (execSlotTruncate o p s) := by
  unfold execSlotTruncate; try dsimp only
  repeat' (first | with_reducible assumption | intro _ | with_reducible apply good_State_granted
                 | with_reducible apply good_State_hostCmd | with_reducible apply good_State_doSlot)

theorem good_execSlotRepoint (o : Origin) (p : SlotParams) (s : State)  (h : Good q P s) : GoodO q P
    (execSlotRepoint o p s) := by
  unfold execSlotRepoint; try dsimp only
  repeat' (first | with_reducible assumption | intro _ | with_reducible apply good_State_granted
                 | with_reducible apply good_State_hostCmd | with_reducible apply good_State_doSlot)

theorem good_execMemRead (o : Origin) (addr : Nat) (n : Nat) (s : State)  (h : Good q P s) : GoodO q P (execMemRead o
    addr n s) := by
  unfold execMemRead; try dsimp only
  repeat' (first | with_reducible assumption | intro _ | with_reducible apply good_State_granted
                 | with_reducible apply good_State_hostCmd | with_reducible apply good_State_doMemRead)

theorem good_execMemWrite (o : Origin) (addr : Nat) (n : Nat) (data : List Byte) (s : State)  (h : Good q
    Canon s) : GoodO q Canon (execMemWrite o addr n data s) := by
  unfold execMemWrite; try dsimp only
  repeat' (first | with_reducible assumption | intro _ | with_reducible apply good_State_granted
                 | with_reducible apply good_State_hostCmd | with_reducible apply good_State_doMemWrite)

theorem good_execMemAtomic (o : Origin) (addr : Nat) (op : Nat) (size : Nat) (operands : List Byte) (s :
    State)  (h : Good q Canon s) : GoodO q Canon (execMemAtomic o addr op size operands s) := by
  unfold execMemAtomic; try dsimp only
  repeat' (first | with_reducible assumption | intro _ | with_reducible apply good_State_granted
                 | with_reducible apply good_State_hostCmd | with_reducible apply good_State_doMemAtomic)

theorem good_execRegionAssign (o : Origin) (r : Nat) (c : Nat) (s : State)  (h : Good q P s) : GoodO q P
    (execRegionAssign o r c s) := by
  unfold execRegionAssign; try dsimp only
  repeat' (first | with_reducible assumption | intro _ | with_reducible apply good_State_granted
                 | with_reducible apply good_State_hostCmd | with_reducible apply good_State_doAssign)

theorem good_execRegionRelease (o : Origin) (r : Nat) (s : State)  (h : Good q P s) : GoodO q P (execRegionRelease o
    r s) := by
  unfold execRegionRelease; try dsimp only
  repeat' (first | with_reducible assumption | intro _ | with_reducible apply good_State_granted
                 | with_reducible apply good_State_hostCmd | with_reducible apply good_State_doRelease)

theorem good_execDmaBind (o : Origin) (ch : Nat) (ctx : Nat) (s : State)  (h : Good q P s) : GoodO q P (execDmaBind o
    ch ctx s) := by
  unfold execDmaBind; try dsimp only
  repeat' (first | with_reducible assumption | intro _ | with_reducible apply good_State_granted
                 | with_reducible apply good_State_hostCmd | with_reducible apply good_State_doBind)

theorem good_execDmaRelease (o : Origin) (ch : Nat) (s : State)  (h : Good q P s) : GoodO q P (execDmaRelease o ch
    s) := by
  unfold execDmaRelease; try dsimp only
  repeat' (first | with_reducible assumption | intro _ | with_reducible apply good_State_granted
                 | with_reducible apply good_State_hostCmd | with_reducible apply good_State_doUnbind)

theorem good_execDmaStart (o : Origin) (ch : Nat) (image : List Byte) (s : State)  (h : Good q P s) :
    GoodO q P (execDmaStart o ch image s) := by
  unfold execDmaStart; try dsimp only
  repeat' (first | with_reducible assumption | intro _ | with_reducible apply good_State_granted
                 | with_reducible apply good_State_hostCmd | with_reducible apply good_State_doDmaStart)

theorem good_execDmaAbort (o : Origin) (ch : Nat) (s : State)  (h : Good q P s) : GoodO q P (execDmaAbort o ch s) :=
    by
  unfold execDmaAbort; try dsimp only
  repeat' (first | with_reducible assumption | intro _ | with_reducible apply good_State_granted
                 | with_reducible apply good_State_hostCmd | with_reducible apply good_State_doDmaAbort)

theorem good_execGroupCreate (o : Origin) (p : GroupParams) (s : State)  (h : Good q P s) : GoodO q P
    (execGroupCreate o p s) := by
  unfold execGroupCreate; try dsimp only
  repeat' (first | with_reducible assumption | intro _ | with_reducible apply good_State_granted
                 | with_reducible apply good_State_hostCmd | with_reducible apply good_State_doGroupCreate)

theorem good_execGroupDestroy (o : Origin) (gid : Nat) (s : State)  (h : Good q Canon s) : GoodO q Canon
    (execGroupDestroy o gid s) := by
  unfold execGroupDestroy; try dsimp only
  repeat' (first | with_reducible assumption | intro _ | with_reducible apply good_State_granted
                 | with_reducible apply good_State_hostCmd | with_reducible apply good_State_doGroupDestroy)

theorem good_execGroupDoorbell (o : Origin) (gid : Nat) (tail : Nat) (s : State)  (h : Good q P s) : GoodO q P
    (execGroupDoorbell o gid tail s) := by
  unfold execGroupDoorbell; try dsimp only
  repeat' (first | with_reducible assumption | intro _ | with_reducible apply good_State_granted
                 | with_reducible apply good_State_hostCmd | with_reducible apply good_State_doGroupDoorbell)

theorem good_execInstallRanks (o : Origin) (n : Nat) (first : Nat) (ids : List Nat) (s : State)  (h : Good q P s) :
    GoodO q P (execInstallRanks o n first ids s) := by
  unfold execInstallRanks; try dsimp only
  repeat' (first | with_reducible assumption | intro _ | with_reducible apply good_State_granted
                 | with_reducible apply good_State_hostCmd | with_reducible apply good_State_doRanks)

theorem good_execStageRanks (o : Origin) (n : Nat) (first : Nat) (ids : List Nat) (gen : Nat) (s : State)  (h : Good q P
    s) : GoodO q P (execStageRanks o n first ids gen s) := by
  unfold execStageRanks; try dsimp only
  repeat' (first | with_reducible assumption | intro _ | with_reducible apply good_State_granted
                 | with_reducible apply good_State_hostCmd | with_reducible apply good_State_doRanks)

theorem good_execFormRick (o : Origin) (p : RickParams) (s : State)  (h : Good q P s) : GoodO q P
    (execFormRick o p s) := by
  unfold execFormRick; try dsimp only
  repeat' (first | with_reducible assumption | intro _ | with_reducible apply good_State_granted
                 | with_reducible apply good_State_hostCmd | with_reducible apply good_State_doForm)

theorem good_execDissolveRick (o : Origin) (s : State)  (h : Good q Canon s) : GoodO q Canon (execDissolveRick o
    s) := by
  unfold execDissolveRick; try dsimp only
  repeat' (first | with_reducible assumption | intro _ | with_reducible apply good_State_granted
                 | with_reducible apply good_State_hostCmd | with_reducible apply good_State_withRick
                 | with_reducible apply good_State_finish | with_reducible apply good_State_dissolve)

theorem good_execJoin (o : Origin) (p : RickParams) (s : State)  (h : Good q P s) : GoodO q P (execJoin
    o p s) := by
  unfold execJoin; try dsimp only
  repeat' (first | with_reducible assumption | intro _ | with_reducible apply good_State_granted
                 | with_reducible apply good_State_hostCmd | with_reducible apply good_State_doJoin)

theorem good_execRebuild (o : Origin) (spare : Nat) (s : State)  (h : Good q P s) : GoodO q P (execRebuild o spare
    s) := by
  unfold execRebuild; try dsimp only
  repeat' (first | with_reducible assumption | intro _ | with_reducible apply good_State_granted
                 | with_reducible apply good_State_hostCmd | with_reducible apply good_State_doRebuild)

theorem good_execRollback (o : Origin) (bank : Nat) (s : State)  (h : Good q Canon s) : GoodO q Canon (execRollback
    o bank s) := by
  unfold execRollback; try dsimp only
  repeat' (first | with_reducible assumption | intro _ | with_reducible apply good_State_granted
                 | with_reducible apply good_State_hostCmd | with_reducible apply good_State_withRick
                 | with_reducible apply good_State_finish | with_reducible apply good_State_beginRollback
                 | with_reducible apply good_State_withRick | with_reducible apply goodO_next | split)

theorem good_execEventRead (o : Origin) (first : Nat) (count : Nat) (s : State)  (h : Good q P s) : GoodO q P
    (execEventRead o first count s) := by
  unfold execEventRead; try dsimp only
  repeat' (first | with_reducible assumption | intro _ | with_reducible apply good_State_granted
                 | with_reducible apply good_State_hostCmd | with_reducible apply good_State_doEventRead)

theorem good_execReadRegs (o : Origin) (offs : List Nat) (s : State)  (h : Good q P s) : GoodO q P (execReadRegs o
    offs s) := by
  unfold execReadRegs; try dsimp only
  repeat' (first | with_reducible assumption | intro _ | with_reducible apply good_State_granted
                 | with_reducible apply good_State_hostCmd | with_reducible apply good_State_doReadRegs)

theorem good_execResetRequest (o : Origin) (level : Nat) (part : Nat) (s : State)  (h : Good q P s) : GoodO q P
    (execResetRequest o level part s) := by
  unfold execResetRequest; try dsimp only
  repeat' (first | with_reducible assumption | intro _ | with_reducible apply good_State_granted
                 | with_reducible apply good_State_hostCmd | with_reducible apply good_State_doResetRequest)

theorem good_execWriteRegs (o : Origin) (writes : List (Nat × Nat)) (s : State)  (h : Good q Canon s) : GoodO q Canon
    (execWriteRegs o writes s) := by
  unfold execWriteRegs; try dsimp only
  repeat' (first | with_reducible assumption | intro _ | with_reducible apply good_State_granted
                 | with_reducible apply good_State_hostCmd | with_reducible apply good_State_doWriteRegs)

theorem good_execAttest (o : Origin) (nonce : Nat) (s : State)  (h : Good q P s) : GoodO q P (execAttest o nonce s)
    := by
  unfold execAttest; try dsimp only
  repeat' (first | with_reducible assumption | intro _ | with_reducible apply good_State_granted
                 | with_reducible apply good_State_hostCmd | with_reducible apply good_State_doAttest)

theorem good_State_perform (s : State) (i : Instr)  (h : Good q Canon s) : Good q Canon (State.perform s i) := by
  unfold State.perform; try dsimp only
  repeat' (first | with_reducible assumption | intro _ | with_reducible apply good_nextOr
                 | with_reducible apply good_execNop | with_reducible apply good_execContextCreate
                 | with_reducible apply good_execContextDestroy | with_reducible apply good_execContextAbort
                 | with_reducible apply good_execDoorbell | with_reducible apply good_execQueueRestart
                 | with_reducible apply good_execSetSplit | with_reducible apply good_execSyncSet
                 | with_reducible apply good_execSyncWait | with_reducible apply good_execSlotOpen
                 | with_reducible apply good_execSlotClose | with_reducible apply good_execSlotTruncate
                 | with_reducible apply good_execSlotRepoint | with_reducible apply good_execMemRead
                 | with_reducible apply good_execMemWrite | with_reducible apply good_execMemAtomic
                 | with_reducible apply good_execRegionAssign | with_reducible apply good_execRegionRelease
                 | with_reducible apply good_execDmaBind | with_reducible apply good_execDmaRelease
                 | with_reducible apply good_execDmaStart | with_reducible apply good_execDmaAbort
                 | with_reducible apply good_execGroupCreate | with_reducible apply good_execGroupDestroy
                 | with_reducible apply good_execGroupDoorbell | with_reducible apply good_execInstallRanks
                 | with_reducible apply good_execStageRanks | with_reducible apply good_execFormRick
                 | with_reducible apply good_execDissolveRick | with_reducible apply good_execJoin
                 | with_reducible apply good_execRebuild | with_reducible apply good_execRollback
                 | with_reducible apply good_execEventRead | with_reducible apply good_execReadRegs
                 | with_reducible apply good_execResetRequest | with_reducible apply good_execWriteRegs
                 | with_reducible apply good_execAttest | split)

theorem good_State_plannedSwap (forced : Bool) (s : State)  (h : Good q P s) : Good q P (State.plannedSwap forced s) := by
  unfold State.plannedSwap; try dsimp only
  repeat' (first | with_reducible assumption | intro _ | with_reducible apply good_State_switchover
                 | with_reducible apply good_State_ev | split)

theorem good_State_portStart (s : State) (d : Nat)  (h : Good q P s) : Good q P (State.portStart s d) := by
  unfold State.portStart; try dsimp only
  repeat' (first | with_reducible assumption | intro _ | with_reducible apply good_State_ev
                 | with_reducible apply good_State_setPortState | split)

theorem good_State_portWrite (s : State) (r : Requester) (d : Nat) (value : Nat)  (h : Good q P s) : Good q P
    (State.portWrite s r d value) := by
  unfold State.portWrite; try dsimp only
  repeat' (first | with_reducible assumption | intro _ | with_reducible apply good_State_access
                 | with_reducible apply good_gate | with_reducible apply good_State_doPortCtrl | split)

theorem good_State_postCheck (s : State) (r : Reset) (cores : List (Nat × Nat)) (dies : List Nat)  (h : Good q P
    s) : Good q P (State.postCheck s r cores dies) := by
  unfold State.postCheck; try dsimp only
  repeat' (first | with_reducible assumption | intro _ | with_reducible apply good_State_putReset
                 | with_reducible apply good_State_each | with_reducible apply good_State_loseDie
                 | with_reducible apply good_State_loseCore | split
                 | fail_if_no_progress (with_reducible apply good_mk; with_reducible apply good_parts))

theorem good_State_probationOver (u : Nat) (ms : Nat) (s : State)  (h : Good q P s) : Good q P (State.probationOver u ms s) :=
    by
  unfold State.probationOver; try dsimp only
  repeat' (first | with_reducible assumption | intro _ | with_reducible apply good_State_switchover
                 | with_reducible apply good_State_ev | with_reducible apply good_State_setFld | split)

end Sys2Proof.Machine
end

