-- ==== Sys2Proof/Laws/GoodOps5.lean ====
section
/-! SUPPORT. `Good` is kept by each shared operation and each meaning, part 5 of 6, callees before their callers. -/

namespace Sys2Proof.Machine

variable {q : List Instr} {P : Memory → Prop}

theorem good_State_pull (s : State) (version : Nat) (first : Nat) (count : Nat)  (h : Good q P s) : Good q P (State.pull s version
    first count) := by
  unfold State.pull; try dsimp only
  repeat' (first | with_reducible assumption | intro _ | with_reducible apply good_State_place | split)

theorem good_State_pumpAll (s : State)  (h : Good q P s) : Good q P (State.pumpAll s) := by
  unfold State.pumpAll; try dsimp only
  repeat' (first | with_reducible assumption | intro _ | with_reducible apply good_State_each
                 | with_reducible apply good_State_pump)

theorem good_State_raiseFloor (s : State)  (h : Good q P s) : Good q P (State.raiseFloor s) := by
  unfold State.raiseFloor; try dsimp only
  repeat' (first | with_reducible assumption | intro _ | with_reducible apply good_State_nvmPut
                 | with_reducible apply good_State_ev | with_reducible apply good_State_setFld | split
                 | fail_if_no_progress (with_reducible apply good_mk; with_reducible apply good_parts))

theorem good_State_randomFault (m : Nat) (test : Nat) (s : State)  (h : Good q P s) : Good q P (State.randomFault m test s) :=
    by
  unfold State.randomFault; try dsimp only
  repeat' (first | with_reducible assumption | intro _ | with_reducible apply good_State_ev
                 | with_reducible apply good_State_setFld | split)

theorem good_State_readAway (s : State) (p : Nat) (job : Nat) (r : Run) (d : Desc)  (h :
    Good q P s) : Good q P (State.readAway s p job r d) := by
  unfold State.readAway; try dsimp only
  repeat' (first | with_reducible assumption | intro _ | with_reducible apply good_State_setPart
                 | with_reducible apply good_State_each | with_reducible apply good_State_issue
                 | with_reducible apply good_State_operandAnswered | split)

theorem good_State_readyRetry (g : Nat) (s : State)  (h : Good q P s) : Good q P (State.readyRetry g s) := by
  unfold State.readyRetry; try dsimp only
  repeat' (first | with_reducible assumption | intro _ | with_reducible apply good_State_each
                 | with_reducible apply good_State_sendColl | split)

theorem good_State_rebuildEnds (s : State)  (h : Good q P s) : Good q P (State.rebuildEnds s) := by
  unfold State.rebuildEnds; try dsimp only
  repeat' (first | with_reducible assumption | intro _ | with_reducible apply good_State_setFld
                 | with_reducible apply good_State_ev | with_reducible apply good_State_setFlag
                 | with_reducible apply good_State_endRebuild | split
                 | fail_if_no_progress (with_reducible apply good_mk; with_reducible apply good_parts))

theorem good_State_retire (s : State) (i : Nat) (ack : Nat)  (h : Good q P s) : Good q P (State.retire s i ack) := by
  unfold State.retire; try dsimp only
  repeat' (first | with_reducible assumption | intro _ | with_reducible apply good_State_setSess | split)

theorem good_State_receive (s : State) (p : HostPkt) (type : Nat) (limit : Nat) (f : State →
    State) (hf : ∀ y0, Good q P y0 → Good q P (f y0)) (h : Good q P s) : Good q P (State.receive s p type
    limit f) := by
  unfold State.receive; try dsimp only
  repeat' (first | with_reducible assumption | intro _ | apply hf | with_reducible apply good_State_countRx
                 | with_reducible apply good_State_setSess | with_reducible apply good_State_follow
                 | with_reducible apply good_State_retire | with_reducible apply good_State_dropHost | split)

theorem good_State_recordDone (type : Nat) (ok : Bool) (s : State)  (h : Good q P s) : Good q P (State.recordDone type ok s)
    := by
  unfold State.recordDone; try dsimp only
  repeat' (first | with_reducible assumption | intro _ | with_reducible apply good_State_nvmSync
                 | with_reducible apply good_State_bump | with_reducible apply good_State_setNvm
                 | with_reducible apply good_State_ev | split
                 | fail_if_no_progress (with_reducible apply good_mk; with_reducible apply good_parts))

theorem good_State_recordLoad (s : State) (r : Requester) (off : Nat) (act : State →
    State × Status) (hact : ∀ y0, Good q P y0 → Good q P (act y0).1) (h : Good q P s) : Good q P
    (State.recordLoad s r off act) := by
  unfold State.recordLoad; try dsimp only
  repeat' (first | with_reducible assumption | intro _ | apply hact | with_reducible apply good_State_auditAct
                 | with_reducible apply good_State_fresh | with_reducible apply good_State_answer | split)

theorem good_State_release (s : State) (r : Reset) (us : Nat)  (h : Good q P s) : Good q P (State.release s
    r us) := by
  unfold State.release; try dsimp only
  repeat' (first | with_reducible assumption | intro _ | with_reducible apply good_State_rstSync
                 | with_reducible apply good_State_dropReset | with_reducible apply good_State_each
                 | with_reducible apply good_State_ev | with_reducible apply good_State_finish)

theorem good_State_replyArrives (s : State) (op : Nat) (p : Packet)  (h : Good q Canon s) : Good q Canon
    (State.replyArrives s op p) := by
  unfold State.replyArrives; try dsimp only
  repeat' (first | with_reducible assumption | intro _ | with_reducible apply good_State_serveReply | split)

theorem good_State_reportStale (s : State)  (h : Good q P s) : Good q P (State.reportStale s) := by
  unfold State.reportStale; try dsimp only
  repeat' (first | with_reducible assumption | intro _ | with_reducible apply good_State_ev
                 | with_reducible apply good_State_setFlag | with_reducible apply good_State_setFlowCap | split)

theorem good_State_reqArrives (s : State) (op : Nat) (p : Packet)  (h : Good q Canon s) : Good q Canon
    (State.reqArrives s op p) := by
  unfold State.reqArrives; try dsimp only
  repeat' (first | with_reducible assumption | intro _ | with_reducible apply good_State_serveReq | split)

theorem good_State_resetGrant (level : Nat) (target : Nat) (cause : Nat) (s : State)  (h : Good q Canon s) : Good q Canon
    (State.resetGrant level target cause s) := by
  unfold State.resetGrant; try dsimp only
  repeat' (first | with_reducible assumption | intro _ | with_reducible apply good_State_grantReset
                 | with_reducible apply good_State_askReset | split)

theorem good_State_residueMismatch (k : Nat) (p : Nat) (e : Nat) (c : Nat) (second : Bool) (s : State)  (h : Good q P s) : Good q P
    (State.residueMismatch k p e c second s) := by
  unfold State.residueMismatch; try dsimp only
  repeat' (first | with_reducible assumption | intro _ | with_reducible apply good_State_badColumn
                 | with_reducible apply good_State_ev | with_reducible apply good_State_bump | split
                 | fail_if_no_progress (with_reducible apply good_mk; with_reducible apply good_parts))

theorem good_State_resolveFailed (s : State) (p : Nat) (r : Run) (e : ReadEnd)  (h : Good
    q Canon s) : Good q Canon (State.resolveFailed s p r e) := by
  unfold State.resolveFailed; try dsimp only
  repeat' (first | with_reducible assumption | intro _ | with_reducible apply good_State_refuseFiring)

theorem good_State_tileFiring (s : State) (p : Nat) (r : Run) (x_3 : Ctx) (d :
    Desc)  (h : Good q Canon s) : Good q Canon (State.tileFiring s p r x_3 d) := by
  unfold State.tileFiring; try dsimp only
  repeat' (first | with_reducible assumption | intro _ | with_reducible apply good_State_setPart
                 | with_reducible apply good_State_refuseFiring | with_reducible apply good_State_ev
                 | with_reducible apply good_State_beginBank | with_reducible apply good_State_readAway
                 | with_reducible apply good_State_dealOut | split)

theorem good_State_resolveRead (s : State) (job : Nat) (reads : List RemoteRead) (a n : Nat) (h : Good q P s) :
    ∀ r, s.resolveRead job reads a n = some r → Good q P r.1 := by
  intro r e
  unfold State.resolveRead at e
  split at e
  · cases e
    exact good_State_load _ _ _ _ h
  · cases hf : reads.find? fun r => r.addr == a with
    | none => rw [hf] at e; cases e
    | some x => rw [hf] at e; cases e; exact h

theorem good_State_resolveReads (s : State) (job : Nat) (reads : List RemoteRead) (n : Nat) (as : List Nat) (h : Good q P s) :
    ∀ r, s.resolveReads job reads n as = some r → Good q P r.1 := by
  induction as generalizing s with
  | nil => rintro r ⟨⟩; exact h
  | cons a as ih =>
    intro r e
    unfold State.resolveReads at e
    split at e
    · cases e
    · rename_i t x v e1
      have ht : Good q P t := good_State_resolveRead _ _ _ _ _ h _ e1
      split at e
      · cases e
        exact ht
      · split at e
        · rename_i u y vs e2
          cases e
          exact ih t ht (u, y, vs) e2
        · cases e

theorem good_State_captureSlot (s : State) (x : Ctx) (d : Desc) (reads : List RemoteRead) (n : Nat) (h : Good q P s) :
    ∀ r, s.captureSlot x d reads n = some r → Good q P r.1 := by
  intro r e
  unfold State.captureSlot at e
  dsimp only at e
  split at e
  · cases e
  · rename_i e1
    cases e
    exact good_State_resolveReads _ _ _ _ _ h _ e1

theorem good_State_captureAll (s : State) (x : Ctx) (d : Desc) (reads : List RemoteRead) (ns : List Nat) (h : Good q P s) :
    ∀ r, s.captureAll x d reads ns = some r → Good q P r.1 := by
  induction ns generalizing s with
  | nil => rintro r ⟨⟩; exact h
  | cons a as ih =>
    intro r e
    unfold State.captureAll at e
    split at e
    · cases e
    · rename_i t y v e1
      have ht : Good q P t := good_State_captureSlot _ _ _ _ _ h _ e1
      split at e
      · cases e
        exact ht
      · split at e
        · rename_i u z vs e2
          cases e
          exact ih t ht (u, z, vs) e2
        · cases e

theorem good_State_resolveSlots (s : State) (p : Nat) (r : Run) (x : Ctx) (d : Desc) (reads : List RemoteRead) (h : Good q Canon s) :
    Good q Canon (s.resolveSlots p r x d reads) := by
  unfold State.resolveSlots
  dsimp only
  split
  · exact h
  · rename_i t e ns e1
    have ht : Good q Canon t := good_State_resolveReads _ _ _ _ _ h _ e1
    split
    · exact good_State_resolveFailed _ _ _ _ ht
    · split
      · exact good_State_failCheck _ _ _ _ ht
      · split
        · exact good_State_failCheck _ _ _ _ ht
        · split
          · exact h
          · rename_i u f caps e2
            have hu : Good q Canon u := good_State_captureAll _ _ _ _ _ ht _ e2
            split
            · exact good_State_resolveFailed _ _ _ _ hu
            · exact good_State_tileFiring _ _ _ _ _ hu

theorem good_State_resolveDone (p : Nat) (reads : List RemoteRead) (s : State) (h : Good q Canon s) :
    Good q Canon (State.resolveDone p reads s) := by
  unfold State.resolveDone
  dsimp only
  repeat' (first | with_reducible assumption | with_reducible apply good_State_refuseFiring
                 | with_reducible apply good_State_resolveSlots | with_reducible apply good_State_tileFiring
                 | with_reducible apply good_State_fresh | split)

theorem good_State_retest (passA : Bool) (passB : Bool) (s : State)  (h : Good q P s) : Good q P (State.retest passA passB
    s) := by
  unfold State.retest; try dsimp only
  repeat' (first | with_reducible assumption | intro _ | with_reducible apply good_State_setFld | split)

theorem good_State_returnToken (s : State) (u : Nat)  (h : Good q P s) : Good q P (State.returnToken s u) := by
  unfold State.returnToken; try dsimp only
  repeat' (first | with_reducible assumption | intro _ | with_reducible apply good_State_giveToken
                 | with_reducible apply good_State_released | split
                 | fail_if_no_progress (with_reducible apply good_mk; with_reducible apply good_parts))

theorem good_State_startTime (s : State) (base : Nat)  (h : Good q P s) : Good q P (State.startTime s base) := by
  unfold State.startTime; try dsimp only
  repeat' (first | with_reducible assumption | intro _ | split
                 | fail_if_no_progress (with_reducible apply good_mk; with_reducible apply good_parts))

theorem good_State_rootLost (s : State)  (h : Good q P s) : Good q P (State.rootLost s) := by
  unfold State.rootLost; try dsimp only
  repeat' (first | with_reducible assumption | intro _ | with_reducible apply good_State_setFlag
                 | with_reducible apply good_State_ev | with_reducible apply good_State_becomeRoot
                 | with_reducible apply good_State_startTime | with_reducible apply good_State_newRoot | split)

theorem good_State_rotate (k : Nat) (s : State)  (h : Good q P s) : Good q P (State.rotate k s) := by
  unfold State.rotate; try dsimp only
  repeat' (first | with_reducible assumption | intro _ | with_reducible apply good_State_setFld
                 | with_reducible apply good_State_bump | split
                 | fail_if_no_progress (with_reducible apply good_mk; with_reducible apply good_parts))

theorem good_State_runImage (s : State) (i : Option Image)  (h : Good q P s) : Good q P (State.runImage s
    i) := by
  unfold State.runImage; try dsimp only
  repeat' (first | with_reducible assumption | intro _ | with_reducible apply good_State_setFld
                 | with_reducible apply good_State_measureImage | with_reducible apply good_State_each
                 | with_reducible apply good_State_fresh | with_reducible apply good_State_extend
                 | with_reducible apply good_State_bankRegs | split)

theorem good_State_scanDone (f : Nat) (errors : List (Nat × Nat)) (s : State)  (h : Good q P s) : Good q P (State.scanDone f
    errors s) := by
  unfold State.scanDone; try dsimp only
  repeat' (first | with_reducible assumption | intro _ | with_reducible apply good_State_clearRange
                 | with_reducible apply good_State_each | with_reducible apply good_State_setFld
                 | with_reducible apply good_State_setFlag | with_reducible apply good_State_ev | split
                 | fail_if_no_progress (with_reducible apply good_mk; with_reducible apply good_parts))

theorem good_State_scrub (corrected : List (Nat × Nat)) (bad : List Nat) (spares : List Nat) (s : State)  (h : Good q P s) : Good q
    P (State.scrub corrected bad spares s) := by
  unfold State.scrub; try dsimp only
  repeat' (first | with_reducible assumption | intro _ | with_reducible apply good_State_weaken
                 | with_reducible apply good_State_each | with_reducible apply good_State_countCe
                 | with_reducible apply good_State_countUe | with_reducible apply good_State_spareFails
                 | with_reducible apply good_State_bump | with_reducible apply good_State_seamSync
                 | with_reducible apply good_State_ev | split
                 | fail_if_no_progress (with_reducible apply good_mk; with_reducible apply good_parts))

theorem good_State_seamMap (s : State) (m : Nat) (bad : List Nat)  (h : Good q P s) : Good q P (State.seamMap s m bad) := by
  unfold State.seamMap; try dsimp only
  repeat' (first | with_reducible assumption | intro _ | with_reducible apply good_State_setFlag
                 | with_reducible apply good_State_setFld | with_reducible apply good_State_each
                 | with_reducible apply good_State_ev | with_reducible apply good_fold
                 | with_reducible apply good_fold_fst | split)

theorem good_State_sendSegment (s : State) (g : Nat) (x_2 : Group) (c : Coll) (k :
    SegKey) (bs : List Byte)  (h : Good q P s) : Good q P (State.sendSegment s g x_2 c k bs) :=
    by
  unfold State.sendSegment; try dsimp only
  repeat' (first | with_reducible assumption | intro _ | with_reducible apply good_State_each
                 | with_reducible apply good_State_inject | with_reducible apply good_State_freeSlotOf)

theorem good_State_segSend (g : Nat) (seg : Nat) (rev : Bool) (s : State)  (h : Good q P s) : Good q P (State.segSend g seg rev
    s) := by
  unfold State.segSend; try dsimp only
  repeat' (first | with_reducible assumption | intro _ | with_reducible apply good_State_onColl
                 | with_reducible apply good_State_sendSegment | split
                 | fail_if_no_progress (with_reducible apply good_mk; with_reducible apply good_parts))

theorem good_State_startFiring (s : State) (p : Nat) (c : Nat) (q_3 : Nat) (x_4 : Ctx)  (h : Good q P s) : Good
    q P (State.startFiring s p c q_3 x_4) := by
  unfold State.startFiring; try dsimp only
  repeat' (first | with_reducible assumption | intro _ | with_reducible apply good_State_charge
                 | with_reducible apply good_State_setPart | with_reducible apply good_State_fresh
                 | with_reducible apply good_State_setFld | with_reducible apply good_State_setFlag | split)

theorem good_State_selectFiring (p : Nat) (s : State)  (h : Good q P s) : Good q P (State.selectFiring p s) := by
  unfold State.selectFiring; try dsimp only
  repeat' (first | with_reducible assumption | intro _ | with_reducible apply good_State_refill
                 | with_reducible apply good_State_startFiring | split)

theorem good_State_testResult (s : State) (u : Nat) (failing : Nat)  (h : Good q P s) : Good q P (State.testResult s u failing)
    := by
  unfold State.testResult; try dsimp only
  repeat' (first | with_reducible assumption | intro _ | with_reducible apply good_State_setFld
                 | with_reducible apply good_State_setFlag)

theorem good_State_selfTested (u : Nat) (failing : Nat) (s : State)  (h : Good q P s) : Good q P (State.selfTested u failing s)
    := by
  unfold State.selfTested; try dsimp only
  repeat' (first | with_reducible assumption | intro _ | with_reducible apply good_State_ev
                 | with_reducible apply good_State_testResult | with_reducible apply good_State_failUnit
                 | with_reducible apply good_State_setCu | with_reducible apply good_State_setFld | split)

theorem good_State_sendCredits (port : Nat) (s : State)  (h : Good q P s) : Good q P (State.sendCredits port s) := by
  unfold State.sendCredits; try dsimp only
  repeat' (first | with_reducible assumption | intro _ | with_reducible apply good_State_each
                 | with_reducible apply good_State_setCredit | with_reducible apply good_State_putOnPort | split)

theorem good_State_sendPage (d : Nat) (s : State)  (h : Good q P s) : Good q P (State.sendPage d s) := by
  unfold State.sendPage; try dsimp only
  repeat' (first | with_reducible assumption | intro _ | with_reducible apply good_State_setUpdate
                 | with_reducible apply good_State_place | with_reducible apply good_State_sourceSync
                 | with_reducible apply good_State_darkBranch | split)

theorem good_State_sendTime (s : State) (d : Nat) (answer : Option (Nat × Nat))  (h : Good q P s) : Good q P (State.sendTime s d
    answer) := by
  unfold State.sendTime; try dsimp only
  repeat' (first | with_reducible assumption | intro _ | with_reducible apply good_State_place
                 | with_reducible apply good_State_fresh)

theorem good_State_takePair (s : State) (q_1 : Nat) (a : Nat) (b : Nat)  (h : Good q P s) : Good q P (State.takePair s q_1 a b).1
    := by
  unfold State.takePair; try dsimp only
  repeat' (first | with_reducible assumption | intro _ | with_reducible apply good_State_alert
                 | with_reducible apply good_State_ev | with_reducible apply good_State_setFld
                 | with_reducible apply good_State_setFlag | with_reducible apply good_State_fresh | split)

theorem good_State_takePackage (s : State) (p : Nat) (x_2 : Nat)  (h : Good q P s) : Good q P (State.takePackage s p x_2).1 :=
    by
  unfold State.takePackage; try dsimp only
  repeat' (first | with_reducible assumption | intro _ | with_reducible apply good_State_ev
                 | with_reducible apply good_State_alert | with_reducible apply good_State_fresh
                 | with_reducible apply good_State_setFld | with_reducible apply good_State_setFlag | split)

theorem good_State_setThermal (s : State) (pairs : List (Nat × Nat))  (h : Good q P s) : Good q P (State.setThermal s pairs) :=
    by
  unfold State.setThermal; try dsimp only
  repeat' (first | with_reducible assumption | intro _ | with_reducible apply good_State_each
                 | with_reducible apply good_State_setPower | with_reducible apply good_State_ev
                 | with_reducible apply good_State_fresh | with_reducible apply good_fold
                 | with_reducible apply good_fold_fst | split)

theorem good_State_sensorSample (pairs : List (Nat × Nat)) (packages : List Nat) (s : State)  (h : Good q Canon s) : Good q Canon
    (State.sensorSample pairs packages s) := by
  unfold State.sensorSample; try dsimp only
  repeat' (first | with_reducible assumption | intro _ | with_reducible apply good_State_takePair
                 | with_reducible apply good_State_takePackage | with_reducible apply good_State_setPower
                 | with_reducible apply good_State_shutdown | with_reducible apply good_State_setFlag
                 | with_reducible apply good_State_loseDie | with_reducible apply good_State_halt
                 | with_reducible apply good_State_dutySync | with_reducible apply good_State_setThermal
                 | with_reducible apply good_State_realert | with_reducible apply good_fold
                 | with_reducible apply good_fold_fst | split)

theorem good_State_setId (s : State)  (h : Good q P s) : Good q P (State.setId s) := by
  unfold State.setId; try dsimp only
  repeat' (first | with_reducible assumption | intro _ | with_reducible apply good_State_setFlag
                 | with_reducible apply good_State_setFld | with_reducible apply good_State_planRegs
                 | with_reducible apply good_State_ev | split)

theorem good_State_setLink (s : State) (port : Nat) (up : Bool)  (h : Good q P s) : Good q P (State.setLink s port up) := by
  unfold State.setLink; try dsimp only
  repeat' (first | with_reducible assumption | intro _ | with_reducible apply good_State_setFld
                 | with_reducible apply good_State_setFlag)

theorem good_State_setRate (s : State) (rate : ℤ)  (h : Good q P s) : Good q P (State.setRate s rate) := by
  unfold State.setRate; try dsimp only
  repeat' (first | with_reducible assumption | intro _ | with_reducible apply good_State_setFld | split
                 | fail_if_no_progress (with_reducible apply good_mk; with_reducible apply good_parts))

theorem good_State_settle (s : State)  (h : Good q P s) : Good q P (State.settle s) := by
  unfold State.settle; try dsimp only
  repeat' (first | with_reducible assumption | intro _ | with_reducible apply good_State_latch
                 | with_reducible apply good_State_endSwitch | split)

theorem good_State_silentPeer (pos : Nat) (s : State)  (h : Good q P s) : Good q P (State.silentPeer pos s) := by
  unfold State.silentPeer; try dsimp only
  repeat' (first | with_reducible assumption | intro _ | with_reducible apply good_State_ev
                 | with_reducible apply good_State_setFlag | with_reducible apply good_State_setFld | split)

theorem good_State_slew (s : State) (offset : ℤ) (v : Nat) (counter : Nat)  (h : Good q P s) : Good q P (State.slew s offset v
    counter) := by
  unfold State.slew; try dsimp only
  repeat' (first | with_reducible assumption | intro _ | with_reducible apply good_State_setRate
                 | with_reducible apply good_State_fresh | with_reducible apply good_State_startTime | split)

theorem good_State_slotTimeout (die : Nat) (n : Nat) (s : State)  (h : Good q Canon s) : Good q Canon (State.slotTimeout die n
    s) := by
  unfold State.slotTimeout; try dsimp only
  repeat' (first | with_reducible assumption | intro _ | with_reducible apply good_State_closeSlot
                 | with_reducible apply good_State_ev | with_reducible apply good_State_bump | split)

theorem good_State_spareTested (k : Nat) (failing : Nat) (s : State)  (h : Good q P s) : Good q P (State.spareTested k failing
    s) := by
  unfold State.spareTested; try dsimp only
  repeat' (first | with_reducible assumption | intro _ | with_reducible apply good_State_setFld
                 | with_reducible apply good_State_ev | with_reducible apply good_State_bump
                 | with_reducible apply good_State_loseCore | split
                 | fail_if_no_progress (with_reducible apply good_mk; with_reducible apply good_parts))

theorem good_State_sparingDone (seam : Nat) (lost : List Nat) (s : State)  (h : Good q P s) : Good q P (State.sparingDone seam
    lost s) := by
  unfold State.sparingDone; try dsimp only
  repeat' (first | with_reducible assumption | intro _ | with_reducible apply good_State_weaken
                 | with_reducible apply good_State_each | with_reducible apply good_State_countCe
                 | with_reducible apply good_State_countUe | with_reducible apply good_State_setFlag
                 | with_reducible apply good_State_setFld | with_reducible apply good_State_seamSync
                 | with_reducible apply good_State_ashAdd | with_reducible apply good_State_ev | split
                 | fail_if_no_progress (with_reducible apply good_mk; with_reducible apply good_parts))

theorem good_State_stall (g : Nat) (s : State)  (h : Good q Canon s) : Good q Canon (State.stall g s) := by
  unfold State.stall; try dsimp only
  repeat' (first | with_reducible assumption | intro _ | with_reducible apply good_State_readColl
                 | with_reducible apply good_State_busyColl | with_reducible apply good_State_onColl
                 | with_reducible apply good_State_cutColl | with_reducible apply good_State_ev | split)

theorem good_State_startDone (s : State)  (h : Good q P s) : Good q P (State.startDone s) := by
  unfold State.startDone; try dsimp only
  repeat' (first | with_reducible assumption | intro _ | with_reducible apply good_State_setFld
                 | with_reducible apply good_State_setFlag | with_reducible apply good_State_raiseFloor
                 | with_reducible apply good_State_ev | with_reducible apply good_fold
                 | with_reducible apply good_fold_fst | split
                 | fail_if_no_progress (with_reducible apply good_mk; with_reducible apply good_parts))

theorem good_State_stepFail (s : State) (step : Nat) (st : Nat) (p2 : Nat)  (h : Good q P s) : Good q P (State.stepFail s step st
    p2) := by
  unfold State.stepFail; try dsimp only
  repeat' (first | with_reducible assumption | intro _ | with_reducible apply good_State_ev
                 | with_reducible apply good_State_setFld | with_reducible apply good_State_setFlag)

theorem good_State_stepPassed (s : State) (n : Nat) (ms : Nat)  (h : Good q P s) : Good q P (State.stepPassed s n ms) := by
  unfold State.stepPassed; try dsimp only
  repeat' (first | with_reducible assumption | intro _ | with_reducible apply good_State_setFld
                 | with_reducible apply good_State_startDone | split)

theorem good_State_stepFailOpen (s : State) (step : Nat) (p2 : Nat)  (h : Good q P s) : Good q P (State.stepFailOpen s step p2)
    := by
  unfold State.stepFailOpen; try dsimp only
  repeat' (first | with_reducible assumption | intro _ | with_reducible apply good_State_stepFail
                 | with_reducible apply good_State_fresh)

theorem good_State_step2 (r : StepResult) (s : State)  (h : Good q P s) : Good q P (State.step2 r s).1 := by
  unfold State.step2; try dsimp only
  repeat' (first | with_reducible assumption | intro _ | with_reducible apply good_State_stepFailOpen
                 | with_reducible apply good_State_ev | with_reducible apply good_State_setNvm
                 | with_reducible apply good_State_savedCounts | with_reducible apply good_State_setFlag
                 | with_reducible apply good_State_deriveKeys | with_reducible apply good_State_each
                 | with_reducible apply good_State_setFld | with_reducible apply good_State_licSlot
                 | with_reducible apply good_State_keySync | with_reducible apply good_State_auditStart
                 | with_reducible apply good_State_setLimits | with_reducible apply good_fold
                 | with_reducible apply good_fold_fst | split
                 | fail_if_no_progress (with_reducible apply good_mk; with_reducible apply good_parts))

theorem good_State_step3 (r : StepResult) (s : State)  (h : Good q P s) : Good q P (State.step3 r s).1 := by
  unfold State.step3; try dsimp only
  repeat' (first | with_reducible assumption | intro _ | with_reducible apply good_State_copyImage
                 | with_reducible apply good_State_runImage | with_reducible apply good_State_fresh
                 | with_reducible apply good_State_ev | with_reducible apply good_State_setFlag
                 | with_reducible apply good_State_bankRegs | with_reducible apply good_State_stepFail | split)

theorem good_State_step4 (r : StepResult) (s : State)  (h : Good q P s) : Good q P (State.step4 r s).1 := by
  unfold State.step4; try dsimp only
  repeat' (first | with_reducible assumption | intro _ | with_reducible apply good_State_setFlag
                 | with_reducible apply good_State_each | with_reducible apply good_State_fresh
                 | with_reducible apply good_State_extend | split
                 | fail_if_no_progress (with_reducible apply good_mk; with_reducible apply good_parts))

theorem good_State_step5 (r : StepResult) (s : State)  (h : Good q P s) : Good q P (State.step5 r s).1 := by
  unfold State.step5; try dsimp only
  repeat' (first | with_reducible assumption | intro _ | with_reducible apply good_State_testResult
                 | with_reducible apply good_State_failUnit | with_reducible apply good_State_stepFailOpen
                 | with_reducible apply good_State_setFld | with_reducible apply good_State_ev
                 | with_reducible apply good_State_ashStart | with_reducible apply good_fold
                 | with_reducible apply good_fold_fst | split
                 | fail_if_no_progress (with_reducible apply good_mk; with_reducible apply good_parts))

theorem good_State_step6 (r : StepResult) (s : State)  (h : Good q P s) : Good q P (State.step6 r s).1 := by
  unfold State.step6; try dsimp only
  repeat' (first | with_reducible assumption | intro _ | with_reducible apply good_State_stepFailOpen
                 | with_reducible apply good_State_ashStart | with_reducible apply good_State_lostEngines
                 | with_reducible apply good_State_each | with_reducible apply good_State_columnMaps
                 | with_reducible apply good_State_diesFound | with_reducible apply good_State_dieMaps
                 | with_reducible apply good_State_engineFlags | with_reducible apply good_fold
                 | with_reducible apply good_fold_fst | split)

theorem good_State_trainMemory (r : StepResult) (s : State)  (h : Good q P s) : Good q P (State.trainMemory r s)
    := by
  unfold State.trainMemory; try dsimp only
  repeat' (first | with_reducible assumption | intro _ | with_reducible apply good_State_ev
                 | with_reducible apply good_State_each | with_reducible apply good_State_ashStart
                 | with_reducible apply good_State_seamMap | with_reducible apply good_State_setFlag
                 | with_reducible apply good_State_setFld | with_reducible apply good_State_nvmPut | split)

theorem good_State_step7 (r : StepResult) (s : State)  (h : Good q P s) : Good q P (State.step7 r s) := by
  unfold State.step7; try dsimp only
  repeat' (first | with_reducible assumption | intro _ | with_reducible apply good_State_setFlag
                 | with_reducible apply good_State_trainMemory | with_reducible apply good_State_keepSeams
                 | with_reducible apply good_State_setId | with_reducible apply good_State_hostStart
                 | with_reducible apply good_State_each | with_reducible apply good_State_portStart | split
                 | fail_if_no_progress (with_reducible apply good_mk; with_reducible apply good_parts))

theorem good_State_startStep (r : StepResult) (s : State)  (h : Good q P s) : Good q P (State.startStep r s) := by
  unfold State.startStep; try dsimp only
  repeat' (first | with_reducible assumption | intro _ | with_reducible apply good_State_stepFail
                 | with_reducible apply good_State_stepPassed | with_reducible apply good_State_setFld
                 | with_reducible apply good_State_stepFailOpen | with_reducible apply good_State_step2
                 | with_reducible apply good_State_step3 | with_reducible apply good_State_step4
                 | with_reducible apply good_State_step5 | with_reducible apply good_State_step6
                 | with_reducible apply good_State_step7 | split)

theorem good_State_stepDone (g : Nat) (s : State)  (h : Good q Canon s) : Good q Canon (State.stepDone g s) := by
  unfold State.stepDone; try dsimp only
  repeat' (first | with_reducible assumption | intro _ | with_reducible apply good_State_onColl
                 | with_reducible apply good_State_putColl | with_reducible apply good_State_beginAxis
                 | with_reducible apply good_State_closeSteps | split)

theorem good_State_storeChecked (k : Nat) (p : Nat) (pass : Bool) (s : State)  (h : Good q P s) : Good q P (State.storeChecked k
    p pass s) := by
  unfold State.storeChecked; try dsimp only
  repeat' (first | with_reducible assumption | intro _ | with_reducible apply good_State_loseCore | split
                 | fail_if_no_progress (with_reducible apply good_mk; with_reducible apply good_parts))

theorem good_State_storeError (k : Nat) (unit : Nat) (word : Nat) (s : State)  (h : Good q P s) : Good q P (State.storeError k
    unit word s) := by
  unfold State.storeError; try dsimp only
  repeat' (first | with_reducible assumption | intro _ | with_reducible apply good_State_ev
                 | with_reducible apply good_State_setFlag | with_reducible apply good_State_faultFiring | split
                 | fail_if_no_progress (with_reducible apply good_mk; with_reducible apply good_parts))

theorem good_State_storesCorrected (s : State) (p : Nat) (cs : List (Nat × Nat × Nat))  (h : Good q P s) : Good q P
    (State.storesCorrected s p cs) := by
  unfold State.storesCorrected; try dsimp only
  repeat' (first | with_reducible assumption | intro _ | with_reducible apply good_State_each
                 | with_reducible apply good_State_ev | with_reducible apply good_State_bump)

theorem good_State_stormOver (s : State)  (h : Good q P s) : Good q P (State.stormOver s) := by
  unfold State.stormOver; try dsimp only
  repeat' (first | with_reducible assumption | intro _ | with_reducible apply good_State_ev
                 | with_reducible apply good_State_setFlag | with_reducible apply good_State_capSync
                 | with_reducible apply good_State_setPower | with_reducible apply good_fold
                 | with_reducible apply good_fold_fst | split)

theorem good_State_suspect (q_0 : Nat) (s : State)  (h : Good q P s) : Good q P (State.suspect q_0 s) := by
  unfold State.suspect; try dsimp only
  repeat' (first | with_reducible assumption | intro _ | with_reducible apply good_State_alert
                 | with_reducible apply good_State_ev | with_reducible apply good_State_setFlag | split)

theorem good_State_takeCommand (s : State) (p : HostPkt)  (h : Good q Canon s) : Good q Canon (State.takeCommand s
    p) := by
  unfold State.takeCommand; try dsimp only
  repeat' (first | with_reducible assumption | intro _ | with_reducible apply good_State_reply
                 | with_reducible apply good_State_perform | split)

theorem good_State_takeFrame (d : Nat) (f : Frame) (s : State)  (h : Good q P s) : Good q P (State.takeFrame d f s)
    := by
  unfold State.takeFrame; try dsimp only
  repeat' (first | with_reducible assumption | intro _ | with_reducible apply good_State_each
                 | with_reducible apply good_State_countLane | with_reducible apply good_State_acceptFrame
                 | with_reducible apply good_State_setPort | with_reducible apply good_State_dropLanes
                 | with_reducible apply good_State_linkLost | split)

theorem good_State_takePage (d : Nat) (p : Packet) (sigOk : Bool) (s : State)  (h : Good q P s) : Good q P
    (State.takePage d p sigOk s) := by
  unfold State.takePage; try dsimp only
  repeat' (first | with_reducible assumption | intro _ | with_reducible apply good_State_e2eError
                 | with_reducible apply good_State_setFld | with_reducible apply good_State_setFlag
                 | with_reducible apply good_State_setUpdate | with_reducible apply good_State_keepPage
                 | with_reducible apply good_State_forwardPage | with_reducible apply good_State_answerAsked
                 | with_reducible apply good_State_autoFinish | with_reducible apply good_State_pageZero | split)

theorem good_State_takePull (d : Nat) (p : Packet) (s : State)  (h : Good q P s) : Good q P (State.takePull d p s)
    := by
  unfold State.takePull; try dsimp only
  repeat' (first | with_reducible assumption | intro _ | with_reducible apply good_State_each
                 | with_reducible apply good_State_queuePage | with_reducible apply good_State_setUpdate
                 | with_reducible apply good_State_pull | split)

theorem good_State_takeTime (s : State) (d : Nat) (t1 : Nat) (t2 : Nat) (t3 : Nat) (t4 : Nat) (counter : Nat)  (h : Good q P s) : Good q
    P (State.takeTime s d t1 t2 t3 t4 counter) := by
  unfold State.takeTime; try dsimp only
  repeat' (first | with_reducible assumption | intro _ | with_reducible apply good_State_noteOffset
                 | with_reducible apply good_State_slew | with_reducible apply good_State_lockTime
                 | with_reducible apply good_State_becomeRoot | split)

theorem good_State_takeTurn (s : State) (o : Nat) (k : Nat)  (h : Good q P s) : Good q P (State.takeTurn s o k) := by
  unfold State.takeTurn; try dsimp only
  repeat' (first | with_reducible assumption | intro _ | split
                 | fail_if_no_progress (with_reducible apply good_mk; with_reducible apply good_parts))

theorem good_State_tileDone (p : Nat) (tile : Nat) (s : State)  (h : Good q Canon s) : Good q Canon (State.tileDone p tile s) :=
    by
  unfold State.tileDone; try dsimp only
  repeat' (first | with_reducible assumption | intro _ | with_reducible apply good_State_faultFiring
                 | with_reducible apply good_State_each | with_reducible apply good_State_countUe
                 | with_reducible apply good_State_corrects | with_reducible apply good_State_setPart
                 | with_reducible apply good_State_writeOut | with_reducible apply good_State_releaseTile
                 | with_reducible apply good_State_addTile | split)

theorem good_State_timeExchange (s : State)  (h : Good q P s) : Good q P (State.timeExchange s) := by
  unfold State.timeExchange; try dsimp only
  repeat' (first | with_reducible assumption | intro _ | with_reducible apply good_State_sendTime
                 | with_reducible apply good_State_lockTime | with_reducible apply good_State_becomeRoot
                 | with_reducible apply good_State_startTime | with_reducible apply good_State_each
                 | with_reducible apply good_State_followTime | with_reducible apply good_State_retime | split
                 | fail_if_no_progress (with_reducible apply good_mk; with_reducible apply good_parts))

theorem good_State_timePacket (d : Nat) (request : Bool) (t1 : Nat) (t2 : Nat) (t3 : Nat) (t4 : Nat) (rootSeq : Nat) (valid : Bool)
    (backup : Bool) (counter : Nat) (s : State)  (h : Good q P s) : Good q P (State.timePacket d request t1 t2 t3 t4 rootSeq
    valid backup counter s) := by
  unfold State.timePacket; try dsimp only
  repeat' (first | with_reducible assumption | intro _ | with_reducible apply good_State_sendTime
                 | with_reducible apply good_State_takeTime | with_reducible apply good_State_followTime
                 | with_reducible apply good_State_setPort | with_reducible apply good_State_newRoot
                 | with_reducible apply good_State_setFlag | split
                 | fail_if_no_progress (with_reducible apply good_mk; with_reducible apply good_parts))

theorem good_State_trained (d : Nat) (good : Nat) (ms : Nat) (keyFail : Nat) (skew : Nat) (asym : ℤ) (saved : Bool) (s : State)  (h :
    Good q P s) : Good q P (State.trained d good ms keyFail skew asym saved s) := by
  unfold State.trained; try dsimp only
  repeat' (first | with_reducible assumption | intro _ | with_reducible apply good_State_each
                 | with_reducible apply good_State_setFld | with_reducible apply good_State_setFlag
                 | with_reducible apply good_State_fresh | with_reducible apply good_State_ev
                 | with_reducible apply good_State_takeOut | with_reducible apply good_State_setPort
                 | with_reducible apply good_State_setReg | with_reducible apply good_State_dropCredits
                 | with_reducible apply good_State_setWidth | with_reducible apply good_State_setPortState
                 | with_reducible apply good_State_quarantine | split)

theorem good_State_unqueue (s : State) (o : Nat) (x_2 : Stored)  (h : Good q P s) : Good q P (State.unqueue
    s o x_2) := by
  unfold State.unqueue; try dsimp only
  repeat' (first | with_reducible assumption | intro _ | with_reducible apply good_State_retryWaiting
                 | with_reducible apply good_State_storeSync | with_reducible apply good_State_freeCells
                 | with_reducible apply good_State_setQueue)

theorem good_State_transmitOn (s : State) (d : Nat) (x_2 : Stored)  (h : Good q P s) : Good q P
    (State.transmitOn s d x_2) := by
  unfold State.transmitOn; try dsimp only
  repeat' (first | with_reducible assumption | intro _ | with_reducible apply good_State_bump
                 | with_reducible apply good_State_setCredit | with_reducible apply good_State_addPair
                 | with_reducible apply good_State_unqueue | with_reducible apply good_State_putOnPort | split)

theorem good_State_transmit (die : Nat) (o : Nat) (vc : Nat) (s : State)  (h : Good q Canon s) : Good q Canon (State.transmit die
    o vc s) := by
  unfold State.transmit; try dsimp only
  repeat' (first | with_reducible assumption | intro _ | with_reducible apply good_State_takeTurn
                 | with_reducible apply good_State_transmitOn | with_reducible apply good_State_deliver
                 | with_reducible apply good_State_unqueue | split)

theorem keepRegs_canon (old new : Tbl Word) (h : tsorted new = true ∧ ∀ x ∈ new, x.2 ≠ regReset x.1) :
    tsorted (keepRegs old new) = true ∧ ∀ x ∈ keepRegs old new, x.2 ≠ regReset x.1 := by
  unfold keepRegs
  induction old generalizing new with
  | nil => exact h
  | cons y old ih =>
    rw [List.foldl_cons]
    refine ih _ ?_
    split
    · exact tset_canon _ _ _ h
    · exact h

theorem good_State_warmReset (s : State) (h : Good q Canon s) : Good q Canon s.warmReset := by
  unfold State.warmReset
  extract_lets owned s1 s0 s2 t1 t2 t3
  have h2 : Good q Canon s2 :=
    good_State_ev _ _ _ _ _ _ (good_mk (good_parts (good_State_saveCounters s 0 h)))
  have g := good_parts (good_State_powerUp s2 s2.pins.slotId h2)
  have m := (good_parts h2).1.1
  have ht : Good q Canon t2 := good_mk ⟨⟨m, keepRegs_canon _ _ g.1.2.1, g.1.2.2⟩, g.2⟩
  exact good_State_setFlag _ _ _ (good_State_setFlag _ _ _ (good_State_each _ _ _
    (fun t ht x => good_State_setFld _ _ _ (good_State_setFld _ _ _ ht)) ht))

theorem good_State_tryWarm (s : State)  (h : Good q Canon s) : Good q Canon (State.tryWarm s) := by
  unfold State.tryWarm; try dsimp only
  repeat' (first | with_reducible assumption | intro _ | with_reducible apply good_State_warmReset | split)

theorem good_State_unitDone (p : Nat) (u : Nat) (corrected : List (Nat × Nat × Nat)) (s : State)  (h : Good q P s) : Good q P
    (State.unitDone p u corrected s) := by
  unfold State.unitDone; try dsimp only
  repeat' (first | with_reducible assumption | intro _ | with_reducible apply good_State_storesCorrected
                 | with_reducible apply good_State_faultFiring | with_reducible apply good_State_each
                 | with_reducible apply good_State_countUe | with_reducible apply good_State_corrects
                 | with_reducible apply good_State_coreRan | with_reducible apply good_State_setPart | split)

theorem good_State_watchdog (u : Nat) (s : State)  (h : Good q P s) : Good q P (State.watchdog u s) := by
  unfold State.watchdog; try dsimp only
  repeat' (first | with_reducible assumption | intro _ | with_reducible apply good_State_bump
                 | with_reducible apply good_State_setFlag | with_reducible apply good_State_ev
                 | with_reducible apply good_State_switchover | with_reducible apply good_State_failUnit
                 | with_reducible apply good_State_returnToken | with_reducible apply good_State_noUnit | split)

theorem good_State_wipe (s : State) (d : Domain)  (h : Good q P s) : Good q P (State.wipe s d) := by
  unfold State.wipe; try dsimp only
  repeat' (first | with_reducible assumption | intro _ | with_reducible apply good_State_clearCores
                 | with_reducible apply good_State_storesLost | with_reducible apply good_State_each
                 | with_reducible apply good_State_setPart | with_reducible apply good_State_freeSeq)

theorem good_State_zeroed (r : Nat) (s : State) (h : Good q Canon s) : Good q Canon (State.zeroed r s) := by
  unfold State.zeroed
  split
  · exact h
  · refine good_State_finish _ _ _ _ _ _ (good_State_setRegion _ _ _ _ _ ?_)
    have g := good_parts h
    exact good_mk ⟨⟨Memory.zero_wf _ _ _ g.1.1, g.1.2⟩, g.2⟩

theorem good_execSyncWaitTimeout (o : Origin) (s : State)  (h : Good q P s) : GoodO q P (execSyncWaitTimeout o s)
    := by
  unfold execSyncWaitTimeout; try dsimp only
  repeat' (first | with_reducible assumption | intro _ | with_reducible apply good_State_does
                 | with_reducible apply good_State_finish | with_reducible apply goodO_next | split
                 | fail_if_no_progress (with_reducible apply good_mk; with_reducible apply good_parts))

theorem good_execZeroingDone (r : Nat) (s : State)  (h : Good q Canon s) : GoodO q Canon (execZeroingDone r s) := by
  unfold execZeroingDone; try dsimp only
  repeat' (first | with_reducible assumption | intro _ | with_reducible apply good_State_does
                 | with_reducible apply good_State_zeroed)

theorem good_execHello (h_0 : Hello) (s : State)  (h : Good q P s) : GoodO q P (execHello h_0 s) := by
  unfold execHello; try dsimp only
  repeat' (first | with_reducible assumption | intro _ | with_reducible apply good_State_does
                 | with_reducible apply good_State_doHello)

theorem good_execFinish (p : HostPkt) (confirmOk : Bool) (s : State)  (h : Good q P s) : GoodO q P (execFinish p
    confirmOk s) := by
  unfold execFinish; try dsimp only
  repeat' (first | with_reducible assumption | intro _ | with_reducible apply good_State_does
                 | with_reducible apply good_State_doFinish)

theorem good_execHandshakeTimeout (sess : Nat) (s : State)  (h : Good q P s) : GoodO q P (execHandshakeTimeout sess s) := by
  unfold execHandshakeTimeout; try dsimp only
  repeat' (first | with_reducible assumption | intro _ | with_reducible apply good_State_does
                 | with_reducible apply good_State_freeSess | with_reducible apply goodO_next | split)

theorem good_execCommand (p : HostPkt) (s : State)  (h : Good q Canon s) : GoodO q Canon (execCommand p s) := by
  unfold execCommand; try dsimp only
  repeat' (first | with_reducible assumption | intro _ | with_reducible apply good_State_does
                 | with_reducible apply good_State_receive | with_reducible apply good_State_inOrder
                 | with_reducible apply good_State_takeCommand)

theorem good_execAck (p : HostPkt) (s : State) (h : Good q P s) : GoodO q P (execAck p s) := by
  unfold execAck
  exact good_State_does _ _ (fun t ht => good_State_receive _ _ _ _ _ (fun _ hu => hu) ht) h

theorem good_execClose (p : HostPkt) (s : State)  (h : Good q P s) : GoodO q P (execClose p s) := by
  unfold execClose; try dsimp only
  repeat' (first | with_reducible assumption | intro _ | with_reducible apply good_State_does
                 | with_reducible apply good_State_receive | with_reducible apply good_State_inOrder
                 | with_reducible apply good_State_doClose)

theorem good_execRetransmitTimeout (sess : Nat) (s : State)  (h : Good q P s) : GoodO q P (execRetransmitTimeout sess s) := by
  unfold execRetransmitTimeout; try dsimp only
  repeat' (first | with_reducible assumption | intro _ | with_reducible apply good_State_does
                 | with_reducible apply good_State_miss)

theorem good_execDisconnectedTimeout (sess : Nat) (s : State)  (h : Good q P s) : GoodO q P (execDisconnectedTimeout sess s)
    := by
  unfold execDisconnectedTimeout; try dsimp only
  repeat' (first | with_reducible assumption | intro _ | with_reducible apply good_State_does
                 | with_reducible apply good_State_freeSess | with_reducible apply good_State_ev
                 | with_reducible apply goodO_next | split)

theorem good_execHostPortDown (port : Nat) (s : State)  (h : Good q P s) : GoodO q P (execHostPortDown port s) := by
  unfold execHostPortDown; try dsimp only
  repeat' (first | with_reducible assumption | intro _ | with_reducible apply good_State_does
                 | with_reducible apply good_State_movePorts | with_reducible apply good_State_ev
                 | with_reducible apply good_State_setLink | with_reducible apply goodO_next | split)

theorem good_execHostPortUp (port : Nat) (s : State)  (h : Good q P s) : GoodO q P (execHostPortUp port s) := by
  unfold execHostPortUp; try dsimp only
  repeat' (first | with_reducible assumption | intro _ | with_reducible apply good_State_does
                 | with_reducible apply good_State_movePorts | with_reducible apply good_State_ev
                 | with_reducible apply good_State_setLink | with_reducible apply goodO_next | split)

theorem good_execCommandDone (o : Origin) (s : State)  (h : Good q Canon s) : GoodO q Canon (execCommandDone o s)
    := by
  unfold execCommandDone; try dsimp only
  repeat' (first | with_reducible assumption | intro _ | with_reducible apply good_State_does
                 | with_reducible apply good_State_tryWarm | with_reducible apply good_State_commandDone)

theorem good_execDmaCtrlStart (r : Requester) (ch : Nat) (value : Nat) (s : State)  (h : Good q P s) : GoodO q P
    (execDmaCtrlStart r ch value s) := by
  unfold execDmaCtrlStart; try dsimp only
  repeat' (first | with_reducible assumption | intro _ | with_reducible apply good_State_granted
                 | with_reducible apply good_State_ctrlWrite)

theorem good_execDmaCtrlAbort (r : Requester) (ch : Nat) (s : State)  (h : Good q P s) : GoodO q P (execDmaCtrlAbort
    r ch s) := by
  unfold execDmaCtrlAbort; try dsimp only
  repeat' (first | with_reducible assumption | intro _ | with_reducible apply good_State_granted
                 | with_reducible apply good_State_ctrlWrite)

theorem good_execDmaCtrlClear (r : Requester) (ch : Nat) (s : State)  (h : Good q P s) : GoodO q P (execDmaCtrlClear
    r ch s) := by
  unfold execDmaCtrlClear; try dsimp only
  repeat' (first | with_reducible assumption | intro _ | with_reducible apply good_State_granted
                 | with_reducible apply good_State_ctrlWrite)

theorem good_execDmaRequestIssue (ch : Nat) (s : State)  (h : Good q P s) : GoodO q P (execDmaRequestIssue ch s) := by
  unfold execDmaRequestIssue; try dsimp only
  repeat' (first | with_reducible assumption | intro _ | with_reducible apply good_State_does
                 | with_reducible apply good_State_dmaIssue)

theorem good_execDmaReply (ch : Nat) (req : Nat) (s : State)  (h : Good q Canon s) : GoodO q Canon (execDmaReply ch req s) := by
  unfold execDmaReply; try dsimp only
  repeat' (first | with_reducible assumption | intro _ | with_reducible apply good_State_does
                 | with_reducible apply good_State_dmaLocal)

theorem good_execDmaTransferDone (ch : Nat) (s : State)  (h : Good q P s) : GoodO q P (execDmaTransferDone ch s) := by
  unfold execDmaTransferDone; try dsimp only
  repeat' (first | with_reducible assumption | intro _ | with_reducible apply good_State_granted
                 | with_reducible apply good_State_dmaDoneNow)

theorem good_execDmaDrained (ch : Nat) (s : State)  (h : Good q Canon s) : GoodO q Canon (execDmaDrained ch s) := by
  unfold execDmaDrained; try dsimp only
  repeat' (first | with_reducible assumption | intro _ | with_reducible apply good_State_does
                 | with_reducible apply good_State_dmaDrainedNow)

theorem good_execLanDiscover (r : Requester) (mask : Nat) (s : State)  (h : Good q P s) : GoodO q P (execLanDiscover
    r mask s) := by
  unfold execLanDiscover; try dsimp only
  repeat' (first | with_reducible assumption | intro _ | with_reducible apply good_State_granted
                 | with_reducible apply good_State_access | with_reducible apply good_gate
                 | with_reducible apply good_State_doDiscover)

theorem good_execLaneCtrlDrop (r : Requester) (lane : Nat) (s : State)  (h : Good q P s) : GoodO q P
    (execLaneCtrlDrop r lane s) := by
  unfold execLaneCtrlDrop; try dsimp only
  repeat' (first | with_reducible assumption | intro _ | with_reducible apply good_State_granted
                 | with_reducible apply good_State_laneWrite)

theorem good_execLaneCtrlRestore (r : Requester) (lane : Nat) (s : State)  (h : Good q P s) : GoodO q P
    (execLaneCtrlRestore r lane s) := by
  unfold execLaneCtrlRestore; try dsimp only
  repeat' (first | with_reducible assumption | intro _ | with_reducible apply good_State_granted
                 | with_reducible apply good_State_laneWrite)

theorem good_execLanePrbsEnable (r : Requester) (lane : Nat) (s : State)  (h : Good q P s) : GoodO q P
    (execLanePrbsEnable r lane s) := by
  unfold execLanePrbsEnable; try dsimp only
  repeat' (first | with_reducible assumption | intro _ | with_reducible apply good_State_granted
                 | with_reducible apply good_State_laneWrite)

theorem good_execLaneLoopback (r : Requester) (lane : Nat) (mode : Nat) (peerUp : Bool) (s : State)  (h : Good q P s)
    : GoodO q P (execLaneLoopback r lane mode peerUp s) := by
  unfold execLaneLoopback; try dsimp only
  repeat' (first | with_reducible assumption | intro _ | with_reducible apply good_State_granted
                 | with_reducible apply good_State_laneWrite)

theorem good_execPortCtrlRetrain (r : Requester) (port : Nat) (s : State)  (h : Good q P s) : GoodO q P
    (execPortCtrlRetrain r port s) := by
  unfold execPortCtrlRetrain; try dsimp only
  repeat' (first | with_reducible assumption | intro _ | with_reducible apply good_State_granted
                 | with_reducible apply good_State_portWrite)

theorem good_execPortCtrlForget (r : Requester) (port : Nat) (s : State)  (h : Good q P s) : GoodO q P
    (execPortCtrlForget r port s) := by
  unfold execPortCtrlForget; try dsimp only
  repeat' (first | with_reducible assumption | intro _ | with_reducible apply good_State_granted
                 | with_reducible apply good_State_portWrite)

theorem good_execEyeScanStart (r : Requester) (die : Nat) (value : Nat) (s : State)  (h : Good q P s) : GoodO q P
    (execEyeScanStart r die value s) := by
  unfold execEyeScanStart; try dsimp only
  repeat' (first | with_reducible assumption | intro _ | with_reducible apply good_State_granted
                 | with_reducible apply good_State_eyeWrite)

theorem good_execEyeScanAbort (r : Requester) (die : Nat) (s : State)  (h : Good q P s) : GoodO q P
    (execEyeScanAbort r die s) := by
  unfold execEyeScanAbort; try dsimp only
  repeat' (first | with_reducible assumption | intro _ | with_reducible apply good_State_granted
                 | with_reducible apply good_State_eyeWrite)

theorem good_execEyeScanDone (die : Nat) (errors : List (Nat × Nat)) (s : State)  (h : Good q P s) : GoodO q P (execEyeScanDone
    die errors s) := by
  unfold execEyeScanDone; try dsimp only
  repeat' (first | with_reducible assumption | intro _ | with_reducible apply good_State_does
                 | with_reducible apply good_State_scanDone)

theorem good_execClearHwm (r : Requester) (s : State)  (h : Good q P s) : GoodO q P (execClearHwm r s) := by
  unfold execClearHwm; try dsimp only
  repeat' (first | with_reducible assumption | intro _ | with_reducible apply good_State_granted
                 | with_reducible apply good_State_access | with_reducible apply good_gate
                 | with_reducible apply good_State_doRtrCtrl)

theorem good_execMemSpareStart (r : Requester) (ch : Nat) (s : State)  (h : Good q P s) : GoodO q P
    (execMemSpareStart r ch s) := by
  unfold execMemSpareStart; try dsimp only
  repeat' (first | with_reducible assumption | intro _ | with_reducible apply good_State_granted
                 | with_reducible apply good_State_access | with_reducible apply good_gate
                 | with_reducible apply good_State_doSpareStart)

theorem good_execRstCmdPartition (r : Requester) (part : Nat) (s : State)  (h : Good q P s) : GoodO q P
    (execRstCmdPartition r part s) := by
  unfold execRstCmdPartition; try dsimp only
  repeat' (first | with_reducible assumption | intro _ | with_reducible apply good_State_commanded
                 | with_reducible apply good_State_access | with_reducible apply good_gate
                 | with_reducible apply good_State_doRstCmd)

theorem good_execRstCmdChip (r : Requester) (s : State)  (h : Good q P s) : GoodO q P (execRstCmdChip r s) := by
  unfold execRstCmdChip; try dsimp only
  repeat' (first | with_reducible assumption | intro _ | with_reducible apply good_State_commanded
                 | with_reducible apply good_State_access | with_reducible apply good_gate
                 | with_reducible apply good_State_doRstCmd)

theorem good_execRstCmdPowerCycle (r : Requester) (s : State)  (h : Good q P s) : GoodO q P (execRstCmdPowerCycle
    r s) := by
  unfold execRstCmdPowerCycle; try dsimp only
  repeat' (first | with_reducible assumption | intro _ | with_reducible apply good_State_commanded
                 | with_reducible apply good_State_access | with_reducible apply good_gate
                 | with_reducible apply good_State_doRstCmd)

theorem good_execFaultContextClear (r : Requester) (s : State)  (h : Good q P s) : GoodO q P
    (execFaultContextClear r s) := by
  unfold execFaultContextClear; try dsimp only
  repeat' (first | with_reducible assumption | intro _ | with_reducible apply good_State_granted
                 | with_reducible apply good_State_access | with_reducible apply good_gate
                 | with_reducible apply good_State_doFaultClear)

theorem good_execCtlSwapCommand (r : Requester) (s : State)  (h : Good q P s) : GoodO q P (execCtlSwapCommand r s)
    := by
  unfold execCtlSwapCommand; try dsimp only
  repeat' (first | with_reducible assumption | intro _ | with_reducible apply good_State_granted
                 | with_reducible apply good_State_access | with_reducible apply good_gate
                 | with_reducible apply good_State_doSwap)

theorem good_execUnitRestart (r : Requester) (unit : Nat) (s : State)  (h : Good q P s) : GoodO q P (execUnitRestart
    r unit s) := by
  unfold execUnitRestart; try dsimp only
  repeat' (first | with_reducible assumption | intro _ | with_reducible apply good_State_granted
                 | with_reducible apply good_State_access | with_reducible apply good_gate
                 | with_reducible apply good_State_doUnitRestart)

theorem good_execEmber (r : Requester) (unit : Nat) (count : Nat) (s : State)  (h : Good q P s) : GoodO q P (execEmber
    r unit count s) := by
  unfold execEmber; try dsimp only
  repeat' (first | with_reducible assumption | intro _ | with_reducible apply good_State_granted
                 | with_reducible apply good_State_access | with_reducible apply good_gate
                 | with_reducible apply good_State_doEmber | with_reducible apply goodO_next | split)

theorem good_execTraceEnWrite (r : Requester) (value : Bool) (s : State)  (h : Good q P s) : GoodO q P
    (execTraceEnWrite r value s) := by
  unfold execTraceEnWrite; try dsimp only
  repeat' (first | with_reducible assumption | intro _ | with_reducible apply good_State_granted
                 | with_reducible apply good_State_access | with_reducible apply good_gate
                 | with_reducible apply good_State_doTrace)

theorem good_execBotAshAdd (r : Requester) (value : Nat) (s : State)  (h : Good q P s) : GoodO q P (execBotAshAdd r
    value s) := by
  unfold execBotAshAdd; try dsimp only
  repeat' (first | with_reducible assumption | intro _ | with_reducible apply good_State_granted
                 | with_reducible apply good_State_access | with_reducible apply good_gate
                 | with_reducible apply good_State_doAshAdd)

theorem good_execWarm (r : Requester) (s : State)  (h : Good q Canon s) : GoodO q Canon (execWarm r s) := by
  unfold execWarm; try dsimp only
  repeat' (first | with_reducible assumption | intro _ | with_reducible apply good_State_granted
                 | with_reducible apply good_State_tryWarm | with_reducible apply good_State_access
                 | with_reducible apply good_gate | with_reducible apply good_State_doWarm)

theorem good_execForget (r : Requester) (s : State)  (h : Good q P s) : GoodO q P (execForget r s) := by
  unfold execForget; try dsimp only
  repeat' (first | with_reducible assumption | intro _ | with_reducible apply good_State_granted
                 | with_reducible apply good_State_access | with_reducible apply good_gate
                 | with_reducible apply good_State_doForget)

theorem good_execLicenceInstall (r : Requester) (sigOk : Bool) (s : State)  (h : Good q P s) : GoodO q P
    (execLicenceInstall r sigOk s) := by
  unfold execLicenceInstall; try dsimp only
  repeat' (first | with_reducible assumption | intro _ | with_reducible apply good_State_granted
                 | with_reducible apply good_State_access | with_reducible apply good_gate
                 | with_reducible apply good_State_doLicInstall)

theorem good_execLicenceRemove (r : Requester) (slot : Nat) (s : State)  (h : Good q P s) : GoodO q P
    (execLicenceRemove r slot s) := by
  unfold execLicenceRemove; try dsimp only
  repeat' (first | with_reducible assumption | intro _ | with_reducible apply good_State_granted
                 | with_reducible apply good_State_access | with_reducible apply good_gate
                 | with_reducible apply good_State_doLicRemove)

theorem good_execImageBegin (r : Requester) (sigOk : Bool) (s : State)  (h : Good q P s) : GoodO q P
    (execImageBegin r sigOk s) := by
  unfold execImageBegin; try dsimp only
  repeat' (first | with_reducible assumption | intro _ | with_reducible apply good_State_granted
                 | with_reducible apply good_State_access | with_reducible apply good_gate
                 | with_reducible apply good_State_doBegin)

theorem good_execWritePage (r : Requester) (page : Nat) (s : State)  (h : Good q P s) : GoodO q P (execWritePage r
    page s) := by
  unfold execWritePage; try dsimp only
  repeat' (first | with_reducible assumption | intro _ | with_reducible apply good_State_granted
                 | with_reducible apply good_State_access | with_reducible apply good_gate
                 | with_reducible apply good_State_doWritePage)

theorem good_execImageFinish (r : Requester) (s : State)  (h : Good q P s) : GoodO q P (execImageFinish r s) := by
  unfold execImageFinish; try dsimp only
  repeat' (first | with_reducible assumption | intro _ | with_reducible apply good_State_granted
                 | with_reducible apply good_State_access | with_reducible apply good_gate
                 | with_reducible apply good_State_doImgFinish)

theorem good_execImageWritten (readBackOk : Bool) (s : State)  (h : Good q P s) : GoodO q P (execImageWritten readBackOk s)
    := by
  unfold execImageWritten; try dsimp only
  repeat' (first | with_reducible assumption | intro _ | with_reducible apply good_State_does
                 | with_reducible apply good_State_imageWrittenBody)

theorem good_execActivate (r : Requester) (force : Bool) (s : State)  (h : Good q P s) : GoodO q P (execActivate r
    force s) := by
  unfold execActivate; try dsimp only
  repeat' (first | with_reducible assumption | intro _ | with_reducible apply good_State_granted
                 | with_reducible apply good_State_access | with_reducible apply good_gate
                 | with_reducible apply good_State_doActivate)

theorem good_execCancel (r : Requester) (s : State)  (h : Good q P s) : GoodO q P (execCancel r s) := by
  unfold execCancel; try dsimp only
  repeat' (first | with_reducible assumption | intro _ | with_reducible apply good_State_granted
                 | with_reducible apply good_State_access | with_reducible apply good_gate
                 | with_reducible apply good_State_doCancel)

theorem good_execBroadcast (r : Requester) (s : State)  (h : Good q P s) : GoodO q P (execBroadcast r s) := by
  unfold execBroadcast; try dsimp only
  repeat' (first | with_reducible assumption | intro _ | with_reducible apply good_State_granted
                 | with_reducible apply good_State_access | with_reducible apply good_gate
                 | with_reducible apply good_State_doBroadcast)

theorem good_execEnrolAdd (r : Requester) (sigOk : Bool) (s : State)  (h : Good q P s) : GoodO q P (execEnrolAdd r
    sigOk s) := by
  unfold execEnrolAdd; try dsimp only
  repeat' (first | with_reducible assumption | intro _ | with_reducible apply good_State_granted
                 | with_reducible apply good_State_access | with_reducible apply good_gate
                 | with_reducible apply good_State_doEnrolAdd)

theorem good_execEnrolRemove (r : Requester) (slot : Nat) (s : State)  (h : Good q P s) : GoodO q P (execEnrolRemove
    r slot s) := by
  unfold execEnrolRemove; try dsimp only
  repeat' (first | with_reducible assumption | intro _ | with_reducible apply good_State_granted
                 | with_reducible apply good_State_access | with_reducible apply good_gate
                 | with_reducible apply good_State_doEnrolRemove)

theorem good_execPwrCapWrite (r : Requester) (watts : Nat) (s : State)  (h : Good q P s) : GoodO q P
    (execPwrCapWrite r watts s) := by
  unfold execPwrCapWrite; try dsimp only
  repeat' (first | with_reducible assumption | intro _ | with_reducible apply good_State_granted
                 | with_reducible apply good_State_access | with_reducible apply good_gate
                 | with_reducible apply good_State_doCapWrite)

theorem good_execOpCapWrite (r : Requester) (watts : Nat) (s : State)  (h : Good q P s) : GoodO q P (execOpCapWrite
    r watts s) := by
  unfold execOpCapWrite; try dsimp only
  repeat' (first | with_reducible assumption | intro _ | with_reducible apply good_State_granted
                 | with_reducible apply good_State_access | with_reducible apply good_gate
                 | with_reducible apply good_State_doOpCap)

theorem good_execLimitsWrite (r : Requester) (maxW : Nat) (minW : Nat) (s : State)  (h : Good q P s) : GoodO q P
    (execLimitsWrite r maxW minW s) := by
  unfold execLimitsWrite; try dsimp only
  repeat' (first | with_reducible assumption | intro _ | with_reducible apply good_State_granted
                 | with_reducible apply good_State_access | with_reducible apply good_gate
                 | with_reducible apply good_State_doLimits)

theorem good_execTrayReport (r : Requester) (flow : Nat) (s : State)  (h : Good q Canon s) : GoodO q Canon
    (execTrayReport r flow s) := by
  unfold execTrayReport; try dsimp only
  repeat' (first | with_reducible assumption | intro _ | with_reducible apply good_State_granted
                 | with_reducible apply good_State_access | with_reducible apply good_gate
                 | with_reducible apply good_State_doReport)

end Sys2Proof.Machine
end

