-- ==== Sys2Proof/Laws/GoodOps6.lean ====
section
/-! SUPPORT. `Good` is kept by each shared operation and each meaning, part 6 of 6, callees before their callers. -/

namespace Sys2Proof.Machine

variable {q : List Instr} {P : Memory → Prop}

theorem good_execPlanLoad (r : Requester) (plan : Plan) (s : State)  (h : Good q P s) : GoodO q P
    (execPlanLoad r plan s) := by
  unfold execPlanLoad; try dsimp only
  repeat' (first | with_reducible assumption | intro _ | with_reducible apply good_State_granted
                 | with_reducible apply good_State_recordLoad | with_reducible apply good_State_doPlan)

theorem good_execRegisterWrite (r : Requester) (off : Nat) (value : Nat) (s : State)  (h : Good q Canon s) : GoodO q
    Canon (execRegisterWrite r off value s) := by
  unfold execRegisterWrite; try dsimp only
  repeat' (first | with_reducible assumption | intro _ | with_reducible apply good_State_writeReg
                 | with_reducible apply good_State_tryWarm | with_reducible apply good_State_answer
                 | with_reducible apply good_State_commanded | with_reducible apply good_State_granted
                 | with_reducible apply goodO_next | split)

theorem good_execPacketIngress (port : Nat) (p : Packet) (s : State)  (h : Good q P s) : GoodO q P
    (execPacketIngress port p s) := by
  unfold execPacketIngress; try dsimp only
  repeat' (first | with_reducible assumption | intro _ | with_reducible apply good_State_does
                 | with_reducible apply good_State_ingress)

theorem good_execPacketTransmit (die : Nat) (port : Nat) (vc : Nat) (s : State)  (h : Good q Canon s) : GoodO q Canon
    (execPacketTransmit die port vc s) := by
  unfold execPacketTransmit; try dsimp only
  repeat' (first | with_reducible assumption | intro _ | with_reducible apply good_State_does
                 | with_reducible apply good_State_transmit)

theorem good_execRead (p : Packet) (s : State)  (h : Good q Canon s) : GoodO q Canon (execRead p s) := by
  unfold execRead; try dsimp only
  repeat' (first | with_reducible assumption | intro _ | with_reducible apply good_State_does
                 | with_reducible apply good_State_reqArrives)

theorem good_execWrite (p : Packet) (s : State)  (h : Good q Canon s) : GoodO q Canon (execWrite p s) := by
  unfold execWrite; try dsimp only
  repeat' (first | with_reducible assumption | intro _ | with_reducible apply good_State_does
                 | with_reducible apply good_State_reqArrives)

theorem good_execWriteMasked (p : Packet) (s : State)  (h : Good q Canon s) : GoodO q Canon (execWriteMasked p s)
    := by
  unfold execWriteMasked; try dsimp only
  repeat' (first | with_reducible assumption | intro _ | with_reducible apply good_State_does
                 | with_reducible apply good_State_reqArrives)

theorem good_execAtomic (p : Packet) (s : State)  (h : Good q Canon s) : GoodO q Canon (execAtomic p s) := by
  unfold execAtomic; try dsimp only
  repeat' (first | with_reducible assumption | intro _ | with_reducible apply good_State_does
                 | with_reducible apply good_State_reqArrives)

theorem good_execSignal (p : Packet) (s : State)  (h : Good q Canon s) : GoodO q Canon (execSignal p s) := by
  unfold execSignal; try dsimp only
  repeat' (first | with_reducible assumption | intro _ | with_reducible apply good_State_does
                 | with_reducible apply good_State_reqArrives)

theorem good_execCompletion (p : Packet) (s : State)  (h : Good q Canon s) : GoodO q Canon (execCompletion p s) :=
    by
  unfold execCompletion; try dsimp only
  repeat' (first | with_reducible assumption | intro _ | with_reducible apply good_State_does
                 | with_reducible apply good_State_reqArrives)

theorem good_execMemoryRequest (w : Agent) (a : Nat) (m : MemOp) (corrected : List (Nat × Nat)) (lost : List
    Nat) (s : State)  (h : Good q Canon s) : GoodO q Canon (execMemoryRequest w a m corrected lost s) := by
  unfold execMemoryRequest; try dsimp only
  repeat' (first | with_reducible assumption | intro _ | with_reducible apply good_State_does
                 | with_reducible apply good_State_localRequest)

theorem good_execReadData (p : Packet) (s : State)  (h : Good q Canon s) : GoodO q Canon (execReadData p s) := by
  unfold execReadData; try dsimp only
  repeat' (first | with_reducible assumption | intro _ | with_reducible apply good_State_does
                 | with_reducible apply good_State_replyArrives)

theorem good_execWriteAck (p : Packet) (s : State)  (h : Good q Canon s) : GoodO q Canon (execWriteAck p s) := by
  unfold execWriteAck; try dsimp only
  repeat' (first | with_reducible assumption | intro _ | with_reducible apply good_State_does
                 | with_reducible apply good_State_replyArrives)

theorem good_execAtomicResult (p : Packet) (s : State)  (h : Good q Canon s) : GoodO q Canon (execAtomicResult p
    s) := by
  unfold execAtomicResult; try dsimp only
  repeat' (first | with_reducible assumption | intro _ | with_reducible apply good_State_does
                 | with_reducible apply good_State_replyArrives)

theorem good_execSignalAck (p : Packet) (s : State)  (h : Good q Canon s) : GoodO q Canon (execSignalAck p s) :=
    by
  unfold execSignalAck; try dsimp only
  repeat' (first | with_reducible assumption | intro _ | with_reducible apply good_State_granted
                 | with_reducible apply good_State_replyArrives)

theorem good_execCompletionAck (p : Packet) (s : State)  (h : Good q Canon s) : GoodO q Canon (execCompletionAck p
    s) := by
  unfold execCompletionAck; try dsimp only
  repeat' (first | with_reducible assumption | intro _ | with_reducible apply good_State_does
                 | with_reducible apply good_State_replyArrives)

theorem good_execRequestTimeout (die : Nat) (slot : Nat) (s : State)  (h : Good q Canon s) : GoodO q Canon (execRequestTimeout
    die slot s) := by
  unfold execRequestTimeout; try dsimp only
  repeat' (first | with_reducible assumption | intro _ | with_reducible apply good_State_does
                 | with_reducible apply good_State_slotTimeout)

theorem good_execLinkCredit (port : Nat) (counts : List Nat) (s : State)  (h : Good q P s) : GoodO q P (execLinkCredit port
    counts s) := by
  unfold execLinkCredit; try dsimp only
  repeat' (first | with_reducible assumption | intro _ | with_reducible apply good_State_does
                 | with_reducible apply good_State_takeCredits)

theorem good_execLinkCreditSend (port : Nat) (s : State)  (h : Good q P s) : GoodO q P (execLinkCreditSend port s) := by
  unfold execLinkCreditSend; try dsimp only
  repeat' (first | with_reducible assumption | intro _ | with_reducible apply good_State_does
                 | with_reducible apply good_State_sendCredits)

theorem good_execWindowReclaim (port : Nat) (vc : Nat) (s : State)  (h : Good q P s) : GoodO q P (execWindowReclaim port vc s)
    := by
  unfold execWindowReclaim; try dsimp only
  repeat' (first | with_reducible assumption | intro _ | with_reducible apply good_State_does
                 | with_reducible apply good_State_setCredit | with_reducible apply goodO_next | split)

theorem good_execIdentity (port : Nat) (id : Nat) (valid : Bool) (dim : Nat) (verdict : Nat) (s : State)  (h : Good q P s) : GoodO q
    P (execIdentity port id valid dim verdict s) := by
  unfold execIdentity; try dsimp only
  repeat' (first | with_reducible assumption | intro _ | with_reducible apply good_State_does
                 | with_reducible apply good_State_identity_)

theorem good_execIdentitySend (port : Nat) (s : State)  (h : Good q P s) : GoodO q P (execIdentitySend port s) := by
  unfold execIdentitySend; try dsimp only
  repeat' (first | with_reducible assumption | intro _ | with_reducible apply good_State_does
                 | with_reducible apply good_State_sendIdentity | with_reducible apply goodO_next | split)

theorem good_execIdentityTimeout (port : Nat) (s : State)  (h : Good q P s) : GoodO q P (execIdentityTimeout port s) := by
  unfold execIdentityTimeout; try dsimp only
  repeat' (first | with_reducible assumption | intro _ | with_reducible apply good_State_does
                 | with_reducible apply good_State_quarantine | with_reducible apply goodO_next | split)

theorem good_execDarkTimeout (port : Nat) (s : State)  (h : Good q P s) : GoodO q P (execDarkTimeout port s) := by
  unfold execDarkTimeout; try dsimp only
  repeat' (first | with_reducible assumption | intro _ | with_reducible apply good_State_does
                 | with_reducible apply good_State_ev | with_reducible apply good_State_setPortState
                 | with_reducible apply goodO_next | split)

theorem good_execDarkRetry (port : Nat) (s : State)  (h : Good q P s) : GoodO q P (execDarkRetry port s) := by
  unfold execDarkRetry; try dsimp only
  repeat' (first | with_reducible assumption | intro _ | with_reducible apply good_State_does
                 | with_reducible apply good_State_startTraining | with_reducible apply goodO_next | split)

theorem good_execTime (port : Nat) (request : Bool) (t1 : Nat) (t2 : Nat) (t3 : Nat) (t4 : Nat) (rootSeq : Nat) (valid : Bool) (backup :
    Bool) (counter : Nat) (s : State)  (h : Good q P s) : GoodO q P (execTime port request t1 t2 t3 t4 rootSeq valid backup
    counter s) := by
  unfold execTime; try dsimp only
  repeat' (first | with_reducible assumption | intro _ | with_reducible apply good_State_does
                 | with_reducible apply good_State_timePacket)

theorem good_execTimeExchange (s : State)  (h : Good q P s) : GoodO q P (execTimeExchange s) := by
  unfold execTimeExchange; try dsimp only
  repeat' (first | with_reducible assumption | intro _ | with_reducible apply good_State_does
                 | with_reducible apply good_State_timeExchange)

theorem good_execHoldoverExpiry (s : State)  (h : Good q P s) : GoodO q P (execHoldoverExpiry s) := by
  unfold execHoldoverExpiry; try dsimp only
  repeat' (first | with_reducible assumption | intro _ | with_reducible apply good_State_does
                 | with_reducible apply good_State_setFlag | with_reducible apply goodO_next | split
                 | fail_if_no_progress (with_reducible apply good_mk; with_reducible apply good_parts))

theorem good_execRootLost (s : State)  (h : Good q P s) : GoodO q P (execRootLost s) := by
  unfold execRootLost; try dsimp only
  repeat' (first | with_reducible assumption | intro _ | with_reducible apply good_State_does
                 | with_reducible apply good_State_rootLost)

theorem good_execPortFrame (port : Nat) (f : Frame) (s : State)  (h : Good q P s) : GoodO q P (execPortFrame port f
    s) := by
  unfold execPortFrame; try dsimp only
  repeat' (first | with_reducible assumption | intro _ | with_reducible apply good_State_does
                 | with_reducible apply good_State_takeFrame)

theorem good_execFramePeriod (port : Nat) (s : State)  (h : Good q P s) : GoodO q P (execFramePeriod port s) := by
  unfold execFramePeriod; try dsimp only
  repeat' (first | with_reducible assumption | intro _ | with_reducible apply good_State_does
                 | with_reducible apply good_State_framePeriod)

theorem good_execReplayTimeout (port : Nat) (s : State)  (h : Good q P s) : GoodO q P (execReplayTimeout port s) := by
  unfold execReplayTimeout; try dsimp only
  repeat' (first | with_reducible assumption | intro _ | with_reducible apply good_State_does
                 | with_reducible apply good_State_goBack | with_reducible apply goodO_next | split)

theorem good_execLaneErrorWindow (lane : Nat) (uncorrectable : Nat) (corrected : Nat) (prbs : Nat) (s : State)  (h : Good q P s) :
    GoodO q P (execLaneErrorWindow lane uncorrectable corrected prbs s) := by
  unfold execLaneErrorWindow; try dsimp only
  repeat' (first | with_reducible assumption | intro _ | with_reducible apply good_State_does
                 | with_reducible apply good_State_add | with_reducible apply good_State_dropLanes
                 | with_reducible apply goodO_next | split)

theorem good_execLaneRetrain (lane : Nat) (pass : Bool) (s : State)  (h : Good q P s) : GoodO q P (execLaneRetrain lane pass
    s) := by
  unfold execLaneRetrain; try dsimp only
  repeat' (first | with_reducible assumption | intro _ | with_reducible apply good_State_does
                 | with_reducible apply good_State_laneRetrained)

theorem good_execSignalLoss (port : Nat) (s : State)  (h : Good q P s) : GoodO q P (execSignalLoss port s) := by
  unfold execSignalLoss; try dsimp only
  repeat' (first | with_reducible assumption | intro _ | with_reducible apply good_State_does
                 | with_reducible apply good_State_linkLost | with_reducible apply goodO_next | split)

theorem good_execPllLock (port : Nat) (s : State)  (h : Good q P s) : GoodO q P (execPllLock port s) := by
  unfold execPllLock; try dsimp only
  repeat' (first | with_reducible assumption | intro _ | with_reducible apply good_State_does
                 | with_reducible apply good_State_startTraining | with_reducible apply goodO_next | split)

theorem good_execLinkTrained (port : Nat) (good : Nat) (ms : Nat) (keyFail : Nat) (skew : Nat) (asym : ℤ) (saved : Bool) (s : State)
    (h : Good q P s) : GoodO q P (execLinkTrained port good ms keyFail skew asym saved s) := by
  unfold execLinkTrained; try dsimp only
  repeat' (first | with_reducible assumption | intro _ | with_reducible apply good_State_does
                 | with_reducible apply good_State_trained)

theorem good_execIdleEntry (port : Nat) (s : State)  (h : Good q P s) : GoodO q P (execIdleEntry port s) := by
  unfold execIdleEntry; try dsimp only
  repeat' (first | with_reducible assumption | intro _ | with_reducible apply good_State_does
                 | with_reducible apply good_State_idleEntry)

theorem good_execIdleExit (port : Nat) (s : State)  (h : Good q P s) : GoodO q P (execIdleExit port s) := by
  unfold execIdleExit; try dsimp only
  repeat' (first | with_reducible assumption | intro _ | with_reducible apply good_State_does
                 | with_reducible apply good_State_send | with_reducible apply good_State_setFlag
                 | with_reducible apply goodO_next | split)

theorem good_execIdleLockTimeout (port : Nat) (unlocked : Nat) (s : State)  (h : Good q P s) : GoodO q P (execIdleLockTimeout
    port unlocked s) := by
  unfold execIdleLockTimeout; try dsimp only
  repeat' (first | with_reducible assumption | intro _ | with_reducible apply good_State_does
                 | with_reducible apply good_State_dropLanes | with_reducible apply goodO_next | split)

theorem good_execHotWindow (counts : List (Nat × Nat)) (s : State)  (h : Good q P s) : GoodO q P (execHotWindow counts s) := by
  unfold execHotWindow; try dsimp only
  repeat' (first | with_reducible assumption | intro _ | with_reducible apply good_State_does
                 | with_reducible apply good_State_hotWindow | with_reducible apply goodO_next | split)

theorem good_execScrubPeriod (corrected : List (Nat × Nat)) (bad : List Nat) (spares : List Nat) (s : State)  (h : Good q P s) :
    GoodO q P (execScrubPeriod corrected bad spares s) := by
  unfold execScrubPeriod; try dsimp only
  repeat' (first | with_reducible assumption | intro _ | with_reducible apply good_State_granted
                 | with_reducible apply good_State_scrub | with_reducible apply goodO_next | split)

theorem good_execCeHour (s : State)  (h : Good q P s) : GoodO q P (execCeHour s) := by
  unfold execCeHour; try dsimp only
  repeat' (first | with_reducible assumption | intro _ | with_reducible apply good_State_does
                 | with_reducible apply good_State_endHour)

theorem good_execSparingDone (seam : Nat) (lost : List Nat) (s : State)  (h : Good q Canon s) : GoodO q Canon (execSparingDone
    seam lost s) := by
  unfold execSparingDone; try dsimp only
  repeat' (first | with_reducible assumption | intro _ | with_reducible apply good_State_does
                 | with_reducible apply good_State_tryWarm | with_reducible apply good_State_sparingDone)

theorem good_execFiringSelect (part : Nat) (s : State)  (h : Good q P s) : GoodO q P (execFiringSelect part s) := by
  unfold execFiringSelect; try dsimp only
  repeat' (first | with_reducible assumption | intro _ | with_reducible apply good_State_does
                 | with_reducible apply good_State_selectFiring)

theorem good_execFetchDone (part : Nat) (remote : Option (Status × Flags × List Byte)) (s :
    State)  (h : Good q Canon s) : GoodO q Canon (execFetchDone part remote s) := by
  unfold execFetchDone; try dsimp only
  repeat' (first | with_reducible assumption | intro _ | with_reducible apply good_State_does
                 | with_reducible apply good_State_fetchDone)

theorem good_execResolveDone (part : Nat) (reads : List RemoteRead) (s : State)  (h : Good q Canon s) : GoodO q
    Canon (execResolveDone part reads s) := by
  unfold execResolveDone; try dsimp only
  repeat' (first | with_reducible assumption | intro _ | with_reducible apply good_State_does
                 | with_reducible apply good_State_resolveDone)

theorem good_execFramePassDone (part : Nat) (s : State)  (h : Good q P s) : GoodO q P (execFramePassDone part s) := by
  unfold execFramePassDone; try dsimp only
  repeat' (first | with_reducible assumption | intro _ | with_reducible apply good_State_does
                 | with_reducible apply good_State_framePassDone)

theorem good_execUnitDone (part : Nat) (unit : Nat) (corrected : List (Nat × Nat × Nat)) (s : State)  (h : Good q P s) : GoodO q P
    (execUnitDone part unit corrected s) := by
  unfold execUnitDone; try dsimp only
  repeat' (first | with_reducible assumption | intro _ | with_reducible apply good_State_does
                 | with_reducible apply good_State_unitDone)

theorem good_execTileDone (part : Nat) (tile : Nat) (s : State)  (h : Good q Canon s) : GoodO q Canon (execTileDone part tile s)
    := by
  unfold execTileDone; try dsimp only
  repeat' (first | with_reducible assumption | intro _ | with_reducible apply good_State_does
                 | with_reducible apply good_State_tileDone)

theorem good_execFiringComplete (part : Nat) (cycles : Nat) (s : State)  (h : Good q Canon s) : GoodO q Canon
    (execFiringComplete part cycles s) := by
  unfold execFiringComplete; try dsimp only
  repeat' (first | with_reducible assumption | intro _ | with_reducible apply good_State_granted
                 | with_reducible apply good_State_firingComplete)

theorem good_execFiringHung (part : Nat) (cycles : Nat) (s : State)  (h : Good q Canon s) : GoodO q Canon (execFiringHung part
    cycles s) := by
  unfold execFiringHung; try dsimp only
  repeat' (first | with_reducible assumption | intro _ | with_reducible apply good_State_granted
                 | with_reducible apply good_State_firingHung)

theorem good_execResidueRetry (die : Nat) (core : Nat) (engine : Nat) (column : Nat) (second : Bool) (s : State)  (h : Good q P s) :
    GoodO q P (execResidueRetry die core engine column second s) := by
  unfold execResidueRetry; try dsimp only
  repeat' (first | with_reducible assumption | intro _ | with_reducible apply good_State_granted
                 | with_reducible apply good_State_residueMismatch)

theorem good_execStoreUncorrectable (die : Nat) (unit : Nat) (word : Nat) (s : State)  (h : Good q P s) : GoodO q P
    (execStoreUncorrectable die unit word s) := by
  unfold execStoreUncorrectable; try dsimp only
  repeat' (first | with_reducible assumption | intro _ | with_reducible apply good_State_granted
                 | with_reducible apply good_State_storeError)

theorem good_execStoreCheck (die : Nat) (core : Nat) (pass : Bool) (s : State)  (h : Good q P s) : GoodO q P (execStoreCheck die
    core pass s) := by
  unfold execStoreCheck; try dsimp only
  repeat' (first | with_reducible assumption | intro _ | with_reducible apply good_State_does
                 | with_reducible apply good_State_storeChecked)

theorem good_execCoreLost (die : Nat) (core : Nat) (cause : Nat) (s : State)  (h : Good q P s) : GoodO q P (execCoreLost die core
    cause s) := by
  unfold execCoreLost; try dsimp only
  repeat' (first | with_reducible assumption | intro _ | with_reducible apply good_State_granted
                 | with_reducible apply good_State_loseCore | with_reducible apply goodO_next | split)

theorem good_execDieLost (die : Nat) (cause : Nat) (s : State)  (h : Good q P s) : GoodO q P (execDieLost die cause s) := by
  unfold execDieLost; try dsimp only
  repeat' (first | with_reducible assumption | intro _ | with_reducible apply good_State_granted
                 | with_reducible apply good_State_loseDie | with_reducible apply goodO_next | split)

theorem good_execPassThroughFailed (die : Nat) (direction : Nat) (s : State)  (h : Good q P s) : GoodO q P
    (execPassThroughFailed die direction s) := by
  unfold execPassThroughFailed; try dsimp only
  repeat' (first | with_reducible assumption | intro _ | with_reducible apply good_State_granted
                 | with_reducible apply good_State_ev | with_reducible apply good_State_setFlag
                 | with_reducible apply goodO_next | split)

theorem good_execCollectiveStart (g : Nat) (s : State)  (h : Good q Canon s) : GoodO q Canon (execCollectiveStart g s) := by
  unfold execCollectiveStart; try dsimp only
  repeat' (first | with_reducible assumption | intro _ | with_reducible apply good_State_does
                 | with_reducible apply good_State_collStart)

theorem good_execReady (p : Packet) (s : State)  (h : Good q Canon s) : GoodO q Canon (execReady p s) := by
  unfold execReady; try dsimp only
  repeat' (first | with_reducible assumption | intro _ | with_reducible apply good_State_does
                 | with_reducible apply good_State_collArrives)

theorem good_execReadyRetry (g : Nat) (s : State)  (h : Good q P s) : GoodO q P (execReadyRetry g s) := by
  unfold execReadyRetry; try dsimp only
  repeat' (first | with_reducible assumption | intro _ | with_reducible apply good_State_does
                 | with_reducible apply good_State_readyRetry)

theorem good_execSegment (p : Packet) (s : State)  (h : Good q Canon s) : GoodO q Canon (execSegment p s) := by
  unfold execSegment; try dsimp only
  repeat' (first | with_reducible assumption | intro _ | with_reducible apply good_State_does
                 | with_reducible apply good_State_collArrives)

theorem good_execSegmentCombine (g : Nat) (seg : Nat) (rev : Bool) (mismatch : Bool) (s : State)  (h : Good q Canon s) : GoodO q
    Canon (execSegmentCombine g seg rev mismatch s) := by
  unfold execSegmentCombine; try dsimp only
  repeat' (first | with_reducible assumption | intro _ | with_reducible apply good_State_does
                 | with_reducible apply good_State_combine)

theorem good_execSegmentSend (g : Nat) (seg : Nat) (rev : Bool) (s : State)  (h : Good q P s) : GoodO q P (execSegmentSend g seg
    rev s) := by
  unfold execSegmentSend; try dsimp only
  repeat' (first | with_reducible assumption | intro _ | with_reducible apply good_State_does
                 | with_reducible apply good_State_segSend)

theorem good_execCredit (p : Packet) (s : State)  (h : Good q Canon s) : GoodO q Canon (execCredit p s) := by
  unfold execCredit; try dsimp only
  repeat' (first | with_reducible assumption | intro _ | with_reducible apply good_State_does
                 | with_reducible apply good_State_collArrives)

theorem good_execStepDone (g : Nat) (s : State)  (h : Good q Canon s) : GoodO q Canon (execStepDone g s) := by
  unfold execStepDone; try dsimp only
  repeat' (first | with_reducible assumption | intro _ | with_reducible apply good_State_does
                 | with_reducible apply good_State_stepDone)

theorem good_execCollectiveComplete (g : Nat) (cycles : Nat) (s : State)  (h : Good q Canon s) : GoodO q Canon
    (execCollectiveComplete g cycles s) := by
  unfold execCollectiveComplete; try dsimp only
  repeat' (first | with_reducible assumption | intro _ | with_reducible apply good_State_granted
                 | with_reducible apply good_State_collDone)

theorem good_execAbort (p : Packet) (s : State)  (h : Good q Canon s) : GoodO q Canon (execAbort p s) := by
  unfold execAbort; try dsimp only
  repeat' (first | with_reducible assumption | intro _ | with_reducible apply good_State_granted
                 | with_reducible apply good_State_collArrives)

theorem good_execHeartbeat (g : Nat) (m : Nat) (s : State)  (h : Good q P s) : GoodO q P (execHeartbeat g m s) := by
  unfold execHeartbeat; try dsimp only
  repeat' (first | with_reducible assumption | intro _ | with_reducible apply good_State_does
                 | with_reducible apply good_State_heartbeat)

theorem good_execMemberLost (g : Nat) (m : Nat) (s : State)  (h : Good q Canon s) : GoodO q Canon (execMemberLost g m s) := by
  unfold execMemberLost; try dsimp only
  repeat' (first | with_reducible assumption | intro _ | with_reducible apply good_State_does
                 | with_reducible apply good_State_onColl | with_reducible apply good_State_cutColl
                 | with_reducible apply goodO_next | split)

theorem good_execStallTimeout (g : Nat) (s : State)  (h : Good q Canon s) : GoodO q Canon (execStallTimeout g s) := by
  unfold execStallTimeout; try dsimp only
  repeat' (first | with_reducible assumption | intro _ | with_reducible apply good_State_does
                 | with_reducible apply good_State_stall)

theorem good_execBankHello (p : Packet) (s : State)  (h : Good q Canon s) : GoodO q Canon (execBankHello p s) :=
    by
  unfold execBankHello; try dsimp only
  repeat' (first | with_reducible assumption | intro _ | with_reducible apply good_State_does
                 | with_reducible apply good_State_bankArrives)

theorem good_execBankHelloSend (s : State)  (h : Good q P s) : GoodO q P (execBankHelloSend s) := by
  unfold execBankHelloSend; try dsimp only
  repeat' (first | with_reducible assumption | intro _ | with_reducible apply good_State_does
                 | with_reducible apply good_State_helloAll)

theorem good_execPeerSilent (position : Nat) (s : State)  (h : Good q P s) : GoodO q P (execPeerSilent position s) := by
  unfold execPeerSilent; try dsimp only
  repeat' (first | with_reducible assumption | intro _ | with_reducible apply good_State_does
                 | with_reducible apply good_State_silentPeer)

theorem good_execFormationTimeout (s : State)  (h : Good q Canon s) : GoodO q Canon (execFormationTimeout s) := by
  unfold execFormationTimeout; try dsimp only
  repeat' (first | with_reducible assumption | intro _ | with_reducible apply good_State_does
                 | with_reducible apply good_State_formationTimeout)

theorem good_execQuiesceDone (s : State)  (h : Good q P s) : GoodO q P (execQuiesceDone s) := by
  unfold execQuiesceDone; try dsimp only
  repeat' (first | with_reducible assumption | intro _ | with_reducible apply good_State_does
                 | with_reducible apply good_State_enterBarrier | with_reducible apply goodO_next | split)

theorem good_execArrive (p : Packet) (s : State)  (h : Good q Canon s) : GoodO q Canon (execArrive p s) := by
  unfold execArrive; try dsimp only
  repeat' (first | with_reducible assumption | intro _ | with_reducible apply good_State_does
                 | with_reducible apply good_State_bankArrives)

theorem good_execDelta (p : Packet) (s : State)  (h : Good q Canon s) : GoodO q Canon (execDelta p s) := by
  unfold execDelta; try dsimp only
  repeat' (first | with_reducible assumption | intro _ | with_reducible apply good_State_does
                 | with_reducible apply good_State_bankArrives)

theorem good_execFoldDone (s : State)  (h : Good q P s) : GoodO q P (execFoldDone s) := by
  unfold execFoldDone; try dsimp only
  repeat' (first | with_reducible assumption | intro _ | with_reducible apply good_State_does
                 | with_reducible apply good_State_foldEnds)

theorem good_execParityRead (p : Packet) (s : State)  (h : Good q Canon s) : GoodO q Canon (execParityRead p s) :=
    by
  unfold execParityRead; try dsimp only
  repeat' (first | with_reducible assumption | intro _ | with_reducible apply good_State_does
                 | with_reducible apply good_State_bankArrives)

theorem good_execBankStall (s : State)  (h : Good q P s) : GoodO q P (execBankStall s) := by
  unfold execBankStall; try dsimp only
  repeat' (first | with_reducible assumption | intro _ | with_reducible apply good_State_does
                 | with_reducible apply good_State_failBank | with_reducible apply goodO_next | split)

theorem good_execRebuildDone (s : State)  (h : Good q P s) : GoodO q P (execRebuildDone s) := by
  unfold execRebuildDone; try dsimp only
  repeat' (first | with_reducible assumption | intro _ | with_reducible apply good_State_does
                 | with_reducible apply good_State_rebuildEnds)

theorem good_execResetGrant (level : Nat) (target : Nat) (cause : Nat) (s : State)  (h : Good q Canon s) : GoodO q Canon
    (execResetGrant level target cause s) := by
  unfold execResetGrant; try dsimp only
  repeat' (first | with_reducible assumption | intro _ | with_reducible apply good_State_granted
                 | with_reducible apply good_State_resetGrant)

theorem good_execDrainEnd (level : Nat) (target : Nat) (s : State)  (h : Good q Canon s) : GoodO q Canon (execDrainEnd level
    target s) := by
  unfold execDrainEnd; try dsimp only
  repeat' (first | with_reducible assumption | intro _ | with_reducible apply good_State_does
                 | with_reducible apply good_State_onReset | with_reducible apply good_State_endDrain)

theorem good_execSnapshotDone (level : Nat) (target : Nat) (whole : Bool) (silent : List (Nat × Nat)) (s : State)  (h : Good q Canon
    s) : GoodO q Canon (execSnapshotDone level target whole silent s) := by
  unfold execSnapshotDone; try dsimp only
  repeat' (first | with_reducible assumption | intro _ | with_reducible apply good_State_does
                 | with_reducible apply good_State_onReset | with_reducible apply good_State_closeSnapshot)

theorem good_execResetAsserted (level : Nat) (target : Nat) (s : State)  (h : Good q P s) : GoodO q P (execResetAsserted level
    target s) := by
  unfold execResetAsserted; try dsimp only
  repeat' (first | with_reducible assumption | intro _ | with_reducible apply good_State_does
                 | with_reducible apply good_State_onReset | with_reducible apply good_State_putReset
                 | with_reducible apply good_State_wipe)

theorem good_execPostResetCheckDone (level : Nat) (target : Nat) (cores : List (Nat × Nat)) (dies : List Nat) (s : State)  (h : Good q
    P s) : GoodO q P (execPostResetCheckDone level target cores dies s) := by
  unfold execPostResetCheckDone; try dsimp only
  repeat' (first | with_reducible assumption | intro _ | with_reducible apply good_State_does
                 | with_reducible apply good_State_onReset | with_reducible apply good_State_postCheck)

theorem good_execResetRelease (level : Nat) (target : Nat) (us : Nat) (s : State)  (h : Good q P s) : GoodO q P (execResetRelease
    level target us s) := by
  unfold execResetRelease; try dsimp only
  repeat' (first | with_reducible assumption | intro _ | with_reducible apply good_State_does
                 | with_reducible apply good_State_onReset | with_reducible apply good_State_release)

theorem good_execLowerResetDone (level : Nat) (target : Nat) (s : State)  (h : Good q P s) : GoodO q P (execLowerResetDone level
    target s) := by
  unfold execLowerResetDone; try dsimp only
  repeat' (first | with_reducible assumption | intro _ | with_reducible apply good_State_does
                 | with_reducible apply good_State_onReset | with_reducible apply good_State_release
                 | with_reducible apply good_State_wipe)

theorem good_execLadderTimeout (level : Nat) (target : Nat) (units : List (Nat × Nat × Nat)) (s : State)  (h : Good q P s) : GoodO q P
    (execLadderTimeout level target units s) := by
  unfold execLadderTimeout; try dsimp only
  repeat' (first | with_reducible assumption | intro _ | with_reducible apply good_State_granted
                 | with_reducible apply good_State_ladderBound)

theorem good_execWatchdogFire (unit : Nat) (s : State)  (h : Good q P s) : GoodO q P (execWatchdogFire unit s) := by
  unfold execWatchdogFire; try dsimp only
  repeat' (first | with_reducible assumption | intro _ | with_reducible apply good_State_does
                 | with_reducible apply good_State_watchdog)

theorem good_execSpareTestRotate (die : Nat) (s : State)  (h : Good q P s) : GoodO q P (execSpareTestRotate die s) := by
  unfold execSpareTestRotate; try dsimp only
  repeat' (first | with_reducible assumption | intro _ | with_reducible apply good_State_granted
                 | with_reducible apply good_State_rotate)

theorem good_execSpareTestDone (die : Nat) (failing : Nat) (s : State)  (h : Good q P s) : GoodO q P (execSpareTestDone die
    failing s) := by
  unfold execSpareTestDone; try dsimp only
  repeat' (first | with_reducible assumption | intro _ | with_reducible apply good_State_does
                 | with_reducible apply good_State_spareTested)

theorem good_execLeaseRenew (s : State)  (h : Good q P s) : GoodO q P (execLeaseRenew s) := by
  unfold execLeaseRenew; try dsimp only
  repeat' (first | with_reducible assumption | intro _ | with_reducible apply good_State_granted
                 | with_reducible apply good_State_leaseRenewed)

theorem good_execLeaseExpiry (cell : Nat) (s : State)  (h : Good q P s) : GoodO q P (execLeaseExpiry cell s) := by
  unfold execLeaseExpiry; try dsimp only
  repeat' (first | with_reducible assumption | intro _ | with_reducible apply good_State_does
                 | with_reducible apply good_State_leaseExpired | with_reducible apply good_State_granted
                 | with_reducible apply goodO_next | split)

theorem good_execJournalRecord (mirrorFault : Bool) (s : State)  (h : Good q P s) : GoodO q P (execJournalRecord mirrorFault
    s) := by
  unfold execJournalRecord; try dsimp only
  repeat' (first | with_reducible assumption | intro _ | with_reducible apply good_State_does
                 | with_reducible apply good_State_journalApplied)

theorem good_execJournalTimeout (s : State)  (h : Good q P s) : GoodO q P (execJournalTimeout s) := by
  unfold execJournalTimeout; try dsimp only
  repeat' (first | with_reducible assumption | intro _ | with_reducible apply good_State_does
                 | with_reducible apply good_State_failUnit | with_reducible apply goodO_next | split)

theorem good_execFatalFault (unit : Nat) (s : State)  (h : Good q P s) : GoodO q P (execFatalFault unit s) := by
  unfold execFatalFault; try dsimp only
  repeat' (first | with_reducible assumption | intro _ | with_reducible apply good_State_does
                 | with_reducible apply good_State_fatal | with_reducible apply good_State_granted
                 | with_reducible apply goodO_next | split)

theorem good_execUnitRestartTimer (unit : Nat) (s : State)  (h : Good q P s) : GoodO q P (execUnitRestartTimer unit s) := by
  unfold execUnitRestartTimer; try dsimp only
  repeat' (first | with_reducible assumption | intro _ | with_reducible apply good_State_granted
                 | with_reducible apply good_State_restartUnit | with_reducible apply goodO_next | split)

theorem good_execSelfTest (unit : Nat) (failing : Nat) (s : State)  (h : Good q P s) : GoodO q P (execSelfTest unit failing s)
    := by
  unfold execSelfTest; try dsimp only
  repeat' (first | with_reducible assumption | intro _ | with_reducible apply good_State_granted
                 | with_reducible apply good_State_selfTested)

theorem good_execStateCopyDone (unit : Nat) (s : State)  (h : Good q P s) : GoodO q P (execStateCopyDone unit s) := by
  unfold execStateCopyDone; try dsimp only
  repeat' (first | with_reducible assumption | intro _ | with_reducible apply good_State_does
                 | with_reducible apply good_State_copied)

theorem good_execProbationEnd (unit : Nat) (ms : Nat) (s : State)  (h : Good q P s) : GoodO q P (execProbationEnd unit ms s) :=
    by
  unfold execProbationEnd; try dsimp only
  repeat' (first | with_reducible assumption | intro _ | with_reducible apply good_State_granted
                 | with_reducible apply good_State_probationOver)

theorem good_execSwapDue (s : State)  (h : Good q P s) : GoodO q P (execSwapDue s) := by
  unfold execSwapDue; try dsimp only
  repeat' (first | with_reducible assumption | intro _ | with_reducible apply good_State_granted
                 | with_reducible apply goodO_next | split
                 | fail_if_no_progress (with_reducible apply good_mk; with_reducible apply good_parts))

theorem good_execSwapPoint (forced : Bool) (s : State)  (h : Good q P s) : GoodO q P (execSwapPoint forced s) := by
  unfold execSwapPoint; try dsimp only
  repeat' (first | with_reducible assumption | intro _ | with_reducible apply good_State_granted
                 | with_reducible apply good_State_plannedSwap)

theorem good_execColdStart (slotId : Nat) (s : State)  (h : Good q Canon s) : GoodO q Canon (execColdStart slotId s) := by
  unfold execColdStart; try dsimp only
  repeat' (first | with_reducible assumption | intro _ | with_reducible apply good_State_powerUp
                 | with_reducible apply goodO_next | split)

theorem good_execStartStepDone (r : StepResult) (s : State)  (h : Good q P s) : GoodO q P (execStartStepDone r s)
    := by
  unfold execStartStepDone; try dsimp only
  repeat' (first | with_reducible assumption | intro _ | with_reducible apply good_State_does
                 | with_reducible apply good_State_startStep)

theorem good_execTrayRstAssert (s : State)  (h : Good q Canon s) : GoodO q Canon (execTrayRstAssert s) := by
  unfold execTrayRstAssert; try dsimp only
  repeat' (first | with_reducible assumption | intro _ | with_reducible apply good_State_gone
                 | with_reducible apply good_State_saveCounters | with_reducible apply goodO_next | split
                 | fail_if_no_progress (with_reducible apply good_mk; with_reducible apply good_parts))

theorem good_execPowerLoss (s : State)  (h : Good q Canon s) : GoodO q Canon (execPowerLoss s) := by
  unfold execPowerLoss; try dsimp only
  repeat' (first | with_reducible assumption | intro _ | with_reducible apply good_State_gone
                 | with_reducible apply goodO_next | split
                 | fail_if_no_progress (with_reducible apply good_mk; with_reducible apply good_parts))

theorem good_execReferenceLost (ppm : Nat) (s : State)  (h : Good q Canon s) : GoodO q Canon (execReferenceLost ppm s) := by
  unfold execReferenceLost; try dsimp only
  repeat' (first | with_reducible assumption | intro _ | with_reducible apply good_State_does
                 | with_reducible apply good_State_shutdown | with_reducible apply goodO_next | split
                 | fail_if_no_progress (with_reducible apply good_mk; with_reducible apply good_parts))

theorem good_execOptimeSave (s : State)  (h : Good q P s) : GoodO q P (execOptimeSave s) := by
  unfold execOptimeSave; try dsimp only
  repeat' (first | with_reducible assumption | intro _ | with_reducible apply good_State_does
                 | with_reducible apply good_State_nvmPut)

theorem good_execImagePage (port : Nat) (p : Packet) (sigOk : Bool) (s : State)  (h : Good q P s) : GoodO q P
    (execImagePage port p sigOk s) := by
  unfold execImagePage; try dsimp only
  repeat' (first | with_reducible assumption | intro _ | with_reducible apply good_State_does
                 | with_reducible apply good_State_takePage | with_reducible apply goodO_next | split)

theorem good_execImagePageSend (port : Nat) (s : State)  (h : Good q P s) : GoodO q P (execImagePageSend port s) := by
  unfold execImagePageSend; try dsimp only
  repeat' (first | with_reducible assumption | intro _ | with_reducible apply good_State_does
                 | with_reducible apply good_State_sendPage | with_reducible apply goodO_next | split)

theorem good_execImagePull (port : Nat) (p : Packet) (s : State)  (h : Good q P s) : GoodO q P (execImagePull port p
    s) := by
  unfold execImagePull; try dsimp only
  repeat' (first | with_reducible assumption | intro _ | with_reducible apply good_State_does
                 | with_reducible apply good_State_takePull | with_reducible apply goodO_next | split)

theorem good_execImagePullTimer (s : State)  (h : Good q P s) : GoodO q P (execImagePullTimer s) := by
  unfold execImagePullTimer; try dsimp only
  repeat' (first | with_reducible assumption | intro _ | with_reducible apply good_State_does
                 | with_reducible apply good_State_pull | with_reducible apply goodO_next | split)

theorem good_execBroadcastIncomplete (s : State)  (h : Good q P s) : GoodO q P (execBroadcastIncomplete s) := by
  unfold execBroadcastIncomplete; try dsimp only
  repeat' (first | with_reducible assumption | intro _ | with_reducible apply good_State_does
                 | with_reducible apply good_State_giveUpImage)

theorem good_execActivationTime (s : State)  (h : Good q Canon s) : GoodO q Canon (execActivationTime s) := by
  unfold execActivationTime; try dsimp only
  repeat' (first | with_reducible assumption | intro _ | with_reducible apply good_State_granted
                 | with_reducible apply good_State_activationDue)

theorem good_execEventIntake (s : State)  (h : Good q P s) : GoodO q P (execEventIntake s) := by
  unfold execEventIntake; try dsimp only
  repeat' (first | with_reducible assumption | intro _ | with_reducible apply good_State_does
                 | with_reducible apply good_State_intake)

theorem good_execMirrorCheck (slot : Nat) (badF0 : List Nat) (badF1 : List Nat) (s : State)  (h : Good q P s) : GoodO q P
    (execMirrorCheck slot badF0 badF1 s) := by
  unfold execMirrorCheck; try dsimp only
  repeat' (first | with_reducible assumption | intro _ | with_reducible apply good_State_does
                 | with_reducible apply good_State_mirrorCheck)

theorem good_execInputSample (centivolts : Nat) (milliamps : Nat) (heldUs : Nat) (p100 : Nat) (s : State)  (h : Good q Canon s) :
    GoodO q Canon (execInputSample centivolts milliamps heldUs p100 s) := by
  unfold execInputSample; try dsimp only
  repeat' (first | with_reducible assumption | intro _ | with_reducible apply good_State_does
                 | with_reducible apply good_State_inputSample)

theorem good_execBrakeNFall (s : State)  (h : Good q P s) : GoodO q P (execBrakeNFall s) := by
  unfold execBrakeNFall; try dsimp only
  repeat' (first | with_reducible assumption | intro _ | with_reducible apply good_State_brakeBy
                 | with_reducible apply goodO_next | split
                 | fail_if_no_progress (with_reducible apply good_mk; with_reducible apply good_parts))

theorem good_execBrakeNRise (s : State)  (h : Good q P s) : GoodO q P (execBrakeNRise s) := by
  unfold execBrakeNRise; try dsimp only
  repeat' (first | with_reducible assumption | intro _ | with_reducible apply good_State_brakeOver
                 | with_reducible apply goodO_next | split
                 | fail_if_no_progress (with_reducible apply good_mk; with_reducible apply good_parts))

theorem good_execHaltCleared (cause : Nat) (s : State)  (h : Good q P s) : GoodO q P (execHaltCleared cause s) := by
  unfold execHaltCleared; try dsimp only
  repeat' (first | with_reducible assumption | intro _ | with_reducible apply good_State_granted
                 | with_reducible apply good_State_haltCleared)

theorem good_execOperatingPoint (allowed : List Nat) (s : State)  (h : Good q P s) : GoodO q P (execOperatingPoint allowed s)
    := by
  unfold execOperatingPoint; try dsimp only
  repeat' (first | with_reducible assumption | intro _ | with_reducible apply good_State_granted
                 | with_reducible apply good_State_choosePoint)

theorem good_execCapControl (s : State)  (h : Good q P s) : GoodO q P (execCapControl s) := by
  unfold execCapControl; try dsimp only
  repeat' (first | with_reducible assumption | intro _ | with_reducible apply good_State_does
                 | with_reducible apply good_State_capControl)

theorem good_execOrphanCap (s : State)  (h : Good q P s) : GoodO q P (execOrphanCap s) := by
  unfold execOrphanCap; try dsimp only
  repeat' (first | with_reducible assumption | intro _ | with_reducible apply good_State_granted
                 | with_reducible apply good_State_orphaned)

theorem good_execCapStorm (s : State)  (h : Good q P s) : GoodO q P (execCapStorm s) := by
  unfold execCapStorm; try dsimp only
  repeat' (first | with_reducible assumption | intro _ | with_reducible apply good_State_granted
                 | with_reducible apply good_State_stormOver)

theorem good_execSensorSample (pairs : List (Nat × Nat)) (packages : List Nat) (s : State)  (h : Good q Canon s) : GoodO q Canon
    (execSensorSample pairs packages s) := by
  unfold execSensorSample; try dsimp only
  repeat' (first | with_reducible assumption | intro _ | with_reducible apply good_State_does
                 | with_reducible apply good_State_sensorSample)

theorem good_execSensorSuspect (pair : Nat) (s : State)  (h : Good q P s) : GoodO q P (execSensorSuspect pair s) := by
  unfold execSensorSuspect; try dsimp only
  repeat' (first | with_reducible assumption | intro _ | with_reducible apply good_State_does
                 | with_reducible apply good_State_suspect)

theorem good_execTrayReportStale (s : State)  (h : Good q P s) : GoodO q P (execTrayReportStale s) := by
  unfold execTrayReportStale; try dsimp only
  repeat' (first | with_reducible assumption | intro _ | with_reducible apply good_State_granted
                 | with_reducible apply good_State_reportStale)

theorem good_execFlowLossNFall (s : State)  (h : Good q Canon s) : GoodO q Canon (execFlowLossNFall s) := by
  unfold execFlowLossNFall; try dsimp only
  repeat' (first | with_reducible assumption | intro _ | with_reducible apply good_State_halt
                 | with_reducible apply goodO_next | split
                 | fail_if_no_progress (with_reducible apply good_mk; with_reducible apply good_parts))

theorem good_execFlowLossNRise (s : State)  (h : Good q P s) : GoodO q P (execFlowLossNRise s) := by
  unfold execFlowLossNRise; try dsimp only
  repeat' (first | with_reducible assumption | intro _ | with_reducible apply goodO_next | split
                 | fail_if_no_progress (with_reducible apply good_mk; with_reducible apply good_parts))

theorem good_execFlowLossShutdown (s : State)  (h : Good q Canon s) : GoodO q Canon (execFlowLossShutdown s) := by
  unfold execFlowLossShutdown; try dsimp only
  repeat' (first | with_reducible assumption | intro _ | with_reducible apply good_State_does
                 | with_reducible apply good_State_shutdown | with_reducible apply goodO_next | split)

theorem good_execMonitorCompare (item : Nat) (s : State)  (h : Good q P s) : GoodO q P (execMonitorCompare item s) := by
  unfold execMonitorCompare; try dsimp only
  repeat' (first | with_reducible assumption | intro _ | with_reducible apply good_State_does
                 | with_reducible apply good_State_ev | with_reducible apply good_State_setFlag
                 | with_reducible apply goodO_next | split)

theorem good_execRandomFault (monitor : Nat) (test : Nat) (s : State)  (h : Good q P s) : GoodO q P (execRandomFault monitor
    test s) := by
  unfold execRandomFault; try dsimp only
  repeat' (first | with_reducible assumption | intro _ | with_reducible apply good_State_does
                 | with_reducible apply good_State_randomFault)

theorem good_execRngRetest (passA : Bool) (passB : Bool) (s : State)  (h : Good q P s) : GoodO q P (execRngRetest passA
    passB s) := by
  unfold execRngRetest; try dsimp only
  repeat' (first | with_reducible assumption | intro _ | with_reducible apply good_State_does
                 | with_reducible apply good_State_retest)

theorem good_execRecordWriteDone (type : Nat) (ok : Bool) (s : State)  (h : Good q Canon s) : GoodO q Canon
    (execRecordWriteDone type ok s) := by
  unfold execRecordWriteDone; try dsimp only
  repeat' (first | with_reducible assumption | intro _ | with_reducible apply good_State_does
                 | with_reducible apply good_State_tryWarm | with_reducible apply good_State_recordDone)

theorem good_execRollbackDone (s : State)  (h : Good q Canon s) : GoodO q Canon (execRollbackDone s) := by
  unfold execRollbackDone; try dsimp only
  repeat' (first | with_reducible assumption | intro _ | with_reducible apply good_State_does
                 | with_reducible apply good_State_endRollback)

theorem good_execCoreSequencerTrap (ctx : Nat) (die : Nat) (core : Nat) (s : State)  (h : Good q Canon s) : GoodO q Canon
    (execCoreSequencerTrap ctx die core s) := by
  unfold execCoreSequencerTrap; try dsimp only
  repeat' (first | with_reducible assumption | intro _ | with_reducible apply good_State_granted
                 | with_reducible apply good_State_ladderAbort | with_reducible apply goodO_next | split)

theorem good_execClusterFault (die : Nat) (cluster : Nat) (s : State)  (h : Good q P s) : GoodO q P (execClusterFault die
    cluster s) := by
  unfold execClusterFault; try dsimp only
  repeat' (first | with_reducible assumption | intro _ | with_reducible apply good_State_granted
                 | with_reducible apply good_State_askReset | with_reducible apply good_State_replay
                 | with_reducible apply goodO_next | split)

theorem good_execSequencerNoResponse (part : Nat) (s : State)  (h : Good q P s) : GoodO q P (execSequencerNoResponse part s)
    := by
  unfold execSequencerNoResponse; try dsimp only
  repeat' (first | with_reducible assumption | intro _ | with_reducible apply good_State_granted
                 | with_reducible apply good_State_askReset | with_reducible apply goodO_next | split)

theorem good_execContextAbortDone (ctx : Nat) (s : State)  (h : Good q P s) : GoodO q P (execContextAbortDone ctx s) := by
  unfold execContextAbortDone; try dsimp only
  repeat' (first | with_reducible assumption | intro _ | with_reducible apply good_State_does
                 | with_reducible apply good_State_rstSync | with_reducible apply goodO_next | split
                 | fail_if_no_progress (with_reducible apply good_mk; with_reducible apply good_parts))

theorem good_execIsolationDone (die : Nat) (cluster : Nat) (s : State)  (h : Good q P s) : GoodO q P (execIsolationDone die
    cluster s) := by
  unfold execIsolationDone; try dsimp only
  repeat' (first | with_reducible assumption | intro _ | with_reducible apply good_State_does
                 | with_reducible apply goodO_next | split
                 | fail_if_no_progress (with_reducible apply good_mk; with_reducible apply good_parts))

theorem good_execCopyAbandoned (seam : Nat) (s : State)  (h : Good q Canon s) : GoodO q Canon (execCopyAbandoned seam s) := by
  unfold execCopyAbandoned; try dsimp only
  repeat' (first | with_reducible assumption | intro _ | with_reducible apply good_State_does
                 | with_reducible apply good_State_tryWarm | with_reducible apply good_State_copyAbandoned)

theorem good_execHeartbeatArrival (p : Packet) (s : State)  (h : Good q Canon s) : GoodO q Canon
    (execHeartbeatArrival p s) := by
  unfold execHeartbeatArrival; try dsimp only
  repeat' (first | with_reducible assumption | intro _ | with_reducible apply good_State_does
                 | with_reducible apply good_State_collArrives)

theorem good_execTrainingBurst (port : Nat) (s : State)  (h : Good q P s) : GoodO q P (execTrainingBurst port s) := by
  unfold execTrainingBurst; try dsimp only
  repeat' (first | with_reducible assumption | intro _ | with_reducible apply good_State_does
                 | with_reducible apply good_State_setWidth | with_reducible apply good_State_setFlag
                 | with_reducible apply goodO_next | split)

theorem good_execEthernetFrame (port : Nat) (kind : Nat) (uncorr : Nat) (s : State)  (h : Good q P s) : GoodO q P
    (execEthernetFrame port kind uncorr s) := by
  unfold execEthernetFrame; try dsimp only
  repeat' (first | with_reducible assumption | intro _ | with_reducible apply good_State_does
                 | with_reducible apply good_State_add | with_reducible apply good_State_send
                 | with_reducible apply good_State_bump | with_reducible apply goodO_next | split)

theorem good_execHostConfigurationLoad (r : Requester) (cfg : HostCfg) (s : State)  (h : Good q P s) :
    GoodO q P (execHostConfigurationLoad r cfg s) := by
  unfold execHostConfigurationLoad; try dsimp only
  repeat' (first | with_reducible assumption | intro _ | with_reducible apply good_State_granted
                 | with_reducible apply good_State_recordLoad | with_reducible apply good_State_doHostCfg)

theorem good_execSupplySlewDone (s : State)  (h : Good q P s) : GoodO q P (execSupplySlewDone s) := by
  unfold execSupplySlewDone; try dsimp only
  repeat' (first | with_reducible assumption | intro _ | with_reducible apply good_State_does
                 | with_reducible apply good_State_dutySync | with_reducible apply good_State_setPower)

end Sys2Proof.Machine
end

