-- ==== Sys2Proof/Laws/State.lean ====
section
/-! SUPPORT. Laws of the state's named updates: which fields each leaves as they were, one lemma for each field and update. -/

namespace Sys2Proof.Machine

set_option Elab.async false

variable (s : State)

/-! ### State.setReg -/

@[simp] theorem State.setReg_pending (off : Nat) (w : Word) : (s.setReg off w).pending = s.pending := by simp only [State.setReg]
@[simp] theorem State.setReg_phase (off : Nat) (w : Word) : (s.setReg off w).phase = s.phase := by simp only [State.setReg]
@[simp] theorem State.setReg_clk (off : Nat) (w : Word) : (s.setReg off w).clk = s.clk := by simp only [State.setReg]
@[simp] theorem State.setReg_pins (off : Nat) (w : Word) : (s.setReg off w).pins = s.pins := by simp only [State.setReg]
@[simp] theorem State.setReg_reqRegs (off : Nat) (w : Word) : (s.setReg off w).reqRegs = s.reqRegs := by simp only [State.setReg]
@[simp] theorem State.setReg_wire (off : Nat) (w : Word) : (s.setReg off w).wire = s.wire := by simp only [State.setReg]
@[simp] theorem State.setReg_free (off : Nat) (w : Word) : (s.setReg off w).free = s.free := by simp only [State.setReg]
@[simp] theorem State.setReg_ctxs (off : Nat) (w : Word) : (s.setReg off w).ctxs = s.ctxs := by simp only [State.setReg]
@[simp] theorem State.setReg_slots (off : Nat) (w : Word) : (s.setReg off w).slots = s.slots := by simp only [State.setReg]
@[simp] theorem State.setReg_parts (off : Nat) (w : Word) : (s.setReg off w).parts = s.parts := by simp only [State.setReg]
@[simp] theorem State.setReg_syncWaits (off : Nat) (w : Word) : (s.setReg off w).syncWaits = s.syncWaits := by simp only [State.setReg]
@[simp] theorem State.setReg_inProg (off : Nat) (w : Word) : (s.setReg off w).inProg = s.inProg := by simp only [State.setReg]
@[simp] theorem State.setReg_mem (off : Nat) (w : Word) : (s.setReg off w).mem = s.mem := by simp only [State.setReg]
@[simp] theorem State.setReg_sram (off : Nat) (w : Word) : (s.setReg off w).sram = s.sram := by simp only [State.setReg]
@[simp] theorem State.setReg_sramResets (off : Nat) (w : Word) : (s.setReg off w).sramResets = s.sramResets := by simp only [State.setReg]
@[simp] theorem State.setReg_coreParts (off : Nat) (w : Word) : (s.setReg off w).coreParts = s.coreParts := by simp only [State.setReg]
@[simp] theorem State.setReg_badGranules (off : Nat) (w : Word) : (s.setReg off w).badGranules = s.badGranules := by simp only [State.setReg]
@[simp] theorem State.setReg_faint (off : Nat) (w : Word) : (s.setReg off w).faint = s.faint := by simp only [State.setReg]
@[simp] theorem State.setReg_bursts (off : Nat) (w : Word) : (s.setReg off w).bursts = s.bursts := by simp only [State.setReg]
@[simp] theorem State.setReg_memKeys (off : Nat) (w : Word) : (s.setReg off w).memKeys = s.memKeys := by simp only [State.setReg]
@[simp] theorem State.setReg_hashKey (off : Nat) (w : Word) : (s.setReg off w).hashKey = s.hashKey := by simp only [State.setReg]
@[simp] theorem State.setReg_zeroing (off : Nat) (w : Word) : (s.setReg off w).zeroing = s.zeroing := by simp only [State.setReg]
@[simp] theorem State.setReg_reqSlots (off : Nat) (w : Word) : (s.setReg off w).reqSlots = s.reqSlots := by simp only [State.setReg]
@[simp] theorem State.setReg_slotWait (off : Nat) (w : Word) : (s.setReg off w).slotWait = s.slotWait := by simp only [State.setReg]
@[simp] theorem State.setReg_queues (off : Nat) (w : Word) : (s.setReg off w).queues = s.queues := by simp only [State.setReg]
@[simp] theorem State.setReg_turns (off : Nat) (w : Word) : (s.setReg off w).turns = s.turns := by simp only [State.setReg]
@[simp] theorem State.setReg_waiting (off : Nat) (w : Word) : (s.setReg off w).waiting = s.waiting := by simp only [State.setReg]
@[simp] theorem State.setReg_resync (off : Nat) (w : Word) : (s.setReg off w).resync = s.resync := by simp only [State.setReg]
@[simp] theorem State.setReg_credits (off : Nat) (w : Word) : (s.setReg off w).credits = s.credits := by simp only [State.setReg]
@[simp] theorem State.setReg_ports (off : Nat) (w : Word) : (s.setReg off w).ports = s.ports := by simp only [State.setReg]
@[simp] theorem State.setReg_eyes (off : Nat) (w : Word) : (s.setReg off w).eyes = s.eyes := by simp only [State.setReg]
@[simp] theorem State.setReg_rackAdopted (off : Nat) (w : Word) : (s.setReg off w).rackAdopted = s.rackAdopted := by simp only [State.setReg]
@[simp] theorem State.setReg_dmaRun (off : Nat) (w : Word) : (s.setReg off w).dmaRun = s.dmaRun := by simp only [State.setReg]
@[simp] theorem State.setReg_dmaLast (off : Nat) (w : Word) : (s.setReg off w).dmaLast = s.dmaLast := by simp only [State.setReg]
@[simp] theorem State.setReg_groups (off : Nat) (w : Word) : (s.setReg off w).groups = s.groups := by simp only [State.setReg]
@[simp] theorem State.setReg_carTurns (off : Nat) (w : Word) : (s.setReg off w).carTurns = s.carTurns := by simp only [State.setReg]
@[simp] theorem State.setReg_bank (off : Nat) (w : Word) : (s.setReg off w).bank = s.bank := by simp only [State.setReg]
@[simp] theorem State.setReg_rankTabs (off : Nat) (w : Word) : (s.setReg off w).rankTabs = s.rankTabs := by simp only [State.setReg]
@[simp] theorem State.setReg_copies (off : Nat) (w : Word) : (s.setReg off w).copies = s.copies := by simp only [State.setReg]
@[simp] theorem State.setReg_ceHour (off : Nat) (w : Word) : (s.setReg off w).ceHour = s.ceHour := by simp only [State.setReg]
@[simp] theorem State.setReg_hotRuns (off : Nat) (w : Word) : (s.setReg off w).hotRuns = s.hotRuns := by simp only [State.setReg]
@[simp] theorem State.setReg_sessions (off : Nat) (w : Word) : (s.setReg off w).sessions = s.sessions := by simp only [State.setReg]
@[simp] theorem State.setReg_nonces (off : Nat) (w : Word) : (s.setReg off w).nonces = s.nonces := by simp only [State.setReg]
@[simp] theorem State.setReg_evq (off : Nat) (w : Word) : (s.setReg off w).evq = s.evq := by simp only [State.setReg]
@[simp] theorem State.setReg_recs (off : Nat) (w : Word) : (s.setReg off w).recs = s.recs := by simp only [State.setReg]
@[simp] theorem State.setReg_recBad (off : Nat) (w : Word) : (s.setReg off w).recBad = s.recBad := by simp only [State.setReg]
@[simp] theorem State.setReg_evLost (off : Nat) (w : Word) : (s.setReg off w).evLost = s.evLost := by simp only [State.setReg]
@[simp] theorem State.setReg_resetReqs (off : Nat) (w : Word) : (s.setReg off w).resetReqs = s.resetReqs := by simp only [State.setReg]
@[simp] theorem State.setReg_resets (off : Nat) (w : Word) : (s.setReg off w).resets = s.resets := by simp only [State.setReg]
@[simp] theorem State.setReg_ladder (off : Nat) (w : Word) : (s.setReg off w).ladder = s.ladder := by simp only [State.setReg]
@[simp] theorem State.setReg_isolating (off : Nat) (w : Word) : (s.setReg off w).isolating = s.isolating := by simp only [State.setReg]
@[simp] theorem State.setReg_cycling (off : Nat) (w : Word) : (s.setReg off w).cycling = s.cycling := by simp only [State.setReg]
@[simp] theorem State.setReg_faults (off : Nat) (w : Word) : (s.setReg off w).faults = s.faults := by simp only [State.setReg]
@[simp] theorem State.setReg_faultHeld (off : Nat) (w : Word) : (s.setReg off w).faultHeld = s.faultHeld := by simp only [State.setReg]
@[simp] theorem State.setReg_genClk (off : Nat) (w : Word) : (s.setReg off w).genClk = s.genClk := by simp only [State.setReg]
@[simp] theorem State.setReg_ash (off : Nat) (w : Word) : (s.setReg off w).ash = s.ash := by simp only [State.setReg]
@[simp] theorem State.setReg_badCols (off : Nat) (w : Word) : (s.setReg off w).badCols = s.badCols := by simp only [State.setReg]
@[simp] theorem State.setReg_residue (off : Nat) (w : Word) : (s.setReg off w).residue = s.residue := by simp only [State.setReg]
@[simp] theorem State.setReg_storeDue (off : Nat) (w : Word) : (s.setReg off w).storeDue = s.storeDue := by simp only [State.setReg]
@[simp] theorem State.setReg_spareDoubt (off : Nat) (w : Word) : (s.setReg off w).spareDoubt = s.spareDoubt := by simp only [State.setReg]
@[simp] theorem State.setReg_spareLast (off : Nat) (w : Word) : (s.setReg off w).spareLast = s.spareLast := by simp only [State.setReg]
@[simp] theorem State.setReg_nvm (off : Nat) (w : Word) : (s.setReg off w).nvm = s.nvm := by simp only [State.setReg]
@[simp] theorem State.setReg_nvmq (off : Nat) (w : Word) : (s.setReg off w).nvmq = s.nvmq := by simp only [State.setReg]
@[simp] theorem State.setReg_time (off : Nat) (w : Word) : (s.setReg off w).time = s.time := by simp only [State.setReg]
@[simp] theorem State.setReg_ctl (off : Nat) (w : Word) : (s.setReg off w).ctl = s.ctl := by simp only [State.setReg]
@[simp] theorem State.setReg_latches (off : Nat) (w : Word) : (s.setReg off w).latches = s.latches := by simp only [State.setReg]
@[simp] theorem State.setReg_outSeq (off : Nat) (w : Word) : (s.setReg off w).outSeq = s.outSeq := by simp only [State.setReg]
@[simp] theorem State.setReg_power (off : Nat) (w : Word) : (s.setReg off w).power = s.power := by simp only [State.setReg]
@[simp] theorem State.setReg_start (off : Nat) (w : Word) : (s.setReg off w).start = s.start := by simp only [State.setReg]
@[simp] theorem State.setReg_update (off : Nat) (w : Word) : (s.setReg off w).update = s.update := by simp only [State.setReg]
@[simp] theorem State.setReg_audit (off : Nat) (w : Word) : (s.setReg off w).audit = s.audit := by simp only [State.setReg]
@[simp] theorem State.setReg_auditBad (off : Nat) (w : Word) : (s.setReg off w).auditBad = s.auditBad := by simp only [State.setReg]

/-! ### State.setFld -/

@[simp] theorem State.setFld_pending (f : Fld) (v : Nat) : (s.setFld f v).pending = s.pending := by simp only [State.setFld, State.setReg_pending]
@[simp] theorem State.setFld_phase (f : Fld) (v : Nat) : (s.setFld f v).phase = s.phase := by simp only [State.setFld, State.setReg_phase]
@[simp] theorem State.setFld_clk (f : Fld) (v : Nat) : (s.setFld f v).clk = s.clk := by simp only [State.setFld, State.setReg_clk]
@[simp] theorem State.setFld_pins (f : Fld) (v : Nat) : (s.setFld f v).pins = s.pins := by simp only [State.setFld, State.setReg_pins]
@[simp] theorem State.setFld_reqRegs (f : Fld) (v : Nat) : (s.setFld f v).reqRegs = s.reqRegs := by simp only [State.setFld, State.setReg_reqRegs]
@[simp] theorem State.setFld_wire (f : Fld) (v : Nat) : (s.setFld f v).wire = s.wire := by simp only [State.setFld, State.setReg_wire]
@[simp] theorem State.setFld_free (f : Fld) (v : Nat) : (s.setFld f v).free = s.free := by simp only [State.setFld, State.setReg_free]
@[simp] theorem State.setFld_ctxs (f : Fld) (v : Nat) : (s.setFld f v).ctxs = s.ctxs := by simp only [State.setFld, State.setReg_ctxs]
@[simp] theorem State.setFld_slots (f : Fld) (v : Nat) : (s.setFld f v).slots = s.slots := by simp only [State.setFld, State.setReg_slots]
@[simp] theorem State.setFld_parts (f : Fld) (v : Nat) : (s.setFld f v).parts = s.parts := by simp only [State.setFld, State.setReg_parts]
@[simp] theorem State.setFld_syncWaits (f : Fld) (v : Nat) : (s.setFld f v).syncWaits = s.syncWaits := by simp only [State.setFld, State.setReg_syncWaits]
@[simp] theorem State.setFld_inProg (f : Fld) (v : Nat) : (s.setFld f v).inProg = s.inProg := by simp only [State.setFld, State.setReg_inProg]
@[simp] theorem State.setFld_mem (f : Fld) (v : Nat) : (s.setFld f v).mem = s.mem := by simp only [State.setFld, State.setReg_mem]
@[simp] theorem State.setFld_sram (f : Fld) (v : Nat) : (s.setFld f v).sram = s.sram := by simp only [State.setFld, State.setReg_sram]
@[simp] theorem State.setFld_sramResets (f : Fld) (v : Nat) : (s.setFld f v).sramResets = s.sramResets := by simp only [State.setFld, State.setReg_sramResets]
@[simp] theorem State.setFld_coreParts (f : Fld) (v : Nat) : (s.setFld f v).coreParts = s.coreParts := by simp only [State.setFld, State.setReg_coreParts]
@[simp] theorem State.setFld_badGranules (f : Fld) (v : Nat) : (s.setFld f v).badGranules = s.badGranules := by simp only [State.setFld, State.setReg_badGranules]
@[simp] theorem State.setFld_faint (f : Fld) (v : Nat) : (s.setFld f v).faint = s.faint := by simp only [State.setFld, State.setReg_faint]
@[simp] theorem State.setFld_bursts (f : Fld) (v : Nat) : (s.setFld f v).bursts = s.bursts := by simp only [State.setFld, State.setReg_bursts]
@[simp] theorem State.setFld_memKeys (f : Fld) (v : Nat) : (s.setFld f v).memKeys = s.memKeys := by simp only [State.setFld, State.setReg_memKeys]
@[simp] theorem State.setFld_hashKey (f : Fld) (v : Nat) : (s.setFld f v).hashKey = s.hashKey := by simp only [State.setFld, State.setReg_hashKey]
@[simp] theorem State.setFld_zeroing (f : Fld) (v : Nat) : (s.setFld f v).zeroing = s.zeroing := by simp only [State.setFld, State.setReg_zeroing]
@[simp] theorem State.setFld_reqSlots (f : Fld) (v : Nat) : (s.setFld f v).reqSlots = s.reqSlots := by simp only [State.setFld, State.setReg_reqSlots]
@[simp] theorem State.setFld_slotWait (f : Fld) (v : Nat) : (s.setFld f v).slotWait = s.slotWait := by simp only [State.setFld, State.setReg_slotWait]
@[simp] theorem State.setFld_queues (f : Fld) (v : Nat) : (s.setFld f v).queues = s.queues := by simp only [State.setFld, State.setReg_queues]
@[simp] theorem State.setFld_turns (f : Fld) (v : Nat) : (s.setFld f v).turns = s.turns := by simp only [State.setFld, State.setReg_turns]
@[simp] theorem State.setFld_waiting (f : Fld) (v : Nat) : (s.setFld f v).waiting = s.waiting := by simp only [State.setFld, State.setReg_waiting]
@[simp] theorem State.setFld_resync (f : Fld) (v : Nat) : (s.setFld f v).resync = s.resync := by simp only [State.setFld, State.setReg_resync]
@[simp] theorem State.setFld_credits (f : Fld) (v : Nat) : (s.setFld f v).credits = s.credits := by simp only [State.setFld, State.setReg_credits]
@[simp] theorem State.setFld_ports (f : Fld) (v : Nat) : (s.setFld f v).ports = s.ports := by simp only [State.setFld, State.setReg_ports]
@[simp] theorem State.setFld_eyes (f : Fld) (v : Nat) : (s.setFld f v).eyes = s.eyes := by simp only [State.setFld, State.setReg_eyes]
@[simp] theorem State.setFld_rackAdopted (f : Fld) (v : Nat) : (s.setFld f v).rackAdopted = s.rackAdopted := by simp only [State.setFld, State.setReg_rackAdopted]
@[simp] theorem State.setFld_dmaRun (f : Fld) (v : Nat) : (s.setFld f v).dmaRun = s.dmaRun := by simp only [State.setFld, State.setReg_dmaRun]
@[simp] theorem State.setFld_dmaLast (f : Fld) (v : Nat) : (s.setFld f v).dmaLast = s.dmaLast := by simp only [State.setFld, State.setReg_dmaLast]
@[simp] theorem State.setFld_groups (f : Fld) (v : Nat) : (s.setFld f v).groups = s.groups := by simp only [State.setFld, State.setReg_groups]
@[simp] theorem State.setFld_carTurns (f : Fld) (v : Nat) : (s.setFld f v).carTurns = s.carTurns := by simp only [State.setFld, State.setReg_carTurns]
@[simp] theorem State.setFld_bank (f : Fld) (v : Nat) : (s.setFld f v).bank = s.bank := by simp only [State.setFld, State.setReg_bank]
@[simp] theorem State.setFld_rankTabs (f : Fld) (v : Nat) : (s.setFld f v).rankTabs = s.rankTabs := by simp only [State.setFld, State.setReg_rankTabs]
@[simp] theorem State.setFld_copies (f : Fld) (v : Nat) : (s.setFld f v).copies = s.copies := by simp only [State.setFld, State.setReg_copies]
@[simp] theorem State.setFld_ceHour (f : Fld) (v : Nat) : (s.setFld f v).ceHour = s.ceHour := by simp only [State.setFld, State.setReg_ceHour]
@[simp] theorem State.setFld_hotRuns (f : Fld) (v : Nat) : (s.setFld f v).hotRuns = s.hotRuns := by simp only [State.setFld, State.setReg_hotRuns]
@[simp] theorem State.setFld_sessions (f : Fld) (v : Nat) : (s.setFld f v).sessions = s.sessions := by simp only [State.setFld, State.setReg_sessions]
@[simp] theorem State.setFld_nonces (f : Fld) (v : Nat) : (s.setFld f v).nonces = s.nonces := by simp only [State.setFld, State.setReg_nonces]
@[simp] theorem State.setFld_evq (f : Fld) (v : Nat) : (s.setFld f v).evq = s.evq := by simp only [State.setFld, State.setReg_evq]
@[simp] theorem State.setFld_recs (f : Fld) (v : Nat) : (s.setFld f v).recs = s.recs := by simp only [State.setFld, State.setReg_recs]
@[simp] theorem State.setFld_recBad (f : Fld) (v : Nat) : (s.setFld f v).recBad = s.recBad := by simp only [State.setFld, State.setReg_recBad]
@[simp] theorem State.setFld_evLost (f : Fld) (v : Nat) : (s.setFld f v).evLost = s.evLost := by simp only [State.setFld, State.setReg_evLost]
@[simp] theorem State.setFld_resetReqs (f : Fld) (v : Nat) : (s.setFld f v).resetReqs = s.resetReqs := by simp only [State.setFld, State.setReg_resetReqs]
@[simp] theorem State.setFld_resets (f : Fld) (v : Nat) : (s.setFld f v).resets = s.resets := by simp only [State.setFld, State.setReg_resets]
@[simp] theorem State.setFld_ladder (f : Fld) (v : Nat) : (s.setFld f v).ladder = s.ladder := by simp only [State.setFld, State.setReg_ladder]
@[simp] theorem State.setFld_isolating (f : Fld) (v : Nat) : (s.setFld f v).isolating = s.isolating := by simp only [State.setFld, State.setReg_isolating]
@[simp] theorem State.setFld_cycling (f : Fld) (v : Nat) : (s.setFld f v).cycling = s.cycling := by simp only [State.setFld, State.setReg_cycling]
@[simp] theorem State.setFld_faults (f : Fld) (v : Nat) : (s.setFld f v).faults = s.faults := by simp only [State.setFld, State.setReg_faults]
@[simp] theorem State.setFld_faultHeld (f : Fld) (v : Nat) : (s.setFld f v).faultHeld = s.faultHeld := by simp only [State.setFld, State.setReg_faultHeld]
@[simp] theorem State.setFld_genClk (f : Fld) (v : Nat) : (s.setFld f v).genClk = s.genClk := by simp only [State.setFld, State.setReg_genClk]
@[simp] theorem State.setFld_ash (f : Fld) (v : Nat) : (s.setFld f v).ash = s.ash := by simp only [State.setFld, State.setReg_ash]
@[simp] theorem State.setFld_badCols (f : Fld) (v : Nat) : (s.setFld f v).badCols = s.badCols := by simp only [State.setFld, State.setReg_badCols]
@[simp] theorem State.setFld_residue (f : Fld) (v : Nat) : (s.setFld f v).residue = s.residue := by simp only [State.setFld, State.setReg_residue]
@[simp] theorem State.setFld_storeDue (f : Fld) (v : Nat) : (s.setFld f v).storeDue = s.storeDue := by simp only [State.setFld, State.setReg_storeDue]
@[simp] theorem State.setFld_spareDoubt (f : Fld) (v : Nat) : (s.setFld f v).spareDoubt = s.spareDoubt := by simp only [State.setFld, State.setReg_spareDoubt]
@[simp] theorem State.setFld_spareLast (f : Fld) (v : Nat) : (s.setFld f v).spareLast = s.spareLast := by simp only [State.setFld, State.setReg_spareLast]
@[simp] theorem State.setFld_nvm (f : Fld) (v : Nat) : (s.setFld f v).nvm = s.nvm := by simp only [State.setFld, State.setReg_nvm]
@[simp] theorem State.setFld_nvmq (f : Fld) (v : Nat) : (s.setFld f v).nvmq = s.nvmq := by simp only [State.setFld, State.setReg_nvmq]
@[simp] theorem State.setFld_time (f : Fld) (v : Nat) : (s.setFld f v).time = s.time := by simp only [State.setFld, State.setReg_time]
@[simp] theorem State.setFld_ctl (f : Fld) (v : Nat) : (s.setFld f v).ctl = s.ctl := by simp only [State.setFld, State.setReg_ctl]
@[simp] theorem State.setFld_latches (f : Fld) (v : Nat) : (s.setFld f v).latches = s.latches := by simp only [State.setFld, State.setReg_latches]
@[simp] theorem State.setFld_outSeq (f : Fld) (v : Nat) : (s.setFld f v).outSeq = s.outSeq := by simp only [State.setFld, State.setReg_outSeq]
@[simp] theorem State.setFld_power (f : Fld) (v : Nat) : (s.setFld f v).power = s.power := by simp only [State.setFld, State.setReg_power]
@[simp] theorem State.setFld_start (f : Fld) (v : Nat) : (s.setFld f v).start = s.start := by simp only [State.setFld, State.setReg_start]
@[simp] theorem State.setFld_update (f : Fld) (v : Nat) : (s.setFld f v).update = s.update := by simp only [State.setFld, State.setReg_update]
@[simp] theorem State.setFld_audit (f : Fld) (v : Nat) : (s.setFld f v).audit = s.audit := by simp only [State.setFld, State.setReg_audit]
@[simp] theorem State.setFld_auditBad (f : Fld) (v : Nat) : (s.setFld f v).auditBad = s.auditBad := by simp only [State.setFld, State.setReg_auditBad]

/-! ### State.setFlag -/

@[simp] theorem State.setFlag_pending (f : Fld) (b : Bool) : (s.setFlag f b).pending = s.pending := by simp only [State.setFlag, State.setFld_pending]
@[simp] theorem State.setFlag_phase (f : Fld) (b : Bool) : (s.setFlag f b).phase = s.phase := by simp only [State.setFlag, State.setFld_phase]
@[simp] theorem State.setFlag_clk (f : Fld) (b : Bool) : (s.setFlag f b).clk = s.clk := by simp only [State.setFlag, State.setFld_clk]
@[simp] theorem State.setFlag_pins (f : Fld) (b : Bool) : (s.setFlag f b).pins = s.pins := by simp only [State.setFlag, State.setFld_pins]
@[simp] theorem State.setFlag_reqRegs (f : Fld) (b : Bool) : (s.setFlag f b).reqRegs = s.reqRegs := by simp only [State.setFlag, State.setFld_reqRegs]
@[simp] theorem State.setFlag_wire (f : Fld) (b : Bool) : (s.setFlag f b).wire = s.wire := by simp only [State.setFlag, State.setFld_wire]
@[simp] theorem State.setFlag_free (f : Fld) (b : Bool) : (s.setFlag f b).free = s.free := by simp only [State.setFlag, State.setFld_free]
@[simp] theorem State.setFlag_ctxs (f : Fld) (b : Bool) : (s.setFlag f b).ctxs = s.ctxs := by simp only [State.setFlag, State.setFld_ctxs]
@[simp] theorem State.setFlag_slots (f : Fld) (b : Bool) : (s.setFlag f b).slots = s.slots := by simp only [State.setFlag, State.setFld_slots]
@[simp] theorem State.setFlag_parts (f : Fld) (b : Bool) : (s.setFlag f b).parts = s.parts := by simp only [State.setFlag, State.setFld_parts]
@[simp] theorem State.setFlag_syncWaits (f : Fld) (b : Bool) : (s.setFlag f b).syncWaits = s.syncWaits := by simp only [State.setFlag, State.setFld_syncWaits]
@[simp] theorem State.setFlag_inProg (f : Fld) (b : Bool) : (s.setFlag f b).inProg = s.inProg := by simp only [State.setFlag, State.setFld_inProg]
@[simp] theorem State.setFlag_mem (f : Fld) (b : Bool) : (s.setFlag f b).mem = s.mem := by simp only [State.setFlag, State.setFld_mem]
@[simp] theorem State.setFlag_sram (f : Fld) (b : Bool) : (s.setFlag f b).sram = s.sram := by simp only [State.setFlag, State.setFld_sram]
@[simp] theorem State.setFlag_sramResets (f : Fld) (b : Bool) : (s.setFlag f b).sramResets = s.sramResets := by simp only [State.setFlag, State.setFld_sramResets]
@[simp] theorem State.setFlag_coreParts (f : Fld) (b : Bool) : (s.setFlag f b).coreParts = s.coreParts := by simp only [State.setFlag, State.setFld_coreParts]
@[simp] theorem State.setFlag_badGranules (f : Fld) (b : Bool) : (s.setFlag f b).badGranules = s.badGranules := by simp only [State.setFlag, State.setFld_badGranules]
@[simp] theorem State.setFlag_faint (f : Fld) (b : Bool) : (s.setFlag f b).faint = s.faint := by simp only [State.setFlag, State.setFld_faint]
@[simp] theorem State.setFlag_bursts (f : Fld) (b : Bool) : (s.setFlag f b).bursts = s.bursts := by simp only [State.setFlag, State.setFld_bursts]
@[simp] theorem State.setFlag_memKeys (f : Fld) (b : Bool) : (s.setFlag f b).memKeys = s.memKeys := by simp only [State.setFlag, State.setFld_memKeys]
@[simp] theorem State.setFlag_hashKey (f : Fld) (b : Bool) : (s.setFlag f b).hashKey = s.hashKey := by simp only [State.setFlag, State.setFld_hashKey]
@[simp] theorem State.setFlag_zeroing (f : Fld) (b : Bool) : (s.setFlag f b).zeroing = s.zeroing := by simp only [State.setFlag, State.setFld_zeroing]
@[simp] theorem State.setFlag_reqSlots (f : Fld) (b : Bool) : (s.setFlag f b).reqSlots = s.reqSlots := by simp only [State.setFlag, State.setFld_reqSlots]
@[simp] theorem State.setFlag_slotWait (f : Fld) (b : Bool) : (s.setFlag f b).slotWait = s.slotWait := by simp only [State.setFlag, State.setFld_slotWait]
@[simp] theorem State.setFlag_queues (f : Fld) (b : Bool) : (s.setFlag f b).queues = s.queues := by simp only [State.setFlag, State.setFld_queues]
@[simp] theorem State.setFlag_turns (f : Fld) (b : Bool) : (s.setFlag f b).turns = s.turns := by simp only [State.setFlag, State.setFld_turns]
@[simp] theorem State.setFlag_waiting (f : Fld) (b : Bool) : (s.setFlag f b).waiting = s.waiting := by simp only [State.setFlag, State.setFld_waiting]
@[simp] theorem State.setFlag_resync (f : Fld) (b : Bool) : (s.setFlag f b).resync = s.resync := by simp only [State.setFlag, State.setFld_resync]
@[simp] theorem State.setFlag_credits (f : Fld) (b : Bool) : (s.setFlag f b).credits = s.credits := by simp only [State.setFlag, State.setFld_credits]
@[simp] theorem State.setFlag_ports (f : Fld) (b : Bool) : (s.setFlag f b).ports = s.ports := by simp only [State.setFlag, State.setFld_ports]
@[simp] theorem State.setFlag_eyes (f : Fld) (b : Bool) : (s.setFlag f b).eyes = s.eyes := by simp only [State.setFlag, State.setFld_eyes]
@[simp] theorem State.setFlag_rackAdopted (f : Fld) (b : Bool) : (s.setFlag f b).rackAdopted = s.rackAdopted := by simp only [State.setFlag, State.setFld_rackAdopted]
@[simp] theorem State.setFlag_dmaRun (f : Fld) (b : Bool) : (s.setFlag f b).dmaRun = s.dmaRun := by simp only [State.setFlag, State.setFld_dmaRun]
@[simp] theorem State.setFlag_dmaLast (f : Fld) (b : Bool) : (s.setFlag f b).dmaLast = s.dmaLast := by simp only [State.setFlag, State.setFld_dmaLast]
@[simp] theorem State.setFlag_groups (f : Fld) (b : Bool) : (s.setFlag f b).groups = s.groups := by simp only [State.setFlag, State.setFld_groups]
@[simp] theorem State.setFlag_carTurns (f : Fld) (b : Bool) : (s.setFlag f b).carTurns = s.carTurns := by simp only [State.setFlag, State.setFld_carTurns]
@[simp] theorem State.setFlag_bank (f : Fld) (b : Bool) : (s.setFlag f b).bank = s.bank := by simp only [State.setFlag, State.setFld_bank]
@[simp] theorem State.setFlag_rankTabs (f : Fld) (b : Bool) : (s.setFlag f b).rankTabs = s.rankTabs := by simp only [State.setFlag, State.setFld_rankTabs]
@[simp] theorem State.setFlag_copies (f : Fld) (b : Bool) : (s.setFlag f b).copies = s.copies := by simp only [State.setFlag, State.setFld_copies]
@[simp] theorem State.setFlag_ceHour (f : Fld) (b : Bool) : (s.setFlag f b).ceHour = s.ceHour := by simp only [State.setFlag, State.setFld_ceHour]
@[simp] theorem State.setFlag_hotRuns (f : Fld) (b : Bool) : (s.setFlag f b).hotRuns = s.hotRuns := by simp only [State.setFlag, State.setFld_hotRuns]
@[simp] theorem State.setFlag_sessions (f : Fld) (b : Bool) : (s.setFlag f b).sessions = s.sessions := by simp only [State.setFlag, State.setFld_sessions]
@[simp] theorem State.setFlag_nonces (f : Fld) (b : Bool) : (s.setFlag f b).nonces = s.nonces := by simp only [State.setFlag, State.setFld_nonces]
@[simp] theorem State.setFlag_evq (f : Fld) (b : Bool) : (s.setFlag f b).evq = s.evq := by simp only [State.setFlag, State.setFld_evq]
@[simp] theorem State.setFlag_recs (f : Fld) (b : Bool) : (s.setFlag f b).recs = s.recs := by simp only [State.setFlag, State.setFld_recs]
@[simp] theorem State.setFlag_recBad (f : Fld) (b : Bool) : (s.setFlag f b).recBad = s.recBad := by simp only [State.setFlag, State.setFld_recBad]
@[simp] theorem State.setFlag_evLost (f : Fld) (b : Bool) : (s.setFlag f b).evLost = s.evLost := by simp only [State.setFlag, State.setFld_evLost]
@[simp] theorem State.setFlag_resetReqs (f : Fld) (b : Bool) : (s.setFlag f b).resetReqs = s.resetReqs := by simp only [State.setFlag, State.setFld_resetReqs]
@[simp] theorem State.setFlag_resets (f : Fld) (b : Bool) : (s.setFlag f b).resets = s.resets := by simp only [State.setFlag, State.setFld_resets]
@[simp] theorem State.setFlag_ladder (f : Fld) (b : Bool) : (s.setFlag f b).ladder = s.ladder := by simp only [State.setFlag, State.setFld_ladder]
@[simp] theorem State.setFlag_isolating (f : Fld) (b : Bool) : (s.setFlag f b).isolating = s.isolating := by simp only [State.setFlag, State.setFld_isolating]
@[simp] theorem State.setFlag_cycling (f : Fld) (b : Bool) : (s.setFlag f b).cycling = s.cycling := by simp only [State.setFlag, State.setFld_cycling]
@[simp] theorem State.setFlag_faults (f : Fld) (b : Bool) : (s.setFlag f b).faults = s.faults := by simp only [State.setFlag, State.setFld_faults]
@[simp] theorem State.setFlag_faultHeld (f : Fld) (b : Bool) : (s.setFlag f b).faultHeld = s.faultHeld := by simp only [State.setFlag, State.setFld_faultHeld]
@[simp] theorem State.setFlag_genClk (f : Fld) (b : Bool) : (s.setFlag f b).genClk = s.genClk := by simp only [State.setFlag, State.setFld_genClk]
@[simp] theorem State.setFlag_ash (f : Fld) (b : Bool) : (s.setFlag f b).ash = s.ash := by simp only [State.setFlag, State.setFld_ash]
@[simp] theorem State.setFlag_badCols (f : Fld) (b : Bool) : (s.setFlag f b).badCols = s.badCols := by simp only [State.setFlag, State.setFld_badCols]
@[simp] theorem State.setFlag_residue (f : Fld) (b : Bool) : (s.setFlag f b).residue = s.residue := by simp only [State.setFlag, State.setFld_residue]
@[simp] theorem State.setFlag_storeDue (f : Fld) (b : Bool) : (s.setFlag f b).storeDue = s.storeDue := by simp only [State.setFlag, State.setFld_storeDue]
@[simp] theorem State.setFlag_spareDoubt (f : Fld) (b : Bool) : (s.setFlag f b).spareDoubt = s.spareDoubt := by simp only [State.setFlag, State.setFld_spareDoubt]
@[simp] theorem State.setFlag_spareLast (f : Fld) (b : Bool) : (s.setFlag f b).spareLast = s.spareLast := by simp only [State.setFlag, State.setFld_spareLast]
@[simp] theorem State.setFlag_nvm (f : Fld) (b : Bool) : (s.setFlag f b).nvm = s.nvm := by simp only [State.setFlag, State.setFld_nvm]
@[simp] theorem State.setFlag_nvmq (f : Fld) (b : Bool) : (s.setFlag f b).nvmq = s.nvmq := by simp only [State.setFlag, State.setFld_nvmq]
@[simp] theorem State.setFlag_time (f : Fld) (b : Bool) : (s.setFlag f b).time = s.time := by simp only [State.setFlag, State.setFld_time]
@[simp] theorem State.setFlag_ctl (f : Fld) (b : Bool) : (s.setFlag f b).ctl = s.ctl := by simp only [State.setFlag, State.setFld_ctl]
@[simp] theorem State.setFlag_latches (f : Fld) (b : Bool) : (s.setFlag f b).latches = s.latches := by simp only [State.setFlag, State.setFld_latches]
@[simp] theorem State.setFlag_outSeq (f : Fld) (b : Bool) : (s.setFlag f b).outSeq = s.outSeq := by simp only [State.setFlag, State.setFld_outSeq]
@[simp] theorem State.setFlag_power (f : Fld) (b : Bool) : (s.setFlag f b).power = s.power := by simp only [State.setFlag, State.setFld_power]
@[simp] theorem State.setFlag_start (f : Fld) (b : Bool) : (s.setFlag f b).start = s.start := by simp only [State.setFlag, State.setFld_start]
@[simp] theorem State.setFlag_update (f : Fld) (b : Bool) : (s.setFlag f b).update = s.update := by simp only [State.setFlag, State.setFld_update]
@[simp] theorem State.setFlag_audit (f : Fld) (b : Bool) : (s.setFlag f b).audit = s.audit := by simp only [State.setFlag, State.setFld_audit]
@[simp] theorem State.setFlag_auditBad (f : Fld) (b : Bool) : (s.setFlag f b).auditBad = s.auditBad := by simp only [State.setFlag, State.setFld_auditBad]

/-! ### State.setPair -/

@[simp] theorem State.setPair_pending (lo v : Nat) : (s.setPair lo v).pending = s.pending := by simp only [State.setPair, State.setReg_pending]
@[simp] theorem State.setPair_phase (lo v : Nat) : (s.setPair lo v).phase = s.phase := by simp only [State.setPair, State.setReg_phase]
@[simp] theorem State.setPair_clk (lo v : Nat) : (s.setPair lo v).clk = s.clk := by simp only [State.setPair, State.setReg_clk]
@[simp] theorem State.setPair_pins (lo v : Nat) : (s.setPair lo v).pins = s.pins := by simp only [State.setPair, State.setReg_pins]
@[simp] theorem State.setPair_reqRegs (lo v : Nat) : (s.setPair lo v).reqRegs = s.reqRegs := by simp only [State.setPair, State.setReg_reqRegs]
@[simp] theorem State.setPair_wire (lo v : Nat) : (s.setPair lo v).wire = s.wire := by simp only [State.setPair, State.setReg_wire]
@[simp] theorem State.setPair_free (lo v : Nat) : (s.setPair lo v).free = s.free := by simp only [State.setPair, State.setReg_free]
@[simp] theorem State.setPair_ctxs (lo v : Nat) : (s.setPair lo v).ctxs = s.ctxs := by simp only [State.setPair, State.setReg_ctxs]
@[simp] theorem State.setPair_slots (lo v : Nat) : (s.setPair lo v).slots = s.slots := by simp only [State.setPair, State.setReg_slots]
@[simp] theorem State.setPair_parts (lo v : Nat) : (s.setPair lo v).parts = s.parts := by simp only [State.setPair, State.setReg_parts]
@[simp] theorem State.setPair_syncWaits (lo v : Nat) : (s.setPair lo v).syncWaits = s.syncWaits := by simp only [State.setPair, State.setReg_syncWaits]
@[simp] theorem State.setPair_inProg (lo v : Nat) : (s.setPair lo v).inProg = s.inProg := by simp only [State.setPair, State.setReg_inProg]
@[simp] theorem State.setPair_mem (lo v : Nat) : (s.setPair lo v).mem = s.mem := by simp only [State.setPair, State.setReg_mem]
@[simp] theorem State.setPair_sram (lo v : Nat) : (s.setPair lo v).sram = s.sram := by simp only [State.setPair, State.setReg_sram]
@[simp] theorem State.setPair_sramResets (lo v : Nat) : (s.setPair lo v).sramResets = s.sramResets := by simp only [State.setPair, State.setReg_sramResets]
@[simp] theorem State.setPair_coreParts (lo v : Nat) : (s.setPair lo v).coreParts = s.coreParts := by simp only [State.setPair, State.setReg_coreParts]
@[simp] theorem State.setPair_badGranules (lo v : Nat) : (s.setPair lo v).badGranules = s.badGranules := by simp only [State.setPair, State.setReg_badGranules]
@[simp] theorem State.setPair_faint (lo v : Nat) : (s.setPair lo v).faint = s.faint := by simp only [State.setPair, State.setReg_faint]
@[simp] theorem State.setPair_bursts (lo v : Nat) : (s.setPair lo v).bursts = s.bursts := by simp only [State.setPair, State.setReg_bursts]
@[simp] theorem State.setPair_memKeys (lo v : Nat) : (s.setPair lo v).memKeys = s.memKeys := by simp only [State.setPair, State.setReg_memKeys]
@[simp] theorem State.setPair_hashKey (lo v : Nat) : (s.setPair lo v).hashKey = s.hashKey := by simp only [State.setPair, State.setReg_hashKey]
@[simp] theorem State.setPair_zeroing (lo v : Nat) : (s.setPair lo v).zeroing = s.zeroing := by simp only [State.setPair, State.setReg_zeroing]
@[simp] theorem State.setPair_reqSlots (lo v : Nat) : (s.setPair lo v).reqSlots = s.reqSlots := by simp only [State.setPair, State.setReg_reqSlots]
@[simp] theorem State.setPair_slotWait (lo v : Nat) : (s.setPair lo v).slotWait = s.slotWait := by simp only [State.setPair, State.setReg_slotWait]
@[simp] theorem State.setPair_queues (lo v : Nat) : (s.setPair lo v).queues = s.queues := by simp only [State.setPair, State.setReg_queues]
@[simp] theorem State.setPair_turns (lo v : Nat) : (s.setPair lo v).turns = s.turns := by simp only [State.setPair, State.setReg_turns]
@[simp] theorem State.setPair_waiting (lo v : Nat) : (s.setPair lo v).waiting = s.waiting := by simp only [State.setPair, State.setReg_waiting]
@[simp] theorem State.setPair_resync (lo v : Nat) : (s.setPair lo v).resync = s.resync := by simp only [State.setPair, State.setReg_resync]
@[simp] theorem State.setPair_credits (lo v : Nat) : (s.setPair lo v).credits = s.credits := by simp only [State.setPair, State.setReg_credits]
@[simp] theorem State.setPair_ports (lo v : Nat) : (s.setPair lo v).ports = s.ports := by simp only [State.setPair, State.setReg_ports]
@[simp] theorem State.setPair_eyes (lo v : Nat) : (s.setPair lo v).eyes = s.eyes := by simp only [State.setPair, State.setReg_eyes]
@[simp] theorem State.setPair_rackAdopted (lo v : Nat) : (s.setPair lo v).rackAdopted = s.rackAdopted := by simp only [State.setPair, State.setReg_rackAdopted]
@[simp] theorem State.setPair_dmaRun (lo v : Nat) : (s.setPair lo v).dmaRun = s.dmaRun := by simp only [State.setPair, State.setReg_dmaRun]
@[simp] theorem State.setPair_dmaLast (lo v : Nat) : (s.setPair lo v).dmaLast = s.dmaLast := by simp only [State.setPair, State.setReg_dmaLast]
@[simp] theorem State.setPair_groups (lo v : Nat) : (s.setPair lo v).groups = s.groups := by simp only [State.setPair, State.setReg_groups]
@[simp] theorem State.setPair_carTurns (lo v : Nat) : (s.setPair lo v).carTurns = s.carTurns := by simp only [State.setPair, State.setReg_carTurns]
@[simp] theorem State.setPair_bank (lo v : Nat) : (s.setPair lo v).bank = s.bank := by simp only [State.setPair, State.setReg_bank]
@[simp] theorem State.setPair_rankTabs (lo v : Nat) : (s.setPair lo v).rankTabs = s.rankTabs := by simp only [State.setPair, State.setReg_rankTabs]
@[simp] theorem State.setPair_copies (lo v : Nat) : (s.setPair lo v).copies = s.copies := by simp only [State.setPair, State.setReg_copies]
@[simp] theorem State.setPair_ceHour (lo v : Nat) : (s.setPair lo v).ceHour = s.ceHour := by simp only [State.setPair, State.setReg_ceHour]
@[simp] theorem State.setPair_hotRuns (lo v : Nat) : (s.setPair lo v).hotRuns = s.hotRuns := by simp only [State.setPair, State.setReg_hotRuns]
@[simp] theorem State.setPair_sessions (lo v : Nat) : (s.setPair lo v).sessions = s.sessions := by simp only [State.setPair, State.setReg_sessions]
@[simp] theorem State.setPair_nonces (lo v : Nat) : (s.setPair lo v).nonces = s.nonces := by simp only [State.setPair, State.setReg_nonces]
@[simp] theorem State.setPair_evq (lo v : Nat) : (s.setPair lo v).evq = s.evq := by simp only [State.setPair, State.setReg_evq]
@[simp] theorem State.setPair_recs (lo v : Nat) : (s.setPair lo v).recs = s.recs := by simp only [State.setPair, State.setReg_recs]
@[simp] theorem State.setPair_recBad (lo v : Nat) : (s.setPair lo v).recBad = s.recBad := by simp only [State.setPair, State.setReg_recBad]
@[simp] theorem State.setPair_evLost (lo v : Nat) : (s.setPair lo v).evLost = s.evLost := by simp only [State.setPair, State.setReg_evLost]
@[simp] theorem State.setPair_resetReqs (lo v : Nat) : (s.setPair lo v).resetReqs = s.resetReqs := by simp only [State.setPair, State.setReg_resetReqs]
@[simp] theorem State.setPair_resets (lo v : Nat) : (s.setPair lo v).resets = s.resets := by simp only [State.setPair, State.setReg_resets]
@[simp] theorem State.setPair_ladder (lo v : Nat) : (s.setPair lo v).ladder = s.ladder := by simp only [State.setPair, State.setReg_ladder]
@[simp] theorem State.setPair_isolating (lo v : Nat) : (s.setPair lo v).isolating = s.isolating := by simp only [State.setPair, State.setReg_isolating]
@[simp] theorem State.setPair_cycling (lo v : Nat) : (s.setPair lo v).cycling = s.cycling := by simp only [State.setPair, State.setReg_cycling]
@[simp] theorem State.setPair_faults (lo v : Nat) : (s.setPair lo v).faults = s.faults := by simp only [State.setPair, State.setReg_faults]
@[simp] theorem State.setPair_faultHeld (lo v : Nat) : (s.setPair lo v).faultHeld = s.faultHeld := by simp only [State.setPair, State.setReg_faultHeld]
@[simp] theorem State.setPair_genClk (lo v : Nat) : (s.setPair lo v).genClk = s.genClk := by simp only [State.setPair, State.setReg_genClk]
@[simp] theorem State.setPair_ash (lo v : Nat) : (s.setPair lo v).ash = s.ash := by simp only [State.setPair, State.setReg_ash]
@[simp] theorem State.setPair_badCols (lo v : Nat) : (s.setPair lo v).badCols = s.badCols := by simp only [State.setPair, State.setReg_badCols]
@[simp] theorem State.setPair_residue (lo v : Nat) : (s.setPair lo v).residue = s.residue := by simp only [State.setPair, State.setReg_residue]
@[simp] theorem State.setPair_storeDue (lo v : Nat) : (s.setPair lo v).storeDue = s.storeDue := by simp only [State.setPair, State.setReg_storeDue]
@[simp] theorem State.setPair_spareDoubt (lo v : Nat) : (s.setPair lo v).spareDoubt = s.spareDoubt := by simp only [State.setPair, State.setReg_spareDoubt]
@[simp] theorem State.setPair_spareLast (lo v : Nat) : (s.setPair lo v).spareLast = s.spareLast := by simp only [State.setPair, State.setReg_spareLast]
@[simp] theorem State.setPair_nvm (lo v : Nat) : (s.setPair lo v).nvm = s.nvm := by simp only [State.setPair, State.setReg_nvm]
@[simp] theorem State.setPair_nvmq (lo v : Nat) : (s.setPair lo v).nvmq = s.nvmq := by simp only [State.setPair, State.setReg_nvmq]
@[simp] theorem State.setPair_time (lo v : Nat) : (s.setPair lo v).time = s.time := by simp only [State.setPair, State.setReg_time]
@[simp] theorem State.setPair_ctl (lo v : Nat) : (s.setPair lo v).ctl = s.ctl := by simp only [State.setPair, State.setReg_ctl]
@[simp] theorem State.setPair_latches (lo v : Nat) : (s.setPair lo v).latches = s.latches := by simp only [State.setPair, State.setReg_latches]
@[simp] theorem State.setPair_outSeq (lo v : Nat) : (s.setPair lo v).outSeq = s.outSeq := by simp only [State.setPair, State.setReg_outSeq]
@[simp] theorem State.setPair_power (lo v : Nat) : (s.setPair lo v).power = s.power := by simp only [State.setPair, State.setReg_power]
@[simp] theorem State.setPair_start (lo v : Nat) : (s.setPair lo v).start = s.start := by simp only [State.setPair, State.setReg_start]
@[simp] theorem State.setPair_update (lo v : Nat) : (s.setPair lo v).update = s.update := by simp only [State.setPair, State.setReg_update]
@[simp] theorem State.setPair_audit (lo v : Nat) : (s.setPair lo v).audit = s.audit := by simp only [State.setPair, State.setReg_audit]
@[simp] theorem State.setPair_auditBad (lo v : Nat) : (s.setPair lo v).auditBad = s.auditBad := by simp only [State.setPair, State.setReg_auditBad]

/-! ### State.add -/

@[simp] theorem State.add_pending (f : Fld) (n : Nat) : (s.add f n).pending = s.pending := by simp only [State.add, State.setFld_pending]
@[simp] theorem State.add_phase (f : Fld) (n : Nat) : (s.add f n).phase = s.phase := by simp only [State.add, State.setFld_phase]
@[simp] theorem State.add_clk (f : Fld) (n : Nat) : (s.add f n).clk = s.clk := by simp only [State.add, State.setFld_clk]
@[simp] theorem State.add_pins (f : Fld) (n : Nat) : (s.add f n).pins = s.pins := by simp only [State.add, State.setFld_pins]
@[simp] theorem State.add_reqRegs (f : Fld) (n : Nat) : (s.add f n).reqRegs = s.reqRegs := by simp only [State.add, State.setFld_reqRegs]
@[simp] theorem State.add_wire (f : Fld) (n : Nat) : (s.add f n).wire = s.wire := by simp only [State.add, State.setFld_wire]
@[simp] theorem State.add_free (f : Fld) (n : Nat) : (s.add f n).free = s.free := by simp only [State.add, State.setFld_free]
@[simp] theorem State.add_ctxs (f : Fld) (n : Nat) : (s.add f n).ctxs = s.ctxs := by simp only [State.add, State.setFld_ctxs]
@[simp] theorem State.add_slots (f : Fld) (n : Nat) : (s.add f n).slots = s.slots := by simp only [State.add, State.setFld_slots]
@[simp] theorem State.add_parts (f : Fld) (n : Nat) : (s.add f n).parts = s.parts := by simp only [State.add, State.setFld_parts]
@[simp] theorem State.add_syncWaits (f : Fld) (n : Nat) : (s.add f n).syncWaits = s.syncWaits := by simp only [State.add, State.setFld_syncWaits]
@[simp] theorem State.add_inProg (f : Fld) (n : Nat) : (s.add f n).inProg = s.inProg := by simp only [State.add, State.setFld_inProg]
@[simp] theorem State.add_mem (f : Fld) (n : Nat) : (s.add f n).mem = s.mem := by simp only [State.add, State.setFld_mem]
@[simp] theorem State.add_sram (f : Fld) (n : Nat) : (s.add f n).sram = s.sram := by simp only [State.add, State.setFld_sram]
@[simp] theorem State.add_sramResets (f : Fld) (n : Nat) : (s.add f n).sramResets = s.sramResets := by simp only [State.add, State.setFld_sramResets]
@[simp] theorem State.add_coreParts (f : Fld) (n : Nat) : (s.add f n).coreParts = s.coreParts := by simp only [State.add, State.setFld_coreParts]
@[simp] theorem State.add_badGranules (f : Fld) (n : Nat) : (s.add f n).badGranules = s.badGranules := by simp only [State.add, State.setFld_badGranules]
@[simp] theorem State.add_faint (f : Fld) (n : Nat) : (s.add f n).faint = s.faint := by simp only [State.add, State.setFld_faint]
@[simp] theorem State.add_bursts (f : Fld) (n : Nat) : (s.add f n).bursts = s.bursts := by simp only [State.add, State.setFld_bursts]
@[simp] theorem State.add_memKeys (f : Fld) (n : Nat) : (s.add f n).memKeys = s.memKeys := by simp only [State.add, State.setFld_memKeys]
@[simp] theorem State.add_hashKey (f : Fld) (n : Nat) : (s.add f n).hashKey = s.hashKey := by simp only [State.add, State.setFld_hashKey]
@[simp] theorem State.add_zeroing (f : Fld) (n : Nat) : (s.add f n).zeroing = s.zeroing := by simp only [State.add, State.setFld_zeroing]
@[simp] theorem State.add_reqSlots (f : Fld) (n : Nat) : (s.add f n).reqSlots = s.reqSlots := by simp only [State.add, State.setFld_reqSlots]
@[simp] theorem State.add_slotWait (f : Fld) (n : Nat) : (s.add f n).slotWait = s.slotWait := by simp only [State.add, State.setFld_slotWait]
@[simp] theorem State.add_queues (f : Fld) (n : Nat) : (s.add f n).queues = s.queues := by simp only [State.add, State.setFld_queues]
@[simp] theorem State.add_turns (f : Fld) (n : Nat) : (s.add f n).turns = s.turns := by simp only [State.add, State.setFld_turns]
@[simp] theorem State.add_waiting (f : Fld) (n : Nat) : (s.add f n).waiting = s.waiting := by simp only [State.add, State.setFld_waiting]
@[simp] theorem State.add_resync (f : Fld) (n : Nat) : (s.add f n).resync = s.resync := by simp only [State.add, State.setFld_resync]
@[simp] theorem State.add_credits (f : Fld) (n : Nat) : (s.add f n).credits = s.credits := by simp only [State.add, State.setFld_credits]
@[simp] theorem State.add_ports (f : Fld) (n : Nat) : (s.add f n).ports = s.ports := by simp only [State.add, State.setFld_ports]
@[simp] theorem State.add_eyes (f : Fld) (n : Nat) : (s.add f n).eyes = s.eyes := by simp only [State.add, State.setFld_eyes]
@[simp] theorem State.add_rackAdopted (f : Fld) (n : Nat) : (s.add f n).rackAdopted = s.rackAdopted := by simp only [State.add, State.setFld_rackAdopted]
@[simp] theorem State.add_dmaRun (f : Fld) (n : Nat) : (s.add f n).dmaRun = s.dmaRun := by simp only [State.add, State.setFld_dmaRun]
@[simp] theorem State.add_dmaLast (f : Fld) (n : Nat) : (s.add f n).dmaLast = s.dmaLast := by simp only [State.add, State.setFld_dmaLast]
@[simp] theorem State.add_groups (f : Fld) (n : Nat) : (s.add f n).groups = s.groups := by simp only [State.add, State.setFld_groups]
@[simp] theorem State.add_carTurns (f : Fld) (n : Nat) : (s.add f n).carTurns = s.carTurns := by simp only [State.add, State.setFld_carTurns]
@[simp] theorem State.add_bank (f : Fld) (n : Nat) : (s.add f n).bank = s.bank := by simp only [State.add, State.setFld_bank]
@[simp] theorem State.add_rankTabs (f : Fld) (n : Nat) : (s.add f n).rankTabs = s.rankTabs := by simp only [State.add, State.setFld_rankTabs]
@[simp] theorem State.add_copies (f : Fld) (n : Nat) : (s.add f n).copies = s.copies := by simp only [State.add, State.setFld_copies]
@[simp] theorem State.add_ceHour (f : Fld) (n : Nat) : (s.add f n).ceHour = s.ceHour := by simp only [State.add, State.setFld_ceHour]
@[simp] theorem State.add_hotRuns (f : Fld) (n : Nat) : (s.add f n).hotRuns = s.hotRuns := by simp only [State.add, State.setFld_hotRuns]
@[simp] theorem State.add_sessions (f : Fld) (n : Nat) : (s.add f n).sessions = s.sessions := by simp only [State.add, State.setFld_sessions]
@[simp] theorem State.add_nonces (f : Fld) (n : Nat) : (s.add f n).nonces = s.nonces := by simp only [State.add, State.setFld_nonces]
@[simp] theorem State.add_evq (f : Fld) (n : Nat) : (s.add f n).evq = s.evq := by simp only [State.add, State.setFld_evq]
@[simp] theorem State.add_recs (f : Fld) (n : Nat) : (s.add f n).recs = s.recs := by simp only [State.add, State.setFld_recs]
@[simp] theorem State.add_recBad (f : Fld) (n : Nat) : (s.add f n).recBad = s.recBad := by simp only [State.add, State.setFld_recBad]
@[simp] theorem State.add_evLost (f : Fld) (n : Nat) : (s.add f n).evLost = s.evLost := by simp only [State.add, State.setFld_evLost]
@[simp] theorem State.add_resetReqs (f : Fld) (n : Nat) : (s.add f n).resetReqs = s.resetReqs := by simp only [State.add, State.setFld_resetReqs]
@[simp] theorem State.add_resets (f : Fld) (n : Nat) : (s.add f n).resets = s.resets := by simp only [State.add, State.setFld_resets]
@[simp] theorem State.add_ladder (f : Fld) (n : Nat) : (s.add f n).ladder = s.ladder := by simp only [State.add, State.setFld_ladder]
@[simp] theorem State.add_isolating (f : Fld) (n : Nat) : (s.add f n).isolating = s.isolating := by simp only [State.add, State.setFld_isolating]
@[simp] theorem State.add_cycling (f : Fld) (n : Nat) : (s.add f n).cycling = s.cycling := by simp only [State.add, State.setFld_cycling]
@[simp] theorem State.add_faults (f : Fld) (n : Nat) : (s.add f n).faults = s.faults := by simp only [State.add, State.setFld_faults]
@[simp] theorem State.add_faultHeld (f : Fld) (n : Nat) : (s.add f n).faultHeld = s.faultHeld := by simp only [State.add, State.setFld_faultHeld]
@[simp] theorem State.add_genClk (f : Fld) (n : Nat) : (s.add f n).genClk = s.genClk := by simp only [State.add, State.setFld_genClk]
@[simp] theorem State.add_ash (f : Fld) (n : Nat) : (s.add f n).ash = s.ash := by simp only [State.add, State.setFld_ash]
@[simp] theorem State.add_badCols (f : Fld) (n : Nat) : (s.add f n).badCols = s.badCols := by simp only [State.add, State.setFld_badCols]
@[simp] theorem State.add_residue (f : Fld) (n : Nat) : (s.add f n).residue = s.residue := by simp only [State.add, State.setFld_residue]
@[simp] theorem State.add_storeDue (f : Fld) (n : Nat) : (s.add f n).storeDue = s.storeDue := by simp only [State.add, State.setFld_storeDue]
@[simp] theorem State.add_spareDoubt (f : Fld) (n : Nat) : (s.add f n).spareDoubt = s.spareDoubt := by simp only [State.add, State.setFld_spareDoubt]
@[simp] theorem State.add_spareLast (f : Fld) (n : Nat) : (s.add f n).spareLast = s.spareLast := by simp only [State.add, State.setFld_spareLast]
@[simp] theorem State.add_nvm (f : Fld) (n : Nat) : (s.add f n).nvm = s.nvm := by simp only [State.add, State.setFld_nvm]
@[simp] theorem State.add_nvmq (f : Fld) (n : Nat) : (s.add f n).nvmq = s.nvmq := by simp only [State.add, State.setFld_nvmq]
@[simp] theorem State.add_time (f : Fld) (n : Nat) : (s.add f n).time = s.time := by simp only [State.add, State.setFld_time]
@[simp] theorem State.add_ctl (f : Fld) (n : Nat) : (s.add f n).ctl = s.ctl := by simp only [State.add, State.setFld_ctl]
@[simp] theorem State.add_latches (f : Fld) (n : Nat) : (s.add f n).latches = s.latches := by simp only [State.add, State.setFld_latches]
@[simp] theorem State.add_outSeq (f : Fld) (n : Nat) : (s.add f n).outSeq = s.outSeq := by simp only [State.add, State.setFld_outSeq]
@[simp] theorem State.add_power (f : Fld) (n : Nat) : (s.add f n).power = s.power := by simp only [State.add, State.setFld_power]
@[simp] theorem State.add_start (f : Fld) (n : Nat) : (s.add f n).start = s.start := by simp only [State.add, State.setFld_start]
@[simp] theorem State.add_update (f : Fld) (n : Nat) : (s.add f n).update = s.update := by simp only [State.add, State.setFld_update]
@[simp] theorem State.add_audit (f : Fld) (n : Nat) : (s.add f n).audit = s.audit := by simp only [State.add, State.setFld_audit]
@[simp] theorem State.add_auditBad (f : Fld) (n : Nat) : (s.add f n).auditBad = s.auditBad := by simp only [State.add, State.setFld_auditBad]

/-! ### State.bump -/

@[simp] theorem State.bump_pending (f : Fld) : (s.bump f).pending = s.pending := by simp only [State.bump, State.add_pending]
@[simp] theorem State.bump_phase (f : Fld) : (s.bump f).phase = s.phase := by simp only [State.bump, State.add_phase]
@[simp] theorem State.bump_clk (f : Fld) : (s.bump f).clk = s.clk := by simp only [State.bump, State.add_clk]
@[simp] theorem State.bump_pins (f : Fld) : (s.bump f).pins = s.pins := by simp only [State.bump, State.add_pins]
@[simp] theorem State.bump_reqRegs (f : Fld) : (s.bump f).reqRegs = s.reqRegs := by simp only [State.bump, State.add_reqRegs]
@[simp] theorem State.bump_wire (f : Fld) : (s.bump f).wire = s.wire := by simp only [State.bump, State.add_wire]
@[simp] theorem State.bump_free (f : Fld) : (s.bump f).free = s.free := by simp only [State.bump, State.add_free]
@[simp] theorem State.bump_ctxs (f : Fld) : (s.bump f).ctxs = s.ctxs := by simp only [State.bump, State.add_ctxs]
@[simp] theorem State.bump_slots (f : Fld) : (s.bump f).slots = s.slots := by simp only [State.bump, State.add_slots]
@[simp] theorem State.bump_parts (f : Fld) : (s.bump f).parts = s.parts := by simp only [State.bump, State.add_parts]
@[simp] theorem State.bump_syncWaits (f : Fld) : (s.bump f).syncWaits = s.syncWaits := by simp only [State.bump, State.add_syncWaits]
@[simp] theorem State.bump_inProg (f : Fld) : (s.bump f).inProg = s.inProg := by simp only [State.bump, State.add_inProg]
@[simp] theorem State.bump_mem (f : Fld) : (s.bump f).mem = s.mem := by simp only [State.bump, State.add_mem]
@[simp] theorem State.bump_sram (f : Fld) : (s.bump f).sram = s.sram := by simp only [State.bump, State.add_sram]
@[simp] theorem State.bump_sramResets (f : Fld) : (s.bump f).sramResets = s.sramResets := by simp only [State.bump, State.add_sramResets]
@[simp] theorem State.bump_coreParts (f : Fld) : (s.bump f).coreParts = s.coreParts := by simp only [State.bump, State.add_coreParts]
@[simp] theorem State.bump_badGranules (f : Fld) : (s.bump f).badGranules = s.badGranules := by simp only [State.bump, State.add_badGranules]
@[simp] theorem State.bump_faint (f : Fld) : (s.bump f).faint = s.faint := by simp only [State.bump, State.add_faint]
@[simp] theorem State.bump_bursts (f : Fld) : (s.bump f).bursts = s.bursts := by simp only [State.bump, State.add_bursts]
@[simp] theorem State.bump_memKeys (f : Fld) : (s.bump f).memKeys = s.memKeys := by simp only [State.bump, State.add_memKeys]
@[simp] theorem State.bump_hashKey (f : Fld) : (s.bump f).hashKey = s.hashKey := by simp only [State.bump, State.add_hashKey]
@[simp] theorem State.bump_zeroing (f : Fld) : (s.bump f).zeroing = s.zeroing := by simp only [State.bump, State.add_zeroing]
@[simp] theorem State.bump_reqSlots (f : Fld) : (s.bump f).reqSlots = s.reqSlots := by simp only [State.bump, State.add_reqSlots]
@[simp] theorem State.bump_slotWait (f : Fld) : (s.bump f).slotWait = s.slotWait := by simp only [State.bump, State.add_slotWait]
@[simp] theorem State.bump_queues (f : Fld) : (s.bump f).queues = s.queues := by simp only [State.bump, State.add_queues]
@[simp] theorem State.bump_turns (f : Fld) : (s.bump f).turns = s.turns := by simp only [State.bump, State.add_turns]
@[simp] theorem State.bump_waiting (f : Fld) : (s.bump f).waiting = s.waiting := by simp only [State.bump, State.add_waiting]
@[simp] theorem State.bump_resync (f : Fld) : (s.bump f).resync = s.resync := by simp only [State.bump, State.add_resync]
@[simp] theorem State.bump_credits (f : Fld) : (s.bump f).credits = s.credits := by simp only [State.bump, State.add_credits]
@[simp] theorem State.bump_ports (f : Fld) : (s.bump f).ports = s.ports := by simp only [State.bump, State.add_ports]
@[simp] theorem State.bump_eyes (f : Fld) : (s.bump f).eyes = s.eyes := by simp only [State.bump, State.add_eyes]
@[simp] theorem State.bump_rackAdopted (f : Fld) : (s.bump f).rackAdopted = s.rackAdopted := by simp only [State.bump, State.add_rackAdopted]
@[simp] theorem State.bump_dmaRun (f : Fld) : (s.bump f).dmaRun = s.dmaRun := by simp only [State.bump, State.add_dmaRun]
@[simp] theorem State.bump_dmaLast (f : Fld) : (s.bump f).dmaLast = s.dmaLast := by simp only [State.bump, State.add_dmaLast]
@[simp] theorem State.bump_groups (f : Fld) : (s.bump f).groups = s.groups := by simp only [State.bump, State.add_groups]
@[simp] theorem State.bump_carTurns (f : Fld) : (s.bump f).carTurns = s.carTurns := by simp only [State.bump, State.add_carTurns]
@[simp] theorem State.bump_bank (f : Fld) : (s.bump f).bank = s.bank := by simp only [State.bump, State.add_bank]
@[simp] theorem State.bump_rankTabs (f : Fld) : (s.bump f).rankTabs = s.rankTabs := by simp only [State.bump, State.add_rankTabs]
@[simp] theorem State.bump_copies (f : Fld) : (s.bump f).copies = s.copies := by simp only [State.bump, State.add_copies]
@[simp] theorem State.bump_ceHour (f : Fld) : (s.bump f).ceHour = s.ceHour := by simp only [State.bump, State.add_ceHour]
@[simp] theorem State.bump_hotRuns (f : Fld) : (s.bump f).hotRuns = s.hotRuns := by simp only [State.bump, State.add_hotRuns]
@[simp] theorem State.bump_sessions (f : Fld) : (s.bump f).sessions = s.sessions := by simp only [State.bump, State.add_sessions]
@[simp] theorem State.bump_nonces (f : Fld) : (s.bump f).nonces = s.nonces := by simp only [State.bump, State.add_nonces]
@[simp] theorem State.bump_evq (f : Fld) : (s.bump f).evq = s.evq := by simp only [State.bump, State.add_evq]
@[simp] theorem State.bump_recs (f : Fld) : (s.bump f).recs = s.recs := by simp only [State.bump, State.add_recs]
@[simp] theorem State.bump_recBad (f : Fld) : (s.bump f).recBad = s.recBad := by simp only [State.bump, State.add_recBad]
@[simp] theorem State.bump_evLost (f : Fld) : (s.bump f).evLost = s.evLost := by simp only [State.bump, State.add_evLost]
@[simp] theorem State.bump_resetReqs (f : Fld) : (s.bump f).resetReqs = s.resetReqs := by simp only [State.bump, State.add_resetReqs]
@[simp] theorem State.bump_resets (f : Fld) : (s.bump f).resets = s.resets := by simp only [State.bump, State.add_resets]
@[simp] theorem State.bump_ladder (f : Fld) : (s.bump f).ladder = s.ladder := by simp only [State.bump, State.add_ladder]
@[simp] theorem State.bump_isolating (f : Fld) : (s.bump f).isolating = s.isolating := by simp only [State.bump, State.add_isolating]
@[simp] theorem State.bump_cycling (f : Fld) : (s.bump f).cycling = s.cycling := by simp only [State.bump, State.add_cycling]
@[simp] theorem State.bump_faults (f : Fld) : (s.bump f).faults = s.faults := by simp only [State.bump, State.add_faults]
@[simp] theorem State.bump_faultHeld (f : Fld) : (s.bump f).faultHeld = s.faultHeld := by simp only [State.bump, State.add_faultHeld]
@[simp] theorem State.bump_genClk (f : Fld) : (s.bump f).genClk = s.genClk := by simp only [State.bump, State.add_genClk]
@[simp] theorem State.bump_ash (f : Fld) : (s.bump f).ash = s.ash := by simp only [State.bump, State.add_ash]
@[simp] theorem State.bump_badCols (f : Fld) : (s.bump f).badCols = s.badCols := by simp only [State.bump, State.add_badCols]
@[simp] theorem State.bump_residue (f : Fld) : (s.bump f).residue = s.residue := by simp only [State.bump, State.add_residue]
@[simp] theorem State.bump_storeDue (f : Fld) : (s.bump f).storeDue = s.storeDue := by simp only [State.bump, State.add_storeDue]
@[simp] theorem State.bump_spareDoubt (f : Fld) : (s.bump f).spareDoubt = s.spareDoubt := by simp only [State.bump, State.add_spareDoubt]
@[simp] theorem State.bump_spareLast (f : Fld) : (s.bump f).spareLast = s.spareLast := by simp only [State.bump, State.add_spareLast]
@[simp] theorem State.bump_nvm (f : Fld) : (s.bump f).nvm = s.nvm := by simp only [State.bump, State.add_nvm]
@[simp] theorem State.bump_nvmq (f : Fld) : (s.bump f).nvmq = s.nvmq := by simp only [State.bump, State.add_nvmq]
@[simp] theorem State.bump_time (f : Fld) : (s.bump f).time = s.time := by simp only [State.bump, State.add_time]
@[simp] theorem State.bump_ctl (f : Fld) : (s.bump f).ctl = s.ctl := by simp only [State.bump, State.add_ctl]
@[simp] theorem State.bump_latches (f : Fld) : (s.bump f).latches = s.latches := by simp only [State.bump, State.add_latches]
@[simp] theorem State.bump_outSeq (f : Fld) : (s.bump f).outSeq = s.outSeq := by simp only [State.bump, State.add_outSeq]
@[simp] theorem State.bump_power (f : Fld) : (s.bump f).power = s.power := by simp only [State.bump, State.add_power]
@[simp] theorem State.bump_start (f : Fld) : (s.bump f).start = s.start := by simp only [State.bump, State.add_start]
@[simp] theorem State.bump_update (f : Fld) : (s.bump f).update = s.update := by simp only [State.bump, State.add_update]
@[simp] theorem State.bump_audit (f : Fld) : (s.bump f).audit = s.audit := by simp only [State.bump, State.add_audit]
@[simp] theorem State.bump_auditBad (f : Fld) : (s.bump f).auditBad = s.auditBad := by simp only [State.bump, State.add_auditBad]

/-! ### State.sub -/

@[simp] theorem State.sub_pending (f : Fld) (n : Nat) : (s.sub f n).pending = s.pending := by simp only [State.sub, State.setFld_pending]
@[simp] theorem State.sub_phase (f : Fld) (n : Nat) : (s.sub f n).phase = s.phase := by simp only [State.sub, State.setFld_phase]
@[simp] theorem State.sub_clk (f : Fld) (n : Nat) : (s.sub f n).clk = s.clk := by simp only [State.sub, State.setFld_clk]
@[simp] theorem State.sub_pins (f : Fld) (n : Nat) : (s.sub f n).pins = s.pins := by simp only [State.sub, State.setFld_pins]
@[simp] theorem State.sub_reqRegs (f : Fld) (n : Nat) : (s.sub f n).reqRegs = s.reqRegs := by simp only [State.sub, State.setFld_reqRegs]
@[simp] theorem State.sub_wire (f : Fld) (n : Nat) : (s.sub f n).wire = s.wire := by simp only [State.sub, State.setFld_wire]
@[simp] theorem State.sub_free (f : Fld) (n : Nat) : (s.sub f n).free = s.free := by simp only [State.sub, State.setFld_free]
@[simp] theorem State.sub_ctxs (f : Fld) (n : Nat) : (s.sub f n).ctxs = s.ctxs := by simp only [State.sub, State.setFld_ctxs]
@[simp] theorem State.sub_slots (f : Fld) (n : Nat) : (s.sub f n).slots = s.slots := by simp only [State.sub, State.setFld_slots]
@[simp] theorem State.sub_parts (f : Fld) (n : Nat) : (s.sub f n).parts = s.parts := by simp only [State.sub, State.setFld_parts]
@[simp] theorem State.sub_syncWaits (f : Fld) (n : Nat) : (s.sub f n).syncWaits = s.syncWaits := by simp only [State.sub, State.setFld_syncWaits]
@[simp] theorem State.sub_inProg (f : Fld) (n : Nat) : (s.sub f n).inProg = s.inProg := by simp only [State.sub, State.setFld_inProg]
@[simp] theorem State.sub_mem (f : Fld) (n : Nat) : (s.sub f n).mem = s.mem := by simp only [State.sub, State.setFld_mem]
@[simp] theorem State.sub_sram (f : Fld) (n : Nat) : (s.sub f n).sram = s.sram := by simp only [State.sub, State.setFld_sram]
@[simp] theorem State.sub_sramResets (f : Fld) (n : Nat) : (s.sub f n).sramResets = s.sramResets := by simp only [State.sub, State.setFld_sramResets]
@[simp] theorem State.sub_coreParts (f : Fld) (n : Nat) : (s.sub f n).coreParts = s.coreParts := by simp only [State.sub, State.setFld_coreParts]
@[simp] theorem State.sub_badGranules (f : Fld) (n : Nat) : (s.sub f n).badGranules = s.badGranules := by simp only [State.sub, State.setFld_badGranules]
@[simp] theorem State.sub_faint (f : Fld) (n : Nat) : (s.sub f n).faint = s.faint := by simp only [State.sub, State.setFld_faint]
@[simp] theorem State.sub_bursts (f : Fld) (n : Nat) : (s.sub f n).bursts = s.bursts := by simp only [State.sub, State.setFld_bursts]
@[simp] theorem State.sub_memKeys (f : Fld) (n : Nat) : (s.sub f n).memKeys = s.memKeys := by simp only [State.sub, State.setFld_memKeys]
@[simp] theorem State.sub_hashKey (f : Fld) (n : Nat) : (s.sub f n).hashKey = s.hashKey := by simp only [State.sub, State.setFld_hashKey]
@[simp] theorem State.sub_zeroing (f : Fld) (n : Nat) : (s.sub f n).zeroing = s.zeroing := by simp only [State.sub, State.setFld_zeroing]
@[simp] theorem State.sub_reqSlots (f : Fld) (n : Nat) : (s.sub f n).reqSlots = s.reqSlots := by simp only [State.sub, State.setFld_reqSlots]
@[simp] theorem State.sub_slotWait (f : Fld) (n : Nat) : (s.sub f n).slotWait = s.slotWait := by simp only [State.sub, State.setFld_slotWait]
@[simp] theorem State.sub_queues (f : Fld) (n : Nat) : (s.sub f n).queues = s.queues := by simp only [State.sub, State.setFld_queues]
@[simp] theorem State.sub_turns (f : Fld) (n : Nat) : (s.sub f n).turns = s.turns := by simp only [State.sub, State.setFld_turns]
@[simp] theorem State.sub_waiting (f : Fld) (n : Nat) : (s.sub f n).waiting = s.waiting := by simp only [State.sub, State.setFld_waiting]
@[simp] theorem State.sub_resync (f : Fld) (n : Nat) : (s.sub f n).resync = s.resync := by simp only [State.sub, State.setFld_resync]
@[simp] theorem State.sub_credits (f : Fld) (n : Nat) : (s.sub f n).credits = s.credits := by simp only [State.sub, State.setFld_credits]
@[simp] theorem State.sub_ports (f : Fld) (n : Nat) : (s.sub f n).ports = s.ports := by simp only [State.sub, State.setFld_ports]
@[simp] theorem State.sub_eyes (f : Fld) (n : Nat) : (s.sub f n).eyes = s.eyes := by simp only [State.sub, State.setFld_eyes]
@[simp] theorem State.sub_rackAdopted (f : Fld) (n : Nat) : (s.sub f n).rackAdopted = s.rackAdopted := by simp only [State.sub, State.setFld_rackAdopted]
@[simp] theorem State.sub_dmaRun (f : Fld) (n : Nat) : (s.sub f n).dmaRun = s.dmaRun := by simp only [State.sub, State.setFld_dmaRun]
@[simp] theorem State.sub_dmaLast (f : Fld) (n : Nat) : (s.sub f n).dmaLast = s.dmaLast := by simp only [State.sub, State.setFld_dmaLast]
@[simp] theorem State.sub_groups (f : Fld) (n : Nat) : (s.sub f n).groups = s.groups := by simp only [State.sub, State.setFld_groups]
@[simp] theorem State.sub_carTurns (f : Fld) (n : Nat) : (s.sub f n).carTurns = s.carTurns := by simp only [State.sub, State.setFld_carTurns]
@[simp] theorem State.sub_bank (f : Fld) (n : Nat) : (s.sub f n).bank = s.bank := by simp only [State.sub, State.setFld_bank]
@[simp] theorem State.sub_rankTabs (f : Fld) (n : Nat) : (s.sub f n).rankTabs = s.rankTabs := by simp only [State.sub, State.setFld_rankTabs]
@[simp] theorem State.sub_copies (f : Fld) (n : Nat) : (s.sub f n).copies = s.copies := by simp only [State.sub, State.setFld_copies]
@[simp] theorem State.sub_ceHour (f : Fld) (n : Nat) : (s.sub f n).ceHour = s.ceHour := by simp only [State.sub, State.setFld_ceHour]
@[simp] theorem State.sub_hotRuns (f : Fld) (n : Nat) : (s.sub f n).hotRuns = s.hotRuns := by simp only [State.sub, State.setFld_hotRuns]
@[simp] theorem State.sub_sessions (f : Fld) (n : Nat) : (s.sub f n).sessions = s.sessions := by simp only [State.sub, State.setFld_sessions]
@[simp] theorem State.sub_nonces (f : Fld) (n : Nat) : (s.sub f n).nonces = s.nonces := by simp only [State.sub, State.setFld_nonces]
@[simp] theorem State.sub_evq (f : Fld) (n : Nat) : (s.sub f n).evq = s.evq := by simp only [State.sub, State.setFld_evq]
@[simp] theorem State.sub_recs (f : Fld) (n : Nat) : (s.sub f n).recs = s.recs := by simp only [State.sub, State.setFld_recs]
@[simp] theorem State.sub_recBad (f : Fld) (n : Nat) : (s.sub f n).recBad = s.recBad := by simp only [State.sub, State.setFld_recBad]
@[simp] theorem State.sub_evLost (f : Fld) (n : Nat) : (s.sub f n).evLost = s.evLost := by simp only [State.sub, State.setFld_evLost]
@[simp] theorem State.sub_resetReqs (f : Fld) (n : Nat) : (s.sub f n).resetReqs = s.resetReqs := by simp only [State.sub, State.setFld_resetReqs]
@[simp] theorem State.sub_resets (f : Fld) (n : Nat) : (s.sub f n).resets = s.resets := by simp only [State.sub, State.setFld_resets]
@[simp] theorem State.sub_ladder (f : Fld) (n : Nat) : (s.sub f n).ladder = s.ladder := by simp only [State.sub, State.setFld_ladder]
@[simp] theorem State.sub_isolating (f : Fld) (n : Nat) : (s.sub f n).isolating = s.isolating := by simp only [State.sub, State.setFld_isolating]
@[simp] theorem State.sub_cycling (f : Fld) (n : Nat) : (s.sub f n).cycling = s.cycling := by simp only [State.sub, State.setFld_cycling]
@[simp] theorem State.sub_faults (f : Fld) (n : Nat) : (s.sub f n).faults = s.faults := by simp only [State.sub, State.setFld_faults]
@[simp] theorem State.sub_faultHeld (f : Fld) (n : Nat) : (s.sub f n).faultHeld = s.faultHeld := by simp only [State.sub, State.setFld_faultHeld]
@[simp] theorem State.sub_genClk (f : Fld) (n : Nat) : (s.sub f n).genClk = s.genClk := by simp only [State.sub, State.setFld_genClk]
@[simp] theorem State.sub_ash (f : Fld) (n : Nat) : (s.sub f n).ash = s.ash := by simp only [State.sub, State.setFld_ash]
@[simp] theorem State.sub_badCols (f : Fld) (n : Nat) : (s.sub f n).badCols = s.badCols := by simp only [State.sub, State.setFld_badCols]
@[simp] theorem State.sub_residue (f : Fld) (n : Nat) : (s.sub f n).residue = s.residue := by simp only [State.sub, State.setFld_residue]
@[simp] theorem State.sub_storeDue (f : Fld) (n : Nat) : (s.sub f n).storeDue = s.storeDue := by simp only [State.sub, State.setFld_storeDue]
@[simp] theorem State.sub_spareDoubt (f : Fld) (n : Nat) : (s.sub f n).spareDoubt = s.spareDoubt := by simp only [State.sub, State.setFld_spareDoubt]
@[simp] theorem State.sub_spareLast (f : Fld) (n : Nat) : (s.sub f n).spareLast = s.spareLast := by simp only [State.sub, State.setFld_spareLast]
@[simp] theorem State.sub_nvm (f : Fld) (n : Nat) : (s.sub f n).nvm = s.nvm := by simp only [State.sub, State.setFld_nvm]
@[simp] theorem State.sub_nvmq (f : Fld) (n : Nat) : (s.sub f n).nvmq = s.nvmq := by simp only [State.sub, State.setFld_nvmq]
@[simp] theorem State.sub_time (f : Fld) (n : Nat) : (s.sub f n).time = s.time := by simp only [State.sub, State.setFld_time]
@[simp] theorem State.sub_ctl (f : Fld) (n : Nat) : (s.sub f n).ctl = s.ctl := by simp only [State.sub, State.setFld_ctl]
@[simp] theorem State.sub_latches (f : Fld) (n : Nat) : (s.sub f n).latches = s.latches := by simp only [State.sub, State.setFld_latches]
@[simp] theorem State.sub_outSeq (f : Fld) (n : Nat) : (s.sub f n).outSeq = s.outSeq := by simp only [State.sub, State.setFld_outSeq]
@[simp] theorem State.sub_power (f : Fld) (n : Nat) : (s.sub f n).power = s.power := by simp only [State.sub, State.setFld_power]
@[simp] theorem State.sub_start (f : Fld) (n : Nat) : (s.sub f n).start = s.start := by simp only [State.sub, State.setFld_start]
@[simp] theorem State.sub_update (f : Fld) (n : Nat) : (s.sub f n).update = s.update := by simp only [State.sub, State.setFld_update]
@[simp] theorem State.sub_audit (f : Fld) (n : Nat) : (s.sub f n).audit = s.audit := by simp only [State.sub, State.setFld_audit]
@[simp] theorem State.sub_auditBad (f : Fld) (n : Nat) : (s.sub f n).auditBad = s.auditBad := by simp only [State.sub, State.setFld_auditBad]

/-! ### State.addPair -/

@[simp] theorem State.addPair_pending (lo n : Nat) : (s.addPair lo n).pending = s.pending := by simp only [State.addPair, State.setPair_pending]
@[simp] theorem State.addPair_phase (lo n : Nat) : (s.addPair lo n).phase = s.phase := by simp only [State.addPair, State.setPair_phase]
@[simp] theorem State.addPair_clk (lo n : Nat) : (s.addPair lo n).clk = s.clk := by simp only [State.addPair, State.setPair_clk]
@[simp] theorem State.addPair_pins (lo n : Nat) : (s.addPair lo n).pins = s.pins := by simp only [State.addPair, State.setPair_pins]
@[simp] theorem State.addPair_reqRegs (lo n : Nat) : (s.addPair lo n).reqRegs = s.reqRegs := by simp only [State.addPair, State.setPair_reqRegs]
@[simp] theorem State.addPair_wire (lo n : Nat) : (s.addPair lo n).wire = s.wire := by simp only [State.addPair, State.setPair_wire]
@[simp] theorem State.addPair_free (lo n : Nat) : (s.addPair lo n).free = s.free := by simp only [State.addPair, State.setPair_free]
@[simp] theorem State.addPair_ctxs (lo n : Nat) : (s.addPair lo n).ctxs = s.ctxs := by simp only [State.addPair, State.setPair_ctxs]
@[simp] theorem State.addPair_slots (lo n : Nat) : (s.addPair lo n).slots = s.slots := by simp only [State.addPair, State.setPair_slots]
@[simp] theorem State.addPair_parts (lo n : Nat) : (s.addPair lo n).parts = s.parts := by simp only [State.addPair, State.setPair_parts]
@[simp] theorem State.addPair_syncWaits (lo n : Nat) : (s.addPair lo n).syncWaits = s.syncWaits := by simp only [State.addPair, State.setPair_syncWaits]
@[simp] theorem State.addPair_inProg (lo n : Nat) : (s.addPair lo n).inProg = s.inProg := by simp only [State.addPair, State.setPair_inProg]
@[simp] theorem State.addPair_mem (lo n : Nat) : (s.addPair lo n).mem = s.mem := by simp only [State.addPair, State.setPair_mem]
@[simp] theorem State.addPair_sram (lo n : Nat) : (s.addPair lo n).sram = s.sram := by simp only [State.addPair, State.setPair_sram]
@[simp] theorem State.addPair_sramResets (lo n : Nat) : (s.addPair lo n).sramResets = s.sramResets := by simp only [State.addPair, State.setPair_sramResets]
@[simp] theorem State.addPair_coreParts (lo n : Nat) : (s.addPair lo n).coreParts = s.coreParts := by simp only [State.addPair, State.setPair_coreParts]
@[simp] theorem State.addPair_badGranules (lo n : Nat) : (s.addPair lo n).badGranules = s.badGranules := by simp only [State.addPair, State.setPair_badGranules]
@[simp] theorem State.addPair_faint (lo n : Nat) : (s.addPair lo n).faint = s.faint := by simp only [State.addPair, State.setPair_faint]
@[simp] theorem State.addPair_bursts (lo n : Nat) : (s.addPair lo n).bursts = s.bursts := by simp only [State.addPair, State.setPair_bursts]
@[simp] theorem State.addPair_memKeys (lo n : Nat) : (s.addPair lo n).memKeys = s.memKeys := by simp only [State.addPair, State.setPair_memKeys]
@[simp] theorem State.addPair_hashKey (lo n : Nat) : (s.addPair lo n).hashKey = s.hashKey := by simp only [State.addPair, State.setPair_hashKey]
@[simp] theorem State.addPair_zeroing (lo n : Nat) : (s.addPair lo n).zeroing = s.zeroing := by simp only [State.addPair, State.setPair_zeroing]
@[simp] theorem State.addPair_reqSlots (lo n : Nat) : (s.addPair lo n).reqSlots = s.reqSlots := by simp only [State.addPair, State.setPair_reqSlots]
@[simp] theorem State.addPair_slotWait (lo n : Nat) : (s.addPair lo n).slotWait = s.slotWait := by simp only [State.addPair, State.setPair_slotWait]
@[simp] theorem State.addPair_queues (lo n : Nat) : (s.addPair lo n).queues = s.queues := by simp only [State.addPair, State.setPair_queues]
@[simp] theorem State.addPair_turns (lo n : Nat) : (s.addPair lo n).turns = s.turns := by simp only [State.addPair, State.setPair_turns]
@[simp] theorem State.addPair_waiting (lo n : Nat) : (s.addPair lo n).waiting = s.waiting := by simp only [State.addPair, State.setPair_waiting]
@[simp] theorem State.addPair_resync (lo n : Nat) : (s.addPair lo n).resync = s.resync := by simp only [State.addPair, State.setPair_resync]
@[simp] theorem State.addPair_credits (lo n : Nat) : (s.addPair lo n).credits = s.credits := by simp only [State.addPair, State.setPair_credits]
@[simp] theorem State.addPair_ports (lo n : Nat) : (s.addPair lo n).ports = s.ports := by simp only [State.addPair, State.setPair_ports]
@[simp] theorem State.addPair_eyes (lo n : Nat) : (s.addPair lo n).eyes = s.eyes := by simp only [State.addPair, State.setPair_eyes]
@[simp] theorem State.addPair_rackAdopted (lo n : Nat) : (s.addPair lo n).rackAdopted = s.rackAdopted := by simp only [State.addPair, State.setPair_rackAdopted]
@[simp] theorem State.addPair_dmaRun (lo n : Nat) : (s.addPair lo n).dmaRun = s.dmaRun := by simp only [State.addPair, State.setPair_dmaRun]
@[simp] theorem State.addPair_dmaLast (lo n : Nat) : (s.addPair lo n).dmaLast = s.dmaLast := by simp only [State.addPair, State.setPair_dmaLast]
@[simp] theorem State.addPair_groups (lo n : Nat) : (s.addPair lo n).groups = s.groups := by simp only [State.addPair, State.setPair_groups]
@[simp] theorem State.addPair_carTurns (lo n : Nat) : (s.addPair lo n).carTurns = s.carTurns := by simp only [State.addPair, State.setPair_carTurns]
@[simp] theorem State.addPair_bank (lo n : Nat) : (s.addPair lo n).bank = s.bank := by simp only [State.addPair, State.setPair_bank]
@[simp] theorem State.addPair_rankTabs (lo n : Nat) : (s.addPair lo n).rankTabs = s.rankTabs := by simp only [State.addPair, State.setPair_rankTabs]
@[simp] theorem State.addPair_copies (lo n : Nat) : (s.addPair lo n).copies = s.copies := by simp only [State.addPair, State.setPair_copies]
@[simp] theorem State.addPair_ceHour (lo n : Nat) : (s.addPair lo n).ceHour = s.ceHour := by simp only [State.addPair, State.setPair_ceHour]
@[simp] theorem State.addPair_hotRuns (lo n : Nat) : (s.addPair lo n).hotRuns = s.hotRuns := by simp only [State.addPair, State.setPair_hotRuns]
@[simp] theorem State.addPair_sessions (lo n : Nat) : (s.addPair lo n).sessions = s.sessions := by simp only [State.addPair, State.setPair_sessions]
@[simp] theorem State.addPair_nonces (lo n : Nat) : (s.addPair lo n).nonces = s.nonces := by simp only [State.addPair, State.setPair_nonces]
@[simp] theorem State.addPair_evq (lo n : Nat) : (s.addPair lo n).evq = s.evq := by simp only [State.addPair, State.setPair_evq]
@[simp] theorem State.addPair_recs (lo n : Nat) : (s.addPair lo n).recs = s.recs := by simp only [State.addPair, State.setPair_recs]
@[simp] theorem State.addPair_recBad (lo n : Nat) : (s.addPair lo n).recBad = s.recBad := by simp only [State.addPair, State.setPair_recBad]
@[simp] theorem State.addPair_evLost (lo n : Nat) : (s.addPair lo n).evLost = s.evLost := by simp only [State.addPair, State.setPair_evLost]
@[simp] theorem State.addPair_resetReqs (lo n : Nat) : (s.addPair lo n).resetReqs = s.resetReqs := by simp only [State.addPair, State.setPair_resetReqs]
@[simp] theorem State.addPair_resets (lo n : Nat) : (s.addPair lo n).resets = s.resets := by simp only [State.addPair, State.setPair_resets]
@[simp] theorem State.addPair_ladder (lo n : Nat) : (s.addPair lo n).ladder = s.ladder := by simp only [State.addPair, State.setPair_ladder]
@[simp] theorem State.addPair_isolating (lo n : Nat) : (s.addPair lo n).isolating = s.isolating := by simp only [State.addPair, State.setPair_isolating]
@[simp] theorem State.addPair_cycling (lo n : Nat) : (s.addPair lo n).cycling = s.cycling := by simp only [State.addPair, State.setPair_cycling]
@[simp] theorem State.addPair_faults (lo n : Nat) : (s.addPair lo n).faults = s.faults := by simp only [State.addPair, State.setPair_faults]
@[simp] theorem State.addPair_faultHeld (lo n : Nat) : (s.addPair lo n).faultHeld = s.faultHeld := by simp only [State.addPair, State.setPair_faultHeld]
@[simp] theorem State.addPair_genClk (lo n : Nat) : (s.addPair lo n).genClk = s.genClk := by simp only [State.addPair, State.setPair_genClk]
@[simp] theorem State.addPair_ash (lo n : Nat) : (s.addPair lo n).ash = s.ash := by simp only [State.addPair, State.setPair_ash]
@[simp] theorem State.addPair_badCols (lo n : Nat) : (s.addPair lo n).badCols = s.badCols := by simp only [State.addPair, State.setPair_badCols]
@[simp] theorem State.addPair_residue (lo n : Nat) : (s.addPair lo n).residue = s.residue := by simp only [State.addPair, State.setPair_residue]
@[simp] theorem State.addPair_storeDue (lo n : Nat) : (s.addPair lo n).storeDue = s.storeDue := by simp only [State.addPair, State.setPair_storeDue]
@[simp] theorem State.addPair_spareDoubt (lo n : Nat) : (s.addPair lo n).spareDoubt = s.spareDoubt := by simp only [State.addPair, State.setPair_spareDoubt]
@[simp] theorem State.addPair_spareLast (lo n : Nat) : (s.addPair lo n).spareLast = s.spareLast := by simp only [State.addPair, State.setPair_spareLast]
@[simp] theorem State.addPair_nvm (lo n : Nat) : (s.addPair lo n).nvm = s.nvm := by simp only [State.addPair, State.setPair_nvm]
@[simp] theorem State.addPair_nvmq (lo n : Nat) : (s.addPair lo n).nvmq = s.nvmq := by simp only [State.addPair, State.setPair_nvmq]
@[simp] theorem State.addPair_time (lo n : Nat) : (s.addPair lo n).time = s.time := by simp only [State.addPair, State.setPair_time]
@[simp] theorem State.addPair_ctl (lo n : Nat) : (s.addPair lo n).ctl = s.ctl := by simp only [State.addPair, State.setPair_ctl]
@[simp] theorem State.addPair_latches (lo n : Nat) : (s.addPair lo n).latches = s.latches := by simp only [State.addPair, State.setPair_latches]
@[simp] theorem State.addPair_outSeq (lo n : Nat) : (s.addPair lo n).outSeq = s.outSeq := by simp only [State.addPair, State.setPair_outSeq]
@[simp] theorem State.addPair_power (lo n : Nat) : (s.addPair lo n).power = s.power := by simp only [State.addPair, State.setPair_power]
@[simp] theorem State.addPair_start (lo n : Nat) : (s.addPair lo n).start = s.start := by simp only [State.addPair, State.setPair_start]
@[simp] theorem State.addPair_update (lo n : Nat) : (s.addPair lo n).update = s.update := by simp only [State.addPair, State.setPair_update]
@[simp] theorem State.addPair_audit (lo n : Nat) : (s.addPair lo n).audit = s.audit := by simp only [State.addPair, State.setPair_audit]
@[simp] theorem State.addPair_auditBad (lo n : Nat) : (s.addPair lo n).auditBad = s.auditBad := by simp only [State.addPair, State.setPair_auditBad]

/-! ### State.fresh -/

@[simp] theorem State.fresh_pending : (s.fresh).pending = s.pending := by simp only [State.fresh]
@[simp] theorem State.fresh_regs : (s.fresh).regs = s.regs := by simp only [State.fresh]
@[simp] theorem State.fresh_phase : (s.fresh).phase = s.phase := by simp only [State.fresh]
@[simp] theorem State.fresh_clk : (s.fresh).clk = s.clk := by simp only [State.fresh]
@[simp] theorem State.fresh_pins : (s.fresh).pins = s.pins := by simp only [State.fresh]
@[simp] theorem State.fresh_reqRegs : (s.fresh).reqRegs = s.reqRegs := by simp only [State.fresh]
@[simp] theorem State.fresh_wire : (s.fresh).wire = s.wire := by simp only [State.fresh]
@[simp] theorem State.fresh_ctxs : (s.fresh).ctxs = s.ctxs := by simp only [State.fresh]
@[simp] theorem State.fresh_slots : (s.fresh).slots = s.slots := by simp only [State.fresh]
@[simp] theorem State.fresh_parts : (s.fresh).parts = s.parts := by simp only [State.fresh]
@[simp] theorem State.fresh_syncWaits : (s.fresh).syncWaits = s.syncWaits := by simp only [State.fresh]
@[simp] theorem State.fresh_inProg : (s.fresh).inProg = s.inProg := by simp only [State.fresh]
@[simp] theorem State.fresh_mem : (s.fresh).mem = s.mem := by simp only [State.fresh]
@[simp] theorem State.fresh_sram : (s.fresh).sram = s.sram := by simp only [State.fresh]
@[simp] theorem State.fresh_sramResets : (s.fresh).sramResets = s.sramResets := by simp only [State.fresh]
@[simp] theorem State.fresh_coreParts : (s.fresh).coreParts = s.coreParts := by simp only [State.fresh]
@[simp] theorem State.fresh_badGranules : (s.fresh).badGranules = s.badGranules := by simp only [State.fresh]
@[simp] theorem State.fresh_faint : (s.fresh).faint = s.faint := by simp only [State.fresh]
@[simp] theorem State.fresh_bursts : (s.fresh).bursts = s.bursts := by simp only [State.fresh]
@[simp] theorem State.fresh_memKeys : (s.fresh).memKeys = s.memKeys := by simp only [State.fresh]
@[simp] theorem State.fresh_hashKey : (s.fresh).hashKey = s.hashKey := by simp only [State.fresh]
@[simp] theorem State.fresh_zeroing : (s.fresh).zeroing = s.zeroing := by simp only [State.fresh]
@[simp] theorem State.fresh_reqSlots : (s.fresh).reqSlots = s.reqSlots := by simp only [State.fresh]
@[simp] theorem State.fresh_slotWait : (s.fresh).slotWait = s.slotWait := by simp only [State.fresh]
@[simp] theorem State.fresh_queues : (s.fresh).queues = s.queues := by simp only [State.fresh]
@[simp] theorem State.fresh_turns : (s.fresh).turns = s.turns := by simp only [State.fresh]
@[simp] theorem State.fresh_waiting : (s.fresh).waiting = s.waiting := by simp only [State.fresh]
@[simp] theorem State.fresh_resync : (s.fresh).resync = s.resync := by simp only [State.fresh]
@[simp] theorem State.fresh_credits : (s.fresh).credits = s.credits := by simp only [State.fresh]
@[simp] theorem State.fresh_ports : (s.fresh).ports = s.ports := by simp only [State.fresh]
@[simp] theorem State.fresh_eyes : (s.fresh).eyes = s.eyes := by simp only [State.fresh]
@[simp] theorem State.fresh_rackAdopted : (s.fresh).rackAdopted = s.rackAdopted := by simp only [State.fresh]
@[simp] theorem State.fresh_dmaRun : (s.fresh).dmaRun = s.dmaRun := by simp only [State.fresh]
@[simp] theorem State.fresh_dmaLast : (s.fresh).dmaLast = s.dmaLast := by simp only [State.fresh]
@[simp] theorem State.fresh_groups : (s.fresh).groups = s.groups := by simp only [State.fresh]
@[simp] theorem State.fresh_carTurns : (s.fresh).carTurns = s.carTurns := by simp only [State.fresh]
@[simp] theorem State.fresh_bank : (s.fresh).bank = s.bank := by simp only [State.fresh]
@[simp] theorem State.fresh_rankTabs : (s.fresh).rankTabs = s.rankTabs := by simp only [State.fresh]
@[simp] theorem State.fresh_copies : (s.fresh).copies = s.copies := by simp only [State.fresh]
@[simp] theorem State.fresh_ceHour : (s.fresh).ceHour = s.ceHour := by simp only [State.fresh]
@[simp] theorem State.fresh_hotRuns : (s.fresh).hotRuns = s.hotRuns := by simp only [State.fresh]
@[simp] theorem State.fresh_sessions : (s.fresh).sessions = s.sessions := by simp only [State.fresh]
@[simp] theorem State.fresh_nonces : (s.fresh).nonces = s.nonces := by simp only [State.fresh]
@[simp] theorem State.fresh_evq : (s.fresh).evq = s.evq := by simp only [State.fresh]
@[simp] theorem State.fresh_recs : (s.fresh).recs = s.recs := by simp only [State.fresh]
@[simp] theorem State.fresh_recBad : (s.fresh).recBad = s.recBad := by simp only [State.fresh]
@[simp] theorem State.fresh_evLost : (s.fresh).evLost = s.evLost := by simp only [State.fresh]
@[simp] theorem State.fresh_resetReqs : (s.fresh).resetReqs = s.resetReqs := by simp only [State.fresh]
@[simp] theorem State.fresh_resets : (s.fresh).resets = s.resets := by simp only [State.fresh]
@[simp] theorem State.fresh_ladder : (s.fresh).ladder = s.ladder := by simp only [State.fresh]
@[simp] theorem State.fresh_isolating : (s.fresh).isolating = s.isolating := by simp only [State.fresh]
@[simp] theorem State.fresh_cycling : (s.fresh).cycling = s.cycling := by simp only [State.fresh]
@[simp] theorem State.fresh_faults : (s.fresh).faults = s.faults := by simp only [State.fresh]
@[simp] theorem State.fresh_faultHeld : (s.fresh).faultHeld = s.faultHeld := by simp only [State.fresh]
@[simp] theorem State.fresh_genClk : (s.fresh).genClk = s.genClk := by simp only [State.fresh]
@[simp] theorem State.fresh_ash : (s.fresh).ash = s.ash := by simp only [State.fresh]
@[simp] theorem State.fresh_badCols : (s.fresh).badCols = s.badCols := by simp only [State.fresh]
@[simp] theorem State.fresh_residue : (s.fresh).residue = s.residue := by simp only [State.fresh]
@[simp] theorem State.fresh_storeDue : (s.fresh).storeDue = s.storeDue := by simp only [State.fresh]
@[simp] theorem State.fresh_spareDoubt : (s.fresh).spareDoubt = s.spareDoubt := by simp only [State.fresh]
@[simp] theorem State.fresh_spareLast : (s.fresh).spareLast = s.spareLast := by simp only [State.fresh]
@[simp] theorem State.fresh_nvm : (s.fresh).nvm = s.nvm := by simp only [State.fresh]
@[simp] theorem State.fresh_nvmq : (s.fresh).nvmq = s.nvmq := by simp only [State.fresh]
@[simp] theorem State.fresh_time : (s.fresh).time = s.time := by simp only [State.fresh]
@[simp] theorem State.fresh_ctl : (s.fresh).ctl = s.ctl := by simp only [State.fresh]
@[simp] theorem State.fresh_latches : (s.fresh).latches = s.latches := by simp only [State.fresh]
@[simp] theorem State.fresh_outSeq : (s.fresh).outSeq = s.outSeq := by simp only [State.fresh]
@[simp] theorem State.fresh_power : (s.fresh).power = s.power := by simp only [State.fresh]
@[simp] theorem State.fresh_start : (s.fresh).start = s.start := by simp only [State.fresh]
@[simp] theorem State.fresh_update : (s.fresh).update = s.update := by simp only [State.fresh]
@[simp] theorem State.fresh_audit : (s.fresh).audit = s.audit := by simp only [State.fresh]
@[simp] theorem State.fresh_auditBad : (s.fresh).auditBad = s.auditBad := by simp only [State.fresh]

/-! ### State.setPart -/

@[simp] theorem State.setPart_pending (p : Nat) (x : Sequencer) : (s.setPart p x).pending = s.pending := by simp only [State.setPart]
@[simp] theorem State.setPart_regs (p : Nat) (x : Sequencer) : (s.setPart p x).regs = s.regs := by simp only [State.setPart]
@[simp] theorem State.setPart_phase (p : Nat) (x : Sequencer) : (s.setPart p x).phase = s.phase := by simp only [State.setPart]
@[simp] theorem State.setPart_clk (p : Nat) (x : Sequencer) : (s.setPart p x).clk = s.clk := by simp only [State.setPart]
@[simp] theorem State.setPart_pins (p : Nat) (x : Sequencer) : (s.setPart p x).pins = s.pins := by simp only [State.setPart]
@[simp] theorem State.setPart_reqRegs (p : Nat) (x : Sequencer) : (s.setPart p x).reqRegs = s.reqRegs := by simp only [State.setPart]
@[simp] theorem State.setPart_wire (p : Nat) (x : Sequencer) : (s.setPart p x).wire = s.wire := by simp only [State.setPart]
@[simp] theorem State.setPart_free (p : Nat) (x : Sequencer) : (s.setPart p x).free = s.free := by simp only [State.setPart]
@[simp] theorem State.setPart_ctxs (p : Nat) (x : Sequencer) : (s.setPart p x).ctxs = s.ctxs := by simp only [State.setPart]
@[simp] theorem State.setPart_slots (p : Nat) (x : Sequencer) : (s.setPart p x).slots = s.slots := by simp only [State.setPart]
@[simp] theorem State.setPart_syncWaits (p : Nat) (x : Sequencer) : (s.setPart p x).syncWaits = s.syncWaits := by simp only [State.setPart]
@[simp] theorem State.setPart_inProg (p : Nat) (x : Sequencer) : (s.setPart p x).inProg = s.inProg := by simp only [State.setPart]
@[simp] theorem State.setPart_mem (p : Nat) (x : Sequencer) : (s.setPart p x).mem = s.mem := by simp only [State.setPart]
@[simp] theorem State.setPart_sram (p : Nat) (x : Sequencer) : (s.setPart p x).sram = s.sram := by simp only [State.setPart]
@[simp] theorem State.setPart_sramResets (p : Nat) (x : Sequencer) : (s.setPart p x).sramResets = s.sramResets := by simp only [State.setPart]
@[simp] theorem State.setPart_coreParts (p : Nat) (x : Sequencer) : (s.setPart p x).coreParts = s.coreParts := by simp only [State.setPart]
@[simp] theorem State.setPart_badGranules (p : Nat) (x : Sequencer) : (s.setPart p x).badGranules = s.badGranules := by simp only [State.setPart]
@[simp] theorem State.setPart_faint (p : Nat) (x : Sequencer) : (s.setPart p x).faint = s.faint := by simp only [State.setPart]
@[simp] theorem State.setPart_bursts (p : Nat) (x : Sequencer) : (s.setPart p x).bursts = s.bursts := by simp only [State.setPart]
@[simp] theorem State.setPart_memKeys (p : Nat) (x : Sequencer) : (s.setPart p x).memKeys = s.memKeys := by simp only [State.setPart]
@[simp] theorem State.setPart_hashKey (p : Nat) (x : Sequencer) : (s.setPart p x).hashKey = s.hashKey := by simp only [State.setPart]
@[simp] theorem State.setPart_zeroing (p : Nat) (x : Sequencer) : (s.setPart p x).zeroing = s.zeroing := by simp only [State.setPart]
@[simp] theorem State.setPart_reqSlots (p : Nat) (x : Sequencer) : (s.setPart p x).reqSlots = s.reqSlots := by simp only [State.setPart]
@[simp] theorem State.setPart_slotWait (p : Nat) (x : Sequencer) : (s.setPart p x).slotWait = s.slotWait := by simp only [State.setPart]
@[simp] theorem State.setPart_queues (p : Nat) (x : Sequencer) : (s.setPart p x).queues = s.queues := by simp only [State.setPart]
@[simp] theorem State.setPart_turns (p : Nat) (x : Sequencer) : (s.setPart p x).turns = s.turns := by simp only [State.setPart]
@[simp] theorem State.setPart_waiting (p : Nat) (x : Sequencer) : (s.setPart p x).waiting = s.waiting := by simp only [State.setPart]
@[simp] theorem State.setPart_resync (p : Nat) (x : Sequencer) : (s.setPart p x).resync = s.resync := by simp only [State.setPart]
@[simp] theorem State.setPart_credits (p : Nat) (x : Sequencer) : (s.setPart p x).credits = s.credits := by simp only [State.setPart]
@[simp] theorem State.setPart_ports (p : Nat) (x : Sequencer) : (s.setPart p x).ports = s.ports := by simp only [State.setPart]
@[simp] theorem State.setPart_eyes (p : Nat) (x : Sequencer) : (s.setPart p x).eyes = s.eyes := by simp only [State.setPart]
@[simp] theorem State.setPart_rackAdopted (p : Nat) (x : Sequencer) : (s.setPart p x).rackAdopted = s.rackAdopted := by simp only [State.setPart]
@[simp] theorem State.setPart_dmaRun (p : Nat) (x : Sequencer) : (s.setPart p x).dmaRun = s.dmaRun := by simp only [State.setPart]
@[simp] theorem State.setPart_dmaLast (p : Nat) (x : Sequencer) : (s.setPart p x).dmaLast = s.dmaLast := by simp only [State.setPart]
@[simp] theorem State.setPart_groups (p : Nat) (x : Sequencer) : (s.setPart p x).groups = s.groups := by simp only [State.setPart]
@[simp] theorem State.setPart_carTurns (p : Nat) (x : Sequencer) : (s.setPart p x).carTurns = s.carTurns := by simp only [State.setPart]
@[simp] theorem State.setPart_bank (p : Nat) (x : Sequencer) : (s.setPart p x).bank = s.bank := by simp only [State.setPart]
@[simp] theorem State.setPart_rankTabs (p : Nat) (x : Sequencer) : (s.setPart p x).rankTabs = s.rankTabs := by simp only [State.setPart]
@[simp] theorem State.setPart_copies (p : Nat) (x : Sequencer) : (s.setPart p x).copies = s.copies := by simp only [State.setPart]
@[simp] theorem State.setPart_ceHour (p : Nat) (x : Sequencer) : (s.setPart p x).ceHour = s.ceHour := by simp only [State.setPart]
@[simp] theorem State.setPart_hotRuns (p : Nat) (x : Sequencer) : (s.setPart p x).hotRuns = s.hotRuns := by simp only [State.setPart]
@[simp] theorem State.setPart_sessions (p : Nat) (x : Sequencer) : (s.setPart p x).sessions = s.sessions := by simp only [State.setPart]
@[simp] theorem State.setPart_nonces (p : Nat) (x : Sequencer) : (s.setPart p x).nonces = s.nonces := by simp only [State.setPart]
@[simp] theorem State.setPart_evq (p : Nat) (x : Sequencer) : (s.setPart p x).evq = s.evq := by simp only [State.setPart]
@[simp] theorem State.setPart_recs (p : Nat) (x : Sequencer) : (s.setPart p x).recs = s.recs := by simp only [State.setPart]
@[simp] theorem State.setPart_recBad (p : Nat) (x : Sequencer) : (s.setPart p x).recBad = s.recBad := by simp only [State.setPart]
@[simp] theorem State.setPart_evLost (p : Nat) (x : Sequencer) : (s.setPart p x).evLost = s.evLost := by simp only [State.setPart]
@[simp] theorem State.setPart_resetReqs (p : Nat) (x : Sequencer) : (s.setPart p x).resetReqs = s.resetReqs := by simp only [State.setPart]
@[simp] theorem State.setPart_resets (p : Nat) (x : Sequencer) : (s.setPart p x).resets = s.resets := by simp only [State.setPart]
@[simp] theorem State.setPart_ladder (p : Nat) (x : Sequencer) : (s.setPart p x).ladder = s.ladder := by simp only [State.setPart]
@[simp] theorem State.setPart_isolating (p : Nat) (x : Sequencer) : (s.setPart p x).isolating = s.isolating := by simp only [State.setPart]
@[simp] theorem State.setPart_cycling (p : Nat) (x : Sequencer) : (s.setPart p x).cycling = s.cycling := by simp only [State.setPart]
@[simp] theorem State.setPart_faults (p : Nat) (x : Sequencer) : (s.setPart p x).faults = s.faults := by simp only [State.setPart]
@[simp] theorem State.setPart_faultHeld (p : Nat) (x : Sequencer) : (s.setPart p x).faultHeld = s.faultHeld := by simp only [State.setPart]
@[simp] theorem State.setPart_genClk (p : Nat) (x : Sequencer) : (s.setPart p x).genClk = s.genClk := by simp only [State.setPart]
@[simp] theorem State.setPart_ash (p : Nat) (x : Sequencer) : (s.setPart p x).ash = s.ash := by simp only [State.setPart]
@[simp] theorem State.setPart_badCols (p : Nat) (x : Sequencer) : (s.setPart p x).badCols = s.badCols := by simp only [State.setPart]
@[simp] theorem State.setPart_residue (p : Nat) (x : Sequencer) : (s.setPart p x).residue = s.residue := by simp only [State.setPart]
@[simp] theorem State.setPart_storeDue (p : Nat) (x : Sequencer) : (s.setPart p x).storeDue = s.storeDue := by simp only [State.setPart]
@[simp] theorem State.setPart_spareDoubt (p : Nat) (x : Sequencer) : (s.setPart p x).spareDoubt = s.spareDoubt := by simp only [State.setPart]
@[simp] theorem State.setPart_spareLast (p : Nat) (x : Sequencer) : (s.setPart p x).spareLast = s.spareLast := by simp only [State.setPart]
@[simp] theorem State.setPart_nvm (p : Nat) (x : Sequencer) : (s.setPart p x).nvm = s.nvm := by simp only [State.setPart]
@[simp] theorem State.setPart_nvmq (p : Nat) (x : Sequencer) : (s.setPart p x).nvmq = s.nvmq := by simp only [State.setPart]
@[simp] theorem State.setPart_time (p : Nat) (x : Sequencer) : (s.setPart p x).time = s.time := by simp only [State.setPart]
@[simp] theorem State.setPart_ctl (p : Nat) (x : Sequencer) : (s.setPart p x).ctl = s.ctl := by simp only [State.setPart]
@[simp] theorem State.setPart_latches (p : Nat) (x : Sequencer) : (s.setPart p x).latches = s.latches := by simp only [State.setPart]
@[simp] theorem State.setPart_outSeq (p : Nat) (x : Sequencer) : (s.setPart p x).outSeq = s.outSeq := by simp only [State.setPart]
@[simp] theorem State.setPart_power (p : Nat) (x : Sequencer) : (s.setPart p x).power = s.power := by simp only [State.setPart]
@[simp] theorem State.setPart_start (p : Nat) (x : Sequencer) : (s.setPart p x).start = s.start := by simp only [State.setPart]
@[simp] theorem State.setPart_update (p : Nat) (x : Sequencer) : (s.setPart p x).update = s.update := by simp only [State.setPart]
@[simp] theorem State.setPart_audit (p : Nat) (x : Sequencer) : (s.setPart p x).audit = s.audit := by simp only [State.setPart]
@[simp] theorem State.setPart_auditBad (p : Nat) (x : Sequencer) : (s.setPart p x).auditBad = s.auditBad := by simp only [State.setPart]

/-! ### State.setCtx -/

@[simp] theorem State.setCtx_pending (c : Nat) (x : Ctx) : (s.setCtx c x).pending = s.pending := by simp only [State.setCtx]
@[simp] theorem State.setCtx_regs (c : Nat) (x : Ctx) : (s.setCtx c x).regs = s.regs := by simp only [State.setCtx]
@[simp] theorem State.setCtx_phase (c : Nat) (x : Ctx) : (s.setCtx c x).phase = s.phase := by simp only [State.setCtx]
@[simp] theorem State.setCtx_clk (c : Nat) (x : Ctx) : (s.setCtx c x).clk = s.clk := by simp only [State.setCtx]
@[simp] theorem State.setCtx_pins (c : Nat) (x : Ctx) : (s.setCtx c x).pins = s.pins := by simp only [State.setCtx]
@[simp] theorem State.setCtx_reqRegs (c : Nat) (x : Ctx) : (s.setCtx c x).reqRegs = s.reqRegs := by simp only [State.setCtx]
@[simp] theorem State.setCtx_wire (c : Nat) (x : Ctx) : (s.setCtx c x).wire = s.wire := by simp only [State.setCtx]
@[simp] theorem State.setCtx_free (c : Nat) (x : Ctx) : (s.setCtx c x).free = s.free := by simp only [State.setCtx]
@[simp] theorem State.setCtx_slots (c : Nat) (x : Ctx) : (s.setCtx c x).slots = s.slots := by simp only [State.setCtx]
@[simp] theorem State.setCtx_parts (c : Nat) (x : Ctx) : (s.setCtx c x).parts = s.parts := by simp only [State.setCtx]
@[simp] theorem State.setCtx_syncWaits (c : Nat) (x : Ctx) : (s.setCtx c x).syncWaits = s.syncWaits := by simp only [State.setCtx]
@[simp] theorem State.setCtx_inProg (c : Nat) (x : Ctx) : (s.setCtx c x).inProg = s.inProg := by simp only [State.setCtx]
@[simp] theorem State.setCtx_mem (c : Nat) (x : Ctx) : (s.setCtx c x).mem = s.mem := by simp only [State.setCtx]
@[simp] theorem State.setCtx_sram (c : Nat) (x : Ctx) : (s.setCtx c x).sram = s.sram := by simp only [State.setCtx]
@[simp] theorem State.setCtx_sramResets (c : Nat) (x : Ctx) : (s.setCtx c x).sramResets = s.sramResets := by simp only [State.setCtx]
@[simp] theorem State.setCtx_coreParts (c : Nat) (x : Ctx) : (s.setCtx c x).coreParts = s.coreParts := by simp only [State.setCtx]
@[simp] theorem State.setCtx_badGranules (c : Nat) (x : Ctx) : (s.setCtx c x).badGranules = s.badGranules := by simp only [State.setCtx]
@[simp] theorem State.setCtx_faint (c : Nat) (x : Ctx) : (s.setCtx c x).faint = s.faint := by simp only [State.setCtx]
@[simp] theorem State.setCtx_bursts (c : Nat) (x : Ctx) : (s.setCtx c x).bursts = s.bursts := by simp only [State.setCtx]
@[simp] theorem State.setCtx_memKeys (c : Nat) (x : Ctx) : (s.setCtx c x).memKeys = s.memKeys := by simp only [State.setCtx]
@[simp] theorem State.setCtx_hashKey (c : Nat) (x : Ctx) : (s.setCtx c x).hashKey = s.hashKey := by simp only [State.setCtx]
@[simp] theorem State.setCtx_zeroing (c : Nat) (x : Ctx) : (s.setCtx c x).zeroing = s.zeroing := by simp only [State.setCtx]
@[simp] theorem State.setCtx_reqSlots (c : Nat) (x : Ctx) : (s.setCtx c x).reqSlots = s.reqSlots := by simp only [State.setCtx]
@[simp] theorem State.setCtx_slotWait (c : Nat) (x : Ctx) : (s.setCtx c x).slotWait = s.slotWait := by simp only [State.setCtx]
@[simp] theorem State.setCtx_queues (c : Nat) (x : Ctx) : (s.setCtx c x).queues = s.queues := by simp only [State.setCtx]
@[simp] theorem State.setCtx_turns (c : Nat) (x : Ctx) : (s.setCtx c x).turns = s.turns := by simp only [State.setCtx]
@[simp] theorem State.setCtx_waiting (c : Nat) (x : Ctx) : (s.setCtx c x).waiting = s.waiting := by simp only [State.setCtx]
@[simp] theorem State.setCtx_resync (c : Nat) (x : Ctx) : (s.setCtx c x).resync = s.resync := by simp only [State.setCtx]
@[simp] theorem State.setCtx_credits (c : Nat) (x : Ctx) : (s.setCtx c x).credits = s.credits := by simp only [State.setCtx]
@[simp] theorem State.setCtx_ports (c : Nat) (x : Ctx) : (s.setCtx c x).ports = s.ports := by simp only [State.setCtx]
@[simp] theorem State.setCtx_eyes (c : Nat) (x : Ctx) : (s.setCtx c x).eyes = s.eyes := by simp only [State.setCtx]
@[simp] theorem State.setCtx_rackAdopted (c : Nat) (x : Ctx) : (s.setCtx c x).rackAdopted = s.rackAdopted := by simp only [State.setCtx]
@[simp] theorem State.setCtx_dmaRun (c : Nat) (x : Ctx) : (s.setCtx c x).dmaRun = s.dmaRun := by simp only [State.setCtx]
@[simp] theorem State.setCtx_dmaLast (c : Nat) (x : Ctx) : (s.setCtx c x).dmaLast = s.dmaLast := by simp only [State.setCtx]
@[simp] theorem State.setCtx_groups (c : Nat) (x : Ctx) : (s.setCtx c x).groups = s.groups := by simp only [State.setCtx]
@[simp] theorem State.setCtx_carTurns (c : Nat) (x : Ctx) : (s.setCtx c x).carTurns = s.carTurns := by simp only [State.setCtx]
@[simp] theorem State.setCtx_bank (c : Nat) (x : Ctx) : (s.setCtx c x).bank = s.bank := by simp only [State.setCtx]
@[simp] theorem State.setCtx_rankTabs (c : Nat) (x : Ctx) : (s.setCtx c x).rankTabs = s.rankTabs := by simp only [State.setCtx]
@[simp] theorem State.setCtx_copies (c : Nat) (x : Ctx) : (s.setCtx c x).copies = s.copies := by simp only [State.setCtx]
@[simp] theorem State.setCtx_ceHour (c : Nat) (x : Ctx) : (s.setCtx c x).ceHour = s.ceHour := by simp only [State.setCtx]
@[simp] theorem State.setCtx_hotRuns (c : Nat) (x : Ctx) : (s.setCtx c x).hotRuns = s.hotRuns := by simp only [State.setCtx]
@[simp] theorem State.setCtx_sessions (c : Nat) (x : Ctx) : (s.setCtx c x).sessions = s.sessions := by simp only [State.setCtx]
@[simp] theorem State.setCtx_nonces (c : Nat) (x : Ctx) : (s.setCtx c x).nonces = s.nonces := by simp only [State.setCtx]
@[simp] theorem State.setCtx_evq (c : Nat) (x : Ctx) : (s.setCtx c x).evq = s.evq := by simp only [State.setCtx]
@[simp] theorem State.setCtx_recs (c : Nat) (x : Ctx) : (s.setCtx c x).recs = s.recs := by simp only [State.setCtx]
@[simp] theorem State.setCtx_recBad (c : Nat) (x : Ctx) : (s.setCtx c x).recBad = s.recBad := by simp only [State.setCtx]
@[simp] theorem State.setCtx_evLost (c : Nat) (x : Ctx) : (s.setCtx c x).evLost = s.evLost := by simp only [State.setCtx]
@[simp] theorem State.setCtx_resetReqs (c : Nat) (x : Ctx) : (s.setCtx c x).resetReqs = s.resetReqs := by simp only [State.setCtx]
@[simp] theorem State.setCtx_resets (c : Nat) (x : Ctx) : (s.setCtx c x).resets = s.resets := by simp only [State.setCtx]
@[simp] theorem State.setCtx_ladder (c : Nat) (x : Ctx) : (s.setCtx c x).ladder = s.ladder := by simp only [State.setCtx]
@[simp] theorem State.setCtx_isolating (c : Nat) (x : Ctx) : (s.setCtx c x).isolating = s.isolating := by simp only [State.setCtx]
@[simp] theorem State.setCtx_cycling (c : Nat) (x : Ctx) : (s.setCtx c x).cycling = s.cycling := by simp only [State.setCtx]
@[simp] theorem State.setCtx_faults (c : Nat) (x : Ctx) : (s.setCtx c x).faults = s.faults := by simp only [State.setCtx]
@[simp] theorem State.setCtx_faultHeld (c : Nat) (x : Ctx) : (s.setCtx c x).faultHeld = s.faultHeld := by simp only [State.setCtx]
@[simp] theorem State.setCtx_genClk (c : Nat) (x : Ctx) : (s.setCtx c x).genClk = s.genClk := by simp only [State.setCtx]
@[simp] theorem State.setCtx_ash (c : Nat) (x : Ctx) : (s.setCtx c x).ash = s.ash := by simp only [State.setCtx]
@[simp] theorem State.setCtx_badCols (c : Nat) (x : Ctx) : (s.setCtx c x).badCols = s.badCols := by simp only [State.setCtx]
@[simp] theorem State.setCtx_residue (c : Nat) (x : Ctx) : (s.setCtx c x).residue = s.residue := by simp only [State.setCtx]
@[simp] theorem State.setCtx_storeDue (c : Nat) (x : Ctx) : (s.setCtx c x).storeDue = s.storeDue := by simp only [State.setCtx]
@[simp] theorem State.setCtx_spareDoubt (c : Nat) (x : Ctx) : (s.setCtx c x).spareDoubt = s.spareDoubt := by simp only [State.setCtx]
@[simp] theorem State.setCtx_spareLast (c : Nat) (x : Ctx) : (s.setCtx c x).spareLast = s.spareLast := by simp only [State.setCtx]
@[simp] theorem State.setCtx_nvm (c : Nat) (x : Ctx) : (s.setCtx c x).nvm = s.nvm := by simp only [State.setCtx]
@[simp] theorem State.setCtx_nvmq (c : Nat) (x : Ctx) : (s.setCtx c x).nvmq = s.nvmq := by simp only [State.setCtx]
@[simp] theorem State.setCtx_time (c : Nat) (x : Ctx) : (s.setCtx c x).time = s.time := by simp only [State.setCtx]
@[simp] theorem State.setCtx_ctl (c : Nat) (x : Ctx) : (s.setCtx c x).ctl = s.ctl := by simp only [State.setCtx]
@[simp] theorem State.setCtx_latches (c : Nat) (x : Ctx) : (s.setCtx c x).latches = s.latches := by simp only [State.setCtx]
@[simp] theorem State.setCtx_outSeq (c : Nat) (x : Ctx) : (s.setCtx c x).outSeq = s.outSeq := by simp only [State.setCtx]
@[simp] theorem State.setCtx_power (c : Nat) (x : Ctx) : (s.setCtx c x).power = s.power := by simp only [State.setCtx]
@[simp] theorem State.setCtx_start (c : Nat) (x : Ctx) : (s.setCtx c x).start = s.start := by simp only [State.setCtx]
@[simp] theorem State.setCtx_update (c : Nat) (x : Ctx) : (s.setCtx c x).update = s.update := by simp only [State.setCtx]
@[simp] theorem State.setCtx_audit (c : Nat) (x : Ctx) : (s.setCtx c x).audit = s.audit := by simp only [State.setCtx]
@[simp] theorem State.setCtx_auditBad (c : Nat) (x : Ctx) : (s.setCtx c x).auditBad = s.auditBad := by simp only [State.setCtx]

/-! ### State.send -/

@[simp] theorem State.send_pending (w : Wire) : (s.send w).pending = s.pending := by simp only [State.send]
@[simp] theorem State.send_regs (w : Wire) : (s.send w).regs = s.regs := by simp only [State.send]
@[simp] theorem State.send_phase (w : Wire) : (s.send w).phase = s.phase := by simp only [State.send]
@[simp] theorem State.send_clk (w : Wire) : (s.send w).clk = s.clk := by simp only [State.send]
@[simp] theorem State.send_pins (w : Wire) : (s.send w).pins = s.pins := by simp only [State.send]
@[simp] theorem State.send_reqRegs (w : Wire) : (s.send w).reqRegs = s.reqRegs := by simp only [State.send]
@[simp] theorem State.send_free (w : Wire) : (s.send w).free = s.free := by simp only [State.send]
@[simp] theorem State.send_ctxs (w : Wire) : (s.send w).ctxs = s.ctxs := by simp only [State.send]
@[simp] theorem State.send_slots (w : Wire) : (s.send w).slots = s.slots := by simp only [State.send]
@[simp] theorem State.send_parts (w : Wire) : (s.send w).parts = s.parts := by simp only [State.send]
@[simp] theorem State.send_syncWaits (w : Wire) : (s.send w).syncWaits = s.syncWaits := by simp only [State.send]
@[simp] theorem State.send_inProg (w : Wire) : (s.send w).inProg = s.inProg := by simp only [State.send]
@[simp] theorem State.send_mem (w : Wire) : (s.send w).mem = s.mem := by simp only [State.send]
@[simp] theorem State.send_sram (w : Wire) : (s.send w).sram = s.sram := by simp only [State.send]
@[simp] theorem State.send_sramResets (w : Wire) : (s.send w).sramResets = s.sramResets := by simp only [State.send]
@[simp] theorem State.send_coreParts (w : Wire) : (s.send w).coreParts = s.coreParts := by simp only [State.send]
@[simp] theorem State.send_badGranules (w : Wire) : (s.send w).badGranules = s.badGranules := by simp only [State.send]
@[simp] theorem State.send_faint (w : Wire) : (s.send w).faint = s.faint := by simp only [State.send]
@[simp] theorem State.send_bursts (w : Wire) : (s.send w).bursts = s.bursts := by simp only [State.send]
@[simp] theorem State.send_memKeys (w : Wire) : (s.send w).memKeys = s.memKeys := by simp only [State.send]
@[simp] theorem State.send_hashKey (w : Wire) : (s.send w).hashKey = s.hashKey := by simp only [State.send]
@[simp] theorem State.send_zeroing (w : Wire) : (s.send w).zeroing = s.zeroing := by simp only [State.send]
@[simp] theorem State.send_reqSlots (w : Wire) : (s.send w).reqSlots = s.reqSlots := by simp only [State.send]
@[simp] theorem State.send_slotWait (w : Wire) : (s.send w).slotWait = s.slotWait := by simp only [State.send]
@[simp] theorem State.send_queues (w : Wire) : (s.send w).queues = s.queues := by simp only [State.send]
@[simp] theorem State.send_turns (w : Wire) : (s.send w).turns = s.turns := by simp only [State.send]
@[simp] theorem State.send_waiting (w : Wire) : (s.send w).waiting = s.waiting := by simp only [State.send]
@[simp] theorem State.send_resync (w : Wire) : (s.send w).resync = s.resync := by simp only [State.send]
@[simp] theorem State.send_credits (w : Wire) : (s.send w).credits = s.credits := by simp only [State.send]
@[simp] theorem State.send_ports (w : Wire) : (s.send w).ports = s.ports := by simp only [State.send]
@[simp] theorem State.send_eyes (w : Wire) : (s.send w).eyes = s.eyes := by simp only [State.send]
@[simp] theorem State.send_rackAdopted (w : Wire) : (s.send w).rackAdopted = s.rackAdopted := by simp only [State.send]
@[simp] theorem State.send_dmaRun (w : Wire) : (s.send w).dmaRun = s.dmaRun := by simp only [State.send]
@[simp] theorem State.send_dmaLast (w : Wire) : (s.send w).dmaLast = s.dmaLast := by simp only [State.send]
@[simp] theorem State.send_groups (w : Wire) : (s.send w).groups = s.groups := by simp only [State.send]
@[simp] theorem State.send_carTurns (w : Wire) : (s.send w).carTurns = s.carTurns := by simp only [State.send]
@[simp] theorem State.send_bank (w : Wire) : (s.send w).bank = s.bank := by simp only [State.send]
@[simp] theorem State.send_rankTabs (w : Wire) : (s.send w).rankTabs = s.rankTabs := by simp only [State.send]
@[simp] theorem State.send_copies (w : Wire) : (s.send w).copies = s.copies := by simp only [State.send]
@[simp] theorem State.send_ceHour (w : Wire) : (s.send w).ceHour = s.ceHour := by simp only [State.send]
@[simp] theorem State.send_hotRuns (w : Wire) : (s.send w).hotRuns = s.hotRuns := by simp only [State.send]
@[simp] theorem State.send_sessions (w : Wire) : (s.send w).sessions = s.sessions := by simp only [State.send]
@[simp] theorem State.send_nonces (w : Wire) : (s.send w).nonces = s.nonces := by simp only [State.send]
@[simp] theorem State.send_evq (w : Wire) : (s.send w).evq = s.evq := by simp only [State.send]
@[simp] theorem State.send_recs (w : Wire) : (s.send w).recs = s.recs := by simp only [State.send]
@[simp] theorem State.send_recBad (w : Wire) : (s.send w).recBad = s.recBad := by simp only [State.send]
@[simp] theorem State.send_evLost (w : Wire) : (s.send w).evLost = s.evLost := by simp only [State.send]
@[simp] theorem State.send_resetReqs (w : Wire) : (s.send w).resetReqs = s.resetReqs := by simp only [State.send]
@[simp] theorem State.send_resets (w : Wire) : (s.send w).resets = s.resets := by simp only [State.send]
@[simp] theorem State.send_ladder (w : Wire) : (s.send w).ladder = s.ladder := by simp only [State.send]
@[simp] theorem State.send_isolating (w : Wire) : (s.send w).isolating = s.isolating := by simp only [State.send]
@[simp] theorem State.send_cycling (w : Wire) : (s.send w).cycling = s.cycling := by simp only [State.send]
@[simp] theorem State.send_faults (w : Wire) : (s.send w).faults = s.faults := by simp only [State.send]
@[simp] theorem State.send_faultHeld (w : Wire) : (s.send w).faultHeld = s.faultHeld := by simp only [State.send]
@[simp] theorem State.send_genClk (w : Wire) : (s.send w).genClk = s.genClk := by simp only [State.send]
@[simp] theorem State.send_ash (w : Wire) : (s.send w).ash = s.ash := by simp only [State.send]
@[simp] theorem State.send_badCols (w : Wire) : (s.send w).badCols = s.badCols := by simp only [State.send]
@[simp] theorem State.send_residue (w : Wire) : (s.send w).residue = s.residue := by simp only [State.send]
@[simp] theorem State.send_storeDue (w : Wire) : (s.send w).storeDue = s.storeDue := by simp only [State.send]
@[simp] theorem State.send_spareDoubt (w : Wire) : (s.send w).spareDoubt = s.spareDoubt := by simp only [State.send]
@[simp] theorem State.send_spareLast (w : Wire) : (s.send w).spareLast = s.spareLast := by simp only [State.send]
@[simp] theorem State.send_nvm (w : Wire) : (s.send w).nvm = s.nvm := by simp only [State.send]
@[simp] theorem State.send_nvmq (w : Wire) : (s.send w).nvmq = s.nvmq := by simp only [State.send]
@[simp] theorem State.send_time (w : Wire) : (s.send w).time = s.time := by simp only [State.send]
@[simp] theorem State.send_ctl (w : Wire) : (s.send w).ctl = s.ctl := by simp only [State.send]
@[simp] theorem State.send_latches (w : Wire) : (s.send w).latches = s.latches := by simp only [State.send]
@[simp] theorem State.send_outSeq (w : Wire) : (s.send w).outSeq = s.outSeq := by simp only [State.send]
@[simp] theorem State.send_power (w : Wire) : (s.send w).power = s.power := by simp only [State.send]
@[simp] theorem State.send_start (w : Wire) : (s.send w).start = s.start := by simp only [State.send]
@[simp] theorem State.send_update (w : Wire) : (s.send w).update = s.update := by simp only [State.send]
@[simp] theorem State.send_audit (w : Wire) : (s.send w).audit = s.audit := by simp only [State.send]
@[simp] theorem State.send_auditBad (w : Wire) : (s.send w).auditBad = s.auditBad := by simp only [State.send]

/-! ### State.answer -/

@[simp] theorem State.answer_pending (r : Requester) (off v : Nat) (st : Status) : (s.answer r off v st).pending = s.pending := by simp only [State.answer, State.send_pending]
@[simp] theorem State.answer_regs (r : Requester) (off v : Nat) (st : Status) : (s.answer r off v st).regs = s.regs := by simp only [State.answer, State.send_regs]
@[simp] theorem State.answer_phase (r : Requester) (off v : Nat) (st : Status) : (s.answer r off v st).phase = s.phase := by simp only [State.answer, State.send_phase]
@[simp] theorem State.answer_clk (r : Requester) (off v : Nat) (st : Status) : (s.answer r off v st).clk = s.clk := by simp only [State.answer, State.send_clk]
@[simp] theorem State.answer_pins (r : Requester) (off v : Nat) (st : Status) : (s.answer r off v st).pins = s.pins := by simp only [State.answer, State.send_pins]
@[simp] theorem State.answer_reqRegs (r : Requester) (off v : Nat) (st : Status) : (s.answer r off v st).reqRegs = s.reqRegs := by simp only [State.answer, State.send_reqRegs]
@[simp] theorem State.answer_free (r : Requester) (off v : Nat) (st : Status) : (s.answer r off v st).free = s.free := by simp only [State.answer, State.send_free]
@[simp] theorem State.answer_ctxs (r : Requester) (off v : Nat) (st : Status) : (s.answer r off v st).ctxs = s.ctxs := by simp only [State.answer, State.send_ctxs]
@[simp] theorem State.answer_slots (r : Requester) (off v : Nat) (st : Status) : (s.answer r off v st).slots = s.slots := by simp only [State.answer, State.send_slots]
@[simp] theorem State.answer_parts (r : Requester) (off v : Nat) (st : Status) : (s.answer r off v st).parts = s.parts := by simp only [State.answer, State.send_parts]
@[simp] theorem State.answer_syncWaits (r : Requester) (off v : Nat) (st : Status) : (s.answer r off v st).syncWaits = s.syncWaits := by simp only [State.answer, State.send_syncWaits]
@[simp] theorem State.answer_inProg (r : Requester) (off v : Nat) (st : Status) : (s.answer r off v st).inProg = s.inProg := by simp only [State.answer, State.send_inProg]
@[simp] theorem State.answer_mem (r : Requester) (off v : Nat) (st : Status) : (s.answer r off v st).mem = s.mem := by simp only [State.answer, State.send_mem]
@[simp] theorem State.answer_sram (r : Requester) (off v : Nat) (st : Status) : (s.answer r off v st).sram = s.sram := by simp only [State.answer, State.send_sram]
@[simp] theorem State.answer_sramResets (r : Requester) (off v : Nat) (st : Status) : (s.answer r off v st).sramResets = s.sramResets := by simp only [State.answer, State.send_sramResets]
@[simp] theorem State.answer_coreParts (r : Requester) (off v : Nat) (st : Status) : (s.answer r off v st).coreParts = s.coreParts := by simp only [State.answer, State.send_coreParts]
@[simp] theorem State.answer_badGranules (r : Requester) (off v : Nat) (st : Status) : (s.answer r off v st).badGranules = s.badGranules := by simp only [State.answer, State.send_badGranules]
@[simp] theorem State.answer_faint (r : Requester) (off v : Nat) (st : Status) : (s.answer r off v st).faint = s.faint := by simp only [State.answer, State.send_faint]
@[simp] theorem State.answer_bursts (r : Requester) (off v : Nat) (st : Status) : (s.answer r off v st).bursts = s.bursts := by simp only [State.answer, State.send_bursts]
@[simp] theorem State.answer_memKeys (r : Requester) (off v : Nat) (st : Status) : (s.answer r off v st).memKeys = s.memKeys := by simp only [State.answer, State.send_memKeys]
@[simp] theorem State.answer_hashKey (r : Requester) (off v : Nat) (st : Status) : (s.answer r off v st).hashKey = s.hashKey := by simp only [State.answer, State.send_hashKey]
@[simp] theorem State.answer_zeroing (r : Requester) (off v : Nat) (st : Status) : (s.answer r off v st).zeroing = s.zeroing := by simp only [State.answer, State.send_zeroing]
@[simp] theorem State.answer_reqSlots (r : Requester) (off v : Nat) (st : Status) : (s.answer r off v st).reqSlots = s.reqSlots := by simp only [State.answer, State.send_reqSlots]
@[simp] theorem State.answer_slotWait (r : Requester) (off v : Nat) (st : Status) : (s.answer r off v st).slotWait = s.slotWait := by simp only [State.answer, State.send_slotWait]
@[simp] theorem State.answer_queues (r : Requester) (off v : Nat) (st : Status) : (s.answer r off v st).queues = s.queues := by simp only [State.answer, State.send_queues]
@[simp] theorem State.answer_turns (r : Requester) (off v : Nat) (st : Status) : (s.answer r off v st).turns = s.turns := by simp only [State.answer, State.send_turns]
@[simp] theorem State.answer_waiting (r : Requester) (off v : Nat) (st : Status) : (s.answer r off v st).waiting = s.waiting := by simp only [State.answer, State.send_waiting]
@[simp] theorem State.answer_resync (r : Requester) (off v : Nat) (st : Status) : (s.answer r off v st).resync = s.resync := by simp only [State.answer, State.send_resync]
@[simp] theorem State.answer_credits (r : Requester) (off v : Nat) (st : Status) : (s.answer r off v st).credits = s.credits := by simp only [State.answer, State.send_credits]
@[simp] theorem State.answer_ports (r : Requester) (off v : Nat) (st : Status) : (s.answer r off v st).ports = s.ports := by simp only [State.answer, State.send_ports]
@[simp] theorem State.answer_eyes (r : Requester) (off v : Nat) (st : Status) : (s.answer r off v st).eyes = s.eyes := by simp only [State.answer, State.send_eyes]
@[simp] theorem State.answer_rackAdopted (r : Requester) (off v : Nat) (st : Status) : (s.answer r off v st).rackAdopted = s.rackAdopted := by simp only [State.answer, State.send_rackAdopted]
@[simp] theorem State.answer_dmaRun (r : Requester) (off v : Nat) (st : Status) : (s.answer r off v st).dmaRun = s.dmaRun := by simp only [State.answer, State.send_dmaRun]
@[simp] theorem State.answer_dmaLast (r : Requester) (off v : Nat) (st : Status) : (s.answer r off v st).dmaLast = s.dmaLast := by simp only [State.answer, State.send_dmaLast]
@[simp] theorem State.answer_groups (r : Requester) (off v : Nat) (st : Status) : (s.answer r off v st).groups = s.groups := by simp only [State.answer, State.send_groups]
@[simp] theorem State.answer_carTurns (r : Requester) (off v : Nat) (st : Status) : (s.answer r off v st).carTurns = s.carTurns := by simp only [State.answer, State.send_carTurns]
@[simp] theorem State.answer_bank (r : Requester) (off v : Nat) (st : Status) : (s.answer r off v st).bank = s.bank := by simp only [State.answer, State.send_bank]
@[simp] theorem State.answer_rankTabs (r : Requester) (off v : Nat) (st : Status) : (s.answer r off v st).rankTabs = s.rankTabs := by simp only [State.answer, State.send_rankTabs]
@[simp] theorem State.answer_copies (r : Requester) (off v : Nat) (st : Status) : (s.answer r off v st).copies = s.copies := by simp only [State.answer, State.send_copies]
@[simp] theorem State.answer_ceHour (r : Requester) (off v : Nat) (st : Status) : (s.answer r off v st).ceHour = s.ceHour := by simp only [State.answer, State.send_ceHour]
@[simp] theorem State.answer_hotRuns (r : Requester) (off v : Nat) (st : Status) : (s.answer r off v st).hotRuns = s.hotRuns := by simp only [State.answer, State.send_hotRuns]
@[simp] theorem State.answer_sessions (r : Requester) (off v : Nat) (st : Status) : (s.answer r off v st).sessions = s.sessions := by simp only [State.answer, State.send_sessions]
@[simp] theorem State.answer_nonces (r : Requester) (off v : Nat) (st : Status) : (s.answer r off v st).nonces = s.nonces := by simp only [State.answer, State.send_nonces]
@[simp] theorem State.answer_evq (r : Requester) (off v : Nat) (st : Status) : (s.answer r off v st).evq = s.evq := by simp only [State.answer, State.send_evq]
@[simp] theorem State.answer_recs (r : Requester) (off v : Nat) (st : Status) : (s.answer r off v st).recs = s.recs := by simp only [State.answer, State.send_recs]
@[simp] theorem State.answer_recBad (r : Requester) (off v : Nat) (st : Status) : (s.answer r off v st).recBad = s.recBad := by simp only [State.answer, State.send_recBad]
@[simp] theorem State.answer_evLost (r : Requester) (off v : Nat) (st : Status) : (s.answer r off v st).evLost = s.evLost := by simp only [State.answer, State.send_evLost]
@[simp] theorem State.answer_resetReqs (r : Requester) (off v : Nat) (st : Status) : (s.answer r off v st).resetReqs = s.resetReqs := by simp only [State.answer, State.send_resetReqs]
@[simp] theorem State.answer_resets (r : Requester) (off v : Nat) (st : Status) : (s.answer r off v st).resets = s.resets := by simp only [State.answer, State.send_resets]
@[simp] theorem State.answer_ladder (r : Requester) (off v : Nat) (st : Status) : (s.answer r off v st).ladder = s.ladder := by simp only [State.answer, State.send_ladder]
@[simp] theorem State.answer_isolating (r : Requester) (off v : Nat) (st : Status) : (s.answer r off v st).isolating = s.isolating := by simp only [State.answer, State.send_isolating]
@[simp] theorem State.answer_cycling (r : Requester) (off v : Nat) (st : Status) : (s.answer r off v st).cycling = s.cycling := by simp only [State.answer, State.send_cycling]
@[simp] theorem State.answer_faults (r : Requester) (off v : Nat) (st : Status) : (s.answer r off v st).faults = s.faults := by simp only [State.answer, State.send_faults]
@[simp] theorem State.answer_faultHeld (r : Requester) (off v : Nat) (st : Status) : (s.answer r off v st).faultHeld = s.faultHeld := by simp only [State.answer, State.send_faultHeld]
@[simp] theorem State.answer_genClk (r : Requester) (off v : Nat) (st : Status) : (s.answer r off v st).genClk = s.genClk := by simp only [State.answer, State.send_genClk]
@[simp] theorem State.answer_ash (r : Requester) (off v : Nat) (st : Status) : (s.answer r off v st).ash = s.ash := by simp only [State.answer, State.send_ash]
@[simp] theorem State.answer_badCols (r : Requester) (off v : Nat) (st : Status) : (s.answer r off v st).badCols = s.badCols := by simp only [State.answer, State.send_badCols]
@[simp] theorem State.answer_residue (r : Requester) (off v : Nat) (st : Status) : (s.answer r off v st).residue = s.residue := by simp only [State.answer, State.send_residue]
@[simp] theorem State.answer_storeDue (r : Requester) (off v : Nat) (st : Status) : (s.answer r off v st).storeDue = s.storeDue := by simp only [State.answer, State.send_storeDue]
@[simp] theorem State.answer_spareDoubt (r : Requester) (off v : Nat) (st : Status) : (s.answer r off v st).spareDoubt = s.spareDoubt := by simp only [State.answer, State.send_spareDoubt]
@[simp] theorem State.answer_spareLast (r : Requester) (off v : Nat) (st : Status) : (s.answer r off v st).spareLast = s.spareLast := by simp only [State.answer, State.send_spareLast]
@[simp] theorem State.answer_nvm (r : Requester) (off v : Nat) (st : Status) : (s.answer r off v st).nvm = s.nvm := by simp only [State.answer, State.send_nvm]
@[simp] theorem State.answer_nvmq (r : Requester) (off v : Nat) (st : Status) : (s.answer r off v st).nvmq = s.nvmq := by simp only [State.answer, State.send_nvmq]
@[simp] theorem State.answer_time (r : Requester) (off v : Nat) (st : Status) : (s.answer r off v st).time = s.time := by simp only [State.answer, State.send_time]
@[simp] theorem State.answer_ctl (r : Requester) (off v : Nat) (st : Status) : (s.answer r off v st).ctl = s.ctl := by simp only [State.answer, State.send_ctl]
@[simp] theorem State.answer_latches (r : Requester) (off v : Nat) (st : Status) : (s.answer r off v st).latches = s.latches := by simp only [State.answer, State.send_latches]
@[simp] theorem State.answer_outSeq (r : Requester) (off v : Nat) (st : Status) : (s.answer r off v st).outSeq = s.outSeq := by simp only [State.answer, State.send_outSeq]
@[simp] theorem State.answer_power (r : Requester) (off v : Nat) (st : Status) : (s.answer r off v st).power = s.power := by simp only [State.answer, State.send_power]
@[simp] theorem State.answer_start (r : Requester) (off v : Nat) (st : Status) : (s.answer r off v st).start = s.start := by simp only [State.answer, State.send_start]
@[simp] theorem State.answer_update (r : Requester) (off v : Nat) (st : Status) : (s.answer r off v st).update = s.update := by simp only [State.answer, State.send_update]
@[simp] theorem State.answer_audit (r : Requester) (off v : Nat) (st : Status) : (s.answer r off v st).audit = s.audit := by simp only [State.answer, State.send_audit]
@[simp] theorem State.answer_auditBad (r : Requester) (off v : Nat) (st : Status) : (s.answer r off v st).auditBad = s.auditBad := by simp only [State.answer, State.send_auditBad]

/-! ### State.setOwn -/

@[simp] theorem State.setOwn_pending (r : Requester) (x : ReqRegs) : (s.setOwn r x).pending = s.pending := by simp only [State.setOwn]
@[simp] theorem State.setOwn_regs (r : Requester) (x : ReqRegs) : (s.setOwn r x).regs = s.regs := by simp only [State.setOwn]
@[simp] theorem State.setOwn_phase (r : Requester) (x : ReqRegs) : (s.setOwn r x).phase = s.phase := by simp only [State.setOwn]
@[simp] theorem State.setOwn_clk (r : Requester) (x : ReqRegs) : (s.setOwn r x).clk = s.clk := by simp only [State.setOwn]
@[simp] theorem State.setOwn_pins (r : Requester) (x : ReqRegs) : (s.setOwn r x).pins = s.pins := by simp only [State.setOwn]
@[simp] theorem State.setOwn_wire (r : Requester) (x : ReqRegs) : (s.setOwn r x).wire = s.wire := by simp only [State.setOwn]
@[simp] theorem State.setOwn_free (r : Requester) (x : ReqRegs) : (s.setOwn r x).free = s.free := by simp only [State.setOwn]
@[simp] theorem State.setOwn_ctxs (r : Requester) (x : ReqRegs) : (s.setOwn r x).ctxs = s.ctxs := by simp only [State.setOwn]
@[simp] theorem State.setOwn_slots (r : Requester) (x : ReqRegs) : (s.setOwn r x).slots = s.slots := by simp only [State.setOwn]
@[simp] theorem State.setOwn_parts (r : Requester) (x : ReqRegs) : (s.setOwn r x).parts = s.parts := by simp only [State.setOwn]
@[simp] theorem State.setOwn_syncWaits (r : Requester) (x : ReqRegs) : (s.setOwn r x).syncWaits = s.syncWaits := by simp only [State.setOwn]
@[simp] theorem State.setOwn_inProg (r : Requester) (x : ReqRegs) : (s.setOwn r x).inProg = s.inProg := by simp only [State.setOwn]
@[simp] theorem State.setOwn_mem (r : Requester) (x : ReqRegs) : (s.setOwn r x).mem = s.mem := by simp only [State.setOwn]
@[simp] theorem State.setOwn_sram (r : Requester) (x : ReqRegs) : (s.setOwn r x).sram = s.sram := by simp only [State.setOwn]
@[simp] theorem State.setOwn_sramResets (r : Requester) (x : ReqRegs) : (s.setOwn r x).sramResets = s.sramResets := by simp only [State.setOwn]
@[simp] theorem State.setOwn_coreParts (r : Requester) (x : ReqRegs) : (s.setOwn r x).coreParts = s.coreParts := by simp only [State.setOwn]
@[simp] theorem State.setOwn_badGranules (r : Requester) (x : ReqRegs) : (s.setOwn r x).badGranules = s.badGranules := by simp only [State.setOwn]
@[simp] theorem State.setOwn_faint (r : Requester) (x : ReqRegs) : (s.setOwn r x).faint = s.faint := by simp only [State.setOwn]
@[simp] theorem State.setOwn_bursts (r : Requester) (x : ReqRegs) : (s.setOwn r x).bursts = s.bursts := by simp only [State.setOwn]
@[simp] theorem State.setOwn_memKeys (r : Requester) (x : ReqRegs) : (s.setOwn r x).memKeys = s.memKeys := by simp only [State.setOwn]
@[simp] theorem State.setOwn_hashKey (r : Requester) (x : ReqRegs) : (s.setOwn r x).hashKey = s.hashKey := by simp only [State.setOwn]
@[simp] theorem State.setOwn_zeroing (r : Requester) (x : ReqRegs) : (s.setOwn r x).zeroing = s.zeroing := by simp only [State.setOwn]
@[simp] theorem State.setOwn_reqSlots (r : Requester) (x : ReqRegs) : (s.setOwn r x).reqSlots = s.reqSlots := by simp only [State.setOwn]
@[simp] theorem State.setOwn_slotWait (r : Requester) (x : ReqRegs) : (s.setOwn r x).slotWait = s.slotWait := by simp only [State.setOwn]
@[simp] theorem State.setOwn_queues (r : Requester) (x : ReqRegs) : (s.setOwn r x).queues = s.queues := by simp only [State.setOwn]
@[simp] theorem State.setOwn_turns (r : Requester) (x : ReqRegs) : (s.setOwn r x).turns = s.turns := by simp only [State.setOwn]
@[simp] theorem State.setOwn_waiting (r : Requester) (x : ReqRegs) : (s.setOwn r x).waiting = s.waiting := by simp only [State.setOwn]
@[simp] theorem State.setOwn_resync (r : Requester) (x : ReqRegs) : (s.setOwn r x).resync = s.resync := by simp only [State.setOwn]
@[simp] theorem State.setOwn_credits (r : Requester) (x : ReqRegs) : (s.setOwn r x).credits = s.credits := by simp only [State.setOwn]
@[simp] theorem State.setOwn_ports (r : Requester) (x : ReqRegs) : (s.setOwn r x).ports = s.ports := by simp only [State.setOwn]
@[simp] theorem State.setOwn_eyes (r : Requester) (x : ReqRegs) : (s.setOwn r x).eyes = s.eyes := by simp only [State.setOwn]
@[simp] theorem State.setOwn_rackAdopted (r : Requester) (x : ReqRegs) : (s.setOwn r x).rackAdopted = s.rackAdopted := by simp only [State.setOwn]
@[simp] theorem State.setOwn_dmaRun (r : Requester) (x : ReqRegs) : (s.setOwn r x).dmaRun = s.dmaRun := by simp only [State.setOwn]
@[simp] theorem State.setOwn_dmaLast (r : Requester) (x : ReqRegs) : (s.setOwn r x).dmaLast = s.dmaLast := by simp only [State.setOwn]
@[simp] theorem State.setOwn_groups (r : Requester) (x : ReqRegs) : (s.setOwn r x).groups = s.groups := by simp only [State.setOwn]
@[simp] theorem State.setOwn_carTurns (r : Requester) (x : ReqRegs) : (s.setOwn r x).carTurns = s.carTurns := by simp only [State.setOwn]
@[simp] theorem State.setOwn_bank (r : Requester) (x : ReqRegs) : (s.setOwn r x).bank = s.bank := by simp only [State.setOwn]
@[simp] theorem State.setOwn_rankTabs (r : Requester) (x : ReqRegs) : (s.setOwn r x).rankTabs = s.rankTabs := by simp only [State.setOwn]
@[simp] theorem State.setOwn_copies (r : Requester) (x : ReqRegs) : (s.setOwn r x).copies = s.copies := by simp only [State.setOwn]
@[simp] theorem State.setOwn_ceHour (r : Requester) (x : ReqRegs) : (s.setOwn r x).ceHour = s.ceHour := by simp only [State.setOwn]
@[simp] theorem State.setOwn_hotRuns (r : Requester) (x : ReqRegs) : (s.setOwn r x).hotRuns = s.hotRuns := by simp only [State.setOwn]
@[simp] theorem State.setOwn_sessions (r : Requester) (x : ReqRegs) : (s.setOwn r x).sessions = s.sessions := by simp only [State.setOwn]
@[simp] theorem State.setOwn_nonces (r : Requester) (x : ReqRegs) : (s.setOwn r x).nonces = s.nonces := by simp only [State.setOwn]
@[simp] theorem State.setOwn_evq (r : Requester) (x : ReqRegs) : (s.setOwn r x).evq = s.evq := by simp only [State.setOwn]
@[simp] theorem State.setOwn_recs (r : Requester) (x : ReqRegs) : (s.setOwn r x).recs = s.recs := by simp only [State.setOwn]
@[simp] theorem State.setOwn_recBad (r : Requester) (x : ReqRegs) : (s.setOwn r x).recBad = s.recBad := by simp only [State.setOwn]
@[simp] theorem State.setOwn_evLost (r : Requester) (x : ReqRegs) : (s.setOwn r x).evLost = s.evLost := by simp only [State.setOwn]
@[simp] theorem State.setOwn_resetReqs (r : Requester) (x : ReqRegs) : (s.setOwn r x).resetReqs = s.resetReqs := by simp only [State.setOwn]
@[simp] theorem State.setOwn_resets (r : Requester) (x : ReqRegs) : (s.setOwn r x).resets = s.resets := by simp only [State.setOwn]
@[simp] theorem State.setOwn_ladder (r : Requester) (x : ReqRegs) : (s.setOwn r x).ladder = s.ladder := by simp only [State.setOwn]
@[simp] theorem State.setOwn_isolating (r : Requester) (x : ReqRegs) : (s.setOwn r x).isolating = s.isolating := by simp only [State.setOwn]
@[simp] theorem State.setOwn_cycling (r : Requester) (x : ReqRegs) : (s.setOwn r x).cycling = s.cycling := by simp only [State.setOwn]
@[simp] theorem State.setOwn_faults (r : Requester) (x : ReqRegs) : (s.setOwn r x).faults = s.faults := by simp only [State.setOwn]
@[simp] theorem State.setOwn_faultHeld (r : Requester) (x : ReqRegs) : (s.setOwn r x).faultHeld = s.faultHeld := by simp only [State.setOwn]
@[simp] theorem State.setOwn_genClk (r : Requester) (x : ReqRegs) : (s.setOwn r x).genClk = s.genClk := by simp only [State.setOwn]
@[simp] theorem State.setOwn_ash (r : Requester) (x : ReqRegs) : (s.setOwn r x).ash = s.ash := by simp only [State.setOwn]
@[simp] theorem State.setOwn_badCols (r : Requester) (x : ReqRegs) : (s.setOwn r x).badCols = s.badCols := by simp only [State.setOwn]
@[simp] theorem State.setOwn_residue (r : Requester) (x : ReqRegs) : (s.setOwn r x).residue = s.residue := by simp only [State.setOwn]
@[simp] theorem State.setOwn_storeDue (r : Requester) (x : ReqRegs) : (s.setOwn r x).storeDue = s.storeDue := by simp only [State.setOwn]
@[simp] theorem State.setOwn_spareDoubt (r : Requester) (x : ReqRegs) : (s.setOwn r x).spareDoubt = s.spareDoubt := by simp only [State.setOwn]
@[simp] theorem State.setOwn_spareLast (r : Requester) (x : ReqRegs) : (s.setOwn r x).spareLast = s.spareLast := by simp only [State.setOwn]
@[simp] theorem State.setOwn_nvm (r : Requester) (x : ReqRegs) : (s.setOwn r x).nvm = s.nvm := by simp only [State.setOwn]
@[simp] theorem State.setOwn_nvmq (r : Requester) (x : ReqRegs) : (s.setOwn r x).nvmq = s.nvmq := by simp only [State.setOwn]
@[simp] theorem State.setOwn_time (r : Requester) (x : ReqRegs) : (s.setOwn r x).time = s.time := by simp only [State.setOwn]
@[simp] theorem State.setOwn_ctl (r : Requester) (x : ReqRegs) : (s.setOwn r x).ctl = s.ctl := by simp only [State.setOwn]
@[simp] theorem State.setOwn_latches (r : Requester) (x : ReqRegs) : (s.setOwn r x).latches = s.latches := by simp only [State.setOwn]
@[simp] theorem State.setOwn_outSeq (r : Requester) (x : ReqRegs) : (s.setOwn r x).outSeq = s.outSeq := by simp only [State.setOwn]
@[simp] theorem State.setOwn_power (r : Requester) (x : ReqRegs) : (s.setOwn r x).power = s.power := by simp only [State.setOwn]
@[simp] theorem State.setOwn_start (r : Requester) (x : ReqRegs) : (s.setOwn r x).start = s.start := by simp only [State.setOwn]
@[simp] theorem State.setOwn_update (r : Requester) (x : ReqRegs) : (s.setOwn r x).update = s.update := by simp only [State.setOwn]
@[simp] theorem State.setOwn_audit (r : Requester) (x : ReqRegs) : (s.setOwn r x).audit = s.audit := by simp only [State.setOwn]
@[simp] theorem State.setOwn_auditBad (r : Requester) (x : ReqRegs) : (s.setOwn r x).auditBad = s.auditBad := by simp only [State.setOwn]

/-! ### State.evDrop -/

@[simp] theorem State.evDrop_pending (d code : Nat) : (s.evDrop d code).pending = s.pending := by
  simp only [State.evDrop, State.bump_pending]
@[simp] theorem State.evDrop_phase (d code : Nat) : (s.evDrop d code).phase = s.phase := by
  simp only [State.evDrop, State.bump_phase]
@[simp] theorem State.evDrop_clk (d code : Nat) : (s.evDrop d code).clk = s.clk := by
  simp only [State.evDrop, State.bump_clk]
@[simp] theorem State.evDrop_pins (d code : Nat) : (s.evDrop d code).pins = s.pins := by
  simp only [State.evDrop, State.bump_pins]
@[simp] theorem State.evDrop_reqRegs (d code : Nat) : (s.evDrop d code).reqRegs = s.reqRegs := by
  simp only [State.evDrop, State.bump_reqRegs]
@[simp] theorem State.evDrop_wire (d code : Nat) : (s.evDrop d code).wire = s.wire := by
  simp only [State.evDrop, State.bump_wire]
@[simp] theorem State.evDrop_free (d code : Nat) : (s.evDrop d code).free = s.free := by
  simp only [State.evDrop, State.bump_free]
@[simp] theorem State.evDrop_ctxs (d code : Nat) : (s.evDrop d code).ctxs = s.ctxs := by
  simp only [State.evDrop, State.bump_ctxs]
@[simp] theorem State.evDrop_slots (d code : Nat) : (s.evDrop d code).slots = s.slots := by
  simp only [State.evDrop, State.bump_slots]
@[simp] theorem State.evDrop_parts (d code : Nat) : (s.evDrop d code).parts = s.parts := by
  simp only [State.evDrop, State.bump_parts]
@[simp] theorem State.evDrop_syncWaits (d code : Nat) : (s.evDrop d code).syncWaits = s.syncWaits := by
  simp only [State.evDrop, State.bump_syncWaits]
@[simp] theorem State.evDrop_inProg (d code : Nat) : (s.evDrop d code).inProg = s.inProg := by
  simp only [State.evDrop, State.bump_inProg]
@[simp] theorem State.evDrop_mem (d code : Nat) : (s.evDrop d code).mem = s.mem := by
  simp only [State.evDrop, State.bump_mem]
@[simp] theorem State.evDrop_sram (d code : Nat) : (s.evDrop d code).sram = s.sram := by
  simp only [State.evDrop, State.bump_sram]
@[simp] theorem State.evDrop_sramResets (d code : Nat) : (s.evDrop d code).sramResets = s.sramResets := by
  simp only [State.evDrop, State.bump_sramResets]
@[simp] theorem State.evDrop_coreParts (d code : Nat) : (s.evDrop d code).coreParts = s.coreParts := by
  simp only [State.evDrop, State.bump_coreParts]
@[simp] theorem State.evDrop_badGranules (d code : Nat) : (s.evDrop d code).badGranules = s.badGranules := by
  simp only [State.evDrop, State.bump_badGranules]
@[simp] theorem State.evDrop_faint (d code : Nat) : (s.evDrop d code).faint = s.faint := by
  simp only [State.evDrop, State.bump_faint]
@[simp] theorem State.evDrop_bursts (d code : Nat) : (s.evDrop d code).bursts = s.bursts := by
  simp only [State.evDrop, State.bump_bursts]
@[simp] theorem State.evDrop_memKeys (d code : Nat) : (s.evDrop d code).memKeys = s.memKeys := by
  simp only [State.evDrop, State.bump_memKeys]
@[simp] theorem State.evDrop_hashKey (d code : Nat) : (s.evDrop d code).hashKey = s.hashKey := by
  simp only [State.evDrop, State.bump_hashKey]
@[simp] theorem State.evDrop_zeroing (d code : Nat) : (s.evDrop d code).zeroing = s.zeroing := by
  simp only [State.evDrop, State.bump_zeroing]
@[simp] theorem State.evDrop_reqSlots (d code : Nat) : (s.evDrop d code).reqSlots = s.reqSlots := by
  simp only [State.evDrop, State.bump_reqSlots]
@[simp] theorem State.evDrop_slotWait (d code : Nat) : (s.evDrop d code).slotWait = s.slotWait := by
  simp only [State.evDrop, State.bump_slotWait]
@[simp] theorem State.evDrop_queues (d code : Nat) : (s.evDrop d code).queues = s.queues := by
  simp only [State.evDrop, State.bump_queues]
@[simp] theorem State.evDrop_turns (d code : Nat) : (s.evDrop d code).turns = s.turns := by
  simp only [State.evDrop, State.bump_turns]
@[simp] theorem State.evDrop_waiting (d code : Nat) : (s.evDrop d code).waiting = s.waiting := by
  simp only [State.evDrop, State.bump_waiting]
@[simp] theorem State.evDrop_resync (d code : Nat) : (s.evDrop d code).resync = s.resync := by
  simp only [State.evDrop, State.bump_resync]
@[simp] theorem State.evDrop_credits (d code : Nat) : (s.evDrop d code).credits = s.credits := by
  simp only [State.evDrop, State.bump_credits]
@[simp] theorem State.evDrop_ports (d code : Nat) : (s.evDrop d code).ports = s.ports := by
  simp only [State.evDrop, State.bump_ports]
@[simp] theorem State.evDrop_eyes (d code : Nat) : (s.evDrop d code).eyes = s.eyes := by
  simp only [State.evDrop, State.bump_eyes]
@[simp] theorem State.evDrop_rackAdopted (d code : Nat) : (s.evDrop d code).rackAdopted = s.rackAdopted := by
  simp only [State.evDrop, State.bump_rackAdopted]
@[simp] theorem State.evDrop_dmaRun (d code : Nat) : (s.evDrop d code).dmaRun = s.dmaRun := by
  simp only [State.evDrop, State.bump_dmaRun]
@[simp] theorem State.evDrop_dmaLast (d code : Nat) : (s.evDrop d code).dmaLast = s.dmaLast := by
  simp only [State.evDrop, State.bump_dmaLast]
@[simp] theorem State.evDrop_groups (d code : Nat) : (s.evDrop d code).groups = s.groups := by
  simp only [State.evDrop, State.bump_groups]
@[simp] theorem State.evDrop_carTurns (d code : Nat) : (s.evDrop d code).carTurns = s.carTurns := by
  simp only [State.evDrop, State.bump_carTurns]
@[simp] theorem State.evDrop_bank (d code : Nat) : (s.evDrop d code).bank = s.bank := by
  simp only [State.evDrop, State.bump_bank]
@[simp] theorem State.evDrop_rankTabs (d code : Nat) : (s.evDrop d code).rankTabs = s.rankTabs := by
  simp only [State.evDrop, State.bump_rankTabs]
@[simp] theorem State.evDrop_copies (d code : Nat) : (s.evDrop d code).copies = s.copies := by
  simp only [State.evDrop, State.bump_copies]
@[simp] theorem State.evDrop_ceHour (d code : Nat) : (s.evDrop d code).ceHour = s.ceHour := by
  simp only [State.evDrop, State.bump_ceHour]
@[simp] theorem State.evDrop_hotRuns (d code : Nat) : (s.evDrop d code).hotRuns = s.hotRuns := by
  simp only [State.evDrop, State.bump_hotRuns]
@[simp] theorem State.evDrop_sessions (d code : Nat) : (s.evDrop d code).sessions = s.sessions := by
  simp only [State.evDrop, State.bump_sessions]
@[simp] theorem State.evDrop_nonces (d code : Nat) : (s.evDrop d code).nonces = s.nonces := by
  simp only [State.evDrop, State.bump_nonces]
@[simp] theorem State.evDrop_evq (d code : Nat) : (s.evDrop d code).evq = s.evq := by
  simp only [State.evDrop, State.bump_evq]
@[simp] theorem State.evDrop_recs (d code : Nat) : (s.evDrop d code).recs = s.recs := by
  simp only [State.evDrop, State.bump_recs]
@[simp] theorem State.evDrop_recBad (d code : Nat) : (s.evDrop d code).recBad = s.recBad := by
  simp only [State.evDrop, State.bump_recBad]
@[simp] theorem State.evDrop_resetReqs (d code : Nat) : (s.evDrop d code).resetReqs = s.resetReqs := by
  simp only [State.evDrop, State.bump_resetReqs]
@[simp] theorem State.evDrop_resets (d code : Nat) : (s.evDrop d code).resets = s.resets := by
  simp only [State.evDrop, State.bump_resets]
@[simp] theorem State.evDrop_ladder (d code : Nat) : (s.evDrop d code).ladder = s.ladder := by
  simp only [State.evDrop, State.bump_ladder]
@[simp] theorem State.evDrop_isolating (d code : Nat) : (s.evDrop d code).isolating = s.isolating := by
  simp only [State.evDrop, State.bump_isolating]
@[simp] theorem State.evDrop_cycling (d code : Nat) : (s.evDrop d code).cycling = s.cycling := by
  simp only [State.evDrop, State.bump_cycling]
@[simp] theorem State.evDrop_faults (d code : Nat) : (s.evDrop d code).faults = s.faults := by
  simp only [State.evDrop, State.bump_faults]
@[simp] theorem State.evDrop_faultHeld (d code : Nat) : (s.evDrop d code).faultHeld = s.faultHeld := by
  simp only [State.evDrop, State.bump_faultHeld]
@[simp] theorem State.evDrop_genClk (d code : Nat) : (s.evDrop d code).genClk = s.genClk := by
  simp only [State.evDrop, State.bump_genClk]
@[simp] theorem State.evDrop_ash (d code : Nat) : (s.evDrop d code).ash = s.ash := by
  simp only [State.evDrop, State.bump_ash]
@[simp] theorem State.evDrop_badCols (d code : Nat) : (s.evDrop d code).badCols = s.badCols := by
  simp only [State.evDrop, State.bump_badCols]
@[simp] theorem State.evDrop_residue (d code : Nat) : (s.evDrop d code).residue = s.residue := by
  simp only [State.evDrop, State.bump_residue]
@[simp] theorem State.evDrop_storeDue (d code : Nat) : (s.evDrop d code).storeDue = s.storeDue := by
  simp only [State.evDrop, State.bump_storeDue]
@[simp] theorem State.evDrop_spareDoubt (d code : Nat) : (s.evDrop d code).spareDoubt = s.spareDoubt := by
  simp only [State.evDrop, State.bump_spareDoubt]
@[simp] theorem State.evDrop_spareLast (d code : Nat) : (s.evDrop d code).spareLast = s.spareLast := by
  simp only [State.evDrop, State.bump_spareLast]
@[simp] theorem State.evDrop_nvm (d code : Nat) : (s.evDrop d code).nvm = s.nvm := by
  simp only [State.evDrop, State.bump_nvm]
@[simp] theorem State.evDrop_nvmq (d code : Nat) : (s.evDrop d code).nvmq = s.nvmq := by
  simp only [State.evDrop, State.bump_nvmq]
@[simp] theorem State.evDrop_time (d code : Nat) : (s.evDrop d code).time = s.time := by
  simp only [State.evDrop, State.bump_time]
@[simp] theorem State.evDrop_ctl (d code : Nat) : (s.evDrop d code).ctl = s.ctl := by
  simp only [State.evDrop, State.bump_ctl]
@[simp] theorem State.evDrop_latches (d code : Nat) : (s.evDrop d code).latches = s.latches := by
  simp only [State.evDrop, State.bump_latches]
@[simp] theorem State.evDrop_outSeq (d code : Nat) : (s.evDrop d code).outSeq = s.outSeq := by
  simp only [State.evDrop, State.bump_outSeq]
@[simp] theorem State.evDrop_power (d code : Nat) : (s.evDrop d code).power = s.power := by
  simp only [State.evDrop, State.bump_power]
@[simp] theorem State.evDrop_start (d code : Nat) : (s.evDrop d code).start = s.start := by
  simp only [State.evDrop, State.bump_start]
@[simp] theorem State.evDrop_update (d code : Nat) : (s.evDrop d code).update = s.update := by
  simp only [State.evDrop, State.bump_update]
@[simp] theorem State.evDrop_audit (d code : Nat) : (s.evDrop d code).audit = s.audit := by
  simp only [State.evDrop, State.bump_audit]
@[simp] theorem State.evDrop_auditBad (d code : Nat) : (s.evDrop d code).auditBad = s.auditBad := by
  simp only [State.evDrop, State.bump_auditBad]

/-! ### State.evPut -/

@[simp] theorem State.evPut_pending (d : Nat) (e : Ev) : (s.evPut d e).pending = s.pending := by simp only [State.evPut]
@[simp] theorem State.evPut_regs (d : Nat) (e : Ev) : (s.evPut d e).regs = s.regs := by simp only [State.evPut]
@[simp] theorem State.evPut_phase (d : Nat) (e : Ev) : (s.evPut d e).phase = s.phase := by simp only [State.evPut]
@[simp] theorem State.evPut_clk (d : Nat) (e : Ev) : (s.evPut d e).clk = s.clk := by simp only [State.evPut]
@[simp] theorem State.evPut_pins (d : Nat) (e : Ev) : (s.evPut d e).pins = s.pins := by simp only [State.evPut]
@[simp] theorem State.evPut_reqRegs (d : Nat) (e : Ev) : (s.evPut d e).reqRegs = s.reqRegs := by simp only [State.evPut]
@[simp] theorem State.evPut_wire (d : Nat) (e : Ev) : (s.evPut d e).wire = s.wire := by simp only [State.evPut]
@[simp] theorem State.evPut_free (d : Nat) (e : Ev) : (s.evPut d e).free = s.free := by simp only [State.evPut]
@[simp] theorem State.evPut_ctxs (d : Nat) (e : Ev) : (s.evPut d e).ctxs = s.ctxs := by simp only [State.evPut]
@[simp] theorem State.evPut_slots (d : Nat) (e : Ev) : (s.evPut d e).slots = s.slots := by simp only [State.evPut]
@[simp] theorem State.evPut_parts (d : Nat) (e : Ev) : (s.evPut d e).parts = s.parts := by simp only [State.evPut]
@[simp] theorem State.evPut_syncWaits (d : Nat) (e : Ev) : (s.evPut d e).syncWaits = s.syncWaits := by simp only [State.evPut]
@[simp] theorem State.evPut_inProg (d : Nat) (e : Ev) : (s.evPut d e).inProg = s.inProg := by simp only [State.evPut]
@[simp] theorem State.evPut_mem (d : Nat) (e : Ev) : (s.evPut d e).mem = s.mem := by simp only [State.evPut]
@[simp] theorem State.evPut_sram (d : Nat) (e : Ev) : (s.evPut d e).sram = s.sram := by simp only [State.evPut]
@[simp] theorem State.evPut_sramResets (d : Nat) (e : Ev) : (s.evPut d e).sramResets = s.sramResets := by simp only [State.evPut]
@[simp] theorem State.evPut_coreParts (d : Nat) (e : Ev) : (s.evPut d e).coreParts = s.coreParts := by simp only [State.evPut]
@[simp] theorem State.evPut_badGranules (d : Nat) (e : Ev) : (s.evPut d e).badGranules = s.badGranules := by simp only [State.evPut]
@[simp] theorem State.evPut_faint (d : Nat) (e : Ev) : (s.evPut d e).faint = s.faint := by simp only [State.evPut]
@[simp] theorem State.evPut_bursts (d : Nat) (e : Ev) : (s.evPut d e).bursts = s.bursts := by simp only [State.evPut]
@[simp] theorem State.evPut_memKeys (d : Nat) (e : Ev) : (s.evPut d e).memKeys = s.memKeys := by simp only [State.evPut]
@[simp] theorem State.evPut_hashKey (d : Nat) (e : Ev) : (s.evPut d e).hashKey = s.hashKey := by simp only [State.evPut]
@[simp] theorem State.evPut_zeroing (d : Nat) (e : Ev) : (s.evPut d e).zeroing = s.zeroing := by simp only [State.evPut]
@[simp] theorem State.evPut_reqSlots (d : Nat) (e : Ev) : (s.evPut d e).reqSlots = s.reqSlots := by simp only [State.evPut]
@[simp] theorem State.evPut_slotWait (d : Nat) (e : Ev) : (s.evPut d e).slotWait = s.slotWait := by simp only [State.evPut]
@[simp] theorem State.evPut_queues (d : Nat) (e : Ev) : (s.evPut d e).queues = s.queues := by simp only [State.evPut]
@[simp] theorem State.evPut_turns (d : Nat) (e : Ev) : (s.evPut d e).turns = s.turns := by simp only [State.evPut]
@[simp] theorem State.evPut_waiting (d : Nat) (e : Ev) : (s.evPut d e).waiting = s.waiting := by simp only [State.evPut]
@[simp] theorem State.evPut_resync (d : Nat) (e : Ev) : (s.evPut d e).resync = s.resync := by simp only [State.evPut]
@[simp] theorem State.evPut_credits (d : Nat) (e : Ev) : (s.evPut d e).credits = s.credits := by simp only [State.evPut]
@[simp] theorem State.evPut_ports (d : Nat) (e : Ev) : (s.evPut d e).ports = s.ports := by simp only [State.evPut]
@[simp] theorem State.evPut_eyes (d : Nat) (e : Ev) : (s.evPut d e).eyes = s.eyes := by simp only [State.evPut]
@[simp] theorem State.evPut_rackAdopted (d : Nat) (e : Ev) : (s.evPut d e).rackAdopted = s.rackAdopted := by simp only [State.evPut]
@[simp] theorem State.evPut_dmaRun (d : Nat) (e : Ev) : (s.evPut d e).dmaRun = s.dmaRun := by simp only [State.evPut]
@[simp] theorem State.evPut_dmaLast (d : Nat) (e : Ev) : (s.evPut d e).dmaLast = s.dmaLast := by simp only [State.evPut]
@[simp] theorem State.evPut_groups (d : Nat) (e : Ev) : (s.evPut d e).groups = s.groups := by simp only [State.evPut]
@[simp] theorem State.evPut_carTurns (d : Nat) (e : Ev) : (s.evPut d e).carTurns = s.carTurns := by simp only [State.evPut]
@[simp] theorem State.evPut_bank (d : Nat) (e : Ev) : (s.evPut d e).bank = s.bank := by simp only [State.evPut]
@[simp] theorem State.evPut_rankTabs (d : Nat) (e : Ev) : (s.evPut d e).rankTabs = s.rankTabs := by simp only [State.evPut]
@[simp] theorem State.evPut_copies (d : Nat) (e : Ev) : (s.evPut d e).copies = s.copies := by simp only [State.evPut]
@[simp] theorem State.evPut_ceHour (d : Nat) (e : Ev) : (s.evPut d e).ceHour = s.ceHour := by simp only [State.evPut]
@[simp] theorem State.evPut_hotRuns (d : Nat) (e : Ev) : (s.evPut d e).hotRuns = s.hotRuns := by simp only [State.evPut]
@[simp] theorem State.evPut_sessions (d : Nat) (e : Ev) : (s.evPut d e).sessions = s.sessions := by simp only [State.evPut]
@[simp] theorem State.evPut_nonces (d : Nat) (e : Ev) : (s.evPut d e).nonces = s.nonces := by simp only [State.evPut]
@[simp] theorem State.evPut_recs (d : Nat) (e : Ev) : (s.evPut d e).recs = s.recs := by simp only [State.evPut]
@[simp] theorem State.evPut_recBad (d : Nat) (e : Ev) : (s.evPut d e).recBad = s.recBad := by simp only [State.evPut]
@[simp] theorem State.evPut_evLost (d : Nat) (e : Ev) : (s.evPut d e).evLost = s.evLost := by simp only [State.evPut]
@[simp] theorem State.evPut_resetReqs (d : Nat) (e : Ev) : (s.evPut d e).resetReqs = s.resetReqs := by simp only [State.evPut]
@[simp] theorem State.evPut_resets (d : Nat) (e : Ev) : (s.evPut d e).resets = s.resets := by simp only [State.evPut]
@[simp] theorem State.evPut_ladder (d : Nat) (e : Ev) : (s.evPut d e).ladder = s.ladder := by simp only [State.evPut]
@[simp] theorem State.evPut_isolating (d : Nat) (e : Ev) : (s.evPut d e).isolating = s.isolating := by simp only [State.evPut]
@[simp] theorem State.evPut_cycling (d : Nat) (e : Ev) : (s.evPut d e).cycling = s.cycling := by simp only [State.evPut]
@[simp] theorem State.evPut_faults (d : Nat) (e : Ev) : (s.evPut d e).faults = s.faults := by simp only [State.evPut]
@[simp] theorem State.evPut_faultHeld (d : Nat) (e : Ev) : (s.evPut d e).faultHeld = s.faultHeld := by simp only [State.evPut]
@[simp] theorem State.evPut_genClk (d : Nat) (e : Ev) : (s.evPut d e).genClk = s.genClk := by simp only [State.evPut]
@[simp] theorem State.evPut_ash (d : Nat) (e : Ev) : (s.evPut d e).ash = s.ash := by simp only [State.evPut]
@[simp] theorem State.evPut_badCols (d : Nat) (e : Ev) : (s.evPut d e).badCols = s.badCols := by simp only [State.evPut]
@[simp] theorem State.evPut_residue (d : Nat) (e : Ev) : (s.evPut d e).residue = s.residue := by simp only [State.evPut]
@[simp] theorem State.evPut_storeDue (d : Nat) (e : Ev) : (s.evPut d e).storeDue = s.storeDue := by simp only [State.evPut]
@[simp] theorem State.evPut_spareDoubt (d : Nat) (e : Ev) : (s.evPut d e).spareDoubt = s.spareDoubt := by simp only [State.evPut]
@[simp] theorem State.evPut_spareLast (d : Nat) (e : Ev) : (s.evPut d e).spareLast = s.spareLast := by simp only [State.evPut]
@[simp] theorem State.evPut_nvm (d : Nat) (e : Ev) : (s.evPut d e).nvm = s.nvm := by simp only [State.evPut]
@[simp] theorem State.evPut_nvmq (d : Nat) (e : Ev) : (s.evPut d e).nvmq = s.nvmq := by simp only [State.evPut]
@[simp] theorem State.evPut_time (d : Nat) (e : Ev) : (s.evPut d e).time = s.time := by simp only [State.evPut]
@[simp] theorem State.evPut_ctl (d : Nat) (e : Ev) : (s.evPut d e).ctl = s.ctl := by simp only [State.evPut]
@[simp] theorem State.evPut_latches (d : Nat) (e : Ev) : (s.evPut d e).latches = s.latches := by simp only [State.evPut]
@[simp] theorem State.evPut_outSeq (d : Nat) (e : Ev) : (s.evPut d e).outSeq = s.outSeq := by simp only [State.evPut]
@[simp] theorem State.evPut_power (d : Nat) (e : Ev) : (s.evPut d e).power = s.power := by simp only [State.evPut]
@[simp] theorem State.evPut_start (d : Nat) (e : Ev) : (s.evPut d e).start = s.start := by simp only [State.evPut]
@[simp] theorem State.evPut_update (d : Nat) (e : Ev) : (s.evPut d e).update = s.update := by simp only [State.evPut]
@[simp] theorem State.evPut_audit (d : Nat) (e : Ev) : (s.evPut d e).audit = s.audit := by simp only [State.evPut]
@[simp] theorem State.evPut_auditBad (d : Nat) (e : Ev) : (s.evPut d e).auditBad = s.auditBad := by simp only [State.evPut]

/-! ### State.evMark -/

@[simp] theorem State.evMark_pending (d n : Nat) : (s.evMark d n).pending = s.pending := by
  unfold State.evMark; split_ifs <;> simp only [State.setFld_pending]
@[simp] theorem State.evMark_phase (d n : Nat) : (s.evMark d n).phase = s.phase := by
  unfold State.evMark; split_ifs <;> simp only [State.setFld_phase]
@[simp] theorem State.evMark_clk (d n : Nat) : (s.evMark d n).clk = s.clk := by
  unfold State.evMark; split_ifs <;> simp only [State.setFld_clk]
@[simp] theorem State.evMark_pins (d n : Nat) : (s.evMark d n).pins = s.pins := by
  unfold State.evMark; split_ifs <;> simp only [State.setFld_pins]
@[simp] theorem State.evMark_reqRegs (d n : Nat) : (s.evMark d n).reqRegs = s.reqRegs := by
  unfold State.evMark; split_ifs <;> simp only [State.setFld_reqRegs]
@[simp] theorem State.evMark_wire (d n : Nat) : (s.evMark d n).wire = s.wire := by
  unfold State.evMark; split_ifs <;> simp only [State.setFld_wire]
@[simp] theorem State.evMark_free (d n : Nat) : (s.evMark d n).free = s.free := by
  unfold State.evMark; split_ifs <;> simp only [State.setFld_free]
@[simp] theorem State.evMark_ctxs (d n : Nat) : (s.evMark d n).ctxs = s.ctxs := by
  unfold State.evMark; split_ifs <;> simp only [State.setFld_ctxs]
@[simp] theorem State.evMark_slots (d n : Nat) : (s.evMark d n).slots = s.slots := by
  unfold State.evMark; split_ifs <;> simp only [State.setFld_slots]
@[simp] theorem State.evMark_parts (d n : Nat) : (s.evMark d n).parts = s.parts := by
  unfold State.evMark; split_ifs <;> simp only [State.setFld_parts]
@[simp] theorem State.evMark_syncWaits (d n : Nat) : (s.evMark d n).syncWaits = s.syncWaits := by
  unfold State.evMark; split_ifs <;> simp only [State.setFld_syncWaits]
@[simp] theorem State.evMark_inProg (d n : Nat) : (s.evMark d n).inProg = s.inProg := by
  unfold State.evMark; split_ifs <;> simp only [State.setFld_inProg]
@[simp] theorem State.evMark_mem (d n : Nat) : (s.evMark d n).mem = s.mem := by
  unfold State.evMark; split_ifs <;> simp only [State.setFld_mem]
@[simp] theorem State.evMark_sram (d n : Nat) : (s.evMark d n).sram = s.sram := by
  unfold State.evMark; split_ifs <;> simp only [State.setFld_sram]
@[simp] theorem State.evMark_sramResets (d n : Nat) : (s.evMark d n).sramResets = s.sramResets := by
  unfold State.evMark; split_ifs <;> simp only [State.setFld_sramResets]
@[simp] theorem State.evMark_coreParts (d n : Nat) : (s.evMark d n).coreParts = s.coreParts := by
  unfold State.evMark; split_ifs <;> simp only [State.setFld_coreParts]
@[simp] theorem State.evMark_badGranules (d n : Nat) : (s.evMark d n).badGranules = s.badGranules := by
  unfold State.evMark; split_ifs <;> simp only [State.setFld_badGranules]
@[simp] theorem State.evMark_faint (d n : Nat) : (s.evMark d n).faint = s.faint := by
  unfold State.evMark; split_ifs <;> simp only [State.setFld_faint]
@[simp] theorem State.evMark_bursts (d n : Nat) : (s.evMark d n).bursts = s.bursts := by
  unfold State.evMark; split_ifs <;> simp only [State.setFld_bursts]
@[simp] theorem State.evMark_memKeys (d n : Nat) : (s.evMark d n).memKeys = s.memKeys := by
  unfold State.evMark; split_ifs <;> simp only [State.setFld_memKeys]
@[simp] theorem State.evMark_hashKey (d n : Nat) : (s.evMark d n).hashKey = s.hashKey := by
  unfold State.evMark; split_ifs <;> simp only [State.setFld_hashKey]
@[simp] theorem State.evMark_zeroing (d n : Nat) : (s.evMark d n).zeroing = s.zeroing := by
  unfold State.evMark; split_ifs <;> simp only [State.setFld_zeroing]
@[simp] theorem State.evMark_reqSlots (d n : Nat) : (s.evMark d n).reqSlots = s.reqSlots := by
  unfold State.evMark; split_ifs <;> simp only [State.setFld_reqSlots]
@[simp] theorem State.evMark_slotWait (d n : Nat) : (s.evMark d n).slotWait = s.slotWait := by
  unfold State.evMark; split_ifs <;> simp only [State.setFld_slotWait]
@[simp] theorem State.evMark_queues (d n : Nat) : (s.evMark d n).queues = s.queues := by
  unfold State.evMark; split_ifs <;> simp only [State.setFld_queues]
@[simp] theorem State.evMark_turns (d n : Nat) : (s.evMark d n).turns = s.turns := by
  unfold State.evMark; split_ifs <;> simp only [State.setFld_turns]
@[simp] theorem State.evMark_waiting (d n : Nat) : (s.evMark d n).waiting = s.waiting := by
  unfold State.evMark; split_ifs <;> simp only [State.setFld_waiting]
@[simp] theorem State.evMark_resync (d n : Nat) : (s.evMark d n).resync = s.resync := by
  unfold State.evMark; split_ifs <;> simp only [State.setFld_resync]
@[simp] theorem State.evMark_credits (d n : Nat) : (s.evMark d n).credits = s.credits := by
  unfold State.evMark; split_ifs <;> simp only [State.setFld_credits]
@[simp] theorem State.evMark_ports (d n : Nat) : (s.evMark d n).ports = s.ports := by
  unfold State.evMark; split_ifs <;> simp only [State.setFld_ports]
@[simp] theorem State.evMark_eyes (d n : Nat) : (s.evMark d n).eyes = s.eyes := by
  unfold State.evMark; split_ifs <;> simp only [State.setFld_eyes]
@[simp] theorem State.evMark_rackAdopted (d n : Nat) : (s.evMark d n).rackAdopted = s.rackAdopted := by
  unfold State.evMark; split_ifs <;> simp only [State.setFld_rackAdopted]
@[simp] theorem State.evMark_dmaRun (d n : Nat) : (s.evMark d n).dmaRun = s.dmaRun := by
  unfold State.evMark; split_ifs <;> simp only [State.setFld_dmaRun]
@[simp] theorem State.evMark_dmaLast (d n : Nat) : (s.evMark d n).dmaLast = s.dmaLast := by
  unfold State.evMark; split_ifs <;> simp only [State.setFld_dmaLast]
@[simp] theorem State.evMark_groups (d n : Nat) : (s.evMark d n).groups = s.groups := by
  unfold State.evMark; split_ifs <;> simp only [State.setFld_groups]
@[simp] theorem State.evMark_carTurns (d n : Nat) : (s.evMark d n).carTurns = s.carTurns := by
  unfold State.evMark; split_ifs <;> simp only [State.setFld_carTurns]
@[simp] theorem State.evMark_bank (d n : Nat) : (s.evMark d n).bank = s.bank := by
  unfold State.evMark; split_ifs <;> simp only [State.setFld_bank]
@[simp] theorem State.evMark_rankTabs (d n : Nat) : (s.evMark d n).rankTabs = s.rankTabs := by
  unfold State.evMark; split_ifs <;> simp only [State.setFld_rankTabs]
@[simp] theorem State.evMark_copies (d n : Nat) : (s.evMark d n).copies = s.copies := by
  unfold State.evMark; split_ifs <;> simp only [State.setFld_copies]
@[simp] theorem State.evMark_ceHour (d n : Nat) : (s.evMark d n).ceHour = s.ceHour := by
  unfold State.evMark; split_ifs <;> simp only [State.setFld_ceHour]
@[simp] theorem State.evMark_hotRuns (d n : Nat) : (s.evMark d n).hotRuns = s.hotRuns := by
  unfold State.evMark; split_ifs <;> simp only [State.setFld_hotRuns]
@[simp] theorem State.evMark_sessions (d n : Nat) : (s.evMark d n).sessions = s.sessions := by
  unfold State.evMark; split_ifs <;> simp only [State.setFld_sessions]
@[simp] theorem State.evMark_nonces (d n : Nat) : (s.evMark d n).nonces = s.nonces := by
  unfold State.evMark; split_ifs <;> simp only [State.setFld_nonces]
@[simp] theorem State.evMark_evq (d n : Nat) : (s.evMark d n).evq = s.evq := by
  unfold State.evMark; split_ifs <;> simp only [State.setFld_evq]
@[simp] theorem State.evMark_recs (d n : Nat) : (s.evMark d n).recs = s.recs := by
  unfold State.evMark; split_ifs <;> simp only [State.setFld_recs]
@[simp] theorem State.evMark_recBad (d n : Nat) : (s.evMark d n).recBad = s.recBad := by
  unfold State.evMark; split_ifs <;> simp only [State.setFld_recBad]
@[simp] theorem State.evMark_evLost (d n : Nat) : (s.evMark d n).evLost = s.evLost := by
  unfold State.evMark; split_ifs <;> simp only [State.setFld_evLost]
@[simp] theorem State.evMark_resetReqs (d n : Nat) : (s.evMark d n).resetReqs = s.resetReqs := by
  unfold State.evMark; split_ifs <;> simp only [State.setFld_resetReqs]
@[simp] theorem State.evMark_resets (d n : Nat) : (s.evMark d n).resets = s.resets := by
  unfold State.evMark; split_ifs <;> simp only [State.setFld_resets]
@[simp] theorem State.evMark_ladder (d n : Nat) : (s.evMark d n).ladder = s.ladder := by
  unfold State.evMark; split_ifs <;> simp only [State.setFld_ladder]
@[simp] theorem State.evMark_isolating (d n : Nat) : (s.evMark d n).isolating = s.isolating := by
  unfold State.evMark; split_ifs <;> simp only [State.setFld_isolating]
@[simp] theorem State.evMark_cycling (d n : Nat) : (s.evMark d n).cycling = s.cycling := by
  unfold State.evMark; split_ifs <;> simp only [State.setFld_cycling]
@[simp] theorem State.evMark_faults (d n : Nat) : (s.evMark d n).faults = s.faults := by
  unfold State.evMark; split_ifs <;> simp only [State.setFld_faults]
@[simp] theorem State.evMark_faultHeld (d n : Nat) : (s.evMark d n).faultHeld = s.faultHeld := by
  unfold State.evMark; split_ifs <;> simp only [State.setFld_faultHeld]
@[simp] theorem State.evMark_genClk (d n : Nat) : (s.evMark d n).genClk = s.genClk := by
  unfold State.evMark; split_ifs <;> simp only [State.setFld_genClk]
@[simp] theorem State.evMark_ash (d n : Nat) : (s.evMark d n).ash = s.ash := by
  unfold State.evMark; split_ifs <;> simp only [State.setFld_ash]
@[simp] theorem State.evMark_badCols (d n : Nat) : (s.evMark d n).badCols = s.badCols := by
  unfold State.evMark; split_ifs <;> simp only [State.setFld_badCols]
@[simp] theorem State.evMark_residue (d n : Nat) : (s.evMark d n).residue = s.residue := by
  unfold State.evMark; split_ifs <;> simp only [State.setFld_residue]
@[simp] theorem State.evMark_storeDue (d n : Nat) : (s.evMark d n).storeDue = s.storeDue := by
  unfold State.evMark; split_ifs <;> simp only [State.setFld_storeDue]
@[simp] theorem State.evMark_spareDoubt (d n : Nat) : (s.evMark d n).spareDoubt = s.spareDoubt := by
  unfold State.evMark; split_ifs <;> simp only [State.setFld_spareDoubt]
@[simp] theorem State.evMark_spareLast (d n : Nat) : (s.evMark d n).spareLast = s.spareLast := by
  unfold State.evMark; split_ifs <;> simp only [State.setFld_spareLast]
@[simp] theorem State.evMark_nvm (d n : Nat) : (s.evMark d n).nvm = s.nvm := by
  unfold State.evMark; split_ifs <;> simp only [State.setFld_nvm]
@[simp] theorem State.evMark_nvmq (d n : Nat) : (s.evMark d n).nvmq = s.nvmq := by
  unfold State.evMark; split_ifs <;> simp only [State.setFld_nvmq]
@[simp] theorem State.evMark_time (d n : Nat) : (s.evMark d n).time = s.time := by
  unfold State.evMark; split_ifs <;> simp only [State.setFld_time]
@[simp] theorem State.evMark_ctl (d n : Nat) : (s.evMark d n).ctl = s.ctl := by
  unfold State.evMark; split_ifs <;> simp only [State.setFld_ctl]
@[simp] theorem State.evMark_latches (d n : Nat) : (s.evMark d n).latches = s.latches := by
  unfold State.evMark; split_ifs <;> simp only [State.setFld_latches]
@[simp] theorem State.evMark_outSeq (d n : Nat) : (s.evMark d n).outSeq = s.outSeq := by
  unfold State.evMark; split_ifs <;> simp only [State.setFld_outSeq]
@[simp] theorem State.evMark_power (d n : Nat) : (s.evMark d n).power = s.power := by
  unfold State.evMark; split_ifs <;> simp only [State.setFld_power]
@[simp] theorem State.evMark_start (d n : Nat) : (s.evMark d n).start = s.start := by
  unfold State.evMark; split_ifs <;> simp only [State.setFld_start]
@[simp] theorem State.evMark_update (d n : Nat) : (s.evMark d n).update = s.update := by
  unfold State.evMark; split_ifs <;> simp only [State.setFld_update]
@[simp] theorem State.evMark_audit (d n : Nat) : (s.evMark d n).audit = s.audit := by
  unfold State.evMark; split_ifs <;> simp only [State.setFld_audit]
@[simp] theorem State.evMark_auditBad (d n : Nat) : (s.evMark d n).auditBad = s.auditBad := by
  unfold State.evMark; split_ifs <;> simp only [State.setFld_auditBad]

/-! ### State.ev -/

@[simp] theorem State.ev_pending (code src p0 p1 p2 : Nat) : (s.ev code src p0 p1 p2).pending = s.pending := by
  unfold State.ev; dsimp only; split_ifs <;> simp only [State.evDrop_pending, State.evPut_pending, State.evMark_pending]
@[simp] theorem State.ev_phase (code src p0 p1 p2 : Nat) : (s.ev code src p0 p1 p2).phase = s.phase := by
  unfold State.ev; dsimp only; split_ifs <;> simp only [State.evDrop_phase, State.evPut_phase, State.evMark_phase]
@[simp] theorem State.ev_clk (code src p0 p1 p2 : Nat) : (s.ev code src p0 p1 p2).clk = s.clk := by
  unfold State.ev; dsimp only; split_ifs <;> simp only [State.evDrop_clk, State.evPut_clk, State.evMark_clk]
@[simp] theorem State.ev_pins (code src p0 p1 p2 : Nat) : (s.ev code src p0 p1 p2).pins = s.pins := by
  unfold State.ev; dsimp only; split_ifs <;> simp only [State.evDrop_pins, State.evPut_pins, State.evMark_pins]
@[simp] theorem State.ev_reqRegs (code src p0 p1 p2 : Nat) : (s.ev code src p0 p1 p2).reqRegs = s.reqRegs := by
  unfold State.ev; dsimp only; split_ifs <;> simp only [State.evDrop_reqRegs, State.evPut_reqRegs, State.evMark_reqRegs]
@[simp] theorem State.ev_wire (code src p0 p1 p2 : Nat) : (s.ev code src p0 p1 p2).wire = s.wire := by
  unfold State.ev; dsimp only; split_ifs <;> simp only [State.evDrop_wire, State.evPut_wire, State.evMark_wire]
@[simp] theorem State.ev_free (code src p0 p1 p2 : Nat) : (s.ev code src p0 p1 p2).free = s.free := by
  unfold State.ev; dsimp only; split_ifs <;> simp only [State.evDrop_free, State.evPut_free, State.evMark_free]
@[simp] theorem State.ev_ctxs (code src p0 p1 p2 : Nat) : (s.ev code src p0 p1 p2).ctxs = s.ctxs := by
  unfold State.ev; dsimp only; split_ifs <;> simp only [State.evDrop_ctxs, State.evPut_ctxs, State.evMark_ctxs]
@[simp] theorem State.ev_slots (code src p0 p1 p2 : Nat) : (s.ev code src p0 p1 p2).slots = s.slots := by
  unfold State.ev; dsimp only; split_ifs <;> simp only [State.evDrop_slots, State.evPut_slots, State.evMark_slots]
@[simp] theorem State.ev_parts (code src p0 p1 p2 : Nat) : (s.ev code src p0 p1 p2).parts = s.parts := by
  unfold State.ev; dsimp only; split_ifs <;> simp only [State.evDrop_parts, State.evPut_parts, State.evMark_parts]
@[simp] theorem State.ev_syncWaits (code src p0 p1 p2 : Nat) : (s.ev code src p0 p1 p2).syncWaits = s.syncWaits := by
  unfold State.ev; dsimp only; split_ifs <;> simp only [State.evDrop_syncWaits, State.evPut_syncWaits, State.evMark_syncWaits]
@[simp] theorem State.ev_inProg (code src p0 p1 p2 : Nat) : (s.ev code src p0 p1 p2).inProg = s.inProg := by
  unfold State.ev; dsimp only; split_ifs <;> simp only [State.evDrop_inProg, State.evPut_inProg, State.evMark_inProg]
@[simp] theorem State.ev_mem (code src p0 p1 p2 : Nat) : (s.ev code src p0 p1 p2).mem = s.mem := by
  unfold State.ev; dsimp only; split_ifs <;> simp only [State.evDrop_mem, State.evPut_mem, State.evMark_mem]
@[simp] theorem State.ev_sram (code src p0 p1 p2 : Nat) : (s.ev code src p0 p1 p2).sram = s.sram := by
  unfold State.ev; dsimp only; split_ifs <;> simp only [State.evDrop_sram, State.evPut_sram, State.evMark_sram]
@[simp] theorem State.ev_sramResets (code src p0 p1 p2 : Nat) : (s.ev code src p0 p1 p2).sramResets = s.sramResets := by
  unfold State.ev; dsimp only; split_ifs <;> simp only [State.evDrop_sramResets, State.evPut_sramResets, State.evMark_sramResets]
@[simp] theorem State.ev_coreParts (code src p0 p1 p2 : Nat) : (s.ev code src p0 p1 p2).coreParts = s.coreParts := by
  unfold State.ev; dsimp only; split_ifs <;> simp only [State.evDrop_coreParts, State.evPut_coreParts, State.evMark_coreParts]
@[simp] theorem State.ev_badGranules (code src p0 p1 p2 : Nat) : (s.ev code src p0 p1 p2).badGranules = s.badGranules := by
  unfold State.ev; dsimp only; split_ifs <;> simp only [State.evDrop_badGranules, State.evPut_badGranules, State.evMark_badGranules]
@[simp] theorem State.ev_faint (code src p0 p1 p2 : Nat) : (s.ev code src p0 p1 p2).faint = s.faint := by
  unfold State.ev; dsimp only; split_ifs <;> simp only [State.evDrop_faint, State.evPut_faint, State.evMark_faint]
@[simp] theorem State.ev_bursts (code src p0 p1 p2 : Nat) : (s.ev code src p0 p1 p2).bursts = s.bursts := by
  unfold State.ev; dsimp only; split_ifs <;> simp only [State.evDrop_bursts, State.evPut_bursts, State.evMark_bursts]
@[simp] theorem State.ev_memKeys (code src p0 p1 p2 : Nat) : (s.ev code src p0 p1 p2).memKeys = s.memKeys := by
  unfold State.ev; dsimp only; split_ifs <;> simp only [State.evDrop_memKeys, State.evPut_memKeys, State.evMark_memKeys]
@[simp] theorem State.ev_hashKey (code src p0 p1 p2 : Nat) : (s.ev code src p0 p1 p2).hashKey = s.hashKey := by
  unfold State.ev; dsimp only; split_ifs <;> simp only [State.evDrop_hashKey, State.evPut_hashKey, State.evMark_hashKey]
@[simp] theorem State.ev_zeroing (code src p0 p1 p2 : Nat) : (s.ev code src p0 p1 p2).zeroing = s.zeroing := by
  unfold State.ev; dsimp only; split_ifs <;> simp only [State.evDrop_zeroing, State.evPut_zeroing, State.evMark_zeroing]
@[simp] theorem State.ev_reqSlots (code src p0 p1 p2 : Nat) : (s.ev code src p0 p1 p2).reqSlots = s.reqSlots := by
  unfold State.ev; dsimp only; split_ifs <;> simp only [State.evDrop_reqSlots, State.evPut_reqSlots, State.evMark_reqSlots]
@[simp] theorem State.ev_slotWait (code src p0 p1 p2 : Nat) : (s.ev code src p0 p1 p2).slotWait = s.slotWait := by
  unfold State.ev; dsimp only; split_ifs <;> simp only [State.evDrop_slotWait, State.evPut_slotWait, State.evMark_slotWait]
@[simp] theorem State.ev_queues (code src p0 p1 p2 : Nat) : (s.ev code src p0 p1 p2).queues = s.queues := by
  unfold State.ev; dsimp only; split_ifs <;> simp only [State.evDrop_queues, State.evPut_queues, State.evMark_queues]
@[simp] theorem State.ev_turns (code src p0 p1 p2 : Nat) : (s.ev code src p0 p1 p2).turns = s.turns := by
  unfold State.ev; dsimp only; split_ifs <;> simp only [State.evDrop_turns, State.evPut_turns, State.evMark_turns]
@[simp] theorem State.ev_waiting (code src p0 p1 p2 : Nat) : (s.ev code src p0 p1 p2).waiting = s.waiting := by
  unfold State.ev; dsimp only; split_ifs <;> simp only [State.evDrop_waiting, State.evPut_waiting, State.evMark_waiting]
@[simp] theorem State.ev_resync (code src p0 p1 p2 : Nat) : (s.ev code src p0 p1 p2).resync = s.resync := by
  unfold State.ev; dsimp only; split_ifs <;> simp only [State.evDrop_resync, State.evPut_resync, State.evMark_resync]
@[simp] theorem State.ev_credits (code src p0 p1 p2 : Nat) : (s.ev code src p0 p1 p2).credits = s.credits := by
  unfold State.ev; dsimp only; split_ifs <;> simp only [State.evDrop_credits, State.evPut_credits, State.evMark_credits]
@[simp] theorem State.ev_ports (code src p0 p1 p2 : Nat) : (s.ev code src p0 p1 p2).ports = s.ports := by
  unfold State.ev; dsimp only; split_ifs <;> simp only [State.evDrop_ports, State.evPut_ports, State.evMark_ports]
@[simp] theorem State.ev_eyes (code src p0 p1 p2 : Nat) : (s.ev code src p0 p1 p2).eyes = s.eyes := by
  unfold State.ev; dsimp only; split_ifs <;> simp only [State.evDrop_eyes, State.evPut_eyes, State.evMark_eyes]
@[simp] theorem State.ev_rackAdopted (code src p0 p1 p2 : Nat) : (s.ev code src p0 p1 p2).rackAdopted = s.rackAdopted := by
  unfold State.ev; dsimp only; split_ifs <;> simp only [State.evDrop_rackAdopted, State.evPut_rackAdopted, State.evMark_rackAdopted]
@[simp] theorem State.ev_dmaRun (code src p0 p1 p2 : Nat) : (s.ev code src p0 p1 p2).dmaRun = s.dmaRun := by
  unfold State.ev; dsimp only; split_ifs <;> simp only [State.evDrop_dmaRun, State.evPut_dmaRun, State.evMark_dmaRun]
@[simp] theorem State.ev_dmaLast (code src p0 p1 p2 : Nat) : (s.ev code src p0 p1 p2).dmaLast = s.dmaLast := by
  unfold State.ev; dsimp only; split_ifs <;> simp only [State.evDrop_dmaLast, State.evPut_dmaLast, State.evMark_dmaLast]
@[simp] theorem State.ev_groups (code src p0 p1 p2 : Nat) : (s.ev code src p0 p1 p2).groups = s.groups := by
  unfold State.ev; dsimp only; split_ifs <;> simp only [State.evDrop_groups, State.evPut_groups, State.evMark_groups]
@[simp] theorem State.ev_carTurns (code src p0 p1 p2 : Nat) : (s.ev code src p0 p1 p2).carTurns = s.carTurns := by
  unfold State.ev; dsimp only; split_ifs <;> simp only [State.evDrop_carTurns, State.evPut_carTurns, State.evMark_carTurns]
@[simp] theorem State.ev_bank (code src p0 p1 p2 : Nat) : (s.ev code src p0 p1 p2).bank = s.bank := by
  unfold State.ev; dsimp only; split_ifs <;> simp only [State.evDrop_bank, State.evPut_bank, State.evMark_bank]
@[simp] theorem State.ev_rankTabs (code src p0 p1 p2 : Nat) : (s.ev code src p0 p1 p2).rankTabs = s.rankTabs := by
  unfold State.ev; dsimp only; split_ifs <;> simp only [State.evDrop_rankTabs, State.evPut_rankTabs, State.evMark_rankTabs]
@[simp] theorem State.ev_copies (code src p0 p1 p2 : Nat) : (s.ev code src p0 p1 p2).copies = s.copies := by
  unfold State.ev; dsimp only; split_ifs <;> simp only [State.evDrop_copies, State.evPut_copies, State.evMark_copies]
@[simp] theorem State.ev_ceHour (code src p0 p1 p2 : Nat) : (s.ev code src p0 p1 p2).ceHour = s.ceHour := by
  unfold State.ev; dsimp only; split_ifs <;> simp only [State.evDrop_ceHour, State.evPut_ceHour, State.evMark_ceHour]
@[simp] theorem State.ev_hotRuns (code src p0 p1 p2 : Nat) : (s.ev code src p0 p1 p2).hotRuns = s.hotRuns := by
  unfold State.ev; dsimp only; split_ifs <;> simp only [State.evDrop_hotRuns, State.evPut_hotRuns, State.evMark_hotRuns]
@[simp] theorem State.ev_sessions (code src p0 p1 p2 : Nat) : (s.ev code src p0 p1 p2).sessions = s.sessions := by
  unfold State.ev; dsimp only; split_ifs <;> simp only [State.evDrop_sessions, State.evPut_sessions, State.evMark_sessions]
@[simp] theorem State.ev_nonces (code src p0 p1 p2 : Nat) : (s.ev code src p0 p1 p2).nonces = s.nonces := by
  unfold State.ev; dsimp only; split_ifs <;> simp only [State.evDrop_nonces, State.evPut_nonces, State.evMark_nonces]
@[simp] theorem State.ev_recs (code src p0 p1 p2 : Nat) : (s.ev code src p0 p1 p2).recs = s.recs := by
  unfold State.ev; dsimp only; split_ifs <;> simp only [State.evDrop_recs, State.evPut_recs, State.evMark_recs]
@[simp] theorem State.ev_recBad (code src p0 p1 p2 : Nat) : (s.ev code src p0 p1 p2).recBad = s.recBad := by
  unfold State.ev; dsimp only; split_ifs <;> simp only [State.evDrop_recBad, State.evPut_recBad, State.evMark_recBad]
@[simp] theorem State.ev_resetReqs (code src p0 p1 p2 : Nat) : (s.ev code src p0 p1 p2).resetReqs = s.resetReqs := by
  unfold State.ev; dsimp only; split_ifs <;> simp only [State.evDrop_resetReqs, State.evPut_resetReqs, State.evMark_resetReqs]
@[simp] theorem State.ev_resets (code src p0 p1 p2 : Nat) : (s.ev code src p0 p1 p2).resets = s.resets := by
  unfold State.ev; dsimp only; split_ifs <;> simp only [State.evDrop_resets, State.evPut_resets, State.evMark_resets]
@[simp] theorem State.ev_ladder (code src p0 p1 p2 : Nat) : (s.ev code src p0 p1 p2).ladder = s.ladder := by
  unfold State.ev; dsimp only; split_ifs <;> simp only [State.evDrop_ladder, State.evPut_ladder, State.evMark_ladder]
@[simp] theorem State.ev_isolating (code src p0 p1 p2 : Nat) : (s.ev code src p0 p1 p2).isolating = s.isolating := by
  unfold State.ev; dsimp only; split_ifs <;> simp only [State.evDrop_isolating, State.evPut_isolating, State.evMark_isolating]
@[simp] theorem State.ev_cycling (code src p0 p1 p2 : Nat) : (s.ev code src p0 p1 p2).cycling = s.cycling := by
  unfold State.ev; dsimp only; split_ifs <;> simp only [State.evDrop_cycling, State.evPut_cycling, State.evMark_cycling]
@[simp] theorem State.ev_faults (code src p0 p1 p2 : Nat) : (s.ev code src p0 p1 p2).faults = s.faults := by
  unfold State.ev; dsimp only; split_ifs <;> simp only [State.evDrop_faults, State.evPut_faults, State.evMark_faults]
@[simp] theorem State.ev_faultHeld (code src p0 p1 p2 : Nat) : (s.ev code src p0 p1 p2).faultHeld = s.faultHeld := by
  unfold State.ev; dsimp only; split_ifs <;> simp only [State.evDrop_faultHeld, State.evPut_faultHeld, State.evMark_faultHeld]
@[simp] theorem State.ev_genClk (code src p0 p1 p2 : Nat) : (s.ev code src p0 p1 p2).genClk = s.genClk := by
  unfold State.ev; dsimp only; split_ifs <;> simp only [State.evDrop_genClk, State.evPut_genClk, State.evMark_genClk]
@[simp] theorem State.ev_ash (code src p0 p1 p2 : Nat) : (s.ev code src p0 p1 p2).ash = s.ash := by
  unfold State.ev; dsimp only; split_ifs <;> simp only [State.evDrop_ash, State.evPut_ash, State.evMark_ash]
@[simp] theorem State.ev_badCols (code src p0 p1 p2 : Nat) : (s.ev code src p0 p1 p2).badCols = s.badCols := by
  unfold State.ev; dsimp only; split_ifs <;> simp only [State.evDrop_badCols, State.evPut_badCols, State.evMark_badCols]
@[simp] theorem State.ev_residue (code src p0 p1 p2 : Nat) : (s.ev code src p0 p1 p2).residue = s.residue := by
  unfold State.ev; dsimp only; split_ifs <;> simp only [State.evDrop_residue, State.evPut_residue, State.evMark_residue]
@[simp] theorem State.ev_storeDue (code src p0 p1 p2 : Nat) : (s.ev code src p0 p1 p2).storeDue = s.storeDue := by
  unfold State.ev; dsimp only; split_ifs <;> simp only [State.evDrop_storeDue, State.evPut_storeDue, State.evMark_storeDue]
@[simp] theorem State.ev_spareDoubt (code src p0 p1 p2 : Nat) : (s.ev code src p0 p1 p2).spareDoubt = s.spareDoubt := by
  unfold State.ev; dsimp only; split_ifs <;> simp only [State.evDrop_spareDoubt, State.evPut_spareDoubt, State.evMark_spareDoubt]
@[simp] theorem State.ev_spareLast (code src p0 p1 p2 : Nat) : (s.ev code src p0 p1 p2).spareLast = s.spareLast := by
  unfold State.ev; dsimp only; split_ifs <;> simp only [State.evDrop_spareLast, State.evPut_spareLast, State.evMark_spareLast]
@[simp] theorem State.ev_nvm (code src p0 p1 p2 : Nat) : (s.ev code src p0 p1 p2).nvm = s.nvm := by
  unfold State.ev; dsimp only; split_ifs <;> simp only [State.evDrop_nvm, State.evPut_nvm, State.evMark_nvm]
@[simp] theorem State.ev_nvmq (code src p0 p1 p2 : Nat) : (s.ev code src p0 p1 p2).nvmq = s.nvmq := by
  unfold State.ev; dsimp only; split_ifs <;> simp only [State.evDrop_nvmq, State.evPut_nvmq, State.evMark_nvmq]
@[simp] theorem State.ev_time (code src p0 p1 p2 : Nat) : (s.ev code src p0 p1 p2).time = s.time := by
  unfold State.ev; dsimp only; split_ifs <;> simp only [State.evDrop_time, State.evPut_time, State.evMark_time]
@[simp] theorem State.ev_ctl (code src p0 p1 p2 : Nat) : (s.ev code src p0 p1 p2).ctl = s.ctl := by
  unfold State.ev; dsimp only; split_ifs <;> simp only [State.evDrop_ctl, State.evPut_ctl, State.evMark_ctl]
@[simp] theorem State.ev_latches (code src p0 p1 p2 : Nat) : (s.ev code src p0 p1 p2).latches = s.latches := by
  unfold State.ev; dsimp only; split_ifs <;> simp only [State.evDrop_latches, State.evPut_latches, State.evMark_latches]
@[simp] theorem State.ev_outSeq (code src p0 p1 p2 : Nat) : (s.ev code src p0 p1 p2).outSeq = s.outSeq := by
  unfold State.ev; dsimp only; split_ifs <;> simp only [State.evDrop_outSeq, State.evPut_outSeq, State.evMark_outSeq]
@[simp] theorem State.ev_power (code src p0 p1 p2 : Nat) : (s.ev code src p0 p1 p2).power = s.power := by
  unfold State.ev; dsimp only; split_ifs <;> simp only [State.evDrop_power, State.evPut_power, State.evMark_power]
@[simp] theorem State.ev_start (code src p0 p1 p2 : Nat) : (s.ev code src p0 p1 p2).start = s.start := by
  unfold State.ev; dsimp only; split_ifs <;> simp only [State.evDrop_start, State.evPut_start, State.evMark_start]
@[simp] theorem State.ev_update (code src p0 p1 p2 : Nat) : (s.ev code src p0 p1 p2).update = s.update := by
  unfold State.ev; dsimp only; split_ifs <;> simp only [State.evDrop_update, State.evPut_update, State.evMark_update]
@[simp] theorem State.ev_audit (code src p0 p1 p2 : Nat) : (s.ev code src p0 p1 p2).audit = s.audit := by
  unfold State.ev; dsimp only; split_ifs <;> simp only [State.evDrop_audit, State.evPut_audit, State.evMark_audit]
@[simp] theorem State.ev_auditBad (code src p0 p1 p2 : Nat) : (s.ev code src p0 p1 p2).auditBad = s.auditBad := by
  unfold State.ev; dsimp only; split_ifs <;> simp only [State.evDrop_auditBad, State.evPut_auditBad, State.evMark_auditBad]

/-! ### State.arbGrant -/

@[simp] theorem State.arbGrant_pending : (s.arbGrant).pending = s.pending := by
  unfold State.arbGrant; dsimp only; split_ifs <;> simp only [State.addPair_pending, State.setFld_pending]
@[simp] theorem State.arbGrant_phase : (s.arbGrant).phase = s.phase := by
  unfold State.arbGrant; dsimp only; split_ifs <;> simp only [State.addPair_phase, State.setFld_phase]
@[simp] theorem State.arbGrant_clk : (s.arbGrant).clk = s.clk := by
  unfold State.arbGrant; dsimp only; split_ifs <;> simp only [State.addPair_clk, State.setFld_clk]
@[simp] theorem State.arbGrant_pins : (s.arbGrant).pins = s.pins := by
  unfold State.arbGrant; dsimp only; split_ifs <;> simp only [State.addPair_pins, State.setFld_pins]
@[simp] theorem State.arbGrant_reqRegs : (s.arbGrant).reqRegs = s.reqRegs := by
  unfold State.arbGrant; dsimp only; split_ifs <;> simp only [State.addPair_reqRegs, State.setFld_reqRegs]
@[simp] theorem State.arbGrant_wire : (s.arbGrant).wire = s.wire := by
  unfold State.arbGrant; dsimp only; split_ifs <;> simp only [State.addPair_wire, State.setFld_wire]
@[simp] theorem State.arbGrant_free : (s.arbGrant).free = s.free := by
  unfold State.arbGrant; dsimp only; split_ifs <;> simp only [State.addPair_free, State.setFld_free]
@[simp] theorem State.arbGrant_ctxs : (s.arbGrant).ctxs = s.ctxs := by
  unfold State.arbGrant; dsimp only; split_ifs <;> simp only [State.addPair_ctxs, State.setFld_ctxs]
@[simp] theorem State.arbGrant_slots : (s.arbGrant).slots = s.slots := by
  unfold State.arbGrant; dsimp only; split_ifs <;> simp only [State.addPair_slots, State.setFld_slots]
@[simp] theorem State.arbGrant_parts : (s.arbGrant).parts = s.parts := by
  unfold State.arbGrant; dsimp only; split_ifs <;> simp only [State.addPair_parts, State.setFld_parts]
@[simp] theorem State.arbGrant_syncWaits : (s.arbGrant).syncWaits = s.syncWaits := by
  unfold State.arbGrant; dsimp only; split_ifs <;> simp only [State.addPair_syncWaits, State.setFld_syncWaits]
@[simp] theorem State.arbGrant_inProg : (s.arbGrant).inProg = s.inProg := by
  unfold State.arbGrant; dsimp only; split_ifs <;> simp only [State.addPair_inProg, State.setFld_inProg]
@[simp] theorem State.arbGrant_mem : (s.arbGrant).mem = s.mem := by
  unfold State.arbGrant; dsimp only; split_ifs <;> simp only [State.addPair_mem, State.setFld_mem]
@[simp] theorem State.arbGrant_sram : (s.arbGrant).sram = s.sram := by
  unfold State.arbGrant; dsimp only; split_ifs <;> simp only [State.addPair_sram, State.setFld_sram]
@[simp] theorem State.arbGrant_sramResets : (s.arbGrant).sramResets = s.sramResets := by
  unfold State.arbGrant; dsimp only; split_ifs <;> simp only [State.addPair_sramResets, State.setFld_sramResets]
@[simp] theorem State.arbGrant_coreParts : (s.arbGrant).coreParts = s.coreParts := by
  unfold State.arbGrant; dsimp only; split_ifs <;> simp only [State.addPair_coreParts, State.setFld_coreParts]
@[simp] theorem State.arbGrant_badGranules : (s.arbGrant).badGranules = s.badGranules := by
  unfold State.arbGrant; dsimp only; split_ifs <;> simp only [State.addPair_badGranules, State.setFld_badGranules]
@[simp] theorem State.arbGrant_faint : (s.arbGrant).faint = s.faint := by
  unfold State.arbGrant; dsimp only; split_ifs <;> simp only [State.addPair_faint, State.setFld_faint]
@[simp] theorem State.arbGrant_bursts : (s.arbGrant).bursts = s.bursts := by
  unfold State.arbGrant; dsimp only; split_ifs <;> simp only [State.addPair_bursts, State.setFld_bursts]
@[simp] theorem State.arbGrant_memKeys : (s.arbGrant).memKeys = s.memKeys := by
  unfold State.arbGrant; dsimp only; split_ifs <;> simp only [State.addPair_memKeys, State.setFld_memKeys]
@[simp] theorem State.arbGrant_hashKey : (s.arbGrant).hashKey = s.hashKey := by
  unfold State.arbGrant; dsimp only; split_ifs <;> simp only [State.addPair_hashKey, State.setFld_hashKey]
@[simp] theorem State.arbGrant_zeroing : (s.arbGrant).zeroing = s.zeroing := by
  unfold State.arbGrant; dsimp only; split_ifs <;> simp only [State.addPair_zeroing, State.setFld_zeroing]
@[simp] theorem State.arbGrant_reqSlots : (s.arbGrant).reqSlots = s.reqSlots := by
  unfold State.arbGrant; dsimp only; split_ifs <;> simp only [State.addPair_reqSlots, State.setFld_reqSlots]
@[simp] theorem State.arbGrant_slotWait : (s.arbGrant).slotWait = s.slotWait := by
  unfold State.arbGrant; dsimp only; split_ifs <;> simp only [State.addPair_slotWait, State.setFld_slotWait]
@[simp] theorem State.arbGrant_queues : (s.arbGrant).queues = s.queues := by
  unfold State.arbGrant; dsimp only; split_ifs <;> simp only [State.addPair_queues, State.setFld_queues]
@[simp] theorem State.arbGrant_turns : (s.arbGrant).turns = s.turns := by
  unfold State.arbGrant; dsimp only; split_ifs <;> simp only [State.addPair_turns, State.setFld_turns]
@[simp] theorem State.arbGrant_waiting : (s.arbGrant).waiting = s.waiting := by
  unfold State.arbGrant; dsimp only; split_ifs <;> simp only [State.addPair_waiting, State.setFld_waiting]
@[simp] theorem State.arbGrant_resync : (s.arbGrant).resync = s.resync := by
  unfold State.arbGrant; dsimp only; split_ifs <;> simp only [State.addPair_resync, State.setFld_resync]
@[simp] theorem State.arbGrant_credits : (s.arbGrant).credits = s.credits := by
  unfold State.arbGrant; dsimp only; split_ifs <;> simp only [State.addPair_credits, State.setFld_credits]
@[simp] theorem State.arbGrant_ports : (s.arbGrant).ports = s.ports := by
  unfold State.arbGrant; dsimp only; split_ifs <;> simp only [State.addPair_ports, State.setFld_ports]
@[simp] theorem State.arbGrant_eyes : (s.arbGrant).eyes = s.eyes := by
  unfold State.arbGrant; dsimp only; split_ifs <;> simp only [State.addPair_eyes, State.setFld_eyes]
@[simp] theorem State.arbGrant_rackAdopted : (s.arbGrant).rackAdopted = s.rackAdopted := by
  unfold State.arbGrant; dsimp only; split_ifs <;> simp only [State.addPair_rackAdopted, State.setFld_rackAdopted]
@[simp] theorem State.arbGrant_dmaRun : (s.arbGrant).dmaRun = s.dmaRun := by
  unfold State.arbGrant; dsimp only; split_ifs <;> simp only [State.addPair_dmaRun, State.setFld_dmaRun]
@[simp] theorem State.arbGrant_dmaLast : (s.arbGrant).dmaLast = s.dmaLast := by
  unfold State.arbGrant; dsimp only; split_ifs <;> simp only [State.addPair_dmaLast, State.setFld_dmaLast]
@[simp] theorem State.arbGrant_groups : (s.arbGrant).groups = s.groups := by
  unfold State.arbGrant; dsimp only; split_ifs <;> simp only [State.addPair_groups, State.setFld_groups]
@[simp] theorem State.arbGrant_carTurns : (s.arbGrant).carTurns = s.carTurns := by
  unfold State.arbGrant; dsimp only; split_ifs <;> simp only [State.addPair_carTurns, State.setFld_carTurns]
@[simp] theorem State.arbGrant_bank : (s.arbGrant).bank = s.bank := by
  unfold State.arbGrant; dsimp only; split_ifs <;> simp only [State.addPair_bank, State.setFld_bank]
@[simp] theorem State.arbGrant_rankTabs : (s.arbGrant).rankTabs = s.rankTabs := by
  unfold State.arbGrant; dsimp only; split_ifs <;> simp only [State.addPair_rankTabs, State.setFld_rankTabs]
@[simp] theorem State.arbGrant_copies : (s.arbGrant).copies = s.copies := by
  unfold State.arbGrant; dsimp only; split_ifs <;> simp only [State.addPair_copies, State.setFld_copies]
@[simp] theorem State.arbGrant_ceHour : (s.arbGrant).ceHour = s.ceHour := by
  unfold State.arbGrant; dsimp only; split_ifs <;> simp only [State.addPair_ceHour, State.setFld_ceHour]
@[simp] theorem State.arbGrant_hotRuns : (s.arbGrant).hotRuns = s.hotRuns := by
  unfold State.arbGrant; dsimp only; split_ifs <;> simp only [State.addPair_hotRuns, State.setFld_hotRuns]
@[simp] theorem State.arbGrant_sessions : (s.arbGrant).sessions = s.sessions := by
  unfold State.arbGrant; dsimp only; split_ifs <;> simp only [State.addPair_sessions, State.setFld_sessions]
@[simp] theorem State.arbGrant_nonces : (s.arbGrant).nonces = s.nonces := by
  unfold State.arbGrant; dsimp only; split_ifs <;> simp only [State.addPair_nonces, State.setFld_nonces]
@[simp] theorem State.arbGrant_evq : (s.arbGrant).evq = s.evq := by
  unfold State.arbGrant; dsimp only; split_ifs <;> simp only [State.addPair_evq, State.setFld_evq]
@[simp] theorem State.arbGrant_recs : (s.arbGrant).recs = s.recs := by
  unfold State.arbGrant; dsimp only; split_ifs <;> simp only [State.addPair_recs, State.setFld_recs]
@[simp] theorem State.arbGrant_recBad : (s.arbGrant).recBad = s.recBad := by
  unfold State.arbGrant; dsimp only; split_ifs <;> simp only [State.addPair_recBad, State.setFld_recBad]
@[simp] theorem State.arbGrant_evLost : (s.arbGrant).evLost = s.evLost := by
  unfold State.arbGrant; dsimp only; split_ifs <;> simp only [State.addPair_evLost, State.setFld_evLost]
@[simp] theorem State.arbGrant_resetReqs : (s.arbGrant).resetReqs = s.resetReqs := by
  unfold State.arbGrant; dsimp only; split_ifs <;> simp only [State.addPair_resetReqs, State.setFld_resetReqs]
@[simp] theorem State.arbGrant_resets : (s.arbGrant).resets = s.resets := by
  unfold State.arbGrant; dsimp only; split_ifs <;> simp only [State.addPair_resets, State.setFld_resets]
@[simp] theorem State.arbGrant_ladder : (s.arbGrant).ladder = s.ladder := by
  unfold State.arbGrant; dsimp only; split_ifs <;> simp only [State.addPair_ladder, State.setFld_ladder]
@[simp] theorem State.arbGrant_isolating : (s.arbGrant).isolating = s.isolating := by
  unfold State.arbGrant; dsimp only; split_ifs <;> simp only [State.addPair_isolating, State.setFld_isolating]
@[simp] theorem State.arbGrant_cycling : (s.arbGrant).cycling = s.cycling := by
  unfold State.arbGrant; dsimp only; split_ifs <;> simp only [State.addPair_cycling, State.setFld_cycling]
@[simp] theorem State.arbGrant_faults : (s.arbGrant).faults = s.faults := by
  unfold State.arbGrant; dsimp only; split_ifs <;> simp only [State.addPair_faults, State.setFld_faults]
@[simp] theorem State.arbGrant_faultHeld : (s.arbGrant).faultHeld = s.faultHeld := by
  unfold State.arbGrant; dsimp only; split_ifs <;> simp only [State.addPair_faultHeld, State.setFld_faultHeld]
@[simp] theorem State.arbGrant_genClk : (s.arbGrant).genClk = s.genClk := by
  unfold State.arbGrant; dsimp only; split_ifs <;> simp only [State.addPair_genClk, State.setFld_genClk]
@[simp] theorem State.arbGrant_ash : (s.arbGrant).ash = s.ash := by
  unfold State.arbGrant; dsimp only; split_ifs <;> simp only [State.addPair_ash, State.setFld_ash]
@[simp] theorem State.arbGrant_badCols : (s.arbGrant).badCols = s.badCols := by
  unfold State.arbGrant; dsimp only; split_ifs <;> simp only [State.addPair_badCols, State.setFld_badCols]
@[simp] theorem State.arbGrant_residue : (s.arbGrant).residue = s.residue := by
  unfold State.arbGrant; dsimp only; split_ifs <;> simp only [State.addPair_residue, State.setFld_residue]
@[simp] theorem State.arbGrant_storeDue : (s.arbGrant).storeDue = s.storeDue := by
  unfold State.arbGrant; dsimp only; split_ifs <;> simp only [State.addPair_storeDue, State.setFld_storeDue]
@[simp] theorem State.arbGrant_spareDoubt : (s.arbGrant).spareDoubt = s.spareDoubt := by
  unfold State.arbGrant; dsimp only; split_ifs <;> simp only [State.addPair_spareDoubt, State.setFld_spareDoubt]
@[simp] theorem State.arbGrant_spareLast : (s.arbGrant).spareLast = s.spareLast := by
  unfold State.arbGrant; dsimp only; split_ifs <;> simp only [State.addPair_spareLast, State.setFld_spareLast]
@[simp] theorem State.arbGrant_nvm : (s.arbGrant).nvm = s.nvm := by
  unfold State.arbGrant; dsimp only; split_ifs <;> simp only [State.addPair_nvm, State.setFld_nvm]
@[simp] theorem State.arbGrant_nvmq : (s.arbGrant).nvmq = s.nvmq := by
  unfold State.arbGrant; dsimp only; split_ifs <;> simp only [State.addPair_nvmq, State.setFld_nvmq]
@[simp] theorem State.arbGrant_time : (s.arbGrant).time = s.time := by
  unfold State.arbGrant; dsimp only; split_ifs <;> simp only [State.addPair_time, State.setFld_time]
@[simp] theorem State.arbGrant_ctl : (s.arbGrant).ctl = s.ctl := by
  unfold State.arbGrant; dsimp only; split_ifs <;> simp only [State.addPair_ctl, State.setFld_ctl]
@[simp] theorem State.arbGrant_latches : (s.arbGrant).latches = s.latches := by
  unfold State.arbGrant; dsimp only; split_ifs <;> simp only [State.addPair_latches, State.setFld_latches]
@[simp] theorem State.arbGrant_outSeq : (s.arbGrant).outSeq = s.outSeq := by
  unfold State.arbGrant; dsimp only; split_ifs <;> simp only [State.addPair_outSeq, State.setFld_outSeq]
@[simp] theorem State.arbGrant_power : (s.arbGrant).power = s.power := by
  unfold State.arbGrant; dsimp only; split_ifs <;> simp only [State.addPair_power, State.setFld_power]
@[simp] theorem State.arbGrant_start : (s.arbGrant).start = s.start := by
  unfold State.arbGrant; dsimp only; split_ifs <;> simp only [State.addPair_start, State.setFld_start]
@[simp] theorem State.arbGrant_update : (s.arbGrant).update = s.update := by
  unfold State.arbGrant; dsimp only; split_ifs <;> simp only [State.addPair_update, State.setFld_update]
@[simp] theorem State.arbGrant_audit : (s.arbGrant).audit = s.audit := by
  unfold State.arbGrant; dsimp only; split_ifs <;> simp only [State.addPair_audit, State.setFld_audit]
@[simp] theorem State.arbGrant_auditBad : (s.arbGrant).auditBad = s.auditBad := by
  unfold State.arbGrant; dsimp only; split_ifs <;> simp only [State.addPair_auditBad, State.setFld_auditBad]

/-! ### State.alertSync -/

@[simp] theorem State.alertSync_pending : (s.alertSync).pending = s.pending := by
  unfold State.alertSync; dsimp only; split_ifs <;> simp only [State.ev_pending, State.setFlag_pending]
@[simp] theorem State.alertSync_phase : (s.alertSync).phase = s.phase := by
  unfold State.alertSync; dsimp only; split_ifs <;> simp only [State.ev_phase, State.setFlag_phase]
@[simp] theorem State.alertSync_clk : (s.alertSync).clk = s.clk := by
  unfold State.alertSync; dsimp only; split_ifs <;> simp only [State.ev_clk, State.setFlag_clk]
@[simp] theorem State.alertSync_pins : (s.alertSync).pins = s.pins := by
  unfold State.alertSync; dsimp only; split_ifs <;> simp only [State.ev_pins, State.setFlag_pins]
@[simp] theorem State.alertSync_reqRegs : (s.alertSync).reqRegs = s.reqRegs := by
  unfold State.alertSync; dsimp only; split_ifs <;> simp only [State.ev_reqRegs, State.setFlag_reqRegs]
@[simp] theorem State.alertSync_wire : (s.alertSync).wire = s.wire := by
  unfold State.alertSync; dsimp only; split_ifs <;> simp only [State.ev_wire, State.setFlag_wire]
@[simp] theorem State.alertSync_free : (s.alertSync).free = s.free := by
  unfold State.alertSync; dsimp only; split_ifs <;> simp only [State.ev_free, State.setFlag_free]
@[simp] theorem State.alertSync_ctxs : (s.alertSync).ctxs = s.ctxs := by
  unfold State.alertSync; dsimp only; split_ifs <;> simp only [State.ev_ctxs, State.setFlag_ctxs]
@[simp] theorem State.alertSync_slots : (s.alertSync).slots = s.slots := by
  unfold State.alertSync; dsimp only; split_ifs <;> simp only [State.ev_slots, State.setFlag_slots]
@[simp] theorem State.alertSync_parts : (s.alertSync).parts = s.parts := by
  unfold State.alertSync; dsimp only; split_ifs <;> simp only [State.ev_parts, State.setFlag_parts]
@[simp] theorem State.alertSync_syncWaits : (s.alertSync).syncWaits = s.syncWaits := by
  unfold State.alertSync; dsimp only; split_ifs <;> simp only [State.ev_syncWaits, State.setFlag_syncWaits]
@[simp] theorem State.alertSync_inProg : (s.alertSync).inProg = s.inProg := by
  unfold State.alertSync; dsimp only; split_ifs <;> simp only [State.ev_inProg, State.setFlag_inProg]
@[simp] theorem State.alertSync_mem : (s.alertSync).mem = s.mem := by
  unfold State.alertSync; dsimp only; split_ifs <;> simp only [State.ev_mem, State.setFlag_mem]
@[simp] theorem State.alertSync_sram : (s.alertSync).sram = s.sram := by
  unfold State.alertSync; dsimp only; split_ifs <;> simp only [State.ev_sram, State.setFlag_sram]
@[simp] theorem State.alertSync_sramResets : (s.alertSync).sramResets = s.sramResets := by
  unfold State.alertSync; dsimp only; split_ifs <;> simp only [State.ev_sramResets, State.setFlag_sramResets]
@[simp] theorem State.alertSync_coreParts : (s.alertSync).coreParts = s.coreParts := by
  unfold State.alertSync; dsimp only; split_ifs <;> simp only [State.ev_coreParts, State.setFlag_coreParts]
@[simp] theorem State.alertSync_badGranules : (s.alertSync).badGranules = s.badGranules := by
  unfold State.alertSync; dsimp only; split_ifs <;> simp only [State.ev_badGranules, State.setFlag_badGranules]
@[simp] theorem State.alertSync_faint : (s.alertSync).faint = s.faint := by
  unfold State.alertSync; dsimp only; split_ifs <;> simp only [State.ev_faint, State.setFlag_faint]
@[simp] theorem State.alertSync_bursts : (s.alertSync).bursts = s.bursts := by
  unfold State.alertSync; dsimp only; split_ifs <;> simp only [State.ev_bursts, State.setFlag_bursts]
@[simp] theorem State.alertSync_memKeys : (s.alertSync).memKeys = s.memKeys := by
  unfold State.alertSync; dsimp only; split_ifs <;> simp only [State.ev_memKeys, State.setFlag_memKeys]
@[simp] theorem State.alertSync_hashKey : (s.alertSync).hashKey = s.hashKey := by
  unfold State.alertSync; dsimp only; split_ifs <;> simp only [State.ev_hashKey, State.setFlag_hashKey]
@[simp] theorem State.alertSync_zeroing : (s.alertSync).zeroing = s.zeroing := by
  unfold State.alertSync; dsimp only; split_ifs <;> simp only [State.ev_zeroing, State.setFlag_zeroing]
@[simp] theorem State.alertSync_reqSlots : (s.alertSync).reqSlots = s.reqSlots := by
  unfold State.alertSync; dsimp only; split_ifs <;> simp only [State.ev_reqSlots, State.setFlag_reqSlots]
@[simp] theorem State.alertSync_slotWait : (s.alertSync).slotWait = s.slotWait := by
  unfold State.alertSync; dsimp only; split_ifs <;> simp only [State.ev_slotWait, State.setFlag_slotWait]
@[simp] theorem State.alertSync_queues : (s.alertSync).queues = s.queues := by
  unfold State.alertSync; dsimp only; split_ifs <;> simp only [State.ev_queues, State.setFlag_queues]
@[simp] theorem State.alertSync_turns : (s.alertSync).turns = s.turns := by
  unfold State.alertSync; dsimp only; split_ifs <;> simp only [State.ev_turns, State.setFlag_turns]
@[simp] theorem State.alertSync_waiting : (s.alertSync).waiting = s.waiting := by
  unfold State.alertSync; dsimp only; split_ifs <;> simp only [State.ev_waiting, State.setFlag_waiting]
@[simp] theorem State.alertSync_resync : (s.alertSync).resync = s.resync := by
  unfold State.alertSync; dsimp only; split_ifs <;> simp only [State.ev_resync, State.setFlag_resync]
@[simp] theorem State.alertSync_credits : (s.alertSync).credits = s.credits := by
  unfold State.alertSync; dsimp only; split_ifs <;> simp only [State.ev_credits, State.setFlag_credits]
@[simp] theorem State.alertSync_ports : (s.alertSync).ports = s.ports := by
  unfold State.alertSync; dsimp only; split_ifs <;> simp only [State.ev_ports, State.setFlag_ports]
@[simp] theorem State.alertSync_eyes : (s.alertSync).eyes = s.eyes := by
  unfold State.alertSync; dsimp only; split_ifs <;> simp only [State.ev_eyes, State.setFlag_eyes]
@[simp] theorem State.alertSync_rackAdopted : (s.alertSync).rackAdopted = s.rackAdopted := by
  unfold State.alertSync; dsimp only; split_ifs <;> simp only [State.ev_rackAdopted, State.setFlag_rackAdopted]
@[simp] theorem State.alertSync_dmaRun : (s.alertSync).dmaRun = s.dmaRun := by
  unfold State.alertSync; dsimp only; split_ifs <;> simp only [State.ev_dmaRun, State.setFlag_dmaRun]
@[simp] theorem State.alertSync_dmaLast : (s.alertSync).dmaLast = s.dmaLast := by
  unfold State.alertSync; dsimp only; split_ifs <;> simp only [State.ev_dmaLast, State.setFlag_dmaLast]
@[simp] theorem State.alertSync_groups : (s.alertSync).groups = s.groups := by
  unfold State.alertSync; dsimp only; split_ifs <;> simp only [State.ev_groups, State.setFlag_groups]
@[simp] theorem State.alertSync_carTurns : (s.alertSync).carTurns = s.carTurns := by
  unfold State.alertSync; dsimp only; split_ifs <;> simp only [State.ev_carTurns, State.setFlag_carTurns]
@[simp] theorem State.alertSync_bank : (s.alertSync).bank = s.bank := by
  unfold State.alertSync; dsimp only; split_ifs <;> simp only [State.ev_bank, State.setFlag_bank]
@[simp] theorem State.alertSync_rankTabs : (s.alertSync).rankTabs = s.rankTabs := by
  unfold State.alertSync; dsimp only; split_ifs <;> simp only [State.ev_rankTabs, State.setFlag_rankTabs]
@[simp] theorem State.alertSync_copies : (s.alertSync).copies = s.copies := by
  unfold State.alertSync; dsimp only; split_ifs <;> simp only [State.ev_copies, State.setFlag_copies]
@[simp] theorem State.alertSync_ceHour : (s.alertSync).ceHour = s.ceHour := by
  unfold State.alertSync; dsimp only; split_ifs <;> simp only [State.ev_ceHour, State.setFlag_ceHour]
@[simp] theorem State.alertSync_hotRuns : (s.alertSync).hotRuns = s.hotRuns := by
  unfold State.alertSync; dsimp only; split_ifs <;> simp only [State.ev_hotRuns, State.setFlag_hotRuns]
@[simp] theorem State.alertSync_sessions : (s.alertSync).sessions = s.sessions := by
  unfold State.alertSync; dsimp only; split_ifs <;> simp only [State.ev_sessions, State.setFlag_sessions]
@[simp] theorem State.alertSync_nonces : (s.alertSync).nonces = s.nonces := by
  unfold State.alertSync; dsimp only; split_ifs <;> simp only [State.ev_nonces, State.setFlag_nonces]
@[simp] theorem State.alertSync_recs : (s.alertSync).recs = s.recs := by
  unfold State.alertSync; dsimp only; split_ifs <;> simp only [State.ev_recs, State.setFlag_recs]
@[simp] theorem State.alertSync_recBad : (s.alertSync).recBad = s.recBad := by
  unfold State.alertSync; dsimp only; split_ifs <;> simp only [State.ev_recBad, State.setFlag_recBad]
@[simp] theorem State.alertSync_resetReqs : (s.alertSync).resetReqs = s.resetReqs := by
  unfold State.alertSync; dsimp only; split_ifs <;> simp only [State.ev_resetReqs, State.setFlag_resetReqs]
@[simp] theorem State.alertSync_resets : (s.alertSync).resets = s.resets := by
  unfold State.alertSync; dsimp only; split_ifs <;> simp only [State.ev_resets, State.setFlag_resets]
@[simp] theorem State.alertSync_ladder : (s.alertSync).ladder = s.ladder := by
  unfold State.alertSync; dsimp only; split_ifs <;> simp only [State.ev_ladder, State.setFlag_ladder]
@[simp] theorem State.alertSync_isolating : (s.alertSync).isolating = s.isolating := by
  unfold State.alertSync; dsimp only; split_ifs <;> simp only [State.ev_isolating, State.setFlag_isolating]
@[simp] theorem State.alertSync_cycling : (s.alertSync).cycling = s.cycling := by
  unfold State.alertSync; dsimp only; split_ifs <;> simp only [State.ev_cycling, State.setFlag_cycling]
@[simp] theorem State.alertSync_faults : (s.alertSync).faults = s.faults := by
  unfold State.alertSync; dsimp only; split_ifs <;> simp only [State.ev_faults, State.setFlag_faults]
@[simp] theorem State.alertSync_faultHeld : (s.alertSync).faultHeld = s.faultHeld := by
  unfold State.alertSync; dsimp only; split_ifs <;> simp only [State.ev_faultHeld, State.setFlag_faultHeld]
@[simp] theorem State.alertSync_genClk : (s.alertSync).genClk = s.genClk := by
  unfold State.alertSync; dsimp only; split_ifs <;> simp only [State.ev_genClk, State.setFlag_genClk]
@[simp] theorem State.alertSync_ash : (s.alertSync).ash = s.ash := by
  unfold State.alertSync; dsimp only; split_ifs <;> simp only [State.ev_ash, State.setFlag_ash]
@[simp] theorem State.alertSync_badCols : (s.alertSync).badCols = s.badCols := by
  unfold State.alertSync; dsimp only; split_ifs <;> simp only [State.ev_badCols, State.setFlag_badCols]
@[simp] theorem State.alertSync_residue : (s.alertSync).residue = s.residue := by
  unfold State.alertSync; dsimp only; split_ifs <;> simp only [State.ev_residue, State.setFlag_residue]
@[simp] theorem State.alertSync_storeDue : (s.alertSync).storeDue = s.storeDue := by
  unfold State.alertSync; dsimp only; split_ifs <;> simp only [State.ev_storeDue, State.setFlag_storeDue]
@[simp] theorem State.alertSync_spareDoubt : (s.alertSync).spareDoubt = s.spareDoubt := by
  unfold State.alertSync; dsimp only; split_ifs <;> simp only [State.ev_spareDoubt, State.setFlag_spareDoubt]
@[simp] theorem State.alertSync_spareLast : (s.alertSync).spareLast = s.spareLast := by
  unfold State.alertSync; dsimp only; split_ifs <;> simp only [State.ev_spareLast, State.setFlag_spareLast]
@[simp] theorem State.alertSync_nvm : (s.alertSync).nvm = s.nvm := by
  unfold State.alertSync; dsimp only; split_ifs <;> simp only [State.ev_nvm, State.setFlag_nvm]
@[simp] theorem State.alertSync_nvmq : (s.alertSync).nvmq = s.nvmq := by
  unfold State.alertSync; dsimp only; split_ifs <;> simp only [State.ev_nvmq, State.setFlag_nvmq]
@[simp] theorem State.alertSync_time : (s.alertSync).time = s.time := by
  unfold State.alertSync; dsimp only; split_ifs <;> simp only [State.ev_time, State.setFlag_time]
@[simp] theorem State.alertSync_ctl : (s.alertSync).ctl = s.ctl := by
  unfold State.alertSync; dsimp only; split_ifs <;> simp only [State.ev_ctl, State.setFlag_ctl]
@[simp] theorem State.alertSync_latches : (s.alertSync).latches = s.latches := by
  unfold State.alertSync; dsimp only; split_ifs <;> simp only [State.ev_latches, State.setFlag_latches]
@[simp] theorem State.alertSync_outSeq : (s.alertSync).outSeq = s.outSeq := by
  unfold State.alertSync; dsimp only; split_ifs <;> simp only [State.ev_outSeq, State.setFlag_outSeq]
@[simp] theorem State.alertSync_power : (s.alertSync).power = s.power := by
  unfold State.alertSync; dsimp only; split_ifs <;> simp only [State.ev_power, State.setFlag_power]
@[simp] theorem State.alertSync_start : (s.alertSync).start = s.start := by
  unfold State.alertSync; dsimp only; split_ifs <;> simp only [State.ev_start, State.setFlag_start]
@[simp] theorem State.alertSync_update : (s.alertSync).update = s.update := by
  unfold State.alertSync; dsimp only; split_ifs <;> simp only [State.ev_update, State.setFlag_update]
@[simp] theorem State.alertSync_audit : (s.alertSync).audit = s.audit := by
  unfold State.alertSync; dsimp only; split_ifs <;> simp only [State.ev_audit, State.setFlag_audit]
@[simp] theorem State.alertSync_auditBad : (s.alertSync).auditBad = s.auditBad := by
  unfold State.alertSync; dsimp only; split_ifs <;> simp only [State.ev_auditBad, State.setFlag_auditBad]

/-! ### State.alert -/

@[simp] theorem State.alert_pending (f : Fld) : (s.alert f).pending = s.pending := by
  simp only [State.alert, State.alertSync_pending, State.setFlag_pending]
@[simp] theorem State.alert_phase (f : Fld) : (s.alert f).phase = s.phase := by
  simp only [State.alert, State.alertSync_phase, State.setFlag_phase]
@[simp] theorem State.alert_clk (f : Fld) : (s.alert f).clk = s.clk := by
  simp only [State.alert, State.alertSync_clk, State.setFlag_clk]
@[simp] theorem State.alert_pins (f : Fld) : (s.alert f).pins = s.pins := by
  simp only [State.alert, State.alertSync_pins, State.setFlag_pins]
@[simp] theorem State.alert_reqRegs (f : Fld) : (s.alert f).reqRegs = s.reqRegs := by
  simp only [State.alert, State.alertSync_reqRegs, State.setFlag_reqRegs]
@[simp] theorem State.alert_wire (f : Fld) : (s.alert f).wire = s.wire := by
  simp only [State.alert, State.alertSync_wire, State.setFlag_wire]
@[simp] theorem State.alert_free (f : Fld) : (s.alert f).free = s.free := by
  simp only [State.alert, State.alertSync_free, State.setFlag_free]
@[simp] theorem State.alert_ctxs (f : Fld) : (s.alert f).ctxs = s.ctxs := by
  simp only [State.alert, State.alertSync_ctxs, State.setFlag_ctxs]
@[simp] theorem State.alert_slots (f : Fld) : (s.alert f).slots = s.slots := by
  simp only [State.alert, State.alertSync_slots, State.setFlag_slots]
@[simp] theorem State.alert_parts (f : Fld) : (s.alert f).parts = s.parts := by
  simp only [State.alert, State.alertSync_parts, State.setFlag_parts]
@[simp] theorem State.alert_syncWaits (f : Fld) : (s.alert f).syncWaits = s.syncWaits := by
  simp only [State.alert, State.alertSync_syncWaits, State.setFlag_syncWaits]
@[simp] theorem State.alert_inProg (f : Fld) : (s.alert f).inProg = s.inProg := by
  simp only [State.alert, State.alertSync_inProg, State.setFlag_inProg]
@[simp] theorem State.alert_mem (f : Fld) : (s.alert f).mem = s.mem := by
  simp only [State.alert, State.alertSync_mem, State.setFlag_mem]
@[simp] theorem State.alert_sram (f : Fld) : (s.alert f).sram = s.sram := by
  simp only [State.alert, State.alertSync_sram, State.setFlag_sram]
@[simp] theorem State.alert_sramResets (f : Fld) : (s.alert f).sramResets = s.sramResets := by
  simp only [State.alert, State.alertSync_sramResets, State.setFlag_sramResets]
@[simp] theorem State.alert_coreParts (f : Fld) : (s.alert f).coreParts = s.coreParts := by
  simp only [State.alert, State.alertSync_coreParts, State.setFlag_coreParts]
@[simp] theorem State.alert_badGranules (f : Fld) : (s.alert f).badGranules = s.badGranules := by
  simp only [State.alert, State.alertSync_badGranules, State.setFlag_badGranules]
@[simp] theorem State.alert_faint (f : Fld) : (s.alert f).faint = s.faint := by
  simp only [State.alert, State.alertSync_faint, State.setFlag_faint]
@[simp] theorem State.alert_bursts (f : Fld) : (s.alert f).bursts = s.bursts := by
  simp only [State.alert, State.alertSync_bursts, State.setFlag_bursts]
@[simp] theorem State.alert_memKeys (f : Fld) : (s.alert f).memKeys = s.memKeys := by
  simp only [State.alert, State.alertSync_memKeys, State.setFlag_memKeys]
@[simp] theorem State.alert_hashKey (f : Fld) : (s.alert f).hashKey = s.hashKey := by
  simp only [State.alert, State.alertSync_hashKey, State.setFlag_hashKey]
@[simp] theorem State.alert_zeroing (f : Fld) : (s.alert f).zeroing = s.zeroing := by
  simp only [State.alert, State.alertSync_zeroing, State.setFlag_zeroing]
@[simp] theorem State.alert_reqSlots (f : Fld) : (s.alert f).reqSlots = s.reqSlots := by
  simp only [State.alert, State.alertSync_reqSlots, State.setFlag_reqSlots]
@[simp] theorem State.alert_slotWait (f : Fld) : (s.alert f).slotWait = s.slotWait := by
  simp only [State.alert, State.alertSync_slotWait, State.setFlag_slotWait]
@[simp] theorem State.alert_queues (f : Fld) : (s.alert f).queues = s.queues := by
  simp only [State.alert, State.alertSync_queues, State.setFlag_queues]
@[simp] theorem State.alert_turns (f : Fld) : (s.alert f).turns = s.turns := by
  simp only [State.alert, State.alertSync_turns, State.setFlag_turns]
@[simp] theorem State.alert_waiting (f : Fld) : (s.alert f).waiting = s.waiting := by
  simp only [State.alert, State.alertSync_waiting, State.setFlag_waiting]
@[simp] theorem State.alert_resync (f : Fld) : (s.alert f).resync = s.resync := by
  simp only [State.alert, State.alertSync_resync, State.setFlag_resync]
@[simp] theorem State.alert_credits (f : Fld) : (s.alert f).credits = s.credits := by
  simp only [State.alert, State.alertSync_credits, State.setFlag_credits]
@[simp] theorem State.alert_ports (f : Fld) : (s.alert f).ports = s.ports := by
  simp only [State.alert, State.alertSync_ports, State.setFlag_ports]
@[simp] theorem State.alert_eyes (f : Fld) : (s.alert f).eyes = s.eyes := by
  simp only [State.alert, State.alertSync_eyes, State.setFlag_eyes]
@[simp] theorem State.alert_rackAdopted (f : Fld) : (s.alert f).rackAdopted = s.rackAdopted := by
  simp only [State.alert, State.alertSync_rackAdopted, State.setFlag_rackAdopted]
@[simp] theorem State.alert_dmaRun (f : Fld) : (s.alert f).dmaRun = s.dmaRun := by
  simp only [State.alert, State.alertSync_dmaRun, State.setFlag_dmaRun]
@[simp] theorem State.alert_dmaLast (f : Fld) : (s.alert f).dmaLast = s.dmaLast := by
  simp only [State.alert, State.alertSync_dmaLast, State.setFlag_dmaLast]
@[simp] theorem State.alert_groups (f : Fld) : (s.alert f).groups = s.groups := by
  simp only [State.alert, State.alertSync_groups, State.setFlag_groups]
@[simp] theorem State.alert_carTurns (f : Fld) : (s.alert f).carTurns = s.carTurns := by
  simp only [State.alert, State.alertSync_carTurns, State.setFlag_carTurns]
@[simp] theorem State.alert_bank (f : Fld) : (s.alert f).bank = s.bank := by
  simp only [State.alert, State.alertSync_bank, State.setFlag_bank]
@[simp] theorem State.alert_rankTabs (f : Fld) : (s.alert f).rankTabs = s.rankTabs := by
  simp only [State.alert, State.alertSync_rankTabs, State.setFlag_rankTabs]
@[simp] theorem State.alert_copies (f : Fld) : (s.alert f).copies = s.copies := by
  simp only [State.alert, State.alertSync_copies, State.setFlag_copies]
@[simp] theorem State.alert_ceHour (f : Fld) : (s.alert f).ceHour = s.ceHour := by
  simp only [State.alert, State.alertSync_ceHour, State.setFlag_ceHour]
@[simp] theorem State.alert_hotRuns (f : Fld) : (s.alert f).hotRuns = s.hotRuns := by
  simp only [State.alert, State.alertSync_hotRuns, State.setFlag_hotRuns]
@[simp] theorem State.alert_sessions (f : Fld) : (s.alert f).sessions = s.sessions := by
  simp only [State.alert, State.alertSync_sessions, State.setFlag_sessions]
@[simp] theorem State.alert_nonces (f : Fld) : (s.alert f).nonces = s.nonces := by
  simp only [State.alert, State.alertSync_nonces, State.setFlag_nonces]
@[simp] theorem State.alert_recs (f : Fld) : (s.alert f).recs = s.recs := by
  simp only [State.alert, State.alertSync_recs, State.setFlag_recs]
@[simp] theorem State.alert_recBad (f : Fld) : (s.alert f).recBad = s.recBad := by
  simp only [State.alert, State.alertSync_recBad, State.setFlag_recBad]
@[simp] theorem State.alert_resetReqs (f : Fld) : (s.alert f).resetReqs = s.resetReqs := by
  simp only [State.alert, State.alertSync_resetReqs, State.setFlag_resetReqs]
@[simp] theorem State.alert_resets (f : Fld) : (s.alert f).resets = s.resets := by
  simp only [State.alert, State.alertSync_resets, State.setFlag_resets]
@[simp] theorem State.alert_ladder (f : Fld) : (s.alert f).ladder = s.ladder := by
  simp only [State.alert, State.alertSync_ladder, State.setFlag_ladder]
@[simp] theorem State.alert_isolating (f : Fld) : (s.alert f).isolating = s.isolating := by
  simp only [State.alert, State.alertSync_isolating, State.setFlag_isolating]
@[simp] theorem State.alert_cycling (f : Fld) : (s.alert f).cycling = s.cycling := by
  simp only [State.alert, State.alertSync_cycling, State.setFlag_cycling]
@[simp] theorem State.alert_faults (f : Fld) : (s.alert f).faults = s.faults := by
  simp only [State.alert, State.alertSync_faults, State.setFlag_faults]
@[simp] theorem State.alert_faultHeld (f : Fld) : (s.alert f).faultHeld = s.faultHeld := by
  simp only [State.alert, State.alertSync_faultHeld, State.setFlag_faultHeld]
@[simp] theorem State.alert_genClk (f : Fld) : (s.alert f).genClk = s.genClk := by
  simp only [State.alert, State.alertSync_genClk, State.setFlag_genClk]
@[simp] theorem State.alert_ash (f : Fld) : (s.alert f).ash = s.ash := by
  simp only [State.alert, State.alertSync_ash, State.setFlag_ash]
@[simp] theorem State.alert_badCols (f : Fld) : (s.alert f).badCols = s.badCols := by
  simp only [State.alert, State.alertSync_badCols, State.setFlag_badCols]
@[simp] theorem State.alert_residue (f : Fld) : (s.alert f).residue = s.residue := by
  simp only [State.alert, State.alertSync_residue, State.setFlag_residue]
@[simp] theorem State.alert_storeDue (f : Fld) : (s.alert f).storeDue = s.storeDue := by
  simp only [State.alert, State.alertSync_storeDue, State.setFlag_storeDue]
@[simp] theorem State.alert_spareDoubt (f : Fld) : (s.alert f).spareDoubt = s.spareDoubt := by
  simp only [State.alert, State.alertSync_spareDoubt, State.setFlag_spareDoubt]
@[simp] theorem State.alert_spareLast (f : Fld) : (s.alert f).spareLast = s.spareLast := by
  simp only [State.alert, State.alertSync_spareLast, State.setFlag_spareLast]
@[simp] theorem State.alert_nvm (f : Fld) : (s.alert f).nvm = s.nvm := by
  simp only [State.alert, State.alertSync_nvm, State.setFlag_nvm]
@[simp] theorem State.alert_nvmq (f : Fld) : (s.alert f).nvmq = s.nvmq := by
  simp only [State.alert, State.alertSync_nvmq, State.setFlag_nvmq]
@[simp] theorem State.alert_time (f : Fld) : (s.alert f).time = s.time := by
  simp only [State.alert, State.alertSync_time, State.setFlag_time]
@[simp] theorem State.alert_ctl (f : Fld) : (s.alert f).ctl = s.ctl := by
  simp only [State.alert, State.alertSync_ctl, State.setFlag_ctl]
@[simp] theorem State.alert_latches (f : Fld) : (s.alert f).latches = s.latches := by
  simp only [State.alert, State.alertSync_latches, State.setFlag_latches]
@[simp] theorem State.alert_outSeq (f : Fld) : (s.alert f).outSeq = s.outSeq := by
  simp only [State.alert, State.alertSync_outSeq, State.setFlag_outSeq]
@[simp] theorem State.alert_power (f : Fld) : (s.alert f).power = s.power := by
  simp only [State.alert, State.alertSync_power, State.setFlag_power]
@[simp] theorem State.alert_start (f : Fld) : (s.alert f).start = s.start := by
  simp only [State.alert, State.alertSync_start, State.setFlag_start]
@[simp] theorem State.alert_update (f : Fld) : (s.alert f).update = s.update := by
  simp only [State.alert, State.alertSync_update, State.setFlag_update]
@[simp] theorem State.alert_audit (f : Fld) : (s.alert f).audit = s.audit := by
  simp only [State.alert, State.alertSync_audit, State.setFlag_audit]
@[simp] theorem State.alert_auditBad (f : Fld) : (s.alert f).auditBad = s.auditBad := by
  simp only [State.alert, State.alertSync_auditBad, State.setFlag_auditBad]

/-! ### State.latch -/

/-- Latching changes nothing but the latches and the sequence number (R402). -/
theorem State.latch_eq (old : State) : ∃ l n, State.latch old s = { s with latches := l, outSeq := n } := by
  have step : ∀ (os : List Nat) (t : State), ∃ l n, t.each os State.latchOne = { t with latches := l, outSeq := n } := by
    intro os
    induction os with
    | nil => exact fun t => ⟨t.latches, t.outSeq, rfl⟩
    | cons o os ih =>
      intro t
      obtain ⟨l, n, e⟩ := ih (t.latchOne o)
      exact ⟨l, n, e⟩
  unfold State.latch
  split
  · exact step _ s
  · exact ⟨s.latches, s.outSeq, rfl⟩

@[simp] theorem State.latch_pending (old : State) : (State.latch old s).pending = s.pending := by
  obtain ⟨l, n, e⟩ := s.latch_eq old; rw [e]
@[simp] theorem State.latch_regs (old : State) : (State.latch old s).regs = s.regs := by
  obtain ⟨l, n, e⟩ := s.latch_eq old; rw [e]
@[simp] theorem State.latch_phase (old : State) : (State.latch old s).phase = s.phase := by
  obtain ⟨l, n, e⟩ := s.latch_eq old; rw [e]
@[simp] theorem State.latch_clk (old : State) : (State.latch old s).clk = s.clk := by
  obtain ⟨l, n, e⟩ := s.latch_eq old; rw [e]
@[simp] theorem State.latch_pins (old : State) : (State.latch old s).pins = s.pins := by
  obtain ⟨l, n, e⟩ := s.latch_eq old; rw [e]
@[simp] theorem State.latch_reqRegs (old : State) : (State.latch old s).reqRegs = s.reqRegs := by
  obtain ⟨l, n, e⟩ := s.latch_eq old; rw [e]
@[simp] theorem State.latch_wire (old : State) : (State.latch old s).wire = s.wire := by
  obtain ⟨l, n, e⟩ := s.latch_eq old; rw [e]
@[simp] theorem State.latch_free (old : State) : (State.latch old s).free = s.free := by
  obtain ⟨l, n, e⟩ := s.latch_eq old; rw [e]
@[simp] theorem State.latch_ctxs (old : State) : (State.latch old s).ctxs = s.ctxs := by
  obtain ⟨l, n, e⟩ := s.latch_eq old; rw [e]
@[simp] theorem State.latch_slots (old : State) : (State.latch old s).slots = s.slots := by
  obtain ⟨l, n, e⟩ := s.latch_eq old; rw [e]
@[simp] theorem State.latch_parts (old : State) : (State.latch old s).parts = s.parts := by
  obtain ⟨l, n, e⟩ := s.latch_eq old; rw [e]
@[simp] theorem State.latch_syncWaits (old : State) : (State.latch old s).syncWaits = s.syncWaits := by
  obtain ⟨l, n, e⟩ := s.latch_eq old; rw [e]
@[simp] theorem State.latch_inProg (old : State) : (State.latch old s).inProg = s.inProg := by
  obtain ⟨l, n, e⟩ := s.latch_eq old; rw [e]
@[simp] theorem State.latch_mem (old : State) : (State.latch old s).mem = s.mem := by
  obtain ⟨l, n, e⟩ := s.latch_eq old; rw [e]
@[simp] theorem State.latch_sram (old : State) : (State.latch old s).sram = s.sram := by
  obtain ⟨l, n, e⟩ := s.latch_eq old; rw [e]
@[simp] theorem State.latch_sramResets (old : State) : (State.latch old s).sramResets = s.sramResets := by
  obtain ⟨l, n, e⟩ := s.latch_eq old; rw [e]
@[simp] theorem State.latch_coreParts (old : State) : (State.latch old s).coreParts = s.coreParts := by
  obtain ⟨l, n, e⟩ := s.latch_eq old; rw [e]
@[simp] theorem State.latch_badGranules (old : State) : (State.latch old s).badGranules = s.badGranules := by
  obtain ⟨l, n, e⟩ := s.latch_eq old; rw [e]
@[simp] theorem State.latch_faint (old : State) : (State.latch old s).faint = s.faint := by
  obtain ⟨l, n, e⟩ := s.latch_eq old; rw [e]
@[simp] theorem State.latch_bursts (old : State) : (State.latch old s).bursts = s.bursts := by
  obtain ⟨l, n, e⟩ := s.latch_eq old; rw [e]
@[simp] theorem State.latch_memKeys (old : State) : (State.latch old s).memKeys = s.memKeys := by
  obtain ⟨l, n, e⟩ := s.latch_eq old; rw [e]
@[simp] theorem State.latch_hashKey (old : State) : (State.latch old s).hashKey = s.hashKey := by
  obtain ⟨l, n, e⟩ := s.latch_eq old; rw [e]
@[simp] theorem State.latch_zeroing (old : State) : (State.latch old s).zeroing = s.zeroing := by
  obtain ⟨l, n, e⟩ := s.latch_eq old; rw [e]
@[simp] theorem State.latch_reqSlots (old : State) : (State.latch old s).reqSlots = s.reqSlots := by
  obtain ⟨l, n, e⟩ := s.latch_eq old; rw [e]
@[simp] theorem State.latch_slotWait (old : State) : (State.latch old s).slotWait = s.slotWait := by
  obtain ⟨l, n, e⟩ := s.latch_eq old; rw [e]
@[simp] theorem State.latch_queues (old : State) : (State.latch old s).queues = s.queues := by
  obtain ⟨l, n, e⟩ := s.latch_eq old; rw [e]
@[simp] theorem State.latch_turns (old : State) : (State.latch old s).turns = s.turns := by
  obtain ⟨l, n, e⟩ := s.latch_eq old; rw [e]
@[simp] theorem State.latch_waiting (old : State) : (State.latch old s).waiting = s.waiting := by
  obtain ⟨l, n, e⟩ := s.latch_eq old; rw [e]
@[simp] theorem State.latch_resync (old : State) : (State.latch old s).resync = s.resync := by
  obtain ⟨l, n, e⟩ := s.latch_eq old; rw [e]
@[simp] theorem State.latch_credits (old : State) : (State.latch old s).credits = s.credits := by
  obtain ⟨l, n, e⟩ := s.latch_eq old; rw [e]
@[simp] theorem State.latch_ports (old : State) : (State.latch old s).ports = s.ports := by
  obtain ⟨l, n, e⟩ := s.latch_eq old; rw [e]
@[simp] theorem State.latch_eyes (old : State) : (State.latch old s).eyes = s.eyes := by
  obtain ⟨l, n, e⟩ := s.latch_eq old; rw [e]
@[simp] theorem State.latch_rackAdopted (old : State) : (State.latch old s).rackAdopted = s.rackAdopted := by
  obtain ⟨l, n, e⟩ := s.latch_eq old; rw [e]
@[simp] theorem State.latch_dmaRun (old : State) : (State.latch old s).dmaRun = s.dmaRun := by
  obtain ⟨l, n, e⟩ := s.latch_eq old; rw [e]
@[simp] theorem State.latch_dmaLast (old : State) : (State.latch old s).dmaLast = s.dmaLast := by
  obtain ⟨l, n, e⟩ := s.latch_eq old; rw [e]
@[simp] theorem State.latch_groups (old : State) : (State.latch old s).groups = s.groups := by
  obtain ⟨l, n, e⟩ := s.latch_eq old; rw [e]
@[simp] theorem State.latch_carTurns (old : State) : (State.latch old s).carTurns = s.carTurns := by
  obtain ⟨l, n, e⟩ := s.latch_eq old; rw [e]
@[simp] theorem State.latch_bank (old : State) : (State.latch old s).bank = s.bank := by
  obtain ⟨l, n, e⟩ := s.latch_eq old; rw [e]
@[simp] theorem State.latch_rankTabs (old : State) : (State.latch old s).rankTabs = s.rankTabs := by
  obtain ⟨l, n, e⟩ := s.latch_eq old; rw [e]
@[simp] theorem State.latch_copies (old : State) : (State.latch old s).copies = s.copies := by
  obtain ⟨l, n, e⟩ := s.latch_eq old; rw [e]
@[simp] theorem State.latch_ceHour (old : State) : (State.latch old s).ceHour = s.ceHour := by
  obtain ⟨l, n, e⟩ := s.latch_eq old; rw [e]
@[simp] theorem State.latch_hotRuns (old : State) : (State.latch old s).hotRuns = s.hotRuns := by
  obtain ⟨l, n, e⟩ := s.latch_eq old; rw [e]
@[simp] theorem State.latch_sessions (old : State) : (State.latch old s).sessions = s.sessions := by
  obtain ⟨l, n, e⟩ := s.latch_eq old; rw [e]
@[simp] theorem State.latch_nonces (old : State) : (State.latch old s).nonces = s.nonces := by
  obtain ⟨l, n, e⟩ := s.latch_eq old; rw [e]
@[simp] theorem State.latch_evq (old : State) : (State.latch old s).evq = s.evq := by
  obtain ⟨l, n, e⟩ := s.latch_eq old; rw [e]
@[simp] theorem State.latch_recs (old : State) : (State.latch old s).recs = s.recs := by
  obtain ⟨l, n, e⟩ := s.latch_eq old; rw [e]
@[simp] theorem State.latch_recBad (old : State) : (State.latch old s).recBad = s.recBad := by
  obtain ⟨l, n, e⟩ := s.latch_eq old; rw [e]
@[simp] theorem State.latch_evLost (old : State) : (State.latch old s).evLost = s.evLost := by
  obtain ⟨l, n, e⟩ := s.latch_eq old; rw [e]
@[simp] theorem State.latch_resetReqs (old : State) : (State.latch old s).resetReqs = s.resetReqs := by
  obtain ⟨l, n, e⟩ := s.latch_eq old; rw [e]
@[simp] theorem State.latch_resets (old : State) : (State.latch old s).resets = s.resets := by
  obtain ⟨l, n, e⟩ := s.latch_eq old; rw [e]
@[simp] theorem State.latch_ladder (old : State) : (State.latch old s).ladder = s.ladder := by
  obtain ⟨l, n, e⟩ := s.latch_eq old; rw [e]
@[simp] theorem State.latch_isolating (old : State) : (State.latch old s).isolating = s.isolating := by
  obtain ⟨l, n, e⟩ := s.latch_eq old; rw [e]
@[simp] theorem State.latch_cycling (old : State) : (State.latch old s).cycling = s.cycling := by
  obtain ⟨l, n, e⟩ := s.latch_eq old; rw [e]
@[simp] theorem State.latch_faults (old : State) : (State.latch old s).faults = s.faults := by
  obtain ⟨l, n, e⟩ := s.latch_eq old; rw [e]
@[simp] theorem State.latch_faultHeld (old : State) : (State.latch old s).faultHeld = s.faultHeld := by
  obtain ⟨l, n, e⟩ := s.latch_eq old; rw [e]
@[simp] theorem State.latch_genClk (old : State) : (State.latch old s).genClk = s.genClk := by
  obtain ⟨l, n, e⟩ := s.latch_eq old; rw [e]
@[simp] theorem State.latch_ash (old : State) : (State.latch old s).ash = s.ash := by
  obtain ⟨l, n, e⟩ := s.latch_eq old; rw [e]
@[simp] theorem State.latch_badCols (old : State) : (State.latch old s).badCols = s.badCols := by
  obtain ⟨l, n, e⟩ := s.latch_eq old; rw [e]
@[simp] theorem State.latch_residue (old : State) : (State.latch old s).residue = s.residue := by
  obtain ⟨l, n, e⟩ := s.latch_eq old; rw [e]
@[simp] theorem State.latch_storeDue (old : State) : (State.latch old s).storeDue = s.storeDue := by
  obtain ⟨l, n, e⟩ := s.latch_eq old; rw [e]
@[simp] theorem State.latch_spareDoubt (old : State) : (State.latch old s).spareDoubt = s.spareDoubt := by
  obtain ⟨l, n, e⟩ := s.latch_eq old; rw [e]
@[simp] theorem State.latch_spareLast (old : State) : (State.latch old s).spareLast = s.spareLast := by
  obtain ⟨l, n, e⟩ := s.latch_eq old; rw [e]
@[simp] theorem State.latch_nvm (old : State) : (State.latch old s).nvm = s.nvm := by
  obtain ⟨l, n, e⟩ := s.latch_eq old; rw [e]
@[simp] theorem State.latch_nvmq (old : State) : (State.latch old s).nvmq = s.nvmq := by
  obtain ⟨l, n, e⟩ := s.latch_eq old; rw [e]
@[simp] theorem State.latch_time (old : State) : (State.latch old s).time = s.time := by
  obtain ⟨l, n, e⟩ := s.latch_eq old; rw [e]
@[simp] theorem State.latch_ctl (old : State) : (State.latch old s).ctl = s.ctl := by
  obtain ⟨l, n, e⟩ := s.latch_eq old; rw [e]
@[simp] theorem State.latch_power (old : State) : (State.latch old s).power = s.power := by
  obtain ⟨l, n, e⟩ := s.latch_eq old; rw [e]
@[simp] theorem State.latch_start (old : State) : (State.latch old s).start = s.start := by
  obtain ⟨l, n, e⟩ := s.latch_eq old; rw [e]
@[simp] theorem State.latch_update (old : State) : (State.latch old s).update = s.update := by
  obtain ⟨l, n, e⟩ := s.latch_eq old; rw [e]
@[simp] theorem State.latch_audit (old : State) : (State.latch old s).audit = s.audit := by
  obtain ⟨l, n, e⟩ := s.latch_eq old; rw [e]
@[simp] theorem State.latch_auditBad (old : State) : (State.latch old s).auditBad = s.auditBad := by
  obtain ⟨l, n, e⟩ := s.latch_eq old; rw [e]
@[simp] theorem State.latch_reg (old : State) (g : Nat) : (State.latch old s).reg g = s.reg g := by
  obtain ⟨l, n, e⟩ := s.latch_eq old; rw [e]; rfl
@[simp] theorem State.latch_fld (old : State) (g : Fld) : (State.latch old s).fld g = s.fld g := by
  obtain ⟨l, n, e⟩ := s.latch_eq old; rw [e]; rfl
@[simp] theorem State.latch_flag (old : State) (g : Fld) : (State.latch old s).flag g = s.flag g := by
  obtain ⟨l, n, e⟩ := s.latch_eq old; rw [e]; rfl
@[simp] theorem State.latch_pair (old : State) (g : Nat) : (State.latch old s).pair g = s.pair g := by
  obtain ⟨l, n, e⟩ := s.latch_eq old; rw [e]; rfl

/-! ### Registers through updates of other fields -/

@[simp] theorem State.fresh_reg (o : Nat) : (s.fresh).reg o = s.reg o := by simp only [State.reg, State.fresh_regs]
@[simp] theorem State.fresh_fld (g : Fld) : (s.fresh).fld g = s.fld g := by simp only [State.fld, State.fresh_reg]
@[simp] theorem State.fresh_flag (g : Fld) : (s.fresh).flag g = s.flag g := by simp only [State.flag, State.fresh_fld]
@[simp] theorem State.fresh_pair (o : Nat) : (s.fresh).pair o = s.pair o := by simp only [State.pair, State.fresh_reg]
@[simp] theorem State.setPart_reg (p : Nat) (x : Sequencer) (o : Nat) : (s.setPart p x).reg o = s.reg o := by simp only [State.reg, State.setPart_regs]
@[simp] theorem State.setPart_fld (p : Nat) (x : Sequencer) (g : Fld) : (s.setPart p x).fld g = s.fld g := by simp only [State.fld, State.setPart_reg]
@[simp] theorem State.setPart_flag (p : Nat) (x : Sequencer) (g : Fld) : (s.setPart p x).flag g = s.flag g := by simp only [State.flag, State.setPart_fld]
@[simp] theorem State.setPart_pair (p : Nat) (x : Sequencer) (o : Nat) : (s.setPart p x).pair o = s.pair o := by simp only [State.pair, State.setPart_reg]
@[simp] theorem State.setCtx_reg (c : Nat) (x : Ctx) (o : Nat) : (s.setCtx c x).reg o = s.reg o := by simp only [State.reg, State.setCtx_regs]
@[simp] theorem State.setCtx_fld (c : Nat) (x : Ctx) (g : Fld) : (s.setCtx c x).fld g = s.fld g := by simp only [State.fld, State.setCtx_reg]
@[simp] theorem State.setCtx_flag (c : Nat) (x : Ctx) (g : Fld) : (s.setCtx c x).flag g = s.flag g := by simp only [State.flag, State.setCtx_fld]
@[simp] theorem State.setCtx_pair (c : Nat) (x : Ctx) (o : Nat) : (s.setCtx c x).pair o = s.pair o := by simp only [State.pair, State.setCtx_reg]
@[simp] theorem State.send_reg (w : Wire) (o : Nat) : (s.send w).reg o = s.reg o := by simp only [State.reg, State.send_regs]
@[simp] theorem State.send_fld (w : Wire) (g : Fld) : (s.send w).fld g = s.fld g := by simp only [State.fld, State.send_reg]
@[simp] theorem State.send_flag (w : Wire) (g : Fld) : (s.send w).flag g = s.flag g := by simp only [State.flag, State.send_fld]
@[simp] theorem State.send_pair (w : Wire) (o : Nat) : (s.send w).pair o = s.pair o := by simp only [State.pair, State.send_reg]
@[simp] theorem State.answer_reg (r : Requester) (off v : Nat) (st : Status) (o : Nat) : (s.answer r off v st).reg o = s.reg o := by simp only [State.reg, State.answer_regs]
@[simp] theorem State.answer_fld (r : Requester) (off v : Nat) (st : Status) (g : Fld) : (s.answer r off v st).fld g = s.fld g := by simp only [State.fld, State.answer_reg]
@[simp] theorem State.answer_flag (r : Requester) (off v : Nat) (st : Status) (g : Fld) : (s.answer r off v st).flag g = s.flag g := by simp only [State.flag, State.answer_fld]
@[simp] theorem State.answer_pair (r : Requester) (off v : Nat) (st : Status) (o : Nat) : (s.answer r off v st).pair o = s.pair o := by simp only [State.pair, State.answer_reg]
@[simp] theorem State.setOwn_reg (r : Requester) (x : ReqRegs) (o : Nat) : (s.setOwn r x).reg o = s.reg o := by simp only [State.reg, State.setOwn_regs]
@[simp] theorem State.setOwn_fld (r : Requester) (x : ReqRegs) (g : Fld) : (s.setOwn r x).fld g = s.fld g := by simp only [State.fld, State.setOwn_reg]
@[simp] theorem State.setOwn_flag (r : Requester) (x : ReqRegs) (g : Fld) : (s.setOwn r x).flag g = s.flag g := by simp only [State.flag, State.setOwn_fld]
@[simp] theorem State.setOwn_pair (r : Requester) (x : ReqRegs) (o : Nat) : (s.setOwn r x).pair o = s.pair o := by simp only [State.pair, State.setOwn_reg]
@[simp] theorem State.evPut_reg (d : Nat) (e : Ev) (o : Nat) : (s.evPut d e).reg o = s.reg o := by simp only [State.reg, State.evPut_regs]
@[simp] theorem State.evPut_fld (d : Nat) (e : Ev) (g : Fld) : (s.evPut d e).fld g = s.fld g := by simp only [State.fld, State.evPut_reg]
@[simp] theorem State.evPut_flag (d : Nat) (e : Ev) (g : Fld) : (s.evPut d e).flag g = s.flag g := by simp only [State.flag, State.evPut_fld]
@[simp] theorem State.evPut_pair (d : Nat) (e : Ev) (o : Nat) : (s.evPut d e).pair o = s.pair o := by simp only [State.pair, State.evPut_reg]

end Sys2Proof.Machine
end

