-- ==== Sys2Proof/Laws/Regs.lean ====
section
/-! SUPPORT. Laws of the registers: what a register and a field read after an update. -/

namespace Sys2Proof.Machine

variable (s : State)

/-! ### Registers -/

/-- A register read after a write: the value written at its offset, the old one elsewhere. -/
theorem State.reg_setReg (a b : Nat) (w : Word) : (s.setReg a w).reg b = if b = a then w else s.reg b := by
  simp only [State.reg, State.setReg]
  by_cases h : b = a
  · subst h; rw [tget_tset]
  · rw [if_neg h]
    unfold tget tset
    split_ifs <;> simp [tfind_tdel, tfind_tput, h]

@[simp] theorem State.reg_setReg_same (a : Nat) (w : Word) : (s.setReg a w).reg a = w := by
  rw [State.reg_setReg, if_pos rfl]

theorem State.reg_setReg_ne (a b : Nat) (w : Word) (h : b ≠ a) : (s.setReg a w).reg b = s.reg b := by
  rw [State.reg_setReg, if_neg h]

theorem State.reg_setFld_ne (f : Fld) (v b : Nat) (h : b ≠ f.off) : (s.setFld f v).reg b = s.reg b :=
  s.reg_setReg_ne _ _ _ h

theorem State.reg_setFlag_ne (f : Fld) (v : Bool) (b : Nat) (h : b ≠ f.off) : (s.setFlag f v).reg b = s.reg b :=
  s.reg_setFld_ne _ _ _ h

theorem State.reg_add_ne (f : Fld) (n b : Nat) (h : b ≠ f.off) : (s.add f n).reg b = s.reg b := s.reg_setFld_ne _ _ _ h

theorem State.reg_bump_ne (f : Fld) (b : Nat) (h : b ≠ f.off) : (s.bump f).reg b = s.reg b := s.reg_add_ne _ _ _ h

theorem State.reg_sub_ne (f : Fld) (n b : Nat) (h : b ≠ f.off) : (s.sub f n).reg b = s.reg b := s.reg_setFld_ne _ _ _ h

theorem State.reg_setPair_ne (lo v b : Nat) (h : b ≠ lo) (h' : b ≠ lo + 4) : (s.setPair lo v).reg b = s.reg b := by
  rw [State.setPair, State.reg_setReg_ne _ _ _ _ h', State.reg_setReg_ne _ _ _ _ h]

theorem State.reg_addPair_ne (lo n b : Nat) (h : b ≠ lo) (h' : b ≠ lo + 4) : (s.addPair lo n).reg b = s.reg b :=
  s.reg_setPair_ne _ _ _ h h'

theorem State.evDrop_regs (d code : Nat) : (s.evDrop d code).regs = (s.bump Reg.evrDroppedCount).regs := by
  simp only [State.evDrop]

theorem State.reg_evDrop (d code b : Nat) (h : b ≠ Reg.evrDroppedCount.off) : (s.evDrop d code).reg b = s.reg b := by
  have hb := s.reg_bump_ne _ _ h
  unfold State.reg at *
  rw [State.evDrop_regs]
  exact hb

theorem State.reg_evMark (d n b : Nat) (h : b ≠ Reg.evrQueueHwmF0.off) : (s.evMark d n).reg b = s.reg b := by
  unfold State.evMark evHwmOf
  split_ifs
  all_goals first
    | exact s.reg_setFld_ne _ _ _ h
    | rfl

/-- An event changes no register but the drop counter and the queue high-water marks. -/
theorem State.reg_ev (code src p0 p1 p2 b : Nat) (h : b ≠ Reg.evrDroppedCount.off) (h0 : b ≠ Reg.evrQueueHwmF0.off) :
    (s.ev code src p0 p1 p2).reg b = s.reg b := by
  unfold State.ev
  dsimp only
  split_ifs
  · exact s.reg_evDrop _ _ _ h
  · rw [State.reg_evMark _ _ _ _ h0, State.evPut_reg]

/-! ### Fields -/

/-- The low bits of a number after a field at `lo` is replaced. -/
theorem putField_toNat (w : Word) (f : Fld) (v : Nat) (h : f.hi < 32) (hl : f.lo ≤ f.hi) :
    (putField w f v).toNat = w.toNat % 2 ^ f.lo + v % 2 ^ f.width * 2 ^ f.lo + w.toNat / 2 ^ (f.hi + 1) * 2 ^ (f.hi + 1) := by
  unfold putField Fld.width
  rw [BitVec.toNat_ofNat, Nat.mod_eq_of_lt]
  have hw := w.isLt
  obtain ⟨k, hk⟩ : ∃ k, f.hi = f.lo + k := ⟨f.hi - f.lo, by omega⟩
  obtain ⟨j, hj⟩ : ∃ j, 32 = f.hi + 1 + j := ⟨31 - f.hi, by omega⟩
  have e1 : f.hi - f.lo + 1 = k + 1 := by omega
  have e2 : f.hi + 1 = f.lo + (k + 1) := by omega
  have ha : w.toNat % 2 ^ f.lo < 2 ^ f.lo := Nat.mod_lt _ (by positivity)
  have hv : v % 2 ^ (k + 1) < 2 ^ (k + 1) := Nat.mod_lt _ (by positivity)
  have hd : w.toNat / 2 ^ (f.hi + 1) < 2 ^ j := by
    rw [Nat.div_lt_iff_lt_mul (by positivity), ← pow_add]
    have : j + (f.hi + 1) = 32 := by omega
    rw [this]; exact hw
  rw [e1]
  have p1 : v % 2 ^ (k + 1) * 2 ^ f.lo ≤ (2 ^ (k + 1) - 1) * 2 ^ f.lo := Nat.mul_le_mul_right _ (by omega)
  have p2 : w.toNat / 2 ^ (f.hi + 1) * 2 ^ (f.hi + 1) ≤ (2 ^ j - 1) * 2 ^ (f.hi + 1) := Nat.mul_le_mul_right _ (by omega)
  have q1 : (2 ^ (k + 1) - 1) * 2 ^ f.lo + 2 ^ f.lo = 2 ^ (f.hi + 1) := by
    have e3 : 2 ^ (f.hi + 1) = 2 ^ (k + 1) * 2 ^ f.lo := by rw [e2, pow_add, mul_comm]
    rw [e3, Nat.sub_mul, one_mul]
    exact Nat.sub_add_cancel (Nat.le_mul_of_pos_left _ (by positivity))
  have q2 : (2 ^ j - 1) * 2 ^ (f.hi + 1) + 2 ^ (f.hi + 1) = 2 ^ 32 := by
    have : 2 ^ 32 = 2 ^ j * 2 ^ (f.hi + 1) := by rw [← pow_add]; congr 1; omega
    rw [this, Nat.sub_mul, one_mul]
    exact Nat.sub_add_cancel (Nat.le_mul_of_pos_left _ (by positivity))
  omega

/-- A field written reads as the value written, cut to the field. -/
theorem bits_putField (w : Word) (f : Fld) (v : Nat) (h : f.hi < 32) (hl : f.lo ≤ f.hi) :
    bits (putField w f v).toNat f.hi f.lo = v % 2 ^ f.width := by
  rw [putField_toNat w f v h hl, bits]
  have e2 : f.hi + 1 = f.lo + f.width := by unfold Fld.width; omega
  have e3 : f.hi - f.lo + 1 = f.width := rfl
  rw [e3, e2, pow_add]
  have : w.toNat % 2 ^ f.lo + v % 2 ^ f.width * 2 ^ f.lo + w.toNat / (2 ^ f.lo * 2 ^ f.width) * (2 ^ f.lo * 2 ^ f.width)
      = w.toNat % 2 ^ f.lo + 2 ^ f.lo * (v % 2 ^ f.width + w.toNat / (2 ^ f.lo * 2 ^ f.width) * 2 ^ f.width) := by ring
  rw [this, Nat.add_mul_div_left _ _ (by positivity), Nat.div_eq_of_lt (Nat.mod_lt _ (by positivity)), zero_add,
    Nat.add_mul_mod_self_right, Nat.mod_mod]

/-- A field that lies below or above the one written reads as before. -/
theorem bits_putField_ne (w : Word) (f : Fld) (v hi lo : Nat) (h : f.hi < 32) (hl : f.lo ≤ f.hi) (h2 : lo ≤ hi)
    (hd : hi < f.lo ∨ f.hi < lo) : bits (putField w f v).toNat hi lo = bits w.toNat hi lo := by
  rw [putField_toNat w f v h hl, bits, bits]
  rcases hd with hd | hd
  · obtain ⟨k, hk⟩ : ∃ k, f.lo = (hi - lo + 1) + lo + k := ⟨f.lo - (hi + 1), by omega⟩
    obtain ⟨j, hj⟩ : ∃ j, f.hi + 1 = f.lo + j := ⟨f.hi + 1 - f.lo, by omega⟩
    have key : ∀ a b : Nat, (a + b * 2 ^ f.lo) / 2 ^ lo % 2 ^ (hi - lo + 1) = a / 2 ^ lo % 2 ^ (hi - lo + 1) := by
      intro a b
      have : a + b * 2 ^ f.lo = a + 2 ^ lo * (2 ^ (hi - lo + 1) * (b * 2 ^ k)) := by rw [hk, pow_add, pow_add]; ring
      rw [this, Nat.add_mul_div_left _ _ (by positivity), Nat.add_mul_mod_self_left]
    rw [hj, pow_add]
    have : w.toNat % 2 ^ f.lo + v % 2 ^ f.width * 2 ^ f.lo + w.toNat / (2 ^ f.lo * 2 ^ j) * (2 ^ f.lo * 2 ^ j)
        = w.toNat % 2 ^ f.lo + (v % 2 ^ f.width + w.toNat / (2 ^ f.lo * 2 ^ j) * 2 ^ j) * 2 ^ f.lo := by ring
    rw [this, key]
    conv_rhs => rw [← Nat.mod_add_div w.toNat (2 ^ f.lo), mul_comm (2 ^ f.lo), key]
  · obtain ⟨k, hk⟩ : ∃ k, lo = f.hi + 1 + k := ⟨lo - (f.hi + 1), by omega⟩
    have hp : 2 ^ lo = 2 ^ (f.hi + 1) * 2 ^ k := by rw [hk, pow_add _ (f.hi + 1)]
    have e2 : f.hi + 1 = f.lo + f.width := by unfold Fld.width; omega
    have hlow : w.toNat % 2 ^ f.lo + v % 2 ^ f.width * 2 ^ f.lo < 2 ^ (f.hi + 1) := by
      have ha : w.toNat % 2 ^ f.lo < 2 ^ f.lo := Nat.mod_lt _ (by positivity)
      have hv : v % 2 ^ f.width < 2 ^ f.width := Nat.mod_lt _ (by positivity)
      have p1 : v % 2 ^ f.width * 2 ^ f.lo ≤ (2 ^ f.width - 1) * 2 ^ f.lo := Nat.mul_le_mul_right _ (by omega)
      have q1 : (2 ^ f.width - 1) * 2 ^ f.lo + 2 ^ f.lo = 2 ^ (f.hi + 1) := by
        have e3 : 2 ^ (f.hi + 1) = 2 ^ f.width * 2 ^ f.lo := by rw [e2, pow_add, mul_comm]
        rw [e3, Nat.sub_mul, one_mul]
        exact Nat.sub_add_cancel (Nat.le_mul_of_pos_left _ (by positivity))
      omega
    have key : ∀ a, (w.toNat % 2 ^ f.lo + v % 2 ^ f.width * 2 ^ f.lo + a * 2 ^ (f.hi + 1)) / 2 ^ lo = a / 2 ^ k := by
      intro a
      rw [hp, ← Nat.div_div_eq_div_mul, Nat.add_mul_div_right _ _ (by positivity), Nat.div_eq_of_lt hlow, zero_add]
    rw [key, hp, Nat.div_div_eq_div_mul]

/-- A field written reads as the value written, cut to the field. -/
theorem State.fld_setFld (f : Fld) (v : Nat) (h : f.hi < 32) (hl : f.lo ≤ f.hi) :
    (s.setFld f v).fld f = v % 2 ^ f.width := by
  rw [State.fld, State.setFld, State.reg_setReg_same, bits_putField _ _ _ h hl]

/-- A field of another register reads as before. -/
theorem State.fld_setFld_off (f g : Fld) (v : Nat) (h : g.off ≠ f.off) : (s.setFld f v).fld g = s.fld g := by
  rw [State.fld, State.reg_setFld_ne _ _ _ _ h, State.fld]

/-- Another field of the same register reads as before. -/
theorem State.fld_setFld_bits (f g : Fld) (v : Nat) (h : f.hi < 32) (hl : f.lo ≤ f.hi) (hg : g.lo ≤ g.hi)
    (hd : g.hi < f.lo ∨ f.hi < g.lo) : (s.setFld f v).fld g = s.fld g := by
  by_cases e : g.off = f.off
  · rw [State.fld, e, State.setFld, State.reg_setReg_same, bits_putField_ne _ _ _ _ _ h hl hg hd, State.fld, e]
  · exact s.fld_setFld_off _ _ _ e

theorem State.fld_setReg_off (o : Nat) (g : Fld) (w : Word) (h : g.off ≠ o) : (s.setReg o w).fld g = s.fld g := by
  rw [State.fld, State.reg_setReg_ne _ _ _ _ h, State.fld]

theorem State.fld_ev (code src p0 p1 p2 : Nat) (g : Fld) (h : g.off ≠ Reg.evrDroppedCount.off)
    (h0 : g.off ≠ Reg.evrQueueHwmF0.off) : (s.ev code src p0 p1 p2).fld g = s.fld g := by
  rw [State.fld, State.reg_ev _ _ _ _ _ _ _ h h0, State.fld]

/-- A one-bit field written reads as the bit written. -/
theorem State.flag_setFlag (f : Fld) (b : Bool) (h : f.hi < 32) (hl : f.lo ≤ f.hi) : (s.setFlag f b).flag f = b := by
  have hw : 2 ≤ 2 ^ f.width := by
    unfold Fld.width
    calc 2 = 2 ^ 1 := rfl
      _ ≤ 2 ^ (f.hi - f.lo + 1) := Nat.pow_le_pow_right (by omega) (by omega)
  rw [State.flag, State.setFlag, s.fld_setFld f _ h hl]
  cases b
  · simp [b2n]
  · rw [b2n, if_pos rfl, Nat.mod_eq_of_lt (by omega)]; rfl

/-- A 64-bit pair written reads as the value written. -/
theorem State.pair_setPair (lo v : Nat) (h : v < 2 ^ 64) : (s.setPair lo v).pair lo = v := by
  rw [State.pair, State.setPair, State.reg_setReg_same, State.reg_setReg_ne _ _ _ _ (by omega), State.reg_setReg_same]
  rw [BitVec.toNat_ofNat, BitVec.toNat_ofNat]
  omega

end Sys2Proof.Machine
end

