-- ==== Sys2Proof/Laws/Host.lean ====
section
/-! SUPPORT. Laws of the shared paths of the commands: power, the arbiter's grant, the taking up of a host command and its
result. -/

namespace Sys2Proof.Machine

variable (s : State)

theorem State.does_on (f : State → State) (h : s.on = true) : s.does f = .next (f s) := by
  rw [State.does, if_pos h]

theorem State.does_off (f : State → State) (h : s.on = false) : s.does f = .next s := by
  rw [State.does, h]; rfl

theorem State.powered_iff : s.powered = true ↔ s.on = true ∧ s.led = true ∧ s.ctl.hold = none := by
  simp [State.powered, and_assoc]

/-- With no switchover under way nothing waits for its end. -/
theorem State.resume_none (h : s.ctl.hold = none) : s.resume = s := by
  rw [State.resume, h]

theorem State.does_powered (f : State → State) (h : s.powered = true) : s.does f = .next (f s) :=
  s.does_on f (s.powered_iff.1 h).1

theorem State.granted_powered (f : State → State) (h : s.powered = true) : s.granted f = .next (State.latch s (f s.arbGrant)) := by
  obtain ⟨h1, h2, h3⟩ := s.powered_iff.1 h
  rw [State.granted, s.does_on _ h1, if_pos h2, s.resume_none h3]

theorem State.commanded_powered (f : State → State) (h : s.powered = true) :
    s.commanded f = .next (State.latch s (f s.arbGrant)) := by
  obtain ⟨h1, h2, h3⟩ := s.powered_iff.1 h
  rw [State.commanded, s.does_on _ h1, if_pos h2, s.resume_none h3]

/-- With no control unit a grant waits, and a command of RST_CMD does not (R363, R401). -/
theorem State.granted_unled (f : State → State) (h : s.on = true) (hl : s.led = false) : s.granted f = .next s := by
  rw [State.granted, s.does_on _ h, hl]; rfl

theorem State.commanded_unled (f : State → State) (h : s.on = true) (hl : s.led = false) : s.commanded f = .next (f s) := by
  rw [State.commanded, s.does_on _ h, hl]; rfl

/-- A grant changes no register but the grant count and the journal's marks. -/
theorem State.reg_arbGrant (b : Nat) (h : b ∉ grantRegs) : s.arbGrant.reg b = s.reg b := by
  simp only [grantRegs, List.mem_cons, List.not_mem_nil, or_false, not_or] at h
  obtain ⟨h1, h2, h3⟩ := h
  unfold State.arbGrant
  dsimp only
  split_ifs
  · rfl
  · rw [State.reg_addPair_ne _ _ _ _ h1 h2]
  · rw [State.reg_setFld_ne _ Reg.ctlJournalHwm _ _ h3, State.reg_setFld_ne _ Reg.ctlJournalDepth _ _ h3, State.reg_addPair_ne _ _ _ _ h1 h2]
  · rw [State.reg_setFld_ne _ _ _ _ h3, State.reg_addPair_ne _ _ _ _ h1 h2]

theorem State.fld_arbGrant (f : Fld) (h : f.off ∉ grantRegs) : s.arbGrant.fld f = s.fld f := by
  rw [State.fld, State.reg_arbGrant _ _ h, State.fld]

/-- A host command that the module takes up runs its body. -/
theorem State.hostCmd_takes (o : Origin) (op : Nat) (body : State → State) (level : Nat) (snap : Bool)
    (h : s.takes o op level snap = true) : s.hostCmd o op body level snap = body (s.begun o op) := by
  simp only [State.takes, Bool.and_eq_true, decide_eq_true_eq, beq_iff_eq] at h
  obtain ⟨⟨h1, h2⟩, h3⟩ := h
  unfold State.hostCmd
  rw [if_neg (by simp [h1]), if_neg (by omega)]
  simp only [h3]
  rfl

/-- Giving a command in progress its result. -/
theorem State.result_finish (o : Origin) (op : Nat) (st : Status) (f : Flags) (r d : List Byte)
    (h : (⟨o, op, none⟩ : Progress) ∈ s.inProg) : (s.finish o st f r d).result o op st f r d := by
  unfold State.result State.finish
  exact List.mem_map.2 ⟨_, h, by simp⟩

/-- A command that has just begun is in progress. -/
theorem State.mem_begun (o : Origin) (op : Nat) : (⟨o, op, none⟩ : Progress) ∈ (s.begun o op).inProg := by
  simp [State.begun]

@[simp] theorem State.begun_reg (o : Origin) (op b : Nat) : (s.begun o op).reg b = s.reg b := by
  simp only [State.reg, State.begun]

@[simp] theorem State.begun_fld (o : Origin) (op : Nat) (f : Fld) : (s.begun o op).fld f = s.fld f := by
  simp only [State.fld, State.begun_reg]

@[simp] theorem State.begun_flag (o : Origin) (op : Nat) (f : Fld) : (s.begun o op).flag f = s.flag f := by
  simp only [State.flag, State.begun_fld]

@[simp] theorem State.finish_reg (o : Origin) (st : Status) (f : Flags) (r d : List Byte) (b : Nat) :
    (s.finish o st f r d).reg b = s.reg b := by
  simp only [State.reg, State.finish]

@[simp] theorem State.finish_fld (o : Origin) (st : Status) (f : Flags) (r d : List Byte) (g : Fld) :
    (s.finish o st f r d).fld g = s.fld g := by
  simp only [State.fld, State.finish_reg]

@[simp] theorem State.finish_flag (o : Origin) (st : Status) (f : Flags) (r d : List Byte) (g : Fld) :
    (s.finish o st f r d).flag g = s.flag g := by
  simp only [State.flag, State.finish_fld]

/-! ### Events -/

theorem lset_getD {α : Type} (l : List α) (i : Nat) (v d : α) (h : i < l.length) : (lset l i v).getD i d = v := by
  induction l generalizing i with
  | nil => simp at h
  | cons x l ih =>
    cases i with
    | zero => simp [lset]
    | succ i => simp only [lset]; simpa using ih i (by simpa using h)

theorem lset_self_mem {α : Type} (l : List α) (i : Nat) (v : α) (h : i < l.length) : v ∈ lset l i v := by
  induction l generalizing i with
  | nil => simp at h
  | cons x l ih =>
    cases i with
    | zero => simp [lset]
    | succ i => exact List.mem_cons_of_mem _ (ih i (by simpa using h))

theorem State.evDie_lt (code src : Nat) : s.evDie code src < 2 := by
  have ha : s.activeUnit.getD 0 < 2 := by
    unfold State.activeUnit
    split_ifs <;> simp
  unfold State.evDie
  split <;> first | exact ha | (split_ifs <;> omega)

/-- An event raised while its queue has room waits in it. -/
theorem State.hasEvent_ev (code src p0 p1 p2 : Nat) (h : s.room 1 = true) : (s.ev code src p0 p1 p2).hasEvent code src p0 p1 p2 := by
  simp only [State.room, Bool.and_eq_true, beq_iff_eq, List.all_eq_true, decide_eq_true_eq] at h
  have hd := s.evDie_lt code src
  have hl : (s.evQueue (s.evDie code src)).length + 1 ≤ 1024 := by
    unfold State.evQueue
    rw [List.getD_eq_getElem?_getD, List.getElem?_eq_getElem (by omega)]
    exact h.2 _ (List.getElem_mem _)
  unfold State.ev
  dsimp only
  rw [if_neg (by omega)]
  unfold State.hasEvent
  rw [State.evMark_evq]
  refine ⟨_, lset_self_mem _ _ _ (by omega), s.evOf code src p0 p1 p2, by simp, rfl, rfl, rfl, rfl, rfl⟩

end Sys2Proof.Machine
end

