-- ==== Sys2Proof/Laws/Line.lean ====
section
/-! SUPPORT. The bounds and lengths of the line's and the transport's codes, and what a lane frame holds for its receiver. -/

namespace Sys2Proof.Machine

/-! ### Numbers and their bytes -/

@[simp] theorem natLe_length (n v : Nat) : (natLe n v).length = n := by
  induction n generalizing v with
  | zero => rfl
  | succ n ih => simp [natLe, ih]

theorem leNat_natLe (n v : Nat) : leNat (natLe n v) = v % 256 ^ n := by
  induction n generalizing v with
  | zero => simp [natLe, leNat, Nat.mod_one]
  | succ n ih =>
    have h := Nat.mod_mul (a := 256) (b := 256 ^ n) (x := v)
    simp only [natLe, leNat, ih, BitVec.toNat_ofNat, Nat.pow_succ', h]

@[simp] theorem natBe_length (n v : Nat) : (natBe n v).length = n := by simp [natBe]

theorem beNat_natBe (n v : Nat) : beNat (natBe n v) = v % 256 ^ n := by simp [beNat, natBe, leNat_natLe]

/-- A slice that lies within the middle of three lists is that of the middle list. -/
theorem slice_append (a b c : List Byte) (o n : Nat) (h : o = a.length) (k : n = b.length) : slice (a ++ b ++ c) o n = b := by
  subst h k
  simp [slice]

/-! ### Bounds -/

theorem crc32Byte_lt (c : Nat) (b : Byte) (h : c < 2 ^ 32) : crc32Byte c b < 2 ^ 32 := by
  have key : ∀ (l : List Nat) (c : Nat), c < 2 ^ 32 →
      l.foldl (fun c _ => if c % 2 = 1 then Nat.xor (c / 2) 0xEDB88320 else c / 2) c < 2 ^ 32 := by
    intro l
    induction l with
    | nil => exact fun _ h => h
    | cons _ _ ih =>
      intro c h
      refine ih _ ?_
      dsimp only
      split
      · exact Nat.xor_lt_two_pow (by omega) (by decide)
      · omega
  exact key _ _ (Nat.xor_lt_two_pow h (by have := b.isLt; omega))

theorem crc32_lt (bs : List Byte) : crc32 bs < 2 ^ 32 := by
  have key : ∀ (bs : List Byte) (c : Nat), c < 2 ^ 32 → bs.foldl crc32Byte c < 2 ^ 32 := by
    intro bs
    induction bs with
    | nil => exact fun _ h => h
    | cons b bs ih => exact fun c h => ih _ (crc32Byte_lt c b h)
  exact Nat.xor_lt_two_pow (key bs _ (by decide)) (by decide)

theorem sm4Tau_lt (x : Nat) : sm4Tau x < 2 ^ 32 := by
  have h : ∀ y, sm4Sbox y < 256 := fun y => Nat.mod_lt _ (by decide)
  have := h (x / 2 ^ 24 % 256)
  have := h (x / 2 ^ 16 % 256)
  have := h (x / 256 % 256)
  have := h (x % 256)
  simp only [sm4Tau]
  omega

theorem rol32_lt (x n : Nat) (h : x < 2 ^ 32) (k : n ∈ [2, 10, 13, 18, 23, 24]) : rol32 x n < 2 ^ 32 := by
  simp only [List.mem_cons, List.not_mem_nil, or_false] at k
  rcases k with rfl | rfl | rfl | rfl | rfl | rfl <;>
    simp only [rol32, Nat.reduceMod, Nat.reducePow, Nat.reduceSub] at h ⊢ <;> omega

theorem sm4Rounds_lt : ∀ (n i : Nat) (k x : Nat × Nat × Nat × Nat),
    k.1 < 2 ^ 32 → k.2.1 < 2 ^ 32 → k.2.2.1 < 2 ^ 32 → k.2.2.2 < 2 ^ 32 →
    x.1 < 2 ^ 32 → x.2.1 < 2 ^ 32 → x.2.2.1 < 2 ^ 32 → x.2.2.2 < 2 ^ 32 →
    (sm4Rounds n i k x).1 < 2 ^ 32 ∧ (sm4Rounds n i k x).2.1 < 2 ^ 32 ∧ (sm4Rounds n i k x).2.2.1 < 2 ^ 32
      ∧ (sm4Rounds n i k x).2.2.2 < 2 ^ 32
  | 0, _, _, _, _, _, _, _, a, b, c, d => ⟨a, b, c, d⟩
  | n + 1, i, (k0, k1, k2, k3), (x0, x1, x2, x3), h0, h1, h2, h3, a, b, c, d => by
    have r := fun x n h k => rol32_lt x n h k
    refine sm4Rounds_lt n (i + 1) _ _ h1 h2 h3 ?_ b c d ?_
    · exact Nat.xor_lt_two_pow (Nat.xor_lt_two_pow (Nat.xor_lt_two_pow h0 (sm4Tau_lt _)) (r _ _ (sm4Tau_lt _) (by decide)))
        (r _ _ (sm4Tau_lt _) (by decide))
    · exact Nat.xor_lt_two_pow (Nat.xor_lt_two_pow (Nat.xor_lt_two_pow (Nat.xor_lt_two_pow (Nat.xor_lt_two_pow a (sm4Tau_lt _))
        (r _ _ (sm4Tau_lt _) (by decide))) (r _ _ (sm4Tau_lt _) (by decide))) (r _ _ (sm4Tau_lt _) (by decide)))
        (r _ _ (sm4Tau_lt _) (by decide))

theorem sm4_lt (key block : Nat) : sm4 key block < 2 ^ 128 := by
  have w : ∀ v i : Nat, v / 2 ^ i % 2 ^ 32 < 2 ^ 32 := fun v i => Nat.mod_lt _ (by decide)
  simp only [sm4]
  generalize h : sm4Rounds 32 0 _ _ = x
  have r : x.1 < 2 ^ 32 ∧ x.2.1 < 2 ^ 32 ∧ x.2.2.1 < 2 ^ 32 ∧ x.2.2.2 < 2 ^ 32 := by
    rw [← h]
    apply sm4Rounds_lt <;> first | exact w _ _ | exact Nat.xor_lt_two_pow (w _ _) (by decide)
  obtain ⟨a, b, c, d⟩ := x
  simp only [Nat.reducePow] at r ⊢
  omega

theorem gcmMul_lt (x y : Nat) (h : y < 2 ^ 128) : gcmMul x y < 2 ^ 128 := by
  have key : ∀ (l : List Nat) (z v : Nat), z < 2 ^ 128 → v < 2 ^ 128 →
      (l.foldl (fun (z, v) i =>
        (if x.testBit (127 - i) then z ^^^ v else z, if v % 2 = 1 then (v / 2) ^^^ (0xE1 * 2 ^ 120) else v / 2)) (z, v)).1
        < 2 ^ 128 := by
    intro l
    induction l with
    | nil => exact fun _ _ h _ => h
    | cons i l ih =>
      intro z v hz hv
      refine ih _ _ ?_ ?_
      · split
        · exact Nat.xor_lt_two_pow hz hv
        · exact hz
      · split
        · exact Nat.xor_lt_two_pow (by omega) (by decide)
        · omega
  exact key _ _ _ (by decide) h

theorem gcmTag_lt (key nonce : Nat) (aad cipher : List Byte) : gcmTag key nonce aad cipher < 2 ^ 128 := by
  have sum : ∀ (l : List Nat) (y : Nat), y < 2 ^ 128 → l.foldl (fun y x => gcmMul (y ^^^ x) (sm4 key 0)) y < 2 ^ 128 := by
    intro l
    induction l with
    | nil => exact fun _ h => h
    | cons x l ih => exact fun y _ => ih _ (gcmMul_lt _ _ (sm4_lt _ _))
  exact Nat.xor_lt_two_pow (sm4_lt _ _) (sum _ _ (by decide))

@[simp] theorem gcmStream_length (key nonce : Nat) (bs : List Byte) : (gcmStream key nonce bs).length = bs.length := by
  have h : ∀ l : List Nat, (l.flatMap fun i =>
      natBe 16 (sm4 key (nonce * 2 ^ 32 + (i + 2) % 2 ^ 32) ^^^ beNat (slice bs (16 * i) 16))).length = 16 * l.length := by
    intro l
    induction l with
    | nil => rfl
    | cons _ _ ih => simp only [List.flatMap_cons, List.length_append, natBe_length, ih, List.length_cons]; omega
  simp only [gcmStream, List.length_take, h, List.length_range]
  omega

/-! ### Lane frames -/

/-- What a lane frame of 64 slots holds: its marker, its tail's first bytes, and a tag and a CRC that agree (R237, R240). -/
theorem sealLane_holds (key txc dim pos n : Nat) (aad slots : List Byte) (f : LaneFrame) (hs : slots.length = 2048)
    (ha : aad.length = 12) (hf : f = sealLane key txc dim pos n aad slots) :
    f.bytes.take 2048 = gcmStream key (laneNonce txc dim pos) slots ∧ slice f.bytes 2048 12 = aad ∧ f.crcOk = true
      ∧ beNat (slice f.bytes 2060 16) = gcmTag key (laneNonce txc dim pos) aad (gcmStream key (laneNonce txc dim pos) slots) := by
  subst hf
  have hc := gcmStream_length key (laneNonce txc dim pos) slots
  rw [hs] at hc
  simp only [sealLane]
  generalize gcmStream key (laneNonce txc dim pos) slots = c at hc ⊢
  have ht := gcmTag_lt key (laneNonce txc dim pos) aad c
  generalize hg : gcmTag key (laneNonce txc dim pos) aad c = g at ht ⊢
  refine ⟨?_, ?_, ?_, ?_⟩
  · simp [hc]
  · have := slice_append c aad (natBe 16 g ++ natLe 4 (crc32 (c ++ aad ++ natBe 16 g))) 2048 12 hc.symm ha.symm
    simpa using this
  · have hb : (c ++ aad ++ natBe 16 g).length = 2076 := by simp [hc, ha]
    have h4 := slice_append (c ++ aad ++ natBe 16 g) (natLe 4 (crc32 (c ++ aad ++ natBe 16 g))) [] 2076 4 hb.symm (by simp)
    rw [List.append_nil] at h4
    have hl := crc32_lt (c ++ aad ++ natBe 16 g)
    simp only [LaneFrame.crcOk, LaneFrame.tail, field, h4, leNat_natLe]
    rw [List.take_append_of_le_length (by omega), List.take_of_length_le (by omega)]
    simp only [List.length_append, natLe_length, natBe_length, hc, ha, Bool.and_eq_true, beq_iff_eq]
    exact ⟨trivial, Nat.mod_eq_of_lt hl⟩
  · have h6 := slice_append (c ++ aad) (natBe 16 g) (natLe 4 (crc32 (c ++ aad ++ natBe 16 g))) 2060 16 (by simp [hc, ha]) (by simp)
    rw [h6, beNat_natBe]
    exact Nat.mod_eq_of_lt ht

/-- A field within the first 12 bytes of the tail is that of those bytes. -/
theorem sealLane_tail (key txc dim pos n : Nat) (aad slots : List Byte) (o k : Nat) (hs : slots.length = 2048)
    (ha : aad.length = 12) (h : o + k ≤ 12) : (sealLane key txc dim pos n aad slots).tail o k = field aad o k := by
  have hc := gcmStream_length key (laneNonce txc dim pos) slots
  rw [hs] at hc
  have d : ∀ c r : List Byte, c.length = 2048 → slice (c ++ (aad ++ r)) (2048 + o) k = slice aad o k := by
    intro c r hc
    have e : (c ++ (aad ++ r)).drop (2048 + o) = aad.drop o ++ r := by
      rw [List.drop_append, List.drop_of_length_le (by omega), List.nil_append, hc, Nat.add_sub_cancel_left,
        List.drop_append_of_le_length (by omega)]
    simp only [slice, e]
    rw [List.take_append_of_le_length (by simp; omega)]
  simp only [LaneFrame.tail, sealLane, field, List.append_assoc]
  rw [d _ _ hc]

/-- The fields of a marker. -/
theorem markerOf_fields (dim pos txc : Nat) (hd : dim < 16) (hp : pos < 16) :
    markerOf dim pos txc % 2 ^ 40 = markerPattern ∧ bits (markerOf dim pos txc) 43 40 = pos
      ∧ bits (markerOf dim pos txc) 47 44 = dim ∧ bits (markerOf dim pos txc) 63 48 = txc % 2 ^ 16 := by
  simp only [markerOf, markerPattern, bits, Nat.reducePow, Nat.reduceSub, Nat.reduceAdd]
  omega

/-- A frame whose marker, CRC, count and tag agree passes. -/
theorem passes_of (f : LaneFrame) (key txc dim pos : Nat) (hd : dim < 16) (hp : pos < 16)
    (hm : f.marker = some (markerOf dim pos txc)) (hu : f.uncorrectable = 0) (hc : f.crcOk = true) (ht : f.tail 8 4 = txc % 2 ^ 32)
    (hg : beNat (slice f.bytes 2060 16) = gcmTag key (laneNonce txc dim pos) (slice f.bytes 2048 12) (f.bytes.take 2048)) :
    f.passes key txc = true := by
  obtain ⟨e1, e2, e3, e4⟩ := markerOf_fields dim pos txc hd hp
  have h1 : f.marked = true := by simp only [LaneFrame.marked, hm, Option.elim, e1, beq_self_eq_true]
  have h2 : f.position = pos := by simp only [LaneFrame.position, hm, Option.getD, e2]
  have h3 : f.dim = dim := by simp only [LaneFrame.dim, hm, Option.getD, e3]
  have h4 : f.tagOk key txc = true := by
    simp only [LaneFrame.tagOk, ht, hm, Option.getD, e4, h2, h3, hg, beq_self_eq_true, Bool.and_self]
  simp only [LaneFrame.passes, h1, h4, hc, hu, beq_self_eq_true, Bool.and_self]

/-- What is sealed passes at the receiver that has the key and the count (R238, R240). -/
theorem sealLane_passes (key txc dim pos n : Nat) (aad slots : List Byte) (hs : slots.length = 2048) (ha : aad.length = 12)
    (hd : dim < 16) (hp : pos < 16) (ht : field aad 8 4 = txc % 2 ^ 32) :
    (sealLane key txc dim pos n aad slots).passes key txc = true := by
  obtain ⟨h1, h2, h3, h4⟩ := sealLane_holds key txc dim pos n aad slots _ hs ha rfl
  refine passes_of _ key txc dim pos hd hp rfl rfl h3 ?_ ?_
  · rw [sealLane_tail key txc dim pos n aad slots 8 4 hs ha (by omega), ht]
  · rw [h4, h2, h1]

end Sys2Proof.Machine
end

