-- ==== Sys2Proof/WellFormed.lean ====
section
/-! DEFINITION. Well-formed commands: every operand lies in the range that its field or its unit's numbering gives (R18 to R20,
R90, R258, R378, R388, R390).  An ill-formed command is one that nothing can send. -/

namespace Sys2Proof

/-- A session by index, SEQ, TAG and epoch. -/
def Origin.wf (o : Origin) : Bool :=
  decide (o.sess < 4096) && decide (o.seq < 2 ^ 32) && decide (o.tag < 2 ^ 32) && decide (o.epoch < 2 ^ 20)

/-- A requester of R27. -/
def Requester.wf : Requester → Bool
  | .i3c => true
  | .session i => decide (i < 4096)
  | .firmware u => decide (u < 2)

/-- A packet whose fields fit the header of R259. -/
def Packet.wf (p : Packet) : Bool :=
  decide (p.dest < 2 ^ 16) && decide (p.src < 2 ^ 16) && decide (p.inter < 2 ^ 16) && decide (p.cls < 5) && decide (p.level < 3)
    && decide (p.length ≤ 255) && decide (p.opcode < 256) && decide (p.tag < 2 ^ 14) && decide (p.cmd.length ≤ 16)
    && decide (p.data.length ≤ 8160)

/-- A datagram (R375, R397): a frame carries at most 9,216 bytes. -/
def HostPkt.wf (p : HostPkt) : Bool := decide (p.port < 9) && decide (p.srcPort < 2 ^ 16) && decide (p.bytes.length ≤ 9216)

/-- A HELLO (R384). -/
def Hello.wf (h : Hello) : Bool := h.pkt.wf && decide (h.nonce < 2 ^ 256) && decide (h.job < 2 ^ 32)

/-- A cabling plan (R215). -/
def Plan.wf (p : Plan) : Bool :=
  decide (p.rack < 1024) && decide (p.slot < 64) && decide (p.none < 2 ^ 16) && decide (p.root < 2 ^ 16) && decide (p.backup < 2 ^ 16)

/-- A port frame (R235). -/
def Frame.wf (f : Frame) : Bool := f.lanes.all (fun l => decide (l.lane < 112) && [0, 2080].contains l.bytes.length)

/-- Parameters of CONTEXT_CREATE (R390). -/
def CtxParams.wf (p : CtxParams) : Bool :=
  decide (p.partition < 256) && decide (p.weight < 256) && decide (p.queues < 256) && decide (p.seed < 2 ^ 128)
    && decide (p.rings.length = 4)

/-- Parameters of a slot command (R390). -/
def SlotParams.wf (p : SlotParams) : Bool :=
  decide (p.slot < 2 ^ 16) && decide (p.ctx < 2 ^ 16) && decide (p.pageTokens < 2 ^ 16) && decide (p.pages < 2 ^ 32)
    && decide (p.tokens < 2 ^ 32) && decide (p.table < 2 ^ 64)

/-- Parameters of GROUP_CREATE (R390). -/
def GroupParams.wf (p : GroupParams) : Bool :=
  decide (p.id < 2 ^ 32) && decide (p.ctx < 2 ^ 16) && decide (p.base < 2 ^ 16) && decide (p.mask < 2 ^ 16) && decide (p.log2 < 256)

/-- Parameters of FORM_RICK and JOIN (R390). -/
def RickParams.wf (p : RickParams) : Bool := decide (p.ctx < 2 ^ 16) && decide (p.bits.length = 3)

/-- A command that something can send. -/
def Instr.wf (i : Instr) : Bool :=
  match i with
  | .nop o => o.wf
  | .contextCreate o p => o.wf && p.wf
  | .contextDestroy o ctx => o.wf && decide (ctx < 2 ^ 16)
  | .contextAbort o ctx => o.wf && decide (ctx < 2 ^ 16)
  | .doorbell o ctx queue tail => o.wf && decide (ctx < 2 ^ 16) && decide (queue < 2 ^ 8) && decide (tail < 2 ^ 32)
  | .queueRestart o ctx queue entry => o.wf && decide (ctx < 2 ^ 16) && decide (queue < 2 ^ 8) && decide (entry < 2 ^ 32)
  | .setSplit o split => o.wf && decide (split < 2 ^ 8)
  | .syncSet o counter _ value => o.wf && decide (counter < 2 ^ 16) && decide (value < 2 ^ 32)
  | .syncWait o counter target timeoutUs => o.wf && decide (counter < 2 ^ 16) && decide (target < 2 ^ 32) && decide (timeoutUs < 2 ^ 32)
  | .syncWaitTimeout o => o.wf
  | .slotOpen o p => o.wf && p.wf
  | .slotClose o p => o.wf && p.wf
  | .slotTruncate o p => o.wf && p.wf
  | .slotRepoint o p => o.wf && p.wf
  | .memRead o addr len => o.wf && decide (addr < 2 ^ 64) && decide (len < 2 ^ 32)
  | .memWrite o addr len data => o.wf && decide (addr < 2 ^ 64) && decide (len < 2 ^ 32) && decide (data.length ≤ 8192)
  | .memAtomic o addr op size operands => o.wf && decide (addr < 2 ^ 64) && decide (op < 2 ^ 8) && decide (size < 2 ^ 8) && decide (operands.length ≤ 8192)
  | .regionAssign o region ctx => o.wf && decide (region < 2 ^ 16) && decide (ctx < 2 ^ 16)
  | .zeroingDone region => decide (region < 1341)
  | .regionRelease o region => o.wf && decide (region < 2 ^ 16)
  | .dmaBind o ch ctx => o.wf && decide (ch < 2 ^ 8) && decide (ctx < 2 ^ 16)
  | .dmaRelease o ch => o.wf && decide (ch < 2 ^ 8)
  | .dmaStart o ch image => o.wf && decide (ch < 2 ^ 8) && decide (image.length ≤ 8192)
  | .dmaAbort o ch => o.wf && decide (ch < 2 ^ 8)
  | .groupCreate o p => o.wf && p.wf
  | .groupDestroy o gid => o.wf && decide (gid < 2 ^ 32)
  | .groupDoorbell o gid tail => o.wf && decide (gid < 2 ^ 32) && decide (tail < 2 ^ 32)
  | .installRanks o n first ids => o.wf && decide (n < 2 ^ 32) && decide (first < 2 ^ 32) && decide (ids.length ≤ 4096)
  | .stageRanks o n first ids gen => o.wf && decide (n < 2 ^ 32) && decide (first < 2 ^ 32) && decide (ids.length ≤ 4096) && decide (gen < 2 ^ 8)
  | .formRick o p => o.wf && p.wf
  | .dissolveRick o => o.wf
  | .join o p => o.wf && p.wf
  | .rebuild o spare => o.wf && decide (spare < 2 ^ 16)
  | .rollback o bank => o.wf && decide (bank < 2 ^ 32)
  | .eventRead o first count => o.wf && decide (first < 2 ^ 32) && decide (count < 2 ^ 16)
  | .readRegs o offs => o.wf && decide (offs.length ≤ 2048)
  | .resetRequest o level part => o.wf && decide (level < 2 ^ 8) && decide (part < 2 ^ 8)
  | .attest o nonce => o.wf && decide (nonce < 2 ^ 256)
  | .writeRegs o writes => o.wf && decide (writes.length ≤ 1024)
  | .hello h => h.wf
  | .finish p _ => p.wf
  | .handshakeTimeout sess => decide (sess < 2 ^ 12)
  | .command p => p.wf
  | .ack p => p.wf
  | .close p => p.wf
  | .retransmitTimeout sess => decide (sess < 2 ^ 12)
  | .disconnectedTimeout sess => decide (sess < 2 ^ 12)
  | .hostPortDown port => decide (port < 8)
  | .hostPortUp port => decide (port < 8)
  | .commandDone o => o.wf
  | .dmaCtrlStart r ch value => r.wf && decide (ch < 128) && decide (value < 2 ^ 32)
  | .dmaCtrlAbort r ch => r.wf && decide (ch < 128)
  | .dmaCtrlClear r ch => r.wf && decide (ch < 128)
  | .dmaRequestIssue ch => decide (ch < 128)
  | .dmaReply ch _ => decide (ch < 128)
  | .dmaTransferDone ch => decide (ch < 128)
  | .dmaDrained ch => decide (ch < 128)
  | .lanDiscover r mask => r.wf && decide (mask < 2 ^ 16)
  | .laneCtrlDrop r lane => r.wf && decide (lane < 112)
  | .laneCtrlRestore r lane => r.wf && decide (lane < 112)
  | .lanePrbsEnable r lane => r.wf && decide (lane < 112)
  | .laneLoopback r lane mode _ => r.wf && decide (lane < 112) && decide (mode < 4)
  | .portCtrlRetrain r port => r.wf && decide (port < 16)
  | .portCtrlForget r port => r.wf && decide (port < 16)
  | .eyeScanStart r die value => r.wf && decide (die < 2) && decide (value < 2 ^ 32)
  | .eyeScanAbort r die => r.wf && decide (die < 2)
  | .eyeScanDone die _ => decide (die < 2)
  | .clearHwm r => r.wf
  | .memSpareStart r channel => r.wf && decide (channel < 768)
  | .rstCmdPartition r part => r.wf && decide (part < 4)
  | .rstCmdChip r => r.wf
  | .rstCmdPowerCycle r => r.wf
  | .faultContextClear r => r.wf
  | .ctlSwapCommand r => r.wf
  | .unitRestart r unit => r.wf && decide (unit < 2)
  | .ember r unit count => r.wf && decide (unit < 2) && decide (count < 2 ^ 16)
  | .traceEnWrite r _ => r.wf
  | .botAshAdd r value => r.wf && decide (value < 2 ^ 32)
  | .warm r => r.wf
  | .forget r => r.wf
  | .licenceInstall r _ => r.wf
  | .licenceRemove r slot => r.wf && decide (slot < 16)
  | .imageBegin r _ => r.wf
  | .writePage r page => r.wf && decide (page < 2 ^ 15)
  | .imageFinish r => r.wf
  | .imageWritten _ => true
  | .activate r _ => r.wf
  | .cancel r => r.wf
  | .broadcast r => r.wf
  | .enrolAdd r _ => r.wf
  | .enrolRemove r slot => r.wf && decide (slot < 840)
  | .pwrCapWrite r watts => r.wf && decide (watts < 2 ^ 16)
  | .opCapWrite r watts => r.wf && decide (watts < 2 ^ 16)
  | .limitsWrite r maxW minW => r.wf && decide (maxW < 2 ^ 16) && decide (minW < 2 ^ 16)
  | .trayReport r flow => r.wf && decide (flow < 2 ^ 16)
  | .planLoad r plan => r.wf && plan.wf
  | .registerWrite r off value => r.wf && decide (off < 2 ^ 21) && decide (value < 2 ^ 32)
  | .packetIngress port p => decide (port < 16) && p.wf
  | .packetTransmit die port vc => decide (die < 2) && decide (port < 16) && decide (vc < 30)
  | .read p => p.wf
  | .write p => p.wf
  | .writeMasked p => p.wf
  | .atomic p => p.wf
  | .signal p => p.wf
  | .completion p => p.wf
  | .memoryRequest _ addr _ _ _ => decide (addr < 2 ^ 48)
  | .readData p => p.wf
  | .writeAck p => p.wf
  | .atomicResult p => p.wf
  | .signalAck p => p.wf
  | .completionAck p => p.wf
  | .requestTimeout die slot => decide (die < 2) && decide (slot < 2 ^ 13)
  | .linkCredit port _ => decide (port < 16)
  | .linkCreditSend port => decide (port < 16)
  | .windowReclaim port vc => decide (port < 16) && decide (vc < 30)
  | .identity port id _ dim verdict => decide (port < 16) && decide (id < 2 ^ 16) && decide (dim < 16) && decide (verdict < 3)
  | .identitySend port => decide (port < 16)
  | .identityTimeout port => decide (port < 16)
  | .darkTimeout port => decide (port < 16)
  | .darkRetry port => decide (port < 16)
  | .time port _ t1 t2 t3 t4 rootSeq _ _ counter =>
    decide (port < 16) && decide (rootSeq < 2 ^ 32) && [t1, t2, t3, t4, counter].all fun t => decide (t < 2 ^ 64)
  | .timeExchange => true
  | .holdoverExpiry => true
  | .rootLost => true
  | .portFrame port f => decide (port < 16) && f.wf
  | .framePeriod port => decide (port < 16)
  | .replayTimeout port => decide (port < 16)
  | .laneErrorWindow lane _ _ _ => decide (lane < 112)
  | .laneRetrain lane _ => decide (lane < 112)
  | .signalLoss port => decide (port < 16)
  | .pllLock port => decide (port < 16)
  | .linkTrained port good _ keyFail _ _ _ => decide (port < 16) && decide (good < 9) && decide (keyFail < 4)
  | .idleEntry port => decide (port < 16)
  | .idleExit port => decide (port < 16)
  | .idleLockTimeout port _ => decide (port < 16)
  | .hotWindow _ => true
  | .scrubPeriod _ _ _ => true
  | .ceHour => true
  | .sparingDone seam _ => decide (seam < 48)
  | .firingSelect part => decide (part < 4)
  | .fetchDone part _ => decide (part < 4)
  | .resolveDone part _ => decide (part < 4)
  | .framePassDone part => decide (part < 4)
  | .unitDone part _ _ => decide (part < 4)
  | .tileDone part _ => decide (part < 4)
  | .firingComplete part _ => decide (part < 4)
  | .firingHung part _ => decide (part < 4)
  | .residueRetry die core engine column _ => decide (die < 4) && decide (core < 162) && decide (engine < 4) && decide (column < 66)
  | .storeUncorrectable die _ _ => decide (die < 4)
  | .storeCheck die core _ => decide (die < 4) && decide (core < 162)
  | .coreLost die core _ => decide (die < 4) && decide (core < 162)
  | .dieLost die _ => decide (die < 4)
  | .passThroughFailed die direction => decide (die < 4) && decide (direction < 3)
  | .collectiveStart group => decide (group < 64)
  | .ready p => p.wf
  | .readyRetry group => decide (group < 64)
  | .segment p => p.wf
  | .segmentCombine group _ _ _ => decide (group < 64)
  | .segmentSend group _ _ => decide (group < 64)
  | .credit p => p.wf
  | .stepDone group => decide (group < 64)
  | .collectiveComplete group _ => decide (group < 64)
  | .abort p => p.wf
  | .heartbeat group _ => decide (group < 64)
  | .memberLost group _ => decide (group < 64)
  | .stallTimeout group => decide (group < 64)
  | .bankHello p => p.wf
  | .bankHelloSend => true
  | .peerSilent position => decide (position < 8)
  | .formationTimeout => true
  | .quiesceDone => true
  | .arrive p => p.wf
  | .delta p => p.wf
  | .foldDone => true
  | .parityRead p => p.wf
  | .bankStall => true
  | .rebuildDone => true
  | .resetGrant level _ _ => decide (level < 7)
  | .drainEnd level _ => decide (level < 7)
  | .snapshotDone level _ _ _ => decide (level < 7)
  | .resetAsserted level _ => decide (level < 7)
  | .postResetCheckDone level _ _ _ => decide (level < 7)
  | .resetRelease level _ _ => decide (level < 7)
  | .lowerResetDone level _ => decide (level < 7)
  | .ladderTimeout level _ _ => decide (level < 16)
  | .watchdogFire unit => decide (unit < 2)
  | .spareTestRotate die => decide (die < 4)
  | .spareTestDone die _ => decide (die < 4)
  | .leaseRenew => true
  | .leaseExpiry cell => decide (cell < 2)
  | .journalRecord _ => true
  | .journalTimeout => true
  | .fatalFault unit => decide (unit < 2)
  | .unitRestartTimer unit => decide (unit < 2)
  | .selfTest unit _ => decide (unit < 2)
  | .stateCopyDone unit => decide (unit < 2)
  | .probationEnd unit _ => decide (unit < 2)
  | .swapDue => true
  | .swapPoint _ => true
  | .coldStart slotId => decide (slotId < 64)
  | .startStepDone _ => true
  | .trayRstAssert => true
  | .powerLoss => true
  | .referenceLost _ => true
  | .optimeSave => true
  | .imagePage port p _ => decide (port < 16) && p.wf
  | .imagePageSend port => decide (port < 16)
  | .imagePull port p => decide (port < 16) && p.wf
  | .imagePullTimer => true
  | .broadcastIncomplete => true
  | .activationTime => true
  | .eventIntake => true
  | .mirrorCheck slot _ _ => decide (slot < 2 ^ 16)
  | .inputSample _ _ _ _ => true
  | .brakeNFall => true
  | .brakeNRise => true
  | .haltCleared _ => true
  | .operatingPoint _ => true
  | .capControl => true
  | .orphanCap => true
  | .capStorm => true
  | .sensorSample _ _ => true
  | .sensorSuspect pair => decide (pair < 20)
  | .trayReportStale => true
  | .flowLossNFall => true
  | .flowLossNRise => true
  | .flowLossShutdown => true
  | .monitorCompare _ => true
  | .randomFault monitor _ => decide (monitor < 2)
  | .rngRetest _ _ => true
  | .recordWriteDone type _ => decide (type < 14)
  | .rollbackDone => true
  | .coreSequencerTrap ctx die core => decide (ctx < 2 ^ 9) && decide (die < 4) && decide (core < 162)
  | .clusterFault die cluster => decide (die < 4) && decide (cluster < 9)
  | .sequencerNoResponse part => decide (part < 4)
  | .contextAbortDone ctx => decide (ctx < 2 ^ 9)
  | .isolationDone die cluster => decide (die < 4) && decide (cluster < 9)
  | .copyAbandoned seam => decide (seam < 48)
  | .heartbeatArrival p => p.wf
  | .trainingBurst port => decide (port < 16)
  | .ethernetFrame port kind _ => decide (port < 8) && decide (kind < 6)
  | .hostConfigurationLoad r _ => r.wf
  | .supplySlewDone => true

end Sys2Proof
end

