-- ==== Sys2Proof/Tests/Slice0.lean ====
section
/-! SUPPORT. Tests: small states, ill-formed commands that WellFormed refuses, single steps whose results are worked out by hand from
the rules of spec/, and the witnesses of the statements. -/

set_option Elab.async false

namespace Sys2Proof.Tests

open Sys2Proof.Machine

/-! ### Small states -/

/-- A running module with some fields set. -/
def st (fs : List (Fld × Nat)) : State := fs.foldl (fun s x => s.setFld x.1 x.2) { State.reset with phase := .up }

/-- Session 0, open on the management port, with a role code and a job. -/
def sess0 (role job : Nat) : List (Fld × Nat) :=
  [(Reg.hstSessionStateState 0, 2), (Reg.hstSessionStatePort 0, 8), (Reg.hstSessionStateRole 0, role), (Reg.hstSessionJobJob 0, job)]

/-- A command of session 0. -/
def org : Origin := { sess := 0, seq := 1, tag := 5 }

/-- Session 0 as a requester. -/
def req : Requester := .session 0

/-- An operator of job 7. -/
def opr : State := st (sess0 0 7)

/-- An installer. -/
def ins : State := st (sess0 1 0)

/-- A context of job 7 in partition 0, with one queue of 16 entries, counters 0 to 3 and slots 0 to 3. -/
def ctx7 : Ctx :=
  { p := { partition := 0, weight := 1, queues := 1, syncFirst := 0, syncCount := 4, slotFirst := 0, slotCount := 4, seed := 0
           rings := [(4096, 4)] }
    job := 7, credit := 1 }

/-- The fields of context 0's queue 0. -/
def q0 : List (Fld × Nat) := [(Reg.fsqCtxQStateExists 0 0, 1), (Reg.fsqCtxQSizeLog2 0 0, 4)]

/-- An operator of job 7 with context 0. -/
def own : State := { st (sess0 0 7 ++ q0) with ctxs := [(0, ctx7)] }

/-- An operator of job 7 that owns region 5. -/
def own5 : State := { st (sess0 0 7 ++ q0 ++ [(Reg.memRegionStateState 5, 1), (Reg.memRegionJobJob 5, 7)]) with ctxs := [(0, ctx7)] }

/-- A state with fields set over another. -/
def wth (s : State) (fs : List (Fld × Nat)) : State := fs.foldl (fun s x => s.setFld x.1 x.2) s

/-- Address of region 5. -/
def a5 : Nat := 5 * 2 ^ 30

/-- Context parameters of a fresh context. -/
def par1 : CtxParams := ctx7.p

/-- A context without counters, slots. -/
def ctxn : Ctx := { ctx7 with p := { ctx7.p with syncCount := 0 } }

/-- Slot parameters. -/
def sp (slot ctx pages tokens : Nat) : SlotParams := { slot := slot, ctx := ctx, pages := pages, tokens := tokens }

/-- Channel 3 bound to context 0, copying 64 bytes from region 5 to its next page. -/
def dma3 (fs : List (Fld × Nat)) : State :=
  wth own5 ([(Reg.dmaChOwnerBound 3, 1), (Reg.dmaChOwnerContext 3, 0), (Reg.dmaChSrcLoSrc 3, a5 % 2 ^ 32), (Reg.dmaChSrcHiSrc 3, a5 / 2 ^ 32)
    , (Reg.dmaChDstLoDst 3, (a5 + 4096) % 2 ^ 32), (Reg.dmaChDstHiDst 3, a5 / 2 ^ 32), (Reg.dmaChCountCount 3, 64)] ++ fs)

/-- An image of 96 bytes that starts a copy of some bytes from region 5. -/
def img (count : Nat) : List Byte :=
  slice (natLe 4 (2 ^ 31) ++ natLe 4 0 ++ natLe 8 a5 ++ natLe 8 (a5 + 4096) ++ natLe 4 count) 0 96

/-- A BUSY channel of job 7 with some requests outstanding. -/
def dmaRunning (x : DmaRun) : State := { dma3 [(Reg.dmaChStatusState 3, 1)] with dmaRun := [(3, { x with job := some 7 })], inProg := [⟨org, 0x32, none⟩] }

/-- An exclusive-or ALL_REDUCE of 32 two-byte elements over axis 0, from region 5 to its next page. -/
def cdX : CollDesc :=
  { control := 2 ^ 24 + 7 * 2 ^ 16 + 7 * 2 ^ 12 + 2 ^ 8 + 3, axes := 1, rows := 4, cols := 8, stream := 0, src := a5, srcFrames := 0
    dst := a5 + 4096, dstFrames := 0, completion := 0, wait := 0, signals := [0, 0], work := 0, reservedZero := true }

/-- Its 128 bytes. -/
def cdBytes : List Byte :=
  slice (natLe 4 cdX.control ++ natLe 4 1 ++ natLe 4 4 ++ natLe 4 8 ++ natLe 8 0 ++ natLe 8 a5 ++ natLe 8 0 ++ natLe 8 (a5 + 4096)) 0 128

/-- A running collective of that descriptor. -/
def runX : Coll := { entry := 0, desc := cdX, check := 77, phase := .reduce, axis := 0, step := 0 }

/-- A group of this module and module 1. -/
def grp (c : Option Coll) : Group := { addr := a5 + 65536, log2 := 4, rank := 0, rings := [(0, 0, [0, 1])], run := c }

/-- That collective with its only segment sent and combined. -/
def runC : Coll := { runX with sent := [(0, false, 0)], combined := [(0, false, 0), (1, false, 0)] }

/-- As `grp`, on a ring of four modules whose step 0 segments have been received. -/
def grp4 (c : Option Coll) : Group :=
  { grp c with rings := [(0, 0, [0, 1, 3, 2])], rx := [(⟨0, .reduce, 0, 0, false, 0⟩, List.replicate 16 5)] }

/-- That collective with a credit's worth ready. -/
def runR : Coll := { runX with ready := [(⟨0, .reduce, 0, 0, false, 0⟩, List.replicate 32 5)] }

/-- A group that runs it and holds two credits. -/
def grpR : Group := { grp (some runR) with credits := [((.reduce, 0, false, 0), 2)] }

/-- An operator's state with a rank table of modules 0 and 1, port 0 up, and group 0 in some state. -/
def collS (state : Nat) (x : Group) : State :=
  { wth own5 [(Reg.bnkRanktabJobJob 0, 7), (Reg.bnkRanktabStateValid 0, 1), (Reg.lanPortDiscState 0, 2), (Reg.carGroupStateState 0, state)
      , (Reg.carGroupIdId 0, 9), (Reg.carGroupContextContext 0, 0), (Reg.carGroupMembersRankMask 0, 1), (Reg.carGroupStateAxes 0, 1)
      , (Reg.carGroupStateSlots 0, 2), (Reg.carGroupQueueTail 0, 1)] with
    rankTabs := [(0, { ids := [0, 1] })], groups := [(0, x)] }

/-- As `collS`, with the descriptor in memory. -/
def collM (x : Group) : State := let s := collS 2 x; { s with mem := Memory.write s.mem (a5 + 65536) cdBytes }

/-- GROUP_CREATE's parameters. -/
def gp : GroupParams := { id := 5, ctx := 0, base := 0, mask := 1, weight := 1, slots := 2, home := 0, log2 := 4, addr := a5 + 65536 }

/-- A collective packet from module 1. -/
def cpk (op cseq step seg check : Nat) (data : List Byte) : Packet :=
  { dest := 0, src := 1, cls := 3, opcode := op, cmd := collCmd 9 cseq step {} seg check, data := data }

/-- The packet a route carries. -/
def routed (r : Route) : Packet := match r with | .deliver p => p | .port _ p => p | .unreachable _ p => p

/-- Regions 10 to 16 and 20 of job 7, rank table of modules 0 to 7 in entry 0, ports 0 to 2 up, Rick in effect. -/
def mem8 : State :=
  { wth own ((List.range 7).flatMap (fun i => [(Reg.memRegionStateState (10 + i), 1), (Reg.memRegionJobJob (10 + i), 7)])
      ++ [(Reg.memRegionStateState 20, 1), (Reg.memRegionJobJob 20, 7), (Reg.glbLicencesRick, 1), (Reg.bnkRanktabJobJob 0, 7)
      , (Reg.bnkRanktabStateValid 0, 1), (Reg.bnkRanktabStateSize 0, 8), (Reg.lanPortDiscState 0, 2), (Reg.lanPortDiscState 1, 2)
      , (Reg.lanPortDiscState 2, 2)]) with
    rankTabs := [(0, { ids := List.range 8 })], ctxs := [(0, ctxn)] }

/-- A rick of modules 0 to 7 in some state. -/
def rickS (state : Nat) (fs : List (Fld × Nat)) : State :=
  wth mem8 ([(Reg.bnkStatusState, state), (Reg.bnkJobJob, 7), (Reg.bnkRickBit1, 1), (Reg.bnkRickBit2, 2), (Reg.bnkProtectedBase, 10)
    , (Reg.bnkProtectedCount, 7), (Reg.bnkLogBase, 20), (Reg.bnkLogCount, 1), (Reg.memParityBase, 1340), (Reg.memParityCount, 1)
    , (Reg.memRegionStateState 1340, 3)] ++ fs)

/-- Parameters of that rick. -/
def rp : RickParams := { ctx := 0, bits := [0, 1, 2], protBase := 10, protCount := 7, logBase := 20, logCount := 1 }

/-- A bank packet from a peer. -/
def bpk (src op : Nat) (cmd data : List Byte) : Packet :=
  { dest := 0, src := src, cls := 1, opcode := op, cmd := cmd, data := data }

/-- First address of the parity line 0. -/
def l0 : Nat := 1340 * 2 ^ 30

/-- Does a route leave through port 0? -/
def onPort0 (r : Route) : Bool := match r with | .port d _ => d == 0 | _ => false

/-- Such a route carries its packet to port 0. -/
theorem port_of (r : Route) (h : onPort0 r = true) : r = .port 0 (routed r) := by
  cases r with
  | port d p => simp only [onPort0, beq_iff_eq] at h; subst h; rfl
  | deliver p => cases h
  | unreachable d p => cases h

/-- The key entry of a leaf key for a role. -/
def keyE (key role : Nat) : KeyEntry := { bytes := slice (natLe 1 role ++ natLe 15 0 ++ (natLe 64 key).reverse) 0 256, signer := 0x3FF }

/-- A header of session ID 0: VERSION 1, a type, FLAGS, SEQ, ACK, TXC 7 outside a handshake, LENGTH, WINDOW 0. -/
def hdr (type flags seq ack txc length : Nat) : List Byte :=
  natLe 1 1 ++ natLe 1 type ++ natLe 1 flags ++ natLe 5 0 ++ natLe 4 seq ++ natLe 4 ack ++ natLe 8 txc ++ natLe 2 length ++ natLe 6 0

/-- A datagram of session 0 on the management port under the key 0. -/
def dgm (type flags seq ack : Nat) (body : List Byte) : HostPkt :=
  { port := 8, bytes := sealHost 0 (hdr type flags seq ack 7 body.length) body }

/-- A handshake datagram on the management port. -/
def hsk (type length : Nat) : HostPkt := { port := 8, bytes := hdr type 0 0 0 0 length ++ List.replicate length 0 }

/-- A HELLO of an operator for job 7 over the management port. -/
def hel : Hello := { pkt := hsk 1 0, nonce := 5, job := 7, role := .operator, source := 1, addrA := 1, addrB := 2, leaf := 99 }

/-- A NOP command in the place of SEQ 1: opcode 0, its tag 5. -/
def hcm : HostPkt := dgm 0x10 0 1 0 (natLe 4 0 ++ natLe 4 5 ++ natLe 24 0)

/-- An installer's state with port 0 up at 12 lanes. -/
def up0 : State :=
  wth ins ((List.range 12).map (fun n => (Reg.lanLaneStatusState n, 2)) ++ [(Reg.lanPortDiscState 0, 2), (Reg.lanPortStatusLink 0, 1)
    , (Reg.lanPortStatusWidth 0, 12), (Reg.lanPortStatusActiveMask 0, 4095)])

/-- As `up0`, with what port 0 keeps. -/
def upP (x : Port) : State := { up0 with ports := [(0, x)] }

/-- A frame of one lane, with some flags, from a port whose transmit count and key are 0. -/
def frm (seq fl : Nat) (flits : List (List Byte)) : Frame := { lanes := [({} : Port).laneFrame 0 3 0 1 seq fl flits] }

/-- The first 12 bytes of its tail. -/
def frmHead (seq fl : Nat) : List Byte :=
  natLe 2 seq ++ natLe 2 65535 ++ natLe 1 fl ++ natLe 1 243 ++ natLe 1 0 ++ natLe 1 1 ++ natLe 4 0

/-- The one lane of such a frame of no flit. -/
def frmLane (seq fl : Nat) : LaneFrame :=
  sealLane 0 0 0 3 3 (frmHead seq fl) ((List.range 64).flatMap fun _ => slice [] 0 32)

/-- It is that lane alone. -/
theorem frm_lanes (seq fl : Nat) : (frm seq fl []).lanes = [frmLane seq fl] := rfl

/-- A field of the tail is that of those bytes. -/
theorem frm_tail (seq fl o k : Nat) (h : o + k ≤ 12) : (frmLane seq fl).tail o k = field (frmHead seq fl) o k :=
  sealLane_tail _ _ _ _ _ _ _ o k (by decide +kernel) (by simp [frmHead]) h

/-- It passes. -/
theorem frm_passes (seq fl : Nat) : (frmLane seq fl).passes 0 0 = true :=
  sealLane_passes _ _ _ _ _ _ _ (by decide +kernel) (by simp [frmHead]) (by decide) (by decide) (by
    have h := slice_append (natLe 2 seq ++ natLe 2 65535 ++ natLe 1 fl ++ natLe 1 243 ++ natLe 1 0 ++ natLe 1 1) (natLe 4 0) [] 8 4
      (by simp) (by simp)
    simp only [List.append_nil] at h
    simp only [field, frmHead, h]
    decide)

/-- It carries bytes. -/
theorem frm_sent (seq fl : Nat) : (frm seq fl []).lanes.filter (fun y => y.bytes != []) = [frmLane seq fl] := by
  have h : (frmLane seq fl).bytes ≠ [] := by
    intro h
    have := (sealLane_holds _ _ _ _ _ _ _ _ (by decide +kernel) (by simp [frmHead]) (rfl : frmLane seq fl = _)).2.2.1
    simp [LaneFrame.crcOk, h] at this
  simp [frm_lanes, h]

/-- Its lane is one of port 0, with its marker. -/
theorem frm_all (seq fl : Nat) : ∀ y ∈ (frm seq fl []).lanes, y.lane < 112 ∧ portOfLane y.lane = 0 ∧ y.marked = true := by
  intro y hy
  rw [frm_lanes, List.mem_singleton] at hy
  subst hy
  exact ⟨(by decide : 3 < 112), (by decide : portOfLane 3 = 0), (by decide : (markerOf 0 3 0 % 2 ^ 40 == markerPattern) = true)⟩

/-- It is whole. -/
theorem frm_whole (seq fl : Nat) : ∀ y ∈ (frm seq fl []).lanes.filter (fun y => y.bytes != []),
    y.passes 0 0 = true ∧ y.tail 7 1 = ((frm seq fl []).lanes.filter (fun y => y.bytes != [])).length := by
  intro y hy
  rw [frm_sent] at hy ⊢
  rw [List.mem_singleton] at hy
  subst hy
  refine ⟨frm_passes seq fl, ?_⟩
  have h := slice_append (natLe 2 seq ++ natLe 2 65535 ++ natLe 1 fl ++ natLe 1 243 ++ natLe 1 0) (natLe 1 1) (natLe 4 0) 7 1
    (by simp) (by simp)
  rw [frm_tail _ _ _ _ (by decide), field, frmHead, h]
  exact (by decide : leNat (natLe 1 1) = 1)

/-- Port 0 exchanging identities, with a link. -/
def exch : State := wth ins [(Reg.lanPortDiscState 0, 1), (Reg.lanPortStatusLink 0, 1), (Reg.glbModuleIdValid, 1)]

/-- A follower of fabric time through port 0; the root is module 1. -/
def folS (role : Nat) (t : FabTime) : State :=
  { wth ins [(Reg.lanDiscStatusPlanValid, 1), (Reg.lanPlanRootsRoot, 1), (Reg.lanPlanRootsBackupRoot, 2), (Reg.lanTimeStatusRole, role)
    , (Reg.lanPortDiscState 0, 2)] with time := t }

/-- A state with port 0 up in which module 1's requests for job 7 reach region 5. -/
def srv : State := { wth own5 [(Reg.lanPortDiscState 0, 2), (Reg.lanPortStatusLink 0, 1)] with mem := [(a5 + 3, 9#8)] }

/-- A request of module 1. -/
def rq (op : Nat) (cmd data : List Byte) (length : Nat) : Packet :=
  { dest := 0, src := 1, cls := 0, opcode := op, gen := 3, tag := 77, seq := 5, cmd := cmd, data := data, long := length ≠ 0, length := length }

/-- A reply of module 1 for slot 9 of die 0. -/
def rp2 (op : Nat) (data : List Byte) : Packet :=
  { dest := 0, src := 1, cls := 2, opcode := op, gen := 3, tag := 9, seq := 5, cmd := List.replicate 16 0, data := data }

/-- Slot 9 of die 0 held by a requester, and a firing running in partition 0. -/
def hold (w : ReqOwner) (r : Run) : State :=
  { opr with reqSlots := [(9, { busy := true, owner := w, gen := 3, seq := 5, dest := 1, opcode := 1 })]
             parts := [(0, { run := some r })] }

/-- The 256 bytes of a transpose of one INT8 element from region 5, with its completion record, its first wait and signal. -/
def trBytes (attr completion wait signal : Nat) : List Byte :=
  slice (natLe 4 (2 ^ 24 + 0x60) ++ natLe 4 100 ++ natLe 8 completion ++ natLe 16 0 ++ natLe 4 1 ++ natLe 4 1 ++ natLe 4 1 ++ natLe 20 0
    ++ natLe 32 0 ++ natLe 8 (a5 + 0x20000) ++ natLe 12 0 ++ natLe 4 attr ++ natLe 72 0 ++ natLe 8 (a5 + 0x30000) ++ natLe 12 0
    ++ natLe 4 attr ++ natLe 8 0 ++ natLe 8 wait ++ natLe 8 0 ++ natLe 8 signal) 0 256

/-- Its descriptor. -/
def trD (completion signal : Nat) : Desc := descOf (trBytes 6 completion 0 signal)

/-- Context 0 with its ring in region 5. -/
def ctxF : Ctx := { ctx7 with p := { ctx7.p with rings := [(a5, 4)], syncCount := 0, slotCount := 0 } }

/-- Context 0 ready to fire its queue 0 in partition 0, whose die 0 holds 128 cores, with 9 in the operand. -/
def fireS (bs : List Byte) (q : List (Fld × Nat)) (x : Sequencer) : State :=
  { wth own5 ([(Reg.fsqCtxQTailTail 0 0, 1)] ++ q) with
    ctxs := [(0, ctxF)], mem := Memory.write (Memory.write [] a5 bs) (a5 + 0x20000) [9#8], parts := [(0, x)] }

/-- The run of that firing at a stage, of one unit. -/
def fireR (st : Stage) (bs : List Byte) : Run :=
  { ctx := 0, queue := 0, entry := 0, stage := st, bytes := bs, desc := some (descOf bs), units := [1], owners := [0] }

/-- A gather of one INT8 row of one element, whose index in memory is whatever stands there: out of range. -/
def gaBytes : List Byte :=
  slice (natLe 4 (2 ^ 24 + 0x50) ++ natLe 4 100 ++ natLe 8 0 ++ natLe 16 0 ++ natLe 4 1 ++ natLe 4 1 ++ natLe 4 1 ++ natLe 20 0
    ++ natLe 32 0 ++ natLe 8 (a5 + 0x28000) ++ natLe 12 0 ++ natLe 4 6 ++ natLe 8 0 ++ natLe 8 (a5 + 0x20000) ++ natLe 12 0 ++ natLe 4 11 ++ natLe 40 0
    ++ natLe 8 (a5 + 0x30000) ++ natLe 12 0 ++ natLe 4 6) 0 256

/-- A signal of 5 to counter 2 of this module. -/
def sg2 : Nat := 5 * 2 ^ 32 + 2 ^ 12 + 2

/-- A firing whose one tile is complete. -/
def fireO (st : Stage) (completion signal : Nat) (f : Option FireFault) : Run :=
  { fireR st (trBytes 6 completion 0 signal) with unitsDone := [0], tilesDone := [0], fault := f }

/-- A state with that firing in partition 0. -/
def fireE (st : Stage) (completion signal : Nat) (f : Option FireFault) (q : List (Fld × Nat)) : State :=
  fireS (trBytes 6 completion 0 signal) q { run := some (fireO st completion signal f) }

/-- A module up, whose kiln die 0 has core 5 as logical core 7 and some roles set. -/
def kilS (fs : List (Fld × Nat)) : State := wth ins ([(Reg.kilCoreHealthLogical 0 5, 7), (Reg.kilCoreMapPhys 0 7, 5)] ++ fs)

/-- An event. -/
def evA (p0 clk : Nat) : Ev := ⟨0x0D09, 0, p0, 0, 0, 5, false, clk⟩

/-- A state with one reset, of a level and a target. -/
def rstS (level target : Nat) (f : Reset → Reset) : State :=
  { ins with resets := [f { dom := domOf level target, cause := 3, fault := 1, began := 0 }] }

/-- That reset. -/
def rstR (level target : Nat) : Reset := { dom := domOf level target, cause := 3, fault := 1, began := 0 }

/-- A waiting reset. -/
def rq1 (level target : Nat) : ResetReq := { level := level, target := target, cause := 3 }

/-- Units A and B in some states. -/
def cuS (a b : Nat) (fs : List (Fld × Nat)) : State :=
  wth ins ([(Reg.ctlStatusStateA, a), (Reg.ctlStatusStateB, b), (Reg.ctlStatusActive, if a = 1 then 0 else 1)] ++ fs)

/-- An installer's state whose licence buffer holds a licence with a serial number, signed by the key in slot 0. -/
def licS (fs : List (Fld × Nat)) : State :=
  let s := wth ins ([(Reg.botLicBufWord 0, 0x4C494345), (Reg.botLicBufWord 1, 0x30001), (Reg.botLicBufWord 2, 9), (Reg.botLicBufWord 12, 5)] ++ fs)
  { s with nvm := { s.nvm with keys := some [(0, { bytes := slice (natLe 2 0x201 ++ natLe 6 0 ++ natLe 8 5) 0 256, signer := 0x3FF })] } }

/-- A maker's or an installer's state whose enrolment buffer holds an entry of a kind. -/
def enrS (role kind : Nat) : State :=
  let s := st (sess0 role 0 ++ [(Reg.secEnrolBufWord 0, kind), (Reg.secEnrolBufWord 2, 6), (Reg.secEnrolBufWord 28, 77)
    , (Reg.secEnrolBufWord 30, if kind = 1 then 0 else 5)])
  { s with nvm := { s.nvm with keys := some [(8, { bytes := slice (natLe 2 2 ++ natLe 6 0 ++ natLe 8 5) 0 256, signer := 0 })] } }

/-- A state in a step of the start. -/
def stepS (n : Nat) : State := { (State.reset.setFld Reg.botStatusStep n) with phase := if n < 5 then .start else .test }

/-- A maker's state with a maker key in slot 0 that may sign installers' keys, whose buffer holds an installer's entry. -/
def mkrS : State :=
  let s := enrS 2 2
  { s with nvm := { s.nvm with keys := some [(0, { bytes := slice (natLe 2 0x401 ++ natLe 6 0 ++ natLe 8 5) 0 256, signer := 0 })] } }

/-- A manifest of six pages with five parts of one byte, each 0, and their digests. -/
def man (v : Nat) (digest : Nat) : List Byte :=
  slice (natLe 4 0x544E464D ++ natLe 2 1 ++ natLe 2 (State.reset.fld Reg.glbPartIdPart) ++ natLe 4 v ++ natLe 4 9 ++ natLe 5 0 ++ natLe 1 5
    ++ natLe 2 0 ++ natLe 4 6 ++ natLe 4 0 ++ natLe 8 5 ++ natLe 24 0
    ++ (List.range 5).flatMap fun i => natLe 4 (i + 1) ++ natLe 4 (i + 1) ++ natLe 4 1 ++ natLe 20 0 ++ natLe 32 digest) 0 4096

/-- A state with the maker key that signs it in slot 0, the image status at some code, and page 0 in the page buffer. -/
def imgS (staging : Nat) (m : List Byte) (fs : List (Fld × Nat)) : State :=
  let s := wth ins ((List.range 100).filterMap (fun w => if field m (4 * w) 4 = 0 then none else some (Reg.botImgBufWord w, field m (4 * w) 4)) ++ [(Reg.botImgStatusStaging, staging)] ++ fs)
  { s with nvm := { s.nvm with keys := some [(0, { bytes := slice (natLe 2 0x101 ++ natLe 6 0 ++ natLe 8 5) 0 256, signer := 0x3FF })] } }

/-- The digest of one byte 0, as a little-endian number of its bytes. -/
def dig0 : Nat := leNat (hashBytes (sm3 [0#8]))

/-- A state that receives or writes the image of version 7 with some pages. -/
def imgU (staging via : Nat) (m : List Byte) (pages : List Nat) : State :=
  let s := imgS staging m []
  { s with update := { s.update with manifest := m, via := via, version := 7, pages := 6
                                     buffer := pages.map fun k => (pageKey 7 k, if k = 0 then m else List.replicate 4096 0) } }

/-- A state with a VALID image of version 7. -/
def imgV (fs : List (Fld × Nat)) : State :=
  let s := wth ins ([(Reg.botImgStatusStaging, 3), (Reg.lanPortDiscState 0, 2)] ++ fs)
  { s with nvm := { s.nvm with staging := some ⟨[(0, man 7 0)]⟩ } }

/-- An IMAGE_PAGE packet of module 1. -/
def ipk (n : Nat) (b : List Byte) : Packet :=
  { dest := 0, src := 1, cls := 4, opcode := 0xE4, long := true, length := 128
    cmd := natLe 4 7 ++ natLe 4 n ++ natLe 2 0 ++ natLe 1 1 ++ natLe 5 0, data := b }

/-- An IMAGE_PULL packet of module 1 for one page. -/
def ipl (n : Nat) : Packet :=
  { dest := 0, src := 1, cls := 4, opcode := 0xE5, cmd := natLe 4 7 ++ natLe 4 n ++ natLe 4 1 ++ natLe 4 0 }

/-- Fabric time runs. -/
def tmS (t : Nat) (s : State) : State := { s with time := { s.time with running := true, base := t } }

/-- A state with a duty of 40 on every die, the input at 50 V and the inlet and outlet at 30 °C. -/
def pwrS (fs : List (Fld × Nat)) : State :=
  wth ins ((List.range 4).map (fun k => (Reg.pwrKilnDuty k, 40)) ++ [(Reg.pwrStatusDuty, 40), (Reg.pwrInputVolts, 5000)
    , (Reg.pwrTrayTempInlet, 480), (Reg.pwrTrayTempOutlet, 480)] ++ fs)

/-- A state in a storm of two writes. -/
def stmS : State :=
  { pwrS [(Reg.pwrStatusStorm, 1)] with power := { (pwrS []).power with writes := [(0, 800), (0, 900)], rackLast := 900, rackCap := 800 } }

/-- An operator of no job. -/
def opr0 (fs : List (Fld × Nat)) : State := st (sess0 0 0 ++ fs)

/-- A state with registers, memory, an event and an audit entry, no command waiting. -/
def invS : State :=
  { own with mem := [(5, 5#8), (a5, 9#8)], evq := [[evA 1 3], []], audit := [List.replicate 64 7#8] }

/-- The invariant, part by part. -/
theorem inv_of (s : State) (m : Memory.wf s.mem = true) (r : tsorted s.regs = true) (c : ∀ x ∈ s.regs, x.2 ≠ regReset x.1)
    (n : s.evq.length = 2) (e : ∀ q ∈ s.evq, q.length ≤ 1024) (a : s.audit.length ≤ 262144) (b : ∀ e ∈ s.audit, e.length = 64) :
    s.Inv := ⟨m, ⟨r, c⟩, ⟨n, e⟩, ⟨a, b⟩⟩

/-- It satisfies the invariant. -/
theorem inv_invS : invS.Inv :=
  inv_of _ (by decide +kernel) (by decide +kernel) (by decide +kernel) (by decide +kernel) (by decide +kernel) (by decide +kernel)
    (by decide +kernel)

/-- So it does with commands waiting. -/
theorem inv_pend : ({ invS with pending := [.flowLossNRise, .brakeNFall] } : State).Inv := inv_invS

/-- An installer's state with a region owned and a byte in memory. -/
def warmS : State := { wth ins [(Reg.memRegionStateState 5, 1)] with mem := [(a5, 5#8)] }

/-- It satisfies the invariant. -/
theorem inv_warmS : warmS.Inv :=
  inv_of _ (by decide +kernel) (by decide +kernel) (by decide +kernel) (by decide +kernel) (by decide +kernel) (by decide +kernel)
    (by decide +kernel)

/-- A switchover to unit B under way since a clock, of some nanoseconds. -/
def swS (since ns : Nat) : State := { ins with ctl := { ins.ctl with hold := some ⟨1, 1, 1, ns, since⟩ } }

/-- A trained memory. -/
def trnS : State := wth opr [(Reg.memStatusTrained, 1)]

/-! ### Well-formed commands -/

/-- A plan. -/
def plan0 : Plan := { rack := 0, slot := 0, none := 0, root := 1, backup := 2 }

/-- Context parameters with four rings. -/
def par4 : CtxParams := { ctx7.p with rings := List.replicate 4 (0, 4) }

/-- A session that does not exist. -/
def badOrg : Origin := { org with sess := 4096 }

/-- Every field of an origin, a datagram, a HELLO and a plan has its range. -/
theorem test_wf_fields_of_hosts :
    ([badOrg, { org with seq := 2 ^ 32 }, { org with tag := 2 ^ 32 }, { org with epoch := 2 ^ 20 }].all (fun o => ! o.wf)
      && [{ hcm with port := 9 }, { hcm with srcPort := 2 ^ 16 }, { hcm with bytes := List.replicate 9217 0 }].all (fun p => ! p.wf)
      && [{ hel with pkt := { hel.pkt with port := 9 } }, { hel with nonce := 2 ^ 256 }, { hel with job := 2 ^ 32 }].all (fun p => ! p.wf)
      && [{ plan0 with rack := 1024 }, { plan0 with slot := 64 }, { plan0 with none := 2 ^ 16 }, { plan0 with root := 2 ^ 16 }
        , { plan0 with backup := 2 ^ 16 }].all (fun p => ! p.wf)
      && [Requester.session 4096, .firmware 2].all (fun r => ! r.wf)) = true := by decide +kernel

/-- Every field of a packet, a frame and the parameters of commands has its range. -/
theorem test_wf_fields_of_packets :
    (let p := cpk 0 0 0 0 0 []
     [{ p with dest := 2 ^ 16 }, { p with src := 2 ^ 16 }, { p with inter := 2 ^ 16 }, { p with cls := 5 }, { p with level := 3 }
      , { p with length := 256 }, { p with opcode := 256 }, { p with tag := 2 ^ 14 }, { p with cmd := List.replicate 17 0 }
      , { p with data := List.replicate 8161 0 }].all (fun p => ! p.wf)
      && [⟨[{ lane := 112, marker := none }]⟩, ⟨[{ lane := 0, marker := none, bytes := [0] }]⟩].all (fun (f : Frame) => ! f.wf)
      && [{ par4 with partition := 256 }, { par4 with weight := 256 }, { par4 with queues := 256 }, { par4 with seed := 2 ^ 128 }
        , { par4 with rings := [] }].all (fun p => ! p.wf)
      && [sp (2 ^ 16) 0 0 0, sp 0 (2 ^ 16) 0 0, sp 0 0 (2 ^ 32) 0, sp 0 0 0 (2 ^ 32), { sp 0 0 0 0 with pageTokens := 2 ^ 16 }
        , { sp 0 0 0 0 with table := 2 ^ 64 }].all (fun p => ! p.wf)
      && [{ gp with id := 2 ^ 32 }, { gp with ctx := 2 ^ 16 }, { gp with base := 2 ^ 16 }, { gp with mask := 2 ^ 16 }
        , { gp with log2 := 256 }].all (fun p => ! p.wf)
      && [{ rp with ctx := 2 ^ 16 }, { rp with bits := [] }].all (fun p => ! p.wf)) = true := by decide +kernel

/-- Each of these has one operand out of its range. -/
theorem test_wf_refused_1 :
    ([.nop badOrg
      , .contextCreate badOrg par4
      , .contextCreate org { par4 with weight := 256 }
      , .contextDestroy org (2 ^ 16)
      , .contextDestroy badOrg 0
      , .contextAbort org (2 ^ 16)
      , .contextAbort badOrg 0
      , .doorbell org (2 ^ 16) 0 0
      , .doorbell org 0 (2 ^ 8) 0
      , .doorbell org 0 0 (2 ^ 32)
      , .doorbell badOrg 0 0 0
      , .queueRestart org (2 ^ 16) 0 0
      , .queueRestart org 0 (2 ^ 8) 0
      , .queueRestart org 0 0 (2 ^ 32)
      , .queueRestart badOrg 0 0 0
      , .setSplit org (2 ^ 8)
      , .setSplit badOrg 0
      , .syncSet org (2 ^ 16) false 0
      , .syncSet org 0 false (2 ^ 32)
      , .syncSet badOrg 0 false 0
      , .syncWait org (2 ^ 16) 0 0
      , .syncWait org 0 (2 ^ 32) 0
      , .syncWait org 0 0 (2 ^ 32)
      , .syncWait badOrg 0 0 0
      , .syncWaitTimeout badOrg
      , .slotOpen badOrg (sp 0 0 0 0)
      , .slotOpen org (sp 65536 0 0 0)
      , .slotClose badOrg (sp 0 0 0 0)
      , .slotClose org (sp 65536 0 0 0)
      , .slotTruncate badOrg (sp 0 0 0 0)
      , .slotTruncate org (sp 65536 0 0 0)
      , .slotRepoint badOrg (sp 0 0 0 0)
      , .slotRepoint org (sp 65536 0 0 0)
      , .memRead org (2 ^ 64) 0
      , .memRead org 0 (2 ^ 32)
      , .memRead badOrg 0 0
      , .memWrite org (2 ^ 64) 0 []
      , .memWrite org 0 (2 ^ 32) []
      , .memWrite org 0 0 (List.replicate (8192 + 1) 0)
      , .memWrite badOrg 0 0 []] : List Instr).all (fun i => ! i.wf) = true := by decide +kernel

/-- Each of these has one operand out of its range. -/
theorem test_wf_refused_2 :
    ([.memAtomic org (2 ^ 64) 0 0 []
      , .memAtomic org 0 (2 ^ 8) 0 []
      , .memAtomic org 0 0 (2 ^ 8) []
      , .memAtomic org 0 0 0 (List.replicate (8192 + 1) 0)
      , .memAtomic badOrg 0 0 0 []
      , .regionAssign org (2 ^ 16) 0
      , .regionAssign org 0 (2 ^ 16)
      , .regionAssign badOrg 0 0
      , .zeroingDone 1341
      , .regionRelease org (2 ^ 16)
      , .regionRelease badOrg 0
      , .dmaBind org (2 ^ 8) 0
      , .dmaBind org 0 (2 ^ 16)
      , .dmaBind badOrg 0 0
      , .dmaRelease org (2 ^ 8)
      , .dmaRelease badOrg 0
      , .dmaStart org (2 ^ 8) []
      , .dmaStart org 0 (List.replicate (8192 + 1) 0)
      , .dmaStart badOrg 0 []
      , .dmaAbort org (2 ^ 8)
      , .dmaAbort badOrg 0
      , .groupCreate badOrg gp
      , .groupCreate org { gp with ctx := 65536 }
      , .groupDestroy org (2 ^ 32)
      , .groupDestroy badOrg 0
      , .groupDoorbell org (2 ^ 32) 0
      , .groupDoorbell org 0 (2 ^ 32)
      , .groupDoorbell badOrg 0 0
      , .installRanks org (2 ^ 32) 0 []
      , .installRanks org 0 (2 ^ 32) []
      , .installRanks org 0 0 (List.replicate (4096 + 1) 0)
      , .installRanks badOrg 0 0 []
      , .stageRanks org (2 ^ 32) 0 [] 0
      , .stageRanks org 0 (2 ^ 32) [] 0
      , .stageRanks org 0 0 (List.replicate (4096 + 1) 0) 0
      , .stageRanks org 0 0 [] (2 ^ 8)
      , .stageRanks badOrg 0 0 [] 0
      , .formRick badOrg rp
      , .formRick org { rp with bits := [] }
      , .dissolveRick badOrg] : List Instr).all (fun i => ! i.wf) = true := by decide +kernel

/-- Each of these has one operand out of its range. -/
theorem test_wf_refused_3 :
    ([.join badOrg rp
      , .join org { rp with bits := [] }
      , .rebuild org (2 ^ 16)
      , .rebuild badOrg 0
      , .rollback org (2 ^ 32)
      , .rollback badOrg 0
      , .eventRead org (2 ^ 32) 0
      , .eventRead org 0 (2 ^ 16)
      , .eventRead badOrg 0 0
      , .readRegs org (List.replicate (2048 + 1) 0)
      , .readRegs badOrg []
      , .resetRequest org (2 ^ 8) 0
      , .resetRequest org 0 (2 ^ 8)
      , .resetRequest badOrg 0 0
      , .attest org (2 ^ 256)
      , .attest badOrg 0
      , .writeRegs org (List.replicate (1024 + 1) (0, 0))
      , .writeRegs badOrg []
      , .hello { hel with job := 2 ^ 32 }
      , .finish { hcm with port := 9 } false
      , .handshakeTimeout (2 ^ 12)
      , .command { hcm with port := 9 }
      , .ack { hcm with port := 9 }
      , .close { hcm with port := 9 }
      , .retransmitTimeout (2 ^ 12)
      , .disconnectedTimeout (2 ^ 12)
      , .hostPortDown 8
      , .hostPortUp 8
      , .commandDone badOrg
      , .dmaCtrlStart req 128 0
      , .dmaCtrlStart req 0 (2 ^ 32)
      , .dmaCtrlStart (.session 4096) 0 0
      , .dmaCtrlAbort req 128
      , .dmaCtrlAbort (.session 4096) 0
      , .dmaCtrlClear req 128
      , .dmaCtrlClear (.session 4096) 0
      , .dmaRequestIssue 128
      , .dmaReply 128 0
      , .dmaTransferDone 128
      , .dmaDrained 128] : List Instr).all (fun i => ! i.wf) = true := by decide +kernel

/-- Each of these has one operand out of its range. -/
theorem test_wf_refused_4 :
    ([.lanDiscover req (2 ^ 16)
      , .lanDiscover (.session 4096) 0
      , .laneCtrlDrop req 112
      , .laneCtrlDrop (.session 4096) 0
      , .laneCtrlRestore req 112
      , .laneCtrlRestore (.session 4096) 0
      , .lanePrbsEnable req 112
      , .lanePrbsEnable (.session 4096) 0
      , .laneLoopback req 112 0 false
      , .laneLoopback req 0 4 false
      , .laneLoopback (.session 4096) 0 0 false
      , .portCtrlRetrain req 16
      , .portCtrlRetrain (.session 4096) 0
      , .portCtrlForget req 16
      , .portCtrlForget (.session 4096) 0
      , .eyeScanStart req 2 0
      , .eyeScanStart req 0 (2 ^ 32)
      , .eyeScanStart (.session 4096) 0 0
      , .eyeScanAbort req 2
      , .eyeScanAbort (.session 4096) 0
      , .eyeScanDone 2 []
      , .clearHwm (.session 4096)
      , .memSpareStart req 768
      , .memSpareStart (.session 4096) 0
      , .rstCmdPartition req 4
      , .rstCmdPartition (.session 4096) 0
      , .rstCmdChip (.session 4096)
      , .rstCmdPowerCycle (.session 4096)
      , .faultContextClear (.session 4096)
      , .ctlSwapCommand (.session 4096)
      , .unitRestart req 2
      , .unitRestart (.session 4096) 0
      , .ember req 2 0
      , .ember req 0 (2 ^ 16)
      , .ember (.session 4096) 0 0
      , .traceEnWrite (.session 4096) false
      , .botAshAdd req (2 ^ 32)
      , .botAshAdd (.session 4096) 0
      , .warm (.session 4096)
      , .forget (.session 4096)] : List Instr).all (fun i => ! i.wf) = true := by decide +kernel

/-- Each of these has one operand out of its range. -/
theorem test_wf_refused_5 :
    ([.licenceInstall (.session 4096) false
      , .licenceRemove req 16
      , .licenceRemove (.session 4096) 0
      , .imageBegin (.session 4096) false
      , .writePage req (2 ^ 15)
      , .writePage (.session 4096) 0
      , .imageFinish (.session 4096)
      , .activate (.session 4096) false
      , .cancel (.session 4096)
      , .broadcast (.session 4096)
      , .enrolAdd (.session 4096) false
      , .enrolRemove req 840
      , .enrolRemove (.session 4096) 0
      , .pwrCapWrite req (2 ^ 16)
      , .pwrCapWrite (.session 4096) 0
      , .opCapWrite req (2 ^ 16)
      , .opCapWrite (.session 4096) 0
      , .limitsWrite req (2 ^ 16) 0
      , .limitsWrite req 0 (2 ^ 16)
      , .limitsWrite (.session 4096) 0 0
      , .trayReport req (2 ^ 16)
      , .trayReport (.session 4096) 0
      , .planLoad (.session 4096) plan0
      , .planLoad req { plan0 with rack := 1024 }
      , .registerWrite req (2 ^ 21) 0
      , .registerWrite req 0 (2 ^ 32)
      , .registerWrite (.session 4096) 0 0
      , .packetIngress 16 (cpk 0 0 0 0 0 [])
      , .packetIngress 0 { cpk 0 0 0 0 0 [] with cls := 5 }
      , .packetTransmit 2 0 0
      , .packetTransmit 0 16 0
      , .packetTransmit 0 0 30
      , .read { cpk 0 0 0 0 0 [] with cls := 5 }
      , .write { cpk 0 0 0 0 0 [] with cls := 5 }
      , .writeMasked { cpk 0 0 0 0 0 [] with cls := 5 }
      , .atomic { cpk 0 0 0 0 0 [] with cls := 5 }
      , .signal { cpk 0 0 0 0 0 [] with cls := 5 }
      , .completion { cpk 0 0 0 0 0 [] with cls := 5 }
      , .memoryRequest .module (2 ^ 48) (.read 64) [] []
      , .readData { cpk 0 0 0 0 0 [] with cls := 5 }] : List Instr).all (fun i => ! i.wf) = true := by decide +kernel

/-- Each of these has one operand out of its range. -/
theorem test_wf_refused_6 :
    ([.writeAck { cpk 0 0 0 0 0 [] with cls := 5 }
      , .atomicResult { cpk 0 0 0 0 0 [] with cls := 5 }
      , .signalAck { cpk 0 0 0 0 0 [] with cls := 5 }
      , .completionAck { cpk 0 0 0 0 0 [] with cls := 5 }
      , .requestTimeout 2 0
      , .requestTimeout 0 (2 ^ 13)
      , .linkCredit 16 []
      , .linkCreditSend 16
      , .windowReclaim 16 0
      , .windowReclaim 0 30
      , .identity 16 0 false 0 0
      , .identity 0 (2 ^ 16) false 0 0
      , .identity 0 0 false 16 0
      , .identity 0 0 false 0 3
      , .identitySend 16
      , .identityTimeout 16
      , .darkTimeout 16
      , .darkRetry 16
      , .time 16 false 0 0 0 0 0 false false 0
      , .time 0 false 0 0 0 0 (2 ^ 32) false false 0
      , .time 0 false (2 ^ 64) 0 0 0 0 false false 0
      , .time 0 false 0 (2 ^ 64) 0 0 0 false false 0
      , .time 0 false 0 0 (2 ^ 64) 0 0 false false 0
      , .time 0 false 0 0 0 (2 ^ 64) 0 false false 0
      , .time 0 false 0 0 0 0 0 false false (2 ^ 64)
      , .portFrame 16 ⟨[]⟩
      , .portFrame 0 ⟨[{ lane := 112, marker := none }]⟩
      , .framePeriod 16
      , .replayTimeout 16
      , .laneErrorWindow 112 0 0 0
      , .laneRetrain 112 false
      , .signalLoss 16
      , .pllLock 16
      , .linkTrained 16 0 0 0 0 0 false
      , .linkTrained 0 9 0 0 0 0 false
      , .linkTrained 0 0 0 4 0 0 false
      , .idleEntry 16
      , .idleExit 16
      , .idleLockTimeout 16 0
      , .sparingDone 48 []] : List Instr).all (fun i => ! i.wf) = true := by decide +kernel

/-- Each of these has one operand out of its range. -/
theorem test_wf_refused_7 :
    ([.firingSelect 4
      , .fetchDone 4 none
      , .resolveDone 4 []
      , .framePassDone 4
      , .unitDone 4 0 []
      , .tileDone 4 0
      , .firingComplete 4 0
      , .firingHung 4 0
      , .residueRetry 4 0 0 0 false
      , .residueRetry 0 162 0 0 false
      , .residueRetry 0 0 4 0 false
      , .residueRetry 0 0 0 66 false
      , .storeUncorrectable 4 0 0
      , .storeCheck 4 0 false
      , .storeCheck 0 162 false
      , .coreLost 4 0 0
      , .coreLost 0 162 0
      , .dieLost 4 0
      , .passThroughFailed 4 0
      , .passThroughFailed 0 3
      , .collectiveStart 64
      , .ready { cpk 0 0 0 0 0 [] with cls := 5 }
      , .readyRetry 64
      , .segment { cpk 0 0 0 0 0 [] with cls := 5 }
      , .segmentCombine 64 0 false false
      , .segmentSend 64 0 false
      , .credit { cpk 0 0 0 0 0 [] with cls := 5 }
      , .stepDone 64
      , .collectiveComplete 64 0
      , .abort { cpk 0 0 0 0 0 [] with cls := 5 }
      , .heartbeat 64 0
      , .memberLost 64 0
      , .stallTimeout 64
      , .bankHello { cpk 0 0 0 0 0 [] with cls := 5 }
      , .peerSilent 8
      , .arrive { cpk 0 0 0 0 0 [] with cls := 5 }
      , .delta { cpk 0 0 0 0 0 [] with cls := 5 }
      , .parityRead { cpk 0 0 0 0 0 [] with cls := 5 }
      , .resetGrant 7 0 0
      , .drainEnd 7 0] : List Instr).all (fun i => ! i.wf) = true := by decide +kernel

/-- Each of these has one operand out of its range. -/
theorem test_wf_refused_8 :
    ([.snapshotDone 7 0 false []
      , .resetAsserted 7 0
      , .postResetCheckDone 7 0 [] []
      , .resetRelease 7 0 0
      , .lowerResetDone 7 0
      , .ladderTimeout 16 0 []
      , .watchdogFire 2
      , .spareTestRotate 4
      , .spareTestDone 4 0
      , .leaseExpiry 2
      , .fatalFault 2
      , .unitRestartTimer 2
      , .selfTest 2 0
      , .stateCopyDone 2
      , .probationEnd 2 0
      , .coldStart 64
      , .imagePage 16 (cpk 0 0 0 0 0 []) false
      , .imagePage 0 { cpk 0 0 0 0 0 [] with cls := 5 } false
      , .imagePageSend 16
      , .imagePull 16 (cpk 0 0 0 0 0 [])
      , .imagePull 0 { cpk 0 0 0 0 0 [] with cls := 5 }
      , .mirrorCheck (2 ^ 16) [] []
      , .sensorSuspect 20
      , .randomFault 2 0
      , .recordWriteDone 14 false
      , .coreSequencerTrap (2 ^ 9) 0 0
      , .coreSequencerTrap 0 4 0
      , .coreSequencerTrap 0 0 162
      , .clusterFault 4 0
      , .clusterFault 0 9
      , .sequencerNoResponse 4
      , .contextAbortDone (2 ^ 9)
      , .isolationDone 4 0
      , .isolationDone 0 9
      , .copyAbandoned 48
      , .heartbeatArrival { cpk 0 0 0 0 0 [] with cls := 5 }
      , .trainingBurst 16
      , .ethernetFrame 8 0 0
      , .ethernetFrame 0 6 0
      , .hostConfigurationLoad (.session 4096) { macs := [], ipv6 := [], ipv4 := [] }] : List Instr).all (fun i => ! i.wf) = true := by decide +kernel

/-- The same commands with every operand in its range are well formed. -/
theorem test_wf_taken_1 :
    ([.nop org
      , .contextCreate org par4
      , .contextDestroy org 0
      , .contextAbort org 0
      , .doorbell org 0 0 0
      , .queueRestart org 0 0 0
      , .setSplit org 0
      , .syncSet org 0 false 0
      , .syncWait org 0 0 0
      , .syncWaitTimeout org
      , .slotOpen org (sp 0 0 0 0)
      , .slotClose org (sp 0 0 0 0)
      , .slotTruncate org (sp 0 0 0 0)
      , .slotRepoint org (sp 0 0 0 0)
      , .memRead org 0 0
      , .memWrite org 0 0 []
      , .memAtomic org 0 0 0 []
      , .regionAssign org 0 0
      , .zeroingDone 0
      , .regionRelease org 0
      , .dmaBind org 0 0
      , .dmaRelease org 0
      , .dmaStart org 0 []
      , .dmaAbort org 0
      , .groupCreate org gp
      , .groupDestroy org 0
      , .groupDoorbell org 0 0
      , .installRanks org 0 0 []
      , .stageRanks org 0 0 [] 0
      , .formRick org rp
      , .dissolveRick org
      , .join org rp
      , .rebuild org 0
      , .rollback org 0
      , .eventRead org 0 0
      , .readRegs org []
      , .resetRequest org 0 0
      , .attest org 0
      , .writeRegs org []
      , .hello hel
      , .finish hcm false
      , .handshakeTimeout 0
      , .command hcm
      , .ack hcm
      , .close hcm
      , .retransmitTimeout 0
      , .disconnectedTimeout 0
      , .hostPortDown 0
      , .hostPortUp 0
      , .commandDone org
      , .dmaCtrlStart req 0 0
      , .dmaCtrlAbort req 0
      , .dmaCtrlClear req 0
      , .dmaRequestIssue 0
      , .dmaReply 0 0
      , .dmaTransferDone 0
      , .dmaDrained 0
      , .lanDiscover req 0
      , .laneCtrlDrop req 0
      , .laneCtrlRestore req 0
      , .lanePrbsEnable req 0
      , .laneLoopback req 0 0 false
      , .portCtrlRetrain req 0
      , .portCtrlForget req 0
      , .eyeScanStart req 0 0
      , .eyeScanAbort req 0
      , .eyeScanDone 0 []
      , .clearHwm req
      , .memSpareStart req 0
      , .rstCmdPartition req 0
      , .rstCmdChip req
      , .rstCmdPowerCycle req
      , .faultContextClear req
      , .ctlSwapCommand req
      , .unitRestart req 0
      , .ember req 0 0
      , .traceEnWrite req false
      , .botAshAdd req 0
      , .warm req
      , .forget req
      , .licenceInstall req false
      , .licenceRemove req 0
      , .imageBegin req false
      , .writePage req 0
      , .imageFinish req
      , .imageWritten false
      , .activate req false
      , .cancel req
      , .broadcast req
      , .enrolAdd req false] : List Instr).all Instr.wf = true := by decide +kernel

/-- So are these. -/
theorem test_wf_taken_2 :
    ([.enrolRemove req 0
      , .pwrCapWrite req 0
      , .opCapWrite req 0
      , .limitsWrite req 0 0
      , .trayReport req 0
      , .planLoad req plan0
      , .registerWrite req 0 0
      , .packetIngress 0 (cpk 0 0 0 0 0 [])
      , .packetTransmit 0 0 0
      , .read (cpk 0 0 0 0 0 [])
      , .write (cpk 0 0 0 0 0 [])
      , .writeMasked (cpk 0 0 0 0 0 [])
      , .atomic (cpk 0 0 0 0 0 [])
      , .signal (cpk 0 0 0 0 0 [])
      , .completion (cpk 0 0 0 0 0 [])
      , .memoryRequest .module 0 (.read 64) [] []
      , .readData (cpk 0 0 0 0 0 [])
      , .writeAck (cpk 0 0 0 0 0 [])
      , .atomicResult (cpk 0 0 0 0 0 [])
      , .signalAck (cpk 0 0 0 0 0 [])
      , .completionAck (cpk 0 0 0 0 0 [])
      , .requestTimeout 0 0
      , .linkCredit 0 []
      , .linkCreditSend 0
      , .windowReclaim 0 0
      , .identity 0 0 false 0 0
      , .identitySend 0
      , .identityTimeout 0
      , .darkTimeout 0
      , .darkRetry 0
      , .time 0 false 0 0 0 0 0 false false 0
      , .timeExchange
      , .holdoverExpiry
      , .rootLost
      , .portFrame 0 ⟨[]⟩
      , .framePeriod 0
      , .replayTimeout 0
      , .laneErrorWindow 0 0 0 0
      , .laneRetrain 0 false
      , .signalLoss 0
      , .pllLock 0
      , .linkTrained 0 0 0 0 0 0 false
      , .idleEntry 0
      , .idleExit 0
      , .idleLockTimeout 0 0
      , .hotWindow []
      , .scrubPeriod [] [] []
      , .ceHour
      , .sparingDone 0 []
      , .firingSelect 0
      , .fetchDone 0 none
      , .resolveDone 0 []
      , .framePassDone 0
      , .unitDone 0 0 []
      , .tileDone 0 0
      , .firingComplete 0 0
      , .firingHung 0 0
      , .residueRetry 0 0 0 0 false
      , .storeUncorrectable 0 0 0
      , .storeCheck 0 0 false
      , .coreLost 0 0 0
      , .dieLost 0 0
      , .passThroughFailed 0 0
      , .collectiveStart 0
      , .ready (cpk 0 0 0 0 0 [])
      , .readyRetry 0
      , .segment (cpk 0 0 0 0 0 [])
      , .segmentCombine 0 0 false false
      , .segmentSend 0 0 false
      , .credit (cpk 0 0 0 0 0 [])
      , .stepDone 0
      , .collectiveComplete 0 0
      , .abort (cpk 0 0 0 0 0 [])
      , .heartbeat 0 0
      , .memberLost 0 0
      , .stallTimeout 0
      , .bankHello (cpk 0 0 0 0 0 [])
      , .bankHelloSend
      , .peerSilent 0
      , .formationTimeout
      , .quiesceDone
      , .arrive (cpk 0 0 0 0 0 [])
      , .delta (cpk 0 0 0 0 0 [])
      , .foldDone
      , .parityRead (cpk 0 0 0 0 0 [])
      , .bankStall
      , .rebuildDone
      , .resetGrant 0 0 0
      , .drainEnd 0 0
      , .snapshotDone 0 0 false []] : List Instr).all Instr.wf = true := by decide +kernel

/-- So are these. -/
theorem test_wf_taken_3 :
    ([.resetAsserted 0 0
      , .postResetCheckDone 0 0 [] []
      , .resetRelease 0 0 0
      , .lowerResetDone 0 0
      , .ladderTimeout 0 0 []
      , .watchdogFire 0
      , .spareTestRotate 0
      , .spareTestDone 0 0
      , .leaseRenew
      , .leaseExpiry 0
      , .journalRecord false
      , .journalTimeout
      , .fatalFault 0
      , .unitRestartTimer 0
      , .selfTest 0 0
      , .stateCopyDone 0
      , .probationEnd 0 0
      , .swapDue
      , .swapPoint false
      , .coldStart 0
      , .startStepDone {}
      , .trayRstAssert
      , .powerLoss
      , .referenceLost 0
      , .optimeSave
      , .imagePage 0 (cpk 0 0 0 0 0 []) false
      , .imagePageSend 0
      , .imagePull 0 (cpk 0 0 0 0 0 [])
      , .imagePullTimer
      , .broadcastIncomplete
      , .activationTime
      , .eventIntake
      , .mirrorCheck 0 [] []
      , .inputSample 0 0 0 0
      , .brakeNFall
      , .brakeNRise
      , .haltCleared 0
      , .operatingPoint []
      , .capControl
      , .orphanCap
      , .capStorm
      , .sensorSample [] []
      , .sensorSuspect 0
      , .trayReportStale
      , .flowLossNFall
      , .flowLossNRise
      , .flowLossShutdown
      , .monitorCompare 0
      , .randomFault 0 0
      , .rngRetest false false
      , .recordWriteDone 0 false
      , .rollbackDone
      , .coreSequencerTrap 0 0 0
      , .clusterFault 0 0
      , .sequencerNoResponse 0
      , .contextAbortDone 0
      , .isolationDone 0 0
      , .copyAbandoned 0
      , .heartbeatArrival (cpk 0 0 0 0 0 [])
      , .trainingBurst 0
      , .ethernetFrame 0 0 0
      , .hostConfigurationLoad req { macs := [], ipv6 := [], ipv4 := [] }
      , .supplySlewDone] : List Instr).all Instr.wf = true := by decide +kernel

/-! ### Single steps

The expected values are worked out by hand from the rules named. -/

/-- A field of the state that an outcome leads to. -/
def after (o : Host.Outcome State Fault Refusal) (f : State → Nat) : Nat := match o with | .next s => f s | _ => 2 ^ 99

/-- NOP is answered OK (R390). -/
theorem test_nop_answered :
    after (exec (.nop org) opr) (fun t => if t.inProg = [⟨org, 0, some (.ok, {}, [], [])⟩] then 1 else 0) = 1 := by decide +kernel

/-- A command that waits is taken off the queue by a step. -/
theorem test_step_takes_front :
    after (step { opr with pending := [.nop org, .flowLossNRise] }) (fun t => t.pending.length) = 1 := by decide +kernel

/-- SYNC_SET writes the value given (R124). -/
theorem test_sync_set :
    after (exec (.syncSet org 3 true (2 ^ 32 - 1)) own) (·.sync 3) = 2 ^ 32 - 1 := by decide +kernel

/-- A wait is met when value - target mod 2^32 is below 2^31 (R122): 5 meets the target 0xFFFFFFFF. -/
theorem test_wait_compares_mod : (waitDone 5 (2 ^ 32 - 1), waitDone (2 ^ 31) 0) = (true, false) := by decide +kernel

/-- MEM_WRITE stores its first byte at its address (R390). -/
theorem test_mem_write_first_byte :
    after (exec (.memWrite org a5 64 (List.range 64 |>.map (BitVec.ofNat 8))) own5) (fun t => (Memory.byte t.mem (a5 + 63)).toNat) = 63 := by
  decide +kernel

/-- Record 4,096 is the last of the kept area; 4,097 and 65,537 share the first slot after it (R487). -/
theorem test_record_slots : (recSlot 4096, recSlot 4097, recSlot 65537) = (4095, 4096, 4096) := by decide

/-- An event of kiln die 2 waits in F1's queue, one of die 1 in F0's (R539). -/
theorem test_event_sides : ((ins.ev 0x0301 2 0 0 0).evq.map List.length, (ins.ev 0x0301 1 0 0 0).evq.map List.length) = ([0, 1], [1, 0]) := by
  decide +kernel

/-- BRAKE_N halves the duty of every die (R501): 40 becomes 20. -/
theorem test_brake_halves : after (exec .brakeNFall (pwrS [])) (·.fld (Reg.pwrKilnDuty 3)) = 20 := by decide +kernel

/-- A tray report of 60 % of 2.4 l/min gives a flow cap of 2,600 × 90 / 120 = 1,950 W (R515). -/
theorem test_flow_cap : after (exec (.trayReport .i3c 1440) (pwrS [])) (·.power.flowCap) = 1950 := by decide +kernel

/-- A write to another session's register in place of the tray controller's is refused: the flow stays (R507). -/
theorem test_tray_report_from_session : after (exec (.trayReport req 1440) opr) (·.fld Reg.pwrTrayFlowMlPerMin) = opr.fld Reg.pwrTrayFlowMlPerMin := by
  decide +kernel

/-- The table gives no row any bits: no word spells a command. -/
theorem test_no_word : (decodeTableWord 32 5, State.reset.withFetchWord 32 5) = (none, State.reset) := by rfl

/-! ### Witnesses

For each statement with premises a theorem applies its clauses to concrete states and operands and proves every premise of theirs, so
that no clause is empty: a premise that nothing meets would leave nothing to apply it to.  A clause that takes a range is met at a
boundary of it. -/

/-- Bit pairs lie on the levels in Gray code (R230). -/
theorem test_pam_levels : toLevels [false, false, false, true, true, true, true, false] = [0, 1, 2, 3] := by decide

/-- After 31 equal symbols the complement is inserted; the receiver deletes it, and marks what follows another one (R233). -/
theorem test_stuffing :
    (stuffed 4 0 (List.replicate 32 1) = List.replicate 31 1 ++ [2, 1])
      ∧ (unstuffed 4 0 false (List.replicate 31 1 ++ [2, 1])).map (·.1) = List.replicate 32 1
      ∧ (unstuffed 4 0 false (List.replicate 31 1 ++ [3, 1])).map (·.2) = List.replicate 31 false ++ [true] := by decide +kernel

/-- Four symbols in error are corrected (R234). -/
theorem test_rs_corrects_four :
    let xs := (List.range 128).map (7 * · % 1024)
    rsDecode (((((xs ++ rsChecks xs).set 5 1023).set 0 9).set 135 3).set 70 1) [] = some (xs ++ rsChecks xs, 4) := by decide +kernel

/-- The published check value of the CRC-32 that R237 names. -/
theorem test_crc32 :
    crc32 ([0x31, 0x32, 0x33, 0x34, 0x35, 0x36, 0x37, 0x38, 0x39].map (BitVec.ofNat 8)) = 0xCBF43926 := by decide +kernel

/-- The published test value of the block cipher that R240 names. -/
theorem test_sm4 :
    sm4 0x0123456789ABCDEFFEDCBA9876543210 0x0123456789ABCDEFFEDCBA9876543210 = 0x681EDF34D206965E86B3E94F536E4246 := by decide +kernel

theorem witness_StepRunsTheFrontCommand (h : Obligations.StepRunsTheFrontCommand) : True := by
  have w := h .flowLossNRise { opr with pending := [.flowLossNRise, .brakeNFall] } [.brakeNFall] rfl
  trivial

theorem witness_IdleAndUnpoweredSteps (h : Obligations.IdleAndUnpoweredSteps) : True := by
  have w := h.1 { opr with phase := .off }
  replace w := w (by decide +kernel)
  replace w := w.1
  replace w := w (by decide +kernel)
  have w := h.1 opr
  replace w := w (by decide +kernel)
  replace w := w.2 _ rfl
  iterate 2 replace w := w (by decide +kernel)
  replace w := w.1
  replace w := w (by decide +kernel)
  have w := h.1 (swS 0 1)
  replace w := w (by decide +kernel)
  replace w := w.2 _ rfl
  iterate 2 replace w := w (by decide +kernel)
  replace w := w.2 _ rfl
  have w := h.2.1 (.nop org) { opr with phase := .off }
  iterate 2 replace w := w (by decide +kernel)
  have w := h.2.2.1 (wth ins [(Reg.ctlStatusStateB, 1)])
  replace w := w (by decide +kernel)
  have w := h.2.2.2 id (wth ins [(Reg.rstStatusNoControlUnit, 1)])
  replace w := w (by decide +kernel)
  replace w := w.1
  replace w := w (by decide +kernel)
  trivial

theorem witness_IdleAndUnpoweredSteps_2 (h : Obligations.IdleAndUnpoweredSteps) : True := by
  have w := h.2.2.2 id (swS 0 1)
  replace w := w (by decide +kernel)
  replace w := w.2 (by decide +kernel) _ rfl
  trivial

theorem witness_InvariantKeptByEveryStep (h : Obligations.InvariantKeptByEveryStep) : True := by
  have w := h { invS with pending := [.flowLossNRise, .brakeNFall] } _ inv_pend rfl
  trivial

theorem witness_QueueLosesItsFrontAlone (h : Obligations.QueueLosesItsFrontAlone) : True := by
  have w := h .flowLossNRise { invS with pending := [.flowLossNRise, .brakeNFall] } [.brakeNFall] inv_pend rfl
  trivial

theorem witness_MemoryKeptByCommandsThatStoreNothing (h : Obligations.MemoryKeptByCommandsThatStoreNothing) : True := by
  have w := h .flowLossNRise invS inv_invS
  replace w := w (by decide +kernel)
  trivial

theorem witness_EventWaitsInItsQueue (h : Obligations.EventWaitsInItsQueue) : True := by
  have w := h ins 0x0301 2 1 5 1 1 (ins.evOf 0x0301 2 1 5 1) (ins.ev 0x0301 2 1 5 1)
  iterate 2 replace w := w (by decide +kernel)
  replace w := w rfl rfl
  replace w := w.1
  replace w := w (by decide +kernel)
  have w := h ins 0x0301 2 1 5 1 1 (ins.evOf 0x0301 2 1 5 1) (ins.ev 0x0301 2 1 5 1)
  iterate 2 replace w := w (by decide +kernel)
  replace w := w rfl rfl
  replace w := w.2.2
  have w := h ins 0x0301 2 1 5 1 1 (ins.evOf 0x0301 2 1 5 1) (ins.ev 0x0301 2 1 5 1)
  iterate 2 replace w := w (by decide +kernel)
  replace w := w rfl rfl
  replace w := w.2.2.2.2.2.2.2.2.1 (Or.inl (by decide +kernel))
  have w := h ins 0x0301 2 1 5 1 1 (ins.evOf 0x0301 2 1 5 1) (ins.ev 0x0301 2 1 5 1)
  iterate 2 replace w := w (by decide +kernel)
  replace w := w rfl rfl
  replace w := w.2.2.2.2.2.2.2.2.2 0 { ev := ins.evOf 0x0301 2 1 5 1, seq := 1, writer := 0, gap := false } rfl
  have w := h { ins with evq := [List.replicate 1024 (evA 0 0), []] } 0x0101 0 1 5 1 0 (({ ins with evq := [List.replicate 1024 (evA 0 0), []] } : State).evOf 0x0101 0 1 5 1) (({ ins with evq := [List.replicate 1024 (evA 0 0), []] } : State).ev 0x0101 0 1 5 1)
  iterate 2 replace w := w (by decide +kernel)
  replace w := w rfl rfl
  replace w := w.2.1
  replace w := w (by decide +kernel)
  trivial

theorem witness_DroppedEventsAreReported (h : Obligations.DroppedEventsAreReported) : True := by
  have w := h.1 { ins with evq := [List.replicate 1024 (evA 0 0), []] } 0x0101 0 1 5 1
  iterate 2 replace w := w (by decide +kernel)
  have w := h.2 { ins with evq := [[evA 0 0], []], evLost := [(0, 0), (7, 0x101)] } (evA 0 0) 0 1 7 0x101 1
  iterate 13 replace w := w (by decide +kernel)
  trivial

theorem witness_RecordsKeepTheirSlots (h : Obligations.RecordsKeepTheirSlots) : True := by
  have w := h.1 (wth ins [(Reg.evrCountLoN, 4096)]) (evA 1 2) true 4097 4096
  iterate 3 replace w := w (by decide +kernel)
  have w := h.1 ins (evA 1 2) true 1 0
  iterate 3 replace w := w (by decide +kernel)
  have w := h.2 4097 65537
  iterate 2 replace w := w (by decide +kernel)
  trivial

theorem witness_HostCommandsAnsweredOrRefused (h : Obligations.HostCommandsAnsweredOrRefused) : True := by
  have w := h.1.1 org opr
  iterate 2 replace w := w (by decide +kernel)
  have w := h.1.2 org { opr with inProg := [⟨org, 0, some (.ok, {}, [], [])⟩] } 0 .ok {} [] []
  iterate 5 replace w := w (by decide +kernel)
  replace w := w rfl
  have w := h.2.1 org 0 id { opr with inProg := List.replicate 256 ⟨org, 0, none⟩ }
  iterate 2 replace w := w (by decide +kernel)
  have w := h.2.2 org 0x15 id opr
  iterate 3 replace w := w (by decide +kernel)
  trivial

theorem witness_ContextCommands (h : Obligations.ContextCommands) : True := by
  have w := h.1 org ctx7.p (wth opr [(Reg.glbLicencesBase, 1), (Reg.glbModuleIdValid, 1)]) _ (by decide +kernel) rfl
  iterate 11 replace w := w (by decide +kernel)
  replace w := w ⟨0, (by decide +kernel), (by decide +kernel)⟩
  iterate 5 replace w := w (by decide +kernel)
  have w := h.2.1 org 0 ctxn { own with ctxs := [(0, ctxn)] } _ (by decide +kernel) rfl
  iterate 8 replace w := w (by decide +kernel)
  replace w := w.1
  replace w := w (by decide +kernel)
  have w := h.2.1 org 0 ctxn { own with ctxs := [(0, ctxn)] } _ (by decide +kernel) rfl
  iterate 8 replace w := w (by decide +kernel)
  replace w := w.2
  iterate 2 replace w := w (by decide +kernel)
  have w := h.2.2.1 org 0 ctx7 (dmaRunning {}) _ (by decide +kernel) rfl
  iterate 5 replace w := w (by decide +kernel)
  replace w := w.1
  replace w := w (by decide +kernel)
  have w := h.2.2.1 org 0 ctx7 (dma3 []) _ (by decide +kernel) rfl
  iterate 5 replace w := w (by decide +kernel)
  replace w := w.2
  iterate 3 replace w := w (by decide +kernel)
  have w := h.2.2.2 org 1 own
  iterate 2 replace w := w (by decide +kernel)
  replace w := w.1
  replace w := w (by decide +kernel)
  trivial

theorem witness_ContextCommands_2 (h : Obligations.ContextCommands) : True := by
  have w := h.2.2.2 org 1 own
  iterate 2 replace w := w (by decide +kernel)
  replace w := w.2
  replace w := w (by decide +kernel)
  trivial

theorem witness_QueueAndSlotCommands (h : Obligations.QueueAndSlotCommands) : True := by
  have w := h.1 org 0 0 3 ctx7 own
  iterate 8 replace w := w (by decide +kernel)
  replace w := w.1
  iterate 2 replace w := w (by decide +kernel)
  have w := h.1 org 0 0 15 ctx7 (wth own [(Reg.fsqCtxQStateStopped 0 0, 1)])
  iterate 8 replace w := w (by decide +kernel)
  replace w := w.2
  iterate 2 replace w := w (by decide +kernel)
  have w := h.2 org (sp 2 0 4 9) 0 ctx7 own
  iterate 6 replace w := w (by decide +kernel)
  replace w := w.1
  iterate 3 replace w := w (by decide +kernel)
  have w := h.2 org (sp 2 0 4 9) 0 ctx7 { own with slots := [(2, ⟨some 0, 16, 4, 64, 20⟩)] }
  iterate 6 replace w := w (by decide +kernel)
  replace w := w.2
  replace w := w (by decide +kernel)
  replace w := w.1
  replace w := w (by decide +kernel)
  have w := h.2 org (sp 2 0 4 9) 0 ctx7 { own with slots := [(2, ⟨some 0, 16, 4, 64, 20⟩)] }
  iterate 6 replace w := w (by decide +kernel)
  replace w := w.2
  replace w := w (by decide +kernel)
  replace w := w.2.1
  iterate 2 replace w := w (by decide +kernel)
  have w := h.2 org { sp 2 0 4 9 with table := 128 } 0 ctx7 { own with slots := [(2, ⟨some 0, 16, 4, 64, 20⟩)] }
  iterate 6 replace w := w (by decide +kernel)
  replace w := w.2
  replace w := w (by decide +kernel)
  replace w := w.2.2
  iterate 2 replace w := w (by decide +kernel)
  trivial

theorem witness_SyncCommands (h : Obligations.SyncCommands) : True := by
  have w := h.1 org 3 (2^32+5) own (0, ctx7)
  iterate 6 replace w := w (by decide +kernel)
  have w := h.2.1 org 3 5 100000000 (wth own [(Reg.fsqSyncValueValue 3, 5)]) (0, ctx7)
  iterate 8 replace w := w (by decide +kernel)
  replace w := w.1
  replace w := w (by decide +kernel)
  have w := h.2.1 org 3 5 1 (wth own [(Reg.fsqSyncValueValue 3, 4)]) (0, ctx7)
  iterate 8 replace w := w (by decide +kernel)
  replace w := w.2
  replace w := w (by decide +kernel)
  have w := h.2.2 org 3 5 { own with syncWaits := [⟨org, 3, 5⟩], inProg := [⟨org, 0x17, none⟩] }
  iterate 3 replace w := w (by decide +kernel)
  trivial

theorem witness_HostMemoryCommands (h : Obligations.HostMemoryCommands) : True := by
  have w := h.1 org a5 a5 (List.replicate 64 7#8) own5
  iterate 7 replace w := w (by decide +kernel)
  have w := h.2 org a5 a5 128 { own5 with mem := [(a5 + 3, 9#8)] }
  iterate 8 replace w := w (by decide +kernel)
  trivial

theorem witness_AtomicOperations (h : Obligations.AtomicOperations) : True := by
  have w := h.1 org a5 a5 0 8 (natLe 32 7) { own5 with mem := [(a5 + 3, 9#8)] }
  iterate 10 replace w := w (by decide +kernel)
  have w := h.2 (.firing 7) (a5+32) 1 8 (natLe 32 7) { own5 with mem := [(a5 + 35, 9#8)] }
  iterate 7 replace w := w (by decide +kernel)
  have w := h.2 (.dma 7) (a5+32) 10 16 (natLe 32 7) { own5 with mem := [(a5 + 35, 9#8)] }
  iterate 7 replace w := w (by decide +kernel)
  trivial

theorem witness_MemoryRequests (h : Obligations.MemoryRequests) : True := by
  have w := h.1 (.firing 7) a5 (List.replicate 64 7#8) own5
  iterate 6 replace w := w (by decide +kernel)
  have w := h.2.1 (.firing 7) a5 64 { own5 with mem := [(a5 + 35, 9#8)] }
  iterate 5 replace w := w (by decide +kernel)
  have w := h.2.2 (.firing 7) (a5+1) (List.replicate 64 7#8) own5
  iterate 2 replace w := w (by decide +kernel)
  trivial

theorem witness_WritesAreRead (h : Obligations.WritesAreRead) : True := by
  have w := h.1 [(5, 1#8)] 4 [1#8, 0#8]
  replace w := w.1
  have w := h.1 [(5, 1#8)] 4 [1#8, 0#8]
  replace w := w.2.2
  trivial

theorem witness_RegionCommands (h : Obligations.RegionCommands) : True := by
  have w := h.1 org 6 0 ctx7 own5
  iterate 7 replace w := w (by decide +kernel)
  have w := h.2.1 org 6 7 { own5 with zeroing := [(6, 7, org)], inProg := [⟨org, 0x23, none⟩], mem := [(6 * 2 ^ 30 + 1, 1#8)] }
  iterate 5 replace w := w (by decide +kernel)
  have w := h.2.2 org 5 own5
  iterate 6 replace w := w (by decide +kernel)
  trivial

theorem witness_MemoryMaintenance (h : Obligations.MemoryMaintenance) : True := by
  have w := h.1 trnS
  replace w := w (by decide +kernel)
  replace w := w.1 [(3, 2047)]
  iterate 2 replace w := w (by decide +kernel)
  have w := h.1 trnS
  replace w := w (by decide +kernel)
  replace w := w.2.1 [(3, 2000000)] _ (fun lc => (([(3, 2000000)].find? (·.1 == lc)).map (·.2)).getD 0 + tget trnS.bursts 0 lc) _ (by decide +kernel) rfl (fun _ => rfl) rfl
  have w := h.1 { trnS with faint := [(9, 3)], badGranules := [7] }
  replace w := w (by decide +kernel)
  replace w := w.2.2.1 [(8, 2)] [11] [2]
  replace w := w (by decide +kernel)
  have w := h.1 { wth opr [(Reg.memCeLimitLimit, 10)] with ceHour := [(3, 19)] }
  replace w := w (by decide +kernel)
  replace w := w.2.2.2.1
  have w := h.1 trnS
  replace w := w (by decide +kernel)
  replace w := w.2.2.2.2.1
  iterate 2 replace w := w (by decide +kernel)
  replace w := w.1
  iterate 2 replace w := w (by decide +kernel)
  have w := h.1 { trnS with faint := [(9, 3)] }
  replace w := w (by decide +kernel)
  replace w := w.2.2.2.2.1
  iterate 2 replace w := w (by decide +kernel)
  replace w := w.2 9 3
  iterate 2 replace w := w (by decide +kernel)
  trivial

theorem witness_MemoryMaintenance_2 (h : Obligations.MemoryMaintenance) : True := by
  have w := h.1 { trnS with badGranules := [7] }
  replace w := w (by decide +kernel)
  replace w := w.2.2.2.2.2.1 7
  iterate 4 replace w := w (by decide +kernel)
  have w := h.1 { wth opr [(Reg.memCeLimitLimit, 10)] with ceHour := [(3, 9)] }
  replace w := w (by decide +kernel)
  replace w := w.2.2.2.2.2.2
  replace w := w (by decide +kernel)
  have w := h.2.1 (.session 0) 19 (wth ins [(Reg.memChRole 19, 0), (Reg.memSeamSparedFrom 1, 15)])
  iterate 9 replace w := w (by decide +kernel)
  have w := h.2.2.1 1 19 (0, 5) { ins with copies := [(1, 19, 0, 5)] }
  iterate 9 replace w := w (by decide +kernel)
  have w := h.2.2.2 1 19 (0, 5) { ins with copies := [(1, 19, 0, 5)] }
  iterate 7 replace w := w (by decide +kernel)
  trivial

theorem witness_DmaBindingAndControl (h : Obligations.DmaBindingAndControl) : True := by
  have w := h.1 org 3 own _ (by decide +kernel) rfl
  iterate 2 replace w := w (by decide +kernel)
  replace w := w.1 0 ctx7
  iterate 5 replace w := w (by decide +kernel)
  have w := h.1 org 127 (wth own [(Reg.dmaChOwnerBound 127, 1)]) _ (by decide +kernel) rfl
  iterate 2 replace w := w (by decide +kernel)
  replace w := w.2
  iterate 2 replace w := w (by decide +kernel)
  have w := h.2 3 (dma3 []) _ (by decide +kernel) rfl
  replace w := w (by decide +kernel)
  replace w := w.1 req 0 (some 7)
  iterate 7 replace w := w (by decide +kernel)
  have w := h.2 3 (dma3 [(Reg.dmaChStatusState 3, 1)]) _ (by decide +kernel) rfl
  replace w := w (by decide +kernel)
  replace w := w.2.1 req
  iterate 3 replace w := w (by decide +kernel)
  have w := h.2 3 (dma3 [(Reg.dmaChStatusState 3, 4)]) _ (by decide +kernel) rfl
  replace w := w (by decide +kernel)
  replace w := w.2.2.1 req
  iterate 3 replace w := w (by decide +kernel)
  have w := h.2 3 (dma3 [(Reg.dmaChStatusState 3, 1)]) _ (by decide +kernel) rfl
  replace w := w (by decide +kernel)
  replace w := w.2.2.2 org
  iterate 3 replace w := w (by decide +kernel)
  trivial

theorem witness_DmaStartChecksAndStarts (h : Obligations.DmaStartChecksAndStarts) : True := by
  have w := h org 3 (img 64) (dma3 []) _ _ (by decide +kernel) rfl (by decide +kernel) (by decide +kernel) (by decide +kernel) (by decide +kernel) (by decide +kernel) (by decide +kernel) (by decide +kernel) (by decide +kernel) (by decide +kernel) rfl
  replace w := w.1
  replace w := w (by decide +kernel)
  have w := h org 3 (img 0) (dma3 []) _ _ (by decide +kernel) rfl (by decide +kernel) (by decide +kernel) (by decide +kernel) (by decide +kernel) (by decide +kernel) (by decide +kernel) (by decide +kernel) (by decide +kernel) (by decide +kernel) rfl
  replace w := w.2 2 .length
  iterate 3 replace w := w (by decide +kernel)
  trivial

theorem witness_DmaRequestsAndEnds (h : Obligations.DmaRequestsAndEnds) : True := by
  have w := h.1.1 3 a5 (a5+4096) 64 0 (dmaRunning {})
  iterate 4 replace w := w (by decide +kernel)
  have w := h.1.1 3 a5 (a5+4096) 64 0 (wth (dmaRunning {}) [(Reg.dmaChCtrlOp 3, 1)])
  iterate 4 replace w := w (by decide +kernel)
  have w := h.1.2 3 ⟨9, true, a5+4096, 64, a5+4096, 0, false, List.replicate 64 3#8⟩ (dmaRunning { out := [⟨9, true, a5+4096, 64, a5+4096, 0, false, List.replicate 64 3#8⟩] })
  iterate 12 replace w := w (by decide +kernel)
  have w := h.2 3 org (dmaRunning { issued := true, reply := some org })
  iterate 6 replace w := w (by decide +kernel)
  replace w := w.1
  iterate 4 replace w := w (by decide +kernel)
  have w := h.2 3 org (wth (dmaRunning { issued := true, reply := some org }) [(Reg.dmaChCtrlRate 3, 1)])
  iterate 6 replace w := w (by decide +kernel)
  replace w := w.1
  iterate 4 replace w := w (by decide +kernel)
  have w := h.2 3 org (wth (dmaRunning { aborted := some 1, reply := some org }) [(Reg.dmaChStatusState 3, 2), (Reg.dmaChCtrlRate 3, 1)])
  iterate 6 replace w := w (by decide +kernel)
  replace w := w.2
  iterate 3 replace w := w (by decide +kernel)
  replace w := w.1 1
  iterate 2 replace w := w (by decide +kernel)
  trivial

theorem witness_DmaRequestsAndEnds_2 (h : Obligations.DmaRequestsAndEnds) : True := by
  have w := h.2 3 org (wth (dmaRunning { failed := some (.align, a5), reply := some org }) [(Reg.dmaChStatusState 3, 2)])
  iterate 6 replace w := w (by decide +kernel)
  replace w := w.2
  iterate 3 replace w := w (by decide +kernel)
  replace w := w.2 .align a5
  iterate 3 replace w := w (by decide +kernel)
  trivial

theorem witness_GroupsReadyAndCredits (h : Obligations.GroupsReadyAndCredits) : True := by
  have w := h.1 org { collS 0 (grp none) with groups := [] } _ (by decide +kernel) rfl
  replace w := w.1 gp
  iterate 5 replace w := w (by decide +kernel)
  have w := h.1 org (collS 2 (grp none)) _ (by decide +kernel) rfl
  replace w := w.2.1 9 0 (grp none)
  iterate 7 replace w := w (by decide +kernel)
  have w := h.1 org (collS 2 (grp none)) _ (by decide +kernel) rfl
  replace w := w.2.2 9 0 2 (grp none)
  iterate 7 replace w := w (by decide +kernel)
  have w := h.2.1 (cpk 0xC4 0 0 0 0 [1]) 0 (grp none) (collS 1 (grp none))
  iterate 7 replace w := w (by decide +kernel)
  replace w := w.1
  iterate 4 replace w := w (by decide +kernel)
  have w := h.2.1 (cpk 0xC1 0 64 0 77 [2, 0]) 0 (grp (some runX)) (collS 3 (grp (some runX)))
  iterate 7 replace w := w (by decide +kernel)
  replace w := w.2
  iterate 2 replace w := w (by decide +kernel)
  replace w := w (by intro c hc; cases hc; decide +kernel)
  replace w := w (by decide +kernel)
  have w := h.2.2 0 1 0 (grp none) { dest := 1, src := 0, cls := 3, opcode := 0xC4, gen := 0, cmd := collCmd 9 0 0 {} 0 0, data := [0] } (collS 1 (grp none))
  iterate 5 replace w := w (by decide +kernel)
  trivial

theorem witness_CollectiveStartsStepsAndCompletes (h : Obligations.CollectiveStartsStepsAndCompletes) : True := by
  have w := h 0 (grp none) (collM (grp none))
  iterate 4 replace w := w (by decide +kernel)
  replace w := w.1 ((collM (grp none)).readColl 0 (grp none)).1 ((collM (grp none)).readColl 0 (grp none)).2.2
  iterate 10 replace w := w (by decide +kernel)
  have w := h 0 (grp4 (some runC)) (collS 3 (grp4 (some runC)))
  iterate 4 replace w := w (by decide +kernel)
  replace w := w.2.1 runC
  iterate 3 replace w := w (by decide +kernel)
  replace w := w.1
  replace w := w (by decide +kernel)
  have w := h 0 (grp (some runC)) (collS 3 (grp (some runC)))
  iterate 4 replace w := w (by decide +kernel)
  replace w := w.2.1 runC
  iterate 3 replace w := w (by decide +kernel)
  replace w := w.2.1 .gather 0
  iterate 2 replace w := w (by decide +kernel)
  have w := h 0 (grp (some { runC with phase := .gather })) (collS 3 (grp (some { runC with phase := .gather })))
  iterate 4 replace w := w (by decide +kernel)
  replace w := w.2.1 { runC with phase := .gather }
  iterate 3 replace w := w (by decide +kernel)
  replace w := w.2.2
  iterate 3 replace w := w (by decide +kernel)
  have w := h 0 (grp (some { runX with finished := true })) (collS 3 (grp (some { runX with finished := true })))
  iterate 4 replace w := w (by decide +kernel)
  replace w := w.2.2 { runX with finished := true } 9 _ rfl
  iterate 2 replace w := w (by decide +kernel)
  replace w := w.1
  replace w := w (by decide +kernel)
  have w := h 0 (grp (some { runX with finished := true, desc := { cdX with completion := a5 + 32 } })) (collS 3 (grp (some { runX with finished := true, desc := { cdX with completion := a5 + 32 } })))
  iterate 4 replace w := w (by decide +kernel)
  replace w := w.2.2 { runX with finished := true, desc := { cdX with completion := a5 + 32 } } 9 _ rfl
  iterate 2 replace w := w (by decide +kernel)
  replace w := w.2 (a5+32)
  iterate 8 replace w := w (by decide +kernel)
  trivial

theorem witness_SegmentsAndEnds (h : Obligations.SegmentsAndEnds) : True := by
  have w := h.1 0 (grp (some runX)) runX (collS 3 (grp (some runX)))
  iterate 4 replace w := w (by decide +kernel)
  replace w := w.1 (cpk 0xC0 0 64 0 77 (List.replicate 32 5)) ⟨0, .reduce, 0, 0, false, 0⟩ (0, 16)
  iterate 15 replace w := w (by decide +kernel)
  have w := h.1 0 (grp (some runX)) runX (collS 3 (grp (some runX)))
  iterate 4 replace w := w (by decide +kernel)
  replace w := w.2.1 0 0 false (16, 32) _ (by decide +kernel) (by decide +kernel) rfl
  replace w := w (by decide +kernel)
  replace w := w.1 ((collS 3 (grp (some runX))).ownUnits 0 (grp (some runX)) runX 16 32).1 ((collS 3 (grp (some runX))).ownUnits 0 (grp (some runX)) runX 16 32).2.2.1 ((collS 3 (grp (some runX))).ownUnits 0 (grp (some runX)) runX 16 32).2.2.2
  iterate 3 replace w := w (by decide +kernel)
  have w := h.1 0 (grp (some runX)) runX (collS 3 (grp (some runX)))
  iterate 4 replace w := w (by decide +kernel)
  replace w := w.2.1 0 0 false (16, 32) _ (by decide +kernel) (by decide +kernel) rfl
  replace w := w (by decide +kernel)
  replace w := w.2
  iterate 2 replace w := w (by decide +kernel)
  have w := h.1 0 grpR runR (wth (collS 3 grpR) [(Reg.carGroupStateWeight 0, 1)])
  iterate 4 replace w := w (by decide +kernel)
  replace w := w.2.2 0 1 false ⟨0, .reduce, 0, 0, false, 0⟩ (List.replicate 32 5)
  iterate 3 replace w := w (by decide +kernel)
  have w := h.2 0 (grp (some runX)) runX (collS 3 (grp (some runX)))
  iterate 6 replace w := w (by decide +kernel)
  replace w := w.1 (cpk 0xC2 0 64 0 77 [8, 0, 1, 0])
  iterate 7 replace w := w (by decide +kernel)
  replace w := w.1
  iterate 2 replace w := w (by decide +kernel)
  have w := h.2 0 (grp (some runX)) runX (collS 3 (grp (some runX)))
  iterate 6 replace w := w (by decide +kernel)
  replace w := w.1 (cpk 0xC3 0 64 0 77 [])
  iterate 7 replace w := w (by decide +kernel)
  replace w := w.2
  iterate 3 replace w := w (by decide +kernel)
  trivial

theorem witness_SegmentsAndEnds_2 (h : Obligations.SegmentsAndEnds) : True := by
  have w := h.2 0 (grp (some runX)) runX (collS 3 (grp (some runX)))
  iterate 6 replace w := w (by decide +kernel)
  replace w := w.2.1 1
  iterate 2 replace w := w (by decide +kernel)
  replace w := w.1
  have w := h.2 0 (grp (some runX)) runX (collS 3 (grp (some runX)))
  iterate 6 replace w := w (by decide +kernel)
  replace w := w.2.1 1
  iterate 2 replace w := w (by decide +kernel)
  replace w := w.2 0 { dest := 1, src := 0, cls := 3, opcode := 0xC3, gen := 0, cmd := collCmd 9 0 64 {} 0 77, data := [] }
  replace w := w (by decide +kernel)
  have w := h.2 0 (grp (some runX)) runX (collS 3 (grp (some runX)))
  iterate 6 replace w := w (by decide +kernel)
  replace w := w.2.2
  trivial

theorem witness_RanksAndRicks (h : Obligations.RanksAndRicks) : True := by
  have w := h org opr _ (by decide +kernel) rfl
  replace w := w.1 3 [4, 5, 6]
  iterate 4 replace w := w (by decide +kernel)
  replace w := w.1
  iterate 2 replace w := w (by decide +kernel)
  have w := h org mem8 _ (by decide +kernel) rfl
  replace w := w.1 8 [4, 5, 6, 7, 8, 9, 10, 11]
  iterate 4 replace w := w (by decide +kernel)
  replace w := w.2 0
  iterate 3 replace w := w (by decide +kernel)
  have w := h org mem8 _ (by decide +kernel) rfl
  replace w := w.2.1 rp _ (by decide +kernel) (by decide +kernel) (by decide +kernel) rfl
  replace w := w (by decide +kernel)
  have w := h org (rickS 3 [(Reg.bnkLogCount, 0)]) _ (by decide +kernel) rfl
  replace w := w.2.2
  iterate 9 replace w := w (by decide +kernel)
  trivial

theorem witness_FormationEvents (h : Obligations.FormationEvents) : True := by
  have w := h (rickS 1 [])
  replace w := w (by decide +kernel)
  replace w := w.1
  replace w := w (by decide +kernel)
  replace w := w 1 0 (routed ((rickS 1 []).route { dest := 1, src := 0, cls := 1, opcode := 0x43, cmd := (rickS 1 []).helloCmd }))
  iterate 3 replace w := w (by decide +kernel)
  have w := h { rickS 1 [] with bank := { heard := [1, 2, 3, 4, 5, 6] } }
  replace w := w (by decide +kernel)
  replace w := w.2.1 (bpk 7 0x43 (rickS 1 []).helloCmd []) 7
  iterate 15 replace w := w (by decide +kernel)
  have w := h { rickS 1 [] with bank := { heard := [1, 2, 3] } }
  replace w := w (by decide +kernel)
  replace w := w.2.2.1 (bpk 7 0x43 (rickS 1 []).helloCmd []) 7 [1, 2, 3, 7]
  iterate 8 replace w := w (by decide +kernel)
  replace w := w (Or.inr (by decide +kernel))
  have w := h (rickS 3 [])
  replace w := w (by decide +kernel)
  replace w := w.2.2.1 (bpk 7 0x43 [] []) 7 [7]
  iterate 8 replace w := w (by decide +kernel)
  replace w := w (Or.inl (by decide +kernel))
  have w := h (rickS 1 [])
  replace w := w (by decide +kernel)
  replace w := w.2.2.2.1 7
  iterate 4 replace w := w (by decide +kernel)
  have w := h (rickS 1 [(Reg.bnkLogCount, 0)])
  replace w := w (by decide +kernel)
  replace w := w.2.2.2.2.1
  iterate 5 replace w := w (by decide +kernel)
  trivial

theorem witness_FormationEvents_2 (h : Obligations.FormationEvents) : True := by
  have w := h { mem8 with bank := { joining := some (org, rp) }, inProg := [⟨org, 0x54, none⟩] }
  replace w := w (by decide +kernel)
  replace w := w.2.2.2.2.2 org rp
  iterate 2 replace w := w (by decide +kernel)
  trivial

theorem witness_BankStages (h : Obligations.BankStages) : True := by
  have w := h (rickS 4 [(Reg.bnkStageStage, 1)]) _ _ (by decide +kernel) rfl rfl
  replace w := w.1
  iterate 4 replace w := w (by decide +kernel)
  have w := h (rickS 4 [(Reg.bnkStageStage, 2), (Reg.bnkStageRound, 2)]) _ _ (by decide +kernel) rfl rfl
  replace w := w.2.1 (bpk 4 0x41 (arriveCmd 7 1 false true false 2 0 0 0) []) 2
  iterate 16 replace w := w (by decide +kernel)
  replace w := w.2.1
  iterate 3 replace w := w (by decide +kernel)
  have w := h (rickS 4 [(Reg.bnkStageStage, 2)]) _ _ (by decide +kernel) rfl rfl
  replace w := w.2.1 (bpk 7 0x41 (arriveCmd 7 1 false true false 0 0 0 0) []) 2
  iterate 16 replace w := w (by decide +kernel)
  replace w := w.1
  replace w := w (by decide +kernel)
  have w := h (rickS 4 [(Reg.bnkStageStage, 4), (Reg.bnkStageRound, 2)]) _ _ (by decide +kernel) rfl rfl
  replace w := w.2.1 (bpk 4 0x41 (arriveCmd 7 1 true false false 2 0 0 0) []) 4
  iterate 16 replace w := w (by decide +kernel)
  replace w := w.2.2
  iterate 3 replace w := w (by decide +kernel)
  replace w := w (by intro j x hx; simp only [show (rickS 4 [(Reg.bnkStageStage, 4), (Reg.bnkStageRound, 2)]).rankTab (rickS 4 [(Reg.bnkStageStage, 4), (Reg.bnkStageRound, 2)]).rickJob = some (0, { ids := List.range 8 }) by decide +kernel] at hx; cases hx; rfl)
  replace w := w (by decide +kernel)
  have w := h (rickS 4 [(Reg.bnkStageStage, 3)]) _ _ (by decide +kernel) rfl rfl
  replace w := w.2.2.1
  iterate 6 replace w := w (by decide +kernel)
  have w := h (rickS 4 [(Reg.bnkStageStage, 4)]) _ _ (by decide +kernel) rfl rfl
  replace w := w.2.2.2 (Or.inr (by decide +kernel))
  trivial

theorem witness_ParityRollbackAndRebuild (h : Obligations.ParityRollbackAndRebuild) : True := by
  have w := h.1 (bpk 1 0x40 (memCmd 7 l0 0) (List.replicate 4096 3)) (bpk 1 0x40 (memCmd 7 l0 0) (List.replicate 4096 3)) 0 { rickS 4 [] with bank := { log := [⟨1, l0, [], false⟩] } }
  iterate 9 replace w := w (by decide +kernel)
  replace w := w.1
  iterate 3 replace w := w (by decide +kernel)
  have w := h.1 (bpk 1 0x42 (memCmd 7 l0 0) []) (routed ((rickS 4 []).route (replyTo (bpk 1 0x42 (memCmd 7 l0 0) []) (rickS 4 []).myId 0x81 .ok {} ((rickS 4 []).mem.read l0 4096)))) 0 (rickS 4 [])
  iterate 9 replace w := w (by decide +kernel)
  replace w := w.2
  iterate 2 replace w := w (by decide +kernel)
  replace w := w (port_of _ (by decide +kernel))
  have w := h.2.1.1 org 3 (rickS 5 [(Reg.bnkBankSeqSeq, 3)]) _ (by decide +kernel) rfl
  iterate 8 replace w := w (by decide +kernel)
  have w := h.2.1.2.1 org 3 { rickS 7 [] with bank := { rollback := some (org, 3, false), log := [⟨4, 10 * 2^30, [1, 2, 3, 4], false⟩] }, inProg := [⟨org, 0x56, none⟩] }
  iterate 6 replace w := w (by decide +kernel)
  have w := h.2.1.2.2 org 3 ⟨4, 10 * 2^30, [1, 2, 3, 4], false⟩ { rickS 7 [] with bank := { rollback := some (org, 3, false), log := [⟨4, 10 * 2^30, [1, 2, 3, 4], false⟩] }, inProg := [⟨org, 0x56, none⟩] }
  iterate 11 replace w := w (by decide +kernel)
  have w := h.2.2 org mem8 _ (by decide +kernel) rfl
  replace w := w.1 rp
  iterate 6 replace w := w (by decide +kernel)
  trivial

theorem witness_ParityRollbackAndRebuild_2 (h : Obligations.ParityRollbackAndRebuild) : True := by
  have w := h.2.2 org { rickS 3 [] with bank := { hello := [(5, ⟨0, 8, 0, 1, 7⟩)] } } _ (by decide +kernel) rfl
  replace w := w.2.1 5 5 ⟨0, 8, 0, 1, 7⟩
  iterate 10 replace w := w (by decide +kernel)
  have w := h.2.2 org { rickS 8 [(Reg.bnkRebuildTotalCount, 2)] with bank := { received := [7, 8], closed := true } } _ (by decide +kernel) rfl
  replace w := w.2.2
  iterate 3 replace w := w (by decide +kernel)
  trivial

theorem witness_HostReadsAndRegisterWrites (h : Obligations.HostReadsAndRegisterWrites) : True := by
  have w := h.1 org opr _ (by decide +kernel) rfl
  replace w := w.1 Reg.memStatusOff
  iterate 3 replace w := w (by decide +kernel)
  replace w := w.1
  replace w := w (by decide +kernel)
  have w := h.1 org opr _ (by decide +kernel) rfl
  replace w := w.1 0x1E0040
  iterate 3 replace w := w (by decide +kernel)
  replace w := w.2
  replace w := w (by decide +kernel)
  have w := h.1 org ins _ (by decide +kernel) rfl
  replace w := w.2.1 Reg.memCeLimitOff 7 Reg.memStatusOff 9 ((ins.arbGrant.begun org 0x63).writeReg (.session 0) Reg.memCeLimitOff 7).1 (((ins.arbGrant.begun org 0x63).writeReg (.session 0) Reg.memCeLimitOff 7).1.writeReg (.session 0) Reg.memStatusOff 9).1 (((ins.arbGrant.begun org 0x63).writeReg (.session 0) Reg.memCeLimitOff 7).1.writeReg (.session 0) Reg.memStatusOff 9).2
  iterate 5 replace w := w (by decide +kernel)
  have w := h.1 org opr _ (by decide +kernel) rfl
  replace w := w.2.2.1 1 256
  iterate 3 replace w := w (by decide +kernel)
  have w := h.1 org opr _ (by decide +kernel) rfl
  replace w := w.2.2.2 3
  iterate 3 replace w := w (by decide +kernel)
  have w := h.2 .i3c 5 opr _ (by decide +kernel) rfl
  iterate 3 replace w := w (by decide +kernel)
  replace w := w.1
  replace w := w (by decide +kernel)
  trivial

theorem witness_HostReadsAndRegisterWrites_2 (h : Obligations.HostReadsAndRegisterWrites) : True := by
  have w := h.2 req 5 (wth opr [(Reg.memEventsUncorrectable, 1), (Reg.memEventsCeLimit, 1)]) _ (by decide +kernel) rfl
  iterate 3 replace w := w (by decide +kernel)
  replace w := w.2.1
  replace w := w (by decide +kernel)
  have w := h.2 req 24 ins _ (by decide +kernel) rfl
  iterate 3 replace w := w (by decide +kernel)
  replace w := w.2.2
  iterate 4 replace w := w (by decide +kernel)
  replace w := w.1
  iterate 2 replace w := w (by decide +kernel)
  have w := h.2 req 24 { ins with auditBad := true } _ (by decide +kernel) rfl
  iterate 3 replace w := w (by decide +kernel)
  replace w := w.2.2
  iterate 4 replace w := w (by decide +kernel)
  replace w := w.2
  iterate 2 replace w := w (by decide +kernel)
  trivial

theorem witness_SessionsOpenAndEnd (h : Obligations.SessionsOpenAndEnd) : True := by
  have w := h { st [] with nvm := { keys := some [(3, keyE 99 3)] } }
  replace w := w (by decide +kernel)
  replace w := w.1 hel
  iterate 7 replace w := w (by decide +kernel)
  replace w := w.1 3
  iterate 7 replace w := w (by decide +kernel)
  have w := h { st [] with nonces := [{ nonce := 5, entry := 0, sess := 0, status := .ok, own := 0, ownNonce := 0, chain := 0, sig := 0 }] }
  replace w := w (by decide +kernel)
  replace w := w.1 hel
  iterate 7 replace w := w (by decide +kernel)
  replace w := w.2 { nonce := 5, entry := 0, sess := 0, status := .ok, own := 0, ownNonce := 0, chain := 0, sig := 0 }
  replace w := w (by decide +kernel)
  have w := h (st [(Reg.hstSessionStateState 0, 1)])
  replace w := w (by decide +kernel)
  replace w := w.2.1 (hsk 3 0) 0
  iterate 8 replace w := w (by decide +kernel)
  have w := h (st [(Reg.hstSessionStateState 9, 1)])
  replace w := w (by decide +kernel)
  replace w := w.2.2 9
  replace w := w (by decide +kernel)
  replace w := w.1
  replace w := w (by decide +kernel)
  have w := h (st [(Reg.hstSessionStateState 9, 3)])
  replace w := w (by decide +kernel)
  replace w := w.2.2 9
  replace w := w (by decide +kernel)
  replace w := w.2
  iterate 2 replace w := w (by decide +kernel)
  trivial

theorem witness_TransportAndHostPorts (h : Obligations.TransportAndHostPorts) : True := by
  have w := h.1 hcm _ opr _ (by decide +kernel) (by decide +kernel) rfl rfl
  iterate 2 replace w := w (by decide +kernel)
  replace w := w (Or.inr (Or.inl (by decide +kernel)))
  replace w := w.1 ⟨0, 1, 5, 0⟩
  iterate 2 replace w := w (by decide +kernel)
  replace w := w.1
  iterate 5 replace w := w (by decide +kernel)
  have w := h.1 (dgm 0x10 0 3 0 (natLe 32 0)) _ opr _ (by decide +kernel) (by decide +kernel) rfl rfl
  iterate 2 replace w := w (by decide +kernel)
  replace w := w (Or.inr (Or.inl (by decide +kernel)))
  replace w := w.1 ⟨0, 3, 0, 0⟩
  iterate 2 replace w := w (by decide +kernel)
  replace w := w.2
  replace w := w (by decide +kernel)
  have w := h.1 (dgm 0x12 1 0 4 []) _ { opr with sessions := [(0, { unacked := [⟨4, []⟩, ⟨5, []⟩] })] } _ (by decide +kernel) (by decide +kernel) rfl rfl
  iterate 2 replace w := w (by decide +kernel)
  replace w := w (Or.inr (Or.inl (by decide +kernel)))
  replace w := w.2.1
  iterate 2 replace w := w (by decide +kernel)
  have w := h.1 (dgm 0x14 0 1 0 []) _ opr _ (by decide +kernel) (by decide +kernel) rfl rfl
  iterate 2 replace w := w (by decide +kernel)
  replace w := w (Or.inr (Or.inl (by decide +kernel)))
  replace w := w.2.2.1
  iterate 5 replace w := w (by decide +kernel)
  have w := h.1 { dgm 0x12 0 0 0 [] with bytes := (dgm 0x12 0 0 0 []).bytes.set 40 7, srcPort := 9 } _ opr _ (by decide +kernel) (by decide +kernel) rfl rfl
  iterate 2 replace w := w (by decide +kernel)
  replace w := w (Or.inr (Or.inl (by decide +kernel)))
  replace w := w.2.2.2
  iterate 2 replace w := w (by decide +kernel)
  have w := h.2.1 { opr with sessions := [(0, { unacked := [⟨4, []⟩] })] }
  replace w := w (by decide +kernel)
  replace w := w.1 0 ⟨4, []⟩
  iterate 4 replace w := w (by decide +kernel)
  replace w := w.1
  replace w := w (by decide +kernel)
  trivial

theorem witness_TransportAndHostPorts_2 (h : Obligations.TransportAndHostPorts) : True := by
  have w := h.2.1 { wth opr [(Reg.hstSessionStatePort 0, 1)] with sessions := [(0, { unacked := [⟨4, []⟩], misses := 2 })] }
  replace w := w (by decide +kernel)
  replace w := w.1 0 ⟨4, []⟩
  iterate 4 replace w := w (by decide +kernel)
  replace w := w.2
  iterate 5 replace w := w (by decide +kernel)
  have w := h.2.1 (wth opr [(Reg.hstPortStatusLink 5, 1)])
  replace w := w (by decide +kernel)
  replace w := w.2.1 5
  iterate 2 replace w := w (by decide +kernel)
  replace w := w.1
  replace w := w (by decide +kernel)
  have w := h.2.1 (wth opr [(Reg.hstStatusConfigured, 1)])
  replace w := w (by decide +kernel)
  replace w := w.2.1 5
  iterate 2 replace w := w (by decide +kernel)
  replace w := w.2
  iterate 2 replace w := w (by decide +kernel)
  have w := h.2.1 (wth opr [(Reg.hstPortStatusLink 5, 1)])
  replace w := w (by decide +kernel)
  replace w := w.2.2 5 2 3
  iterate 2 replace w := w (by decide +kernel)
  replace w := w.choose_spec.2.2.1
  replace w := w (by decide +kernel)
  have w := h.2.1 (wth opr [(Reg.hstPortStatusLink 5, 1)])
  replace w := w (by decide +kernel)
  replace w := w.2.2 5 4 3
  iterate 2 replace w := w (by decide +kernel)
  replace w := w.choose_spec.2.2.2.1
  iterate 2 replace w := w (by decide +kernel)
  have w := h.2.1 (wth opr [(Reg.hstPortStatusLink 5, 1)])
  replace w := w (by decide +kernel)
  replace w := w.2.2 5 0 3
  iterate 2 replace w := w (by decide +kernel)
  replace w := w.choose_spec.2.2.2.2
  iterate 2 replace w := w (by decide +kernel)
  trivial

theorem witness_LaneAndPortControls (h : Obligations.LaneAndPortControls) : True := by
  have w := h.1 req 3 up0 _ (by decide +kernel) rfl
  replace w := w (by decide +kernel)
  replace w := w.1
  iterate 4 replace w := w (by decide +kernel)
  have w := h.1 req 3 (wth up0 [(Reg.lanLaneStatusDrops 3, 2)]) _ (by decide +kernel) rfl
  replace w := w (by decide +kernel)
  replace w := w.1
  iterate 4 replace w := w (by decide +kernel)
  have w := h.1 req 111 (wth ins [(Reg.lanLaneStatusState 111, 7), (Reg.lanLaneStatusDrops 111, 3)]) _ (by decide +kernel) rfl
  replace w := w (by decide +kernel)
  replace w := w.2.1
  iterate 2 replace w := w (by decide +kernel)
  have w := h.1 req 111 (wth ins [(Reg.lanLanePrbsErrCount 111, 3)]) _ (by decide +kernel) rfl
  replace w := w (by decide +kernel)
  replace w := w.2.2.1
  iterate 2 replace w := w (by decide +kernel)
  have w := h.1 req 111 ins _ (by decide +kernel) rfl
  replace w := w (by decide +kernel)
  replace w := w.2.2.2 3
  iterate 5 replace w := w (by decide +kernel)
  have w := h.2.1 req 2 (wth ins [(Reg.glbLicencesBase, 1), (Reg.glbModuleIdValid, 1), (Reg.lanPortDiscState 2, 4), (Reg.lanPortDiscState 3, 4)]) _ (by decide +kernel) rfl
  replace w := w (by decide +kernel)
  replace w := w.1 4
  iterate 4 replace w := w (by decide +kernel)
  trivial

theorem witness_LaneAndPortControls_2 (h : Obligations.LaneAndPortControls) : True := by
  have w := h.2.1 req 0 (wth up0 [(Reg.glbLicencesBase, 1), (Reg.glbModuleIdValid, 1)]) _ (by decide +kernel) rfl
  replace w := w (by decide +kernel)
  replace w := w.2.1
  iterate 3 replace w := w (by decide +kernel)
  have w := h.2.1 req 0 { ins with nvm := { lanes := [(0, 0, []), (3, 0, [])] } } _ (by decide +kernel) rfl
  replace w := w (by decide +kernel)
  replace w := w.2.2.1
  iterate 2 replace w := w (by decide +kernel)
  have w := h.2.1 req 15 (wth ins [(Reg.rtrPortDepthCells 15, 7)]) _ (by decide +kernel) rfl
  replace w := w (by decide +kernel)
  replace w := w.2.2.2
  replace w := w (by decide +kernel)
  have w := h.2.2 0 up0 _ (by decide +kernel) rfl
  replace w := w (by decide +kernel)
  replace w := w.1 req (3 * 2 ^ 16 + 2 ^ 12 + 30)
  iterate 8 replace w := w (by decide +kernel)
  have w := h.2.2 0 { up0 with eyes := [(0, ⟨3, 1, 12, 0⟩)] } _ (by decide +kernel) rfl
  replace w := w (by decide +kernel)
  replace w := w.2.1 req ⟨3, 1, 12, 0⟩
  iterate 2 replace w := w (by decide +kernel)
  have w := h.2.2 0 { up0 with eyes := [(0, ⟨3, 1, 20, 0⟩)] } _ (by decide +kernel) rfl
  replace w := w (by decide +kernel)
  replace w := w.2.2 [(2051, 5), (2048, 9), (3000, 7)] _ _ _ _ ⟨3, 1, 20, 0⟩ (by decide +kernel) (by decide +kernel) (by decide +kernel) rfl rfl rfl rfl
  trivial

theorem witness_LinksTrainAndFail (h : Obligations.LinksTrainAndFail) : True := by
  have w := h.1 2 (wth ins [(Reg.glbLicencesBase, 1), (Reg.glbModuleIdValid, 1), (Reg.lanLaneStatusState 25, 7), (Reg.botStatusStep, 0)])
  iterate 2 replace w := w (by decide +kernel)
  replace w := w.1
  replace w := w (by decide +kernel)
  replace w := w.1
  replace w := w (by decide +kernel)
  have w := h.1 2 (wth ins [(Reg.glbLicencesBase, 1), (Reg.glbModuleIdValid, 1), (Reg.lanPortDiscState 2, 3), (Reg.botStatusStep, 0)])
  iterate 2 replace w := w (by decide +kernel)
  replace w := w.1
  replace w := w (by decide +kernel)
  replace w := w.2
  replace w := w (by decide +kernel)
  have w := h.1 0 { wth ins [(Reg.glbLicencesBase, 1), (Reg.glbModuleIdValid, 1)] with ports := [(0, { training := true })] }
  iterate 2 replace w := w (by decide +kernel)
  replace w := w.2.1 4095 9 1 2 true
  iterate 8 replace w := w (by decide +kernel)
  have w := h.1 2 (wth ins [(Reg.glbLicencesBase, 1), (Reg.glbModuleIdValid, 1), (Reg.botStatusStep, 0)])
  iterate 2 replace w := w (by decide +kernel)
  replace w := w.2.2.1
  iterate 4 replace w := w (by decide +kernel)
  have w := h.1 0 (upP { change := true })
  iterate 2 replace w := w (by decide +kernel)
  replace w := w.2.2.2
  iterate 3 replace w := w (by decide +kernel)
  have w := h.2.1 3 0 5 9999 0 1 up0
  iterate 4 replace w := w (by decide +kernel)
  replace w := w.1
  iterate 3 replace w := w (by decide +kernel)
  replace w := w.1 2 (Or.inl (by decide +kernel))
  trivial

theorem witness_LinksTrainAndFail_2 (h : Obligations.LinksTrainAndFail) : True := by
  have w := h.2.1 3 0 4 4097 0 1 up0
  iterate 4 replace w := w (by decide +kernel)
  replace w := w.1
  iterate 3 replace w := w (by decide +kernel)
  replace w := w.1 3 (Or.inr (by decide +kernel))
  have w := h.2.1 3 0 4 4096 7 1 up0
  iterate 4 replace w := w (by decide +kernel)
  replace w := w.2
  iterate 2 replace w := w (by decide +kernel)
  replace w := w.1
  replace w := w (by decide +kernel)
  have w := h.2.1 3 0 4 4096 7 1 (wth up0 [(Reg.lanLaneCtrlPrbsEn 3, 1)])
  iterate 4 replace w := w (by decide +kernel)
  replace w := w.2
  iterate 2 replace w := w (by decide +kernel)
  replace w := w.2
  replace w := w (by decide +kernel)
  have w := h.2.2.1 3 0 (wth up0 [(Reg.lanLaneStatusState 3, 4), (Reg.lanPortStatusWidth 0, 8)])
  iterate 6 replace w := w (by decide +kernel)
  replace w := w.1
  replace w := w (by decide +kernel)
  have w := h.2.2.2 0 up0
  iterate 4 replace w := w (by decide +kernel)
  trivial

theorem witness_FramesAndIdle (h : Obligations.FramesAndIdle) : True := by
  have w := h.1 0 {} up0
  iterate 4 replace w := w (by decide +kernel)
  replace w := w.1
  iterate 2 replace w := w (by decide +kernel)
  replace w := w.1
  replace w := w (by decide +kernel)
  replace w := w (Or.inl (by decide +kernel))
  have w := h.1 0 { out := [[1], [2]], txSeq := 65535 } (upP { out := [[1], [2]], txSeq := 65535 })
  iterate 4 replace w := w (by decide +kernel)
  replace w := w.1
  iterate 2 replace w := w (by decide +kernel)
  replace w := w.2.1 _ (by decide +kernel) (by decide +kernel) (by decide +kernel) rfl
  have w := h.1 0 { kept := [(4, [[1]])], resend := 1 } (upP { kept := [(4, [[1]])], resend := 1 })
  iterate 4 replace w := w (by decide +kernel)
  replace w := w.1
  iterate 2 replace w := w (by decide +kernel)
  replace w := w.2.2 4 [[1]]
  iterate 3 replace w := w (by decide +kernel)
  have w := h.1 0 { kept := [(4, [[1]])], replays := 6 } (upP { kept := [(4, [[1]])], replays := 6 })
  iterate 4 replace w := w (by decide +kernel)
  replace w := w.2.1
  iterate 3 replace w := w (by decide +kernel)
  have w := h.1 0 { kept := [(4, [[1]])], replays := 8 } (upP { kept := [(4, [[1]])], replays := 8 })
  iterate 4 replace w := w (by decide +kernel)
  replace w := w.2.2.1
  iterate 3 replace w := w (by decide +kernel)
  have w := h.1 0 {} up0
  iterate 4 replace w := w (by decide +kernel)
  replace w := w.2.2.2 (frm 0 4 []) (frmLane 0 4) _ [] (frm_all 0 4) rfl (frm_sent 0 4) (frm_whole 0 4) (by rw [frm_tail _ _ _ _ (by decide)]; decide +kernel) (by rw [frm_tail _ _ _ _ (by decide)]; decide +kernel) (by rw [frm_tail _ _ _ _ (by decide)]; decide +kernel)
  iterate 2 replace w := w (by decide +kernel)
  replace w := w.1 (by rw [frm_tail _ _ _ _ (by decide)]; decide +kernel) (by rw [frm_tail _ _ _ _ (by decide)]; decide +kernel) (by rw [frm_tail _ _ _ _ (by decide)]; decide +kernel)
  trivial

theorem witness_FramesAndIdle_2 (h : Obligations.FramesAndIdle) : True := by
  have w := h.1 0 {} up0
  iterate 4 replace w := w (by decide +kernel)
  replace w := w.2.2.2 (frm 0 0 []) (frmLane 0 0) _ [] (frm_all 0 0) rfl (frm_sent 0 0) (frm_whole 0 0) (by rw [frm_tail _ _ _ _ (by decide)]; decide +kernel) (by rw [frm_tail _ _ _ _ (by decide)]; decide +kernel) (by rw [frm_tail _ _ _ _ (by decide)]; decide +kernel)
  iterate 2 replace w := w (by decide +kernel)
  replace w := w.2.1 (by rw [frm_tail _ _ _ _ (by decide)]; decide +kernel) (by rw [frm_tail _ _ _ _ (by decide)]; decide +kernel)
  have w := h.1 0 {} up0
  iterate 4 replace w := w (by decide +kernel)
  replace w := w.2.2.2 (frm 1 0 []) (frmLane 1 0) _ [] (frm_all 1 0) rfl (frm_sent 1 0) (frm_whole 1 0) (by rw [frm_tail _ _ _ _ (by decide)]; decide +kernel) (by rw [frm_tail _ _ _ _ (by decide)]; decide +kernel) (by rw [frm_tail _ _ _ _ (by decide)]; decide +kernel)
  iterate 2 replace w := w (by decide +kernel)
  replace w := w.2.2 (by rw [frm_tail _ _ _ _ (by decide)]; decide +kernel)
  have w := h.2.1 {} 15 111 0 1 5 3 [[1]]
  iterate 2 replace w := w (by decide +kernel)
  have w := h.2.2 0 (wth up0 [(Reg.lanPortCtrlIdleEn 0, 1)])
  iterate 2 replace w := w (by decide +kernel)
  replace w := w.1
  iterate 8 replace w := w (by decide +kernel)
  have w := h.2.2 0 (wth up0 [(Reg.lanPortStatusIdleTx 0, 1)])
  iterate 2 replace w := w (by decide +kernel)
  replace w := w.2.1
  replace w := w (by decide +kernel)
  have w := h.2.2 0 (wth up0 [(Reg.lanPortStatusIdleRx 0, 1)])
  iterate 2 replace w := w (by decide +kernel)
  replace w := w.2.2
  replace w := w (by decide +kernel)
  trivial

theorem witness_IdentityAndTime (h : Obligations.IdentityAndTime) : True := by
  have w := h.1 0 exch
  iterate 4 replace w := w (by decide +kernel)
  replace w := w.1
  have w := h.1 0 exch
  iterate 4 replace w := w (by decide +kernel)
  replace w := w.2.1
  iterate 2 replace w := w (by decide +kernel)
  have w := h.1 0 exch
  iterate 4 replace w := w (by decide +kernel)
  replace w := w.2.2 1
  iterate 3 replace w := w (by decide +kernel)
  replace w := w.1
  replace w := w (by decide +kernel)
  replace w := w.1
  have w := h.1 0 exch
  iterate 4 replace w := w (by decide +kernel)
  replace w := w.2.2 1
  iterate 3 replace w := w (by decide +kernel)
  replace w := w.1
  replace w := w (by decide +kernel)
  replace w := w.2
  have w := h.1 0 exch
  iterate 4 replace w := w (by decide +kernel)
  replace w := w.2.2 5
  iterate 3 replace w := w (by decide +kernel)
  replace w := w.2 3 1
  replace w := w (by decide +kernel)
  have w := h.2 (folS 2 {})
  replace w := w (by decide +kernel)
  replace w := w.1 0
  iterate 4 replace w := w (by decide +kernel)
  trivial

theorem witness_IdentityAndTime_2 (h : Obligations.IdentityAndTime) : True := by
  have w := h.2 { folS 1 { running := true } with regs := (wth (folS 1 {}) [(Reg.lanPlanRootsRoot, 0)]).regs }
  replace w := w (by decide +kernel)
  replace w := w.2.1
  iterate 2 replace w := w (by decide +kernel)
  replace w := w.1
  replace w := w (by decide +kernel)
  have w := h.2 (wth (folS 0 {}) [(Reg.lanPlanRootsRoot, 0), (Reg.lanPortDiscState 0, 0)])
  replace w := w (by decide +kernel)
  replace w := w.2.1
  iterate 2 replace w := w (by decide +kernel)
  replace w := w.2
  replace w := w (by decide +kernel)
  replace w := w (fun d hd => Or.inl ((by decide +kernel : ∀ d < 16, (wth (folS 0 {}) [(Reg.lanPlanRootsRoot, 0), (Reg.lanPortDiscState 0, 0)]).portUp d = false) d hd))
  replace w := w (by decide +kernel)
  have w := h.2 (folS 2 {})
  replace w := w (by decide +kernel)
  replace w := w.2.2.1 0 100 200 300 410 5000 4 _ true false (by decide +kernel) (by decide +kernel) rfl
  replace w := w.1
  have w := h.2 (folS 2 {})
  replace w := w (by decide +kernel)
  replace w := w.2.2.1 0 100 200 300 410 5000 4 _ true false (by decide +kernel) (by decide +kernel) rfl
  replace w := w.2
  iterate 2 replace w := w (by decide +kernel)
  replace w := w (Or.inl (by decide +kernel))
  replace w := w.1
  iterate 2 replace w := w (by decide +kernel)
  have w := h.2 (folS 2 { running := true, good := 7 })
  replace w := w (by decide +kernel)
  replace w := w.2.2.1 0 100 200 300 400 5000 4 _ true false (by decide +kernel) (by decide +kernel) rfl
  replace w := w.2
  iterate 2 replace w := w (by decide +kernel)
  replace w := w (Or.inl (by decide +kernel))
  replace w := w.2
  iterate 2 replace w := w (by decide +kernel)
  replace w := w (fun v => by rw [show (folS 2 { running := true, good := 7 }).fld (Reg.lanPortSkewAsymmetry 0) = 0 by decide +kernel]; simp only [offsetOf]; omega)
  iterate 2 replace w := w (by decide +kernel)
  have w := h.2 (wth (folS 3 {}) [(Reg.lanTimeStatusValid, 1)])
  replace w := w (by decide +kernel)
  replace w := w.2.2.2.1
  replace w := w (by decide +kernel)
  trivial

theorem witness_IdentityAndTime_3 (h : Obligations.IdentityAndTime) : True := by
  have w := h.2 (folS 2 {})
  replace w := w (by decide +kernel)
  replace w := w.2.2.2.2
  iterate 4 replace w := w (by decide +kernel)
  trivial

theorem witness_PacketsEnterAndLeave (h : Obligations.PacketsEnterAndLeave) : True := by
  have w := h 0 (wth srv [(Reg.lanPortDiscState 1, 2)])
  iterate 2 replace w := w (by decide +kernel)
  replace w := w.1 { rq 1 [] [] 0 with dest := 2 } { rq 1 [] [] 0 with dest := 2 } 1 2 0 0
  iterate 8 replace w := w (by decide +kernel)
  have w := h 0 srv
  iterate 2 replace w := w (by decide +kernel)
  replace w := w.2.1 { rq 1 [] [] 0 with hcrc := some 7 }
  iterate 2 replace w := w (by decide +kernel)
  replace w := w.1
  replace w := w (by decide +kernel)
  have w := h 0 { srv with resync := [(0, (1, 5))] }
  iterate 2 replace w := w (by decide +kernel)
  replace w := w.2.1 { rq 1 [] [] 0 with hcrc := some 7 }
  iterate 2 replace w := w (by decide +kernel)
  replace w := w.2 1 5
  replace w := w (by decide +kernel)
  have w := h 0 { srv with resync := [(0, (1, 5))] }
  iterate 2 replace w := w (by decide +kernel)
  replace w := w.2.2.1 (rq 1 [] [] 0) 1 5
  iterate 4 replace w := w (by decide +kernel)
  have w := h 0 { srv with queues := [(0, [⟨{ rq 1 [] [] 0 with dest := 1, src := 0 }, none, 3, 0, 2, 0, 0⟩])] }
  iterate 2 replace w := w (by decide +kernel)
  replace w := w.2.2.2.1 0 3 ⟨{ rq 1 [] [] 0 with dest := 1, src := 0 }, none, 3, 0, 2, 0, 0⟩
  iterate 5 replace w := w (by decide +kernel)
  have w := h 0 { srv with credits := [(4, { sent := 9, txWindow := 5 })] }
  iterate 2 replace w := w (by decide +kernel)
  replace w := w.2.2.2.2.1 (List.replicate 30 9)
  iterate 2 replace w := w (by decide +kernel)
  trivial

theorem witness_PacketsEnterAndLeave_2 (h : Obligations.PacketsEnterAndLeave) : True := by
  have w := h 0 { srv with credits := [(4, { freed := 9, pending := 5 })] }
  iterate 2 replace w := w (by decide +kernel)
  replace w := w.2.2.2.2.2.1
  iterate 2 replace w := w (by decide +kernel)
  replace w := w ⟨4, (by decide +kernel) ⟩
  have w := h 0 { srv with credits := [(4, { freed := 9, window := 5 })] }
  iterate 2 replace w := w (by decide +kernel)
  replace w := w.2.2.2.2.2.2 4
  iterate 2 replace w := w (by decide +kernel)
  trivial

theorem witness_RequestsAreServed (h : Obligations.RequestsAreServed) : True := by
  have w := h (rq 1 (memCmd 7 a5 1) [] 0) (routed (srv.route (replyTo (rq 1 (memCmd 7 a5 1) [] 0) 0 0x81 .ok {} (srv.mem.read a5 64)))) 0 srv
  iterate 5 replace w := w (by decide +kernel)
  replace w := w.1 64
  iterate 7 replace w := w (by decide +kernel)
  have w := h (rq 2 (memCmd 7 a5 1) (List.replicate 64 6) 2) (routed (srv.route (replyTo (rq 2 (memCmd 7 a5 1) (List.replicate 64 6) 2) 0 0x82 .ok {} []))) 0 srv
  iterate 5 replace w := w (by decide +kernel)
  replace w := w.2.1
  iterate 2 replace w := w (by decide +kernel)
  replace w := w.1 (List.replicate 64 6)
  iterate 5 replace w := w (by decide +kernel)
  have w := h (rq 6 (memCmd 7 a5 1) (List.replicate 64 6 ++ natLe 32 21) 3) (routed (srv.route (replyTo (rq 6 (memCmd 7 a5 1) (List.replicate 64 6 ++ natLe 32 21) 3) 0 0x82 .ok {} []))) 0 srv
  iterate 5 replace w := w (by decide +kernel)
  replace w := w.2.1
  iterate 2 replace w := w (by decide +kernel)
  replace w := w.2.1 (List.replicate 64 6) 21
  iterate 6 replace w := w (by decide +kernel)
  have w := h (rq 3 (memCmd 7 a5 32) (natLe 32 6) 0) (routed (srv.route (replyTo (rq 3 (memCmd 7 a5 32) (natLe 32 6) 0) 0 0x83 .ok {} (natLe 32 (9*2^24))))) 0 srv
  iterate 5 replace w := w (by decide +kernel)
  replace w := w.2.1
  iterate 2 replace w := w (by decide +kernel)
  replace w := w.2.2.1 0 8 (natLe 32 6)
  iterate 6 replace w := w (by decide +kernel)
  have w := h (rq 5 (memCmd 7 a5 0) (natLe 32 6) 0) (routed (srv.route (replyTo (rq 5 (memCmd 7 a5 0) (natLe 32 6) 0) 0 0x85 .ok {} []))) 0 srv
  iterate 5 replace w := w (by decide +kernel)
  replace w := w.2.1
  iterate 2 replace w := w (by decide +kernel)
  replace w := w.2.2.2
  iterate 4 replace w := w (by decide +kernel)
  have w := h (rq 4 (natLe 4 7 ++ natLe 2 3 ++ natLe 2 0 ++ natLe 4 11 ++ natLe 4 0) [] 0) (routed (srv.route (replyTo (rq 4 (natLe 4 7 ++ natLe 2 3 ++ natLe 2 0 ++ natLe 4 11 ++ natLe 4 0) [] 0) 0 0x84 .ok {} []))) 0 srv
  iterate 5 replace w := w (by decide +kernel)
  replace w := w.2.2 3 11 (0, ctx7)
  iterate 7 replace w := w (by decide +kernel)
  trivial

theorem witness_RepliesEndRequests (h : Obligations.RepliesEndRequests) : True := by
  have w := h.1 (rp2 0x81 [1, 2]) 0 9 { busy := true, owner := .operand 0 4 64 1, gen := 3, seq := 5, dest := 1, opcode := 1 } (hold (.operand 0 4 64 1) { ctx := 0, queue := 0, entry := 0, id := 4, stage := .resolve, readsOwed := 2 }) _ (by decide +kernel) rfl
  iterate 6 replace w := w (by decide +kernel)
  replace w := w.1 0 4 64 1 { ctx := 0, queue := 0, entry := 0, id := 4, stage := .resolve, readsOwed := 2 }
  iterate 5 replace w := w (by decide +kernel)
  have w := h.1 (rp2 0x82 []) 0 9 { busy := true, owner := .tile 0 32 6 3, gen := 3, seq := 5, dest := 1, opcode := 1 } (hold (.tile 0 32 6 3) { ctx := 0, queue := 0, entry := 0, id := 4, stage := .main, tilesOwed := [(6, 1)] }) _ (by decide +kernel) rfl
  iterate 6 replace w := w (by decide +kernel)
  replace w := w.2.1 0 32 6 3 { ctx := 0, queue := 0, entry := 0, id := 4, stage := .main, tilesOwed := [(6, 1)] }
  iterate 7 replace w := w (by decide +kernel)
  have w := h.1 (rp2 0x83 []) 0 9 { busy := true, owner := .tadd 0 32 6 3, gen := 3, seq := 5, dest := 1, opcode := 1 } (hold (.tadd 0 32 6 3) { ctx := 0, queue := 0, entry := 0, id := 4, stage := .main, tilesOwed := [(6, 1)] }) _ (by decide +kernel) rfl
  iterate 6 replace w := w (by decide +kernel)
  replace w := w.2.2.1 0 32 6 3 { ctx := 0, queue := 0, entry := 0, id := 4, stage := .main, tilesOwed := [(6, 1)] }
  iterate 7 replace w := w (by decide +kernel)
  have w := h.1 (rp2 0x83 []) 0 9 { busy := true, owner := .none, gen := 3, seq := 5, dest := 1, opcode := 1 } (hold .none { ctx := 0, queue := 0, entry := 0 }) _ (by decide +kernel) rfl
  iterate 6 replace w := w (by decide +kernel)
  replace w := w.2.2.2.1
  iterate 2 replace w := w (by decide +kernel)
  have w := h.1 (rp2 0x84 []) 0 9 { busy := true, owner := .signal 0 4 6, gen := 3, seq := 5, dest := 1, opcode := 1 } (hold (.signal 0 4 6) { ctx := 0, queue := 0, entry := 0, id := 4, stage := .signals, signalsOwed := 2 }) _ (by decide +kernel) rfl
  iterate 6 replace w := w (by decide +kernel)
  replace w := w.2.2.2.2.1 0 4 6 { ctx := 0, queue := 0, entry := 0, id := 4, stage := .signals, signalsOwed := 2 }
  iterate 7 replace w := w (by decide +kernel)
  have w := h.1 (rp2 0x85 []) 0 9 { busy := true, owner := .record 3 0, gen := 3, seq := 5, dest := 1, opcode := 1 } (hold (.record 3 0) { ctx := 0, queue := 0, entry := 0 }) _ (by decide +kernel) rfl
  iterate 6 replace w := w (by decide +kernel)
  replace w := w.2.2.2.2.2 3 0
  iterate 4 replace w := w (by decide +kernel)
  trivial

theorem witness_RepliesEndRequests_2 (h : Obligations.RepliesEndRequests) : True := by
  have w := h.2.1 (rp2 0x81 [1, 2]) opr
  iterate 7 replace w := w (by decide +kernel)
  have w := h.2.2 0 9 (hold .none { ctx := 0, queue := 0, entry := 0 })
  iterate 7 replace w := w (by decide +kernel)
  trivial

theorem witness_FiringsStart (h : Obligations.FiringsStart) : True := by
  have w := h.1 0 0 0 [] ctxF (fireS (trBytes 6 0 0 0) [] {})
  iterate 11 replace w := w (by decide +kernel)
  replace w := w.1
  replace w := w (by decide +kernel)
  have w := h.1 0 0 0 [] { ctxF with p := { ctxF.p with rings := [(2 ^ 48 + a5, 4)] } } { fireS (trBytes 6 0 0 0) [] {} with ctxs := [(0, { ctxF with p := { ctxF.p with rings := [(2 ^ 48 + a5, 4)] } })] }
  iterate 11 replace w := w (by decide +kernel)
  replace w := w.2
  iterate 2 replace w := w (by decide +kernel)
  have w := h.2.1 0 a5 { ctx := 0, queue := 0, entry := 0 } ctxF (trD 0 0) (fireS (trBytes 6 0 0 0) [] { run := some { ctx := 0, queue := 0, entry := 0 } })
  iterate 13 replace w := w (by decide +kernel)
  replace w := w.1
  iterate 2 replace w := w (by decide +kernel)
  have w := h.2.1 0 a5 { ctx := 0, queue := 0, entry := 0 } ctxF (descOf (trBytes 5 (a5 + 64) 0 0)) (fireS (trBytes 5 (a5 + 64) 0 0) [] { run := some { ctx := 0, queue := 0, entry := 0 } })
  iterate 13 replace w := w (by decide +kernel)
  replace w := w.1
  iterate 2 replace w := w (by decide +kernel)
  have w := h.2.1 0 a5 { ctx := 0, queue := 0, entry := 0 } ctxF (descOf (trBytes 13 0 0 0)) (fireS (trBytes 13 0 0 0) [] { run := some { ctx := 0, queue := 0, entry := 0 } })
  iterate 13 replace w := w (by decide +kernel)
  replace w := w.2 ⟨1, .shape, 0⟩
  iterate 9 replace w := w (by decide +kernel)
  have w := h.2.2 0 (fireR .resolve (trBytes 6 0 0 0)) ctxF (trD 0 0) ⟨0, [], 0⟩ (fireS (trBytes 6 0 0 0) [] { run := some (fireR .resolve (trBytes 6 0 0 0)) })
  iterate 13 replace w := w (by decide +kernel)
  trivial

theorem witness_FiringsRun (h : Obligations.FiringsRun) : True := by
  have w := h 0 { fireR .framePass (trBytes 6 0 0 0) with stage := .framePass } (fireS (trBytes 6 0 0 0) [] { run := some (fireR .framePass (trBytes 6 0 0 0)) })
  iterate 3 replace w := w (by decide +kernel)
  replace w := w.1
  iterate 2 replace w := w (by decide +kernel)
  have w := h 0 (fireR .main (trBytes 6 0 0 0)) (fireS (trBytes 6 0 0 0) [] { run := some (fireR .main (trBytes 6 0 0 0)) })
  iterate 3 replace w := w (by decide +kernel)
  replace w := w.2.1 0 0 ctxF (trD 0 0) _ (by decide +kernel) (by decide +kernel) (by decide +kernel) (by decide +kernel) (by decide +kernel) (by decide +kernel) (by decide +kernel) rfl
  replace w := w.1
  iterate 3 replace w := w (by decide +kernel)
  have w := h 0 (fireR .main (trBytes 6 0 0 0)) { fireS (trBytes 6 0 0 0) [] { run := some (fireR .main (trBytes 6 0 0 0)) } with badGranules := [granule (a5 + 0x20000)] }
  iterate 3 replace w := w (by decide +kernel)
  replace w := w.2.1 0 0 ctxF (trD 0 0) _ (by decide +kernel) (by decide +kernel) (by decide +kernel) (by decide +kernel) (by decide +kernel) (by decide +kernel) (by decide +kernel) rfl
  replace w := w.2.2 .memUncorrectable 0 [granule (a5 + 0x20000)]
  replace w := w (by decide +kernel)
  have w := h 0 (fireR .main gaBytes) (fireS gaBytes [] { run := some (fireR .main gaBytes) })
  iterate 3 replace w := w (by decide +kernel)
  replace w := w.2.1 0 0 ctxF (descOf gaBytes) _ (by decide +kernel) (by decide +kernel) (by decide +kernel) (by decide +kernel) (by decide +kernel) (by decide +kernel) (by decide +kernel) rfl
  replace w := w.2.1
  iterate 2 replace w := w (by decide +kernel)
  have w := h 0 { fireR .main (trBytes 6 0 0 0) with unitsDone := [0] } (fireS (trBytes 6 0 0 0) [] { run := some { fireR .main (trBytes 6 0 0 0) with unitsDone := [0] } })
  iterate 3 replace w := w (by decide +kernel)
  replace w := w.2.2 0 (a5 + 0x30000) (a5 + 0x30000) [9#8] ctxF (trD 0 0) (tileOut (trD 0 0) ((fireS (trBytes 6 0 0 0) [] {}).reader (fireR .main (trBytes 6 0 0 0))) (fireR .main (trBytes 6 0 0 0)).env 0)
  iterate 19 replace w := w (by decide +kernel)
  replace w := w (fun b h1 h2 => by have e : b = a5 + 0x30000 := (by simp only [List.length_cons, List.length_nil] at h2; omega); subst e; decide +kernel)
  trivial

theorem witness_FiringsEnd (h : Obligations.FiringsEnd) : True := by
  have w := h 0 50 (fireO .main 0 0 none) ctxF (trD 0 0) (fireE .main 0 0 none []) (fireE .main 0 0 none []).arbGrant
  iterate 10 replace w := w (by decide +kernel)
  replace w := w.1
  iterate 3 replace w := w (by decide +kernel)
  replace w := w.1
  iterate 2 replace w := w (by decide +kernel)
  have w := h 0 50 (fireO .main (a5 + 0x40000) 0 none) ctxF (trD (a5 + 0x40000) 0) (fireE .main (a5 + 0x40000) 0 none []) (fireE .main (a5 + 0x40000) 0 none []).arbGrant
  iterate 10 replace w := w (by decide +kernel)
  replace w := w.1
  iterate 3 replace w := w (by decide +kernel)
  replace w := w.2 (a5 + 0x40000)
  iterate 7 replace w := w (by decide +kernel)
  have w := h 0 50 (fireO .main 0 sg2 none) ctxF (trD 0 sg2) { fireE .main 0 sg2 none [] with ctxs := [(0, ctxF), (1, { ctx7 with p := { ctx7.p with partition := 1, slotCount := 0 } })] } ({ fireE .main 0 sg2 none [] with ctxs := [(0, ctxF), (1, { ctx7 with p := { ctx7.p with partition := 1, slotCount := 0 } })] } : State).arbGrant
  iterate 10 replace w := w (by decide +kernel)
  replace w := w.2.1 2 5 (1, { ctx7 with p := { ctx7.p with partition := 1, slotCount := 0 } })
  iterate 8 replace w := w (by decide +kernel)
  have w := h 0 50 (fireO .main 0 0 (some { status := .access })) ctxF (trD 0 0) (fireE .main 0 0 (some { status := .access }) []) (fireE .main 0 0 (some { status := .access }) []).arbGrant
  iterate 10 replace w := w (by decide +kernel)
  replace w := w.2.2.1 { status := .access }
  iterate 8 replace w := w (by decide +kernel)
  have w := h 0 50 (fireO .main 0 0 none) ctxF (trD 0 0) (fireE .main 0 0 none []) (fireE .main 0 0 none []).arbGrant
  iterate 10 replace w := w (by decide +kernel)
  replace w := w.2.2.2
  iterate 10 replace w := w (by decide +kernel)
  have w := h 0 50 (fireO .main 0 0 (some { status := .access })) ctxF (trD 0 0) (fireE .main 0 0 (some { status := .access }) []) (fireE .main 0 0 (some { status := .access }) []).arbGrant
  iterate 10 replace w := w (by decide +kernel)
  replace w := w.2.2.2
  iterate 10 replace w := w (by decide +kernel)
  trivial

theorem witness_LossesOfComputeUnits (h : Obligations.LossesOfComputeUnits) : True := by
  have w := h.1 0 5 (kilS []) (kilS []).arbGrant
  iterate 3 replace w := w (by decide +kernel)
  replace w := w.1 3 65
  iterate 3 replace w := w (by decide +kernel)
  have w := h.1 3 161 { kilS [] with residue := [(3, 161, 3, 60)] } ({ kilS [] with residue := [(3, 161, 3, 60)] } : State).arbGrant
  iterate 3 replace w := w (by decide +kernel)
  replace w := w.2.1 3 60
  iterate 3 replace w := w (by decide +kernel)
  replace w := w [60]
  iterate 6 replace w := w (by decide +kernel)
  have w := h.1 0 5 { kilS [] with residue := [(0, 5, 1, 7)], badCols := [(engIndex 0 5 1, [9])] } ({ kilS [] with residue := [(0, 5, 1, 7)], badCols := [(engIndex 0 5 1, [9])] } : State).arbGrant
  iterate 3 replace w := w (by decide +kernel)
  replace w := w.2.1 1 7
  iterate 3 replace w := w (by decide +kernel)
  replace w := w [9, 7]
  iterate 6 replace w := w (by decide +kernel)
  have w := h.1 0 5 { fireE .main 0 0 none [] with phase := .up } (fireE .main 0 0 none []).arbGrant
  iterate 3 replace w := w (by decide +kernel)
  replace w := w.2.2.1 3 (fireO .main 0 0 none)
  iterate 4 replace w := w (by decide +kernel)
  have w := h.1 0 5 { kilS [] with storeDue := [(0, 5)] } ({ kilS [] with storeDue := [(0, 5)] } : State).arbGrant
  iterate 3 replace w := w (by decide +kernel)
  replace w := w.2.2.2
  replace w := w (by decide +kernel)
  have w := h.2.1 0 5 2 7 0 (kilS [(Reg.kilCoreHealthRole 0 6, 1), (Reg.kilClusterMapClusters 0, 0)])
  iterate 10 replace w := w (by decide +kernel)
  replace w := w.1 6
  iterate 3 replace w := w (by decide +kernel)
  trivial

theorem witness_LossesOfComputeUnits_2 (h : Obligations.LossesOfComputeUnits) : True := by
  have w := h.2.1 0 5 5 7 0 (kilS [])
  iterate 10 replace w := w (by decide +kernel)
  replace w := w.2
  replace w := w (by decide +kernel)
  have w := h.2.2 3 ins
  iterate 2 replace w := w (by decide +kernel)
  replace w := w.1 4
  iterate 4 replace w := w (by decide +kernel)
  have w := h.2.2 0 ins
  iterate 2 replace w := w (by decide +kernel)
  replace w := w.1 1
  iterate 4 replace w := w (by decide +kernel)
  have w := h.2.2 3 ins
  iterate 2 replace w := w (by decide +kernel)
  replace w := w.2.1 2
  iterate 2 replace w := w (by decide +kernel)
  have w := h.2.2 0 { ins with badCols := [(engIndex 0 5 1, [9])], resetReqs := [{ level := 1, target := engIndex 0 5 1, cause := 4 }] }
  iterate 2 replace w := w (by decide +kernel)
  replace w := w.2.2.1 5 1 9 65
  iterate 9 replace w := w (by decide +kernel)
  have w := h.2.2 3 ins
  iterate 2 replace w := w (by decide +kernel)
  replace w := w.2.2.2.1 8
  iterate 4 replace w := w (by decide +kernel)
  trivial

theorem witness_LossesOfComputeUnits_3 (h : Obligations.LossesOfComputeUnits) : True := by
  have w := h.2.2 0 ins
  iterate 2 replace w := w (by decide +kernel)
  replace w := w.2.2.2.2.1
  iterate 2 replace w := w (by decide +kernel)
  have w := h.2.2 0 { wth opr q0 with ctxs := [(0, ctxF)] }
  iterate 2 replace w := w (by decide +kernel)
  replace w := w.2.2.2.2.2 0 161 ctxF
  iterate 11 replace w := w (by decide +kernel)
  trivial

theorem witness_FiringIsReplayedAtMostFourTimes (h : Obligations.FiringIsReplayedAtMostFourTimes) : True := by
  have w := h 0 { fireO .main 0 0 none with replays := 4 } (fireS (trBytes 6 0 0 0) [] { run := some { fireO .main 0 0 none with replays := 4 } })
  iterate 2 replace w := w (by decide +kernel)
  replace w := w.2.1
  iterate 3 replace w := w (by decide +kernel)
  have w := h 0 { fireR .main (trBytes 6 0 0 0) with replays := 3 } (fireS (trBytes 6 0 0 0) [] { run := some { fireR .main (trBytes 6 0 0 0) with replays := 3 } })
  iterate 2 replace w := w (by decide +kernel)
  replace w := w.1
  have w := h 0 { fireR .main (trBytes 6 0 0 0) with replays := 3 } (fireS (trBytes 6 0 0 0) [] { run := some { fireR .main (trBytes 6 0 0 0) with replays := 3 } })
  iterate 2 replace w := w (by decide +kernel)
  replace w := w.2.2
  iterate 5 replace w := w (by decide +kernel)
  have w := h 0 (fireR .framePass (trBytes 6 0 0 0)) (fireS (trBytes 6 0 0 0) [] { run := some (fireR .framePass (trBytes 6 0 0 0)) })
  iterate 2 replace w := w (by decide +kernel)
  replace w := w.2.2
  iterate 5 replace w := w (by decide +kernel)
  trivial

theorem witness_RecorderTakesEvents (h : Obligations.RecorderTakesEvents) : True := by
  have w := h.1 (evA 1 3) [evA 2 4] [evA 3 3] 1 { ins with evq := [[evA 1 3, evA 2 4], [evA 3 3]] }
  iterate 7 replace w := w (by decide +kernel)
  replace w := w.1
  iterate 2 replace w := w (by decide +kernel)
  have w := h.1 (evA 1 3) [] [] 2 { (wth ins [(Reg.evrCountLoN, 1)]) with evq := [[evA 1 3], []], recs := [(0, { ev := evA 1 2, seq := 1, writer := 0, gap := false })] }
  iterate 7 replace w := w (by decide +kernel)
  replace w := w.2 0 { ev := evA 1 2, seq := 1, writer := 0, gap := false }
  iterate 2 replace w := w (by decide +kernel)
  have w := h.2 65535 7 ins
  iterate 4 replace w := w (by decide +kernel)
  replace w := w.1
  have w := h.2 65535 7 ins
  iterate 4 replace w := w (by decide +kernel)
  replace w := w.2
  replace w := w (by decide +kernel)
  trivial

theorem witness_ResetsAreAskedFor (h : Obligations.ResetsAreAskedFor) : True := by
  have w := h.1 org (opr0 [(Reg.glbLicencesBase, 1), (Reg.glbLicencesTenancy, 1)]) (opr0 [(Reg.glbLicencesBase, 1), (Reg.glbLicencesTenancy, 1)]).arbGrant
  iterate 4 replace w := w (by decide +kernel)
  replace w := w.1 3
  iterate 4 replace w := w (by decide +kernel)
  have w := h.1 org (opr0 []) (opr0 []).arbGrant
  iterate 4 replace w := w (by decide +kernel)
  replace w := w.1 0
  iterate 4 replace w := w (by decide +kernel)
  have w := h.1 org ins ins.arbGrant
  iterate 4 replace w := w (by decide +kernel)
  replace w := w.2 4 0
  iterate 4 replace w := w (by decide +kernel)
  have w := h.1 org ins ins.arbGrant
  iterate 4 replace w := w (by decide +kernel)
  replace w := w.2 6 0
  iterate 4 replace w := w (by decide +kernel)
  have w := h.1 org (opr0 []) (opr0 []).arbGrant
  iterate 4 replace w := w (by decide +kernel)
  replace w := w.2 4 0
  iterate 4 replace w := w (by decide +kernel)
  have w := h.2 req ins ins.arbGrant
  iterate 3 replace w := w (by decide +kernel)
  replace w := w.1 0
  iterate 2 replace w := w (by decide +kernel)
  trivial

theorem witness_ResetsAreAskedFor_2 (h : Obligations.ResetsAreAskedFor) : True := by
  have w := h.2 req ins ins.arbGrant
  iterate 3 replace w := w (by decide +kernel)
  replace w := w.2.1
  have w := h.2 req ins ins.arbGrant
  iterate 3 replace w := w (by decide +kernel)
  replace w := w.2.2.1
  have w := h.2 req (wth ins [(Reg.rstFaultContextValid, 1)]) (wth ins [(Reg.rstFaultContextValid, 1)]).arbGrant
  iterate 3 replace w := w (by decide +kernel)
  replace w := w.2.2.2
  trivial

theorem witness_ResetsBegin (h : Obligations.ResetsBegin) : True := by
  have w := h.1 (rq1 5 0) { ins with resetReqs := [rq1 5 0] }
  iterate 4 replace w := w (by decide +kernel)
  replace w := w.1
  iterate 5 replace w := w (by decide +kernel)
  have w := h.1 (rq1 4 1) { ins with resetReqs := [rq1 4 1] }
  iterate 4 replace w := w (by decide +kernel)
  replace w := w.1
  iterate 5 replace w := w (by decide +kernel)
  have w := h.1 (rq1 4 4) { ins with resetReqs := [rq1 4 4] }
  iterate 4 replace w := w (by decide +kernel)
  replace w := w.1
  iterate 5 replace w := w (by decide +kernel)
  have w := h.1 (rq1 3 35) { ins with resetReqs := [rq1 3 35] }
  iterate 4 replace w := w (by decide +kernel)
  replace w := w.1
  iterate 5 replace w := w (by decide +kernel)
  have w := h.1 (rq1 2 647) { ins with resetReqs := [rq1 2 647] }
  iterate 4 replace w := w (by decide +kernel)
  replace w := w.1
  iterate 5 replace w := w (by decide +kernel)
  have w := h.1 (rq1 1 2591) { ins with resetReqs := [rq1 1 2591] }
  iterate 4 replace w := w (by decide +kernel)
  replace w := w.1
  iterate 5 replace w := w (by decide +kernel)
  trivial

theorem witness_ResetsBegin_2 (h : Obligations.ResetsBegin) : True := by
  have w := h.1 (rq1 6 0) { ins with resetReqs := [rq1 6 0] }
  iterate 4 replace w := w (by decide +kernel)
  replace w := w.2
  iterate 2 replace w := w (by decide +kernel)
  have w := h.2 (rstR 5 0) 5 0 (rstS 5 0 id)
  iterate 4 replace w := w (by decide +kernel)
  replace w := w.1
  iterate 5 replace w := w (by decide +kernel)
  have w := h.2 (rstR 4 3) 4 3 { rstS 4 3 id with reqSlots := [(9, { busy := true, owner := .tile 1 2 3 4, gen := 3, seq := 5, dest := 1, opcode := 1 })] }
  iterate 4 replace w := w (by decide +kernel)
  replace w := w.1
  iterate 5 replace w := w (by decide +kernel)
  have w := h.2 { rstR 4 3 with slot := some 7, head := List.replicate 64 7#8, image := [(4096, List.replicate 16 3#8)] } 4 3 (rstS 4 3 fun r => { r with slot := some 7, head := List.replicate 64 7#8, image := [(4096, List.replicate 16 3#8)] })
  iterate 4 replace w := w (by decide +kernel)
  replace w := w.2 7
  iterate 5 replace w := w (by decide +kernel)
  trivial

theorem witness_ResetsEndAndLadderClimbs (h : Obligations.ResetsEndAndLadderClimbs) : True := by
  have w := h.1 { rstR 4 1 with snapDone := true, drained := true } 4 1 (rstS 4 1 fun r => { r with snapDone := true, drained := true })
  iterate 4 replace w := w (by decide +kernel)
  replace w := w.1
  iterate 3 replace w := w (by decide +kernel)
  have w := h.1 { rstR 5 0 with snapDone := true, drained := true } 5 0 (rstS 5 0 fun r => { r with snapDone := true, drained := true })
  iterate 4 replace w := w (by decide +kernel)
  replace w := w.1
  iterate 3 replace w := w (by decide +kernel)
  have w := h.1 { rstR 4 1 with asserted := true } 4 1 (rstS 4 1 fun r => { r with asserted := true })
  iterate 4 replace w := w (by decide +kernel)
  replace w := w.2.1
  iterate 3 replace w := w (by decide +kernel)
  have w := h.1 { rstR 4 1 with asserted := true, checked := true, replies := [org] } 4 1 { (rstS 4 1 fun r => { r with asserted := true, checked := true, replies := [org] }) with inProg := [⟨org, 0x62, none⟩] }
  iterate 4 replace w := w (by decide +kernel)
  replace w := w.2.2.1 9 org 0x62
  iterate 4 replace w := w (by decide +kernel)
  have w := h.1 { rstR 2 100 with snapDone := true } 2 100 (rstS 2 100 fun r => { r with snapDone := true })
  iterate 4 replace w := w (by decide +kernel)
  replace w := w.2.2.2
  iterate 4 replace w := w (by decide +kernel)
  have w := h.2.1 0 2 7 0 5 3 ctxF { ins with ctxs := [(0, ctxF)], ladder := [(0, 2, 7)] }
  iterate 5 replace w := w (by decide +kernel)
  trivial

theorem witness_ResetsEndAndLadderClimbs_2 (h : Obligations.ResetsEndAndLadderClimbs) : True := by
  have w := h.2.2.1 (rstR 4 2) 2 (rstS 4 2 id)
  iterate 7 replace w := w (by decide +kernel)
  have w := h.2.2.2 { ins with ladder := [(0, 2, 7), (5, 1, 1)] }
  replace w := w (by decide +kernel)
  replace w := w.1 5
  have w := h.2.2.2 { ins with isolating := [(0, 2, 7), (1, 1, 1)] }
  replace w := w (by decide +kernel)
  replace w := w.2 1 1
  trivial

theorem witness_ControlUnitsFail (h : Obligations.ControlUnitsFail) : True := by
  have w := h.1 ⟨1, 1, 1, 4, 0⟩ { cuS 1 2 [] with ctl := { (cuS 1 2 []).ctl with hold := some ⟨1, 1, 1, 4, 0⟩ } }
  iterate 5 replace w := w (by decide +kernel)
  replace w := w.1
  iterate 3 replace w := w (by decide +kernel)
  have w := h.1 ⟨1, 2, 1, 4, 0⟩ { cuS 1 2 [] with ctl := { (cuS 1 2 []).ctl with hold := some ⟨1, 2, 1, 4, 0⟩ } }
  iterate 5 replace w := w (by decide +kernel)
  replace w := w.1
  iterate 3 replace w := w (by decide +kernel)
  have w := h.1 ⟨1, 5, 1, 4, 0⟩ { cuS 1 2 [] with ctl := { (cuS 1 2 []).ctl with hold := some ⟨1, 5, 1, 4, 0⟩ } }
  iterate 5 replace w := w (by decide +kernel)
  replace w := w.1
  iterate 3 replace w := w (by decide +kernel)
  have w := h.1 ⟨1, 5, 1, 4, 0⟩ { cuS 1 2 [] with ctl := { (cuS 1 2 []).ctl with hold := some ⟨1, 5, 1, 4, 0⟩ } }
  iterate 5 replace w := w (by decide +kernel)
  replace w := w.2 0 1
  iterate 3 replace w := w (by decide +kernel)
  have w := h.2 0 (cuS 1 2 []) (cuS 1 2 []).arbGrant
  iterate 4 replace w := w (by decide +kernel)
  replace w := w.1 65537
  replace w := w (by decide +kernel)
  have w := h.2 0 (cuS 1 2 [(Reg.ctlUnitInfoFails 0, 2)]) (cuS 1 2 [(Reg.ctlUnitInfoFails 0, 2)]).arbGrant
  iterate 4 replace w := w (by decide +kernel)
  replace w := w.2.1
  iterate 3 replace w := w (by decide +kernel)
  replace w := w.1
  replace w := w (by decide +kernel)
  trivial

theorem witness_ControlUnitsFail_2 (h : Obligations.ControlUnitsFail) : True := by
  have w := h.2 1 (cuS 2 1 []) (cuS 2 1 []).arbGrant
  iterate 4 replace w := w (by decide +kernel)
  replace w := w.2.1
  iterate 3 replace w := w (by decide +kernel)
  replace w := w.2.1 1
  replace w := w (by decide +kernel)
  have w := h.2 0 (cuS 1 2 []) (cuS 1 2 []).arbGrant
  iterate 4 replace w := w (by decide +kernel)
  replace w := w.2.1
  iterate 3 replace w := w (by decide +kernel)
  replace w := w.2.2.1
  replace w := w (by decide +kernel)
  have w := h.2 0 (cuS 1 2 []) (cuS 1 2 []).arbGrant
  iterate 4 replace w := w (by decide +kernel)
  replace w := w.2.1
  iterate 3 replace w := w (by decide +kernel)
  replace w := w.2.2.2
  have w := h.2 0 (cuS 1 5 []) (cuS 1 5 []).arbGrant
  iterate 4 replace w := w (by decide +kernel)
  replace w := w.2.1
  iterate 3 replace w := w (by decide +kernel)
  replace w := w.2.2.2
  have w := h.2 0 (cuS 1 3 []) (cuS 1 3 []).arbGrant
  iterate 4 replace w := w (by decide +kernel)
  replace w := w.2.2.1
  iterate 3 replace w := w (by decide +kernel)
  replace w := w.1
  replace w := w (by decide +kernel)
  have w := h.2 0 (cuS 1 3 [(Reg.rstCtrlMaxLevel, 4)]) (cuS 1 3 [(Reg.rstCtrlMaxLevel, 4)]).arbGrant
  iterate 4 replace w := w (by decide +kernel)
  replace w := w.2.2.1
  iterate 3 replace w := w (by decide +kernel)
  replace w := w.1
  replace w := w (by decide +kernel)
  trivial

theorem witness_ControlUnitsFail_3 (h : Obligations.ControlUnitsFail) : True := by
  have w := h.2 1 (cuS 3 1 []) (cuS 3 1 []).arbGrant
  iterate 4 replace w := w (by decide +kernel)
  replace w := w.2.2.1
  iterate 3 replace w := w (by decide +kernel)
  replace w := w.2.1
  have w := h.2 1 (cuS 3 1 []) (cuS 3 1 []).arbGrant
  iterate 4 replace w := w (by decide +kernel)
  replace w := w.2.2.1
  iterate 3 replace w := w (by decide +kernel)
  replace w := w.2.2 0
  replace w := w (by decide +kernel)
  have w := h.2 0 (cuS 1 2 [(Reg.ctlStatusLeaseLate, 1)]) (cuS 1 2 [(Reg.ctlStatusLeaseLate, 1)]).arbGrant
  iterate 4 replace w := w (by decide +kernel)
  replace w := w.2.2.2.1
  replace w := w (by decide +kernel)
  have w := h.2 0 (cuS 1 2 []) (cuS 1 2 []).arbGrant
  iterate 4 replace w := w (by decide +kernel)
  replace w := w.2.2.2.1
  replace w := w (by decide +kernel)
  have w := h.2 1 (cuS 1 2 [(Reg.ctlJournalDepth, 3)]) (cuS 1 2 [(Reg.ctlJournalDepth, 3)]).arbGrant
  iterate 4 replace w := w (by decide +kernel)
  replace w := w.2.2.2.2
  iterate 2 replace w := w (by decide +kernel)
  replace w := w.1
  replace w := w (by decide +kernel)
  have w := h.2 1 (cuS 1 2 [(Reg.ctlJournalDepth, 3)]) (cuS 1 2 [(Reg.ctlJournalDepth, 3)]).arbGrant
  iterate 4 replace w := w (by decide +kernel)
  replace w := w.2.2.2.2
  iterate 2 replace w := w (by decide +kernel)
  replace w := w.2.2.1
  trivial

theorem witness_ControlUnitsFail_4 (h : Obligations.ControlUnitsFail) : True := by
  have w := h.2 1 (cuS 1 2 [(Reg.ctlJournalDepth, 3)]) (cuS 1 2 [(Reg.ctlJournalDepth, 3)]).arbGrant
  iterate 4 replace w := w (by decide +kernel)
  replace w := w.2.2.2.2
  iterate 2 replace w := w (by decide +kernel)
  replace w := w.2.2.2
  have w := h.2 1 (cuS 1 2 [(Reg.ctlJournalDepth, 3)]) (cuS 1 2 [(Reg.ctlJournalDepth, 3)]).arbGrant
  iterate 4 replace w := w (by decide +kernel)
  replace w := w.2.2.2.2
  iterate 2 replace w := w (by decide +kernel)
  replace w := w.2.1
  have w := h.2 0 (cuS 2 1 [(Reg.ctlUnitInfoFails 0, 2)]) (cuS 2 1 [(Reg.ctlUnitInfoFails 0, 2)]).arbGrant
  iterate 4 replace w := w (by decide +kernel)
  replace w := w.2.2.2.2
  iterate 2 replace w := w (by decide +kernel)
  replace w := w.2.2.2
  trivial

theorem witness_UnitsReturnAndSwap (h : Obligations.UnitsReturnAndSwap) : True := by
  have w := h.1 1 (cuS 1 3 []) (cuS 1 3 []).arbGrant
  iterate 4 replace w := w (by decide +kernel)
  replace w := w.1 req
  iterate 2 replace w := w (by decide +kernel)
  have w := h.1 1 (cuS 1 3 []) (cuS 1 3 []).arbGrant
  iterate 4 replace w := w (by decide +kernel)
  replace w := w.2.1
  iterate 2 replace w := w (by decide +kernel)
  have w := h.1 1 (cuS 1 4 []) (cuS 1 4 []).arbGrant
  iterate 4 replace w := w (by decide +kernel)
  replace w := w.2.2.1
  iterate 2 replace w := w (by decide +kernel)
  replace w := w.1
  have w := h.1 1 (let s := cuS 1 4 []; s.setCu 1 { swapped := true }) (let s := cuS 1 4 []; s.setCu 1 { swapped := true }).arbGrant
  iterate 4 replace w := w (by decide +kernel)
  replace w := w.2.2.1
  iterate 2 replace w := w (by decide +kernel)
  replace w := w.1
  have w := h.1 1 (cuS 1 4 []) (cuS 1 4 []).arbGrant
  iterate 4 replace w := w (by decide +kernel)
  replace w := w.2.2.1
  iterate 2 replace w := w (by decide +kernel)
  replace w := w.2 65535
  iterate 2 replace w := w (by decide +kernel)
  have w := h.1 1 (let s := cuS 1 4 []; s.setCu 1 { copying := true }) (let s := cuS 1 4 []; s.setCu 1 { copying := true }).arbGrant
  iterate 4 replace w := w (by decide +kernel)
  replace w := w.2.2.2.1
  iterate 2 replace w := w (by decide +kernel)
  trivial

theorem witness_UnitsReturnAndSwap_2 (h : Obligations.UnitsReturnAndSwap) : True := by
  have w := h.1 1 (cuS 1 5 []) (cuS 1 5 []).arbGrant
  iterate 4 replace w := w (by decide +kernel)
  replace w := w.2.2.2.2 900
  replace w := w (by decide +kernel)
  replace w := w.1
  replace w := w (by decide +kernel)
  have w := h.1 0 (let s := cuS 5 1 []; { s with ctl := { s.ctl with gained := 4 } }) (let s := cuS 5 1 []; { s with ctl := { s.ctl with gained := 4 } } : State).arbGrant
  iterate 4 replace w := w (by decide +kernel)
  replace w := w.2.2.2.2 900
  replace w := w (by decide +kernel)
  replace w := w.2
  iterate 3 replace w := w (by decide +kernel)
  have w := h.2.1 1 (cuS 1 2 [(Reg.ctlSwapEnable, 1)]) (cuS 1 2 [(Reg.ctlSwapEnable, 1)]).arbGrant
  iterate 4 replace w := w (by decide +kernel)
  replace w := w.1
  iterate 2 replace w := w (by decide +kernel)
  have w := h.2.1 1 (let s := cuS 1 2 [(Reg.ctlSwapEnable, 1)]; { s with ctl := { s.ctl with swapWait := some 0 } }) (let s := cuS 1 2 [(Reg.ctlSwapEnable, 1)]; { s with ctl := { s.ctl with swapWait := some 0 } } : State).arbGrant
  iterate 4 replace w := w (by decide +kernel)
  replace w := w.2.1 0
  iterate 2 replace w := w (by decide +kernel)
  replace w := w.1
  replace w := w (by decide +kernel)
  have w := h.2.1 1 (let s := cuS 1 2 [(Reg.ctlSwapEnable, 1)]; { s with ctl := { s.ctl with swapWait := some 0 } }) (let s := cuS 1 2 [(Reg.ctlSwapEnable, 1)]; { s with ctl := { s.ctl with swapWait := some 0 } } : State).arbGrant
  iterate 4 replace w := w (by decide +kernel)
  replace w := w.2.1 0
  iterate 2 replace w := w (by decide +kernel)
  replace w := w.2
  replace w := w (by decide +kernel)
  have w := h.2.1 0 (cuS 2 1 []) (cuS 2 1 []).arbGrant
  iterate 4 replace w := w (by decide +kernel)
  replace w := w.2.2 req
  replace w := w (by decide +kernel)
  trivial

theorem witness_UnitsReturnAndSwap_3 (h : Obligations.UnitsReturnAndSwap) : True := by
  have w := h.2.2.1 req true ins
  iterate 3 replace w := w (by decide +kernel)
  have w := h.2.2.2 3 (kilS [(Reg.rstSpareTestEnable, 1), (Reg.kilCoreHealthRole 3 161, 1)])
  iterate 3 replace w := w (by decide +kernel)
  replace w := w.1 161
  iterate 5 replace w := w (by decide +kernel)
  have w := h.2.2.2 0 (kilS [(Reg.rstSpareTestDieCurrent 0, 161), (Reg.kilCoreHealthRole 0 161, 2)])
  iterate 3 replace w := w (by decide +kernel)
  replace w := w.2 161
  iterate 4 replace w := w (by decide +kernel)
  replace w := w.1
  have w := h.2.2.2 0 (kilS [(Reg.rstSpareTestDieCurrent 0, 161), (Reg.kilCoreHealthRole 0 161, 2)])
  iterate 3 replace w := w (by decide +kernel)
  replace w := w.2 161
  iterate 4 replace w := w (by decide +kernel)
  replace w := w.2 5
  iterate 3 replace w := w (by decide +kernel)
  trivial

theorem witness_PowerAndRecords (h : Obligations.PowerAndRecords) : True := by
  have w := h.1 63 { State.reset with phase := .off, pins := { State.reset.pins with trayRstN := false }, nvm := { State.reset.nvm with optime := 99, cycles := 16777215 } }
  iterate 3 replace w := w (by decide +kernel)
  have w := h.2 { own with audit := own.audit }
  replace w := w (by decide +kernel)
  replace w := w.1
  have w := h.2 { own with mem := [(5, 5#8)] }
  replace w := w (by decide +kernel)
  replace w := w.2.1
  have w := h.2 { own with mem := [(5, 5#8)] }
  replace w := w (by decide +kernel)
  replace w := w.2.2.1
  replace w := w (by decide +kernel)
  replace w := w 300
  have w := h.2 { own with mem := [(5, 5#8)] }
  replace w := w (by decide +kernel)
  replace w := w.2.2.2.1
  have w := h.2 own
  replace w := w (by decide +kernel)
  replace w := w.2.2.2.2.1
  replace w := w (by decide +kernel)
  trivial

theorem witness_PowerAndRecords_2 (h : Obligations.PowerAndRecords) : True := by
  have w := h.2 { own with nvmq := [.counters 7 8 9 0] }
  replace w := w (by decide +kernel)
  replace w := w.2.2.2.2.2 10 (.counters 7 8 9 0)
  iterate 3 replace w := w (by decide +kernel)
  replace w := w.1
  have w := h.2 { own with nvmq := [.ash [5]] }
  replace w := w (by decide +kernel)
  replace w := w.2.2.2.2.2 4 (.ash [5])
  iterate 3 replace w := w (by decide +kernel)
  replace w := w.1
  have w := h.2 { own with nvmq := [.ash [5]] }
  replace w := w (by decide +kernel)
  replace w := w.2.2.2.2.2 4 (.ash [5])
  iterate 3 replace w := w (by decide +kernel)
  replace w := w.2
  replace w := w (by decide +kernel)
  have w := h.2 { own with nvmq := [.lanes [(5, 0, [])]] }
  replace w := w (by decide +kernel)
  replace w := w.2.2.2.2.2 11 (.lanes [(5, 0, [])])
  iterate 3 replace w := w (by decide +kernel)
  replace w := w.1
  have w := h.2 { own with nvmq := [.licences []] }
  replace w := w (by decide +kernel)
  replace w := w.2.2.2.2.2 5 (.licences [])
  iterate 3 replace w := w (by decide +kernel)
  replace w := w.2
  replace w := w (by decide +kernel)
  have w := h.2 { own with nvmq := [.keys [] 3] }
  replace w := w (by decide +kernel)
  replace w := w.2.2.2.2.2 8 (.keys [] 3)
  iterate 3 replace w := w (by decide +kernel)
  replace w := w.2
  replace w := w (by decide +kernel)
  trivial

theorem witness_PowerAndRecords_3 (h : Obligations.PowerAndRecords) : True := by
  have w := h.2 { own with nvmq := [.keys [] 3] }
  replace w := w (by decide +kernel)
  replace w := w.2.2.2.2.2 8 (.keys [] 3)
  iterate 3 replace w := w (by decide +kernel)
  replace w := w.1
  have w := h.2 { own with nvmq := [.training] }
  replace w := w (by decide +kernel)
  replace w := w.2.2.2.2.2 12 .training
  iterate 3 replace w := w (by decide +kernel)
  replace w := w.1
  have w := h.2 { own with nvmq := [.plan ⟨1, 2, 3, 4, 5⟩] }
  replace w := w (by decide +kernel)
  replace w := w.2.2.2.2.2 6 (.plan ⟨1, 2, 3, 4, 5⟩)
  iterate 3 replace w := w (by decide +kernel)
  replace w := w.1
  trivial

theorem witness_StartSteps (h : Obligations.StartSteps) : True := by
  have w := h { ms := 5 } 1 (stepS 1)
  iterate 6 replace w := w (by decide +kernel)
  replace w := w.2.2
  replace w := w (by decide +kernel)
  replace w := w.1
  iterate 2 replace w := w (by decide +kernel)
  have w := h { ms := 5, ok := false } 1 (stepS 1)
  iterate 6 replace w := w (by decide +kernel)
  replace w := w.2.2
  replace w := w (by decide +kernel)
  replace w := w.2.1
  iterate 2 replace w := w (by decide +kernel)
  have w := h { ms := 5, licencesOk := [3, 4] } 4 { stepS 4 with nvm := { (stepS 4).nvm with licences := [(3, ⟨slice (natLe 4 0x4C494345 ++ natLe 2 1 ++ natLe 2 7) 0 128⟩), (5, ⟨slice (natLe 4 0x4C494345 ++ natLe 2 1 ++ natLe 2 8) 0 128⟩)] } }
  iterate 6 replace w := w (by decide +kernel)
  replace w := w.2.2
  replace w := w (by decide +kernel)
  replace w := w.2.2.1
  replace w := w (by decide +kernel)
  have w := h { ms := 5, licencesOk := [3, 4] } 4 (stepS 4)
  iterate 6 replace w := w (by decide +kernel)
  replace w := w.2.2
  replace w := w (by decide +kernel)
  replace w := w.2.2.1
  replace w := w (by decide +kernel)
  have w := h { ms := 5 } 8 (stepS 8)
  iterate 6 replace w := w (by decide +kernel)
  replace w := w.2.2
  replace w := w (by decide +kernel)
  replace w := w.2.2.2.1
  replace w := w (by decide +kernel)
  have w := h { ms := 5, haltHeld := true } 6 (wth (stepS 6) [(Reg.pwrStatusHaltTemp, 1)])
  iterate 6 replace w := w (by decide +kernel)
  replace w := w.1
  iterate 2 replace w := w (by decide +kernel)
  trivial

theorem witness_StartSteps_2 (h : Obligations.StartSteps) : True := by
  have w := h { ms := 5 } 6 (wth (stepS 6) [(Reg.pwrStatusHaltTemp, 1)])
  iterate 6 replace w := w (by decide +kernel)
  replace w := w.2.1
  iterate 4 replace w := w (by decide +kernel)
  have w := h { ms := 5 } 9 (stepS 9)
  iterate 6 replace w := w (by decide +kernel)
  replace w := w.2.2
  replace w := w (by decide +kernel)
  replace w := w.2.2.2.2
  replace w := w (by decide +kernel)
  trivial

theorem witness_InstallerCommands (h : Obligations.InstallerCommands) : True := by
  have w := h req (wth ins [(Reg.lanDiscStatusProvisional, 0), (Reg.glbModuleIdValid, 1)]) (wth ins [(Reg.lanDiscStatusProvisional, 0), (Reg.glbModuleIdValid, 1)]).arbGrant
  iterate 3 replace w := w (by decide +kernel)
  replace w := w.1 { rack := 0, slot := 0, none := 5, root := 1, backup := 2 }
  iterate 8 replace w := w (by decide +kernel)
  replace w := w.2
  iterate 2 replace w := w (by decide +kernel)
  have w := h req ins ins.arbGrant
  iterate 3 replace w := w (by decide +kernel)
  replace w := w.1 { rack := 1, slot := 0, none := 0, root := 1, backup := 2 }
  iterate 8 replace w := w (by decide +kernel)
  replace w := w.1 (Or.inr (by decide +kernel))
  have w := h req (wth ins [(Reg.glbSlotSlotId, 63), (Reg.lanDiscStatusProvisional, 1)]) (wth ins [(Reg.glbSlotSlotId, 63), (Reg.lanDiscStatusProvisional, 1)]).arbGrant
  iterate 3 replace w := w (by decide +kernel)
  replace w := w.1 { rack := 1023, slot := 63, none := 0xFC0, root := 1, backup := 2 }
  iterate 8 replace w := w (by decide +kernel)
  replace w := w.1 (Or.inl (by decide +kernel))
  have w := h req ins ins.arbGrant
  iterate 3 replace w := w (by decide +kernel)
  replace w := w.2.1 { macs := [], ipv6 := [], ipv4 := [] }
  have w := h req ins ins.arbGrant
  iterate 3 replace w := w (by decide +kernel)
  replace w := w.2.2.1 (2 ^ 31 + 5 * 2 ^ 24 + 767 * 2 ^ 10) 5 0 767 0 0 [ashEntry 5 8 0 1 767 0 0] (ashEntry 5 8 0 1 767 0 0)
  iterate 5 replace w := w (by decide +kernel)
  have w := h req ins ins.arbGrant
  iterate 3 replace w := w (by decide +kernel)
  replace w := w.2.2.1 (2 ^ 31 + 1 * 2 ^ 24 + 3 * 2 ^ 20 + 161 * 2 ^ 10 + 65) 1 3 161 0 65 [ashEntry 1 8 3 1 161 0 65] (ashEntry 1 8 3 1 161 0 65)
  iterate 5 replace w := w (by decide +kernel)
  trivial

theorem witness_InstallerCommands_2 (h : Obligations.InstallerCommands) : True := by
  have w := h req { ins with nvmq := [.training], nvm := { ins.nvm with training := true } } ({ ins with nvmq := [.training], nvm := { ins.nvm with training := true } } : State).arbGrant
  iterate 3 replace w := w (by decide +kernel)
  replace w := w.2.2.2.1
  have w := h req { ins with nvmq := [.training] } ({ ins with nvmq := [.training] } : State).arbGrant
  iterate 3 replace w := w (by decide +kernel)
  replace w := w.2.2.2.2.1
  replace w := w (by decide +kernel)
  replace w := w.1 (Or.inr (by decide +kernel))
  have w := h req warmS warmS.arbGrant
  iterate 3 replace w := w (by decide +kernel)
  replace w := w.2.2.2.2.1
  replace w := w (by decide +kernel)
  replace w := w.2 inv_warmS
  iterate 2 replace w := w (by decide +kernel)
  have w := h req (wth ins [(Reg.memStatusShortSeam, 1)]) (wth ins [(Reg.memStatusShortSeam, 1)]).arbGrant
  iterate 3 replace w := w (by decide +kernel)
  replace w := w.2.2.2.2.2
  iterate 2 replace w := w (by decide +kernel)
  trivial

theorem witness_KeysLicencesAndMonitors (h : Obligations.KeysLicencesAndMonitors) : True := by
  have w := h.1.1 req (licS []) (licS []).arbGrant
  iterate 4 replace w := w (by decide +kernel)
  replace w := w.1 (licS []).licBuf 9
  iterate 6 replace w := w (by decide +kernel)
  replace w := w ⟨3, (by decide +kernel), (by decide +kernel)⟩
  have w := h.1.1 req { ins with nvm := { ins.nvm with licences := [(15, ⟨natLe 128 5⟩)] } } ({ ins with nvm := { ins.nvm with licences := [(15, ⟨natLe 128 5⟩)] } } : State).arbGrant
  iterate 4 replace w := w (by decide +kernel)
  replace w := w.2 15 ⟨natLe 128 5⟩
  iterate 2 replace w := w (by decide +kernel)
  have w := h.1.2 req 2 (mkrS) (mkrS).arbGrant
  iterate 7 replace w := w (by decide +kernel)
  replace w := w.1 (mkrS).enrolBuf 2 77 0
  iterate 8 replace w := w (by decide +kernel)
  replace w := w ⟨9, (by decide +kernel), (by decide +kernel)⟩
  have w := h.1.2 req 2 (enrS 2 1) (enrS 2 1).arbGrant
  iterate 7 replace w := w (by decide +kernel)
  replace w := w.1 (enrS 2 1).enrolBuf 1 77 0x3FF
  iterate 8 replace w := w (by decide +kernel)
  replace w := w ⟨0, (by decide +kernel), (by decide +kernel)⟩
  have w := h.1.2 req 1 (enrS 1 3) (enrS 1 3).arbGrant
  iterate 7 replace w := w (by decide +kernel)
  replace w := w.1 (enrS 1 3).enrolBuf 3 77 8
  iterate 8 replace w := w (by decide +kernel)
  replace w := w ⟨839, (by decide +kernel), (by decide +kernel)⟩
  have w := h.1.2 req 2 (enrS 2 3) (enrS 2 3).arbGrant
  iterate 7 replace w := w (by decide +kernel)
  replace w := w.2 8 { bytes := slice (natLe 2 2 ++ natLe 6 0 ++ natLe 8 5) 0 256, signer := 0 }
  iterate 3 replace w := w (by decide +kernel)
  trivial

theorem witness_KeysLicencesAndMonitors_2 (h : Obligations.KeysLicencesAndMonitors) : True := by
  have w := h.2 ins
  iterate 2 replace w := w (by decide +kernel)
  replace w := w.1 3
  iterate 2 replace w := w (by decide +kernel)
  have w := h.2 ins
  iterate 2 replace w := w (by decide +kernel)
  replace w := w.2.1 1 2
  iterate 4 replace w := w (by decide +kernel)
  have w := h.2 (wth (stepS 7) [(Reg.secStatusRngFault, 3)])
  iterate 2 replace w := w (by decide +kernel)
  replace w := w.2.2 true false
  iterate 3 replace w := w (by decide +kernel)
  trivial

theorem witness_ImagesAreStaged (h : Obligations.ImagesAreStaged) : True := by
  have w := h.1 req (imgS 0 (man 7 0) []) (imgS 0 (man 7 0) []).arbGrant
  iterate 3 replace w := w (by decide +kernel)
  replace w := w.1 (imgS 0 (man 7 0) []).imgBuf true rfl
  replace w := w.1
  replace w := w (by decide +kernel)
  have w := h.1 req ins ins.arbGrant
  iterate 3 replace w := w (by decide +kernel)
  replace w := w.1 ins.imgBuf true rfl
  replace w := w.2 1 .shape
  replace w := w (by decide +kernel)
  have w := h.1 req (imgU 1 1 (man 7 0) [0]) (imgU 1 1 (man 7 0) [0]).arbGrant
  iterate 3 replace w := w (by decide +kernel)
  replace w := w.2.1
  replace w := w (by decide +kernel)
  replace w := w.1 5
  iterate 3 replace w := w (by decide +kernel)
  have w := h.1 req (imgU 1 1 (man 7 0) [0]) (imgU 1 1 (man 7 0) [0]).arbGrant
  iterate 3 replace w := w (by decide +kernel)
  replace w := w.2.1
  replace w := w (by decide +kernel)
  replace w := w.2.1
  have w := h.1 req (imgU 1 1 (man 7 0) [0]) (imgU 1 1 (man 7 0) [0]).arbGrant
  iterate 3 replace w := w (by decide +kernel)
  replace w := w.2.1
  replace w := w (by decide +kernel)
  replace w := w.2.2
  have w := h.1 req (imgV []) (imgV []).arbGrant
  replace w := w (by decide +kernel)
  replace w := w rfl
  replace w := w (by decide +kernel)
  replace w := w.2.2
  replace w := w (by decide +kernel)
  replace w := w.1
  trivial

theorem witness_ImagesAreStaged_2 (h : Obligations.ImagesAreStaged) : True := by
  have w := h.1 req (imgV []) (imgV []).arbGrant
  replace w := w (by decide +kernel)
  replace w := w rfl
  replace w := w (by decide +kernel)
  replace w := w.2.2
  replace w := w (by decide +kernel)
  replace w := w.2 true 0
  iterate 2 replace w := w (by decide +kernel)
  have w := h.1 req (imgV [(Reg.lanTimeStatusValid, 1), (Reg.botImgTimeLoTime, 77), (Reg.botImgTimeHiTime, 3)]) (imgV [(Reg.lanTimeStatusValid, 1), (Reg.botImgTimeLoTime, 77), (Reg.botImgTimeHiTime, 3)]).arbGrant
  replace w := w (by decide +kernel)
  replace w := w rfl
  replace w := w (by decide +kernel)
  replace w := w.2.2
  replace w := w (by decide +kernel)
  replace w := w.2 true (77 + 3 * 2 ^ 32)
  iterate 2 replace w := w (by decide +kernel)
  have w := h.2.1 (man 7 dig0) 7 6 _ (imgU 2 1 (man 7 dig0) (List.range 6)) (by decide +kernel) (by decide +kernel) rfl (by decide +kernel) (by decide +kernel) (by decide +kernel) rfl
  replace w := w.1
  iterate 2 replace w := w (by decide +kernel)
  have w := h.2.1 (man 7 0) 7 6 _ (imgU 2 1 (man 7 0) (List.range 6)) (by decide +kernel) (by decide +kernel) rfl (by decide +kernel) (by decide +kernel) (by decide +kernel) rfl
  replace w := w.2.1
  replace w := w (by decide +kernel)
  replace w := w true
  replace w := w (by decide +kernel)
  have w := h.2.1 (man 7 0) 7 6 _ (imgU 2 1 (man 7 0) (List.range 5)) (by decide +kernel) (by decide +kernel) rfl (by decide +kernel) (by decide +kernel) (by decide +kernel) rfl
  replace w := w.2.2
  replace w := w (by decide +kernel)
  replace w := w true
  have w := h.2.2 true 5 (tmS 5 { imgV [] with update := { (imgV []).update with schedule := some (true, 5) } })
  iterate 5 replace w := w (by decide +kernel)
  replace w := w.1
  replace w := w (by decide +kernel)
  trivial

theorem witness_ImagesAreStaged_3 (h : Obligations.ImagesAreStaged) : True := by
  have w := h.2.2 false 5 (tmS 6 { imgV [] with ctxs := [(0, ctxF)], update := { (imgV []).update with schedule := some (false, 5) } })
  iterate 5 replace w := w (by decide +kernel)
  replace w := w.2
  replace w := w (by decide +kernel)
  trivial

theorem witness_ImagesAreBroadcast (h : Obligations.ImagesAreBroadcast) : True := by
  have w := h.1 req ⟨[(0, man 7 0)]⟩ 7 (imgV [(Reg.botImgBcastMask, 0x8001)])
  iterate 3 replace w := w (by decide +kernel)
  replace w := w rfl
  replace w := w (by decide +kernel)
  replace w := w ⟨0, (by decide +kernel), (by decide +kernel), (by decide +kernel)⟩
  replace w := w (by decide +kernel)
  have w := h.2 0 { imgV [] with update := { (imgV []).update with out := [(0, [(pageKey 7 0, 1, false)])] } }
  iterate 3 replace w := w (by decide +kernel)
  replace w := w.1 (pageKey 7 0) 1 false [] (man 7 0) rfl rfl
  have w := h.2 0 (wth ins [(Reg.lanPortDiscState 0, 2)])
  iterate 3 replace w := w (by decide +kernel)
  replace w := w.2.1 { ipk 24575 [9] with cmd := natLe 4 7 ++ natLe 4 24575 ++ natLe 2 3 ++ natLe 6 0 } 7 24575 (slice [9] 0 4096) true
  iterate 8 replace w := w (by decide +kernel)
  replace w := w rfl
  iterate 2 replace w := w (by decide +kernel)
  replace w := w.1
  iterate 3 replace w := w (by decide +kernel)
  have w := h.2 0 (wth ins [(Reg.lanPortDiscState 0, 2)])
  iterate 3 replace w := w (by decide +kernel)
  replace w := w.2.1 (ipk 24575 [9]) 7 24575 (slice [9] 0 4096) true
  iterate 8 replace w := w (by decide +kernel)
  replace w := w rfl
  iterate 2 replace w := w (by decide +kernel)
  replace w := w.2.1
  iterate 3 replace w := w (by decide +kernel)
  have w := h.2 0 (wth (imgS 0 [] []) [(Reg.lanPortDiscState 0, 2)])
  iterate 3 replace w := w (by decide +kernel)
  replace w := w.2.1 (ipk 0 (man 7 0)) 7 0 (slice (man 7 0) 0 4096) true
  iterate 8 replace w := w (by decide +kernel)
  replace w := w rfl
  iterate 2 replace w := w (by decide +kernel)
  replace w := w.2.2
  iterate 4 replace w := w (by decide +kernel)
  have w := h.2 0 (imgV [])
  iterate 3 replace w := w (by decide +kernel)
  replace w := w.2.2.1 (ipl 0) 7 0 1
  iterate 6 replace w := w (by decide +kernel)
  replace w := w.1 (fun k a b => by have e : k = 0 := (by omega); subst e; decide +kernel)
  trivial

theorem witness_ImagesAreBroadcast_2 (h : Obligations.ImagesAreBroadcast) : True := by
  have w := h.2 0 (wth ins [(Reg.lanPortDiscState 0, 2), (Reg.botImgParentValid, 1)])
  iterate 3 replace w := w (by decide +kernel)
  replace w := w.2.2.1 (ipl 0) 7 0 1
  iterate 6 replace w := w (by decide +kernel)
  replace w := w.2 0 (fun k a b => by have e : k = 0 := (by omega); subst e; decide +kernel)
  iterate 4 replace w := w (by decide +kernel)
  have w := h.2 0 (wth (imgU 1 2 (man 7 0) [0, 1, 4]) [(Reg.lanPortDiscState 0, 2), (Reg.botImgParentValid, 1)])
  iterate 3 replace w := w (by decide +kernel)
  replace w := w.2.2.2.1 2 2 [(5, 1)]
  iterate 3 replace w := w (by decide +kernel)
  have w := h.2 0 (wth (imgU 1 2 (man 7 0) [0, 1, 4]) [(Reg.lanPortDiscState 0, 2), (Reg.botImgParentValid, 1)])
  iterate 3 replace w := w (by decide +kernel)
  replace w := w.2.2.2.2
  iterate 2 replace w := w (by decide +kernel)
  trivial

theorem witness_BrakesAndHalts (h : Obligations.BrakesAndHalts) : True := by
  have w := h (pwrS [])
  replace w := w (by decide +kernel)
  replace w := w.1 4600 250000 0 70000
  replace w := w.1
  iterate 3 replace w := w (by decide +kernel)
  have w := h (pwrS [])
  replace w := w (by decide +kernel)
  replace w := w.1 5599 25000 1000 900
  replace w := w.1
  iterate 3 replace w := w (by decide +kernel)
  have w := h (pwrS [])
  replace w := w (by decide +kernel)
  replace w := w.1 4300 25000 0 900
  replace w := w.2.1
  iterate 4 replace w := w (by decide +kernel)
  have w := h (pwrS [])
  replace w := w (by decide +kernel)
  replace w := w.1 4100 25000 10 900
  replace w := w.2.2.1
  iterate 3 replace w := w (by decide +kernel)
  have w := h (pwrS [])
  replace w := w (by decide +kernel)
  replace w := w.1 3999 25000 5 900
  replace w := w.2.2.2 (Or.inl (by decide +kernel))
  have w := h (pwrS [])
  replace w := w (by decide +kernel)
  replace w := w.1 5801 25000 10 900
  replace w := w.2.2.2 (Or.inr (by decide +kernel))
  trivial

theorem witness_BrakesAndHalts_2 (h : Obligations.BrakesAndHalts) : True := by
  have w := h (pwrS [])
  replace w := w (by decide +kernel)
  replace w := w.2.1
  iterate 2 replace w := w (by decide +kernel)
  have w := h (wth (pwrS []) [(Reg.pwrKilnDuty 2, 2)])
  replace w := w (by decide +kernel)
  replace w := w.2.1
  iterate 2 replace w := w (by decide +kernel)
  have w := h (pwrS [])
  replace w := w (by decide +kernel)
  replace w := w.2.2.2.1 (Or.inl (by decide +kernel))
  have w := h { pwrS [(Reg.pwrStatusBrake, 1)] with power := { (pwrS []).power with inputGood := true, brakeCause := 3, brake := [20, 20, 20, 20] } }
  replace w := w (by decide +kernel)
  replace w := w.2.2.1
  iterate 3 replace w := w (by decide +kernel)
  have w := h (pwrS [])
  replace w := w (by decide +kernel)
  replace w := w.2.2.2.2.1
  iterate 4 replace w := w (by decide +kernel)
  have w := h (pwrS [])
  replace w := w (by decide +kernel)
  replace w := w.2.2.2.2.2.1
  trivial

theorem witness_BrakesAndHalts_3 (h : Obligations.BrakesAndHalts) : True := by
  have w := h (pwrS [])
  replace w := w (by decide +kernel)
  replace w := w.2.2.2.2.2.2.1
  have w := h { pwrS [] with pins := { (pwrS []).pins with flowLossN := false } }
  replace w := w (by decide +kernel)
  replace w := w.2.2.2.2.2.2.2.1
  replace w := w (by decide +kernel)
  have w := h (pwrS [(Reg.pwrStatusHaltTemp, 1)])
  replace w := w (by decide +kernel)
  replace w := w.2.2.2.2.2.2.2.2 4
  iterate 4 replace w := w (by decide +kernel)
  replace w := w.1
  have w := h (pwrS [(Reg.pwrStatusHaltTemp, 1)])
  replace w := w (by decide +kernel)
  replace w := w.2.2.2.2.2.2.2.2 4
  iterate 4 replace w := w (by decide +kernel)
  replace w := w.2 (fun d a b e => (by decide +kernel : ∀ d < 5, 1 ≤ d → d ≠ 4 → (pwrS [(Reg.pwrStatusHaltTemp, 1)]).flag (haltFld d) = false) d (by omega) a e)
  iterate 2 replace w := w (by decide +kernel)
  have w := h (pwrS [(Reg.pwrStatusHaltVoltage, 1)])
  replace w := w (by decide +kernel)
  replace w := w.2.2.2.2.2.2.2.2 1
  iterate 4 replace w := w (by decide +kernel)
  replace w := w.1
  have w := h (pwrS [(Reg.pwrStatusHaltVoltage, 1)])
  replace w := w (by decide +kernel)
  replace w := w.2.2.2.2.2.2.2.2 1
  iterate 4 replace w := w (by decide +kernel)
  replace w := w.2 (fun d a b e => (by decide +kernel : ∀ d < 5, 1 ≤ d → d ≠ 1 → (pwrS [(Reg.pwrStatusHaltVoltage, 1)]).flag (haltFld d) = false) d (by omega) a e)
  iterate 2 replace w := w (by decide +kernel)
  trivial

theorem witness_PowerCaps (h : Obligations.PowerCaps) : True := by
  have w := h (pwrS []) (pwrS []).arbGrant
  iterate 4 replace w := w (by decide +kernel)
  replace w := w.1 2600 _ _ false (by decide +kernel) rfl rfl (Iff.intro (fun h => Bool.noConfusion h) (fun ⟨y, h, _⟩ => by cases (show none = some y from h)))
  have w := h ({ pwrS [] with power := { (pwrS []).power with writes := [(0, 800)] } } : State) ({ pwrS [] with power := { (pwrS []).power with writes := [(0, 800)] } } : State).arbGrant
  iterate 4 replace w := w (by decide +kernel)
  replace w := w.1 750 _ _ true (by decide +kernel) rfl rfl (Iff.intro (fun _ => ⟨(0, 800), (by decide +kernel), (by decide +kernel)⟩) (fun _ => rfl))
  have w := h (pwrS []) (pwrS []).arbGrant
  iterate 4 replace w := w (by decide +kernel)
  replace w := w.1 0 _ _ false (by decide +kernel) rfl rfl (Iff.intro (fun h => Bool.noConfusion h) (fun ⟨y, h, _⟩ => by cases (show none = some y from h)))
  have w := h (pwrS []) (pwrS []).arbGrant
  iterate 4 replace w := w (by decide +kernel)
  replace w := w.2.1 req ((pwrS []).fld Reg.pwrLimitsOpMinW)
  iterate 2 replace w := w (by decide +kernel)
  replace w := w.1
  iterate 2 replace w := w (by decide +kernel)
  have w := h (wth opr [(Reg.pwrLimitsOpMinW, 700), (Reg.pwrLimitsOpMaxW, 2600)]) (wth opr [(Reg.pwrLimitsOpMinW, 700), (Reg.pwrLimitsOpMaxW, 2600)]).arbGrant
  iterate 4 replace w := w (by decide +kernel)
  replace w := w.2.1 req 2601
  iterate 2 replace w := w (by decide +kernel)
  replace w := w.2 (Or.inr (by decide +kernel))
  have w := h (wth opr [(Reg.pwrLimitsOpMinW, 700), (Reg.pwrLimitsOpMaxW, 2600)]) (wth opr [(Reg.pwrLimitsOpMinW, 700), (Reg.pwrLimitsOpMaxW, 2600)]).arbGrant
  iterate 4 replace w := w (by decide +kernel)
  replace w := w.2.1 req 2600
  iterate 2 replace w := w (by decide +kernel)
  replace w := w.1
  iterate 2 replace w := w (by decide +kernel)
  trivial

theorem witness_PowerCaps_2 (h : Obligations.PowerCaps) : True := by
  have w := h (pwrS []) (pwrS []).arbGrant
  iterate 4 replace w := w (by decide +kernel)
  replace w := w.2.2.1 req 2600 700
  iterate 3 replace w := w (by decide +kernel)
  replace w := w.1
  iterate 3 replace w := w (by decide +kernel)
  have w := h (pwrS []) (pwrS []).arbGrant
  iterate 4 replace w := w (by decide +kernel)
  replace w := w.2.2.1 req 2600 699
  iterate 3 replace w := w (by decide +kernel)
  replace w := w.2 (Or.inl (by decide +kernel))
  have w := h (pwrS []) (pwrS []).arbGrant
  iterate 4 replace w := w (by decide +kernel)
  replace w := w.2.2.2.1
  iterate 2 replace w := w (by decide +kernel)
  have w := h stmS stmS.arbGrant
  iterate 4 replace w := w (by decide +kernel)
  replace w := w.2.2.2.2.1
  iterate 2 replace w := w (by decide +kernel)
  have w := h (pwrS []) (pwrS []).arbGrant
  iterate 4 replace w := w (by decide +kernel)
  replace w := w.2.2.2.2.2.1 719 29
  iterate 2 replace w := w (by decide +kernel)
  have w := h (pwrS []) (pwrS []).arbGrant
  iterate 4 replace w := w (by decide +kernel)
  replace w := w.2.2.2.2.2.1 720 30
  iterate 2 replace w := w (by decide +kernel)
  trivial

theorem witness_PowerCaps_3 (h : Obligations.PowerCaps) : True := by
  have w := h (pwrS []) (pwrS []).arbGrant
  iterate 4 replace w := w (by decide +kernel)
  replace w := w.2.2.2.2.2.1 65535 2730
  iterate 2 replace w := w (by decide +kernel)
  have w := h (pwrS []) (pwrS []).arbGrant
  iterate 4 replace w := w (by decide +kernel)
  replace w := w.2.2.2.2.2.2
  iterate 2 replace w := w (by decide +kernel)
  have w := h stmS stmS.arbGrant
  iterate 4 replace w := w (by decide +kernel)
  replace w := w.2.2.2.2.1
  iterate 2 replace w := w (by decide +kernel)
  trivial

theorem witness_DutyAndSensors (h : Obligations.DutyAndSensors) : True := by
  have w := h (pwrS [])
  replace w := w (by decide +kernel)
  replace w := w.1 [10, 20, 30, 40, 35, 24]
  replace w := w (by decide +kernel)
  have w := h (pwrS [])
  replace w := w (by decide +kernel)
  replace w := w.1 []
  replace w := w (by decide +kernel)
  have w := h { pwrS [] with power := { (pwrS []).power with slew := some 3 } }
  replace w := w (by decide +kernel)
  replace w := w.2.1
  have w := h (pwrS [(Reg.pwrInputWatts, 2601)])
  replace w := w (by decide +kernel)
  replace w := w.2.2.1 _ _ (by decide +kernel) rfl rfl
  replace w := w.1
  iterate 2 replace w := w (by decide +kernel)
  have w := h (wth (pwrS [(Reg.pwrInputWatts, 2601)]) [(Reg.pwrStatusDuty, 4), (Reg.pwrStatusPoint, 5)])
  replace w := w (by decide +kernel)
  replace w := w.2.2.1 _ _ (by decide +kernel) rfl rfl
  replace w := w.2.1
  iterate 5 replace w := w (by decide +kernel)
  have w := h (pwrS [])
  replace w := w (by decide +kernel)
  replace w := w.2.2.1 _ _ (by decide +kernel) rfl rfl
  replace w := w.2.2
  replace w := w (by decide +kernel)
  trivial

theorem witness_DutyAndSensors_2 (h : Obligations.DutyAndSensors) : True := by
  have w := h (pwrS [])
  replace w := w (by decide +kernel)
  replace w := w.2.2.2.1 (List.replicate 20 (100, 101)) (List.replicate 96 100)
  iterate 5 replace w := w (by decide +kernel)
  have w := h (pwrS [])
  replace w := w (by decide +kernel)
  replace w := w.2.2.2.2.1 189 189
  iterate 4 replace w := w (by decide +kernel)
  replace w := w.1
  replace w := w (by decide +kernel)
  have w := h (pwrS [])
  replace w := w (by decide +kernel)
  replace w := w.2.2.2.2.1 214 214
  iterate 4 replace w := w (by decide +kernel)
  replace w := w.2.1
  iterate 5 replace w := w (by decide +kernel)
  have w := h { pwrS [] with power := { (pwrS []).power with hard := [0] } }
  replace w := w (by decide +kernel)
  replace w := w.2.2.2.2.1 220 220
  iterate 4 replace w := w (by decide +kernel)
  replace w := w.2.2
  iterate 2 replace w := w (by decide +kernel)
  have w := h (pwrS [(Reg.pwrPairA 19, 100), (Reg.pwrPairB 19, 109)])
  replace w := w (by decide +kernel)
  replace w := w.2.2.2.2.2 19 100 109
  iterate 8 replace w := w (by decide +kernel)
  trivial

end Sys2Proof.Tests
end

section
/-! SUPPORT. Steps that change little: the idle tick, an unpowered module, the arbiter's grant, and updates of registers alone. -/

namespace Sys2Proof.Machine

variable (s : State)

/-! ### Updates of registers alone -/

/-- `t` differs from `s` in its registers alone. -/
def OnlyRegs (s t : State) : Prop := ∃ r, t = { s with regs := r }

theorem OnlyRegs.refl : OnlyRegs s s := ⟨s.regs, rfl⟩

theorem OnlyRegs.trans {s t u : State} (h : OnlyRegs s t) (h' : OnlyRegs t u) : OnlyRegs s u := by
  obtain ⟨r, rfl⟩ := h
  obtain ⟨r', rfl⟩ := h'
  exact ⟨r', rfl⟩

theorem OnlyRegs.eq {s t : State} (h : OnlyRegs s t) : t = { s with regs := t.regs } := by
  obtain ⟨r, rfl⟩ := h; rfl

theorem onlyRegs_setReg (off : Nat) (w : Word) : OnlyRegs s (s.setReg off w) := ⟨_, rfl⟩

theorem onlyRegs_setFld (f : Fld) (v : Nat) : OnlyRegs s (s.setFld f v) := onlyRegs_setReg s _ _

theorem onlyRegs_addPair (lo n : Nat) : OnlyRegs s (s.addPair lo n) := (onlyRegs_setReg s _ _).trans (onlyRegs_setReg _ _ _)

/-- A grant of the arbiter changes registers alone (R403, R413). -/
theorem onlyRegs_arbGrant : OnlyRegs s s.arbGrant := by
  have h := onlyRegs_addPair s Reg.ctlGrantsLoOff 1
  unfold State.arbGrant
  dsimp only
  split_ifs
  · exact OnlyRegs.refl s
  · exact h
  · exact (h.trans (onlyRegs_setFld _ _ _)).trans (onlyRegs_setFld _ _ _)
  · exact h.trans (onlyRegs_setFld _ _ _)

/-! ### The count of grants (R403, R413) -/

theorem State.pair_setFld_ne (f : Fld) (v lo : Nat) (h : lo ≠ f.off) (h' : lo + 4 ≠ f.off) :
    (s.setFld f v).pair lo = s.pair lo := by
  rw [State.pair, s.reg_setFld_ne _ _ _ h, s.reg_setFld_ne _ _ _ h', State.pair]

theorem State.pair_addPair (lo n : Nat) : (s.addPair lo n).pair lo = min (s.pair lo + n) (2 ^ 64 - 1) :=
  s.pair_setPair _ _ (by omega)

/-- The journal's marks lie in a register of their own. -/
theorem State.pair_ctlGrants_setFld (f : Fld) (v : Nat) (h : f.off = Reg.ctlJournalOff) :
    (s.setFld f v).pair Reg.ctlGrantsLoOff = s.pair Reg.ctlGrantsLoOff :=
  s.pair_setFld_ne _ _ _ (by rw [h]; decide) (by rw [h]; decide)

theorem State.pair_arbGrant (h : s.activeUnit ≠ none) :
    s.arbGrant.pair Reg.ctlGrantsLoOff = min (s.pair Reg.ctlGrantsLoOff + 1) (2 ^ 64 - 1) := by
  unfold State.arbGrant
  dsimp only
  rw [if_neg (by simpa using h)]
  split_ifs
  · exact s.pair_addPair _ _
  · rw [State.pair_ctlGrants_setFld _ Reg.ctlJournalHwm _ rfl, State.pair_ctlGrants_setFld _ Reg.ctlJournalDepth _ rfl]
    exact s.pair_addPair _ _
  · rw [State.pair_ctlGrants_setFld _ Reg.ctlJournalDepth _ rfl]
    exact s.pair_addPair _ _

theorem regsBut_arbGrant : RegsBut s s.arbGrant grantRegs := fun off h => s.reg_arbGrant off h

/-! ### A switchover under way (R401, R411) -/

/-- An input granted during a switchover takes effect after its end. -/
theorem State.granted_hold (f : State → State) (hd : Hold) (h : s.on = true) (hl : s.led = true) (hh : s.ctl.hold = some hd) :
    s.granted f = .next (State.latch s (f (s.endSwitch hd).arbGrant)) := by
  rw [State.granted, s.does_on _ h, if_pos hl, State.resume, hh]

theorem State.settle_hold (hd : Hold) (h : s.ctl.hold = some hd) :
    s.settle = if hd.since + hd.ns * 235 / 1000 ≤ s.clk then State.latch s (s.endSwitch hd) else s := by
  rw [State.settle, h]

theorem State.settle_none (h : s.ctl.hold = none) : s.settle = s := by rw [State.settle, h]

/-! ### The idle step (R23, R395) -/

theorem step_idle (h : s.pending = []) : step s = .next (tick s) := by rw [step, h]

theorem tick_off (h : s.on = false) : tick s = s := by
  rw [tick, if_pos (by simpa [State.on] using h)]

theorem State.pumpAll_of_none_queued (h : ∀ e ∈ s.sessions, e.2.queued = []) : s.pumpAll = s := by
  have hf : (s.sessions.filter fun (e : Nat × Session) => ! e.2.queued.isEmpty) = [] :=
    List.filter_eq_nil_iff.2 fun e he => by simp [h e he]
  rw [State.pumpAll, hf]; rfl

theorem tick_of_none_queued (u : State) (hu : u = { s with clk := s.clk + 1 }) (h : s.on = true)
    (hq : ∀ e ∈ s.sessions, e.2.queued = []) : tick s = u.settle := by
  have hp : u.pumpAll = u := u.pumpAll_of_none_queued (by rw [hu]; exact hq)
  rw [tick, if_neg (by simpa [State.on] using h), ← hu, hp]

/-! ### A module without power (R5, R8) -/

theorem next_of_off (t : State) (h : s.on = false) :
    (.next (if s.on then t else s) : Host.Outcome State Fault Refusal) = .next s := by rw [h]; rfl

theorem execLeaseExpiry_off (cell : Nat) (h : s.on = false) : execLeaseExpiry cell s = .next s := by
  unfold execLeaseExpiry
  split <;> exact next_of_off s _ h

theorem execFatalFault_off (unit : Nat) (h : s.on = false) : execFatalFault unit s = .next s := by
  unfold execFatalFault
  split <;> exact next_of_off s _ h

theorem execRegisterWrite_off (r : Requester) (off v : Nat) (h : s.on = false) : execRegisterWrite r off v s = .next s := by
  unfold execRegisterWrite
  split <;> exact next_of_off s _ h

/-- Every command but those of the pins and the cold start asks for power before it does anything; three of them choose first between
waiting for a grant and not. -/
theorem exec_off (c : Instr) (hs : s.on = false) (h : needsPower c = true) : exec c s = .next s := by
  cases c
  case leaseExpiry cell => exact execLeaseExpiry_off s cell hs
  case fatalFault unit => exact execFatalFault_off s unit hs
  case registerWrite r off v => exact execRegisterWrite_off s r off v hs
  case coldStart | trayRstAssert | powerLoss | brakeNFall | brakeNRise | flowLossNFall | flowLossNRise => cases h
  all_goals exact next_of_off s _ hs

end Sys2Proof.Machine
end

section
/-! The block as a whole. -/

namespace Sys2Proof.Machine

/-- Settles O2: the idle tick by what it does to sessions and a switchover, the unpowered module by cases on the command, the
grant by its registers. -/
theorem idleAndUnpoweredSteps : Obligations.IdleAndUnpoweredSteps := by
  unfold Obligations.IdleAndUnpoweredSteps
  refine ⟨fun s hp => ⟨fun ho => ?_, fun u hu ho hq => ?_⟩, fun c s => exec_off s c, fun s ha => ?_,
    fun f s ho => ⟨fun hl => ?_, fun hl hd hh => ?_⟩⟩
  · rw [step_idle s hp, tick_off s ho]
  · have hc : u.ctl.hold = s.ctl.hold := by rw [hu]
    rw [step_idle s hp, tick_of_none_queued s u hu ho hq]
    exact ⟨fun hh => congrArg _ (u.settle_none (hc.trans hh)), fun hd hh => congrArg _ (u.settle_hold hd (hc.trans hh))⟩
  · exact ⟨s.pair_arbGrant ha, regsBut_arbGrant s, (onlyRegs_arbGrant s).eq⟩
  · exact ⟨s.granted_unled f ho hl, s.commanded_unled f ho hl⟩
  · exact s.granted_hold f hd ho hl hh

end Sys2Proof.Machine
end

section
/-! SUPPORT. Host commands: what a command answers and leaves, and events and counters on the way. -/

namespace Sys2Proof.Machine

variable (s : State)

/-! ### A host command and its result (R389, R390) -/

/-- A granted host command that the module takes up runs its body in the state of the grant. -/
theorem State.granted_hostCmd (o : Origin) (op : Nat) (body : State → State) (hp : s.powered = true)
    (ht : s.arbGrant.takes o op = true) :
    s.granted (fun s => s.hostCmd o op body) = .next (State.latch s (body (s.arbGrant.begun o op))) := by
  rw [s.granted_powered _ hp, State.hostCmd_takes _ _ _ _ _ _ ht]

/-- A command that has its result, and the outputs latched: nothing else changes. -/
theorem latch_finish (old u t : State) (o : Origin) (op : Nat) (st : Status) (f : Flags) (r d : List Byte)
    (h : (⟨o, op, none⟩ : Progress) ∈ u.inProg) (ht : t = State.latch old (u.finish o st f r d)) :
    t.result o op st f r d ∧ t = { u with inProg := t.inProg, latches := t.latches, outSeq := t.outSeq } := by
  obtain ⟨l, n, e⟩ := (u.finish o st f r d).latch_eq old
  refine ⟨?_, by rw [ht, e]; rfl⟩
  unfold State.result
  rw [ht, State.latch_inProg]
  exact u.result_finish o op st f r d h

/-- The same for a command that has just begun. -/
theorem latch_finish_begun (old g t : State) (o : Origin) (op : Nat) (st : Status) (f : Flags) (r d : List Byte)
    (ht : t = State.latch old ((g.begun o op).finish o st f r d)) :
    t.result o op st f r d ∧ t = { g with inProg := t.inProg, latches := t.latches, outSeq := t.outSeq } :=
  latch_finish old (g.begun o op) t o op st f r d (g.mem_begun o op) ht

/-! ### READ_REGS, WRITE_REGS and EVENT_READ (R390, R488) -/

theorem State.readReg_word (r : Requester) (off : Nat) (hl : isLo off = false) (hh : isHi off = false) (h : s.mayRead r off = true) :
    s.readReg r off = (s, s.liveWord r off % 2 ^ 32, .ok) := by
  simp [State.readReg, h, hl, hh]

theorem State.readReg_refused (r : Requester) (off : Nat) (h : s.mayRead r off = false) : s.readReg r off = (s, 0, .access) := by
  simp [State.readReg, h]

/-- READ_REGS of one register answers what the read answers. -/
theorem State.doReadRegs_single (o : Origin) (off : Nat) (t : State) (v : Nat) (st : Status)
    (h : s.readReg (.session o.sess) off = (t, v, st)) : s.doReadRegs o [off] = t.finish o st {} [] (natLe 4 v) := by
  by_cases hst : st = .ok <;> simp [State.doReadRegs, State.readAll, h, hst]

theorem State.writeAll_pair (r : Requester) (a v b w : Nat) (u1 u2 : State) (st : Status) (h1 : s.writeReg r a v = (u1, .ok))
    (h2 : u1.writeReg r b w = (u2, st)) : s.writeAll r [(a, v), (b, w)] = (u2, if st = .ok then 2 else 1, st) := by
  by_cases h : st = .ok <;> simp [State.writeAll, h1, h2, h]

theorem State.doWriteRegs_pair (o : Origin) (a v b w : Nat) (u1 u2 : State) (st : Status)
    (hport : s.fld (Reg.hstSessionStatePort o.sess) = 8) (h1 : s.writeReg (.session o.sess) a v = (u1, .ok))
    (h2 : u1.writeReg (.session o.sess) b w = (u2, st)) :
    s.doWriteRegs o [(a, v), (b, w)] = u2.finish o st {} (natLe 2 (if st = .ok then 2 else 1)) := by
  have hw := s.writeAll_pair (.session o.sess) a v b w u1 u2 st h1 h2
  simp [State.doWriteRegs, hport, hw]

theorem State.doEventRead_ok (o : Origin) (first n : Nat) (h : 0 < n) (h' : n ≤ 256) :
    s.doEventRead o first n = s.finish o .ok {} [] (s.recordsFrom first n) := by
  rw [State.doEventRead, if_neg (by omega)]

/-! ### Events while the queues have room (R491) -/

theorem State.room_of_evq {s t : State} (h : t.evq = s.evq) (n : Nat) : t.room n = s.room n := by
  rw [State.room, h]; rfl

theorem onlyRegs_evMark (d n : Nat) : OnlyRegs s (s.evMark d n) := by
  unfold State.evMark
  split_ifs
  · exact onlyRegs_setFld s _ _
  · exact OnlyRegs.refl s

/-- An event that finds room changes registers and queues alone. -/
theorem State.ev_eq_of_room (code src p0 p1 p2 : Nat) (h : s.room 1 = true) :
    ∃ r q, s.ev code src p0 p1 p2 = { s with regs := r, evq := q } := by
  have hd := s.evDie_lt code src
  simp only [State.room, Bool.and_eq_true, beq_iff_eq, List.all_eq_true, decide_eq_true_eq] at h
  obtain ⟨hlen, hall⟩ := h
  have hroom : (s.evQueue (s.evDie code src)).length + 1 ≤ 1024 := by
    rw [State.evQueue, List.getD_eq_getElem?_getD, List.getElem?_eq_getElem (by omega)]
    exact hall _ (List.getElem_mem _)
  unfold State.ev
  dsimp only
  rw [if_neg (by omega)]
  obtain ⟨r, hr⟩ := onlyRegs_evMark (s.evPut (s.evDie code src) (s.evOf code src p0 p1 p2)) (s.evDie code src)
    ((s.evQueue (s.evDie code src)).length + 1)
  rw [hr]
  exact ⟨r, _, rfl⟩

/-! ### Counters -/

theorem State.fld_add (f : Fld) (n : Nat) (h : f.hi < 32) (hl : f.lo ≤ f.hi) :
    (s.add f n).fld f = min (s.fld f + n) (2 ^ f.width - 1) := by
  have hw : 0 < 2 ^ f.width := Nat.two_pow_pos _
  rw [State.add, s.fld_setFld f _ h hl, Nat.mod_eq_of_lt (by omega)]

theorem State.fld_bump (f : Fld) (h : f.hi < 32) (hl : f.lo ≤ f.hi) :
    (s.bump f).fld f = min (s.fld f + 1) (2 ^ f.width - 1) := s.fld_add f 1 h hl

/-! ### ATTEST (R451, R452) -/

/-- The state in which a quote is answered: a free value drawn, the quote counted, event 0x0B0A raised. -/
def State.quoted (s : State) (o : Origin) (nonce : Nat) : State :=
  ((s.fresh).bump Reg.secQuotesCount).ev 0x0B0A 0 o.sess (nonce % 2 ^ 32) 0

theorem State.doAttest_ok (o : Origin) (nonce : Nat) (h : s.flag Reg.secStatusMonitorMismatch = false) :
    s.doAttest o nonce
      = (s.quoted o nonce).finish o .ok {} [] (s.quoteBody nonce ++ (natLe 64 (Config.freeValue s.free) ++ idChain)) := by
  rw [State.doAttest, h, ← List.append_assoc]; rfl

theorem State.quoted_fld (o : Origin) (nonce : Nat) :
    (s.quoted o nonce).fld Reg.secQuotesCount = min (s.fld Reg.secQuotesCount + 1) (2 ^ 32 - 1) := by
  rw [State.quoted, State.fld_ev _ _ _ _ _ _ _ (by decide) (by decide), State.fld_bump _ _ (by decide) (by decide), State.fresh_fld]
  rfl

theorem State.room_fresh_bump (f : Fld) (n : Nat) : ((s.fresh).bump f).room n = s.room n :=
  State.room_of_evq (by rw [State.bump_evq, State.fresh_evq]) n

theorem State.quoted_hasEvent (o : Origin) (nonce : Nat) (h : s.room 1 = true) :
    (s.quoted o nonce).hasEvent 0x0B0A 0 o.sess nonce 0 := by
  have hr := (s.room_fresh_bump Reg.secQuotesCount 1).trans h
  obtain ⟨q, hq, e, he, hcode, hsrc, h0, h1, h2⟩ := State.hasEvent_ev _ 0x0B0A 0 o.sess (nonce % 2 ^ 32) 0 hr
  exact ⟨q, hq, e, he, hcode, hsrc, h0, by rw [h1, Nat.mod_mod], h2⟩

theorem State.quoted_eq (o : Origin) (nonce : Nat) (h : s.room 1 = true) :
    ∃ r q n, s.quoted o nonce = { s with regs := r, evq := q, free := n } := by
  have hr := (s.room_fresh_bump Reg.secQuotesCount 1).trans h
  obtain ⟨r, q, e⟩ := State.ev_eq_of_room _ 0x0B0A 0 o.sess (nonce % 2 ^ 32) 0 hr
  obtain ⟨r', e'⟩ := onlyRegs_setFld s.fresh Reg.secQuotesCount _
  refine ⟨r, q, s.free + 1, ?_⟩
  rw [State.quoted, e, State.bump, State.add, e']
  rfl

end Sys2Proof.Machine
end

section
/-! SUPPORT. Register writes from outside: which registers an update leaves, what an audit entry holds, and how a write is carried
out. -/

namespace Sys2Proof.Machine

variable (s : State)

/-! ### Which registers an update leaves -/

theorem RegsBut.trans {s t u : State} {os : List Nat} (h : RegsBut s t os) (h' : RegsBut t u os) : RegsBut s u os :=
  fun off ho => (h' off ho).trans (h off ho)

theorem RegsBut.mono {s t : State} {os os' : List Nat} (h : RegsBut s t os) (hs : os ⊆ os') : RegsBut s t os' :=
  fun off ho => h off fun hm => ho (hs hm)

theorem regsBut_of_regs {s t : State} (os : List Nat) (h : t.regs = s.regs) : RegsBut s t os :=
  fun off _ => by rw [State.reg, h, State.reg]

theorem regsBut_setFld (f : Fld) (v : Nat) (os : List Nat) (h : f.off ∈ os) : RegsBut s (s.setFld f v) os :=
  fun off ho => s.reg_setFld_ne f v off fun e => ho (e ▸ h)

theorem regsBut_setPair (lo v : Nat) (os : List Nat) (h : lo ∈ os) (h' : lo + 4 ∈ os) : RegsBut s (s.setPair lo v) os :=
  fun off ho => s.reg_setPair_ne lo v off (fun e => ho (e ▸ h)) fun e => ho (e ▸ h')

theorem regsBut_ev (code src p0 p1 p2 : Nat) (os : List Nat) (h : evRegs ⊆ os) : RegsBut s (s.ev code src p0 p1 p2) os :=
  fun off ho => s.reg_ev code src p0 p1 p2 off (fun e => ho (e ▸ h (by simp [evRegs]))) fun e => ho (e ▸ h (by simp [evRegs]))

theorem regsBut_each {α : Type} (xs : List α) (f : State → α → State) (os : List Nat)
    (h : ∀ t, ∀ x ∈ xs, RegsBut t (f t x) os) : RegsBut s (s.each xs f) os := by
  induction xs generalizing s with
  | nil => exact fun _ _ => rfl
  | cons x xs ih =>
    exact (h s x List.mem_cons_self).trans (ih (f s x) fun t y hy => h t y (List.mem_cons_of_mem _ hy))

/-! ### Audit entries (R464, R465) -/

/-- The entry that an action appends, chained to the head. -/
def State.auditEntry (s : State) (action role st key sess : Nat) (params : List Byte) : List Byte :=
  natLe 8 (s.pair Reg.secAuditCountLoOff) ++ natLe 8 (s.opTime + s.fld Reg.glbPowerCyclesCount * 2 ^ 40) ++ natLe 2 action
    ++ natLe 1 role ++ natLe 1 st ++ natLe 2 key ++ natLe 2 sess ++ slice params 0 8 ++ s.auditHead

/-- While the cells have room the entry is appended, hashed into the head and counted. -/
theorem State.auditCell_eq (action role st key sess : Nat) (params : List Byte) (h : s.audit.length < 262144) :
    s.auditCell action role st key sess params
      = (({ s with audit := s.audit ++ [s.auditEntry action role st key sess params] }).setHead
          (s.auditEntry action role st key sess params)).setPair Reg.secAuditCountLoOff (s.pair Reg.secAuditCountLoOff + 1) := by
  have hf : ¬ s.audit.length ≥ 262144 := by omega
  simp only [State.auditCell, hf, if_false]
  rfl

theorem slice_length (bs : List Byte) (o n : Nat) : (slice bs o n).length = n := by
  simp only [slice, List.length_append, List.length_replicate, List.length_take]; omega

theorem State.auditHead_length : s.auditHead.length = 32 := by simp [State.auditHead, List.length_flatMap]

theorem State.pair_lt (lo : Nat) : s.pair lo < 2 ^ 64 := by
  have h := (s.reg lo).isLt
  have h' := (s.reg (lo + 4)).isLt
  rw [State.pair]; omega

section
variable (action role st key sess : Nat) (params : List Byte)

theorem State.auditEntry_head : slice (s.auditEntry action role st key sess params) 32 32 = s.auditHead := by
  have h := slice_append (natLe 8 (s.pair Reg.secAuditCountLoOff) ++ natLe 8 (s.opTime + s.fld Reg.glbPowerCyclesCount * 2 ^ 40)
    ++ natLe 2 action ++ natLe 1 role ++ natLe 1 st ++ natLe 2 key ++ natLe 2 sess ++ slice params 0 8) s.auditHead [] 32 32
    (by simp [slice_length]) s.auditHead_length.symm
  rwa [List.append_nil] at h

theorem State.auditEntry_seq : field (s.auditEntry action role st key sess params) 0 8 = s.pair Reg.secAuditCountLoOff := by
  have h := slice_append [] (natLe 8 (s.pair Reg.secAuditCountLoOff)) (natLe 8 (s.opTime + s.fld Reg.glbPowerCyclesCount * 2 ^ 40)
    ++ natLe 2 action ++ natLe 1 role ++ natLe 1 st ++ natLe 2 key ++ natLe 2 sess ++ slice params 0 8 ++ s.auditHead) 0 8 rfl
    (by simp)
  have hp := s.pair_lt Reg.secAuditCountLoOff
  simp only [State.auditEntry, field, List.nil_append, List.append_assoc] at h ⊢
  rw [h, leNat_natLe, Nat.mod_eq_of_lt (by simpa using hp)]

theorem State.auditEntry_action : field (s.auditEntry action role st key sess params) 16 2 = action % 2 ^ 16 := by
  have h := slice_append (natLe 8 (s.pair Reg.secAuditCountLoOff) ++ natLe 8 (s.opTime + s.fld Reg.glbPowerCyclesCount * 2 ^ 40))
    (natLe 2 action) (natLe 1 role ++ natLe 1 st ++ natLe 2 key ++ natLe 2 sess ++ slice params 0 8 ++ s.auditHead) 16 2
    (by simp) (by simp)
  simp only [State.auditEntry, field, List.append_assoc] at h ⊢
  rw [h, leNat_natLe]; rfl

theorem State.auditEntry_role : field (s.auditEntry action role st key sess params) 18 1 = role % 2 ^ 8 := by
  have h := slice_append (natLe 8 (s.pair Reg.secAuditCountLoOff) ++ natLe 8 (s.opTime + s.fld Reg.glbPowerCyclesCount * 2 ^ 40)
    ++ natLe 2 action) (natLe 1 role) (natLe 1 st ++ natLe 2 key ++ natLe 2 sess ++ slice params 0 8 ++ s.auditHead) 18 1
    (by simp) (by simp)
  simp only [State.auditEntry, field, List.append_assoc] at h ⊢
  rw [h, leNat_natLe]; rfl

/-- The head's registers, changed by a hash. -/
theorem regsBut_setHead (e : List Byte) (os : List Nat) (h : (List.range 8).map Reg.secAuditHeadOff ⊆ os) :
    RegsBut s (s.setHead e) os :=
  regsBut_each s _ _ os fun t w hw => regsBut_setFld t (Reg.secAuditHeadHead w) _ os (h (List.mem_map_of_mem hw))

/-! The audit record, the event and the registers of an action whose entry is appended. -/

theorem onlyRegs_each {α : Type} (xs : List α) (f : State → α → State) (h : ∀ t x, OnlyRegs t (f t x)) :
    OnlyRegs s (s.each xs f) := by
  induction xs generalizing s with
  | nil => exact OnlyRegs.refl s
  | cons x xs ih => exact (h s x).trans (ih (f s x))

theorem onlyRegs_setHead (e : List Byte) : OnlyRegs s (s.setHead e) := onlyRegs_each s _ _ fun t _ => onlyRegs_setFld t _ _

theorem onlyRegs_setPair (lo v : Nat) : OnlyRegs s (s.setPair lo v) := (onlyRegs_setReg s _ _).trans (onlyRegs_setReg _ _ _)

theorem State.auditCell_parts (h : s.audit.length < 262144) : ∃ r, s.auditCell action role st key sess params
    = { s with audit := s.audit ++ [s.auditEntry action role st key sess params], regs := r } := by
  rw [s.auditCell_eq action role st key sess params h]
  obtain ⟨r, e⟩ := (onlyRegs_setHead _ _).trans (onlyRegs_setPair _ _ _)
  exact ⟨r, e⟩

theorem regsBut_auditCell (h : s.audit.length < 262144) : RegsBut s (s.auditCell action role st key sess params) auditRegs := by
  rw [s.auditCell_eq action role st key sess params h]
  have h0 : RegsBut s { s with audit := s.audit ++ [s.auditEntry action role st key sess params] } auditRegs :=
    regsBut_of_regs _ rfl
  exact (h0.trans (regsBut_setHead _ _ _ (by decide))).trans (regsBut_setPair _ _ _ _ (by decide) (by decide))

theorem State.auditAppend_audit (h : s.audit.length < 262144) : (s.auditAppend action role st key sess params).audit
    = s.audit ++ [s.auditEntry action role st key sess params] := by
  obtain ⟨r, e⟩ := s.auditCell_parts action role st key sess params h
  rw [State.auditAppend, State.ev_audit, e]

/-- The record's new entry: its number, action and role, and the head that it chains to. -/
theorem State.auditAppend_entry (h : s.audit.length < 262144) :
    ∃ e, (s.auditAppend action role st key sess params).audit = s.audit ++ [e] ∧ slice e 32 32 = s.auditHead
      ∧ field e 16 2 = action % 2 ^ 16 ∧ field e 18 1 = role % 2 ^ 8 ∧ field e 0 8 = s.pair Reg.secAuditCountLoOff :=
  ⟨_, s.auditAppend_audit action role st key sess params h, s.auditEntry_head .., s.auditEntry_action .., s.auditEntry_role ..,
    s.auditEntry_seq ..⟩

/-- An audit entry and its event change no memory, nothing of the start, and the registers of the audit alone. -/
theorem State.auditAppend_frame (h : s.audit.length < 262144) :
    (s.auditAppend action role st key sess params).mem = s.mem ∧ (s.auditAppend action role st key sess params).start = s.start
      ∧ RegsBut s (s.auditAppend action role st key sess params) auditRegs := by
  refine ⟨?_, ?_, (regsBut_auditCell s action role st key sess params h).trans (regsBut_ev _ _ _ _ _ _ _ (by decide))⟩ <;>
    obtain ⟨r, e⟩ := s.auditCell_parts action role st key sess params h
  · rw [State.auditAppend, State.ev_mem, e]
  · rw [State.auditAppend, State.ev_start, e]

theorem State.auditAppend_event (h : s.audit.length < 262144) (hr : s.room 1 = true) :
    ∃ q ∈ (s.auditAppend action role st key sess params).evq, ∃ x ∈ q, x.code = 0x0B01 := by
  obtain ⟨r, e⟩ := s.auditCell_parts action role st key sess params h
  have hq : (s.auditCell action role st key sess params).evq = s.evq := by rw [e]
  have hroom : (s.auditCell action role st key sess params).room 1 = true := (State.room_of_evq hq 1).trans hr
  obtain ⟨q, hq, x, hx, hcode, -⟩ := State.hasEvent_ev _ 0x0B01 0 (action + role * 2 ^ 16) (s.pair Reg.secAuditCountLoOff) st hroom
  exact ⟨q, hq, x, hx, hcode⟩

end

theorem State.auditAct_ok (i action : Nat) (st : Status) (params : List Byte) (h : s.auditBad = false) :
    s.auditAct i action st params = (s.auditAppend action (s.auditRole i) (stCode st) (s.sess i).key i params, st) := by
  simp [State.auditAct, h]

/-- The state in which an entry could not be written: counted, with event 0x0B06. -/
def State.auditLost (s : State) (action : Nat) : State :=
  ({ s with auditBad := false }.bump Reg.secAuditFailsCount).ev 0x0B06 0 action 15 0

theorem State.auditLost_fails (action : Nat) :
    (s.auditLost action).fld Reg.secAuditFailsCount = min (s.fld Reg.secAuditFailsCount + 1) (2 ^ 32 - 1) := by
  rw [State.auditLost, State.fld_ev _ _ _ _ _ _ _ (by decide) (by decide), State.fld_bump _ _ (by decide) (by decide)]
  rfl

theorem State.auditLost_fld (action : Nat) (f : Fld) (h : f.off ≠ Reg.evrDroppedCount.off) (h0 : f.off ≠ Reg.evrQueueHwmF0.off)
    (h1 : f.off ≠ Reg.secAuditFailsCount.off) : (s.auditLost action).fld f = s.fld f := by
  rw [State.auditLost, State.fld_ev _ _ _ _ _ _ _ h h0, State.fld, State.reg_bump_ne _ _ _ h1]
  rfl

theorem State.auditLost_hasEvent (action : Nat) (h : s.room 1 = true) : (s.auditLost action).hasEvent 0x0B06 0 action 15 0 := by
  have hq : ({ s with auditBad := false }.bump Reg.secAuditFailsCount).evq = s.evq := State.bump_evq _ _
  exact State.hasEvent_ev _ _ _ _ _ _ ((State.room_of_evq hq 1).trans h)

theorem State.auditAct_bad (i action : Nat) (st : Status) (params : List Byte) (h : s.auditBad = true) :
    s.auditAct i action st params = (s.auditLost action, .state) := by
  rw [State.auditAct, if_pos h]; rfl

/-! ### A write from outside (R27, R463, R465) -/

theorem State.mayWrite_of_started (r : Requester) (off : Nat) (h : s.startFailed = false) : s.mayWrite r off = true := by
  cases r <;> simp [State.mayWrite, h]

/-- A write of a requester that is not audited: no session on the management port, or an operator. -/
theorem State.carry_unaudited (r : Requester) (off v : Nat) (act : State → State × Status) (h : s.startFailed = false)
    (hr : s.mgmtRole r = none ∨ s.mgmtRole r = some 0) : s.carry r off v .write act = act s := by
  unfold State.carry
  rw [if_neg (by simp [s.mayWrite_of_started r off h])]
  cases r with
  | session i => rcases hr with hr | hr <;> simp [hr, sessOf]
  | i3c => rfl
  | firmware u => rfl

/-- An installer is a session. -/
theorem State.session_of_isInst {r : Requester} (h : s.isInst r = true) :
    ∃ i, r = .session i ∧ s.sessRole i = 1 ∧ s.mgmtRole (.session i) = some 1 := by
  have hr : s.mgmtRole r = some 1 := by simpa [State.isInst] using h
  cases r with
  | session i =>
    refine ⟨i, rfl, ?_, hr⟩
    unfold State.mgmtRole at hr
    dsimp only at hr
    split_ifs at hr
    simpa using hr
  | i3c => cases hr
  | firmware u => cases hr

section
variable (i off v : Nat) (act : State → State × Status) (h : s.startFailed = false) (hr : s.mgmtRole (.session i) = some 1)
include h hr

/-- A write of an installer: its entry stands before its effect, and the action is refused when the entry cannot be written. -/
theorem State.carry_inst (t : State × Status) (ht : s.auditAct i 1 (act s).2 (natLe 4 off ++ natLe 4 v) = t) :
    s.carry (.session i) off v .write act = if t.2 = (act s).2 then ((act t.1).1, (act s).2) else t := by
  unfold State.carry
  rw [if_neg (by simp [s.mayWrite_of_started _ off h])]
  simp [hr, sessOf, ht]

theorem State.carry_inst_ok (hrole : s.sessRole i = 1) (ha : (act s).2 = .ok) (hb : s.auditBad = false) :
    s.carry (.session i) off v .write act
      = ((act (s.auditAppend 1 2 0 (s.sess i).key i (natLe 4 off ++ natLe 4 v))).1, .ok) := by
  have hrole2 : s.auditRole i = 2 := by rw [State.auditRole, hrole]
  rw [s.carry_inst i off v act h hr _ (s.auditAct_ok _ _ _ _ hb), if_pos rfl, ha, hrole2]
  rfl

theorem State.carry_inst_lost (ha : (act s).2 = .ok) (hb : s.auditBad = true) :
    s.carry (.session i) off v .write act = (s.auditLost 1, .state) := by
  rw [s.carry_inst i off v act h hr _ (s.auditAct_bad _ _ _ _ hb), if_neg fun e => by cases e.trans ha]

end

theorem State.writeReg_memEvents (r : Requester) (v : Nat) (hv : v < 2 ^ 32) (hr : isI3c r = false) :
    s.writeReg r Reg.memEventsOff v
      = s.carry r Reg.memEventsOff v .write (gate (s.isOp r || s.isInst r) (State.doW1c Reg.memEventsOff 0x1F v)) := by
  have hh : regHere Reg.memEventsOff = true := by decide +kernel
  unfold State.writeReg
  dsimp only
  rw [Nat.mod_eq_of_lt hv, if_neg (by simp [hh, hr])]
  rfl

theorem State.writeReg_memScrubCtrl (r : Requester) (v : Nat) (hv : v < 2 ^ 32) (hr : isI3c r = false) :
    s.writeReg r Reg.memScrubCtrlOff v
      = s.carry r Reg.memScrubCtrlOff v .write (gate (s.isInst r) (State.doRange Reg.memScrubCtrlPeriodH 1 24 v)) := by
  have hh : regHere Reg.memScrubCtrlOff = true := by decide +kernel
  unfold State.writeReg
  dsimp only
  rw [Nat.mod_eq_of_lt hv, if_neg (by simp [hh, hr])]
  rfl

/-- MEM_SCRUB_CTRL takes a period of 1 to 24 hours. -/
theorem State.doRange_memScrubCtrl (v : Nat) (hlo : 1 ≤ v % 32) (hhi : v % 32 ≤ 24) :
    State.doRange Reg.memScrubCtrlPeriodH 1 24 v s = (s.setFld Reg.memScrubCtrlPeriodH (v % 32), .ok) := by
  have hb : bits v Reg.memScrubCtrlPeriodH.hi Reg.memScrubCtrlPeriodH.lo = v % 32 := by simp [bits, Reg.memScrubCtrlPeriodH]
  simp only [State.doRange, hb]
  rw [if_pos ⟨hlo, hhi⟩]

/-- A register outside what I3C reaches refuses it. -/
theorem State.writeReg_i3c (off v : Nat) (h : i3cReach off = false) : s.writeReg .i3c off v = (s, .access) := by
  unfold State.writeReg
  dsimp only
  rw [if_pos (.inr ⟨rfl, by simp [h]⟩)]

theorem State.tryWarm_of_none (h : s.start.warmWait = false) : s.tryWarm = s := by
  rw [State.tryWarm, if_neg (by simp [h])]

/-- REGISTER_WRITE of a register other than RST_CMD, no warm reset waiting: the write, its answer, and the outputs latched. -/
theorem exec_registerWrite (r : Requester) (off v : Nat) (u : State) (st : Status) (hp : s.powered = true) (ho : off ≠ Reg.rstCmdOff)
    (hw : s.arbGrant.writeReg r off v = (u, st)) (hs : u.start.warmWait = false) :
    exec (.registerWrite r off v) s = .next (State.latch s (u.answer r off v st)) := by
  have e : exec (.registerWrite r off v) s = execRegisterWrite r off v s := rfl
  rw [e, execRegisterWrite]
  dsimp only
  rw [if_neg ho, s.granted_powered _ hp, hw, State.tryWarm_of_none _ (by simpa using hs)]

theorem latch_answer_mem (old : State) (r : Requester) (off v : Nat) (st : Status) :
    .access r off v st ∈ (State.latch old (s.answer r off v st)).wire := by
  rw [State.latch_wire]
  exact List.mem_append_right _ List.mem_cons_self

end Sys2Proof.Machine
end

section
/-! Host reads, quotes and the register writes of requesters: a theorem for each clause, then the obligation. -/

namespace Sys2Proof.Machine

variable {s g : State}

/-! ### Commands of a session -/

section
variable (o : Origin) (hp : s.powered = true) (hg : g = s.arbGrant)
include hp hg

theorem readRegs_answers (off : Nat) (ht : g.takes o 0x61 = true) (v : Nat) (st : Status)
    (h : (g.begun o 0x61).readReg (.session o.sess) off = (g.begun o 0x61, v, st)) :
    ∃ t, exec (.readRegs o [off]) s = .next t ∧ t.result o 0x61 st {} [] (natLe 4 v)
      ∧ t = { g with inProg := t.inProg, latches := t.latches, outSeq := t.outSeq } := by
  subst hg
  refine ⟨_, s.granted_hostCmd o 0x61 _ hp ht, latch_finish_begun s _ _ o 0x61 st {} [] (natLe 4 v) ?_⟩
  rw [State.doReadRegs_single _ o off _ v st h]

theorem writeRegs_answers (a v b w : Nat) (u1 u2 : State) (st : Status) (ht : g.takes o 0x63 = true)
    (hport : g.fld (Reg.hstSessionStatePort o.sess) = 8) (h1 : (g.begun o 0x63).writeReg (.session o.sess) a v = (u1, .ok))
    (h2 : u1.writeReg (.session o.sess) b w = (u2, st)) (hin : (⟨o, 0x63, none⟩ : Progress) ∈ u2.inProg) :
    ∃ t, exec (.writeRegs o [(a, v), (b, w)]) s = .next t ∧ t.result o 0x63 st {} (natLe 2 (if st = .ok then 2 else 1)) []
      ∧ t = { u2 with inProg := t.inProg, latches := t.latches, outSeq := t.outSeq } := by
  subst hg
  refine ⟨_, s.granted_hostCmd o 0x63 _ hp ht, latch_finish s u2 _ o 0x63 st {} _ [] hin ?_⟩
  rw [State.doWriteRegs_pair _ o a v b w u1 u2 st (by rwa [State.begun_fld]) h1 h2]

theorem eventRead_answers (first n : Nat) (ht : g.takes o 0x60 = true) (h : 0 < n) (h' : n ≤ 256) :
    ∃ t, exec (.eventRead o first n) s = .next t ∧ t.result o 0x60 .ok {} [] (g.recordsFrom first n)
      ∧ t = { g with inProg := t.inProg, latches := t.latches, outSeq := t.outSeq } := by
  subst hg
  refine ⟨_, s.granted_hostCmd o 0x60 _ hp ht, latch_finish_begun s _ _ o 0x60 .ok {} [] _ ?_⟩
  rw [State.doEventRead_ok _ o first n h h']
  rfl

theorem attest_answers (nonce : Nat) (ht : g.takes o 0x70 = true) (hm : g.flag Reg.secStatusMonitorMismatch = false)
    (hr : g.room 1 = true) :
    ∃ t rest, exec (.attest o nonce) s = .next t ∧ t.result o 0x70 .ok {} [] ((g.begun o 0x70).quoteBody nonce ++ rest)
      ∧ 64 ≤ rest.length ∧ t.fld Reg.secQuotesCount = min (s.fld Reg.secQuotesCount + 1) (2 ^ 32 - 1)
      ∧ t.hasEvent 0x0B0A 0 o.sess nonce 0
      ∧ t = { s with regs := t.regs, inProg := t.inProg, evq := t.evq, free := t.free, latches := t.latches, outSeq := t.outSeq } := by
  subst hg
  have hf := State.quoted_fld (s.arbGrant.begun o 0x70) o nonce
  rw [State.begun_fld, s.fld_arbGrant _ (by decide)] at hf
  have hframe := State.quoted_eq (s.arbGrant.begun o 0x70) o nonce hr
  have hq := State.quoted_hasEvent (s.arbGrant.begun o 0x70) o nonce hr
  have hbody := State.doAttest_ok (s.arbGrant.begun o 0x70) o nonce (by rwa [State.begun_flag])
  generalize (s.arbGrant.begun o 0x70).quoted o nonce = u at *
  have hin : (⟨o, 0x70, none⟩ : Progress) ∈ u.inProg := by
    obtain ⟨r, q, n, e⟩ := hframe
    rw [e]; exact s.arbGrant.mem_begun o 0x70
  obtain ⟨hres, ht'⟩ := latch_finish s u _ o 0x70 .ok {} [] _ hin (congrArg (State.latch s) hbody)
  refine ⟨_, natLe 64 (Config.freeValue s.arbGrant.free) ++ idChain, s.granted_hostCmd o 0x70 _ hp ht, hres, by simp, ?_, ?_, ?_⟩
  · rw [hbody, State.latch_fld, State.finish_fld, hf]
  · unfold State.hasEvent
    rw [hbody, State.latch_evq]
    exact hq
  · generalize State.latch s _ = t at *
    obtain ⟨r, q, n, rfl⟩ := hframe
    obtain ⟨r', e⟩ := onlyRegs_arbGrant s
    rw [e] at ht'
    rw [ht']
    rfl
end

/-! ### Register writes of requesters -/

theorem State.startFailed_arbGrant (s : State) : s.arbGrant.startFailed = s.startFailed := by
  rw [State.startFailed, State.startFailed, State.flag, State.flag, s.fld_arbGrant _ (by decide)]

/-- An answer to an access sent, and the outputs latched: nothing else changes. -/
theorem latch_answer_eq (old u t : State) (r : Requester) (off v : Nat) (st : Status)
    (ht : t = State.latch old (u.answer r off v st)) : t = { u with wire := t.wire, latches := t.latches, outSeq := t.outSeq } := by
  obtain ⟨l, n, e⟩ := (u.answer r off v st).latch_eq old
  rw [ht, e]; rfl

/-- The same after an update of registers alone. -/
theorem latch_answer_regs (s u t : State) (r : Requester) (off v : Nat) (st : Status) (h : OnlyRegs s u)
    (ht : t = State.latch s (u.answer r off v st)) :
    t = { s with regs := t.regs, wire := t.wire, latches := t.latches, outSeq := t.outSeq } := by
  obtain ⟨rs, rfl⟩ := h
  obtain ⟨l, n, e⟩ := State.latch_eq (State.answer _ r off v st) s
  rw [ht, e]; rfl

theorem State.isI3c_of_mgmtRole (s : State) {r : Requester} {x : Nat} (h : s.mgmtRole r = some x) : isI3c r = false := by
  cases r with
  | session i => rfl
  | firmware u => rfl
  | i3c => cases h

section
variable (r : Requester) (v : Nat) (hp : s.powered = true) (hg : g = s.arbGrant) (hw : s.start.warmWait = false) (hv : v < 2 ^ 32)
  (hs : s.startFailed = false)
include hp hg hw hv hs

theorem memEvents_refused (hr : g.mgmtRole r = none) :
    ∃ t, exec (.registerWrite r Reg.memEventsOff v) s = .next t ∧ .access r Reg.memEventsOff v .access ∈ t.wire
      ∧ t = { g with wire := t.wire, latches := t.latches, outSeq := t.outSeq } := by
  subst hg
  have hwrite : s.arbGrant.writeReg r Reg.memEventsOff v = (s.arbGrant, .access) := by
    cases hi : isI3c r with
    | true =>
      have he : r = .i3c := by simpa [isI3c] using hi
      rw [he, State.writeReg_i3c _ _ _ (by decide)]
    | false =>
      have hop : s.arbGrant.isOp r = false := by simp [State.isOp, hr]
      have hinst : s.arbGrant.isInst r = false := by simp [State.isInst, hr]
      rw [State.writeReg_memEvents _ r v hv hi, State.carry_unaudited _ r _ _ _ (s.startFailed_arbGrant.trans hs) (.inl hr), hop,
        hinst]
      rfl
  exact ⟨_, exec_registerWrite s r Reg.memEventsOff v _ .access hp (by decide) hwrite (by rw [State.arbGrant_start, hw]),
    latch_answer_mem _ s r _ v .access, latch_answer_eq s _ _ r _ v .access rfl⟩

theorem memEvents_operator (hr : g.isOp r = true) :
    ∃ t, exec (.registerWrite r Reg.memEventsOff v) s = .next t ∧ .access r Reg.memEventsOff v .ok ∈ t.wire
      ∧ t.reg Reg.memEventsOff = s.reg Reg.memEventsOff &&& ~~~ (BitVec.ofNat 32 v &&& 0x1F#32)
      ∧ RegsBut s t (grantRegs ++ [Reg.memEventsOff])
      ∧ t = { s with regs := t.regs, wire := t.wire, latches := t.latches, outSeq := t.outSeq } := by
  subst hg
  have hrole : s.arbGrant.mgmtRole r = some 0 := by simpa [State.isOp] using hr
  have hwrite : s.arbGrant.writeReg r Reg.memEventsOff v = (s.arbGrant.writeClear Reg.memEventsOff 0x1F v, .ok) := by
    rw [State.writeReg_memEvents _ r v hv (State.isI3c_of_mgmtRole _ hrole),
      State.carry_unaudited _ r _ _ _ (s.startFailed_arbGrant.trans hs) (.inr hrole), hr]
    rfl
  have honly : OnlyRegs s (s.arbGrant.writeClear Reg.memEventsOff 0x1F v) := (onlyRegs_arbGrant s).trans (onlyRegs_setReg _ _ _)
  refine ⟨_, exec_registerWrite s r Reg.memEventsOff v _ .ok hp (by decide) hwrite (by rw [honly.eq, hw]),
    latch_answer_mem _ s r _ v .ok, ?_, fun off ho => ?_, ?_⟩
  · rw [State.latch_reg, State.answer_reg, State.writeClear, State.reg_setReg_same, s.reg_arbGrant _ (by decide)]
  · obtain ⟨ho1, ho2⟩ : off ∉ grantRegs ∧ off ≠ Reg.memEventsOff := by simpa [not_or] using ho
    rw [State.latch_reg, State.answer_reg, State.writeClear, State.reg_setReg_ne _ _ _ _ ho2, s.reg_arbGrant off ho1]
  · exact latch_answer_regs s _ _ r Reg.memEventsOff v .ok honly rfl

variable (hr : g.isInst r = true)
include hr

theorem memScrubCtrl_installer (hlo : 1 ≤ v % 32) (hhi : v % 32 ≤ 24) (hlen : s.audit.length < 262144) (hbad : s.auditBad = false)
    (hroom : s.room 1 = true) :
    ∃ t e, exec (.registerWrite r Reg.memScrubCtrlOff v) s = .next t ∧ .access r Reg.memScrubCtrlOff v .ok ∈ t.wire
      ∧ t.fld Reg.memScrubCtrlPeriodH = v % 32 ∧ t.audit = s.audit ++ [e] ∧ slice e 32 32 = g.auditHead
      ∧ field e 16 2 = 1 ∧ field e 18 1 = 2 ∧ field e 0 8 = g.pair Reg.secAuditCountLoOff
      ∧ (∃ q ∈ t.evq, ∃ x ∈ q, x.code = 0x0B01)
      ∧ RegsBut s t (grantRegs ++ auditRegs ++ [Reg.memScrubCtrlOff]) ∧ t.mem = s.mem := by
  subst hg
  obtain ⟨i, rfl, hrole, hsome⟩ := State.session_of_isInst _ hr
  have hlen' : s.arbGrant.audit.length < 262144 := by rwa [State.arbGrant_audit]
  have hroom' : s.arbGrant.room 1 = true := (State.room_of_evq s.arbGrant_evq 1).trans hroom
  have hwrite := State.carry_inst_ok s.arbGrant i Reg.memScrubCtrlOff v (State.doRange Reg.memScrubCtrlPeriodH 1 24 v)
    (s.startFailed_arbGrant.trans hs) hsome hrole rfl (by rw [State.arbGrant_auditBad, hbad])
  obtain ⟨e, haudit, hhead, haction, hrole2, hseq⟩ :=
    State.auditAppend_entry s.arbGrant 1 2 0 (s.arbGrant.sess i).key i (natLe 4 Reg.memScrubCtrlOff ++ natLe 4 v) hlen'
  obtain ⟨hmem, hstart, hregs⟩ :=
    State.auditAppend_frame s.arbGrant 1 2 0 (s.arbGrant.sess i).key i (natLe 4 Reg.memScrubCtrlOff ++ natLe 4 v) hlen'
  have hevent :=
    State.auditAppend_event s.arbGrant 1 2 0 (s.arbGrant.sess i).key i (natLe 4 Reg.memScrubCtrlOff ++ natLe 4 v) hlen' hroom'
  generalize s.arbGrant.auditAppend 1 2 0 (s.arbGrant.sess i).key i (natLe 4 Reg.memScrubCtrlOff ++ natLe 4 v) = u at *
  rw [State.doRange_memScrubCtrl u v hlo hhi] at hwrite
  have hw' : s.arbGrant.writeReg (.session i) Reg.memScrubCtrlOff v = (u.setFld Reg.memScrubCtrlPeriodH (v % 32), .ok) := by
    rw [State.writeReg_memScrubCtrl _ _ v hv rfl, hr]
    exact hwrite
  refine ⟨_, e, exec_registerWrite s _ _ v _ .ok hp (by decide) hw' (by rw [State.setFld_start, hstart, State.arbGrant_start, hw]),
    latch_answer_mem _ s _ _ v .ok, ?_, ?_, hhead, haction, hrole2, hseq, ?_, ?_, ?_⟩
  · rw [State.latch_fld, State.answer_fld, State.fld_setFld _ _ _ (by decide) (by decide)]
    exact Nat.mod_mod _ _
  · rw [State.latch_audit, State.answer_audit, State.setFld_audit, haudit, State.arbGrant_audit]
  · rwa [State.latch_evq, State.answer_evq, State.setFld_evq]
  · refine RegsBut.trans (t := s.arbGrant) ?_ (RegsBut.trans (t := u) ?_ ?_)
    · exact (regsBut_arbGrant s).mono (by simp)
    · exact hregs.mono (by simp)
    · exact (regsBut_setFld u Reg.memScrubCtrlPeriodH (v % 32) _ (by decide)).trans (regsBut_of_regs _ (by simp))
  · rw [State.latch_mem, State.answer_mem, State.setFld_mem, hmem, State.arbGrant_mem]

theorem memScrubCtrl_unaudited (hbad : s.auditBad = true) (hroom : s.room 1 = true) :
    ∃ t, exec (.registerWrite r Reg.memScrubCtrlOff v) s = .next t ∧ .access r Reg.memScrubCtrlOff v .state ∈ t.wire
      ∧ t.fld Reg.memScrubCtrlPeriodH = s.fld Reg.memScrubCtrlPeriodH ∧ t.audit = s.audit
      ∧ t.fld Reg.secAuditFailsCount = min (s.fld Reg.secAuditFailsCount + 1) (2 ^ 32 - 1) ∧ t.hasEvent 0x0B06 0 1 15 0 := by
  subst hg
  obtain ⟨i, rfl, -, hsome⟩ := State.session_of_isInst _ hr
  have hwrite : s.arbGrant.writeReg (.session i) Reg.memScrubCtrlOff v = (s.arbGrant.auditLost 1, .state) := by
    rw [State.writeReg_memScrubCtrl _ _ v hv rfl, hr]
    exact State.carry_inst_lost s.arbGrant i _ v _ (s.startFailed_arbGrant.trans hs) hsome rfl (by rw [State.arbGrant_auditBad, hbad])
  refine ⟨_, exec_registerWrite s _ _ v _ .state hp (by decide) hwrite (by simp [State.auditLost, hw]),
    latch_answer_mem _ s _ _ v .state, ?_, ?_, ?_, ?_⟩
  · rw [State.latch_fld, State.answer_fld, State.auditLost_fld _ _ _ (by decide) (by decide) (by decide),
      s.fld_arbGrant _ (by decide)]
  · simp [State.auditLost]
  · rw [State.latch_fld, State.answer_fld, State.auditLost_fails, s.fld_arbGrant _ (by decide)]
  · unfold State.hasEvent
    rw [State.latch_evq, State.answer_evq]
    exact State.auditLost_hasEvent _ 1 ((State.room_of_evq s.arbGrant_evq 1).trans hroom)

end

/-- Settles O31: each command of a session by what its meaning answers, each register write by how it is carried out and audited. -/
theorem hostReadsAndRegisterWrites : Obligations.HostReadsAndRegisterWrites := by
  unfold Obligations.HostReadsAndRegisterWrites
  refine ⟨fun o s g hp hg => ⟨fun off ht hl hh => ⟨fun hm => ?_, fun hm => ?_⟩, ?_, ?_, ?_⟩,
    fun r v s g hp hg hw hv hs => ⟨?_, ?_, ?_⟩⟩
  · exact readRegs_answers o hp hg off ht _ .ok (State.readReg_word _ _ off hl hh hm)
  · exact readRegs_answers o hp hg off ht 0 .access (State.readReg_refused _ _ off hm)
  · exact writeRegs_answers o hp hg
  · exact eventRead_answers o hp hg
  · exact attest_answers o hp hg
  · exact memEvents_refused r v hp hg hw hv hs
  · exact memEvents_operator r v hp hg hw hv hs
  · exact fun hr hlo hhi hlen =>
      ⟨memScrubCtrl_installer r v hp hg hw hv hs hr hlo hhi hlen, memScrubCtrl_unaudited r v hp hg hw hv hs hr⟩

end Sys2Proof.Machine
end

section
/-! Power: a state in which the halts' statement fails. -/

namespace Sys2Proof.Machine

/-- A group with a collective under way whose descriptor asks for nothing. -/
def strayGroup : Group :=
  { addr := 0, log2 := 0, rank := 0, rings := []
    run := some
      { entry := 0, check := 0, phase := .reduce, axis := 0, step := 0
        desc :=
          { control := 0, axes := 0, rows := 0, cols := 0, stream := 0, src := 0, srcFrames := 0, dst := 0, dstFrames := 0
            completion := 0, wait := 0, signals := [], work := 0, reservedZero := true } } }

/-- The state after reset with that group filed under 0x3FF8.  GROUP_CREATE gives numbers below 64 alone (R283), so no run reaches
it. -/
def strayState : State := { State.reset with groups := [(0x3FF8, strayGroup)] }

/-- The brake flag of an outcome's next state. -/
def brakeAfter : Host.Outcome State Fault Refusal → Bool
  | .next t => t.flag Reg.pwrStatusBrake
  | _ => true

/-- The register that holds the state of a group of that number would be PWR_STATUS. -/
theorem carGroupStateOff_stray : Reg.carGroupStateOff 0x3FF8 = Reg.pwrStatusOff := rfl

/-- At 41 V the sample brakes and halts compute; the halt cuts the group's collective, and BROKEN (4), written as that group's state,
clears bit 0 of PWR_STATUS, the brake. -/
theorem brakeAfter_strayState : brakeAfter (exec (.inputSample 4100 0 10 0) strayState) = false := by decide +kernel

/-- Refutes O58: it speaks of every powered state, also of one that lists a running group whose number is 64 or more.  In
`strayState` an input of 41 V held for 10 µs halts compute but does not leave the module braking. -/
theorem not_brakesAndHalts : ¬ Obligations.BrakesAndHalts := by
  unfold Obligations.BrakesAndHalts
  intro h
  obtain ⟨hsample, -⟩ := h strayState (by decide +kernel)
  obtain ⟨-, -, hlow, -⟩ := hsample 4100 0 10 0
  obtain ⟨t, ht, -, hbrake, -⟩ := hlow (by decide) (by decide) (by decide)
  have hclear := brakeAfter_strayState
  rw [ht] at hclear
  exact Bool.noConfusion (hbrake.symm.trans hclear)

end Sys2Proof.Machine
end

section
/-! SUPPORT. Rules of the shared operations: what reads the registers alone, what iteration leaves, and events that wait. -/

namespace Sys2Proof.Machine

variable (s : State)

/-! ### What reads the registers alone -/

section
variable {s} {t : State} (h : t.regs = s.regs)
include h

theorem State.reg_of_regs (off : Nat) : t.reg off = s.reg off := by rw [State.reg, h, State.reg]

theorem State.fld_of_regs (f : Fld) : t.fld f = s.fld f := by rw [State.fld, State.reg_of_regs h, State.fld]

theorem State.pair_of_regs (lo : Nat) : t.pair lo = s.pair lo := by
  rw [State.pair, State.reg_of_regs h, State.reg_of_regs h, State.pair]

end

theorem RegsBut.fld {s t : State} {os : List Nat} (h : RegsBut s t os) {f : Fld} (hf : f.off ∉ os) : t.fld f = s.fld f := by
  rw [State.fld, h _ hf, State.fld]

theorem State.unitSrc_of_fld {s t : State} (ha : t.fld Reg.ctlStatusStateA = s.fld Reg.ctlStatusStateA)
    (hb : t.fld Reg.ctlStatusStateB = s.fld Reg.ctlStatusStateB) : t.unitSrc = s.unitSrc := by
  rw [State.unitSrc, State.activeUnit, ha, hb, ← State.activeUnit, ← State.unitSrc]

theorem RegsBut.unitSrc {s t : State} {os : List Nat} (h : RegsBut s t os) (ho : Reg.ctlStatusOff ∉ os) : t.unitSrc = s.unitSrc :=
  State.unitSrc_of_fld (h.fld ho) (h.fld ho)

theorem regsBut_bump (f : Fld) (os : List Nat) (h : f.off ∈ os) : RegsBut s (s.bump f) os := regsBut_setFld s f _ os h

theorem onlyRegs_bump (f : Fld) : OnlyRegs s (s.bump f) := onlyRegs_setFld s f _

/-! ### What iteration leaves -/

/-- What no pass changes, the iteration leaves. -/
theorem State.each_frame {α β : Type} (p : State → β) (xs : List α) (f : State → α → State) (h : ∀ t x, p (f t x) = p t) :
    p (s.each xs f) = p s := by
  induction xs generalizing s with
  | nil => rfl
  | cons x xs ih => exact (ih (f s x)).trans (h s x)

/-! ### Events that wait -/

theorem exists_mem_lset_append {α : Type} (qs : List (List α)) (i : Nat) (v : α) {q : List α} {e : α} (hq : q ∈ qs) (he : e ∈ q) :
    ∃ q' ∈ lset qs i (qs.getD i [] ++ [v]), e ∈ q' := by
  induction qs generalizing i with
  | nil => cases hq
  | cons x qs ih =>
    cases i with
    | zero =>
      rcases List.mem_cons.1 hq with rfl | hq
      · exact ⟨_, List.mem_cons_self, List.mem_append_left _ he⟩
      · exact ⟨q, List.mem_cons_of_mem _ hq, he⟩
    | succ i =>
      rcases List.mem_cons.1 hq with rfl | hq
      · exact ⟨q, List.mem_cons_self, he⟩
      · obtain ⟨q', hq', he'⟩ := ih i hq
        exact ⟨q', List.mem_cons_of_mem _ hq', he'⟩

/-- An event that waits still waits after another is raised, whether that finds room or not. -/
theorem State.hasEvent_ev_of_hasEvent (c r x y z code src p0 p1 p2 : Nat) (h : s.hasEvent code src p0 p1 p2) :
    (s.ev c r x y z).hasEvent code src p0 p1 p2 := by
  obtain ⟨q, hq, e, he, hfields⟩ := h
  unfold State.ev
  dsimp only
  split_ifs
  · exact ⟨q, by rwa [State.evDrop_evq], e, he, hfields⟩
  · obtain ⟨q', hq', he'⟩ := exists_mem_lset_append s.evq (s.evDie c r) (s.evOf c r x y z) hq he
    exact ⟨q', by rwa [State.evMark_evq], e, he', hfields⟩

theorem State.hasEvent_of_evq {s t : State} (h : t.evq = s.evq) {code src p0 p1 p2 : Nat} (hs : s.hasEvent code src p0 p1 p2) :
    t.hasEvent code src p0 p1 p2 := by
  unfold State.hasEvent
  rwa [h]

end Sys2Proof.Machine
end

section
/-! SUPPORT. Updates that change some fields of the registers and, beside the registers, events and the power controls alone. -/

namespace Sys2Proof.Machine

variable (s : State)

/-! ### Which fields an update leaves -/

/-- Writing the field `f` leaves the field `g`: another register, or no bit in common. -/
def apart (f g : Fld) : Bool :=
  g.off != f.off || (decide (f.lo ≤ f.hi ∧ f.hi < 32 ∧ g.lo ≤ g.hi) && decide (g.hi < f.lo ∨ f.hi < g.lo))

/-- A field apart from each of those listed reads in `t` as in `s`. -/
def FldsBut (s t : State) (fs : List Fld) : Prop := ∀ g : Fld, (∀ f ∈ fs, apart f g = true) → t.fld g = s.fld g

theorem State.fld_setFld_apart (f g : Fld) (v : Nat) (h : apart f g = true) : (s.setFld f v).fld g = s.fld g := by
  simp only [apart, Bool.or_eq_true, bne_iff_ne, Bool.and_eq_true, decide_eq_true_eq] at h
  rcases h with h | ⟨⟨hf, hi, hg⟩, hd⟩
  · exact s.fld_setFld_off f g v h
  · exact s.fld_setFld_bits f g v hi hf hg hd

theorem State.flag_setFld_apart (f g : Fld) (v : Nat) (h : apart f g = true) : (s.setFld f v).flag g = s.flag g := by
  rw [State.flag, s.fld_setFld_apart f g v h, State.flag]

theorem State.flag_setFlag_apart (f g : Fld) (b : Bool) (h : apart f g = true) : (s.setFlag f b).flag g = s.flag g :=
  s.flag_setFld_apart f g (b2n b) h

section
variable {s} {t : State} {fs : List Fld}

theorem FldsBut.flag (h : FldsBut s t fs) {g : Fld} (hg : ∀ f ∈ fs, apart f g = true) : t.flag g = s.flag g := by
  rw [State.flag, h g hg, State.flag]

/-- A register that holds none of the fields reads as before. -/
theorem FldsBut.reg (h : FldsBut s t fs) {off : Nat} (ho : ∀ f ∈ fs, f.off ≠ off) : t.reg off = s.reg off := by
  have hword : ∀ u : State, u.fld ⟨off, 31, 0⟩ = (u.reg off).toNat := fun u => by
    have hu := (u.reg off).isLt
    simpa [State.fld, bits] using hu
  have he := h ⟨off, 31, 0⟩ fun f hf => by simp [apart, (ho f hf).symm]
  rw [hword, hword] at he
  exact BitVec.eq_of_toNat_eq he

theorem FldsBut.pair (h : FldsBut s t fs) {lo : Nat} (hl : ∀ f ∈ fs, f.off ≠ lo) (hh : ∀ f ∈ fs, f.off ≠ lo + 4) :
    t.pair lo = s.pair lo := by
  rw [State.pair, h.reg hl, h.reg hh, State.pair]

end

/-! ### Events and power controls -/

/-- `t` differs from `s` in the fields listed and, beside the registers, in the event queues, the record of dropped events and the
power controls alone. -/
def PowerChange (s t : State) (fs : List Fld) : Prop :=
  FldsBut s t fs ∧ ∃ r q l p, t = { s with regs := r, evq := q, evLost := l, power := p }

/-- The fields that raising an event may change (R492, R495). -/
def evFlds : List Fld := [Reg.evrDroppedCount, Reg.evrQueueHwmF0, Reg.evrQueueHwmF1]

theorem PowerChange.refl (fs : List Fld) : PowerChange s s fs := ⟨fun _ _ => rfl, s.regs, s.evq, s.evLost, s.power, rfl⟩

section
variable {s} {t u : State} {fs gs : List Fld}

theorem PowerChange.trans (h : PowerChange s t fs) (h' : PowerChange t u fs) : PowerChange s u fs := by
  obtain ⟨hf, r, q, l, p, rfl⟩ := h
  obtain ⟨hf', r', q', l', p', rfl⟩ := h'
  exact ⟨fun g hg => (hf' g hg).trans (hf g hg), r', q', l', p', rfl⟩

theorem PowerChange.mono (h : PowerChange s t fs) (hs : fs ⊆ gs) : PowerChange s t gs :=
  ⟨fun g hg => h.1 g fun f hf => hg f (hs hf), h.2⟩

theorem PowerChange.pins (h : PowerChange s t fs) : t.pins = s.pins := by
  obtain ⟨-, r, q, l, p, rfl⟩ := h; rfl

theorem PowerChange.groups (h : PowerChange s t fs) : t.groups = s.groups := by
  obtain ⟨-, r, q, l, p, rfl⟩ := h; rfl

theorem powerChange_of_onlyRegs (h : FldsBut s t fs) (ho : OnlyRegs s t) : PowerChange s t fs := by
  obtain ⟨r, rfl⟩ := ho
  exact ⟨h, r, s.evq, s.evLost, s.power, rfl⟩

variable (s)

theorem powerChange_setFld (f : Fld) (v : Nat) (h : f ∈ fs) : PowerChange s (s.setFld f v) fs :=
  powerChange_of_onlyRegs (fun g hg => s.fld_setFld_apart f g v (hg f h)) (onlyRegs_setFld s f v)

theorem powerChange_setFlag (f : Fld) (b : Bool) (h : f ∈ fs) : PowerChange s (s.setFlag f b) fs := powerChange_setFld s f _ h

theorem powerChange_bump (f : Fld) (h : f ∈ fs) : PowerChange s (s.bump f) fs := powerChange_setFld s f _ h

theorem powerChange_beside (q : List (List Ev)) (l : List (Nat × Nat)) (p : Power) :
    PowerChange s { s with evq := q, evLost := l, power := p } fs := ⟨fun _ _ => rfl, s.regs, q, l, p, rfl⟩

theorem powerChange_setPower (f : Power → Power) : PowerChange s (s.setPower f) fs := powerChange_beside s _ _ _

theorem powerChange_evDrop (d code : Nat) (h : Reg.evrDroppedCount ∈ fs) : PowerChange s (s.evDrop d code) fs := by
  unfold State.evDrop
  split
  exact (powerChange_bump s _ h).trans (powerChange_beside _ _ _ _)

theorem powerChange_evMark (d n : Nat) (h0 : Reg.evrQueueHwmF0 ∈ fs) (h1 : Reg.evrQueueHwmF1 ∈ fs) :
    PowerChange s (s.evMark d n) fs := by
  have h : evHwmOf d ∈ fs := by unfold evHwmOf; split_ifs <;> assumption
  unfold State.evMark
  split_ifs
  · exact powerChange_setFld s _ _ h
  · exact PowerChange.refl s fs

theorem powerChange_ev (code src p0 p1 p2 : Nat) (h : evFlds ⊆ fs) : PowerChange s (s.ev code src p0 p1 p2) fs := by
  simp only [evFlds, List.cons_subset] at h
  obtain ⟨hd, h0, h1, -⟩ := h
  unfold State.ev
  dsimp only
  split_ifs
  · exact powerChange_evDrop s _ _ hd
  · exact (powerChange_beside s _ _ _).trans (powerChange_evMark _ _ _ h0 h1)

theorem powerChange_each {α : Type} (xs : List α) (f : State → α → State) (h : ∀ t, ∀ x ∈ xs, PowerChange t (f t x) fs) :
    PowerChange s (s.each xs f) fs := by
  induction xs generalizing s with
  | nil => exact PowerChange.refl s fs
  | cons x xs ih =>
    exact (h s x List.mem_cons_self).trans (ih (f s x) fun t y hy => h t y (List.mem_cons_of_mem _ hy))

/-! ### Duty (R497 to R499, R520) -/

/-- The fields of a kiln die's duty and of what governs it. -/
def kilnFlds (k : Nat) : List Fld :=
  [Reg.pwrKilnDuty k, Reg.pwrKilnThermal k, Reg.pwrKilnBrake k, Reg.pwrKilnPoint k, Reg.pwrKilnCap k]

/-- The fields that bringing the duty in line changes. -/
def dutyFlds : List Fld := [Reg.pwrStatusDuty, Reg.pwrThrottleMsMs] ++ (List.range 4).flatMap kilnFlds

theorem powerChange_setKiln (k d : Nat) (h : kilnFlds k ⊆ fs) : PowerChange s (s.setKiln k d) fs := by
  simp only [kilnFlds, List.cons_subset] at h
  obtain ⟨hd, ht, hb, hp, hc, -⟩ := h
  exact ((((powerChange_setFld s _ _ hd).trans (powerChange_setFlag _ _ _ ht)).trans (powerChange_setFlag _ _ _ hb)).trans
    (powerChange_setFlag _ _ _ hp)).trans (powerChange_setFlag _ _ _ hc)

theorem powerChange_countThrottle (h : Reg.pwrThrottleMsMs ∈ fs) : PowerChange s s.countThrottle fs :=
  (powerChange_setPower s _).trans (powerChange_setFld _ _ _ h)

theorem powerChange_dutySync (h : dutyFlds ⊆ fs) : PowerChange s s.dutySync fs := by
  have hkiln : ∀ k ∈ List.range 4, kilnFlds k ⊆ fs := fun k hk f hf =>
    h (List.mem_append_right _ (List.mem_flatMap.2 ⟨k, hk, hf⟩))
  have hms : Reg.pwrThrottleMsMs ∈ fs := h (by decide)
  have hduty : Reg.pwrStatusDuty ∈ fs := h (by decide)
  exact (((powerChange_countThrottle s hms).trans (powerChange_setPower _ _)).trans
    (powerChange_each _ _ _ fun t k hk => powerChange_setKiln t k _ (hkiln k hk))).trans (powerChange_setFld _ _ _ hduty)

/-! ### Brake (R501) -/

/-- The fields that a brake cause changes. -/
def brakeFlds : List Fld := [Reg.pwrStatusBrake, Reg.pwrBrakesCount] ++ evFlds ++ dutyFlds

theorem powerChange_brakeBy (cause : Nat) : PowerChange s (s.brakeBy cause) brakeFlds := by
  have hpower := powerChange_setPower (fs := brakeFlds) s fun p => { p with brakeCause := Nat.lor p.brakeCause cause }
  unfold State.brakeBy
  dsimp only
  split_ifs
  · exact hpower
  · exact ((((hpower.trans (powerChange_setFlag _ _ _ (by decide))).trans (powerChange_setPower _ _)).trans
      (powerChange_bump _ _ (by decide))).trans (powerChange_ev _ _ _ _ _ _ (by decide))).trans
      (powerChange_dutySync _ (by decide))

/-- A brake cause brakes, or joins a brake. -/
theorem State.brakeBy_flag (cause : Nat) : (s.brakeBy cause).flag Reg.pwrStatusBrake = true := by
  unfold State.brakeBy
  dsimp only
  split_ifs with h
  · exact h
  · have hrest : ∀ (t : State) (f : Power → Power) (p0 p1 p2 p3 : Nat), PowerChange t
        ((((t.setPower f).bump Reg.pwrBrakesCount).ev 0x0C01 p0 p1 p2 p3).dutySync) (Reg.pwrBrakesCount :: evFlds ++ dutyFlds) :=
      fun t f p0 p1 p2 p3 => (((powerChange_setPower t f).trans (powerChange_bump _ _ (by decide))).trans
        (powerChange_ev _ _ _ _ _ _ (by decide))).trans (powerChange_dutySync _ (by decide))
    rw [(hrest _ _ _ _ _ _).1.flag (by decide)]
    exact State.flag_setFlag _ Reg.pwrStatusBrake true (by decide) (by decide)

/-! ### Alerts (R416) -/

/-- The fields that an alert changes beside its own. -/
def alertFlds : List Fld := [Reg.ctlSvcAlertActive, Reg.ctlSvcTraceEn, Reg.ctlSvcTraceStopped] ++ evFlds

theorem powerChange_alertSync (h : alertFlds ⊆ fs) : PowerChange s s.alertSync fs := by
  have hactive := powerChange_setFlag s Reg.ctlSvcAlertActive s.alertN (h (by decide))
  unfold State.alertSync
  dsimp only
  split_ifs
  · exact ((hactive.trans (powerChange_setFlag _ _ _ (h (by decide)))).trans (powerChange_setFlag _ _ _ (h (by decide)))).trans
      (powerChange_ev _ _ _ _ _ _ fun f hf => h (List.mem_append_right _ hf))
  · exact hactive

theorem powerChange_alert (f : Fld) (hf : f ∈ fs) (h : alertFlds ⊆ fs) : PowerChange s (s.alert f) fs :=
  (powerChange_setFlag s f true hf).trans (powerChange_alertSync _ h)

/-! ### Compute halt with no collective and no bank at work (R503) -/

theorem powerChange_setPoint (n : Nat) (hp : Reg.pwrStatusPoint ∈ fs) (h : evFlds ⊆ fs) : PowerChange s (s.setPoint n) fs := by
  unfold State.setPoint
  dsimp only
  split_ifs
  · exact PowerChange.refl s fs
  · exact ((powerChange_setFld s _ n hp).trans (powerChange_setPower _ _)).trans (powerChange_ev _ _ _ _ _ _ h)

/-- What the beginning of a halt does after its flag: the lowest point, the duty, its event and its alert. -/
def State.haltBegun (s : State) (cause src v who : Nat) : State :=
  (((s.setPoint 5).dutySync).ev 0x0C02 src cause v who).alert Reg.pwrAlertHalted

/-- The fields that the beginning of a halt changes beside its flag. -/
def haltFlds : List Fld := [Reg.pwrStatusPoint, Reg.pwrAlertHalted] ++ alertFlds ++ dutyFlds

theorem powerChange_haltBegun (cause src v who : Nat) (h : haltFlds ⊆ fs) : PowerChange s (s.haltBegun cause src v who) fs := by
  refine PowerChange.mono ?_ h
  exact (((powerChange_setPoint s 5 (by decide) (by decide)).trans (powerChange_dutySync _ (by decide))).trans
    (powerChange_ev _ _ _ _ _ _ (by decide))).trans (powerChange_alert _ _ (by decide) (by decide))

section
variable (cause src v who : Nat) (hg : s.groups = []) (hb : s.fld Reg.bnkStageStage = 0)
include hg hb

/-- With no group and no bank at work the halt of a new cause sets its flag, and if it is the first, begins. -/
theorem powerChange_halt_new (hf : s.flag (haltFld cause) = false) :
    PowerChange (s.setFlag (haltFld cause) true) (s.halt cause src v who) haltFlds := by
  have hbank' : (s.setFlag (haltFld cause) true).fld Reg.bnkStageStage = 0 :=
    (s.fld_setFld_apart _ _ _ (by unfold haltFld; split <;> decide)).trans hb
  unfold State.halt
  rw [if_neg (by simp [hf])]
  dsimp only
  by_cases hw : s.haltedNow = true
  · rw [if_pos hw]
    exact powerChange_setPower _ _
  · rw [if_neg hw]
    generalize ht : State.setPower _ _ = t
    have hbegun : PowerChange (s.setFlag (haltFld cause) true) (t.haltBegun cause src v who) haltFlds :=
      ht ▸ (powerChange_setPower _ _).trans (powerChange_haltBegun _ cause src v who (List.Subset.refl haltFlds))
    have hgroups : (t.haltBegun cause src v who).groups = [] := hbegun.groups.trans ((s.setFlag_groups _ _).trans hg)
    have hbank : (t.haltBegun cause src v who).fld Reg.bnkStageStage = 0 := (hbegun.1 _ (by decide)).trans hbank'
    unfold State.haltBegun at hbegun hgroups hbank
    rw [hgroups]
    rw [List.map_nil, State.each, List.foldl_nil, if_pos hbank]
    exact hbegun

theorem powerChange_halt : PowerChange s (s.halt cause src v who) (haltFld cause :: haltFlds) := by
  by_cases hf : s.flag (haltFld cause) = true
  · rw [State.halt, if_pos hf]
    exact PowerChange.refl _ _
  · exact (powerChange_setFlag s _ _ (by simp)).trans
      ((powerChange_halt_new s cause src v who hg hb (by simpa using hf)).mono (List.subset_cons_self _ _))

/-- Compute is halted for the cause. -/
theorem State.halt_flag : (s.halt cause src v who).flag (haltFld cause) = true := by
  have hapart : ∀ f ∈ haltFlds, apart f (haltFld cause) = true := by unfold haltFld; split <;> decide
  by_cases hf : s.flag (haltFld cause) = true
  · rw [State.halt, if_pos hf, hf]
  · rw [(powerChange_halt_new s cause src v who hg hb (by simpa using hf)).1.flag hapart]
    exact State.flag_setFlag s _ true (by unfold haltFld; split <;> decide) (by unfold haltFld; split <;> decide)

end

end

end Sys2Proof.Machine
end

section
/-! SUPPORT. Cold start and loss of power: what a start begins with, and what is left without power. -/

namespace Sys2Proof.Machine

variable (s : State)

/-- After reset the table of registers is empty: each reads its reset value (R26). -/
@[simp] theorem State.reset_reg (off : Nat) : State.reset.reg off = regReset off := rfl

/-! ### Pins that are low at a start (R501, R516, R537) -/

/-- The fields that low pins change. -/
def lowPinFlds : List Fld := haltFld 2 :: haltFlds ++ brakeFlds

section
variable (hg : s.groups = []) (hb : s.fld Reg.bnkStageStage = 0)

theorem powerChange_lowBrake : PowerChange s (s.when (! s.pins.brakeN) fun t => t.brakeBy 2) brakeFlds := by
  unfold State.when
  split_ifs
  · exact powerChange_brakeBy s 2
  · exact PowerChange.refl s _

theorem State.lowBrake_flag (h : s.flag Reg.pwrStatusBrake = false) :
    (s.when (! s.pins.brakeN) fun t => t.brakeBy 2).flag Reg.pwrStatusBrake = ! s.pins.brakeN := by
  unfold State.when
  split_ifs with hp
  · rw [s.brakeBy_flag 2, hp]
  · rw [h, Bool.eq_false_of_not_eq_true hp]

include hg hb

theorem powerChange_lowFlow : PowerChange s (s.when (! s.pins.flowLossN) fun t => t.halt 2 7 t.power.flow 0xFFFF)
    (haltFld 2 :: haltFlds) := by
  unfold State.when
  split_ifs
  · exact powerChange_halt s 2 7 _ _ hg hb
  · exact PowerChange.refl s _

theorem State.lowFlow_flag (h : s.flag Reg.pwrStatusHaltFlowLoss = false) :
    (s.when (! s.pins.flowLossN) fun t => t.halt 2 7 t.power.flow 0xFFFF).flag Reg.pwrStatusHaltFlowLoss = ! s.pins.flowLossN := by
  unfold State.when
  split_ifs with hp
  · rw [hp]
    exact s.halt_flag 2 7 _ _ hg hb
  · rw [h, Bool.eq_false_of_not_eq_true hp]

/-- Low pins at a start brake and halt, and change nothing but events, power controls and their fields. -/
theorem State.lowPins_change (hbrake : s.flag Reg.pwrStatusBrake = false) (hhalt : s.flag Reg.pwrStatusHaltFlowLoss = false) :
    PowerChange s s.lowPins lowPinFlds ∧ s.lowPins.flag Reg.pwrStatusBrake = ! s.pins.brakeN
      ∧ s.lowPins.flag Reg.pwrStatusHaltFlowLoss = ! s.pins.flowLossN := by
  have hfirst := powerChange_lowBrake s
  have hflag := s.lowBrake_flag hbrake
  unfold State.lowPins
  dsimp only
  generalize s.when (! s.pins.brakeN) (fun t => t.brakeBy 2) = t at hfirst hflag
  have hgroups : t.groups = [] := hfirst.groups.trans hg
  have hbank : t.fld Reg.bnkStageStage = 0 := (hfirst.1 _ (by decide)).trans hb
  have hsecond := powerChange_lowFlow t hgroups hbank
  refine ⟨(hfirst.mono (by decide)).trans (hsecond.mono (by decide)), ?_, ?_⟩
  · rw [hsecond.1.flag (by decide), hflag]
  · rw [t.lowFlow_flag hgroups hbank ((hfirst.1.flag (by decide)).trans hhalt), hfirst.pins]

end

/-! ### Power-up (R31, R33, R427) -/

/-- The registers of the saved counters (R33). -/
def counterRegs : List Nat :=
  [Reg.glbOptimeMsLoOff, Reg.glbOptimeMsHiOff, Reg.glbPowerCyclesOff, Reg.botWarmResetsOff, Reg.pwrLastShutdownOff]

/-- Operating time, power cycles, warm resets and the last shutdown put into their registers. -/
def State.putCounters (s : State) (optime cycles warm : Nat) (shutdown : Word) : State :=
  (((s.setPair Reg.glbOptimeMsLoOff optime).setFld Reg.glbPowerCyclesCount cycles).setFld Reg.botWarmResetsCount warm).setReg
    Reg.pwrLastShutdownOff shutdown

section
variable (optime cycles warm : Nat) (shutdown : Word)

theorem regsBut_putCounters : RegsBut s (s.putCounters optime cycles warm shutdown) counterRegs :=
  (((regsBut_setPair s _ _ _ (by decide) (by decide)).trans (regsBut_setFld _ _ _ _ (by decide))).trans
    (regsBut_setFld _ _ _ _ (by decide))).trans
    fun off ho => State.reg_setReg_ne _ _ _ _ fun e => ho (by rw [e]; decide)

theorem State.putCounters_cycles :
    (s.putCounters optime cycles warm shutdown).fld Reg.glbPowerCyclesCount = cycles % 2 ^ 24 := by
  rw [State.putCounters, State.fld_setReg_off _ _ _ _ (by decide), State.fld_setFld_off _ _ _ _ (by decide),
    State.fld_setFld _ _ _ (by decide) (by decide)]
  rfl

theorem State.putCounters_optime (h : optime < 2 ^ 64) :
    (s.putCounters optime cycles warm shutdown).pair Reg.glbOptimeMsLoOff = optime := by
  rw [State.putCounters, State.pair, State.reg_setReg_ne _ _ _ _ (by decide), State.reg_setReg_ne _ _ _ _ (by decide), ← State.pair,
    State.pair_setFld_ne _ _ _ _ (by decide) (by decide), State.pair_setFld_ne _ _ _ _ (by decide) (by decide),
    State.pair_setPair _ _ _ h]

end

/-- Restoring the counters changes their registers and the saved shutdown alone.  The count of power cycles stands as a variable
of its own: its bound is too large a number to evaluate. -/
theorem State.savedCounts_eq : ∃ c, c = min (s.nvm.cycles + 1) 0xFFFFFF
    ∧ s.savedCounts.regs = (s.putCounters s.nvm.optime c s.nvm.warm (BitVec.ofNat 32 s.nvm.shutdown)).regs
    ∧ s.savedCounts = { s with regs := s.savedCounts.regs, nvm := { s.nvm with shutdown := 0 } } :=
  ⟨_, rfl, by simp only [State.savedCounts, State.putCounters], by simp [State.savedCounts]⟩

theorem State.savedCounts_reg (off : Nat) (h : off ∉ counterRegs) : s.savedCounts.reg off = s.reg off := by
  obtain ⟨c, -, e, -⟩ := s.savedCounts_eq
  rw [State.reg_of_regs e, regsBut_putCounters s _ c _ _ off h]

theorem State.savedCounts_fld (f : Fld) (h : f.off ∉ counterRegs) : s.savedCounts.fld f = s.fld f := by
  rw [State.fld, s.savedCounts_reg _ h, State.fld]

theorem State.savedCounts_cycles : s.savedCounts.fld Reg.glbPowerCyclesCount = min (s.nvm.cycles + 1) (2 ^ 24 - 1) := by
  obtain ⟨c, hc, e, -⟩ := s.savedCounts_eq
  rw [State.fld_of_regs e, s.putCounters_cycles, Nat.mod_eq_of_lt (by omega)]
  exact hc

theorem State.savedCounts_optime (h : s.nvm.optime < 2 ^ 40) : s.savedCounts.pair Reg.glbOptimeMsLoOff = s.nvm.optime := by
  obtain ⟨c, -, e, -⟩ := s.savedCounts_eq
  rw [State.pair_of_regs e, s.putCounters_optime _ c _ _ (by omega)]

/-- With no image being copied, power that goes leaves the NVM as it is. -/
theorem State.nvmLeft_of_not_copying (h : s.copyingImage = false) : s.nvmLeft = s.nvm := by
  rw [State.nvmLeft, if_neg (by simp [h])]

theorem State.gone_nvm (h : s.copyingImage = false) : s.gone.nvm = s.nvm := s.nvmLeft_of_not_copying h

theorem State.copyingImage_of_off (h : s.phase = .off) : s.copyingImage = false := by simp [State.copyingImage, h]

/-- The beginning of a start before the counters: registers at their reset values, the slot sampled. -/
def State.slotted (s : State) (slot : Nat) : State :=
  State.setFld { s.gone with phase := .start, pins := { s.pins with trayRstN := true, refGood := true, slotId := slot % 64 } }
    Reg.glbSlotSlotId slot

theorem State.powerUp_eq (slot : Nat) : s.powerUp slot = (s.slotted slot).savedCounts.lowPins := rfl

theorem State.slotted_slot (slot : Nat) (h : slot < 64) : (s.slotted slot).fld Reg.glbSlotSlotId = slot := by
  rw [State.slotted, State.fld_setFld _ _ _ (by decide) (by decide)]
  exact Nat.mod_eq_of_lt h

theorem State.slotted_reg (slot off : Nat) (h : off ≠ Reg.glbSlotOff) : (s.slotted slot).reg off = regReset off :=
  State.reg_setFld_ne _ Reg.glbSlotSlotId slot off h

theorem State.slotted_nvm (slot : Nat) (h : s.phase = .off) : (s.slotted slot).nvm = s.nvm :=
  (State.setFld_nvm _ _ _).trans (s.gone_nvm (s.copyingImage_of_off h))

/-- A field that neither the slot nor the saved counters give begins with its reset value. -/
theorem State.slotted_savedCounts_fld (slot : Nat) (f : Fld) (h : f.off ∉ Reg.glbSlotOff :: counterRegs) :
    (s.slotted slot).savedCounts.fld f = State.reset.fld f := by
  obtain ⟨hslot, hcount⟩ := not_or.1 (mt List.mem_cons.2 h)
  rw [State.savedCounts_fld _ f hcount, State.fld, s.slotted_reg slot _ hslot, State.fld, State.reset_reg]

/-- Power-up: what the pins leave of the restored state. -/
theorem State.powerUp_change (slot : Nat) : PowerChange (s.slotted slot).savedCounts (s.powerUp slot) lowPinFlds
    ∧ (s.powerUp slot).flag Reg.pwrStatusBrake = ! s.pins.brakeN
    ∧ (s.powerUp slot).flag Reg.pwrStatusHaltFlowLoss = ! s.pins.flowLossN := by
  rw [s.powerUp_eq]
  have hreset := s.slotted_savedCounts_fld slot
  obtain ⟨-, -, -, e⟩ := (s.slotted slot).savedCounts_eq
  have hgroups : (s.slotted slot).savedCounts.groups = [] := by rw [e]; rfl
  have hpins : (s.slotted slot).savedCounts.pins = (s.slotted slot).pins := by rw [e]
  have hlow := State.lowPins_change _ hgroups ((hreset _ (by decide)).trans (by decide))
    (by rw [State.flag, hreset _ (by decide)]; decide) (by rw [State.flag, hreset _ (by decide)]; decide)
  rwa [hpins] at hlow

end Sys2Proof.Machine
end

section
/-! SUPPORT. Record writes and the steps of the start: which registers and fields each leaves. -/

namespace Sys2Proof.Machine

variable (s : State)

/-! ### Record writes (R418, R425) -/

theorem onlyRegs_nvmSync : OnlyRegs s s.nvmSync := by
  unfold State.nvmSync
  dsimp only
  split_ifs
  · exact (onlyRegs_setFld s _ _).trans (onlyRegs_setFld _ _ _)
  · exact onlyRegs_setFld s _ _

theorem regsBut_nvmSync (os : List Nat) (h : Reg.ctlNvmQueueOff ∈ os) : RegsBut s s.nvmSync os := by
  unfold State.nvmSync
  dsimp only
  split_ifs
  · exact (regsBut_setFld s _ _ os h).trans (regsBut_setFld _ _ _ os h)
  · exact regsBut_setFld s _ _ os h

theorem State.nvmPut_eq (d : RecData) : ∃ r, s.nvmPut d = { s with nvmq := s.nvmq ++ [d], regs := r } := by
  obtain ⟨r, e⟩ := onlyRegs_nvmSync { s with nvmq := s.nvmq ++ [d] }
  exact ⟨r, e⟩

theorem regsBut_nvmPut (d : RecData) (os : List Nat) (h : Reg.ctlNvmQueueOff ∈ os) : RegsBut s (s.nvmPut d) os :=
  (regsBut_of_regs os rfl).trans (regsBut_nvmSync { s with nvmq := s.nvmq ++ [d] } os h)

/-- A record taken off the queue. -/
def State.nvmTake (s : State) (d : RecData) : State := ({ s with nvmq := s.nvmq.erase d }).nvmSync

theorem State.nvmTake_eq (d : RecData) : ∃ r, s.nvmTake d = { s with nvmq := s.nvmq.erase d, regs := r } := by
  obtain ⟨r, e⟩ := onlyRegs_nvmSync { s with nvmq := s.nvmq.erase d }
  exact ⟨r, e⟩

theorem regsBut_nvmTake (d : RecData) (os : List Nat) (h : Reg.ctlNvmQueueOff ∈ os) : RegsBut s (s.nvmTake d) os :=
  (regsBut_of_regs os rfl).trans (regsBut_nvmSync { s with nvmq := s.nvmq.erase d } os h)

section
variable (ty : Nat) (d : RecData)

/-- The oldest write of its type stored. -/
def State.recordStored (s : State) (d : RecData) : State := ((s.nvmTake d).setNvm fun n => n.put d).bump Reg.botNvmWritesCount

/-- The other copy of the record dropped once its oldest write has failed. -/
def State.recordDropped (s : State) (ty : Nat) (d : RecData) : State := (s.nvmTake d).setNvm fun n => n.dropOlder ty

/-- The oldest write of its type failed. -/
def State.recordFailed (s : State) (ty : Nat) (d : RecData) : State :=
  ((s.recordDropped ty d).bump Reg.botNvmFailsCount).ev 0x0E07 0 ty (1 - tget (s.recordDropped ty d).nvm.newer 0 ty) 4

theorem State.recordStored_eq : ∃ r, s.recordStored d = { s with nvmq := s.nvmq.erase d, nvm := s.nvm.put d, regs := r } := by
  obtain ⟨r, e⟩ := s.nvmTake_eq d
  obtain ⟨r', e'⟩ := onlyRegs_bump ((s.nvmTake d).setNvm fun n => n.put d) Reg.botNvmWritesCount
  refine ⟨r', ?_⟩
  rw [State.recordStored, e', State.setNvm, e]

theorem regsBut_recordStored : RegsBut s (s.recordStored d) [Reg.ctlNvmQueueOff, Reg.botNvmWritesOff] :=
  ((regsBut_nvmTake s d _ (by decide)).trans (regsBut_of_regs _ rfl)).trans
    (regsBut_bump ((s.nvmTake d).setNvm fun n => n.put d) Reg.botNvmWritesCount _ (by decide))

theorem State.recordStored_writes :
    (s.recordStored d).fld Reg.botNvmWritesCount = min (s.fld Reg.botNvmWritesCount + 1) (2 ^ 32 - 1) := by
  have htake : (s.nvmTake d).fld Reg.botNvmWritesCount = s.fld Reg.botNvmWritesCount :=
    (regsBut_nvmTake s d [Reg.ctlNvmQueueOff] List.mem_cons_self).fld (by decide)
  have hset : ((s.nvmTake d).setNvm fun n => n.put d).fld Reg.botNvmWritesCount = (s.nvmTake d).fld Reg.botNvmWritesCount :=
    State.fld_of_regs rfl _
  rw [State.recordStored, State.fld_bump _ _ (by decide) (by decide), hset, htake]
  rfl

theorem State.recordDropped_eq :
    ∃ r, s.recordDropped ty d = { s with nvmq := s.nvmq.erase d, nvm := s.nvm.dropOlder ty, regs := r } := by
  obtain ⟨r, e⟩ := s.nvmTake_eq d
  exact ⟨r, by rw [State.recordDropped, State.setNvm, e]⟩

theorem regsBut_recordDropped : RegsBut s (s.recordDropped ty d) [Reg.ctlNvmQueueOff] :=
  (regsBut_nvmTake s d _ (by decide)).trans (regsBut_of_regs _ rfl)

/-- The slot of the newer copy does not depend on the older one. -/
theorem State.recordDropped_newer : (s.recordDropped ty d).nvm.newer = s.nvm.newer := by
  obtain ⟨r, e⟩ := s.recordDropped_eq ty d
  rw [e]
  rfl

theorem regsBut_recordFailed : RegsBut s (s.recordFailed ty d) (evRegs ++ [Reg.ctlNvmQueueOff, Reg.botNvmFailsOff]) :=
  (((regsBut_recordDropped s ty d).mono (by decide)).trans
    (regsBut_bump (s.recordDropped ty d) Reg.botNvmFailsCount _ (by decide))).trans (regsBut_ev _ _ _ _ _ _ _ (by decide))

theorem State.recordFailed_fails :
    (s.recordFailed ty d).fld Reg.botNvmFailsCount = min (s.fld Reg.botNvmFailsCount + 1) (2 ^ 32 - 1) := by
  rw [State.recordFailed, State.fld_ev _ _ _ _ _ _ _ (by decide) (by decide), State.fld_bump _ _ (by decide) (by decide),
    (regsBut_recordDropped s ty d).fld (by decide)]
  rfl

theorem State.recordDropped_room (f : Fld) : ((s.recordDropped ty d).bump f).room 1 = s.room 1 := by
  obtain ⟨r, e⟩ := s.recordDropped_eq ty d
  exact State.room_of_evq (by rw [State.bump_evq, e]) 1

theorem State.recordFailed_hasEvent (hr : s.room 1 = true) :
    (s.recordFailed ty d).hasEvent 0x0E07 0 ty (1 - tget s.nvm.newer 0 ty) 4 := by
  rw [State.recordFailed, s.recordDropped_newer ty d]
  exact State.hasEvent_ev _ _ _ _ _ _ ((s.recordDropped_room ty d _).trans hr)

theorem State.recordFailed_eq (hr : s.room 1 = true) : ∃ r q, s.recordFailed ty d
    = { s with nvmq := s.nvmq.erase d, nvm := s.nvm.dropOlder ty, regs := r, evq := q } := by
  obtain ⟨r, e⟩ := s.recordDropped_eq ty d
  obtain ⟨r', e'⟩ := onlyRegs_bump (s.recordDropped ty d) Reg.botNvmFailsCount
  obtain ⟨r'', q, e''⟩ := State.ev_eq_of_room ((s.recordDropped ty d).bump Reg.botNvmFailsCount) 0x0E07 0 ty
    (1 - tget (s.recordDropped ty d).nvm.newer 0 ty) 4 ((s.recordDropped_room ty d _).trans hr)
  refine ⟨r'', q, ?_⟩
  rw [State.recordFailed, e'', e', e]

variable (hty : ty ≠ 13) (hd : s.nvmq.find? (fun e => e.type == ty) = some d)
include hty hd

theorem State.recordDone_stored : s.recordDone ty true = s.recordStored d := by
  rw [State.recordDone, if_neg hty, hd]
  rfl

theorem State.recordDone_failed : s.recordDone ty false = s.recordFailed ty d := by
  rw [State.recordDone, if_neg hty, hd]
  simp only [Bool.false_eq_true, if_false, State.recordFailed, State.recordDropped, State.nvmTake, State.setNvm]

end

/-! ### A step fails or passes (R427, R428) -/

section
variable (n st p2 : Nat)

/-- The registers of a step that fails: BOT_STATUS, and those of the event. -/
theorem regsBut_stepFail : RegsBut s (s.stepFail n st p2) (evRegs ++ [Reg.botStatusOff]) :=
  ((regsBut_setFld s Reg.botStatusFailed _ _ (by decide)).trans (regsBut_setFld _ Reg.botStatusFailStatus _ _ (by decide))).trans
    (regsBut_ev _ _ _ _ _ _ _ (by simp))

theorem State.stepFail_failed : (s.stepFail n st p2).flag Reg.botStatusFailed = true := by
  rw [State.flag, State.stepFail, State.fld_ev _ _ _ _ _ _ _ (by decide) (by decide), ← State.flag,
    State.flag_setFld_apart _ _ _ _ (by decide), State.flag_setFlag _ _ _ (by decide) (by decide)]

theorem State.stepFail_status : (s.stepFail n st p2).fld Reg.botStatusFailStatus = st % 2 ^ 8 := by
  rw [State.stepFail, State.fld_ev _ _ _ _ _ _ _ (by decide) (by decide), State.fld_setFld _ _ _ (by decide) (by decide)]
  rfl

section
variable (hr : s.room 1 = true)
include hr

theorem State.stepFail_hasEvent : (s.stepFail n st p2).hasEvent 0x0E02 s.unitSrc n st p2 :=
  State.hasEvent_ev _ 0x0E02 s.unitSrc n st p2 ((State.room_of_evq (by simp) 1).trans hr)

theorem State.stepFail_eq : ∃ r q, s.stepFail n st p2 = { s with regs := r, evq := q } := by
  have hroom := (State.room_of_evq (s := s) (t := (s.setFlag Reg.botStatusFailed true).setFld Reg.botStatusFailStatus st)
    (by simp) 1).trans hr
  obtain ⟨r, q, e⟩ := State.ev_eq_of_room _ 0x0E02 s.unitSrc n st p2 hroom
  obtain ⟨r', e'⟩ := (onlyRegs_setFld s Reg.botStatusFailed (b2n true)).trans (onlyRegs_setFld _ Reg.botStatusFailStatus st)
  refine ⟨r, q, ?_⟩
  rw [State.stepFail, e, State.setFlag, e']

end

variable (ms : Nat) (hms : ms < 2 ^ 32)
include hms

theorem State.stepPassed_next (hn : n ≠ 9) :
    s.stepPassed n ms = (s.setFld (Reg.botStepMsMs n) ms).setFld Reg.botStatusStep (n + 1) := by
  rw [State.stepPassed, min_eq_left (by omega), if_neg hn]

theorem State.stepPassed_last : s.stepPassed 9 ms = (s.setFld (Reg.botStepMsMs 9) ms).startDone := by
  rw [State.stepPassed, min_eq_left (by omega), if_pos rfl]

/-- A step before the ninth that has passed: its duration stands, the next step is in force, nothing else changes. -/
theorem State.stepPassed_spec (hn : n < 9) : (s.stepPassed n ms).fld Reg.botStatusStep = n + 1
    ∧ (s.stepPassed n ms).fld (Reg.botStepMsMs n) = ms ∧ RegsBut s (s.stepPassed n ms) [Reg.botStatusOff, Reg.botStepMsOff n]
    ∧ OnlyRegs s (s.stepPassed n ms) := by
  have hoff : (Reg.botStepMsMs n).off ≠ Reg.botStatusStep.off := by simp only [Reg.botStepMsMs, Reg.botStatusStep]; omega
  have hhi : (Reg.botStepMsMs n).hi < 32 := Nat.lt_succ_self 31
  rw [s.stepPassed_next n ms hms (by omega)]
  refine ⟨?_, ?_, ?_, (onlyRegs_setFld s _ _).trans (onlyRegs_setFld _ _ _)⟩
  · rw [State.fld_setFld _ _ _ (by decide) (by decide)]
    exact Nat.mod_eq_of_lt (by simp only [Fld.width, Reg.botStatusStep]; omega)
  · rw [State.fld_setFld_off _ _ _ _ hoff, s.fld_setFld _ _ hhi (Nat.zero_le _)]
    exact Nat.mod_eq_of_lt hms
  · exact (regsBut_setFld s _ _ _ (by simp [Reg.botStepMsMs, Reg.botStepMsOff])).trans
      (regsBut_setFld _ _ _ _ (by simp [Reg.botStatusStep, Reg.botStatusOff]))

end

end Sys2Proof.Machine
end

section
/-! SUPPORT. START_STEP_DONE: which step runs, the licences that step 4 puts in force, and the end of the start. -/

namespace Sys2Proof.Machine

variable (s : State)

/-! ### Which step runs (R427, R430) -/

section
variable {s} (r : StepResult) (hphase : s.phase = .start ∨ s.phase = .test) (hfailed : s.flag Reg.botStatusFailed = false)
include hphase hfailed

/-- While a start is under way START_STEP_DONE looks first at the halt causes. -/
theorem State.startStep_under_way : ¬ ((s.phase ≠ .start ∧ s.phase ≠ .test) ∨ s.flag Reg.botStatusFailed = true) := by
  rcases hphase with h | h <;> simp [h, hfailed]

theorem State.startStep_haltHeld (hheld : r.haltHeld = true) (hhalt : s.haltedNow = true) :
    s.startStep r = s.stepFail (s.fld Reg.botStatusStep) (stCode .state) 0 := by
  unfold State.startStep
  dsimp only
  rw [if_neg (State.startStep_under_way hphase hfailed), if_pos ⟨hheld, hhalt⟩]

theorem State.startStep_paused (hstep : s.fld Reg.botStatusStep = 6) (hheld : r.haltHeld = false) (hhalt : s.haltedNow = true)
    (hwarm : s.flag Reg.botStatusWarm = false) : s.startStep r = s := by
  unfold State.startStep
  dsimp only
  rw [if_neg (State.startStep_under_way hphase hfailed), if_neg (by simp [hheld]), if_pos ⟨hstep, hhalt, by simp [hwarm]⟩]

variable (hheld : (r.haltHeld && s.haltedNow) = false)
include hheld

theorem State.startStep_one (hstep : s.fld Reg.botStatusStep = 1) : s.startStep r
    = if r.ok then (s.setFld Reg.secStatusMonitorOk 3).stepPassed 1 r.ms else s.stepFailOpen 1 0 := by
  unfold State.startStep
  dsimp only
  rw [if_neg (State.startStep_under_way hphase hfailed), if_neg (by simpa using hheld), if_neg (by omega), hstep]
  rfl

theorem State.startStep_four (hstep : s.fld Reg.botStatusStep = 4) : s.startStep r = (s.step4 r).1.stepPassed 4 r.ms := by
  unfold State.startStep
  dsimp only
  rw [if_neg (State.startStep_under_way hphase hfailed), if_neg (by simpa using hheld), if_neg (by omega), hstep]
  rfl

theorem State.startStep_late (n : Nat) (hn : n = 8 ∨ n = 9) (hstep : s.fld Reg.botStatusStep = n) :
    s.startStep r = s.stepPassed n r.ms := by
  unfold State.startStep
  dsimp only
  rw [if_neg (State.startStep_under_way hphase hfailed), if_neg (by simpa using hheld), if_neg (by omega), hstep]
  rcases hn with rfl | rfl <;> rfl

end

/-! ### Step 4: licences (R32, R440) -/

/-- GLB_LICENCES written. -/
def State.putLicences (s : State) (base scale rick tenancy : Bool) : State :=
  (((s.setFlag Reg.glbLicencesBase base).setFlag Reg.glbLicencesScale scale).setFlag Reg.glbLicencesRick rick).setFlag
    Reg.glbLicencesTenancy tenancy

theorem State.putLicences_flags (base scale rick tenancy : Bool) :
    (s.putLicences base scale rick tenancy).flag Reg.glbLicencesBase = base
      ∧ (s.putLicences base scale rick tenancy).flag Reg.glbLicencesScale = scale
      ∧ (s.putLicences base scale rick tenancy).flag Reg.glbLicencesRick = rick
      ∧ (s.putLicences base scale rick tenancy).flag Reg.glbLicencesTenancy = tenancy := by
  unfold State.putLicences
  refine ⟨?_, ?_, ?_, ?_⟩
  · rw [State.flag_setFlag_apart _ _ _ _ (by decide), State.flag_setFlag_apart _ _ _ _ (by decide),
      State.flag_setFlag_apart _ _ _ _ (by decide), State.flag_setFlag _ _ _ (by decide) (by decide)]
  · rw [State.flag_setFlag_apart _ _ _ _ (by decide), State.flag_setFlag_apart _ _ _ _ (by decide),
      State.flag_setFlag _ _ _ (by decide) (by decide)]
  · rw [State.flag_setFlag_apart _ _ _ _ (by decide), State.flag_setFlag _ _ _ (by decide) (by decide)]
  · exact State.flag_setFlag _ _ _ (by decide) (by decide)

/-- A stored licence whose checks pass gives the function `n`. -/
def State.grants (s : State) (r : StepResult) (n : Nat) : Bool :=
  (s.nvm.licences.filter fun x => s.licenceGood x.2 (r.licencesOk.contains x.1)).any fun x => bit x.2.functions n

theorem State.grants_iff (r : StepResult) (n : Nat) : s.grants r n = true
    ↔ ∃ x ∈ s.nvm.licences, (s.licenceGood x.2 (r.licencesOk.contains x.1) && bit x.2.functions n) = true := by
  simp only [State.grants, List.any_filter, List.any_eq_true]

/-- GLB_LICENCES after step 4: each function beside Base needs Base (R32). -/
def State.licensed (s : State) (r : StepResult) : State :=
  s.putLicences (s.grants r 0) (s.grants r 0 && s.grants r 1) (s.grants r 0 && s.grants r 2) (s.grants r 0 && s.grants r 3)

theorem regsBut_extend (m : Nat) (d : List Byte) (os : List Nat) (h : (List.range 8).map (Reg.secMeasOff m) ⊆ os) :
    RegsBut s (s.extend m d) os := by
  unfold State.extend
  generalize hashBytes _ = hash
  refine regsBut_each s _ _ os fun t w hw => regsBut_setFld t (Reg.secMeasValue m w) _ os ?_
  have hoff : (Reg.secMeasValue m w).off = Reg.secMeasOff m w := rfl
  rw [hoff]
  exact h (List.mem_map_of_mem hw)

theorem State.extend_mem (m : Nat) (d : List Byte) : (s.extend m d).mem = s.mem := by
  unfold State.extend
  generalize hashBytes _ = hash
  exact s.each_frame State.mem _ _ fun t _ => t.setFld_mem _ _

/-- The measurement register that step 4 extends by one record, present or not (R450). -/
def State.measureRecord (t : State) (present : Bool) : State :=
  if present then (t.extend 6 t.openDigest).fresh else t.extend 6 (List.replicate 32 0)

theorem regsBut_measureRecord (present : Bool) (os : List Nat) (h : (List.range 8).map (Reg.secMeasOff 6) ⊆ os) :
    RegsBut s (s.measureRecord present) os := by
  unfold State.measureRecord
  split_ifs
  · exact RegsBut.trans (t := s.extend 6 s.openDigest) (regsBut_extend s 6 _ os h) (regsBut_of_regs os (State.fresh_regs _))
  · exact regsBut_extend s 6 _ os h

theorem State.measureRecord_mem (present : Bool) : (s.measureRecord present).mem = s.mem := by
  unfold State.measureRecord
  split_ifs
  · rw [State.fresh_mem, s.extend_mem]
  · exact s.extend_mem _ _

/-- A licence slot's registers at step 4: in effect or not, and no longer pending (R442). -/
def State.licSlotInEffect (t : State) (i : Nat) (inEffect : Bool) : State :=
  (t.setFlag (Reg.botLicSlotStateInEffect i) inEffect).setFlag (Reg.botLicSlotStatePending i) false

theorem regsBut_licSlotInEffect (i : Nat) (b : Bool) (os : List Nat) (h : Reg.botLicSlotStateOff i ∈ os) :
    RegsBut s (s.licSlotInEffect i b) os := (regsBut_setFld s _ _ os h).trans (regsBut_setFld _ _ _ os h)

theorem State.licSlotInEffect_mem (i : Nat) (b : Bool) : (s.licSlotInEffect i b).mem = s.mem :=
  (State.setFlag_mem _ _ _).trans (s.setFlag_mem _ _)

/-- The registers of step 4: GLB_LICENCES, the licence slots, M6 and the mark that it is measured. -/
def State.step4Regs (s : State) (r : StepResult) (inEffect : Nat → Bool) (present : List Bool) : State :=
  (((s.licensed r).each (List.range 16) fun t i => t.licSlotInEffect i (inEffect i)).each present State.measureRecord).setFlag
    Reg.secStatusMeasured true

/-- Step 4 changes these registers and the phase. -/
theorem State.step4_eq (r : StepResult) : ∃ (inEffect : Nat → Bool) (present : List Bool),
    (s.step4 r).1 = { s.step4Regs r inEffect present with phase := .test } := ⟨_, _, rfl⟩

/-- The offsets of the registers that step 4 writes after GLB_LICENCES. -/
def step4Offs : List Nat := (List.range 16).map Reg.botLicSlotStateOff ++ (List.range 8).map (Reg.secMeasOff 6) ++ [Reg.secStatusOff]

section
variable (r : StepResult) (inEffect : Nat → Bool) (present : List Bool)

theorem State.step4Regs_mem : (s.step4Regs r inEffect present).mem = s.mem := by
  rw [State.step4Regs, State.setFlag_mem, State.each_frame _ State.mem _ _ fun t b => t.measureRecord_mem b,
    State.each_frame _ State.mem _ _ fun t i => t.licSlotInEffect_mem i _, State.licensed,
    State.putLicences, State.setFlag_mem, State.setFlag_mem, State.setFlag_mem, State.setFlag_mem]

theorem regsBut_step4Regs : RegsBut (s.licensed r) (s.step4Regs r inEffect present) step4Offs := by
  have hslot : ∀ i ∈ List.range 16, Reg.botLicSlotStateOff i ∈ step4Offs := fun i hi =>
    List.mem_append_left _ (List.mem_append_left _ (List.mem_map_of_mem hi))
  have hmeas : (List.range 8).map (Reg.secMeasOff 6) ⊆ step4Offs := fun o ho =>
    List.mem_append_left _ (List.mem_append_right _ ho)
  have hstatus : Reg.secStatusMeasured.off ∈ step4Offs := List.mem_append_right _ List.mem_cons_self
  exact ((regsBut_each _ _ _ _ fun t i hi => regsBut_licSlotInEffect t i _ _ (hslot i hi)).trans
    (regsBut_each _ _ _ _ fun t b _ => regsBut_measureRecord t b _ hmeas)).trans (regsBut_setFld _ _ _ _ hstatus)

end

theorem State.step4_frame (r : StepResult) : (s.step4 r).1.phase = .test ∧ (s.step4 r).1.mem = s.mem
    ∧ RegsBut (s.licensed r) (s.step4 r).1 step4Offs := by
  obtain ⟨inEffect, present, e⟩ := s.step4_eq r
  have hregs := regsBut_step4Regs s r inEffect present
  have hmem := s.step4Regs_mem r inEffect present
  generalize s.step4Regs r inEffect present = u at e hregs hmem
  rw [e]
  exact ⟨rfl, hmem, hregs.trans (regsBut_of_regs _ rfl)⟩

/-! ### The end of the start (R427, R443, R481) -/

/-- The security floor of an activated image raised and its record queued. -/
def State.floorRaised (s : State) (f : Nat) : State :=
  ((s.setFld Reg.secFloorVersion f).ev 0x0E28 s.unitSrc s.nvm.floor f 0).nvmPut (.keys s.keyTable f)

theorem State.raiseFloor_cases : s.raiseFloor = s ∨ ∃ f st, s.raiseFloor = { s.floorRaised f with start := st } := by
  unfold State.raiseFloor
  split
  · split_ifs
    · exact .inl rfl
    · exact .inr ⟨_, _, rfl⟩
  · exact .inl rfl

/-- Raising the floor keeps phase, memory and the events that wait, and every register but its own, the event counters and the queue's. -/
theorem State.raiseFloor_frame : s.raiseFloor.phase = s.phase ∧ s.raiseFloor.mem = s.mem
    ∧ RegsBut s s.raiseFloor (evRegs ++ [Reg.secFloorVersion.off, Reg.ctlNvmQueueOff])
    ∧ ∀ code src p0 p1 p2, s.hasEvent code src p0 p1 p2 → s.raiseFloor.hasEvent code src p0 p1 p2 := by
  rcases s.raiseFloor_cases with e | ⟨f, st, e⟩ <;> rw [e]
  · exact ⟨rfl, rfl, fun _ _ => rfl, fun _ _ _ _ _ h => h⟩
  · obtain ⟨r, e'⟩ := State.nvmPut_eq ((s.setFld Reg.secFloorVersion f).ev 0x0E28 s.unitSrc s.nvm.floor f 0) (.keys s.keyTable f)
    refine ⟨?_, ?_, ?_, fun code src p0 p1 p2 h => ?_⟩
    · rw [State.floorRaised, e', State.ev_phase, State.setFld_phase]
    · rw [State.floorRaised, e', State.ev_mem, State.setFld_mem]
    · have hregs : RegsBut s (s.floorRaised f) (evRegs ++ [Reg.secFloorVersion.off, Reg.ctlNvmQueueOff]) :=
        ((regsBut_setFld s Reg.secFloorVersion f _ (by simp)).trans (regsBut_ev _ _ _ _ _ _ _ (by simp))).trans
          (regsBut_nvmPut _ _ _ (by simp))
      exact hregs.trans (regsBut_of_regs _ rfl)
    · have hfld : (s.setFld Reg.secFloorVersion f).hasEvent code src p0 p1 p2 := State.hasEvent_of_evq (State.setFld_evq _ _ _) h
      have hev := State.hasEvent_ev_of_hasEvent _ 0x0E28 s.unitSrc s.nvm.floor f 0 _ _ _ _ _ hfld
      rw [State.floorRaised, e']
      exact hev

/-- BOT_STATUS and BOT_START_MS at the end of the start. -/
def State.putDone (s : State) (ms : Nat) : State :=
  ((s.setFlag Reg.botStatusDone true).setFld Reg.botStatusStep 0).setFld Reg.botStartMsMs ms

theorem State.putDone_spec (ms : Nat) : (s.putDone ms).flag Reg.botStatusDone = true ∧ (s.putDone ms).fld Reg.botStatusStep = 0
    ∧ (s.putDone ms).fld Reg.botStartMsMs = ms % 2 ^ 32 ∧ (s.putDone ms).flag Reg.botStatusWarm = s.flag Reg.botStatusWarm
    ∧ RegsBut s (s.putDone ms) [Reg.botStatusOff, Reg.botStartMsOff] ∧ OnlyRegs s (s.putDone ms) := by
  unfold State.putDone
  refine ⟨?_, ?_, ?_, ?_, ?_, ((onlyRegs_setFld s _ _).trans (onlyRegs_setFld _ _ _)).trans (onlyRegs_setFld _ _ _)⟩
  · rw [State.flag_setFld_apart _ _ _ _ (by decide), State.flag_setFld_apart _ _ _ _ (by decide),
      State.flag_setFlag _ _ _ (by decide) (by decide)]
  · rw [State.fld_setFld_apart _ _ _ _ (by decide), State.fld_setFld _ _ _ (by decide) (by decide)]
    rfl
  · rw [State.fld_setFld _ _ _ (by decide) (by decide)]
    rfl
  · rw [State.flag_setFld_apart _ _ _ _ (by decide), State.flag_setFld_apart _ _ _ _ (by decide),
      State.flag_setFlag_apart _ _ _ _ (by decide)]
  · exact ((regsBut_setFld s _ _ _ (by decide)).trans (regsBut_setFld _ _ _ _ (by decide))).trans
      (regsBut_setFld _ _ _ _ (by decide))

/-- The module is up, and the event of the start's end is raised (R443). -/
def State.startEnded (s : State) (ms : Nat) : State :=
  let u := { s with phase := .up }
  u.ev 0x0E01 u.unitSrc (if u.flag Reg.botStatusWarm then 2 else 1) ms u.start.ashAdded

/-- The duration of the start: the sum of its steps'. -/
def State.startMs (s : State) : Nat := ((List.range 9).map fun i => s.fld (Reg.botStepMsMs (i + 1))).foldl (· + ·) 0

/-- The duration in the register saturates; it stands as a variable of its own, since its bound is too large to evaluate. -/
theorem State.startDone_eq : ∃ v, v = min s.startMs (2 ^ 32 - 1)
    ∧ s.startDone = ((s.putDone v).startEnded s.startMs).raiseFloor :=
  ⟨_, rfl, by unfold State.startDone State.putDone State.startEnded State.startMs; dsimp only⟩

section
variable (ms : Nat)

theorem regsBut_startEnded : RegsBut s (s.startEnded ms) evRegs :=
  RegsBut.trans (t := { s with phase := .up }) (regsBut_of_regs _ rfl) (regsBut_ev _ _ _ _ _ _ _ (List.Subset.refl _))

theorem State.startEnded_phase : (s.startEnded ms).phase = .up := State.ev_phase _ _ _ _ _ _

theorem State.startEnded_mem : (s.startEnded ms).mem = s.mem := State.ev_mem _ _ _ _ _ _

theorem State.startEnded_hasEvent (h : s.room 1 = true) :
    (s.startEnded ms).hasEvent 0x0E01 s.unitSrc (if s.flag Reg.botStatusWarm then 2 else 1) ms s.start.ashAdded := by
  have hu : ∀ u : State, u.regs = s.regs → u.evq = s.evq → u.start = s.start →
      (u.ev 0x0E01 u.unitSrc (if u.flag Reg.botStatusWarm then 2 else 1) ms u.start.ashAdded).hasEvent 0x0E01 s.unitSrc
        (if s.flag Reg.botStatusWarm then 2 else 1) ms s.start.ashAdded := fun u hregs hevq hstart => by
    rw [State.unitSrc_of_fld (State.fld_of_regs hregs _) (State.fld_of_regs hregs _), State.flag, State.fld_of_regs hregs,
      ← State.flag, hstart]
    exact State.hasEvent_ev u _ _ _ _ _ ((State.room_of_evq hevq 1).trans h)
  exact hu { s with phase := .up } rfl rfl rfl

end

/-- The end of the start (R427, R443): the module is up, the registers and the event say so, and memory is kept. -/
theorem State.startDone_spec (h : s.room 1 = true) : ∃ ms, s.startDone.phase = .up ∧ s.startDone.fld Reg.botStatusStep = 0
    ∧ s.startDone.flag Reg.botStatusDone = true ∧ s.startDone.fld Reg.botStartMsMs = min ms (2 ^ 32 - 1)
    ∧ s.startDone.hasEvent 0x0E01 s.unitSrc (if s.flag Reg.botStatusWarm then 2 else 1) ms s.start.ashAdded
    ∧ s.startDone.mem = s.mem ∧ RegsBut s s.startDone
      (evRegs ++ [Reg.botStatusOff, Reg.botStartMsOff, Reg.secFloorVersion.off, Reg.ctlNvmQueueOff]) := by
  obtain ⟨v, hv, e⟩ := s.startDone_eq
  generalize s.startMs = ms at hv e
  obtain ⟨hdone, hstep, hms, hwarm, hregs, honly⟩ := s.putDone_spec v
  obtain ⟨rs, e'⟩ := honly
  have hsrc : (s.putDone v).unitSrc = s.unitSrc := hregs.unitSrc (by decide)
  have hstart : (s.putDone v).start = s.start := by rw [e']
  have hmem : (s.putDone v).mem = s.mem := by rw [e']
  have hroom : (s.putDone v).room 1 = true := (State.room_of_evq (by rw [e']) 1).trans h
  have hended := State.startEnded_hasEvent _ ms hroom
  rw [hsrc, hstart, hwarm] at hended
  obtain ⟨hphase, hmem', hregs', hevent⟩ := State.raiseFloor_frame ((s.putDone v).startEnded ms)
  have hframe := (regsBut_startEnded (s.putDone v) ms).mono (os' := evRegs ++ [Reg.secFloorVersion.off, Reg.ctlNvmQueueOff])
    (List.subset_append_left _ _) |>.trans hregs'
  rw [e]
  refine ⟨ms, ?_, ?_, ?_, ?_, hevent _ _ _ _ _ hended, ?_, ?_⟩
  · rw [hphase, State.startEnded_phase]
  · rw [hframe.fld (by decide), hstep]
  · rw [State.flag, hframe.fld (by decide), ← State.flag, hdone]
  · rw [hframe.fld (by decide), hms, Nat.mod_eq_of_lt (by omega), hv]
  · rw [hmem', State.startEnded_mem, hmem]
  · exact (hregs.mono (by decide)).trans (hframe.mono (by decide))

end Sys2Proof.Machine
end

section
/-! The module's start: the state after reset, and the steps of the start. -/

namespace Sys2Proof.Machine

/-- Settles O3: the table of registers is empty, and so is everything else that is listed. -/
theorem resetState : Obligations.ResetState := by
  unfold Obligations.ResetState
  exact ⟨State.reset_reg, rfl, rfl, rfl, rfl, rfl, rfl, rfl, rfl, rfl⟩

/-- Settles O4: memory, registers and the audit record are empty, and the two event queues too. -/
theorem invariantAtReset : Obligations.InvariantAtReset := by
  unfold Obligations.InvariantAtReset
  have hmem : State.reset.MemCanon := rfl
  have hregs : State.reset.RegsCanon := ⟨rfl, fun x hx => absurd hx List.not_mem_nil⟩
  have hqueues : State.reset.QueuesBounded := ⟨rfl, by decide⟩
  have haudit : State.reset.AuditBounded := ⟨Nat.zero_le _, fun e he => absurd he List.not_mem_nil⟩
  exact ⟨hmem, hregs, hqueues, haudit⟩

/-! ### The steps of the start -/

theorem exec_startStepDone (r : StepResult) (s : State) (hp : s.powered = true) : exec (.startStepDone r) s = .next (s.startStep r) :=
  s.does_powered (State.startStep r) hp

/-- With power, a module that is not up is in its start. -/
theorem State.phase_of_powered {s : State} (hp : s.powered = true) (hup : s.phase ≠ .up) : s.phase = .start ∨ s.phase = .test := by
  have hon := (s.powered_iff.1 hp).1
  cases h : s.phase with
  | off => simp [State.on, h] at hon
  | start => exact .inl rfl
  | test => exact .inr rfl
  | up => exact absurd h hup

section
variable (r : StepResult) {s : State} (hp : s.powered = true) (hup : s.phase ≠ .up) (hfailed : s.flag Reg.botStatusFailed = false)
include hp hup hfailed

theorem startStepDone_haltHeld (hroom : s.room 1 = true) (hheld : r.haltHeld = true) (hhalt : s.haltedNow = true) :
    ∃ t, exec (.startStepDone r) s = .next t ∧ t.flag Reg.botStatusFailed = true ∧ t.fld Reg.botStatusFailStatus = stCode .state
      ∧ t.hasEvent 0x0E02 s.unitSrc (s.fld Reg.botStatusStep) (stCode .state) 0 ∧ RegsBut s t (evRegs ++ [Reg.botStatusOff])
      ∧ t = { s with regs := t.regs, evq := t.evq } := by
  refine ⟨_, exec_startStepDone r s hp, ?_⟩
  rw [State.startStep_haltHeld r (State.phase_of_powered hp hup) hfailed hheld hhalt]
  obtain ⟨rs, q, e⟩ := s.stepFail_eq (s.fld Reg.botStatusStep) (stCode .state) 0 hroom
  exact ⟨s.stepFail_failed _ _ _, s.stepFail_status _ _ _, s.stepFail_hasEvent _ _ _ hroom, regsBut_stepFail s _ _ _, by rw [e]⟩

theorem startStepDone_paused (hstep : s.fld Reg.botStatusStep = 6) (hheld : r.haltHeld = false) (hhalt : s.haltedNow = true)
    (hwarm : s.flag Reg.botStatusWarm = false) : exec (.startStepDone r) s = .next s := by
  rw [exec_startStepDone r s hp, State.startStep_paused r (State.phase_of_powered hp hup) hfailed hstep hheld hhalt hwarm]

variable (hheld : (r.haltHeld && s.haltedNow) = false)
include hheld

theorem startStepDone_one_failed (hroom : s.room 1 = true) (hstep : s.fld Reg.botStatusStep = 1) (hok : r.ok = false) :
    ∃ t st, exec (.startStepDone r) s = .next t ∧ t.flag Reg.botStatusFailed = true ∧ t.fld Reg.botStatusFailStatus = st
      ∧ t.hasEvent 0x0E02 s.unitSrc 1 st 0 ∧ RegsBut s t (evRegs ++ [Reg.botStatusOff])
      ∧ t = { s with regs := t.regs, evq := t.evq, free := t.free } := by
  have hstepped := State.startStep_one r (State.phase_of_powered hp hup) hfailed hheld hstep
  rw [hok, if_neg Bool.false_ne_true, State.stepFailOpen] at hstepped
  have hst : Config.freeValue s.free % 256 < 2 ^ 8 := Nat.mod_lt _ (by decide)
  generalize Config.freeValue s.free % 256 = st at hstepped hst
  have hroom' : s.fresh.room 1 = true := (State.room_of_evq s.fresh_evq 1).trans hroom
  have hsrc : s.fresh.unitSrc = s.unitSrc := State.unitSrc_of_fld (s.fresh_fld _) (s.fresh_fld _)
  have hevent := s.fresh.stepFail_hasEvent 1 st 0 hroom'
  obtain ⟨rs, q, e⟩ := s.fresh.stepFail_eq 1 st 0 hroom'
  refine ⟨_, st, exec_startStepDone r s hp, ?_⟩
  rw [hstepped]
  refine ⟨State.stepFail_failed _ _ _ _, ?_, hsrc ▸ hevent, ?_, by rw [e]; rfl⟩
  · rw [State.stepFail_status, Nat.mod_eq_of_lt hst]
  · exact (regsBut_of_regs _ s.fresh_regs).trans (regsBut_stepFail _ _ _ _)

variable (hms : r.ms < 2 ^ 32)
include hms

theorem startStepDone_one_passed (hstep : s.fld Reg.botStatusStep = 1) (hok : r.ok = true) :
    ∃ t, exec (.startStepDone r) s = .next t ∧ t.fld Reg.botStatusStep = 2 ∧ t.fld Reg.secStatusMonitorOk = 3
      ∧ t.fld (Reg.botStepMsMs 1) = r.ms ∧ RegsBut s t [Reg.botStatusOff, Reg.secStatusOff, Reg.botStepMsOff 1]
      ∧ t = { s with regs := t.regs } := by
  have hstepped := State.startStep_one r (State.phase_of_powered hp hup) hfailed hheld hstep
  rw [hok, if_pos rfl] at hstepped
  obtain ⟨hnext, hdur, hregs, honly⟩ := State.stepPassed_spec (s.setFld Reg.secStatusMonitorOk 3) 1 r.ms hms (by decide)
  refine ⟨_, exec_startStepDone r s hp, ?_⟩
  rw [hstepped]
  refine ⟨hnext, ?_, hdur, ?_, ((onlyRegs_setFld s _ _).trans honly).eq⟩
  · rw [hregs.fld (by decide), s.fld_setFld _ _ (by decide) (by decide)]
    rfl
  · exact (regsBut_setFld s Reg.secStatusMonitorOk 3 _ (by decide)).trans (hregs.mono (by decide))

/-- The functions in force after step 4 are those that the licences whose checks pass give, each beside Base with Base (R32). -/
theorem startStepDone_four (hstep : s.fld Reg.botStatusStep = 4) : ∃ t, exec (.startStepDone r) s = .next t ∧ t.phase = .test
    ∧ t.fld Reg.botStatusStep = 5
    ∧ (t.base = s.grants r 0 ∧ t.scale = (s.grants r 0 && s.grants r 1) ∧ t.rick = (s.grants r 0 && s.grants r 2)
      ∧ t.tenancy = (s.grants r 0 && s.grants r 3))
    ∧ t.mem = s.mem := by
  obtain ⟨hphase, hmem, hframe⟩ := s.step4_frame r
  obtain ⟨hnext, -, hregs, honly⟩ := State.stepPassed_spec (s.step4 r).1 4 r.ms hms (by decide)
  obtain ⟨hbase, hscale, hrick, htenancy⟩ :=
    s.putLicences_flags (s.grants r 0) (s.grants r 0 && s.grants r 1) (s.grants r 0 && s.grants r 2) (s.grants r 0 && s.grants r 3)
  have hflag : ∀ f : Fld, f.off = Reg.glbLicencesOff → ((s.step4 r).1.stepPassed 4 r.ms).flag f = (s.licensed r).flag f := by
    intro f hf
    rw [State.flag, hregs.fld (by rw [hf]; decide), hframe.fld (by rw [hf]; decide), ← State.flag]
  obtain ⟨rs, e⟩ := honly
  refine ⟨_, exec_startStepDone r s hp, ?_⟩
  rw [State.startStep_four r (State.phase_of_powered hp hup) hfailed hheld hstep]
  refine ⟨by rw [e]; exact hphase, hnext, ⟨?_, ?_, ?_, ?_⟩, by rw [e]; exact hmem⟩
  · exact (hflag Reg.glbLicencesBase rfl).trans hbase
  · exact (hflag Reg.glbLicencesScale rfl).trans hscale
  · exact (hflag Reg.glbLicencesRick rfl).trans hrick
  · exact (hflag Reg.glbLicencesTenancy rfl).trans htenancy

theorem startStepDone_eight (hstep : s.fld Reg.botStatusStep = 8) : ∃ t, exec (.startStepDone r) s = .next t
    ∧ t.fld Reg.botStatusStep = 9 ∧ t.fld (Reg.botStepMsMs 8) = r.ms ∧ RegsBut s t [Reg.botStatusOff, Reg.botStepMsOff 8]
    ∧ t = { s with regs := t.regs } := by
  obtain ⟨hnext, hdur, hregs, honly⟩ := s.stepPassed_spec 8 r.ms hms (by decide)
  refine ⟨_, exec_startStepDone r s hp, ?_⟩
  rw [State.startStep_late r (State.phase_of_powered hp hup) hfailed hheld 8 (.inl rfl) hstep]
  exact ⟨hnext, hdur, hregs, honly.eq⟩

theorem startStepDone_nine (hroom : s.room 1 = true) (hstep : s.fld Reg.botStatusStep = 9) :
    ∃ t ms, exec (.startStepDone r) s = .next t ∧ t.phase = .up ∧ t.fld Reg.botStatusStep = 0
      ∧ t.flag Reg.botStatusDone = true ∧ t.fld (Reg.botStepMsMs 9) = r.ms ∧ t.fld Reg.botStartMsMs = min ms (2 ^ 32 - 1)
      ∧ t.hasEvent 0x0E01 s.unitSrc (if s.flag Reg.botStatusWarm then 2 else 1) ms s.start.ashAdded ∧ t.mem = s.mem := by
  have hregs := regsBut_setFld s (Reg.botStepMsMs 9) r.ms [Reg.botStepMsOff 9] List.mem_cons_self
  have hdur : (s.setFld (Reg.botStepMsMs 9) r.ms).fld (Reg.botStepMsMs 9) = r.ms :=
    (s.fld_setFld _ _ (by decide) (by decide)).trans (Nat.mod_eq_of_lt hms)
  obtain ⟨ms, hphase, hnext, hdone, hstart, hevent, hmem, hframe⟩ := State.startDone_spec (s.setFld (Reg.botStepMsMs 9) r.ms)
    ((State.room_of_evq (s.setFld_evq _ _) 1).trans hroom)
  rw [hregs.unitSrc (by decide), s.flag_setFld_apart _ Reg.botStatusWarm _ (by decide), s.setFld_start] at hevent
  refine ⟨_, ms, exec_startStepDone r s hp, ?_⟩
  rw [State.startStep_late r (State.phase_of_powered hp hup) hfailed hheld 9 (.inr rfl) hstep, s.stepPassed_last r.ms hms]
  exact ⟨hphase, hnext, hdone, (hframe.fld (by decide)).trans hdur, hstart, hevent, hmem.trans (s.setFld_mem _ _)⟩

end

/-- Settles O53: a clause for each step, from what a step that passes, fails or ends the start leaves. -/
theorem startSteps : Obligations.StartSteps := by
  unfold Obligations.StartSteps
  intro r n s hp hn hup hfailed hms hroom
  subst hn
  refine ⟨startStepDone_haltHeld r hp hup hfailed hroom, startStepDone_paused r hp hup hfailed, fun hheld => ⟨?_, ?_, ?_, ?_, ?_⟩⟩
  · exact startStepDone_one_passed r hp hup hfailed hheld hms
  · exact startStepDone_one_failed r hp hup hfailed hheld hroom
  · intro hstep
    obtain ⟨t, ht, hphase, hnext, ⟨hbase, hscale, hrick, htenancy⟩, hmem⟩ :=
      startStepDone_four r hp hup hfailed hheld hms hstep
    refine ⟨t, ht, hphase, hnext, fun good hgood => ?_, hmem⟩
    have hgrants : ∀ f, s.grants r f = true ↔ ∃ x ∈ s.nvm.licences, good x f = true := fun f => by
      rw [s.grants_iff, hgood]
    rw [hbase, hscale, hrick, htenancy]
    simp only [Bool.and_eq_true, hgrants, and_self]
  · exact startStepDone_eight r hp hup hfailed hheld hms
  · exact startStepDone_nine r hp hup hfailed hheld hms hroom

end Sys2Proof.Machine
end

section
/-! Cold start, loss of power, and the records of the NVM. -/

namespace Sys2Proof.Machine

variable {s : State}

/-! ### Cold start -/

theorem exec_coldStart (slot : Nat) (h : s.phase = .off) (hrst : s.pins.trayRstN = false) :
    exec (.coldStart slot) s = .next (s.powerUp slot) := by
  have e : exec (.coldStart slot) s = execColdStart slot s := rfl
  rw [e, execColdStart, if_pos ⟨h, by simp [hrst]⟩]

theorem coldStart_starts (slot : Nat) (h : s.phase = .off) (hrst : s.pins.trayRstN = false) (hslot : slot < 64) :
    ∃ t, exec (.coldStart slot) s = .next t ∧ t.phase = .start ∧ t.fld Reg.glbSlotSlotId = slot
      ∧ t.fld Reg.glbPowerCyclesCount = min (s.nvm.cycles + 1) (2 ^ 24 - 1)
      ∧ (s.nvm.optime < 2 ^ 40 → t.pair Reg.glbOptimeMsLoOff = s.nvm.optime) ∧ t.mem = [] ∧ t.ctxs = [] ∧ t.sessions = []
      ∧ t.nvm = { s.nvm with shutdown := 0 } ∧ t.pending = s.pending ∧ t.flag Reg.pwrStatusBrake = ! s.pins.brakeN
      ∧ t.flag Reg.pwrStatusHaltFlowLoss = ! s.pins.flowLossN := by
  obtain ⟨⟨hflds, rs, q, l, p, e⟩, hbrake, hflow⟩ := s.powerUp_change slot
  obtain ⟨-, -, -, e'⟩ := (s.slotted slot).savedCounts_eq
  have hnvm := s.slotted_nvm slot h
  have hcycles := (s.slotted slot).savedCounts_cycles
  have hoptime := (s.slotted slot).savedCounts_optime
  rw [hnvm] at hcycles hoptime e'
  refine ⟨_, exec_coldStart slot h hrst, ?_, ?_, (hflds _ (by decide)).trans hcycles,
    fun ho => (hflds.pair (by decide) (by decide)).trans (hoptime ho), ?_, ?_, ?_, ?_, ?_, hbrake, hflow⟩
  · rw [e, e']; rfl
  · rw [hflds _ (by decide), State.savedCounts_fld _ _ (by decide), s.slotted_slot slot hslot]
  · rw [e, e']; rfl
  · rw [e, e']; rfl
  · rw [e, e']; rfl
  · rw [e, e']
  · rw [e, e']; rfl

/-! ### Loss of power (R531, R534, R536) -/

/-- Whatever the copy of an image has begun to write, power that goes leaves the rest of the NVM. -/
theorem State.nvmLeft_cases (s : State) : s.nvmLeft = s.nvm ∨ s.nvmLeft = { s.nvm with active := none } := by
  unfold State.nvmLeft
  split_ifs
  · exact .inr rfl
  · exact .inl rfl

/-- The counters as a record. -/
theorem Nvm.put_counters (n : Nvm) (o c w d : Nat) :
    (n.put (.counters o c w d)).optime = o ∧ (n.put (.counters o c w d)).cycles = c ∧ (n.put (.counters o c w d)).ash = n.ash := by
  simp only [Nvm.put, Nvm.use, Nvm.dropOlder, and_self]

/-- The counters saved before power goes are what the NVM keeps. -/
theorem State.saveCounters_nvmLeft (s : State) (w : Nat) : (s.saveCounters w).nvmLeft.optime = s.opTime
    ∧ (s.saveCounters w).nvmLeft.cycles = s.fld Reg.glbPowerCyclesCount ∧ (s.saveCounters w).nvmLeft.ash = s.nvm.ash := by
  have hput := s.nvm.put_counters s.opTime (s.fld Reg.glbPowerCyclesCount) (s.fld Reg.botWarmResetsCount) w
  have hnvm : (s.saveCounters w).nvm
      = s.nvm.put (.counters s.opTime (s.fld Reg.glbPowerCyclesCount) (s.fld Reg.botWarmResetsCount) w) := by
    simp only [State.saveCounters]
  have hleft := (s.saveCounters w).nvmLeft_cases
  rw [hnvm] at hleft
  generalize s.nvm.put _ = n at hput hleft
  rcases hleft with e | e <;> rw [e] <;> exact hput

theorem State.saveCounters_audit (s : State) (w : Nat) : (s.saveCounters w).audit = s.audit := by
  obtain ⟨n, e⟩ : ∃ n, s.saveCounters w = { s with nvm := n } := ⟨_, rfl⟩
  rw [e]

/-- TRAY_RST_N low. -/
def State.resetLow (t : State) : State := { t with pins := { t.pins with trayRstN := false } }

/-- A module without power under a low TRAY_RST_N. -/
theorem State.resetLow_gone (u : State) : u.gone.resetLow.phase = .off ∧ u.gone.resetLow.pins.trayRstN = false
    ∧ u.gone.resetLow.nvm = u.nvmLeft ∧ u.gone.resetLow.audit = u.audit ∧ u.gone.resetLow.regs = [] ∧ u.gone.resetLow.mem = [] :=
  ⟨rfl, rfl, rfl, rfl, rfl, rfl⟩

theorem exec_trayRstAssert (hp : s.powered = true) : exec .trayRstAssert s = .next (s.saveCounters 0).gone.resetLow := by
  have e : exec .trayRstAssert s = execTrayRstAssert s := rfl
  rw [e, execTrayRstAssert, if_pos (s.powered_iff.1 hp).1]
  rfl

theorem trayRstAssert_off (hp : s.powered = true) : ∃ t, exec .trayRstAssert s = .next t ∧ t.phase = .off
    ∧ t.pins.trayRstN = false ∧ t.nvm.optime = s.opTime ∧ t.nvm.cycles = s.fld Reg.glbPowerCyclesCount ∧ t.nvm.ash = s.nvm.ash
    ∧ t.audit = s.audit ∧ t.regs = [] ∧ t.mem = [] := by
  obtain ⟨hoptime, hcycles, hash⟩ := s.saveCounters_nvmLeft 0
  obtain ⟨hphase, hpin, hnvm, haudit, hregs, hmem⟩ := (s.saveCounters 0).resetLow_gone
  refine ⟨_, exec_trayRstAssert hp, hphase, hpin, ?_, ?_, ?_, haudit.trans (s.saveCounters_audit 0), hregs, hmem⟩
  · rw [hnvm, hoptime]
  · rw [hnvm, hcycles]
  · rw [hnvm, hash]

theorem powerLoss_off : ∃ t, exec .powerLoss s = .next t ∧ t.phase = .off ∧ (s.copyingImage = false → t.nvm = s.nvm)
    ∧ t.audit = s.audit ∧ t.regs = [] ∧ t.mem = [] := by
  have e : exec .powerLoss s = .next s.gone.resetLow := rfl
  obtain ⟨hphase, -, hnvm, haudit, hregs, hmem⟩ := s.resetLow_gone
  exact ⟨_, e, hphase, fun h => hnvm.trans (s.nvmLeft_of_not_copying h), haudit, hregs, hmem⟩

/-- The state in which the loss of the reference shuts the module down: the pin's level, the event and the alert. -/
def State.referenceGone (s : State) (ppm : Nat) : State :=
  (({ s with pins := { s.pins with refGood := false } }).ev 0x0C04 7 5 ppm 0).alert Reg.pwrAlertShutdownImminent

/-- The event and the alert change neither the NVM nor what says whether an image is being copied. -/
theorem State.referenceGone_copying (ppm : Nat) :
    (s.referenceGone ppm).nvm = s.nvm ∧ (s.referenceGone ppm).copyingImage = s.copyingImage := by
  have hchange : PowerChange { s with pins := { s.pins with refGood := false } } (s.referenceGone ppm)
      (Reg.pwrAlertShutdownImminent :: alertFlds) :=
    (powerChange_ev _ _ _ _ _ _ (by decide)).trans (powerChange_alert _ _ (by decide) (by decide))
  obtain ⟨hflds, r, q, l, p, e⟩ := hchange
  have hstep := hflds Reg.botStatusStep (by decide)
  have hphase : (s.referenceGone ppm).phase = s.phase := by rw [e]
  have hnvm : (s.referenceGone ppm).nvm = s.nvm := by rw [e]
  refine ⟨hnvm, ?_⟩
  rw [State.copyingImage, hstep, hphase, hnvm]
  rfl

theorem referenceLost_off (hp : s.powered = true) (hrst : s.pins.trayRstN = true) (ppm : Nat) :
    ∃ t, exec (.referenceLost ppm) s = .next t ∧ t.phase = .off ∧ (s.copyingImage = false → t.nvm = s.nvm) ∧ t.regs = []
      ∧ t.mem = [] := by
  have e : exec (.referenceLost ppm) s = execReferenceLost ppm s := rfl
  have hdoes : execReferenceLost ppm s = .next (s.referenceGone ppm).gone := by
    rw [execReferenceLost, s.does_powered _ hp, if_pos hrst]
    rfl
  obtain ⟨hnvm, hcopy⟩ := State.referenceGone_copying (s := s) ppm
  exact ⟨_, e.trans hdoes, rfl, fun h => ((s.referenceGone ppm).gone_nvm (hcopy.trans h)).trans hnvm, rfl, rfl⟩

/-! ### Record writes (R33, R425) -/

section
variable (hp : s.powered = true)
include hp

theorem optimeSave_queues : ∃ t, exec .optimeSave s = .next t
    ∧ t.nvmq = s.nvmq ++ [.counters s.opTime (s.fld Reg.glbPowerCyclesCount) (s.fld Reg.botWarmResetsCount) 0]
    ∧ RegsBut s t [Reg.ctlNvmQueueOff] ∧ t = { s with regs := t.regs, nvmq := t.nvmq } := by
  have e : exec .optimeSave s = execOptimeSave s := rfl
  refine ⟨_, e.trans (s.does_powered _ hp), ?_⟩
  have hregs := regsBut_nvmPut s (.counters s.opTime (s.fld Reg.glbPowerCyclesCount) (s.fld Reg.botWarmResetsCount) 0) _
    (List.mem_singleton_self Reg.ctlNvmQueueOff)
  obtain ⟨r, e'⟩ := s.nvmPut_eq (.counters s.opTime (s.fld Reg.glbPowerCyclesCount) (s.fld Reg.botWarmResetsCount) 0)
  exact ⟨by rw [e'], hregs, by rw [e']⟩

variable (hw : s.start.warmWait = false)
include hw

/-- With no warm reset waiting RECORD_WRITE_DONE is what ends the write, so long as that leaves the start's own state. -/
theorem exec_recordWriteDone (ty : Nat) (ok : Bool) (h : (s.recordDone ty ok).start = s.start) :
    exec (.recordWriteDone ty ok) s = .next (s.recordDone ty ok) := by
  have e : exec (.recordWriteDone ty ok) s = execRecordWriteDone ty ok s := rfl
  rw [e, execRecordWriteDone, s.does_powered _ hp, State.tryWarm_of_none _ (by rw [h, hw])]

theorem recordWriteDone_audit : exec (.recordWriteDone 13 true) s = .next s
    ∧ exec (.recordWriteDone 13 false) s = .next { s with auditBad := true } :=
  ⟨exec_recordWriteDone hp hw 13 true rfl, exec_recordWriteDone hp hw 13 false rfl⟩

variable (ty : Nat) (d : RecData) (hty : ty ≠ 13) (hd : s.nvmq.find? (fun e => e.type == ty) = some d)
include hty hd

theorem recordWriteDone_stored : ∃ t, exec (.recordWriteDone ty true) s = .next t ∧ t.nvmq = s.nvmq.erase d ∧ t.nvm = s.nvm.put d
    ∧ t.fld Reg.botNvmWritesCount = min (s.fld Reg.botNvmWritesCount + 1) (2 ^ 32 - 1)
    ∧ RegsBut s t [Reg.ctlNvmQueueOff, Reg.botNvmWritesOff] ∧ t = { s with regs := t.regs, nvmq := t.nvmq, nvm := t.nvm } := by
  have hdone := s.recordDone_stored ty d hty hd
  obtain ⟨r, e⟩ := s.recordStored_eq d
  refine ⟨_, exec_recordWriteDone hp hw ty true (by rw [hdone, e]), ?_⟩
  rw [hdone]
  exact ⟨by rw [e], by rw [e], s.recordStored_writes d, regsBut_recordStored s d, by rw [e]⟩

theorem recordWriteDone_failed (hr : s.room 1 = true) : ∃ t, exec (.recordWriteDone ty false) s = .next t
    ∧ t.nvmq = s.nvmq.erase d ∧ t.nvm = s.nvm.dropOlder ty ∧ t.hasEvent 0x0E07 0 ty (1 - tget s.nvm.newer 0 ty) 4
    ∧ t.fld Reg.botNvmFailsCount = min (s.fld Reg.botNvmFailsCount + 1) (2 ^ 32 - 1)
    ∧ RegsBut s t (evRegs ++ [Reg.ctlNvmQueueOff, Reg.botNvmFailsOff])
    ∧ t = { s with regs := t.regs, nvmq := t.nvmq, nvm := t.nvm, evq := t.evq } := by
  have hdone := s.recordDone_failed ty d hty hd
  obtain ⟨r, q, e⟩ := s.recordFailed_eq ty d hr
  refine ⟨_, exec_recordWriteDone hp hw ty false (by rw [hdone, e]), ?_⟩
  rw [hdone]
  exact ⟨by rw [e], by rw [e], s.recordFailed_hasEvent ty d hr, s.recordFailed_fails ty d, regsBut_recordFailed s ty d, by rw [e]⟩

end

/-- Settles O52: the cold start by what the pins leave of the restored state, the losses of power by what the NVM keeps, the record
writes by what takes a record off the queue. -/
theorem powerAndRecords : Obligations.PowerAndRecords := by
  unfold Obligations.PowerAndRecords
  refine ⟨fun slot s => coldStart_starts slot, fun s hp => ⟨trayRstAssert_off hp, powerLoss_off, referenceLost_off hp,
    optimeSave_queues hp, recordWriteDone_audit hp, fun ty d hty hd hw => ⟨?_, ?_⟩⟩⟩
  · exact recordWriteDone_stored hp hw ty d hty hd
  · exact recordWriteDone_failed hp hw ty d hty hd

end Sys2Proof.Machine
end

section
/-! SUPPORT. Writes to sound memory: what one request leaves, and what the requests of a run of bytes leave together (R169, R179,
R180). -/

namespace Sys2Proof.Machine

variable (s : State)

/-! ### Tables -/

theorem tdel_of_not_found {α : Type} (t : Tbl α) (k : Nat) (h : tfind t k = none) : tdel t k = t := by
  induction t with
  | nil => rfl
  | cons y t ih =>
    obtain ⟨a, w⟩ := y
    rw [tfind] at h
    split_ifs at h with hk
    rw [tdel, if_neg hk, ih h]

/-- A new entry that is removed again leaves the table as it was. -/
theorem tdel_tput_of_not_found {α : Type} (t : Tbl α) (k : Nat) (v : α) (h : tfind t k = none) : tdel (tput t k v) k = t := by
  induction t with
  | nil => simp [tput, tdel]
  | cons y t ih =>
    obtain ⟨a, w⟩ := y
    have htail := h
    rw [tfind] at htail
    split_ifs at htail with hk
    rw [tput, if_neg hk]
    split_ifs
    · rw [tdel, if_pos rfl, tdel_of_not_found _ _ h]
    · rw [tdel, if_neg hk, ih htail]

/-! ### Bytes written -/

theorem Memory.byte_write_add (m : Memory) (a i : Nat) (bs : List Byte) (h : i < bs.length) :
    Memory.byte (Memory.write m a bs) (a + i) = bs.getD i 0 := by
  induction bs generalizing m a i with
  | nil => simp at h
  | cons x bs ih =>
    cases i with
    | zero => rw [Memory.write, Memory.byte_write_ne _ _ _ _ (by omega), Memory.byte_put]; simp
    | succ i =>
      rw [Memory.write, show a + (i + 1) = a + 1 + i by omega, ih _ _ _ (by simpa using h)]
      simp

theorem Memory.write_append (m : Memory) (a : Nat) (bs cs : List Byte) :
    Memory.write m a (bs ++ cs) = Memory.write (Memory.write m a bs) (a + bs.length) cs := by
  induction bs generalizing m a with
  | nil => rfl
  | cons x bs ih => rw [List.cons_append, Memory.write, ih, Memory.write, List.length_cons, Nat.add_assoc a 1, Nat.add_comm 1]

/-! ### Granules and their symbols (R171, R179, R180) -/

theorem mem_granules {a n g : Nat} : g ∈ granules a n ↔ n ≠ 0 ∧ granule a ≤ g ∧ g ≤ granule (a + n - 1) := by
  have hle : granule a ≤ granule (a + n - 1) ∨ n = 0 := by simp only [granule]; omega
  unfold granules
  split_ifs with h
  · simp [h]
  · simp only [List.mem_map, List.mem_range]
    constructor
    · rintro ⟨i, hi, rfl⟩; omega
    · rintro ⟨-, h1, h2⟩; exact ⟨g - granule a, by omega, by omega⟩

/-- Part of a run of bytes touches part of its granules. -/
theorem granules_subset {a n b m : Nat} (h : a ≤ b) (h' : b + m ≤ a + n) : granules b m ⊆ granules a n := fun g hg => by
  obtain ⟨hm, hlo, hhi⟩ := mem_granules.1 hg
  refine mem_granules.2 ⟨by omega, ?_, ?_⟩ <;> simp only [granule] at * <;> omega

theorem State.sound_iff {s : State} {a n : Nat} :
    s.sound a n = true ↔ ∀ g ∈ granules a n, g ∉ s.badGranules ∧ ∀ x ∈ s.faint, x.1 ≠ g := by
  simp only [State.sound, State.badIn, State.isBad, Bool.and_eq_true, List.isEmpty_iff, List.filter_eq_nil_iff, List.all_eq_true,
    List.contains_iff_mem, Bool.not_eq_true', ← Bool.not_eq_true]
  exact ⟨fun ⟨hb, hf⟩ g hg => ⟨hb g hg, fun x hx e => hf x hx (e ▸ hg)⟩,
    fun h => ⟨fun g hg => (h g hg).1, fun x hx hg => (h _ hg).2 x hx rfl⟩⟩

/-- Where no granule has a symbol in error, a check corrects nothing. -/
theorem State.corrects_of_not_faint (gs : List Nat) (h : ∀ y ∈ s.faint, gs.contains y.1 = false) : s.corrects gs = s := by
  have hnone : (s.faint.filter fun x => gs.contains x.1 && ! s.isBad x.1) = [] :=
    List.filter_eq_nil_iff.2 fun x hx => by simp only [h x hx, Bool.false_and, Bool.false_eq_true, not_false_eq_true]
  rw [State.corrects, hnone]
  rfl

/-! ### One request -/

/-- From `s` to `t` some bytes have been written to memory, and nothing changed but memory, the symbols in error of what was written
and the demand bursts. -/
structure MemStored (s t : State) (a : Nat) (bs : List Byte) : Prop where
  mem : t.mem = s.mem.write a bs
  bad : t.badGranules ⊆ s.badGranules
  faint : t.faint ⊆ s.faint
  frame : t = { s with mem := t.mem, badGranules := t.badGranules, faint := t.faint, bursts := t.bursts }

/-- The `n` bytes from a lie in main memory, no rick is formed, no symbol of them is in error, and the requester may write each. -/
structure State.Writable (s : State) (w : Who) (a n : Nat) : Prop where
  top : a + n ≤ memTop
  rick : s.rickOn = false
  sound : s.sound a n = true
  reach : ∀ b, a ≤ b → b < a + n → s.reach w true b = .ok

section
variable {s} {t u : State} {w : Who} {a n : Nat}

theorem MemStored.nil : MemStored s s a [] := ⟨rfl, List.Subset.refl _, List.Subset.refl _, rfl⟩

theorem MemStored.trans {bs cs : List Byte} (h : MemStored s t a bs) (h' : MemStored t u (a + bs.length) cs) :
    MemStored s u a (bs ++ cs) where
  mem := by rw [h'.mem, h.mem, Memory.write_append]
  bad := List.Subset.trans h'.bad h.bad
  faint := List.Subset.trans h'.faint h.faint
  frame := by
    have e := h'.frame
    rw [h.frame] at e
    exact e

theorem State.Writable.mono {b m : Nat} (h : s.Writable w a n) (hlo : a ≤ b) (hhi : b + m ≤ a + n) : s.Writable w b m where
  top := le_trans hhi h.top
  rick := h.rick
  sound := State.sound_iff.2 fun g hg => State.sound_iff.1 h.sound g (granules_subset hlo hhi hg)
  reach c h1 h2 := h.reach c (by omega) (by omega)

/-- What could be written can be written after another write. -/
theorem State.Writable.after {b : Nat} {bs : List Byte} (h : s.Writable w a n) (hst : MemStored s t b bs) : t.Writable w a n where
  top := h.top
  rick := by rw [hst.frame]; exact h.rick
  sound := State.sound_iff.2 fun g hg => by
    obtain ⟨hbad, hfaint⟩ := State.sound_iff.1 h.sound g hg
    exact ⟨fun hx => hbad (hst.bad hx), fun x hx => hfaint x (hst.faint hx)⟩
  reach c h1 h2 := by rw [hst.frame]; exact h.reach c h1 h2

/-- With no rick there is no protected unit to log. -/
theorem State.logFirst_of_no_rick (h : s.rickOn = false) : s.logFirst w a n = s := by
  have hunit : s.unitAt a = none := by simp [State.unitAt, h]
  unfold State.logFirst
  rw [hunit]
  split_ifs <;> rfl

/-- A write to sound memory answers OK and leaves the bytes. -/
theorem State.writeBytes_writable {bs : List Byte} (h : s.Writable w a bs.length) :
    (s.writeBytes a bs).2 = .ok ∧ MemStored s (s.writeBytes a bs).1 a bs := by
  have hlow : a < sramBase := by have := h.top; simp only [memTop, sramBase] at *; omega
  have hbad : s.badIn a bs.length = [] := List.filter_eq_nil_iff.2 fun g hg => by
    simpa [State.isBad] using (State.sound_iff.1 h.sound g hg).1
  have hcorrects : (s.burst (granules a bs.length)).corrects ((granules a bs.length).filter fun g => ! covered a bs.length g)
      = s.burst (granules a bs.length) := State.corrects_of_not_faint _ _ fun y hy => by
    rw [← Bool.not_eq_true, List.contains_iff_mem]
    exact fun hg => (State.sound_iff.1 h.sound _ (List.mem_of_mem_filter hg)).2 y hy rfl
  unfold State.writeBytes
  simp only [if_pos hlow, hbad, hcorrects, List.filter_nil, List.isEmpty_nil, if_true, State.store, State.each, List.foldl_nil]
  exact ⟨trivial, rfl, List.filter_subset_self _, List.filter_subset_self _, rfl⟩

end

/-! ### The requests of a run of bytes (R169) -/

/-- One request of a write of bytes from a. -/
def savePiece (w : Who) (a : Nat) (bs : List Byte) (x : State × Status) (p : Nat × Nat) : State × Status :=
  match x.1.reach w true p.1 with
  | .ok =>
    let r := (x.1.logFirst w p.1 p.2).writeBytes p.1 ((bs.drop (p.1 - a)).take p.2)
    (r.1, if x.2 = .ok then r.2 else x.2)
  | e => (x.1, if x.2 = .ok then e else x.2)

theorem State.save_eq (w : Who) (a : Nat) (bs : List Byte) :
    s.save w a bs = (pieces (bs.length / 4096 + 2) a bs.length).foldl (savePiece w a bs) (s, .ok) := rfl

section
variable {s} {w : Who} {a : Nat} {bs : List Byte}

theorem savePiece_writable {b k : Nat} (hk : 0 < k) (hlen : b - a + k ≤ bs.length) (h : s.Writable w b k) :
    (savePiece w a bs (s, .ok) (b, k)).2 = .ok
      ∧ MemStored s (savePiece w a bs (s, .ok) (b, k)).1 b ((bs.drop (b - a)).take k) := by
  have hl : ((bs.drop (b - a)).take k).length = k := by simp; omega
  unfold savePiece
  simp only [h.reach b (le_refl b) (by omega), State.logFirst_of_no_rick h.rick, if_true]
  exact State.writeBytes_writable (by rw [hl]; exact h)

/-- The requests that are left write the bytes that are left: `fuel` of them reach to the end of the bytes. -/
theorem foldl_savePiece (fuel b n : Nat) (hlo : a ≤ b) (hn : b + n = a + bs.length) (hf : n = 0 ∨ b % 4096 + n ≤ 4096 * fuel)
    (h : s.Writable w b n) :
    ((pieces fuel b n).foldl (savePiece w a bs) (s, .ok)).2 = .ok
      ∧ MemStored s ((pieces fuel b n).foldl (savePiece w a bs) (s, .ok)).1 b (bs.drop (b - a)) := by
  have hend : n = 0 → bs.drop (b - a) = [] := fun h0 => List.drop_eq_nil_of_le (by omega)
  induction fuel generalizing s b n with
  | zero =>
    rw [hend (by omega)]
    exact ⟨rfl, MemStored.nil⟩
  | succ fuel ih =>
    rw [pieces]
    split_ifs with h0
    · rw [hend h0]
      exact ⟨rfl, MemStored.nil⟩
    · obtain ⟨k, hk⟩ : ∃ k, k = min n (4096 - b % 4096) := ⟨_, rfl⟩
      obtain ⟨y, hy⟩ : ∃ y, y = savePiece w a bs (s, .ok) (b, k) := ⟨_, rfl⟩
      simp only [← hk, List.foldl_cons, ← hy]
      have hfirst := savePiece_writable (a := a) (bs := bs) (by omega : 0 < k) (by omega) (h.mono (le_refl b) (by omega))
      rw [← hy] at hfirst
      obtain ⟨hok, hst⟩ := hfirst
      obtain ⟨hok', hst'⟩ := ih (s := y.1) (b + k) (n - k) (by omega) (by omega) (by omega)
        ((h.mono (by omega) (by omega)).after hst) fun h1 => List.drop_eq_nil_of_le (by omega)
      have hl : ((bs.drop (b - a)).take k).length = k := by simp; omega
      have hrest : bs.drop (b - a) = (bs.drop (b - a)).take k ++ bs.drop (b + k - a) := by
        rw [show b + k - a = b - a + k by omega, ← List.drop_drop, List.take_append_drop]
      rw [show y = (y.1, .ok) from Prod.ext rfl hok, hrest]
      exact ⟨hok', hst.trans (by rw [hl]; exact hst')⟩

/-- Bytes written where the requester may write sound memory are all stored. -/
theorem State.save_writable (h : s.Writable w a bs.length) : (s.save w a bs).2 = .ok ∧ MemStored s (s.save w a bs).1 a bs := by
  have hall := foldl_savePiece (a := a) (bs := bs) (bs.length / 4096 + 2) a bs.length (le_refl a) rfl (.inr (by omega)) h
  rw [Nat.sub_self, List.drop_zero] at hall
  rw [State.save_eq]
  exact hall

end

end Sys2Proof.Machine
end

section
/-! Running firings: the end of a frame pass, of a unit and of a tile. -/

namespace Sys2Proof.Machine

/-! ### The sequencer of a partition -/

section
variable (s : State) (p : Nat)

/-- The sequencer of partition `p` runs the firing `r`. -/
def State.runs (s : State) (p : Nat) (r : Run) : State := s.setPart p { s.part p with run := some r }

theorem State.part_setPart (q : Sequencer) : (s.setPart p q).part p = q := by
  rw [State.part, State.setPart, tget_tset, if_pos rfl]

theorem State.runs_run (r : Run) : ((s.runs p r).part p).run = some r := by rw [State.runs, State.part_setPart]

theorem State.runs_eq (r : Run) : s.runs p r = { s with parts := (s.runs p r).parts } := rfl

/-- The first fault of a firing is kept with the clock of its grant (R132). -/
theorem State.faultFiring_first (r : Run) (f : FireFault) (hr : (s.part p).run = some r) (hf : r.fault = none) :
    s.faultFiring p f = s.runs p { r with fault := some { f with granted := s.clk } } := by
  simp only [State.faultFiring, hr, Run.withFault, hf, State.runs]

end

/-! ### What the end of a unit leaves beside its sequencer -/

section
variable (s : State)

/-- Operands that reach a core leave only the stores changed (R78, R87). -/
theorem State.feed_eq (p n : Nat) : ∃ m l, s.feed p n = { s with sram := m, sramResets := l } := by
  unfold State.feed
  split
  · dsimp only
    split_ifs <;> exact ⟨_, _, rfl⟩
  · exact ⟨_, _, rfl⟩

/-- A unit that a core has run changes what the cores and their stores hold alone. -/
theorem State.coreRan_eq (p n u : Nat) (words : List (Nat × Nat × Nat × Int × Tally)) :
    ∃ c m l, s.coreRan p n u words = { s with coreParts := c, sram := m, sramResets := l } := by
  unfold State.coreRan
  split
  · next k q _ =>
    obtain ⟨m, l, e⟩ := s.feed_eq p n
    dsimp only
    rw [e]
    exact ⟨_, m, l, rfl⟩
  · exact ⟨_, _, _, rfl⟩

@[simp] theorem State.spare_parts (ch cause : Nat) : (s.spare ch cause).parts = s.parts := by
  unfold State.spare
  dsimp only
  split_ifs <;> simp

@[simp] theorem State.spare_clk (ch cause : Nat) : (s.spare ch cause).clk = s.clk := by
  unfold State.spare
  dsimp only
  split_ifs <;> simp

@[simp] theorem State.countUe_parts (g source : Nat) : (s.countUe g source).parts = s.parts := by simp [State.countUe]

@[simp] theorem State.countUe_clk (g source : Nat) : (s.countUe g source).clk = s.clk := by simp [State.countUe]

/-- Counting uncorrectable errors leaves the sequencers and the clock (R181). -/
theorem State.countUes_frame (gs : List Nat) (source : Nat) :
    (s.each gs fun v g => v.countUe g source).parts = s.parts ∧ (s.each gs fun v g => v.countUe g source).clk = s.clk :=
  ⟨s.each_frame State.parts gs _ fun t g => t.countUe_parts g source, s.each_frame State.clk gs _ fun t g => t.countUe_clk g source⟩

end

/-! ### The end of a frame pass (R45) -/

/-- A powered module runs the firing `r` on partition `p`, and no fault has ended it. -/
structure State.Fires (s : State) (p : Nat) (r : Run) : Prop where
  powered : s.powered = true
  run : (s.part p).run = some r
  fault : r.fault = none

theorem framePassDone_main {s : State} {p : Nat} {r : Run} (h : s.Fires p r) (hstage : r.stage = .framePass) (howed : r.readsOwed = 0) :
    ∃ t, exec (.framePassDone p) s = .next t ∧ (t.part p).run = some { r with stage := .main, progress := s.clk }
      ∧ t = { s with parts := t.parts } := by
  have e : exec (.framePassDone p) s = execFramePassDone p s := rfl
  refine ⟨s.runs p { r with stage := .main, progress := s.clk }, ?_, s.runs_run p _, s.runs_eq p _⟩
  rw [e, execFramePassDone, s.does_powered _ h.powered, State.framePassDone, h.run]
  simp only [hstage, howed, h.fault, Option.isNone_none, and_self, if_true, State.runs]

/-! ### The end of a unit (R110, R154, R180) -/

/-- A unit of a tile has run: it is noted, and its core has run it. -/
def State.unitRan (s : State) (p u : Nat) (r : Run) (d : Desc) : State :=
  (s.runs p { r with unitsDone := r.unitsDone ++ [u], progress := s.clk }).coreRan p (r.owners.getD u 0) u
    (unitWords d (s.reader r) r.units u)

theorem State.unitRan_eq (s : State) (p u : Nat) (r : Run) (d : Desc) :
    ∃ c m l, s.unitRan p u r d = { s.runs p { r with unitsDone := r.unitsDone ++ [u], progress := s.clk } with
      coreParts := c, sram := m, sramResets := l } :=
  State.coreRan_eq _ p (r.owners.getD u 0) u _

/-- What the end of a unit does, by the fault that its operands make. -/
def State.unitEnds (s : State) (p u : Nat) (r : Run) (d : Desc) (tile : Nat) : Option (Status × Nat × List Nat) → State
  | some (st, slot, gs) => (s.each gs fun v g => v.countUe g 1).faultFiring p { status := st, slot := slot, unit := u }
  | none =>
    if badIndex d (s.reader r) tile then s.faultFiring p { status := .access, slot := 1, unit := u }
    else (s.corrects (s.operandGranules (unitRanges d (s.reader r) r.env tile))).unitRan p u r d

/-- A firing in its main pass, of context `x` and descriptor `d`, may end its unit `u`, one of the tile. -/
structure State.UnitReady (s : State) (p u : Nat) (r : Run) (x : Ctx) (d : Desc) (tile : Nat) : Prop extends s.Fires p r where
  stage : r.stage = .main
  owed : r.readsOwed = 0
  ctx : s.ctx r.ctx = some x
  desc : r.desc = some d
  ofTile : tileOfUnit r.units u 0 = some tile
  new : r.unitsDone.contains u = false
  may : s.mayRunUnit p u r = true

section
variable {p u tile : Nat} {r : Run} {x : Ctx} {d : Desc} {s : State} (h : s.UnitReady p u r x d tile)
include h

theorem exec_unitDone : exec (.unitDone p u []) s
    = .next (s.unitEnds p u r d tile (s.operandFault x.job (unitRanges d (s.reader r) r.env tile))) := by
  have e : exec (.unitDone p u []) s = execUnitDone p u [] s := rfl
  have hstores : s.storesCorrected p [] = s := rfl
  have hdesc : r.desc.getD (descOf r.bytes) = d := by rw [h.desc]; rfl
  have hready : ¬ (r.stage ≠ .main ∨ r.fault.isSome ∨ 0 < r.readsOwed ∨ r.unitsDone.contains u ∨ ¬ s.mayRunUnit p u r) := by
    simp only [h.stage, h.fault, h.owed, h.new, h.may, Option.isSome_none, ne_eq, not_true_eq_false, Bool.false_eq_true, lt_irrefl, or_self,
      not_false_eq_true]
  rw [e, execUnitDone, s.does_powered _ h.powered]
  simp only [State.unitDone, h.run, h.ctx, hdesc, h.ofTile, if_neg hready, hstores]
  cases s.operandFault x.job (unitRanges d (s.reader r) r.env tile) <;> rfl

variable (rs : List (Nat × Nat × Nat)) (hrs : rs = unitRanges d (s.reader r) r.env tile)
include hrs

theorem unitDone_noted (hreads : s.operandFault x.job rs = none) (hindex : badIndex d (s.reader r) tile = false)
    (hsound : ∀ y ∈ s.faint, (s.operandGranules rs).contains y.1 = false) :
    ∃ t, exec (.unitDone p u []) s = .next t ∧ (t.part p).run = some { r with unitsDone := r.unitsDone ++ [u], progress := s.clk }
      ∧ t = { s with parts := t.parts, coreParts := t.coreParts, sram := t.sram, sramResets := t.sramResets } := by
  subst hrs
  refine ⟨_, exec_unitDone h, ?_⟩
  rw [hreads, State.unitEnds, hindex, if_neg Bool.false_ne_true, s.corrects_of_not_faint _ hsound]
  obtain ⟨c, m, l, e⟩ := s.unitRan_eq p u r d
  rw [e]
  exact ⟨s.runs_run p _, rfl⟩

theorem unitDone_badIndex (hreads : s.operandFault x.job rs = none) (hindex : badIndex d (s.reader r) tile = true) :
    ∃ t, exec (.unitDone p u []) s = .next t
      ∧ (t.part p).run = some { r with fault := some { status := .access, slot := 1, unit := u, granted := s.clk } }
      ∧ t = { s with parts := t.parts } := by
  subst hrs
  refine ⟨_, exec_unitDone h, ?_⟩
  rw [hreads, State.unitEnds, hindex, if_pos rfl, s.faultFiring_first p r _ h.run h.fault]
  exact ⟨s.runs_run p _, s.runs_eq p _⟩

theorem unitDone_unreadable (st : Status) (slot : Nat) (gs : List Nat) (hreads : s.operandFault x.job rs = some (st, slot, gs)) :
    ∃ t, exec (.unitDone p u []) s = .next t
      ∧ (t.part p).run = some { r with fault := some { status := st, slot := slot, unit := u, granted := s.clk } } := by
  subst hrs
  refine ⟨_, exec_unitDone h, ?_⟩
  obtain ⟨hparts, hclk⟩ := s.countUes_frame gs 1
  rw [hreads, State.unitEnds, State.faultFiring_first _ p r _ (by rw [State.part, hparts]; exact h.run) h.fault, State.runs_run, hclk]

end

/-! ### The end of a tile (R110, R113) -/

/-- A tile that owes one response alone is complete with it (R113). -/
theorem Run.answered_last (r : Run) (tile clk : Nat) (h : tfind r.tilesOwed tile = none) :
    Run.answered { r with tilesOwed := tput r.tilesOwed tile 1 } tile clk
      = { r with tilesDone := r.tilesDone ++ [tile], progress := clk } := by
  simp only [Run.answered, tfind_tput, if_true, lt_irrefl, if_false, tdel_tput_of_not_found _ _ _ h]

theorem State.releaseTile_last (s : State) (p tile : Nat) (r : Run) (hr : (s.part p).run = some r)
    (hentries : ∀ e ∈ r.entries, e.1 ≠ tile) : s.releaseTile p tile = s.runs p (r.answered tile s.clk) := by
  have hnone : (r.entries.any fun e => e.1 == tile) = false := by simpa using hentries
  simp only [State.releaseTile, hr, hnone, Bool.and_false, Bool.false_eq_true, if_false, State.runs]

/-- What may be reached in main memory depends on no sequencer. -/
theorem State.reach_runs (s : State) (p : Nat) (r : Run) (w : Who) (write : Bool) (b : Nat) (h : b < memTop) :
    (s.runs p r).reach w write b = s.reach w write b := by
  have hm : mapped b = true := by simpa [mapped] using h
  simp only [State.reach, if_pos hm]
  rfl

theorem State.Writable.runs {s : State} {w : Who} {a n : Nat} (h : s.Writable w a n) (p : Nat) (r : Run) :
    (s.runs p r).Writable w a n := by
  refine ⟨h.top, h.rick, h.sound, fun b hlo hhi => ?_⟩
  rw [s.reach_runs p r w true b (lt_of_lt_of_le hhi h.top)]
  exact h.reach b hlo hhi

/-- Bytes of a tile that lie on this module, where its firing may write sound memory, are stored. -/
theorem State.writeOut_stored (s : State) (p tile job slot z : Nat) (bs : List Byte) (hz : s.isLocal z = true)
    (hw : s.Writable (.firing job) (z % 2 ^ 48) bs.length) : MemStored s (s.writeOut p tile job slot z bs) (z % 2 ^ 48) bs := by
  obtain ⟨hok, hst⟩ := State.save_writable hw
  rw [State.writeOut, if_pos (by simpa [State.isLocal] using hz), State.writeHere]
  simp only [hok, if_true]
  exact hst

/-- The firing with a tile in write-back that owes one response, and with the flags of the tile's elements. -/
def Run.inWriteBack (r : Run) (tile : Nat) (out : TileOut) : Run :=
  { r with tilesOwed := tput r.tilesOwed tile 1
           flags := { r.flags with tally := r.flags.tally || out.tally, special := r.flags.special || out.special } }

/-- A firing in its main pass, of context `x` and descriptor `d`, may end the tile: its units are done, and its operands can be read. -/
structure State.TileReady (s : State) (p tile : Nat) (r : Run) (x : Ctx) (d : Desc) : Prop extends s.Fires p r where
  stage : r.stage = .main
  lt : tile < r.units.length
  new : r.tilesDone.contains tile = false
  owed : tfind r.tilesOwed tile = none
  units : ∀ i, i < r.units.getD tile 0 → r.unitsDone.contains (firstUnit r.units tile + i) = true
  ctx : s.ctx r.ctx = some x
  desc : r.desc = some d
  reads : s.operandFault x.job (readRanges d r.env) = none
  sound : ∀ y ∈ s.faint, (s.operandGranules (readRanges d r.env)).contains y.1 = false

section
variable {p tile : Nat} {r : Run} {x : Ctx} {d : Desc} {s : State} (h : s.TileReady p tile r x d)
include h

/-- A tile that writes one run of bytes writes it back, and is then released. -/
theorem exec_tileDone_one {z : Nat} {bs : List Byte} {out : TileOut} (hout : out = tileOut d (s.reader r) r.env tile)
    (hwrites : out.writes = [(z, bs)]) (hrows : out.rows = []) (hadds : out.adds = []) :
    exec (.tileDone p tile) s
      = .next (((s.runs p (r.inWriteBack tile out)).writeOut p tile x.job 3 z bs).releaseTile p tile) := by
  have e : exec (.tileDone p tile) s = execTileDone p tile s := rfl
  have hdesc : r.desc.getD (descOf r.bytes) = d := by rw [h.desc]; rfl
  have hready : ¬ (r.stage ≠ .main ∨ r.fault.isSome ∨ r.units.length ≤ tile ∨ r.tilesDone.contains tile
      ∨ (tfind r.tilesOwed tile).isSome
      ∨ ((List.range (r.units.getD tile 0)).any fun i => ! r.unitsDone.contains (firstUnit r.units tile + i))) := by
    have hall : ((List.range (r.units.getD tile 0)).any fun i => ! r.unitsDone.contains (firstUnit r.units tile + i)) = false :=
      List.any_eq_false.2 fun i hi => by rw [h.units i (List.mem_range.1 hi)]; decide
    simp only [h.stage, h.fault, h.new, h.owed, hall, not_le.2 h.lt, Option.isSome_none, ne_eq, not_true_eq_false, Bool.false_eq_true,
      or_self, not_false_eq_true]
  rw [e, execTileDone, s.does_powered _ h.powered]
  simp only [State.tileDone, h.run, h.ctx, hdesc, if_neg hready, h.reads, s.corrects_of_not_faint _ h.sound, ← hout, hwrites, hrows,
    hadds, List.map_nil, List.eraseDups_nil, List.append_nil]
  rfl

theorem tileDone_stores {z a : Nat} {bs : List Byte} {out : TileOut} (hentries : ∀ e ∈ r.entries, e.1 ≠ tile)
    (hout : out = tileOut d (s.reader r) r.env tile) (hwrites : out.writes = [(z, bs)]) (hrows : out.rows = []) (hadds : out.adds = [])
    (hz : s.isLocal z = true) (ha : a = z % 2 ^ 48) (hw : s.Writable (.firing x.job) a bs.length) :
    ∃ t, exec (.tileDone p tile) s = .next t
      ∧ (∀ i, i < bs.length → Memory.byte t.mem (a + i) = bs.getD i 0)
      ∧ (∀ b, b < a ∨ a + bs.length ≤ b → Memory.byte t.mem b = Memory.byte s.mem b)
      ∧ (t.part p).run = some { r with
          tilesDone := r.tilesDone ++ [tile], progress := s.clk
          flags := { r.flags with tally := r.flags.tally || out.tally, special := r.flags.special || out.special } }
      ∧ t = { s with parts := t.parts, mem := t.mem, badGranules := t.badGranules, faint := t.faint, bursts := t.bursts } := by
  refine ⟨_, exec_tileDone_one h hout hwrites hrows hadds, ?_⟩
  have hw' : (s.runs p (r.inWriteBack tile out)).Writable (.firing x.job) (z % 2 ^ 48) bs.length :=
    ha ▸ hw.runs p _
  have hst := State.writeOut_stored (s.runs p (r.inWriteBack tile out)) p tile x.job 3 z bs hz hw'
  rw [← ha] at hst
  obtain ⟨t, ht⟩ : ∃ t, t = (s.runs p (r.inWriteBack tile out)).writeOut p tile x.job 3 z bs := ⟨_, rfl⟩
  rw [← ht] at hst ⊢
  have hrun : (t.part p).run = some (r.inWriteBack tile out) := by rw [hst.frame]; exact s.runs_run p _
  have hclk : t.clk = s.clk := by rw [hst.frame]; rfl
  have hmem : t.mem = s.mem.write a bs := hst.mem
  rw [t.releaseTile_last p tile _ hrun hentries, hclk]
  refine ⟨fun i hi => ?_, fun b hb => ?_, ?_, ?_⟩
  · exact (congrArg (Memory.byte · (a + i)) hmem).trans (Memory.byte_write_add _ _ _ _ hi)
  · exact (congrArg (Memory.byte · b) hmem).trans (Memory.byte_write_ne _ _ _ _ hb)
  · rw [State.runs_run]
    exact congrArg some (Run.answered_last { r with flags := (r.inWriteBack tile out).flags } tile s.clk h.owed)
  · rw [hst.frame]
    rfl

end

/-- Settles O42: the frame pass by the stage it begins, a unit by the fault that its operands make, a tile by the requests that write
its bytes, each of which finds sound memory. -/
theorem firingsRun : Obligations.FiringsRun := by
  unfold Obligations.FiringsRun
  intro p r s hp hr hfault
  have hfires : s.Fires p r := ⟨hp, hr, hfault⟩
  refine ⟨framePassDone_main hfires, ?_, ?_⟩
  · intro u tile x d rs hstage howed hx hd htile hnew hmay hrs
    have h : s.UnitReady p u r x d tile := ⟨hfires, hstage, howed, hx, hd, htile, hnew, hmay⟩
    exact ⟨unitDone_noted h rs hrs, unitDone_badIndex h rs hrs, unitDone_unreadable h rs hrs⟩
  · intro tile z a bs x d out hstage hlt hnew howed hentries hunits hx hd hreads hsound hout hwrites hrows hadds hz ha htop hrick
      hmem hreach
    have h : s.TileReady p tile r x d := ⟨hfires, hstage, hlt, hnew, howed, hunits, hx, hd, hreads, hsound⟩
    exact tileDone_stores h hentries hout hwrites hrows hadds hz ha ⟨htop, hrick, hmem, hreach⟩

end Sys2Proof.Machine
end

section
/-! SUPPORT. Control units: what CTL_STATUS says of them, what an audited write by an installer leaves, how a switchover begins and how
a unit fails. -/

namespace Sys2Proof.Machine

variable (s : State)

/-! ### What reads CTL_STATUS (R406, R409) -/

@[simp] theorem unitFld_off (u : Nat) : (unitFld u).off = Reg.ctlStatusOff := by
  unfold unitFld
  split_ifs <;> rfl

theorem State.unitState_setFld (u v : Nat) (hv : v < 16) : (s.setFld (unitFld u) v).unitState u = v := by
  have hfield : (unitFld u).hi < 32 ∧ (unitFld u).lo ≤ (unitFld u).hi ∧ (unitFld u).width = 4 := by
    unfold unitFld
    split_ifs <;> decide
  obtain ⟨hhi, hlo, hwidth⟩ := hfield
  rw [State.unitState, s.fld_setFld _ _ hhi hlo, hwidth]
  exact Nat.mod_eq_of_lt hv

theorem State.flag_of_regs {s t : State} (h : t.regs = s.regs) (f : Fld) : t.flag f = s.flag f := by
  rw [State.flag, State.fld_of_regs h, State.flag]

section
variable {s} {t : State} {os : List Nat} (h : RegsBut s t os)
include h

theorem RegsBut.flag {f : Fld} (hf : f.off ∉ os) : t.flag f = s.flag f := by rw [State.flag, h.fld hf, State.flag]

theorem RegsBut.latch (old : State) : RegsBut s (State.latch old t) os := h.trans (regsBut_of_regs os (t.latch_regs old))

theorem RegsBut.answer (r : Requester) (off v : Nat) (st : Status) : RegsBut s (t.answer r off v st) os :=
  h.trans (regsBut_of_regs os (t.answer_regs r off v st))

variable (ho : Reg.ctlStatusOff ∉ os)
include ho

theorem RegsBut.unitState (u : Nat) : t.unitState u = s.unitState u := h.fld (by rwa [unitFld_off])

theorem RegsBut.activeUnit : t.activeUnit = s.activeUnit := by
  rw [State.activeUnit, h.fld ho, h.fld ho, ← State.activeUnit]

theorem RegsBut.swapPair : t.swapPair = s.swapPair := by
  simp only [State.swapPair, h.activeUnit ho, h.unitState ho]

end

/-! ### Registers apart from those of a grant and of an event -/

theorem not_mem_grantRegs {off : Nat} (h : off < Reg.ctlJournalOff ∨ Reg.ctlGrantsLoOff + 4 < off) : off ∉ grantRegs := by
  simp only [grantRegs, Reg.ctlJournalOff, Reg.ctlGrantsLoOff, Reg.ctlJournalDepth, List.mem_cons, List.not_mem_nil, or_false] at h ⊢
  omega

theorem not_mem_evRegs {off : Nat} (h : off < Reg.evrDroppedCount.off ∨ Reg.evrQueueHwmOff < off) : off ∉ evRegs := by
  simp only [evRegs, Reg.evrDroppedCount, Reg.evrQueueHwmOff, Reg.evrQueueHwmF0, List.mem_cons, List.not_mem_nil, or_false] at h ⊢
  omega

theorem regsBut_evRegs (code src p0 p1 p2 : Nat) : RegsBut s (s.ev code src p0 p1 p2) evRegs :=
  regsBut_ev s code src p0 p1 p2 evRegs (List.Subset.refl _)

/-! ### The grant and the latching of what control units hold -/

/-- What changes after a grant stands, with the grant's own registers, once the outputs are latched. -/
theorem RegsBut.granted {s t : State} {os : List Nat} (h : RegsBut s.arbGrant t os) :
    RegsBut s (State.latch s t) (grantRegs ++ os) :=
  (((regsBut_arbGrant s).mono (List.subset_append_left _ _)).trans (h.mono (List.subset_append_right _ _))).latch s

theorem State.unitState_arbGrant (u : Nat) : s.arbGrant.unitState u = s.unitState u := (regsBut_arbGrant s).unitState (by decide) u

theorem State.room_arbGrant (n : Nat) : s.arbGrant.room n = s.room n := State.room_of_evq s.arbGrant_evq n

theorem State.noHold_arbGrant {s : State} (hp : s.powered = true) : s.arbGrant.ctl.hold = none := by
  rw [State.arbGrant_ctl, (s.powered_iff.1 hp).2.2]

theorem State.cu_of_ctl {s t : State} (h : t.ctl = s.ctl) (u : Nat) : t.cu u = s.cu u := by rw [State.cu, h, State.cu]

@[simp] theorem State.setCu_regs (u : Nat) (x : CtlUnit) : (s.setCu u x).regs = s.regs := rfl

@[simp] theorem State.setCu_evq (u : Nat) (x : CtlUnit) : (s.setCu u x).evq = s.evq := rfl

theorem State.cu_setCu (u : Nat) (x : CtlUnit) : (s.setCu u x).cu u = x := by
  rw [State.cu, State.setCu, tget_tset, if_pos rfl]

@[simp] theorem State.latch_unitState (old : State) (u : Nat) : (State.latch old s).unitState u = s.unitState u := by
  rw [State.unitState, State.latch_fld, State.unitState]

@[simp] theorem State.latch_cu (old : State) (u : Nat) : (State.latch old s).cu u = s.cu u := State.cu_of_ctl (s.latch_ctl old) u

theorem State.latch_hasEvent (old : State) {code src p0 p1 p2 : Nat} (h : s.hasEvent code src p0 p1 p2) :
    (State.latch old s).hasEvent code src p0 p1 p2 := State.hasEvent_of_evq (s.latch_evq old) h

/-! ### Room after an event (R491) -/

theorem State.room_mono {n m : Nat} (hle : n ≤ m) (h : s.room m = true) : s.room n = true := by
  simp only [State.room, Bool.and_eq_true, List.all_eq_true, decide_eq_true_eq] at h ⊢
  obtain ⟨hlen, hall⟩ := h
  exact ⟨hlen, fun q hq => (Nat.add_le_add_left hle _).trans (hall q hq)⟩

theorem State.room_ev (code src p0 p1 p2 n : Nat) (h : s.room (n + 1) = true) : (s.ev code src p0 p1 p2).room n = true := by
  have hd := s.evDie_lt code src
  simp only [State.room, Bool.and_eq_true, beq_iff_eq, List.all_eq_true, decide_eq_true_eq] at h ⊢
  obtain ⟨hlen, hall⟩ := h
  have hroom : (s.evQueue (s.evDie code src)).length + (n + 1) ≤ 1024 := by
    rw [State.evQueue, List.getD_eq_getElem?_getD, List.getElem?_eq_getElem (by omega)]
    exact hall _ (List.getElem_mem _)
  unfold State.ev
  dsimp only
  rw [if_neg (by omega), State.evMark_evq]
  refine ⟨(lset_length _ _ _).trans hlen, fun q hq => ?_⟩
  rcases lset_mem hq with rfl | hq
  · rw [List.length_append, List.length_singleton]
    omega
  · have := hall q hq
    omega

/-! ### An installer's write and its audit entry (R463 to R466) -/

/-- From `s` to `u` audit entries have been written, with their events. -/
structure AuditedTo (s u : State) : Prop where
  regs : RegsBut s u auditRegs
  mem : u.mem = s.mem
  ctl : u.ctl = s.ctl
  clk : u.clk = s.clk

theorem AuditedTo.trans {s u v : State} (h : AuditedTo s u) (h' : AuditedTo u v) : AuditedTo s v :=
  ⟨h.regs.trans h'.regs, h'.mem.trans h.mem, h'.ctl.trans h.ctl, h'.clk.trans h.clk⟩

theorem auditedTo_of_onlyRegs {s u : State} (h : RegsBut s u auditRegs) (ho : OnlyRegs s u) : AuditedTo s u := by
  obtain ⟨r, rfl⟩ := ho
  exact ⟨h, rfl, rfl, rfl⟩

theorem auditedTo_ev (code src p0 p1 p2 : Nat) : AuditedTo s (s.ev code src p0 p1 p2) :=
  ⟨regsBut_ev s code src p0 p1 p2 _ (by decide), s.ev_mem .., s.ev_ctl .., s.ev_clk ..⟩

theorem auditedTo_setPair (lo v : Nat) (h : lo ∈ auditRegs) (h' : lo + 4 ∈ auditRegs) : AuditedTo s (s.setPair lo v) :=
  auditedTo_of_onlyRegs (regsBut_setPair s lo v _ h h') (onlyRegs_setPair s lo v)

theorem auditedTo_setHead (e : List Byte) : AuditedTo s (s.setHead e) :=
  auditedTo_of_onlyRegs (regsBut_setHead s e _ (by decide)) (onlyRegs_setHead s e)

/-- The audit record's cell, also when the oldest entries make room for it (R466). -/
theorem auditedTo_auditCell (action role st key sess : Nat) (params : List Byte) :
    AuditedTo s (s.auditCell action role st key sess params) := by
  have hentry : ∀ l, AuditedTo s { s with audit := l } := fun l => ⟨regsBut_of_regs _ rfl, rfl, rfl, rfl⟩
  unfold State.auditCell
  dsimp only
  split_ifs
  · exact ((((hentry _).trans (auditedTo_setPair _ _ _ (by decide) (by decide))).trans (auditedTo_ev _ _ _ _ _ _)).trans
      (auditedTo_setHead _ _)).trans (auditedTo_setPair _ _ _ (by decide) (by decide))
  · exact ((hentry _).trans (auditedTo_setHead _ _)).trans (auditedTo_setPair _ _ _ (by decide) (by decide))

theorem auditedTo_auditAppend (action role st key sess : Nat) (params : List Byte) :
    AuditedTo s (s.auditAppend action role st key sess params) :=
  (auditedTo_auditCell s action role st key sess params).trans (auditedTo_ev _ _ _ _ _ _)

/-- After a grant and its audit entry a write changes, with their registers, those of its effect. -/
theorem AuditedTo.granted {s u t : State} {os : List Nat} (h : AuditedTo s.arbGrant u) (ht : RegsBut u t os) (r : Requester)
    (off v : Nat) (st : Status) : RegsBut s (State.latch s (t.answer r off v st)) (grantRegs ++ auditRegs ++ os) := by
  have hall : RegsBut s.arbGrant t (auditRegs ++ os) :=
    (h.regs.mono (List.subset_append_left _ _)).trans (ht.mono (List.subset_append_right _ _))
  rw [List.append_assoc]
  exact (hall.answer r off v st).granted

/-- An installer's write that succeeds takes effect once its audit entry stands, and is answered OK. -/
theorem State.access_installs {r : Requester} {n : Nat} (h : s.installs r n = true) (off v : Nat) (act : State → State × Status)
    (hact : (act s).2 = .ok) :
    ∃ u, AuditedTo s u ∧ s.access r off v .write (gate (s.isInst r) act) = (act u).1.answer r off v .ok := by
  simp only [State.installs, Bool.and_eq_true, Bool.not_eq_true'] at h
  obtain ⟨⟨⟨hinst, hstarted⟩, hbad⟩, -⟩ := h
  obtain ⟨i, rfl, hrole, hsome⟩ := State.session_of_isInst s hinst
  refine ⟨_, auditedTo_auditAppend s 1 2 0 (s.sess i).key i (natLe 4 off ++ natLe 4 v), ?_⟩
  have hcarry := s.carry_inst_ok i off v (gate true act) hstarted hsome hrole hact hbad
  rw [State.access, hinst, hcarry]
  rfl

/-! ### A switchover begins (R410, R411) -/

/-- Flags of different registers, each set in turn, are all set. -/
theorem flag_each_setFlag (F : Nat → Fld) (hF : ∀ p, (F p).hi < 32 ∧ (F p).lo ≤ (F p).hi)
    (hne : ∀ p q, p ≠ q → (F p).off ≠ (F q).off) (xs : List Nat) (p : Nat) (h : p ∈ xs ∨ s.flag (F p) = true) :
    (s.each xs fun t x => t.setFlag (F x) true).flag (F p) = true := by
  induction xs generalizing s with
  | nil => exact h.resolve_left List.not_mem_nil
  | cons x xs ih =>
    refine ih (s.setFlag (F x) true) ?_
    by_cases hx : p = x
    · exact .inr (hx ▸ s.flag_setFlag _ _ (hF p).1 (hF p).2)
    · rw [s.flag_setFlag_apart _ _ _ (by simp [apart, hne p x hx])]
      exact h.imp_left fun hp => (List.mem_cons.1 hp).resolve_left hx

/-- The switchover's registers: SWITCHING, and the sequencers held. -/
def State.switching (s : State) : State :=
  (s.fresh.setFlag Reg.ctlStatusSwitching true).each (List.range 4) fun t p => t.setFlag (Reg.fsqPartStatusHeld p) true

theorem State.switching_eq : ∃ r, s.switching = { s with regs := r, free := s.free + 1 } := by
  obtain ⟨r, e⟩ := (onlyRegs_setFld s.fresh Reg.ctlStatusSwitching (b2n true)).trans
    (onlyRegs_each _ (List.range 4) (fun t p => t.setFlag (Reg.fsqPartStatusHeld p) true) fun t p => onlyRegs_setFld t _ _)
  exact ⟨r, e⟩

theorem State.switching_flags : s.switching.flag Reg.ctlStatusSwitching = true
    ∧ ∀ p, p < 4 → s.switching.flag (Reg.fsqPartStatusHeld p) = true := by
  constructor
  · rw [State.switching, State.each_frame _ (fun t => t.flag Reg.ctlStatusSwitching)]
    · exact State.flag_setFlag _ _ _ (by decide) (by decide)
    · intro t p
      refine t.flag_setFlag_apart _ _ _ ?_
      simp only [apart, Reg.fsqPartStatusHeld, Reg.ctlStatusSwitching, Bool.or_eq_true, bne_iff_ne]
      omega
  · intro p hp
    have hbit : ∀ p, (Reg.fsqPartStatusHeld p).hi < 32 ∧ (Reg.fsqPartStatusHeld p).lo ≤ (Reg.fsqPartStatusHeld p).hi := fun p => by
      simp [Reg.fsqPartStatusHeld]
    have hne : ∀ p q, p ≠ q → (Reg.fsqPartStatusHeld p).off ≠ (Reg.fsqPartStatusHeld q).off := fun p q hpq => by
      simp only [Reg.fsqPartStatusHeld]
      omega
    exact flag_each_setFlag _ Reg.fsqPartStatusHeld hbit hne _ p (.inl (List.mem_range.2 hp))

section
variable {s} (u cause failCause : Nat) (h : s.ctl.hold = none)
include h

theorem State.switchover_eq : ∃ ns, ns ≤ 40000 ∧ ∃ r, r = s.switching.regs ∧ s.switchover u cause failCause = { s with
    regs := r, free := s.free + 1
    ctl := { s.ctl with token := [none, none], hold := some ⟨u, cause, failCause, ns, s.clk⟩ } } := by
  obtain ⟨r, e⟩ := s.switching_eq
  refine ⟨Config.freeValue s.free % 40001, by omega, r, by rw [e], ?_⟩
  rw [State.switchover, h]
  dsimp only
  rw [← State.switching, e]

theorem State.switchover_begins : switchBegins s (s.switchover u cause failCause) u cause failCause := by
  obtain ⟨ns, hns, r, hr, e⟩ := s.switchover_eq u cause failCause h
  obtain ⟨hswitching, hheld⟩ := s.switching_flags
  have hflag := State.flag_of_regs (s := s.switching) (t := s.switchover u cause failCause) (by rw [e, hr])
  refine ⟨⟨ns, hns, by rw [e]⟩, by rw [e], ?_, fun p hp => ?_⟩
  · rw [hflag, hswitching]
  · rw [hflag, hheld p hp]

/-- A switchover that begins leaves memory and the events that wait. -/
theorem State.switchover_frame :
    (s.switchover u cause failCause).mem = s.mem ∧ (s.switchover u cause failCause).evq = s.evq := by
  obtain ⟨ns, -, r, -, e⟩ := s.switchover_eq u cause failCause h
  rw [e]
  exact ⟨rfl, rfl⟩

end

/-- What `switchBegins` says depends on the clock before, and on the registers and the control units after. -/
theorem switchBegins.congr {s s' t t' : State} {u cause failCause : Nat} (h : switchBegins s t u cause failCause)
    (hclk : s'.clk = s.clk) (hregs : t'.regs = t.regs) (hctl : t'.ctl = t.ctl) : switchBegins s' t' u cause failCause := by
  unfold switchBegins
  simp only [hclk, hctl, State.flag_of_regs hregs]
  exact h

/-- From a state with the memory and the clock of `s` a switchover begins, and its outputs are latched. -/
theorem switchover_latched (s v : State) (u cause failCause : Nat) (hmem : v.mem = s.mem) (hclk : v.clk = s.clk)
    (hhold : v.ctl.hold = none) : switchBegins s (State.latch s (v.switchover u cause failCause)) u cause failCause
      ∧ (State.latch s (v.switchover u cause failCause)).mem = s.mem
      ∧ (State.latch s (v.switchover u cause failCause)).evq = v.evq := by
  obtain ⟨hmem', hevq⟩ := State.switchover_frame u cause failCause hhold
  refine ⟨(State.switchover_begins u cause failCause hhold).congr hclk.symm (State.latch_regs _ _) (State.latch_ctl _ _), ?_, ?_⟩
  · rw [State.latch_mem, hmem', hmem]
  · rw [State.latch_evq, hevq]

/-! ### A unit fails (R407) -/

section
variable (u : Nat)

/-- The failure counted. -/
def State.failCounted (s : State) (u : Nat) : State := (s.bump (Reg.ctlUnitInfoFails u)).setFld (Reg.ctlUnitInfoProbationS u) 0

/-- With no unit to receive it the journal is empty. -/
def State.journalCleared (s : State) : State := if s.standby.isNone then s.setFld Reg.ctlJournalDepth 0 else s

/-- The unit and its registers after a failure, before its events. -/
def State.failMarked (s : State) (u : Nat) : State :=
  let t := s.failCounted u
  ((t.setFld (unitFld u) (if 3 ≤ t.fld (Reg.ctlUnitInfoFails u) then 6 else 3)).setCu u
    { t.cu u with copying := false, swapped := false }).journalCleared

theorem State.failUnit_eq (cause n : Nat) (hn : n = (s.failCounted u).fld (Reg.ctlUnitInfoFails u)) : s.failUnit u cause
    = if 3 ≤ n then ((s.failMarked u).ev 0x0102 u u cause n).ev 0x0105 u u n 0 else (s.failMarked u).ev 0x0102 u u cause n := by
  subst hn
  rfl

/-- The registers of a failure beside those of its events. -/
def failRegs (u : Nat) : List Nat := [Reg.ctlStatusOff, Reg.ctlUnitInfoOff u, Reg.ctlJournalOff]

theorem regsBut_journalCleared : RegsBut s s.journalCleared [Reg.ctlJournalOff] := by
  unfold State.journalCleared
  split_ifs
  · exact regsBut_setFld s _ _ _ (by decide)
  · exact fun _ _ => rfl

@[simp] theorem State.journalCleared_evq : s.journalCleared.evq = s.evq := by
  unfold State.journalCleared
  split_ifs
  · exact s.setFld_evq _ _
  · rfl

theorem regsBut_setUnit (v : Nat) (x : CtlUnit) : RegsBut s ((s.setFld (unitFld u) v).setCu u x) [Reg.ctlStatusOff] :=
  (regsBut_setFld s (unitFld u) v _ (by simp)).trans (regsBut_of_regs _ rfl)

theorem State.unitState_setUnit (v : Nat) (x : CtlUnit) (hv : v < 16) : ((s.setFld (unitFld u) v).setCu u x).unitState u = v :=
  (State.fld_of_regs rfl _).trans (s.unitState_setFld u v hv)

theorem State.failCounted_fails :
    (s.failCounted u).fld (Reg.ctlUnitInfoFails u) = min (s.fld (Reg.ctlUnitInfoFails u) + 1) 255 := by
  rw [State.failCounted, State.fld_setFld_apart _ _ _ _ (by simp [apart, Reg.ctlUnitInfoFails, Reg.ctlUnitInfoProbationS]),
    s.fld_bump _ (Nat.lt_succ_self 31) (by simp [Reg.ctlUnitInfoFails])]
  rfl

theorem regsBut_failCounted : RegsBut s (s.failCounted u) [Reg.ctlUnitInfoOff u] :=
  (regsBut_bump s _ _ (by simp [Reg.ctlUnitInfoFails, Reg.ctlUnitInfoOff])).trans
    (regsBut_setFld _ _ _ _ (by simp [Reg.ctlUnitInfoProbationS, Reg.ctlUnitInfoOff]))

theorem regsBut_failMarked : RegsBut (s.failCounted u) (s.failMarked u) [Reg.ctlStatusOff, Reg.ctlJournalOff] :=
  ((regsBut_setUnit _ u _ _).mono (by simp)).trans ((regsBut_journalCleared _).mono (by simp))

theorem State.failMarked_evq : (s.failMarked u).evq = s.evq := by
  rw [State.failMarked, State.journalCleared_evq, State.setCu, State.setFld_evq, State.failCounted, State.setFld_evq, State.bump_evq]

theorem State.failMarked_unitState :
    (s.failMarked u).unitState u = if 3 ≤ (s.failCounted u).fld (Reg.ctlUnitInfoFails u) then 6 else 3 := by
  rw [State.failMarked, (regsBut_journalCleared _).unitState (by decide), State.unitState_setUnit _ _ _ _ (by split_ifs <;> decide)]

/-- The failure's events change only their registers. -/
theorem regsBut_failUnit_events (cause : Nat) : RegsBut (s.failMarked u) (s.failUnit u cause) evRegs := by
  rw [s.failUnit_eq u cause _ rfl]
  split_ifs
  · exact (regsBut_evRegs _ _ _ _ _ _).trans (regsBut_evRegs _ _ _ _ _ _)
  · exact regsBut_evRegs _ _ _ _ _ _

theorem regsBut_failUnit (cause : Nat) : RegsBut s (s.failUnit u cause) (evRegs ++ failRegs u) :=
  (((regsBut_failCounted s u).mono (by simp [failRegs])).trans ((regsBut_failMarked s u).mono (by simp [failRegs]))).trans
    ((regsBut_failUnit_events s u cause).mono (List.subset_append_left _ _))

/-- An event that waits still waits after a failure. -/
theorem State.failUnit_keeps_event (cause : Nat) {code src p0 p1 p2 : Nat} (h : s.hasEvent code src p0 p1 p2) :
    (s.failUnit u cause).hasEvent code src p0 p1 p2 := by
  have hmarked : (s.failMarked u).hasEvent code src p0 p1 p2 := State.hasEvent_of_evq (s.failMarked_evq u) h
  rw [s.failUnit_eq u cause _ rfl]
  split_ifs
  · exact State.hasEvent_ev_of_hasEvent (h := State.hasEvent_ev_of_hasEvent (h := hmarked) ..) ..
  · exact State.hasEvent_ev_of_hasEvent (h := hmarked) ..

theorem State.failUnit_unitFailedTo (cause : Nat) (hu : u < 2) (hr : s.room 1 = true) :
    unitFailedTo s (s.failUnit u cause) u cause := by
  have hcount := s.failCounted_fails u
  have hevents := regsBut_failUnit_events s u cause
  have hfails : (s.failUnit u cause).fld (Reg.ctlUnitInfoFails u) = (s.failCounted u).fld (Reg.ctlUnitInfoFails u) := by
    rw [hevents.fld (not_mem_evRegs (.inl (by simp only [Reg.ctlUnitInfoFails, Reg.evrDroppedCount]; omega))),
      (regsBut_failMarked s u).fld (by simp [Reg.ctlUnitInfoFails, Reg.ctlStatusOff, Reg.ctlJournalOff]; omega)]
  refine ⟨?_, hfails.trans hcount, ?_⟩
  · rw [hevents.unitState (by decide), s.failMarked_unitState u, hcount]
    exact if_congr (by omega) rfl rfl
  · have hevent : ∀ n, ((s.failMarked u).ev 0x0102 u u cause n).hasEvent 0x0102 u u cause n := fun n =>
      State.hasEvent_ev _ _ _ _ _ _ ((State.room_of_evq (s.failMarked_evq u) 1).trans hr)
    rw [s.failUnit_eq u cause _ rfl, hcount]
    split_ifs
    · exact State.hasEvent_ev_of_hasEvent (h := hevent _) ..
    · exact hevent _

end

end Sys2Proof.Machine
end

section
/-! Control units: the return of a failed unit and the planned swaps. -/

namespace Sys2Proof.Machine

/-! ### The return of a failed unit (R400, R407, R408, R418) -/

section
variable (s : State) (u : Nat)

/-- The registers of a unit lie below those of the grants and of the events. -/
theorem ctlUnitOffs_lt (hu : u < 2) : Reg.ctlUnitInfoOff u < Reg.ctlJournalOff ∧ Reg.ctlUnitInfoOff u < Reg.evrDroppedCount.off
    ∧ Reg.ctlUnitSelftestOff u < Reg.evrDroppedCount.off := by
  simp only [Reg.ctlUnitInfoOff, Reg.ctlUnitSelftestOff, Reg.ctlJournalOff, Reg.evrDroppedCount]
  omega

/-- The registers of a unit are three. -/
theorem ctlUnitOffs_ne : Reg.ctlStatusOff ≠ Reg.ctlUnitInfoOff u ∧ Reg.ctlStatusOff ≠ Reg.ctlUnitSelftestOff u
    ∧ Reg.ctlUnitInfoOff u ≠ Reg.ctlUnitSelftestOff u := by
  simp only [Reg.ctlStatusOff, Reg.ctlUnitInfoOff, Reg.ctlUnitSelftestOff]
  omega

/-- A unit that is restarted is TESTING; nothing but its state and what stands beside it changes. -/
theorem State.restartUnit_spec : (s.restartUnit u).unitState u = 4 ∧ ((s.restartUnit u).cu u).copying = false
    ∧ RegsBut s (s.restartUnit u) [Reg.ctlStatusOff] ∧ ∃ r c, s.restartUnit u = { s with regs := r, ctl := c } := by
  obtain ⟨r, e⟩ := onlyRegs_setFld s (unitFld u) 4
  refine ⟨s.unitState_setUnit u 4 _ (by decide), ?_, regsBut_setUnit s u 4 _, r, _, by rw [State.restartUnit, e, State.setCu]⟩
  rw [State.restartUnit, State.cu_setCu]

/-- The state copied to a unit puts it in PROBATION. -/
theorem State.copied_spec (hu : u < 2) (hs : s.unitState u = 4) (hc : (s.cu u).copying = true) :
    (s.copied u).unitState u = 5 ∧ ((s.copied u).cu u).probation = s.clk ∧ RegsBut s (s.copied u) [Reg.ctlStatusOff]
      ∧ ∃ r c, s.copied u = { s with regs := r, ctl := c } := by
  obtain ⟨r, e⟩ := onlyRegs_setFld s (unitFld u) 5
  rw [State.copied, if_pos ⟨hu, hs, hc⟩]
  refine ⟨s.unitState_setUnit u 5 _ (by decide), ?_, regsBut_setUnit s u 5 _, r, _, by rw [e, State.setCu]⟩
  rw [State.cu_setCu]

/-- The registers of a self-test's result. -/
theorem State.testResult_spec (n : Nat) : (s.testResult u n).flag (Reg.ctlUnitSelftestPassed u) = (n == 0)
    ∧ (s.testResult u n).fld (Reg.ctlUnitSelftestFailingTest u) = n % 2 ^ 16
    ∧ RegsBut s (s.testResult u n) [Reg.ctlUnitSelftestOff u] ∧ OnlyRegs s (s.testResult u n) := by
  have hmem : ∀ f : Fld, f.off = Reg.ctlUnitSelftestOff u → f.off ∈ [Reg.ctlUnitSelftestOff u] := fun f h => h ▸ List.mem_cons_self
  refine ⟨?_, ?_, ?_, ?_⟩
  · have hapart : apart (Reg.ctlUnitSelftestFailingTest u) (Reg.ctlUnitSelftestPassed u) = true := by
      simp [apart, Reg.ctlUnitSelftestPassed, Reg.ctlUnitSelftestFailingTest]
    rw [State.testResult, State.flag_setFld_apart _ _ _ _ hapart]
    exact State.flag_setFlag _ _ _ (by simp [Reg.ctlUnitSelftestPassed]) (by simp [Reg.ctlUnitSelftestPassed])
  · exact State.fld_setFld _ _ _ (by simp [Reg.ctlUnitSelftestFailingTest]) (by simp [Reg.ctlUnitSelftestFailingTest])
  · exact ((regsBut_setFld s (Reg.ctlUnitSelftestValid u) _ _ (hmem _ rfl)).trans
      (regsBut_setFld _ (Reg.ctlUnitSelftestPassed u) _ _ (hmem _ rfl))).trans
      (regsBut_setFld _ (Reg.ctlUnitSelftestFailingTest u) _ _ (hmem _ rfl))
  · exact ((onlyRegs_setFld s _ _).trans (onlyRegs_setFld _ _ _)).trans (onlyRegs_setFld _ _ _)

/-- The result of a self-test with its event. -/
def State.tested (s : State) (u n : Nat) : State := (s.testResult u n).ev 0x0103 u u (b2n (n == 0)) (min n 65535)

theorem State.tested_ctl (n : Nat) : (s.tested u n).ctl = s.ctl := by
  obtain ⟨-, -, -, r, e⟩ := s.testResult_spec u n
  rw [State.tested, State.ev_ctl, e]

theorem State.tested_spec (n m : Nat) (hu : u < 2) (hr : s.room (m + 1) = true) :
    (s.tested u n).hasEvent 0x0103 u u (b2n (n == 0)) (min n 65535) ∧ (s.tested u n).room m = true
    ∧ (s.tested u n).flag (Reg.ctlUnitSelftestPassed u) = (n == 0)
    ∧ (s.tested u n).fld (Reg.ctlUnitSelftestFailingTest u) = n % 2 ^ 16
    ∧ RegsBut s (s.tested u n) (evRegs ++ [Reg.ctlUnitSelftestOff u]) := by
  obtain ⟨hpassed, hfailing, hregs, r, e⟩ := s.testResult_spec u n
  obtain ⟨-, -, hlt⟩ := ctlUnitOffs_lt u hu
  have hroom : (s.testResult u n).room (m + 1) = true := (State.room_of_evq (by rw [e]) _).trans hr
  have hevent := regsBut_evRegs (s.testResult u n) 0x0103 u u (b2n (n == 0)) (min n 65535)
  have hoff : Reg.ctlUnitSelftestOff u ∉ evRegs := not_mem_evRegs (.inl hlt)
  refine ⟨State.hasEvent_ev (h := State.room_mono _ (Nat.le_add_left 1 m) hroom) .., State.room_ev (h := hroom) ..,
    (hevent.flag hoff).trans hpassed, (hevent.fld hoff).trans hfailing, ?_⟩
  exact (hregs.mono (List.subset_append_right _ _)).trans (hevent.mono (List.subset_append_left _ _))

section
variable {s u} (hu : u < 2) (hs : s.unitState u = 4) (hc : (s.cu u).copying = false)
include hu hs hc

theorem State.selfTested_passed : s.selfTested u 0 = if (s.cu u).swapped
    then ((s.tested u 0).setFld (unitFld u) 2).setCu u { s.cu u with swapped := false }
    else (s.tested u 0).setCu u { s.cu u with copying := true } := by
  have hctl : (s.tested u 0).cu u = s.cu u := State.cu_of_ctl (s.tested_ctl u 0) u
  rw [State.selfTested, if_neg (by simp [hs, hc, hu]), ← hctl]
  rfl

theorem State.selfTested_failed (n : Nat) (hn : 0 < n) : s.selfTested u n = (s.tested u n).failUnit u 3 := by
  rw [State.selfTested, if_neg (by simp [hs, hc, hu])]
  exact if_pos hn.ne'

/-- A self-test that passes puts a unit in STANDBY after a swap, and has the state copied to it after a restart. -/
theorem State.selfTested_passed_spec (hr : s.room 1 = true) : (s.selfTested u 0).hasEvent 0x0103 u u 1 0
    ∧ (s.selfTested u 0).flag (Reg.ctlUnitSelftestPassed u) = true
    ∧ ((s.cu u).swapped = true → (s.selfTested u 0).unitState u = 2)
    ∧ ((s.cu u).swapped = false → (s.selfTested u 0).unitState u = 4 ∧ ((s.selfTested u 0).cu u).copying = true)
    ∧ RegsBut s (s.selfTested u 0) (evRegs ++ [Reg.ctlStatusOff, Reg.ctlUnitSelftestOff u]) := by
  obtain ⟨hevent, -, hpassed, -, hregs⟩ := s.tested_spec u 0 0 hu hr
  obtain ⟨-, hne, -⟩ := ctlUnitOffs_ne u
  have hall : RegsBut s (s.tested u 0) (evRegs ++ [Reg.ctlStatusOff, Reg.ctlUnitSelftestOff u]) := hregs.mono (by simp)
  have hoff : Reg.ctlStatusOff ∉ evRegs ++ [Reg.ctlUnitSelftestOff u] := by
    simpa [hne] using not_mem_evRegs (.inl (by decide))
  have hstate : (s.tested u 0).unitState u = 4 := (hregs.unitState hoff u).trans hs
  rw [State.selfTested_passed hu hs hc]
  split_ifs with hw
  · have hset := regsBut_setUnit (s.tested u 0) u 2 { s.cu u with swapped := false }
    refine ⟨State.hasEvent_of_evq (by rw [State.setCu_evq, State.setFld_evq]) hevent, ?_, fun _ => ?_, fun h => ?_, ?_⟩
    · exact (hset.flag (mt List.mem_singleton.1 hne.symm)).trans hpassed
    · exact State.unitState_setUnit _ _ _ _ (by decide)
    · exact absurd hw (by simp [h])
    · exact hall.trans (hset.mono (by simp))
  · have hset := State.setCu_regs (s.tested u 0) u { s.cu u with copying := true }
    refine ⟨State.hasEvent_of_evq (State.setCu_evq _ _ _) hevent, ?_, fun h => absurd h hw, fun _ => ⟨?_, ?_⟩, ?_⟩
    · exact (State.flag_of_regs hset _).trans hpassed
    · exact (State.fld_of_regs hset _).trans hstate
    · rw [State.cu_setCu]
    · exact hall.trans (regsBut_of_regs _ hset)

theorem State.selfTested_failed_spec (n : Nat) (hn : 0 < n) (hr : s.room 2 = true) :
    (s.selfTested u n).hasEvent 0x0103 u u 0 (min n 65535) ∧ (s.selfTested u n).flag (Reg.ctlUnitSelftestPassed u) = false
    ∧ (s.selfTested u n).fld (Reg.ctlUnitSelftestFailingTest u) = n % 2 ^ 16 ∧ unitFailedTo s (s.selfTested u n) u 3 := by
  obtain ⟨hevent, hroom, hpassed, hfailing, hregs⟩ := s.tested_spec u n 1 hu hr
  obtain ⟨-, hinfo, hlt⟩ := ctlUnitOffs_lt u hu
  obtain ⟨-, hstatus, hne⟩ := ctlUnitOffs_ne u
  have hzero : (n == 0) = false := by simp [hn.ne']
  rw [hzero] at hevent hpassed
  have hinfoOff : Reg.ctlUnitInfoOff u ∉ evRegs ++ [Reg.ctlUnitSelftestOff u] := by
    simpa [hne] using not_mem_evRegs (.inl hinfo)
  have hfails : (s.tested u n).fld (Reg.ctlUnitInfoFails u) = s.fld (Reg.ctlUnitInfoFails u) := hregs.fld hinfoOff
  have hfailed := (s.tested u n).failUnit_unitFailedTo u 3 hu hroom
  have hleft := regsBut_failUnit (s.tested u n) u 3
  have hoff : Reg.ctlUnitSelftestOff u ∉ evRegs ++ failRegs u := by
    have hjournal : Reg.ctlUnitSelftestOff u ≠ Reg.ctlJournalOff := by
      simp only [Reg.ctlUnitSelftestOff, Reg.ctlJournalOff]
      omega
    simpa [failRegs, hstatus.symm, hne.symm, hjournal] using not_mem_evRegs (.inl hlt)
  rw [State.selfTested_failed hu hs hc n hn]
  refine ⟨State.failUnit_keeps_event _ u 3 hevent, (hleft.flag hoff).trans hpassed, (hleft.fld hoff).trans hfailing, ?_⟩
  unfold unitFailedTo at hfailed ⊢
  rwa [hfails] at hfailed

end

/-- A unit that ends its probation without getting the token back is STANDBY. -/
def State.probationPassed (s : State) (u ms : Nat) : State :=
  ((s.setFld (unitFld u) 2).setFld (Reg.ctlUnitInfoProbationS u) 60).ev 0x0104 u u ms 0

theorem State.probationPassed_spec (ms : Nat) (hu : u < 2) (hr : s.room 1 = true) : (s.probationPassed u ms).unitState u = 2
    ∧ (s.probationPassed u ms).fld (Reg.ctlUnitInfoProbationS u) = 60 ∧ (s.probationPassed u ms).hasEvent 0x0104 u u ms 0
    ∧ RegsBut s (s.probationPassed u ms) (evRegs ++ [Reg.ctlStatusOff, Reg.ctlUnitInfoOff u])
    ∧ ∃ r q, s.probationPassed u ms = { s with regs := r, evq := q } := by
  have hstandby := regsBut_setFld s (unitFld u) 2 [Reg.ctlStatusOff] (by simp)
  have hprobation := regsBut_setFld (s.setFld (unitFld u) 2) (Reg.ctlUnitInfoProbationS u) 60 [Reg.ctlUnitInfoOff u]
    (by simp [Reg.ctlUnitInfoProbationS, Reg.ctlUnitInfoOff])
  have hevent := regsBut_evRegs ((s.setFld (unitFld u) 2).setFld (Reg.ctlUnitInfoProbationS u) 60) 0x0104 u u ms 0
  have honly := (onlyRegs_setFld s (unitFld u) 2).trans (onlyRegs_setFld _ (Reg.ctlUnitInfoProbationS u) 60)
  have hroom : ((s.setFld (unitFld u) 2).setFld (Reg.ctlUnitInfoProbationS u) 60).room 1 = true :=
    (State.room_of_evq (by simp) 1).trans hr
  obtain ⟨-, hlt, -⟩ := ctlUnitOffs_lt u hu
  obtain ⟨hne, -, -⟩ := ctlUnitOffs_ne u
  refine ⟨?_, ?_, State.hasEvent_ev (h := hroom) .., ?_, ?_⟩
  · rw [State.probationPassed, hevent.unitState (by decide), hprobation.unitState (mt List.mem_singleton.1 hne),
      s.unitState_setFld u 2 (by decide)]
  · rw [State.probationPassed, hevent.fld (not_mem_evRegs (.inl hlt))]
    exact State.fld_setFld _ _ _ (by simp [Reg.ctlUnitInfoProbationS]) (by simp [Reg.ctlUnitInfoProbationS])
  · exact ((hstandby.mono (by simp)).trans (hprobation.mono (by simp))).trans (hevent.mono (by simp))
  · obtain ⟨r, e⟩ := honly
    obtain ⟨r', q, e'⟩ := State.ev_eq_of_room _ 0x0104 u u ms 0 hroom
    exact ⟨r', q, by rw [State.probationPassed, e', e]⟩

theorem State.probationOver_passed (ms : Nat) (hu : u < 2) (hs : s.unitState u = 5)
    (hstay : u = 1 ∨ [3, 4, 5, 7].contains s.ctl.gained = false) : s.probationOver u ms = s.probationPassed u ms := by
  have hback : ¬ (u = 0 ∧ s.activeUnit = some 1 ∧ [3, 4, 5, 7].contains s.ctl.gained = true) := by
    rintro ⟨h0, -, hgained⟩
    rcases hstay with h | h
    · omega
    · exact Bool.false_ne_true (h.symm.trans hgained)
  rw [State.probationOver, if_neg (by omega), if_neg hback]
  rfl

theorem State.probationOver_back (ms : Nat) (hs : s.unitState 0 = 5) (ha : s.activeUnit = some 1)
    (hgained : [3, 4, 5, 7].contains s.ctl.gained = true) : s.probationOver 0 ms = s.switchover 0 2 1 := by
  rw [State.probationOver, if_neg (by omega), if_pos ⟨rfl, ha, hgained⟩]

end

section
variable (u : Nat) {s : State} (hp : s.powered = true)
include hp

theorem exec_selfTest (n : Nat) : exec (.selfTest u n) s = .next (State.latch s (s.arbGrant.selfTested u n)) :=
  s.granted_powered _ hp

theorem exec_stateCopyDone : exec (.stateCopyDone u) s = .next (s.copied u) := s.does_powered _ hp

theorem exec_probationEnd (ms : Nat) : exec (.probationEnd u ms) s = .next (State.latch s (s.arbGrant.probationOver u ms)) :=
  s.granted_powered _ hp

theorem exec_unitRestart (r : Requester) (hu : u < 2) : exec (.unitRestart r u) s
    = .next (State.latch s (s.arbGrant.access r Reg.ctlCmdOff (2 ^ 31 + u * 16 + 2) .write
        (gate (s.arbGrant.isInst r) (State.doUnitRestart u)))) := by
  have e : exec (.unitRestart r u) s = execUnitRestart r u s := rfl
  rw [e, execUnitRestart, s.granted_powered _ hp, Nat.mod_eq_of_lt hu]

end

section
variable {u : Nat} {s : State} (hp : s.powered = true) (hu : u < 2)
include hp hu

theorem unitRestart_testing (r : Requester) (hs : s.unitState u = 3) (hi : s.arbGrant.installs r 0 = true) :
    ∃ t, exec (.unitRestart r u) s = .next t ∧ t.unitState u = 4 ∧ .access r Reg.ctlCmdOff (2 ^ 31 + u * 16 + 2) .ok ∈ t.wire
      ∧ RegsBut s t (grantRegs ++ auditRegs ++ [Reg.ctlStatusOff]) ∧ t.mem = s.mem := by
  have hgrant : s.arbGrant.unitState u = 3 := (s.unitState_arbGrant u).trans hs
  obtain ⟨v, hv, e⟩ := s.arbGrant.access_installs hi Reg.ctlCmdOff (2 ^ 31 + u * 16 + 2) (State.doUnitRestart u)
    (by rw [State.doUnitRestart, if_pos (.inl hgrant)])
  rw [State.doUnitRestart, if_pos (.inl ((hv.regs.unitState (by decide) u).trans hgrant))] at e
  obtain ⟨hstate, -, hregs, _, _, er⟩ := v.restartUnit_spec u
  refine ⟨_, exec_unitRestart u hp r hu, ?_⟩
  rw [e]
  refine ⟨?_, latch_answer_mem (v.restartUnit u) _ _ _ _ _, hv.granted hregs _ _ _ _, ?_⟩
  · rw [State.latch_unitState, State.unitState, State.answer_fld, ← State.unitState, hstate]
  · rw [State.latch_mem, State.answer_mem, er, hv.mem, State.arbGrant_mem]

theorem unitRestartTimer_testing (hs : s.unitState u = 3) (ha : s.activeUnit.isSome = true) :
    ∃ t, exec (.unitRestartTimer u) s = .next t ∧ t.unitState u = 4 ∧ (t.cu u).copying = false
      ∧ RegsBut s t (grantRegs ++ [Reg.ctlStatusOff])
      ∧ t = { s with regs := t.regs, ctl := t.ctl, latches := t.latches, outSeq := t.outSeq } := by
  have e : exec (.unitRestartTimer u) s = execUnitRestartTimer u s := rfl
  have hready : u < 2 ∧ s.arbGrant.unitState u = 3 ∧ s.arbGrant.activeUnit.isSome = true :=
    ⟨hu, (s.unitState_arbGrant u).trans hs, by rwa [(regsBut_arbGrant s).activeUnit (by decide)]⟩
  obtain ⟨hstate, hcopying, hregs, r, c, er⟩ := s.arbGrant.restartUnit_spec u
  refine ⟨_, by rw [e, execUnitRestartTimer, s.granted_powered _ hp, if_pos hready], ?_, ?_, hregs.granted, ?_⟩
  · rw [State.latch_unitState, hstate]
  · rw [State.latch_cu, hcopying]
  · obtain ⟨g, eg⟩ := onlyRegs_arbGrant s
    obtain ⟨l, n, el⟩ := (s.arbGrant.restartUnit u).latch_eq s
    rw [el, er, eg]

section
variable (hr : s.room 3 = true) (hs : s.unitState u = 4)
include hs

section
variable (hc : (s.cu u).copying = false)
include hr hc

theorem selfTest_passes : ∃ t, exec (.selfTest u 0) s = .next t ∧ t.hasEvent 0x0103 u u 1 0
    ∧ t.flag (Reg.ctlUnitSelftestPassed u) = true ∧ ((s.cu u).swapped = true → t.unitState u = 2)
    ∧ ((s.cu u).swapped = false → t.unitState u = 4 ∧ (t.cu u).copying = true)
    ∧ RegsBut s t (grantRegs ++ evRegs ++ [Reg.ctlStatusOff, Reg.ctlUnitSelftestOff u]) := by
  have hcu := State.cu_of_ctl s.arbGrant_ctl u
  obtain ⟨hevent, hpassed, hswapped, hcopying, hregs⟩ := State.selfTested_passed_spec (s := s.arbGrant) hu
    ((s.unitState_arbGrant u).trans hs) (hcu ▸ hc) (State.room_mono _ (by decide) ((s.room_arbGrant 3).trans hr))
  rw [hcu] at hswapped hcopying
  refine ⟨_, exec_selfTest u hp 0, State.latch_hasEvent _ _ hevent, ?_, ?_, ?_, ?_⟩
  · rw [State.latch_flag, hpassed]
  · rwa [State.latch_unitState]
  · rwa [State.latch_unitState, State.latch_cu]
  · exact hregs.granted.mono (by simp)

theorem selfTest_fails (n : Nat) (hn : 0 < n) (hlt : n < 65536) : ∃ t, exec (.selfTest u n) s = .next t ∧ t.hasEvent 0x0103 u u 0 n
    ∧ t.flag (Reg.ctlUnitSelftestPassed u) = false ∧ t.fld (Reg.ctlUnitSelftestFailingTest u) = n ∧ unitFailedTo s t u 3 := by
  have hcu := State.cu_of_ctl s.arbGrant_ctl u
  obtain ⟨hevent, hpassed, hfailing, hfailed⟩ := State.selfTested_failed_spec (s := s.arbGrant) hu
    ((s.unitState_arbGrant u).trans hs) (hcu ▸ hc) n hn (State.room_mono _ (by decide) ((s.room_arbGrant 3).trans hr))
  rw [min_eq_left (by omega)] at hevent
  refine ⟨_, exec_selfTest u hp n, State.latch_hasEvent _ _ hevent, ?_, ?_, ?_⟩
  · rw [State.latch_flag, hpassed]
  · rw [State.latch_fld, hfailing]
    exact Nat.mod_eq_of_lt hlt
  · obtain ⟨hstate, hfails, hevent'⟩ := hfailed
    obtain ⟨hlt', -, -⟩ := ctlUnitOffs_lt u hu
    rw [s.fld_arbGrant _ (not_mem_grantRegs (.inl hlt'))] at hstate hfails hevent'
    exact ⟨by rw [State.latch_unitState, hstate], by rw [State.latch_fld, hfails], State.latch_hasEvent _ _ hevent'⟩

end

theorem stateCopyDone_probation (hc : (s.cu u).copying = true) : ∃ t, exec (.stateCopyDone u) s = .next t ∧ t.unitState u = 5
    ∧ (t.cu u).probation = s.clk ∧ RegsBut s t [Reg.ctlStatusOff] ∧ t = { s with regs := t.regs, ctl := t.ctl } := by
  obtain ⟨hstate, hprobation, hregs, r, c, e⟩ := s.copied_spec u hu hs hc
  exact ⟨_, exec_stateCopyDone u hp, hstate, hprobation, hregs, by rw [e]⟩

end

theorem probationEnd_standby (ms : Nat) (hr : s.room 1 = true) (hs : s.unitState u = 5)
    (hstay : u = 1 ∨ [3, 4, 5, 7].contains s.ctl.gained = false) : ∃ t, exec (.probationEnd u ms) s = .next t ∧ t.unitState u = 2
      ∧ t.fld (Reg.ctlUnitInfoProbationS u) = 60 ∧ t.hasEvent 0x0104 u u ms 0
      ∧ RegsBut s t (grantRegs ++ evRegs ++ [Reg.ctlStatusOff, Reg.ctlUnitInfoOff u])
      ∧ t = { s with regs := t.regs, evq := t.evq, latches := t.latches, outSeq := t.outSeq } := by
  have e := State.probationOver_passed s.arbGrant u ms hu ((s.unitState_arbGrant u).trans hs) (by rwa [State.arbGrant_ctl])
  obtain ⟨hstate, hprobation, hevent, hregs, r, q, er⟩ := s.arbGrant.probationPassed_spec u ms hu ((s.room_arbGrant 1).trans hr)
  refine ⟨_, exec_probationEnd u hp ms, ?_⟩
  rw [e]
  refine ⟨?_, ?_, State.latch_hasEvent _ _ hevent, ?_, ?_⟩
  · rw [State.latch_unitState, hstate]
  · rw [State.latch_fld, hprobation]
  · exact hregs.granted.mono (by simp)
  · obtain ⟨g, eg⟩ := onlyRegs_arbGrant s
    obtain ⟨l, n, el⟩ := (s.arbGrant.probationPassed u ms).latch_eq s
    rw [el, er, eg]

omit hu in
theorem probationEnd_switches (ms : Nat) (hs : s.unitState 0 = 5) (ha : s.activeUnit = some 1)
    (hgained : [3, 4, 5, 7].contains s.ctl.gained = true) :
    ∃ t, exec (.probationEnd 0 ms) s = .next t ∧ switchBegins s t 0 2 1 ∧ t.mem = s.mem := by
  have e := State.probationOver_back s.arbGrant ms ((s.unitState_arbGrant 0).trans hs)
    (((regsBut_arbGrant s).activeUnit (by decide)).trans ha) (by rwa [State.arbGrant_ctl])
  obtain ⟨hbegins, hmem, -⟩ := switchover_latched s s.arbGrant 0 2 1 s.arbGrant_mem s.arbGrant_clk
    (State.noHold_arbGrant hp)
  exact ⟨_, (exec_probationEnd 0 hp ms).trans (by rw [e]), hbegins, hmem⟩

end

/-! ### Planned swaps (R409, R410) -/

theorem State.ladderActive_arbGrant (s : State) : s.arbGrant.ladderActive = s.ladderActive := by
  simp only [State.ladderActive, State.arbGrant_resets, State.arbGrant_ladder, State.arbGrant_isolating, State.arbGrant_cycling]

theorem State.swapPoint_arbGrant (s : State) : s.arbGrant.swapPoint = s.swapPoint := by
  have hbusy : ∀ p, s.arbGrant.flag (Reg.fsqPartStatusBusy p) = s.flag (Reg.fsqPartStatusBusy p) := fun p =>
    (regsBut_arbGrant s).flag (not_mem_grantRegs (.inr (by simp only [Reg.fsqPartStatusBusy, Reg.ctlGrantsLoOff]; omega)))
  simp only [State.swapPoint, s.ladderActive_arbGrant, hbusy, s.fld_arbGrant Reg.bnkStageStage (by decide)]

/-- A planned swap waits from now on. -/
def State.swapWaits (s : State) : State := { s with ctl := { s.ctl with swapWait := some s.clk } }

theorem State.swapPair_arbGrant (s : State) : s.arbGrant.swapPair = s.swapPair := (regsBut_arbGrant s).swapPair (by decide)

theorem exec_swapPoint {s : State} (hp : s.powered = true) (forced : Bool) :
    exec (.swapPoint forced) s = .next (State.latch s (s.arbGrant.plannedSwap forced)) := s.granted_powered _ hp

section
variable {s : State} {u : Nat} (hp : s.powered = true) (hpair : s.swapPair = some u)
include hp hpair

theorem swapDue_waits (hen : s.flag Reg.ctlSwapEnable = true) (hw : s.ctl.swapWait = none) : ∃ t, exec .swapDue s = .next t
    ∧ t = { s.arbGrant with ctl := { s.ctl with swapWait := some s.clk }, latches := t.latches, outSeq := t.outSeq } := by
  have e : exec .swapDue s = execSwapDue s := rfl
  have hdue : s.arbGrant.flag Reg.ctlSwapEnable = true ∧ s.arbGrant.swapPair.isSome = true
      ∧ s.arbGrant.ctl.swapWait.isNone = true :=
    ⟨((regsBut_arbGrant s).flag (by decide)).trans hen, by simp [s.swapPair_arbGrant, hpair], by simp [hw]⟩
  refine ⟨State.latch s s.arbGrant.swapWaits, by rw [e, execSwapDue, s.granted_powered _ hp, if_pos hdue, State.swapWaits], ?_⟩
  obtain ⟨l, n, el⟩ := s.arbGrant.swapWaits.latch_eq s
  obtain ⟨g, eg⟩ := onlyRegs_arbGrant s
  rw [el, State.swapWaits, eg]

section
variable (clk0 : Nat) (hen : s.flag Reg.ctlSwapEnable = true) (hw : s.ctl.swapWait = some clk0)
include hen hw

omit hp in
/-- A planned swap that waits is made at a swap point, or when it is forced with no ladder action. -/
theorem State.plannedSwap_arbGrant (forced : Bool) : s.arbGrant.plannedSwap forced
    = if forced then
        (if s.ladderActive then s.arbGrant
          else (s.arbGrant.ev 0x0107 s.unitSrc (max 600 ((s.clk - clk0) / 235000000)) 0 0).switchover u 1 1)
      else if s.swapPoint then s.arbGrant.switchover u 1 1 else s.arbGrant := by
  have hwait : s.arbGrant.ctl.swapWait = some clk0 := by rw [s.arbGrant_ctl, hw]
  have henable : s.arbGrant.flag Reg.ctlSwapEnable = true := ((regsBut_arbGrant s).flag (by decide)).trans hen
  have hsrc : s.arbGrant.unitSrc = s.unitSrc := (regsBut_arbGrant s).unitSrc (by decide)
  simp only [State.plannedSwap, hwait, s.swapPair_arbGrant, hpair, henable, not_true_eq_false, if_false, s.ladderActive_arbGrant,
    s.swapPoint_arbGrant, hsrc, s.arbGrant_clk]

theorem swapPoint_switches (hpoint : s.swapPoint = true) :
    ∃ t, exec (.swapPoint false) s = .next t ∧ switchBegins s t u 1 1 ∧ t.mem = s.mem := by
  have e := State.plannedSwap_arbGrant hpair clk0 hen hw false
  rw [if_neg Bool.false_ne_true, if_pos hpoint] at e
  obtain ⟨hbegins, hmem, -⟩ := switchover_latched s s.arbGrant u 1 1 s.arbGrant_mem s.arbGrant_clk (State.noHold_arbGrant hp)
  exact ⟨_, (exec_swapPoint hp false).trans (by rw [e]), hbegins, hmem⟩

theorem swapPoint_forced (hladder : s.ladderActive = false) (hr : s.room 1 = true) :
    ∃ t, exec (.swapPoint true) s = .next t ∧ switchBegins s t u 1 1
      ∧ t.hasEvent 0x0107 s.unitSrc (max 600 ((s.clk - clk0) / 235000000)) 0 0 ∧ t.mem = s.mem := by
  have e := State.plannedSwap_arbGrant hpair clk0 hen hw true
  rw [if_pos rfl, if_neg (by simp [hladder])] at e
  have hevent := State.hasEvent_ev s.arbGrant 0x0107 s.unitSrc (max 600 ((s.clk - clk0) / 235000000)) 0 0
    ((s.room_arbGrant 1).trans hr)
  obtain ⟨hbegins, hmem, hevq⟩ := switchover_latched s
    (s.arbGrant.ev 0x0107 s.unitSrc (max 600 ((s.clk - clk0) / 235000000)) 0 0) u 1 1 (by simp) (by simp)
    (by rw [State.ev_ctl, State.noHold_arbGrant hp])
  exact ⟨_, (exec_swapPoint hp true).trans (by rw [e]), hbegins, State.hasEvent_of_evq hevq hevent, hmem⟩

end

theorem swapCommand_switches (r : Requester) (hi : s.arbGrant.installs r 1 = true) :
    ∃ t, exec (.ctlSwapCommand r) s = .next t ∧ .access r Reg.ctlCmdOff (2 ^ 31 + 1) .ok ∈ t.wire
      ∧ switchBegins s t u (if s.ctl.swapWait.isSome then 1 else 6) 1 ∧ t.mem = s.mem := by
  have e : exec (.ctlSwapCommand r) s = execCtlSwapCommand r s := rfl
  have hswap : ∀ v : State, v.swapPair = some u → v.ctl = s.ctl →
      v.doSwap = (v.switchover u (if s.ctl.swapWait.isSome then 1 else 6) 1, .ok) := fun v hv hctl => by
    simp only [State.doSwap, hv, hctl]
  have hgrant : s.arbGrant.swapPair = some u := s.swapPair_arbGrant.trans hpair
  obtain ⟨v, hv, ea⟩ := s.arbGrant.access_installs hi Reg.ctlCmdOff (2 ^ 31 + 1) State.doSwap
    (by rw [hswap _ hgrant s.arbGrant_ctl])
  rw [hswap v ((hv.regs.swapPair (by decide)).trans hgrant) (hv.ctl.trans s.arbGrant_ctl)] at ea
  have hhold : v.ctl.hold = none := by rw [hv.ctl, State.noHold_arbGrant hp]
  have hbegins := State.switchover_begins u (if s.ctl.swapWait.isSome then 1 else 6) 1 hhold
  obtain ⟨hmem, -⟩ := State.switchover_frame u (if s.ctl.swapWait.isSome then 1 else 6) 1 hhold
  refine ⟨_, by rw [e, execCtlSwapCommand, s.granted_powered _ hp, ea], latch_answer_mem _ _ _ _ _ _, ?_, ?_⟩
  · exact hbegins.congr (hv.clk.trans s.arbGrant_clk).symm (by rw [State.latch_regs, State.answer_regs])
      (by rw [State.latch_ctl, State.answer_ctl])
  · rw [State.latch_mem, State.answer_mem, hmem, hv.mem, State.arbGrant_mem]

end

/-! ### The trace clock (R416) -/

theorem RegsBut.alertN {s t : State} {os : List Nat} (h : RegsBut s t os) (ho : Reg.pwrAlertOff ∉ os) : t.alertN = s.alertN := by
  rw [State.alertN, h _ ho, State.alertN]

theorem traceEnWrite_sets (r : Requester) (v : Bool) {s : State} (hp : s.powered = true) (hi : s.arbGrant.installs r 0 = true)
    (ha : s.alertN = false) : ∃ t, exec (.traceEnWrite r v) s = .next t ∧ t.flag Reg.ctlSvcTraceEn = v
      ∧ .access r Reg.ctlSvcOff (b2n v) .ok ∈ t.wire ∧ RegsBut s t (grantRegs ++ auditRegs ++ [Reg.ctlSvcOff]) ∧ t.mem = s.mem := by
  have e : exec (.traceEnWrite r v) s = execTraceEnWrite r v s := rfl
  obtain ⟨w, hw, ea⟩ := s.arbGrant.access_installs hi Reg.ctlSvcOff (b2n v) (State.doTrace v) rfl
  have halert : w.alertN = false := (hw.regs.alertN (by decide)).trans (((regsBut_arbGrant s).alertN (by decide)).trans ha)
  rw [State.doTrace, if_neg (by simp [halert])] at ea
  refine ⟨_, by rw [e, execTraceEnWrite, s.granted_powered _ hp, ea], ?_, latch_answer_mem _ _ _ _ _ _, ?_, ?_⟩
  · rw [State.latch_flag, State.answer_flag, State.flag_setFlag _ _ _ (by decide) (by decide)]
  · exact hw.granted (regsBut_setFld w Reg.ctlSvcTraceEn (b2n v) _ (by decide)) _ _ _ _
  · rw [State.latch_mem, State.answer_mem, State.setFlag_mem, hw.mem, State.arbGrant_mem]

end Sys2Proof.Machine
end

section
/-! The in-service test of spare cores. -/

namespace Sys2Proof.Machine

variable (s : State)

/-! ### Roles and the next spare (R89, R93, R368) -/

theorem State.role_setFld (k p v : Nat) (hv : v < 8) : (s.setFld (Reg.kilCoreHealthRole k p) v).role k p = v := by
  rw [State.role, s.fld_setFld _ _ (by simp [Reg.kilCoreHealthRole]) (by simp [Reg.kilCoreHealthRole])]
  exact Nat.mod_eq_of_lt hv

theorem State.current_setFld (k v : Nat) (hv : v < 256) :
    (s.setFld (Reg.rstSpareTestDieCurrent k) v).fld (Reg.rstSpareTestDieCurrent k) = v := by
  rw [s.fld_setFld _ _ (by simp [Reg.rstSpareTestDieCurrent]) (by simp [Reg.rstSpareTestDieCurrent])]
  exact Nat.mod_eq_of_lt hv

theorem regsBut_current (k v : Nat) : RegsBut s (s.setFld (Reg.rstSpareTestDieCurrent k) v) [Reg.rstSpareTestDieOff k] :=
  regsBut_setFld s _ _ _ (by simp [Reg.rstSpareTestDieCurrent, Reg.rstSpareTestDieOff])

theorem regsBut_role (k p v : Nat) : RegsBut s (s.setFld (Reg.kilCoreHealthRole k p) v) [Reg.kilCoreHealthOff k p] :=
  regsBut_setFld s _ _ _ (by simp [Reg.kilCoreHealthRole, Reg.kilCoreHealthOff])

theorem RegsBut.role {s t : State} {os : List Nat} (h : RegsBut s t os) {k p : Nat} (ho : Reg.kilCoreHealthOff k p ∉ os) :
    t.role k p = s.role k p := h.fld ho

/-- The registers of the spares under test lie apart from those of the cores. -/
theorem kilCoreHealthOff_ne_spareTest {k p : Nat} (j : Nat) (hk : k < 4) (hp : p < 162) :
    Reg.kilCoreHealthOff k p ≠ Reg.rstSpareTestDieOff j := by
  simp only [Reg.kilCoreHealthOff, Reg.rstSpareTestDieOff]
  omega

theorem kilCoreHealthOff_not_mem_grantRegs (k p : Nat) : Reg.kilCoreHealthOff k p ∉ grantRegs :=
  not_mem_grantRegs (.inr (by simp only [Reg.kilCoreHealthOff, Reg.ctlGrantsLoOff]; omega))

theorem rstSpareTestDieOff_not_mem_grantRegs (k : Nat) : Reg.rstSpareTestDieOff k ∉ grantRegs :=
  not_mem_grantRegs (.inr (by simp only [Reg.rstSpareTestDieOff, Reg.ctlGrantsLoOff]; omega))

theorem kilStatusOff_not_mem_grantRegs (k : Nat) : Reg.kilStatusOff k ∉ grantRegs :=
  not_mem_grantRegs (.inr (by simp only [Reg.kilStatusOff, Reg.ctlGrantsLoOff]; omega))

theorem kilCoreHealthOff_not_mem_evRegs {k p : Nat} (hk : k < 4) (hp : p < 162) : Reg.kilCoreHealthOff k p ∉ evRegs :=
  not_mem_evRegs (.inl (by simp only [Reg.kilCoreHealthOff, Reg.evrDroppedCount]; omega))

theorem rstSpareTestDieOff_not_mem_evRegs (k : Nat) : Reg.rstSpareTestDieOff k ∉ evRegs :=
  not_mem_evRegs (.inr (by simp only [Reg.rstSpareTestDieOff, Reg.evrQueueHwmOff]; omega))

/-- The next spare depends on the cores' roles and on the last spare tested. -/
theorem State.nextSpare_congr {s t : State} {k : Nat} (hrole : ∀ p, p < 162 → t.role k p = s.role k p)
    (hlast : t.spareLast = s.spareLast) : t.nextSpare k = s.nextSpare k := by
  have hfree : (List.range 162).filter (fun p => t.role k p == 1) = (List.range 162).filter fun p => s.role k p == 1 :=
    List.filter_congr fun p hp => by rw [hrole p (List.mem_range.1 hp)]
  simp only [State.nextSpare, hfree, hlast]

/-! ### SPARE_TEST_ROTATE (R368) -/

/-- A round of the die's spares is counted when their order has wrapped. -/
def State.roundCounted (s : State) (k : Nat) (wrapped : Bool) : State :=
  if wrapped then s.bump (Reg.rstSpareTestDieRounds k) else s

/-- The spare `p` is the one under test. -/
def State.underTest (s : State) (k p : Nat) : State :=
  (s.setFld (Reg.kilCoreHealthRole k p) 2).setFld (Reg.rstSpareTestDieCurrent k) p

/-- The spare `p` takes its place under test. -/
def State.spareTaken (s : State) (k p : Nat) (wrapped : Bool) : State :=
  { (s.roundCounted k wrapped).underTest k p with spareLast := tput (s.roundCounted k wrapped).spareLast k p }

/-- The order of the spares has wrapped at `p`. -/
def State.wrapsAt (s : State) (k p : Nat) : Bool :=
  match tfind s.spareLast k with
  | some l => decide (p ≤ l)
  | none => false

theorem State.roundCounted_frame (k : Nat) (wrapped : Bool) :
    RegsBut s (s.roundCounted k wrapped) [Reg.rstSpareTestDieOff k] ∧ OnlyRegs s (s.roundCounted k wrapped) := by
  unfold State.roundCounted
  split_ifs
  · exact ⟨regsBut_bump s _ _ (by simp [Reg.rstSpareTestDieRounds, Reg.rstSpareTestDieOff]), onlyRegs_bump s _⟩
  · exact ⟨fun _ _ => rfl, OnlyRegs.refl s⟩

theorem State.underTest_spec (k p : Nat) (hk : k < 4) (hp : p < 162) : (s.underTest k p).role k p = 2
    ∧ (s.underTest k p).fld (Reg.rstSpareTestDieCurrent k) = p
    ∧ RegsBut s (s.underTest k p) [Reg.rstSpareTestDieOff k, Reg.kilCoreHealthOff k p] ∧ OnlyRegs s (s.underTest k p) := by
  have hcurrent := regsBut_current (s.setFld (Reg.kilCoreHealthRole k p) 2) k p
  refine ⟨?_, State.current_setFld _ k p (by omega), ((regsBut_role s k p 2).mono (by simp)).trans (hcurrent.mono (by simp)),
    (onlyRegs_setFld s _ _).trans (onlyRegs_setFld _ _ _)⟩
  exact (hcurrent.role (by simpa using kilCoreHealthOff_ne_spareTest k hk hp)).trans (s.role_setFld k p 2 (by decide))

theorem State.spareTaken_spec (k p : Nat) (wrapped : Bool) (hk : k < 4) (hp : p < 162) : (s.spareTaken k p wrapped).role k p = 2
    ∧ (s.spareTaken k p wrapped).fld (Reg.rstSpareTestDieCurrent k) = p
    ∧ RegsBut s (s.spareTaken k p wrapped) [Reg.rstSpareTestDieOff k, Reg.kilCoreHealthOff k p]
    ∧ ∃ r l, s.spareTaken k p wrapped = { s with regs := r, spareLast := l } := by
  obtain ⟨hround, honly⟩ := s.roundCounted_frame k wrapped
  obtain ⟨hrole, hcurrent, hregs, honly'⟩ := (s.roundCounted k wrapped).underTest_spec k p hk hp
  have hsame : (s.spareTaken k p wrapped).regs = ((s.roundCounted k wrapped).underTest k p).regs := rfl
  refine ⟨(State.fld_of_regs hsame _).trans hrole, (State.fld_of_regs hsame _).trans hcurrent, ?_, ?_⟩
  · exact ((hround.mono (by simp)).trans hregs).trans (regsBut_of_regs _ hsame)
  · obtain ⟨r, e⟩ := honly.trans honly'
    exact ⟨r, _, by rw [State.spareTaken, e]⟩

/-- With no spare under test the next one is taken. -/
theorem State.rotate_takes (k p : Nat) (hk : k < 4) (hlost : s.flag (Reg.kilStatusLost k) = false)
    (hen : s.flag Reg.rstSpareTestEnable = true) (hup : s.phase = .up) (hnone : s.fld (Reg.rstSpareTestDieCurrent k) = 255)
    (hnext : s.nextSpare k = some p) : s.rotate k = (s.setFld (Reg.rstSpareTestDieCurrent k) 255).spareTaken k p
      ((s.setFld (Reg.rstSpareTestDieCurrent k) 255).wrapsAt k p) := by
  have hnext' : (s.setFld (Reg.rstSpareTestDieCurrent k) 255).nextSpare k = some p :=
    (State.nextSpare_congr (fun q hq => (regsBut_current s k 255).role (by simpa using kilCoreHealthOff_ne_spareTest k hk hq))
      (s.setFld_spareLast _ _)).trans hnext
  rw [State.rotate, if_neg (by simp [hen, hlost, hup, hk])]
  dsimp only
  rw [if_pos hnone, hnext']
  rfl

theorem spareTestRotate_takes {k : Nat} {s : State} (hp : s.powered = true) (hk : k < 4)
    (hlost : s.flag (Reg.kilStatusLost k) = false) (p : Nat) (hen : s.flag Reg.rstSpareTestEnable = true) (hup : s.phase = .up)
    (hnone : s.fld (Reg.rstSpareTestDieCurrent k) = 255) (hnext : s.nextSpare k = some p) (hlt : p < 162) :
    ∃ t, exec (.spareTestRotate k) s = .next t ∧ t.role k p = 2 ∧ t.fld (Reg.rstSpareTestDieCurrent k) = p
      ∧ RegsBut s t (grantRegs ++ [Reg.rstSpareTestDieOff k, Reg.kilCoreHealthOff k p])
      ∧ t = { s with regs := t.regs, spareLast := t.spareLast, latches := t.latches, outSeq := t.outSeq } := by
  have hexec : exec (.spareTestRotate k) s = .next (State.latch s (s.arbGrant.rotate k)) := s.granted_powered _ hp
  have hgrant := regsBut_arbGrant s
  have hnext' : s.arbGrant.nextSpare k = some p :=
    (State.nextSpare_congr (fun q _ => hgrant.role (kilCoreHealthOff_not_mem_grantRegs k q)) s.arbGrant_spareLast).trans hnext
  have e := s.arbGrant.rotate_takes k p hk ((hgrant.flag (kilStatusOff_not_mem_grantRegs k)).trans hlost)
    ((hgrant.flag (by decide)).trans hen) (s.arbGrant_phase.trans hup)
    ((hgrant.fld (rstSpareTestDieOff_not_mem_grantRegs k)).trans hnone) hnext'
  have hcleared := (regsBut_current s.arbGrant k 255).mono (os' := [Reg.rstSpareTestDieOff k, Reg.kilCoreHealthOff k p]) (by simp)
  obtain ⟨hrole, hcurrent, hregs, r, l, er⟩ := State.spareTaken_spec (s.arbGrant.setFld (Reg.rstSpareTestDieCurrent k) 255) k p
    ((s.arbGrant.setFld (Reg.rstSpareTestDieCurrent k) 255).wrapsAt k p) hk hlt
  rw [e] at hexec
  refine ⟨_, hexec, ?_, ?_, (hcleared.trans hregs).granted, ?_⟩
  · rw [State.role, State.latch_fld, ← State.role, hrole]
  · rw [State.latch_fld, hcurrent]
  · obtain ⟨g, eg⟩ := (onlyRegs_arbGrant s).trans (onlyRegs_setFld s.arbGrant (Reg.rstSpareTestDieCurrent k) 255)
    obtain ⟨ls, n, el⟩ := State.latch_eq (State.spareTaken (s.arbGrant.setFld (Reg.rstSpareTestDieCurrent k) 255) k p
      ((s.arbGrant.setFld (Reg.rstSpareTestDieCurrent k) 255).wrapsAt k p)) s
    rw [el, er, eg]

/-! ### SPARE_TEST_DONE (R89, R368) -/

section
variable (k c : Nat)

/-- The core `c` gets a role, and no spare is under test. -/
def State.endTest (s : State) (k c role : Nat) : State :=
  (s.setFld (Reg.kilCoreHealthRole k c) role).setFld (Reg.rstSpareTestDieCurrent k) 255

/-- The last test of the core `c` has ended. -/
def State.doubtCleared (s : State) (k c : Nat) : State := { s with spareDoubt := s.spareDoubt.filter (· != 162 * k + c) }

/-- A spare that passes returns to the free ones. -/
def State.sparePassed (s : State) (k c : Nat) : State :=
  ((s.endTest k c 1).doubtCleared k c).ev 0x0D09 (s.endTest k c 1).unitSrc k c 0

/-- What the loss of a spare under test changes before its entry in the ash list. -/
def State.spareDropped (s : State) (k c : Nat) : State :=
  ((((s.setFld (Reg.rstSpareTestDieCurrent k) 255).setFld (Reg.kilCoreHealthRole k c) 4).setFld
    (Reg.kilCoreHealthLogical k c) 255).ev 0x0301 k c 255 4)

/-- A spare that fails is lost, and its failure counted. -/
def State.spareFailed (s : State) (k c : Nat) : State :=
  (((s.spareDropped k c).ashAdd 3 5 k c 0 0).spareSync k).bump (Reg.rstSpareTestDieFails k)

section
variable (hk : k < 4) (hcur : s.fld (Reg.rstSpareTestDieCurrent k) = c) (hc : c < 162)
  (hreset : s.flag (Reg.kilStatusResetting k) = false)
include hk hcur hc hreset

theorem State.spareTested_passed : s.spareTested k 0 = s.sparePassed k c := by
  rw [State.spareTested]
  dsimp only
  rw [hcur, if_neg (by simp [hreset]; omega), if_pos rfl]
  rfl

theorem State.spareTested_failed (n : Nat) (hn : 0 < n) (hlost : s.flag (Reg.kilStatusLost k) = false) (hrole : s.role k c = 2)
    (hres : s.resets = []) : s.spareTested k n = (s.spareFailed k c).ev 0x0D0A (s.spareFailed k c).unitSrc k c n := by
  have hlose : s.loseCore k c 4 5 = ((s.spareDropped k c).ashAdd 3 5 k c 0 0).spareSync k := by
    rw [State.loseCore, if_neg (by simp [hlost, hrole]), if_neg (by simp [hres])]
    simp only [hrole]
    rfl
  rw [State.spareTested]
  dsimp only
  rw [hcur, if_neg (by simp [hreset]; omega), if_neg hn.ne', hlose]
  rfl

end

/-! What a passed and a failed test leave. -/

theorem ctlStatusOff_not_mem_spareRegs : Reg.ctlStatusOff ∉ [Reg.rstSpareTestDieOff k, Reg.kilCoreHealthOff k c] := by
  simp only [Reg.ctlStatusOff, Reg.rstSpareTestDieOff, Reg.kilCoreHealthOff, List.mem_cons, List.not_mem_nil, or_false]
  omega

section
variable (hk : k < 4) (hc : c < 162)
include hk hc

theorem State.endTest_spec (role : Nat) (hrole : role < 8) : (s.endTest k c role).role k c = role
    ∧ (s.endTest k c role).fld (Reg.rstSpareTestDieCurrent k) = 255
    ∧ RegsBut s (s.endTest k c role) [Reg.rstSpareTestDieOff k, Reg.kilCoreHealthOff k c] ∧ OnlyRegs s (s.endTest k c role) := by
  have hcurrent := regsBut_current (s.setFld (Reg.kilCoreHealthRole k c) role) k 255
  refine ⟨?_, State.current_setFld _ k 255 (by decide), ((regsBut_role s k c role).mono (by simp)).trans (hcurrent.mono (by simp)),
    (onlyRegs_setFld s _ _).trans (onlyRegs_setFld _ _ _)⟩
  exact (hcurrent.role (by simpa using kilCoreHealthOff_ne_spareTest k hk hc)).trans (s.role_setFld k c role hrole)

theorem State.sparePassed_spec (hr : s.room 1 = true) : (s.sparePassed k c).role k c = 1
    ∧ (s.sparePassed k c).fld (Reg.rstSpareTestDieCurrent k) = 255 ∧ (s.sparePassed k c).hasEvent 0x0D09 s.unitSrc k c 0
    ∧ RegsBut s (s.sparePassed k c) (evRegs ++ [Reg.rstSpareTestDieOff k, Reg.kilCoreHealthOff k c])
    ∧ ∃ r l q, s.sparePassed k c = { s with regs := r, spareDoubt := l, evq := q } := by
  obtain ⟨hrole, hcurrent, hregs, rs, e⟩ := s.endTest_spec k c hk hc 1 (by decide)
  have hsrc := hregs.unitSrc (ctlStatusOff_not_mem_spareRegs k c)
  obtain ⟨t, ht⟩ : ∃ t, t = (s.endTest k c 1).doubtCleared k c := ⟨_, rfl⟩
  have hsame : t.regs = (s.endTest k c 1).regs := by rw [ht, State.doubtCleared]
  have hroom : t.room 1 = true := (State.room_of_evq (by rw [ht, State.doubtCleared, e]) 1).trans hr
  have hevent := regsBut_evRegs t 0x0D09 s.unitSrc k c 0
  rw [State.sparePassed, hsrc, ← ht]
  refine ⟨?_, ?_, t.hasEvent_ev _ _ _ _ _ hroom, ?_, ?_⟩
  · rw [hevent.role (kilCoreHealthOff_not_mem_evRegs hk hc), State.role, State.fld_of_regs hsame, ← State.role, hrole]
  · rw [hevent.fld (rstSpareTestDieOff_not_mem_evRegs k), State.fld_of_regs hsame, hcurrent]
  · exact ((hregs.mono (by simp)).trans (regsBut_of_regs _ hsame)).trans (hevent.mono (by simp))
  · obtain ⟨r, q, er⟩ := t.ev_eq_of_room 0x0D09 s.unitSrc k c 0 hroom
    exact ⟨r, _, q, by rw [er, ht, State.doubtCleared, e]⟩

theorem State.spareDropped_spec (n : Nat) (hr : s.room (n + 1) = true) : (s.spareDropped k c).role k c = 4
    ∧ (s.spareDropped k c).fld (Reg.rstSpareTestDieCurrent k) = 255
    ∧ (s.spareDropped k c).fld (Reg.rstSpareTestDieFails k) = s.fld (Reg.rstSpareTestDieFails k)
    ∧ RegsBut s (s.spareDropped k c) (evRegs ++ [Reg.rstSpareTestDieOff k, Reg.kilCoreHealthOff k c])
    ∧ (s.spareDropped k c).mem = s.mem ∧ (s.spareDropped k c).room n = true := by
  obtain ⟨t, ht⟩ : ∃ t, t = s.setFld (Reg.rstSpareTestDieCurrent k) 255 := ⟨_, rfl⟩
  have hcurrent : RegsBut s t [Reg.rstSpareTestDieOff k] := ht ▸ regsBut_current s k 255
  have hrole := regsBut_role t k c 4
  have hlogical := regsBut_setFld (t.setFld (Reg.kilCoreHealthRole k c) 4) (Reg.kilCoreHealthLogical k c) 255
    [Reg.kilCoreHealthOff k c] (by simp [Reg.kilCoreHealthLogical, Reg.kilCoreHealthOff])
  have hroom : ((t.setFld (Reg.kilCoreHealthRole k c) 4).setFld (Reg.kilCoreHealthLogical k c) 255).room (n + 1) = true :=
    (State.room_of_evq (by simp [ht]) _).trans hr
  have hevent := regsBut_evRegs ((t.setFld (Reg.kilCoreHealthRole k c) 4).setFld (Reg.kilCoreHealthLogical k c) 255) 0x0301 k c 255 4
  have hleft : ∀ f : Fld, f.off = Reg.rstSpareTestDieOff k → (s.spareDropped k c).fld f = t.fld f := fun f hf => by
    have hne : f.off ∉ [Reg.kilCoreHealthOff k c] := by simpa [hf] using (kilCoreHealthOff_ne_spareTest k hk hc).symm
    rw [State.spareDropped, ← ht, hevent.fld (hf ▸ rstSpareTestDieOff_not_mem_evRegs k), hlogical.fld hne, hrole.fld hne]
  refine ⟨?_, ?_, ?_, ?_, ?_, ?_⟩
  · rw [State.spareDropped, ← ht, hevent.role (kilCoreHealthOff_not_mem_evRegs hk hc), State.role,
      State.fld_setFld_apart _ _ _ _ (by simp [apart, Reg.kilCoreHealthLogical, Reg.kilCoreHealthRole]), ← State.role,
      t.role_setFld k c 4 (by decide)]
  · rw [hleft _ rfl, ht, s.current_setFld k 255 (by decide)]
  · rw [hleft _ rfl, ht, s.fld_setFld_apart _ _ _ (by simp [apart, Reg.rstSpareTestDieCurrent, Reg.rstSpareTestDieFails])]
  · rw [State.spareDropped, ← ht]
    exact (((hcurrent.mono (by simp)).trans (hrole.mono (by simp))).trans (hlogical.mono (by simp))).trans (hevent.mono (by simp))
  · simp [State.spareDropped]
  · rw [State.spareDropped, ← ht]
    exact State.room_ev _ _ _ _ _ _ _ hroom

end

theorem State.ashAdd_frame (type cause die unit engine column : Nat) :
    RegsBut s (s.ashAdd type cause die unit engine column) (evRegs ++ [Reg.ctlNvmQueueOff, Reg.botAshCountOff])
      ∧ (s.ashAdd type cause die unit engine column).mem = s.mem
      ∧ ∀ n, s.room (n + 1) = true → (s.ashAdd type cause die unit engine column).room n = true := by
  unfold State.ashAdd
  split
  · exact ⟨fun _ _ => rfl, rfl, fun n => s.room_mono (Nat.le_succ n)⟩
  · next l e _ =>
    obtain ⟨t, ht⟩ : ∃ t, t = ({ s with ash := l } : State).setFld Reg.botAshCountEntries l.length := ⟨_, rfl⟩
    have hcount : RegsBut s t [Reg.botAshCountOff] := ht ▸ regsBut_setFld { s with ash := l } Reg.botAshCountEntries _ _ (by decide)
    obtain ⟨r, er⟩ := t.nvmPut_eq (.ash l)
    have hput : RegsBut t (t.nvmPut (.ash l)) [Reg.ctlNvmQueueOff] := regsBut_nvmPut t _ _ List.mem_cons_self
    dsimp only
    rw [← ht]
    refine ⟨((hcount.mono (by simp)).trans (hput.mono (by simp))).trans (regsBut_ev _ _ _ _ _ _ _ (by simp)), ?_, fun n hn => ?_⟩
    · rw [State.ev_mem, er, ht, State.setFld_mem]
    · exact State.room_ev _ _ _ _ _ _ _ ((State.room_of_evq (by rw [er, ht, State.setFld_evq]) _).trans hn)

/-- The registers of a loss beside the core's own and those of its test. -/
def lossRegs (k : Nat) : List Nat := evRegs ++ [Reg.ctlNvmQueueOff, Reg.botAshCountOff, Reg.kilStatusOff k]

theorem State.spareLost_frame : RegsBut s ((s.ashAdd 3 5 k c 0 0).spareSync k) (lossRegs k)
    ∧ ((s.ashAdd 3 5 k c 0 0).spareSync k).mem = s.mem
    ∧ ∀ n, s.room (n + 1) = true → ((s.ashAdd 3 5 k c 0 0).spareSync k).room n = true := by
  obtain ⟨hregs, hmem, hroom⟩ := s.ashAdd_frame 3 5 k c 0 0
  refine ⟨(hregs.mono (by simp [lossRegs])).trans (regsBut_setFld _ _ _ _ ?_), ?_, fun n hn => ?_⟩
  · simp [lossRegs, Reg.kilStatusGoodSpares, Reg.kilStatusOff]
  · rw [State.spareSync, State.setFld_mem, hmem]
  · exact (State.room_of_evq (by rw [State.spareSync, State.setFld_evq]) n).trans (hroom n hn)

section
variable (hk : k < 4) (hc : c < 162)
include hk hc

/-- Neither the unit states nor the core nor its test stand in the registers of a loss. -/
theorem not_mem_lossRegs : Reg.ctlStatusOff ∉ lossRegs k ∧ Reg.kilCoreHealthOff k c ∉ lossRegs k
    ∧ Reg.rstSpareTestDieOff k ∉ lossRegs k := by
  simp [lossRegs, evRegs, Reg.ctlStatusOff, Reg.kilCoreHealthOff, Reg.rstSpareTestDieOff, Reg.evrDroppedCount, Reg.evrQueueHwmF0,
    Reg.ctlNvmQueueOff, Reg.botAshCountOff, Reg.kilStatusOff]
  omega

theorem State.spareFailed_spec (hr : s.room 3 = true) : (s.spareFailed k c).role k c = 4
    ∧ (s.spareFailed k c).fld (Reg.rstSpareTestDieCurrent k) = 255
    ∧ (s.spareFailed k c).fld (Reg.rstSpareTestDieFails k) = min (s.fld (Reg.rstSpareTestDieFails k) + 1) 255
    ∧ (s.spareFailed k c).unitSrc = s.unitSrc ∧ (s.spareFailed k c).mem = s.mem ∧ (s.spareFailed k c).room 1 = true := by
  obtain ⟨hrole, hcurrent, hfails, hdropped, hmem, hroom⟩ := s.spareDropped_spec k c hk hc 2 hr
  obtain ⟨hlost, hmem', hroom'⟩ := (s.spareDropped k c).spareLost_frame k c
  obtain ⟨hstatus, hcore, htest⟩ := not_mem_lossRegs k c hk hc
  obtain ⟨t, ht⟩ : ∃ t, t = ((s.spareDropped k c).ashAdd 3 5 k c 0 0).spareSync k := ⟨_, rfl⟩
  rw [← ht] at hlost hmem' hroom'
  have hbump := regsBut_bump t (Reg.rstSpareTestDieFails k) [Reg.rstSpareTestDieOff k]
    (by simp [Reg.rstSpareTestDieFails, Reg.rstSpareTestDieOff])
  rw [State.spareFailed, ← ht]
  refine ⟨?_, ?_, ?_, ?_, ?_, ?_⟩
  · rw [hbump.role (by simpa using kilCoreHealthOff_ne_spareTest k hk hc), hlost.role hcore, hrole]
  · have hapart : apart (Reg.rstSpareTestDieFails k) (Reg.rstSpareTestDieCurrent k) = true := by
      simp [apart, Reg.rstSpareTestDieCurrent, Reg.rstSpareTestDieFails]
    rw [State.bump, State.add, State.fld_setFld_apart _ _ _ _ hapart, hlost.fld htest, hcurrent]
  · rw [t.fld_bump _ (by simp [Reg.rstSpareTestDieFails]) (by simp [Reg.rstSpareTestDieFails]), hlost.fld htest, hfails]
    rfl
  · rw [hbump.unitSrc (by simp [Reg.ctlStatusOff, Reg.rstSpareTestDieOff]; omega), hlost.unitSrc hstatus,
      hdropped.unitSrc (mt List.mem_append.1 (not_or.2 ⟨by decide, ctlStatusOff_not_mem_spareRegs k c⟩))]
  · rw [State.bump_mem, hmem', hmem]
  · exact (State.room_of_evq (State.bump_evq _ _) 1).trans (hroom' 1 hroom)

end

end

section
variable {k c : Nat} {s : State} (hp : s.powered = true) (hk : k < 4) (hcur : s.fld (Reg.rstSpareTestDieCurrent k) = c) (hc : c < 162)
  (hreset : s.flag (Reg.kilStatusResetting k) = false) (hr : s.room 3 = true)
include hp hk hcur hc hreset hr

theorem spareTestDone_passed : ∃ t, exec (.spareTestDone k 0) s = .next t ∧ t.role k c = 1
    ∧ t.fld (Reg.rstSpareTestDieCurrent k) = 255 ∧ t.hasEvent 0x0D09 s.unitSrc k c 0
    ∧ RegsBut s t (evRegs ++ [Reg.rstSpareTestDieOff k, Reg.kilCoreHealthOff k c])
    ∧ t = { s with regs := t.regs, spareDoubt := t.spareDoubt, evq := t.evq } := by
  have hexec : exec (.spareTestDone k 0) s = .next (s.spareTested k 0) := s.does_powered _ hp
  rw [s.spareTested_passed k c hk hcur hc hreset] at hexec
  obtain ⟨hrole, hcurrent, hevent, hregs, r, l, q, e⟩ := s.sparePassed_spec k c hk hc (s.room_mono (by decide) hr)
  exact ⟨_, hexec, hrole, hcurrent, hevent, hregs, by rw [e]⟩

theorem spareTestDone_failed (n : Nat) (hn : 0 < n) (hlost : s.flag (Reg.kilStatusLost k) = false) (hrole : s.role k c = 2)
    (hres : s.resets = []) : ∃ t, exec (.spareTestDone k n) s = .next t ∧ t.role k c = 4
      ∧ t.fld (Reg.rstSpareTestDieCurrent k) = 255
      ∧ t.fld (Reg.rstSpareTestDieFails k) = min (s.fld (Reg.rstSpareTestDieFails k) + 1) 255
      ∧ t.hasEvent 0x0D0A s.unitSrc k c n ∧ t.mem = s.mem := by
  have hexec : exec (.spareTestDone k n) s = .next (s.spareTested k n) := s.does_powered _ hp
  obtain ⟨hrole', hcurrent, hfails, hsrc, hmem, hroom⟩ := s.spareFailed_spec k c hk hc hr
  rw [s.spareTested_failed k c hk hcur hc hreset n hn hlost hrole hres, hsrc] at hexec
  have hevent := regsBut_evRegs (s.spareFailed k c) 0x0D0A s.unitSrc k c n
  have htest := rstSpareTestDieOff_not_mem_evRegs k
  refine ⟨_, hexec, ?_, ?_, ?_, State.hasEvent_ev _ _ _ _ _ _ hroom, ?_⟩
  · rw [hevent.role (kilCoreHealthOff_not_mem_evRegs hk hc), hrole']
  · rw [hevent.fld htest, hcurrent]
  · rw [hevent.fld htest, hfails]
  · rw [State.ev_mem, hmem]

end

/-- Settles O51: the return of a unit by the states it passes through, the swaps by the switchover that each begins, the in-service test
by what the spare taken, passed or failed leaves. -/
theorem unitsReturnAndSwap : Obligations.UnitsReturnAndSwap := by
  unfold Obligations.UnitsReturnAndSwap
  refine ⟨fun u s g hp hu hg hr => ?_, fun u s g hp hg hpair hr => ?_, fun r v s hp => traceEnWrite_sets r v hp,
    fun k s hp hk hlost => ⟨spareTestRotate_takes hp hk hlost, fun c hcur hc hreset hr => ?_⟩⟩
  · subst hg
    refine ⟨fun r => unitRestart_testing hp hu r, unitRestartTimer_testing hp hu, fun hs hc => ?_, stateCopyDone_probation hp hu,
      fun ms hs => ⟨?_, ?_⟩⟩
    · exact ⟨selfTest_passes hp hu hr hs hc, selfTest_fails hp hu hr hs hc⟩
    · exact probationEnd_standby hp hu ms (s.room_mono (by decide) hr) hs
    · rintro rfl
      exact probationEnd_switches hp ms hs
  · subst hg
    refine ⟨swapDue_waits hp hpair, fun clk0 hen hw => ⟨?_, fun hladder => ?_⟩, swapCommand_switches hp hpair⟩
    · exact swapPoint_switches hp hpair clk0 hen hw
    · exact swapPoint_forced hp hpair clk0 hen hw hladder (s.room_mono (by decide) hr)
  · exact ⟨spareTestDone_passed hp hk hcur.symm hc hreset hr,
      fun n hn => spareTestDone_failed hp hk hcur.symm hc hreset hr n hn hlost⟩

end Sys2Proof.Machine
end

section
/-! Contexts and queues: states in which the statements about CONTEXT_DESTROY and QUEUE_RESTART fail. -/

namespace Sys2Proof.Machine

/-- A context of job 1 in partition 0, with a ring of 16 entries on another module. -/
def remoteCtx : Ctx :=
  { p := { partition := 0, weight := 1, queues := 1, syncFirst := 0, syncCount := 0, slotFirst := 0, slotCount := 0, seed := 0
           rings := [(2 ^ 48, 4)] }
    job := 1, credit := 1 }

/-- A running module whose session 0 is an operator's of job 1. -/
def operatorState : State :=
  ({ State.reset with phase := .up }.setFld (Reg.hstSessionStateState 0) 2).setFld (Reg.hstSessionJobJob 0) 1

/-- A command of that session. -/
def operatorOrigin : Origin := { sess := 0, seq := 1, tag := 0 }

/-- The contexts in the next state of an outcome. -/
def ctxsAfter : Host.Outcome State Fault Refusal → Tbl Ctx
  | .next t => t.ctxs
  | _ => []

/-! ### QUEUE_RESTART (R102, R104) -/

/-- The context after the head of its queue 0 was fetched from the other module and found to wait (log entry 30). -/
def waitingCtx : Ctx := { remoteCtx with heads := [(0, 0, [])] }

/-- That context with its queue 0 stopped. -/
def stoppedState : State :=
  { (operatorState.setFlag (Reg.fsqCtxQStateStopped 0 0) true).setFld (Reg.fsqCtxQSizeLog2 0 0) 4 with ctxs := [(0, waitingCtx)] }

/-- The restart forgets the head that was fetched. -/
theorem ctxsAfter_restart : ctxsAfter (exec (.queueRestart operatorOrigin 0 0 0) stoppedState) ≠ stoppedState.ctxs := by
  decide +kernel

/-- Refutes O13: QUEUE_RESTART is to leave the contexts as they are, but it forgets the head descriptor that the context keeps for a
queue whose ring lies on another module.  `stoppedState` has such a context. -/
theorem not_queueAndSlotCommands : ¬ Obligations.QueueAndSlotCommands := by
  unfold Obligations.QueueAndSlotCommands
  intro h
  obtain ⟨hqueue, -⟩ := h
  obtain ⟨-, hrestart⟩ := hqueue operatorOrigin 0 0 0 waitingCtx stoppedState (by decide +kernel) (by decide +kernel) (by decide)
    (by decide +kernel) (by decide) (by decide) (by decide +kernel) (by decide)
  obtain ⟨t, ht, -, -, -, -, hframe⟩ := hrestart (by decide +kernel) (by decide +kernel)
  have hctxs : t.ctxs = stoppedState.ctxs := by rw [hframe]
  have hforgets := ctxsAfter_restart
  rw [ht] at hforgets
  exact hforgets hctxs

/-! ### CONTEXT_DESTROY (R100, R103, R191) -/

/-- A firing of context 0 whose queue would be number 0x7F00.  FIRING_SELECT takes queues 0 to 3 alone, so no run reaches it. -/
def strayRun : Run := { ctx := 0, queue := 0x7F00, entry := 0, stage := .main }

/-- The firing runs on partition 0, and DMA channel 0, idle, is bound to the context. -/
def strayRunState : State :=
  { (operatorState.setFlag (Reg.dmaChOwnerBound 0) true).setFld (Reg.fsqCtxQSizeLog2 0 0x7F00) 1 with
    ctxs := [(0, remoteCtx)], parts := [(0, { run := some strayRun })] }

/-- The head of a queue of that number would be the status register of channel 0. -/
theorem fsqCtxQHeadOff_stray : Reg.fsqCtxQHeadOff 0 0x7F00 = (Reg.dmaChStatusState 0).off := rfl

/-- The abort ends the firing, and moving that head on makes the channel BUSY; it drains, and the context is not freed. -/
theorem ctxsAfter_destroy : tfind (ctxsAfter (exec (.contextDestroy operatorOrigin 0) strayRunState)) 0 ≠ none := by
  decide +kernel

/-- Refutes O12: it speaks of every powered state, also of one whose running firing names a queue above 3.  In `strayRunState` the
context that CONTEXT_DESTROY names has no busy channel and is not destroyed at once. -/
theorem not_contextCommands : ¬ Obligations.ContextCommands := by
  unfold Obligations.ContextCommands
  intro h
  obtain ⟨-, -, hwhole, -⟩ := h
  obtain ⟨-, hdestroy⟩ := hwhole operatorOrigin 0 remoteCtx strayRunState strayRunState.arbGrant (by decide +kernel) rfl
    (by decide +kernel) (by decide) (by decide) (by decide) (by decide +kernel)
  obtain ⟨t, ht, hgone, -⟩ := hdestroy (by decide +kernel) (by decide +kernel) (by decide +kernel)
  have hstays := ctxsAfter_destroy
  rw [ht] at hstays
  exact hstays hgone

end Sys2Proof.Machine
end

section
/-! SUPPORT. Sync counters: what waking the waits of a counter leaves, and the marks of ERROR (R121 to R124, R390). -/

namespace Sys2Proof.Machine

variable (s : State)

/-! ### Commands in progress -/

/-- Another command's result leaves a command in progress. -/
theorem State.mem_finish_of_ne {o o' : Origin} {op : Nat} (st : Status) (f : Flags) (r d : List Byte) (hne : o' ≠ o)
    (h : (⟨o, op, none⟩ : Progress) ∈ s.inProg) : (⟨o, op, none⟩ : Progress) ∈ (s.finish o' st f r d).inProg := by
  unfold State.finish
  exact List.mem_map.2 ⟨_, h, if_neg fun hp => hne hp.1.symm⟩

theorem mem_inProg_each {α : Type} {o : Origin} {op : Nat} (xs : List α) (f : State → α → State)
    (hf : ∀ t, ∀ x ∈ xs, (⟨o, op, none⟩ : Progress) ∈ t.inProg → (⟨o, op, none⟩ : Progress) ∈ (f t x).inProg)
    (h : (⟨o, op, none⟩ : Progress) ∈ s.inProg) : (⟨o, op, none⟩ : Progress) ∈ (s.each xs f).inProg := by
  induction xs generalizing s with
  | nil => exact h
  | cons x xs ih => exact ih _ (fun t y hy => hf t y (List.mem_cons_of_mem _ hy)) (hf s x List.mem_cons_self h)

/-! ### Waking the waits of a counter (R390) -/

/-- A wait on counter `n` that the counter's state ends. -/
def State.ends (s : State) (n : Nat) (w : SyncWait) : Bool := w.counter == n && (s.syncErr n || waitDone (s.sync n) w.target)

/-- Results given one after another change the commands in progress alone. -/
theorem finishes_eq {α : Type} (xs : List α) (f : State → α → State) (hf : ∀ t x, ∃ i, f t x = { t with inProg := i }) :
    ∃ i, s.each xs f = { s with inProg := i } := by
  induction xs generalizing s with
  | nil => exact ⟨s.inProg, rfl⟩
  | cons x xs ih =>
    obtain ⟨i, hi⟩ := hf s x
    obtain ⟨j, hj⟩ := ih (f s x)
    exact ⟨j, hj.trans (by rw [hi])⟩

theorem State.wake_eq (n : Nat) :
    ∃ i, s.wake n = { s with syncWaits := s.syncWaits.filter fun w => ! s.ends n w, inProg := i } := by
  obtain ⟨i, hi⟩ := finishes_eq { s with syncWaits := s.syncWaits.filter fun w => ! s.ends n w } (s.syncWaits.filter (s.ends n))
    (fun t w => t.finish w.o (if s.syncErr n then .aborted else .ok) {} (natLe 4 (s.sync n)) []) fun t w => ⟨_, rfl⟩
  exact ⟨i, hi⟩

/-- A command that waits on no counter stays in progress. -/
theorem State.mem_wake {o : Origin} {op : Nat} (n : Nat) (hw : ∀ w ∈ s.syncWaits, w.o ≠ o)
    (h : (⟨o, op, none⟩ : Progress) ∈ s.inProg) : (⟨o, op, none⟩ : Progress) ∈ (s.wake n).inProg :=
  mem_inProg_each _ _ _ (fun t w hm => t.mem_finish_of_ne _ _ _ _ (hw w (List.mem_of_mem_filter hm))) h

theorem State.wake_regs (n : Nat) : (s.wake n).regs = s.regs := by
  obtain ⟨i, hi⟩ := s.wake_eq n
  rw [hi]

/-! ### Values and marks of ERROR (R121, R123) -/

theorem State.sync_of_regs {s t : State} (h : t.regs = s.regs) (n : Nat) : t.sync n = s.sync n := State.fld_of_regs h _

theorem State.syncErr_of_regs {s t : State} (h : t.regs = s.regs) (n : Nat) : t.syncErr n = s.syncErr n := by
  rw [State.syncErr, State.fld_of_regs h, State.syncErr]

theorem fsqSyncValue_ne_syncErr {n : Nat} (h : n < 4096) (m : Nat) : (Reg.fsqSyncValueValue n).off ≠ (Reg.fsqSyncErrError m).off := by
  simp only [Reg.fsqSyncValueValue, Reg.fsqSyncErrError]
  omega

theorem State.setSync_regs (n v : Nat) : (s.setSync n v).regs = (s.setFld (Reg.fsqSyncValueValue n) v).regs := State.wake_regs _ n

theorem State.sync_setSync (n v : Nat) : (s.setSync n v).sync n = v % 2 ^ 32 := by
  rw [State.sync_of_regs (s.setSync_regs n v)]
  exact s.fld_setFld (Reg.fsqSyncValueValue n) v (by simp [Reg.fsqSyncValueValue]) (by simp [Reg.fsqSyncValueValue])

theorem State.syncErr_setSync (n v : Nat) (h : n < 4096) : (s.setSync n v).syncErr n = s.syncErr n := by
  rw [State.syncErr_of_regs (s.setSync_regs n v), State.syncErr, s.fld_setFld_off _ _ _ (fsqSyncValue_ne_syncErr h _).symm, State.syncErr]

theorem bit_clrBit_mod {v i : Nat} (h : i < 32) : bit (clrBit v i % 2 ^ 32) i = false := by
  have hmod : ∀ x : Nat, x % 2 ^ 32 / 2 ^ i % 2 = x / 2 ^ i % 2 := fun x => by
    obtain ⟨k, hk⟩ : ∃ k, 32 = i + (k + 1) := ⟨31 - i, by omega⟩
    rw [hk, pow_add, Nat.mod_mul_right_div_self, pow_succ, Nat.mod_mul_left_mod]
  simp only [bit, hmod, clrBit, beq_eq_false_iff_ne, beq_iff_eq]
  split_ifs with hb
  · have hpos : 0 < 2 ^ i := Nat.two_pow_pos i
    have hge : 2 ^ i ≤ v := by
      by_contra hlt
      rw [Nat.div_eq_of_lt (by omega)] at hb
      omega
    have hsub : (v - 2 ^ i) / 2 ^ i = v / 2 ^ i - 1 := by
      simpa using Nat.sub_mul_div v (2 ^ i) 1
    rw [hsub]
    omega
  · exact hb

theorem State.syncErr_cleared (n : Nat) : (s.setSyncErr n false).syncErr n = false := by
  simp only [State.syncErr, State.setSyncErr, Bool.false_eq_true, if_false]
  rw [s.fld_setFld _ _ (by simp [Reg.fsqSyncErrError]) (by simp [Reg.fsqSyncErrError])]
  exact bit_clrBit_mod (Nat.mod_lt _ (by omega))

end Sys2Proof.Machine
end

section
/-! SYNC_SET, SYNC_WAIT and its timeout. -/

namespace Sys2Proof.Machine

variable {s : State} {o : Origin} {n : Nat}

/-- A command on a counter of the session's job is carried out. -/
theorem State.withCounter_own {e : Nat × Ctx} (hn : n < 4096) (he : s.counterOwner n = some e) (hj : e.2.job = s.sessJob o.sess)
    (f : State) : s.withCounter o n f = f := by
  rw [State.withCounter, if_pos hn, he]
  exact if_pos hj

theorem State.withCounter_begun {e : Nat × Ctx} (hn : n < 4096) (he : s.counterOwner n = some e) (hj : e.2.job = s.sessJob o.sess)
    (op : Nat) (f : State) : (s.begun o op).withCounter o n f = f :=
  State.withCounter_own (s := s.begun o op) hn he (hj.trans ((s.begun_fld o op _).symm)) f

/-! ### SYNC_SET (R124) -/

/-- The counter with ERROR cleared and its value set. -/
def State.syncGiven (s : State) (n v : Nat) : State := (s.setSyncErr n false).setSync n v

theorem State.syncGiven_eq (s : State) (n v : Nat) : ∃ r w i, s.syncGiven n v = { s with regs := r, syncWaits := w, inProg := i } := by
  obtain ⟨r, e⟩ : OnlyRegs s ((s.setSyncErr n false).setFld (Reg.fsqSyncValueValue n) v) :=
    (onlyRegs_setFld s _ _).trans (onlyRegs_setFld _ _ _)
  obtain ⟨i, hi⟩ := ((s.setSyncErr n false).setFld (Reg.fsqSyncValueValue n) v).wake_eq n
  rw [State.syncGiven, State.setSync, hi, e]
  exact ⟨r, _, i, rfl⟩

theorem regsBut_syncGiven (s : State) (n v : Nat) :
    RegsBut s (s.syncGiven n v) [(Reg.fsqSyncValueValue n).off, (Reg.fsqSyncErrError (n / 32)).off] := by
  refine RegsBut.trans (t := s.setSyncErr n false) (regsBut_setFld s _ _ _ (by simp)) ?_
  exact (regsBut_setFld _ (Reg.fsqSyncValueValue n) v _ (by simp)).trans (regsBut_of_regs _ (State.wake_regs _ n))

/-- The waits that stand are those that the new value does not end. -/
theorem State.syncGiven_waits (s : State) (v : Nat) :
    ∀ w ∈ (s.syncGiven n v).syncWaits, w.counter = n → waitDone (v % 2 ^ 32) w.target = false := by
  intro w hw hc
  have hval := (s.setSyncErr n false).sync_setSync n v
  have hregs := (s.setSyncErr n false).setSync_regs n v
  rw [State.sync_of_regs hregs] at hval
  obtain ⟨i, hi⟩ := ((s.setSyncErr n false).setFld (Reg.fsqSyncValueValue n) v).wake_eq n
  rw [State.syncGiven, State.setSync, hi] at hw
  have hkept := (List.mem_filter.1 hw).2
  rw [State.ends, hc, beq_self_eq_true, hval] at hkept
  simp only [Bool.true_and, Bool.not_eq_true', Bool.or_eq_false_iff] at hkept
  exact hkept.2

theorem syncSet_sets {e : Nat × Ctx} (v : Nat) (hp : s.powered = true) (ht : s.arbGrant.takes o 0x16 = true) (hn : n < 4096)
    (he : s.arbGrant.counterOwner n = some e) (hj : e.2.job = s.arbGrant.sessJob o.sess) (hw : ∀ w ∈ s.syncWaits, w.o ≠ o) :
    ∃ t, exec (.syncSet o n true v) s = .next t ∧ t.sync n = v % 2 ^ 32 ∧ t.syncErr n = false ∧ t.result o 0x16 .ok {} [] []
      ∧ (∀ w ∈ t.syncWaits, w.counter = n → waitDone (v % 2 ^ 32) w.target = false)
      ∧ RegsBut s t (grantRegs ++ [(Reg.fsqSyncValueValue n).off, (Reg.fsqSyncErrError (n / 32)).off])
      ∧ t = { s with regs := t.regs, inProg := t.inProg, syncWaits := t.syncWaits, latches := t.latches, outSeq := t.outSeq } := by
  have hbody : State.doSyncSet o n true v (s.arbGrant.begun o 0x16) = ((s.arbGrant.begun o 0x16).syncGiven n v).finish o .ok :=
    State.withCounter_begun hn he hj 0x16 _
  have hexec : exec (.syncSet o n true v) s = .next (State.latch s (((s.arbGrant.begun o 0x16).syncGiven n v).finish o .ok)) := by
    rw [← hbody]
    exact s.granted_hostCmd o 0x16 _ hp ht
  have hin : (⟨o, 0x16, none⟩ : Progress) ∈ ((s.arbGrant.begun o 0x16).syncGiven n v).inProg :=
    State.mem_wake _ n (by simpa [State.begun, State.setSyncErr] using hw) (s.arbGrant.mem_begun o 0x16)
  have hvalue : ((s.arbGrant.begun o 0x16).syncGiven n v).sync n = v % 2 ^ 32 := State.sync_setSync _ n v
  have herr : ((s.arbGrant.begun o 0x16).syncGiven n v).syncErr n = false :=
    (State.syncErr_setSync _ n v hn).trans (State.syncErr_cleared _ n)
  have hregs : RegsBut s.arbGrant ((s.arbGrant.begun o 0x16).syncGiven n v) _ := regsBut_syncGiven (s.arbGrant.begun o 0x16) n v
  have hwaits := (s.arbGrant.begun o 0x16).syncGiven_waits (n := n) v
  have hframe := (s.arbGrant.begun o 0x16).syncGiven_eq n v
  generalize (s.arbGrant.begun o 0x16).syncGiven n v = u at *
  obtain ⟨hres, heq⟩ := latch_finish s u _ o 0x16 .ok {} [] [] hin rfl
  have hsame : (State.latch s (u.finish o .ok)).regs = u.regs := State.latch_regs _ _
  refine ⟨_, hexec, ?_, ?_, hres, ?_, ?_, ?_⟩
  · rw [State.sync_of_regs hsame, hvalue]
  · rw [State.syncErr_of_regs hsame, herr]
  · rw [State.latch_syncWaits]
    exact hwaits
  · exact RegsBut.granted (hregs.trans (regsBut_of_regs _ rfl))
  · obtain ⟨r, w, i, rfl⟩ := hframe
    obtain ⟨r', e⟩ := onlyRegs_arbGrant s
    rw [heq, e]
    rfl

/-! ### SYNC_WAIT (R122, R390) -/

section
variable {e : Nat × Ctx} {target us : Nat} (hp : s.powered = true) (ht : s.arbGrant.takes o 0x17 = true) (hn : n < 4096) (hus : 0 < us)
  (hus' : us ≤ 10 ^ 8) (he : s.arbGrant.counterOwner n = some e) (hj : e.2.job = s.arbGrant.sessJob o.sess)
  (herr : s.arbGrant.syncErr n = false)
include hp ht hn hus hus' he hj herr

/-- With no ERROR, SYNC_WAIT answers the value where the target is reached, and waits otherwise. -/
theorem exec_syncWait : exec (.syncWait o n target us) s = .next (State.latch s
    (if waitDone (s.arbGrant.sync n) target then (s.arbGrant.begun o 0x17).finish o .ok {} (natLe 4 (s.arbGrant.sync n))
      else { s.arbGrant.begun o 0x17 with syncWaits := s.syncWaits ++ [⟨o, n, target⟩] })) := by
  have hbody : State.doSyncWait o n target us (s.arbGrant.begun o 0x17)
      = if waitDone (s.arbGrant.sync n) target then (s.arbGrant.begun o 0x17).finish o .ok {} (natLe 4 (s.arbGrant.sync n))
        else { s.arbGrant.begun o 0x17 with syncWaits := s.syncWaits ++ [⟨o, n, target⟩] } := by
    have herr' : (s.arbGrant.begun o 0x17).syncErr n = false := herr
    have hwaits : (s.arbGrant.begun o 0x17).syncWaits = s.syncWaits := s.arbGrant_syncWaits
    rw [State.doSyncWait, if_neg (by omega), State.withCounter_begun hn he hj, herr', if_neg Bool.false_ne_true, hwaits]
    rfl
  rw [← hbody]
  exact s.granted_hostCmd o 0x17 _ hp ht

theorem syncWait_reached (hd : waitDone (s.arbGrant.sync n) target = true) :
    ∃ t, exec (.syncWait o n target us) s = .next t ∧ t.result o 0x17 .ok {} (natLe 4 (s.arbGrant.sync n)) []
      ∧ t.syncWaits = s.syncWaits := by
  have hexec := exec_syncWait (target := target) hp ht hn hus hus' he hj herr
  rw [if_pos hd] at hexec
  obtain ⟨hres, -⟩ := latch_finish_begun s s.arbGrant _ o 0x17 .ok {} (natLe 4 (s.arbGrant.sync n)) [] rfl
  exact ⟨_, hexec, hres, (State.latch_syncWaits _ _).trans s.arbGrant_syncWaits⟩

theorem syncWait_waits (hd : waitDone (s.arbGrant.sync n) target = false) :
    ∃ t, exec (.syncWait o n target us) s = .next t ∧ t.syncWaits = s.syncWaits ++ [⟨o, n, target⟩]
      ∧ t.inProg = s.inProg ++ [⟨o, 0x17, none⟩] := by
  have hexec := exec_syncWait (target := target) hp ht hn hus hus' he hj herr
  rw [if_neg (by simp [hd])] at hexec
  refine ⟨_, hexec, State.latch_syncWaits _ _, ?_⟩
  rw [State.latch_inProg]
  exact congrArg (· ++ _) s.arbGrant_inProg

end

/-! ### The timeout of a wait (R390) -/

theorem syncWaitTimeout_ends {target : Nat} (hp : s.powered = true)
    (hw : s.syncWaits.find? (·.o == o) = some ⟨o, n, target⟩) (hin : (⟨o, 0x17, none⟩ : Progress) ∈ s.inProg) :
    ∃ t, exec (.syncWaitTimeout o) s = .next t ∧ t.syncWaits = s.syncWaits.filter (·.o != o)
      ∧ t.result o 0x17 .timeout {} (natLe 4 (s.sync n)) []
      ∧ t = { s with syncWaits := t.syncWaits, inProg := t.inProg } := by
  have e : exec (.syncWaitTimeout o) s = execSyncWaitTimeout o s := rfl
  rw [e, execSyncWaitTimeout, s.does_powered _ hp]
  simp only [hw]
  exact ⟨_, rfl, rfl, State.result_finish _ _ _ _ _ _ _ hin, rfl⟩

/-- Settles O14: SYNC_SET by the counter it gives and the waits that it ends, SYNC_WAIT by whether the target is reached, its timeout by
the wait that stands. -/
theorem syncCommands : Obligations.SyncCommands := by
  unfold Obligations.SyncCommands
  refine ⟨fun o n v s e hp ht hn he hj hw => syncSet_sets v hp ht hn he hj hw,
    fun o n target us s e hp ht hn hus hus' he hj herr => ⟨?_, ?_⟩, fun o n target s hp hw hin => syncWaitTimeout_ends hp hw hin⟩
  · exact syncWait_reached hp ht hn hus hus' he hj herr
  · exact syncWait_waits hp ht hn hus hus' he hj herr

end Sys2Proof.Machine
end

section
/-! Requests for a reset: the audit entry before them, and who asks (R96, R365, R372, R463, R465). -/

namespace Sys2Proof.Machine

variable {s : State}

/-! ### What an audit entry leaves (R464, R466) -/

/-- `u` differs from `s` in the registers, the audit record and the event queues alone. -/
def OnlyAudit (s u : State) : Prop := ∃ r a q, u = { s with regs := r, audit := a, evq := q }

theorem OnlyAudit.trans {u v : State} (h : OnlyAudit s u) (h' : OnlyAudit u v) : OnlyAudit s v := by
  obtain ⟨r, a, q, rfl⟩ := h
  obtain ⟨r', a', q', rfl⟩ := h'
  exact ⟨r', a', q', rfl⟩

theorem onlyAudit_of_onlyRegs {u : State} (h : OnlyRegs s u) : OnlyAudit s u := by
  obtain ⟨r, rfl⟩ := h
  exact ⟨r, s.audit, s.evq, rfl⟩

theorem onlyAudit_ev (code src p0 p1 p2 : Nat) (h : s.room 1 = true) : OnlyAudit s (s.ev code src p0 p1 p2) := by
  obtain ⟨r, q, e⟩ := s.ev_eq_of_room code src p0 p1 p2 h
  exact ⟨r, s.audit, q, e⟩

/-- While the event queues have room for what the record's overflow raises, its cell changes the audit alone. -/
theorem onlyAudit_auditCell (action role st key sess : Nat) (params : List Byte) (h : s.room 2 = true) :
    OnlyAudit s (s.auditCell action role st key sess params) ∧ (s.auditCell action role st key sess params).room 1 = true := by
  have hentry : ∀ l, OnlyAudit s { s with audit := l } := fun l => ⟨s.regs, l, s.evq, rfl⟩
  have hcount : ∀ (t : State) (e : List Byte) (v : Nat), OnlyAudit t ((t.setHead e).setPair Reg.secAuditCountLoOff v) := fun t e v =>
    onlyAudit_of_onlyRegs ((onlyRegs_setHead t e).trans (onlyRegs_setPair _ _ _))
  have hroom : ∀ (t : State) (e : List Byte) (v : Nat), ((t.setHead e).setPair Reg.secAuditCountLoOff v).room 1 = t.room 1 :=
    fun t e v => State.room_of_evq (by rw [State.setPair_evq, (onlyRegs_setHead t e).eq]) 1
  have hfull : ∀ t, OnlyAudit s t → t.room 2 = true → ∀ p e v,
      OnlyAudit s (((t.ev 0x0B07 0 p 0 0).setHead e).setPair Reg.secAuditCountLoOff v)
        ∧ (((t.ev 0x0B07 0 p 0 0).setHead e).setPair Reg.secAuditCountLoOff v).room 1 = true := fun t ht hr p e v =>
    ⟨(ht.trans (onlyAudit_ev _ _ _ _ _ (t.room_mono (by decide) hr))).trans (hcount _ _ _),
      (hroom _ _ _).trans (t.room_ev _ _ _ _ _ 1 hr)⟩
  unfold State.auditCell
  dsimp only
  split_ifs
  · refine hfull _ ?_ ?_ _ _ _
    · exact (hentry _).trans (onlyAudit_of_onlyRegs (onlyRegs_setPair _ _ _))
    · exact (State.room_of_evq (State.setPair_evq _ _ _) 2).trans h
  · exact ⟨(hentry _).trans (hcount _ _ _), (hroom _ _ _).trans (s.room_mono (by decide) h)⟩

theorem onlyAudit_auditAppend (action role st key sess : Nat) (params : List Byte) (h : s.room 2 = true) :
    OnlyAudit s (s.auditAppend action role st key sess params) := by
  obtain ⟨hcell, hroom⟩ := onlyAudit_auditCell action role st key sess params h
  exact hcell.trans (onlyAudit_ev _ _ _ _ _ hroom)

/-! ### Commands of a session (R96, R372, R390) -/

/-- A privileged command whose checks pass takes effect once its entry stands. -/
theorem State.privileged_ok (s : State) (o : Origin) (op : Nat) (params : List Byte) (act : State → State) (h : s.auditBad = false) :
    s.privileged o op .ok params act
      = act (s.auditAppend (0x100 + op) (s.auditRole o.sess) 0 (s.sess o.sess).key o.sess params) := by
  rw [State.privileged, s.auditAct_ok _ _ _ _ h]
  rfl

/-- A command that asks for a reset stays in progress until the grant; its entry stands before the request. -/
theorem hostCmd_asks {o : Origin} {op level : Nat} {body : State → State} {params : List Byte} {q : ResetReq} (hp : s.powered = true)
    (ht : s.arbGrant.takes o op level = true) (hbad : s.auditBad = false) (hroom : s.room 2 = true)
    (hbody : body (s.arbGrant.begun o op) = (s.arbGrant.begun o op).privileged o op .ok params fun u => u.askReset q) :
    ∃ t, s.granted (fun s => s.hostCmd o op body level) = .next t ∧ (⟨o, op, none⟩ : Progress) ∈ t.inProg
      ∧ t.resetReqs = s.resetReqs ++ [q] ∧ RegsBut s t (grantRegs ++ auditRegs)
      ∧ t = { s with regs := t.regs, inProg := t.inProg, resetReqs := t.resetReqs, audit := t.audit, evq := t.evq
                     latches := t.latches, outSeq := t.outSeq } := by
  have hexec := s.granted_powered (fun s => s.hostCmd o op body level) hp
  have hbad' : (s.arbGrant.begun o op).auditBad = false := s.arbGrant_auditBad.trans hbad
  rw [State.hostCmd_takes _ _ _ _ _ _ ht, hbody, State.privileged_ok _ _ _ _ _ hbad'] at hexec
  have hregs := (auditedTo_auditAppend (s.arbGrant.begun o op) (0x100 + op) ((s.arbGrant.begun o op).auditRole o.sess) 0
    ((s.arbGrant.begun o op).sess o.sess).key o.sess params).regs
  have hframe := onlyAudit_auditAppend (s := s.arbGrant.begun o op) (0x100 + op) ((s.arbGrant.begun o op).auditRole o.sess) 0
    ((s.arbGrant.begun o op).sess o.sess).key o.sess params ((s.room_arbGrant 2).trans hroom)
  have hin := s.arbGrant.mem_begun o op
  generalize State.auditAppend _ _ _ _ _ _ _ = u at hexec hregs hframe
  have hbegun : RegsBut s.arbGrant (s.arbGrant.begun o op) auditRegs := regsBut_of_regs _ rfl
  have hasked : RegsBut s.arbGrant (u.askReset q) auditRegs := (hbegun.trans hregs).trans (regsBut_of_regs _ rfl)
  obtain ⟨l, n, e⟩ := (u.askReset q).latch_eq s
  obtain ⟨r, a, v, rfl⟩ := hframe
  obtain ⟨r', e'⟩ := onlyRegs_arbGrant s
  refine ⟨_, hexec, ?_, ?_, hasked.granted, ?_⟩
  · rw [State.latch_inProg]
    exact hin
  · rw [State.latch_resetReqs]
    exact congrArg (· ++ [q]) s.arbGrant_resetReqs
  · rw [e, e']
    rfl

theorem setSplit_asks {o : Origin} {n : Nat} (hp : s.powered = true) (hbad : s.auditBad = false) (hroom : s.room 2 = true) (hn : n ≤ 3)
    (ht : s.arbGrant.takes o 0x15 = true) (hservice : s.arbGrant.modState = .service) (hlicence : n = 0 ∨ s.arbGrant.tenancy = true) :
    ∃ t, exec (.setSplit o n) s = .next t ∧ (⟨o, 0x15, none⟩ : Progress) ∈ t.inProg
      ∧ t.resetReqs = s.resetReqs ++ [{ level := 4, target := 4, cause := 0x0B, split := some n, o := some o }]
      ∧ RegsBut s t (grantRegs ++ auditRegs)
      ∧ t = { s with regs := t.regs, inProg := t.inProg, resetReqs := t.resetReqs, audit := t.audit, evq := t.evq
                     latches := t.latches, outSeq := t.outSeq } := by
  refine hostCmd_asks (body := State.doSetSplit o n) (params := natLe 1 n) hp ht hbad hroom ?_
  have hservice' : (s.arbGrant.begun o 0x15).modState = .service := hservice
  have hlicence' : ¬ (n ≠ 0 ∧ ¬ (s.arbGrant.begun o 0x15).tenancy = true) := fun h => hlicence.elim h.1 h.2
  rw [State.doSetSplit]
  simp only [if_neg (not_lt.2 hn), hservice', ne_eq, not_true_eq_false, if_false, if_neg hlicence']

/-- The status of a reset by command, of a level and a partition that exist. -/
theorem State.cmdReset_ok {level part : Nat} (hlo : 4 ≤ level) (hhi : level ≤ 6) (hdies : level = 4 → s.dies part ≠ []) :
    s.cmdReset level part = .ok := by
  rw [State.cmdReset, if_neg (by omega), if_neg fun h => hdies h.1 (List.isEmpty_iff.1 h.2)]

theorem State.dies_of_fld {t : State} (h : t.fld Reg.fsqSplitSplit = s.fld Reg.fsqSplitSplit) (part : Nat) : t.dies part = s.dies part := by
  rw [State.dies, h, State.dies]

theorem RegsBut.dies {t : State} {os : List Nat} (h : RegsBut s t os) (ho : Reg.fsqSplitSplit.off ∉ os) (part : Nat) :
    t.dies part = s.dies part := State.dies_of_fld (h.fld ho) part

theorem resetRequest_asks {o : Origin} {level part : Nat} (hp : s.powered = true) (hbad : s.auditBad = false) (hroom : s.room 2 = true)
    (hlo : 4 ≤ level) (hhi : level ≤ 6) (hdies : level = 4 → s.dies part ≠ []) (ht : s.arbGrant.takes o 0x62 level = true) :
    ∃ t, exec (.resetRequest o level part) s = .next t ∧ (⟨o, 0x62, none⟩ : Progress) ∈ t.inProg
      ∧ t.resetReqs = s.resetReqs ++ [{ level := level, target := if level = 4 then part else 0, cause := 0x0A, o := some o }]
      ∧ RegsBut s t (grantRegs ++ auditRegs)
      ∧ t = { s with regs := t.regs, inProg := t.inProg, resetReqs := t.resetReqs, audit := t.audit, evq := t.evq
                     latches := t.latches, outSeq := t.outSeq } := by
  refine hostCmd_asks (body := State.doResetRequest o level part) (params := natLe 1 level ++ natLe 1 part) hp ht hbad hroom ?_
  have hsame : (s.arbGrant.begun o 0x62).dies part = s.dies part := (regsBut_arbGrant s).dies (by decide) part
  rw [State.doResetRequest, State.cmdReset_ok hlo hhi (by rwa [hsame])]

/-! ### Writes of an installer (R365, R372) -/

/-- An installer's write that succeeds takes effect once its audit entry stands, which changes the audit alone. -/
theorem State.access_audited {r : Requester} {n : Nat} (h : s.installs r n = true) (off v : Nat) (act : State → State × Status)
    (hact : (act s).2 = .ok) :
    ∃ u, AuditedTo s u ∧ OnlyAudit s u ∧ s.access r off v .write (gate true act) = (act u).1.answer r off v .ok := by
  simp only [State.installs, Bool.and_eq_true, Bool.not_eq_true'] at h
  obtain ⟨⟨⟨hinst, hstarted⟩, hbad⟩, hroom⟩ := h
  obtain ⟨i, rfl, hrole, hsome⟩ := State.session_of_isInst s hinst
  refine ⟨_, auditedTo_auditAppend s 1 2 0 (s.sess i).key i (natLe 4 off ++ natLe 4 v),
    onlyAudit_auditAppend _ _ _ _ _ _ (s.room_mono (by omega) hroom), ?_⟩
  rw [State.access, s.carry_inst_ok i off v (gate true act) hstarted hsome hrole hact hbad]
  rfl

theorem State.isInst_of_installs {r : Requester} {n : Nat} (h : s.installs r n = true) : s.isInst r = true := by
  simp only [State.installs, Bool.and_eq_true] at h
  exact h.1.1.1

/-- A write of RST_CMD by an installer: the request waits, and the access is answered. -/
theorem rstCmd_asks {r : Requester} {level part v : Nat} (hp : s.powered = true) (hi : s.arbGrant.installs r 0 = true) (hlo : 4 ≤ level)
    (hhi : level ≤ 6) (hdies : level = 4 → s.dies part ≠ []) :
    ∃ t, s.commanded (fun s => s.access r Reg.rstCmdOff v .write (gate (s.mayReset r level) (State.doRstCmd level part))) = .next t
      ∧ .access r Reg.rstCmdOff v .ok ∈ t.wire
      ∧ t.resetReqs = s.resetReqs ++ [{ level := level, target := if level = 4 then part else 0, cause := 0x0A }]
      ∧ RegsBut s t (grantRegs ++ auditRegs)
      ∧ t = { s with regs := t.regs, resetReqs := t.resetReqs, audit := t.audit, evq := t.evq, wire := t.wire, latches := t.latches
                     outSeq := t.outSeq } := by
  have hok : ∀ u : State, u.dies part = s.dies part → State.doRstCmd level part u
      = (u.askReset { level := level, target := if level = 4 then part else 0, cause := 0x0A }, .ok) := fun u hu => by
    rw [State.doRstCmd, State.cmdReset_ok hlo hhi (by rwa [hu])]
  have hgrant : s.arbGrant.dies part = s.dies part := (regsBut_arbGrant s).dies (by decide) part
  have hmay : s.arbGrant.mayReset r level = true := by rw [State.mayReset, State.isInst_of_installs hi]; rfl
  obtain ⟨u, haudit, hframe, he⟩ := State.access_audited hi Reg.rstCmdOff v (State.doRstCmd level part) (by rw [hok _ hgrant])
  have hexec := s.commanded_powered
    (fun s => s.access r Reg.rstCmdOff v .write (gate (s.mayReset r level) (State.doRstCmd level part))) hp
  rw [hmay, he, hok u ((haudit.regs.dies (by decide) part).trans hgrant)] at hexec
  refine ⟨_, hexec, latch_answer_mem _ s r _ v .ok, ?_, ?_, ?_⟩
  · obtain ⟨ra, a, q, rfl⟩ := hframe
    rw [State.latch_resetReqs, State.answer_resetReqs]
    exact congrArg (· ++ _) s.arbGrant_resetReqs
  · have hask : ∀ q, RegsBut u (u.askReset q) [] := fun q => regsBut_of_regs [] rfl
    rw [← List.append_nil (grantRegs ++ auditRegs)]
    exact haudit.granted (hask _) r Reg.rstCmdOff v .ok
  · obtain ⟨ra, a, q, rfl⟩ := hframe
    obtain ⟨r', e'⟩ := onlyRegs_arbGrant s
    obtain ⟨l, n, e⟩ := State.latch_eq (State.answer (State.askReset _ _) r Reg.rstCmdOff v .ok) s
    rw [e, e']
    rfl

theorem faultContextClear_clears {r : Requester} (hp : s.powered = true) (hi : s.arbGrant.installs r 0 = true) :
    ∃ t, exec (.faultContextClear r) s = .next t ∧ .access r Reg.rstFaultContextOff (2 ^ 31) .ok ∈ t.wire
      ∧ t.reg Reg.rstFaultContextOff = 0 ∧ t.reg Reg.rstFaultUnitOff = regReset Reg.rstFaultUnitOff
      ∧ RegsBut s t (grantRegs ++ auditRegs ++ [Reg.rstFaultContextOff, Reg.rstFaultUnitOff])
      ∧ t = { s with regs := t.regs, faultHeld := none, audit := t.audit, evq := t.evq, wire := t.wire, latches := t.latches
                     outSeq := t.outSeq } := by
  have hmay : s.arbGrant.anyWriter r = true := by rw [State.anyWriter, State.isInst_of_installs hi, Bool.or_true]; rfl
  obtain ⟨u, haudit, hframe, he⟩ := State.access_audited hi Reg.rstFaultContextOff (2 ^ 31) State.doFaultClear rfl
  have hexec : exec (.faultContextClear r) s
      = .next (State.latch s ((State.doFaultClear u).1.answer r Reg.rstFaultContextOff (2 ^ 31) .ok)) := by
    have e : exec (.faultContextClear r) s = execFaultContextClear r s := rfl
    rw [e, execFaultContextClear, s.granted_powered _ hp, hmay, he]
  have hregs : (State.doFaultClear u).1.regs
      = ((u.setReg Reg.rstFaultContextOff 0).setReg Reg.rstFaultUnitOff (regReset Reg.rstFaultUnitOff)).regs := rfl
  have hclears : RegsBut u (State.doFaultClear u).1 [Reg.rstFaultContextOff, Reg.rstFaultUnitOff] := fun off ho => by
    simp only [List.mem_cons, List.not_mem_nil, or_false, not_or] at ho
    rw [State.reg_of_regs hregs, State.reg_setReg_ne _ _ _ _ ho.2, u.reg_setReg_ne _ _ _ ho.1]
  refine ⟨_, hexec, latch_answer_mem _ s r _ _ .ok, ?_, ?_, haudit.granted hclears r _ _ .ok, ?_⟩
  · rw [State.latch_reg, State.answer_reg, State.reg_of_regs hregs, State.reg_setReg_ne _ _ _ _ (by decide), u.reg_setReg_same]
  · rw [State.latch_reg, State.answer_reg, State.reg_of_regs hregs, State.reg_setReg_same]
  · obtain ⟨ra, a, q, rfl⟩ := hframe
    obtain ⟨r', e'⟩ := onlyRegs_arbGrant s
    obtain ⟨l, n, e⟩ := State.latch_eq (State.answer (State.doFaultClear _).1 r Reg.rstFaultContextOff (2 ^ 31) .ok) s
    rw [e, e']
    rfl

/-- Settles O47: each command by the request that it leaves waiting once its audit entry stands, the clearing by the registers. -/
theorem resetsAreAskedFor : Obligations.ResetsAreAskedFor := by
  unfold Obligations.ResetsAreAskedFor
  refine ⟨fun o s g hp hg hbad hroom => ?_, fun r s g hp hg hi => ?_⟩ <;> subst hg
  · exact ⟨fun n hn ht => setSplit_asks hp hbad hroom hn ht,
      fun level part hlo hhi hdies => resetRequest_asks hp hbad hroom hlo hhi hdies⟩
  · refine ⟨fun part hpart hdies => ?_, ?_, ?_, faultContextClear_clears hp hi⟩
    · have h := rstCmd_asks (level := 4) (part := part % 4) (v := rstWord 4 part) hp hi (by decide) (by decide)
        fun _ => by rwa [Nat.mod_eq_of_lt hpart]
      have e : exec (.rstCmdPartition r part) s = execRstCmdPartition r part s := rfl
      rw [e, execRstCmdPartition]
      simpa only [Nat.mod_eq_of_lt hpart, if_true] using h
    · exact rstCmd_asks (level := 5) (part := 0) (v := rstWord 5 0) hp hi (by decide) (by decide) (by omega)
    · exact rstCmd_asks (level := 6) (part := 0) (v := rstWord 6 0) hp hi (by decide) (by decide) (by omega)

end Sys2Proof.Machine
end

section
/-! SUPPORT. What packets leave of the sequencers: the stores, the routing and the slots of requests touch neither a firing nor the
clock (R263 to R276). -/

namespace Sys2Proof.Machine

variable (s : State)

/-- The sequencers and the clock. -/
def State.seqs (s : State) : Tbl Sequencer × Nat := (s.parts, s.clk)

section
variable {s} {t : State} (h : t.seqs = s.seqs)
include h

theorem State.part_of_seqs (p : Nat) : t.part p = s.part p := by rw [State.part, (Prod.mk.inj h).1, State.part]

theorem State.clk_of_seqs : t.clk = s.clk := (Prod.mk.inj h).2

end

theorem OnlyRegs.seqs {s t : State} (h : OnlyRegs s t) : t.seqs = s.seqs := by
  obtain ⟨r, rfl⟩ := h
  rfl

@[simp] theorem State.setFld_seqs (f : Fld) (v : Nat) : (s.setFld f v).seqs = s.seqs := (onlyRegs_setFld s f v).seqs

@[simp] theorem State.setFlag_seqs (f : Fld) (b : Bool) : (s.setFlag f b).seqs = s.seqs := s.setFld_seqs f _

@[simp] theorem State.bump_seqs (f : Fld) : (s.bump f).seqs = s.seqs := s.setFld_seqs f _

@[simp] theorem State.ev_seqs (code src p0 p1 p2 : Nat) : (s.ev code src p0 p1 p2).seqs = s.seqs := by
  rw [State.seqs, State.ev_parts, State.ev_clk, State.seqs]

@[simp] theorem State.mark_seqs (f : Fld) (v : Nat) : (s.mark f v).seqs = s.seqs := by
  unfold State.mark
  split_ifs
  · exact s.setFld_seqs f v
  · rfl

theorem State.each_seqs {α : Type} (xs : List α) (f : State → α → State) (h : ∀ t x, (f t x).seqs = t.seqs) :
    (s.each xs f).seqs = s.seqs := s.each_frame State.seqs xs f h

/-! ### The central store (R263 to R268) -/

@[simp] theorem State.storeSync_seqs : s.storeSync.seqs = s.seqs := by
  unfold State.storeSync
  dsimp only
  rw [State.mark_seqs, State.setFld_seqs, State.each_seqs _ _ _ fun t d => by rw [State.mark_seqs, State.setFld_seqs]]
  refine State.each_seqs _ _ _ fun t f => ?_
  rw [State.setFlag_seqs]
  split_ifs <;> simp [State.each_seqs]

@[simp] theorem State.enqueue_seqs (o die : Nat) (via : Option Nat) (vc : Nat) (p : Packet) (acc : Nat × Nat × Nat) :
    (s.enqueue o die via vc p acc).seqs = s.seqs := by
  have hqueue : ∀ q, (s.setQueue o q).storeSync.seqs = s.seqs := fun q => (s.setQueue o q).storeSync_seqs
  unfold State.enqueue
  dsimp only
  split_ifs
  · rw [State.ev_seqs, hqueue]
  · exact hqueue _

@[simp] theorem State.place_seqs (o die : Nat) (p q : Packet) : (s.place o die p q).seqs = s.seqs := by
  unfold State.place
  split
  · split_ifs
    · rfl
    · rw [State.enqueue_seqs, State.detour, State.each_seqs _ _ _ fun t d => t.bump_seqs _]
  · rfl

@[simp] theorem State.unreachableEv_seqs (die dark : Nat) (p : Packet) : (s.unreachableEv die dark p).seqs = s.seqs := by
  rw [State.unreachableEv, State.ev_seqs, State.bump_seqs]

/-- A packet that is routed, placed, answered or discarded leaves the sequencers and the clock. -/
@[simp] theorem State.forward_seqs (die : Nat) (p : Packet) : (s.forward die p).seqs = s.seqs := by
  unfold State.forward
  split
  · exact s.place_seqs _ _ _ _
  · exact s.place_seqs _ _ _ _
  · dsimp only
    split
    · split_ifs
      · simp
      · split <;> simp
    · simp

/-! ### ABORTs of a bank (R334) -/

@[simp] theorem State.sendBankAborts_seqs (st : Status) : (s.sendBankAborts st).seqs = s.seqs := by
  unfold State.sendBankAborts
  dsimp only
  split
  · exact State.each_seqs _ _ _ fun t i => t.forward_seqs _ _
  · rfl

end Sys2Proof.Machine
end

section
/-! A firing after a loss: it runs again, or ends ABORTED (R117 to R119). -/

namespace Sys2Proof.Machine

variable (s : State) (p : Nat) (r : Run)

/-! ### Faults of a firing (R132) -/

theorem State.part_setPart_ne {p q : Nat} (h : p ≠ q) (x : Sequencer) : (s.setPart q x).part p = s.part p := by
  rw [State.part, State.setPart, tget_tset, if_neg h, State.part]

theorem State.run_faultFiring (q : Nat) (f : FireFault) : ((s.faultFiring q f).part p).run
    = if p = q then (s.part p).run.map fun r => r.withFault { f with granted := s.clk } else (s.part p).run := by
  unfold State.faultFiring
  split_ifs with hq
  · subst hq
    cases hr : (s.part p).run with
    | none => exact hr
    | some r => exact congrArg Sequencer.run (s.part_setPart p _)
  · split
    · rw [s.part_setPart_ne hq]
    · rfl

theorem State.run_runFlags (f : Flags) :
    ((s.runFlags p f).part p).run = (s.part p).run.map fun r => { r with flags := r.flags.or f } := by
  unfold State.runFlags
  cases hr : (s.part p).run with
  | none => exact hr
  | some r => exact congrArg Sequencer.run (s.part_setPart p _)

/-- A firing that ends ABORTED in this clock. -/
def Run.abortedAt (r : Run) (clk : Nat) : Prop := r.fault = some { status := .aborted, granted := clk }

/-- The fault of a bank that fails in the same clock does not take its place. -/
theorem Run.withFault_abortedAt {r : Run} {clk : Nat} (h : r.abortedAt clk) (origin : Nat) :
    r.withFault { status := .aborted, module := some origin, granted := clk } = r := by
  rw [Run.abortedAt] at h
  simp [Run.withFault, h, FireFault.beats]

theorem Run.withFault_aborted {r : Run} (h : r.fault = none) (clk : Nat) :
    (r.withFault { status := .aborted, granted := clk }).abortedAt clk ∧
      (r.withFault { status := .aborted, granted := clk }).replays = r.replays := by
  simp [Run.withFault, h, Run.abortedAt]

variable {s p r}

/-- A bank that fails leaves a firing that has ended ABORTED in this clock. -/
theorem State.run_failBank (hr : (s.part p).run = some r) (ha : r.abortedAt s.clk) (sent : Status) (origin : Nat) :
    ((s.failBank .aborted sent origin).part p).run = some r := by
  have hfault : ∀ t : State, t.seqs = s.seqs → ∀ b : Option Nat,
      ((match b with
        | some q => t.faultFiring q { status := .aborted, module := some origin }
        | none => t).part p).run = some r := fun t ht b => by
    have hrun : (t.part p).run = some r := by rw [State.part_of_seqs ht, hr]
    cases b with
    | none => exact hrun
    | some q =>
      dsimp only
      rw [State.run_faultFiring, hrun, State.clk_of_seqs ht, Option.map_some, Run.withFault_abortedAt ha, ite_self]
  unfold State.failBank
  split_ifs
  · exact hr
  · refine hfault _ ?_ _
    rw [State.ev_seqs, State.setFlag_seqs, State.setFld_seqs, (onlyRegs_setReg _ _ _).seqs, State.sendBankAborts_seqs]

/-! ### The four ways of a loss (R117 to R119) -/

theorem State.part_dealOut (s : State) (p q : Nat) (owners done : List Nat) : (s.dealOut p owners done).part q = s.part q := rfl

theorem State.replay_of_fault (hr : (s.part p).run = some r) (hf : r.fault ≠ none) : s.replay p = s := by
  have hsome : r.fault.isSome = true := Option.isSome_iff_ne_none.2 hf
  simp only [State.replay, hr, hsome, or_true, if_true]

section
variable (hstage : r.stage = .framePass ∨ r.stage = .main) (hf : r.fault = none)
include hstage hf

theorem replay_goes_on : ¬ ((r.stage ≠ .framePass ∧ r.stage ≠ .main) ∨ r.fault.isSome = true) := by
  rcases hstage with h | h <;> simp [h, hf]

variable (hr : (s.part p).run = some r)
include hr

/-- With no live core left the firing ends ABORTED. -/
theorem State.replay_dead (hl : s.live p = []) :
    ∃ u, ((s.replay p).part p).run = some u ∧ u.abortedAt s.clk ∧ u.replays = r.replays := by
  obtain ⟨t, ht⟩ : ∃ t, t = (s.runFlags p { degraded := true }).faultFiring p { status := .aborted } := ⟨_, rfl⟩
  have hclk : (s.runFlags p { degraded := true }).clk = s.clk := by
    unfold State.runFlags
    split <;> rfl
  have hclk' : t.clk = s.clk := by
    rw [ht, State.faultFiring, ← hclk]
    split <;> rfl
  obtain ⟨u, hu⟩ : ∃ u : Run, u = { r with flags := r.flags.or { degraded := true } } := ⟨_, rfl⟩
  obtain ⟨ha, hn⟩ := Run.withFault_aborted (r := u) (by rw [hu, hf]) s.clk
  have hrun : (t.part p).run = some (u.withFault { status := .aborted, granted := s.clk }) := by
    rw [ht, State.run_faultFiring, if_pos rfl, State.run_runFlags, hr, hclk, hu]
    rfl
  refine ⟨_, ?_, ha, hn.trans (by rw [hu])⟩
  have hlive : (s.live p).isEmpty = true := by rw [hl]; rfl
  simp only [State.replay, hr, if_neg (replay_goes_on hstage hf), hlive, if_true]
  rw [State.part_of_seqs (State.ev_seqs _ _ _ _ _ _), ← ht]
  split_ifs
  · exact State.run_failBank hrun (by rw [hclk']; exact ha) _ _
  · exact hrun

/-- A firing that has no unit yet is left as it is. -/
theorem State.replay_unitless (hl : s.live p ≠ []) (hu : r.units = []) : s.replay p = s := by
  have hlive : (s.live p).isEmpty = false := by simpa using hl
  have hunits : r.units.isEmpty = true := by rw [hu]; rfl
  simp only [State.replay, hr, if_neg (replay_goes_on hstage hf), hlive, hunits, Bool.false_eq_true, if_false, if_true]

/-- The firing is in its fifth run, or in place with a tile in write-back: it is not run again. -/
def Run.spent (r : Run) : Prop :=
  r.replays ≥ 4 ∨ (inPlace (r.desc.getD (descOf r.bytes)) r.env = true ∧ r.stage = .main
    ∧ ¬ (r.tilesOwed.isEmpty = true ∧ r.strayOwed = 0))

theorem State.replay_spent (hl : s.live p ≠ []) (hu : r.units ≠ []) (hs : r.spent) :
    ∃ u, ((s.replay p).part p).run = some u ∧ u.abortedAt s.clk ∧ u.replays = r.replays := by
  have hlive : (s.live p).isEmpty = false := by simpa using hl
  have hunits : r.units.isEmpty = false := by simpa using hu
  obtain ⟨u, hu⟩ : ∃ u : Run, u = { r with flags := { r.flags with degraded := true } } := ⟨_, rfl⟩
  obtain ⟨ha, hn⟩ := Run.withFault_aborted (r := u) (by rw [hu, hf]) s.clk
  refine ⟨_, ?_, ha, hn.trans (by rw [hu])⟩
  unfold Run.spent at hs
  simp only [State.replay, hr, if_neg (replay_goes_on hstage hf), hlive, hunits, Bool.false_eq_true, if_false, if_pos hs]
  rw [State.run_faultFiring, if_pos rfl, State.part_setPart, hu]
  rfl

/-- The firing dealt again: its incomplete tiles are to run anew, and the responses of their earlier runs are nobody's. -/
def Run.again (r : Run) (owners : List Nat) : Run :=
  { r with flags := { r.flags with degraded := true }, replays := r.replays + 1, owners := owners
           unitsDone := r.unitsDone.filter fun u => match tileOfUnit r.units u 0 with
             | some t => r.tilesDone.contains t
             | none => false
           tilesOwed := [], entries := [], strayOwed := r.strayOwed + (r.tilesOwed.map (·.2)).foldl (· + ·) 0 }

theorem State.replay_again (hl : s.live p ≠ []) (hu : r.units ≠ []) (hs : ¬ r.spent) :
    ((s.replay p).part p).run = some (r.again (s.dealt p r.units)) := by
  have hlive : (s.live p).isEmpty = false := by simpa using hl
  have hunits : r.units.isEmpty = false := by simpa using hu
  unfold Run.spent at hs
  simp only [State.replay, hr, if_neg (replay_goes_on hstage hf), hlive, hunits, Bool.false_eq_true, if_false, if_neg hs]
  rw [State.part_of_seqs (State.ev_seqs _ _ _ _ _ _), State.part_of_seqs (State.bump_seqs _ _)]
  rw [State.part_dealOut, State.part_setPart]
  rfl

end

/-- Settles O45: a loss leaves the firing as it is, ends it ABORTED, or deals it again, and only the last counts as a replay. -/
theorem firingIsReplayedAtMostFourTimes : Obligations.FiringIsReplayedAtMostFourTimes := by
  unfold Obligations.FiringIsReplayedAtMostFourTimes
  intro p r s hr hstage
  refine ⟨?_, fun hu hf hn => ?_, fun hu hf hn hl hmay => ?_⟩
  · by_cases hf : r.fault = none
    swap
    · exact ⟨r, by rw [s.replay_of_fault hr hf, hr], id⟩
    by_cases hl : s.live p = []
    · obtain ⟨u, hrun, -, hsame⟩ := State.replay_dead hstage hf hr hl
      exact ⟨u, hrun, fun h => by rwa [hsame]⟩
    by_cases hu : r.units = []
    · exact ⟨r, by rw [State.replay_unitless hstage hf hr hl hu, hr], id⟩
    by_cases hs : r.spent
    · obtain ⟨u, hrun, -, hsame⟩ := State.replay_spent hstage hf hr hl hu hs
      exact ⟨u, hrun, fun h => by rwa [hsame]⟩
    · have hless : r.replays < 4 := not_le.1 fun h => hs (.inl h)
      exact ⟨_, State.replay_again hstage hf hr hl hu hs, fun _ => hless⟩
  · by_cases hl : s.live p = []
    · exact State.replay_dead hstage hf hr hl
    · exact State.replay_spent hstage hf hr hl hu (.inl hn)
  · have hs : ¬ r.spent := by
      rintro (h | ⟨hplace, hmain, howed⟩)
      · omega
      · rcases hmay with h | h | ⟨hnone, hstray⟩
        · exact Bool.noConfusion (h.symm.trans hplace)
        · exact Stage.noConfusion (h.symm.trans hmain)
        · exact howed ⟨by rw [hnone]; rfl, hstray⟩
    refine ⟨_, State.replay_again hstage hf hr hl hu hs, rfl, rfl, hf, rfl, rfl, rfl, fun _ hdone => ?_⟩
    refine List.filter_eq_nil_iff.2 fun u _ => ?_
    rw [hdone]
    cases tileOfUnit r.units u 0 <;> simp

end Sys2Proof.Machine
end


section
/-! Replies to requests: each frees its slot and tells its holder (R109, R113, R116, R123, R159, R277). -/

namespace Sys2Proof.Machine

/-! ### The slot of a request (R276, R277) -/

section
variable (s : State) (die n : Nat)

/-- The state with a slot freed and counted. -/
def State.freed (s : State) (die n : Nat) : State :=
  (s.setSlot die n { s.slotAt die n with busy := false, owner := .none }).sub (Reg.rtrStoreSlotsInUse die) 1

theorem State.freed_eq : ∃ r t, s.freed die n = { s with regs := r, reqSlots := t } := by
  unfold State.freed
  generalize { s.slotAt die n with busy := false, owner := .none } = x
  obtain ⟨r, e⟩ := onlyRegs_setFld (s.setSlot die n x) (Reg.rtrStoreSlotsInUse die) ((s.setSlot die n x).fld (Reg.rtrStoreSlotsInUse die) - 1)
  exact ⟨r, _, e⟩

theorem State.freed_slot : ((s.freed die n).slotAt die n).busy = false := by
  simp only [State.freed, State.slotAt, State.sub_reqSlots, State.setSlot, tget_tset, if_true]

theorem regsBut_freed : RegsBut s (s.freed die n) [(Reg.rtrStoreSlotsInUse die).off] :=
  RegsBut.trans (regsBut_of_regs _ rfl) (regsBut_setFld (s.setSlot die n _) _ _ _ List.mem_cons_self)

theorem State.freed_seqs : (s.freed die n).seqs = s.seqs := by
  obtain ⟨r, t, e⟩ := s.freed_eq die n
  rw [e]
  rfl

theorem State.freed_mem : (s.freed die n).mem = s.mem := by
  obtain ⟨r, t, e⟩ := s.freed_eq die n
  rw [e]

theorem State.retrySlots_none {s : State} (h : s.slotWait = []) : s.retrySlots = s := by
  cases s
  cases h
  rfl

/-- While no request waits for a slot, the end of one frees it. -/
theorem State.endSlot_of_none_waiting {s : State} (h : s.slotWait = []) : s.endSlot die n = s.freed die n :=
  State.retrySlots_none (s := s.freed die n) (by
    obtain ⟨r, t, e⟩ := s.freed_eq die n
    rw [e]
    exact h)

end

/-! ### What a holder does (R109, R113, R116, R123) -/

/-- `t` differs from `s` in the sequencers alone, and partition `p` runs the firing `y`. -/
structure State.RunsTo (s t : State) (p : Nat) (y : Run) : Prop where
  run : (t.part p).run = some y
  frame : ∃ ps, t = { s with parts := ps }

section
variable {s t u : State} {p : Nat} {r y z : Run}

theorem State.RunsTo.trans (h : s.RunsTo t p y) (h' : t.RunsTo u p z) : s.RunsTo u p z := by
  obtain ⟨-, ps, rfl⟩ := h
  obtain ⟨hrun, ps', rfl⟩ := h'
  exact ⟨hrun, ps', rfl⟩

theorem State.runsTo_runs (s : State) (p : Nat) (y : Run) : s.RunsTo (s.runs p y) p y := ⟨s.runs_run p y, _, rfl⟩

theorem State.runsTo_runFlags (hr : (s.part p).run = some r) (f : Flags) : s.RunsTo (s.runFlags p f) p { r with flags := r.flags.or f } := by
  simp only [State.runFlags, hr]
  exact s.runsTo_runs p _

/-- An access that ends OK leaves its flags to the firing. -/
theorem State.runsTo_accessDone (hr : (s.part p).run = some r) (slot : Nat) (by_ : Option Nat) (f : Flags) :
    s.RunsTo (s.accessDone p slot by_ .ok f) p { r with flags := r.flags.or f } := by
  rw [State.accessDone, if_pos rfl]
  exact State.runsTo_runFlags hr f

theorem State.runsTo_operandAnswered (hr : (s.part p).run = some r) (hreads : 0 < r.readsOwed) (a slot : Nat) (by_ : Option Nat)
    (fl : Flags) (data : List Byte) :
    s.RunsTo (s.operandAnswered p r.id a slot by_ .ok fl data) p
      { r with readsOwed := r.readsOwed - 1, remote := r.remote ++ [(a, data)]
               flags := r.flags.or ⟨false, false, fl.degraded, fl.detoured⟩ } := by
  simp only [State.operandAnswered, hr, hreads, and_self, if_true]
  exact (s.runsTo_runs p _).trans (State.runsTo_accessDone (s.runs_run p _) _ _ _)

/-- A firing replayed at most seven times is known by the number of its pass. -/
theorem Run.pass_div (h : r.replays < 8) : r.pass / 8 = r.id := by
  rw [Run.pass]
  omega

theorem Run.answered_only {k clk : Nat} (h : tfind r.tilesOwed k = some 1) :
    r.answered k clk = { r with tilesOwed := tdel r.tilesOwed k, tilesDone := r.tilesDone ++ [k], progress := clk } := by
  simp only [Run.answered, h, lt_irrefl, if_false]

section
variable {k : Nat} (hr : (s.part p).run = some r) (hreplays : r.replays < 8) (howed : tfind r.tilesOwed k = some 1)
  (hentries : ∀ e ∈ r.entries, e.1 ≠ k)
include hr hreplays howed hentries

/-- The last response that a tile owes completes it. -/
theorem State.runsTo_tileAnswered (slot : Nat) (by_ : Option Nat) (fl : Flags) :
    s.RunsTo (s.tileAnswered p r.pass k slot by_ .ok fl) p
      { r with tilesOwed := tdel r.tilesOwed k, tilesDone := r.tilesDone ++ [k], progress := s.clk, flags := r.flags.or fl } := by
  simp only [State.tileAnswered, hr, Run.pass_div hreplays, if_true, s.releaseTile_last p k r hr hentries, Run.answered_only howed]
  exact (s.runsTo_runs p _).trans (State.runsTo_accessDone (s.runs_run p _) _ _ _)

/-- An addition answered with a saturation is remembered by its frame-table entry. -/
theorem State.runsTo_addAnswered (e : Nat) (by_ : Option Nat) (fl : Flags) :
    s.RunsTo (s.addAnswered p r.pass k e by_ .ok fl) p
      { r with tilesOwed := tdel r.tilesOwed k, tilesDone := r.tilesDone ++ [k], progress := s.clk, flags := r.flags.or fl
               ovf := if fl.tally then e :: r.ovf else r.ovf } := by
  cases hfl : fl.tally with
  | false =>
    simp only [State.addAnswered, hr, hfl, Bool.false_eq_true, and_false, if_false]
    exact State.runsTo_tileAnswered hr hreplays howed hentries 3 by_ fl
  | true =>
    simp only [State.addAnswered, hr, hfl, Run.pass_div hreplays, and_self, if_true]
    exact (s.runsTo_runs p _).trans (State.runsTo_tileAnswered (r := { r with ovf := e :: r.ovf }) (s.runs_run p _) hreplays howed
      hentries 3 by_ fl)

end

theorem State.runsTo_signalAnswered (hr : (s.part p).run = some r) (hstage : r.stage = .signals) (howed : 1 < r.signalsOwed)
    (target : Nat) : s.RunsTo (s.signalAnswered p r.id target .ok) p { r with signalsOwed := r.signalsOwed - 1 } := by
  simp only [State.signalAnswered, hr, hstage, if_true, and_self, if_neg (not_le.2 howed)]
  exact s.runsTo_runs p _

end

/-! ### Replies -/

/-- The reply `p` answers the request of slot `n` of a die, which `x` describes, with OK, and no request waits for a slot. -/
structure State.Answers (s : State) (p : Packet) (die n : Nat) (x : ReqSlot) : Prop where
  cls : p.cls = 2
  dest : p.dest = s.myId
  tail : p.tailOk = true
  slot : s.matchSlot p = some (die, n, x)
  noWait : s.slotWait = []
  status : p.status = .ok

section
variable {s : State} {p : Packet} {die n : Nat} {x : ReqSlot}

theorem State.slotAt_of_matchSlot (h : s.matchSlot p = some (die, n, x)) : s.slotAt die n = x ∧ x.busy = true := by
  simp only [State.matchSlot] at h
  split_ifs at h with hm
  obtain ⟨rfl, rfl, rfl⟩ : _ ∧ _ ∧ _ := by simpa using h
  exact ⟨rfl, hm.2.1⟩

theorem State.closeSlot_busy (hb : (s.slotAt die n).busy = true) (hw : s.slotWait = []) (by_ : Option Nat) (st : Status) (fl : Flags)
    (data : List Byte) : s.closeSlot die n by_ st fl data
      = (s.freed die n).answered (s.slotAt die n).owner (s.slotAt die n).dest by_ st fl data := by
  rw [State.closeSlot, if_pos hb, State.endSlot_of_none_waiting die n hw]

/-- The reply is delivered to its slot's holder. -/
theorem State.replyArrives_told (h : s.Answers p die n x) {op : Nat} (hop : p.opcode = op) :
    s.replyArrives op p = (s.freed die n).answered x.owner x.dest (some p.src) .ok p.flags p.data := by
  obtain ⟨hslot, hbusy⟩ := State.slotAt_of_matchSlot h.slot
  rw [State.replyArrives, if_pos ⟨hop, h.cls, h.dest⟩, State.serveReply, if_pos h.tail, State.takeReply]
  simp only [h.slot]
  rw [State.closeSlot_busy (by rw [hslot, hbusy]) h.noWait, hslot, h.status]

/-- A holder that runs on leaves the slot free and memory as it was. -/
theorem State.RunsTo.of_freed {t : State} {part : Nat} {y : Run} (h : (s.freed die n).RunsTo t part y) :
    (t.slotAt die n).busy = false ∧ (t.part part).run = some y ∧ t.mem = s.mem := by
  have hslot := s.freed_slot die n
  have hmem := s.freed_mem die n
  obtain ⟨hrun, ps, rfl⟩ := h
  exact ⟨hslot, hrun, hmem⟩

variable {part id a slot k e : Nat} {r : Run} (h : s.Answers p die n x) (hp : s.powered = true)
include h hp

section
variable (hr : (s.part part).run = some r)
include hr

theorem readData_delivers (hop : p.opcode = 0x81) (ho : x.owner = .operand part id a slot) (hid : r.id = id) (hreads : 0 < r.readsOwed) :
    ∃ t y, exec (.readData p) s = .next t ∧ (t.slotAt die n).busy = false ∧ (t.part part).run = some y
      ∧ y.readsOwed = r.readsOwed - 1 ∧ y.remote = r.remote ++ [(a, p.data)] ∧ y.fault = r.fault
      ∧ y.flags = r.flags.or ⟨false, false, p.flags.degraded, p.flags.detoured⟩ ∧ t.mem = s.mem := by
  subst hid
  have hexec : exec (.readData p) s = .next (s.replyArrives 0x81 p) := s.does_powered _ hp
  rw [State.replyArrives_told h hop, ho] at hexec
  have hr' : ((s.freed die n).part part).run = some r := by rw [State.part_of_seqs (s.freed_seqs die n), hr]
  obtain ⟨hslot, hrun, hmem⟩ := (State.runsTo_operandAnswered hr' hreads a slot (some p.src) p.flags p.data).of_freed
  exact ⟨_, _, hexec, hslot, hrun, rfl, rfl, rfl, rfl, hmem⟩

section
variable (hid : r.pass = id) (hreplays : r.replays < 8) (howed : tfind r.tilesOwed k = some 1) (hentries : ∀ e ∈ r.entries, e.1 ≠ k)
include hid hreplays howed hentries

theorem writeAck_completes (hop : p.opcode = 0x82) (ho : x.owner = .tile part id k slot) :
    ∃ t y, exec (.writeAck p) s = .next t ∧ (t.slotAt die n).busy = false ∧ (t.part part).run = some y
      ∧ y.tilesDone = r.tilesDone ++ [k] ∧ tfind y.tilesOwed k = none ∧ y.progress = s.clk ∧ y.fault = r.fault
      ∧ y.flags = r.flags.or p.flags ∧ t.mem = s.mem := by
  subst hid
  have hexec : exec (.writeAck p) s = .next (s.replyArrives 0x82 p) := s.does_powered _ hp
  rw [State.replyArrives_told h hop, ho] at hexec
  have hr' : ((s.freed die n).part part).run = some r := by rw [State.part_of_seqs (s.freed_seqs die n), hr]
  obtain ⟨hslot, hrun, hmem⟩ := (State.runsTo_tileAnswered hr' hreplays howed hentries slot (some p.src) p.flags).of_freed
  refine ⟨_, _, hexec, hslot, hrun, rfl, ?_, State.clk_of_seqs (s.freed_seqs die n), rfl, rfl, hmem⟩
  rw [tfind_tdel, if_pos rfl]

theorem atomicResult_adds (hop : p.opcode = 0x83) (ho : x.owner = .tadd part id k e) :
    ∃ t y, exec (.atomicResult p) s = .next t ∧ (t.slotAt die n).busy = false ∧ (t.part part).run = some y
      ∧ y.tilesDone = r.tilesDone ++ [k] ∧ y.ovf = (if p.flags.tally then e :: r.ovf else r.ovf)
      ∧ y.flags = r.flags.or p.flags ∧ t.mem = s.mem := by
  subst hid
  have hexec : exec (.atomicResult p) s = .next (s.replyArrives 0x83 p) := s.does_powered _ hp
  rw [State.replyArrives_told h hop, ho] at hexec
  have hr' : ((s.freed die n).part part).run = some r := by rw [State.part_of_seqs (s.freed_seqs die n), hr]
  obtain ⟨hslot, hrun, hmem⟩ := (State.runsTo_addAnswered hr' hreplays howed hentries e (some p.src) p.flags).of_freed
  exact ⟨_, _, hexec, hslot, hrun, rfl, rfl, rfl, hmem⟩

end

theorem signalAck_delivers (hop : p.opcode = 0x84) (hg : s.arbGrant.matchSlot p = some (die, n, x)) (ho : x.owner = .signal part id k)
    (hstage : r.stage = .signals) (hid : r.id = id) (howed : 1 < r.signalsOwed) :
    ∃ t y, exec (.signalAck p) s = .next t ∧ (t.slotAt die n).busy = false ∧ (t.part part).run = some y
      ∧ y.signalsOwed = r.signalsOwed - 1 ∧ t.mem = s.mem := by
  subst hid
  have hgrant : s.arbGrant.Answers p die n x :=
    ⟨h.cls, h.dest.trans (s.fld_arbGrant _ (by decide)).symm, h.tail, hg, s.arbGrant_slotWait.trans h.noWait, h.status⟩
  have hexec : exec (.signalAck p) s = .next (State.latch s (s.arbGrant.replyArrives 0x84 p)) := by
    rw [show exec (.signalAck p) s = execSignalAck p s from rfl, execSignalAck, s.granted_powered _ hp]
  rw [State.replyArrives_told hgrant hop, ho] at hexec
  have hr' : ((s.arbGrant.freed die n).part part).run = some r := by
    rw [State.part_of_seqs (s.arbGrant.freed_seqs die n), State.part_of_seqs (onlyRegs_arbGrant s).seqs, hr]
  obtain ⟨hslot, hrun, hmem⟩ := (State.runsTo_signalAnswered hr' hstage howed x.dest).of_freed
  refine ⟨_, { r with signalsOwed := r.signalsOwed - 1 }, hexec, ?_, ?_, rfl, ?_⟩
  · rw [State.slotAt, State.latch_reqSlots]
    exact hslot
  · rw [State.part, State.latch_parts]
    exact hrun
  · rw [State.latch_mem]
    exact hmem.trans s.arbGrant_mem

end

theorem atomicResult_unheld (hop : p.opcode = 0x83) (ho : x.owner = .none) :
    ∃ t, exec (.atomicResult p) s = .next t ∧ (t.slotAt die n).busy = false ∧ RegsBut s t [(Reg.rtrStoreSlotsInUse die).off]
      ∧ t = { s with regs := t.regs, reqSlots := t.reqSlots } := by
  have hexec : exec (.atomicResult p) s = .next (s.replyArrives 0x83 p) := s.does_powered _ hp
  rw [State.replyArrives_told h hop, ho] at hexec
  obtain ⟨r, t, e⟩ := s.freed_eq die n
  exact ⟨_, hexec, s.freed_slot die n, regsBut_freed s die n, by rw [State.answered, e]⟩

theorem completionAck_counts {c : Nat} (hop : p.opcode = 0x85) (ho : x.owner = .record part c) (hpart : part < 4)
    (hroom : s.pair (Reg.fsqPartFiringsLoOff part) < 2 ^ 64 - 1) :
    ∃ t, exec (.completionAck p) s = .next t ∧ (t.slotAt die n).busy = false
      ∧ t.pair (Reg.fsqPartFiringsLoOff part) = s.pair (Reg.fsqPartFiringsLoOff part) + 1 ∧ t.mem = s.mem := by
  have hexec : exec (.completionAck p) s = .next (s.replyArrives 0x85 p) := s.does_powered _ hp
  rw [State.replyArrives_told h hop, ho] at hexec
  have hregs := regsBut_freed s die n
  have hpair : (s.freed die n).pair (Reg.fsqPartFiringsLoOff part) = s.pair (Reg.fsqPartFiringsLoOff part) := by
    have hne : ∀ m, m < 8 → Reg.fsqPartFiringsLoOff part + m ∉ [(Reg.rtrStoreSlotsInUse die).off] := fun m hm => by
      simp only [Reg.fsqPartFiringsLoOff, Reg.rtrStoreSlotsInUse, List.mem_singleton]
      omega
    rw [State.pair, hregs _ (by simpa using hne 0 (by decide)), hregs _ (hne 4 (by decide)), ← State.pair]
  refine ⟨_, hexec, ?_, ?_, ?_⟩
  · exact (congrArg ReqSlot.busy (by rw [State.answered, if_pos rfl, State.countRecord, State.slotAt, State.addPair_reqSlots, State.slotAt])).trans
      (s.freed_slot die n)
  · rw [State.answered, if_pos rfl, State.countRecord, State.pair_addPair, hpair]
    omega
  · rw [State.answered, if_pos rfl, State.countRecord, State.addPair_mem, s.freed_mem]

end

/-! ### Stale replies and slots that wait too long (R277) -/

theorem readData_stale {p : Packet} {s : State} (hp : s.powered = true) (hcls : p.cls = 2) (hop : p.opcode = 0x81) (hdest : p.dest = s.myId)
    (htail : p.tailOk = true) (hslot : s.matchSlot p = none) (hroom : s.room 1 = true) :
    ∃ t, exec (.readData p) s = .next t ∧ t.fld Reg.rtrStaleRepliesCount = min (s.fld Reg.rtrStaleRepliesCount + 1) (2 ^ 32 - 1)
      ∧ t.hasEvent 0x0705 (bits p.tag 13 13) p.src p.tag (p.gen * 256 + p.seq) ∧ t.reqSlots = s.reqSlots := by
  have hexec : exec (.readData p) s = .next (s.staleReply p) := by
    rw [show exec (.readData p) s = execReadData p s from rfl, execReadData, s.does_powered _ hp, State.replyArrives,
      if_pos ⟨hop, hcls, hdest⟩, State.serveReply, if_pos htail, State.takeReply, hslot]
  refine ⟨_, hexec, ?_, ?_, ?_⟩
  · rw [State.staleReply, State.fld_ev _ _ _ _ _ _ _ (by decide) (by decide), s.fld_bump _ (by decide) (by decide)]
    rfl
  · exact State.hasEvent_ev _ _ _ _ _ _ ((State.room_of_evq (s.bump_evq _) 1).trans hroom)
  · rw [State.staleReply, State.ev_reqSlots, State.bump_reqSlots]

theorem requestTimeout_ends {die n : Nat} {s : State} (hp : s.powered = true) (hdie : die < 2) (hn : n < 8192)
    (hbusy : (s.slotAt die n).busy = true) (howner : (s.slotAt die n).owner = .none) (hwait : s.slotWait = []) (hroom : s.room 1 = true) :
    ∃ t, exec (.requestTimeout die n) s = .next t ∧ (t.slotAt die n).busy = false
      ∧ t.fld Reg.rtrTimeoutsCount = min (s.fld Reg.rtrTimeoutsCount + 1) (2 ^ 32 - 1)
      ∧ t.hasEvent 0x0706 die (s.slotAt die n).dest (n + die * 2 ^ 13) (s.slotAt die n).opcode ∧ t.mem = s.mem := by
  obtain ⟨u, hu⟩ : ∃ u, u = (s.bump Reg.rtrTimeoutsCount).ev 0x0706 die (s.slotAt die n).dest (n + die * 2 ^ 13) (s.slotAt die n).opcode :=
    ⟨_, rfl⟩
  have hcount : u.fld Reg.rtrTimeoutsCount = min (s.fld Reg.rtrTimeoutsCount + 1) (2 ^ 32 - 1) := by
    rw [hu, State.fld_ev _ _ _ _ _ _ _ (by decide) (by decide), s.fld_bump _ (by decide) (by decide)]
    rfl
  have hevent : u.hasEvent 0x0706 die (s.slotAt die n).dest (n + die * 2 ^ 13) (s.slotAt die n).opcode := by
    rw [hu]
    exact State.hasEvent_ev _ _ _ _ _ _ ((State.room_of_evq (s.bump_evq _) 1).trans hroom)
  have hslots : u.reqSlots = s.reqSlots := by rw [hu, State.ev_reqSlots, State.bump_reqSlots]
  have hslot : u.slotAt die n = s.slotAt die n := by rw [State.slotAt, hslots, State.slotAt]
  have hmem : u.mem = s.mem := by rw [hu, State.ev_mem, State.bump_mem]
  have hnone : u.slotWait = [] := by rw [hu, State.ev_slotWait, State.bump_slotWait, hwait]
  have hexec : exec (.requestTimeout die n) s = .next (u.freed die n) := by
    have e : exec (.requestTimeout die n) s = execRequestTimeout die n s := rfl
    rw [e, execRequestTimeout, s.does_powered _ hp, State.slotTimeout, if_pos ⟨hdie, hn, hbusy⟩, ← hu,
      State.closeSlot_busy (by rw [hslot, hbusy]) hnone, hslot, howner]
    rfl
  obtain ⟨r, t, e⟩ := u.freed_eq die n
  refine ⟨_, hexec, u.freed_slot die n, ?_, State.hasEvent_of_evq (by rw [e]) hevent, (u.freed_mem die n).trans hmem⟩
  rw [(regsBut_freed u die n).fld, hcount]
  simp only [Reg.rtrTimeoutsCount, Reg.rtrStoreSlotsInUse, List.mem_singleton]
  omega

/-- Settles O40: a reply by what its slot's holder does once the slot is free, a stale one and a timeout by what they count and
record. -/
theorem repliesEndRequests : Obligations.RepliesEndRequests := by
  unfold Obligations.RepliesEndRequests
  refine ⟨fun p die n x s g hp hg hcls hdest htail hslot hwait hst => ?_, fun p s hp hcls hop hdest htail hslot hroom => ?_,
    fun die n s hp hdie hn hbusy howner hwait hroom => ?_⟩
  · subst hg
    have h : s.Answers p die n x := ⟨hcls, hdest, htail, hslot, hwait, hst⟩
    refine ⟨fun part id a slot r hop ho hr hid hreads => ?_, fun part id k slot r hop ho hr hid hreplays howed hentries => ?_,
      fun part id k e r hop ho hr hid hreplays howed hentries => ?_, fun hop ho => ?_,
      fun part id k r hop hg ho hr hstage hid howed => ?_, fun part c hop ho hpart hroom => ?_⟩
    · exact readData_delivers h hp hr hop ho hid hreads
    · exact writeAck_completes h hp hr hid hreplays howed hentries hop ho
    · exact atomicResult_adds h hp hr hid hreplays howed hentries hop ho
    · exact atomicResult_unheld h hp hop ho
    · exact signalAck_delivers h hp hr hop hg ho hstage hid howed
    · exact completionAck_counts h hp hop ho hpart hroom
  · exact readData_stale hp hcls hop hdest htail hslot hroom
  · exact requestTimeout_ends hp hdie hn hbusy howner hwait hroom

end Sys2Proof.Machine
end

section
/-! A firing starts: it is chosen, its descriptor is fetched and checked, and its units are dealt to the cores (R102 to R112). -/

namespace Sys2Proof.Machine

/-! ### Selection (R104) -/

section
variable (s : State) (p c q e : Nat)

/-- The state with the status registers of a partition that runs entry `e` of a queue. -/
def State.showsRun : State :=
  ((((s.setFlag (Reg.fsqPartStatusBusy p) true).setFlag (Reg.fsqPartRunningValid p) true).setFld (Reg.fsqPartRunningEntry p) e).setFld
    (Reg.fsqPartRunningQueue p) q).setFld (Reg.fsqPartRunningContext p) c

theorem onlyRegs_showsRun : OnlyRegs s (s.showsRun p c q e) :=
  (((onlyRegs_setFld s _ _).trans (onlyRegs_setFld _ _ _)).trans (onlyRegs_setFld _ _ _)).trans
    ((onlyRegs_setFld _ _ _).trans (onlyRegs_setFld _ _ _))

theorem regsBut_showsRun : RegsBut s (s.showsRun p c q e) [Reg.fsqPartStatusOff p, Reg.fsqPartRunningOff p] :=
  have hrunning : Reg.fsqPartRunningOff p ∈ [Reg.fsqPartStatusOff p, Reg.fsqPartRunningOff p] := by simp
  (((regsBut_setFld s (Reg.fsqPartStatusBusy p) _ _ List.mem_cons_self).trans (regsBut_setFld _ (Reg.fsqPartRunningValid p) _ _ hrunning)).trans
    (regsBut_setFld _ (Reg.fsqPartRunningEntry p) _ _ hrunning)).trans
    ((regsBut_setFld _ (Reg.fsqPartRunningQueue p) _ _ hrunning).trans (regsBut_setFld _ (Reg.fsqPartRunningContext p) _ _ hrunning))

theorem State.showsRun_busy : (s.showsRun p c q e).flag (Reg.fsqPartStatusBusy p) = true := by
  have hoff : Reg.fsqPartStatusOff p ≠ Reg.fsqPartRunningOff p := by
    rw [Reg.fsqPartStatusOff, Reg.fsqPartRunningOff]
    omega
  have hkept : (s.showsRun p c q e).flag (Reg.fsqPartStatusBusy p)
      = (s.setFlag (Reg.fsqPartStatusBusy p) true).flag (Reg.fsqPartStatusBusy p) := by
    rw [State.showsRun, State.flag, State.fld_setFld_off _ (Reg.fsqPartRunningContext p) _ _ hoff,
      State.fld_setFld_off _ (Reg.fsqPartRunningQueue p) _ _ hoff, State.fld_setFld_off _ (Reg.fsqPartRunningEntry p) _ _ hoff,
      State.setFlag, State.fld_setFld_off _ (Reg.fsqPartRunningValid p) _ _ hoff, State.flag]
  rw [hkept]
  exact s.flag_setFlag _ true (Nat.zero_lt_succ 31) le_rfl

end

/-- The firing that starts at the head of a queue. -/
def State.chosen (s : State) (c q : Nat) (known : Bool) : Run :=
  { ctx := c, queue := q, entry := s.fld (Reg.fsqCtxQHeadHead c q), id := s.free, progress := s.clk, charged := known }

/-- A context charged for a firing of one of its queues. -/
def Ctx.charged (x : Ctx) (q : Nat) : Ctx := { x with credit := x.credit - 1, lastQueue := q, heads := x.heads.filter fun h => h.1 != q }

section
variable {s : State} {p c q : Nat} {x : Ctx}

/-- An idle, unfenced partition that nothing holds takes the head entry of the next ready queue of the first context with credit. -/
theorem exec_firingSelect {rest : List Nat} (hph : s.phase = .up) (hlt : p < 4) (hrun : (s.part p).run = none)
    (hf : s.fenced p = false) (hh : s.haltedNow = false) (hheld : s.flag (Reg.fsqPartStatusHeld p) = false) (hchk : s.checkHolds p = false)
    (hready : s.readyCtxs true p = c :: rest) (hx : s.ctx c = some x) (hcr : 0 < x.credit) (hq : s.nextQueue c x = some q) :
    exec (.firingSelect p) s = .next (s.startFiring p c q x) := by
  have e : exec (.firingSelect p) s = execFiringSelect p s := rfl
  have hopen : ¬ (4 ≤ p ∨ s.phase ≠ .up ∨ (s.part p).run.isSome ∨ s.fenced p ∨ s.haltedNow ∨ s.flag (Reg.fsqPartStatusHeld p)
      ∨ s.checkHolds p) := by
    simp [hph, hrun, hf, hh, hheld, hchk, hlt]
  rw [e, execFiringSelect, s.does_on _ (by simp [State.on, hph]), State.selectFiring, if_neg hopen]
  simp only [hready, hx, hcr, hq, List.find?_cons, decide_true]

/-- A choice whose descriptor is known is charged at once: the context's credit, and the places of the two round robins. -/
theorem State.charge_of_credit (hx : s.ctx c = some x) (hcr : 0 < x.credit) :
    s.charge p c q
      = (s.setCtx c (x.charged q)).setPart p { s.part p with lastCtx := c } := by
  have hspent : (x.credit == 0) = false := by simpa using hcr.ne'
  simp only [State.charge, hx, hspent, Bool.false_eq_true, if_false]
  rfl

theorem State.startFiring_known (hx : s.ctx c = some x) (hcr : 0 < x.credit) (hl : s.isLocal (s.headAddr c q x) = true) :
    ∃ t r, s.startFiring p c q x = t ∧ (t.part p).run = some r ∧ r.ctx = c ∧ r.queue = q ∧ r.stage = .fetch
      ∧ r.entry = s.fld (Reg.fsqCtxQHeadHead c q) ∧ r.fault = none ∧ t.flag (Reg.fsqPartStatusBusy p) = true
      ∧ t.ctx c = some { x with credit := x.credit - 1, lastQueue := q, heads := x.heads.filter fun h => h.1 != q }
      ∧ (t.part p).lastCtx = c ∧ (∀ d, d ≠ c → t.ctx d = s.ctx d)
      ∧ RegsBut s t [Reg.fsqPartStatusOff p, Reg.fsqPartRunningOff p]
      ∧ t = { s with regs := t.regs, ctxs := t.ctxs, parts := t.parts, free := t.free } := by
  obtain ⟨u, hu⟩ : ∃ u, u = ((s.charge p c q).fresh).setPart p { (s.charge p c q).part p with run := some (s.chosen c q true) } :=
    ⟨_, rfl⟩
  have hpart : (s.charge p c q).part p = { s.part p with lastCtx := c } := by
    rw [State.charge_of_credit hx hcr]
    exact State.part_setPart _ p _
  have hctx : ∀ d, u.ctx d = if d = c then some (x.charged q) else s.ctx d := fun d => by
    rw [hu, State.charge_of_credit hx hcr]
    exact tfind_tput _ _ _ _
  have hup : u.part p = { s.part p with lastCtx := c, run := some (s.chosen c q true) } := by
    rw [hu, State.part_setPart, hpart]
  have hframe : u = { s with ctxs := u.ctxs, parts := u.parts, free := u.free } := by
    rw [hu, State.charge_of_credit hx hcr]
    rfl
  have hstart : s.startFiring p c q x = u.showsRun p c q (s.fld (Reg.fsqCtxQHeadHead c q)) := by
    rw [hu, State.startFiring, hl]
    rfl
  have hregs : RegsBut s (u.showsRun p c q (s.fld (Reg.fsqCtxQHeadHead c q))) [Reg.fsqPartStatusOff p, Reg.fsqPartRunningOff p] :=
    RegsBut.trans (regsBut_of_regs _ (by rw [hframe])) (regsBut_showsRun u p c q _)
  have hbusy := u.showsRun_busy p c q (s.fld (Reg.fsqCtxQHeadHead c q))
  obtain ⟨regs, ht⟩ := onlyRegs_showsRun u p c q (s.fld (Reg.fsqCtxQHeadHead c q))
  refine ⟨_, s.chosen c q true, hstart, ?_, rfl, rfl, rfl, rfl, rfl, hbusy, ?_, ?_, fun d hd => ?_, hregs, ?_⟩
  · rw [ht]
    exact congrArg Sequencer.run hup
  · rw [ht]
    exact (hctx c).trans (if_pos rfl)
  · rw [ht]
    exact congrArg Sequencer.lastCtx hup
  · rw [ht]
    exact (hctx d).trans (if_neg hd)
  · rw [ht, hframe]

theorem State.startFiring_unknown (hl : s.isLocal (s.headAddr c q x) = false) (hb : s.headBytes c q x = none) :
    ∃ t r, s.startFiring p c q x = t ∧ (t.part p).run = some r ∧ r.ctx = c ∧ r.queue = q ∧ r.stage = .fetch ∧ r.charged = false
      ∧ RegsBut s t [Reg.fsqPartStatusOff p, Reg.fsqPartRunningOff p]
      ∧ t = { s with regs := t.regs, parts := t.parts, free := t.free } := by
  obtain ⟨u, hu⟩ : ∃ u, u = (s.fresh).setPart p { s.part p with run := some (s.chosen c q false) } := ⟨_, rfl⟩
  have hup : (u.part p).run = some (s.chosen c q false) := by
    rw [hu, State.part_setPart]
  have hframe : u = { s with parts := u.parts, free := u.free } := by
    rw [hu]
    rfl
  have hstart : s.startFiring p c q x = u.showsRun p c q (s.fld (Reg.fsqCtxQHeadHead c q)) := by
    rw [hu, State.startFiring, hl, hb]
    rfl
  have hregs : RegsBut s (u.showsRun p c q (s.fld (Reg.fsqCtxQHeadHead c q))) [Reg.fsqPartStatusOff p, Reg.fsqPartRunningOff p] :=
    RegsBut.trans (regsBut_of_regs _ (by rw [hframe])) (regsBut_showsRun u p c q _)
  obtain ⟨regs, ht⟩ := onlyRegs_showsRun u p c q (s.fld (Reg.fsqCtxQHeadHead c q))
  refine ⟨_, s.chosen c q false, hstart, ?_, rfl, rfl, rfl, rfl, hregs, ?_⟩
  · rw [ht]
    exact hup
  · rw [ht, hframe]

end

end Sys2Proof.Machine
end

section
/-! SUPPORT. The end of a firing: the partition is freed, the head moves on, and a status other than OK stops the queue (R102, R131,
R132). -/

namespace Sys2Proof.Machine

variable (s : State) (p : Nat) (r : Run)

/-! ### A partition freed -/

/-- From `s` to `t` the firing of a partition has ended, and nothing changed but the sequencers and the partition's status registers. -/
structure State.SeqFreed (s t : State) (p : Nat) : Prop where
  run : (t.part p).run = none
  busy : t.flag (Reg.fsqPartStatusBusy p) = false
  running : t.reg (Reg.fsqPartRunningOff p) = 0
  regs : RegsBut s t [Reg.fsqPartStatusOff p, Reg.fsqPartRunningOff p]
  frame : ∃ r ps, t = { s with regs := r, parts := ps }

/-- With no slot command held the partition is freed and nothing else follows. -/
theorem State.freeSeq_freed {s : State} {p : Nat} (h : (s.part p).held = []) : s.SeqFreed (s.freeSeq p) p := by
  obtain ⟨u, hu⟩ : ∃ u, u = s.setPart p { s.part p with run := none, held := [] } := ⟨_, rfl⟩
  have hfree : s.freeSeq p = (u.setFlag (Reg.fsqPartStatusBusy p) false).setReg (Reg.fsqPartRunningOff p) 0 := by
    simp only [State.freeSeq, h, State.each, List.foldl_nil, hu]
  have hrun : (u.part p).run = none := by rw [hu, State.part_setPart]
  have hregs : u.regs = s.regs := by rw [hu, State.setPart_regs]
  have hoff : Reg.fsqPartStatusOff p ≠ Reg.fsqPartRunningOff p := by
    rw [Reg.fsqPartStatusOff, Reg.fsqPartRunningOff]
    omega
  refine ⟨?_, ?_, ?_, ?_, ?_⟩
  · rw [hfree, State.part, State.setReg_parts, State.setFlag_parts]
    exact hrun
  · rw [hfree, State.flag, State.fld_setReg_off _ _ _ _ hoff, ← State.flag]
    exact u.flag_setFlag _ false (Nat.zero_lt_succ 31) le_rfl
  · rw [hfree, State.reg_setReg_same]
  · rw [hfree]
    intro off ho
    obtain ⟨h1, h2⟩ : off ≠ Reg.fsqPartStatusOff p ∧ off ≠ Reg.fsqPartRunningOff p := by simpa using ho
    rw [State.reg_setReg_ne _ _ _ _ h2, State.setFlag, State.reg_setFld_ne _ _ _ _ h1, State.reg, hregs, ← State.reg]
  · obtain ⟨regs, e⟩ := (onlyRegs_setFld u (Reg.fsqPartStatusBusy p) (b2n false)).trans (onlyRegs_setReg _ (Reg.fsqPartRunningOff p) 0)
    exact ⟨regs, u.parts, by rw [hfree, State.setFlag, e, hu]; rfl⟩

/-! ### The entry is done with (R102) -/

/-- The state with the head of the firing's queue past its entry. -/
def State.headMoved : State :=
  s.setFld (Reg.fsqCtxQHeadHead r.ctx r.queue)
    ((s.fld (Reg.fsqCtxQHeadHead r.ctx r.queue) + 1) % 2 ^ s.fld (Reg.fsqCtxQSizeLog2 r.ctx r.queue))

theorem State.leave_ok : s.leave p r .ok = (s.headMoved r).freeSeq p := by
  rw [State.leave, if_pos rfl, State.headMoved]

theorem State.leave_fault {st : Status} (h : st ≠ .ok) : s.leave p r st = ((s.headMoved r).stopQueue p r.ctx r.queue st).freeSeq p := by
  rw [State.leave, if_neg h, State.headMoved]

theorem onlyRegs_headMoved : OnlyRegs s (s.headMoved r) := onlyRegs_setFld s _ _

theorem regsBut_headMoved : RegsBut s (s.headMoved r) [Reg.fsqCtxQHeadOff r.ctx r.queue] := regsBut_setFld s _ _ _ List.mem_cons_self

/-- The head goes round its ring. -/
theorem State.headMoved_head (h : s.fld (Reg.fsqCtxQSizeLog2 r.ctx r.queue) ≤ 16) :
    (s.headMoved r).fld (Reg.fsqCtxQHeadHead r.ctx r.queue)
      = (s.fld (Reg.fsqCtxQHeadHead r.ctx r.queue) + 1) % 2 ^ s.fld (Reg.fsqCtxQSizeLog2 r.ctx r.queue) := by
  rw [State.headMoved, s.fld_setFld _ _ (by decide : 15 < 32) (Nat.zero_le 15)]
  refine Nat.mod_eq_of_lt ((Nat.mod_lt _ (by positivity)).trans_le ?_)
  exact Nat.pow_le_pow_right (by decide) h

/-! ### A queue stopped (R102) -/

theorem stCode_lt (st : Status) : stCode st < 2 ^ 8 := by
  cases st <;> decide

section
variable (c q : Nat) (st : Status)

/-- The state with a queue's registers stopped, before the event of that. -/
def State.queueStopped : State := (s.setFlag (Reg.fsqCtxQStateStopped c q) true).setFld (Reg.fsqCtxQStateLastStatus c q) (stCode st)

theorem onlyRegs_queueStopped : OnlyRegs s (s.queueStopped c q st) := (onlyRegs_setFld s _ _).trans (onlyRegs_setFld _ _ _)

theorem regsBut_queueStopped : RegsBut s (s.queueStopped c q st) [Reg.fsqCtxQStateOff c q] :=
  (regsBut_setFld s (Reg.fsqCtxQStateStopped c q) _ _ List.mem_cons_self).trans
    (regsBut_setFld _ (Reg.fsqCtxQStateLastStatus c q) _ _ List.mem_cons_self)

theorem State.queueStopped_stopped : (s.queueStopped c q st).flag (Reg.fsqCtxQStateStopped c q) = true := by
  have hbits : ((s.setFlag (Reg.fsqCtxQStateStopped c q) true).setFld (Reg.fsqCtxQStateLastStatus c q) (stCode st)).fld
      (Reg.fsqCtxQStateStopped c q) = (s.setFlag (Reg.fsqCtxQStateStopped c q) true).fld (Reg.fsqCtxQStateStopped c q) :=
    State.fld_setFld_bits _ _ _ _ (by decide : 15 < 32) (by decide : 8 ≤ 15) le_rfl (.inl (by decide : 0 < 8))
  rw [State.queueStopped, State.flag, hbits, ← State.flag]
  exact s.flag_setFlag _ true (Nat.zero_lt_succ 31) le_rfl

theorem State.queueStopped_status : (s.queueStopped c q st).fld (Reg.fsqCtxQStateLastStatus c q) = stCode st := by
  rw [State.queueStopped, State.fld_setFld _ _ _ (by decide : 15 < 32) (by decide : 8 ≤ 15)]
  exact Nat.mod_eq_of_lt (stCode_lt st)

theorem State.stopQueue_eq (part : Nat) : s.stopQueue part c q st = (s.queueStopped c q st).ev 0x0207 part c q (stCode st) := rfl

/-- Registers of a queue's state lie below those of the events. -/
theorem fsqCtxQState_not_mem_evRegs (hc : c < 512) (hq : q < 4) : Reg.fsqCtxQStateOff c q ∉ evRegs :=
  not_mem_evRegs (.inl (by simp only [Reg.fsqCtxQStateOff, Reg.evrDroppedCount]; omega))

end

/-! ### What is left of a firing's end -/

/-- Registers that the end of a firing changes. -/
def leftRegs : List Nat :=
  [Reg.fsqPartStatusOff p, Reg.fsqPartRunningOff p, Reg.fsqCtxQHeadOff r.ctx r.queue, Reg.fsqCtxQStateOff r.ctx r.queue] ++ evRegs

/-- From `s` to `t` the firing of a partition has ended, with no change to memory, the contexts and the groups; events recorded stay. -/
structure State.Left (s t : State) (p : Nat) (r : Run) : Prop where
  run : (t.part p).run = none
  regs : RegsBut s t (leftRegs p r)
  mem : t.mem = s.mem
  ctxs : t.ctxs = s.ctxs
  groups : t.groups = s.groups
  events : ∀ {code src p0 p1 p2}, s.hasEvent code src p0 p1 p2 → t.hasEvent code src p0 p1 p2

/-- A queue stopped by a status, with event 0x0207 (R102). -/
structure State.StoppedBy (t : State) (p : Nat) (r : Run) (st : Status) : Prop where
  stopped : t.flag (Reg.fsqCtxQStateStopped r.ctx r.queue) = true
  status : t.fld (Reg.fsqCtxQStateLastStatus r.ctx r.queue) = stCode st
  event : t.hasEvent 0x0207 p r.ctx r.queue (stCode st)

section
variable {s p r} {t : State}

theorem State.SeqFreed.left {u : State} (h : t.SeqFreed u p) (hregs : RegsBut s t (leftRegs p r)) (hmem : t.mem = s.mem)
    (hctxs : t.ctxs = s.ctxs) (hgroups : t.groups = s.groups)
    (hev : ∀ {code src p0 p1 p2}, s.hasEvent code src p0 p1 p2 → t.hasEvent code src p0 p1 p2) : s.Left u p r := by
  have hrun := h.run
  have hfreed : RegsBut t u (leftRegs p r) := h.regs.mono (by simp [leftRegs])
  obtain ⟨regs, ps, rfl⟩ := h.frame
  exact ⟨hrun, hregs.trans hfreed, hmem, hctxs, hgroups, fun he => State.hasEvent_of_evq (s := t) rfl (hev he)⟩

variable (hheld : (s.part p).held = [])
include hheld

theorem State.leave_ok_left : s.Left (s.leave p r .ok) p r := by
  have hregs : RegsBut s (s.headMoved r) (leftRegs p r) := (regsBut_headMoved s r).mono (by simp [leftRegs])
  have hfreed : (s.headMoved r).SeqFreed ((s.headMoved r).freeSeq p) p :=
    State.freeSeq_freed (by rw [State.headMoved, State.part, State.setFld_parts]; exact hheld)
  rw [State.leave_ok]
  exact hfreed.left hregs (State.setFld_mem _ _ _) (State.setFld_ctxs _ _ _) (State.setFld_groups _ _ _)
    fun he => State.hasEvent_of_evq (State.setFld_evq _ _ _) he

section
variable {st : Status} (hst : st ≠ .ok)
include hst

theorem State.leave_fault_freed :
    ((s.headMoved r).stopQueue p r.ctx r.queue st).SeqFreed (s.leave p r st) p := by
  rw [State.leave_fault s p r hst]
  refine State.freeSeq_freed ?_
  rw [State.stopQueue_eq, State.part, State.ev_parts, State.queueStopped, State.setFld_parts, State.setFlag_parts, State.headMoved,
    State.setFld_parts]
  exact hheld

theorem State.leave_fault_left : s.Left (s.leave p r st) p r := by
  obtain ⟨regs, e⟩ := (onlyRegs_headMoved s r).trans (onlyRegs_queueStopped _ r.ctx r.queue st)
  have hregs : RegsBut s (((s.headMoved r).queueStopped r.ctx r.queue st).ev 0x0207 p r.ctx r.queue (stCode st)) (leftRegs p r) :=
    (((regsBut_headMoved s r).mono (by simp [leftRegs])).trans ((regsBut_queueStopped _ _ _ st).mono (by simp [leftRegs]))).trans
      (regsBut_ev _ _ _ _ _ _ _ (List.subset_append_right _ _))
  refine (State.leave_fault_freed hheld hst).left hregs ?_ ?_ ?_ fun he => ?_
  · rw [State.stopQueue_eq, State.ev_mem, e]
  · rw [State.stopQueue_eq, State.ev_ctxs, e]
  · rw [State.stopQueue_eq, State.ev_groups, e]
  · have hbefore := State.hasEvent_of_evq (t := (s.headMoved r).queueStopped r.ctx r.queue st) (by rw [e]) he
    exact State.hasEvent_ev_of_hasEvent (h := hbefore) ..

/-- A firing that ends with a fault stops its queue, with the fault's status and event 0x0207. -/
theorem State.leave_stoppedBy (hp : p < 4) (hc : r.ctx < 512) (hq : r.queue < 4) (hroom : s.room 1 = true) : (s.leave p r st).StoppedBy p r st := by
  obtain ⟨u, hu⟩ : ∃ u, u = (s.headMoved r).queueStopped r.ctx r.queue st := ⟨_, rfl⟩
  have hstopped : u.flag (Reg.fsqCtxQStateStopped r.ctx r.queue) = true := by rw [hu, State.queueStopped_stopped]
  have hstatus : u.fld (Reg.fsqCtxQStateLastStatus r.ctx r.queue) = stCode st := by rw [hu, State.queueStopped_status]
  have hroom' : u.room 1 = true := by
    obtain ⟨regs, e⟩ := (onlyRegs_headMoved s r).trans (onlyRegs_queueStopped _ r.ctx r.queue st)
    rw [hu, e]
    exact hroom
  have hfreed := State.leave_fault_freed (r := r) hheld hst
  rw [State.stopQueue_eq, ← hu] at hfreed
  have hapart : Reg.fsqCtxQStateOff r.ctx r.queue ∉ [Reg.fsqPartStatusOff p, Reg.fsqPartRunningOff p] := by
    simp only [Reg.fsqCtxQStateOff, Reg.fsqPartStatusOff, Reg.fsqPartRunningOff, List.mem_cons, List.not_mem_nil, or_false]
    omega
  have hev := fsqCtxQState_not_mem_evRegs r.ctx r.queue hc hq
  obtain ⟨regs, ps, e⟩ := hfreed.frame
  refine ⟨?_, ?_, State.hasEvent_of_evq (by rw [e]) (State.hasEvent_ev _ _ _ _ _ _ hroom')⟩
  · rw [hfreed.regs.flag hapart, (regsBut_evRegs u _ _ _ _ _).flag hev, hstopped]
  · rw [hfreed.regs.fld hapart, (regsBut_evRegs u _ _ _ _ _).fld hev, hstatus]

end

theorem State.leave_left (st : Status) : s.Left (s.leave p r st) p r := by
  by_cases h : st = .ok
  · subst h
    exact State.leave_ok_left hheld
  · exact State.leave_fault_left hheld h

end

/-! ### The end of a firing (R123, R131) -/

section
variable {s p r} {x : Ctx} {d : Desc}

theorem State.appendTokens_of_not_attention (hfam : d.fam ≠ .attention) : s.appendTokens r d = s := by
  rw [State.appendTokens, decide_eq_false hfam]
  rfl

theorem State.signalErrors_nil (job : Nat) : s.signalErrors job [] = s := rfl

theorem State.writeRecord_none (job : Nat) (st : Status) (cycles : Nat) (hcomp : d.completion = 0) : s.writeRecord p job r d st cycles = s := by
  rw [State.writeRecord, if_pos hcomp]

variable (hx : s.ctx r.ctx = some x) (hd : r.desc = some d)
include hx hd

/-- A firing that ends OK and appends nothing leaves its queue once its record is written and its signals made, where none of them
is for another module. -/
theorem State.endFiring_ok {cycles : Nat} {u v : State} (hfam : d.fam ≠ .attention) (hu : s.writeRecord p x.job r d .ok cycles = u)
    (hhere : u.signalsHere p x.job r.ctx d.signalList = v)
    (haway : v.signalsAway p r.id x.job r.ctx d.twoPhase d.signalList = (v, 0)) : s.endFiring p r .ok cycles = v.leave p r .ok := by
  have hdesc : r.desc.getD (descOf r.bytes) = d := by rw [hd]; rfl
  simp only [State.endFiring, hx, hdesc, hu, if_true, State.appendTokens_of_not_attention hfam, hhere, haway]

/-- A firing that records and signals nothing leaves its queue at once. -/
theorem State.endFiring_leave {st : Status} (hcomp : d.completion = 0) (hsig : d.signalList = []) (hfam : st = .ok → d.fam ≠ .attention)
    (cycles : Nat) : s.endFiring p r st cycles = s.leave p r st := by
  by_cases hst : st = .ok
  · subst hst
    exact State.endFiring_ok hx hd (hfam rfl) (State.writeRecord_none _ _ _ hcomp) (by rw [hsig]; rfl) (by rw [hsig]; rfl)
  · have hdesc : r.desc.getD (descOf r.bytes) = d := by rw [hd]; rfl
    simp only [State.endFiring, hx, hdesc, State.writeRecord_none _ _ _ hcomp, if_neg hst, hsig, State.signalErrors_nil]

end

end Sys2Proof.Machine
end

section
/-! A firing's descriptor is fetched and checked (R106, R107), and its units are dealt to the cores (R111, R112). -/

namespace Sys2Proof.Machine

/-! ### Fetch (R106) -/

section
variable {s : State} {p : Nat} {r : Run} {x : Ctx} {d : Desc}

/-- Sound main memory that may be reached reads as it stands. -/
theorem State.load_sound {w : Who} {a n : Nat} (hreach : s.reachAll w false a n = .ok) (ha : a < memTop) (hs : s.sound a n = true) :
    s.load w a n = (s.burst (granules a n), .ok, s.bytes a n) := by
  obtain ⟨hbad, hfaint⟩ : s.badIn a n = [] ∧ ∀ y ∈ s.faint, (granules a n).contains y.1 = false := by
    simpa [State.sound] using hs
  have htop : ¬ sramBase ≤ a := not_le.2 (ha.trans_le (by decide))
  simp only [State.load, hreach, State.readBytes, State.readAs, if_neg htop, hbad, List.isEmpty_nil, if_true]
  rw [State.corrects_of_not_faint (s := s.burst (granules a n)) (granules a n) hfaint]

/-- The firing with its descriptor, in its checks. -/
def Run.fetched (r : Run) (bs : List Byte) : Run := { r with bytes := bs, desc := some (descOf bs), stage := .check, charged := true }

section
variable {bs : List Byte} (hcharged : r.charged = true) (hwaits : s.waitsOver x (descOf bs) = true)
  (herror : (s.runs p (r.fetched bs)).waitError x (descOf bs) = false)
include hcharged hwaits herror

/-- A firing that waits on nothing and passes the checks goes on to Resolve. -/
theorem State.checkFiring_passes (hcheck : (s.runs p (r.fetched bs)).firingCheck x (descOf bs) = none)
    (hbank : (descOf bs).fam ≠ .bank) :
    s.checkFiring p r x bs = (s.runs p (r.fetched bs)).runs p { r.fetched bs with stage := .resolve } := by
  rw [State.runs, Run.fetched] at herror hcheck
  simp only [State.checkFiring, hwaits, not_true_eq_false, if_false, hcharged, if_true, herror, hcheck, hbank, false_and, Bool.false_eq_true]
  rfl

/-- One that fails a check is refused. -/
theorem State.checkFiring_refused {f : Fail} (hcheck : (s.runs p (r.fetched bs)).firingCheck x (descOf bs) = some f) :
    s.checkFiring p r x bs = (s.runs p (r.fetched bs)).failCheck p (r.fetched bs) f := by
  rw [State.runs, Run.fetched] at herror hcheck
  simp only [State.checkFiring, hwaits, not_true_eq_false, if_false, hcharged, if_true, herror, hcheck, Bool.false_eq_true]
  rfl

end

/-- A running firing, charged for, whose descriptor lies at a local address that can be read and waits on nothing. -/
structure State.Fetches (s : State) (p a : Nat) (r : Run) (x : Ctx) : Prop where
  powered : s.powered = true
  run : (s.part p).run = some r
  stage : r.stage = .fetch
  charged : r.charged = true
  ctx : s.ctx r.ctx = some x
  addr : s.headAddr r.ctx r.queue x % 2 ^ 48 = a
  here : s.isLocal (s.headAddr r.ctx r.queue x) = true
  reach : s.reachAll (.firing x.job) false a 256 = .ok
  lt : a < memTop
  sound : s.sound a 256 = true
  waits : s.waitsOver x (descOf (s.bytes a 256)) = true
  error : s.waitError x (descOf (s.bytes a 256)) = false

/-- The state once the descriptor of a running firing has been read. -/
def State.fetches (s : State) (p : Nat) (r : Run) (a : Nat) : State :=
  (s.burst (granules a 256)).runs p (r.fetched (s.bytes a 256))

theorem State.fetches_firingCheck (a : Nat) (y : Ctx) (d : Desc) : (s.fetches p r a).firingCheck y d = s.firingCheck y d := rfl

theorem State.fetches_waitError (a : Nat) (y : Ctx) (d : Desc) : (s.fetches p r a).waitError y d = s.waitError y d := rfl

section
variable {a : Nat} (h : s.Fetches p a r x)
include h

theorem exec_fetchDone_none :
    exec (.fetchDone p none) s = .next ((s.burst (granules a 256)).checkFiring p r x (s.bytes a 256)) := by
  have e : exec (.fetchDone p none) s = execFetchDone p none s := rfl
  have hstage : ¬ r.stage ≠ .fetch := not_not.2 h.stage
  rw [e, execFetchDone, s.does_powered _ h.powered]
  simp only [State.fetchDone, h.run, h.ctx, if_neg hstage, h.here, if_true, h.addr, State.load_sound h.reach h.lt h.sound]

theorem fetchDone_passes (hcheck : s.firingCheck x (descOf (s.bytes a 256)) = none) (hbank : (descOf (s.bytes a 256)).fam ≠ .bank) :
    ∃ t, exec (.fetchDone p none) s = .next t
      ∧ (t.part p).run = some { r with bytes := s.bytes a 256, desc := some (descOf (s.bytes a 256)), stage := .resolve }
      ∧ t = { s with parts := t.parts, bursts := t.bursts } := by
  have herror := (State.fetches_waitError (s := s) (p := p) (r := r) a x _).trans h.error
  have hcheck' := (State.fetches_firingCheck (s := s) (p := p) (r := r) a x _).trans hcheck
  refine ⟨_, (exec_fetchDone_none h).trans (congrArg _ (State.checkFiring_passes h.charged h.waits herror hcheck' hbank)), ?_, rfl⟩
  rw [State.runs_run, Run.fetched, ← h.charged]

end

/-! ### A failed check (R107) -/

/-- The state once a failed check has been counted, with event 0x0203. -/
def State.refusalNoted (s : State) (p : Nat) (r : Run) (st : Status) : State :=
  ((s.bump (Reg.fsqPartRefusedCount p)).ev 0x0203 p r.ctx r.qe (stCode st)).fresh

/-- The counter of refused firings lies apart from the registers that a firing's end changes. -/
theorem fsqPartRefused_not_mem_leftRegs (hp : p < 4) : Reg.fsqPartRefusedOff p ∉ leftRegs p r := by
  have hev : Reg.fsqPartRefusedOff p ∉ evRegs := not_mem_evRegs (.inl (by simp only [Reg.fsqPartRefusedOff, Reg.evrDroppedCount]; omega))
  rw [leftRegs, List.mem_append, not_or]
  refine ⟨?_, hev⟩
  simp only [List.mem_cons, List.not_mem_nil, or_false, Reg.fsqPartRefusedOff, Reg.fsqPartStatusOff, Reg.fsqPartRunningOff,
    Reg.fsqCtxQHeadOff, Reg.fsqCtxQStateOff]
  omega

/-- A refused firing that records and signals nothing is counted, and its queue stops with the check's status. -/
theorem State.failCheck_stops {f : Fail} (hx : s.ctx r.ctx = some x) (hd : r.desc = some d) (hst : f.status ≠ .ok)
    (hcomp : d.completion = 0) (hsig : d.signalList = []) (hheld : (s.part p).held = []) (hp : p < 4) (hc : r.ctx < 512)
    (hq : r.queue < 4) (hroom : s.room 2 = true) :
    ((s.failCheck p r f).part p).run = none
      ∧ (s.failCheck p r f).fld (Reg.fsqPartRefusedCount p) = min (s.fld (Reg.fsqPartRefusedCount p) + 1) (2 ^ 32 - 1)
      ∧ (s.failCheck p r f).hasEvent 0x0203 p r.ctx r.qe (stCode f.status)
      ∧ (s.failCheck p r f).flag (Reg.fsqCtxQStateStopped r.ctx r.queue) = true
      ∧ (s.failCheck p r f).fld (Reg.fsqCtxQStateLastStatus r.ctx r.queue) = stCode f.status ∧ (s.failCheck p r f).mem = s.mem := by
  obtain ⟨y, hy⟩ : ∃ y, y = { r with fault := some { status := f.status, slot := f.slot, check := f.check } } := ⟨_, rfl⟩
  obtain ⟨u, hu⟩ : ∃ u, u = s.refusalNoted p r f.status := ⟨_, rfl⟩
  have hbump : (s.bump (Reg.fsqPartRefusedCount p)).room 2 = true := (State.room_of_evq (s.bump_evq _) 2).trans hroom
  have hcount : u.fld (Reg.fsqPartRefusedCount p) = min (s.fld (Reg.fsqPartRefusedCount p) + 1) (2 ^ 32 - 1) := by
    have hoff : Reg.fsqPartRefusedOff p ∉ evRegs := fun hm => fsqPartRefused_not_mem_leftRegs (r := r) hp (List.mem_append_right _ hm)
    rw [hu, State.refusalNoted, State.fresh_fld, (regsBut_evRegs _ _ _ _ _ _).fld hoff,
      s.fld_bump _ (by decide : 31 < 32) (Nat.zero_le 31)]
    rfl
  have hevent : u.hasEvent 0x0203 p r.ctx r.qe (stCode f.status) := by
    rw [hu]
    exact State.hasEvent_of_evq (State.fresh_evq _) (State.hasEvent_ev _ _ _ _ _ _ (State.room_mono _ (by decide : 1 ≤ 2) hbump))
  have hroom' : u.room 1 = true := by
    rw [hu]
    exact (State.room_of_evq (State.fresh_evq _) 1).trans (State.room_ev _ _ _ _ _ _ _ hbump)
  have hparts : u.parts = s.parts := by rw [hu, State.refusalNoted, State.fresh_parts, State.ev_parts, State.bump_parts]
  have hctxs : u.ctxs = s.ctxs := by rw [hu, State.refusalNoted, State.fresh_ctxs, State.ev_ctxs, State.bump_ctxs]
  have hmem : u.mem = s.mem := by rw [hu, State.refusalNoted, State.fresh_mem, State.ev_mem, State.bump_mem]
  have hheld' : (u.part p).held = [] := by rw [State.part, hparts]; exact hheld
  have hctx : u.ctx y.ctx = some x := by rw [State.ctx, hctxs, hy]; exact hx
  have hleave : s.failCheck p r f = u.leave p y f.status := by
    rw [← State.endFiring_leave hctx (by rw [hy]; exact hd) hcomp hsig (fun e => absurd e hst), hu, hy]
    rfl
  have hleft : u.Left (u.leave p y f.status) p y := State.leave_left hheld' f.status
  have hstop : (u.leave p y f.status).StoppedBy p y f.status :=
    State.leave_stoppedBy hheld' hst hp (by rw [hy]; exact hc) (by rw [hy]; exact hq) hroom'
  have hoff : Reg.fsqPartRefusedOff p ∉ leftRegs p y := by rw [hy]; exact fsqPartRefused_not_mem_leftRegs hp
  rw [hleave]
  refine ⟨hleft.run, (hleft.regs.fld hoff).trans hcount, hleft.events hevent, ?_, ?_, hleft.mem.trans hmem⟩
  · have := hstop.stopped
    rwa [hy] at this ⊢
  · have := hstop.status
    rwa [hy] at this ⊢

theorem fetchDone_refused {a : Nat} {f : Fail} (h : s.Fetches p a r x) (hd : descOf (s.bytes a 256) = d)
    (hcheck : s.firingCheck x d = some f) (hst : f.status ≠ .ok) (hcomp : d.completion = 0) (hsig : d.signalList = [])
    (hheld : (s.part p).held = []) (hp : p < 4) (hc : r.ctx < 512) (hq : r.queue < 4) (hroom : s.room 2 = true) :
    ∃ t, exec (.fetchDone p none) s = .next t ∧ (t.part p).run = none
      ∧ t.fld (Reg.fsqPartRefusedCount p) = min (s.fld (Reg.fsqPartRefusedCount p) + 1) (2 ^ 32 - 1)
      ∧ t.hasEvent 0x0203 p r.ctx r.qe (stCode f.status) ∧ t.flag (Reg.fsqCtxQStateStopped r.ctx r.queue) = true
      ∧ t.fld (Reg.fsqCtxQStateLastStatus r.ctx r.queue) = stCode f.status ∧ t.mem = s.mem := by
  subst hd
  have herror := (State.fetches_waitError (s := s) (p := p) (r := r) a x _).trans h.error
  have hcheck' := (State.fetches_firingCheck (s := s) (p := p) (r := r) a x _).trans hcheck
  have hwaits : (s.burst (granules a 256)).waitsOver x (descOf (s.bytes a 256)) = true := h.waits
  have hexec : exec (.fetchDone p none) s = .next ((s.fetches p r a).failCheck p (r.fetched (s.bytes a 256)) f) := by
    rw [exec_fetchDone_none h, State.checkFiring_refused h.charged hwaits herror hcheck', State.fetches]
  obtain ⟨u, hu⟩ : ∃ u, u = s.fetches p r a := ⟨_, rfl⟩
  obtain ⟨y, hy⟩ : ∃ y, y = r.fetched (s.bytes a 256) := ⟨_, rfl⟩
  obtain ⟨bs, ps, hframe⟩ : ∃ bs ps, u = { s with bursts := bs, parts := ps } := ⟨_, _, hu⟩
  have hheld' : (u.part p).held = [] := by
    rw [hu, State.fetches, State.runs, State.part_setPart]
    exact hheld
  have hctx : y.ctx = r.ctx := by rw [hy]; rfl
  have hqueue : y.queue = r.queue := by rw [hy]; rfl
  have hqe : y.qe = r.qe := by rw [hy]; rfl
  have hfld : u.fld (Reg.fsqPartRefusedCount p) = s.fld (Reg.fsqPartRefusedCount p) := by rw [hframe]; rfl
  have hmem : u.mem = s.mem := by rw [hframe]
  have hstops := State.failCheck_stops (s := u) (r := y) (f := f) (x := x) (by rw [State.ctx, hframe, hctx]; exact h.ctx)
    (by rw [hy]; rfl) hst hcomp hsig hheld' hp (by rw [hctx]; exact hc) (by rw [hqueue]; exact hq)
    ((State.room_of_evq (by rw [hframe]) 2).trans hroom)
  rw [← hu, ← hy] at hexec
  rw [hctx, hqueue, hqe, hfld, hmem] at hstops
  exact ⟨_, hexec, hstops⟩

end

/-! ### Resolve and Tile (R108, R111, R112) -/

section
variable {s : State} {p : Nat} {r : Run} {x : Ctx} {d : Desc} {e : Env}

theorem State.resolveSlot_local {o : Slot} (h : o.rank = false) (job : Nat) : s.resolveSlot job o = some o := by
  rw [State.resolveSlot, if_pos (.inr (by simp [h]))]

theorem State.resolveSignals_local (job : Nat) (sigs : List Nat) (h : ∀ v ∈ sigs, bit v 13 = false) :
    s.resolveSignals job sigs = some sigs := by
  rw [State.resolveSignals]
  induction sigs with
  | nil => rfl
  | cons v vs ih =>
    have hv : bit v 13 = false := h v List.mem_cons_self
    rw [List.mapM_cons, hv, Bool.and_false, ih fun w hw => h w (List.mem_cons_of_mem _ hw)]
    rfl

/-- With every operand on this module no read is issued. -/
theorem State.readAway_local (job : Nat) (h : ∀ y ∈ readRanges d r.env, 0 < y.2.2 → s.isLocal y.2.1 = true) :
    s.readAway p job r d = s.runs p r := by
  have hnone : ((readRanges d r.env).filter fun x => 0 < x.2.2 && ! s.isLocal x.2.1) = [] :=
    List.filter_eq_nil_iff.2 fun y hy => by
      by_cases h0 : 0 < y.2.2
      · simp [h y hy h0]
      · simp [h0]
  rw [State.readAway, hnone]
  rfl

/-- The firing with its units dealt to the cores of its partition. -/
def State.tiled (s : State) (p : Nat) (r : Run) (d : Desc) : Run :=
  { r with units := unitsPerTile d r.env (s.cores p), owners := s.dealt p (unitsPerTile d r.env (s.cores p))
           stage := if d.framed then .framePass else .main, progress := s.clk
           flags := { r.flags with degraded := r.flags.degraded || s.holes p != 0 } }

/-- The units of a firing with a core to run on go to the live cores. -/
theorem State.tileFiring_deals (hlive : s.live p ≠ []) (hs : d.fam ≠ .signal) (hb : d.fam ≠ .bank)
    (h : ∀ y ∈ readRanges d r.env, 0 < y.2.2 → s.isLocal y.2.1 = true) :
    s.tileFiring p r x d = ((s.runs p r).dealOut p (s.tiled p r d).owners []).runs p (s.tiled p r d) := by
  obtain ⟨u, hu⟩ : ∃ u, u = s.runs p r := ⟨_, rfl⟩
  have hulive : (u.live p).isEmpty = false := by
    rw [hu, show (s.runs p r).live p = s.live p from rfl]
    simpa using hlive
  have haway : (u.dealOut p (s.tiled p r d).owners []).readAway p x.job (s.tiled p r d) d
      = (u.dealOut p (s.tiled p r d).owners []).runs p (s.tiled p r d) :=
    State.readAway_local x.job (by rw [hu]; exact h)
  rw [← hu, ← haway, State.tileFiring, ← State.runs, ← hu]
  simp only [hulive, Bool.false_eq_true, if_false]
  cases hfam : d.fam
  case signal => exact absurd hfam hs
  case bank => exact absurd hfam hb
  all_goals
    rw [hu]
    rfl

theorem resolveDone_deals (hp : s.powered = true) (hr : (s.part p).run = some r) (hstage : r.stage = .resolve)
    (hx : s.ctx r.ctx = some x) (hd : r.desc = some d) (hslots : ∀ o ∈ d.slots, o.rank = false)
    (hsigs : ∀ v ∈ d.signals, bit v 13 = false) (ha : d.fam ≠ .attention) (hs : d.fam ≠ .signal) (hb : d.fam ≠ .bank)
    (he : e = ⟨x.p.seed, [], s.free⟩) (hlive : s.live p ≠ []) (h : ∀ y ∈ readRanges d e, 0 < y.2.2 → s.isLocal y.2.1 = true) :
    ∃ t, exec (.resolveDone p []) s = .next t ∧ (t.part p).run = some (s.tiled p { r with env := e } d)
      ∧ t = { s with parts := t.parts, coreParts := t.coreParts, free := t.free } := by
  have hdesc : r.desc.getD (descOf r.bytes) = d := by rw [hd]; rfl
  have hslot : d.slots.map (s.resolveSlot x.job) = d.slots.map some :=
    List.map_congr_left fun o ho => State.resolveSlot_local (hslots o ho) x.job
  have hfind : (List.range 4).find? (fun i => ((d.slots.map some).getD i (some {})).isNone) = none := by
    refine List.find?_eq_none.2 fun i _ => ?_
    simp only [List.getD_eq_getElem?_getD, List.getElem?_map]
    cases d.slots[i]? <;> simp
  have hback : (d.slots.map some).map (fun o => o.getD {}) = d.slots := by simp
  have hstage' : ¬ r.stage ≠ .resolve := not_not.2 hstage
  have hself : { r with desc := some d, env := e } = { r with env := e } := by rw [← hd]
  have hexec : exec (.resolveDone p []) s = .next (s.fresh.tileFiring p { r with env := e } x d) := by
    rw [show exec (.resolveDone p []) s = execResolveDone p [] s from rfl, execResolveDone, s.does_powered _ hp]
    simp only [State.resolveDone, hr, hx, if_neg hstage', if_false, hdesc, hslot, hfind,
      State.resolveSignals_local x.job d.signals hsigs, hback, ha, ← he]
    exact congrArg (fun y => Host.Outcome.next (s.fresh.tileFiring p y x d)) hself
  rw [State.tileFiring_deals (s := s.fresh) hlive hs hb h] at hexec
  exact ⟨_, hexec, State.runs_run _ _ _, rfl⟩

end

/-- Settles O41: a firing chosen, one fetched by the outcome of its checks, and one resolved with every operand here. -/
theorem firingsStart : Obligations.FiringsStart := by
  unfold Obligations.FiringsStart
  refine ⟨fun p c q rest x s hph hp hrun hf hh hheld hchk hready hx hcr hq => ?_,
    fun p a r x d s hp hr hstage hch hx ha hl hreach hlt hsound hd hwaits herr => ?_,
    fun p r x d e s hp hr hstage hx hd hslots hsigs hatt hsignal hbank he hlive hlocal => ?_⟩
  · have hexec := exec_firingSelect hph hp hrun hf hh hheld hchk hready hx hcr hq
    refine ⟨fun hl => ?_, fun hl hb => ?_⟩
    · obtain ⟨t, r, ht, h⟩ := State.startFiring_known (p := p) hx hcr hl
      exact ⟨t, r, ht ▸ hexec, h⟩
    · obtain ⟨t, r, ht, h⟩ := State.startFiring_unknown (p := p) hl hb
      exact ⟨t, r, ht ▸ hexec, h⟩
  · subst ha hd
    have h : s.Fetches p (s.headAddr r.ctx r.queue x % 2 ^ 48) r x :=
      ⟨hp, hr, hstage, hch, hx, rfl, hl, hreach, hlt, hsound, hwaits, herr⟩
    exact ⟨fetchDone_passes h, fun f hf hst hcomp hsig hheld hp4 hc hq hroom =>
      fetchDone_refused h rfl hf hst hcomp hsig hheld hp4 hc hq hroom⟩
  · subst he
    exact resolveDone_deals hp hr hstage hx hd hslots hsigs hatt hsignal hbank rfl hlive hlocal

end Sys2Proof.Machine
end

section
/-! A firing completes or ends with a fault: its record, its signals and its queue (R102, R123, R131, R132, R158). -/

namespace Sys2Proof.Machine

/-! ### Memory (R158) -/

theorem Memory.read_write_same (m : Memory) (a : Nat) (bs : List Byte) : Memory.read (Memory.write m a bs) a bs.length = bs := by
  induction bs generalizing m a with
  | nil => rfl
  | cons x bs ih =>
    have hhead : Memory.byte (Memory.write m a (x :: bs)) a = x := by
      simpa using Memory.byte_write_add m a 0 (x :: bs) (Nat.succ_pos _)
    rw [List.length_cons, Memory.read, hhead, Memory.write, ih]

theorem runRecord_length (s : State) (p : Nat) (r : Run) (st : Status) (cycles : Nat) : (s.runRecord p r st cycles).length = 32 := by
  simp only [State.runRecord, recordBytes, List.length_append, natLe_length]

section
variable {s : State} {w : Who} {a : Nat}

/-- With no rick formed, what may be written in a block of 32 bytes may be written in all of it. -/
theorem State.reach_of_block {b : Nat} (hrick : s.rickOn = false) (ha : a < memTop) (hb : b < memTop) (h : b / 32 = a / 32)
    (write : Bool) : s.reach w write b = s.reach w write a := by
  have hregion : regionOf b = regionOf a := by
    simp only [regionOf, regionSize]
    omega
  have hlow : (b < 2 ^ 28) = (a < 2 ^ 28) := propext (by omega)
  have hrights : s.rights w write b = s.rights w write a := by simp only [State.rights, hregion, hlow]
  have hlog : ∀ c, s.inLog c = false := fun c => by simp only [State.inLog, hrick, Bool.false_and]
  have hunit : ∀ c, s.unitAt c = none := fun c => by simp only [State.unitAt, hrick, Bool.false_and, Bool.false_eq_true, if_false]
  simp only [State.reach, mapped, ha, hb, decide_true, if_true, hrights, hlog, hunit]

/-- A record to sound memory of the job is stored. -/
theorem State.serve_record {rec_ : List Byte} (hlen : rec_.length = 32) (halign : a % 32 = 0) (ha : a < memTop)
    (hreach : s.reach w true a = .ok) (hrick : s.rickOn = false) (hsound : s.sound a 32 = true) :
    (s.serve w a (.record rec_)).2.status = .ok ∧ MemStored s (s.serve w a (.record rec_)).1 a rec_ := by
  have htop : a + 32 ≤ memTop := by
    simp only [memTop] at ha ⊢
    omega
  have hw : s.Writable w a rec_.length := by
    rw [hlen]
    refine ⟨htop, hrick, hsound, fun b hlo hhi => ?_⟩
    rw [State.reach_of_block hrick ha (hhi.trans_le htop) (by omega), hreach]
  obtain ⟨hok, hst⟩ := State.writeBytes_writable hw
  have hserve : s.serve w a (.record rec_) = ((s.writeBytes a rec_).1, ⟨(s.writeBytes a rec_).2, {}, []⟩) := by
    have hform : ¬ (a % 32 ≠ 0 ∨ rec_.length ≠ 32) := by simp [halign, hlen]
    have hmapped : mapped a = true := by simpa [mapped] using ha
    simp only [State.serve, if_neg hform, hmapped, if_true, hreach, State.logFirst_of_no_rick hrick]
  rw [hserve]
  exact ⟨hok, hst⟩

end

/-! ### What the end of a firing leaves -/

section
variable {s t : State} {p : Nat} {r : Run}

theorem not_mem_leftRegs {off : Nat} (hp : p < 4) (hc : r.ctx < 512) (hq : r.queue < 4)
    (h : (0x20108 + 0x40 * p ≤ off ∧ off < 0x2011C + 0x40 * p) ∨ (0x29000 ≤ off ∧ off < 0x1A0000)) : off ∉ leftRegs p r := by
  have hev : off ∉ evRegs := not_mem_evRegs (.inl (by simp only [Reg.evrDroppedCount]; omega))
  rw [leftRegs, List.mem_append, not_or]
  refine ⟨?_, hev⟩
  simp only [List.mem_cons, List.not_mem_nil, or_false, Reg.fsqPartStatusOff, Reg.fsqPartRunningOff, Reg.fsqCtxQHeadOff,
    Reg.fsqCtxQStateOff]
  omega

theorem State.Left.latch (h : s.Left t p r) (old : State) : s.Left (State.latch old t) p r := by
  obtain ⟨l, n, e⟩ := t.latch_eq old
  refine ⟨?_, h.regs.latch old, ?_, ?_, ?_, fun he => State.hasEvent_of_evq (by rw [e]) (h.events he)⟩
  · rw [e]
    exact h.run
  · rw [e]
    exact h.mem
  · rw [e]
    exact h.ctxs
  · rw [e]
    exact h.groups

theorem State.StoppedBy.latch {st : Status} (h : t.StoppedBy p r st) (old : State) : (State.latch old t).StoppedBy p r st := by
  obtain ⟨l, n, e⟩ := t.latch_eq old
  refine ⟨?_, ?_, State.hasEvent_of_evq (by rw [e]) h.event⟩
  · rw [e]
    exact h.stopped
  · rw [e]
    exact h.status

end

/-! ### Signals to this module (R123) -/

section
variable {s v : State} {n inc : Nat}

theorem State.signal_owned {c : Nat} {y : Ctx} (hn : n < 4096) (howner : s.counterOwner n = some (c, y))
    (hfence : s.fenced y.p.partition = false) : s.signal n inc (some y.job) = (s.setSync n (s.sync n + inc), .ok) := by
  rw [State.signal, if_neg (not_le.2 hn)]
  simp only [howner, ne_eq, not_true_eq_false, if_false, hfence, Bool.false_eq_true]

theorem State.signalsHere_one {p job c : Nat} (h : s.signal n inc (some job) = (v, .ok)) :
    s.signalsHere p job c [(n, false, s.myId, inc)] = v := by
  rw [State.signalsHere, State.each, List.foldl_cons, List.foldl_nil, State.signalTarget, if_neg Bool.false_ne_true, if_pos rfl, h]
  rfl

theorem State.signalsAway_here {p id job c : Nat} {two : Bool} : s.signalsAway p id job c two [(n, false, s.myId, inc)] = (s, 0) := by
  rw [State.signalsAway]
  exact if_pos rfl

end

/-! ### A firing that may end -/

/-- A partition runs a firing of context `x` and descriptor `d` that appends to no slot, and holds no slot command. -/
structure State.MayEnd (s : State) (p : Nat) (r : Run) (x : Ctx) (d : Desc) : Prop where
  lt : p < 4
  run : (s.part p).run = some r
  ctx : s.ctx r.ctx = some x
  ctxLt : r.ctx < 512
  queueLt : r.queue < 4
  desc : r.desc = some d
  fam : d.fam ≠ .attention
  held : (s.part p).held = []

section
variable {s t : State} {p cycles : Nat} {r : Run} {x : Ctx} {d : Desc} (h : s.MayEnd p r x d)
include h

theorem State.MayEnd.frame (hparts : t.parts = s.parts) (hctxs : t.ctxs = s.ctxs) : t.MayEnd p r x d := by
  have hpart : t.part p = s.part p := by rw [State.part, hparts, State.part]
  have hctx : t.ctx r.ctx = s.ctx r.ctx := by rw [State.ctx, hctxs, State.ctx]
  exact ⟨h.lt, hpart ▸ h.run, hctx ▸ h.ctx, h.ctxLt, h.queueLt, h.desc, h.fam, hpart ▸ h.held⟩

theorem State.MayEnd.arbGrant : s.arbGrant.MayEnd p r x d := h.frame s.arbGrant_parts s.arbGrant_ctxs

theorem State.MayEnd.not_mem {off : Nat}
    (ho : (0x20108 + 0x40 * p ≤ off ∧ off < 0x2011C + 0x40 * p) ∨ (0x29000 ≤ off ∧ off < 0x1A0000)) : off ∉ leftRegs p r :=
  not_mem_leftRegs h.lt h.ctxLt h.queueLt ho

section
variable (hp : s.powered = true)
include hp

theorem exec_firingComplete_over (hf : r.fault = none) (hover : r.over = true) :
    exec (.firingComplete p cycles) s = .next (State.latch s (s.arbGrant.endFiring p r .ok cycles)) := by
  rw [show exec (.firingComplete p cycles) s = execFiringComplete p cycles s from rfl, execFiringComplete, s.granted_powered _ hp]
  simp only [State.firingComplete, h.arbGrant.run, hf, hover, if_true]

theorem exec_firingComplete_fault {f : FireFault} (hf : r.fault = some f) (hstage : r.stage = .main) (howed : r.tilesOwed = [])
    (hstray : r.strayOwed = 0) :
    exec (.firingComplete p cycles) s = .next (State.latch s (s.arbGrant.endFiring p r f.status cycles)) := by
  have hends : ¬ (r.stage = .signals ∨ r.stage = .fetch ∨ ¬ r.tilesOwed.isEmpty ∨ 0 < r.strayOwed) := by
    simp [hstage, howed, hstray]
  rw [show exec (.firingComplete p cycles) s = execFiringComplete p cycles s from rfl, execFiringComplete, s.granted_powered _ hp]
  simp only [State.firingComplete, h.arbGrant.run, hf, if_neg hends]

/-- A firing that records and signals nothing: its partition is free and its queue's head moves on. -/
theorem firingComplete_leaves (hf : r.fault = none) (hover : r.over = true) (hsig : d.signalList = []) (hcomp : d.completion = 0)
    (hsize : s.fld (Reg.fsqCtxQSizeLog2 r.ctx r.queue) ≤ 16) :
    ∃ t, exec (.firingComplete p cycles) s = .next t ∧ (t.part p).run = none ∧ t.flag (Reg.fsqPartStatusBusy p) = false
      ∧ t.reg (Reg.fsqPartRunningOff p) = 0
      ∧ t.fld (Reg.fsqCtxQHeadHead r.ctx r.queue)
          = (s.fld (Reg.fsqCtxQHeadHead r.ctx r.queue) + 1) % 2 ^ s.fld (Reg.fsqCtxQSizeLog2 r.ctx r.queue)
      ∧ RegsBut s t (grantRegs ++ [Reg.fsqPartStatusOff p, Reg.fsqPartRunningOff p, Reg.fsqCtxQHeadOff r.ctx r.queue])
      ∧ t = { s with regs := t.regs, parts := t.parts, latches := t.latches, outSeq := t.outSeq } := by
  have hlt := h.lt
  have hc := h.ctxLt
  have hq := h.queueLt
  obtain ⟨g, hg⟩ : ∃ g, g = s.arbGrant := ⟨_, rfl⟩
  have hgm : g.MayEnd p r x d := hg ▸ h.arbGrant
  have hexec := exec_firingComplete_over (cycles := cycles) h hp hf hover
  rw [← hg, State.endFiring_leave hgm.ctx hgm.desc hcomp hsig fun _ => h.fam, State.leave_ok] at hexec
  obtain ⟨u, hu⟩ : ∃ u, u = (g.headMoved r).freeSeq p := ⟨_, rfl⟩
  have hfreed : (g.headMoved r).SeqFreed u p := by
    rw [hu]
    exact State.freeSeq_freed (by rw [State.headMoved, State.part, State.setFld_parts]; exact hgm.held)
  have hgrant : ∀ f : Fld, 0x21000 ≤ f.off → f.off < 0x29000 → g.fld f = s.fld f := fun f hlo hhi => by
    rw [hg]
    exact (regsBut_arbGrant s).fld (not_mem_grantRegs (.inr (by simp only [Reg.ctlGrantsLoOff]; omega)))
  have hsizeg := hgrant (Reg.fsqCtxQSizeLog2 r.ctx r.queue) (by simp only [Reg.fsqCtxQSizeLog2]; omega)
    (by simp only [Reg.fsqCtxQSizeLog2]; omega)
  have hheadg := hgrant (Reg.fsqCtxQHeadHead r.ctx r.queue) (by simp only [Reg.fsqCtxQHeadHead]; omega)
    (by simp only [Reg.fsqCtxQHeadHead]; omega)
  have hapart : (Reg.fsqCtxQHeadHead r.ctx r.queue).off ∉ [Reg.fsqPartStatusOff p, Reg.fsqPartRunningOff p] := by
    simp only [Reg.fsqCtxQHeadHead, Reg.fsqPartStatusOff, Reg.fsqPartRunningOff, List.mem_cons, List.not_mem_nil, or_false]
    omega
  have hhead : u.fld (Reg.fsqCtxQHeadHead r.ctx r.queue)
      = (s.fld (Reg.fsqCtxQHeadHead r.ctx r.queue) + 1) % 2 ^ s.fld (Reg.fsqCtxQSizeLog2 r.ctx r.queue) := by
    rw [hfreed.regs.fld hapart, g.headMoved_head r (hsizeg.trans_le hsize), hheadg, hsizeg]
  have hregs : RegsBut g u [Reg.fsqPartStatusOff p, Reg.fsqPartRunningOff p, Reg.fsqCtxQHeadOff r.ctx r.queue] :=
    ((regsBut_headMoved g r).mono (by simp)).trans (hfreed.regs.mono (by simp))
  have hrun := hfreed.run
  have hbusy := hfreed.busy
  have hrunning := hfreed.running
  obtain ⟨regs, ps, hframe⟩ := hfreed.frame
  obtain ⟨regs', hmoved⟩ := (hg ▸ onlyRegs_arbGrant s : OnlyRegs s g).trans (onlyRegs_headMoved g r)
  rw [← hu] at hexec
  obtain ⟨l, n, hlatch⟩ := u.latch_eq s
  refine ⟨_, hexec, ?_, ?_, ?_, ?_, RegsBut.granted (hg ▸ hregs), ?_⟩
  · rw [hlatch]
    exact hrun
  · rw [hlatch]
    exact hbusy
  · rw [hlatch]
    exact hrunning
  · rw [hlatch]
    exact hhead
  · rw [hlatch, hframe, hmoved]

/-- One that asks for a record in sound memory of its job writes it and counts it. -/
theorem firingComplete_records {loc : Nat} (hf : r.fault = none) (hover : r.over = true) (hsig : d.signalList = [])
    (hcomp : d.completion = s.myId * 2 ^ 48 + loc) (hne : d.completion ≠ 0) (halign : loc % 32 = 0) (hloc : loc < memTop)
    (hreach : s.arbGrant.reach (.firing x.job) true loc = .ok) (hrick : s.rickOn = false) (hsound : s.sound loc 32 = true) :
    ∃ t, exec (.firingComplete p cycles) s = .next t ∧ (t.part p).run = none
      ∧ t.mem.read loc 32 = s.arbGrant.runRecord p r .ok cycles
      ∧ (∀ b, b < loc ∨ loc + 32 ≤ b → Memory.byte t.mem b = Memory.byte s.mem b)
      ∧ t.pair (Reg.fsqPartFiringsLoOff p) = min (s.pair (Reg.fsqPartFiringsLoOff p) + 1) (2 ^ 64 - 1) := by
  have hlt := h.lt
  obtain ⟨g, hg⟩ : ∃ g, g = s.arbGrant := ⟨_, rfl⟩
  have hgm : g.MayEnd p r x d := hg ▸ h.arbGrant
  have hid : g.myId = s.myId := by rw [hg]; exact s.fld_arbGrant _ (by decide)
  obtain ⟨rec_, hrec⟩ : ∃ rec_, rec_ = g.runRecord p r .ok cycles := ⟨_, rfl⟩
  have hlen : rec_.length = 32 := by rw [hrec, runRecord_length]
  obtain ⟨hrickg, hsoundg⟩ : g.rickOn = false ∧ g.sound loc 32 = true := by
    obtain ⟨regs, e⟩ := onlyRegs_arbGrant s
    refine ⟨?_, ?_⟩
    · rw [State.rickOn, hg, s.fld_arbGrant _ (by decide), ← State.rickOn]
      exact hrick
    · rw [hg, e]
      exact hsound
  obtain ⟨hok, hst⟩ := State.serve_record (w := .firing x.job) hlen halign hloc (hg ▸ hreach) hrickg hsoundg
  obtain ⟨u, hu⟩ : ∃ u, u = (g.serve (.firing x.job) loc (.record rec_)).1 := ⟨_, rfl⟩
  rw [← hu] at hst
  have hmod : d.completion / 2 ^ 48 = g.myId := by
    simp only [memTop] at hloc
    omega
  have hlow : d.completion % 2 ^ 48 = loc := by
    simp only [memTop] at hloc
    omega
  have hwrite : g.writeRecord p x.job r d .ok cycles = u.countRecord p := by
    rw [State.writeRecord, if_neg hne]
    simp only [hmod, hlow, ← hrec, if_true, hok, ← hu]
  obtain ⟨v, hv⟩ : ∃ v, v = u.countRecord p := ⟨_, rfl⟩
  have hparts : v.parts = g.parts := by rw [hv, State.countRecord, State.addPair_parts, hst.frame]
  have hctxs : v.ctxs = g.ctxs := by rw [hv, State.countRecord, State.addPair_ctxs, hst.frame]
  have hmem : v.mem = s.mem.write loc rec_ := by rw [hv, State.countRecord, State.addPair_mem, hst.mem, hg, State.arbGrant_mem]
  have hpair : v.pair (Reg.fsqPartFiringsLoOff p) = min (s.pair (Reg.fsqPartFiringsLoOff p) + 1) (2 ^ 64 - 1) := by
    have hgrant : ∀ m, m < 8 → Reg.fsqPartFiringsLoOff p + m ∉ grantRegs := fun m hm =>
      not_mem_grantRegs (.inr (by simp only [Reg.fsqPartFiringsLoOff, Reg.ctlGrantsLoOff]; omega))
    have hstored : u.regs = g.regs := by rw [hst.frame]
    rw [hv, State.countRecord, State.pair_addPair, State.pair, State.reg, State.reg, hstored, ← State.reg, ← State.reg, hg,
      s.reg_arbGrant _ (by simpa using hgrant 0 (by decide)), s.reg_arbGrant _ (hgrant 4 (by decide)), ← State.pair]
  have hleft : v.Left (State.latch s (v.leave p r .ok)) p r := (State.leave_left (hgm.frame hparts hctxs).held .ok).latch s
  have hexec := exec_firingComplete_over (cycles := cycles) h hp hf hover
  have hhere : v.signalsHere p x.job r.ctx d.signalList = v := by rw [hsig]; rfl
  have haway : v.signalsAway p r.id x.job r.ctx d.twoPhase d.signalList = (v, 0) := by rw [hsig]; rfl
  rw [← hg, State.endFiring_ok hgm.ctx hgm.desc hgm.fam (hwrite.trans hv.symm) hhere haway] at hexec
  have hkept : ∀ m, m < 8 → Reg.fsqPartFiringsLoOff p + m ∉ leftRegs p r := fun m hm =>
    h.not_mem (.inl (by simp only [Reg.fsqPartFiringsLoOff]; omega))
  refine ⟨_, hexec, hleft.run, ?_, fun b hb => ?_, ?_⟩
  · rw [hleft.mem, hmem, ← hg, ← hrec, ← hlen, Memory.read_write_same]
  · rw [hleft.mem, hmem, Memory.byte_write_ne _ _ _ _ (by rwa [hlen])]
  · rw [State.pair, hleft.regs _ (by simpa using hkept 0 (by decide)), hleft.regs _ (hkept 4 (by decide)), ← State.pair, hpair]

/-- One with a signal to a counter of its job on this module adds to the counter. -/
theorem firingComplete_signals {n inc : Nat} {e : Nat × Ctx} (hf : r.fault = none) (hover : r.over = true) (hcomp : d.completion = 0)
    (hsig : d.signalList = [(n, false, s.myId, inc)]) (hn : n < 4096) (howner : s.arbGrant.counterOwner n = some e)
    (hjob : e.2.job = x.job) (hfence : s.arbGrant.fenced e.2.p.partition = false) :
    ∃ t, exec (.firingComplete p cycles) s = .next t ∧ (t.part p).run = none ∧ t.sync n = (s.sync n + inc) % 2 ^ 32
      ∧ t.mem = s.mem := by
  obtain ⟨c, y⟩ := e
  obtain ⟨g, hg⟩ : ∃ g, g = s.arbGrant := ⟨_, rfl⟩
  have hgm : g.MayEnd p r x d := hg ▸ h.arbGrant
  have hid : g.myId = s.myId := by rw [hg]; exact s.fld_arbGrant _ (by decide)
  obtain ⟨v, hv⟩ : ∃ v, v = g.setSync n (g.sync n + inc) := ⟨_, rfl⟩
  obtain ⟨regs, ws, i, hframe⟩ : ∃ regs ws i, v = { g with regs := regs, syncWaits := ws, inProg := i } := by
    obtain ⟨regs, hset⟩ := onlyRegs_setFld g (Reg.fsqSyncValueValue n) (g.sync n + inc)
    obtain ⟨i, hwake⟩ := State.wake_eq (g.setFld (Reg.fsqSyncValueValue n) (g.sync n + inc)) n
    rw [hv, State.setSync, hwake, hset]
    exact ⟨_, _, _, rfl⟩
  have hvid : v.myId = g.myId := by
    rw [State.myId, State.fld, State.reg, hv, State.setSync_regs, ← State.reg, ← State.fld]
    exact State.fld_setFld_off _ _ _ _ (by simp only [Reg.glbModuleIdId, Reg.fsqSyncValueValue]; omega)
  have hsignal : g.signal n inc (some x.job) = (v, .ok) := by
    rw [← hjob, hv]
    exact State.signal_owned hn (hg ▸ howner) (hg ▸ hfence)
  have hhere : g.signalsHere p x.job r.ctx d.signalList = v := by
    rw [hsig, ← hid]
    exact State.signalsHere_one hsignal
  have haway : v.signalsAway p r.id x.job r.ctx d.twoPhase d.signalList = (v, 0) := by
    rw [hsig, ← hid, ← hvid]
    exact State.signalsAway_here
  have hleft : v.Left (State.latch s (v.leave p r .ok)) p r :=
    (State.leave_left (hgm.frame (by rw [hframe]) (by rw [hframe])).held .ok).latch s
  have hexec := exec_firingComplete_over (cycles := cycles) h hp hf hover
  rw [← hg, State.endFiring_ok hgm.ctx hgm.desc hgm.fam (State.writeRecord_none _ _ _ hcomp) hhere haway] at hexec
  have hgrant : (Reg.fsqSyncValueValue n).off ∉ grantRegs :=
    not_mem_grantRegs (.inr (by simp only [Reg.fsqSyncValueValue, Reg.ctlGrantsLoOff]; omega))
  have hkept : (Reg.fsqSyncValueValue n).off ∉ leftRegs p r := h.not_mem (.inr (by simp only [Reg.fsqSyncValueValue]; omega))
  refine ⟨_, hexec, hleft.run, ?_, ?_⟩
  · rw [State.sync, hleft.regs.fld hkept, ← State.sync, hv, State.sync_setSync, State.sync, hg, s.fld_arbGrant _ hgrant, ← State.sync]
  · rw [hleft.mem, hframe]
    exact (congrArg State.mem hg).trans s.arbGrant_mem

/-- One that a fault has ended stops its queue. -/
theorem firingComplete_stops {f : FireFault} (hf : r.fault = some f) (hst : f.status ≠ .ok) (hstage : r.stage = .main)
    (howed : r.tilesOwed = []) (hstray : r.strayOwed = 0) (hcomp : d.completion = 0) (hsig : d.signalList = []) (hroom : s.room 1 = true) :
    ∃ t, exec (.firingComplete p cycles) s = .next t ∧ (t.part p).run = none
      ∧ t.flag (Reg.fsqCtxQStateStopped r.ctx r.queue) = true
      ∧ t.fld (Reg.fsqCtxQStateLastStatus r.ctx r.queue) = stCode f.status
      ∧ t.hasEvent 0x0207 p r.ctx r.queue (stCode f.status) ∧ t.mem = s.mem := by
  have hgm := h.arbGrant
  have hexec := exec_firingComplete_fault (cycles := cycles) h hp hf hstage howed hstray
  rw [State.endFiring_leave hgm.ctx hgm.desc hcomp hsig fun e => absurd e hst] at hexec
  have hleft := (State.leave_left (r := r) hgm.held f.status).latch s
  obtain ⟨hstopped, hstatus, hevent⟩ :=
    (State.leave_stoppedBy hgm.held hst h.lt h.ctxLt h.queueLt ((s.room_arbGrant 1).trans hroom)).latch s
  exact ⟨_, hexec, hleft.run, hstopped, hstatus, hevent, hleft.mem.trans s.arbGrant_mem⟩

end

end

end Sys2Proof.Machine
end

section
/-! A firing that hangs: it ends, and the ladder begins for its context (R103, R130, R361). -/

namespace Sys2Proof.Machine

/-! ### What the ladder's first action leaves -/

/-- A register of a partition's counters, or one of the DMA channels. -/
def keptReg (p off : Nat) : Prop := (0x20108 + 0x40 * p ≤ off ∧ off < 0x2011C + 0x40 * p) ∨ (0xA0000 ≤ off ∧ off < 0x1A0000)

/-- From `s` to `t` the sequencers, memory, the contexts, the groups, a partition's counters and the DMA channels are kept, and so is every
event recorded. -/
structure State.Notes (s t : State) (p : Nat) : Prop where
  regs : ∀ off, keptReg p off → t.reg off = s.reg off
  parts : t.parts = s.parts
  mem : t.mem = s.mem
  ctxs : t.ctxs = s.ctxs
  groups : t.groups = s.groups
  events : ∀ {code src p0 p1 p2}, s.hasEvent code src p0 p1 p2 → t.hasEvent code src p0 p1 p2

section
variable {s t u : State} {p : Nat}

theorem State.Notes.refl (s : State) (p : Nat) : s.Notes s p := ⟨fun _ _ => rfl, rfl, rfl, rfl, rfl, id⟩

theorem State.Notes.trans (h : s.Notes t p) (h' : t.Notes u p) : s.Notes u p :=
  ⟨fun off ho => (h'.regs off ho).trans (h.regs off ho), h'.parts.trans h.parts, h'.mem.trans h.mem, h'.ctxs.trans h.ctxs,
    h'.groups.trans h.groups, fun he => h'.events (h.events he)⟩

theorem State.notes_of_onlyRegs {os : List Nat} (h : OnlyRegs s t) (hregs : RegsBut s t os) (ho : ∀ o ∈ os, ¬ keptReg p o) : s.Notes t p := by
  obtain ⟨r, rfl⟩ := h
  exact ⟨fun off hk => hregs off fun hm => ho off hm hk, rfl, rfl, rfl, rfl, id⟩

theorem State.notes_setReg {o : Nat} (w : Word) (ho : ¬ keptReg p o) : s.Notes (s.setReg o w) p :=
  State.notes_of_onlyRegs (os := [o]) (onlyRegs_setReg s o w)
    (fun off h => s.reg_setReg_ne _ _ _ (by simpa using h)) (by simpa using ho)

theorem State.notes_setFld {f : Fld} (v : Nat) (ho : ¬ keptReg p f.off) : s.Notes (s.setFld f v) p := State.notes_setReg _ ho

theorem State.notes_ev (hp : p < 4) (code src p0 p1 p2 : Nat) : s.Notes (s.ev code src p0 p1 p2) p where
  regs off hk := regsBut_evRegs s code src p0 p1 p2 off fun hm => by
    simp only [evRegs, Reg.evrDroppedCount, Reg.evrQueueHwmF0, List.mem_cons, List.not_mem_nil, or_false] at hm
    rw [keptReg] at hk
    omega
  parts := State.ev_parts ..
  mem := State.ev_mem ..
  ctxs := State.ev_ctxs ..
  groups := State.ev_groups ..
  events h := State.hasEvent_ev_of_hasEvent (h := h) ..

theorem State.notes_each {α : Type} (xs : List α) (f : State → α → State) (h : ∀ t : State, ∀ x ∈ xs, t.Notes (f t x) p) :
    s.Notes (s.each xs f) p := by
  induction xs generalizing s with
  | nil => exact State.Notes.refl s p
  | cons x xs ih => exact (h s x List.mem_cons_self).trans (ih fun t y hy => h t y (List.mem_cons_of_mem _ hy))

/-- Which channels a context is bound to is read from their registers (R190). -/
theorem State.channelsOf_of_regs (h : ∀ off, 0xA0000 ≤ off → off < 0x1A0000 → t.reg off = s.reg off) (c : Nat) :
    t.channelsOf c = s.channelsOf c := by
  refine List.filter_congr fun n hn => ?_
  have hlt := List.mem_range.1 hn
  have hreg : t.reg (Reg.dmaChOwnerOff n) = s.reg (Reg.dmaChOwnerOff n) :=
    h _ (by simp only [Reg.dmaChOwnerOff]; omega) (by simp only [Reg.dmaChOwnerOff]; omega)
  have hfld : ∀ f : Fld, f.off = Reg.dmaChOwnerOff n → t.fld f = s.fld f := fun f hf => by
    rw [State.fld, hf, hreg, ← hf, State.fld]
  rw [State.dmaBoundTo, State.dmaBoundTo, State.flag, State.flag, hfld _ rfl, hfld _ rfl]

theorem State.Notes.channelsOf (h : s.Notes t p) (c : Nat) : t.channelsOf c = s.channelsOf c :=
  State.channelsOf_of_regs (fun off hlo hhi => h.regs off (.inr ⟨hlo, hhi⟩)) c

/-- A fault taken up by the ladder loads or counts in its own registers (R365). -/
theorem State.capture_notes (hp : p < 4) (level cause part : Nat) (ctx : Option (Nat × Nat)) (unit : Option Domain) :
    s.Notes (s.capture none level cause part ctx unit).1 p := by
  have hkept : ∀ o, 0x1C0000 ≤ o → ¬ keptReg p o := fun o ho => by
    rw [keptReg]
    omega
  have hfaults : s.Notes { s with faults := s.faults + 1 } p := ⟨fun _ _ => rfl, rfl, rfl, rfl, rfl, id⟩
  have hheld : ∀ (u : State) f, u.Notes { u with faultHeld := f } p := fun u f => ⟨fun _ _ => rfl, rfl, rfl, rfl, rfl, id⟩
  have hcontext := hkept Reg.rstFaultContextOff (by decide)
  have hunit := hkept Reg.rstFaultUnitOff (by decide)
  have hcount := hkept Reg.rstFaultCountOff (by decide)
  unfold State.capture
  dsimp only
  split_ifs
  · exact (hfaults.trans (State.notes_setFld _ hcontext)).trans (State.notes_setReg _ hunit)
  · exact hfaults.trans (State.notes_setFld _ hcontext)
  · exact hfaults.trans (State.notes_setReg _ hunit)
  · exact hfaults
  · exact hfaults.trans (State.notes_setFld _ hcount)
  · exact hfaults
  · exact ((hfaults.trans (State.notes_setReg _ hcontext)).trans (State.notes_setReg _ hunit)).trans (hheld _ _)

/-- Of a context with no counters, groups or channels, on a partition with no firing, an abort stops the queues alone (R103). -/
theorem State.contextAbort_notes {c : Nat} {x : Ctx} (hp : p < 4) (hc : c < 512) (hx : s.ctx c = some x)
    (hrun : (s.part x.p.partition).run = none) (hcount : x.p.syncCount = 0) (hgroups : s.groups = [])
    (hchannels : s.channelsOf c = []) (cause dmaCause : Nat) : s.Notes (s.contextAbort c cause dmaCause) p := by
  cases hd : x.dying.isNone with
  | false =>
    have hnone : (s.ctx c).filter (·.dying.isNone) = none := by rw [hx, Option.filter_some, hd]; rfl
    rw [State.contextAbort]
    simp only [hnone]
    exact State.Notes.refl s p
  | true =>
    have hsome : (s.ctx c).filter (·.dying.isNone) = some x := by rw [hx, Option.filter_some, hd]; rfl
    obtain ⟨u, hu⟩ : ∃ u, u = s.haltQueues c := ⟨_, rfl⟩
    have hstate : ∀ q, q < 4 → ¬ keptReg p (Reg.fsqCtxQStateOff c q) := fun q hq => by
      simp only [keptReg, Reg.fsqCtxQStateOff]
      omega
    have hhalt : s.Notes u p := by
      rw [hu]
      refine State.notes_each _ _ fun t q hq => ?_
      split_ifs
      · exact State.notes_setFld (f := Reg.fsqCtxQStateStopped c q) _ (hstate q (List.mem_range.1 hq))
      · exact State.Notes.refl t p
    have hcounters : x.counters = [] := by rw [Ctx.counters, hcount]; rfl
    have hnoGroups : u.groupsOf c = [] := by rw [State.groupsOf, hhalt.groups, hgroups]; rfl
    have hnoChannels : u.channelsOf c = [] := (hhalt.channelsOf c).trans hchannels
    rw [State.contextAbort]
    simp only [hsome, hrun, Bool.false_and, Bool.false_eq_true, if_false, ← hu, hcounters, State.each, List.foldl_nil, hnoGroups, hnoChannels]
    exact hhalt.trans (State.notes_ev hp _ _ _ _ _)

/-- The registers of the resets follow what is in progress (R372). -/
theorem State.rstSync_notes (hp : p < 4) : s.Notes s.rstSync p := by
  have hstatus : ¬ keptReg p Reg.rstStatusOff := by
    simp only [keptReg, Reg.rstStatusOff]
    omega
  have hkil : ∀ k, k < 4 → ¬ keptReg p (Reg.kilStatusOff k) := fun k hk => by
    simp only [keptReg, Reg.kilStatusOff]
    omega
  unfold State.rstSync
  dsimp only
  refine State.Notes.trans ?_ (State.notes_each _ _ fun t k hk => State.notes_setFld (f := Reg.kilStatusResetting k) _
    (hkil k (List.mem_range.1 hk)))
  exact ((State.notes_setFld (f := Reg.rstStatusPartResetting) _ hstatus).trans
    (State.notes_setFld (f := Reg.rstStatusChipResetting) _ hstatus)).trans
    ((State.notes_setFld (f := Reg.rstStatusLevel) _ hstatus).trans (State.notes_setFld (f := Reg.rstStatusStopped) _ hstatus))

@[simp] theorem State.rstSync_ladder : s.rstSync.ladder = s.ladder := by
  unfold State.rstSync
  dsimp only
  refine (State.each_frame _ State.ladder _ _ fun t k => State.setFlag_ladder t _ _).trans ?_
  rw [State.setFlag_ladder, State.setFld_ladder, State.setFlag_ladder, State.setFld_ladder]

/-- The ladder begins for a context: an abort at level 0 waits for its end (R361). -/
theorem State.ladderAbort_begins {c : Nat} {x : Ctx} (hp : p < 4) (hc : c < 512) (hx : s.ctx c = some x)
    (hrun : (s.part x.p.partition).run = none) (hcount : x.p.syncCount = 0) (hgroups : s.groups = [])
    (hchannels : s.channelsOf c = []) (part queue cause : Nat) :
    s.Notes (s.ladderAbort c part queue cause) p ∧ ∃ f, (c, cause, f) ∈ (s.ladderAbort c part queue cause).ladder := by
  obtain ⟨w, hw⟩ : ∃ w, w = s.capture none 0 cause part (some (c, queue)) none := ⟨_, rfl⟩
  obtain ⟨u, hu⟩ : ∃ u, u = w.1.bump (Reg.rstCountCount 0) := ⟨_, rfl⟩
  obtain ⟨v, hv⟩ : ∃ v, v = u.contextAbort c 2 2 := ⟨_, rfl⟩
  have hladder : s.ladderAbort c part queue cause = ({ v with ladder := v.ladder ++ [(c, cause, w.2)] } : State).rstSync := by
    rw [hv, hu, hw]
    rfl
  have hcounted : ¬ keptReg p (Reg.rstCountOff 0) := by
    simp only [keptReg, Reg.rstCountOff]
    omega
  have hbefore : s.Notes u p := by
    rw [hu, hw]
    exact (State.capture_notes hp _ _ _ _ _).trans (State.notes_setFld (f := Reg.rstCountCount 0) _ hcounted)
  have hrun' : (u.part x.p.partition).run = none := by rw [State.part, hbefore.parts]; exact hrun
  have hctx : u.ctx c = some x := by rw [State.ctx, hbefore.ctxs]; exact hx
  have habort : u.Notes v p := by
    rw [hv]
    exact State.contextAbort_notes hp hc hctx hrun' hcount (hbefore.groups.trans hgroups) ((hbefore.channelsOf c).trans hchannels) 2 2
  have hnoted : v.Notes { v with ladder := v.ladder ++ [(c, cause, w.2)] } p := ⟨fun _ _ => rfl, rfl, rfl, rfl, rfl, id⟩
  rw [hladder, State.rstSync_ladder]
  exact ⟨((hbefore.trans habort).trans hnoted).trans (State.rstSync_notes hp), w.2, List.mem_append_right _ List.mem_cons_self⟩

end

/-! ### A firing that hangs (R130) -/

section
variable {s : State} {p cycles : Nat} {r : Run} {x : Ctx} {d : Desc}

/-- The state once a hang has been counted, with event 0x0202. -/
def State.hangNoted (s : State) (p : Nat) (r : Run) (d : Desc) : State :=
  (s.bump (Reg.fsqPartHangsCount p)).ev 0x0202 p r.ctx r.qe d.expected

/-- The firing with the fault it ends with: that of the hang, unless it has one already. -/
def Run.hung (r : Run) : Run := { r with fault := some (r.fault.getD { status := .hang }) }

variable (h : s.MayEnd p r x d) (hp : s.powered = true)
include h hp

theorem exec_firingHung (hstage : r.stage = .main) (hhalt : s.haltedNow = false) (hbank : s.bank.part ≠ some p) :
    exec (.firingHung p cycles) s = .next (State.latch s
      (((s.arbGrant.hangNoted p r d).endFiring p r.hung (r.fault.getD { status := .hang }).status cycles).ladderAbort r.ctx p r.queue 1)) := by
  have hdesc : r.desc.getD (descOf r.bytes) = d := by rw [h.desc]; rfl
  have hbank' : s.arbGrant.bank.part ≠ some p := by rwa [State.arbGrant_bank]
  have hhalt' : s.arbGrant.haltedNow = false := by
    rw [← hhalt]
    simp only [State.haltedNow, State.flag]
    rw [s.fld_arbGrant _ (by decide), s.fld_arbGrant _ (by decide), s.fld_arbGrant _ (by decide), s.fld_arbGrant _ (by decide)]
  rw [show exec (.firingHung p cycles) s = execFiringHung p cycles s from rfl, execFiringHung, s.granted_powered _ hp]
  simp only [State.firingHung, h.arbGrant.run, hstage, hhalt', hbank', ne_eq, not_true_eq_false, and_false, false_and, Bool.false_eq_true,
    or_self, if_false, hdesc]
  rfl

theorem firingHung_begins (hstage : r.stage = .main) (hhalt : s.haltedNow = false) (hbank : s.bank.part ≠ some p) (hcomp : d.completion = 0)
    (hsig : d.signalList = []) (hpart : x.p.partition = p) (hcount : x.p.syncCount = 0) (hroom : s.room 1 = true)
    (hgroups : s.groups = []) (hchannels : s.arbGrant.channelsOf r.ctx = []) :
    ∃ t, exec (.firingHung p cycles) s = .next t ∧ (t.part p).run = none ∧ t.hasEvent 0x0202 p r.ctx r.qe d.expected
      ∧ t.fld (Reg.fsqPartHangsCount p) = min (s.fld (Reg.fsqPartHangsCount p) + 1) (2 ^ 32 - 1)
      ∧ (∃ f, (r.ctx, 1, f) ∈ t.ladder) ∧ t.mem = s.mem := by
  obtain ⟨g, hg⟩ : ∃ g, g = s.arbGrant := ⟨_, rfl⟩
  have hgm : g.MayEnd p r x d := hg ▸ h.arbGrant
  obtain ⟨st, hst⟩ : ∃ st, st = (r.fault.getD { status := .hang }).status := ⟨_, rfl⟩
  obtain ⟨u, hu⟩ : ∃ u, u = g.hangNoted p r d := ⟨_, rfl⟩
  have hexec := exec_firingHung (cycles := cycles) h hp hstage hhalt hbank
  rw [← hg, ← hu, ← hst] at hexec
  have hum : u.MayEnd p r x d := hgm.frame (by rw [hu, State.hangNoted, State.ev_parts, State.bump_parts])
    (by rw [hu, State.hangNoted, State.ev_ctxs, State.bump_ctxs])
  have hregs : RegsBut g u (Reg.fsqPartHangsOff p :: evRegs) := by
    rw [hu]
    exact (regsBut_bump g (Reg.fsqPartHangsCount p) _ List.mem_cons_self).trans (regsBut_ev _ _ _ _ _ _ _ (List.subset_cons_self _ _))
  have hcount' : u.fld (Reg.fsqPartHangsCount p) = min (s.fld (Reg.fsqPartHangsCount p) + 1) (2 ^ 32 - 1) := by
    have hlt := h.lt
    have hev : Reg.fsqPartHangsOff p ∉ evRegs := not_mem_evRegs (.inl (by simp only [Reg.fsqPartHangsOff, Reg.evrDroppedCount]; omega))
    have hgrant : Reg.fsqPartHangsOff p ∉ grantRegs :=
      not_mem_grantRegs (.inr (by simp only [Reg.fsqPartHangsOff, Reg.ctlGrantsLoOff]; omega))
    rw [hu, State.hangNoted, (regsBut_evRegs _ _ _ _ _ _).fld hev, g.fld_bump _ (by decide : 31 < 32) (Nat.zero_le 31), hg,
      s.fld_arbGrant _ hgrant]
    rfl
  have hevent : u.hasEvent 0x0202 p r.ctx r.qe d.expected := by
    rw [hu]
    exact State.hasEvent_ev _ _ _ _ _ _ ((State.room_of_evq (g.bump_evq _) 1).trans (hg ▸ (s.room_arbGrant 1).trans hroom))
  obtain ⟨v, hv⟩ : ∃ v, v = u.leave p r.hung st := ⟨_, rfl⟩
  have hleft : u.Left v p r.hung := by
    rw [hv]
    exact State.leave_left hum.held st
  rw [State.endFiring_leave (r := r.hung) hum.ctx hum.desc hcomp hsig fun _ => hum.fam, ← hv] at hexec
  have hchannels' : v.channelsOf r.ctx = [] := by
    have hlt := h.lt
    rw [← hchannels, ← hg]
    refine State.channelsOf_of_regs (fun off hlo hhi => (hleft.regs off (h.not_mem (.inr (by omega)))).trans (hregs off ?_)) _
    rw [List.mem_cons, not_or]
    exact ⟨by simp only [Reg.fsqPartHangsOff]; omega, not_mem_evRegs (.inl (by simp only [Reg.evrDroppedCount]; omega))⟩
  have hgroups' : v.groups = [] := by
    rw [hleft.groups, hu, State.hangNoted, State.ev_groups, State.bump_groups, hg, State.arbGrant_groups, hgroups]
  have hctx : v.ctx r.ctx = some x := by
    rw [State.ctx, hleft.ctxs]
    exact hum.ctx
  have hmem : v.mem = s.mem := by rw [hleft.mem, hu, State.hangNoted, State.ev_mem, State.bump_mem, hg, State.arbGrant_mem]
  obtain ⟨hnotes, f, hladder⟩ := State.ladderAbort_begins (cause := 1) (part := p) (queue := r.queue) h.lt h.ctxLt hctx
    (by rw [hpart]; exact hleft.run) hcount hgroups' hchannels'
  have hhangs : keptReg p (Reg.fsqPartHangsOff p) := .inl (by simp only [Reg.fsqPartHangsOff]; omega)
  obtain ⟨w, hw⟩ : ∃ w, w = v.ladderAbort r.ctx p r.queue 1 := ⟨_, rfl⟩
  rw [← hw] at hexec hnotes hladder
  obtain ⟨l, n, hlatch⟩ := w.latch_eq s
  rw [hlatch] at hexec
  refine ⟨_, hexec, ?_, State.hasEvent_of_evq (s := w) rfl (hnotes.events (hleft.events hevent)), ?_, ⟨f, hladder⟩, hnotes.mem.trans hmem⟩
  · have hrun := hleft.run
    rw [State.part, ← hnotes.parts] at hrun
    exact hrun
  · rw [← hcount', ← hleft.regs.fld (h.not_mem (.inl (by simp only [Reg.fsqPartHangsCount]; omega)))]
    exact congrArg (fun b => bits b.toNat 31 0) (hnotes.regs _ hhangs)

end

/-- Settles O43: a firing that is over with or without a record, with a signal, with a fault, and one that hangs. -/
theorem firingsEnd : Obligations.FiringsEnd := by
  unfold Obligations.FiringsEnd
  intro p cycles r x d s g hp hg hlt hr hx hc hq hd hfam hheld
  subst hg
  have h : s.MayEnd p r x d := ⟨hlt, hr, hx, hc, hq, hd, hfam, hheld⟩
  refine ⟨fun hf hover hsig => ⟨fun hcomp hsize => ?_, fun loc hcomp hne halign hloc hreach hrick hsound => ?_⟩,
    fun n inc e hf hover hcomp hsig hn howner hjob hfence => ?_,
    fun f hf hst hstage howed hstray hcomp hsig hroom => ?_,
    fun hstage hhalt hbank hcomp hsig hpart hcount hroom hgroups hchannels => ?_⟩
  · exact firingComplete_leaves h hp hf hover hsig hcomp hsize
  · exact firingComplete_records h hp hf hover hsig hcomp hne halign hloc hreach hrick hsound
  · exact firingComplete_signals h hp hf hover hcomp hsig hn howner hjob hfence
  · exact firingComplete_stops h hp hf hst hstage howed hstray hcomp hsig hroom
  · exact firingHung_begins h hp hstage hhalt hbank hcomp hsig hpart hcount hroom hgroups hchannels

end Sys2Proof.Machine
end

section
/-! Commands that store nothing, and what a write of bytes leaves to be read. -/

namespace Sys2Proof.Machine

/-! ### Commands that store nothing -/

/-- A command that stores nothing keeps whatever is said of memory, by the law of its meaning. -/
theorem exec_good_of_storesNothing {q : List Instr} {P : Memory → Prop} (c : Instr) (s : State) (hc : storesNothing c = true)
    (hg : Good q P s) : GoodO q P (exec c s) := by
  cases c with
  | nop o => exact good_execNop o s hg
  | contextCreate o p => exact good_execContextCreate o p s hg
  | doorbell o ctx queue tail => exact good_execDoorbell o ctx queue tail s hg
  | queueRestart o ctx queue entry => exact good_execQueueRestart o ctx queue entry s hg
  | setSplit o split => exact good_execSetSplit o split s hg
  | syncSet o counter clear value => exact good_execSyncSet o counter clear value s hg
  | syncWait o counter target timeoutUs => exact good_execSyncWait o counter target timeoutUs s hg
  | syncWaitTimeout o => exact good_execSyncWaitTimeout o s hg
  | slotOpen o p => exact good_execSlotOpen o p s hg
  | slotClose o p => exact good_execSlotClose o p s hg
  | slotTruncate o p => exact good_execSlotTruncate o p s hg
  | slotRepoint o p => exact good_execSlotRepoint o p s hg
  | memRead o addr len => exact good_execMemRead o addr len s hg
  | regionAssign o region ctx => exact good_execRegionAssign o region ctx s hg
  | regionRelease o region => exact good_execRegionRelease o region s hg
  | dmaBind o ch ctx => exact good_execDmaBind o ch ctx s hg
  | dmaRelease o ch => exact good_execDmaRelease o ch s hg
  | dmaStart o ch image => exact good_execDmaStart o ch image s hg
  | dmaAbort o ch => exact good_execDmaAbort o ch s hg
  | groupCreate o p => exact good_execGroupCreate o p s hg
  | groupDoorbell o gid tail => exact good_execGroupDoorbell o gid tail s hg
  | installRanks o n first ids => exact good_execInstallRanks o n first ids s hg
  | stageRanks o n first ids gen => exact good_execStageRanks o n first ids gen s hg
  | formRick o p => exact good_execFormRick o p s hg
  | join o p => exact good_execJoin o p s hg
  | rebuild o spare => exact good_execRebuild o spare s hg
  | eventRead o first count => exact good_execEventRead o first count s hg
  | readRegs o offs => exact good_execReadRegs o offs s hg
  | resetRequest o level part => exact good_execResetRequest o level part s hg
  | attest o nonce => exact good_execAttest o nonce s hg
  | hello h => exact good_execHello h s hg
  | finish p confirmOk => exact good_execFinish p confirmOk s hg
  | handshakeTimeout sess => exact good_execHandshakeTimeout sess s hg
  | ack p => exact good_execAck p s hg
  | close p => exact good_execClose p s hg
  | retransmitTimeout sess => exact good_execRetransmitTimeout sess s hg
  | disconnectedTimeout sess => exact good_execDisconnectedTimeout sess s hg
  | hostPortDown port => exact good_execHostPortDown port s hg
  | hostPortUp port => exact good_execHostPortUp port s hg
  | dmaCtrlStart r ch value => exact good_execDmaCtrlStart r ch value s hg
  | dmaCtrlAbort r ch => exact good_execDmaCtrlAbort r ch s hg
  | dmaCtrlClear r ch => exact good_execDmaCtrlClear r ch s hg
  | dmaRequestIssue ch => exact good_execDmaRequestIssue ch s hg
  | dmaTransferDone ch => exact good_execDmaTransferDone ch s hg
  | lanDiscover r mask => exact good_execLanDiscover r mask s hg
  | laneCtrlDrop r lane => exact good_execLaneCtrlDrop r lane s hg
  | laneCtrlRestore r lane => exact good_execLaneCtrlRestore r lane s hg
  | lanePrbsEnable r lane => exact good_execLanePrbsEnable r lane s hg
  | laneLoopback r lane mode peerUp => exact good_execLaneLoopback r lane mode peerUp s hg
  | portCtrlRetrain r port => exact good_execPortCtrlRetrain r port s hg
  | portCtrlForget r port => exact good_execPortCtrlForget r port s hg
  | eyeScanStart r die value => exact good_execEyeScanStart r die value s hg
  | eyeScanAbort r die => exact good_execEyeScanAbort r die s hg
  | eyeScanDone die errors => exact good_execEyeScanDone die errors s hg
  | clearHwm r => exact good_execClearHwm r s hg
  | memSpareStart r channel => exact good_execMemSpareStart r channel s hg
  | rstCmdPartition r part => exact good_execRstCmdPartition r part s hg
  | rstCmdChip r => exact good_execRstCmdChip r s hg
  | rstCmdPowerCycle r => exact good_execRstCmdPowerCycle r s hg
  | faultContextClear r => exact good_execFaultContextClear r s hg
  | ctlSwapCommand r => exact good_execCtlSwapCommand r s hg
  | unitRestart r unit => exact good_execUnitRestart r unit s hg
  | ember r unit count => exact good_execEmber r unit count s hg
  | traceEnWrite r value => exact good_execTraceEnWrite r value s hg
  | botAshAdd r value => exact good_execBotAshAdd r value s hg
  | forget r => exact good_execForget r s hg
  | licenceInstall r sigOk => exact good_execLicenceInstall r sigOk s hg
  | licenceRemove r slot => exact good_execLicenceRemove r slot s hg
  | imageBegin r sigOk => exact good_execImageBegin r sigOk s hg
  | writePage r page => exact good_execWritePage r page s hg
  | imageFinish r => exact good_execImageFinish r s hg
  | imageWritten readBackOk => exact good_execImageWritten readBackOk s hg
  | activate r force => exact good_execActivate r force s hg
  | cancel r => exact good_execCancel r s hg
  | broadcast r => exact good_execBroadcast r s hg
  | enrolAdd r sigOk => exact good_execEnrolAdd r sigOk s hg
  | enrolRemove r slot => exact good_execEnrolRemove r slot s hg
  | pwrCapWrite r watts => exact good_execPwrCapWrite r watts s hg
  | opCapWrite r watts => exact good_execOpCapWrite r watts s hg
  | limitsWrite r maxW minW => exact good_execLimitsWrite r maxW minW s hg
  | planLoad r plan => exact good_execPlanLoad r plan s hg
  | packetIngress port p => exact good_execPacketIngress port p s hg
  | linkCredit port counts => exact good_execLinkCredit port counts s hg
  | linkCreditSend port => exact good_execLinkCreditSend port s hg
  | windowReclaim port vc => exact good_execWindowReclaim port vc s hg
  | identity port id valid dim verdict => exact good_execIdentity port id valid dim verdict s hg
  | identitySend port => exact good_execIdentitySend port s hg
  | identityTimeout port => exact good_execIdentityTimeout port s hg
  | darkTimeout port => exact good_execDarkTimeout port s hg
  | darkRetry port => exact good_execDarkRetry port s hg
  | time port request t1 t2 t3 t4 rootSeq valid backup counter => exact good_execTime port request t1 t2 t3 t4 rootSeq valid backup counter s hg
  | timeExchange => exact good_execTimeExchange s hg
  | holdoverExpiry => exact good_execHoldoverExpiry s hg
  | rootLost => exact good_execRootLost s hg
  | portFrame port f => exact good_execPortFrame port f s hg
  | framePeriod port => exact good_execFramePeriod port s hg
  | replayTimeout port => exact good_execReplayTimeout port s hg
  | laneErrorWindow lane uncorrectable corrected prbs => exact good_execLaneErrorWindow lane uncorrectable corrected prbs s hg
  | laneRetrain lane pass => exact good_execLaneRetrain lane pass s hg
  | signalLoss port => exact good_execSignalLoss port s hg
  | pllLock port => exact good_execPllLock port s hg
  | linkTrained port good ms keyFail skew asym saved => exact good_execLinkTrained port good ms keyFail skew asym saved s hg
  | idleEntry port => exact good_execIdleEntry port s hg
  | idleExit port => exact good_execIdleExit port s hg
  | idleLockTimeout port unlocked => exact good_execIdleLockTimeout port unlocked s hg
  | hotWindow counts => exact good_execHotWindow counts s hg
  | scrubPeriod corrected uncorrectable badSpares => exact good_execScrubPeriod corrected uncorrectable badSpares s hg
  | ceHour => exact good_execCeHour s hg
  | firingSelect part => exact good_execFiringSelect part s hg
  | framePassDone part => exact good_execFramePassDone part s hg
  | unitDone part unit corrected => exact good_execUnitDone part unit corrected s hg
  | residueRetry die core engine column second => exact good_execResidueRetry die core engine column second s hg
  | storeUncorrectable die unit word => exact good_execStoreUncorrectable die unit word s hg
  | storeCheck die core pass => exact good_execStoreCheck die core pass s hg
  | coreLost die core cause => exact good_execCoreLost die core cause s hg
  | dieLost die cause => exact good_execDieLost die cause s hg
  | passThroughFailed die direction => exact good_execPassThroughFailed die direction s hg
  | readyRetry group => exact good_execReadyRetry group s hg
  | segmentSend group seg reverse => exact good_execSegmentSend group seg reverse s hg
  | heartbeat group member => exact good_execHeartbeat group member s hg
  | bankHelloSend => exact good_execBankHelloSend s hg
  | peerSilent position => exact good_execPeerSilent position s hg
  | quiesceDone => exact good_execQuiesceDone s hg
  | foldDone => exact good_execFoldDone s hg
  | bankStall => exact good_execBankStall s hg
  | rebuildDone => exact good_execRebuildDone s hg
  | resetAsserted level target => exact good_execResetAsserted level target s hg
  | postResetCheckDone level target failedCores failedDies => exact good_execPostResetCheckDone level target failedCores failedDies s hg
  | resetRelease level target us => exact good_execResetRelease level target us s hg
  | lowerResetDone level target => exact good_execLowerResetDone level target s hg
  | ladderTimeout level target units => exact good_execLadderTimeout level target units s hg
  | watchdogFire unit => exact good_execWatchdogFire unit s hg
  | spareTestRotate die => exact good_execSpareTestRotate die s hg
  | spareTestDone die failing => exact good_execSpareTestDone die failing s hg
  | leaseRenew => exact good_execLeaseRenew s hg
  | leaseExpiry cell => exact good_execLeaseExpiry cell s hg
  | journalRecord mirrorFault => exact good_execJournalRecord mirrorFault s hg
  | journalTimeout => exact good_execJournalTimeout s hg
  | fatalFault unit => exact good_execFatalFault unit s hg
  | unitRestartTimer unit => exact good_execUnitRestartTimer unit s hg
  | selfTest unit failing => exact good_execSelfTest unit failing s hg
  | stateCopyDone unit => exact good_execStateCopyDone unit s hg
  | probationEnd unit ms => exact good_execProbationEnd unit ms s hg
  | swapDue => exact good_execSwapDue s hg
  | swapPoint forced => exact good_execSwapPoint forced s hg
  | startStepDone r => exact good_execStartStepDone r s hg
  | optimeSave => exact good_execOptimeSave s hg
  | imagePage port p sigOk => exact good_execImagePage port p sigOk s hg
  | imagePageSend port => exact good_execImagePageSend port s hg
  | imagePull port p => exact good_execImagePull port p s hg
  | imagePullTimer => exact good_execImagePullTimer s hg
  | broadcastIncomplete => exact good_execBroadcastIncomplete s hg
  | eventIntake => exact good_execEventIntake s hg
  | mirrorCheck slot badF0 badF1 => exact good_execMirrorCheck slot badF0 badF1 s hg
  | brakeNFall => exact good_execBrakeNFall s hg
  | brakeNRise => exact good_execBrakeNRise s hg
  | haltCleared cause => exact good_execHaltCleared cause s hg
  | operatingPoint allowed => exact good_execOperatingPoint allowed s hg
  | capControl => exact good_execCapControl s hg
  | orphanCap => exact good_execOrphanCap s hg
  | capStorm => exact good_execCapStorm s hg
  | sensorSuspect pair => exact good_execSensorSuspect pair s hg
  | trayReportStale => exact good_execTrayReportStale s hg
  | flowLossNRise => exact good_execFlowLossNRise s hg
  | monitorCompare item => exact good_execMonitorCompare item s hg
  | randomFault monitor test => exact good_execRandomFault monitor test s hg
  | rngRetest passA passB => exact good_execRngRetest passA passB s hg
  | clusterFault die cluster => exact good_execClusterFault die cluster s hg
  | sequencerNoResponse part => exact good_execSequencerNoResponse part s hg
  | contextAbortDone ctx => exact good_execContextAbortDone ctx s hg
  | isolationDone die cluster => exact good_execIsolationDone die cluster s hg
  | trainingBurst port => exact good_execTrainingBurst port s hg
  | ethernetFrame port kind uncorr => exact good_execEthernetFrame port kind uncorr s hg
  | hostConfigurationLoad r cfg => exact good_execHostConfigurationLoad r cfg s hg
  | supplySlewDone => exact good_execSupplySlewDone s hg
  | _ => cases hc

/-- The invariant, and a memory that stays what it is. -/
theorem good_sameMem {s : State} (h : s.Inv) : Good s.pending (· = s.mem) s := by
  obtain ⟨-, hregs, hqueues, haudit⟩ := h
  unfold Good
  exact ⟨⟨rfl, hregs, hqueues, haudit⟩, rfl⟩

/-- Settles O7: each command that stores nothing keeps every property of memory, that of being the memory before among them. -/
theorem memoryKeptByCommandsThatStoreNothing : Obligations.MemoryKeptByCommandsThatStoreNothing := by
  unfold Obligations.MemoryKeptByCommandsThatStoreNothing
  intro c s hinv hc
  obtain ⟨t, hexec, hgood⟩ := exec_good_of_storesNothing c s hc (good_sameMem hinv)
  obtain ⟨⟨hmem, -⟩, -⟩ := good_parts hgood
  exact ⟨t, hexec, fun a => by rw [hmem]⟩

/-! ### Bytes written and read -/

theorem bit_zero (v : Nat) : bit v 0 = true ↔ v % 2 = 1 := by simp [bit]

theorem bit_succ (v i : Nat) : bit v (i + 1) = bit (v / 2) i := by rw [bit, bit, Nat.pow_succ', ← Nat.div_div_eq_div_mul]

/-- A byte after a masked write: the new one where the mask selects it, else the old one (R169). -/
theorem Memory.byte_writeMasked (m : Memory) (a mask : Nat) (bs : List Byte) (b : Nat) :
    Memory.byte (Memory.writeMasked m a bs mask) b
      = if a ≤ b ∧ b < a + bs.length ∧ bit mask (b - a) = true then bs.getD (b - a) 0 else Memory.byte m b := by
  induction bs generalizing m a mask with
  | nil =>
    rw [Memory.writeMasked, if_neg]
    simp only [List.length_nil]
    omega
  | cons x bs ih =>
    have hfirst : Memory.byte (if mask % 2 = 1 then m.put a x else m) b
        = if b = a ∧ mask % 2 = 1 then x else Memory.byte m b := by
      split_ifs <;> simp_all [Memory.byte_put]
    rw [Memory.writeMasked, ih, hfirst]
    obtain hlt | rfl | hgt := lt_trichotomy b a
    · simp [show ¬ a + 1 ≤ b by omega, show ¬ a ≤ b by omega, show b ≠ a by omega]
    · simp [bit_zero]
    · obtain ⟨i, rfl⟩ : ∃ i, b = a + 1 + i := ⟨b - (a + 1), by omega⟩
      have hi : a + 1 + i - a = i + 1 := by omega
      have hlen : a + 1 + i < a + 1 + bs.length ↔ a + 1 + i < a + (bs.length + 1) := by omega
      simp [hi, bit_succ, hlen, show a + 1 + i ≠ a by omega, show a ≤ a + 1 + i by omega]

/-- Settles O18: a write by induction on its bytes, a masked one by the bits of its mask. -/
theorem writesAreRead : Obligations.WritesAreRead := by
  unfold Obligations.WritesAreRead
  exact ⟨fun m a bs => ⟨fun i hi => Memory.byte_write_add m a i bs hi, fun b hb => Memory.byte_write_ne m a b bs hb,
    Memory.read_write_same m a bs⟩, Memory.byte_writeMasked⟩

end Sys2Proof.Machine
end

section
/-! SUPPORT. The memory controllers' own notes: what counting errors, starting a copy and losing a spare leave (R179 to R188). -/

namespace Sys2Proof.Machine

variable (s : State)

/-! ### What a note changes -/

/-- An event changes registers, queues and the record of dropped events alone. -/
theorem State.ev_frame (code src p0 p1 p2 : Nat) :
    ∃ r q l, s.ev code src p0 p1 p2 = { s with regs := r, evq := q, evLost := l } := by
  obtain ⟨-, r, q, l, p, e⟩ := powerChange_ev (fs := evFlds) s code src p0 p1 p2 (List.Subset.refl _)
  have hp : p = s.power := by
    have hpower := s.ev_power code src p0 p1 p2
    rwa [e] at hpower
  exact ⟨r, q, l, by rw [e, hp]⟩

/-- From `s` to `t` the controllers have taken notes: no register has changed but those listed, and beside the registers nothing but
events, the hour's counts, the copies and free values; every event that waited waits. -/
structure MemNoted (os : List Nat) (s t : State) : Prop where
  regs : RegsBut s t os
  frame : ∃ r q l c k n, t = { s with regs := r, evq := q, evLost := l, ceHour := c, copies := k, free := n }
  events : ∀ code src p0 p1 p2, s.hasEvent code src p0 p1 p2 → t.hasEvent code src p0 p1 p2

theorem MemNoted.refl (os : List Nat) : MemNoted os s s :=
  ⟨fun _ _ => rfl, ⟨s.regs, s.evq, s.evLost, s.ceHour, s.copies, s.free, rfl⟩, fun _ _ _ _ _ => id⟩

section
variable {s} {t u : State} {os os' : List Nat}

theorem MemNoted.trans (h : MemNoted os s t) (h' : MemNoted os t u) : MemNoted os s u := by
  obtain ⟨hr, ⟨r, q, l, c, k, n, rfl⟩, he⟩ := h
  obtain ⟨hr', ⟨r', q', l', c', k', n', rfl⟩, he'⟩ := h'
  exact ⟨hr.trans hr', ⟨r', q', l', c', k', n', rfl⟩, fun _ _ _ _ _ h => he' _ _ _ _ _ (he _ _ _ _ _ h)⟩

theorem MemNoted.mono (h : MemNoted os s t) (hs : os ⊆ os') : MemNoted os' s t := ⟨h.regs.mono hs, h.frame, h.events⟩

theorem MemNoted.mem (h : MemNoted os s t) : t.mem = s.mem := by
  obtain ⟨-, ⟨r, q, l, c, k, n, rfl⟩, -⟩ := h; rfl

theorem MemNoted.badGranules (h : MemNoted os s t) : t.badGranules = s.badGranules := by
  obtain ⟨-, ⟨r, q, l, c, k, n, rfl⟩, -⟩ := h; rfl

theorem MemNoted.faint (h : MemNoted os s t) : t.faint = s.faint := by
  obtain ⟨-, ⟨r, q, l, c, k, n, rfl⟩, -⟩ := h; rfl

theorem MemNoted.inProg (h : MemNoted os s t) : t.inProg = s.inProg := by
  obtain ⟨-, ⟨r, q, l, c, k, n, rfl⟩, -⟩ := h; rfl

theorem MemNoted.start (h : MemNoted os s t) : t.start = s.start := by
  obtain ⟨-, ⟨r, q, l, c, k, n, rfl⟩, -⟩ := h; rfl

theorem memNoted_of_onlyRegs (h : RegsBut s t os) (ho : OnlyRegs s t) : MemNoted os s t := by
  obtain ⟨r, rfl⟩ := ho
  exact ⟨h, ⟨r, _, _, _, _, _, rfl⟩, fun _ _ _ _ _ => State.hasEvent_of_evq rfl⟩

variable (s)

theorem memNoted_setFld (f : Fld) (v : Nat) (h : f.off ∈ os) : MemNoted os s (s.setFld f v) :=
  memNoted_of_onlyRegs (regsBut_setFld s f v os h) (onlyRegs_setFld s f v)

theorem memNoted_setFlag (f : Fld) (b : Bool) (h : f.off ∈ os) : MemNoted os s (s.setFlag f b) := memNoted_setFld s f _ h

theorem memNoted_bump (f : Fld) (h : f.off ∈ os) : MemNoted os s (s.bump f) := memNoted_setFld s f _ h

theorem memNoted_addPair (lo n : Nat) (h : lo ∈ os) (h' : lo + 4 ∈ os) : MemNoted os s (s.addPair lo n) :=
  memNoted_of_onlyRegs (regsBut_setPair s lo _ os h h') (onlyRegs_addPair s lo n)

theorem memNoted_ev (code src p0 p1 p2 : Nat) (h : evRegs ⊆ os) : MemNoted os s (s.ev code src p0 p1 p2) := by
  refine ⟨regsBut_ev s code src p0 p1 p2 os h, ?_, fun c x y z w => s.hasEvent_ev_of_hasEvent code src p0 p1 p2 c x y z w⟩
  obtain ⟨r, q, l, e⟩ := s.ev_frame code src p0 p1 p2
  exact ⟨r, q, l, s.ceHour, s.copies, s.free, e⟩

/-- The hour's counts, the copies and free values are beside the registers and the events. -/
theorem memNoted_beside (c : Tbl Nat) (k : Tbl (Nat × Nat × Nat)) (n : Nat) :
    MemNoted os s { s with ceHour := c, copies := k, free := n } :=
  ⟨fun _ _ => rfl, ⟨s.regs, s.evq, s.evLost, c, k, n, rfl⟩, fun _ _ _ _ _ => State.hasEvent_of_evq rfl⟩

theorem memNoted_each {α : Type} (xs : List α) (f : State → α → State) (h : ∀ t, ∀ x ∈ xs, MemNoted os t (f t x)) :
    MemNoted os s (s.each xs f) := by
  induction xs generalizing s with
  | nil => exact MemNoted.refl s os
  | cons x xs ih => exact (h s x List.mem_cons_self).trans (ih (f s x) fun t y hy => h t y (List.mem_cons_of_mem _ hy))

end

/-! ### Channels and seams -/

/-- Every granule is served by one of the 768 physical channels (R162). -/
theorem State.chOf_lt (g : Nat) : s.chOf g < 768 := by
  have hlc : (State.hashLc s.hashKey g).1 < 720 := Nat.mod_lt _ (by omega)
  have hphys : s.physCh (State.hashLc s.hashKey g).1 < 768 := by
    simp only [State.physCh]
    split_ifs <;> omega
  unfold State.chOf
  dsimp only
  split
  · split_ifs <;> omega
  · exact hphys

/-- Registers that the sparing of a seam's channel changes. -/
def sparingRegs (m : Nat) : List Nat := [Reg.memEventsOff, Reg.memStatusOff, Reg.memSeamOff m] ++ evRegs

theorem evRegs_subset_sparingRegs (m : Nat) : evRegs ⊆ sparingRegs m := List.subset_append_right _ _

/-- A copy to the spare of a channel's seam begins (R182, R183). -/
def State.copyBegins (s : State) (ch cause : Nat) : State :=
  ((((({ s.fresh with copies := tput s.copies (ch / 16) (ch, s.clk, 25850000 + Config.freeValue s.free % 444150001) }).setFlag
    (Reg.memSeamCopying (ch / 16)) true).setFld (Reg.memSeamPointer (ch / 16)) 0).setFlag Reg.memStatusCopying true).ev 0x0403
    (dieOfCh ch) ch cause (16 * (ch / 16) + 15))

theorem memNoted_copyBegins (ch cause : Nat) : MemNoted (sparingRegs (ch / 16)) s (s.copyBegins ch cause) :=
  ((((memNoted_beside s s.ceHour _ _).trans (memNoted_setFlag _ _ _ (by simp [sparingRegs, Reg.memSeamCopying, Reg.memSeamOff]))).trans
    (memNoted_setFld _ _ _ (by simp [sparingRegs, Reg.memSeamPointer, Reg.memSeamOff]))).trans
    (memNoted_setFlag _ _ _ (by simp [sparingRegs, Reg.memStatusCopying, Reg.memStatusOff]))).trans
    (memNoted_ev _ _ _ _ _ _ (evRegs_subset_sparingRegs _))

/-- Sparing a channel begins a copy, records that none can begin, or does nothing (R182, R188). -/
theorem State.spare_cases (ch cause : Nat) :
    s.spare ch cause = s ∨ s.spare ch cause = s.copyBegins ch cause
      ∨ ∃ why, s.spare ch cause = (s.setFlag Reg.memEventsSeamExhausted true).ev 0x0405 (dieOfCh ch) (ch / 16) ch why := by
  unfold State.spare
  dsimp only
  split_ifs
  · exact .inr (.inr ⟨1, rfl⟩)
  · exact .inl rfl
  · exact .inl rfl
  · exact .inr (.inr ⟨1, rfl⟩)
  · exact .inr (.inr ⟨2, rfl⟩)
  · exact .inr (.inl rfl)

theorem memNoted_spare (ch cause : Nat) : MemNoted (sparingRegs (ch / 16)) s (s.spare ch cause) := by
  obtain h | h | ⟨why, h⟩ := s.spare_cases ch cause <;> rw [h]
  · exact MemNoted.refl s _
  · exact memNoted_copyBegins s ch cause
  · exact (memNoted_setFlag s _ _ (by simp [sparingRegs, Reg.memEventsSeamExhausted, Reg.memEventsOff])).trans
      (memNoted_ev _ _ _ _ _ _ (evRegs_subset_sparingRegs _))

theorem memNoted_seamSync : MemNoted [Reg.memStatusOff] s s.seamSync :=
  (memNoted_setFld s Reg.memStatusNoSpare _ List.mem_cons_self).trans (memNoted_setFlag _ Reg.memStatusCopying _ List.mem_cons_self)

/-- A spare that fails leaves its seam and its own channel marked. -/
theorem memNoted_spareFails (m cause : Nat) :
    MemNoted ([Reg.memSeamOff m, Reg.memChOff (16 * m + 15)] ++ evRegs) s (s.spareFails m cause) :=
  ((memNoted_setFlag s _ _ (by simp [Reg.memSeamSpareBad, Reg.memSeamOff])).trans
    (memNoted_setFld _ _ _ (by simp [Reg.memChRole, Reg.memChOff]))).trans (memNoted_ev _ _ _ _ _ _ (List.subset_append_right _ _))

/-! ### Errors -/

/-- Registers that counting a corrected error changes. -/
def correctedRegs : List Nat :=
  [Reg.memCorrectedLoOff, Reg.memCorrectedHiOff] ++ (List.range 768).map Reg.memChOff ++ evRegs

theorem evRegs_subset_correctedRegs : evRegs ⊆ correctedRegs := List.subset_append_right _ _

theorem memChOff_mem_correctedRegs {ch : Nat} (h : ch < 768) : Reg.memChOff ch ∈ correctedRegs :=
  List.mem_append_left _ (List.mem_append_right _ (List.mem_map_of_mem (List.mem_range.2 h)))

/-- A register below the counts of errors, or above the channels' and no register of events, is left by counting. -/
theorem not_mem_correctedRegs {off : Nat} (h : off < Reg.memCorrectedLoOff ∨ Reg.memRegionStateOff 0 ≤ off) (he : off ∉ evRegs) :
    off ∉ correctedRegs := by
  simp only [Reg.memCorrectedLoOff, Reg.memRegionStateOff] at h
  simp only [correctedRegs, List.mem_append, List.mem_cons, List.not_mem_nil, or_false, List.mem_map, List.mem_range, not_or, not_exists,
    not_and, Reg.memCorrectedLoOff, Reg.memCorrectedHiOff, Reg.memChOff]
  exact ⟨⟨by omega, fun c hc => by omega⟩, he⟩

theorem memNoted_countCe (g y : Nat) : MemNoted correctedRegs s (s.countCe g y) :=
  (((memNoted_addPair s _ 1 (by simp [correctedRegs]) (by simp [correctedRegs, Reg.memCorrectedLoOff, Reg.memCorrectedHiOff])).trans
    (memNoted_bump _ _ (memChOff_mem_correctedRegs (s.chOf_lt g)))).trans (memNoted_beside _ _ _ _)).trans
    (memNoted_ev _ _ _ _ _ _ evRegs_subset_correctedRegs)

/-- Checking granules notes what it corrects (R179 to R181). -/
theorem memNoted_corrects (gs : List Nat) : MemNoted correctedRegs s (s.corrects gs) :=
  memNoted_each s _ _ fun t x _ => memNoted_countCe t x.1 x.2

/-- An uncorrectable error counted, before the sparing it starts. -/
def State.ueCounted (s : State) (g source : Nat) : State :=
  (((s.bump Reg.memUncorrectableCount).bump (Reg.memChUe (s.chOf g))).setFlag Reg.memEventsUncorrectable true).ev 0x0402
    (dieOfCh (s.chOf g)) (s.chOf g) (bits (g * 256) 39 8) (source * 2 ^ 24 + bits (g * 256) 47 40)

theorem State.countUe_eq (g source : Nat) : s.countUe g source = (s.ueCounted g source).spare (s.chOf g) 2 := rfl

/-- Registers that counting an uncorrectable error and sparing its channel change. -/
def uncorrectableRegs : List Nat :=
  [Reg.memStatusOff, Reg.memEventsOff, Reg.memUncorrectableOff] ++ (List.range 48).map Reg.memSeamOff
    ++ (List.range 768).map Reg.memChOff ++ evRegs

theorem evRegs_subset_uncorrectableRegs : evRegs ⊆ uncorrectableRegs := List.subset_append_right _ _

theorem memSeamOff_mem_uncorrectableRegs {m : Nat} (h : m < 48) : Reg.memSeamOff m ∈ uncorrectableRegs :=
  List.mem_append_left _ (List.mem_append_left _ (List.mem_append_right _ (List.mem_map_of_mem (List.mem_range.2 h))))

theorem memChOff_mem_uncorrectableRegs {ch : Nat} (h : ch < 768) : Reg.memChOff ch ∈ uncorrectableRegs :=
  List.mem_append_left _ (List.mem_append_right _ (List.mem_map_of_mem (List.mem_range.2 h)))

theorem sparingRegs_subset {m : Nat} (h : m < 48) : sparingRegs m ⊆ uncorrectableRegs := by
  intro off ho
  simp only [sparingRegs, List.mem_append, List.mem_cons, List.not_mem_nil, or_false] at ho
  obtain (rfl | rfl | rfl) | he := ho
  · simp [uncorrectableRegs]
  · simp [uncorrectableRegs]
  · exact memSeamOff_mem_uncorrectableRegs h
  · exact evRegs_subset_uncorrectableRegs he

theorem memNoted_ueCounted (g source : Nat) : MemNoted uncorrectableRegs s (s.ueCounted g source) :=
  (((memNoted_bump s _ (by simp [uncorrectableRegs, Reg.memUncorrectableCount, Reg.memUncorrectableOff])).trans
    (memNoted_bump _ _ (memChOff_mem_uncorrectableRegs (s.chOf_lt g)))).trans
    (memNoted_setFlag _ _ _ (by simp [uncorrectableRegs, Reg.memEventsUncorrectable, Reg.memEventsOff]))).trans
    (memNoted_ev _ _ _ _ _ _ evRegs_subset_uncorrectableRegs)

theorem memNoted_countUe (g source : Nat) : MemNoted uncorrectableRegs s (s.countUe g source) := by
  have hch := s.chOf_lt g
  have hseam : s.chOf g / 16 < 48 := by omega
  rw [State.countUe_eq]
  exact (memNoted_ueCounted s g source).trans ((memNoted_spare _ _ _).mono (sparingRegs_subset hseam))

/-- The count of uncorrectable errors is one more (R181). -/
theorem State.countUe_count (g source : Nat) :
    (s.countUe g source).fld Reg.memUncorrectableCount = min (s.fld Reg.memUncorrectableCount + 1) (2 ^ 32 - 1) := by
  have hch := s.chOf_lt g
  have hspare : Reg.memUncorrectableCount.off ∉ sparingRegs (s.chOf g / 16) := by
    simp only [sparingRegs, Reg.memUncorrectableCount, Reg.memEventsOff, Reg.memStatusOff, Reg.memSeamOff, evRegs, Reg.evrDroppedCount,
      Reg.evrQueueHwmF0, List.mem_append, List.mem_cons, List.not_mem_nil, or_false]
    omega
  rw [State.countUe_eq, (memNoted_spare _ _ _).regs.fld hspare, State.ueCounted, State.fld_ev _ _ _ _ _ _ _ (by decide) (by decide),
    State.setFlag, State.fld_setFld_off _ _ _ _ (by decide), State.bump, State.add,
    State.fld_setFld_off _ _ _ _ (by simp only [Reg.memUncorrectableCount, Reg.memChUe]; omega),
    State.fld_bump _ _ (by decide) (by decide)]
  rfl

theorem State.countUe_hasEvent (g source : Nat) (h : s.room 1 = true) :
    (s.countUe g source).hasEvent 0x0402 (dieOfCh (s.chOf g)) (s.chOf g) (bits (g * 256) 39 8)
      (source * 2 ^ 24 + bits (g * 256) 47 40) := by
  have hroom : (((s.bump Reg.memUncorrectableCount).bump (Reg.memChUe (s.chOf g))).setFlag Reg.memEventsUncorrectable true).room 1
      = true := (State.room_of_evq (by simp) 1).trans h
  exact (memNoted_spare _ _ _).events _ _ _ _ _ (State.hasEvent_ev _ _ _ _ _ _ hroom)

/-- The count of corrected errors is one more (R181). -/
theorem State.countCe_count (g y : Nat) :
    (s.countCe g y).pair Reg.memCorrectedLoOff = min (s.pair Reg.memCorrectedLoOff + 1) (2 ^ 64 - 1) := by
  have hch := s.chOf_lt g
  have hev : ∀ (t : State) (p0 p1 p2 p3 p4 : Nat), (t.ev p0 p1 p2 p3 p4).pair Reg.memCorrectedLoOff = t.pair Reg.memCorrectedLoOff :=
    fun t p0 p1 p2 p3 p4 => by
      rw [State.pair, regsBut_evRegs _ _ _ _ _ _ _ (by decide), regsBut_evRegs _ _ _ _ _ _ _ (by decide), State.pair]
  obtain ⟨hlo, hhi⟩ : Reg.memCorrectedLoOff ≠ (Reg.memChCe (s.chOf g)).off ∧ Reg.memCorrectedLoOff + 4 ≠ (Reg.memChCe (s.chOf g)).off := by
    simp only [Reg.memChCe, Reg.memCorrectedLoOff]
    omega
  have hbump : ((s.addPair Reg.memCorrectedLoOff 1).bump (Reg.memChCe (s.chOf g))).pair Reg.memCorrectedLoOff
      = (s.addPair Reg.memCorrectedLoOff 1).pair Reg.memCorrectedLoOff := State.pair_setFld_ne _ _ _ _ hlo hhi
  rw [State.countCe, hev, ← s.pair_addPair, ← hbump]
  exact State.pair_of_regs (by rfl) _

theorem State.countCe_hasEvent (g y : Nat) (h : s.room 1 = true) :
    (s.countCe g y).hasEvent 0x0401 (dieOfCh (s.chOf g)) (s.chOf g) (g / 720) y :=
  State.hasEvent_ev _ _ _ _ _ _ ((State.room_of_evq (by simp) 1).trans h)

end Sys2Proof.Machine
end

section
/-! SUPPORT. Requests to memory outside a rick: what they may reach, and what a read, a write and an atomic operation leave where no
granule is beyond correction (R165 to R180). -/

namespace Sys2Proof.Machine

/-! ### What may be reached (R165, R167) -/

section
variable {s t : State} {w : Who} {write : Bool} {a : Nat}

/-- Outside a rick, main memory is reached by the rights of its region alone. -/
theorem State.reach_of_no_rick (hrick : s.rickOn = false) (ha : a < memTop) :
    s.reach w write a = if s.rights w write a = true then .ok else .access := by
  have hlog : s.inLog a = false := by simp only [State.inLog, hrick, Bool.false_and]
  have hunit : s.unitAt a = none := by simp only [State.unitAt, hrick, Bool.false_and, Bool.false_eq_true, if_false]
  simp only [State.reach, mapped, ha, hlog, hunit, decide_true, if_true, ite_not, Bool.false_and, Bool.false_eq_true, if_false,
    Option.isSome_none]

/-- A session reaches main memory alone. -/
theorem State.lt_memTop_of_host {j : Nat} (h : s.reach (.host j) write a = .ok) : a < memTop := by
  by_contra ha
  have hmapped : mapped a = false := by simpa [mapped] using ha
  simp only [State.reach, hmapped, Bool.false_eq_true, if_false] at h
  split at h <;> simp_all

/-- Counting corrected errors changes no rights. -/
theorem RegsBut.rights (h : RegsBut s t correctedRegs) (ha : a < memTop) : t.rights w write a = s.rights w write a := by
  have hregion : regionOf a < 1342 := by
    simp only [regionOf, regionSize, memTop] at ha ⊢
    omega
  have hstate : t.fld (Reg.memRegionStateState (regionOf a)) = s.fld (Reg.memRegionStateState (regionOf a)) := by
    refine h.fld (not_mem_correctedRegs (.inr ?_) (not_mem_evRegs (.inl ?_)))
    all_goals
      simp only [Reg.memRegionStateState, Reg.memRegionStateOff, Reg.evrDroppedCount]
      omega
  have hjob : t.fld (Reg.memRegionJobJob (regionOf a)) = s.fld (Reg.memRegionJobJob (regionOf a)) := by
    refine h.fld (not_mem_correctedRegs (.inr ?_) (not_mem_evRegs (.inl ?_)))
    all_goals
      simp only [Reg.memRegionJobJob, Reg.memRegionStateOff, Reg.evrDroppedCount]
      omega
  have hshort : t.flag Reg.memStatusShortSeam = s.flag Reg.memStatusShortSeam :=
    h.flag (not_mem_correctedRegs (.inl (by decide)) (by decide))
  simp only [State.rights, hstate, hjob, hshort]

theorem RegsBut.rickOn (h : RegsBut s t correctedRegs) : t.rickOn = s.rickOn := by
  rw [State.rickOn, h.fld (not_mem_correctedRegs (.inr (by decide)) (by decide)), State.rickOn]

theorem RegsBut.reach (h : RegsBut s t correctedRegs) (hrick : s.rickOn = false) (ha : a < memTop) :
    t.reach w write a = s.reach w write a := by
  rw [State.reach_of_no_rick (h.rickOn.trans hrick) ha, State.reach_of_no_rick hrick ha, h.rights ha]

/-- Outside a rick, what is reached in a page is reached in all of it. -/
theorem State.reach_of_page {b : Nat} (hrick : s.rickOn = false) (ha : a < memTop) (hb : b < memTop) (h : b / 4096 = a / 4096) :
    s.reach w write b = s.reach w write a := by
  have hregion : regionOf b = regionOf a := by
    simp only [regionOf, regionSize]
    omega
  have hlow : (b < 2 ^ 28) = (a < 2 ^ 28) := propext (by omega)
  have hrights : s.rights w write b = s.rights w write a := by simp only [State.rights, hregion, hlow]
  rw [State.reach_of_no_rick hrick hb, State.reach_of_no_rick hrick ha, hrights]

end

/-! ### The form of a request (R169) -/

theorem formOf_ok_iff {a n : Nat} :
    formOf a n = .ok ↔ n ≤ 4096 ∧ n ≠ 0 ∧ n % 64 = 0 ∧ a % 64 = 0 ∧ a / 4096 = (a + n - 1) / 4096 := by
  unfold formOf
  split_ifs with h1 h2
  · exact iff_of_false (by decide) (by omega)
  · exact iff_of_false (by decide) (by omega)
  · exact iff_of_true rfl (by omega)

theorem spanForm_ok_iff {a n : Nat} : spanForm a n = .ok ↔ n ≤ 8192 ∧ n ≠ 0 ∧ n % 64 = 0 ∧ a % 64 = 0 := by
  unfold spanForm
  split_ifs with h1 h2
  · exact iff_of_false (by decide) (by omega)
  · exact iff_of_false (by decide) (by omega)
  · exact iff_of_true rfl (by omega)

/-- A well-formed request of main memory lies in it whole. -/
theorem top_of_formOf {a n : Nat} (h : formOf a n = .ok) (ha : a < memTop) : a + n ≤ memTop := by
  obtain ⟨-, -, -, -, hpage⟩ := formOf_ok_iff.1 h
  simp only [memTop] at ha ⊢
  omega

theorem lt_sramBase {a : Nat} (h : a < memTop) : a < sramBase := h.trans_le (by decide)

/-- A well-formed request of sound memory that its requester reaches at its first byte may write each byte. -/
theorem State.writable_of_formOf {s : State} {w : Who} {a n : Nat} (h : formOf a n = .ok) (ha : a < memTop) (hrick : s.rickOn = false)
    (hsound : s.sound a n = true) (hreach : s.reach w true a = .ok) : s.Writable w a n := by
  have htop := top_of_formOf h ha
  obtain ⟨-, -, -, -, hpage⟩ := formOf_ok_iff.1 h
  refine ⟨htop, hrick, hsound, fun b hlo hhi => ?_⟩
  rw [State.reach_of_page hrick ha (hhi.trans_le htop) (by omega), hreach]

/-! ### Reads -/

section
variable {s : State} {a n : Nat}

theorem State.not_faint_of_sound (h : s.sound a n = true) : ∀ y ∈ s.faint, (granules a n).contains y.1 = false := by
  intro y hy
  rw [← Bool.not_eq_true, List.contains_iff_mem]
  exact fun hg => (State.sound_iff.1 h _ hg).2 y hy rfl

theorem State.badIn_of_sound (h : s.sound a n = true) : s.badIn a n = [] :=
  List.filter_eq_nil_iff.2 fun g hg => by simpa [State.isBad] using (State.sound_iff.1 h g hg).1

/-- A read that meets no granule beyond correction answers the bytes. -/
theorem State.readBytes_of_correctable (ha : a < sramBase) (hbad : s.badIn a n = []) :
    s.readBytes a n = ((s.burst (granules a n)).corrects (granules a n), .ok, s.mem.read a n) := by
  simp only [State.readBytes, State.readAs, if_neg (not_le.2 ha), hbad, List.isEmpty_nil, if_true, State.bytes, if_pos ha]

/-- A read of sound memory corrects nothing. -/
theorem State.corrects_of_sound (h : s.sound a n = true) :
    (s.burst (granules a n)).corrects (granules a n) = s.burst (granules a n) :=
  State.corrects_of_not_faint (s := s.burst (granules a n)) _ (State.not_faint_of_sound h)

end

/-! ### Writes -/

/-- From `s` to `t` some bytes have been written to memory: beside them nothing has changed but the symbols in error, the demand
bursts, and what counting corrected errors changes. -/
structure MemWritten (s t : State) (a : Nat) (bs : List Byte) : Prop where
  mem : t.mem = s.mem.write a bs
  bad : t.badGranules ⊆ s.badGranules
  regs : RegsBut s t correctedRegs
  frame : ∃ r q l c k n m b f d, t = { s with regs := r, evq := q, evLost := l, ceHour := c, copies := k, free := n, mem := m
                                              badGranules := b, faint := f, bursts := d }

/-- The `n` bytes from a lie in main memory, no rick is formed, no granule of them is beyond correction, and the requester may write
each. -/
structure State.Storable (s : State) (w : Who) (a n : Nat) : Prop where
  top : a + n ≤ memTop
  rick : s.rickOn = false
  correctable : s.badIn a n = []
  reach : ∀ b, a ≤ b → b < a + n → s.reach w true b = .ok

section
variable {s t u : State} {w : Who} {a n : Nat}

theorem MemWritten.nil : MemWritten s s a [] :=
  ⟨rfl, List.Subset.refl _, fun _ _ => rfl, _, _, _, _, _, _, _, _, _, _, rfl⟩

theorem MemWritten.trans {bs cs : List Byte} (h : MemWritten s t a bs) (h' : MemWritten t u (a + bs.length) cs) :
    MemWritten s u a (bs ++ cs) where
  mem := by rw [h'.mem, h.mem, Memory.write_append]
  bad := List.Subset.trans h'.bad h.bad
  regs := h.regs.trans h'.regs
  frame := by
    obtain ⟨_, _, _, _, _, _, _, _, _, _, e⟩ := h.frame
    obtain ⟨r, q, l, c, k, n, m, b, f, d, e'⟩ := h'.frame
    exact ⟨r, q, l, c, k, n, m, b, f, d, by rw [e', e]⟩

theorem MemWritten.inProg {bs : List Byte} (h : MemWritten s t a bs) : t.inProg = s.inProg := by
  obtain ⟨_, _, _, _, _, _, _, _, _, _, e⟩ := h.frame
  rw [e]

theorem State.badIn_eq_nil_iff : s.badIn a n = [] ↔ ∀ g ∈ granules a n, g ∉ s.badGranules := by
  simp only [State.badIn, List.filter_eq_nil_iff, State.isBad, List.contains_iff_mem]

theorem State.Storable.mono {b m : Nat} (h : s.Storable w a n) (hlo : a ≤ b) (hhi : b + m ≤ a + n) : s.Storable w b m where
  top := le_trans hhi h.top
  rick := h.rick
  correctable := State.badIn_eq_nil_iff.2 fun g hg => State.badIn_eq_nil_iff.1 h.correctable g (granules_subset hlo hhi hg)
  reach c h1 h2 := h.reach c (by omega) (by omega)

/-- What could be stored can be stored after another write. -/
theorem State.Storable.after {b : Nat} {bs : List Byte} (h : s.Storable w a n) (hst : MemWritten s t b bs) : t.Storable w a n where
  top := h.top
  rick := hst.regs.rickOn.trans h.rick
  correctable := State.badIn_eq_nil_iff.2 fun g hg hx => State.badIn_eq_nil_iff.1 h.correctable g hg (hst.bad hx)
  reach c h1 h2 := by rw [hst.regs.reach h.rick (h2.trans_le h.top), h.reach c h1 h2]

/-- A write that meets no granule beyond correction answers OK and leaves the bytes. -/
theorem State.writeBytes_of_correctable {bs : List Byte} (ha : a < sramBase) (hbad : s.badIn a bs.length = []) :
    (s.writeBytes a bs).2 = .ok ∧ MemWritten s (s.writeBytes a bs).1 a bs := by
  obtain ⟨v, hv⟩ : ∃ v, v = (s.burst (granules a bs.length)).corrects ((granules a bs.length).filter fun g => ! covered a bs.length g) :=
    ⟨_, rfl⟩
  have hnoted : MemNoted correctedRegs (s.burst (granules a bs.length)) v := hv ▸ memNoted_corrects _ _
  have hmem : v.mem = s.mem := hnoted.mem
  have hbads : v.badGranules = s.badGranules := hnoted.badGranules
  have hregs : RegsBut s v correctedRegs := hnoted.regs
  obtain ⟨r, q, l, c, k, n, e⟩ := hnoted.frame
  unfold State.writeBytes
  simp only [if_pos ha, hbad, ← hv, List.filter_nil, List.isEmpty_nil, if_true, State.store, State.each, List.foldl_nil]
  exact ⟨trivial, by rw [hmem], by rw [hbads]; exact List.filter_subset_self _, hregs, r, q, l, c, k, n, _, _, _, _, by rw [e]; rfl⟩

variable {bs : List Byte}

theorem savePiece_storable {b k : Nat} (hk : 0 < k) (hlen : b - a + k ≤ bs.length) (h : s.Storable w b k) :
    (savePiece w a bs (s, .ok) (b, k)).2 = .ok
      ∧ MemWritten s (savePiece w a bs (s, .ok) (b, k)).1 b ((bs.drop (b - a)).take k) := by
  have hl : ((bs.drop (b - a)).take k).length = k := by
    rw [List.length_take, List.length_drop]
    omega
  have hlow : b < sramBase := lt_sramBase (by have := h.top; omega)
  simp only [savePiece, h.reach b (le_refl b) (by omega), State.logFirst_of_no_rick h.rick, if_true]
  exact State.writeBytes_of_correctable hlow (by rw [hl]; exact h.correctable)

/-- The requests that are left store the bytes that are left. -/
theorem foldl_savePiece_storable (fuel b n : Nat) (hlo : a ≤ b) (hn : b + n = a + bs.length) (hf : n = 0 ∨ b % 4096 + n ≤ 4096 * fuel)
    (h : s.Storable w b n) :
    ((pieces fuel b n).foldl (savePiece w a bs) (s, .ok)).2 = .ok
      ∧ MemWritten s ((pieces fuel b n).foldl (savePiece w a bs) (s, .ok)).1 b (bs.drop (b - a)) := by
  have hend : n = 0 → bs.drop (b - a) = [] := fun h0 => List.drop_eq_nil_of_le (by omega)
  induction fuel generalizing s b n with
  | zero =>
    rw [hend (by omega)]
    exact ⟨rfl, MemWritten.nil⟩
  | succ fuel ih =>
    rw [pieces]
    split_ifs with h0
    · rw [hend h0]
      exact ⟨rfl, MemWritten.nil⟩
    · obtain ⟨k, hk⟩ : ∃ k, k = min n (4096 - b % 4096) := ⟨_, rfl⟩
      obtain ⟨hok, hst⟩ := savePiece_storable (a := a) (bs := bs) (by omega : 0 < k) (by omega) (h.mono (le_refl b) (by omega))
      obtain ⟨v, hv⟩ : ∃ v, savePiece w a bs (s, .ok) (b, k) = (v, .ok) := ⟨_, Prod.ext rfl hok⟩
      rw [hv] at hst
      obtain ⟨hok', hst'⟩ := ih (s := v) (b + k) (n - k) (by omega) (by omega) (by omega)
        ((h.mono (by omega) (by omega)).after hst) fun h1 => List.drop_eq_nil_of_le (by omega)
      have hl : ((bs.drop (b - a)).take k).length = k := by
        rw [List.length_take, List.length_drop]
        omega
      have hrest : bs.drop (b - a) = (bs.drop (b - a)).take k ++ bs.drop (b + k - a) := by
        rw [show b + k - a = b - a + k by omega, ← List.drop_drop, List.take_append_drop]
      simp only [← hk, List.foldl_cons, hv]
      rw [hrest]
      exact ⟨hok', hst.trans (by rw [hl]; exact hst')⟩

/-- Bytes written where the requester may write are all stored. -/
theorem State.save_storable (h : s.Storable w a bs.length) : (s.save w a bs).2 = .ok ∧ MemWritten s (s.save w a bs).1 a bs := by
  have hall := foldl_savePiece_storable (a := a) (bs := bs) (bs.length / 4096 + 2) a bs.length (le_refl a) rfl (.inr (by omega)) h
  rwa [Nat.sub_self, List.drop_zero, ← State.save_eq] at hall

end

/-! ### Atomic operations (R175) -/

section
variable {s : State} {w : Who} {a op size : Nat} {operands : List Byte}

/-- What a granule that is read, changed and written anew leaves beside its own symbols. -/
theorem State.rewrites_frame {g : Nat} (hbad : s.isBad g = false) :
    ∃ v, MemNoted correctedRegs (s.burst [g]) v ∧ s.rewrites g = { v with faint := v.faint.filter fun x => x.1 != g } := by
  refine ⟨_, memNoted_corrects _ [g], ?_⟩
  rw [State.rewrites, hbad]
  rfl

/-- A sound granule is written anew with nothing to correct. -/
theorem State.rewrites_of_sound {g n : Nat} (hg : g ∈ granules a n) (h : s.sound a n = true) : s.rewrites g = s.burst [g] := by
  obtain ⟨hbad, hfaint⟩ := State.sound_iff.1 h g hg
  have hnone : (s.burst [g]).corrects [g] = s.burst [g] := State.corrects_of_not_faint _ _ fun y hy => by
    rw [← Bool.not_eq_true, List.contains_iff_mem, List.mem_singleton]
    exact hfaint y hy
  have hkept : (s.burst [g]).faint.filter (fun x => x.1 != g) = (s.burst [g]).faint :=
    List.filter_eq_self.2 fun y hy => bne_iff_ne.2 (hfaint y hy)
  rw [State.rewrites, hnone, if_neg (by simpa [State.isBad] using hbad), hkept]

theorem atomicSizes_pos (h : (atomicSizes op).contains size = true) : 0 < size := by
  rw [List.contains_iff_mem] at h
  unfold atomicSizes at h
  split at h <;> simp at h <;> omega

/-- An atomic operation of an allowed size and place, on a granule that can be read, answers the old value and stores the new. -/
theorem State.serve_atomic {old v : Nat} {f : Flags} (hsize : (atomicSizes op).contains size = true) (halign : a % size = 0)
    (ha : a < memTop) (hreach : s.reach w true a = .ok) (hrick : s.rickOn = false) (hbad : s.isBad (granule a) = false)
    (hold : old = leNat (s.mem.read a size)) (hres : atomicResult op size old operands = (v, f)) :
    s.serve w a (.atomic op size operands)
      = ({ s.rewrites (granule a) with mem := s.mem.write a (natLe size v) }, ⟨.ok, f, natLe 32 old⟩) := by
  have hmapped : mapped a = true := by simpa [mapped] using ha
  simp only [State.serve, hsize, halign, hmapped, hreach, hbad, State.logFirst_of_no_rick hrick, ← hold, hres, not_true_eq_false, ne_eq,
    if_false, if_true, Bool.false_eq_true]

/-- What an atomic operation leaves in memory: the new value in its cell, and every other byte. -/
theorem Memory.write_natLe (m : Memory) (a size v : Nat) :
    Memory.read (Memory.write m a (natLe size v)) a size = natLe size v
      ∧ ∀ b, b < a ∨ a + size ≤ b → Memory.byte (Memory.write m a (natLe size v)) b = Memory.byte m b := by
  have hread := Memory.read_write_same m a (natLe size v)
  rw [natLe_length] at hread
  exact ⟨hread, fun b hb => Memory.byte_write_ne m a b _ (by rwa [natLe_length])⟩

end

end Sys2Proof.Machine
end

section
/-! Memory commands of hosts, and requests of the units of this module (R165, R167, R169, R175, R390). -/

namespace Sys2Proof.Machine

/-! ### MEM_WRITE and MEM_READ -/

section
variable {s g : State} {o : Origin} {addr a : Nat} (hp : s.powered = true) (hg : g = s.arbGrant) (ha : g.hostAddr addr = some a)
include hp hg ha

theorem exec_memWrite {data : List Byte} (ht : g.takes o 0x21 = true) (hform : spanForm a data.length = .ok) :
    exec (.memWrite o addr data.length data) s
      = .next (State.latch s (((g.begun o 0x21).save (g.hostWho o) a data).1.finish o ((g.begun o 0x21).save (g.hostWho o) a data).2)) := by
  subst hg
  have hbody : State.doMemWrite o addr data.length data (s.arbGrant.begun o 0x21)
      = ((s.arbGrant.begun o 0x21).save (s.arbGrant.hostWho o) a data).1.finish o
          ((s.arbGrant.begun o 0x21).save (s.arbGrant.hostWho o) a data).2 := by
    have haddr : (s.arbGrant.begun o 0x21).hostAddr addr = some a := ha
    rw [State.doMemWrite, if_neg (by simp), haddr]
    simp only [hform]
    rfl
  rw [← hbody]
  exact s.granted_hostCmd o 0x21 _ hp ht

theorem memWrite_stores {data : List Byte} (ht : g.takes o 0x21 = true) (hform : spanForm a data.length = .ok) (hrick : g.rickOn = false)
    (hbad : g.badIn a data.length = []) (hreach : ∀ b, a ≤ b → b < a + data.length → g.reach (g.hostWho o) true b = .ok) :
    ∃ t, exec (.memWrite o addr data.length data) s = .next t ∧ t.result o 0x21 .ok {} [] []
      ∧ (∀ i, i < data.length → Memory.byte t.mem (a + i) = data.getD i 0)
      ∧ (∀ b, b < a ∨ a + data.length ≤ b → Memory.byte t.mem b = Memory.byte s.mem b)
      ∧ (g.sound a data.length = true →
          t = { g with mem := t.mem, inProg := t.inProg, badGranules := t.badGranules, faint := t.faint, bursts := t.bursts
                       latches := t.latches, outSeq := t.outSeq }) := by
  have hexec := exec_memWrite hp hg ha ht hform
  have htop : a + data.length ≤ memTop := by
    obtain ⟨-, hpos, -⟩ := spanForm_ok_iff.1 hform
    have hlast := State.lt_memTop_of_host (hreach (a + data.length - 1) (by omega) (by omega))
    omega
  have hstore : (g.begun o 0x21).Storable (g.hostWho o) a data.length := ⟨htop, hrick, hbad, hreach⟩
  have hsave := State.save_storable hstore
  have hframe : g.sound a data.length = true → MemStored (g.begun o 0x21) ((g.begun o 0x21).save (g.hostWho o) a data).1 a data :=
    fun hs => (State.save_writable (s := g.begun o 0x21) ⟨htop, hrick, hs, hreach⟩).2
  have hmem : (g.begun o 0x21).mem = s.mem := by rw [hg, State.begun, State.arbGrant_mem]
  obtain ⟨u, hu⟩ : ∃ u, u = ((g.begun o 0x21).save (g.hostWho o) a data).1 := ⟨_, rfl⟩
  rw [← hu] at hexec hsave hframe
  obtain ⟨hok, hst⟩ := hsave
  rw [hok] at hexec
  obtain ⟨hres, heq⟩ := latch_finish s u _ o 0x21 .ok {} [] [] (by rw [hst.inProg]; exact g.mem_begun o 0x21) rfl
  have hbytes : (State.latch s (u.finish o .ok)).mem = s.mem.write a data := by
    rw [← hmem, ← hst.mem]
    exact State.latch_mem _ _
  refine ⟨_, hexec, hres, fun i hi => ?_, fun b hb => ?_, fun hs => ?_⟩
  · rw [hbytes, Memory.byte_write_add _ _ _ _ hi]
  · rw [hbytes, Memory.byte_write_ne _ _ _ _ hb]
  · obtain ⟨m, b, f, d, e⟩ : ∃ m b f d, u = { g.begun o 0x21 with mem := m, badGranules := b, faint := f, bursts := d } :=
      ⟨_, _, _, _, (hframe hs).frame⟩
    generalize State.latch s (u.finish o .ok) = t at heq ⊢
    rw [e] at heq
    rw [heq]
    rfl

theorem memRead_answers {n : Nat} (ht : g.takes o 0x20 = true) (hsnap : inSnapArea a n = false) (hform : spanForm a n = .ok)
    (hbad : g.badIn a n = []) (hreach : g.reachAll (g.hostWho o) false a n = .ok) (hlow : a < sramBase) :
    ∃ t, exec (.memRead o addr n) s = .next t ∧ t.result o 0x20 .ok {} [] (s.mem.read a n) ∧ t.mem = s.mem
      ∧ (g.sound a n = true →
          t = { g with inProg := t.inProg, bursts := t.bursts, latches := t.latches, outSeq := t.outSeq }) := by
  subst hg
  obtain ⟨u, hu⟩ : ∃ u, u = ((s.arbGrant.begun o 0x20).burst (granules a n)).corrects (granules a n) := ⟨_, rfl⟩
  have hnoted : MemNoted correctedRegs ((s.arbGrant.begun o 0x20).burst (granules a n)) u := hu ▸ memNoted_corrects _ _
  have hmem : u.mem = s.mem := hnoted.mem.trans s.arbGrant_mem
  have hread : (s.arbGrant.begun o 0x20).load (s.arbGrant.hostWho o) a n = (u, .ok, s.mem.read a n) := by
    have hall : (s.arbGrant.begun o 0x20).reachAll (s.arbGrant.hostWho o) false a n = .ok := hreach
    rw [State.load, hall]
    dsimp only
    rw [State.readBytes_of_correctable (s := s.arbGrant.begun o 0x20) hlow hbad, ← hu, State.begun, State.arbGrant_mem]
  have hbody : State.doMemRead o addr n (s.arbGrant.begun o 0x20) = u.finish o .ok {} [] (s.mem.read a n) := by
    have haddr : (s.arbGrant.begun o 0x20).hostAddr addr = some a := ha
    have hwho : (s.arbGrant.begun o 0x20).hostWho o = s.arbGrant.hostWho o := rfl
    rw [State.doMemRead, haddr]
    simp only [hform, hsnap, Bool.false_eq_true, if_false, hwho, hread]
  have hexec : exec (.memRead o addr n) s = .next (State.latch s (u.finish o .ok {} [] (s.mem.read a n))) := by
    have e : exec (.memRead o addr n) s = execMemRead o addr n s := rfl
    rw [e, execMemRead, s.granted_powered _ hp, State.hostCmd_takes _ _ _ _ _ _ (by simp only [ha, hsnap]; exact ht), hbody]
  obtain ⟨hres, heq⟩ := latch_finish s u _ o 0x20 .ok {} [] (s.mem.read a n) (by rw [hnoted.inProg]; exact s.arbGrant.mem_begun o 0x20) rfl
  refine ⟨_, hexec, hres, (State.latch_mem _ _).trans hmem, fun hs => ?_⟩
  have hquiet : u = (s.arbGrant.begun o 0x20).burst (granules a n) := hu.trans (State.corrects_of_sound (s := s.arbGrant.begun o 0x20) hs)
  generalize State.latch s _ = t at heq ⊢
  rw [hquiet] at heq
  rw [heq]
  rfl

end

/-- Settles O15: a write by the requests it is made of, a read by the granules it meets. -/
theorem hostMemoryCommands : Obligations.HostMemoryCommands := by
  unfold Obligations.HostMemoryCommands
  refine ⟨fun o addr a data s hp ht ha hform hrick hbad hreach => ?_, fun o addr a n s hp ht ha hsnap hform hbad hreach hlow => ?_⟩
  · have hbad' : s.arbGrant.badIn a data.length = [] := by
      simpa only [State.badIn_eq_nil_iff, State.arbGrant_badGranules] using hbad
    obtain ⟨t, hexec, hres, hin, hout, hframe⟩ := memWrite_stores hp rfl ha ht hform hrick hbad' hreach
    refine ⟨t, hexec, hres, hin, hout, fun hs => hframe ?_⟩
    simpa only [State.sound_iff, State.arbGrant_badGranules, State.arbGrant_faint] using hs
  · have hbad' : s.arbGrant.badIn a n = [] := by
      simpa only [State.badIn_eq_nil_iff, State.arbGrant_badGranules] using hbad
    obtain ⟨t, hexec, hres, hmem, hframe⟩ := memRead_answers hp rfl ha ht hsnap hform hbad' hreach hlow
    refine ⟨t, hexec, hres, hmem, fun hs => hframe ?_⟩
    simpa only [State.sound_iff, State.arbGrant_badGranules, State.arbGrant_faint] using hs

/-! ### Requests of units -/

theorem State.weaken_nothing (s : State) : s.weaken [] [] = s := by
  have hnil : s.badGranules ++ (([] : List Nat).eraseDups.filter fun g => mapped (256 * g + 255) && ! s.isBad g) = s.badGranules :=
    List.append_nil _
  rw [State.weaken, hnil]
  rfl

/-- A request whose granules have not gone bad is served and answered. -/
theorem exec_memoryRequest {s : State} (hp : s.powered = true) (w : Agent) (a : Nat) (m : MemOp) :
    exec (.memoryRequest w a m [] []) s
      = .next ((s.serve w a m).1.send (.memory w a (s.serve w a m).2.status (s.serve w a m).2.flags (s.serve w a m).2.data)) := by
  have e : exec (.memoryRequest w a m [] []) s = execMemoryRequest w a m [] [] s := rfl
  rw [e, execMemoryRequest, s.does_powered _ hp, State.localRequest]
  simp only [List.filter_nil, State.weaken_nothing]

section
variable {s : State} {w : Agent} {a : Nat} (hp : s.powered = true)
include hp

theorem memoryRequest_writes {data : List Byte} (hform : formOf a data.length = .ok) (ha : a < memTop) (hreach : s.reach w true a = .ok)
    (hrick : s.rickOn = false) (hbad : s.badIn a data.length = []) :
    ∃ t, exec (.memoryRequest w a (.write data) [] []) s = .next t ∧ .memory w a .ok {} [] ∈ t.wire
      ∧ (∀ i, i < data.length → Memory.byte t.mem (a + i) = data.getD i 0)
      ∧ (∀ b, b < a ∨ a + data.length ≤ b → Memory.byte t.mem b = Memory.byte s.mem b)
      ∧ (s.sound a data.length = true →
          t = { s with mem := t.mem, wire := t.wire, badGranules := t.badGranules, faint := t.faint, bursts := t.bursts }) := by
  have hserve : s.serve w a (.write data) = ((s.writeBytes a data).1, ⟨(s.writeBytes a data).2, {}, []⟩) := by
    simp only [State.serve, hform, hreach, State.logFirst_of_no_rick hrick]
  have hwrite := State.writeBytes_of_correctable (lt_sramBase ha) hbad
  have hframe : s.sound a data.length = true → MemStored s (s.writeBytes a data).1 a data := fun hs =>
    (State.writeBytes_writable (State.writable_of_formOf hform ha hrick hs hreach)).2
  have hexec := exec_memoryRequest hp w a (.write data)
  obtain ⟨u, hu⟩ : ∃ u, u = (s.writeBytes a data).1 := ⟨_, rfl⟩
  rw [← hu] at hserve hwrite hframe
  obtain ⟨hok, hst⟩ := hwrite
  rw [hserve, hok] at hexec
  have hbytes : (u.send (.memory w a .ok {} [])).mem = s.mem.write a data := hst.mem
  refine ⟨_, hexec, List.mem_append_right _ List.mem_cons_self, fun i hi => ?_, fun b hb => ?_, fun hs => ?_⟩
  · rw [hbytes, Memory.byte_write_add _ _ _ _ hi]
  · rw [hbytes, Memory.byte_write_ne _ _ _ _ hb]
  · obtain ⟨m, b, f, d, e⟩ : ∃ m b f d, u = { s with mem := m, badGranules := b, faint := f, bursts := d } :=
      ⟨_, _, _, _, (hframe hs).frame⟩
    rw [e]
    rfl

theorem memoryRequest_reads {n : Nat} (hform : formOf a n = .ok) (ha : a < memTop) (hreach : s.reach w false a = .ok)
    (hbad : s.badIn a n = []) :
    ∃ t, exec (.memoryRequest w a (.read n) [] []) s = .next t ∧ .memory w a .ok {} (s.mem.read a n) ∈ t.wire ∧ t.mem = s.mem
      ∧ (s.sound a n = true → t = { s with wire := t.wire, bursts := t.bursts }) := by
  have hserve : s.serve w a (.read n) = ((s.burst (granules a n)).corrects (granules a n), ⟨.ok, {}, s.mem.read a n⟩) := by
    simp only [State.serve, hform, hreach, State.readBytes_of_correctable (lt_sramBase ha) hbad]
  have hexec := exec_memoryRequest hp w a (.read n)
  rw [hserve] at hexec
  refine ⟨_, hexec, List.mem_append_right _ List.mem_cons_self, (memNoted_corrects _ _).mem, fun hs => ?_⟩
  dsimp only
  rw [State.corrects_of_sound hs]
  rfl

/-- A request that is not well formed is answered its fault, and nothing else happens. -/
theorem memoryRequest_refused {data : List Byte} (hform : formOf a data.length ≠ .ok) :
    exec (.memoryRequest w a (.write data) [] []) s = .next (s.send (.memory w a (formOf a data.length) {} [])) := by
  have hserve : s.serve w a (.write data) = (s, ⟨formOf a data.length, {}, []⟩) := by
    rw [State.serve]
    split
    · contradiction
    · rfl
  rw [exec_memoryRequest hp, hserve]

end

/-- Settles O17: a write and a read by the granules they touch, a malformed request by its form. -/
theorem memoryRequests : Obligations.MemoryRequests := by
  unfold Obligations.MemoryRequests
  exact ⟨fun w a data s hp hform ha hreach hrick hbad => memoryRequest_writes hp hform ha hreach hrick hbad,
    fun w a n s hp hform ha hreach hbad => memoryRequest_reads hp hform ha hreach hbad,
    fun w a data s hp hform => memoryRequest_refused hp hform⟩

/-! ### Atomic operations (R175) -/

section
variable {s : State} {a op size old v : Nat} {operands : List Byte} {f : Flags} (hp : s.powered = true)
  (hsize : (atomicSizes op).contains size = true) (halign : a % size = 0) (ha : a < memTop)
  (hold : old = leNat (s.mem.read a size)) (hr : atomicResult op size old operands = (v, f))
include hp hsize halign ha hold hr

theorem memAtomic_answers {o : Origin} {addr : Nat} (ht : s.arbGrant.takes o 0x22 = true) (hlen : operands.length = 32)
    (haddr : s.arbGrant.hostAddr addr = some a) (hreach : s.arbGrant.reach (s.arbGrant.hostWho o) true a = .ok)
    (hrick : s.arbGrant.rickOn = false) (hbad : s.isBad (granule a) = false) :
    ∃ t, exec (.memAtomic o addr op size operands) s = .next t ∧ t.result o 0x22 .ok f [] (natLe 32 old)
      ∧ t.mem = s.mem.write a (natLe size v) := by
  obtain ⟨b, hb⟩ : ∃ b, b = s.arbGrant.begun o 0x22 := ⟨_, rfl⟩
  have hmem : b.mem = s.mem := by rw [hb, State.begun, State.arbGrant_mem]
  have hbad' : b.isBad (granule a) = false := by rwa [State.isBad, hb, State.begun, State.arbGrant_badGranules, ← State.isBad]
  have hserve := State.serve_atomic (s := b) (w := s.arbGrant.hostWho o) hsize halign ha (by rw [hb]; exact hreach)
    (by rw [hb]; exact hrick) hbad' (by rw [hmem]; exact hold) hr
  obtain ⟨x, hnoted, hx⟩ := State.rewrites_frame hbad'
  have hprog : x.inProg = s.arbGrant.inProg ++ [⟨o, 0x22, none⟩] := by
    rw [hnoted.inProg, hb]
    rfl
  rw [hx, hmem] at hserve
  have hbody : State.doMemAtomic o addr op size operands b = (b.serve (s.arbGrant.hostWho o) a (.atomic op size operands)).1.finish o
      .ok f [] (natLe 32 old) := by
    have haddr' : b.hostAddr addr = some a := by rw [hb]; exact haddr
    have hwho : b.hostWho o = s.arbGrant.hostWho o := by rw [hb]; rfl
    rw [State.doMemAtomic, if_neg (by simp [hlen]), haddr']
    simp only [hwho, hserve]
  have hexec : exec (.memAtomic o addr op size operands) s = .next (State.latch s (State.doMemAtomic o addr op size operands b)) :=
    hb ▸ s.granted_hostCmd o 0x22 _ hp ht
  rw [hbody, hserve] at hexec
  refine ⟨_, hexec, ?_, (State.latch_mem _ _).trans rfl⟩
  exact (latch_finish s _ _ o 0x22 .ok f [] _ (hprog ▸ List.mem_append_right _ List.mem_cons_self) rfl).1

theorem memoryRequest_atomic {w : Agent} (hreach : s.reach w true a = .ok) (hrick : s.rickOn = false)
    (hbad : s.isBad (granule a) = false) :
    ∃ t, exec (.memoryRequest w a (.atomic op size operands) [] []) s = .next t ∧ .memory w a .ok f (natLe 32 old) ∈ t.wire
      ∧ t.mem = s.mem.write a (natLe size v) := by
  have hexec := exec_memoryRequest hp w a (.atomic op size operands)
  rw [State.serve_atomic hsize halign ha hreach hrick hbad hold hr] at hexec
  exact ⟨_, hexec, List.mem_append_right _ List.mem_cons_self, rfl⟩

end

/-- Settles O16: both by what the serving of an atomic operation leaves. -/
theorem atomicOperations : Obligations.AtomicOperations := by
  unfold Obligations.AtomicOperations
  refine ⟨fun o addr a op size operands s hp ht hlen haddr hsize halign ha hreach hrick hbad => ?_,
    fun w a op size operands s hp hsize halign ha hreach hrick hbad => ?_⟩
  · obtain ⟨t, hexec, hres, hmem⟩ := memAtomic_answers hp hsize halign ha rfl (Prod.mk.eta.symm) ht hlen haddr hreach hrick hbad
    obtain ⟨hcell, hout⟩ := Memory.write_natLe s.mem a size (atomicResult op size (leNat (s.mem.read a size)) operands).1
    exact ⟨t, hexec, hres, by rw [hmem, hcell], fun b hb => by rw [hmem, hout b hb]⟩
  · obtain ⟨t, hexec, hwire, hmem⟩ := memoryRequest_atomic hp hsize halign ha rfl (Prod.mk.eta.symm) hreach hrick hbad
    obtain ⟨hcell, hout⟩ := Memory.write_natLe s.mem a size (atomicResult op size (leNat (s.mem.read a size)) operands).1
    exact ⟨t, hexec, hwire, by rw [hmem, hcell], fun b hb => by rw [hmem, hout b hb]⟩

end Sys2Proof.Machine
end

section
/-! Regions: their assignment, their zeroing and their release (R166, R168). -/

namespace Sys2Proof.Machine

/-! ### Memory zeroed -/

theorem tfind_filter_keys {α : Type} (t : Tbl α) (p : Nat → Bool) (k : Nat) :
    tfind (t.filter fun c => p c.1) k = if p k = true then tfind t k else none := by
  induction t with
  | nil => simp [tfind]
  | cons x t ih =>
    obtain ⟨a, v⟩ := x
    rw [List.filter_cons]
    by_cases hk : k = a
    · subst hk
      by_cases hp : p k = true <;> simp [hp, tfind, ih]
    · split_ifs <;> simp_all [tfind]

/-- A byte after a run is zeroed: 0 in the run, else as it was. -/
theorem Memory.byte_zero (m : Memory) (a n b : Nat) :
    Memory.byte (Memory.zero m a n) b = if a ≤ b ∧ b < a + n then 0 else Memory.byte m b := by
  have hfind : tfind (Memory.zero m a n) b = if (b < a || a + n ≤ b) = true then tfind m b else none :=
    tfind_filter_keys m (fun k => k < a || a + n ≤ k) b
  rw [Memory.byte, tget, hfind]
  by_cases h : a ≤ b ∧ b < a + n
  · rw [if_neg (by simpa using h), if_pos h, Option.getD_none]
  · rw [if_pos (by simp only [Bool.or_eq_true, decide_eq_true_eq]; omega), if_neg h]
    rfl

/-! ### A region's registers -/

section
variable (s : State) (r st job key : Nat)

/-- Registers that hold a region's state and owner. -/
def regionRegs (r : Nat) : List Nat := [(Reg.memRegionStateState r).off, (Reg.memRegionJobJob r).off]

theorem memNoted_setRegion : MemNoted (evRegs ++ regionRegs r) s (s.setRegion r st job key) := by
  have hstate : (Reg.memRegionStateState r).off ∈ evRegs ++ regionRegs r := by simp [regionRegs]
  have hjob : (Reg.memRegionJobJob r).off ∈ evRegs ++ regionRegs r := by simp [regionRegs]
  exact (((memNoted_setFld s _ st hstate).trans (memNoted_setFld _ _ job hjob)).trans (memNoted_setFld _ (Reg.memRegionStateKeySlot r) key hstate)).trans
    (memNoted_ev _ _ _ _ _ _ (List.subset_append_left _ _))

theorem State.setRegion_fld (hr : r ≤ 1340) :
    (s.setRegion r st job key).fld (Reg.memRegionStateState r) = st % 4
      ∧ (s.setRegion r st job key).fld (Reg.memRegionJobJob r) = job % 2 ^ 32 := by
  have hev : ∀ off, off = 0x84000 + 0x8 * r ∨ off = 0x84004 + 0x8 * r → off ∉ evRegs := fun off ho =>
    not_mem_evRegs (.inl (by simp only [Reg.evrDroppedCount]; omega))
  have hapart : ∀ f : Fld, f = Reg.memRegionStateState r ∨ f = Reg.memRegionJobJob r → apart (Reg.memRegionStateKeySlot r) f = true := by
    rintro f (rfl | rfl) <;> simp [apart, Reg.memRegionStateState, Reg.memRegionStateKeySlot, Reg.memRegionJobJob]
  have hoff : (Reg.memRegionStateState r).off ≠ (Reg.memRegionJobJob r).off := by
    simp only [Reg.memRegionStateState, Reg.memRegionJobJob]
    omega
  unfold State.setRegion
  constructor
  · rw [(regsBut_evRegs _ _ _ _ _ _).fld (hev _ (.inl rfl)), State.fld_setFld_apart _ _ _ _ (hapart _ (.inl rfl)),
      State.fld_setFld_off _ _ _ _ hoff, State.fld_setFld _ _ _ (by simp [Reg.memRegionStateState]) (by simp [Reg.memRegionStateState])]
    rfl
  · rw [(regsBut_evRegs _ _ _ _ _ _).fld (hev _ (.inr rfl)), State.fld_setFld_apart _ _ _ _ (hapart _ (.inr rfl)),
      State.fld_setFld _ _ _ (by simp [Reg.memRegionJobJob]) (by simp [Reg.memRegionJobJob])]
    rfl

end

/-- The state with a region zeroed, before its registers say so. -/
def State.wiped (s : State) (r : Nat) : State :=
  { s with mem := s.mem.zero (r * regionSize) regionSize, zeroing := s.zeroing.filter (·.1 != r)
           badGranules := s.badGranules.filter (fun g => ! covered (r * regionSize) regionSize g)
           faint := s.faint.filter fun x => ! covered (r * regionSize) regionSize x.1 }

/-! ### REGION_ASSIGN, ZEROING_DONE and REGION_RELEASE -/

section
variable {s : State} {o : Origin} {r : Nat} (hp : s.powered = true)
include hp

theorem regionAssign_starts {c : Nat} {x : Ctx} (ht : s.arbGrant.takes o 0x23 = true) (hx : s.arbGrant.ownCtx o c = some x) (h0 : 0 < r)
    (hr : r ≤ 1340) (hshort : s.arbGrant.flag Reg.memStatusShortSeam = false)
    (hfree : s.arbGrant.fld (Reg.memRegionStateState r) = 0) :
    ∃ t, exec (.regionAssign o r c) s = .next t ∧ t.fld (Reg.memRegionStateState r) = 2 ∧ t.zeroing = s.zeroing ++ [(r, x.job, o)]
      ∧ t.mem = s.mem ∧ RegsBut s t (grantRegs ++ evRegs ++ regionRegs r) := by
  obtain ⟨u, hu⟩ : ∃ u, u = (s.arbGrant.begun o 0x23).setRegion r 2 0 x.p.partition := ⟨_, rfl⟩
  have hnoted : MemNoted (evRegs ++ regionRegs r) (s.arbGrant.begun o 0x23) u := hu ▸ memNoted_setRegion _ r 2 0 _
  obtain ⟨hstate, -⟩ := hu ▸ (s.arbGrant.begun o 0x23).setRegion_fld r 2 0 x.p.partition hr
  have hzeroing : u.zeroing = s.zeroing := by
    obtain ⟨_, _, _, _, _, _, e⟩ := hnoted.frame
    rw [e]
    exact s.arbGrant_zeroing
  have hbody : State.doAssign o r c (s.arbGrant.begun o 0x23) = { u with zeroing := s.zeroing ++ [(r, x.job, o)] } := by
    have hx' : (s.arbGrant.begun o 0x23).ownCtx o c = some x := hx
    rw [State.doAssign, State.begun_flag, hshort, if_neg Bool.false_ne_true, State.withCtx, hx']
    dsimp only
    rw [if_neg (by omega), State.begun_fld, hfree, if_neg (by simp), ← hu, hzeroing]
  have hexec := s.granted_hostCmd o 0x23 (State.doAssign o r c) hp ht
  rw [hbody] at hexec
  refine ⟨_, hexec, (State.latch_fld _ _ _).trans hstate, State.latch_zeroing _ _, ?_, ?_⟩
  · rw [State.latch_mem]
    exact hnoted.mem.trans s.arbGrant_mem
  · have hregs : RegsBut s.arbGrant { u with zeroing := s.zeroing ++ [(r, x.job, o)] } (evRegs ++ regionRegs r) := hnoted.regs
    rw [List.append_assoc]
    exact hregs.granted

theorem regionRelease_frees (ht : s.arbGrant.takes o 0x24 = true) (h0 : 0 < r) (hr : r ≤ 1340)
    (howned : s.arbGrant.fld (Reg.memRegionStateState r) = 1) (hjob : s.arbGrant.fld (Reg.memRegionJobJob r) = s.arbGrant.sessJob o.sess) :
    ∃ t, exec (.regionRelease o r) s = .next t ∧ t.fld (Reg.memRegionStateState r) = 0 ∧ t.fld (Reg.memRegionJobJob r) = 0
      ∧ t.result o 0x24 .ok {} [] [] ∧ t.mem = s.mem ∧ RegsBut s t (grantRegs ++ evRegs ++ regionRegs r) := by
  obtain ⟨u, hu⟩ : ∃ u, u = (s.arbGrant.begun o 0x24).setRegion r 0 0 0 := ⟨_, rfl⟩
  have hnoted : MemNoted (evRegs ++ regionRegs r) (s.arbGrant.begun o 0x24) u := hu ▸ memNoted_setRegion _ r 0 0 0
  obtain ⟨hstate, hjob'⟩ := hu ▸ (s.arbGrant.begun o 0x24).setRegion_fld r 0 0 0 hr
  have hbody : State.doRelease o r (s.arbGrant.begun o 0x24) = u.finish o .ok := by
    have hjob'' : (s.arbGrant.begun o 0x24).sessJob o.sess = s.arbGrant.sessJob o.sess := rfl
    rw [State.doRelease, if_neg (by omega), State.begun_fld, State.begun_fld, howned, hjob, hjob'', if_neg (by simp), ← hu]
  have hexec := s.granted_hostCmd o 0x24 (State.doRelease o r) hp ht
  rw [hbody] at hexec
  obtain ⟨hres, -⟩ := latch_finish s u _ o 0x24 .ok {} [] [] (by rw [hnoted.inProg]; exact s.arbGrant.mem_begun o 0x24) rfl
  refine ⟨_, hexec, ?_, ?_, hres, ?_, ?_⟩
  · rw [State.latch_fld, State.finish_fld, hstate]
  · rw [State.latch_fld, State.finish_fld, hjob', Nat.zero_mod]
  · rw [State.latch_mem]
    exact hnoted.mem.trans s.arbGrant_mem
  · have hregs : RegsBut s.arbGrant (u.finish o .ok) (evRegs ++ regionRegs r) := hnoted.regs
    rw [List.append_assoc]
    exact hregs.granted

theorem zeroingDone_owns {job : Nat} (hz : s.zeroing.find? (·.1 == r) = some (r, job, o)) (hr : r ≤ 1340) (hjob : job < 2 ^ 32)
    (hin : (⟨o, 0x23, none⟩ : Progress) ∈ s.inProg) :
    ∃ t, exec (.zeroingDone r) s = .next t ∧ t.fld (Reg.memRegionStateState r) = 1 ∧ t.fld (Reg.memRegionJobJob r) = job
      ∧ t.zeroing = s.zeroing.filter (·.1 != r) ∧ t.result o 0x23 .ok {} [] [] ∧ t.mem = s.mem.zero (r * regionSize) regionSize := by
  obtain ⟨u, hu⟩ : ∃ u, u = (s.wiped r).setRegion r 1 job ((s.wiped r).fld (Reg.memRegionStateKeySlot r)) := ⟨_, rfl⟩
  have hnoted : MemNoted (evRegs ++ regionRegs r) (s.wiped r) u := hu ▸ memNoted_setRegion _ r 1 job _
  obtain ⟨hstate, howner⟩ := hu ▸ (s.wiped r).setRegion_fld r 1 job ((s.wiped r).fld (Reg.memRegionStateKeySlot r)) hr
  have hexec : exec (.zeroingDone r) s = .next (u.finish o .ok) := by
    have e : exec (.zeroingDone r) s = execZeroingDone r s := rfl
    rw [e, execZeroingDone, s.does_powered _ hp, State.zeroed, hz, hu]
    rfl
  have hzeroing : u.zeroing = s.zeroing.filter (·.1 != r) := by
    obtain ⟨_, _, _, _, _, _, e⟩ := hnoted.frame
    rw [e]
    rfl
  refine ⟨_, hexec, (State.finish_fld _ _ _ _ _ _ _).trans hstate, ?_, hzeroing, ?_, hnoted.mem⟩
  · rw [State.finish_fld, howner, Nat.mod_eq_of_lt hjob]
  · exact State.result_finish _ _ _ _ _ _ _ (by rw [hnoted.inProg]; exact hin)

end

/-- Settles O19: each by the registers of its region, the end of the zeroing by the bytes of the region too. -/
theorem regionCommands : Obligations.RegionCommands := by
  unfold Obligations.RegionCommands
  refine ⟨fun o r c x s hp ht hx h0 hr hshort hfree => regionAssign_starts hp ht hx h0 hr hshort hfree,
    fun o r job s hp hz hr hjob hin => ?_, fun o r s hp ht h0 hr howned hjob => regionRelease_frees hp ht h0 hr howned hjob⟩
  obtain ⟨t, hexec, hstate, howner, hzeroing, hres, hmem⟩ := zeroingDone_owns hp hz hr hjob hin
  have hend : (r + 1) * regionSize = r * regionSize + regionSize := Nat.succ_mul r regionSize
  refine ⟨t, hexec, hstate, howner, hzeroing, hres, fun a hlo hhi => ?_, fun a ha => ?_⟩
  · rw [hmem, Memory.byte_zero, if_pos ⟨hlo, hend ▸ hhi⟩]
  · rw [hmem, Memory.byte_zero, if_neg (by omega)]

end Sys2Proof.Machine
end

section
/-! The memory controllers' periodic work and sparing (R174, R179 to R186). -/

namespace Sys2Proof.Machine

/-! ### Hot windows (R174) -/

section
variable (s : State) (counts : List (Nat × Nat))

/-- Demand bursts of a logical channel in a window. -/
def State.windowCount (lc : Nat) : Nat := ((counts.find? (·.1 == lc)).map (·.2)).getD 0 + tget s.bursts 0 lc

/-- The channels that a window judges: those of seams with no copy in progress. -/
def State.windowChannels : List Nat := (List.range 720).filter fun lc => ! s.flag (Reg.memSeamCopying (lc / 15))

/-- Demand bursts of all of them. -/
def State.windowTotal : Nat := (s.windowChannels.map (s.windowCount counts)).foldl (· + ·) 0

/-- The channels above four times the mean, while the mean is 2,048 or more. -/
def State.hotChannels : List Nat :=
  s.windowChannels.filter fun lc => decide (4 * s.windowTotal counts < s.windowCount counts lc * s.windowChannels.length)
    && decide (2048 * s.windowChannels.length ≤ s.windowTotal counts)

/-- The state with the runs of the given channels one longer and every other cleared. -/
def State.lengthenRuns (hot : List Nat) : State :=
  { s with hotRuns := hot.map fun lc => (lc, tget s.hotRuns 0 lc + 1), bursts := [] }

theorem State.lengthenRuns_frame (hot : List Nat) :
    (s.lengthenRuns hot).hotRuns = (hot.map fun lc => (lc, tget s.hotRuns 0 lc + 1)) ∧ (s.lengthenRuns hot).bursts = []
      ∧ (s.lengthenRuns hot).mem = s.mem := ⟨rfl, rfl, rfl⟩

/-- The state with the runs of the window's hot channels one longer and every other cleared. -/
def State.windowTaken : State := s.lengthenRuns (s.hotChannels counts)

/-- A channel hot for long is noted: HOT, its number and ratio, and an event. -/
def State.noteHot (t : State) (lc ratio runs : Nat) : State :=
  let t := ((t.setFlag Reg.memEventsHot true).setFlag Reg.memHotValid true).setFld Reg.memHotLogical lc
  (t.setFld Reg.memHotRatio (min ratio 4095)).ev 0x0407 (dieOfCh (t.physCh lc)) lc ratio runs

/-- A window takes its runs, and then notes the channels that have been hot for long. -/
theorem State.hotWindow_eq : s.hotWindow counts
    = (s.windowTaken counts).each ((s.hotChannels counts).filter fun lc => tget (s.windowTaken counts).hotRuns 0 lc ≥ 100)
        fun t lc => t.noteHot lc (s.windowCount counts lc * 16 * s.windowChannels.length / s.windowTotal counts)
          (tget (s.windowTaken counts).hotRuns 0 lc) := by
  unfold State.hotWindow State.windowTaken State.lengthenRuns State.hotChannels
  rfl

theorem State.noteHot_frame (t : State) (lc ratio runs : Nat) : (t.noteHot lc ratio runs).hotRuns = t.hotRuns
    ∧ (t.noteHot lc ratio runs).bursts = t.bursts ∧ (t.noteHot lc ratio runs).mem = t.mem := by
  simp [State.noteHot]

theorem State.hotWindow_frame : (s.hotWindow counts).hotRuns = ((s.hotChannels counts).map fun lc => (lc, tget s.hotRuns 0 lc + 1))
    ∧ (s.hotWindow counts).bursts = [] ∧ (s.hotWindow counts).mem = s.mem := by
  obtain ⟨hruns, hbursts, hmem⟩ := s.lengthenRuns_frame (s.hotChannels counts)
  rw [State.hotWindow_eq, ← hruns, ← hbursts, ← hmem]
  exact ⟨State.each_frame _ State.hotRuns _ _ fun t lc => (t.noteHot_frame lc _ _).1,
    State.each_frame _ State.bursts _ _ fun t lc => (t.noteHot_frame lc _ _).2.1,
    State.each_frame _ State.mem _ _ fun t lc => (t.noteHot_frame lc _ _).2.2⟩

theorem State.lt_of_mem_windowChannels {lc : Nat} (h : lc ∈ s.windowChannels) : lc < 720 := by
  rw [State.windowChannels, List.mem_filter, List.mem_range] at h
  exact h.1

/-- Below 2,048 bursts on every channel the mean is below them too, and no channel is hot. -/
theorem State.hotChannels_eq_nil (h : ∀ lc, lc < 720 → s.windowCount counts lc < 2048) : s.hotChannels counts = [] := by
  have hsum : s.windowTotal counts ≤ s.windowChannels.length * 2047 := by
    have hle : ∀ n ∈ s.windowChannels.map (s.windowCount counts), n ≤ 2047 := by
      intro n hn
      obtain ⟨lc, hlc, rfl⟩ := List.mem_map.1 hn
      exact Nat.le_of_lt_succ (h lc (s.lt_of_mem_windowChannels hlc))
    have hcard := List.sum_le_card_nsmul _ _ hle
    rwa [List.length_map, smul_eq_mul, List.sum_eq_foldl_nat] at hcard
  refine List.filter_eq_nil_iff.2 fun lc hlc => ?_
  have hpos := List.length_pos_of_mem hlc
  simp only [Bool.and_eq_true, decide_eq_true_eq, not_and]
  omega

theorem hotWindow_quiet (hp : s.powered = true) (ht : s.flag Reg.memStatusTrained = true)
    (h : ∀ lc, lc < 720 → s.windowCount counts lc < 2048) :
    exec (.hotWindow counts) s = .next { s with hotRuns := [], bursts := [] } := by
  have e : exec (.hotWindow counts) s = execHotWindow counts s := rfl
  rw [e, execHotWindow, s.does_powered _ hp, if_pos ht, State.hotWindow_eq, State.windowTaken, s.hotChannels_eq_nil counts h]
  rfl

theorem hotWindow_runs (hp : s.powered = true) (ht : s.flag Reg.memStatusTrained = true) :
    ∃ t, exec (.hotWindow counts) s = .next t ∧ t.bursts = [] ∧ t.mem = s.mem
      ∧ t.hotRuns = (s.hotChannels counts).map fun lc => (lc, tget s.hotRuns 0 lc + 1) := by
  have e : exec (.hotWindow counts) s = execHotWindow counts s := rfl
  obtain ⟨hruns, hbursts, hmem⟩ := s.hotWindow_frame counts
  refine ⟨s.hotWindow counts, ?_, hbursts, hmem, hruns⟩
  rw [e, execHotWindow, s.does_powered _ hp, if_pos ht]

end

/-! ### The scrub (R179, R181, R186) -/

section
variable (s : State)

theorem MemNoted.withFaint {os : List Nat} {s t : State} (h : MemNoted os s t) (f : Tbl Nat) :
    MemNoted os { s with faint := f } { t with faint := f } := by
  obtain ⟨hregs, ⟨r, q, l, c, k, n, rfl⟩, hev⟩ := h
  exact ⟨hregs, ⟨r, q, l, c, k, n, rfl⟩, hev⟩

/-- Registers that a scrub changes before its pass is counted. -/
def scrubRegs : List Nat := correctedRegs ++ uncorrectableRegs

/-- What a scrub counts and marks: granules with one symbol in error, granules beyond correction, and unused spares that fail. -/
def State.scrubFinds (s : State) (cs : List (Nat × Nat)) (bs ms : List Nat) : State :=
  (({ s.each cs fun t x => t.countCe x.1 x.2 with faint := [] }).each bs fun t g => t.countUe g 2).each ms fun t m =>
    if t.flag (Reg.memSeamCopying m) then t else t.spareFails m 2

/-- The end of a pass: the seams' marks, the count of passes, and its record. -/
def State.scrubEnds (s : State) (corrected lost : Nat) : State :=
  (s.seamSync.bump Reg.memScrubPassesCount).ev 0x0408 0 ((s.seamSync.bump Reg.memScrubPassesCount).fld Reg.memScrubPassesCount) corrected
    lost

/-- A pass finds what is in error, those gone bad since among it, and ends. -/
theorem State.scrub_eq (corrected : List (Nat × Nat)) (bad spares : List Nat) : ∃ cs ms, (∀ m ∈ ms, m < 48)
    ∧ s.scrub corrected bad spares = ((s.weaken corrected bad).scrubFinds cs (s.weaken corrected bad).badGranules ms).scrubEnds cs.length
        (s.weaken corrected bad).badGranules.length := by
  refine ⟨_, _, fun m hm => ?_, rfl⟩
  have hm' := (List.mem_filter.1 hm).2
  simp only [Bool.and_eq_true, decide_eq_true_eq] at hm'
  exact hm'.1

/-- A pass with nothing gone bad since. -/
theorem State.scrub_nothing_new : s.scrub [] [] [] = (s.scrubFinds (s.faint.filter fun x => ! s.isBad x.1) s.badGranules []).scrubEnds
    (s.faint.filter fun x => ! s.isBad x.1).length s.badGranules.length := by
  have hweaken : s.scrub [] [] [] = ((s.weaken [] []).scrubFinds ((s.weaken [] []).faint.filter fun x => ! (s.weaken [] []).isBad x.1)
    (s.weaken [] []).badGranules []).scrubEnds ((s.weaken [] []).faint.filter fun x => ! (s.weaken [] []).isBad x.1).length
    (s.weaken [] []).badGranules.length := rfl
  rw [hweaken, s.weaken_nothing]

theorem memNoted_scrubFinds (cs : List (Nat × Nat)) (bs ms : List Nat) (hms : ∀ m ∈ ms, m < 48) :
    MemNoted scrubRegs { s with faint := [] } (s.scrubFinds cs bs ms) := by
  have hces : MemNoted scrubRegs s (s.each cs fun t x => t.countCe x.1 x.2) :=
    memNoted_each s _ _ fun t x _ => (memNoted_countCe t x.1 x.2).mono (List.subset_append_left _ _)
  refine ((hces.withFaint []).trans (memNoted_each _ bs _ fun t g _ => ?_)).trans (memNoted_each _ ms _ fun t m hm => ?_)
  · exact (memNoted_countUe t g 2).mono (List.subset_append_right _ _)
  · have hm48 := hms m hm
    split_ifs
    · exact MemNoted.refl t _
    · refine (memNoted_spareFails t m 2).mono (List.Subset.trans ?_ (List.subset_append_right _ _))
      simp only [List.append_subset, List.cons_subset, List.nil_subset, and_true]
      exact ⟨⟨memSeamOff_mem_uncorrectableRegs hm48, memChOff_mem_uncorrectableRegs (by omega)⟩, evRegs_subset_uncorrectableRegs⟩

/-- Registers that the end of a pass changes. -/
def scrubEndRegs : List Nat := [Reg.memStatusOff, Reg.memScrubPassesOff] ++ evRegs

theorem memNoted_scrubEnds (corrected lost : Nat) : MemNoted scrubEndRegs s (s.scrubEnds corrected lost) :=
  (((memNoted_seamSync s).mono (by simp [scrubEndRegs])).trans (memNoted_bump _ _ (by decide))).trans
    (memNoted_ev _ _ _ _ _ _ (List.subset_append_right _ _))

theorem State.scrubEnds_passes (corrected lost : Nat) :
    (s.scrubEnds corrected lost).fld Reg.memScrubPassesCount = min (s.fld Reg.memScrubPassesCount + 1) (2 ^ 32 - 1) := by
  rw [State.scrubEnds, State.fld_ev _ _ _ _ _ _ _ (by decide) (by decide), State.fld_bump _ _ (by decide) (by decide),
    (memNoted_seamSync s).regs.fld (by decide)]
  rfl

theorem State.scrubEnds_hasEvent (corrected lost : Nat) (h : s.room 1 = true) :
    (s.scrubEnds corrected lost).hasEvent 0x0408 0 ((s.scrubEnds corrected lost).fld Reg.memScrubPassesCount) corrected lost := by
  have hroom : (s.seamSync.bump Reg.memScrubPassesCount).room 1 = true := (State.room_of_evq (by simp [State.seamSync]) 1).trans h
  have hcount : (s.scrubEnds corrected lost).fld Reg.memScrubPassesCount
      = (s.seamSync.bump Reg.memScrubPassesCount).fld Reg.memScrubPassesCount := State.fld_ev _ _ _ _ _ _ _ (by decide) (by decide)
  rw [hcount]
  exact State.hasEvent_ev _ _ _ _ _ _ hroom

theorem memScrubPasses_not_mem_scrubRegs : Reg.memScrubPassesOff ∉ scrubRegs := by
  simp only [scrubRegs, correctedRegs, uncorrectableRegs, evRegs, Reg.memScrubPassesOff, Reg.memCorrectedLoOff, Reg.memCorrectedHiOff,
    Reg.memChOff, Reg.memSeamOff, Reg.memStatusOff, Reg.memEventsOff, Reg.memUncorrectableOff, Reg.evrDroppedCount, Reg.evrQueueHwmF0,
    List.mem_append, List.mem_cons, List.not_mem_nil, or_false, List.mem_map, List.mem_range, not_or, not_exists, not_and]
  refine ⟨⟨⟨?_, fun c hc => ?_⟩, ?_⟩, ⟨⟨?_, fun m hm => ?_⟩, fun c hc => ?_⟩, ?_⟩ <;> omega

/-- The channel of a granule is that before the grant. -/
theorem State.chOf_arbGrant (g : Nat) : s.arbGrant.chOf g = s.chOf g := by
  have hspared : ∀ m, s.arbGrant.fld (Reg.memSeamSparedFrom m) = s.fld (Reg.memSeamSparedFrom m) := fun m =>
    s.fld_arbGrant _ (not_mem_grantRegs (.inr (by simp only [Reg.ctlGrantsLoOff, Reg.memSeamSparedFrom]; omega)))
  simp only [State.chOf, State.physCh, State.copyPointer, hspared, State.arbGrant_hashKey, State.arbGrant_copies, State.arbGrant_clk]
  rfl

end

section
variable {s g : State} (hp : s.powered = true) (hg : g = s.arbGrant) (ht : g.flag Reg.memStatusTrained = true)
include hp hg ht

theorem exec_scrubPeriod (corrected : List (Nat × Nat)) (bad spares : List Nat) :
    exec (.scrubPeriod corrected bad spares) s = .next (State.latch s (g.scrub corrected bad spares)) := by
  subst hg
  have e : exec (.scrubPeriod corrected bad spares) s = execScrubPeriod corrected bad spares s := rfl
  rw [e, execScrubPeriod, s.granted_powered _ hp, if_pos ht]

theorem scrubPeriod_counts (corrected : List (Nat × Nat)) (bad spares : List Nat) :
    ∃ t, exec (.scrubPeriod corrected bad spares) s = .next t ∧ t.faint = [] ∧ t.mem = s.mem
      ∧ t.fld Reg.memScrubPassesCount = min (s.fld Reg.memScrubPassesCount + 1) (2 ^ 32 - 1) := by
  obtain ⟨cs, ms, hms, e⟩ := g.scrub_eq corrected bad spares
  have hfinds := memNoted_scrubFinds (g.weaken corrected bad) cs (g.weaken corrected bad).badGranules ms hms
  have hexec := exec_scrubPeriod hp hg ht corrected bad spares
  obtain ⟨u, hu⟩ : ∃ u, u = (g.weaken corrected bad).scrubFinds cs (g.weaken corrected bad).badGranules ms := ⟨_, rfl⟩
  rw [← hu] at hfinds e
  rw [e] at hexec
  have hends := memNoted_scrubEnds u cs.length (g.weaken corrected bad).badGranules.length
  refine ⟨_, hexec, ?_, ?_, ?_⟩
  · rw [State.latch_faint, hends.faint, hfinds.faint]
  · rw [State.latch_mem, hends.mem, hfinds.mem, hg]
    exact s.arbGrant_mem
  · have hsame : g.fld Reg.memScrubPassesCount = s.fld Reg.memScrubPassesCount := by rw [hg, s.fld_arbGrant _ (by decide)]
    rw [State.latch_fld, State.scrubEnds_passes, hfinds.regs.fld memScrubPasses_not_mem_scrubRegs, ← hsame]
    rfl

theorem scrubPeriod_clean (hbad : s.badGranules = []) (hfaint : s.faint = []) (hroom : g.room 1 = true) :
    ∃ t, exec (.scrubPeriod [] [] []) s = .next t
      ∧ t.fld Reg.memScrubPassesCount = min (s.fld Reg.memScrubPassesCount + 1) (2 ^ 32 - 1)
      ∧ t.hasEvent 0x0408 0 (t.fld Reg.memScrubPassesCount) 0 0 ∧ t.mem = s.mem ∧ t.badGranules = [] := by
  have hbad' : g.badGranules = [] := by rw [hg, State.arbGrant_badGranules, hbad]
  have hfaint' : g.faint = [] := by rw [hg, State.arbGrant_faint, hfaint]
  have hsame : g.fld Reg.memScrubPassesCount = s.fld Reg.memScrubPassesCount := by rw [hg, s.fld_arbGrant _ (by decide)]
  have hexec := exec_scrubPeriod hp hg ht [] [] []
  obtain ⟨u, hu⟩ : ∃ u, u = g.scrubFinds [] [] [] := ⟨_, rfl⟩
  have hfinds : MemNoted scrubRegs { g with faint := [] } u := hu ▸ memNoted_scrubFinds g [] [] [] (by simp)
  rw [State.scrub_nothing_new, hbad', hfaint', List.filter_nil, ← hu] at hexec
  have hends := memNoted_scrubEnds u 0 0
  have hroom' : u.room 1 = true := (State.room_of_evq (by rw [hu]; rfl) 1).trans hroom
  refine ⟨_, hexec, ?_, ?_, ?_, ?_⟩
  · rw [State.latch_fld, ← hsame]
    exact (u.scrubEnds_passes 0 0).trans (by rw [hfinds.regs.fld memScrubPasses_not_mem_scrubRegs]; rfl)
  · rw [State.latch_fld]
    exact State.latch_hasEvent _ s (u.scrubEnds_hasEvent 0 0 hroom')
  · rw [State.latch_mem]
    exact (hends.mem.trans hfinds.mem).trans (by rw [hg]; exact s.arbGrant_mem)
  · rw [State.latch_badGranules]
    exact (hends.badGranules.trans hfinds.badGranules).trans hbad'

theorem scrubPeriod_corrects {x y : Nat} (hbad : s.badGranules = []) (hfaint : s.faint = [(x, y)]) (hroom : g.room 1 = true) :
    ∃ t, exec (.scrubPeriod [] [] []) s = .next t ∧ t.faint = []
      ∧ t.pair Reg.memCorrectedLoOff = min (s.pair Reg.memCorrectedLoOff + 1) (2 ^ 64 - 1)
      ∧ t.hasEvent 0x0401 (dieOfCh (s.chOf x)) (s.chOf x) (x / 720) y ∧ t.mem = s.mem := by
  have hbad' : g.badGranules = [] := by rw [hg, State.arbGrant_badGranules, hbad]
  have hcs : g.faint.filter (fun z => ! g.isBad z.1) = [(x, y)] := by
    rw [hg, State.arbGrant_faint, hfaint, ← hg]
    simp [State.isBad, hbad']
  have hch : g.chOf x = s.chOf x := by rw [hg, s.chOf_arbGrant]
  have hpair : g.pair Reg.memCorrectedLoOff = s.pair Reg.memCorrectedLoOff := by
    rw [State.pair, hg, s.reg_arbGrant _ (by decide), s.reg_arbGrant _ (by decide), State.pair]
  have hexec := exec_scrubPeriod hp hg ht [] [] []
  rw [State.scrub_nothing_new, hbad', hcs] at hexec
  have hends : MemNoted scrubEndRegs { g.countCe x y with faint := [] } ((g.scrubFinds [(x, y)] [] []).scrubEnds 1 0) :=
    memNoted_scrubEnds (g.scrubFinds [(x, y)] [] []) 1 0
  have hcount := g.countCe_count x y
  have hevent := g.countCe_hasEvent x y hroom
  have hmem := (memNoted_countCe g x y).mem
  refine ⟨_, hexec, ?_, ?_, ?_, ?_⟩
  · rw [State.latch_faint]
    exact hends.faint
  · rw [hpair] at hcount
    rw [← hcount, State.pair_of_regs (State.latch_regs _ _)]
    have hlo := hends.regs Reg.memCorrectedLoOff (by decide)
    have hhi := hends.regs (Reg.memCorrectedLoOff + 4) (by decide)
    exact congrArg₂ (fun a b : Word => a.toNat + b.toNat * 2 ^ 32) hlo hhi
  · rw [← hch]
    exact State.latch_hasEvent _ s (hends.events _ _ _ _ _ hevent)
  · rw [State.latch_mem]
    exact (hends.mem.trans hmem).trans (by rw [hg]; exact s.arbGrant_mem)

theorem scrubPeriod_finds_uncorrectable {x : Nat} (hbad : s.badGranules = [x]) (hfaint : s.faint = []) (hroom : g.room 1 = true) :
    ∃ t, exec (.scrubPeriod [] [] []) s = .next t ∧ t.badGranules = [x]
      ∧ t.fld Reg.memUncorrectableCount = min (s.fld Reg.memUncorrectableCount + 1) (2 ^ 32 - 1)
      ∧ t.hasEvent 0x0402 (dieOfCh (s.chOf x)) (s.chOf x) (bits (x * 256) 39 8) (2 * 2 ^ 24 + bits (x * 256) 47 40)
      ∧ t.mem = s.mem := by
  have hbad' : g.badGranules = [x] := by rw [hg, State.arbGrant_badGranules, hbad]
  have hcs : g.faint.filter (fun z => ! g.isBad z.1) = [] := by rw [hg, State.arbGrant_faint, hfaint, List.filter_nil]
  have hch : ({ g with faint := [] } : State).chOf x = s.chOf x := (State.chOf_arbGrant s x) ▸ hg ▸ rfl
  have hfld : ({ g with faint := [] } : State).fld Reg.memUncorrectableCount = s.fld Reg.memUncorrectableCount := by
    rw [← s.fld_arbGrant Reg.memUncorrectableCount (by decide), ← hg]
    rfl
  have hexec := exec_scrubPeriod hp hg ht [] [] []
  rw [State.scrub_nothing_new, hbad', hcs] at hexec
  obtain ⟨v, hv⟩ : ∃ v, v = ({ g with faint := [] } : State) := ⟨_, rfl⟩
  have hends : MemNoted scrubEndRegs (v.countUe x 2) ((g.scrubFinds [] [x] []).scrubEnds 0 1) :=
    hv ▸ memNoted_scrubEnds (g.scrubFinds [] [x] []) 0 1
  have hcount := v.countUe_count x 2
  have hevent := v.countUe_hasEvent x 2 (by rw [hv]; exact hroom)
  have hnoted := memNoted_countUe v x 2
  rw [← hv] at hch hfld
  refine ⟨_, hexec, ?_, ?_, ?_, ?_⟩
  · rw [State.latch_badGranules]
    exact (hends.badGranules.trans hnoted.badGranules).trans (hv ▸ hbad')
  · rw [State.latch_fld, ← hfld, ← hcount]
    exact hends.regs.fld (by decide)
  · rw [← hch]
    exact State.latch_hasEvent _ s (hends.events _ _ _ _ _ hevent)
  · rw [State.latch_mem]
    exact (hends.mem.trans hnoted.mem).trans (by rw [hv, hg]; exact s.arbGrant_mem)

end

/-! ### The hour of corrected errors (R182) -/

section
variable (s : State)

@[simp] theorem State.spare_ceHour (ch cause : Nat) : (s.spare ch cause).ceHour = s.ceHour := by
  obtain h | h | ⟨why, h⟩ := s.spare_cases ch cause <;> rw [h]
  · simp [State.copyBegins]
  · simp

/-- Starting to spare the channels that are due leaves memory and the hour's counts. -/
theorem State.endHour_frame : s.endHour.ceHour = [] ∧ s.endHour.mem = s.mem := by
  have hsync : ∀ t : State, t.seamSync.ceHour = t.ceHour := fun t => by simp [State.seamSync]
  unfold State.endHour
  dsimp only
  constructor
  · rw [hsync]
    exact State.each_frame _ State.ceHour _ _ fun t ch => by simp
  · rw [(memNoted_seamSync _).mem]
    exact State.each_frame _ State.mem _ _ fun t ch => by rw [(memNoted_spare _ _ _).mem, State.setFlag_mem]

/-- With no channel at its limit, the hour's counts are dropped and the seams' marks set. -/
theorem State.endHour_none_due (h : ∀ x ∈ s.ceHour, s.fld Reg.memCeLimitLimit = 0 ∨ x.2 < s.fld Reg.memCeLimitLimit) :
    s.endHour = ({ s with ceHour := [] } : State).seamSync := by
  have hdue : (s.ceHour.filter fun x => s.fld Reg.memCeLimitLimit ≠ 0 && s.fld Reg.memCeLimitLimit ≤ x.2) = [] :=
    List.filter_eq_nil_iff.2 fun x hx => by
      have := h x hx
      simp only [Bool.and_eq_true, decide_eq_true_eq]
      omega
  unfold State.endHour
  dsimp only
  rw [hdue]
  rfl

end

end Sys2Proof.Machine
end

section
/-! Sparing of a memory channel (R182 to R184), and what the controllers' statements come to. -/

namespace Sys2Proof.Machine

/-! ### Room after an audit entry -/

section
variable {s : State}

/-- An audit entry raises at most two events: the record's overflow and its own (R465, R466). -/
theorem State.room_auditAppend (action role st key sess : Nat) (params : List Byte) {n : Nat} (h : s.room (n + 2) = true) :
    (s.auditAppend action role st key sess params).room n = true := by
  have hcounted : ∀ (t : State) (e : List Byte) (v m : Nat), t.room m = true →
      ((t.setHead e).setPair Reg.secAuditCountLoOff v).room m = true := fun t e v m ht =>
    (State.room_of_evq (by rw [State.setPair_evq, (onlyRegs_setHead t e).eq]) m).trans ht
  have hcell : (s.auditCell action role st key sess params).room (n + 1) = true := by
    unfold State.auditCell
    dsimp only
    split_ifs
    · refine hcounted _ _ _ _ (State.room_ev _ _ _ _ _ _ _ ?_)
      exact (State.room_of_evq (State.setPair_evq _ _ _) _).trans h
    · exact hcounted _ _ _ _ (s.room_mono (Nat.le_succ _) h)
  exact State.room_ev _ _ _ _ _ _ _ hcell

/-- An installer's write that succeeds takes effect once its audit entry stands; room for what it raises itself is left. -/
theorem State.access_installs_room {r : Requester} {n : Nat} (h : s.installs r n = true) (off v : Nat) (act : State → State × Status)
    (hact : (act s).2 = .ok) : ∃ u, AuditedTo s u ∧ OnlyAudit s u ∧ u.room n = true
      ∧ s.access r off v .write (gate (s.isInst r) act) = (act u).1.answer r off v .ok := by
  rw [State.isInst_of_installs h]
  simp only [State.installs, Bool.and_eq_true, Bool.not_eq_true'] at h
  obtain ⟨⟨⟨hinst, hstarted⟩, hbad⟩, hroom⟩ := h
  obtain ⟨i, rfl, hrole, hsome⟩ := State.session_of_isInst s hinst
  refine ⟨_, auditedTo_auditAppend s 1 2 0 (s.sess i).key i (natLe 4 off ++ natLe 4 v),
    onlyAudit_auditAppend _ _ _ _ _ _ (s.room_mono (by omega) hroom), State.room_auditAppend _ _ _ _ _ _ hroom, ?_⟩
  rw [State.access, s.carry_inst_ok i off v (gate true act) hstarted hsome hrole hact hbad]
  rfl

end

/-! ### Registers of the memory controllers -/

theorem mem_not_mem_evRegs {off : Nat} (hhi : off < Reg.memChOff 768) : off ∉ evRegs := not_mem_evRegs (.inl (by
  simp only [Reg.memChOff, Reg.evrDroppedCount] at *
  omega))

theorem mem_not_mem_auditRegs {off : Nat} (hhi : off < Reg.memChOff 768) : off ∉ auditRegs := by
  have hev := mem_not_mem_evRegs hhi
  simp only [Reg.memChOff] at hhi
  simp only [auditRegs, List.mem_append, List.mem_map, List.mem_range, List.mem_cons, List.not_mem_nil, or_false, not_or, not_exists,
    not_and, Reg.secAuditHeadOff, Reg.secAuditCountLoOff, Reg.secAuditCountHiOff, Reg.secAuditAnchorLoOff, Reg.secAuditAnchorHiOff]
  exact ⟨⟨hev, fun i _ => by omega⟩, by omega⟩

theorem mem_not_mem_ashRegs {off : Nat} (hlo : Reg.memStatusOff ≤ off) (hhi : off < Reg.memChOff 768) :
    off ∉ evRegs ++ [Reg.ctlNvmQueueOff, Reg.botAshCountOff] := by
  have hev := mem_not_mem_evRegs hhi
  simp only [List.mem_append, not_or, List.mem_cons, List.not_mem_nil, or_false]
  simp only [Reg.memStatusOff, Reg.memChOff] at hlo hhi
  simp only [Reg.ctlNvmQueueOff, Reg.botAshCountOff]
  exact ⟨hev, by omega⟩

theorem memSeamOff_bounds {m : Nat} (h : m < 48) :
    Reg.memStatusOff < Reg.memSeamOff m ∧ Reg.memEventsOff < Reg.memSeamOff m ∧ Reg.memSeamOff m < Reg.memChOff 768 := by
  simp only [Reg.memStatusOff, Reg.memEventsOff, Reg.memSeamOff, Reg.memChOff]
  omega

theorem memChOff_bounds {ch : Nat} (h : ch < 768) :
    Reg.memStatusOff < Reg.memChOff ch ∧ Reg.memEventsOff < Reg.memChOff ch ∧ Reg.memChOff ch < Reg.memChOff 768 := by
  simp only [Reg.memStatusOff, Reg.memEventsOff, Reg.memChOff]
  omega

theorem memChOff_ne_memSeamOff {ch m : Nat} (h : m < 48) : Reg.memChOff ch ≠ Reg.memSeamOff m := by
  simp only [Reg.memSeamOff, Reg.memChOff]
  omega

theorem apart_of_off {f g : Fld} (h : g.off ≠ f.off) : apart f g = true := by simp [apart, h]

theorem not_mem_memStatus {off : Nat} (h : Reg.memStatusOff < off) : off ∉ [Reg.memStatusOff] :=
  fun hm => h.ne' (List.mem_singleton.1 hm)

/-! ### MEM_SPARE_START (R182, R183) -/

section
variable (s : State) (ch cause : Nat)

/-- Sparing an active channel whose seam's spare is unused begins a copy. -/
theorem State.spare_of_unused (hch : ch % 16 ≠ 15) (hrole : s.fld (Reg.memChRole ch) = 0) (hcopies : s.copies = [])
    (hfrom : s.fld (Reg.memSeamSparedFrom (ch / 16)) = 15) (hcopying : s.flag (Reg.memSeamCopying (ch / 16)) = false)
    (hbad : s.flag (Reg.memSeamSpareBad (ch / 16)) = false) : s.spare ch cause = s.copyBegins ch cause := by
  have hnone : (tfind s.copies (ch / 16)).map (·.1) ≠ some ch := by rw [hcopies]; simp [tfind]
  unfold State.spare
  dsimp only
  rw [if_neg hch, if_neg (not_or.2 ⟨not_not.2 hrole, hnone⟩),
    if_neg (not_or.2 ⟨not_not.2 hfrom, Bool.eq_false_iff.1 hcopying⟩), if_neg (Bool.eq_false_iff.1 hbad)]
  rfl

theorem State.copyBegins_copies (hcopies : s.copies = []) : ∃ span, 25850000 ≤ span ∧ span ≤ 470000000
    ∧ (s.copyBegins ch cause).copies = [(ch / 16, ch, s.clk, span)] := by
  have hspan : Config.freeValue s.free % 444150001 < 444150001 := Nat.mod_lt _ (by decide)
  refine ⟨25850000 + Config.freeValue s.free % 444150001, by omega, by omega, ?_⟩
  rw [State.copyBegins, State.ev_copies, State.setFlag_copies, State.setFld_copies, State.setFlag_copies, hcopies]
  rfl

theorem State.copyBegins_copying (h : ch < 768) : (s.copyBegins ch cause).flag (Reg.memSeamCopying (ch / 16)) = true := by
  obtain ⟨hstatus, -, hhi⟩ := memSeamOff_bounds (m := ch / 16) (by omega)
  have hstatus' : Reg.memSeamOff (ch / 16) ≠ Reg.memStatusOff := hstatus.ne'
  rw [State.copyBegins, (regsBut_evRegs _ _ _ _ _ _).flag (mem_not_mem_evRegs hhi),
    State.flag_setFlag_apart _ _ _ _ (by simpa [apart] using .inl hstatus'),
    State.flag_setFld_apart _ _ _ _ (by simp [apart, Reg.memSeamPointer, Reg.memSeamCopying]),
    State.flag_setFlag _ _ _ (by simp [Reg.memSeamCopying]) (by simp [Reg.memSeamCopying])]

theorem State.copyBegins_hasEvent (h : s.room 1 = true) :
    (s.copyBegins ch cause).hasEvent 0x0403 (dieOfCh ch) ch cause (16 * (ch / 16) + 15) :=
  State.hasEvent_ev _ _ _ _ _ _ ((State.room_of_evq (by simp) 1).trans h)

end

section
variable {s : State}

theorem memSpareStart_begins {r : Requester} {ch : Nat} (hp : s.powered = true) (hi : s.arbGrant.installs r 1 = true) (hlt : ch < 768)
    (hch : ch % 16 ≠ 15) (hrole : s.arbGrant.fld (Reg.memChRole ch) = 0) (hcopies : s.copies = [])
    (hfrom : s.arbGrant.fld (Reg.memSeamSparedFrom (ch / 16)) = 15)
    (hcopying : s.arbGrant.flag (Reg.memSeamCopying (ch / 16)) = false)
    (hbad : s.arbGrant.flag (Reg.memSeamSpareBad (ch / 16)) = false) :
    ∃ t, exec (.memSpareStart r ch) s = .next t ∧ .access r Reg.memSpareStartOff (2 ^ 31 + ch) .ok ∈ t.wire ∧ t.mem = s.mem
      ∧ (∃ span, 25850000 ≤ span ∧ span ≤ 470000000 ∧ t.copies = [(ch / 16, ch, s.clk, span)])
      ∧ t.flag (Reg.memSeamCopying (ch / 16)) = true ∧ t.hasEvent 0x0403 (dieOfCh ch) ch 3 (16 * (ch / 16) + 15) := by
  obtain ⟨hseam, -, hseam'⟩ := memSeamOff_bounds (m := ch / 16) (by omega)
  obtain ⟨hchan, -, hchan'⟩ := memChOff_bounds hlt
  have hseamAudit := mem_not_mem_auditRegs hseam'
  obtain ⟨u, haudit, honly, hroom, he⟩ := State.access_installs_room hi Reg.memSpareStartOff (2 ^ 31 + ch) (State.doSpareStart ch) rfl
  have hclk : u.clk = s.clk := haudit.clk.trans s.arbGrant_clk
  have hucopies : u.copies = [] := by
    obtain ⟨ra, a, q, rfl⟩ := honly
    exact s.arbGrant_copies.trans hcopies
  have hbegins : u.spare ch 3 = u.copyBegins ch 3 := u.spare_of_unused ch 3 hch
    ((haudit.regs.fld (mem_not_mem_auditRegs hchan')).trans hrole) hucopies ((haudit.regs.fld hseamAudit).trans hfrom)
    ((haudit.regs.flag hseamAudit).trans hcopying) ((haudit.regs.flag hseamAudit).trans hbad)
  have hact : State.doSpareStart ch u = ((u.copyBegins ch 3).seamSync, .ok) := by rw [State.doSpareStart, if_pos hlt, hbegins]
  have hexec : exec (.memSpareStart r ch) s
      = .next (State.latch s ((u.copyBegins ch 3).seamSync.answer r Reg.memSpareStartOff (2 ^ 31 + ch) .ok)) := by
    have e : exec (.memSpareStart r ch) s = execMemSpareStart r ch s := rfl
    rw [e, execMemSpareStart, s.granted_powered _ hp, Nat.mod_eq_of_lt (by omega), he, hact]
  have hsync := memNoted_seamSync (u.copyBegins ch 3)
  obtain ⟨span, hmin, hmax, hspan⟩ := u.copyBegins_copies ch 3 hucopies
  refine ⟨_, hexec, latch_answer_mem _ s r _ _ .ok, ?_, ⟨span, hmin, hmax, ?_⟩, ?_, ?_⟩
  · rw [State.latch_mem, State.answer_mem, hsync.mem, (memNoted_copyBegins u ch 3).mem, haudit.mem]
    exact s.arbGrant_mem
  · rw [State.latch_copies, State.answer_copies, ← hclk, ← hspan]
    simp [State.seamSync]
  · rw [State.flag, State.latch_fld, State.fld_of_regs (State.answer_regs _ _ _ _ _), ← State.flag,
      hsync.regs.flag (not_mem_memStatus hseam),
      u.copyBegins_copying ch 3 hlt]
  · exact State.latch_hasEvent _ s (State.hasEvent_of_evq (State.answer_evq _ _ _ _ _) (hsync.events _ _ _ _ _ (u.copyBegins_hasEvent ch 3 hroom)))

end

/-! ### SPARING_DONE (R183) -/

section
variable (s : State) (seam ch : Nat)

/-- The registers of a channel, its seam and the spare that serves in its place. -/
def State.spareNamed (s : State) (seam ch : Nat) : State :=
  (((((s.setFld (Reg.memSeamSparedFrom seam) (ch % 16)).setFlag (Reg.memSeamCopying seam) false).setFld (Reg.memSeamPointer seam)
    0).setFlag Reg.memEventsSpared true).setFld (Reg.memChRole ch) 3).setFld (Reg.memChRole (16 * seam + 15)) 2

/-- A copy is no longer under way. -/
def State.copyEnds (s : State) (seam : Nat) : State := { s with copies := tdel s.copies seam }

@[simp] theorem State.copyEnds_regs (seam : Nat) : (s.copyEnds seam).regs = s.regs := rfl

@[simp] theorem State.copyEnds_mem (seam : Nat) : (s.copyEnds seam).mem = s.mem := rfl

@[simp] theorem State.copyEnds_evq (seam : Nat) : (s.copyEnds seam).evq = s.evq := rfl

@[simp] theorem State.copyEnds_start (seam : Nat) : (s.copyEnds seam).start = s.start := rfl

@[simp] theorem State.copyEnds_copies (seam : Nat) : (s.copyEnds seam).copies = tdel s.copies seam := rfl

/-- The record of a sparing that is done: the event and the ash entry. -/
def State.sparingNoted (s : State) (seam ch : Nat) : State :=
  (s.seamSync.ev 0x0404 (dieOfCh ch) ch (16 * seam + 15) 0).ashAdd 5 7 0 ch 0 0

/-- A copy in which no error was found ends with the spare serving. -/
theorem State.sparingDone_clean {p : Nat × Nat} (hcopies : s.copies = [(seam, ch, p)]) (hbad : s.badGranules = []) (hfaint : s.faint = []) :
    s.sparingDone seam [] = ((({ s with faint := [] } : State).spareNamed seam ch).copyEnds seam).sparingNoted seam ch := by
  have hfind : tfind s.copies seam = some (ch, p) := by rw [hcopies]; simp [tfind]
  unfold State.sparingDone
  rw [hfind]
  dsimp only
  rw [List.filter_nil, s.weaken_nothing]
  simp only [State.each, hfaint, hbad, List.filter_nil, List.foldl_nil]
  rfl

/-- The fields of the channel, its seam and the spare once the spare serves. -/
theorem State.spareNamed_fields (hseam : seam < 48) (hof : ch / 16 = seam) (hch : ch % 16 < 15) :
    (s.spareNamed seam ch).fld (Reg.memSeamSparedFrom seam) = ch % 16 ∧ (s.spareNamed seam ch).flag (Reg.memSeamCopying seam) = false
      ∧ (s.spareNamed seam ch).fld (Reg.memChRole ch) = 3 ∧ (s.spareNamed seam ch).fld (Reg.memChRole (16 * seam + 15)) = 2 := by
  have hchans : apart (Reg.memChRole (16 * seam + 15)) (Reg.memChRole ch) = true := by simp [apart, Reg.memChRole]; omega
  have hfrom : ∀ c, apart (Reg.memChRole c) (Reg.memSeamSparedFrom seam) = true := fun c => by
    simp [apart, Reg.memChRole, Reg.memSeamSparedFrom]; omega
  have hcopying : ∀ c, apart (Reg.memChRole c) (Reg.memSeamCopying seam) = true := fun c => by
    simp [apart, Reg.memChRole, Reg.memSeamCopying]
  rw [State.spareNamed]
  refine ⟨?_, ?_, ?_, ?_⟩
  · rw [State.fld_setFld_apart _ _ _ _ (hfrom _), State.fld_setFld_apart _ _ _ _ (hfrom _), State.setFlag,
      State.fld_setFld_apart _ _ _ _ (by simp [apart, Reg.memEventsSpared, Reg.memSeamSparedFrom]; omega),
      State.fld_setFld_apart _ _ _ _ (by simp [apart, Reg.memSeamPointer, Reg.memSeamSparedFrom]), State.setFlag,
      State.fld_setFld_apart _ _ _ _ (by simp [apart, Reg.memSeamCopying, Reg.memSeamSparedFrom]),
      State.fld_setFld _ _ _ (by simp [Reg.memSeamSparedFrom]) (by simp [Reg.memSeamSparedFrom])]
    exact Nat.mod_eq_of_lt (by simp [Fld.width, Reg.memSeamSparedFrom]; omega)
  · rw [State.flag_setFld_apart _ _ _ _ (hcopying _), State.flag_setFld_apart _ _ _ _ (hcopying _),
      State.flag_setFlag_apart _ _ _ _ (by simp [apart, Reg.memEventsSpared, Reg.memSeamCopying]),
      State.flag_setFld_apart _ _ _ _ (by simp [apart, Reg.memSeamPointer, Reg.memSeamCopying]),
      State.flag_setFlag _ _ _ (by simp [Reg.memSeamCopying]) (by simp [Reg.memSeamCopying])]
  · rw [State.fld_setFld_apart _ _ _ _ hchans, State.fld_setFld _ _ _ (by simp [Reg.memChRole]) (by simp [Reg.memChRole])]
    rfl
  · rw [State.fld_setFld _ _ _ (by simp [Reg.memChRole]) (by simp [Reg.memChRole])]
    rfl

theorem State.spareFails_spec (cause : Nat) (hseam : seam < 48) (h : s.room 1 = true) :
    (s.spareFails seam cause).flag (Reg.memSeamSpareBad seam) = true ∧ (s.spareFails seam cause).fld (Reg.memChRole (16 * seam + 15)) = 4
      ∧ (s.spareFails seam cause).flag (Reg.memSeamCopying seam) = s.flag (Reg.memSeamCopying seam)
      ∧ (s.spareFails seam cause).flag Reg.memEventsSeamExhausted = s.flag Reg.memEventsSeamExhausted
      ∧ (s.spareFails seam cause).hasEvent 0x0405 (dieOfCh (16 * seam + 15)) seam (16 * seam + 15) cause := by
  obtain ⟨-, hlo, hhi⟩ := memSeamOff_bounds hseam
  obtain ⟨-, hlo', hhi'⟩ := memChOff_bounds (ch := 16 * seam + 15) (by omega)
  have hev := regsBut_evRegs ((s.setFlag (Reg.memSeamSpareBad seam) true).setFld (Reg.memChRole (16 * seam + 15)) 4) 0x0405
    (dieOfCh (16 * seam + 15)) seam (16 * seam + 15) cause
  refine ⟨?_, ?_, ?_, ?_, State.hasEvent_ev _ _ _ _ _ _ ((State.room_of_evq (by simp) 1).trans h)⟩
  · refine (hev.flag (mem_not_mem_evRegs hhi)).trans ?_
    rw [State.flag_setFld_apart _ _ _ _ (by simp [apart, Reg.memChRole, Reg.memSeamSpareBad]),
      State.flag_setFlag _ _ _ (by simp [Reg.memSeamSpareBad]) (by simp [Reg.memSeamSpareBad])]
  · refine (hev.fld (mem_not_mem_evRegs hhi')).trans ?_
    rw [State.fld_setFld _ _ _ (by simp [Reg.memChRole]) (by simp [Reg.memChRole])]
    rfl
  · refine (hev.flag (mem_not_mem_evRegs hhi)).trans ?_
    rw [State.flag_setFld_apart _ _ _ _ (by simp [apart, Reg.memChRole, Reg.memSeamCopying]),
      State.flag_setFlag_apart _ _ _ _ (by simp [apart, Reg.memSeamSpareBad, Reg.memSeamCopying])]
  · refine (hev.flag (by decide)).trans ?_
    rw [State.flag_setFld_apart _ _ _ _ (apart_of_off hlo'.ne), State.flag_setFlag_apart _ _ _ _ (apart_of_off hlo.ne)]

theorem State.spareNamed_frame : (s.spareNamed seam ch).mem = s.mem ∧ (s.spareNamed seam ch).evq = s.evq
    ∧ (s.spareNamed seam ch).start = s.start ∧ (s.spareNamed seam ch).copies = s.copies := by
  simp [State.spareNamed]

/-- An ash entry leaves events that wait, copies and the start. -/
theorem State.ashAdd_keeps (type cause die unit engine column : Nat) :
    (s.ashAdd type cause die unit engine column).copies = s.copies ∧ (s.ashAdd type cause die unit engine column).start = s.start
      ∧ ∀ code src p0 p1 p2, s.hasEvent code src p0 p1 p2 → (s.ashAdd type cause die unit engine column).hasEvent code src p0 p1 p2 := by
  unfold State.ashAdd
  split
  · exact ⟨rfl, rfl, fun _ _ _ _ _ => id⟩
  · next l e _ =>
    obtain ⟨r, er⟩ := (({ s with ash := l } : State).setFld Reg.botAshCountEntries l.length).nvmPut_eq (.ash l)
    dsimp only
    rw [er]
    exact ⟨by simp, by simp, fun _ _ _ _ _ h => State.hasEvent_ev_of_hasEvent _ _ _ _ _ _ _ _ _ _ _ (State.hasEvent_of_evq (by simp) h)⟩

theorem State.sparingNoted_frame (h : s.room 2 = true) :
    (∀ off, Reg.memStatusOff < off → off < Reg.memChOff 768 → (s.sparingNoted seam ch).reg off = s.reg off)
      ∧ (s.sparingNoted seam ch).hasEvent 0x0404 (dieOfCh ch) ch (16 * seam + 15) 0 ∧ (s.sparingNoted seam ch).mem = s.mem
      ∧ (s.sparingNoted seam ch).copies = s.copies ∧ (s.sparingNoted seam ch).start = s.start := by
  obtain ⟨t, ht⟩ : ∃ t, t = s.seamSync.ev 0x0404 (dieOfCh ch) ch (16 * seam + 15) 0 := ⟨_, rfl⟩
  have hsync := memNoted_seamSync s
  have hroom : s.seamSync.room 1 = true := (State.room_of_evq (by simp [State.seamSync]) 1).trans (s.room_mono (by decide) h)
  have hevent := State.hasEvent_ev s.seamSync 0x0404 (dieOfCh ch) ch (16 * seam + 15) 0 hroom
  have hev := regsBut_evRegs s.seamSync 0x0404 (dieOfCh ch) ch (16 * seam + 15) 0
  rw [← ht] at hevent hev
  obtain ⟨hregs, hmem, -⟩ := t.ashAdd_frame 5 7 0 ch 0 0
  obtain ⟨hcopies, hstart, hevents⟩ := t.ashAdd_keeps 5 7 0 ch 0 0
  rw [State.sparingNoted, ← ht]
  refine ⟨fun off hlo hhi => ?_, hevents _ _ _ _ _ hevent, ?_, ?_, ?_⟩
  · rw [hregs _ (mem_not_mem_ashRegs hlo.le hhi), hev _ (mem_not_mem_evRegs hhi), hsync.regs _ (not_mem_memStatus hlo)]
  · rw [hmem, ht, State.ev_mem, hsync.mem]
  · rw [hcopies, ht]
    simp [State.seamSync]
  · rw [hstart, ht]
    simp [State.seamSync]

end

/-! ### COPY_ABANDONED (R184) -/

section
variable (s : State) (seam ch : Nat)

/-- A copy is given up: none is under way, recorded, and its seam is marked. -/
def State.copyDropped (s : State) (seam ch : Nat) : State :=
  ((((s.copyEnds seam).setFlag (Reg.memSeamCopying seam) false).setFld (Reg.memSeamPointer seam) 0).ev 0x0404 (dieOfCh ch) ch
    (16 * seam + 15) (2 ^ 32 - 1)).setFlag Reg.memEventsSeamExhausted true

theorem State.copyAbandoned_eq {p : Nat × Nat} (hcopies : s.copies = [(seam, ch, p)]) :
    s.copyAbandoned seam = ((s.copyDropped seam ch).spareFails seam 3).seamSync := by
  have hfind : tfind s.copies seam = some (ch, p) := by rw [hcopies]; simp [tfind]
  unfold State.copyAbandoned
  rw [hfind]
  rfl

theorem State.copyDropped_spec (hseam : seam < 48) (h : s.room 2 = true) :
    (s.copyDropped seam ch).flag (Reg.memSeamCopying seam) = false ∧ (s.copyDropped seam ch).flag Reg.memEventsSeamExhausted = true
      ∧ (s.copyDropped seam ch).hasEvent 0x0404 (dieOfCh ch) ch (16 * seam + 15) (2 ^ 32 - 1)
      ∧ (s.copyDropped seam ch).room 1 = true ∧ (s.copyDropped seam ch).mem = s.mem ∧ (s.copyDropped seam ch).start = s.start := by
  obtain ⟨-, hlo, hhi⟩ := memSeamOff_bounds hseam
  obtain ⟨a, ha⟩ : ∃ a, a = ((s.copyEnds seam).setFlag (Reg.memSeamCopying seam) false).setFld (Reg.memSeamPointer seam) 0 := ⟨_, rfl⟩
  have haroom : a.room 2 = true := (State.room_of_evq (by rw [ha]; simp) 2).trans h
  rw [State.copyDropped, ← ha]
  refine ⟨?_, State.flag_setFlag _ _ _ (by decide) (by decide), State.hasEvent_of_evq (State.setFlag_evq _ _ _)
    (State.hasEvent_ev a _ _ _ _ _ (a.room_mono (by decide) haroom)), ?_, by simp [ha], by simp [ha]⟩
  · rw [State.flag_setFlag_apart _ _ _ _ (apart_of_off hlo.ne'), (regsBut_evRegs _ _ _ _ _ _).flag (mem_not_mem_evRegs hhi), ha,
      State.flag_setFld_apart _ _ _ _ (by simp [apart, Reg.memSeamPointer, Reg.memSeamCopying]),
      State.flag_setFlag _ _ _ (by simp [Reg.memSeamCopying]) (by simp [Reg.memSeamCopying])]
  · exact (State.room_of_evq (State.setFlag_evq _ _ _) 1).trans (State.room_ev _ _ _ _ _ _ 1 haroom)

end

/-! ### The ends of a copy -/

section
variable {s : State} {seam ch : Nat} {p : Nat × Nat} (hp : s.powered = true) (hseam : seam < 48) (hof : ch / 16 = seam)
  (hch : ch % 16 < 15) (hcopies : s.copies = [(seam, ch, p)]) (hwarm : s.start.warmWait = false) (hroom : s.room 2 = true)
include hp hseam hof hch hcopies hwarm hroom

theorem sparingDone_serves (hbad : s.badGranules = []) (hfaint : s.faint = []) :
    ∃ t, exec (.sparingDone seam []) s = .next t ∧ t.copies = [] ∧ t.fld (Reg.memSeamSparedFrom seam) = ch % 16
      ∧ t.flag (Reg.memSeamCopying seam) = false ∧ t.fld (Reg.memChRole ch) = 3 ∧ t.fld (Reg.memChRole (16 * seam + 15)) = 2
      ∧ t.hasEvent 0x0404 (dieOfCh ch) ch (16 * seam + 15) 0 ∧ t.mem = s.mem := by
  obtain ⟨v, hv⟩ : ∃ v, v = ({ s with faint := [] } : State) := ⟨_, rfl⟩
  obtain ⟨u, hu⟩ : ∃ u, u = (v.spareNamed seam ch).copyEnds seam := ⟨_, rfl⟩
  have hclean := s.sparingDone_clean seam ch hcopies hbad hfaint
  rw [← hv, ← hu] at hclean
  obtain ⟨hfrom, hcopying, hrole, hspare⟩ := v.spareNamed_fields seam ch hseam hof hch
  have hsame : u.regs = (v.spareNamed seam ch).regs := by rw [hu, State.copyEnds_regs]
  obtain ⟨hmem, hevq, hstart, hdel⟩ := v.spareNamed_frame seam ch
  obtain ⟨hregs, hevent, hmem', hcopies', hstart'⟩ := u.sparingNoted_frame seam ch ((State.room_of_evq (by rw [hu, State.copyEnds_evq, hevq, hv]) 2).trans hroom)
  have hfld : ∀ f : Fld, Reg.memStatusOff < f.off → f.off < Reg.memChOff 768 → 
      (u.sparingNoted seam ch).fld f = (v.spareNamed seam ch).fld f :=
    fun f hlo hhi => by rw [State.fld, hregs _ hlo hhi, ← State.fld, State.fld_of_regs hsame]
  obtain ⟨hlo, -, hhi⟩ := memSeamOff_bounds hseam
  obtain ⟨hlo', -, hhi'⟩ := memChOff_bounds (ch := ch) (by omega)
  obtain ⟨hlo'', -, hhi''⟩ := memChOff_bounds (ch := 16 * seam + 15) (by omega)
  refine ⟨u.sparingNoted seam ch, ?_, ?_, (hfld _ hlo hhi).trans hfrom, ?_, (hfld _ hlo' hhi').trans hrole,
    (hfld _ hlo'' hhi'').trans hspare, hevent, ?_⟩
  · have e : exec (.sparingDone seam []) s = execSparingDone seam [] s := rfl
    rw [e, execSparingDone, s.does_powered _ hp, hclean,
      State.tryWarm_of_none _ (by rw [hstart', hu, State.copyEnds_start, hstart, hv]; exact hwarm)]
  · rw [hcopies', hu, State.copyEnds_copies, hdel, hv, hcopies]
    simp [tdel]
  · rw [State.flag, hfld _ hlo hhi, ← State.flag, hcopying]
  · rw [hmem', hu, State.copyEnds_mem, hmem, hv]

/-- An abandoned copy leaves none under way, and the spare bad (R184). -/
theorem copyAbandoned_bad :
    ∃ t, exec (.copyAbandoned seam) s = .next t ∧ t.copies = [] ∧ t.flag (Reg.memSeamCopying seam) = false
      ∧ t.flag (Reg.memSeamSpareBad seam) = true ∧ t.fld (Reg.memChRole (16 * seam + 15)) = 4
      ∧ t.flag Reg.memEventsSeamExhausted = true ∧ t.hasEvent 0x0404 (dieOfCh ch) ch (16 * seam + 15) (2 ^ 32 - 1)
      ∧ t.hasEvent 0x0405 (dieOfCh ch) seam (16 * seam + 15) 3 ∧ t.mem = s.mem := by
  have e : exec (.copyAbandoned seam) s = execCopyAbandoned seam s := rfl
  have hdie : dieOfCh (16 * seam + 15) = dieOfCh ch := by simp only [dieOfCh]; omega
  have habandoned := s.copyAbandoned_eq seam ch hcopies
  obtain ⟨b, hb⟩ : ∃ b, b = s.copyDropped seam ch := ⟨_, rfl⟩
  rw [← hb] at habandoned
  obtain ⟨hdropped, hmarked, hgone, hroom1, hmem, hstart⟩ := hb ▸ s.copyDropped_spec seam ch hseam hroom
  obtain ⟨hlo, -, -⟩ := memSeamOff_bounds hseam
  obtain ⟨hclo, -, -⟩ := memChOff_bounds (ch := 16 * seam + 15) (by omega)
  obtain ⟨hbad, hrole, hcopying, hexhausted, hevent⟩ := b.spareFails_spec seam 3 hseam hroom1
  have hfails := memNoted_spareFails b seam 3
  have hsync := memNoted_seamSync (b.spareFails seam 3)
  have hwarm' : (b.spareFails seam 3).seamSync.start.warmWait = false := by rw [hsync.start, hfails.start, hstart, hwarm]
  refine ⟨(b.spareFails seam 3).seamSync, ?_, ?_, ?_, ?_, ?_, ?_, hsync.events _ _ _ _ _ (hfails.events _ _ _ _ _ hgone),
    hdie ▸ hsync.events _ _ _ _ _ hevent, ?_⟩
  · rw [e, execCopyAbandoned, s.does_powered _ hp, habandoned, State.tryWarm_of_none _ hwarm']
  · simp [State.seamSync, State.spareFails, hb, State.copyDropped, hcopies, tdel]
  · rw [hsync.regs.flag (not_mem_memStatus hlo), hcopying, hdropped]
  · rw [hsync.regs.flag (not_mem_memStatus hlo), hbad]
  · rw [hsync.regs.fld (not_mem_memStatus hclo), hrole]
  · rw [hsync.regs.flag (by decide), hexhausted, hmarked]
  · rw [hsync.mem, hfails.mem, hmem]

end

/-- Settles O20: the periods by what a window, a pass and an hour note; the three commands of a sparing by the fields of its seam. -/
theorem memoryMaintenance : Obligations.MemoryMaintenance := by
  unfold Obligations.MemoryMaintenance
  refine ⟨fun s hp => ⟨fun counts ht h => ⟨_, hotWindow_quiet s counts hp ht h, rfl⟩,
    fun counts active count sum ht hactive hcount hsum => ?_, fun corrected bad spares ht => scrubPeriod_counts hp rfl ht corrected bad spares,
    ?_, fun ht hbad => ⟨scrubPeriod_clean hp rfl ht hbad, fun g y hfaint hroom =>
      scrubPeriod_corrects hp rfl ht hbad hfaint (State.room_mono _ (by decide) hroom)⟩,
    fun g ht hbad hfaint hroom => scrubPeriod_finds_uncorrectable hp rfl ht hbad hfaint (State.room_mono _ (by decide) hroom), fun h => ?_⟩,
    ?_, ?_, ?_⟩
  · obtain rfl : count = s.windowCount counts := funext hcount
    have hchannels : active = s.windowChannels := hactive
    have htotal : sum = s.windowTotal counts := by rw [hsum, hchannels, State.windowTotal]
    rw [hchannels, htotal]
    exact hotWindow_runs s counts hp ht
  · exact ⟨s.endHour, s.does_powered _ hp, s.endHour_frame⟩
  · have hnoted := memNoted_seamSync { s with ceHour := [] }
    have hframe := s.endHour_frame
    rw [s.endHour_none_due h] at hframe
    exact ⟨_, (s.does_powered _ hp).trans (by rw [s.endHour_none_due h]), hframe.1, hnoted.regs, hframe.2⟩
  · exact fun r ch s hp hi hlt hch hrole hcopies hfrom hcopying hbad =>
      memSpareStart_begins hp hi hlt hch hrole hcopies hfrom hcopying hbad
  · exact fun seam ch p s hp hseam hof hch hcopies hbad hfaint hwarm hroom =>
      sparingDone_serves hp hseam hof hch hcopies hwarm hroom hbad hfaint
  · exact fun seam ch p s hp hseam hof hch hcopies hwarm hroom => copyAbandoned_bad hp hseam hof hch hcopies hwarm hroom

end Sys2Proof.Machine
end

section
/-! Requests of other modules: the reply that routing sends by a port is stored or waits, and the stores leave memory (R260 to R276). -/

namespace Sys2Proof.Machine

variable (s : State)

/-! ### What the central store keeps (R263 to R268) -/

/-- What neither a field of the routing block's registers nor an event changes. -/
structure KeptByStores {β : Type} (f : State → β) : Prop where
  setFld : ∀ (t : State) (x : Fld) (v : Nat), Reg.rtrCtrlOff ≤ x.off → f (t.setFld x v) = f t
  ev : ∀ (t : State) (code src p0 p1 p2 : Nat), f (t.ev code src p0 p1 p2) = f t

theorem keptByStores_mem : KeptByStores State.mem := ⟨fun t x v _ => t.setFld_mem x v, fun t c x y z w => t.ev_mem c x y z w⟩

theorem keptByStores_queues : KeptByStores State.queues := ⟨fun t x v _ => t.setFld_queues x v, fun t c x y z w => t.ev_queues c x y z w⟩

theorem keptByStores_fld {x : Fld} (h : x.off < Reg.rtrCtrlOff) : KeptByStores fun t => t.fld x where
  setFld t y v hy := t.fld_setFld_off y x v (by omega)
  ev t c a b d e := (regsBut_evRegs t c a b d e).fld (not_mem_evRegs (.inl (h.trans (by decide))))

section
variable {β : Type} {f : State → β} (h : KeptByStores f)
include h

theorem KeptByStores.mark (x : Fld) (v : Nat) (hx : Reg.rtrCtrlOff ≤ x.off) : f (s.mark x v) = f s := by
  unfold State.mark
  split_ifs
  · exact h.setFld s x v hx
  · rfl

theorem KeptByStores.storeSync : f s.storeSync = f s := by
  have hdepth : ∀ (t : State) (d v : Nat), f ((t.setFld (Reg.rtrPortDepthCells d) v).mark (Reg.rtrPortDepthHwmCells d) v) = f t :=
    fun t d v => by
      rw [h.mark _ _ _ (by simp only [Reg.rtrCtrlOff, Reg.rtrPortDepthHwmCells]; omega),
        h.setFld _ _ _ (by simp only [Reg.rtrCtrlOff, Reg.rtrPortDepthCells]; omega)]
  have hclasses : ∀ (t : State) (k : Nat) (g : Nat → Nat) (cs : List Nat),
      f (t.each cs fun u c => u.setFld (Reg.rtrStoreClassUsedCells k c) (g c)) = f t := fun t k g cs =>
    State.each_frame t f _ _ fun u c => h.setFld u _ _ (by simp only [Reg.rtrCtrlOff, Reg.rtrStoreClassUsedCells]; omega)
  have hflag : ∀ (t : State) (x : Fld) (b : Bool), Reg.rtrCtrlOff ≤ x.off → f (t.setFlag x b) = f t := fun t x b hx => h.setFld t x _ hx
  have hstore : ∀ (t : State) (k used free : Nat), f (((t.setFld (Reg.rtrStoreStatusUsed k) used).mark (Reg.rtrStoreHwmUsed k) used).setFld
      (Reg.rtrStoreSharedFreeCells k) free) = f t := fun t k used free => by
    rw [h.setFld _ _ _ (by simp only [Reg.rtrCtrlOff, Reg.rtrStoreSharedFreeCells]; omega),
      h.mark _ _ _ (by simp only [Reg.rtrCtrlOff, Reg.rtrStoreHwmUsed]; omega),
      h.setFld _ _ _ (by simp only [Reg.rtrCtrlOff, Reg.rtrStoreStatusUsed]; omega)]
  unfold State.storeSync
  dsimp only
  rw [h.mark _ _ _ (by decide), h.setFld _ _ _ (by decide), State.each_frame _ f _ _ fun t d => hdepth t d _]
  refine State.each_frame _ f _ _ fun t k => ?_
  have hthrottle : Reg.rtrCtrlOff ≤ (Reg.rtrStoreStatusThrottle k).off := by simp only [Reg.rtrCtrlOff, Reg.rtrStoreStatusThrottle]; omega
  rw [hflag _ _ _ (by simp only [Reg.rtrCtrlOff, Reg.rtrStoreStatusCapped]; omega)]
  split_ifs
  · rw [h.ev, hflag _ _ _ hthrottle, hclasses, hstore]
  · rw [h.ev, hflag _ _ _ hthrottle, hclasses, hstore]
  · rw [hclasses, hstore]

theorem KeptByStores.detour (p q : Packet) : f (s.detour p q) = f s :=
  State.each_frame s f _ _ fun t d => h.setFld t _ _ (by simp only [Reg.rtrCtrlOff, Reg.rtrPortDetoursCount]; omega)

end

/-- What stands in a queue once a packet has joined it. -/
theorem State.enqueue_queue (o die : Nat) (via : Option Nat) (vc : Nat) (p : Packet) (acc : Nat × Nat × Nat) :
    (s.enqueue o die via vc p acc).queue o = s.queue o ++ [⟨p, via, vc, die, acc.1, acc.2.1, acc.2.2⟩] := by
  have hset : ∀ q, (s.setQueue o q).storeSync.queues = (s.setQueue o q).queues := fun q => keptByStores_queues.storeSync (s.setQueue o q)
  have hget : ∀ q, tget (s.setQueue o q).queues [] o = q := fun q => by rw [State.setQueue, tget_tset, if_pos rfl]
  unfold State.enqueue
  dsimp only
  split_ifs
  · rw [State.queue, State.ev_queues, hset, hget]
  · rw [State.queue, hset, hget]

section
variable {β : Type} {f : State → β} (h : KeptByStores f) (hqueue : ∀ (t : State) (o : Nat) (q : List Stored), f (t.setQueue o q) = f t)
include h hqueue

theorem KeptByStores.enqueue (o die : Nat) (via : Option Nat) (vc : Nat) (p : Packet) (acc : Nat × Nat × Nat) :
    f (s.enqueue o die via vc p acc) = f s := by
  have hset : ∀ q, f (s.setQueue o q).storeSync = f s := fun q => (h.storeSync _).trans (hqueue s o q)
  unfold State.enqueue
  dsimp only
  split_ifs
  · rw [h.ev, hset]
  · exact hset _

theorem KeptByStores.place (hwait : ∀ (t : State) (l : List (Nat × Packet)), f { t with waiting := l } = f t) (o die : Nat)
    (p q : Packet) : f (s.place o die p q) = f s := by
  unfold State.place
  split
  · split_ifs
    · exact hwait s _
    · rw [h.enqueue _ hqueue, h.detour]
  · exact hwait s _

end

/-- A packet that is placed stands in its queue, or waits as it was before routing. -/
theorem State.place_holds (o die : Nat) {p q : Packet} (h : unrouted p = unrouted q) : (s.place o die p q).holds o q := by
  unfold State.place
  split
  · split_ifs
    · exact .inr ⟨(die, p), List.mem_append_right _ List.mem_cons_self, h⟩
    · next acc _ _ =>
      refine .inl ⟨⟨q, none, q.vc, die, acc.1, acc.2.1, acc.2.2⟩, ?_, rfl⟩
      rw [State.enqueue_queue]
      exact List.mem_append_right _ List.mem_cons_self
  · exact .inr ⟨(die, p), List.mem_append_right _ List.mem_cons_self, h⟩

/-! ### Routing (R271, R272) -/

section
variable {s} {t : State}

/-- Routing changes nothing of a packet but what `unrouted` leaves out. -/
theorem unrouted_of_routeFrom {fuel here d : Nat} {p q : Packet} (h : s.routeFrom fuel here p = .port d q) : unrouted p = unrouted q := by
  induction fuel generalizing p with
  | zero => cases h
  | succ fuel ih =>
    rw [State.routeFrom] at h
    split at h
    · cases h
    · split at h
      · cases h
        rfl
      · split at h
        · cases h
          rfl
        · split at h
          · cases h
          · exact (ih h).symm ▸ rfl

theorem unrouted_of_route {d : Nat} {p q : Packet} (h : s.route p = .port d q) : unrouted p = unrouted q := by
  unfold State.route at h
  dsimp only at h
  have hq := unrouted_of_routeFrom h
  split_ifs at hq <;> exact hq

theorem routeFrom_of_portUp (h : ∀ d, t.portUp d = s.portUp d) (fuel here : Nat) (p : Packet) :
    t.routeFrom fuel here p = s.routeFrom fuel here p := by
  induction fuel generalizing p with
  | zero => rfl
  | succ fuel ih => simp only [State.routeFrom, h, ih]

/-- Routing rests on the module's identity and its ports' states alone. -/
theorem State.route_of_portUp (hid : t.myId = s.myId) (h : ∀ d, t.portUp d = s.portUp d) (p : Packet) : t.route p = s.route p := by
  simp only [State.route, hid, routeFrom_of_portUp h]

theorem State.route_of_regs (h : t.regs = s.regs) (p : Packet) : t.route p = s.route p :=
  State.route_of_portUp (State.fld_of_regs h _) (fun d => by rw [State.portUp, State.fld_of_regs h, State.portUp]) p

theorem State.inject_port {d : Nat} {p q : Packet} (h : s.route p = .port d q) (die : Nat) :
    (s.inject die p).holds d q ∧ (s.inject die p).mem = s.mem
      ∧ ∀ x : Fld, x.off < Reg.rtrCtrlOff → (s.inject die p).fld x = s.fld x := by
  have he : s.inject die p = s.place d die p q := by
    rw [State.inject, State.forward]
    simp only [h]
  rw [he]
  exact ⟨s.place_holds d die (unrouted_of_route h), keptByStores_mem.place s (fun _ _ _ => rfl) (fun _ _ => rfl) d die p q,
    fun x hx => (keptByStores_fld hx).place s (fun _ _ _ => rfl) (fun _ _ => rfl) d die p q⟩

end

/-! ### Requests served (R260, R261) -/

theorem leNat_lt (bs : List Byte) : leNat bs < 256 ^ bs.length := by
  induction bs with
  | nil => exact Nat.one_pos
  | cons b bs ih =>
    have hb := b.isLt
    rw [leNat, List.length_cons, Nat.pow_succ]
    omega

/-- A masked write has one block of data and a mask of 64 bits. -/
theorem masked_of_opOf {p : Packet} {data : List Byte} {mask : Nat} (hop : p.opcode = 6) (hm : opOf p = some (.masked data mask)) :
    data.length = 64 ∧ mask < 2 ^ 64 := by
  have hlt := leNat_lt (slice p.data 64 8)
  rw [slice_length] at hlt
  unfold opOf at hm
  simp only [hop] at hm
  split_ifs at hm
  cases hm
  exact ⟨slice_length _ _ _, hlt⟩

section
variable {s} {p q : Packet} {d : Nat}

theorem State.isRebuildWrite_of_no_rick (h : s.rickOn = false) (src a n : Nat) : s.isRebuildWrite src a n = false := by
  simp only [State.rickOn, bne_eq_false_iff_eq] at h
  simp [State.isRebuildWrite, h]

/-- The reply to a memory request that has been served with the registers as they were. -/
theorem State.serveMem_answers {m : MemOp} {t : State} {st : Status} {f : Flags} {data : List Byte} {op : Nat} (hm : opOf p = some m)
    (hrick : s.rickOn = false) (hserve : s.serve (.firing p.job) p.addr m = (t, ⟨st, f, data⟩)) (hregs : t.regs = s.regs)
    (hop : answerOp p.opcode = some op) (hroute : s.route (replyTo p s.myId op st f data) = .port d q) :
    (s.serveMem p).holds d q ∧ (s.serveMem p).mem = t.mem := by
  have hid : t.myId = s.myId := State.fld_of_regs hregs _
  have he : s.serveMem p = t.inject (s.dieOfAddr p.addr) (replyTo p s.myId op st f data) := by
    unfold State.serveMem
    simp only [hm, State.isRebuildWrite_of_no_rick hrick, Bool.and_false, Bool.false_eq_true, if_false, hserve, hop, Option.getD_some,
      hid]
  rw [he]
  obtain ⟨hholds, hmem, -⟩ := State.inject_port ((State.route_of_regs hregs _).trans hroute) (s.dieOfAddr p.addr)
  exact ⟨hholds, hmem⟩

/-- What routing leaves of a reply. -/
theorem reply_of_route {t : State} {me op : Nat} {st : Status} {f : Flags} {data : List Byte}
    (h : t.route (replyTo p me op st f data) = .port d q) :
    q.opcode = op ∧ q.dest = p.src ∧ q.tag = p.tag ∧ q.gen = p.gen ∧ q.seq = p.seq ∧ q.data = data
      ∧ q.cmd = (replyTo p me op st f data).cmd := by
  have hq := unrouted_of_route h
  exact ⟨(congrArg Packet.opcode hq).symm, (congrArg Packet.dest hq).symm, (congrArg Packet.tag hq).symm, (congrArg Packet.gen hq).symm,
    (congrArg Packet.seq hq).symm, (congrArg Packet.data hq).symm, (congrArg Packet.cmd hq).symm⟩

/-- A memory reply repeats its request's bytes after STATUS and the flags. -/
theorem slice_replyTo {me op : Nat} {st : Status} {f : Flags} {data : List Byte} (h : [1, 2, 3, 5, 6].contains p.opcode = true) :
    slice (replyTo p me op st f data).cmd 2 14 = slice p.cmd 2 14 := by
  have hcmd : (replyTo p me op st f data).cmd = (natLe 1 (stCode st) ++ natLe 1 (flagsCode f)) ++ slice p.cmd 2 14 ++ [] := by
    rw [List.append_nil, replyTo]
    simp only [h, if_true]
  rw [hcmd]
  exact slice_append _ _ _ _ _ (by simp) (by simp [slice_length])

end

section
variable {s} {p q : Packet} {d : Nat} (hp : s.powered = true) (hcls : p.cls = 0) (hdest : p.dest = s.myId) (htail : p.tailOk = true)
include hp hcls hdest htail

/-- A memory request that reaches its target whole is served. -/
theorem does_reqArrives_mem {op : Nat} (hop : p.opcode = op) (hmem : op ≠ 4) :
    (s.does fun s => s.reqArrives op p) = .next (s.serveMem p) := by
  rw [s.does_powered _ hp, State.reqArrives, if_pos ⟨hop, hcls, hdest⟩, State.serveReq, if_neg (not_not.2 htail), if_neg (hop ▸ hmem)]

variable (hrick : s.rickOn = false)
include hrick

theorem read_answered {n : Nat} (hop : p.opcode = 1) (hm : opOf p = some (.read n)) (hform : formOf p.addr n = .ok) (ha : p.addr < memTop)
    (hreach : s.reach (.firing p.job) false p.addr = .ok) (hsound : s.sound p.addr n = true)
    (hroute : s.route (replyTo p s.myId 0x81 .ok {} (s.mem.read p.addr n)) = .port d q) :
    ∃ t, exec (.read p) s = .next t ∧ t.holds d q ∧ q.opcode = 0x81 ∧ q.dest = p.src ∧ q.tag = p.tag ∧ q.gen = p.gen ∧ q.seq = p.seq
      ∧ slice q.cmd 2 14 = slice p.cmd 2 14 ∧ q.data = s.mem.read p.addr n ∧ t.mem = s.mem := by
  have hserve : s.serve (.firing p.job) p.addr (.read n) = (s.burst (granules p.addr n), ⟨.ok, {}, s.mem.read p.addr n⟩) := by
    simp only [State.serve, hform, hreach, State.readBytes_of_correctable (lt_sramBase ha) (State.badIn_of_sound hsound),
      State.corrects_of_sound hsound]
  obtain ⟨hholds, hmem⟩ := State.serveMem_answers hm hrick hserve rfl (by rw [hop]; rfl) hroute
  have hexec : exec (.read p) s = .next (s.serveMem p) := does_reqArrives_mem hp hcls hdest htail hop (by decide)
  obtain ⟨hopcode, hto, htag, hgen, hseq, hdata, hcmd⟩ := reply_of_route hroute
  exact ⟨_, hexec, hholds, hopcode, hto, htag, hgen, hseq, by rw [hcmd, slice_replyTo (by rw [hop]; rfl)], hdata, hmem⟩

variable (hreach : s.reach (.firing p.job) true p.addr = .ok) (ha : p.addr < memTop)
include hreach ha

theorem write_answered {data : List Byte} (hop : p.opcode = 2) (hm : opOf p = some (.write data)) (hform : formOf p.addr data.length = .ok)
    (hsound : s.sound p.addr data.length = true) (hroute : s.route (replyTo p s.myId 0x82 .ok {} []) = .port d q) :
    ∃ t, exec (.write p) s = .next t ∧ t.holds d q ∧ q.opcode = 0x82 ∧ q.dest = p.src
      ∧ (∀ i, i < data.length → Memory.byte t.mem (p.addr + i) = data.getD i 0)
      ∧ (∀ b, b < p.addr ∨ p.addr + data.length ≤ b → Memory.byte t.mem b = Memory.byte s.mem b) := by
  obtain ⟨hok, hst⟩ := State.writeBytes_writable (State.writable_of_formOf hform ha hrick hsound hreach)
  have hserve : s.serve (.firing p.job) p.addr (.write data) = ((s.writeBytes p.addr data).1, ⟨.ok, {}, []⟩) := by
    rw [← hok]
    simp only [State.serve, hform, hreach, State.logFirst_of_no_rick hrick]
  obtain ⟨hholds, hmem⟩ := State.serveMem_answers hm hrick hserve (by rw [hst.frame]) (by rw [hop]; rfl) hroute
  have hexec : exec (.write p) s = .next (s.serveMem p) := does_reqArrives_mem hp hcls hdest htail hop (by decide)
  obtain ⟨hopcode, hto, -⟩ := reply_of_route hroute
  refine ⟨_, hexec, hholds, hopcode, hto, fun i hi => ?_, fun b hb => ?_⟩
  · rw [hmem, hst.mem, Memory.byte_write_add _ _ _ _ hi]
  · rw [hmem, hst.mem, Memory.byte_write_ne _ _ _ _ hb]

theorem masked_answered {data : List Byte} {mask : Nat} (hop : p.opcode = 6) (hm : opOf p = some (.masked data mask))
    (halign : p.addr % 64 = 0) (hmask : mask ≠ 0) (hsound : s.sound p.addr 64 = true)
    (hroute : s.route (replyTo p s.myId 0x82 .ok {} []) = .port d q) :
    ∃ t, exec (.writeMasked p) s = .next t ∧ t.holds d q ∧ t.mem = Memory.writeMasked s.mem p.addr data mask := by
  have hg : granule p.addr ∈ granules p.addr 64 := mem_granules.2 ⟨by decide, le_refl _, by simp only [granule]; omega⟩
  obtain ⟨hlen, hlt⟩ := masked_of_opOf hop hm
  have hbad : s.isBad (granule p.addr) = false := by simpa [State.isBad] using (State.sound_iff.1 hsound _ hg).1
  have hserve : s.serve (.firing p.job) p.addr (.masked data mask)
      = ({ s.burst [granule p.addr] with mem := s.mem.writeMasked p.addr data mask }, ⟨.ok, {}, []⟩) := by
    have hform : ¬ (p.addr % 64 ≠ 0 ∨ data.length ≠ 64 ∨ mask % 2 ^ 64 = 0) := by
      rw [Nat.mod_eq_of_lt hlt]
      omega
    have hmapped : mapped p.addr = true := by simpa [mapped] using ha
    simp only [State.serve, if_neg hform, hmapped, if_true, hreach, State.logFirst_of_no_rick hrick, State.writeMask, hbad,
      Bool.false_eq_true, if_false, State.rewrites_of_sound hg hsound]
  obtain ⟨hholds, hmem⟩ := State.serveMem_answers hm hrick hserve rfl (by rw [hop]; rfl) hroute
  have hexec : exec (.writeMasked p) s = .next (s.serveMem p) := does_reqArrives_mem hp hcls hdest htail hop (by decide)
  exact ⟨_, hexec, hholds, hmem⟩

theorem atomic_answered {op size : Nat} {operands : List Byte} (hop : p.opcode = 3) (hm : opOf p = some (.atomic op size operands))
    (hsize : (atomicSizes op).contains size = true) (halign : p.addr % size = 0) (hsound : s.sound p.addr size = true)
    (hroute : s.route (replyTo p s.myId 0x83 .ok (atomicResult op size (leNat (s.mem.read p.addr size)) operands).2
      (natLe 32 (leNat (s.mem.read p.addr size)))) = .port d q) :
    ∃ t, exec (.atomic p) s = .next t ∧ t.holds d q ∧ q.data = natLe 32 (leNat (s.mem.read p.addr size))
      ∧ t.mem = Memory.write s.mem p.addr (natLe size (atomicResult op size (leNat (s.mem.read p.addr size)) operands).1) := by
  have hpos := atomicSizes_pos hsize
  have hg : granule p.addr ∈ granules p.addr size := mem_granules.2 ⟨by omega, le_refl _, Nat.div_le_div_right (by omega)⟩
  have hbad : s.isBad (granule p.addr) = false := by simpa [State.isBad] using (State.sound_iff.1 hsound _ hg).1
  have hserve := State.serve_atomic hsize halign ha hreach hrick hbad rfl (Prod.mk.eta.symm)
    (s := s) (w := .firing p.job) (operands := operands)
  rw [State.rewrites_of_sound hg hsound] at hserve
  obtain ⟨hholds, hmem⟩ := State.serveMem_answers hm hrick hserve rfl (by rw [hop]; rfl) hroute
  have hexec : exec (.atomic p) s = .next (s.serveMem p) := does_reqArrives_mem hp hcls hdest htail hop (by decide)
  obtain ⟨-, -, -, -, -, hdata, -⟩ := reply_of_route hroute
  exact ⟨_, hexec, hholds, hdata, hmem⟩

theorem completion_answered (hop : p.opcode = 5) (halign : p.addr % 32 = 0) (hsound : s.sound p.addr 32 = true)
    (hroute : s.route (replyTo p s.myId 0x85 .ok {} []) = .port d q) :
    ∃ t, exec (.completion p) s = .next t ∧ t.holds d q ∧ t.mem = Memory.write s.mem p.addr (slice p.data 0 32) := by
  have hm : opOf p = some (.record (slice p.data 0 32)) := by
    unfold opOf
    simp only [hop]
  have hlen : (slice p.data 0 32).length = 32 := slice_length _ _ _
  have hform : ¬ (p.addr % 32 ≠ 0 ∨ (slice p.data 0 32).length ≠ 32) := by omega
  have hmapped : mapped p.addr = true := by simpa [mapped] using ha
  obtain ⟨-, hst⟩ := State.serve_record hlen halign ha hreach hrick hsound
  obtain ⟨hok, -⟩ := State.writeBytes_of_correctable (lt_sramBase ha)
    (by rw [hlen]; exact State.badIn_of_sound hsound : s.badIn p.addr (slice p.data 0 32).length = [])
  have hserve : s.serve (.firing p.job) p.addr (.record (slice p.data 0 32)) = ((s.writeBytes p.addr (slice p.data 0 32)).1, ⟨.ok, {}, []⟩) := by
    rw [← hok]
    simp only [State.serve, if_neg hform, hmapped, if_true, hreach, State.logFirst_of_no_rick hrick]
  rw [hserve] at hst
  obtain ⟨hholds, hmem⟩ := State.serveMem_answers hm hrick hserve (by rw [hst.frame]) (by rw [hop]; rfl) hroute
  have hexec : exec (.completion p) s = .next (s.serveMem p) := does_reqArrives_mem hp hcls hdest htail hop (by decide)
  exact ⟨_, hexec, hholds, hmem.trans hst.mem⟩

end

@[simp] theorem State.setSync_mem (s : State) (n v : Nat) : (s.setSync n v).mem = s.mem := by
  obtain ⟨i, hi⟩ := (s.setFld (Reg.fsqSyncValueValue n) v).wake_eq n
  rw [State.setSync, hi]
  exact s.setFld_mem (Reg.fsqSyncValueValue n) v

/-- A signal to a counter of the requester's job adds to it and is answered. -/
theorem signal_answered {s : State} {p q : Packet} {d n inc : Nat} {e : Nat × Ctx} (hp : s.powered = true) (hcls : p.cls = 0)
    (hdest : p.dest = s.myId) (htail : p.tailOk = true) (hop : p.opcode = 4) (hn : n = field p.cmd 4 2 % 4096) (hinc : inc = field p.cmd 8 4)
    (howner : s.counterOwner n = some e) (hjob : e.2.job = p.job) (hfence : s.fenced e.2.p.partition = false)
    (hroute : s.route (replyTo p s.myId 0x84 .ok {} []) = .port d q) :
    ∃ t, exec (.signal p) s = .next t ∧ t.holds d q ∧ q.opcode = 0x84 ∧ t.sync n = (s.sync n + inc) % 2 ^ 32 ∧ t.mem = s.mem := by
  have hlt : n < 4096 := hn ▸ Nat.mod_lt _ (by decide)
  obtain ⟨u, hu⟩ : ∃ u, u = s.setSync n (s.sync n + inc) := ⟨_, rfl⟩
  have hsignal : s.signal n inc (some p.job) = (u, .ok) := by rw [← hjob, hu, State.signal_owned hlt howner hfence]
  have hregs : u.regs = (s.setFld (Reg.fsqSyncValueValue n) (s.sync n + inc)).regs := hu ▸ s.setSync_regs n _
  have hother : ∀ x : Fld, 0x2D000 ≤ x.off → u.fld x = s.fld x := fun x hx => by
    rw [State.fld_of_regs hregs, s.fld_setFld_off _ _ _ (by simp only [Reg.fsqSyncValueValue]; omega)]
  have hid : u.myId = s.myId := by
    rw [State.myId, State.fld_of_regs hregs, s.fld_setFld_off _ _ _ (by simp only [Reg.fsqSyncValueValue, Reg.glbModuleIdId]; omega),
      State.myId]
  have hup : ∀ d, u.portUp d = s.portUp d := fun d => by
    rw [State.portUp, hother _ (by simp only [Reg.lanPortDiscState]; omega), State.portUp]
  have hserve : s.serveSignal p = u.inject 0 (replyTo p s.myId 0x84 .ok {} []) := by
    rw [State.serveSignal, ← hn, ← hinc, hsignal, ← hid]
  have hexec : exec (.signal p) s = .next (s.serveSignal p) := by
    have e : exec (.signal p) s = s.does fun s => s.reqArrives 4 p := rfl
    rw [e, s.does_powered _ hp, State.reqArrives, if_pos ⟨hop, hcls, hdest⟩, State.serveReq, if_neg (not_not.2 htail), if_pos hop]
  have humem : u.mem = s.mem := by rw [hu, State.setSync_mem]
  obtain ⟨hholds, hmem, hkept⟩ := State.inject_port ((State.route_of_portUp hid hup _).trans hroute) 0
  rw [hserve] at hexec
  refine ⟨_, hexec, hholds, (reply_of_route hroute).1, ?_, hmem.trans humem⟩
  rw [State.sync, hkept _ (by simp only [Reg.rtrCtrlOff, Reg.fsqSyncValueValue]; omega), ← State.sync, hu, s.sync_setSync]

/-- Settles O39: each request by what its serving leaves and the reply that routing sends. -/
theorem requestsAreServed : Obligations.RequestsAreServed := by
  unfold Obligations.RequestsAreServed
  refine fun p q d s hp hcls hdest htail hrick => ⟨fun n hop hm hform ha hreach hsound hroute =>
    read_answered hp hcls hdest htail hrick hop hm hform ha hreach hsound hroute, fun hreach ha => ⟨?_, ?_, ?_, ?_⟩,
    fun n inc e hop hn hinc howner hjob hfence hroute =>
      signal_answered hp hcls hdest htail hop hn hinc howner hjob hfence hroute⟩
  · exact fun data hop hm hform hsound hroute => write_answered hp hcls hdest htail hrick hreach ha hop hm hform hsound hroute
  · exact fun data mask hop hm halign hmask hsound hroute =>
      masked_answered hp hcls hdest htail hrick hreach ha hop hm halign hmask hsound hroute
  · exact fun op size operands hop hm hsize halign hsound hroute =>
      atomic_answered hp hcls hdest htail hrick hreach ha hop hm hsize halign hsound hroute
  · exact fun hop halign hsound hroute => completion_answered hp hcls hdest htail hrick hreach ha hop halign hsound hroute

end Sys2Proof.Machine
end

section
/-! SUPPORT. DMA channels: where a channel's registers lie, what it keeps beside them, and what each operation on a channel leaves (R189
to R208). -/

namespace Sys2Proof.Machine

/-! ### Where a channel's registers lie (R20, R208) -/

section
variable {off : Nat}

theorem dma_not_mem_grantRegs (h : Reg.dmaChCtrlOff 0 ≤ off) : off ∉ grantRegs :=
  not_mem_grantRegs (.inr (by simp only [Reg.dmaChCtrlOff, Reg.ctlGrantsLoOff] at h ⊢; omega))

theorem dma_not_mem_evRegs (h : off < Reg.dmaChCtrlOff 256) : off ∉ evRegs :=
  not_mem_evRegs (.inl (by simp only [Reg.dmaChCtrlOff, Reg.evrDroppedCount] at h ⊢; omega))

/-- The timers of a die lie above every channel. -/
theorem dmaTimersOff_above {n : Nat} (die : Nat) (h : n < 128) : Reg.dmaChCtrlOff n + 0x100 ≤ Reg.dmaTimersOff die := by
  simp only [Reg.dmaChCtrlOff, Reg.dmaTimersOff]
  omega

end

theorem stOf_stCode (st : Status) : stOf (stCode st) = st := by cases st <;> rfl

variable (s : State) (n : Nat)

/-! ### Registers and fields -/

/-- A field written with a value that fits it reads as that value. -/
theorem State.fld_setFld_fits {s : State} {f : Fld} {v : Nat} (h : f.lo ≤ f.hi ∧ f.hi < 32 ∧ v < 2 ^ f.width) :
    (s.setFld f v).fld f = v := by
  obtain ⟨hlo, hhi, hv⟩ := h
  rw [s.fld_setFld f v hhi hlo, Nat.mod_eq_of_lt hv]

theorem regsBut_setReg (off : Nat) (w : Word) (os : List Nat) (h : off ∈ os) : RegsBut s (s.setReg off w) os :=
  fun o ho => s.reg_setReg_ne off o w fun e => ho (e ▸ h)

theorem RegsBut.pair {s t : State} {os : List Nat} (h : RegsBut s t os) {lo : Nat} (hlo : lo ∉ os) (hhi : lo + 4 ∉ os) :
    t.pair lo = s.pair lo := by
  rw [State.pair, h _ hlo, h _ hhi, State.pair]

/-! ### What a channel keeps beside its registers -/

section
variable (x : DmaRun)

@[simp] theorem State.setDma_dma : (s.setDma n x).dma n = x := by rw [State.dma, State.setDma, tget_tset, if_pos rfl]

theorem regsBut_setDma (os : List Nat) : RegsBut s (s.setDma n x) os := fun _ _ => rfl

@[simp] theorem State.setDma_pair (lo : Nat) : (s.setDma n x).pair lo = s.pair lo := rfl

end

theorem State.dma_of_dmaRun {s t : State} (h : t.dmaRun = s.dmaRun) (n : Nat) : t.dma n = s.dma n := by rw [State.dma, h, State.dma]

/-- `t` differs from `s` in registers and in what channels keep beside them alone. -/
def OnlyDma (s t : State) : Prop := ∃ r d, t = { s with regs := r, dmaRun := d }

theorem OnlyRegs.onlyDma {s t : State} (h : OnlyRegs s t) : OnlyDma s t := by
  obtain ⟨r, rfl⟩ := h
  exact ⟨r, s.dmaRun, rfl⟩

theorem OnlyRegs.dmaRun {s t : State} (h : OnlyRegs s t) : t.dmaRun = s.dmaRun := by
  obtain ⟨r, rfl⟩ := h
  rfl

theorem onlyDma_setDma (x : DmaRun) : OnlyDma s (s.setDma n x) := ⟨s.regs, _, rfl⟩

theorem OnlyDma.trans {s t u : State} (h : OnlyDma s t) (h' : OnlyDma t u) : OnlyDma s u := by
  obtain ⟨r, d, rfl⟩ := h
  obtain ⟨r', d', rfl⟩ := h'
  exact ⟨r', d', rfl⟩

/-! ### The timer of a transfer (R202) -/

theorem onlyRegs_dmaRelease : OnlyRegs s (s.dmaRelease n) := by
  unfold State.dmaRelease
  split_ifs
  · exact onlyRegs_setFld s _ _
  · exact OnlyRegs.refl s

theorem regsBut_dmaRelease : RegsBut s (s.dmaRelease n) [Reg.dmaTimersOff (n / 64)] := by
  unfold State.dmaRelease
  split_ifs
  · exact regsBut_setFld s _ _ _ List.mem_cons_self
  · exact fun _ _ => rfl

theorem State.dmaRelease_free : (s.dmaRelease n).fld (Reg.dmaTimersFree (n / 64)) = if s.fld (Reg.dmaChCtrlRate n) ≠ 0
    then min 96 (s.fld (Reg.dmaTimersFree (n / 64)) + 1) else s.fld (Reg.dmaTimersFree (n / 64)) := by
  unfold State.dmaRelease
  split_ifs
  · exact State.fld_setFld_fits ⟨Nat.zero_le 7, (by decide : 7 < 32), lt_of_le_of_lt (min_le_left 96 _) (by decide : 96 < 2 ^ 8)⟩
  · rfl

/-! ### The reports of a transfer (R204, R390) -/

/-- Reports give results and are forgotten: nothing else changes. -/
theorem State.dmaReport_eq : ∃ i d, s.dmaReport n = { s with inProg := i, dmaRun := d } := by
  have hend : ∀ u : State, (∃ i d, u = { s with inProg := i, dmaRun := d }) → ∀ xs : List Origin,
      ∃ i d, u.each xs (fun t o => t.finish o .ok) = { s with inProg := i, dmaRun := d } := by
    rintro u ⟨i, d, rfl⟩ xs
    obtain ⟨j, hj⟩ := finishes_eq { s with inProg := i, dmaRun := d } xs (fun t o => t.finish o .ok) fun t o => ⟨_, rfl⟩
    exact ⟨j, d, hj⟩
  refine hend _ ?_ (s.dma n).aborts
  cases (s.dma n).reply with
  | none => exact ⟨_, _, rfl⟩
  | some o => exact ⟨_, _, rfl⟩

theorem State.dmaReport_regs : (s.dmaReport n).regs = s.regs := by
  obtain ⟨i, d, e⟩ := s.dmaReport_eq n
  rw [e]

theorem State.dmaReport_evq : (s.dmaReport n).evq = s.evq := by
  obtain ⟨i, d, e⟩ := s.dmaReport_eq n
  rw [e]

theorem State.dmaReport_mem : (s.dmaReport n).mem = s.mem := by
  obtain ⟨i, d, e⟩ := s.dmaReport_eq n
  rw [e]

theorem State.dmaReport_ctxs : (s.dmaReport n).ctxs = s.ctxs := by
  obtain ⟨i, d, e⟩ := s.dmaReport_eq n
  rw [e]

/-- The DMA_START that waits for the end is answered with the transfer's results. -/
theorem State.dmaReport_result {o : Origin} (hreply : (s.dma n).reply = some o) (haborts : (s.dma n).aborts = [])
    (hin : (⟨o, 0x32, none⟩ : Progress) ∈ s.inProg) :
    (s.dmaReport n).result o 0x32 (s.dmaResults n).1 (s.dmaResults n).2.1 (s.dmaResults n).2.2 [] := by
  have e : s.dmaReport n = (s.setDma n { s.dma n with reply := none, aborts := [] }).finish o (s.dmaResults n).1 (s.dmaResults n).2.1
      (s.dmaResults n).2.2 [] := by
    simp only [State.dmaReport, hreply, haborts, State.each, List.foldl_nil]
  rw [e]
  exact State.result_finish _ _ _ _ _ _ _ hin

/-- The status answered is that of the STATUS field. -/
theorem State.dmaReport_status {o : Origin} {st : Status} (hst : s.fld (Reg.dmaChStatusStatus n) = stCode st)
    (hreply : (s.dma n).reply = some o) (haborts : (s.dma n).aborts = []) (hin : (⟨o, 0x32, none⟩ : Progress) ∈ s.inProg) :
    ∃ f r, (s.dmaReport n).result o 0x32 st f r [] := by
  have hres := s.dmaReport_result n hreply haborts hin
  have hstatus : (s.dmaResults n).1 = st := by rw [State.dmaResults, hst, stOf_stCode]
  rw [hstatus] at hres
  exact ⟨_, _, hres⟩

/-! ### A start passes or fails its checks (R199, R202, R208) -/

/-- The job that a started channel speaks for: that of the context it is bound to (R190). -/
def State.dmaJob (s : State) (n : Nat) : Option Nat :=
  if s.flag (Reg.dmaChOwnerBound n) then (s.ctx (s.fld (Reg.dmaChOwnerContext n))).map (·.job) else none

theorem State.dmaJob_of_regsBut {s t : State} {os : List Nat} {n : Nat} (ho : OnlyRegs s t) (h : RegsBut s t os)
    (hmem : Reg.dmaChOwnerOff n ∉ os) : t.dmaJob n = s.dmaJob n := by
  have hctx : ∀ c, t.ctx c = s.ctx c := fun c => by
    obtain ⟨r, rfl⟩ := ho
    rfl
  rw [State.dmaJob, h.flag hmem, h.fld hmem, hctx, State.dmaJob]

/-- PROGRESS, FAULT_ADDR and MISMATCH_COUNT are 0. -/
def State.dmaZeroed (s : State) (n : Nat) : State :=
  ((s.setPair (Reg.dmaChProgressLoOff n) 0).setPair (Reg.dmaChFaultAddrLoOff n) 0).setReg (Reg.dmaChMismatchCountOff n) 0

/-- STATUS of a channel whose transfer begins: BUSY, and nothing found. -/
def State.dmaMarked (s : State) (n : Nat) : State :=
  (((s.setFlag (Reg.dmaChStatusMiscompare n) false).setFld (Reg.dmaChStatusCheck n) 0).setFld (Reg.dmaChStatusFlags n) 0).setFld
    (Reg.dmaChStatusState n) dmaBusyCode

/-- The registers of a channel whose transfer begins. -/
def State.dmaCleared (s : State) (n : Nat) : State := (s.dmaZeroed n).dmaMarked n

/-- A timer is taken for a transfer that is paced. -/
def State.dmaPaced (s : State) (n : Nat) : State := if s.fld (Reg.dmaChCtrlRate n) ≠ 0 then s.takeTimer (dmaDie n) else s

/-- What a channel keeps at the beginning of a transfer, in the state whose registers are cleared. -/
def State.dmaFresh (s : State) (n : Nat) (job : Option Nat) : DmaRun :=
  { s.dma n with job := job, run := 0, offset := 0, issued := false, out := [], failed := none, aborted := none, firstDiff := none
                 target := (s.dmaTarget n job).getD 0, held := match job with | some j => s.bankHolds j | none => false }

/-- A channel whose transfer begins. -/
def State.dmaBegun (s : State) (n : Nat) (job : Option Nat) : State :=
  ((s.dmaCleared n).setDma n ((s.dmaCleared n).dmaFresh n job)).dmaPaced n

/-- A channel whose start fails a check, before the reports. -/
def State.dmaRefused (s : State) (n k : Nat) (st : Status) : State :=
  (((s.setFld (Reg.dmaChStatusState n) dmaHalted).setFld (Reg.dmaChStatusStatus n) (stCode st)).setFld (Reg.dmaChStatusCheck n) k).ev
    0x0501 (dmaDie n) n (stCode st) k

theorem State.dmaBegin_passes {v : Nat} {job : Option Nat} (hjob : s.dmaJob n = job) (h : s.dmaCheck n v job = none) :
    s.dmaBegin n v = s.dmaBegun n job := by
  subst hjob
  unfold State.dmaJob at h ⊢
  unfold State.dmaBegin
  simp only [h]
  rfl

theorem State.dmaBegin_fails {v k : Nat} {job : Option Nat} {st : Status} (hjob : s.dmaJob n = job)
    (h : s.dmaCheck n v job = some (k, st)) : s.dmaBegin n v = (s.dmaRefused n k st).dmaReport n := by
  subst hjob
  unfold State.dmaJob at h
  unfold State.dmaBegin
  simp only [h]
  rfl

/-- The number of a check fits the CHECK field. -/
theorem State.dmaCheck_lt {v k : Nat} {job : Option Nat} {st : Status} (h : s.dmaCheck n v job = some (k, st)) : k < 8 := by
  unfold State.dmaCheck at h
  dsimp only at h
  repeat' split at h
  all_goals grind

/-! ### What the beginning of a transfer leaves -/

theorem onlyRegs_dmaZeroed : OnlyRegs s (s.dmaZeroed n) :=
  ((onlyRegs_setPair s _ _).trans (onlyRegs_setPair _ _ _)).trans (onlyRegs_setReg _ _ _)

theorem onlyRegs_dmaMarked : OnlyRegs s (s.dmaMarked n) :=
  (((onlyRegs_setFld s _ _).trans (onlyRegs_setFld _ _ _)).trans (onlyRegs_setFld _ _ _)).trans (onlyRegs_setFld _ _ _)

theorem onlyRegs_dmaCleared : OnlyRegs s (s.dmaCleared n) := (onlyRegs_dmaZeroed s n).trans (onlyRegs_dmaMarked _ n)

theorem onlyRegs_dmaPaced : OnlyRegs s (s.dmaPaced n) := by
  unfold State.dmaPaced
  split_ifs
  · exact onlyRegs_setFld s _ _
  · exact OnlyRegs.refl s

/-- The registers of a channel that the beginning of a transfer writes, and the timers of its die. -/
def beginRegs (n : Nat) : List Nat :=
  [Reg.dmaChStatusOff n, Reg.dmaChProgressLoOff n, Reg.dmaChProgressLoOff n + 4, Reg.dmaChFaultAddrLoOff n,
    Reg.dmaChFaultAddrLoOff n + 4, Reg.dmaChMismatchCountOff n, Reg.dmaTimersOff (n / 64)]

theorem regsBut_dmaZeroed : RegsBut s (s.dmaZeroed n) (beginRegs n) := fun off ho => by
  simp only [beginRegs, List.mem_cons, List.not_mem_nil, or_false, not_or] at ho
  obtain ⟨-, hp, hp', hf, hf', hm, -⟩ := ho
  rw [State.dmaZeroed, State.reg_setReg_ne _ _ _ _ hm, State.reg_setPair_ne _ _ _ _ hf hf', State.reg_setPair_ne _ _ _ _ hp hp']

theorem regsBut_dmaMarked : RegsBut s (s.dmaMarked n) [Reg.dmaChStatusOff n] := fun off ho => by
  have hst : off ≠ Reg.dmaChStatusOff n := by simpa using ho
  rw [State.dmaMarked, State.reg_setFld_ne _ _ _ _ hst, State.reg_setFld_ne _ _ _ _ hst, State.reg_setFld_ne _ _ _ _ hst,
    State.reg_setFlag_ne _ _ _ _ hst]

theorem regsBut_dmaPaced : RegsBut s (s.dmaPaced n) [Reg.dmaTimersOff (n / 64)] := by
  unfold State.dmaPaced
  split_ifs
  · exact regsBut_setFld s _ _ _ List.mem_cons_self
  · exact fun _ _ => rfl

theorem onlyDma_dmaBegun (job : Option Nat) : OnlyDma s (s.dmaBegun n job) :=
  ((onlyRegs_dmaCleared s n).onlyDma.trans (onlyDma_setDma _ n _)).trans (onlyRegs_dmaPaced _ n).onlyDma

/-- The timers apart, the registers read as they were cleared. -/
theorem regsBut_dmaBegun_timers (job : Option Nat) : RegsBut (s.dmaCleared n) (s.dmaBegun n job) [Reg.dmaTimersOff (n / 64)] :=
  (regsBut_setDma _ n _ _).trans (regsBut_dmaPaced _ n)

theorem regsBut_dmaBegun (job : Option Nat) : RegsBut s (s.dmaBegun n job) (beginRegs n) :=
  ((regsBut_dmaZeroed s n).trans ((regsBut_dmaMarked _ n).mono (by simp [beginRegs]))).trans
    ((regsBut_dmaBegun_timers s n job).mono (by simp [beginRegs]))

/-- What the channel keeps is what it keeps at the beginning of a transfer. -/
theorem State.dmaBegun_dma (job : Option Nat) : (s.dmaBegun n job).dma n = (s.dmaCleared n).dmaFresh n job :=
  (State.dma_of_dmaRun (onlyRegs_dmaPaced _ n).dmaRun n).trans (State.setDma_dma _ n _)

theorem State.dmaCleared_dma : (s.dmaCleared n).dma n = s.dma n := State.dma_of_dmaRun (onlyRegs_dmaCleared s n).dmaRun n

/-- PROGRESS lies apart from the other registers that a beginning writes. -/
theorem dmaProgress_not_mem {lo : Nat} (h : lo = Reg.dmaChProgressLoOff n ∨ lo = Reg.dmaChProgressLoOff n + 4) :
    lo ∉ [Reg.dmaChStatusOff n, Reg.dmaChFaultAddrLoOff n, Reg.dmaChFaultAddrLoOff n + 4, Reg.dmaChMismatchCountOff n] := by
  simp only [Reg.dmaChProgressLoOff, Reg.dmaChStatusOff, Reg.dmaChFaultAddrLoOff, Reg.dmaChMismatchCountOff, List.mem_cons,
    List.not_mem_nil, or_false] at h ⊢
  omega

theorem State.dmaZeroed_progress : (s.dmaZeroed n).pair (Reg.dmaChProgressLoOff n) = 0 := by
  obtain ⟨hlo, hhi⟩ := And.intro (dmaProgress_not_mem n (.inl rfl)) (dmaProgress_not_mem n (.inr rfl))
  have hregs : RegsBut (s.setPair (Reg.dmaChProgressLoOff n) 0) (s.dmaZeroed n)
      [Reg.dmaChStatusOff n, Reg.dmaChFaultAddrLoOff n, Reg.dmaChFaultAddrLoOff n + 4, Reg.dmaChMismatchCountOff n] :=
    (regsBut_setPair _ (Reg.dmaChFaultAddrLoOff n) 0 _ (by simp) (by simp)).trans
      (regsBut_setReg _ (Reg.dmaChMismatchCountOff n) 0 _ (by simp))
  rw [hregs.pair hlo hhi, s.pair_setPair _ 0 (by decide)]

/-- BUSY, with nothing moved and nothing found to differ. -/
theorem State.dmaCleared_read : (s.dmaCleared n).dmaState n = 1 ∧ (s.dmaCleared n).pair (Reg.dmaChProgressLoOff n) = 0
    ∧ (s.dmaCleared n).fld (Reg.dmaChMismatchCountCount n) = 0 := by
  have hmarked := regsBut_dmaMarked (s.dmaZeroed n) n
  refine ⟨State.fld_setFld_fits (by simp [Reg.dmaChStatusState, Fld.width, dmaBusyCode]), ?_, ?_⟩
  · rw [State.dmaCleared, hmarked.pair (fun h => dmaProgress_not_mem n (.inl rfl) (List.mem_of_mem_take (i := 1) h))
      (fun h => dmaProgress_not_mem n (.inr rfl) (List.mem_of_mem_take (i := 1) h)), s.dmaZeroed_progress]
  · rw [State.dmaCleared, hmarked.fld (by simp [Reg.dmaChMismatchCountCount, Reg.dmaChStatusOff]), State.fld]
    have hreg : (s.dmaZeroed n).reg (Reg.dmaChMismatchCountCount n).off = 0 := State.reg_setReg_same _ _ _
    rw [hreg]
    simp [bits]

theorem State.dmaBegun_read (job : Option Nat) (hn : n < 128) : (s.dmaBegun n job).dmaState n = 1
    ∧ (s.dmaBegun n job).pair (Reg.dmaChProgressLoOff n) = 0 ∧ (s.dmaBegun n job).fld (Reg.dmaChMismatchCountCount n) = 0 := by
  obtain ⟨hstate, hprogress, hcount⟩ := s.dmaCleared_read n
  have hregs := regsBut_dmaBegun_timers s n job
  have habove := dmaTimersOff_above (n / 64) hn
  simp only [Reg.dmaChCtrlOff] at habove
  refine ⟨(hregs.fld ?_).trans hstate, (hregs.pair ?_ ?_).trans hprogress, (hregs.fld ?_).trans hcount⟩
  all_goals
    simp only [List.mem_singleton, Reg.dmaChStatusState, Reg.dmaChProgressLoOff, Reg.dmaChMismatchCountCount]
    omega

/-! ### What a refused start leaves -/

section
variable (k : Nat) (st : Status)

/-- HALTED with the check's status and number. -/
theorem State.dmaRefused_read {k : Nat} (hn : n < 128) (hk : k < 8) : (s.dmaRefused n k st).dmaState n = 4
    ∧ (s.dmaRefused n k st).fld (Reg.dmaChStatusStatus n) = stCode st ∧ (s.dmaRefused n k st).fld (Reg.dmaChStatusCheck n) = k := by
  obtain ⟨a, ha⟩ : ∃ a, a = s.setFld (Reg.dmaChStatusState n) dmaHalted := ⟨_, rfl⟩
  obtain ⟨b, hb⟩ : ∃ b, b = a.setFld (Reg.dmaChStatusStatus n) (stCode st) := ⟨_, rfl⟩
  obtain ⟨c, hc⟩ : ∃ c, c = b.setFld (Reg.dmaChStatusCheck n) k := ⟨_, rfl⟩
  have e : s.dmaRefused n k st = c.ev 0x0501 (dmaDie n) n (stCode st) k := by rw [State.dmaRefused, hc, hb, ha]
  have hev : ∀ f : Fld, f.off = Reg.dmaChStatusOff n → (s.dmaRefused n k st).fld f = c.fld f := fun f hf => by
    refine e ▸ (regsBut_evRegs c _ _ _ _ _).fld (dma_not_mem_evRegs ?_)
    rw [hf]
    simp only [Reg.dmaChStatusOff, Reg.dmaChCtrlOff]
    omega
  have hstate : a.fld (Reg.dmaChStatusState n) = 4 := ha ▸ State.fld_setFld_fits (by simp [Reg.dmaChStatusState, Fld.width, dmaHalted])
  have hstatus : b.fld (Reg.dmaChStatusStatus n) = stCode st :=
    hb ▸ State.fld_setFld_fits ⟨by simp [Reg.dmaChStatusStatus], by simp [Reg.dmaChStatusStatus], stCode_lt st⟩
  have hcheck : c.fld (Reg.dmaChStatusCheck n) = k :=
    hc ▸ State.fld_setFld_fits ⟨by simp [Reg.dmaChStatusCheck], by simp [Reg.dmaChStatusCheck], hk⟩
  refine ⟨?_, ?_, (hev _ rfl).trans hcheck⟩
  · rw [State.dmaState, hev _ rfl, hc, b.fld_setFld_apart _ _ _ (by simp [apart, Reg.dmaChStatusCheck, Reg.dmaChStatusState]), hb,
      a.fld_setFld_apart _ _ _ (by simp [apart, Reg.dmaChStatusStatus, Reg.dmaChStatusState]), hstate]
  · rw [hev _ rfl, hc, b.fld_setFld_apart _ _ _ (by simp [apart, Reg.dmaChStatusCheck, Reg.dmaChStatusStatus]), hstatus]

theorem State.dmaRefused_hasEvent (hroom : s.room 1 = true) :
    (s.dmaRefused n k st).hasEvent 0x0501 (n / 64) n (stCode st) k :=
  State.hasEvent_ev _ _ _ _ _ _ ((State.room_of_evq (by simp only [State.setFld_evq]) 1).trans hroom)

theorem State.dmaRefused_frame : (s.dmaRefused n k st).dma n = s.dma n ∧ (s.dmaRefused n k st).inProg = s.inProg
    ∧ (s.dmaRefused n k st).mem = s.mem := by
  refine ⟨State.dma_of_dmaRun ?_ n, ?_, ?_⟩
  all_goals simp only [State.dmaRefused, State.ev_dmaRun, State.setFld_dmaRun, State.ev_inProg, State.setFld_inProg, State.ev_mem,
    State.setFld_mem]

end

end Sys2Proof.Machine
end

section
/-! SUPPORT. DMA channels: the abort of a transfer, and the writes of CTRL (R190, R191, R206, R208). -/

namespace Sys2Proof.Machine

variable (s : State) (n : Nat)

/-! ### An abort (R206, R276) -/

/-- From `s` to `t` a channel drains after an abort with a cause: requests that wait for a slot may have gone, and STATUS alone among the
registers has changed. -/
structure State.DmaDrains (s t : State) (n cause : Nat) : Prop where
  state : t.dmaState n = 2
  aborted : (t.dma n).aborted = some cause
  out : s.slotWait = [] → (t.dma n).out = (s.dma n).out ∧ t.slotWait = []
  regs : RegsBut s t [Reg.dmaChStatusOff n]
  frame : ∃ r d w, t = { s with regs := r, dmaRun := d, slotWait := w }

/-- Requests that wait for a slot go from what the channel keeps; with none waiting, none goes. -/
theorem State.dmaUnsent_spec : ∃ o w, s.dmaUnsent n = { s.setDma n { s.dma n with out := o } with slotWait := w }
    ∧ (s.slotWait = [] → o = (s.dma n).out ∧ w = []) := by
  refine ⟨_, _, rfl, fun h => ?_⟩
  rw [h]
  exact ⟨List.filter_eq_self.2 fun q _ => rfl, rfl⟩

theorem State.dmaAbort_drains {cause : Nat} (h : s.dmaState n = 1) : s.DmaDrains (s.dmaAbort n cause) n cause := by
  obtain ⟨u, hu⟩ : ∃ u, u = s.setFld (Reg.dmaChStatusState n) dmaDraining := ⟨_, rfl⟩
  obtain ⟨v, hv⟩ : ∃ v, v = u.setDma n { s.dma n with aborted := some cause, endAt := s.clk } := ⟨_, rfl⟩
  have habort : s.dmaAbort n cause = v.dmaUnsent n := by rw [State.dmaAbort, if_pos (show s.dmaState n = dmaBusyCode from h), hv, hu]
  have hstate : u.dmaState n = 2 := hu ▸ State.fld_setFld_fits (by simp [Reg.dmaChStatusState, Fld.width, dmaDraining])
  have hregs : RegsBut s u [Reg.dmaChStatusOff n] := hu ▸ regsBut_setFld s (Reg.dmaChStatusState n) dmaDraining _ List.mem_cons_self
  have hslots : v.slotWait = s.slotWait := by rw [hv, hu]; exact s.setFld_slotWait (Reg.dmaChStatusState n) dmaDraining
  have hdma : v.dma n = { s.dma n with aborted := some cause, endAt := s.clk } := hv ▸ u.setDma_dma n _
  obtain ⟨r, hr⟩ := hu ▸ onlyRegs_setFld s (Reg.dmaChStatusState n) dmaDraining
  obtain ⟨o, w, e, hnone⟩ := v.dmaUnsent_spec n
  have hend : (v.dmaUnsent n).dma n = { v.dma n with out := o } := by rw [e]; exact v.setDma_dma n _
  rw [habort]
  refine ⟨?_, by rw [hend, hdma], fun hw => ?_, ?_, ?_⟩
  · rw [e]
    exact hv ▸ hstate
  · obtain ⟨ho, hw'⟩ := hnone (hslots.trans hw)
    exact ⟨by rw [hend, ho, hdma], by rw [e, hw']⟩
  · rw [e]
    exact hv ▸ hregs
  · rw [e, hv, hr]
    exact ⟨_, _, _, rfl⟩

/-- A DMA_ABORT is noted beside the abort. -/
theorem State.DmaDrains.noted {s t : State} {n cause : Nat} (h : s.DmaDrains t n cause) (aborts : List Origin) :
    s.DmaDrains (t.setDma n { t.dma n with aborts := aborts }) n cause where
  state := h.state
  aborted := by rw [State.setDma_dma]; exact h.aborted
  out hw := by
    obtain ⟨hout, hslots⟩ := h.out hw
    exact ⟨by rw [State.setDma_dma]; exact hout, hslots⟩
  regs := h.regs
  frame := by
    obtain ⟨r, d, w, e⟩ := h.frame
    rw [e]
    exact ⟨_, _, _, rfl⟩

/-! ### A write of CTRL (R190, R191, R199, R208) -/

/-- ABORT or CLEAR written beside the RW fields does not set START. -/
theorem State.bit_ctrlWith {b : Nat} (h : b = 30 ∨ b = 29) : bit (s.ctrlWith n b) 31 = false ∧ bit (s.ctrlWith n b) b = true := by
  have hle : Nat.land (s.reg (Reg.dmaChCtrlOff n)).toNat ctrlRW ≤ ctrlRW := Nat.and_le_right
  simp only [ctrlRW] at hle
  rcases h with rfl | rfl
  all_goals
    simp only [bit, State.ctrlWith, ctrlRW, beq_iff_eq, beq_eq_false_iff_ne]
    omega

theorem State.dmaBusy_eq : s.dmaBusy n = (s.dmaState n == 1 || s.dmaState n == 2) := rfl

section
variable {s n} {v : Nat}

/-- An IDLE or DONE channel may be started. -/
theorem State.startable (h : s.dmaState n = 0 ∨ s.dmaState n = 3) : s.dmaBusy n = false ∧ s.dmaState n ≠ dmaHalted := by
  rw [State.dmaBusy_eq]
  rcases h with h | h
  all_goals
    rw [h]
    decide

theorem State.doCtrl_starts (h31 : bit v 31 = true) (h30 : bit v 30 = false) (hfence : s.chipFence = false)
    (hstate : s.dmaState n = 0 ∨ s.dmaState n = 3) :
    State.doCtrl n v s = ((s.writeRW (Reg.dmaChCtrlOff n) ctrlRW v).dmaBegin n v, .ok) := by
  obtain ⟨hbusy, hhalted⟩ := State.startable hstate
  simp only [State.doCtrl, h31, h30, hfence, hbusy, if_neg hhalted, Bool.not_false, Bool.and_self, Bool.and_false, Bool.false_eq_true,
    if_false, if_true]

theorem State.doCtrl_aborts (h31 : bit v 31 = false) (h30 : bit v 30 = true) (hstate : s.dmaState n = 1) :
    State.doCtrl n v s = (s.dmaAbort n 1, .ok) := by
  have hbusy : s.dmaBusy n = true := by
    rw [State.dmaBusy_eq, hstate]
    rfl
  simp only [State.doCtrl, h31, h30, hbusy, Bool.false_and, Bool.false_eq_true, if_false, if_true]

theorem State.doCtrl_clears (h31 : bit v 31 = false) (h29 : bit v 29 = true) (hstate : s.dmaState n = 4) :
    State.doCtrl n v s = ((s.writeRW (Reg.dmaChCtrlOff n) ctrlRW v).setFld (Reg.dmaChStatusState n) dmaIdle, .ok) := by
  have hbusy : s.dmaBusy n = false := by
    rw [State.dmaBusy_eq, hstate]
    rfl
  simp only [State.doCtrl, h31, h29, hbusy, if_pos (show s.dmaState n = dmaHalted from hstate), Bool.false_and, Bool.false_eq_true,
    if_false, if_true]

/-- The firmware of the active unit and an operator's writes are not audited (R463). -/
theorem State.mgmtRole_of_dmaWriter {r : Requester} (h : s.dmaWriter r n = true) : s.mgmtRole r = none ∨ s.mgmtRole r = some 0 := by
  simp only [State.dmaWriter, Bool.or_eq_true, Bool.and_eq_true] at h
  rcases h with h | ⟨h, -⟩
  · cases r with
    | firmware u => exact .inl rfl
    | session i => cases h
    | i3c => cases h
  · exact .inr (by simpa [State.isOp] using h)

/-- A write of CTRL by one that may write the channel is carried out and answered. -/
theorem State.ctrlWrite_ok {r : Requester} {t : State} (hw : s.dmaWriter r n = true) (hs : s.startFailed = false)
    (h : State.doCtrl n v s = (t, .ok)) : s.ctrlWrite r n v = t.answer r (Reg.dmaChCtrlOff n) v .ok := by
  rw [State.ctrlWrite, State.access, s.carry_unaudited r _ v _ hs (State.mgmtRole_of_dmaWriter hw), gate, if_pos hw, h]

end

end Sys2Proof.Machine
end

section
/-! DMA channels: they are bound and released, and their CTRL is written (R190, R191, R199, R206, R208, R390). -/

namespace Sys2Proof.Machine

/-! ### DMA_BIND and DMA_RELEASE (R190) -/

/-- A command whose body changes registers alone and gives the result at once. -/
theorem latch_finish_regs {s u t : State} {o : Origin} {op : Nat} {st : Status} {f : Flags} {r d : List Byte}
    (h : OnlyRegs (s.arbGrant.begun o op) u) (ht : t = State.latch s (u.finish o st f r d)) :
    t.result o op st f r d ∧ t = { s with regs := t.regs, inProg := t.inProg, latches := t.latches, outSeq := t.outSeq } := by
  obtain ⟨rs, hu⟩ := h
  obtain ⟨rg, hg⟩ := onlyRegs_arbGrant s
  obtain ⟨hres, e⟩ := latch_finish s u t o op st f r d (by rw [hu]; exact s.arbGrant.mem_begun o op) ht
  refine ⟨hres, ?_⟩
  clear ht
  subst hu
  rw [hg] at e
  rw [e]
  rfl

section
variable {s : State} {o : Origin} {n : Nat} (hp : s.powered = true) (hn : n < 128) (hbusy : s.arbGrant.dmaBusy n = false)
include hp hn hbusy

theorem dmaBind_binds {c : Nat} {x : Ctx} (ht : s.arbGrant.takes o 0x30 = true) (hc : c < 512) (hx : s.arbGrant.ownCtx o c = some x)
    (hfence : s.arbGrant.fenced x.p.partition = false) (hfree : s.arbGrant.flag (Reg.dmaChOwnerBound n) = false) :
    ∃ t, exec (.dmaBind o n c) s = .next t ∧ t.flag (Reg.dmaChOwnerBound n) = true ∧ t.fld (Reg.dmaChOwnerContext n) = c
      ∧ t.result o 0x30 .ok {} [] [] ∧ RegsBut s t (grantRegs ++ [Reg.dmaChOwnerOff n])
      ∧ t = { s with regs := t.regs, inProg := t.inProg, latches := t.latches, outSeq := t.outSeq } := by
  obtain ⟨v, hv⟩ : ∃ v, v = (s.arbGrant.begun o 0x30).setFlag (Reg.dmaChOwnerBound n) true := ⟨_, rfl⟩
  obtain ⟨u, hu⟩ : ∃ u, u = v.setFld (Reg.dmaChOwnerContext n) c := ⟨_, rfl⟩
  have hbody : State.doBind o n c (s.arbGrant.begun o 0x30) = u.finish o .ok := by
    have hx' : (s.arbGrant.begun o 0x30).ownCtx o c = some x := hx
    have hfence' : (s.arbGrant.begun o 0x30).fenced x.p.partition = false := hfence
    have hbusy' : (s.arbGrant.begun o 0x30).dmaBusy n = false := hbusy
    rw [State.doBind, if_neg (by omega), State.withCtx, hx']
    simp only [hfence', State.begun_flag, hfree, hbusy', Bool.false_eq_true, if_false]
    rw [hu, hv]
  have hbound : v.flag (Reg.dmaChOwnerBound n) = true :=
    hv ▸ State.flag_setFlag _ (Reg.dmaChOwnerBound n) true (by simp [Reg.dmaChOwnerBound]) (by simp [Reg.dmaChOwnerBound])
  have honly : OnlyRegs (s.arbGrant.begun o 0x30) u := by
    rw [hu, hv]
    exact (onlyRegs_setFld _ _ _).trans (onlyRegs_setFld _ _ _)
  have hregs : RegsBut s.arbGrant (u.finish o .ok) [Reg.dmaChOwnerOff n] := by
    refine RegsBut.trans (t := u) ?_ (regsBut_of_regs _ rfl)
    rw [hu, hv]
    exact (regsBut_setFld (s.arbGrant.begun o 0x30) (Reg.dmaChOwnerBound n) _ _ List.mem_cons_self).trans
      (regsBut_setFld _ (Reg.dmaChOwnerContext n) c _ List.mem_cons_self)
  have hexec := s.granted_hostCmd o 0x30 (State.doBind o n c) hp ht
  rw [hbody] at hexec
  obtain ⟨hres, hframe⟩ := latch_finish_regs honly rfl
  refine ⟨_, hexec, ?_, ?_, hres, hregs.granted, hframe⟩
  · rw [State.latch_flag, State.finish_flag, hu,
      State.flag_setFld_apart _ _ _ _ (by simp [apart, Reg.dmaChOwnerContext, Reg.dmaChOwnerBound]), hbound]
  · rw [State.latch_fld, State.finish_fld, hu]
    exact State.fld_setFld_fits (by simpa [Reg.dmaChOwnerContext, Fld.width] using hc)

theorem dmaRelease_frees (ht : s.arbGrant.takes o 0x31 = true) (hown : s.arbGrant.ownChannel o n = true) :
    ∃ t, exec (.dmaRelease o n) s = .next t ∧ t.flag (Reg.dmaChOwnerBound n) = false ∧ t.result o 0x31 .ok {} [] []
      ∧ RegsBut s t (grantRegs ++ [Reg.dmaChOwnerOff n])
      ∧ t = { s with regs := t.regs, inProg := t.inProg, latches := t.latches, outSeq := t.outSeq } := by
  obtain ⟨u, hu⟩ : ∃ u, u = (s.arbGrant.begun o 0x31).unbind n := ⟨_, rfl⟩
  have hbody : State.doUnbind o n (s.arbGrant.begun o 0x31) = u.finish o .ok := by
    have hown' : (s.arbGrant.begun o 0x31).ownChannel o n = true := hown
    have hbusy' : (s.arbGrant.begun o 0x31).dmaBusy n = false := hbusy
    rw [State.doUnbind, if_neg (by omega), if_neg (not_not.2 hown'), hbusy', hu]
    rfl
  have hregs : RegsBut s.arbGrant (u.finish o .ok) [Reg.dmaChOwnerOff n] := by
    refine RegsBut.trans (t := u) ?_ (regsBut_of_regs _ rfl)
    exact hu ▸ regsBut_setReg (s.arbGrant.begun o 0x31) (Reg.dmaChOwnerOff n) 0 _ List.mem_cons_self
  have honly : OnlyRegs (s.arbGrant.begun o 0x31) u := by
    rw [hu]
    exact onlyRegs_setReg _ _ _
  have hexec := s.granted_hostCmd o 0x31 (State.doUnbind o n) hp ht
  rw [hbody] at hexec
  obtain ⟨hres, hframe⟩ := latch_finish_regs honly rfl
  refine ⟨_, hexec, ?_, hres, hregs.granted, hframe⟩
  have hzero : u.reg (Reg.dmaChOwnerBound n).off = 0 := hu ▸ State.reg_setReg_same _ _ _
  rw [State.latch_flag, State.finish_flag, State.flag, State.fld, hzero]
  simp [bits]

end

/-! ### Writes of CTRL (R191, R199, R206, R208) -/

/-- An answer to an access sent after a channel's work, and the outputs latched: nothing else changes. -/
theorem latch_answer_dma {s u t : State} {r : Requester} {off v : Nat} {st : Status} (h : OnlyDma s u)
    (ht : t = State.latch s (u.answer r off v st)) :
    t = { s with regs := t.regs, wire := t.wire, dmaRun := t.dmaRun, latches := t.latches, outSeq := t.outSeq } := by
  have e := latch_answer_eq s u t r off v st ht
  obtain ⟨rg, d, hu⟩ := h
  clear ht
  subst hu
  rw [e]

/-- The same after an abort in the state of the grant. -/
theorem latch_answer_aborted {s u t : State} {r : Requester} {off v : Nat} {st : Status}
    (h : ∃ rg d w, u = { s.arbGrant with regs := rg, dmaRun := d, slotWait := w }) (ht : t = State.latch s (u.answer r off v st)) :
    t = { s with regs := t.regs, wire := t.wire, dmaRun := t.dmaRun, slotWait := t.slotWait, latches := t.latches,
                 outSeq := t.outSeq } := by
  have e := latch_answer_eq s u t r off v st ht
  obtain ⟨rg, d, w, hu⟩ := h
  obtain ⟨rg', hg⟩ := onlyRegs_arbGrant s
  clear ht
  subst hu
  rw [hg] at e
  rw [e]

section
variable {s : State} {n : Nat} {r : Requester} (hp : s.powered = true) (hn : n < 128) (hw : s.arbGrant.dmaWriter r n = true)
  (hs : s.startFailed = false)
include hp hw hs

/-- A write of CTRL that is carried out, in the state of the grant. -/
theorem granted_ctrlWrite {v : State → Nat} {u : State} (h : State.doCtrl n (v s.arbGrant) s.arbGrant = (u, .ok)) :
    s.granted (fun s => s.ctrlWrite r n (v s))
      = .next (State.latch s (u.answer r (Reg.dmaChCtrlOff n) (v s.arbGrant) .ok)) := by
  rw [s.granted_powered _ hp, State.ctrlWrite_ok hw (s.startFailed_arbGrant.trans hs) h]

include hn

theorem dmaCtrlStart_starts {v : Nat} {job : Option Nat} (hv : v < 2 ^ 30) (hfence : s.arbGrant.chipFence = false)
    (hstate : s.arbGrant.dmaState n = 0 ∨ s.arbGrant.dmaState n = 3) (hjob : s.arbGrant.dmaJob n = job)
    (hcheck : (s.arbGrant.writeRW (Reg.dmaChCtrlOff n) ctrlRW (v + 2 ^ 31)).dmaCheck n (v + 2 ^ 31) job = none) :
    ∃ t, exec (.dmaCtrlStart r n v) s = .next t ∧ .access r (Reg.dmaChCtrlOff n) (v + 2 ^ 31) .ok ∈ t.wire
      ∧ t.dmaState n = 1 ∧ t.pair (Reg.dmaChProgressLoOff n) = 0 ∧ (t.dma n).job = job ∧ (t.dma n).out = []
      ∧ t = { s with regs := t.regs, wire := t.wire, dmaRun := t.dmaRun, latches := t.latches, outSeq := t.outSeq } := by
  obtain ⟨w, hwr⟩ : ∃ w, w = s.arbGrant.writeRW (Reg.dmaChCtrlOff n) ctrlRW (v + 2 ^ 31) := ⟨_, rfl⟩
  have h31 : bit (v + 2 ^ 31) 31 = true := by
    simp only [bit, beq_iff_eq]
    omega
  have h30 : bit (v + 2 ^ 31) 30 = false := by
    simp only [bit, beq_eq_false_iff_ne]
    omega
  have hwonly : OnlyRegs s.arbGrant w := hwr ▸ onlyRegs_setReg s.arbGrant (Reg.dmaChCtrlOff n) _
  have hwregs : RegsBut s.arbGrant w [Reg.dmaChCtrlOff n] := hwr ▸ regsBut_setReg s.arbGrant (Reg.dmaChCtrlOff n) _ _ List.mem_cons_self
  have hctrl := State.doCtrl_starts h31 h30 hfence hstate
  rw [← hwr] at hcheck hctrl
  have hwjob : w.dmaJob n = job := (State.dmaJob_of_regsBut hwonly hwregs (by simp [Reg.dmaChOwnerOff, Reg.dmaChCtrlOff])).trans hjob
  rw [w.dmaBegin_passes n hwjob hcheck] at hctrl
  have hexec : exec (.dmaCtrlStart r n v) s
      = .next (State.latch s ((w.dmaBegun n job).answer r (Reg.dmaChCtrlOff n) (v + 2 ^ 31) .ok)) := by
    have e : exec (.dmaCtrlStart r n v) s = s.granted fun s => s.ctrlWrite r (n % 128) (v % 2 ^ 30 + 2 ^ 31) := rfl
    rw [e, Nat.mod_eq_of_lt hn, Nat.mod_eq_of_lt hv]
    exact granted_ctrlWrite hp hw hs (v := fun _ => v + 2 ^ 31) hctrl
  obtain ⟨hbusy, hprogress, -⟩ := w.dmaBegun_read n job hn
  have hdma := w.dmaBegun_dma n job
  have honly : OnlyDma s (w.dmaBegun n job) := ((onlyRegs_arbGrant s).trans hwonly).onlyDma.trans (onlyDma_dmaBegun w n job)
  have hkept : (State.latch s ((w.dmaBegun n job).answer r (Reg.dmaChCtrlOff n) (v + 2 ^ 31) .ok)).dma n
      = (w.dmaCleared n).dmaFresh n job :=
    (State.dma_of_dmaRun ((State.latch_dmaRun _ _).trans (State.answer_dmaRun _ _ _ _ _)) n).trans hdma
  refine ⟨_, hexec, latch_answer_mem _ s r _ _ .ok, ?_, ?_, by rw [hkept]; rfl, by rw [hkept]; rfl, latch_answer_dma honly rfl⟩
  · rw [State.dmaState, State.latch_fld, State.answer_fld]
    exact hbusy
  · rw [State.latch_pair, State.answer_pair, hprogress]

theorem dmaCtrlAbort_drains (hstate : s.arbGrant.dmaState n = 1) :
    ∃ t, exec (.dmaCtrlAbort r n) s = .next t ∧ t.dmaState n = 2 ∧ (t.dma n).aborted = some 1
      ∧ (s.slotWait = [] → (t.dma n).out = (s.dma n).out ∧ t.slotWait = []) ∧ RegsBut s t (grantRegs ++ [Reg.dmaChStatusOff n])
      ∧ t = { s with regs := t.regs, wire := t.wire, dmaRun := t.dmaRun, slotWait := t.slotWait, latches := t.latches,
                     outSeq := t.outSeq } := by
  obtain ⟨h31, h30⟩ := s.arbGrant.bit_ctrlWith n (.inl rfl)
  have hdrains := s.arbGrant.dmaAbort_drains n (cause := 1) hstate
  obtain ⟨u, hu⟩ : ∃ u, u = s.arbGrant.dmaAbort n 1 := ⟨_, rfl⟩
  have hexec : exec (.dmaCtrlAbort r n) s
      = .next (State.latch s (u.answer r (Reg.dmaChCtrlOff n) (s.arbGrant.ctrlWith n 30) .ok)) := by
    have e : exec (.dmaCtrlAbort r n) s = s.granted fun s => s.ctrlWrite r (n % 128) (s.ctrlWith (n % 128) 30) := rfl
    rw [e, Nat.mod_eq_of_lt hn, hu]
    exact granted_ctrlWrite hp hw hs (v := fun s => s.ctrlWith n 30) (State.doCtrl_aborts h31 h30 hstate)
  rw [← hu] at hdrains
  obtain ⟨hdraining, haborted, hout, hregs, hframe⟩ := hdrains
  obtain ⟨t, ht⟩ : ∃ t, t = State.latch s (u.answer r (Reg.dmaChCtrlOff n) (s.arbGrant.ctrlWith n 30) .ok) := ⟨_, rfl⟩
  have hdma : t.dma n = u.dma n :=
    State.dma_of_dmaRun (by rw [ht]; exact (State.latch_dmaRun _ _).trans (State.answer_dmaRun _ _ _ _ _)) n
  refine ⟨t, ht ▸ hexec, ?_, by rw [hdma, haborted], fun hw => ?_, ?_, latch_answer_aborted hframe ht⟩
  · rw [ht, State.dmaState, State.latch_fld, State.answer_fld]
    exact hdraining
  · obtain ⟨hsame, hnone⟩ := hout (s.arbGrant_slotWait.trans hw)
    refine ⟨by rw [hdma, hsame, State.dma_of_dmaRun s.arbGrant_dmaRun], ?_⟩
    rw [ht]
    exact (State.latch_slotWait _ _).trans ((State.answer_slotWait _ _ _ _ _).trans hnone)
  · rw [ht]
    exact (hregs.answer r _ _ .ok).granted

theorem dmaCtrlClear_idles (hstate : s.arbGrant.dmaState n = 4) :
    ∃ t, exec (.dmaCtrlClear r n) s = .next t ∧ t.dmaState n = 0
      ∧ RegsBut s t (grantRegs ++ [Reg.dmaChCtrlOff n, Reg.dmaChStatusOff n])
      ∧ t = { s with regs := t.regs, wire := t.wire, latches := t.latches, outSeq := t.outSeq } := by
  obtain ⟨h31, h29⟩ := s.arbGrant.bit_ctrlWith n (.inr rfl)
  obtain ⟨w, hwr⟩ : ∃ w, w = s.arbGrant.writeRW (Reg.dmaChCtrlOff n) ctrlRW (s.arbGrant.ctrlWith n 29) := ⟨_, rfl⟩
  obtain ⟨u, hu⟩ : ∃ u, u = w.setFld (Reg.dmaChStatusState n) dmaIdle := ⟨_, rfl⟩
  have hexec : exec (.dmaCtrlClear r n) s
      = .next (State.latch s (u.answer r (Reg.dmaChCtrlOff n) (s.arbGrant.ctrlWith n 29) .ok)) := by
    have e : exec (.dmaCtrlClear r n) s = s.granted fun s => s.ctrlWrite r (n % 128) (s.ctrlWith (n % 128) 29) := rfl
    rw [e, Nat.mod_eq_of_lt hn, hu, hwr]
    exact granted_ctrlWrite hp hw hs (v := fun s => s.ctrlWith n 29) (State.doCtrl_clears h31 h29 hstate)
  have hregs : RegsBut s.arbGrant u [Reg.dmaChCtrlOff n, Reg.dmaChStatusOff n] := by
    rw [hu, hwr]
    exact (regsBut_setReg s.arbGrant (Reg.dmaChCtrlOff n) _ _ List.mem_cons_self).trans
      (regsBut_setFld _ (Reg.dmaChStatusState n) _ _ (List.mem_cons_of_mem _ List.mem_cons_self))
  have honly : OnlyRegs s u := by
    rw [hu, hwr]
    exact ((onlyRegs_arbGrant s).trans (onlyRegs_setReg _ _ _)).trans (onlyRegs_setFld _ _ _)
  refine ⟨_, hexec, ?_, (hregs.answer r _ _ .ok).granted, latch_answer_regs s u _ r _ _ .ok honly rfl⟩
  rw [State.dmaState, State.latch_fld, State.answer_fld, hu]
  exact State.fld_setFld_fits (by simp [Reg.dmaChStatusState, Fld.width, dmaIdle])

end

/-! ### DMA_ABORT (R206, R390) -/

theorem dmaAbort_waits {s : State} {o : Origin} {n : Nat} (hp : s.powered = true) (hn : n < 128) (ht : s.arbGrant.takes o 0x33 = true)
    (hown : s.arbGrant.ownChannel o n = true) (hstate : s.arbGrant.dmaState n = 1) :
    ∃ t, exec (.dmaAbort o n) s = .next t ∧ t.dmaState n = 2 ∧ (t.dma n).aborted = some 1 ∧ o ∈ (t.dma n).aborts
      ∧ RegsBut s t (grantRegs ++ [Reg.dmaChStatusOff n])
      ∧ t = { s with regs := t.regs, inProg := s.inProg ++ [⟨o, 0x33, none⟩], dmaRun := t.dmaRun, slotWait := t.slotWait
                     latches := t.latches, outSeq := t.outSeq } := by
  have hdrains := (State.dmaAbort_drains (s.arbGrant.begun o 0x33) n (cause := 1) hstate).noted
    (((s.arbGrant.begun o 0x33).dmaAbort n 1 |>.dma n).aborts ++ [o])
  obtain ⟨u, hu⟩ : ∃ u, u = ((s.arbGrant.begun o 0x33).dmaAbort n 1).setDma n { ((s.arbGrant.begun o 0x33).dmaAbort n 1).dma n with
      aborts := (((s.arbGrant.begun o 0x33).dmaAbort n 1).dma n).aborts ++ [o] } := ⟨_, rfl⟩
  have hbody : State.doDmaAbort o n (s.arbGrant.begun o 0x33) = u := by
    have hown' : (s.arbGrant.begun o 0x33).ownChannel o n = true := hown
    have hbusy : (s.arbGrant.begun o 0x33).dmaBusy n = true := by
      rw [State.dmaBusy_eq, show (s.arbGrant.begun o 0x33).dmaState n = 1 from hstate]
      rfl
    rw [State.doDmaAbort, if_neg (by omega), if_neg (not_not.2 hown'), if_pos hbusy, hu]
  have hnoted : o ∈ (u.dma n).aborts := by
    rw [hu, State.setDma_dma]
    exact List.mem_append_right _ List.mem_cons_self
  have hexec := s.granted_hostCmd o 0x33 (State.doDmaAbort o n) hp ht
  rw [← hu] at hdrains
  rw [hbody] at hexec
  obtain ⟨hdraining, haborted, -, hregs, rg, d, w, e⟩ := hdrains
  have hdma : (State.latch s u).dma n = u.dma n := State.dma_of_dmaRun (State.latch_dmaRun _ _) n
  refine ⟨_, hexec, (State.latch_fld _ _ _).trans hdraining, by rw [hdma, haborted], by rwa [hdma], RegsBut.granted hregs, ?_⟩
  obtain ⟨l, m, hl⟩ := u.latch_eq s
  obtain ⟨rg', hg⟩ := onlyRegs_arbGrant s
  rw [hl, e, hg]
  rfl

/-- Settles O21: a binding by the OWNER register, a write of CTRL by what it begins, aborts or clears. -/
theorem dmaBindingAndControl : Obligations.DmaBindingAndControl := by
  unfold Obligations.DmaBindingAndControl
  refine ⟨fun o n s g hp hg hn hbusy => ?_, fun n s g hp hg hn => ?_⟩
  · subst hg
    exact ⟨fun c x ht hc hx hfence hfree => dmaBind_binds hp hn hbusy ht hc hx hfence hfree,
      fun ht hown => dmaRelease_frees hp hn hbusy ht hown⟩
  · subst hg
    exact ⟨fun r v job hw hs hv hfence hstate hjob hcheck => dmaCtrlStart_starts hp hn hw hs hv hfence hstate hjob.symm hcheck,
      fun r hw hs hstate => dmaCtrlAbort_drains hp hn hw hs hstate, fun r hw hs hstate => dmaCtrlClear_idles hp hn hw hs hstate,
      fun o ht hown hstate => dmaAbort_waits hp hn ht hown hstate⟩

end Sys2Proof.Machine
end

section
/-! DMA_START: an image is written, checked, and starts the channel or is refused (R199, R208, R390). -/

namespace Sys2Proof.Machine

/-! ### The image (R208, R390) -/

/-- The RW fields lie in registers of their own, below PROGRESS and apart from STATUS and OWNER, and are words. -/
theorem imageFields_places (n : Nat) : ((imageFields n).map (·.1)).Nodup
    ∧ ∀ x ∈ imageFields n, x.1 < 0x58 ∧ x.1 ≠ 0x04 ∧ x.1 ≠ 0x1C ∧ x.2 < 2 ^ 32 := by
  rw [imageFields]
  cases dmaData n <;> decide

section
variable (s : State) (base : Nat) (v : Nat → Nat) (xs : List (Nat × Nat))

theorem regsBut_writeRW (off mask w : Nat) : RegsBut s (s.writeRW off mask w) [off] := regsBut_setReg s _ _ _ List.mem_cons_self

theorem onlyRegs_writeRWs : OnlyRegs s (s.each xs fun t x => t.writeRW (base + x.1) x.2 (v x.1)) :=
  onlyRegs_each s xs _ fun t _ => onlyRegs_setReg t _ _

/-- Registers written one after another change no other. -/
theorem regsBut_writeRWs : RegsBut s (s.each xs fun t x => t.writeRW (base + x.1) x.2 (v x.1)) (xs.map fun x => base + x.1) :=
  regsBut_each s xs _ _ fun t x hx =>
    (regsBut_writeRW t _ _ _).mono (List.cons_subset.2 ⟨List.mem_map.2 ⟨x, hx, rfl⟩, List.nil_subset _⟩)

/-- Each of several registers, written once, holds the RW bits of its word. -/
theorem State.reg_writeRWs (hnd : (xs.map (·.1)).Nodup) {x : Nat × Nat} (hx : x ∈ xs) :
    (s.each xs fun t x => t.writeRW (base + x.1) x.2 (v x.1)).reg (base + x.1) = BitVec.ofNat 32 (Nat.land (v x.1) x.2) := by
  induction xs generalizing s with
  | nil => cases hx
  | cons y ys ih =>
    obtain ⟨hy, hys⟩ := List.nodup_cons.1 hnd
    rcases List.mem_cons.1 hx with rfl | hx
    · have hrest : base + x.1 ∉ ys.map fun z => base + z.1 := fun hm => by
        obtain ⟨z, hz, e⟩ := List.mem_map.1 hm
        exact hy (List.mem_map.2 ⟨z, hz, Nat.add_left_cancel e⟩)
      exact (regsBut_writeRWs _ base v ys _ hrest).trans (State.reg_setReg_same _ _ _)
    · exact ih _ hys hx

end

/-! ### The body of the command -/

section
variable {s w : State} {o : Origin} {n : Nat} {image : List Byte}
  (hw : w = s.each (imageFields n) fun t x => t.writeRW (Reg.dmaChCtrlOff n + x.1) x.2 (field image x.1 4))
include hw

theorem onlyRegs_image : OnlyRegs s w := hw ▸ onlyRegs_writeRWs s (Reg.dmaChCtrlOff n) (fun k => field image k 4) _

theorem State.image_reg {x : Nat × Nat} (hx : x ∈ imageFields n) :
    (w.reg (Reg.dmaChCtrlOff n + x.1)).toNat = Nat.land (field image x.1 4) x.2 := by
  obtain ⟨hnd, hplaces⟩ := imageFields_places n
  obtain ⟨-, -, -, hword⟩ := hplaces x hx
  rw [hw, State.reg_writeRWs s (Reg.dmaChCtrlOff n) (fun k => field image k 4) _ hnd hx, BitVec.toNat_ofNat]
  exact Nat.mod_eq_of_lt (lt_of_le_of_lt Nat.and_le_right hword)

/-- An image changes no register but those of its fields. -/
theorem regsBut_image {off : Nat} (h : off < Reg.dmaChCtrlOff n ∨ Reg.dmaChCtrlOff n + 0x58 ≤ off ∨ off = Reg.dmaChStatusOff n
    ∨ off = Reg.dmaChOwnerOff n) : w.reg off = s.reg off := by
  rw [hw]
  refine regsBut_writeRWs s (Reg.dmaChCtrlOff n) (fun k => field image k 4) _ off fun hm => ?_
  obtain ⟨x, hx, e⟩ := List.mem_map.1 hm
  obtain ⟨htop, hstatus, howner, -⟩ := (imageFields_places n).2 x hx
  simp only [Reg.dmaChCtrlOff, Reg.dmaChStatusOff, Reg.dmaChOwnerOff] at h e
  omega

theorem State.image_job (ho : s.ownChannel o n = true) : w.dmaJob n = (s.ctx (s.fld (Reg.dmaChOwnerContext n))).map (·.job) := by
  have hregs : RegsBut s w ((imageFields n).map fun x => Reg.dmaChCtrlOff n + x.1) :=
    hw ▸ regsBut_writeRWs s (Reg.dmaChCtrlOff n) (fun k => field image k 4) _
  have hmem : Reg.dmaChOwnerOff n ∉ (imageFields n).map fun x => Reg.dmaChCtrlOff n + x.1 := fun hm => by
    obtain ⟨x, hx, e⟩ := List.mem_map.1 hm
    obtain ⟨-, -, howner, -⟩ := (imageFields_places n).2 x hx
    simp only [Reg.dmaChCtrlOff, Reg.dmaChOwnerOff] at e
    omega
  obtain ⟨hbound, -⟩ : s.flag (Reg.dmaChOwnerBound n) = true ∧ _ := Bool.and_eq_true_iff.1 ho
  rw [State.dmaJob_of_regsBut (onlyRegs_image hw) hregs hmem, State.dmaJob, if_pos hbound]

/-- Of an own channel that is IDLE or DONE the image is written, then START. -/
theorem State.doDmaStart_begins (hn : n < 128) (hlen : image.length = 96) (ho : s.ownChannel o n = true) (hfence : s.chipFence = false)
    (h31 : bit (field image 0 4) 31 = true) (h30 : bit (field image 0 4) 30 = false) (h29 : bit (field image 0 4) 29 = false)
    (hstate : s.dmaState n = 0 ∨ s.dmaState n = 3) :
    State.doDmaStart o n image s = (w.setDma n { w.dma n with reply := some o }).dmaBegin n (field image 0 4) := by
  obtain ⟨hbusy, hhalted⟩ := State.startable hstate
  have hgo : ¬ (s.dmaBusy n = true ∨ s.dmaState n = dmaHalted) := by simp [hbusy, hhalted]
  rw [State.doDmaStart, if_neg (by omega), if_neg (not_not.2 hlen), if_neg (not_not.2 ho), if_neg (by simp [hfence]),
    if_neg (by simp [h31, h30, h29]), if_neg hgo, hw]

end

/-- What a channel keeps plays no part in the checks. -/
theorem State.dmaCheck_setDma (w : State) (n m v : Nat) (x : DmaRun) (job : Option Nat) :
    (w.setDma m x).dmaCheck n v job = w.dmaCheck n v job := rfl

theorem State.dmaJob_setDma (w : State) (n m : Nat) (x : DmaRun) : (w.setDma m x).dmaJob n = w.dmaJob n := rfl

/-! ### The command -/

section
variable {s w : State} {o : Origin} {n : Nat} {image : List Byte} {job : Option Nat} (hp : s.powered = true) (hn : n < 128)
  (ht : s.arbGrant.takes o 0x32 = true)
  (hw : w = (s.arbGrant.begun o 0x32).each (imageFields n) fun t x => t.writeRW (Reg.dmaChCtrlOff n + x.1) x.2 (field image x.1 4))
  (hbody : State.doDmaStart o n image (s.arbGrant.begun o 0x32)
    = (w.setDma n { w.dma n with reply := some o }).dmaBegin n (field image 0 4))
  (hjob : w.dmaJob n = job)
include hp hn ht hw hbody hjob

theorem dmaStart_starts (hcheck : w.dmaCheck n (field image 0 4) job = none) :
    ∃ t, exec (.dmaStart o n image) s = .next t ∧ t.dmaState n = 1 ∧ t.pair (Reg.dmaChProgressLoOff n) = 0
      ∧ t.fld (Reg.dmaChMismatchCountCount n) = 0 ∧ (t.dma n).reply = some o ∧ (t.dma n).run = 0 ∧ (t.dma n).out = []
      ∧ (∀ x ∈ imageFields n, (t.reg (Reg.dmaChCtrlOff n + x.1)).toNat = Nat.land (field image x.1 4) x.2)
      ∧ t.inProg = s.inProg ++ [⟨o, 0x32, none⟩]
      ∧ (∀ off, off ∉ grantRegs → off ≠ Reg.dmaTimersOff (n / 64) →
          (off < Reg.dmaChCtrlOff n ∨ Reg.dmaChCtrlOff n + 0x100 ≤ off) → t.reg off = s.reg off)
      ∧ t = { s with regs := t.regs, inProg := t.inProg, dmaRun := t.dmaRun, latches := t.latches, outSeq := t.outSeq } := by
  obtain ⟨v, hv⟩ : ∃ v, v = w.setDma n { w.dma n with reply := some o } := ⟨_, rfl⟩
  obtain ⟨u, hu⟩ : ∃ u, u = v.dmaBegun n job := ⟨_, rfl⟩
  have hexec := s.granted_hostCmd o 0x32 (State.doDmaStart o n image) hp ht
  have hvcheck : v.dmaCheck n (field image 0 4) job = none := by rw [hv, State.dmaCheck_setDma, hcheck]
  have hvjob : v.dmaJob n = job := by rw [hv, State.dmaJob_setDma, hjob]
  rw [hbody, ← hv, v.dmaBegin_passes n hvjob hvcheck, ← hu] at hexec
  obtain ⟨hbusy, hprogress, hcount⟩ := hu ▸ v.dmaBegun_read n job hn
  have hkept : (State.latch s u).dma n = (v.dmaCleared n).dmaFresh n job :=
    (State.dma_of_dmaRun (State.latch_dmaRun _ _) n).trans (hu ▸ v.dmaBegun_dma n job)
  have hreply : ((v.dmaCleared n).dma n).reply = some o := by rw [State.dmaCleared_dma, hv, State.setDma_dma]
  have hregs : RegsBut w u (beginRegs n) :=
    hu ▸ (hv ▸ regsBut_setDma w n _ _ : RegsBut w v (beginRegs n)).trans (regsBut_dmaBegun v n job)
  have honly : OnlyDma (s.arbGrant.begun o 0x32) u := by
    rw [hu, hv]
    exact ((onlyRegs_image hw).onlyDma.trans (onlyDma_setDma w n _)).trans (onlyDma_dmaBegun _ n job)
  have hin : u.inProg = s.inProg ++ [⟨o, 0x32, none⟩] := by
    obtain ⟨rg, d, e⟩ := honly
    rw [e]
    exact congrArg (· ++ [_]) s.arbGrant_inProg
  have habove := dmaTimersOff_above (n / 64) hn
  refine ⟨_, hexec, (State.latch_fld _ _ _).trans hbusy, (State.latch_pair _ _ _).trans hprogress, (State.latch_fld _ _ _).trans hcount,
    by rw [hkept]; exact hreply, by rw [hkept]; rfl, by rw [hkept]; rfl, fun x hx => ?_, (State.latch_inProg _ _).trans hin,
    fun off hgrant htimers hout => ?_, ?_⟩
  · obtain ⟨htop, hstatus, -⟩ := (imageFields_places n).2 x hx
    rw [State.latch_reg, hregs, State.image_reg hw hx]
    simp only [beginRegs, Reg.dmaChStatusOff, Reg.dmaChProgressLoOff, Reg.dmaChFaultAddrLoOff, Reg.dmaChMismatchCountOff,
      Reg.dmaChCtrlOff, List.mem_cons, List.not_mem_nil, or_false] at habove ⊢
    omega
  · have hbegin : off ∉ beginRegs n := by
      simp only [beginRegs, Reg.dmaChStatusOff, Reg.dmaChProgressLoOff, Reg.dmaChFaultAddrLoOff, Reg.dmaChMismatchCountOff,
        Reg.dmaChCtrlOff, List.mem_cons, List.not_mem_nil, or_false] at hout ⊢
      omega
    rw [State.latch_reg, hregs off hbegin, regsBut_image hw (by omega), State.begun_reg, s.reg_arbGrant off hgrant]
  · obtain ⟨rg, d, e⟩ := honly
    obtain ⟨rg', hg⟩ := onlyRegs_arbGrant s
    obtain ⟨l, m, hl⟩ := u.latch_eq s
    rw [hl, e, hg]
    rfl

theorem dmaStart_refused {k : Nat} {st : Status} (hroom : s.arbGrant.room 1 = true)
    (hcheck : w.dmaCheck n (field image 0 4) job = some (k, st)) (haborts : (s.arbGrant.dma n).aborts = []) :
    ∃ t, exec (.dmaStart o n image) s = .next t ∧ t.dmaState n = 4 ∧ t.fld (Reg.dmaChStatusStatus n) = stCode st
      ∧ t.fld (Reg.dmaChStatusCheck n) = k ∧ t.hasEvent 0x0501 (n / 64) n (stCode st) k
      ∧ (∃ f r, t.result o 0x32 st f r []) ∧ t.mem = s.mem := by
  obtain ⟨v, hv⟩ : ∃ v, v = w.setDma n { w.dma n with reply := some o } := ⟨_, rfl⟩
  obtain ⟨u, hu⟩ : ∃ u, u = v.dmaRefused n k st := ⟨_, rfl⟩
  have hexec := s.granted_hostCmd o 0x32 (State.doDmaStart o n image) hp ht
  have hvcheck : v.dmaCheck n (field image 0 4) job = some (k, st) := by rw [hv, State.dmaCheck_setDma, hcheck]
  have hvjob : v.dmaJob n = job := by rw [hv, State.dmaJob_setDma, hjob]
  rw [hbody, ← hv, v.dmaBegin_fails n hvjob hvcheck, ← hu] at hexec
  have honly : OnlyDma (s.arbGrant.begun o 0x32) v := by
    rw [hv]
    exact (onlyRegs_image hw).onlyDma.trans (onlyDma_setDma w n _)
  have hvdma : v.dma n = { s.arbGrant.dma n with reply := some o } := by
    rw [hv, State.setDma_dma, State.dma_of_dmaRun (onlyRegs_image hw).dmaRun]
    rfl
  have hvin : (⟨o, 0x32, none⟩ : Progress) ∈ v.inProg := by
    obtain ⟨rg, d, e⟩ := honly
    rw [e]
    exact s.arbGrant.mem_begun o 0x32
  obtain ⟨hmem, hevq⟩ : v.mem = s.mem ∧ v.evq = s.arbGrant.evq := by
    obtain ⟨rg, d, e⟩ := honly
    rw [e]
    exact ⟨s.arbGrant_mem, rfl⟩
  have hstatusRead := v.dmaRefused_read n st hn (w.dmaCheck_lt n hcheck)
  rw [← hu] at hstatusRead
  obtain ⟨hhalted, hstatus, hnumber⟩ := hstatusRead
  have hevent : u.hasEvent 0x0501 (n / 64) n (stCode st) k := hu ▸ v.dmaRefused_hasEvent n k st ((State.room_of_evq hevq 1).trans hroom)
  obtain ⟨hdma, hin, humem⟩ := hu ▸ v.dmaRefused_frame n k st
  obtain ⟨f, r, hres⟩ :=
    u.dmaReport_status n hstatus (by rw [hdma, hvdma]) (by rw [hdma, hvdma]; exact haborts) (by rw [hin]; exact hvin)
  have hread : ∀ x : Fld, (State.latch s (u.dmaReport n)).fld x = u.fld x := fun x =>
    (State.latch_fld _ _ _).trans (State.fld_of_regs (u.dmaReport_regs n) x)
  refine ⟨_, hexec, (hread _).trans hhalted, (hread _).trans hstatus, (hread _).trans hnumber, ?_, ⟨f, r, ?_⟩, ?_⟩
  · exact State.latch_hasEvent _ s (State.hasEvent_of_evq (u.dmaReport_evq n) hevent)
  · unfold State.result
    rw [State.latch_inProg]
    exact hres
  · rw [State.latch_mem, State.dmaReport_mem, humem, hmem]

end

/-- Settles O22: an image whose checks pass by what the beginning of a transfer leaves, one that fails a check by STATUS, the event and the
answer. -/
theorem dmaStartChecksAndStarts : Obligations.DmaStartChecksAndStarts := by
  unfold Obligations.DmaStartChecksAndStarts
  intro o n image s g w hp hg hn ht hlen ho hfence h31 h30 h29 hstate hw
  subst hg
  have hbody := State.doDmaStart_begins (o := o) hw hn hlen ho hfence h31 h30 h29 hstate
  have hjob : w.dmaJob n = (s.arbGrant.ctx (s.arbGrant.fld (Reg.dmaChOwnerContext n))).map (·.job) := 
    State.image_job (s := s.arbGrant.begun o 0x32) hw ho
  exact ⟨fun hcheck => dmaStart_starts hp hn ht hw hbody hjob hcheck,
    fun k st hroom hcheck haborts => dmaStart_refused hp hn ht hw hbody hjob hroom hcheck haborts⟩

end Sys2Proof.Machine
end

section
/-! DMA channels: the requests of a transfer, their replies, and the ends of a transfer (R192, R193, R201 to R206, R390). -/

namespace Sys2Proof.Machine

/-! ### A request leaves (R192, R193, R201, R203) -/

section
variable (s : State) (n : Nat)

/-- Advancing past a request changes what the channel keeps, but neither its outstanding requests nor their numbers. -/
theorem State.dmaAdvance_eq (size : Nat) :
    ∃ x, s.dmaAdvance n size = s.setDma n x ∧ x.out = (s.dma n).out ∧ x.next = (s.dma n).next :=
  ⟨_, rfl, rfl, rfl⟩

/-- A request to this module's own memory joins the outstanding ones, with the next number. -/
theorem State.dmaSend_local {q : DmaReq} (h : q.addr / 2 ^ 48 = s.myId) : s.dmaSend n q = s.setDma n { s.dma n with
    next := (s.dma n).next + 1, out := (s.dma n).out ++ [{ q with id := (s.dma n).next }] } := by
  have h' : q.addr / 2 ^ 48 = (s.setDma n { s.dma n with
    next := (s.dma n).next + 1, out := (s.dma n).out ++ [{ q with id := (s.dma n).next }] }).myId := h
  rw [State.dmaSend]
  exact if_pos h'

end

theorem dmaRequestIssue_sends {n src dst size order : Nat} {s : State} (hp : s.powered = true) (hnext : s.dmaNext (n / 64) = some n)
    (hpiece : s.dmaPiece n (s.dma n) = (src, dst, size, order))
    (hlocal : (if dmaReadsSource (s.dmaOp n) then src else dst) / 2 ^ 48 = s.myId) :
    ∃ t q, exec (.dmaRequestIssue n) s = .next t ∧ (t.dma n).out = (s.dma n).out ++ [q] ∧ q.id = (s.dma n).next
      ∧ q.size = size ∧ q.addr = (if dmaReadsSource (s.dmaOp n) then src else dst) ∧ q.dst = dst
      ∧ q.write = (s.dmaOp n == 1) ∧ (t.dma n).next = (s.dma n).next + 1
      ∧ t = { s with dmaRun := t.dmaRun, dmaLast := lset s.dmaLast (n / 64) n } := by
  obtain ⟨u, hu⟩ : ∃ u, u = { s with dmaLast := lset s.dmaLast (n / 64) n } := ⟨_, rfl⟩
  have hudma : u.dma n = s.dma n := by rw [hu]; rfl
  obtain ⟨q, hq⟩ : ∃ q : DmaReq, q = { id := 0, write := s.dmaOp n = 1, addr := if dmaReadsSource (s.dmaOp n) then src else dst
                                       size := size, dst := dst, order := order
                                       data := if s.dmaOp n = 1 then u.fillBytes n size else [] } := ⟨_, rfl⟩
  have hissue : s.dmaIssue n = (u.dmaAdvance n size).dmaSend n q := by
    have hupiece : u.dmaPiece n (u.dma n) = (src, dst, size, order) := by rw [hu]; exact hpiece
    have huop : u.dmaOp n = s.dmaOp n := by rw [hu]; rfl
    rw [State.dmaIssue, dmaDie, if_pos hnext, ← hu]
    simp only [hupiece, huop]
    rw [hq]
  obtain ⟨x, hx, hout, hnum⟩ := u.dmaAdvance_eq n size
  have hsend := State.dmaSend_local (u.setDma n x) n (q := q) (by rw [hq, hu]; exact hlocal)
  rw [State.setDma_dma] at hsend
  have hexec : exec (.dmaRequestIssue n) s = .next ((u.setDma n x).dmaSend n q) := by
    have e : exec (.dmaRequestIssue n) s = s.does (State.dmaIssue n) := rfl
    rw [e, s.does_powered _ hp, hissue, hx]
  rw [hsend] at hexec
  refine ⟨_, { q with id := x.next }, hexec, ?_, by rw [← hudma]; exact hnum, by rw [hq], by rw [hq], by rw [hq], ?_, ?_, ?_⟩
  · rw [State.setDma_dma, ← hudma, ← hout]
  · rw [hq]
    exact (beq_eq_decide _ _).symm
  · rw [State.setDma_dma, ← hudma, ← hnum]
  · rw [hu]
    rfl

/-! ### A reply from this module's own memory (R193, R204) -/

/-- The FLAGS of a reply join those of the channel. -/
def State.dmaFlagged (s : State) (n : Nat) (fl : Flags) : State :=
  s.setFld (Reg.dmaChStatusFlags n) (Nat.lor (s.fld (Reg.dmaChStatusFlags n)) (flagsCode ⟨false, false, fl.degraded, fl.detoured⟩))

/-- A write that is answered OK is outstanding no more, and its bytes count in PROGRESS. -/
theorem State.dmaTake_written {s u : State} {n : Nat} {q : DmaReq} {fl : Flags} (hu : u = s.dmaFlagged n fl) (hw : q.write = true)
    (data : List Byte) : s.dmaTake n q .ok fl data = (u.setDma n { u.dma n with out := (u.dma n).out.filter (·.id != q.id) }).setPair
      (Reg.dmaChProgressLoOff n) (u.pair (Reg.dmaChProgressLoOff n) + q.size) := by
  rw [State.dmaTake]
  dsimp only
  rw [← State.dmaFlagged, ← hu, if_neg (not_not.2 rfl), if_pos hw, State.setDma_pair]

theorem State.dmaFlagged_progress (s : State) (n : Nat) (fl : Flags) :
    (s.dmaFlagged n fl).pair (Reg.dmaChProgressLoOff n) = s.pair (Reg.dmaChProgressLoOff n) := by
  refine s.pair_setFld_ne _ _ _ ?_ ?_
  all_goals
    simp only [Reg.dmaChProgressLoOff, Reg.dmaChStatusFlags]
    omega

theorem regsBut_dmaFlagged (s : State) (n : Nat) (fl : Flags) : RegsBut s (s.dmaFlagged n fl) [Reg.dmaChStatusOff n] :=
  regsBut_setFld s (Reg.dmaChStatusFlags n) _ _ List.mem_cons_self

theorem onlyRegs_dmaFlagged (s : State) (n : Nat) (fl : Flags) : OnlyRegs s (s.dmaFlagged n fl) := onlyRegs_setFld s _ _

/-- Bytes stored leave the registers and what channels keep. -/
theorem MemStored.keeps {s t : State} {a : Nat} {bs : List Byte} (h : MemStored s t a bs) : t.regs = s.regs ∧ t.dmaRun = s.dmaRun := by
  rw [h.frame]
  exact ⟨rfl, rfl⟩

theorem dmaReply_stores {n : Nat} {q : DmaReq} {s : State} (hp : s.powered = true) (hout : (s.dma n).out = [q])
    (hwrite : q.write = true) (hlocal : q.addr / 2 ^ 48 = s.myId) (hlen : q.data.length = q.size)
    (hform : formOf (q.addr % 2 ^ 48) q.size = .ok) (ha : q.addr % 2 ^ 48 < memTop)
    (hreach : s.reach (s.dma n).who true (q.addr % 2 ^ 48) = .ok) (hrick : s.rickOn = false)
    (hsound : s.sound (q.addr % 2 ^ 48) q.size = true) (hfit : s.pair (Reg.dmaChProgressLoOff n) + q.size < 2 ^ 64) :
    ∃ t, exec (.dmaReply n q.id) s = .next t ∧ (t.dma n).out = []
      ∧ t.pair (Reg.dmaChProgressLoOff n) = s.pair (Reg.dmaChProgressLoOff n) + q.size
      ∧ (∀ i, i < q.size → Memory.byte t.mem (q.addr % 2 ^ 48 + i) = q.data.getD i 0)
      ∧ (∀ b, b < q.addr % 2 ^ 48 ∨ q.addr % 2 ^ 48 + q.size ≤ b → Memory.byte t.mem b = Memory.byte s.mem b)
      ∧ RegsBut s t [Reg.dmaChStatusOff n, Reg.dmaChProgressLoOff n, Reg.dmaChProgressLoOff n + 4] := by
  obtain ⟨u, hu⟩ : ∃ u, u = (s.writeBytes (q.addr % 2 ^ 48) q.data).1 := ⟨_, rfl⟩
  have hwritable := State.writable_of_formOf hform ha hrick hsound hreach
  rw [← hlen] at hform hwritable
  obtain ⟨hok, hst⟩ := State.writeBytes_writable hwritable
  rw [← hu] at hst
  obtain ⟨hregs, hrun⟩ := hst.keeps
  have hserve : s.serve (s.dma n).who (q.addr % 2 ^ 48) (.write q.data) = (u, ⟨.ok, {}, []⟩) := by
    simp only [State.serve, hform, hreach, State.logFirst_of_no_rick hrick, hok, hu]
  have hfind : (s.dma n).out.find? (fun p => p.id == q.id && p.addr / 2 ^ 48 == s.myId) = some q := by
    rw [hout]
    exact List.find?_cons_of_pos (by simp only [beq_self_eq_true, hlocal, Bool.and_self])
  have htake : s.dmaLocal n q.id = u.dmaTake n q .ok {} [] := by
    simp only [State.dmaLocal, hfind, hwrite, if_true, hserve]
  obtain ⟨v, hv⟩ : ∃ v, v = u.dmaFlagged n {} := ⟨_, rfl⟩
  have hexec := s.does_powered (State.dmaLocal n q.id) hp
  rw [htake, State.dmaTake_written hv hwrite] at hexec
  have hvdma : (v.dma n).out = [q] := by
    rw [hv, State.dma_of_dmaRun (onlyRegs_dmaFlagged u n {}).dmaRun, State.dma_of_dmaRun hrun, hout]
  have hvprogress : v.pair (Reg.dmaChProgressLoOff n) = s.pair (Reg.dmaChProgressLoOff n) := by
    rw [hv, State.dmaFlagged_progress, State.pair_of_regs hregs]
  have hvregs : RegsBut s v [Reg.dmaChStatusOff n] := (regsBut_of_regs _ hregs).trans (hv ▸ regsBut_dmaFlagged u n {})
  have hmem : v.mem = s.mem.write (q.addr % 2 ^ 48) q.data := by
    rw [hv]
    exact (u.setFld_mem _ _).trans hst.mem
  refine ⟨_, hexec, ?_, ?_, fun i hi => ?_, fun b hb => ?_, ?_⟩
  · rw [State.dma_of_dmaRun (State.setPair_dmaRun _ _ _), State.setDma_dma, hvdma]
    simp
  · rw [hvprogress, State.pair_setPair _ _ _ hfit]
  · rw [State.setPair_mem]
    exact (congrArg (Memory.byte · _) hmem).trans (Memory.byte_write_add _ _ _ _ (hlen ▸ hi))
  · rw [State.setPair_mem]
    exact (congrArg (Memory.byte · _) hmem).trans (Memory.byte_write_ne _ _ _ _ (hlen ▸ hb))
  · exact ((hvregs.mono (by simp)).trans (regsBut_setDma v n _ _)).trans (regsBut_setPair _ _ _ _ (by simp) (by simp))

/-! ### The end of a transfer (R204, R205, R206, R390) -/

section
variable {s : State} {n : Nat}

/-- A transfer that is DONE, its timer returned, before the reports. -/
def State.dmaEnded (s : State) (n : Nat) : State :=
  ((s.setFld (Reg.dmaChStatusState n) dmaDone).setFld (Reg.dmaChStatusStatus n) 0).dmaRelease n

/-- A channel that is HALTED, its timer returned, before its failure or abort is noted. -/
def State.dmaStopped (s : State) (n : Nat) : State := (s.setFld (Reg.dmaChStatusState n) dmaHalted).dmaRelease n

/-- With no block that differs and no signal, the end of a transfer is its report. -/
theorem State.dmaFinish_plain {u : State} (hu : u = s.dmaEnded n) (hcount : u.fld (Reg.dmaChMismatchCountCount n) = 0)
    (hsignal : u.flag (Reg.dmaChCtrlSignalEn n) = false) : s.dmaFinish n = u.dmaReport n := by
  rw [State.dmaFinish]
  dsimp only
  rw [← State.dmaEnded, ← hu, if_neg (not_not.2 hcount), hsignal, if_neg Bool.false_ne_true]

/-- The failure that halts a channel, noted. -/
def State.failureNoted (s : State) (n : Nat) (st : Status) (a : Nat) : State :=
  ((s.setFld (Reg.dmaChStatusStatus n) (stCode st)).setPair (Reg.dmaChFaultAddrLoOff n) a).ev 0x0502 (dmaDie n) n (stCode st) (a / 2 ^ 48)

/-- The abort that halts a channel, noted. -/
def State.abortNoted (s : State) (n cause : Nat) : State :=
  (s.setFld (Reg.dmaChStatusStatus n) (stCode .aborted)).ev 0x0503 (dmaDie n) n cause (s.pair (Reg.dmaChProgressLoOff n))

theorem State.dmaHalt_failed {st : Status} {a : Nat} {v : State} (hf : (s.dma n).failed = some (st, a))
    (hv : v = (s.dmaStopped n).failureNoted n st a) (hsignal : v.flag (Reg.dmaChCtrlSignalEn n) = false) :
    s.dmaHalt n = v.dmaReport n := by
  rw [State.dmaHalt]
  dsimp only
  rw [← State.dmaStopped]
  simp only [hf]
  rw [← State.failureNoted, ← hv, hsignal, Bool.false_and, if_neg Bool.false_ne_true]

theorem State.dmaHalt_aborted {c : Nat} (hf : (s.dma n).failed = none) (ha : (s.dma n).aborted = some c) :
    s.dmaHalt n = ((s.dmaStopped n).abortNoted n c).dmaReport n := by
  rw [State.dmaHalt]
  dsimp only
  rw [← State.dmaStopped]
  simp only [hf, ha]
  rw [← State.abortNoted]

/-- A channel of no context that is being destroyed stays bound. -/
theorem State.reap_of_living (h : ((s.ctx (s.fld (Reg.dmaChOwnerContext n))).all fun x => x.dying.isNone) = true) : s.reap n = s := by
  rw [State.reap]
  cases hx : s.ctx (s.fld (Reg.dmaChOwnerContext n)) with
  | none => simp
  | some x =>
    have hd : x.dying.isSome = false := by simpa [hx] using h
    simp [hd]

end


/-! ### What is read once a transfer has ended -/

section
variable (s : State) {n : Nat} (hn : n < 128)
include hn

/-- The timers of a die are none of a channel's registers. -/
theorem RegsBut.dma_fld {t : State} {f : Fld} (h : RegsBut s t [Reg.dmaTimersOff (n / 64)]) (hf : f.off < Reg.dmaChCtrlOff n + 0x100) :
    t.fld f = s.fld f :=
  h.fld (by
    have habove := dmaTimersOff_above (n / 64) hn
    rw [List.mem_singleton]
    omega)

theorem State.dmaStopped_state : (s.dmaStopped n).dmaState n = 4 := by
  refine (RegsBut.dma_fld _ hn (regsBut_dmaRelease _ n) ?_).trans (State.fld_setFld_fits ?_)
  · simp only [Reg.dmaChStatusState, Reg.dmaChCtrlOff]
    omega
  · simp [Reg.dmaChStatusState, Fld.width, dmaHalted]

/-- An event is none of a channel's registers. -/
theorem State.dma_fld_ev (code src p0 p1 p2 : Nat) {f : Fld} (hf : f.off < Reg.dmaChCtrlOff n + 0x100) :
    (s.ev code src p0 p1 p2).fld f = s.fld f :=
  (regsBut_evRegs s code src p0 p1 p2).fld (dma_not_mem_evRegs (by
    simp only [Reg.dmaChCtrlOff] at hf ⊢
    omega))

theorem State.abortNoted_read (c : Nat) : (s.abortNoted n c).dmaState n = s.dmaState n
    ∧ (s.abortNoted n c).fld (Reg.dmaChStatusStatus n) = stCode .aborted := by
  obtain ⟨b, hb⟩ : ∃ b, b = s.setFld (Reg.dmaChStatusStatus n) (stCode .aborted) := ⟨_, rfl⟩
  have hread : ∀ f : Fld, f.off = Reg.dmaChStatusOff n → (s.abortNoted n c).fld f = b.fld f := fun f hf => by
    rw [State.abortNoted, ← hb, State.dma_fld_ev b hn]
    rw [hf]
    simp only [Reg.dmaChStatusOff, Reg.dmaChCtrlOff]
    omega
  refine ⟨?_, (hread _ rfl).trans ?_⟩
  · rw [State.dmaState, hread _ rfl, hb, s.fld_setFld_apart _ _ _ (by simp [apart, Reg.dmaChStatusStatus, Reg.dmaChStatusState]),
      State.dmaState]
  · exact hb ▸ State.fld_setFld_fits ⟨by simp [Reg.dmaChStatusStatus], by simp [Reg.dmaChStatusStatus], stCode_lt .aborted⟩

theorem State.failureNoted_read (st : Status) {a : Nat} (ha : a < 2 ^ 64) : (s.failureNoted n st a).dmaState n = s.dmaState n
    ∧ (s.failureNoted n st a).fld (Reg.dmaChStatusStatus n) = stCode st
    ∧ (s.failureNoted n st a).pair (Reg.dmaChFaultAddrLoOff n) = a
    ∧ (s.failureNoted n st a).flag (Reg.dmaChCtrlSignalEn n) = s.flag (Reg.dmaChCtrlSignalEn n) := by
  obtain ⟨b, hb⟩ : ∃ b, b = s.setFld (Reg.dmaChStatusStatus n) (stCode st) := ⟨_, rfl⟩
  obtain ⟨c, hc⟩ : ∃ c, c = b.setPair (Reg.dmaChFaultAddrLoOff n) a := ⟨_, rfl⟩
  have e : s.failureNoted n st a = c.ev 0x0502 (dmaDie n) n (stCode st) (a / 2 ^ 48) := by rw [State.failureNoted, hc, hb]
  have hpair : RegsBut b c [Reg.dmaChFaultAddrLoOff n, Reg.dmaChFaultAddrLoOff n + 4] :=
    hc ▸ regsBut_setPair b (Reg.dmaChFaultAddrLoOff n) a _ (by simp) (by simp)
  have hread : ∀ f : Fld, f.off < Reg.dmaChFaultAddrLoOff n → (s.failureNoted n st a).fld f = b.fld f := fun f hf => by
    refine (e ▸ State.dma_fld_ev c hn _ _ _ _ _ ?_).trans (hpair.fld ?_)
    all_goals
      simp only [Reg.dmaChFaultAddrLoOff, Reg.dmaChCtrlOff, List.mem_cons, List.not_mem_nil, or_false] at hf ⊢
      omega
  refine ⟨?_, ?_, ?_, ?_⟩
  · rw [State.dmaState, hread _ (by simp [Reg.dmaChStatusState, Reg.dmaChFaultAddrLoOff]), hb,
      s.fld_setFld_apart _ _ _ (by simp [apart, Reg.dmaChStatusStatus, Reg.dmaChStatusState]), State.dmaState]
  · rw [hread _ (by simp [Reg.dmaChStatusStatus, Reg.dmaChFaultAddrLoOff]), hb]
    exact State.fld_setFld_fits ⟨by simp [Reg.dmaChStatusStatus], by simp [Reg.dmaChStatusStatus], stCode_lt st⟩
  · rw [e, (regsBut_evRegs c _ _ _ _ _).pair, hc, b.pair_setPair _ _ ha]
    all_goals
      refine dma_not_mem_evRegs ?_
      simp only [Reg.dmaChFaultAddrLoOff, Reg.dmaChCtrlOff]
      omega
  · rw [State.flag, hread _ (by simp [Reg.dmaChCtrlSignalEn, Reg.dmaChFaultAddrLoOff]), hb,
      s.fld_setFld_off _ _ _ (by simp [Reg.dmaChStatusStatus, Reg.dmaChCtrlSignalEn]), State.flag]

end

/-- From `s` to `t` no register has changed but those listed, and beside the registers nothing but events. -/
structure EventsNoted (os : List Nat) (s t : State) : Prop where
  regs : RegsBut s t os
  frame : ∃ r q l, t = { s with regs := r, evq := q, evLost := l }

section
variable {s t u : State} {os : List Nat} {n : Nat}

theorem EventsNoted.trans (h : EventsNoted os s t) (h' : EventsNoted os t u) : EventsNoted os s u := by
  obtain ⟨hr, r, q, l, rfl⟩ := h
  obtain ⟨hr', r', q', l', rfl⟩ := h'
  exact ⟨hr.trans hr', r', q', l', rfl⟩

theorem EventsNoted.mono {os' : List Nat} (h : EventsNoted os s t) (hs : os ⊆ os') : EventsNoted os' s t := ⟨h.regs.mono hs, h.frame⟩

theorem eventsNoted_of_onlyRegs (h : RegsBut s t os) (ho : OnlyRegs s t) : EventsNoted os s t := by
  obtain ⟨r, rfl⟩ := ho
  exact ⟨h, r, _, _, rfl⟩

theorem eventsNoted_ev (code src p0 p1 p2 : Nat) : EventsNoted evRegs s (s.ev code src p0 p1 p2) :=
  ⟨regsBut_evRegs s code src p0 p1 p2, s.ev_frame code src p0 p1 p2⟩

theorem EventsNoted.keeps (h : EventsNoted os s t) : t.dmaRun = s.dmaRun ∧ t.inProg = s.inProg ∧ t.ctxs = s.ctxs ∧ t.mem = s.mem := by
  obtain ⟨-, r, q, l, rfl⟩ := h
  exact ⟨rfl, rfl, rfl, rfl⟩

/-- The registers that a halt writes, FAULT_ADDR apart. -/
def haltRegs (n : Nat) : List Nat := evRegs ++ [Reg.dmaChStatusOff n, Reg.dmaTimersOff (n / 64)]

/-- A register of a channel other than STATUS is none that a halt writes. -/
theorem dma_not_mem_haltRegs {off : Nat} (hn : n < 128) (hoff : off < Reg.dmaChCtrlOff n + 0x100) (hst : off ≠ Reg.dmaChStatusOff n) :
    off ∉ haltRegs n := by
  have habove := dmaTimersOff_above (n / 64) hn
  have hev : off ∉ evRegs := dma_not_mem_evRegs (by
    simp only [Reg.dmaChCtrlOff] at hoff ⊢
    omega)
  simp only [haltRegs, List.mem_append, hev, List.mem_cons, List.not_mem_nil, or_false, false_or]
  omega

theorem onlyRegs_dmaStopped (s : State) (n : Nat) : OnlyRegs s (s.dmaStopped n) :=
  (onlyRegs_setFld s _ _).trans (onlyRegs_dmaRelease _ n)

theorem eventsNoted_dmaStopped (s : State) (n : Nat) : EventsNoted (haltRegs n) s (s.dmaStopped n) := by
  refine eventsNoted_of_onlyRegs (RegsBut.trans (t := s.setFld (Reg.dmaChStatusState n) dmaHalted) ?_ ?_) (onlyRegs_dmaStopped s n)
  · exact regsBut_setFld s _ _ _ (List.mem_append_right _ List.mem_cons_self)
  · exact (regsBut_dmaRelease _ n).mono (by simp [haltRegs])

theorem State.dmaStopped_room (s : State) (n m : Nat) : (s.dmaStopped n).room m = s.room m := by
  obtain ⟨r, e⟩ := onlyRegs_dmaStopped s n
  rw [e]
  rfl

theorem eventsNoted_abortNoted (s : State) (n c : Nat) : EventsNoted (haltRegs n) s (s.abortNoted n c) := by
  refine EventsNoted.trans (t := s.setFld (Reg.dmaChStatusStatus n) (stCode .aborted)) ?_ ?_
  · exact eventsNoted_of_onlyRegs (regsBut_setFld s _ _ _ (List.mem_append_right _ List.mem_cons_self)) (onlyRegs_setFld s _ _)
  · exact (eventsNoted_ev 0x0503 _ _ _ _).mono (List.subset_append_left _ _)

theorem eventsNoted_failureNoted (s : State) (n : Nat) (st : Status) (a : Nat) :
    EventsNoted (haltRegs n ++ [Reg.dmaChFaultAddrLoOff n, Reg.dmaChFaultAddrLoOff n + 4]) s (s.failureNoted n st a) := by
  refine EventsNoted.trans (t := s.setFld (Reg.dmaChStatusStatus n) (stCode st)) ?_
    (EventsNoted.trans (t := (s.setFld (Reg.dmaChStatusStatus n) (stCode st)).setPair (Reg.dmaChFaultAddrLoOff n) a) ?_ ?_)
  · exact eventsNoted_of_onlyRegs (regsBut_setFld s _ _ _ (List.mem_append_left _ (List.mem_append_right _ List.mem_cons_self)))
      (onlyRegs_setFld s _ _)
  · exact eventsNoted_of_onlyRegs (regsBut_setPair _ _ _ _ (by simp) (by simp)) (onlyRegs_setPair _ _ _)
  · refine (eventsNoted_ev 0x0502 _ _ _ _).mono ?_
    exact List.Subset.trans (List.subset_append_left _ _) (List.subset_append_left _ _)

theorem State.abortNoted_hasEvent (s : State) (n c : Nat) (h : s.room 1 = true) :
    (s.abortNoted n c).hasEvent 0x0503 (n / 64) n c (s.pair (Reg.dmaChProgressLoOff n)) :=
  State.hasEvent_ev _ _ _ _ _ _ ((State.room_of_evq (s.setFld_evq _ _) 1).trans h)

theorem State.failureNoted_hasEvent (s : State) (n : Nat) (st : Status) (a : Nat) (h : s.room 1 = true) :
    (s.failureNoted n st a).hasEvent 0x0502 (n / 64) n (stCode st) (a / 2 ^ 48) :=
  State.hasEvent_ev _ _ _ _ _ _ ((State.room_of_evq ((State.setPair_evq _ _ _).trans (s.setFld_evq _ _)) 1).trans h)

end

/-! ### DMA_DRAINED (R205, R206) -/

section
variable {n : Nat} {o : Origin} {s v : State} {st : Status} {os : List Nat} (hp : s.powered = true) (hn : n < 128)
  (hout : (s.dma n).out = []) (hreply : (s.dma n).reply = some o) (haborts : (s.dma n).aborts = [])
  (hin : (⟨o, 0x32, none⟩ : Progress) ∈ s.inProg) (hstate : s.dmaState n = 2)
  (hliving : ((s.ctx (s.fld (Reg.dmaChOwnerContext n))).all fun x => x.dying.isNone) = true)
include hp hout hreply haborts hin hstate hliving

/-- A drained channel halts, and its DMA_START is answered with the status noted. -/
theorem dmaDrained_answers (hhalt : s.dmaHalt n = v.dmaReport n) (hv : EventsNoted os s v) (howner : Reg.dmaChOwnerOff n ∉ os)
    (hstatus : v.fld (Reg.dmaChStatusStatus n) = stCode st) :
    exec (.dmaDrained n) s = .next (v.dmaReport n) ∧ (∃ f r, (v.dmaReport n).result o 0x32 st f r [])
      ∧ (v.dmaReport n).mem = s.mem := by
  obtain ⟨hrun, hprog, hctxs, hmem⟩ := hv.keeps
  have hdma : v.dma n = s.dma n := State.dma_of_dmaRun hrun n
  have hfld : (v.dmaReport n).fld (Reg.dmaChOwnerContext n) = s.fld (Reg.dmaChOwnerContext n) :=
    (State.fld_of_regs (v.dmaReport_regs n) _).trans (hv.regs.fld howner)
  have hctx : ∀ c, (v.dmaReport n).ctx c = s.ctx c := fun c => by rw [State.ctx, State.dmaReport_ctxs, hctxs, State.ctx]
  have hexec := s.does_powered (State.dmaDrainedNow n) hp
  have hdrained : s.dmaState n = dmaDraining ∧ (s.dma n).out.isEmpty = true := ⟨hstate, by rw [hout]; rfl⟩
  rw [State.dmaDrainedNow, if_pos hdrained, hhalt, State.reap_of_living (by rw [hfld, hctx]; exact hliving)] at hexec
  exact ⟨hexec, v.dmaReport_status n hstatus (hdma ▸ hreply) (hdma ▸ haborts) (hprog ▸ hin), (v.dmaReport_mem n).trans hmem⟩

variable (hroom : s.room 1 = true)
include hn hroom

theorem dmaDrained_aborted {c : Nat} (hf : (s.dma n).failed = none) (ha : (s.dma n).aborted = some c) :
    ∃ t, exec (.dmaDrained n) s = .next t ∧ t.dmaState n = 4 ∧ t.fld (Reg.dmaChStatusStatus n) = stCode .aborted
      ∧ t.hasEvent 0x0503 (n / 64) n c (s.pair (Reg.dmaChProgressLoOff n)) ∧ (∃ f r, t.result o 0x32 .aborted f r [])
      ∧ t.mem = s.mem ∧ RegsBut s t (evRegs ++ [Reg.dmaChStatusOff n, Reg.dmaTimersOff (n / 64)]) := by
  obtain ⟨w, hw⟩ : ∃ w, w = s.dmaStopped n := ⟨_, rfl⟩
  obtain ⟨v, hv⟩ : ∃ v, v = w.abortNoted n c := ⟨_, rfl⟩
  have hstopped : EventsNoted (haltRegs n) s w := hw ▸ eventsNoted_dmaStopped s n
  have hnoted : EventsNoted (haltRegs n) s v := hstopped.trans (hv ▸ eventsNoted_abortNoted w n c)
  have hapart : ∀ off, off < Reg.dmaChCtrlOff n + 0x100 → off ≠ Reg.dmaChStatusOff n → off ∉ haltRegs n :=
    fun off => dma_not_mem_haltRegs hn
  have hprogress : w.pair (Reg.dmaChProgressLoOff n) = s.pair (Reg.dmaChProgressLoOff n) := by
    refine hstopped.regs.pair (hapart _ ?_ ?_) (hapart _ ?_ ?_)
    all_goals
      simp only [Reg.dmaChProgressLoOff, Reg.dmaChCtrlOff, Reg.dmaChStatusOff]
      omega
  obtain ⟨hhalted, hstatus⟩ := w.abortNoted_read hn c
  have hevent := w.abortNoted_hasEvent n c (by rw [hw, State.dmaStopped_room, hroom])
  rw [← hv] at hhalted hstatus hevent
  have hhalt : s.dmaHalt n = v.dmaReport n := by rw [hv, hw, State.dmaHalt_aborted hf ha]
  obtain ⟨hexec, hres, hmem⟩ := dmaDrained_answers hp hout hreply haborts hin hstate hliving hhalt hnoted
    (hapart _ (by simp only [Reg.dmaChOwnerOff, Reg.dmaChCtrlOff]; omega) (by simp [Reg.dmaChOwnerOff, Reg.dmaChStatusOff])) hstatus
  have hfld : ∀ f, (v.dmaReport n).fld f = v.fld f := State.fld_of_regs (v.dmaReport_regs n)
  refine ⟨_, hexec, (hfld _).trans (hhalted.trans (hw ▸ s.dmaStopped_state hn)), (hfld _).trans hstatus,
    hprogress ▸ State.hasEvent_of_evq (v.dmaReport_evq n) hevent, hres, hmem,
    hnoted.regs.trans (regsBut_of_regs _ (v.dmaReport_regs n))⟩

theorem dmaDrained_failed {a : Nat} (hf : (s.dma n).failed = some (st, a)) (hsignal : s.flag (Reg.dmaChCtrlSignalEn n) = false)
    (ha : a < 2 ^ 64) :
    ∃ t, exec (.dmaDrained n) s = .next t ∧ t.dmaState n = 4 ∧ t.fld (Reg.dmaChStatusStatus n) = stCode st
      ∧ t.pair (Reg.dmaChFaultAddrLoOff n) = a ∧ t.hasEvent 0x0502 (n / 64) n (stCode st) (a / 2 ^ 48)
      ∧ (∃ f r, t.result o 0x32 st f r []) ∧ t.mem = s.mem := by
  obtain ⟨w, hw⟩ : ∃ w, w = s.dmaStopped n := ⟨_, rfl⟩
  obtain ⟨v, hv⟩ : ∃ v, v = w.failureNoted n st a := ⟨_, rfl⟩
  have hstopped : EventsNoted (haltRegs n) s w := hw ▸ eventsNoted_dmaStopped s n
  have hnoted := (hstopped.mono (List.subset_append_left _ _)).trans (hv ▸ eventsNoted_failureNoted w n st a)
  have hapart : ∀ off, off < Reg.dmaChCtrlOff n + 0x100 → off ≠ Reg.dmaChStatusOff n → off ∉ haltRegs n :=
    fun off => dma_not_mem_haltRegs hn
  obtain ⟨hhalted, hstatus, haddr, hen⟩ := w.failureNoted_read hn st ha
  have hevent := w.failureNoted_hasEvent n st a (by rw [hw, State.dmaStopped_room, hroom])
  rw [← hv] at hhalted hstatus haddr hen hevent
  have hwen : w.flag (Reg.dmaChCtrlSignalEn n) = false := by
    refine (hstopped.regs.flag (hapart _ ?_ ?_)).trans hsignal
    all_goals
      simp only [Reg.dmaChCtrlSignalEn, Reg.dmaChCtrlOff, Reg.dmaChStatusOff]
      omega
  have hhalt : s.dmaHalt n = v.dmaReport n := State.dmaHalt_failed hf (by rw [hv, hw]) (hen.trans hwen)
  have howner : Reg.dmaChOwnerOff n ∉ haltRegs n ++ [Reg.dmaChFaultAddrLoOff n, Reg.dmaChFaultAddrLoOff n + 4] := by
    refine fun hm => (List.mem_append.1 hm).elim (hapart _ ?_ ?_) ?_
    all_goals
      simp only [Reg.dmaChOwnerOff, Reg.dmaChCtrlOff, Reg.dmaChStatusOff, Reg.dmaChFaultAddrLoOff, List.mem_cons, List.not_mem_nil,
        or_false]
      omega
  obtain ⟨hexec, hres, hmem⟩ := dmaDrained_answers hp hout hreply haborts hin hstate hliving hhalt hnoted howner hstatus
  have hfld : ∀ f, (v.dmaReport n).fld f = v.fld f := State.fld_of_regs (v.dmaReport_regs n)
  exact ⟨_, hexec, (hfld _).trans (hhalted.trans (hw ▸ s.dmaStopped_state hn)), (hfld _).trans hstatus,
    (State.pair_of_regs (v.dmaReport_regs n) _).trans haddr, State.hasEvent_of_evq (v.dmaReport_evq n) hevent, hres, hmem⟩

end

/-! ### DMA_TRANSFER_DONE (R204) -/

section
variable (s : State) {n : Nat} (hn : n < 128)

theorem onlyRegs_dmaEnded (n : Nat) : OnlyRegs s (s.dmaEnded n) :=
  ((onlyRegs_setFld s _ _).trans (onlyRegs_setFld _ _ _)).trans (onlyRegs_dmaRelease _ n)

theorem regsBut_dmaEnded (n : Nat) : RegsBut s (s.dmaEnded n) [Reg.dmaChStatusOff n, Reg.dmaTimersOff (n / 64)] := by
  refine RegsBut.trans (t := (s.setFld (Reg.dmaChStatusState n) dmaDone).setFld (Reg.dmaChStatusStatus n) 0)
    (RegsBut.trans (t := s.setFld (Reg.dmaChStatusState n) dmaDone) ?_ ?_) ?_
  · exact regsBut_setFld s _ _ _ List.mem_cons_self
  · exact regsBut_setFld _ _ _ _ List.mem_cons_self
  · exact (regsBut_dmaRelease _ n).mono (by simp)

include hn

/-- A register of a channel other than STATUS is none that a transfer's end writes. -/
theorem dma_not_mem_endRegs {off : Nat} (hoff : off < Reg.dmaChCtrlOff n + 0x100) (hst : off ≠ Reg.dmaChStatusOff n) :
    off ∉ [Reg.dmaChStatusOff n, Reg.dmaTimersOff (n / 64)] := by
  have habove := dmaTimersOff_above (n / 64) hn
  simp only [List.mem_cons, List.not_mem_nil, or_false]
  omega

/-- DONE with status OK; the FLAGS stay, and a paced transfer's timer returns. -/
theorem State.dmaEnded_read : (s.dmaEnded n).dmaState n = 3 ∧ (s.dmaEnded n).fld (Reg.dmaChStatusStatus n) = 0
    ∧ (s.dmaEnded n).fld (Reg.dmaChStatusFlags n) = s.fld (Reg.dmaChStatusFlags n)
    ∧ (s.dmaEnded n).fld (Reg.dmaTimersFree (n / 64)) = if s.fld (Reg.dmaChCtrlRate n) ≠ 0
        then min 96 (s.fld (Reg.dmaTimersFree (n / 64)) + 1) else s.fld (Reg.dmaTimersFree (n / 64)) := by
  obtain ⟨a, ha⟩ : ∃ a, a = s.setFld (Reg.dmaChStatusState n) dmaDone := ⟨_, rfl⟩
  obtain ⟨b, hb⟩ : ∃ b, b = a.setFld (Reg.dmaChStatusStatus n) 0 := ⟨_, rfl⟩
  have e : s.dmaEnded n = b.dmaRelease n := by rw [State.dmaEnded, hb, ha]
  have hread : ∀ f : Fld, f.off = Reg.dmaChStatusOff n → (s.dmaEnded n).fld f = b.fld f := fun f hf =>
    e ▸ RegsBut.dma_fld b hn (regsBut_dmaRelease b n) (by
      rw [hf]
      simp only [Reg.dmaChStatusOff, Reg.dmaChCtrlOff]
      omega)
  have hregs : RegsBut s b [Reg.dmaChStatusOff n] :=
    (ha ▸ regsBut_setFld s (Reg.dmaChStatusState n) _ _ List.mem_cons_self : RegsBut s a _).trans
      (hb ▸ regsBut_setFld a (Reg.dmaChStatusStatus n) _ _ List.mem_cons_self)
  have habove := dmaTimersOff_above (n / 64) hn
  refine ⟨?_, (hread _ rfl).trans (hb ▸ State.fld_setFld_fits (by simp [Reg.dmaChStatusStatus])), ?_, ?_⟩
  · rw [State.dmaState, hread _ rfl, hb, a.fld_setFld_apart _ _ _ (by simp [apart, Reg.dmaChStatusStatus, Reg.dmaChStatusState]), ha]
    exact State.fld_setFld_fits (by simp [Reg.dmaChStatusState, Fld.width, dmaDone])
  · rw [hread _ rfl, hb, a.fld_setFld_apart _ _ _ (by simp [apart, Reg.dmaChStatusStatus, Reg.dmaChStatusFlags]), ha,
      s.fld_setFld_apart _ _ _ (by simp [apart, Reg.dmaChStatusState, Reg.dmaChStatusFlags])]
  · rw [e, State.dmaRelease_free, hregs.fld (by simp [Reg.dmaChCtrlRate, Reg.dmaChStatusOff]), hregs.fld]
    simp only [Reg.dmaTimersFree, Reg.dmaChStatusOff, Reg.dmaTimersOff, Reg.dmaChCtrlOff, List.mem_singleton] at habove ⊢
    omega

end

theorem dmaTransferDone_done {n : Nat} {o : Origin} {s : State} (hp : s.powered = true) (hn : n < 128) (hout : (s.dma n).out = [])
    (hreply : (s.dma n).reply = some o) (haborts : (s.dma n).aborts = []) (hin : (⟨o, 0x32, none⟩ : Progress) ∈ s.inProg)
    (hstate : s.dmaState n = 1) (hissued : (s.dma n).issued = true) (hsignal : s.flag (Reg.dmaChCtrlSignalEn n) = false)
    (hcount : s.fld (Reg.dmaChMismatchCountCount n) = 0) :
    ∃ t, exec (.dmaTransferDone n) s = .next t ∧ t.dmaState n = 3 ∧ t.fld (Reg.dmaChStatusStatus n) = 0
      ∧ t.result o 0x32 .ok (flagsOf (s.fld (Reg.dmaChStatusFlags n)))
          (natLe 4 0 ++ natLe 4 (flagsCode (flagsOf (s.fld (Reg.dmaChStatusFlags n)))) ++
            natLe 8 (s.pair (Reg.dmaChProgressLoOff n)) ++ natLe 4 0) []
      ∧ t.fld (Reg.dmaTimersFree (n / 64)) = (if s.fld (Reg.dmaChCtrlRate n) ≠ 0
          then min 96 (s.fld (Reg.dmaTimersFree (n / 64)) + 1) else s.fld (Reg.dmaTimersFree (n / 64)))
      ∧ t.pair (Reg.dmaChProgressLoOff n) = s.pair (Reg.dmaChProgressLoOff n) ∧ t.mem = s.mem ∧ t.evq = s.evq
      ∧ RegsBut s t (grantRegs ++ [Reg.dmaChStatusOff n, Reg.dmaTimersOff (n / 64)]) := by
  obtain ⟨g, hg⟩ : ∃ g, g = s.arbGrant := ⟨_, rfl⟩
  obtain ⟨u, hu⟩ : ∃ u, u = g.dmaEnded n := ⟨_, rfl⟩
  have hgonly : OnlyRegs s g := hg ▸ onlyRegs_arbGrant s
  have hgregs : RegsBut s g grantRegs := hg ▸ regsBut_arbGrant s
  have huonly : OnlyRegs s u := hgonly.trans (hu ▸ onlyRegs_dmaEnded g n)
  have huregs : RegsBut g u [Reg.dmaChStatusOff n, Reg.dmaTimersOff (n / 64)] := hu ▸ regsBut_dmaEnded g n
  have hgdma : g.dma n = s.dma n := State.dma_of_dmaRun hgonly.dmaRun n
  have hudma : u.dma n = s.dma n := State.dma_of_dmaRun huonly.dmaRun n
  obtain ⟨huin, humem, huevq⟩ : u.inProg = s.inProg ∧ u.mem = s.mem ∧ u.evq = s.evq := by
    obtain ⟨r, e⟩ := huonly
    rw [e]
    exact ⟨rfl, rfl, rfl⟩
  have hgfld : ∀ f : Fld, Reg.dmaChCtrlOff 0 ≤ f.off → g.fld f = s.fld f := fun f hf => hgregs.fld (dma_not_mem_grantRegs hf)
  have hufld : ∀ f : Fld, Reg.dmaChCtrlOff 0 ≤ f.off → f.off < Reg.dmaChCtrlOff n + 0x100 → f.off ≠ Reg.dmaChStatusOff n →
      u.fld f = s.fld f := fun f hlo hhi hst => (huregs.fld (dma_not_mem_endRegs hn hhi hst)).trans (hgfld f hlo)
  have hprogress : u.pair (Reg.dmaChProgressLoOff n) = s.pair (Reg.dmaChProgressLoOff n) := by
    refine (huregs.pair (dma_not_mem_endRegs hn ?_ ?_) (dma_not_mem_endRegs hn ?_ ?_)).trans
      (hgregs.pair (dma_not_mem_grantRegs ?_) (dma_not_mem_grantRegs ?_))
    all_goals
      simp only [Reg.dmaChProgressLoOff, Reg.dmaChCtrlOff, Reg.dmaChStatusOff]
      omega
  have hucount : u.fld (Reg.dmaChMismatchCountCount n) = 0 := by
    refine (hufld _ ?_ ?_ ?_).trans hcount
    all_goals
      simp only [Reg.dmaChMismatchCountCount, Reg.dmaChCtrlOff, Reg.dmaChStatusOff]
      omega
  have husignal : u.flag (Reg.dmaChCtrlSignalEn n) = false := by
    rw [State.flag, hufld, ← State.flag, hsignal]
    all_goals
      simp only [Reg.dmaChCtrlSignalEn, Reg.dmaChCtrlOff, Reg.dmaChStatusOff]
      omega
  obtain ⟨hdone, hstatus, hflags, hfree⟩ := g.dmaEnded_read hn
  rw [← hu] at hdone hstatus hflags hfree
  rw [hgfld _ (by simp only [Reg.dmaChStatusFlags, Reg.dmaChCtrlOff]; omega)] at hflags
  rw [hgfld _ (by simp only [Reg.dmaChCtrlRate, Reg.dmaChCtrlOff]; omega),
    hgfld _ (by simp only [Reg.dmaTimersFree, Reg.dmaChCtrlOff]; omega)] at hfree
  have hresults : u.dmaResults n = (.ok, flagsOf (s.fld (Reg.dmaChStatusFlags n)), natLe 4 0
      ++ natLe 4 (flagsCode (flagsOf (s.fld (Reg.dmaChStatusFlags n)))) ++ natLe 8 (s.pair (Reg.dmaChProgressLoOff n)) ++ natLe 4 0) := by
    rw [State.dmaResults, hstatus, hflags, hprogress, hucount]
    rfl
  have hexec := s.granted_powered (State.dmaDoneNow n) hp
  have hgdone : g.dmaState n = dmaBusyCode ∧ (g.dma n).issued = true ∧ (g.dma n).out.isEmpty = true := by
    refine ⟨(hgfld _ ?_).trans hstate, hgdma ▸ hissued, by rw [hgdma, hout]; rfl⟩
    simp only [Reg.dmaChStatusState, Reg.dmaChCtrlOff]
    omega
  rw [← hg, State.dmaDoneNow, if_pos hgdone, State.dmaFinish_plain hu hucount husignal] at hexec
  have hres := u.dmaReport_result n (hudma ▸ hreply) (hudma ▸ haborts) (huin ▸ hin)
  rw [hresults] at hres
  have hfld : ∀ f, (State.latch s (u.dmaReport n)).fld f = u.fld f := fun f =>
    (State.latch_fld _ _ _).trans (State.fld_of_regs (u.dmaReport_regs n) f)
  refine ⟨_, hexec, (hfld _).trans hdone, (hfld _).trans hstatus, ?_, (hfld _).trans hfree, ?_, ?_, ?_, ?_⟩
  · unfold State.result
    rw [State.latch_inProg]
    exact hres
  · rw [State.latch_pair, State.pair_of_regs (u.dmaReport_regs n), hprogress]
  · rw [State.latch_mem, State.dmaReport_mem, humem]
  · rw [State.latch_evq, State.dmaReport_evq, huevq]
  · exact RegsBut.granted (hg ▸ huregs.trans (regsBut_of_regs _ (u.dmaReport_regs n)))

/-- Settles O23: a request by what the channel keeps, a write by the bytes stored, the ends of a transfer by the status noted and the
report. -/
theorem dmaRequestsAndEnds : Obligations.DmaRequestsAndEnds := by
  unfold Obligations.DmaRequestsAndEnds
  refine ⟨⟨fun n src dst size order s hp hnext hpiece hlocal => dmaRequestIssue_sends hp hnext hpiece hlocal,
    fun n q s hp _ hout hwrite hlocal hlen hform ha hreach hrick hsound hfit =>
      dmaReply_stores hp hout hwrite hlocal hlen hform ha hreach hrick hsound hfit⟩,
    fun n o s hp hn hout hreply haborts hin => ⟨fun hstate hissued hsignal hcount =>
      dmaTransferDone_done hp hn hout hreply haborts hin hstate hissued hsignal hcount, fun hstate hroom hliving => ⟨?_, ?_⟩⟩⟩
  · exact fun c hf ha => dmaDrained_aborted hp hn hout hreply haborts hin hstate hliving hroom hf ha
  · exact fun st a hf hsignal ha => dmaDrained_failed hp hn hout hreply haborts hin hstate hliving hroom hf hsignal ha

end Sys2Proof.Machine
end

section
/-! SUPPORT. Lanes, ports and the central store: what an update keeps of the registers, of memory and of the events that wait. -/

namespace Sys2Proof.Machine

variable (s : State)

/-! ### What an update keeps -/

/-- From `s` to `t` the registers at the offsets that `p` holds of, memory, and the events that wait are kept. -/
structure Keeps (p : Nat → Prop) (s t : State) : Prop where
  reg : ∀ off, p off → t.reg off = s.reg off
  mem : t.mem = s.mem
  events : ∀ {code src p0 p1 p2 : Nat}, s.hasEvent code src p0 p1 p2 → t.hasEvent code src p0 p1 p2

section
variable {s} {t u : State} {p q : Nat → Prop}

theorem Keeps.refl (p : Nat → Prop) (s : State) : Keeps p s s := ⟨fun _ _ => rfl, rfl, id⟩

theorem Keeps.trans (h : Keeps p s t) (h' : Keeps p t u) : Keeps p s u :=
  ⟨fun off ho => (h'.reg off ho).trans (h.reg off ho), h'.mem.trans h.mem, h'.events ∘ h.events⟩

theorem Keeps.mono (h : Keeps p s t) (hq : ∀ off, q off → p off) : Keeps q s t :=
  ⟨fun off ho => h.reg off (hq off ho), h.mem, h.events⟩

theorem Keeps.fld (h : Keeps p s t) {f : Fld} (hf : p f.off) : t.fld f = s.fld f := by rw [State.fld, h.reg _ hf, State.fld]

theorem Keeps.flag (h : Keeps p s t) {f : Fld} (hf : p f.off) : t.flag f = s.flag f := by rw [State.flag, h.fld hf, State.flag]

/-- An update beside registers, memory and event queues. -/
theorem keeps_beside (hregs : t.regs = s.regs) (hmem : t.mem = s.mem) (hevq : t.evq = s.evq) : Keeps p s t :=
  ⟨fun off _ => State.reg_of_regs hregs off, hmem, State.hasEvent_of_evq hevq⟩

theorem keeps_of_onlyRegs (hr : ∀ off, p off → t.reg off = s.reg off) (ho : OnlyRegs s t) : Keeps p s t := by
  obtain ⟨r, rfl⟩ := ho
  exact ⟨hr, rfl, id⟩

variable (s)

theorem keeps_setReg {off : Nat} (w : Word) (h : ¬ p off) : Keeps p s (s.setReg off w) :=
  keeps_of_onlyRegs (fun _ ho => s.reg_setReg_ne _ _ _ fun e => h (e ▸ ho)) (onlyRegs_setReg s off w)

theorem keeps_setFld {f : Fld} (v : Nat) (h : ¬ p f.off) : Keeps p s (s.setFld f v) := keeps_setReg s _ h

theorem keeps_setFlag {f : Fld} (b : Bool) (h : ¬ p f.off) : Keeps p s (s.setFlag f b) := keeps_setFld s _ h

theorem keeps_bump {f : Fld} (h : ¬ p f.off) : Keeps p s (s.bump f) := keeps_setFld s _ h

theorem keeps_ev (code src p0 p1 p2 : Nat) (h : ∀ off ∈ evRegs, ¬ p off) : Keeps p s (s.ev code src p0 p1 p2) :=
  ⟨fun off ho => regsBut_evRegs s code src p0 p1 p2 off fun hm => h off hm ho, s.ev_mem ..,
    fun he => s.hasEvent_ev_of_hasEvent _ _ _ _ _ _ _ _ _ _ he⟩

theorem keeps_setPort (d : Nat) (x : Port) : Keeps p s (s.setPort d x) := keeps_beside rfl rfl rfl

theorem keeps_each {α : Type} (xs : List α) (f : State → α → State) (h : ∀ t, ∀ x ∈ xs, Keeps p t (f t x)) :
    Keeps p s (s.each xs f) := by
  induction xs generalizing s with
  | nil => exact .refl p s
  | cons x xs ih => exact (h s x List.mem_cons_self).trans (ih (f s x) fun t y hy => h t y (List.mem_cons_of_mem _ hy))

theorem keeps_when (b : Bool) (f : State → State) (h : Keeps p s (f s)) : Keeps p s (s.when b f) := by
  cases b
  · exact .refl p s
  · exact h

end

/-! ### The central store (R263 to R268, R275) -/

/-- The registers below those of the routing block. -/
@[reducible] def belowRouting (off : Nat) : Prop := off < Reg.rtrCtrlOff

theorem evRegs_not_belowRouting : ∀ off ∈ evRegs, ¬ belowRouting off := by
  simp [evRegs, belowRouting, Reg.rtrCtrlOff, Reg.evrDroppedCount, Reg.evrQueueHwmF0]

theorem keeps_mark {p : Nat → Prop} {f : Fld} (v : Nat) (h : ¬ p f.off) : Keeps p s (s.mark f v) := by
  unfold State.mark
  split_ifs
  · exact keeps_setFld s v h
  · exact .refl p s

theorem keeps_storeSync : Keeps belowRouting s s.storeSync := by
  have hdie : ∀ (t : State) (f used free : Nat) (g : Nat → Nat), Keeps belowRouting t
      ((((t.setFld (Reg.rtrStoreStatusUsed f) used).mark (Reg.rtrStoreHwmUsed f) used).setFld (Reg.rtrStoreSharedFreeCells f) free).each
        (List.range 5) fun u c => u.setFld (Reg.rtrStoreClassUsedCells f c) (g c)) := fun t f used free g =>
    (((keeps_setFld t _ (by simp only [belowRouting, Reg.rtrCtrlOff, Reg.rtrStoreStatusUsed]; omega)).trans
      (keeps_mark _ _ (by simp only [belowRouting, Reg.rtrCtrlOff, Reg.rtrStoreHwmUsed]; omega))).trans
      (keeps_setFld _ _ (by simp only [belowRouting, Reg.rtrCtrlOff, Reg.rtrStoreSharedFreeCells]; omega))).trans
      (keeps_each _ _ _ fun u c _ => keeps_setFld u _ (by simp only [belowRouting, Reg.rtrCtrlOff, Reg.rtrStoreClassUsedCells]; omega))
  have hthrottle : ∀ (t : State) (f used : Nat) (b : Bool), Keeps belowRouting t
      ((t.setFlag (Reg.rtrStoreStatusThrottle f) b).ev 0x0703 f (b2n b) used 0) := fun t f used b =>
    (keeps_setFlag t b (by simp only [belowRouting, Reg.rtrCtrlOff, Reg.rtrStoreStatusThrottle]; omega)).trans
      (keeps_ev _ _ _ _ _ _ evRegs_not_belowRouting)
  have hcapped : ∀ (t : State) (f : Nat) (b : Bool), Keeps belowRouting t (t.setFlag (Reg.rtrStoreStatusCapped f) b) := fun t f b =>
    keeps_setFlag t b (by simp only [belowRouting, Reg.rtrCtrlOff, Reg.rtrStoreStatusCapped]; omega)
  have hdepth : ∀ (t : State) (d c : Nat), Keeps belowRouting t
      ((t.setFld (Reg.rtrPortDepthCells d) c).mark (Reg.rtrPortDepthHwmCells d) c) := fun t d c =>
    (keeps_setFld t _ (by simp only [belowRouting, Reg.rtrCtrlOff, Reg.rtrPortDepthCells]; omega)).trans
      (keeps_mark _ _ (by simp only [belowRouting, Reg.rtrCtrlOff, Reg.rtrPortDepthHwmCells]; omega))
  unfold State.storeSync
  dsimp only
  refine ((Keeps.trans ?_ (keeps_each _ _ _ fun t d _ => hdepth t d _)).trans (keeps_setFld _ _ (by decide))).trans
    (keeps_mark _ _ (by decide))
  refine keeps_each s _ _ fun t f _ => Keeps.trans ?_ (hcapped _ f _)
  split_ifs
  · exact (hdie t f _ _ _).trans (hthrottle _ f _ true)
  · exact (hdie t f _ _ _).trans (hthrottle _ f _ false)
  · exact hdie t f _ _ _

theorem keeps_detour (p q : Packet) : Keeps belowRouting s (s.detour p q) :=
  keeps_each s _ _ fun t d _ => keeps_bump t (by simp only [belowRouting, Reg.rtrCtrlOff, Reg.rtrPortDetoursCount]; omega)

theorem keeps_enqueue (o die : Nat) (via : Option Nat) (vc : Nat) (p : Packet) (acc : Nat × Nat × Nat) :
    Keeps belowRouting s (s.enqueue o die via vc p acc) := by
  have hset : ∀ q, Keeps belowRouting s (s.setQueue o q).storeSync := fun q =>
    (keeps_beside (s := s) (t := s.setQueue o q) rfl rfl rfl).trans (keeps_storeSync _)
  unfold State.enqueue
  dsimp only
  split_ifs
  · exact (hset _).trans (keeps_ev _ _ _ _ _ _ evRegs_not_belowRouting)
  · exact hset _

theorem keeps_place (o die : Nat) (p q : Packet) : Keeps belowRouting s (s.place o die p q) := by
  unfold State.place
  split
  · split_ifs
    · exact keeps_beside rfl rfl rfl
    · exact (keeps_detour s p q).trans (keeps_enqueue _ _ _ _ _ _ _)
  · exact keeps_beside rfl rfl rfl

theorem keeps_unreachableEv (die dark : Nat) (p : Packet) : Keeps belowRouting s (s.unreachableEv die dark p) :=
  (keeps_bump s (by decide)).trans (keeps_ev _ _ _ _ _ _ evRegs_not_belowRouting)

theorem keeps_forward (die : Nat) (p : Packet) : Keeps belowRouting s (s.forward die p) := by
  unfold State.forward
  split
  · exact keeps_place s _ _ _ _
  · exact keeps_place s _ _ _ _
  · next dark q _ =>
    refine (keeps_unreachableEv s die dark q).trans ?_
    dsimp only
    split
    · split_ifs
      · exact keeps_place _ _ _ _ _
      · split
        · exact keeps_place _ _ _ _ _
        · exact keeps_place _ _ _ _ _
        · exact keeps_unreachableEv _ _ _ _
    · exact .refl _ _

theorem keeps_retryWaiting : Keeps belowRouting s s.retryWaiting :=
  (keeps_beside (s := s) (t := { s with waiting := [] }) rfl rfl rfl).trans
    (keeps_each _ s.waiting _ fun t x _ => keeps_forward t x.1 x.2)

theorem keeps_freeCells (x : Stored) : Keeps belowRouting s (s.freeCells x) := by
  unfold State.freeCells
  split
  · exact .refl _ s
  · exact keeps_beside rfl rfl rfl

theorem keeps_reroute (x : Stored) : Keeps belowRouting s (s.reroute x) := by
  unfold State.reroute
  split
  · exact keeps_enqueue s _ _ _ _ _ _
  · exact (keeps_detour s _ _).trans (keeps_enqueue _ _ _ _ _ _ _)
  · exact (keeps_freeCells s x).trans (keeps_forward _ _ _)

theorem keeps_leaveUp (d : Nat) : Keeps belowRouting s (s.leaveUp d) :=
  ((((keeps_beside (s := s) (t := s.setQueue d []) rfl rfl rfl).trans (keeps_each _ _ _ fun t x _ => keeps_reroute t x)).trans
    (keeps_storeSync _)).trans (keeps_ev _ _ _ _ _ _ evRegs_not_belowRouting)).trans (keeps_retryWaiting _)

/-! ### Eye scans, lanes and the identity of a port (R217 to R225, R245 to R251) -/

theorem keeps_headerFound (d : Nat) : Keeps belowRouting s (s.headerFound d) := by
  unfold State.headerFound
  split
  · exact (keeps_beside (s := s) (t := { s with resync := tdel s.resync d }) rfl rfl rfl).trans
      (keeps_ev _ _ _ _ _ _ evRegs_not_belowRouting)
  · exact .refl _ s

theorem keeps_dropCredits {p : Nat → Prop} (d : Nat) : Keeps p s (s.dropCredits d) := keeps_beside rfl rfl rfl

/-- The registers below those of the routing block but LAN_TIME_STATUS. -/
def belowTime (off : Nat) : Prop := belowRouting off ∧ off ≠ Reg.lanTimeStatusOff

theorem evRegs_not_belowTime : ∀ off ∈ evRegs, ¬ belowTime off := fun off ho h => evRegs_not_belowRouting off ho h.1

/-- Writing LAN_TIME_STATUS keeps every other register. -/
theorem keeps_setTime {f : Fld} (v : Nat) (h : f.off = Reg.lanTimeStatusOff) : Keeps belowTime s (s.setFld f v) :=
  keeps_setFld s v fun hp => hp.2 h

/-- Whose time is followed is shown in LAN_TIME_STATUS alone. -/
theorem keeps_setParent (role d : Nat) :
    Keeps belowTime s ((s.setFld Reg.lanTimeStatusRole role).setFld Reg.lanTimeStatusParentDim d) :=
  (keeps_setTime s _ rfl).trans (keeps_setTime _ _ rfl)

theorem keeps_followTime (d : Nat) : Keeps belowTime s (s.followTime d) := by
  unfold State.followTime
  exact (keeps_setParent s 2 d).trans (keeps_beside rfl rfl rfl)

theorem keeps_holdover : Keeps belowTime s s.holdover :=
  (keeps_setParent s 3 0).trans (keeps_ev _ _ _ _ _ _ evRegs_not_belowTime)

theorem keeps_retime : Keeps belowTime s s.retime := by
  unfold State.retime
  dsimp only
  split
  · split_ifs
    · exact keeps_setParent s 0 0
    · exact .refl _ s
  · split
    · split_ifs
      · exact .refl _ s
      · exact keeps_followTime s _
    · exact keeps_holdover s
    · exact (keeps_followTime s _).trans (keeps_ev _ _ _ _ _ _ evRegs_not_belowTime)
    · exact .refl _ s

/-- The registers but LAN_PORT_d_DISC and LAN_DISC_STATUS, below those of the routing block. -/
def besidePortState (d off : Nat) : Prop := off ≠ Reg.lanPortDiscOff d ∧ off ≠ Reg.lanDiscStatusOff

theorem keeps_setPortState (d st cause : Nat) : Keeps (besidePortState d) s (s.setPortState d st cause) := by
  have hport : ∀ (t : State) (x : Port), Keeps (besidePortState d) t (if st < 2 then t else t.setPort d x) := fun t x => by
    split_ifs
    · exact .refl _ t
    · exact keeps_setPort t d x
  have hdisc : ∀ (t : State) {f : Fld} (v : Nat), f.off = Reg.lanPortDiscOff d → Keeps (besidePortState d) t (t.setFld f v) :=
    fun t f v h => keeps_setFld t v fun hp => hp.1 h
  have hstatus : ∀ (t : State) {f : Fld} (v : Nat), f.off = Reg.lanDiscStatusOff → Keeps (besidePortState d) t (t.setFld f v) :=
    fun t f v h => keeps_setFld t v fun hp => hp.2 h
  exact ((((hdisc s _ rfl).trans (hdisc _ _ rfl)).trans (hport _ _)).trans (hstatus _ _ rfl)).trans (hstatus _ _ rfl)

end Sys2Proof.Machine
end

section
/-! SUPPORT. Lanes: which a port has, what an eye scan's end, a lane taken out and a lane set leave (R229, R245 to R251). -/

namespace Sys2Proof.Machine

variable (s : State)

/-! ### Lanes of a port (R229) -/

theorem mem_lanesOf {d n : Nat} : n ∈ lanesOf d ↔ firstLane d ≤ n ∧ n < firstLane d + laneCount d := by
  simp only [lanesOf, List.mem_map, List.mem_range]
  exact ⟨fun ⟨i, hi, he⟩ => by omega, fun h => ⟨n - firstLane d, by omega, by omega⟩⟩

theorem lanesOf_nodup (d : Nat) : (lanesOf d).Nodup := List.nodup_range.map fun _ _ h => Nat.add_left_cancel h

theorem lanesOf_length (d : Nat) : (lanesOf d).length = laneCount d := by simp [lanesOf]

theorem mem_lanesOf_portOfLane {n : Nat} (hn : n < 112) : n ∈ lanesOf (portOfLane n) := by
  rw [mem_lanesOf]
  unfold portOfLane firstLane laneCount
  split_ifs <;> omega

theorem portOfLane_lt {n : Nat} (hn : n < 112) : portOfLane n < 16 := by
  unfold portOfLane
  split_ifs <;> omega

theorem lane_lt_of_mem {d n : Nat} (hd : d < 16) (hn : n ∈ lanesOf d) : n < 112 := by
  rw [mem_lanesOf] at hn
  unfold firstLane laneCount at hn
  split_ifs at hn <;> omega

theorem widthFor_laneCount (d : Nat) : widthFor d (laneCount d) = laneCount d := by
  by_cases h : d < 6 <;> simp [widthFor, laneCount, h]

theorem widthFor_le (d n : Nat) : widthFor d n ≤ 12 := by
  unfold widthFor
  split_ifs <;> omega

/-! ### Fields of an update -/

theorem OnlyRegs.evq {s t : State} (h : OnlyRegs s t) : t.evq = s.evq := by
  obtain ⟨r, rfl⟩ := h
  rfl

theorem OnlyRegs.ports {s t : State} (h : OnlyRegs s t) : t.ports = s.ports := by
  obtain ⟨r, rfl⟩ := h
  rfl

theorem lanLaneStatusOff_inj {m n : Nat} (h : m ≠ n) : Reg.lanLaneStatusOff m ≠ Reg.lanLaneStatusOff n := by
  simp only [Reg.lanLaneStatusOff]
  omega

section
variable {s} {t : State} {p : Nat → Prop}

theorem Keeps.laneState (h : Keeps p s t) {n : Nat} (hn : p (Reg.lanLaneStatusOff n)) : t.laneState n = s.laneState n := h.fld hn

theorem State.laneState_of_regs (h : t.regs = s.regs) (n : Nat) : t.laneState n = s.laneState n := State.fld_of_regs h _

/-- The good lanes of a port rest on the states of its lanes alone. -/
theorem State.goodLanes_congr {d : Nat} (h : ∀ n ∈ lanesOf d, t.laneState n = s.laneState n) : t.goodLanes d = s.goodLanes d :=
  List.filter_congr fun n hn => by rw [State.laneGood, h n hn, State.laneGood]

/-- The good lanes of a port but one lane that is good no longer. -/
theorem State.goodLanes_without {d n : Nat} (h : ∀ m, m ∈ lanesOf d → m ≠ n → t.laneState m = s.laneState m)
    (hn : t.laneGood n = false) : t.goodLanes d = (s.goodLanes d).filter (· ≠ n) := by
  rw [State.goodLanes, State.goodLanes, List.filter_filter]
  refine List.filter_congr fun m hm => ?_
  by_cases he : m = n
  · simp [he, hn]
  · simp [he, State.laneGood, h m hm he]

theorem State.goodLanes_nodup (d : Nat) : (s.goodLanes d).Nodup := (lanesOf_nodup d).filter _

theorem State.mem_goodLanes {d n : Nat} : n ∈ s.goodLanes d ↔ n ∈ lanesOf d ∧ s.laneGood n = true := List.mem_filter

theorem length_filter_ne {l : List Nat} {n : Nat} (hd : l.Nodup) (hn : n ∈ l) : (l.filter (· ≠ n)).length = l.length - 1 := by
  have he : l.filter (· ≠ n) = l.erase n := by
    rw [hd.erase_eq_filter]
    exact List.filter_congr fun m _ => by simp [bne, beq_eq_decide]
  rw [he, List.length_erase_of_mem hn]

end

/-- A pass over things of different numbers changes what belongs to one number as the pass of that number does. -/
theorem State.each_at {α β : Type} (q : State → β) (k : α → Nat) (g : β → β) {n : Nat} (xs : List α) (f : State → α → State)
    (hnd : (xs.map k).Nodup) (hsame : ∀ t, ∀ x ∈ xs, k x = n → q (f t x) = g (q t))
    (hother : ∀ t, ∀ x ∈ xs, k x ≠ n → q (f t x) = q t)
    (hn : n ∈ xs.map k) : q (s.each xs f) = g (q s) := by
  induction xs generalizing s with
  | nil => cases hn
  | cons x xs ih =>
    rw [List.map_cons, List.nodup_cons] at hnd
    obtain ⟨hx, hnd⟩ := hnd
    have htail : n ∉ xs.map k → ∀ t : State, q (t.each xs f) = q t := fun hnot t => by
      clear ih
      induction xs generalizing t with
      | nil => rfl
      | cons y ys ih' =>
        rw [List.map_cons, List.mem_cons, not_or] at hnot hx
        rw [List.map_cons, List.nodup_cons] at hnd
        have hstep := hother t y (List.mem_cons_of_mem _ List.mem_cons_self) (Ne.symm hnot.1)
        exact (ih' (fun t z hz => hsame t z (by grind)) (fun t z hz => hother t z (by grind)) (by grind) hx.2 hnd.2 hnot.2 _).trans hstep
    by_cases hk : k x = n
    · exact (htail (hk ▸ hx) (f s x)).trans (hsame s x List.mem_cons_self hk)
    · rw [List.map_cons, List.mem_cons] at hn
      have hmem : n ∈ xs.map k := hn.resolve_left fun h => hk h.symm
      have hstep := ih (f s x) hnd (fun t y hy => hsame t y (List.mem_cons_of_mem _ hy))
        (fun t y hy => hother t y (List.mem_cons_of_mem _ hy)) hmem
      rw [hother s x List.mem_cons_self hk] at hstep
      exact hstep

/-! ### The end of an eye scan (R251, R256) -/

/-- Registers of lanes and ports that no scan writes, under whatever number it is kept. -/
@[reducible] def apartScans (off : Nat) : Prop :=
  off < Reg.lanEyeCtrlOff 0 ∨ off = Reg.lanPortStatusOff 0 ∨ (Reg.lanPortCtrlOff 0 < off ∧ off < Reg.lanEyePointOff 2 0)

theorem evRegs_not_apartScans : ∀ off ∈ evRegs, ¬ apartScans off := by decide

theorem lanLaneStatusOff_apartScans {n : Nat} (hn : n < 112) : apartScans (Reg.lanLaneStatusOff n) := by
  simp only [apartScans, Reg.lanLaneStatusOff, Reg.lanEyeCtrlOff]
  omega

theorem lanPortStatusOff_apartScans {d : Nat} (hd : d < 16) : apartScans (Reg.lanPortStatusOff d) := by
  simp only [apartScans, Reg.lanPortStatusOff, Reg.lanEyeCtrlOff, Reg.lanPortCtrlOff, Reg.lanEyePointOff]
  omega

theorem lanPortLinkLossesOff_apartScans {d : Nat} (hd : d < 16) : apartScans (Reg.lanPortLinkLossesOff d) := by
  simp only [apartScans, Reg.lanPortLinkLossesOff, Reg.lanPortStatusOff, Reg.lanEyeCtrlOff, Reg.lanPortCtrlOff, Reg.lanEyePointOff]
  omega

theorem lanEyeStatusOff_not_apartScans (f : Nat) : ¬ apartScans (Reg.lanEyeStatusOff f) := by
  simp only [apartScans, Reg.lanEyeStatusOff, Reg.lanPortStatusOff, Reg.lanEyeCtrlOff, Reg.lanPortCtrlOff, Reg.lanEyePointOff]
  omega

theorem lanEyePointOff_not_apartScans (f : Nat) {i : Nat} (hi : i < 4096) : ¬ apartScans (Reg.lanEyePointOff f i) := by
  simp only [apartScans, Reg.lanPortStatusOff, Reg.lanEyeCtrlOff, Reg.lanPortCtrlOff, Reg.lanEyePointOff]
  omega

theorem EyeScan.points_le (x : EyeScan) (clk : Nat) : x.points clk ≤ 4096 := Nat.min_le_left _ _

/-- A scan that ends before its time: its points counted, each with the number that `e` gives, and its state. -/
def State.scanEnded (s : State) (f n : Nat) (e : Nat → Nat) : State :=
  ((s.setFld (Reg.lanEyeStatusPoints f) n).each (List.range n) fun t i => t.setFld (Reg.lanEyePointErrors f i) (e i)).setFld
    (Reg.lanEyeStatusState f) 3

theorem State.abortScan_some {f : Nat} {x : EyeScan} (h : tfind s.eyes f = some x) : s.abortScan f
    = (({ s with eyes := tdel s.eyes f, free := s.free + 1 }).scanEnded f (x.points s.clk) fun i =>
        Config.freeValue s.free / (2 ^ x.dwell + 1) ^ i % (2 ^ x.dwell + 1)).ev 0x060F f x.lane x.eye (2 ^ 32 - 1) := by
  rw [State.abortScan, h]
  rfl

theorem onlyRegs_scanEnded (f n : Nat) (e : Nat → Nat) : OnlyRegs s (s.scanEnded f n e) :=
  ((onlyRegs_setFld s _ _).trans (onlyRegs_each _ _ _ fun t _ => onlyRegs_setFld t _ _)).trans (onlyRegs_setFld _ _ _)

theorem keeps_scanEnded (f : Nat) {n : Nat} (hn : n ≤ 4096) (e : Nat → Nat) : Keeps apartScans s (s.scanEnded f n e) :=
  ((keeps_setFld s _ (lanEyeStatusOff_not_apartScans f)).trans (keeps_each _ _ _ fun t _ hi =>
    keeps_setFld t _ (lanEyePointOff_not_apartScans f ((List.mem_range.1 hi).trans_le hn)))).trans
    (keeps_setFld _ _ (lanEyeStatusOff_not_apartScans f))

theorem keeps_abortScan (f : Nat) : Keeps apartScans s (s.abortScan f) := by
  cases h : tfind s.eyes f with
  | none =>
    rw [State.abortScan, h]
    exact .refl _ s
  | some x =>
    rw [s.abortScan_some h]
    have hgone : Keeps apartScans s { s with eyes := tdel s.eyes f, free := s.free + 1 } := keeps_beside rfl rfl rfl
    exact (hgone.trans (keeps_scanEnded _ f (x.points_le _) _)).trans (keeps_ev _ _ _ _ _ _ evRegs_not_apartScans)

theorem State.room_abortScan (f : Nat) {m : Nat} (h : s.room (m + 1) = true) : (s.abortScan f).room m = true := by
  cases hx : tfind s.eyes f with
  | none =>
    rw [State.abortScan, hx]
    exact s.room_mono (Nat.le_succ m) h
  | some x =>
    rw [s.abortScan_some hx]
    refine State.room_ev _ _ _ _ _ _ m ?_
    rw [State.room_of_evq (onlyRegs_scanEnded _ _ _ _).evq]
    exact h

theorem State.abortScan_ports (f : Nat) : (s.abortScan f).ports = s.ports := by
  cases hx : tfind s.eyes f with
  | none => rw [State.abortScan, hx]
  | some x => rw [s.abortScan_some hx, State.ev_ports, (onlyRegs_scanEnded _ _ _ _).ports]

theorem keeps_endScan (n : Nat) : Keeps apartScans s (s.endScan n) := by
  unfold State.endScan
  split
  · exact keeps_abortScan s _
  · exact .refl _ s

theorem State.room_endScan (n : Nat) {m : Nat} (h : s.room (m + 1) = true) : (s.endScan n).room m = true := by
  unfold State.endScan
  split
  · exact s.room_abortScan _ h
  · exact s.room_mono (Nat.le_succ m) h

theorem State.endScan_ports (n : Nat) : (s.endScan n).ports = s.ports := by
  unfold State.endScan
  split
  · exact s.abortScan_ports _
  · rfl

/-! ### A lane taken out (R245, R248) -/

/-- The registers that no scan writes but LAN_LANE_n_STATUS. -/
@[reducible] def besideLane (n off : Nat) : Prop := apartScans off ∧ off ≠ Reg.lanLaneStatusOff n

/-- Drops, state and lock of a lane that is taken out. -/
def State.laneOut (s : State) (n k : Nat) : State :=
  ((s.setFld (Reg.lanLaneStatusDrops n) k).setFld (Reg.lanLaneStatusState n) (if 3 ≤ k then 7 else 4)).setFlag
    (Reg.lanLaneStatusMarkerLock n) false

theorem State.takeOut_eq (n : Nat) : s.takeOut n = (s.endScan n).laneOut n (min 255 (s.fld (Reg.lanLaneStatusDrops n) + 1)) := rfl

theorem onlyRegs_laneOut (n k : Nat) : OnlyRegs s (s.laneOut n k) :=
  ((onlyRegs_setFld s _ _).trans (onlyRegs_setFld _ _ _)).trans (onlyRegs_setFld _ _ _)

theorem keeps_setLane {n : Nat} {f : Fld} (v : Nat) (h : f.off = Reg.lanLaneStatusOff n) : Keeps (besideLane n) s (s.setFld f v) :=
  keeps_setFld s v fun hp => hp.2 h

theorem keeps_laneOut (n k : Nat) : Keeps (besideLane n) s (s.laneOut n k) :=
  ((keeps_setLane s _ rfl).trans (keeps_setLane _ _ rfl)).trans (keeps_setLane _ _ rfl)

theorem State.laneOut_drops (n : Nat) {k : Nat} (hk : k ≤ 255) : (s.laneOut n k).fld (Reg.lanLaneStatusDrops n) = k := by
  rw [State.laneOut, State.setFlag, State.fld_setFld_apart _ _ _ _ (by simp [apart, Reg.lanLaneStatusDrops, Reg.lanLaneStatusMarkerLock]),
    State.fld_setFld_apart _ _ _ _ (by simp [apart, Reg.lanLaneStatusDrops, Reg.lanLaneStatusState]),
    s.fld_setFld _ _ (by simp [Reg.lanLaneStatusDrops]) (by simp [Reg.lanLaneStatusDrops])]
  exact Nat.mod_eq_of_lt (Nat.lt_succ_of_le hk)

/-- A state written reads as the state of the lane. -/
theorem State.laneState_setFld (n : Nat) {v : Nat} (hv : v < 8) : (s.setFld (Reg.lanLaneStatusState n) v).laneState n = v := by
  rw [State.laneState, s.fld_setFld _ _ (by simp [Reg.lanLaneStatusState]) (by simp [Reg.lanLaneStatusState])]
  exact Nat.mod_eq_of_lt hv

theorem State.laneOut_laneState (n k : Nat) : (s.laneOut n k).laneState n = if 3 ≤ k then 7 else 4 := by
  rw [State.laneOut, State.setFlag, State.laneState,
    State.fld_setFld_apart _ _ _ _ (by simp [apart, Reg.lanLaneStatusState, Reg.lanLaneStatusMarkerLock]), ← State.laneState]
  exact State.laneState_setFld _ n (by split_ifs <;> decide)

theorem keeps_takeOut (n : Nat) : Keeps (besideLane n) s (s.takeOut n) :=
  ((keeps_endScan s n).mono fun _ h => h.1).trans (keeps_laneOut _ n _)

theorem State.takeOut_spec (n : Nat) : (s.takeOut n).fld (Reg.lanLaneStatusDrops n) = min 255 (s.fld (Reg.lanLaneStatusDrops n) + 1)
    ∧ (s.takeOut n).laneState n = (if 3 ≤ min 255 (s.fld (Reg.lanLaneStatusDrops n) + 1) then 7 else 4)
    ∧ (s.takeOut n).ports = s.ports := by
  rw [s.takeOut_eq]
  refine ⟨State.laneOut_drops _ n (Nat.min_le_left _ _), State.laneOut_laneState _ n _, ?_⟩
  exact (onlyRegs_laneOut _ n _).ports.trans (s.endScan_ports n)

theorem State.room_takeOut (n : Nat) {m : Nat} (h : s.room (m + 1) = true) : (s.takeOut n).room m = true := by
  rw [s.takeOut_eq, State.room_of_evq (onlyRegs_laneOut _ n _).evq]
  exact s.room_endScan n h

/-- A lane taken out is out, and the port's others are as they were. -/
theorem State.takeOut_goodLanes {d n : Nat} (hd : d < 16) : (s.takeOut n).goodLanes d = (s.goodLanes d).filter (· ≠ n) := by
  refine State.goodLanes_without (fun m hm he => (keeps_takeOut s n).laneState ⟨?_, lanLaneStatusOff_inj he⟩) ?_
  · exact lanLaneStatusOff_apartScans (lane_lt_of_mem hd hm)
  · rw [State.laneGood, (s.takeOut_spec n).2.1]
    split_ifs <;> rfl

end Sys2Proof.Machine
end

section
/-! SUPPORT. Ports: their state, training, lane sets, and the loss of a link (R219, R221, R242 to R249). -/

namespace Sys2Proof.Machine

variable (s : State)

/-! ### The state of a port (R219, R227) -/

theorem lanPortDisc_ne_lanDiscStatus (d : Nat) : Reg.lanPortDiscOff d ≠ Reg.lanDiscStatusOff := by
  simp only [Reg.lanPortDiscOff, Reg.lanDiscStatusOff]
  omega

/-- Fields of LAN_PORT_d_DISC read as LAN_DISC_STATUS is written. -/
theorem State.fld_setDiscStatus {f g : Fld} (d v : Nat) (hf : f.off = Reg.lanDiscStatusOff) (hg : g.off = Reg.lanPortDiscOff d) :
    (s.setFld f v).fld g = s.fld g :=
  s.fld_setFld_off _ _ _ (by rw [hf, hg]; exact lanPortDisc_ne_lanDiscStatus d)

theorem State.setPortState_spec (d : Nat) {st cause : Nat} (hst : st < 8) (hcause : cause < 8) :
    (s.setPortState d st cause).portState d = st ∧ (s.setPortState d st cause).fld (Reg.lanPortDiscCause d) = cause
      ∧ (s.setPortState d st cause).fld (Reg.lanPortDiscSeenId d) = s.fld (Reg.lanPortDiscSeenId d) := by
  obtain ⟨t, ht⟩ : ∃ t, t = (s.setFld (Reg.lanPortDiscState d) st).setFld (Reg.lanPortDiscCause d) cause := ⟨_, rfl⟩
  obtain ⟨u, hu⟩ : ∃ u, u = if st < 2 then t else t.setPort d { t.port d with left := true } := ⟨_, rfl⟩
  have hread : ∀ g : Fld, g.off = Reg.lanPortDiscOff d → (s.setPortState d st cause).fld g = t.fld g := fun g hg => by
    have hport : u.regs = t.regs := by
      rw [hu]
      split_ifs <;> rfl
    have he : s.setPortState d st cause = (u.setFld Reg.lanDiscStatusUpPorts ((List.range 16).filter u.portUp).length).setFlag
        Reg.lanDiscStatusDone ((List.range 16).all fun e =>
          ((u.setFld Reg.lanDiscStatusUpPorts ((List.range 16).filter u.portUp).length).port e).left) := by
      rw [hu, ht]
      rfl
    rw [he, State.setFlag, State.fld_setDiscStatus _ d _ rfl hg, State.fld_setDiscStatus _ d _ rfl hg, State.fld_of_regs hport]
  refine ⟨?_, ?_, ?_⟩
  · rw [State.portState, hread _ rfl, ht, State.fld_setFld_apart _ _ _ _ (by simp [apart, Reg.lanPortDiscCause, Reg.lanPortDiscState]),
      s.fld_setFld _ _ (by simp [Reg.lanPortDiscState]) (by simp [Reg.lanPortDiscState])]
    exact Nat.mod_eq_of_lt hst
  · rw [hread _ rfl, ht, State.fld_setFld _ _ _ (by simp [Reg.lanPortDiscCause]) (by simp [Reg.lanPortDiscCause])]
    exact Nat.mod_eq_of_lt hcause
  · rw [hread _ rfl, ht, State.fld_setFld_apart _ _ _ _ (by simp [apart, Reg.lanPortDiscCause, Reg.lanPortDiscSeenId]),
      s.fld_setFld_apart _ _ _ (by simp [apart, Reg.lanPortDiscState, Reg.lanPortDiscSeenId])]

theorem State.setPortState_evq (d st cause : Nat) : (s.setPortState d st cause).evq = s.evq := by
  have hport : ∀ (t : State) (x : Port), (if st < 2 then t else t.setPort d x).evq = t.evq := fun t x => by split_ifs <;> rfl
  unfold State.setPortState
  simp only [State.setFlag_evq, State.setFld_evq, hport]

theorem Keeps.portState {p : Nat → Prop} {s t : State} (h : Keeps p s t) {d : Nat} (hd : p (Reg.lanPortDiscOff d)) :
    t.portState d = s.portState d := h.fld hd

theorem State.port_setPort (d : Nat) (x : Port) : (s.setPort d x).port d = x := by
  rw [State.port, State.setPort, tget_tset, if_pos rfl]

theorem State.port_of_ports {s t : State} (h : t.ports = s.ports) (d : Nat) : t.port d = s.port d := by rw [State.port, h, State.port]

/-! ### Training (R221, R242) -/

/-- What training makes of a lane's state: RETIRED and LOOPBACK stay, any other trains. -/
def trainedFrom (v : Nat) : Nat := if v = 7 ∨ v = 5 then v else 1

/-- The lanes of a port begin to train. -/
def State.trainLanes (s : State) (d : Nat) : State :=
  s.each (lanesOf d) fun t n => if t.laneState n = 7 ∨ t.laneState n = 5 then t else t.setFld (Reg.lanLaneStatusState n) 1

theorem State.startTraining_eq (d : Nat) :
    s.startTraining d = (s.trainLanes d).setPort d { (s.trainLanes d).port d with training := true } := rfl

theorem onlyRegs_trainLanes (d : Nat) : OnlyRegs s (s.trainLanes d) :=
  onlyRegs_each s _ _ fun t n => by
    split_ifs
    · exact OnlyRegs.refl t
    · exact onlyRegs_setFld t _ _

/-- The registers but LAN_LANE_n_STATUS of the lanes of a port. -/
@[reducible] def besideLanes (d off : Nat) : Prop := ∀ n ∈ lanesOf d, off ≠ Reg.lanLaneStatusOff n

theorem keeps_trainLanes (d : Nat) : Keeps (besideLanes d) s (s.trainLanes d) :=
  keeps_each s _ _ fun t n hn => by
    split_ifs
    · exact .refl _ t
    · exact keeps_setFld t _ fun h => h n hn rfl

theorem keeps_startTraining (d : Nat) : Keeps (besideLanes d) s (s.startTraining d) :=
  (keeps_trainLanes s d).trans (keeps_setPort _ d _)

theorem State.trainLanes_laneState {d n : Nat} (hn : n ∈ lanesOf d) : (s.trainLanes d).laneState n = trainedFrom (s.laneState n) := by
  refine State.each_at s (fun t => t.laneState n) id trainedFrom (lanesOf d) _ (by simpa using lanesOf_nodup d) (fun t m _ hm => ?_)
    (fun t m _ hm => ?_) (by simpa using hn)
  · obtain rfl : m = n := hm
    dsimp only [trainedFrom]
    split_ifs
    · rfl
    · exact t.laneState_setFld m (by decide)
  · split_ifs
    · rfl
    · exact t.fld_setFld_off _ _ _ (lanLaneStatusOff_inj (Ne.symm hm))

theorem State.startTraining_spec (d : Nat) : ((s.startTraining d).port d).training = true
    ∧ (∀ n ∈ lanesOf d, (s.startTraining d).laneState n
        = if s.laneState n = 7 ∨ s.laneState n = 5 then s.laneState n else 1)
    ∧ s.startTraining d = { s with regs := (s.startTraining d).regs, ports := (s.startTraining d).ports } := by
  refine ⟨by rw [State.startTraining_eq, State.port_setPort], fun n hn => s.trainLanes_laneState hn, ?_⟩
  obtain ⟨r, hr⟩ := onlyRegs_trainLanes s d
  rw [State.startTraining_eq, hr]
  rfl

/-! ### The lane set of a port (R246, R247) -/

/-- The good lanes of a port put in their states, its width, its active lanes and DEGRADED. -/
def State.lanesPut (s : State) (d w : Nat) : State :=
  let idle := s.flag (Reg.lanPortStatusIdleRx d)
  ((((s.each (s.goodLanes d).zipIdx fun t x => t.setFld (Reg.lanLaneStatusState x.1) (if idle then 6 else if x.2 < w then 2 else 3)).setFld
    (Reg.lanPortStatusActiveMask d) (((s.goodLanes d).take w).foldl (fun m n => setBit m (n - firstLane d)) 0)).setFld
    (Reg.lanPortStatusWidth d) w).setFlag (Reg.lanPortStatusDegraded d) (decide (w < laneCount d)))

theorem State.setWidth_eq (d : Nat) {w : Nat} (hw : w = widthFor d (s.goodLanes d).length) : s.setWidth d
    = if s.fld (Reg.lanPortStatusWidth d) = w ∨ s.fld (Reg.lanPortStatusWidth d) = 0 then s.lanesPut d w
      else (s.lanesPut d w).ev 0x060B (dieOfDim d) d (s.fld (Reg.lanPortStatusWidth d)) w := by
  rw [hw]
  rfl

theorem onlyRegs_lanesPut (d w : Nat) : OnlyRegs s (s.lanesPut d w) :=
  (((onlyRegs_each s _ _ fun t _ => onlyRegs_setFld t _ _).trans (onlyRegs_setFld _ _ _)).trans (onlyRegs_setFld _ _ _)).trans
    (onlyRegs_setFld _ _ _)

/-- The registers but LAN_PORT_d_STATUS and LAN_LANE_n_STATUS of the lanes of a port. -/
@[reducible] def besidePort (d off : Nat) : Prop := off ≠ Reg.lanPortStatusOff d ∧ besideLanes d off

theorem keeps_setPortStatus {d : Nat} {f : Fld} (v : Nat) (h : f.off = Reg.lanPortStatusOff d) : Keeps (besidePort d) s (s.setFld f v) :=
  keeps_setFld s v fun hp => hp.1 h

theorem keeps_setPortLane {d n : Nat} (hn : n ∈ lanesOf d) {f : Fld} (v : Nat) (h : f.off = Reg.lanLaneStatusOff n) :
    Keeps (besidePort d) s (s.setFld f v) :=
  keeps_setFld s v fun hp => hp.2 n hn h

theorem keeps_lanesPut (d w : Nat) : Keeps (besidePort d) s (s.lanesPut d w) :=
  (((keeps_each s _ _ fun t _ hx => keeps_setPortLane t (State.mem_goodLanes.1 (List.fst_mem_of_mem_zipIdx hx)).1 _ rfl).trans
    (keeps_setPortStatus _ _ rfl)).trans (keeps_setPortStatus _ _ rfl)).trans (keeps_setPortStatus _ _ rfl)

theorem lanLaneStatusOff_ne_lanPortStatusOff {d n : Nat} (hd : d < 16) (hn : n ∈ lanesOf d) (e : Nat) :
    Reg.lanLaneStatusOff n ≠ Reg.lanPortStatusOff e := by
  have := lane_lt_of_mem hd hn
  simp only [Reg.lanLaneStatusOff, Reg.lanPortStatusOff]
  omega

/-- The fields of LAN_PORT_d_STATUS once the lane set is put. -/
theorem State.lanesPut_spec {d w : Nat} (hd : d < 16) (hw : w ≤ 12) : (s.lanesPut d w).fld (Reg.lanPortStatusWidth d) = w
    ∧ (s.lanesPut d w).flag (Reg.lanPortStatusDegraded d) = decide (w < laneCount d)
    ∧ ∀ g : Fld, g.off = Reg.lanPortStatusOff d → g.lo ≤ g.hi → g.hi < 3 → (s.lanesPut d w).fld g = s.fld g := by
  obtain ⟨idle, hidle⟩ : ∃ b, b = s.flag (Reg.lanPortStatusIdleRx d) := ⟨_, rfl⟩
  obtain ⟨a, ha⟩ : ∃ a, a = s.each (s.goodLanes d).zipIdx fun t x =>
      t.setFld (Reg.lanLaneStatusState x.1) (if idle then 6 else if x.2 < w then 2 else 3) := ⟨_, rfl⟩
  have hlanes : ∀ g : Fld, g.off = Reg.lanPortStatusOff d → a.fld g = s.fld g := fun g hg => by
    have hkeep : Keeps (· = Reg.lanPortStatusOff d) s a := by
      rw [ha]
      exact keeps_each s _ _ fun t _ hx => keeps_setFld t _
        (lanLaneStatusOff_ne_lanPortStatusOff hd (State.mem_goodLanes.1 (List.fst_mem_of_mem_zipIdx hx)).1 d)
    exact hkeep.fld hg
  have he : s.lanesPut d w = ((a.setFld (Reg.lanPortStatusActiveMask d)
      (((s.goodLanes d).take w).foldl (fun m n => setBit m (n - firstLane d)) 0)).setFld
      (Reg.lanPortStatusWidth d) w).setFlag (Reg.lanPortStatusDegraded d) (decide (w < laneCount d)) := by
    rw [ha, hidle]
    rfl
  rw [he]
  refine ⟨?_, State.flag_setFlag _ _ _ (by simp [Reg.lanPortStatusDegraded]) (by simp [Reg.lanPortStatusDegraded]),
    fun g hg hlo hhi => ?_⟩
  · rw [State.setFlag, State.fld_setFld_apart _ _ _ _ (by simp [apart, Reg.lanPortStatusDegraded, Reg.lanPortStatusWidth]),
      State.fld_setFld _ _ _ (by simp [Reg.lanPortStatusWidth]) (by simp [Reg.lanPortStatusWidth])]
    exact Nat.mod_eq_of_lt (hw.trans_lt (by simp [Fld.width, Reg.lanPortStatusWidth]))
  · rw [State.setFlag, State.fld_setFld_bits _ _ _ _ (by simp [Reg.lanPortStatusDegraded]) (by simp [Reg.lanPortStatusDegraded]) hlo
        (.inl hhi),
      State.fld_setFld_bits _ _ _ _ (by simp [Reg.lanPortStatusWidth]) (by simp [Reg.lanPortStatusWidth]) hlo
        (.inl (by simp only [Reg.lanPortStatusWidth]; omega)),
      State.fld_setFld_bits _ _ _ _ (by simp [Reg.lanPortStatusActiveMask]) (by simp [Reg.lanPortStatusActiveMask]) hlo
        (.inl (by simp only [Reg.lanPortStatusActiveMask]; omega))]
    exact hlanes g hg

/-- In a port that is not idle, with all its good lanes within the width, they are ACTIVE. -/
theorem State.lanesPut_active {d w n : Nat} (hd : d < 16) (hidle : s.flag (Reg.lanPortStatusIdleRx d) = false)
    (hw : (s.goodLanes d).length ≤ w) (hn : n ∈ s.goodLanes d) : (s.lanesPut d w).laneState n = 2 := by
  have hstatus : ∀ (t : State) (f : Fld) (v : Nat), f.off = Reg.lanPortStatusOff d → (t.setFld f v).laneState n = t.laneState n :=
    fun t f v hf => t.fld_setFld_off _ _ _ (by
      rw [hf]
      exact lanLaneStatusOff_ne_lanPortStatusOff hd (State.mem_goodLanes.1 hn).1 d)
  unfold State.lanesPut
  dsimp only
  rw [State.setFlag, hstatus _ _ _ rfl, hstatus _ _ _ rfl, hstatus _ _ _ rfl]
  refine State.each_at s (fun t => t.laneState n) Prod.fst (fun _ => 2) (n := n) _ _ ?_ (fun t x hx hk => ?_) (fun t x _ hk => ?_) ?_
  · rw [List.zipIdx_map_fst]
    exact State.goodLanes_nodup d
  · have hlt := List.snd_lt_of_mem_zipIdx hx
    subst hk
    rw [hidle, if_neg (by simp), if_pos (by omega)]
    exact t.laneState_setFld _ (by decide)
  · exact t.fld_setFld_off _ _ _ (lanLaneStatusOff_inj (Ne.symm hk))
  · rwa [List.zipIdx_map_fst]

/-! ### The loss of a link (R249) -/

/-- The registers that no scan writes but LAN_PORT_d_STATUS and LAN_LANE_n_STATUS of the lanes of a port. -/
@[reducible] def besideLink (d off : Nat) : Prop := apartScans off ∧ besidePort d off

theorem keeps_unlink (d : Nat) : Keeps (besideLink d) s (s.unlink d) := by
  have hlane : ∀ t : State, ∀ n ∈ s.goodLanes d, Keeps (besideLink d) t
      (((t.endScan n).setFld (Reg.lanLaneStatusState n) 0).setFlag (Reg.lanLaneStatusMarkerLock n) false) := fun t n hn =>
    (((keeps_endScan t n).mono fun _ h => h.1).trans ((keeps_setPortLane _ (State.mem_goodLanes.1 hn).1 _ rfl).mono fun _ h => h.2)).trans
      ((keeps_setPortLane _ (State.mem_goodLanes.1 hn).1 _ rfl).mono fun _ h => h.2)
  exact (keeps_each s _ _ hlane).trans (keeps_setReg _ _ fun h => h.2.1 rfl)

theorem State.unlink_status (d : Nat) : (s.unlink d).reg (Reg.lanPortStatusOff d) = 0 := State.reg_setReg_same _ _ _

/-- What is left of a port's link once the port is DARK. -/
def State.linkGone (s : State) (d : Nat) : State :=
  let t := s.leaveUp d
  ((t.setPort d { left := (t.port d).left }).dropCredits d).retime

theorem keeps_linkGone (d : Nat) : Keeps belowTime s (s.linkGone d) :=
  ((((keeps_leaveUp s d).mono fun _ h => h.1).trans (keeps_setPort _ d _)).trans (keeps_dropCredits _ d)).trans (keeps_retime _)

theorem State.linkLost_up {d : Nat} (cause : Nat) (hstate : s.portState d = 2) (hlink : s.flag (Reg.lanPortStatusLink d) = true) :
    s.linkLost d cause = ((((((s.bump (Reg.lanPortLinkLossesCount d)).ev 0x060C (dieOfDim d) d cause (s.port d).replays).unlink
      d).headerFound d).setPortState d 3 0).ev 0x0602 (dieOfDim d) d 2 0).linkGone d := by
  rw [State.linkLost]
  simp only [hlink, hstate, not_true_eq_false, false_and, if_false, if_true]
  rfl

/-- An UP port whose link is lost is DARK, and the loss is counted. -/
theorem State.linkLost_spec {d : Nat} (cause : Nat) (hd : d < 16) (hstate : s.portState d = 2)
    (hlink : s.flag (Reg.lanPortStatusLink d) = true) :
    (s.linkLost d cause).portState d = 3 ∧ (s.linkLost d cause).flag (Reg.lanPortStatusLink d) = false
      ∧ (s.linkLost d cause).fld (Reg.lanPortLinkLossesCount d) = min (s.fld (Reg.lanPortLinkLossesCount d) + 1) (2 ^ 32 - 1)
      ∧ (s.linkLost d cause).mem = s.mem := by
  obtain ⟨a, ha⟩ : ∃ a, a = s.bump (Reg.lanPortLinkLossesCount d) := ⟨_, rfl⟩
  obtain ⟨b, hb⟩ : ∃ b, b = a.ev 0x060C (dieOfDim d) d cause (s.port d).replays := ⟨_, rfl⟩
  obtain ⟨c, hc⟩ : ∃ c, c = (b.unlink d).headerFound d := ⟨_, rfl⟩
  obtain ⟨e, he⟩ : ∃ e, e = c.setPortState d 3 0 := ⟨_, rfl⟩
  have hrest : Keeps belowTime e (s.linkLost d cause) := by
    rw [s.linkLost_up cause hstate hlink, ← ha, ← hb, ← hc, ← he]
    exact (keeps_ev e _ _ _ _ _ evRegs_not_belowTime).trans (keeps_linkGone _ d)
  have hstateKept : Keeps (besidePortState d) c e := he ▸ keeps_setPortState c d 3 0
  have hheader : Keeps belowRouting (b.unlink d) c := hc ▸ keeps_headerFound _ d
  have hunlink : Keeps (besideLink d) b (b.unlink d) := keeps_unlink b d
  have hevent : Keeps apartScans a b := hb ▸ keeps_ev a _ _ _ _ _ evRegs_not_apartScans
  have hstatus : belowTime (Reg.lanPortStatusOff d) ∧ besidePortState d (Reg.lanPortStatusOff d) := by
    simp only [belowTime, belowRouting, besidePortState, Reg.lanPortStatusOff, Reg.rtrCtrlOff, Reg.lanTimeStatusOff, Reg.lanPortDiscOff,
      Reg.lanDiscStatusOff]
    omega
  have hlosses : belowTime (Reg.lanPortLinkLossesOff d) ∧ besidePortState d (Reg.lanPortLinkLossesOff d)
      ∧ besideLink d (Reg.lanPortLinkLossesOff d) := by
    refine ⟨?_, ?_, lanPortLinkLossesOff_apartScans hd, ?_, fun n hn => ?_⟩
    · simp only [belowTime, belowRouting, Reg.lanPortLinkLossesOff, Reg.rtrCtrlOff, Reg.lanTimeStatusOff]
      omega
    · simp only [besidePortState, Reg.lanPortLinkLossesOff, Reg.lanPortDiscOff, Reg.lanDiscStatusOff]
      omega
    · simp only [Reg.lanPortLinkLossesOff, Reg.lanPortStatusOff]
      omega
    · have := lane_lt_of_mem hd hn
      simp only [Reg.lanPortLinkLossesOff, Reg.lanLaneStatusOff]
      omega
  refine ⟨?_, ?_, ?_, ?_⟩
  · rw [hrest.portState, he, (c.setPortState_spec d (by decide) (by decide)).1]
    simp only [belowTime, belowRouting, Reg.lanPortDiscOff, Reg.rtrCtrlOff, Reg.lanTimeStatusOff]
    omega
  · rw [hrest.flag hstatus.1, hstateKept.flag hstatus.2, hheader.flag hstatus.1.1, State.flag, State.fld]
    have hzero := b.unlink_status d
    rw [show (Reg.lanPortStatusLink d).off = Reg.lanPortStatusOff d from rfl, hzero]
    simp [bits]
  · rw [hrest.fld hlosses.1, hstateKept.fld hlosses.2.1, hheader.fld hlosses.1.1, hunlink.fld hlosses.2.2, hevent.fld hlosses.2.2.1, ha,
      s.fld_bump _ (by simp [Reg.lanPortLinkLossesCount]) (by simp [Reg.lanPortLinkLossesCount])]
    rfl
  · rw [hrest.mem, hstateKept.mem, hheader.mem, hunlink.mem, hevent.mem, ha, State.bump_mem]

/-! ### Lanes dropped and lanes back (R245 to R248) -/

/-- While the good lanes of a port keep a width its link stays, and the new set applies from the next period. -/
theorem State.laneChange_spec {d : Nat} (hw : widthFor d (s.goodLanes d).length ≠ 0) {p : Nat → Prop} : Keeps p s (s.laneChange d)
    ∧ (s.flag (Reg.lanPortStatusLink d) = true → ((s.laneChange d).port d).change = true) := by
  unfold State.laneChange
  by_cases hlink : s.flag (Reg.lanPortStatusLink d) = true
  · rw [if_neg (by simpa using hlink), if_neg hw]
    exact ⟨keeps_setPort s d _, fun _ => by rw [State.port_setPort]⟩
  · rw [if_pos hlink]
    exact ⟨.refl p s, fun h => absurd h hlink⟩

/-- One lane of a port dropped for a cause. -/
theorem State.dropLanes_one {n cause : Nat} (d : Nat) (h : s.mayDrop n cause = true) : s.dropLanes d [(n, cause)]
    = (State.setPort ((s.takeOut n).ev 0x0609 (dieOfDim d) d n cause) d
        { ((s.takeOut n).ev 0x0609 (dieOfDim d) d n cause).port d with
          report := (((s.takeOut n).ev 0x0609 (dieOfDim d) d n cause).port d).report ++ [n - firstLane d] }).laneChange d := by
  have hf : [(n, cause)].filter (fun x => s.mayDrop x.1 x.2) = [(n, cause)] := by simp [h]
  rw [State.dropLanes, hf]
  rfl

theorem State.dropLanes_spec {n cause d : Nat} (hn : n < 112) (hd : d = portOfLane n) (hmay : s.laneGood n = true)
    (hw : widthFor d ((s.goodLanes d).length - 1) ≠ 0) (hroom : s.room 2 = true) :
    (s.dropLanes d [(n, cause)]).fld (Reg.lanLaneStatusDrops n) = min 255 (s.fld (Reg.lanLaneStatusDrops n) + 1)
      ∧ (s.dropLanes d [(n, cause)]).laneState n = (if 3 ≤ min 255 (s.fld (Reg.lanLaneStatusDrops n) + 1) then 7 else 4)
      ∧ (s.dropLanes d [(n, cause)]).hasEvent 0x0609 (dieOfDim d) d n cause
      ∧ (s.flag (Reg.lanPortStatusLink d) = true → ((s.dropLanes d [(n, cause)]).port d).change = true)
      ∧ (s.dropLanes d [(n, cause)]).mem = s.mem := by
  have hdlt : d < 16 := hd ▸ portOfLane_lt hn
  obtain ⟨a, ha⟩ : ∃ a, a = (s.takeOut n).ev 0x0609 (dieOfDim d) d n cause := ⟨_, rfl⟩
  obtain ⟨b, hb⟩ : ∃ b, b = a.setPort d { a.port d with report := (a.port d).report ++ [n - firstLane d] } := ⟨_, rfl⟩
  have hevent : Keeps apartScans (s.takeOut n) b := by
    rw [hb, ha]
    exact (keeps_ev _ _ _ _ _ _ evRegs_not_apartScans).trans (keeps_setPort _ d _)
  have hlane : Reg.lanLaneStatusOff n ≠ Reg.lanPortStatusOff d :=
    lanLaneStatusOff_ne_lanPortStatusOff hdlt (hd ▸ mem_lanesOf_portOfLane hn) d
  have hgood : b.goodLanes d = (s.goodLanes d).filter (· ≠ n) := by
    rw [State.goodLanes_congr fun m hm => hevent.laneState (lanLaneStatusOff_apartScans (lane_lt_of_mem hdlt hm)),
      s.takeOut_goodLanes hdlt]
  have hlen : (b.goodLanes d).length = (s.goodLanes d).length - 1 := by
    rw [hgood, length_filter_ne (State.goodLanes_nodup d) (State.mem_goodLanes.2 ⟨hd ▸ mem_lanesOf_portOfLane hn, hmay⟩)]
  have hdrop : s.dropLanes d [(n, cause)] = b.laneChange d := by
    rw [s.dropLanes_one d (by rw [State.mayDrop, hmay, Bool.true_or]), hb, ha]
  obtain ⟨hkeep, hchange⟩ := b.laneChange_spec (hlen ▸ hw) (p := apartScans)
  have hchanged := hevent.trans hkeep
  obtain ⟨hdrops, hstate, -⟩ := s.takeOut_spec n
  have hapart := lanLaneStatusOff_apartScans hn
  rw [hdrop]
  refine ⟨(hchanged.fld hapart).trans hdrops, (hchanged.laneState hapart).trans hstate, hkeep.events ?_, fun hlink => hchange ?_,
    hchanged.mem.trans (keeps_takeOut s n).mem⟩
  · rw [hb, ha]
    exact (keeps_setPort (p := apartScans) _ d _).events (State.hasEvent_ev _ _ _ _ _ _ (s.room_takeOut n hroom))
  · rw [hevent.flag (lanPortStatusOff_apartScans hdlt), (keeps_takeOut s n).flag ⟨lanPortStatusOff_apartScans hdlt, hlane.symm⟩, hlink]

end Sys2Proof.Machine
end

section
/-! Links train: how training begins, and its end in parts (R219, R221, R240, R242 to R244). -/

namespace Sys2Proof.Machine

/-! ### Training begins (R219, R221) -/

section
variable {s : State} {d : Nat} (hp : s.powered = true) (hd : d < 16) (hmay : s.mayTrain d = true)
include hp hd hmay

theorem pllLock_trains (hlink : s.flag (Reg.lanPortStatusLink d) = false) : ∃ t, exec (.pllLock d) s = .next t
    ∧ (t.port d).training = true
    ∧ (∀ n ∈ lanesOf d, t.laneState n = (if s.laneState n = 7 ∨ s.laneState n = 5 then s.laneState n else 1))
    ∧ t = { s with regs := t.regs, ports := t.ports } := by
  have e : exec (.pllLock d) s = execPllLock d s := rfl
  rw [e, execPllLock, s.does_powered _ hp, if_pos ⟨hd, by simp [hlink], hmay⟩]
  exact ⟨_, rfl, s.startTraining_spec d⟩

theorem darkRetry_trains (hstate : s.portState d = 3) : ∃ t, exec (.darkRetry d) s = .next t
    ∧ (t.port d).training = true
    ∧ (∀ n ∈ lanesOf d, t.laneState n = (if s.laneState n = 7 ∨ s.laneState n = 5 then s.laneState n else 1))
    ∧ t = { s with regs := t.regs, ports := t.ports } := by
  have e : exec (.darkRetry d) s = execDarkRetry d s := rfl
  rw [e, execDarkRetry, s.does_powered _ hp, if_pos ⟨hd, hstate, hmay⟩]
  exact ⟨_, rfl, s.startTraining_spec d⟩

end

/-! ### A link has trained (R240, R242 to R244) -/

section
variable (s : State)

/-- A lane that trained: STANDBY, locked, with what its training found. -/
def State.laneTrained (t : State) (d ms free : Nat) (saved : Bool) (n : Nat) : State :=
  ((((t.setFld (Reg.lanLaneStatusState n) 3).setFlag (Reg.lanLaneStatusMarkerLock n) true).setFld (Reg.lanLaneStatusPolarityInv n)
    (Config.freeValue free / 2 ^ (n - firstLane d))).setFlag (Reg.lanLaneTrainSavedUsed n) saved).setFld (Reg.lanLaneTrainTimeMs n)
    (min ms 65535)

/-- The lanes of a port after training: those in `ok` trained, those in `bad` are out; the port begins anew. -/
def State.lanesTrained (s : State) (d ms : Nat) (saved : Bool) (ok bad : List Nat) : State :=
  let t := (s.each ok fun t n => t.laneTrained d ms s.free saved n).fresh.each bad fun t n =>
    (t.takeOut n).ev 0x0609 (dieOfDim d) d n 5
  t.setPort d { left := (t.port d).left }

/-- What LAN_PORT_d_STATUS and LAN_PORT_d_SKEW show of a link that trained at a width. -/
def State.linkShown (s : State) (d skew : Nat) (asym : Int) (saved : Bool) : State :=
  ((((s.dropCredits d).setReg (Reg.lanPortStatusOff d) 0).setFlag (Reg.lanPortStatusSavedUsed d) saved).setFld
    (Reg.lanPortSkewAsymmetry d) (ucode 16 asym)).setFld (Reg.lanPortSkewSkew d) (min skew 65535)

/-- A link that trained at a width, with event 0x060E. -/
def State.linkSet (s : State) (d w ms skew : Nat) (asym : Int) (saved : Bool) : State :=
  (s.linkShown d skew asym saved).ev 0x060E (dieOfDim d) d w (min ms (2 ^ 31 - 1) + b2n saved * 2 ^ 31)

/-- A port with the keys of its two directions, drawn from the two values that come next. -/
def State.drawKeys (s : State) (d : Nat) (keys : Nat × Nat) : State :=
  let t := s.fresh.fresh
  t.setPort d { t.port d with keys := keys }

/-- A link that is keyed, with its lane set. -/
def State.linkKeyed (s : State) (d : Nat) : State :=
  (((s.setWidth d).setFlag (Reg.lanPortStatusLink d) true).setFlag (Reg.lanPortStatusEncrypted d) true).drawKeys d
    (Config.freeValue s.free % 2 ^ 128, Config.freeValue (s.free + 1) % 2 ^ 128)

/-- The exchange of identities begins on a port. -/
def State.exchangeBegun (s : State) (d : Nat) : State := (s.setReg (Reg.lanPortDiscOff d) 0).setPortState d 1 0

/-- Training in its parts. -/
theorem State.trained_eq {d good ms keyFail skew : Nat} {asym : Int} {saved used : Bool} {ok bad : List Nat} {x y : State}
    (hd : d < 16) (htrain : (s.port d).training = true) (hused : used = (saved && s.settingsFit d))
    (hok : ok = ((lanesOf d).filter fun n => ! [4, 5, 7].contains (s.laneState n)).filter fun n => bit good (n - firstLane d))
    (hbad : bad = ((lanesOf d).filter fun n => ! [4, 5, 7].contains (s.laneState n)).filter fun n => ! bit good (n - firstLane d))
    (hw : widthFor d ok.length ≠ 0) (hheld : ¬ (s.portState d = 4 ∨ s.portState d = 5))
    (hx : x = (s.lanesTrained d ms used ok bad).linkSet d (widthFor d ok.length) ms skew asym used)
    (hkey : (decide (keyFail = 0) && ! (x.flag Reg.secStatusMonitorMismatch || x.fld Reg.secStatusRngFault == 3)) = true)
    (hy : y = (x.linkKeyed d).exchangeBegun d) (hplan : bit (y.fld Reg.lanPlanIdNone) d = false) :
    s.trained d good ms keyFail skew asym saved = y := by
  have he : s.trained d good ms keyFail skew asym saved = if 16 ≤ d ∨ ¬ (s.port d).training then s
      else if widthFor d ok.length = 0 then s.lanesTrained d ms used ok bad
      else
        let z := if (decide (keyFail = 0) && ! (x.flag Reg.secStatusMonitorMismatch || x.fld Reg.secStatusRngFault == 3))
          then x.linkKeyed d
          else x.ev 0x060D (dieOfDim d) d (if x.flag Reg.secStatusMonitorMismatch || x.fld Reg.secStatusRngFault == 3 then 3 else keyFail) 0
        if s.portState d = 4 ∨ s.portState d = 5 then z
        else if bit ((z.exchangeBegun d).fld Reg.lanPlanIdNone) d then (z.exchangeBegun d).quarantine d 1 else z.exchangeBegun d := by
    subst hx hok hbad hused
    rfl
  rw [he, if_neg (by simp [htrain, hd]), if_neg hw, hkey, if_pos rfl]
  dsimp only
  rw [if_neg hheld, ← hy, hplan, if_neg (by simp)]

end

end Sys2Proof.Machine
end

section
/-! SUPPORT. A link that has trained on all its lanes (R240, R242 to R244). -/

namespace Sys2Proof.Machine

section
variable (s : State)

/-- The registers that no event writes but those of a port's link and lanes that training writes. -/
@[reducible] def besideTraining (d off : Nat) : Prop :=
  off ∉ evRegs ∧ off ≠ Reg.lanPortSkewOff d ∧ besidePort d off ∧ ∀ n ∈ lanesOf d, off ≠ Reg.lanLaneTrainOff n

theorem evRegs_not_besideTraining (d : Nat) : ∀ off ∈ evRegs, ¬ besideTraining d off := fun _ ho h => h.1 ho

theorem onlyRegs_laneTrained (d ms free : Nat) (saved : Bool) (n : Nat) : OnlyRegs s (s.laneTrained d ms free saved n) :=
  ((((onlyRegs_setFld s _ _).trans (onlyRegs_setFld _ _ _)).trans (onlyRegs_setFld _ _ _)).trans (onlyRegs_setFld _ _ _)).trans
    (onlyRegs_setFld _ _ _)

theorem keeps_laneTrained {p : Nat → Prop} (d ms free : Nat) (saved : Bool) (n : Nat) (hstatus : ¬ p (Reg.lanLaneStatusOff n))
    (htrain : ¬ p (Reg.lanLaneTrainOff n)) : Keeps p s (s.laneTrained d ms free saved n) :=
  ((((keeps_setFld s _ hstatus).trans (keeps_setFlag _ _ hstatus)).trans (keeps_setFld _ _ hstatus)).trans
    (keeps_setFlag _ _ htrain)).trans (keeps_setFld _ _ htrain)

theorem State.laneTrained_laneState (d ms free : Nat) (saved : Bool) (n : Nat) : (s.laneTrained d ms free saved n).laneState n = 3 := by
  have hother : ∀ (t : State) (f : Fld) (v : Nat), apart f (Reg.lanLaneStatusState n) = true →
      (t.setFld f v).laneState n = t.laneState n := fun t f v hf => t.fld_setFld_apart f _ v hf
  have htrain : ∀ f : Fld, f.off = Reg.lanLaneTrainOff n → apart f (Reg.lanLaneStatusState n) = true := fun f hf => by
    simp only [apart, hf, Reg.lanLaneTrainOff, Reg.lanLaneStatusState, Bool.or_eq_true, bne_iff_ne]
    omega
  rw [State.laneTrained, hother _ _ _ (htrain _ rfl), State.setFlag, hother _ _ _ (htrain _ rfl),
    hother _ _ _ (by simp [apart, Reg.lanLaneStatusPolarityInv, Reg.lanLaneStatusState]), State.setFlag,
    hother _ _ _ (by simp [apart, Reg.lanLaneStatusMarkerLock, Reg.lanLaneStatusState])]
  exact s.laneState_setFld n (by decide)

theorem laneTrained_laneState_ne (d ms free : Nat) (saved : Bool) {m n : Nat} (h : m ≠ n) :
    (s.laneTrained d ms free saved m).laneState n = s.laneState n :=
  (keeps_laneTrained (p := (· = Reg.lanLaneStatusOff n)) s d ms free saved m (lanLaneStatusOff_inj h) (by
    simp only [Reg.lanLaneTrainOff, Reg.lanLaneStatusOff]
    omega)).laneState rfl

/-- Training on all lanes of a port changes registers, the port, and how many values are free. -/
theorem State.lanesTrained_all (d ms : Nat) (saved : Bool) : Keeps (besideTraining d) s (s.lanesTrained d ms saved (lanesOf d) [])
    ∧ (s.lanesTrained d ms saved (lanesOf d) []).evq = s.evq ∧ ((s.lanesTrained d ms saved (lanesOf d) []).port d).training = false
    ∧ ∀ n ∈ lanesOf d, (s.lanesTrained d ms saved (lanesOf d) []).laneState n = 3 := by
  obtain ⟨t, ht⟩ : ∃ t, t = s.each (lanesOf d) fun t n => t.laneTrained d ms s.free saved n := ⟨_, rfl⟩
  have he : s.lanesTrained d ms saved (lanesOf d) [] = t.fresh.setPort d { left := (t.fresh.port d).left } := by
    rw [ht]
    rfl
  have hkeep : Keeps (besideTraining d) s t := by
    rw [ht]
    exact keeps_each s _ _ fun t n hn => keeps_laneTrained t _ _ _ _ n (fun h => h.2.2.1.2 n hn rfl) fun h => h.2.2.2 n hn rfl
  have hregs : OnlyRegs s t := by
    rw [ht]
    exact onlyRegs_each s _ _ fun t n => onlyRegs_laneTrained t _ _ _ _ n
  rw [he]
  refine ⟨hkeep.trans (keeps_beside rfl rfl rfl), hregs.evq, by rw [State.port_setPort], fun n hn => ?_⟩
  have hlane : t.laneState n = 3 := by
    rw [ht]
    refine State.each_at s (fun t => t.laneState n) id (fun _ => 3) (lanesOf d) _ (by simpa using lanesOf_nodup d) (fun t m _ hm => ?_)
      (fun t m _ hm => laneTrained_laneState_ne t _ _ _ _ hm) (by simpa using hn)
    obtain rfl : m = n := hm
    exact t.laneTrained_laneState _ _ _ _ m
  exact (State.laneState_of_regs (s := t) rfl n).trans hlane

/-! ### What is shown of the link -/

theorem onlyRegs_linkShown (d skew : Nat) (asym : Int) (saved : Bool) : OnlyRegs (s.dropCredits d) (s.linkShown d skew asym saved) :=
  (((onlyRegs_setReg _ _ _).trans (onlyRegs_setFld _ _ _)).trans (onlyRegs_setFld _ _ _)).trans (onlyRegs_setFld _ _ _)

theorem State.linkShown_evq (d skew : Nat) (asym : Int) (saved : Bool) : (s.linkShown d skew asym saved).evq = s.evq :=
  (onlyRegs_linkShown s d skew asym saved).evq

theorem State.linkShown_ports (d skew : Nat) (asym : Int) (saved : Bool) : (s.linkShown d skew asym saved).ports = s.ports :=
  (onlyRegs_linkShown s d skew asym saved).ports

theorem keeps_linkShown {p : Nat → Prop} (d skew : Nat) (asym : Int) (saved : Bool) (hstatus : ¬ p (Reg.lanPortStatusOff d))
    (hskew : ¬ p (Reg.lanPortSkewOff d)) : Keeps p s (s.linkShown d skew asym saved) :=
  ((((keeps_dropCredits s d).trans (keeps_setReg _ _ hstatus)).trans (keeps_setFlag _ _ hstatus)).trans (keeps_setFld _ _ hskew)).trans
    (keeps_setFld _ _ hskew)

/-- LAN_PORT_d_STATUS is all zero but SAVED_USED. -/
theorem State.linkShown_status (d skew : Nat) (asym : Int) (saved : Bool) :
    (s.linkShown d skew asym saved).flag (Reg.lanPortStatusSavedUsed d) = saved
      ∧ ∀ g : Fld, g.off = Reg.lanPortStatusOff d → g.lo ≤ g.hi → 1 < g.lo → (s.linkShown d skew asym saved).fld g = 0 := by
  obtain ⟨t, ht⟩ : ∃ t, t = (s.dropCredits d).setReg (Reg.lanPortStatusOff d) 0 := ⟨_, rfl⟩
  have hskew : ∀ g : Fld, g.off = Reg.lanPortStatusOff d →
      (s.linkShown d skew asym saved).fld g = (t.setFlag (Reg.lanPortStatusSavedUsed d) saved).fld g := fun g hg => by
    have hne : g.off ≠ Reg.lanPortSkewOff d := by
      rw [hg]
      simp only [Reg.lanPortStatusOff, Reg.lanPortSkewOff]
      omega
    rw [ht]
    exact (State.fld_setFld_off _ _ _ _ hne).trans (State.fld_setFld_off _ _ _ _ hne)
  refine ⟨?_, fun g hg hlo hhi => ?_⟩
  · rw [State.flag, hskew _ rfl]
    exact t.flag_setFlag _ _ (by simp [Reg.lanPortStatusSavedUsed]) (by simp [Reg.lanPortStatusSavedUsed])
  · rw [hskew g hg, State.setFlag, State.fld_setFld_bits _ _ _ _ (by simp [Reg.lanPortStatusSavedUsed])
      (by simp [Reg.lanPortStatusSavedUsed]) hlo (.inr hhi), ht, State.fld, hg, State.reg_setReg_same]
    simp [bits]

theorem evRegs_ne_lanPortStatusOff (d : Nat) : Reg.lanPortStatusOff d ∉ evRegs := by
  simp only [evRegs, Reg.lanPortStatusOff, Reg.evrDroppedCount, Reg.evrQueueHwmF0, List.mem_cons, List.not_mem_nil, or_false]
  omega

/-! ### The link keyed, and the exchange of identities begun -/

theorem keeps_drawKeys {p : Nat → Prop} (d : Nat) (keys : Nat × Nat) : Keeps p s (s.drawKeys d keys) := keeps_beside rfl rfl rfl

theorem State.drawKeys_port (d : Nat) (keys : Nat × Nat) : (s.drawKeys d keys).port d = { s.port d with keys := keys } :=
  State.port_setPort _ d _

theorem keeps_linkKeyed (d : Nat) : Keeps (besideTraining d) s (s.linkKeyed d) := by
  have hwidth : Keeps (besideTraining d) s (s.setWidth d) := by
    rw [s.setWidth_eq d rfl]
    split_ifs
    · exact (keeps_lanesPut s d _).mono fun _ h => h.2.2.1
    · exact ((keeps_lanesPut s d _).mono fun _ h => h.2.2.1).trans (keeps_ev _ _ _ _ _ _ (evRegs_not_besideTraining d))
  have hstatus : ¬ besideTraining d (Reg.lanPortStatusOff d) := fun h => h.2.2.1.1 rfl
  exact ((hwidth.trans (keeps_setFlag _ _ hstatus)).trans (keeps_setFlag _ _ hstatus)).trans (keeps_drawKeys _ d _)

/-- A port whose lanes are all good, and that shows no width yet, at full width once it is keyed. -/
theorem State.linkKeyed_spec {d : Nat} (hd : d < 16) (hgood : s.goodLanes d = lanesOf d) (hzero : s.fld (Reg.lanPortStatusWidth d) = 0)
    (hidle : s.flag (Reg.lanPortStatusIdleRx d) = false) : (s.linkKeyed d).flag (Reg.lanPortStatusLink d) = true
      ∧ (s.linkKeyed d).flag (Reg.lanPortStatusEncrypted d) = true ∧ (s.linkKeyed d).fld (Reg.lanPortStatusWidth d) = laneCount d
      ∧ (∀ n ∈ lanesOf d, (s.linkKeyed d).laneState n = 2) ∧ ((s.linkKeyed d).port d).training = (s.port d).training
      ∧ (s.linkKeyed d).flag (Reg.lanPortStatusSavedUsed d) = s.flag (Reg.lanPortStatusSavedUsed d) := by
  obtain ⟨w, hw⟩ : ∃ w, w = laneCount d := ⟨_, rfl⟩
  obtain ⟨a, ha⟩ : ∃ a, a = s.lanesPut d w := ⟨_, rfl⟩
  have hset : s.setWidth d = a := by
    rw [s.setWidth_eq d (w := w) (by rw [hgood, lanesOf_length, widthFor_laneCount, hw]), if_pos (.inr hzero), ha]
  obtain ⟨b, hb⟩ : ∃ b, b = (a.setFlag (Reg.lanPortStatusLink d) true).setFlag (Reg.lanPortStatusEncrypted d) true := ⟨_, rfl⟩
  have hkeyed : ∀ g : Fld, (s.linkKeyed d).fld g = b.fld g := fun g => by
    rw [hb, ← hset]
    exact (keeps_drawKeys (p := fun _ => True) _ d _).fld trivial
  have hport : ((s.linkKeyed d).port d).training = (b.port d).training := by
    rw [State.linkKeyed, hset, ← hb, State.drawKeys_port]
  have hwle : w ≤ 12 := by
    rw [hw, ← widthFor_laneCount]
    exact widthFor_le d _
  obtain ⟨hwidth, -, hlow⟩ := s.lanesPut_spec hd hwle
  have hstatus : ∀ (t : State) (f : Fld) (v n : Nat), f.off = Reg.lanPortStatusOff d → n ∈ lanesOf d →
      (t.setFld f v).laneState n = t.laneState n := fun t f v n hf hn =>
    t.fld_setFld_off _ _ _ (by rw [hf]; exact lanLaneStatusOff_ne_lanPortStatusOff hd hn d)
  refine ⟨?_, ?_, ?_, fun n hn => ?_, ?_, ?_⟩
  · rw [State.flag, hkeyed, ← State.flag, hb, State.setFlag, State.flag, State.fld_setFld_apart _ _ _ _
      (by simp [apart, Reg.lanPortStatusEncrypted, Reg.lanPortStatusLink]), ← State.flag]
    exact State.flag_setFlag _ _ _ (by simp [Reg.lanPortStatusLink]) (by simp [Reg.lanPortStatusLink])
  · rw [State.flag, hkeyed, ← State.flag, hb]
    exact State.flag_setFlag _ _ _ (by simp [Reg.lanPortStatusEncrypted]) (by simp [Reg.lanPortStatusEncrypted])
  · rw [hkeyed, hb, State.setFlag, State.fld_setFld_apart _ _ _ _ (by simp [apart, Reg.lanPortStatusEncrypted, Reg.lanPortStatusWidth]),
      State.setFlag, State.fld_setFld_apart _ _ _ _ (by simp [apart, Reg.lanPortStatusLink, Reg.lanPortStatusWidth]), ha, hwidth, hw]
  · rw [State.laneState, hkeyed, ← State.laneState, hb, State.setFlag, hstatus _ _ _ _ rfl hn, State.setFlag, hstatus _ _ _ _ rfl hn, ha]
    exact s.lanesPut_active hd hidle (by rw [hgood, lanesOf_length, hw]) (by rwa [hgood])
  · rw [hport, hb, ha]
    exact congrArg Port.training (State.port_of_ports (((onlyRegs_lanesPut s d w).trans (onlyRegs_setFld _ _ _)).trans
      (onlyRegs_setFld _ _ _)).ports d)
  · rw [State.flag, hkeyed, hb, State.setFlag, State.fld_setFld_apart _ _ _ _
      (by simp [apart, Reg.lanPortStatusEncrypted, Reg.lanPortStatusSavedUsed]), State.setFlag, State.fld_setFld_apart _ _ _ _
      (by simp [apart, Reg.lanPortStatusLink, Reg.lanPortStatusSavedUsed]), ha,
      hlow _ rfl (by simp [Reg.lanPortStatusSavedUsed]) (by simp [Reg.lanPortStatusSavedUsed]), State.flag]

/-- The exchange of identities begun leaves the link. -/
theorem keeps_exchangeBegun (d : Nat) : Keeps (besidePortState d) s (s.exchangeBegun d) :=
  (keeps_setReg s _ fun h => h.1 rfl).trans (keeps_setPortState _ d 1 0)

theorem State.exchangeBegun_ports (d : Nat) : (s.exchangeBegun d).ports = s.ports := by
  rw [State.exchangeBegun, State.setPortState, if_pos (by decide)]
  simp only [State.setFlag_ports, State.setFld_ports, State.setReg_ports]

end

/-! ### LINK_TRAINED -/

section
variable {s : State} {d good ms skew : Nat} {asym : Int} {saved : Bool}

/-- A link that trained on all its lanes, before it is keyed. -/
theorem State.linkSet_all {x : State} (hd : d < 16) (hroom : s.room 1 = true)
    (hx : x = (s.lanesTrained d ms saved (lanesOf d) []).linkSet d (laneCount d) ms skew asym saved) :
    Keeps (besideTraining d) s x ∧ x.goodLanes d = lanesOf d ∧ x.fld (Reg.lanPortStatusWidth d) = 0
      ∧ x.flag (Reg.lanPortStatusIdleRx d) = false ∧ x.flag (Reg.lanPortStatusSavedUsed d) = saved ∧ (x.port d).training = false
      ∧ x.hasEvent 0x060E (dieOfDim d) d (laneCount d) (min ms (2 ^ 31 - 1) + b2n saved * 2 ^ 31) := by
  obtain ⟨a, ha⟩ : ∃ a, a = s.lanesTrained d ms saved (lanesOf d) [] := ⟨_, rfl⟩
  obtain ⟨b, hb⟩ : ∃ b, b = a.linkShown d skew asym saved := ⟨_, rfl⟩
  obtain ⟨hkept, hqueue, htraining, hstates⟩ := ha ▸ s.lanesTrained_all d ms saved
  obtain ⟨hsaved, hzero⟩ := hb ▸ a.linkShown_status d skew asym saved
  have he : x = b.ev 0x060E (dieOfDim d) d (laneCount d) (min ms (2 ^ 31 - 1) + b2n saved * 2 ^ 31) := by rw [hx, hb, ha]; rfl
  have hbx : Keeps (· ∉ evRegs) b x := he ▸ keeps_ev b _ _ _ _ _ fun _ ho h => h ho
  have hab : Keeps (besideTraining d) a b := hb ▸ keeps_linkShown a d skew asym saved (fun h => h.2.2.1.1 rfl) fun h => h.2.1 rfl
  have hstatus := evRegs_ne_lanPortStatusOff d
  have hlane : ∀ n ∈ lanesOf d, x.laneState n = 3 := fun n hn => by
    have hlt := lane_lt_of_mem hd hn
    have habLane : Keeps (· = Reg.lanLaneStatusOff n) a b := by
      rw [hb]
      refine keeps_linkShown a d skew asym saved ?_ ?_
      · exact fun h => lanLaneStatusOff_ne_lanPortStatusOff hd hn d h.symm
      · simp only [Reg.lanPortSkewOff, Reg.lanLaneStatusOff]
        omega
    have hev : Reg.lanLaneStatusOff n ∉ evRegs := fun h => evRegs_not_apartScans _ h (lanLaneStatusOff_apartScans hlt)
    rw [hbx.laneState hev, habLane.laneState rfl, hstates n hn]
  refine ⟨(hkept.trans hab).trans (hbx.mono fun _ h => h.1), List.filter_eq_self.2 fun n hn => ?_, ?_, ?_, ?_, ?_, ?_⟩
  · rw [State.laneGood, hlane n hn]
    rfl
  · rw [hbx.fld hstatus, hzero _ rfl (by simp [Reg.lanPortStatusWidth]) (by simp [Reg.lanPortStatusWidth])]
  · rw [hbx.flag hstatus, State.flag, hzero _ rfl (by simp [Reg.lanPortStatusIdleRx]) (by simp [Reg.lanPortStatusIdleRx])]
    rfl
  · rw [hbx.flag hstatus, hsaved]
  · rw [he, State.port_of_ports (State.ev_ports ..), hb, State.port_of_ports (a.linkShown_ports ..), htraining]
  · rw [he]
    refine b.hasEvent_ev _ _ _ _ _ ?_
    rw [hb, State.room_of_evq ((a.linkShown_evq ..).trans hqueue), hroom]

/-- A link keyed at full width, and the exchange of identities begun on it. -/
theorem State.exchange_of_linkKeyed {x y : State} (hd : d < 16) (hgood : x.goodLanes d = lanesOf d)
    (hzero : x.fld (Reg.lanPortStatusWidth d) = 0) (hidle : x.flag (Reg.lanPortStatusIdleRx d) = false)
    (hy : y = (x.linkKeyed d).exchangeBegun d) : Keeps (fun off => besideTraining d off ∧ besidePortState d off) x y
      ∧ y.portState d = 1 ∧ y.flag (Reg.lanPortStatusLink d) = true ∧ y.flag (Reg.lanPortStatusEncrypted d) = true
      ∧ y.fld (Reg.lanPortStatusWidth d) = laneCount d ∧ (∀ n ∈ lanesOf d, y.laneState n = 2)
      ∧ (y.port d).training = (x.port d).training
      ∧ y.flag (Reg.lanPortStatusSavedUsed d) = x.flag (Reg.lanPortStatusSavedUsed d) := by
  obtain ⟨hlink, hkeyed, hwidth, hactive, htraining, hsaved⟩ := x.linkKeyed_spec hd hgood hzero hidle
  have hkeep : Keeps (besidePortState d) (x.linkKeyed d) y := hy ▸ keeps_exchangeBegun _ d
  have hstatus : besidePortState d (Reg.lanPortStatusOff d) := by
    simp only [besidePortState, Reg.lanPortStatusOff, Reg.lanPortDiscOff, Reg.lanDiscStatusOff]
    omega
  have hlane : ∀ n ∈ lanesOf d, besidePortState d (Reg.lanLaneStatusOff n) := fun n hn => by
    have := lane_lt_of_mem hd hn
    simp only [besidePortState, Reg.lanLaneStatusOff, Reg.lanPortDiscOff, Reg.lanDiscStatusOff]
    omega
  refine ⟨((keeps_linkKeyed x d).mono fun _ h => h.1).trans (hkeep.mono fun _ h => h.2), ?_, (hkeep.flag hstatus).trans hlink,
    (hkeep.flag hstatus).trans hkeyed, (hkeep.fld hstatus).trans hwidth, fun n hn => (hkeep.laneState (hlane n hn)).trans (hactive n hn),
    ?_, (hkeep.flag hstatus).trans hsaved⟩
  · rw [hy]
    exact (State.setPortState_spec _ d (by decide) (by decide)).1
  · rw [hy, State.port_of_ports (State.exchangeBegun_ports _ d), htraining]

theorem linkTrained_full (hp : s.powered = true) (hd : d < 16) (htrain : (s.port d).training = true)
    (hlanes : ∀ n ∈ lanesOf d, s.laneState n ≠ 4 ∧ s.laneState n ≠ 5 ∧ s.laneState n ≠ 7 ∧ bit good (n - firstLane d) = true)
    (hmonitor : s.flag Reg.secStatusMonitorMismatch = false) (hrng : s.fld Reg.secStatusRngFault ≠ 3)
    (hplan : bit (s.fld Reg.lanPlanIdNone) d = false) (hquarantine : s.portState d ≠ 4) (hheld : s.portState d ≠ 5)
    (hroom : s.room 1 = true) :
    ∃ t, exec (.linkTrained d good ms 0 skew asym saved) s = .next t ∧ t.portState d = 1
      ∧ t.flag (Reg.lanPortStatusLink d) = true ∧ t.flag (Reg.lanPortStatusEncrypted d) = true
      ∧ t.fld (Reg.lanPortStatusWidth d) = laneCount d ∧ (∀ n ∈ lanesOf d, t.laneState n = 2) ∧ (t.port d).training = false
      ∧ t.flag (Reg.lanPortStatusSavedUsed d) = (saved && s.settingsFit d)
      ∧ t.hasEvent 0x060E (dieOfDim d) d (laneCount d) (min ms (2 ^ 31 - 1) + b2n (saved && s.settingsFit d) * 2 ^ 31)
      ∧ t.mem = s.mem := by
  have hall : ((lanesOf d).filter fun n => ! [4, 5, 7].contains (s.laneState n)) = lanesOf d := List.filter_eq_self.2 fun n hn => by
    obtain ⟨h4, h5, h7, -⟩ := hlanes n hn
    simp [h4, h5, h7]
  have hok : (lanesOf d).filter (fun n => bit good (n - firstLane d)) = lanesOf d :=
    List.filter_eq_self.2 fun n hn => (hlanes n hn).2.2.2
  have hbad : (lanesOf d).filter (fun n => ! bit good (n - firstLane d)) = [] :=
    List.filter_eq_nil_iff.2 fun n hn => by simp [(hlanes n hn).2.2.2]
  have hfull : widthFor d (lanesOf d).length = laneCount d := by rw [lanesOf_length, widthFor_laneCount]
  have hcount : laneCount d ≠ 0 := by
    unfold laneCount
    split_ifs <;> decide
  obtain ⟨x, hx⟩ : ∃ x, x = (s.lanesTrained d ms (saved && s.settingsFit d) (lanesOf d) []).linkSet d (laneCount d) ms skew asym
      (saved && s.settingsFit d) := ⟨_, rfl⟩
  obtain ⟨y, hy⟩ : ∃ y, y = (x.linkKeyed d).exchangeBegun d := ⟨_, rfl⟩
  obtain ⟨hkept, hgood, hzero, hidle, hsaved, htraining, hevent⟩ := State.linkSet_all hd hroom hx
  obtain ⟨hkeep, hstate, hlink, hkeyed, hwidth, hactive, hport, hused⟩ := State.exchange_of_linkKeyed hd hgood hzero hidle hy
  have hapart : ∀ off, Reg.lanDiscStatusOff < off → off ∉ evRegs → besideTraining d off := fun off ho hev => by
    have hlane : ∀ n ∈ lanesOf d, off ≠ Reg.lanLaneStatusOff n ∧ off ≠ Reg.lanLaneTrainOff n := fun n hn => by
      have := lane_lt_of_mem hd hn
      simp only [Reg.lanDiscStatusOff, Reg.lanLaneStatusOff, Reg.lanLaneTrainOff] at ho ⊢
      omega
    have hstatus : off ≠ Reg.lanPortSkewOff d ∧ off ≠ Reg.lanPortStatusOff d := by
      simp only [Reg.lanDiscStatusOff, Reg.lanPortSkewOff, Reg.lanPortStatusOff] at ho ⊢
      omega
    exact ⟨hev, hstatus.1, ⟨hstatus.2, fun n hn => (hlane n hn).1⟩, fun n hn => (hlane n hn).2⟩
  have hsec : besideTraining d Reg.secStatusOff := hapart _ (by decide) (by decide)
  have hplanId : besideTraining d Reg.lanPlanIdOff := hapart _ (by decide) (by decide)
  have hplanIdDisc : besidePortState d Reg.lanPlanIdOff := by
    simp only [besidePortState, Reg.lanPlanIdOff, Reg.lanPortDiscOff, Reg.lanDiscStatusOff]
    omega
  have hplanNone : y.fld Reg.lanPlanIdNone = s.fld Reg.lanPlanIdNone :=
    (hkeep.fld (f := Reg.lanPlanIdNone) ⟨hplanId, hplanIdDisc⟩).trans (hkept.fld (f := Reg.lanPlanIdNone) hplanId)
  have he : exec (.linkTrained d good ms 0 skew asym saved) s = .next (s.trained d good ms 0 skew asym saved) :=
    s.does_powered (State.trained d good ms 0 skew asym saved) hp
  have hy' : s.trained d good ms 0 skew asym saved = y := by
    refine s.trained_eq (ok := lanesOf d) (bad := []) (x := x) hd htrain rfl (by rw [hall, hok]) (by rw [hall, hbad])
      (hfull ▸ hcount) (by simp [hquarantine, hheld])
      (hfull ▸ hx) ?_ hy (hplanNone ▸ hplan)
    rw [hkept.flag (f := Reg.secStatusMonitorMismatch) hsec, hkept.fld (f := Reg.secStatusRngFault) hsec, hmonitor]
    simpa using hrng
  rw [hy'] at he
  exact ⟨y, he, hstate, hlink, hkeyed, hwidth, hactive, hport.trans htraining, hused.trans hsaved, hkeep.events hevent,
    hkeep.mem.trans hkept.mem⟩

end

end Sys2Proof.Machine
end

section
/-! Links train, and lanes fail and return: DARK ports, lane sets and lane errors, then the obligation (R219, R245 to R249). -/

namespace Sys2Proof.Machine

section
variable {s : State} {d : Nat} (hp : s.powered = true)
include hp

/-- A port that does not train is DARK. -/
theorem darkTimeout_dark (hd : d < 16) (hstate : s.portState d = 0) (hallowed : s.linkAllowed d = true)
    (hplan : bit (s.fld Reg.lanPlanIdNone) d = false) (hroom : s.room 1 = true) :
    ∃ t, exec (.darkTimeout d) s = .next t ∧ t.portState d = 3 ∧ t.hasEvent 0x0602 (dieOfDim d) d 1 0
      ∧ (∀ e, e < 16 → e ≠ d → t.portState e = s.portState e) ∧ t.mem = s.mem := by
  have he : exec (.darkTimeout d) s = execDarkTimeout d s := rfl
  obtain ⟨a, ha⟩ : ∃ a, a = s.setPortState d 3 0 := ⟨_, rfl⟩
  have hkeep : Keeps (besidePortState d) s a := ha ▸ keeps_setPortState s d 3 0
  have hevent : Keeps (· ∉ evRegs) a (a.ev 0x0602 (dieOfDim d) d 1 0) := keeps_ev a _ _ _ _ _ fun _ ho h => h ho
  have hdisc : ∀ e, e < 16 → Reg.lanPortDiscOff e ∉ evRegs := fun e he => by
    simp only [evRegs, Reg.lanPortDiscOff, Reg.evrDroppedCount, Reg.evrQueueHwmF0, List.mem_cons, List.not_mem_nil, or_false]
    omega
  have hroom' : a.room 1 = true := by rw [ha, State.room_of_evq (s.setPortState_evq d 3 0), hroom]
  rw [he, execDarkTimeout, s.does_powered _ hp, if_pos ⟨hd, hstate, hallowed, by simp [hplan]⟩, ← ha]
  refine ⟨_, rfl, ?_, a.hasEvent_ev _ _ _ _ _ hroom', fun e hlt hne => ?_, hevent.mem.trans hkeep.mem⟩
  · rw [hevent.portState (hdisc d hd), ha, (s.setPortState_spec d (by decide) (by decide)).1]
  · rw [hevent.portState (hdisc e hlt), hkeep.portState]
    simp only [besidePortState, Reg.lanPortDiscOff, Reg.lanDiscStatusOff]
    omega

/-- A changed lane set applies from the next period. -/
theorem framePeriod_change (hd : d < 16) (hlink : s.flag (Reg.lanPortStatusLink d) = true) (hchange : (s.port d).change = true)
    (hroom : s.room 1 = true) :
    ∃ u w, exec (.framePeriod d) s = exec (.framePeriod d) u ∧ (u.port d).change = false
      ∧ w = widthFor d (s.goodLanes d).length ∧ u.fld (Reg.lanPortStatusWidth d) = w
      ∧ (u.flag (Reg.lanPortStatusDegraded d) = true ↔ w < laneCount d)
      ∧ (w ≠ s.fld (Reg.lanPortStatusWidth d) → s.fld (Reg.lanPortStatusWidth d) ≠ 0 →
        u.hasEvent 0x060B (dieOfDim d) d (s.fld (Reg.lanPortStatusWidth d)) w) := by
  obtain ⟨w, hw⟩ : ∃ w, w = widthFor d (s.goodLanes d).length := ⟨_, rfl⟩
  obtain ⟨a, ha⟩ : ∃ a, a = s.setPort d { s.port d with change := false } := ⟨_, rfl⟩
  obtain ⟨b, hb⟩ : ∃ b, b = a.lanesPut d w := ⟨_, rfl⟩
  obtain ⟨u, hu⟩ : ∃ u, u = a.setWidth d := ⟨_, rfl⟩
  have hold : a.fld (Reg.lanPortStatusWidth d) = s.fld (Reg.lanPortStatusWidth d) := by rw [ha]; rfl
  have hgood : a.goodLanes d = s.goodLanes d := by rw [ha]; rfl
  have hset : u = if s.fld (Reg.lanPortStatusWidth d) = w ∨ s.fld (Reg.lanPortStatusWidth d) = 0 then b
      else b.ev 0x060B (dieOfDim d) d (s.fld (Reg.lanPortStatusWidth d)) w := by
    rw [hu, a.setWidth_eq d (hgood ▸ hw), hold, hb]
  have hwidth : Keeps (· ∉ evRegs) b u := by
    rw [hset]
    split_ifs
    · exact .refl _ b
    · exact keeps_ev b _ _ _ _ _ fun _ ho h => h ho
  obtain ⟨hbwidth, hbdegraded, hblow⟩ := hb ▸ a.lanesPut_spec hd (w := w) (hw ▸ widthFor_le d _)
  have hstatus := evRegs_ne_lanPortStatusOff d
  have hulink : u.flag (Reg.lanPortStatusLink d) = true := by
    rw [hwidth.flag hstatus, State.flag, hblow _ rfl (by simp [Reg.lanPortStatusLink]) (by simp [Reg.lanPortStatusLink]), ha]
    exact hlink
  have hframe : ∃ r q l, u = { a with regs := r, evq := q, evLost := l } := by
    obtain ⟨r, hr⟩ := onlyRegs_lanesPut a d w
    rw [hset, hb, hr]
    split_ifs
    · exact ⟨_, _, _, rfl⟩
    · exact State.ev_frame _ _ _ _ _ _
  obtain ⟨hon, hchanged⟩ : u.on = true ∧ (u.port d).change = false := by
    obtain ⟨r, q, l, hf⟩ := hframe
    refine ⟨?_, ?_⟩
    · rw [hf, ha]
      exact (s.powered_iff.1 hp).1
    · rw [State.port_of_ports (s := a) (by rw [hf]), ha, State.port_setPort]
  have hsame : s.framePeriod d = u.framePeriod d := by
    unfold State.framePeriod
    have hlt : ¬ 16 ≤ d := Nat.not_le.2 hd
    simp only [hlt, hlink, hulink, hchange, hchanged, ← ha, ← hu, not_true_eq_false, or_self, if_false, if_true, Bool.false_eq_true]
  refine ⟨u, w, ?_, hchanged, hw, (hwidth.fld hstatus).trans hbwidth, ?_, fun hne hnz => ?_⟩
  · exact (s.does_powered (State.framePeriod d) hp).trans ((congrArg _ hsame).trans (u.does_on (State.framePeriod d) hon).symm)
  · rw [hwidth.flag hstatus, hbdegraded, decide_eq_true_eq]
  · rw [hset, if_neg (by simp [hnz, Ne.symm hne])]
    refine b.hasEvent_ev _ _ _ _ _ ?_
    rw [hb, State.room_of_evq (onlyRegs_lanesPut a d w).evq, ha]
    exact hroom

end

/-! ### Lane errors (R245 to R248) -/

section
variable {n d u v e : Nat} {s : State} (hp : s.powered = true) (hn : n < 112) (hd : d = portOfLane n)

/-- The errors that a running PRBS check has counted. -/
def State.prbsCounted (s : State) (n e : Nat) : State :=
  if s.flag (Reg.lanLaneCtrlPrbsEn n) then s.add (Reg.lanLanePrbsErrCount n) e else s

include hp hn in
theorem exec_laneErrorWindow : exec (.laneErrorWindow n u v e) s
    = .next (if 4 < u then (s.prbsCounted n e).dropLanes (portOfLane n) [(n, 2)]
        else if 4096 < v then (s.prbsCounted n e).dropLanes (portOfLane n) [(n, 3)] else s.prbsCounted n e) := by
  have hwindow : exec (.laneErrorWindow n u v e) s = execLaneErrorWindow n u v e s := rfl
  rw [hwindow, execLaneErrorWindow, s.does_powered _ hp]
  dsimp only
  rw [if_neg (Nat.not_le.2 hn), ← State.prbsCounted]

theorem keeps_prbsCounted (s : State) (n e : Nat) : Keeps (· ≠ Reg.lanLanePrbsErrOff n) s (s.prbsCounted n e) := by
  unfold State.prbsCounted
  split_ifs
  · exact keeps_setFld s _ fun h => h rfl
  · exact .refl _ s

theorem State.prbsCounted_evq (s : State) (n e : Nat) : (s.prbsCounted n e).evq = s.evq := by
  unfold State.prbsCounted
  split_ifs
  · exact s.add_evq _ _
  · rfl

include hp hn hd in
/-- A window over a limit takes a good lane out of a link that keeps a width. -/
theorem laneErrorWindow_drops {k cause : Nat} (hk : k = min 255 (s.fld (Reg.lanLaneStatusDrops n) + 1)) (hgood : s.laneGood n = true)
    (hw : widthFor d ((s.goodLanes d).length - 1) ≠ 0) (hroom : s.room 3 = true)
    (hcause : (4 < u ∧ cause = 2) ∨ (u ≤ 4 ∧ 4096 < v ∧ cause = 3)) :
    ∃ t, exec (.laneErrorWindow n u v e) s = .next t ∧ t.fld (Reg.lanLaneStatusDrops n) = k
      ∧ t.laneState n = (if 3 ≤ k then 7 else 4) ∧ t.hasEvent 0x0609 (dieOfDim d) d n cause
      ∧ (s.flag (Reg.lanPortStatusLink d) = true → (t.port d).change = true) ∧ t.mem = s.mem := by
  obtain ⟨a, ha⟩ : ∃ a, a = s.prbsCounted n e := ⟨_, rfl⟩
  have hkeep : Keeps (· ≠ Reg.lanLanePrbsErrOff n) s a := ha ▸ keeps_prbsCounted s n e
  have hlane : ∀ m, Reg.lanLaneStatusOff m ≠ Reg.lanLanePrbsErrOff n := fun m => by
    simp only [Reg.lanLaneStatusOff, Reg.lanLanePrbsErrOff]
    omega
  have hstatus : Reg.lanPortStatusOff d ≠ Reg.lanLanePrbsErrOff n := by
    simp only [Reg.lanPortStatusOff, Reg.lanLanePrbsErrOff]
    omega
  have hlanes : a.goodLanes d = s.goodLanes d := State.goodLanes_congr fun m _ => hkeep.laneState (hlane m)
  have hgood' : a.laneGood n = true := by rw [State.laneGood, hkeep.laneState (hlane n), ← State.laneGood, hgood]
  have hroom' : a.room 2 = true := by
    rw [ha, State.room_of_evq (s.prbsCounted_evq n e)]
    exact s.room_mono (by decide) hroom
  have hexec : exec (.laneErrorWindow n u v e) s = .next (a.dropLanes d [(n, cause)]) := by
    rw [exec_laneErrorWindow hp hn, ← ha, ← hd]
    rcases hcause with ⟨hu, rfl⟩ | ⟨hu, hv, rfl⟩
    · rw [if_pos hu]
    · rw [if_neg (Nat.not_lt.2 hu), if_pos hv]
  obtain ⟨hdrops, hstate, hevent, hchange, hmem⟩ := a.dropLanes_spec (cause := cause) hn hd hgood' (hlanes ▸ hw) hroom'
  rw [hkeep.fld (hlane n), ← hk] at hdrops hstate
  exact ⟨_, hexec, hdrops, hstate, hevent, fun hlink => hchange ((hkeep.flag hstatus).trans hlink), hmem.trans hkeep.mem⟩

include hp hn hd in
/-- A lane that finds no lock after idle is taken out of a link that keeps a width. -/
theorem idleLockTimeout_drops {k : Nat} (hk : k = min 255 (s.fld (Reg.lanLaneStatusDrops n) + 1)) (hgood : s.laneGood n = true)
    (hw : widthFor d ((s.goodLanes d).length - 1) ≠ 0) (hroom : s.room 3 = true) :
    ∃ t, exec (.idleLockTimeout d (2 ^ (n - firstLane d))) s = .next t ∧ t.fld (Reg.lanLaneStatusDrops n) = k
      ∧ t.laneState n = (if 3 ≤ k then 7 else 4) ∧ t.hasEvent 0x0609 (dieOfDim d) d n 6
      ∧ (s.flag (Reg.lanPortStatusLink d) = true → (t.port d).change = true) ∧ t.mem = s.mem := by
  have he : exec (.idleLockTimeout d (2 ^ (n - firstLane d))) s = execIdleLockTimeout d (2 ^ (n - firstLane d)) s := rfl
  have hmem := hd ▸ mem_lanesOf_portOfLane hn
  have hone : (lanesOf d).filter (fun m => bit (2 ^ (n - firstLane d)) (m - firstLane d)) = [n] := by
    have hbit : ∀ m ∈ lanesOf d, bit (2 ^ (n - firstLane d)) (m - firstLane d) = (m == n) := fun m hm => by
      have hm' := (mem_lanesOf.1 hm).1
      have hn' := (mem_lanesOf.1 hmem).1
      have hpow : bit (2 ^ (n - firstLane d)) (m - firstLane d) = decide (n - firstLane d = m - firstLane d) := by
        rw [← Nat.testBit_two_pow, Nat.testBit_eq_decide_div_mod_eq, bit, beq_eq_decide]
      rw [hpow, beq_eq_decide]
      exact decide_eq_decide.2 (by omega)
    rw [List.filter_congr hbit, List.filter_beq, List.count_eq_one_of_mem (lanesOf_nodup d) hmem]
    rfl
  obtain ⟨hdrops, hstate, hevent, hchange, hsame⟩ := s.dropLanes_spec (cause := 6) hn hd hgood hw (s.room_mono (by decide) hroom)
  rw [he, execIdleLockTimeout, s.does_powered _ hp, if_pos (hd ▸ portOfLane_lt hn), hone]
  exact ⟨_, rfl, hk ▸ hdrops, hk ▸ hstate, hevent, hchange, hsame⟩

include hp hn in
/-- A window within the limits changes nothing but the errors of a running PRBS check. -/
theorem laneErrorWindow_within (hu : u ≤ 4) (hv : v ≤ 4096) :
    (s.flag (Reg.lanLaneCtrlPrbsEn n) = false → exec (.laneErrorWindow n u v e) s = .next s)
    ∧ (s.flag (Reg.lanLaneCtrlPrbsEn n) = true →
      ∃ t, exec (.laneErrorWindow n u v e) s = .next t
        ∧ t.fld (Reg.lanLanePrbsErrCount n) = min (s.fld (Reg.lanLanePrbsErrCount n) + e) (2 ^ 32 - 1)
        ∧ RegsBut s t [Reg.lanLanePrbsErrOff n] ∧ t = { s with regs := t.regs }) := by
  rw [exec_laneErrorWindow hp hn, if_neg (Nat.not_lt.2 hu), if_neg (Nat.not_lt.2 hv), State.prbsCounted]
  refine ⟨fun hoff => ?_, fun hon => ?_⟩
  · rw [hoff, if_neg (by decide)]
  · rw [hon, if_pos rfl]
    exact ⟨_, rfl, s.fld_add _ _ (by simp [Reg.lanLanePrbsErrCount]) (by simp [Reg.lanLanePrbsErrCount]),
      regsBut_setFld s (Reg.lanLanePrbsErrCount n) _ _ List.mem_cons_self, rfl⟩

end

/-! ### Lanes that retrain (R248) -/

section
variable {n d : Nat} {s : State} (hp : s.powered = true) (hn : n < 112) (hd : d = portOfLane n)
  (hlink : s.flag (Reg.lanPortStatusLink d) = true) (hstate : s.laneState n = 4 ∨ s.laneState n = 1) (hroom : s.room 2 = true)
include hp hn hd hlink hstate hroom

/-- A lane that retrains serves again. -/
theorem laneRetrain_pass (hw : widthFor d ((s.goodLanes d).length + 1) ≠ 0) :
    ∃ t, exec (.laneRetrain n true) s = .next t ∧ t.laneState n = 3 ∧ t.flag (Reg.lanLaneStatusMarkerLock n) = true
      ∧ (t.port d).change = true ∧ t.hasEvent 0x060A (dieOfDim d) d n 0 ∧ t.mem = s.mem := by
  obtain ⟨a, ha⟩ : ∃ a, a = (s.setFld (Reg.lanLaneStatusState n) 3).setFlag (Reg.lanLaneStatusMarkerLock n) true := ⟨_, rfl⟩
  obtain ⟨b, hb⟩ : ∃ b, b = a.ev 0x060A (dieOfDim d) d n 0 := ⟨_, rfl⟩
  have hsa : Keeps (· ≠ Reg.lanLaneStatusOff n) s a := by
    rw [ha]
    exact (keeps_setFld s _ fun h => h rfl).trans (keeps_setFlag _ _ fun h => h rfl)
  have honly : OnlyRegs s a := ha ▸ (onlyRegs_setFld s _ _).trans (onlyRegs_setFld _ _ _)
  have hab : Keeps apartScans a b := hb ▸ keeps_ev a _ _ _ _ _ evRegs_not_apartScans
  have hmem := hd ▸ mem_lanesOf_portOfLane hn
  have hdlt : d < 16 := hd ▸ portOfLane_lt hn
  have hlane : a.laneState n = 3 := by
    rw [ha, State.setFlag, State.laneState, State.fld_setFld_apart _ _ _ _
      (by simp [apart, Reg.lanLaneStatusMarkerLock, Reg.lanLaneStatusState]), ← State.laneState]
    exact s.laneState_setFld n (by decide)
  have hlock : a.flag (Reg.lanLaneStatusMarkerLock n) = true := by
    rw [ha]
    exact State.flag_setFlag _ _ _ (by simp [Reg.lanLaneStatusMarkerLock]) (by simp [Reg.lanLaneStatusMarkerLock])
  have hbad : s.laneGood n = false := by
    rcases hstate with h | h <;> rw [State.laneGood, h] <;> rfl
  have hgood : b.goodLanes d = a.goodLanes d :=
    State.goodLanes_congr fun m hm => hab.laneState (lanLaneStatusOff_apartScans (lane_lt_of_mem hdlt hm))
  have hbefore : s.goodLanes d = (a.goodLanes d).filter (· ≠ n) :=
    State.goodLanes_without (fun m _ hne => (hsa.laneState (lanLaneStatusOff_inj hne)).symm) hbad
  have hserves : n ∈ a.goodLanes d := State.mem_goodLanes.2 ⟨hmem, by rw [State.laneGood, hlane]; rfl⟩
  have hlen : (b.goodLanes d).length = (s.goodLanes d).length + 1 := by
    have := List.length_pos_of_mem hserves
    rw [hgood, hbefore, length_filter_ne (State.goodLanes_nodup d) hserves]
    omega
  obtain ⟨hkeep, hchange⟩ := b.laneChange_spec (hlen ▸ hw) (p := apartScans)
  have happly : exec (.laneRetrain n true) s = .next (b.laneChange d) := by
    have he : exec (.laneRetrain n true) s = execLaneRetrain n true s := rfl
    rw [he, execLaneRetrain, s.does_powered _ hp, State.laneRetrained]
    rw [if_pos ⟨hn, hd ▸ hlink, hstate⟩, if_pos rfl, hb, ha, hd]
  have hlast := hab.trans hkeep
  have hstatus := lanLaneStatusOff_apartScans hn
  refine ⟨_, happly, (hlast.laneState hstatus).trans hlane, (hlast.flag hstatus).trans hlock, hchange ?_, hkeep.events ?_,
    hlast.mem.trans hsa.mem⟩
  · rw [hab.flag (lanPortStatusOff_apartScans hdlt), hsa.flag (lanLaneStatusOff_ne_lanPortStatusOff hdlt hmem d).symm, hlink]
  · rw [hb]
    refine a.hasEvent_ev _ _ _ _ _ ?_
    rw [State.room_of_evq honly.evq]
    exact s.room_mono (by decide) hroom

/-- A lane that does not retrain is out for another cause. -/
theorem laneRetrain_fail : ∃ t, exec (.laneRetrain n false) s = .next t
    ∧ t.fld (Reg.lanLaneStatusDrops n) = min 255 (s.fld (Reg.lanLaneStatusDrops n) + 1)
    ∧ t.hasEvent 0x0609 (dieOfDim d) d n 5 ∧ t.mem = s.mem := by
  have happly : exec (.laneRetrain n false) s = .next ((s.takeOut n).ev 0x0609 (dieOfDim d) d n 5) := by
    have he : exec (.laneRetrain n false) s = execLaneRetrain n false s := rfl
    rw [he, execLaneRetrain, s.does_powered _ hp, State.laneRetrained]
    rw [if_pos ⟨hn, hd ▸ hlink, hstate⟩, if_neg (by decide), hd]
  have hkeep : Keeps apartScans (s.takeOut n) ((s.takeOut n).ev 0x0609 (dieOfDim d) d n 5) :=
    keeps_ev _ _ _ _ _ _ evRegs_not_apartScans
  exact ⟨_, happly, (hkeep.fld (lanLaneStatusOff_apartScans hn)).trans (s.takeOut_spec n).1,
    State.hasEvent_ev _ _ _ _ _ _ (s.room_takeOut n hroom), hkeep.mem.trans (keeps_takeOut s n).mem⟩

end

/-- A port that loses its signal is DARK without its link. -/
theorem signalLoss_dark {d : Nat} {s : State} (hp : s.powered = true) (hd : d < 16) (hstate : s.portState d = 2)
    (hlink : s.flag (Reg.lanPortStatusLink d) = true) :
    ∃ t, exec (.signalLoss d) s = .next t ∧ t.portState d = 3 ∧ t.flag (Reg.lanPortStatusLink d) = false
      ∧ t.fld (Reg.lanPortLinkLossesCount d) = min (s.fld (Reg.lanPortLinkLossesCount d) + 1) (2 ^ 32 - 1) ∧ t.mem = s.mem := by
  have he : exec (.signalLoss d) s = execSignalLoss d s := rfl
  rw [he, execSignalLoss, s.does_powered _ hp, if_pos hd]
  exact ⟨_, rfl, s.linkLost_spec 5 hd hstate hlink⟩

/-- Settles O35, a clause for each way that a link or a lane takes. -/
theorem linksTrainAndFail : Obligations.LinksTrainAndFail := by
  unfold Obligations.LinksTrainAndFail
  refine ⟨fun d s hp hd => ⟨fun hmay => ⟨pllLock_trains hp hd hmay, darkRetry_trains hp hd hmay⟩, ?_, darkTimeout_dark hp hd,
      framePeriod_change hp hd⟩, fun n d u v e k s hp hn hd hk => ⟨fun hgood hw hroom => ⟨fun cause hcause => ?_, ?_⟩, ?_⟩,
    fun n d s hp hn hd hlink hstate hroom => ⟨laneRetrain_pass hp hn hd hlink hstate hroom,
      laneRetrain_fail hp hn hd hlink hstate hroom⟩, fun d s => signalLoss_dark⟩
  · exact fun good ms skew asym saved => linkTrained_full hp hd
  · exact laneErrorWindow_drops hp hn hd hk hgood hw hroom hcause
  · exact idleLockTimeout_drops hp hn hd hk hgood hw hroom
  · exact laneErrorWindow_within hp hn

end Sys2Proof.Machine
end

section
/-! The identity exchange: a theorem for each clause (R218, R219, R222). -/

namespace Sys2Proof.Machine

/-- A number laid down in a row of bytes is read back. -/
theorem field_natLe {bs : List Byte} (a c : List Byte) {o n v : Nat} (h : bs = a ++ natLe n v ++ c) (ho : o = a.length) :
    field bs o n = v % 256 ^ n := by
  rw [field, h, slice_append a (natLe n v) c o n ho (natLe_length n v).symm, leNat_natLe]

section
variable (s : State)

/-! ### An identity sent (R218) -/

/-- The packet that tells a neighbour of this module. -/
def State.identityPacket (s : State) (d : Nat) : Packet :=
  { dest := Nat.xor s.myId (2 ^ d), src := s.myId, cls := 4, opcode := 0xE0
    cmd := natLe 2 s.myId ++ natLe 1 (b2n (! s.provisional)) ++ natLe 1 d ++ natLe 1 (s.port d).verdict ++ List.replicate 11 0 }

theorem State.identityPacket_cmd {d : Nat} (hd : d < 16) : field (s.identityPacket d).cmd 0 2 = s.myId % 2 ^ 16
    ∧ field (s.identityPacket d).cmd 2 1 = b2n (! s.provisional) ∧ field (s.identityPacket d).cmd 3 1 = d
    ∧ field (s.identityPacket d).cmd 4 1 = (s.port d).verdict % 256 := by
  have hvalid : b2n (! s.provisional) < 256 := by cases s.provisional <;> decide
  refine ⟨field_natLe [] (natLe 1 (b2n (! s.provisional)) ++ natLe 1 d ++ natLe 1 (s.port d).verdict ++ List.replicate 11 0) ?_ rfl,
    (field_natLe (v := b2n (! s.provisional)) (natLe 2 s.myId) (natLe 1 d ++ natLe 1 (s.port d).verdict ++ List.replicate 11 0) ?_
      rfl).trans ?_,
    (field_natLe (v := d) (natLe 2 s.myId ++ natLe 1 (b2n (! s.provisional))) (natLe 1 (s.port d).verdict ++ List.replicate 11 0) ?_
      rfl).trans ?_,
    field_natLe (natLe 2 s.myId ++ natLe 1 (b2n (! s.provisional)) ++ natLe 1 d) (List.replicate 11 0) ?_ rfl⟩
  · simp only [State.identityPacket, List.append_assoc, List.nil_append]
  · simp only [State.identityPacket, List.append_assoc]
  · exact Nat.mod_eq_of_lt hvalid
  · simp only [State.identityPacket, List.append_assoc]
  · exact Nat.mod_eq_of_lt (by omega)
  · rfl

theorem keeps_sendIdentity {p : Nat → Prop} (d : Nat) : Keeps p s (s.sendIdentity d) := keeps_beside rfl rfl rfl

/-! ### Quarantine and coming up (R219, R222) -/

theorem evRegs_ne_lanPortDiscOff {d : Nat} (hd : d < 16) : Reg.lanPortDiscOff d ∉ evRegs := by
  simp only [evRegs, Reg.lanPortDiscOff, Reg.evrDroppedCount, Reg.evrQueueHwmF0, List.mem_cons, List.not_mem_nil, or_false]
  omega

/-- A port put in quarantine for a cause. -/
theorem State.quarantine_spec {d cause v : Nat} (hd : d < 16) (hcause : cause < 8) (hroom : s.room 1 = true)
    (hv : v = if s.flag (Reg.lanPortDiscSeenValid d) ∨ (s.port d).seen then s.fld (Reg.lanPortDiscSeenId d) else 2 ^ 32 - 1) :
    (s.quarantine d cause).portState d = 4 ∧ (s.quarantine d cause).fld (Reg.lanPortDiscCause d) = cause
      ∧ (s.quarantine d cause).hasEvent 0x0603 (dieOfDim d) d cause v ∧ (s.quarantine d cause).mem = s.mem := by
  obtain ⟨a, ha⟩ : ∃ a, a = s.setPort d { s.port d with verdict := 2 } := ⟨_, rfl⟩
  obtain ⟨b, hb⟩ : ∃ b, b = a.setPortState d 4 cause := ⟨_, rfl⟩
  have he : s.quarantine d cause = b.ev 0x0603 (dieOfDim d) d cause v := by
    rw [hb, ha, hv]
    rfl
  have hevent : Keeps (· ∉ evRegs) b (b.ev 0x0603 (dieOfDim d) d cause v) := keeps_ev b _ _ _ _ _ fun _ ho h => h ho
  obtain ⟨hstate, hcauseShown, -⟩ := hb ▸ a.setPortState_spec d (st := 4) (by decide) hcause
  have hdisc := evRegs_ne_lanPortDiscOff hd
  rw [he]
  refine ⟨(hevent.portState hdisc).trans hstate, (hevent.fld hdisc).trans hcauseShown, b.hasEvent_ev _ _ _ _ _ ?_, ?_⟩
  · rw [hb, State.room_of_evq (a.setPortState_evq d 4 cause), ha]
    exact hroom
  · rw [hevent.mem, hb, (keeps_setPortState a d 4 cause).mem, ha]
    rfl

theorem keeps_saveLanes (d : Nat) : Keeps (· ≠ Reg.ctlNvmQueueOff) s (s.saveLanes d) := by
  have hput : ∀ (t : State) (r : RecData), Keeps (· ≠ Reg.ctlNvmQueueOff) t (t.nvmPut r) := fun t r => by
    obtain ⟨regs, hr⟩ := t.nvmPut_eq r
    refine ⟨fun off ho => regsBut_nvmPut t r [Reg.ctlNvmQueueOff] List.mem_cons_self off (by simpa using ho), by rw [hr], ?_⟩
    exact State.hasEvent_of_evq (by rw [hr])
  unfold State.saveLanes
  split_ifs
  · exact .refl _ s
  · have hfresh : Keeps (· ≠ Reg.ctlNvmQueueOff) s s.fresh := keeps_beside rfl rfl rfl
    exact hfresh.trans (hput _ _)

/-- What a port that comes UP leaves of the registers. -/
@[reducible] def besideComeUp (off : Nat) : Prop := belowTime off ∧ off ≠ Reg.ctlNvmQueueOff

/-- A port of a module that knows its identity comes UP. -/
theorem State.comeUp_spec {d : Nat} (hd : d < 16) (hprov : s.provisional = false) (hroom : s.room 1 = true) :
    (s.comeUp d).portState d = 2 ∧ (s.comeUp d).fld (Reg.lanPortDiscSeenId d) = s.fld (Reg.lanPortDiscSeenId d)
      ∧ (s.comeUp d).hasEvent 0x0601 (dieOfDim d) d (s.fld (Reg.lanPortDiscSeenId d)) 0 ∧ (s.comeUp d).mem = s.mem := by
  obtain ⟨a, ha⟩ : ∃ a, a = s.setPortState d 2 0 := ⟨_, rfl⟩
  obtain ⟨b, hb⟩ : ∃ b, b = a.ev 0x0601 (dieOfDim d) d (s.fld (Reg.lanPortDiscSeenId d)) 0 := ⟨_, rfl⟩
  obtain ⟨hstate, -, hseen⟩ := ha ▸ s.setPortState_spec d (st := 2) (cause := 0) (by decide) (by decide)
  have hsa : Keeps (besidePortState d) s a := ha ▸ keeps_setPortState s d 2 0
  have hab : Keeps (· ∉ evRegs) a b := hb ▸ keeps_ev a _ _ _ _ _ fun _ ho h => h ho
  have hvalid : besidePortState d Reg.glbModuleIdValid.off := by
    simp only [besidePortState, Reg.glbModuleIdValid, Reg.lanPortDiscOff, Reg.lanDiscStatusOff]
    omega
  have hprov' : b.provisional = false := by
    rw [State.provisional, hab.flag (by decide), hsa.flag hvalid, ← State.provisional, hprov]
  have he : s.comeUp d = ((b.saveLanes d).retime).retryWaiting := by
    have hadopt : b.adoptRack d = b := by simp [State.adoptRack, hprov']
    have hcome : s.comeUp d = (((b.adoptRack d).saveLanes d).retime).retryWaiting := by
      rw [hb, ha]
      rfl
    rw [hcome, hadopt]
  have hrest : Keeps besideComeUp b (s.comeUp d) := by
    rw [he]
    exact (((keeps_saveLanes b d).mono fun _ h => h.2).trans ((keeps_retime _).mono fun _ h => h.1)).trans
      ((keeps_retryWaiting _).mono fun _ h => h.1.1)
  have hdisc : besideComeUp (Reg.lanPortDiscOff d) := by
    simp only [besideComeUp, belowTime, belowRouting, Reg.lanPortDiscOff, Reg.rtrCtrlOff, Reg.lanTimeStatusOff, Reg.ctlNvmQueueOff]
    omega
  have hnot := evRegs_ne_lanPortDiscOff hd
  refine ⟨(hrest.portState hdisc).trans ((hab.portState hnot).trans hstate), (hrest.fld hdisc).trans ((hab.fld hnot).trans hseen),
    hrest.events ?_, hrest.mem.trans (hab.mem.trans hsa.mem)⟩
  rw [hb]
  refine a.hasEvent_ev _ _ _ _ _ ?_
  rw [ha, State.room_of_evq (s.setPortState_evq d 2 0), hroom]

/-! ### An identity received (R218, R222) -/

/-- What an identity received leaves of a port before it is judged. -/
def State.identitySeen (s : State) (d id dim : Nat) : State :=
  let t := ((s.setFld (Reg.lanPortDiscSeenId d) id).setFld (Reg.lanPortDiscSeenPort d) dim).setFlag (Reg.lanPortDiscSeenValid d) true
  t.setPort d { t.port d with seen := true }

theorem keeps_identitySeen (d id dim : Nat) : Keeps (· ≠ Reg.lanPortDiscOff d) s (s.identitySeen d id dim) :=
  (((keeps_setFld s _ fun h => h rfl).trans (keeps_setFld _ _ fun h => h rfl)).trans (keeps_setFlag _ _ fun h => h rfl)).trans
    (keeps_setPort _ d _)

theorem State.identitySeen_spec (d dim : Nat) {id : Nat} (hid : id < 65536) :
    (s.identitySeen d id dim).fld (Reg.lanPortDiscSeenId d) = id ∧ (s.identitySeen d id dim).flag (Reg.lanPortDiscSeenValid d) = true
      ∧ (s.identitySeen d id dim).evq = s.evq ∧ (s.identitySeen d id dim).provisional = s.provisional
      ∧ (s.identitySeen d id dim).myId = s.myId := by
  have hglb : Reg.glbModuleIdId.off ≠ Reg.lanPortDiscOff d ∧ Reg.glbModuleIdValid.off ≠ Reg.lanPortDiscOff d := by
    simp only [Reg.glbModuleIdId, Reg.glbModuleIdValid, Reg.lanPortDiscOff]
    omega
  have hkeep := keeps_identitySeen s d id dim
  obtain ⟨t, ht⟩ : ∃ t, t = (s.setFld (Reg.lanPortDiscSeenId d) id).setFld (Reg.lanPortDiscSeenPort d) dim := ⟨_, rfl⟩
  obtain ⟨u, hu⟩ : ∃ u, u = t.setFlag (Reg.lanPortDiscSeenValid d) true := ⟨_, rfl⟩
  have he : s.identitySeen d id dim = u.setPort d { u.port d with seen := true } := by
    rw [hu, ht]
    rfl
  have hread : ∀ g : Fld, (s.identitySeen d id dim).fld g = u.fld g := fun g => by
    rw [he]
    exact (keeps_setPort (p := fun _ => True) u d _).fld trivial
  have honly : OnlyRegs s u := hu ▸ ht ▸ ((onlyRegs_setFld s _ _).trans (onlyRegs_setFld _ _ _)).trans (onlyRegs_setFld _ _ _)
  refine ⟨?_, ?_, ?_, ?_, hkeep.fld hglb.1⟩
  · rw [hread, hu, State.setFlag, t.fld_setFld_apart _ _ _ (by simp [apart, Reg.lanPortDiscSeenValid, Reg.lanPortDiscSeenId]), ht,
      State.fld_setFld_apart _ _ _ _ (by simp [apart, Reg.lanPortDiscSeenPort, Reg.lanPortDiscSeenId]),
      s.fld_setFld _ _ (by simp [Reg.lanPortDiscSeenId]) (by simp [Reg.lanPortDiscSeenId])]
    exact Nat.mod_eq_of_lt hid
  · rw [State.flag, hread, hu]
    exact t.flag_setFlag _ _ (by simp [Reg.lanPortDiscSeenValid]) (by simp [Reg.lanPortDiscSeenValid])
  · rw [he]
    exact honly.evq
  · rw [State.provisional, hkeep.flag hglb.2, ← State.provisional]

theorem State.identity_eq (d id dim verdict : Nat) : s.identity_ d id true dim verdict
    = if 16 ≤ d ∨ ¬ s.flag (Reg.lanPortStatusLink d) ∨ s.portState d ≠ 1 then s
      else (s.identitySeen d id dim).classify d (id % 65536) true (dim % 16) verdict := rfl

/-- What is answered to a neighbour whose identity is right. -/
def State.accepted (s : State) (d : Nat) : State :=
  if (s.port d).verdict = 1 then s else (s.setPort d { s.port d with verdict := 1 }).sendIdentity d

theorem keeps_accepted {p : Nat → Prop} (d : Nat) : Keeps p s (s.accepted d) := by
  unfold State.accepted
  split_ifs
  · exact .refl p s
  · exact (keeps_setPort s d _).trans (keeps_sendIdentity _ d)

theorem State.accepted_evq (d : Nat) : (s.accepted d).evq = s.evq := by
  unfold State.accepted
  split_ifs <;> rfl

theorem State.classify_right {d id verdict : Nat} (hprov : s.provisional = false) (hid : id = Nat.xor s.myId (2 ^ d)) :
    s.classify d id true d verdict = if verdict = 2 then (s.accepted d).quarantine d 4
      else if verdict = 1 then (s.accepted d).comeUp d else s.accepted d := by
  unfold State.classify
  simp only [hprov, hid, Bool.not_true, Bool.or_self, Bool.false_and, Bool.false_eq_true, if_false, beq_self_eq_true, Bool.and_self,
    if_true, State.accepted]

theorem State.classify_wrong {d id dim verdict : Nat} (hd : d < 16) (hprov : s.provisional = false)
    (hid : ∀ e, e < 16 → id ≠ Nat.xor s.myId (2 ^ e)) : s.classify d id true dim verdict = s.quarantine d 3 := by
  have hnone : (List.range 16).find? (fun e => e != d && id == Nat.xor s.myId (2 ^ e)) = none :=
    List.find?_eq_none.2 fun e he => by
      have hne : (id == Nat.xor s.myId (2 ^ e)) = false := beq_false_of_ne (hid e (List.mem_range.1 he))
      rw [hne, Bool.and_false]
      exact Bool.false_ne_true
  have hsame : (id == Nat.xor s.myId (2 ^ d)) = false := beq_false_of_ne (hid d hd)
  unfold State.classify
  simp only [hprov, hsame, hnone, Bool.not_true, Bool.or_self, Bool.false_and, Bool.false_eq_true, if_false, Option.isSome_none]

end

section
variable {s : State} {d : Nat} (hp : s.powered = true) (hd : d < 16)
include hp hd

theorem identitySend_sends (hlink : s.flag (Reg.lanPortStatusLink d) = true) (hstate : s.portState d = 1) :
    ∃ t p, exec (.identitySend d) s = .next t ∧ t.wire = s.wire ++ [.packet d p] ∧ p.opcode = 0xE0 ∧ p.src = s.myId
      ∧ p.dest = Nat.xor s.myId (2 ^ d) ∧ field p.cmd 0 2 = s.myId % 2 ^ 16 ∧ field p.cmd 2 1 = b2n (! s.provisional)
      ∧ field p.cmd 3 1 = d ∧ field p.cmd 4 1 = (s.port d).verdict % 256 ∧ t = { s with ports := t.ports, wire := t.wire } := by
  have he : exec (.identitySend d) s = execIdentitySend d s := rfl
  obtain ⟨hid, hvalid, hdim, hverdict⟩ := s.identityPacket_cmd hd
  rw [he, execIdentitySend, s.does_powered _ hp, if_pos ⟨hd, hlink, by rw [hstate]; rfl⟩]
  exact ⟨_, s.identityPacket d, rfl, rfl, rfl, rfl, rfl, hid, hvalid, hdim, hverdict, rfl⟩

theorem identityTimeout_quarantines (hstate : s.portState d = 1) (hseen : (s.port d).seen = false) (hroom : s.room 1 = true) :
    ∃ t, exec (.identityTimeout d) s = .next t ∧ t.portState d = 4 ∧ t.fld (Reg.lanPortDiscCause d) = 2
      ∧ (∃ v, t.hasEvent 0x0603 (dieOfDim d) d 2 v) ∧ t.mem = s.mem := by
  have he : exec (.identityTimeout d) s = execIdentityTimeout d s := rfl
  obtain ⟨hstate', hcause, hevent, hmem⟩ := s.quarantine_spec (cause := 2) hd (by decide) hroom rfl
  rw [he, execIdentityTimeout, s.does_powered _ hp, if_pos ⟨hd, hstate, by simp [hseen]⟩]
  exact ⟨_, rfl, hstate', hcause, ⟨_, hevent⟩, hmem⟩

variable {id : Nat} (hlink : s.flag (Reg.lanPortStatusLink d) = true) (hstate : s.portState d = 1) (hid : id < 65536)
include hlink hstate hid

theorem exec_identity (dim verdict : Nat) :
    exec (.identity d id true dim verdict) s = .next ((s.identitySeen d id dim).classify d id true (dim % 16) verdict) := by
  have he : exec (.identity d id true dim verdict) s = execIdentity d id true dim verdict s := rfl
  rw [he, execIdentity, s.does_powered _ hp, State.identity_eq, if_neg (by simp [hd, hlink, hstate]), Nat.mod_eq_of_lt hid]

variable (hprov : s.provisional = false) (hroom : s.room 1 = true)
include hprov hroom

/-- The right neighbour's identity, on the right port, is judged by both. -/
theorem identity_right (hright : id = Nat.xor s.myId (2 ^ d)) :
    (∃ t, exec (.identity d id true d 1) s = .next t ∧ t.portState d = 2 ∧ t.fld (Reg.lanPortDiscSeenId d) = id
      ∧ t.hasEvent 0x0601 (dieOfDim d) d id 0 ∧ t.mem = s.mem)
    ∧ ∃ t, exec (.identity d id true d 2) s = .next t ∧ t.portState d = 4 ∧ t.fld (Reg.lanPortDiscCause d) = 4
      ∧ t.hasEvent 0x0603 (dieOfDim d) d 4 id ∧ t.mem = s.mem := by
  obtain ⟨a, ha⟩ : ∃ a, a = s.identitySeen d id d := ⟨_, rfl⟩
  obtain ⟨hseen, hvalid, hqueue, hprov', hme⟩ := ha ▸ s.identitySeen_spec d d hid
  have hkeep : Keeps (fun _ => True) a (a.accepted d) := keeps_accepted a d
  have hmem : (a.accepted d).mem = s.mem := hkeep.mem.trans (ha ▸ (keeps_identitySeen s d id d).mem)
  have hroom' : (a.accepted d).room 1 = true := by rw [State.room_of_evq ((a.accepted_evq d).trans hqueue), hroom]
  have hseen' : (a.accepted d).fld (Reg.lanPortDiscSeenId d) = id := (hkeep.fld trivial).trans hseen
  have hprovisional : (a.accepted d).provisional = false := by
    rw [State.provisional, hkeep.flag trivial, ← State.provisional, hprov', hprov]
  have hclassify : ∀ v, exec (.identity d id true d v) s = .next (if v = 2 then (a.accepted d).quarantine d 4
      else if v = 1 then (a.accepted d).comeUp d else a.accepted d) := fun v => by
    rw [exec_identity hp hd hlink hstate hid, ← ha, Nat.mod_eq_of_lt hd, a.classify_right (hprov'.trans hprov) (hme ▸ hright)]
  refine ⟨?_, ?_⟩
  · obtain ⟨hup, hid', hevent, hsame⟩ := (a.accepted d).comeUp_spec hd hprovisional hroom'
    rw [hseen'] at hid' hevent
    exact ⟨_, by rw [hclassify, if_neg (by decide), if_pos rfl], hup, hid', hevent, hsame.trans hmem⟩
  · have hshown : (a.accepted d).flag (Reg.lanPortDiscSeenValid d) = true := (hkeep.flag trivial).trans hvalid
    obtain ⟨hheld, hcause, hevent, hsame⟩ := (a.accepted d).quarantine_spec (cause := 4) (v := id) hd (by decide) hroom'
      (by rw [if_pos (.inl hshown), hseen'])
    exact ⟨_, by rw [hclassify, if_pos rfl], hheld, hcause, hevent, hsame.trans hmem⟩

/-- An identity that no port of this module expects. -/
theorem identity_wrong (dim verdict : Nat) (hwrong : ∀ e, e < 16 → id ≠ Nat.xor s.myId (2 ^ e)) :
    ∃ t, exec (.identity d id true dim verdict) s = .next t ∧ t.portState d = 4 ∧ t.fld (Reg.lanPortDiscCause d) = 3
      ∧ t.hasEvent 0x0603 (dieOfDim d) d 3 id ∧ t.mem = s.mem := by
  obtain ⟨a, ha⟩ : ∃ a, a = s.identitySeen d id dim := ⟨_, rfl⟩
  obtain ⟨hseen, hvalid, hqueue, hprov', hme⟩ := ha ▸ s.identitySeen_spec d dim hid
  obtain ⟨hheld, hcause, hevent, hsame⟩ := a.quarantine_spec (cause := 3) (v := id) hd (by decide)
    (by rw [State.room_of_evq hqueue, hroom]) (by rw [if_pos (.inl hvalid), hseen])
  refine ⟨a.quarantine d 3, ?_, hheld, hcause, hevent, hsame.trans (ha ▸ (keeps_identitySeen s d id dim).mem)⟩
  rw [exec_identity hp hd hlink hstate hid, ← ha, a.classify_wrong hd (hprov'.trans hprov) (hme ▸ hwrong)]

end

end Sys2Proof.Machine
end

section
/-! Fabric time: a theorem for each clause, then the obligation (R218 to R225). -/

namespace Sys2Proof.Machine

section
variable (s : State)

/-! ### Packets of the timestamp exchange (R224, R225) -/

theorem keptByStores_time : KeptByStores State.time := ⟨fun t x v _ => t.setFld_time x v, fun t c x y z w => t.ev_time c x y z w⟩

theorem keptByStores_wire : KeptByStores State.wire := ⟨fun t x v _ => t.setFld_wire x v, fun t c x y z w => t.ev_wire c x y z w⟩

/-- What a module sends of its time by a port: a request, or an answer. -/
def State.timeMessage (s : State) (d : Nat) (answer : Bool) (t1 t2 : Nat) : Packet :=
  { dest := Nat.xor s.myId (2 ^ d), src := s.myId, cls := 4, opcode := 0xE1
    cmd := natLe 1 (b2n answer + 2 * b2n (s.flag Reg.lanTimeStatusValid)) ++ natLe 1 0 ++ natLe 2 s.timeRoot
      ++ natLe 4 s.time.rootSeq ++ natLe 8 t1
    data := natLe 8 t2 ++ natLe 8 s.stamp ++ natLe 8 s.fabricTime ++ natLe 8 0 }

theorem State.sendTime_request (d : Nat) : s.sendTime d none
    = s.fresh.place d (dieOfDim d) (s.timeMessage d false s.stamp 0) (s.timeMessage d false s.stamp 0) := rfl

theorem State.sendTime_answer (d t1 t2 : Nat) : s.sendTime d (some (t1, t2))
    = s.fresh.place d (dieOfDim d) (s.timeMessage d true t1 t2) (s.timeMessage d true t1 t2) := rfl

/-- A packet that joins its port's queue leaves memory, time and the wires. -/
theorem State.place_keeps (d die : Nat) (p : Packet) : (s.fresh.place d die p p).holds d p ∧ (s.fresh.place d die p p).mem = s.mem
    ∧ (s.fresh.place d die p p).time = s.time ∧ (s.fresh.place d die p p).wire = s.wire :=
  ⟨State.place_holds _ d die rfl, keptByStores_mem.place s.fresh (fun _ _ _ => rfl) (fun _ _ => rfl) d die p p,
    keptByStores_time.place s.fresh (fun _ _ _ => rfl) (fun _ _ => rfl) d die p p,
    keptByStores_wire.place s.fresh (fun _ _ _ => rfl) (fun _ _ => rfl) d die p p⟩

theorem State.timeMessage_fields (d t1 t2 : Nat) (answer : Bool) :
    field (s.timeMessage d answer t1 t2).cmd 2 2 = s.timeRoot % 2 ^ 16
      ∧ field (s.timeMessage d answer t1 t2).cmd 4 4 = s.time.rootSeq % 2 ^ 32
      ∧ field (s.timeMessage d answer t1 t2).cmd 8 8 = t1 % 2 ^ 64 ∧ field (s.timeMessage d answer t1 t2).data 0 8 = t2 % 2 ^ 64
      ∧ field (s.timeMessage d answer t1 t2).data 16 8 = s.fabricTime % 2 ^ 64 := by
  obtain ⟨k, hk⟩ : ∃ k, k = natLe 1 (b2n answer + 2 * b2n (s.flag Reg.lanTimeStatusValid)) ++ natLe 1 0 := ⟨_, rfl⟩
  have hlen : k.length = 2 := by simp [hk]
  refine ⟨field_natLe k (natLe 4 s.time.rootSeq ++ natLe 8 t1) ?_ hlen.symm,
    field_natLe (k ++ natLe 2 s.timeRoot) (natLe 8 t1) ?_ (by simp [hlen]),
    field_natLe (k ++ natLe 2 s.timeRoot ++ natLe 4 s.time.rootSeq) [] ?_ (by simp [hlen]),
    field_natLe [] (natLe 8 s.stamp ++ natLe 8 s.fabricTime ++ natLe 8 0) ?_ rfl,
    field_natLe (natLe 8 t2 ++ natLe 8 s.stamp) (natLe 8 0) ?_ (by simp)⟩ <;>
    simp only [State.timeMessage, hk, List.append_assoc, List.nil_append, List.append_nil]

/-! ### Whose time is followed (R224, R225) -/

/-- What a new parent leaves: the registers below those of routing, and of LAN_TIME_STATUS all but ROLE and PARENT_DIM. -/
structure BesideParent (s t : State) : Prop where
  keeps : Keeps belowTime s t
  status : ∀ f : Fld, f.off = Reg.lanTimeStatusOff → f.lo ≤ f.hi → f.hi < 2 ∨ 7 < f.lo → t.fld f = s.fld f

section
variable {s} {t u : State}

theorem BesideParent.trans (h : BesideParent s t) (h' : BesideParent t u) : BesideParent s u :=
  ⟨h.keeps.trans h'.keeps, fun f ho hl hf => (h'.status f ho hl hf).trans (h.status f ho hl hf)⟩

theorem BesideParent.valid (h : BesideParent s t) : t.flag Reg.lanTimeStatusValid = s.flag Reg.lanTimeStatusValid := by
  rw [State.flag, h.status _ rfl (by decide) (.inl (by decide)), State.flag]

theorem BesideParent.backupActive (h : BesideParent s t) :
    t.flag Reg.lanTimeStatusBackupActive = s.flag Reg.lanTimeStatusBackupActive := by
  rw [State.flag, h.status _ rfl (by decide) (.inl (by decide)), State.flag]

theorem BesideParent.lastOffset (h : BesideParent s t) : t.fld Reg.lanTimeStatusLastOffset = s.fld Reg.lanTimeStatusLastOffset :=
  h.status _ rfl (by decide) (.inr (by decide))

theorem BesideParent.timeRoot (h : BesideParent s t) : t.timeRoot = s.timeRoot := by
  have hroots : belowTime Reg.lanPlanRootsOff := ⟨by decide, by decide⟩
  rw [State.timeRoot, h.backupActive, h.keeps.fld (f := Reg.lanPlanRootsBackupRoot) hroots,
    h.keeps.fld (f := Reg.lanPlanRootsRoot) hroots, State.timeRoot]

end

theorem besideParent_beside {t : State} (hregs : t.regs = s.regs) (hmem : t.mem = s.mem) (hevq : t.evq = s.evq) : BesideParent s t :=
  ⟨keeps_beside hregs hmem hevq, fun f _ _ _ => State.fld_of_regs hregs f⟩

theorem besideParent_ev (code src p0 p1 p2 : Nat) : BesideParent s (s.ev code src p0 p1 p2) := by
  refine ⟨keeps_ev s _ _ _ _ _ evRegs_not_belowTime, fun f ho _ _ => ?_⟩
  have hkeep : Keeps (· = Reg.lanTimeStatusOff) s (s.ev code src p0 p1 p2) := keeps_ev s _ _ _ _ _ (by decide)
  exact hkeep.fld ho

/-- Role and parent, as they are put. -/
theorem besideParent_setParent (role d : Nat) :
    BesideParent s ((s.setFld Reg.lanTimeStatusRole role).setFld Reg.lanTimeStatusParentDim d) := by
  refine ⟨keeps_setParent s role d, fun f _ hl hf => ?_⟩
  rw [State.fld_setFld_bits _ _ _ _ (by decide) (by decide) hl (by simp only [Reg.lanTimeStatusParentDim]; omega),
    s.fld_setFld_bits _ _ _ (by decide) (by decide) hl (by simp only [Reg.lanTimeStatusRole]; omega)]

theorem besideParent_becomeRoot : BesideParent s s.becomeRoot := besideParent_setParent s 1 0

theorem besideParent_followTime (d : Nat) : BesideParent s (s.followTime d) :=
  (besideParent_setParent s 2 d).trans (besideParent_beside _ rfl rfl rfl)

theorem besideParent_holdover : BesideParent s s.holdover := (besideParent_setParent s 3 0).trans (besideParent_ev _ _ _ _ _ _)

theorem besideParent_startTime (base : Nat) : BesideParent s (s.startTime base) := besideParent_beside s rfl rfl rfl

/-- A parent chosen anew, whatever it is. -/
theorem besideParent_newRoot : BesideParent s s.newRoot := by
  obtain ⟨t, ht⟩ : ∃ t : State, t = { s with time := { s.time with good := 0 } } := ⟨_, rfl⟩
  have hst : BesideParent s t := ht ▸ besideParent_beside s rfl rfl rfl
  refine hst.trans ?_
  unfold State.newRoot
  dsimp only
  rw [← ht]
  split
  · split_ifs
    · exact besideParent_becomeRoot t
    · exact besideParent_setParent t 0 0
  · split
    · split_ifs
      · exact (besideParent_followTime t _).trans (besideParent_ev _ _ _ _ _ _)
      · exact besideParent_followTime t _
    · split_ifs
      · exact besideParent_holdover t
      · exact besideParent_beside t rfl rfl rfl

theorem State.becomeRoot_role : s.becomeRoot.fld Reg.lanTimeStatusRole = 1 := by
  rw [State.becomeRoot, State.fld_setFld_apart _ _ _ _ (by decide), s.fld_setFld _ _ (by decide) (by decide)]
  rfl

/-! ### Time made valid (R224) -/

/-- A lock of time is shown and told of, and leaves LAST_OFFSET and the role. -/
theorem State.lockTime_spec {port : Nat} (hroom : s.room 1 = true) : (s.lockTime port).flag Reg.lanTimeStatusValid = true
    ∧ (s.lockTime port).fld Reg.lanTimeStatusLastOffset = s.fld Reg.lanTimeStatusLastOffset
    ∧ (s.lockTime port).fld Reg.lanTimeStatusRole = s.fld Reg.lanTimeStatusRole
    ∧ (s.lockTime port).hasEvent 0x0607 (if port < 16 then dieOfDim port else 0) port s.timeRoot
        (if port < 16 then s.fld Reg.lanTimeStatusLastOffset else 0)
    ∧ (s.lockTime port).time = s.time ∧ (s.lockTime port).mem = s.mem := by
  obtain ⟨a, ha⟩ : ∃ a, a = s.setFlag Reg.lanTimeStatusValid true := ⟨_, rfl⟩
  have he : s.lockTime port = a.ev 0x0607 (if port < 16 then dieOfDim port else 0) port s.timeRoot
      (if port < 16 then s.fld Reg.lanTimeStatusLastOffset else 0) := by rw [ha]; rfl
  have hkeep : Keeps (· ∉ evRegs) a (s.lockTime port) := he ▸ keeps_ev a _ _ _ _ _ fun _ ho h => h ho
  have hother : ∀ g : Fld, apart Reg.lanTimeStatusValid g = true → a.fld g = s.fld g := fun g hg => by
    rw [ha, State.setFlag, s.fld_setFld_apart _ _ _ hg]
  refine ⟨?_, ?_, ?_, ?_, ?_, ?_⟩
  · rw [hkeep.flag (by decide), ha, s.flag_setFlag _ _ (by decide) (by decide)]
  · rw [hkeep.fld (by decide), hother _ (by decide)]
  · rw [hkeep.fld (by decide), hother _ (by decide)]
  · rw [he]
    refine a.hasEvent_ev _ _ _ _ _ ?_
    rw [ha, State.room_of_evq (s.setFlag_evq _ _), hroom]
  · rw [he, State.ev_time, ha, State.setFlag_time]
  · rw [hkeep.mem, ha, State.setFlag_mem]

/-- How many good offsets there are in a row. -/
def State.withGood (s : State) (good : Nat) : State := { s with time := { s.time with good := good } }

theorem State.withGood_regs (good : Nat) : (s.withGood good).regs = s.regs := rfl

theorem State.withGood_time (good : Nat) : (s.withGood good).time = { s.time with good := good } := rfl

theorem keeps_withGood {p : Nat → Prop} (good : Nat) : Keeps p s (s.withGood good) := keeps_beside rfl rfl rfl

/-- The offset shown, then counted, then judged. -/
theorem State.noteOffset_eq {o : Int} {v x g : Nat} {a : State} (hx : x = if -32768 ≤ o ∧ o < 32768 then ucode 16 o else v % 65536)
    (ha : a = s.setFld Reg.lanTimeStatusLastOffset x) (hg : g = if -8 < o ∧ o < 8 then a.time.good + 1 else 0) :
    s.noteOffset o v = if o ≤ -320 ∨ 320 ≤ o then (a.withGood g).setFlag Reg.lanTimeStatusValid false else a.withGood g := by
  subst hg ha hx
  rfl

theorem ucode_lt (w : Nat) (o : Int) : ucode w o < 2 ^ w := by
  have hpos : (0 : Int) < ((2 ^ w : Nat) : Int) := by exact_mod_cast Nat.two_pow_pos w
  have hlt := Int.emod_lt_of_pos o hpos
  have hnonneg := Int.emod_nonneg o hpos.ne'
  unfold ucode
  omega

/-- What an offset found leaves. -/
theorem State.noteOffset_spec (o : Int) (v : Nat) : (s.noteOffset o v).time
      = { s.time with good := if -8 < o ∧ o < 8 then s.time.good + 1 else 0 }
    ∧ (-32768 ≤ o → o < 32768 → (s.noteOffset o v).fld Reg.lanTimeStatusLastOffset = ucode 16 o)
    ∧ RegsBut s (s.noteOffset o v) [Reg.lanTimeStatusOff]
    ∧ s.noteOffset o v = { s with regs := (s.noteOffset o v).regs, time := (s.noteOffset o v).time } := by
  obtain ⟨x, hx⟩ : ∃ x, x = if -32768 ≤ o ∧ o < 32768 then ucode 16 o else v % 65536 := ⟨_, rfl⟩
  obtain ⟨a, ha⟩ : ∃ a, a = s.setFld Reg.lanTimeStatusLastOffset x := ⟨_, rfl⟩
  obtain ⟨g, hg⟩ : ∃ g, g = if -8 < o ∧ o < 8 then a.time.good + 1 else 0 := ⟨_, rfl⟩
  obtain ⟨b, hb⟩ : ∃ b, b = a.withGood g := ⟨_, rfl⟩
  have htime : a.time = s.time := ha ▸ s.setFld_time _ _
  have hframe : ∃ r, a = { s with regs := r } := ha ▸ onlyRegs_setFld s _ _
  have hlast : b.fld Reg.lanTimeStatusLastOffset = x % 2 ^ 16 := by
    rw [hb, State.fld_of_regs (a.withGood_regs g), ha, s.fld_setFld _ _ (by decide) (by decide)]
    rfl
  have hregs : RegsBut s b [Reg.lanTimeStatusOff] :=
    (ha ▸ regsBut_setFld s Reg.lanTimeStatusLastOffset x _ List.mem_cons_self : RegsBut s a _).trans
      (regsBut_of_regs _ (hb ▸ a.withGood_regs g))
  have hshown : -32768 ≤ o → o < 32768 → x % 2 ^ 16 = ucode 16 o := fun h1 h2 => by
    rw [hx, if_pos ⟨h1, h2⟩, Nat.mod_eq_of_lt (ucode_lt 16 o)]
  have hbtime : b.time = { s.time with good := if -8 < o ∧ o < 8 then s.time.good + 1 else 0 } := by
    rw [hb, a.withGood_time, hg, htime]
  have hbframe : ∃ r y, b = { s with regs := r, time := y } := by
    obtain ⟨r, hr⟩ := hframe
    exact ⟨r, _, by rw [hb, hr]; rfl⟩
  rw [s.noteOffset_eq hx ha hg, ← hb]
  split
  · refine ⟨(State.setFlag_time _ _ _).trans hbtime, fun h1 h2 => ?_,
      hregs.trans (regsBut_setFld b Reg.lanTimeStatusValid _ _ List.mem_cons_self), ?_⟩
    · rw [State.setFlag, State.fld_setFld_apart _ _ _ _ (by decide), hlast, hshown h1 h2]
    · obtain ⟨r, y, hby⟩ := hbframe
      obtain ⟨r', hr'⟩ := onlyRegs_setFld b Reg.lanTimeStatusValid (b2n false)
      rw [State.setFlag, hr', hby]
  · refine ⟨hbtime, fun h1 h2 => hlast.trans (hshown h1 h2), hregs, ?_⟩
    obtain ⟨r, y, hby⟩ := hbframe
    rw [hby]

/-- An offset within half a nanosecond counts, and leaves the rest of LAN_TIME_STATUS. -/
theorem State.noteOffset_near {o : Int} (v : Nat) (hlow : -8 < o) (hhigh : o < 8) :
    (s.noteOffset o v).time = { s.time with good := s.time.good + 1 } ∧ Keeps belowTime s (s.noteOffset o v)
      ∧ (s.noteOffset o v).evq = s.evq
      ∧ ∀ f : Fld, f.off = Reg.lanTimeStatusOff → f.lo ≤ f.hi → f.hi < 16 → (s.noteOffset o v).fld f = s.fld f := by
  obtain ⟨x, hx⟩ : ∃ x, x = if -32768 ≤ o ∧ o < 32768 then ucode 16 o else v % 65536 := ⟨_, rfl⟩
  obtain ⟨a, ha⟩ : ∃ a, a = s.setFld Reg.lanTimeStatusLastOffset x := ⟨_, rfl⟩
  obtain ⟨htime, hshown, hregs, hframe⟩ := s.noteOffset_spec o v
  have he : s.noteOffset o v = a.withGood (a.time.good + 1) := by
    rw [s.noteOffset_eq hx ha rfl, if_neg (by omega), if_pos (c := -8 < o ∧ o < 8) ⟨hlow, hhigh⟩]
  refine ⟨?_, ?_, by rw [hframe], fun f _ hl hf => ?_⟩
  · rw [htime, if_pos ⟨hlow, hhigh⟩]
  · rw [he, ha]
    exact (keeps_setTime s _ rfl).trans (keeps_withGood _ _)
  · rw [he, State.fld_of_regs (a.withGood_regs _), ha, s.fld_setFld_bits _ _ _ (by decide) (by decide) hl (.inl hf)]

/-! ### A parent's answer (R223, R224) -/

/-- A counter that runs is slewed. -/
theorem State.slew_running (o : Int) (v counter : Nat) (h : s.time.running = true) :
    s.slew o v counter = s.fresh.setRate (slewRate s.time.rate o v) := by rw [State.slew, if_pos h]

theorem State.slew_stopped (o : Int) (v counter : Nat) (h : s.time.running = false) :
    s.slew o v counter = s.fresh.startTime counter := by rw [State.slew, if_neg (by simp [h])]

theorem keeps_setRate (rate : Int) : Keeps (· ≠ Reg.lanTimeRateOff) s (s.setRate rate) := by
  obtain ⟨a, ha⟩ : ∃ a : State, a = { s with time := { s.time with base := s.fabricTime, at_ := s.clk, rate := rate } } := ⟨_, rfl⟩
  have hsa : Keeps (· ≠ Reg.lanTimeRateOff) s a := ha ▸ keeps_beside rfl rfl rfl
  have he : s.setRate rate = a.setFld Reg.lanTimeRateRate (ucode 32 rate) := ha ▸ rfl
  rw [he]
  exact hsa.trans (keeps_setFld a _ fun h => h rfl)

theorem State.setRate_good (rate : Int) : (s.setRate rate).time.good = s.time.good := by
  rw [State.setRate, State.setFld_time]

theorem State.setRate_evq (rate : Int) : (s.setRate rate).evq = s.evq := by rw [State.setRate, State.setFld_evq]

/-- The asymmetry of a port, as a signed number. -/
def State.asymmetry (s : State) (d : Nat) : Int :=
  if s.fld (Reg.lanPortSkewAsymmetry d) < 32768 then (s.fld (Reg.lanPortSkewAsymmetry d) : Int)
  else (s.fld (Reg.lanPortSkewAsymmetry d) : Int) - 65536

/-- A parent's answer in its parts. -/
theorem State.takeTime_eq (d t1 t2 t3 t4 counter : Nat) {v : Nat} {o : Int} {t : State} (hv : v = Config.freeValue s.free)
    (ho : o = offsetOf t1 t2 t3 t4 (s.asymmetry d) v) (ht : t = (s.slew o v counter).noteOffset o v) :
    s.takeTime d t1 t2 t3 t4 counter = if 8 ≤ t.time.good ∧ ¬ t.flag Reg.lanTimeStatusValid
      then if (t.lockTime d).myId = (t.lockTime d).timeRoot then (t.lockTime d).becomeRoot else t.lockTime d else t := by
  have hcast : s.asymmetry d = if (s.fld (Reg.lanPortSkewAsymmetry d) : Int) < 32768 then (s.fld (Reg.lanPortSkewAsymmetry d) : Int)
      else (s.fld (Reg.lanPortSkewAsymmetry d) : Int) - 65536 := by
    rw [State.asymmetry]
    exact if_congr (by omega) rfl rfl
  rw [ht, ho, hv, hcast]
  rfl

end

/-! ### TIME_EXCHANGE and TIME (R223 to R225) -/

section
variable {s : State} (hp : s.powered = true)
include hp

/-- A module that follows asks its parent. -/
theorem timeExchange_asks {d : Nat} (hplan : s.flag Reg.lanDiscStatusPlanValid = true) (hroot : s.myId ≠ s.timeRoot)
    (hrole : s.fld Reg.lanTimeStatusRole = 2) (hd : d = s.fld Reg.lanTimeStatusParentDim) :
    ∃ t p, exec .timeExchange s = .next t ∧ t.holds d p ∧ p.opcode = 0xE1 ∧ p.dest = Nat.xor s.myId (2 ^ d)
      ∧ t.mem = s.mem ∧ t.time = s.time ∧ t.wire = s.wire := by
  have he : exec .timeExchange s = .next s.timeExchange := s.does_powered State.timeExchange hp
  have hstep : s.timeExchange = s.sendTime d none := by
    rw [State.timeExchange, if_neg (by simp [hplan]), if_neg hroot, hrole, hd]
    cases s.parentDim <;> rfl
  obtain ⟨hholds, hmem, htime, hwire⟩ := s.place_keeps d (dieOfDim d) (s.timeMessage d false s.stamp 0)
  rw [he, hstep, s.sendTime_request]
  exact ⟨_, _, rfl, hholds, rfl, rfl, hmem, htime, hwire⟩

/-- The root counts its sequence number. -/
theorem timeExchange_root (hplan : s.flag Reg.lanDiscStatusPlanValid = true) (hroot : s.myId = s.timeRoot)
    (hrole : s.fld Reg.lanTimeStatusRole = 1) :
    exec .timeExchange s = .next { s with time := { s.time with rootSeq := s.time.rootSeq + 1 } } := by
  have he : exec .timeExchange s = .next s.timeExchange := s.does_powered State.timeExchange hp
  rw [he, State.timeExchange, if_neg (by simp [hplan]), if_pos hroot, hrole]
  rfl

/-- A root that nobody knows better than is the reference at once. -/
theorem timeExchange_alone (hplan : s.flag Reg.lanDiscStatusPlanValid = true) (hroot : s.myId = s.timeRoot)
    (hrole : s.fld Reg.lanTimeStatusRole = 0) (halone : ∀ d, d < 16 → s.portUp d = false ∨ (s.port d).noTime = true)
    (hroom : s.room 1 = true) :
    ∃ t, exec .timeExchange s = .next t ∧ t.fld Reg.lanTimeStatusRole = 1 ∧ t.flag Reg.lanTimeStatusValid = true
      ∧ t.time.running = true ∧ t.hasEvent 0x0607 0 0xFF s.timeRoot 0 ∧ t.mem = s.mem := by
  have he : exec .timeExchange s = .next s.timeExchange := s.does_powered State.timeExchange hp
  have hask : ((List.range 16).filter fun d => s.portUp d && ! (s.port d).noTime) = [] := List.filter_eq_nil_iff.2 fun d hd => by
    rcases halone d (List.mem_range.1 hd) with h | h <;> simp [h]
  obtain ⟨a, ha⟩ : ∃ a, a = if s.time.running then s else s.startTime 0 := ⟨_, rfl⟩
  have hstep : s.timeExchange = a.becomeRoot.lockTime 0xFF := by
    rw [State.timeExchange, if_neg (by simp [hplan]), if_pos hroot, hrole]
    dsimp only
    rw [hask, ha]
    rfl
  have hsa : BesideParent s a := by
    rw [ha]
    split_ifs
    · exact besideParent_beside s rfl rfl rfl
    · exact besideParent_startTime s 0
  have hrunning : a.time.running = true := by
    rw [ha]
    split_ifs with h
    · exact h
    · rfl
  have hqueue : a.evq = s.evq := by
    rw [ha]
    split_ifs <;> rfl
  have honly : OnlyRegs a a.becomeRoot := (onlyRegs_setFld a _ _).trans (onlyRegs_setFld _ _ _)
  have hroom' : a.becomeRoot.room 1 = true := by rw [State.room_of_evq (honly.evq.trans hqueue), hroom]
  have hbeside := hsa.trans (besideParent_becomeRoot a)
  obtain ⟨hvalid, -, hshown, hevent, htime, hmem⟩ := a.becomeRoot.lockTime_spec (port := 0xFF) hroom'
  have hsame : a.becomeRoot.time = a.time := by
    obtain ⟨r, hr⟩ := honly
    rw [hr]
  rw [hbeside.timeRoot, if_neg (by decide), if_neg (by decide)] at hevent
  exact ⟨_, hstep ▸ he, hshown.trans a.becomeRoot_role, hvalid, by rw [htime, hsame, hrunning], hevent, hmem.trans hbeside.keeps.mem⟩

section
variable {d t1 t2 t3 t4 counter rootSeq : Nat} {asym : Int} {backup : Bool} (hd : d < 16) (hup : s.portUp d = true)
include hd hup

/-- A child is answered. -/
theorem time_answers (valid : Bool) :
    ∃ t p, exec (.time d true t1 t2 t3 t4 rootSeq valid backup counter) s = .next t ∧ t.holds d p ∧ p.opcode = 0xE1
      ∧ field p.cmd 2 2 = s.timeRoot % 2 ^ 16 ∧ field p.cmd 4 4 = s.time.rootSeq % 2 ^ 32 ∧ field p.cmd 8 8 = t1 % 2 ^ 64
      ∧ field p.data 0 8 = t2 % 2 ^ 64 ∧ field p.data 16 8 = s.fabricTime % 2 ^ 64 ∧ t.mem = s.mem ∧ t.time = s.time := by
  have he : exec (.time d true t1 t2 t3 t4 rootSeq valid backup counter) s
      = .next (s.timePacket d true t1 t2 t3 t4 rootSeq valid backup counter) :=
    s.does_powered (State.timePacket d true t1 t2 t3 t4 rootSeq valid backup counter) hp
  obtain ⟨hholds, hmem, htime, -⟩ := s.place_keeps d (dieOfDim d) (s.timeMessage d true t1 t2)
  obtain ⟨hroot, hseq, ht1, ht2, hnow⟩ := s.timeMessage_fields d t1 t2 true
  rw [he, State.timePacket, if_neg (by simp [hd, hup]), if_pos rfl, s.sendTime_answer]
  exact ⟨_, _, rfl, hholds, rfl, hroot, hseq, ht1, ht2, hnow, hmem, htime⟩

variable (hrole : s.fld Reg.lanTimeStatusRole = 2) (hparent : s.fld Reg.lanTimeStatusParentDim = d)
  (hbackup : s.flag Reg.lanTimeStatusBackupActive = false ∨ backup = true)
include hrole hparent hbackup

/-- A parent's answer, taken with the root's sequence number. -/
theorem exec_time_parent : exec (.time d false t1 t2 t3 t4 rootSeq true backup counter) s
    = .next (State.takeTime { s with time := { s.time with rootSeq := rootSeq } } d t1 t2 t3 t4 counter) := by
  have he : exec (.time d false t1 t2 t3 t4 rootSeq true backup counter) s
      = .next (s.timePacket d false t1 t2 t3 t4 rootSeq true backup counter) :=
    s.does_powered (State.timePacket d false t1 t2 t3 t4 rootSeq true backup counter) hp
  have hfollows : (s.flag Reg.lanTimeStatusBackupActive && ! backup) = false := by
    rcases hbackup with h | h <;> simp [h]
  rw [he, State.timePacket, if_neg (by simp [hd, hup]), if_neg (by decide)]
  dsimp only
  rw [if_neg (by simp [hrole]), if_pos ⟨hrole, hparent⟩, hfollows, if_neg (by decide), if_pos rfl]

variable (hasym : asym = s.asymmetry d)
include hasym

/-- The first answer sets the counter. -/
theorem time_first (hstopped : s.time.running = false) (hgood : s.time.good < 7) :
    ∃ t v o, exec (.time d false t1 t2 t3 t4 rootSeq true backup counter) s = .next t ∧ o = offsetOf t1 t2 t3 t4 asym v
      ∧ t.time = { running := true, base := counter, at_ := s.clk, rate := 0
                   good := if -8 < o ∧ o < 8 then s.time.good + 1 else 0, rootSeq := rootSeq }
      ∧ (-32768 ≤ o → o < 32768 → t.fld Reg.lanTimeStatusLastOffset = ucode 16 o)
      ∧ RegsBut s t [Reg.lanTimeStatusOff] ∧ t = { s with regs := t.regs, time := t.time, free := t.free } := by
  obtain ⟨a, ha⟩ : ∃ a : State, a = { s with time := { s.time with rootSeq := rootSeq } } := ⟨_, rfl⟩
  obtain ⟨b, hb⟩ : ∃ b, b = a.fresh.startTime counter := ⟨_, rfl⟩
  obtain ⟨v, hv⟩ : ∃ v, v = Config.freeValue a.free := ⟨_, rfl⟩
  obtain ⟨o, ho⟩ : ∃ o, o = offsetOf t1 t2 t3 t4 asym v := ⟨_, rfl⟩
  obtain ⟨htime, hlast, hregs, hframe⟩ := b.noteOffset_spec o v
  have hstep := a.takeTime_eq d t1 t2 t3 t4 counter hv (o := o) (t := b.noteOffset o v)
    (by rw [ho, hasym, ha]; rfl) (by rw [a.slew_stopped o v counter (by rw [ha]; exact hstopped), hb])
  have hbtime : b.time = { running := true, base := counter, at_ := s.clk, rate := 0, good := s.time.good, rootSeq := rootSeq } := by
    rw [hb, ha]
    rfl
  have hbregs : b.regs = s.regs := by
    rw [hb, ha]
    rfl
  have hgood' : ¬ 8 ≤ (b.noteOffset o v).time.good := by
    rw [htime, hbtime]
    dsimp only
    split_ifs <;> omega
  rw [if_neg (fun h => hgood' h.1)] at hstep
  refine ⟨b.noteOffset o v, v, o, ?_, ho, htime.trans (by rw [hbtime]), hlast, (regsBut_of_regs _ hbregs).trans hregs, ?_⟩
  · rw [exec_time_parent hp hd hup hrole hparent hbackup, ← ha, hstep]
  · rw [hframe, hb, ha]
    rfl

/-- The eighth good offset in a row makes time valid. -/
theorem time_eighth (hrunning : s.time.running = true) (hgood : s.time.good = 7)
    (hnear : ∀ v, -8 < offsetOf t1 t2 t3 t4 asym v ∧ offsetOf t1 t2 t3 t4 asym v < 8)
    (hinvalid : s.flag Reg.lanTimeStatusValid = false) (hroom : s.room 1 = true) :
    ∃ t, exec (.time d false t1 t2 t3 t4 rootSeq true backup counter) s = .next t ∧ t.flag Reg.lanTimeStatusValid = true
      ∧ t.hasEvent 0x0607 (dieOfDim d) d s.timeRoot (t.fld Reg.lanTimeStatusLastOffset) ∧ t.time.good = 8 ∧ t.mem = s.mem := by
  obtain ⟨a, ha⟩ : ∃ a : State, a = { s with time := { s.time with rootSeq := rootSeq } } := ⟨_, rfl⟩
  obtain ⟨v, hv⟩ : ∃ v, v = Config.freeValue a.free := ⟨_, rfl⟩
  obtain ⟨o, ho⟩ : ∃ o, o = offsetOf t1 t2 t3 t4 asym v := ⟨_, rfl⟩
  obtain ⟨b, hb⟩ : ∃ b, b = a.fresh.setRate (slewRate a.time.rate o v) := ⟨_, rfl⟩
  obtain ⟨n, hn⟩ : ∃ n, n = b.noteOffset o v := ⟨_, rfl⟩
  obtain ⟨t, ht⟩ : ∃ t, t = if (n.lockTime d).myId = (n.lockTime d).timeRoot then (n.lockTime d).becomeRoot else n.lockTime d :=
    ⟨_, rfl⟩
  have hsa : Keeps (· ≠ Reg.lanTimeRateOff) s a := ha ▸ keeps_beside rfl rfl rfl
  have hfresh : Keeps (· ≠ Reg.lanTimeRateOff) a a.fresh := keeps_beside rfl rfl rfl
  have hsb : Keeps (· ≠ Reg.lanTimeRateOff) s b := (hsa.trans hfresh).trans (hb ▸ keeps_setRate _ _)
  obtain ⟨hlow, hhigh⟩ := ho ▸ hnear v
  obtain ⟨htime, hkeep, hqueue, hstatus⟩ := hn ▸ b.noteOffset_near v hlow hhigh
  have hbgood : b.time.good = 7 := by
    rw [hb, State.setRate_good, State.fresh_time, ha]
    exact hgood
  have hngood : n.time.good = 8 := by rw [htime, hbgood]
  have hflag : ∀ f : Fld, f.off = Reg.lanTimeStatusOff → f.lo ≤ f.hi → f.hi < 16 → n.flag f = s.flag f := fun f hf hl hh => by
    rw [State.flag, hstatus f hf hl hh, hsb.fld (by rw [hf]; decide), State.flag]
  have hroots : ∀ f : Fld, f.off = Reg.lanPlanRootsOff → n.fld f = s.fld f := fun f hf => by
    rw [hkeep.fld (by rw [hf]; exact ⟨by decide, by decide⟩), hsb.fld (by rw [hf]; decide)]
  have hroot : n.timeRoot = s.timeRoot := by
    rw [State.timeRoot, hflag _ rfl (by decide) (by decide), hroots Reg.lanPlanRootsBackupRoot rfl, hroots Reg.lanPlanRootsRoot rfl,
      State.timeRoot]
  have hbqueue : b.evq = s.evq := by rw [hb, State.setRate_evq, State.fresh_evq, ha]
  have hroom' : n.room 1 = true := by rw [State.room_of_evq (hqueue.trans hbqueue), hroom]
  obtain ⟨hvalid, hlast, -, hevent, hltime, hlmem⟩ := n.lockTime_spec (port := d) hroom'
  rw [if_pos hd, if_pos hd, hroot, ← hlast] at hevent
  have hend : BesideParent (n.lockTime d) t ∧ t.time = (n.lockTime d).time := by
    rw [ht]
    split_ifs
    · obtain ⟨r, hr⟩ : OnlyRegs (n.lockTime d) (n.lockTime d).becomeRoot := (onlyRegs_setFld _ _ _).trans (onlyRegs_setFld _ _ _)
      exact ⟨besideParent_becomeRoot _, by rw [hr]⟩
    · exact ⟨besideParent_beside _ rfl rfl rfl, rfl⟩
  have hstep := a.takeTime_eq d t1 t2 t3 t4 counter hv (o := o) (t := n)
    (by rw [ho, hasym, ha]; rfl) (by rw [a.slew_running o v counter (by rw [ha]; exact hrunning), hn, hb])
  rw [if_pos ⟨hngood.ge, by rw [hflag _ rfl (by decide) (by decide), hinvalid]; decide⟩, ← ht] at hstep
  refine ⟨t, ?_, hend.1.valid.trans hvalid, ?_, by rw [hend.2, hltime, hngood], ?_⟩
  · rw [exec_time_parent hp hd hup hrole hparent hbackup, ← ha, hstep]
  · rw [hend.1.lastOffset]
    exact hend.1.keeps.events hevent
  · rw [hend.1.keeps.mem, hlmem, hkeep.mem, hsb.mem]

end

/-- Holdover that lasts too long ends validity. -/
theorem holdoverExpiry_ends (hrole : s.fld Reg.lanTimeStatusRole = 3) :
    ∃ t, exec .holdoverExpiry s = .next t ∧ t.flag Reg.lanTimeStatusValid = false ∧ t.time = { s.time with good := 0 }
      ∧ RegsBut s t [Reg.lanTimeStatusOff] ∧ t = { s with regs := t.regs, time := t.time } := by
  have he : exec .holdoverExpiry s = execHoldoverExpiry s := rfl
  obtain ⟨a, ha⟩ : ∃ a, a = s.setFlag Reg.lanTimeStatusValid false := ⟨_, rfl⟩
  have hregs : RegsBut s a [Reg.lanTimeStatusOff] := ha ▸ regsBut_setFld s Reg.lanTimeStatusValid _ _ List.mem_cons_self
  have hvalid : a.flag Reg.lanTimeStatusValid = false := ha ▸ s.flag_setFlag _ _ (by decide) (by decide)
  obtain ⟨r, hr⟩ : OnlyRegs s a := ha ▸ onlyRegs_setFld s _ _
  rw [he, execHoldoverExpiry, s.does_powered _ hp, if_pos hrole, ← ha]
  refine ⟨_, rfl, (keeps_beside (p := fun _ => True) rfl rfl rfl).flag trivial |>.trans hvalid, rfl,
    hregs.trans (regsBut_of_regs _ rfl), ?_⟩
  rw [hr]

/-- When the root is lost the backup is the root. -/
theorem rootLost_backup (hplan : s.flag Reg.lanDiscStatusPlanValid = true) (hactive : s.flag Reg.lanTimeStatusBackupActive = false)
    (hroot : s.myId ≠ s.timeRoot) (hroom : s.room 1 = true) :
    ∃ t, exec .rootLost s = .next t ∧ t.flag Reg.lanTimeStatusBackupActive = true
      ∧ t.timeRoot = s.fld Reg.lanPlanRootsBackupRoot ∧ t.hasEvent 0x0608 0 2 (s.fld Reg.lanPlanRootsBackupRoot) 0
      ∧ t.mem = s.mem := by
  obtain ⟨a, ha⟩ : ∃ a, a = s.setFlag Reg.lanTimeStatusBackupActive true := ⟨_, rfl⟩
  obtain ⟨b, hb⟩ : ∃ b, b = a.ev 0x0608 0 2 a.timeRoot 0 := ⟨_, rfl⟩
  have hsa : Keeps belowTime s a := ha ▸ keeps_setTime s _ rfl
  have hroots : a.fld Reg.lanPlanRootsBackupRoot = s.fld Reg.lanPlanRootsBackupRoot := hsa.fld ⟨by decide, by decide⟩
  have hset : a.flag Reg.lanTimeStatusBackupActive = true := ha ▸ s.flag_setFlag _ _ (by decide) (by decide)
  have hbackup : a.timeRoot = s.fld Reg.lanPlanRootsBackupRoot := by rw [State.timeRoot, hset, if_pos rfl, hroots]
  have hevent : b.hasEvent 0x0608 0 2 (s.fld Reg.lanPlanRootsBackupRoot) 0 := by
    rw [hb, hbackup]
    refine a.hasEvent_ev _ _ _ _ _ ?_
    rw [ha, State.room_of_evq (s.setFlag_evq _ _), hroom]
  have hab : BesideParent a b := hb ▸ besideParent_ev a _ _ _ _ _
  have hend : BesideParent b s.rootLost := by
    rw [State.rootLost, if_neg (by simp [hplan, hactive, hroot])]
    dsimp only
    rw [← ha, ← hb]
    split
    · obtain ⟨c, hc⟩ : ∃ c, c = if b.time.running then b else b.startTime 0 := ⟨_, rfl⟩
      have hstart : BesideParent b c := by
        rw [hc]
        split_ifs
        · exact besideParent_beside b rfl rfl rfl
        · exact besideParent_startTime b 0
      rw [← hc]
      split_ifs
      · exact (hstart.trans (besideParent_becomeRoot c)).trans (besideParent_ev _ _ _ _ _ _)
      · exact hstart.trans (besideParent_becomeRoot c)
    · exact besideParent_newRoot b
  have hall := hab.trans hend
  exact ⟨_, s.does_powered State.rootLost hp, hall.backupActive.trans hset, hall.timeRoot.trans hbackup, hend.keeps.events hevent,
    hall.keeps.mem.trans hsa.mem⟩

end

/-- Settles O37, a clause for each step of the identity exchange and of fabric time. -/
theorem identityAndTime : Obligations.IdentityAndTime := by
  unfold Obligations.IdentityAndTime
  refine ⟨fun d s hp hd hlink hstate => ⟨identitySend_sends hp hd hlink hstate, identityTimeout_quarantines hp hd hstate,
      fun id hprov hid hroom => ⟨identity_right hp hd hlink hstate hid hprov hroom, identity_wrong hp hd hlink hstate hid hprov hroom⟩⟩,
    fun s hp => ⟨fun d => timeExchange_asks hp, fun hplan hroot => ⟨timeExchange_root hp hplan hroot, timeExchange_alone hp hplan hroot⟩,
      ?_, holdoverExpiry_ends hp, rootLost_backup hp⟩⟩
  intro d t1 t2 t3 t4 counter rootSeq asym valid backup hd hup hasym
  exact ⟨time_answers hp hd hup valid, fun hrole hparent hbackup =>
    ⟨time_first hp hd hup hrole hparent hbackup hasym, time_eighth hp hd hup hrole hparent hbackup hasym⟩⟩

end Sys2Proof.Machine
end

section
/-! SUPPORT. A scan kept under the number 2, which no flue die has: where its points are written (R219, R227, R251). -/

namespace Sys2Proof.Machine

section
variable (s : State)

/-! ### The points of an ended scan -/

theorem lanEyePointOff_inj {f i j : Nat} (h : i ≠ j) : Reg.lanEyePointOff f i ≠ Reg.lanEyePointOff f j := by
  simp only [Reg.lanEyePointOff]
  omega

/-- Each point that an ended scan has counted reads as its number. -/
theorem State.scanEnded_point (f : Nat) {n i : Nat} (e : Nat → Nat) (hi : i < n) :
    (s.scanEnded f n e).fld (Reg.lanEyePointErrors f i) = e i % 2 ^ 32 := by
  have hstatus : Reg.lanEyePointOff f i ≠ Reg.lanEyeStatusOff f := by
    simp only [Reg.lanEyePointOff, Reg.lanEyeStatusOff]
    omega
  rw [State.scanEnded, State.fld_setFld_off _ _ _ _ hstatus]
  refine State.each_at _ (fun t => t.fld (Reg.lanEyePointErrors f i)) id (fun _ => e i % 2 ^ 32) (List.range n) _
    (by simpa using List.nodup_range) (fun t j _ hj => ?_) (fun t j _ hj => ?_) (by simpa using hi)
  · obtain rfl : j = i := hj
    rw [t.fld_setFld _ _ (by simp [Reg.lanEyePointErrors]) (by simp [Reg.lanEyePointErrors])]
    rfl
  · exact t.fld_setFld_off _ _ _ (lanEyePointOff_inj (Ne.symm hj))

/-- A field at the low end of a register whose number is below 2. -/
theorem State.fld_lt_two {f g : Fld} (hoff : g.off = f.off) (hf : f.lo = 0 ∧ f.hi = 31) (hg : g.lo = 0) (h : s.fld f < 2) :
    s.fld g < 2 := by
  obtain ⟨v, hv⟩ : ∃ v, v = (s.reg f.off).toNat := ⟨_, rfl⟩
  have hvlt : v < 2 ^ 32 := hv ▸ (s.reg f.off).isLt
  have hword : v < 2 := by
    rw [State.fld, bits, hf.1, hf.2, ← hv] at h
    simp only [Nat.reduceSub, Nat.reduceAdd, pow_zero, Nat.div_one] at h
    omega
  rw [State.fld, bits, hoff, hg, ← hv]
  exact (Nat.mod_le _ _).trans_lt ((Nat.div_le_self _ _).trans_lt hword)

end

/-! ### A scan under the number 2 -/

/-- A scan of lane 0 kept under the number 2, as far as any scan gets, with lane 0 the one good lane of port 0. -/
structure StrayScan (s : State) : Prop where
  eyes : s.eyes = [(2, ⟨0, 0, 0, 0⟩)]
  done : (⟨0, 0, 0, 0⟩ : EyeScan).points s.clk = 4096
  good : s.goodLanes 0 = [0]

/-- The registers past the points of scan 1, below those of routing, but LAN_PORT_0_DISC and LAN_DISC_STATUS. -/
@[reducible] def strayPlace (off : Nat) : Prop :=
  Reg.lanEyePointOff 2 0 ≤ off ∧ off < Reg.rtrCtrlOff ∧ off ≠ Reg.lanPortDiscOff 0 ∧ off ≠ Reg.lanDiscStatusOff

section
variable {s : State}

/-- A point of the stray scan, once it is ended, is 0 or 1. -/
theorem StrayScan.point_lt (h : StrayScan s) {i : Nat} (hi : i < 4096) : (s.abortScan 2).fld (Reg.lanEyePointErrors 2 i) < 2 := by
  have hfind : tfind s.eyes 2 = some ⟨0, 0, 0, 0⟩ := by rw [h.eyes]; rfl
  have hev : Reg.lanEyePointOff 2 i ∉ evRegs := by
    simp only [evRegs, Reg.lanEyePointOff, Reg.evrDroppedCount, Reg.evrQueueHwmF0, List.mem_cons, List.not_mem_nil, or_false]
    omega
  obtain ⟨a, ha⟩ : ∃ a : State, a = { s with eyes := tdel s.eyes 2, free := s.free + 1 } := ⟨_, rfl⟩
  obtain ⟨e, he⟩ : ∃ e : Nat → Nat, e = fun i => Config.freeValue s.free / (2 ^ 0 + 1) ^ i % (2 ^ 0 + 1) := ⟨_, rfl⟩
  have hkeep : Keeps (· ∉ evRegs) (a.scanEnded 2 4096 e) (s.abortScan 2) := by
    rw [s.abortScan_some hfind, h.done, ← ha, ← he]
    exact keeps_ev _ _ _ _ _ _ fun _ ho hp => hp ho
  have hlt : e i < 2 := by
    rw [he]
    exact Nat.mod_lt _ (by decide)
  rw [hkeep.fld hev, a.scanEnded_point 2 e hi, Nat.mod_eq_of_lt (hlt.trans (by decide))]
  exact hlt

/-- Discovery again of port 0 ends the stray scan, and writes no place past it but that port's. -/
theorem StrayScan.keeps_rediscover (h : StrayScan s) : Keeps strayPlace (s.abortScan 2) (s.rediscover 0) := by
  have hscan : s.endScan 0 = s.abortScan 2 := by
    have hon : s.scanOn 0 = some 2 := by rw [State.scanOn, h.eyes]; rfl
    rw [State.endScan, hon]
  have hlane : ∀ n ∈ lanesOf 0, ¬ strayPlace (Reg.lanLaneStatusOff n) := fun n hn hp => by
    have hlt := lane_lt_of_mem (by decide) hn
    simp only [strayPlace, Reg.lanEyePointOff, Reg.lanLaneStatusOff] at hp
    omega
  have hstatus : ¬ strayPlace (Reg.lanPortStatusOff 0) := by
    simp [strayPlace, Reg.lanEyePointOff, Reg.lanPortStatusOff]
  obtain ⟨a, ha⟩ : ∃ a, a = s.unlink 0 := ⟨_, rfl⟩
  have hunlink : Keeps strayPlace (s.abortScan 2) a := by
    have hone : a = (((s.endScan 0).setFld (Reg.lanLaneStatusState 0) 0).setFlag (Reg.lanLaneStatusMarkerLock 0) false).setReg
        (Reg.lanPortStatusOff 0) 0 := by
      rw [ha, State.unlink, h.good]
      rfl
    rw [hone, hscan]
    have h0 : 0 ∈ lanesOf 0 := by decide
    exact ((keeps_setFld _ _ (hlane 0 h0)).trans (keeps_setFlag _ _ (hlane 0 h0))).trans (keeps_setReg _ _ hstatus)
  obtain ⟨b, hb⟩ : ∃ b, b = (a.headerFound 0).setReg (Reg.lanPortDiscOff 0) 0 := ⟨_, rfl⟩
  obtain ⟨c, hc⟩ : ∃ c, c = ((b.setPort 0 { left := (s.port 0).left }).dropCredits 0).setPortState 0 0 0 := ⟨_, rfl⟩
  have hab : Keeps strayPlace a b := by
    rw [hb]
    exact ((keeps_headerFound a 0).mono fun _ hp => hp.2.1).trans (keeps_setReg _ _ fun hp => hp.2.2.1 rfl)
  have hbc : Keeps strayPlace b c := by
    rw [hc]
    exact ((keeps_setPort b 0 _).trans (keeps_dropCredits _ 0)).trans ((keeps_setPortState _ 0 0 0).mono fun _ hp => hp.2.2)
  have he : s.rediscover 0 = if c.linkAllowed 0 then c.startTraining 0 else c := by
    rw [hc, hb, ha]
    rfl
  refine (hunlink.trans (hab.trans hbc)).trans ?_
  rw [he]
  split_ifs
  · exact (keeps_startTraining c 0).mono fun off hp n hn e => hlane n hn (e ▸ hp)
  · exact .refl _ c

/-- What is read of the stray scan's points after discovery again of port 0. -/
theorem StrayScan.fld_lt (h : StrayScan s) {g : Fld} {i : Nat} (hi : i < 4096) (hoff : g.off = Reg.lanEyePointOff 2 i) (hlo : g.lo = 0)
    (hplace : strayPlace g.off) : (s.rediscover 0).fld g < 2 := by
  rw [h.keeps_rediscover.fld hplace]
  exact State.fld_lt_two _ (f := Reg.lanEyePointErrors 2 i) hoff ⟨rfl, rfl⟩ hlo (h.point_lt hi)

end

/-! ### What a scan's end rests on -/

/-- Registers of the lanes of port 0 and of the ports, and the module's licences, identity and slot. -/
def strayRegs : List Nat :=
  (List.range 12).map Reg.lanLaneStatusOff ++ (List.range 16).map Reg.lanPortDiscOff
    ++ [Reg.glbLicencesBase.off, Reg.glbModuleIdId.off, Reg.glbSlotSlotId.off]

/-- From `s` to `t` those registers, the scans and the clock are kept. -/
structure SameStray (s t : State) : Prop where
  regs : ∀ off ∈ strayRegs, t.reg off = s.reg off
  eyes : t.eyes = s.eyes
  clk : t.clk = s.clk

section
variable {s t u : State}

theorem SameStray.trans (h : SameStray s t) (h' : SameStray t u) : SameStray s u :=
  ⟨fun off ho => (h'.regs off ho).trans (h.regs off ho), h'.eyes.trans h.eyes, h'.clk.trans h.clk⟩

theorem SameStray.fld (h : SameStray s t) {f : Fld} (hf : f.off ∈ strayRegs) : t.fld f = s.fld f := by
  rw [State.fld, h.regs _ hf, State.fld]

theorem SameStray.portState (h : SameStray s t) {d : Nat} (hd : d < 16) : t.portState d = s.portState d :=
  h.fld (f := Reg.lanPortDiscState d) (List.mem_append_left _ (List.mem_append_right _ (List.mem_map_of_mem (List.mem_range.2 hd))))

theorem sameStray_of_regsBut {os : List Nat} (h : RegsBut s t os) (hd : ∀ off ∈ strayRegs, off ∉ os) (heyes : t.eyes = s.eyes)
    (hclk : t.clk = s.clk) : SameStray s t :=
  ⟨fun off ho => h off (hd off ho), heyes, hclk⟩

theorem StrayScan.of_sameStray (hs : StrayScan s) (h : SameStray s t) : StrayScan t := by
  refine ⟨h.eyes.trans hs.eyes, h.clk ▸ hs.done, ?_⟩
  rw [← hs.good]
  refine State.goodLanes_congr fun n hn => h.fld (f := Reg.lanLaneStatusState n) ?_
  have hlt : n < 12 := by
    have := (mem_lanesOf.1 hn).2
    simpa [firstLane, laneCount] using this
  exact List.mem_append_left _ (List.mem_append_left _ (List.mem_map_of_mem (List.mem_range.2 hlt)))

end

end Sys2Proof.Machine
end

section
/-! LAN_DISCOVER and a stray scan: the refutation of the installer's controls of ports (R221, R251). -/

namespace Sys2Proof.Machine

/-- A module that is up, with an installer's session, and a scan of lane 0, long done, kept under the number 2. -/
def strayBase : State :=
  { ([(Reg.hstSessionStateState 0, 2), (Reg.hstSessionStatePort 0, 8), (Reg.hstSessionStateRole 0, 1), (Reg.lanLaneStatusState 0, 2)].foldl
      (fun s x => s.setFld x.1 x.2) { State.reset with phase := .up }) with eyes := [(2, ⟨0, 0, 0, 0⟩)], clk := 2 ^ 20 }

/-- Port 0 in quarantine, port 1 UNUSED. -/
def strayDiscover : State :=
  [(Reg.lanPortDiscState 0, 4), (Reg.lanPortDiscState 1, 7)].foldl (fun s x => s.setFld x.1 x.2) strayBase

theorem strayScan_discover : StrayScan strayDiscover :=
  ⟨by decide +kernel, by decide +kernel, by decide +kernel⟩

theorem SameStray.arbGrant (s : State) : SameStray s s.arbGrant := by
  obtain ⟨r, hr⟩ := onlyRegs_arbGrant s
  exact sameStray_of_regsBut (regsBut_arbGrant s) (by decide) (by rw [hr]) (by rw [hr])

theorem SameStray.audited {s u : State} (h : AuditedTo s u) (ho : OnlyAudit s u) : SameStray s u := by
  obtain ⟨r, a, q, rfl⟩ := ho
  exact sameStray_of_regsBut h.regs (by decide) rfl rfl

/-- Discovery again of port 0 alone. -/
theorem doDiscover_zero {s : State} (h : s.portState 0 = 4) : State.doDiscover (2 ^ 31 + 1 % 65536) s = (s.rediscover 0, .ok) := by
  have hmask : (List.range 16).filter (bit (2 ^ 31 + 1 % 65536)) = [0] := by decide
  have hone : s.each [0] (fun t d => if t.portState d = 4 ∨ t.portState d = 5 then t.rediscover d else t) = s.rediscover 0 :=
    if_pos (.inl h)
  rw [State.doDiscover, if_pos (by decide), hmask, hone]

/-- Discovery again of port 0 alone, asked for by an installer, leaves port 1 in state 0 or 1: a point of the stray scan lies there. -/
theorem lanDiscover_stray {r : Requester} {s t : State} (hp : s.powered = true) (hinst : s.arbGrant.installs r 0 = true)
    (hs : StrayScan s) (hstate : s.portState 0 = 4) (he : exec (.lanDiscover r 1) s = .next t) : t.portState 1 < 2 := by
  have hg := SameStray.arbGrant s
  have hstate' : s.arbGrant.portState 0 = 4 := (hg.portState (by decide)).trans hstate
  obtain ⟨u, hu, ho, haccess⟩ := s.arbGrant.access_audited hinst Reg.lanDiscoverOff (2 ^ 31 + 1 % 65536)
    (State.doDiscover (2 ^ 31 + 1 % 65536)) (by rw [doDiscover_zero hstate'])
  have hsu := hg.trans (SameStray.audited hu ho)
  have hdone : t = State.latch s ((u.rediscover 0).answer r Reg.lanDiscoverOff (2 ^ 31 + 1 % 65536) .ok) := by
    have hexec : exec (.lanDiscover r 1) s = execLanDiscover r 1 s := rfl
    rw [hexec, execLanDiscover, s.granted_powered _ hp] at he
    dsimp only at he
    rw [State.isInst_of_installs hinst, haccess, doDiscover_zero ((hsu.portState (by decide)).trans hstate)] at he
    exact (Host.Outcome.next.inj he).symm
  rw [State.portState, hdone, State.latch_fld, State.answer_fld]
  exact (hs.of_sameStray hsu).fld_lt (i := 3137) (by decide) rfl rfl (by decide)

/-- Refutes O34: a scan kept under the number 2 has its points in the registers from 0xdc000, LAN_PORT_1_DISC among them, so its end,
at a discovery of port 0, writes another port's state. -/
theorem not_laneAndPortControls : ¬ Obligations.LaneAndPortControls := by
  unfold Obligations.LaneAndPortControls
  rintro ⟨-, hports, -⟩
  have hp : strayDiscover.powered = true := by decide +kernel
  have hinst : strayDiscover.arbGrant.installs (.session 0) 0 = true := by decide +kernel
  have hstate : strayDiscover.portState 0 = 4 := by decide +kernel
  have hunused : strayDiscover.portState 1 = 7 := by decide +kernel
  have hquarantine := (SameStray.arbGrant strayDiscover).portState (d := 0) (by decide)
  obtain ⟨hdiscover, -⟩ := hports (.session 0) 0 strayDiscover _ hp rfl (by decide)
  obtain ⟨t, he, -, -, hothers, -⟩ := hdiscover 1 hinst (by decide) (by decide) (.inl (hquarantine.trans hstate))
  have hkept : t.portState 1 = 7 := (hothers 1 (by decide) (by decide)).trans hunused
  have hlt := lanDiscover_stray hp hinst strayScan_discover hstate he
  omega

end Sys2Proof.Machine
end

section
/-! PLAN_LOAD and a stray scan: the refutation of the installer's commands (R216, R251). -/

namespace Sys2Proof.Machine

/-- Port 0 OFF, every other port UP, with a licence and an identity in effect. -/
def strayPlan : State :=
  ((strayBase.each (List.range 15) fun t d => t.setFld (Reg.lanPortDiscState (d + 1)) 2).setFlag Reg.glbLicencesBase true).setFlag
    Reg.glbModuleIdValid true

/-- A plan of the same module ID, in which port 1 has no neighbour. -/
def straysPlan : Plan := { rack := 0, slot := 0, none := 2, root := 1, backup := 2 }

theorem strayScan_plan : StrayScan strayPlan := ⟨by decide +kernel, by decide +kernel, by decide +kernel⟩

section
variable (s : State)

/-- An installer's record takes effect once its audit entry stands. -/
theorem State.recordLoad_installs {r : Requester} {n : Nat} (h : s.installs r n = true) (off : Nat) (act : State → State × Status)
    (hact : (act s).2 = .ok) :
    ∃ u, AuditedTo s.fresh u ∧ OnlyAudit s.fresh u ∧ s.recordLoad r off act = (act u).1.answer r off 0 .ok := by
  simp only [State.installs, Bool.and_eq_true, Bool.not_eq_true'] at h
  obtain ⟨⟨⟨hinst, -⟩, hbad⟩, hroom⟩ := h
  obtain ⟨i, rfl, -, hsome⟩ := State.session_of_isInst s hinst
  obtain ⟨v, hv⟩ : ∃ v, v = Config.freeValue s.free := ⟨_, rfl⟩
  obtain ⟨u, hu⟩ : ∃ u, u = s.fresh.auditAppend (v % 2 ^ 16) (s.fresh.auditRole i) (stCode .ok) (s.fresh.sess i).key i
      (natLe 8 (v / 2 ^ 16)) := ⟨_, rfl⟩
  have hroom' : s.fresh.room 2 = true := by
    rw [State.room_of_evq s.fresh_evq]
    exact s.room_mono (by omega) hroom
  have haudit : s.fresh.auditAct i (v % 2 ^ 16) .ok (natLe 8 (v / 2 ^ 16)) = (u, .ok) := by
    rw [State.auditAct_ok _ i _ .ok _ (s.fresh_auditBad.trans hbad), hu]
  refine ⟨u, hu ▸ auditedTo_auditAppend s.fresh _ _ _ _ i _, hu ▸ onlyAudit_auditAppend _ _ _ _ _ _ hroom', ?_⟩
  have hload : s.recordLoad (.session i) off act
      = if (s.fresh.auditAct i (v % 2 ^ 16) .ok (natLe 8 (v / 2 ^ 16))).2 = .ok
        then (act (s.fresh.auditAct i (v % 2 ^ 16) .ok (natLe 8 (v / 2 ^ 16))).1).1.answer (.session i) off 0 .ok
        else (s.fresh.auditAct i (v % 2 ^ 16) .ok (natLe 8 (v / 2 ^ 16))).1.answer (.session i) off 0
          (s.fresh.auditAct i (v % 2 ^ 16) .ok (natLe 8 (v / 2 ^ 16))).2 := by
    rw [State.recordLoad, hinst, if_pos rfl, hact, hsome, ← hv]
    rfl
  rw [hload, haudit]
  exact if_pos rfl

/-- A plan put in force, before discovery again. -/
def State.planned (s : State) (p : Plan) : State :=
  (((s.nvmPut (.plan p)).planRegs p).extendM7).setFlag Reg.lanDiscStatusStaged false

theorem sameStray_nvmPut (d : RecData) : SameStray s (s.nvmPut d) := by
  obtain ⟨r, hr⟩ := s.nvmPut_eq d
  exact sameStray_of_regsBut (regsBut_nvmPut s d _ List.mem_cons_self) (os := [Reg.ctlNvmQueueOff]) (by decide) (by rw [hr]) (by rw [hr])

theorem sameStray_setFld (f : Fld) (v : Nat) (h : f.off ∉ strayRegs) : SameStray s (s.setFld f v) :=
  sameStray_of_regsBut (regsBut_setFld s f v [f.off] List.mem_cons_self) (fun _ ho hm => h (List.mem_singleton.1 hm ▸ ho))
    (s.setFld_eyes f v) (s.setFld_clk f v)

/-- A plan put in force leaves what the end of a scan rests on. -/
theorem sameStray_planned (p : Plan) : SameStray s (s.planned p) := by
  obtain ⟨a, ha⟩ : ∃ a, a = s.nvmPut (.plan p) := ⟨_, rfl⟩
  obtain ⟨b, hb⟩ : ∃ b, b = a.planRegs p := ⟨_, rfl⟩
  obtain ⟨c, hc⟩ : ∃ c, c = b.extend 7 b.openDigest := ⟨_, rfl⟩
  have hsa : SameStray s a := ha ▸ sameStray_nvmPut s _
  have hab : SameStray a b := by
    rw [hb]
    exact (((sameStray_setFld a Reg.lanPlanIdRack _ (by decide)).trans (sameStray_setFld _ Reg.lanPlanIdNone _ (by decide))).trans
      (sameStray_setFld _ Reg.lanPlanRootsBackupRoot _ (by decide))).trans (sameStray_setFld _ Reg.lanPlanRootsRoot _ (by decide))
  have hbc : SameStray b c := by
    have honly : OnlyRegs b c := by
      rw [hc, State.extend]
      exact onlyRegs_each b _ _ fun t _ => onlyRegs_setFld t _ _
    obtain ⟨r, hr⟩ := honly
    exact sameStray_of_regsBut (hc ▸ regsBut_extend b 7 _ _ (List.Subset.refl _)) (by decide) (by rw [hr]) (by rw [hr])
  have hcd : SameStray c c.fresh := ⟨fun _ _ => rfl, rfl, rfl⟩
  have he : s.planned p = c.fresh.setFlag Reg.lanDiscStatusStaged false := by
    rw [hc, hb, ha]
    rfl
  rw [he]
  exact (((hsa.trans hab).trans hbc).trans hcd).trans (sameStray_setFld _ Reg.lanDiscStatusStaged _ (by decide))

/-- A well-formed plan for this slot that gives the module ID a running module has (R216). -/
structure State.Takes (s : State) (p : Plan) : Prop where
  phase : s.phase = .up
  roots : p.root ≠ p.backup
  rack : p.rack < 1024
  slot : p.slot < 64
  none : p.none < 65536
  root : p.root < 65536
  backup : p.backup < 65536
  fits : p.slot = s.fld Reg.glbSlotSlotId
  identity : s.provisional = false ∧ planId p = s.myId

section
variable {s} {t : State} {p : Plan}

theorem State.Takes.of_sameStray (h : s.Takes p) (hst : SameStray s t) (hphase : t.phase = s.phase) : t.Takes p := by
  refine ⟨hphase.trans h.phase, h.roots, h.rack, h.slot, h.none, h.root, h.backup, h.fits.trans (hst.fld (by decide)).symm, ?_,
    h.identity.2.trans (hst.fld (f := Reg.glbModuleIdId) (by decide)).symm⟩
  rw [State.provisional, State.flag, hst.fld (f := Reg.glbModuleIdValid) (by decide), ← State.flag, ← State.provisional, h.identity.1]

theorem State.Takes.doPlan_eq (h : s.Takes p) : State.doPlan p s = ((s.planned p).replan, .ok) := by
  have hput : (s.nvmPut (.plan p)).Takes p := by
    obtain ⟨r, hr⟩ := s.nvmPut_eq (.plan p)
    exact h.of_sameStray (sameStray_nvmPut s _) (by rw [hr])
  have hstarting : s.starting = false := by
    rw [State.starting, h.phase]
    rfl
  obtain ⟨-, hroots, hrack, hslot, hnone, hroot, hbackup, hfits, -⟩ := h
  obtain ⟨hprov, hid⟩ := hput.identity
  rw [State.doPlan, hstarting, if_neg (by decide), if_neg (by omega), if_neg (by simp [hfits])]
  dsimp only
  rw [if_pos ⟨by simp [hprov], hid⟩]
  rfl

end

/-- A licensed module whose port 0 is OFF and alone not UP. -/
structure OffZero (s : State) : Prop where
  ports : (List.range 16).filter (fun d => s.portState d != 2) = [0]
  base : s.base = true
  state : s.portState 0 = 0

theorem OffZero.of_sameStray {s t : State} (h : OffZero s) (hst : SameStray s t) : OffZero t := by
  refine ⟨?_, ?_, (hst.portState (by decide)).trans h.state⟩
  · rw [← h.ports]
    exact List.filter_congr fun d hd => by rw [hst.portState (List.mem_range.1 hd)]
  · rw [State.base, State.flag, hst.fld (f := Reg.glbLicencesBase) (by decide), ← State.flag, ← State.base, h.base]

/-- Discovery again, of port 0 alone, is discovery of port 0 and of the root. -/
theorem OffZero.replan_eq {s : State} (h : OffZero s) : s.replan
      = ((s.rediscover 0).when (bit (s.fld Reg.lanPlanIdNone) 0) fun t => t.setPortState 0 7 0).newRoot := by
  have hone : s.each [0] State.replanPort = s.replanPort 0 := rfl
  rw [State.replan, h.ports, hone, State.replanPort, h.base, h.state, if_neg (by decide), if_neg (by omega)]

/-- A stray scan that a plan ends leaves 0 or 1 where the plan's ports without a neighbour stood. -/
theorem StrayScan.planNone_lt {s : State} (h : StrayScan s) (hoff : OffZero s) : s.replan.fld Reg.lanPlanIdNone < 2 := by
  have hlt : (s.rediscover 0).fld Reg.lanPlanIdNone < 2 := h.fld_lt (i := 3073) (by decide) rfl rfl (by decide)
  have hport : Keeps (besidePortState 0) (s.rediscover 0) ((s.rediscover 0).when (bit (s.fld Reg.lanPlanIdNone) 0) fun t =>
      t.setPortState 0 7 0) :=
    keeps_when _ _ _ (keeps_setPortState _ 0 7 0)
  rw [hoff.replan_eq, (besideParent_newRoot _).keeps.fld (f := Reg.lanPlanIdNone) ⟨by decide, by decide⟩,
    hport.fld (f := Reg.lanPlanIdNone) ⟨by decide, by decide⟩]
  exact hlt

end

/-- A plan of the same module ID, loaded by an installer while only port 0 is not UP, does not stand in LAN_PLAN_ID. -/
theorem planLoad_stray {r : Requester} {p : Plan} {s t : State} (hp : s.powered = true) (hinst : s.arbGrant.installs r 1 = true)
    (hs : StrayScan s) (htakes : s.Takes p) (hoff : OffZero s) (he : exec (.planLoad r p) s = .next t) :
    t.fld Reg.lanPlanIdNone < 2 := by
  have hg := SameStray.arbGrant s
  have hgphase : s.arbGrant.phase = s.phase := by
    obtain ⟨r, hr⟩ := onlyRegs_arbGrant s
    rw [hr]
  obtain ⟨u, hu, ho, hload⟩ := s.arbGrant.recordLoad_installs hinst Reg.lanPlanIdOff (State.doPlan p)
    (by rw [(htakes.of_sameStray hg hgphase).doPlan_eq])
  have hfresh : SameStray s.arbGrant s.arbGrant.fresh := ⟨fun _ _ => rfl, rfl, rfl⟩
  have hsu := (hg.trans hfresh).trans (SameStray.audited hu ho)
  have huphase : u.phase = s.phase := by
    obtain ⟨r, a, q, hr⟩ := ho
    rw [hr]
    exact hgphase
  have hsy := hsu.trans (sameStray_planned u p)
  have hdone : t = State.latch s ((u.planned p).replan.answer r Reg.lanPlanIdOff 0 .ok) := by
    have hexec : exec (.planLoad r p) s = execPlanLoad r p s := rfl
    rw [hexec, execPlanLoad, s.granted_powered _ hp, hload, (htakes.of_sameStray hsu huphase).doPlan_eq] at he
    exact (Host.Outcome.next.inj he).symm
  rw [hdone, State.latch_fld, State.answer_fld]
  exact (hs.of_sameStray hsy).planNone_lt (hoff.of_sameStray hsy)

theorem strayPlan_takes : strayPlan.Takes straysPlan where
  phase := by decide +kernel
  roots := by decide
  rack := by decide
  slot := by decide
  none := by decide
  root := by decide
  backup := by decide
  fits := by decide +kernel
  identity := by decide +kernel

theorem offZero_plan : OffZero strayPlan := ⟨by decide +kernel, by decide +kernel, by decide +kernel⟩

/-- Refutes O54: a scan kept under the number 2 has its points in the registers from 0xdc000, LAN_PLAN_ID among them, so its end, at
the discovery that a plan begins, writes over the plan. -/
theorem not_installerCommands : ¬ Obligations.InstallerCommands := by
  unfold Obligations.InstallerCommands
  intro h
  have hp : strayPlan.powered = true := by decide +kernel
  have hinst : strayPlan.arbGrant.installs (.session 0) 1 = true := by decide +kernel
  have htakes := strayPlan_takes
  obtain ⟨hplan, -⟩ := h (.session 0) strayPlan _ hp rfl hinst
  obtain ⟨-, hsame⟩ := hplan straysPlan htakes.phase htakes.roots htakes.rack htakes.slot htakes.none htakes.root htakes.backup htakes.fits
  obtain ⟨t, he, -, -, hnone, -⟩ := hsame htakes.identity.1 htakes.identity.2
  have hlt := planLoad_stray hp hinst strayScan_plan htakes offZero_plan he
  rw [hnone] at hlt
  exact absurd hlt (by decide)

end Sys2Proof.Machine
end
